-- ==== Sys2Proof/Word.lean ====
section
/-!
DEFINITION. Word.lean: the plain number types of the model. A Turn number, an index, a length and a count are natural
numbers (the spec adds and compares them and never lets them wrap except where a rule says so); a byte is eight bits.
-/

namespace Sys2Proof

/-- A byte of a buffer, a descriptor or a register. -/
abbrev Byte := BitVec 8

/-- A 32-bit register word. -/
abbrev Word := BitVec 32

/-- The Turn counter has 48 bits (R49): the number of Turns after which it wraps. -/
def turnModulus : Nat := 2 ^ 48

end Sys2Proof
end

