-- ==== Sys2Proof/Image.lean ====
section
/-!
DEFINITION. Image.lean: the configuration image (R78 to R87 and the section fields of each chapter) as plain data. The spec
gives the bytes of the header, the trailer, the section headers and the firmware package header; it gives the fields of a
section's value but no byte encoding of them, so a value is the record of its fields (notes/assumptions/5.md).
-/

namespace Sys2Proof

/-- The image header of R78, one field per row of its table (`resv…` are the bytes that must be 0). -/
structure ImgHeader where
  magic : Nat
  format : Nat
  hdrLen : Nat
  imageLen : Nat
  sectionCount : Nat
  flags : Nat
  sequence : Nat
  variant : Nat
  stepping : Nat
  boxusVer : Nat
  resv1C : Nat
  buildTime : Nat
  ownerSlot : Nat
  resv29 : Nat
  ownerPub : Nat
  resv69 : Nat
  deriving DecidableEq, Repr

/-- The image trailer of R79. -/
structure ImgTrailer where
  magic : Nat
  resv04 : Nat
  digest : Nat
  signature : Nat
  resvBA : Nat
  deriving DecidableEq, Repr

/-- The firmware package header of R87 and its code, as one number. -/
structure FwPackage where
  magic : Nat
  format : Nat
  svn : Nat
  resv07 : Nat
  codeLen : Nat
  codeDigest : Nat
  fwPub : Nat
  resv85 : Nat
  signature : Nat
  resvFA : Nat
  code : Nat
  deriving DecidableEq, Repr

/-- PLATFORM fields (R85): rate in MT/s, direction, staging hold in Turns, gather cache in GiB. -/
structure SecPlatform where
  dramMinRate : Nat
  priorityDir : Nat
  stagingHold : Nat
  gatherCache : Nat
  deriving DecidableEq, Repr

/-- TIMEBASE fields (R85). -/
structure SecTimebase where
  epoch : Nat
  ptpPort : Nat
  ptpSub : Nat
  acqTimeout : Nat
  ptpDomain : Nat
  deriving DecidableEq, Repr

/-- SERVICE_EP: the capability table of R603 (BAR2_SIZE in bytes, MPS in bytes). -/
structure SecServiceEp where
  subsysVendor : Nat
  subsysId : Nat
  classCode : Nat
  bar2Size : Nat
  maxSpeed : Nat
  maxWidth : Nat
  mps : Nat
  dsnEn : Nat
  deriving DecidableEq, Repr

/-- One network port of the NETWORK section (R85, R133). Addresses of sub-ports a and b. -/
structure PortCfg where
  en : Bool
  split : Bool
  media : Nat
  anMode : Nat
  rxPol : Nat
  txPol : Nat
  tsAdjRx : Int
  tsAdjTx : Int
  macA : Nat
  macB : Nat
  ipv4A : Nat
  ipv4B : Nat
  ipv6A : Nat
  ipv6B : Nat
  deriving DecidableEq, Repr

/-- NETWORK fields (R85, R133); `pathMtu` in bytes. -/
structure SecNetwork where
  ports : List PortCfg
  pathMtu : Nat
  dscpData : Nat
  dscpCnp : Nat
  dscpPtp : Nat
  fecDegrade : Nat
  deriving DecidableEq, Repr

/-- TRANSPORT fields (R85, R160, R200). Windows in bytes, RTT in µs. -/
structure SecTransport where
  qpPerHost : Nat
  cwndMin : Nat
  cwndMax : Nat
  lxOptions : Nat
  ackTimeout : Nat
  retryCnt : Nat
  rnrRetry : Nat
  cwndInit : Nat
  aiBytes : Nat
  rttTarget : Nat
  pinQp : Nat
  trigMax : Nat
  winPerHost : Nat
  winMaxLen : Nat
  deriving DecidableEq, Repr

/-- Per-tenant scheduler caps (R247). -/
structure TenantCap where
  tenant : Nat
  egCap : Nat
  inCap : Nat
  defNode : Nat
  defBurst : Nat
  deriving DecidableEq, Repr

/-- SCHEDULER fields (R247). A node or port entry is its eight data words (R244), a gate list its entries (R232). -/
structure SecScheduler where
  caps : List TenantCap
  nodes : List (Nat × List Nat)
  ports : List (Nat × List Nat)
  gcl : List (Nat × List Nat)
  dscpMap : List (Nat × Nat)
  deriving DecidableEq, Repr

/-- One pool of the POOLS section (R85, R291, R292). -/
structure PoolCfg where
  cls : Nat
  role : Nat
  count : Nat
  amber : Nat
  red : Nat
  black : Nat
  deriving DecidableEq, Repr

/-- CACHE fields (R85, R324): eight way masks, eight rebuild masks. -/
structure SecCache where
  wayMask : List Nat
  rebuildMask : List Nat
  salRate : Nat
  pinLimit : Nat
  deriving DecidableEq, Repr

/-- COMPRESSION fields (R85, R357). -/
structure SecCompression where
  noGain : Nat
  tables : Nat
  outClass : Nat
  nsTables : List (Nat × Nat)
  deriving DecidableEq, Repr

/-- One member of the LAYOUT section (R85, R403). -/
structure MemberCfg where
  slot : Nat
  group : Nat
  position : Nat
  powerSet : Nat
  deriving DecidableEq, Repr

/-- One native group of the LAYOUT section. -/
structure GroupCfg where
  group : Nat
  kMin : Nat
  kMax : Nat
  width : Nat
  append : Nat
  deriving DecidableEq, Repr

/-- LAYOUT fields (R85, R403): holds in Turns, READY_TIMEOUT in s, IDLE_OFF in min. -/
structure SecLayout where
  members : List MemberCfg
  groups : List GroupCfg
  anchors : List Nat
  gatherHold : Nat
  closeHold : Nat
  readyTimeout : Nat
  idleOff : Nat
  reservePct : Nat
  compactPct : Nat
  metadataGib : Nat
  deriving DecidableEq, Repr

/-- JOURNAL fields (R85, R452): cap in GB/s, LIVE_CAP in MiB, STANDBY_ANCHOR 31 for none. -/
structure SecJournal where
  anchorCap : Nat
  liveCap : Nat
  standbyAnchor : Nat
  deriving DecidableEq, Repr

/-- REBUILD fields (R85, R500): rates in units of 0.25 GB/s, the window in minutes. -/
structure SecRebuild where
  resyncWindow : Nat
  rbFloor : Nat
  rbCeil : Nat
  rsFloor : Nat
  rsCeil : Nat
  scCeil : Nat
  deriving DecidableEq, Repr

/-- DRIVES fields (R85, R516): CMD_TIMEOUT in units of 0.5 s. -/
structure SecDrives where
  cmdTimeout : Nat
  linkMin : Nat
  formatNew : Nat
  deriving DecidableEq, Repr

/-- POWER fields (R85, R537): ms, 0.125 A, A, ms, 0.1 V, 0.1 mΩ, 0.01 mΩ, 0.1 s, s as the fields' steps. -/
structure SecPower where
  insertDelay : Nat
  ilimSlot : Nat
  ilimFeed : Nat
  faultTimer : Nat
  uv : Nat
  ov : Nat
  warn : Nat
  shuntSlot : Nat
  shuntFeed : Nat
  feedPri : Nat
  returnHold : Nat
  brownoutHold : Nat
  stagger : Nat
  retryDelay : Nat
  maxRetry : Nat
  deriving DecidableEq, Repr

/-- One WITNESS entry of the FAILOVER section (R570). -/
structure WitnessCfg where
  kind : Nat
  addr : Nat
  mac : Nat
  subPort : Nat
  pub : Nat
  shelfId : Nat
  canister : Nat
  deriving DecidableEq, Repr

/-- One REPLICA entry of the FAILOVER section (R570). -/
structure ReplicaCfg where
  nsid : Nat
  peerShelf : Nat
  peerNsid : Nat
  mode : Nat
  deriving DecidableEq, Repr

/-- One PEERS entry of the FAILOVER section (R570): per canister an address, next-hop MAC and sub-port. -/
structure PeerCfg where
  shelfId : Nat
  addrs : List (Nat × Nat × Nat)
  deriving DecidableEq, Repr

/-- FAILOVER fields (R85, R570). WITNESS_FOR: shelf, ID_PUB of canister A and of canister B. -/
structure SecFailover where
  shelfId : Nat
  witnesses : List WitnessCfg
  witnessFor : List (Nat × Nat × Nat)
  peers : List PeerCfg
  replicas : List ReplicaCfg
  deriving DecidableEq, Repr

/-- EVENTS fields (R629): periods as log2 of Turns, routes that differ from the default, enabled overflow samples. -/
structure SecEvents where
  ringMin : Nat
  aenMin : Nat
  routes : List (Nat × Nat)
  snapPeriodLog : Nat
  bwWindowLog : Nat
  ovfEn : List Nat
  deriving DecidableEq, Repr

/-- TENANT fields (R85, R386). An NQN is named by a number. -/
structure SecTenant where
  tenantId : Nat
  keyQuota : Nat
  hostNqns : List Nat
  fallback : Nat
  deriving DecidableEq, Repr

/-- NAMESPACE fields (R85). -/
structure SecNamespace where
  nsid : Nat
  tenant : Nat
  nsType : Nat
  lbaSize : Nat
  maxCap : Nat
  deriving DecidableEq, Repr

/-- TALLY fields (R446): members as (slot, serial number) in Sloun position order. -/
structure SecTally where
  group : Nat
  nsid : Nat
  members : List (Nat × Nat)
  width : Nat
  baseLba : Nat
  rows : Nat
  deriving DecidableEq, Repr

/-- The value of a section (R84). -/
inductive SecValue where
  | firmware (f : FwPackage)
  | platform (p : SecPlatform)
  | timebase (t : SecTimebase)
  | serviceEp (e : SecServiceEp)
  | network (n : SecNetwork)
  | transport (t : SecTransport)
  | scheduler (c : SecScheduler)
  | pools (ps : List PoolCfg)
  | cache (c : SecCache)
  | compression (c : SecCompression)
  | layout (l : SecLayout)
  | journal (j : SecJournal)
  | rebuild (r : SecRebuild)
  | drives (d : SecDrives)
  | power (p : SecPower)
  | failover (f : SecFailover)
  | events (e : SecEvents)
  | roles (principals : List (Nat × Nat))
  | tenant (t : SecTenant)
  | namespaceSlot (n : SecNamespace)
  | tally (t : SecTally)
  | unknown (v : Nat)
  deriving DecidableEq, Repr

/-- A section: its eight-byte header, the padding bytes after its value, and the value (R81). -/
structure ImgSection where
  type : Nat
  flags : Nat
  resv3 : Nat
  length : Nat
  padding : List Byte
  value : SecValue
  deriving DecidableEq, Repr

/-- An image copy: header, sections, trailer. -/
structure Image where
  header : ImgHeader
  sections : List ImgSection
  trailer : ImgTrailer
  deriving DecidableEq, Repr

end Sys2Proof
end

