-- ==== Sys2Proof/Syntax.lean ====
section
/-!
DEFINITION. Syntax.lean: the commands of the block, one constructor per row of spec/opcode_table.json, and the records that
their operands are made of. An operand carries what the outside world (a frame, a capsule, a drive, a pin) shows at that
command; everything that the part itself computes or remembers is in the machine's state.
-/

namespace Sys2Proof

/-- The three writers of a register (R652): service endpoint, control core, management session. -/
inductive Writer where
  | endpoint | core | session
  deriving DecidableEq, Repr

/-- The boundary jobs of R61 that TRN_OVERRUN has a flag for (R69). -/
inductive Job where
  | schRefill | xptCwnd | fspThresh | layHold | cntSnap | bgCredit
  deriving DecidableEq, Repr

/-- One sample of a companion (R536): slot channel 0 to 23, feed A (24) or feed B (25); input and output voltage in mV, current
in the register's unit (1 mA, 10 mA for a feed), LIMITING and GATE_OK. -/
structure PowerSample where
  channel : Nat
  vin : Nat
  vout : Nat
  current : Nat
  limiting : Bool
  gateOk : Bool
  deriving DecidableEq, Repr

/-- What the outside of the command table shows of the Turn that ends at a boundary: jobs still running (R69), bytes
that each DRAM class moved (R36, R38), bytes per DRAM channel read and written (R639) the slot classes that the
pipelines counted (R637), the companions' samples of the Turn, oldest first (R536), and whether a host command waited on a member queue of
a group that rebuild, reshape or scrub serves (R499). -/
structure TurnObs where
  late : List Job
  dramIngest : Nat
  dramRestore : Nat
  dramBackground : Nat
  channels : List (Nat × Nat)
  slots : List Nat
  power : List PowerSample
  memberWait : Bool
  deriving DecidableEq, Repr

/-- A hardware timestamp's parts (R58): Turn, fabric cycle within the Turn, sixteenths of a cycle. -/
structure Stamp where
  turn : Nat
  cycle : Nat
  sixteenth : Nat
  deriving DecidableEq, Repr

/-- An Announce message (R149): the sender's port identity and its data set, in the order IEEE 1588 compares it. -/
structure Announce where
  port : Nat
  priority1 : Nat
  clockClass : Nat
  accuracy : Nat
  variance : Nat
  priority2 : Nat
  gmIdentity : Nat
  stepsRemoved : Nat
  deriving DecidableEq, Repr

/-- The double-banked tables of R62. -/
inductive BankId where
  | windows
  | handles
  | gates (port : Nat)
  | params
  | masks
  deriving DecidableEq, Repr

/-- What one DDR channel's training found (R34, R35): trained, module type, capacity in GiB, rate in MT/s. -/
structure ChannelTraining where
  trained : Bool
  moduleType : Nat
  gib : Nat
  rate : Nat
  deriving DecidableEq, Repr

/-- The three ways in which a tamper event is detected (R126). -/
inductive TamperCause where
  | pin | supplyGlitch | clockGlitch
  deriving DecidableEq, Repr

/-- The outside of a reset release (R88, R89, R76, R569): the sixteen FORCE_SAFE_N samples (true = low), the CAN_SEL
level, the fuse ECC result, the known-answer tests, the SFDP result and the headers' SPI reads. -/
structure ReleaseObs where
  forceLow : List Bool
  canSel : Bool
  fuseOk : Bool
  katOk : Bool
  vppFuse : Bool
  deriving DecidableEq, Repr

/-- The destination MAC of a received frame, as R144 reason 0x06 tells them apart. -/
inductive DmacKind where
  | own | broadcast | solicitedNode | ptpGroup | other
  deriving DecidableEq, Repr

/-- The destination IP of a received frame, as R144 reason 0x0B tells them apart. -/
inductive DipKind where
  | own | ptpGroup | solicitedNode | other
  deriving DecidableEq, Repr

/-- The layer above IP (R144 reason 0x0C). -/
inductive L4Kind where
  | neighbourSolicitation | neighbourAdvertisement | icmpOther
  | udp (port : Nat)
  deriving DecidableEq, Repr

/-- The RC opcodes of R155, the CM datagram of R156 and what R144 drops. -/
inductive BthKind where
  | rc | cnp | cmMad | other
  deriving DecidableEq, Repr

/-- A received frame, as the checks of R144 (and R152 on a peer lane) look at it. -/
structure Frame where
  length : Nat
  fecUncorr : Bool
  fcsOk : Bool
  dmac : DmacKind
  srcOk : Bool
  vlan : Bool
  etherType : Nat
  ipHdrOk : Bool
  ipPlain : Bool
  dip : DipKind
  l4 : L4Kind
  udpLenOk : Bool
  ptpVersion : Nat
  ptpDomain : Nat
  udpSumOk : Bool
  icrcOk : Bool
  tver : Nat
  bth : BthKind
  ndOk : Bool
  stamp : Stamp
  ptpEvent : Bool
  deriving DecidableEq, Repr

/-- Where a packet stands in its message. -/
inductive PktPos where
  | first | middle | last | only
  deriving DecidableEq, Repr

/-- A received RoCEv2 packet: sub-port, destination QPN, PSN, AckReq, ECN CE, DSCP, layer-1 frame length, IP length, and
whether it reached the fabric within the last four cycles of its Turn (R46). -/
structure Pkt where
  unit : Nat
  qpn : Nat
  psn : Nat
  ackReq : Bool
  ce : Bool
  dscp : Nat
  length : Nat
  ipLength : Nat
  lastCycles : Bool
  deriving DecidableEq, Repr

/-- The NAK codes a requester receives (R191, R194). -/
inductive NakCode where
  | psnSequence | invalidRequest | remoteAccess | remoteOperational
  deriving DecidableEq, Repr

/-- The address of a host as its address handle holds it (R142, R165). -/
structure HostAddr where
  mac : Nat
  ip : Nat
  unit : Nat
  deriving DecidableEq, Repr

/-- A CM REQ (R161 to R165, R596): the wanted service, the remote QPN and starting PSN, its MTU in bytes, responder
resources and initiator depth, the Lanxastra options requested (none without the magic and version), the tenant that the
connection's host belongs to, and whether the NVMe-oF request in its private data passes its checks. -/
structure CmReq where
  service : Nat
  remoteQpn : Nat
  psn : Nat
  mtu : Nat
  responderResources : Nat
  initiatorDepth : Nat
  options : Option Nat
  host : HostAddr
  tenant : Nat
  requestOk : Bool
  deriving DecidableEq, Repr

/-- A work request (R185), field by field. -/
structure Wqe where
  opcode : Nat
  flags : Nat
  trigQp : Nat
  threshold : Nat
  imm : Nat
  length : Nat
  window : Nat
  offset : Nat
  remoteVa : Nat
  remoteKey : Nat
  trigTimeout : Nat
  tag : Nat
  deriving DecidableEq, Repr

/-- A frame waiting for egress (R223, R224): its QP if it is shaped, its length and whether it is a control-lane frame. -/
structure EgressFrame where
  control : Bool
  qp : Nat
  length : Nat
  deriving DecidableEq, Repr

/-- A data pointer (R252): a keyed host descriptor, a window descriptor 0xF1 (R214), or another descriptor type. -/
inductive DataPtr where
  | keyed (va rkey length : Nat)
  | window (offset length rkey : Nat) (ok : Bool)
  | other
  deriving DecidableEq, Repr

/-- An I/O command's common fields: controller, command identifier, queue and the QP that carries it, NSID, and the LBA
range as first LBA and number of LBAs. -/
structure Io where
  ctrl : Nat
  cid : Nat
  qp : Nat
  nsid : Nat
  slba : Nat
  nlb : Nat
  deriving DecidableEq, Repr

/-- How a requester names a buffer it frees or shares (R296, R306): a pointer word, a bare index, or a byte address. -/
inductive BufRef where
  | pointer (word : Nat)
  | index (i : Nat)
  | address (a : Nat)
  deriving DecidableEq, Repr

/-- A key record (R387), field by field; `zeroes` are the bytes that must be 0, `value` its 48 value bytes. -/
structure KeyRecord where
  magic : Nat
  format : Nat
  alg : Nat
  ownerSlot : Nat
  zeroes : Nat
  keyId : Nat
  nsid : Nat
  value : Nat
  deriving DecidableEq, Repr

/-- What a member returns for its unit of one row: the bytes read (bytes past the end of the list are zero), whether the read
ended well, and the 4 KiB pages of the unit that it cannot read (R486). -/
structure UnitRead where
  ok : Bool
  bytes : List Byte
  badPages : List Nat
  deriving DecidableEq, Repr

/-- One row as its members return it, unit by position (R407); a position past the end of the list was not read. -/
structure RowRead where
  row : Nat
  units : List UnitRead
  deriving DecidableEq, Repr

/-- A version as a journal delta or the row scan of R477 gives it: extent, its map entry (R416) and the host's tag. -/
structure DeltaRead where
  nsid : Nat
  extent : Nat
  mapped : Bool
  group : Nat
  addr : Nat
  storedLen : Nat
  blockMask : Nat
  lostMask : Nat
  version : Nat
  turn : Nat
  hostTag : Nat
  deriving DecidableEq, Repr

/-- A non-PAD record as one ring holds it (R457): SEQ, type, group, width, stripe, START, data and deltas, and whether its magic,
epoch and HEAD_CRC pass, and its BODY_CRC. -/
structure RecordRead where
  seq : Nat
  type : Nat
  group : Nat
  k : Nat
  stripe : Nat
  start : Nat
  bytes : Nat
  data : List Byte
  deltas : List DeltaRead
  headOk : Bool
  bodyOk : Bool
  deriving DecidableEq, Repr

/-- A ring that replay reads (R475): its role, its header's RING_EPOCH and FIRST_SEQ (no valid copy: none), its records in ring
order from where replay starts on, and the ring offset just past the last valid entry (R589). -/
structure RingRead where
  role : Nat
  header : Option (Nat × Nat)
  records : List RecordRead
  endOff : Nat
  deriving DecidableEq, Repr

/-- A version that the row scan of R477 finds: what its header names, and whether header and blocks verify. -/
structure ScanRead where
  version : DeltaRead
  verified : Bool
  deriving DecidableEq, Repr

/-- A member label (R405): shelf ID, slot, group (15 spare), position, member generation, drive serial number, anchor role (3
none) and assignment generation. -/
structure Label where
  shelf : Nat
  slot : Nat
  group : Nat
  position : Nat
  gen : Nat
  serial : Nat
  role : Nat
  roleGen : Nat
  deriving DecidableEq, Repr

/-- What a drive shows at the end of a set-up command (R517 to R521), by step of R517. -/
inductive SetupResult where
  /-- step 1: CSTS.RDY is set -/
  | ready
  /-- step 2: CMIC bit 0, I/O queues offered, MQES, serial number, VWC, Dataset Management in ONCS, RTD3E in µs -/
  | controller (multiPort : Bool) (queues mqes serial : Nat) (vwc dsm : Bool) (rtd3e : Nat)
  /-- step 3: does namespace 1 exist, and its capacity in bytes -/
  | namespaceOne (present : Bool) (capacity : Nat)
  /-- step 4: the format in use is the native one, is the tally one; the drive lists the native format; the label read in the
  current format (`none`: the read failed or timed out, `some none`: no valid label) -/
  | format (native tally lists : Bool) (label : Option (Option Label))
  /-- step 5: the WCE that reads back -/
  | writeCache (wce : Bool)
  /-- step 6: were the 4 queue pairs created -/
  | queues (created : Bool)
  /-- step 7: the label (`none`: the read failed or timed out, `some none`: no valid label) -/
  | label (read : Option (Option Label))
  /-- a set-up command completed with an error status -/
  | failed
  deriving DecidableEq, Repr

/-- The kinds of member command that R528 and R529 tell apart. -/
inductive MemberCmd where
  | read | write | admin | setup
  deriving DecidableEq, Repr

/-- A Pawn message (R572), field by field. -/
structure PawnMsg where
  magic : Nat
  version : Nat
  type : Nat
  shelf : Nat
  canister : Nat
  reason : Nat
  flags : Nat
  waitMs : Nat
  reqSeq : Nat
  leaseId : Nat
  challenge : Nat
  deriving DecidableEq, Repr

/-- A connection that carries Pawn messages: to witness w of the image, or from a canister of a shelf that this Daxzin
witnesses. -/
inductive PawnConn where
  | witness (w : Nat)
  | client (shelf canister : Nat)
  deriving DecidableEq, Repr

/-- What PROOF appends (R571, R572): a rack service's signature, or a quote (its bytes, the nonce in them, its signature). -/
inductive PawnProof where
  | signature (sig : Nat)
  | quote (body : List Byte) (nonce sig : Nat)
  deriving DecidableEq, Repr

/-- HELLO (R579): order number, stepping, SHELF_ID, canister, TIMEBASE EPOCH, image SEQUENCE, FW_SVN and the owner-slot check of
R115 (per slot: status bits, digest, check value). -/
structure Hello where
  order : Nat
  stepping : Nat
  shelf : Nat
  canister : Nat
  epoch : Nat
  sequence : Nat
  svn : Nat
  owners : List (Nat × Nat × Nat)
  deriving DecidableEq, Repr

/-- HEARTBEAT (R579): state code, the flags of R572 with HOLDER (bit 4) and FIT (bit 5), Turns to cutoff, MAP_POS. -/
structure Heartbeat where
  state : Nat
  flags : Nat
  toCutoff : Nat
  mapPos : Nat
  deriving DecidableEq, Repr

/-- A batch trailer (R469): TAIL_SEQ, the tail's ring offset per role, head log addresses, BATCH. -/
structure Trailer where
  tailSeq : Nat
  offsets : List Nat
  heads : List Nat
  batch : Nat
  deriving DecidableEq, Repr

/-- A metadata-stream record that the mirror carries (R579, type 0x06). -/
inductive MdRecord where
  | key (r : KeyRecord)
  | keyGone (keyId : Nat)
  | currentKey (nsid keyId : Nat)
  | lost (index nsid lba count cause turn : Nat)
  | marker (host nsid index : Nat)
  | position (group position state gen slot serial : Nat)
  | anchor (role slot gen : Nat)
  | groupWidth (group k : Nat)
  | reshape (group oldK newK boundary : Nat)
  | setStates (states : List Nat)
  | namespaceRec (nsid type lbaSize size tenant : Nat)
  | replicaBit (nsid extent : Nat) (changed : Bool)
  | ivEpoch (epoch : Nat)
  | tallyLost (nsid lba count : Nat)
  deriving DecidableEq, Repr

/-- What the standby reports of a member (R526). -/
inductive Health where
  | critWarn (v : Nat)
  | cfs
  | portDown
  deriving DecidableEq, Repr

/-- The bits that the host's configuration writes hold: Bus Master Enable, MSI-X Enable, MSI-X function mask. -/
structure SepConfig where
  bme : Bool
  msixEn : Bool
  fmask : Bool
  deriving DecidableEq, Repr

/-- The containment causes of R616, in the order of their codes. -/
inductive ContainCause where
  | surpriseDown | poisoned | malformed | cplTimeout | internal
  deriving DecidableEq, Repr

/-- An entry of a Register Sequence (R660): OFFSET, OP, the bytes [7:5] that are 0, ARG. -/
structure SeqEntry where
  offset : Nat
  op : Nat
  zero : Nat
  arg : Nat
  deriving DecidableEq, Repr

/-- The commands: one constructor per row of the opcode table, in the table's families. -/
inductive Instr where
  /-- REGISTER_WRITE (R14, R17, R644 to R656): a write of `width` bytes at a BAR0 byte offset by one writer. -/
  | registerWrite (writer : Writer) (offset width value : Nat)
  /-- TURN_BOUNDARY (R59): the boundary that ends the current Turn. -/
  | turnBoundary (obs : TurnObs)
  /-- CORE_WATCHDOG_EXPIRY (R42). -/
  | coreWatchdogExpiry (core : Nat)
  /-- STAGING_HOLD_EXPIRY (R28): the staging hold of one window block. -/
  | stagingHoldExpiry (window block : Nat)
  /-- PTP_SYNC_RX (R52): a Sync from `source`; a one-step Sync carries its origin time in ns. -/
  | ptpSyncRx (unit source seq : Nat) (origin : Option Nat) (rx : Stamp)
  /-- PTP_FOLLOW_UP_RX (R52): the origin time, in ns, of a two-step Sync. -/
  | ptpFollowUpRx (unit source seq origin : Nat)
  /-- PTP_DELAY_RESP_RX (R53): the time, in ns, at which the parent received the Delay_Req that left at `tx`. -/
  | ptpDelayRespRx (unit source seq received : Nat) (tx : Stamp)
  /-- PTP_ANNOUNCE_RX (R149). -/
  | ptpAnnounceRx (unit : Nat) (data : Announce)
  /-- ACQUIRE_TIMEOUT_EXPIRY (R53). -/
  | acquireTimeoutExpiry
  /-- SYNC_LOSS_TIMEOUT (R52). -/
  | syncLossTimeout
  /-- TRN_RELOAD (R55): a 1 written to TRN_CTL.RELOAD. -/
  | trnReload (writer : Writer)
  /-- RELOAD_TIMEOUT_EXPIRY (R55). -/
  | reloadTimeoutExpiry
  /-- SHADOW_WRITE (R62, R65): one entry of a shadow bank, as its data words. -/
  | shadowWrite (writer : Writer) (bank : BankId) (index : Nat) (words : List Nat)
  /-- BANK_COMMIT (R63): PREFIX_BANK_CTL.COMMIT. -/
  | bankCommit (writer : Writer) (bank : BankId)
  /-- BANK_ABORT (R67): PREFIX_BANK_CTL.ABORT. -/
  | bankAbort (writer : Writer) (bank : BankId)
  /-- SYS_RESET_ASSERT (R73, R669): SYS_RESET_N goes low for at least `ns` nanoseconds. -/
  | sysResetAssert (ns : Nat)
  /-- SYS_RESET_RELEASE (R88, R89 steps 1 and 2). -/
  | sysResetRelease (obs : ReleaseObs)
  /-- DRAM_TRAINING_DONE (R34, R35, R89 steps 3 and 4): per-channel results, and whether the SFDP table offers 1-4-4. -/
  | dramTrainingDone (channels : List ChannelTraining) (sfdpQuad : Bool)
  /-- SPI_TRANSACTION_TIMEOUT (R76). -/
  | spiTransactionTimeout (copy : Nat)
  /-- COPY_READ_DONE (R89 steps 5 to 8). -/
  | copyReadDone
  /-- FIRMWARE_STARTED (R89 steps 9 to 11). -/
  | firmwareStarted
  /-- CFG_REBOOT (R73): a 1 written to CFG_CTL.REBOOT. -/
  | cfgReboot (writer : Writer)
  /-- BROWN_OUT (R667): one rail leaves nominal by `percent` for `ns` nanoseconds. -/
  | brownOut (rail percent ns : Nat)
  /-- TEMPERATURE_SAMPLE (R680, R681): main-die and companion readings in °C. -/
  | temperatureSample (main companionA companionB : Int)
  /-- TAMPER_EVENT (R126, R127). -/
  | tamperEvent (cause : TamperCause)
  /-- SERVICE_REQUEST (R72). -/
  | serviceRequest (ctrl cid : Nat)
  /-- RELEASE_REQUEST (R74). -/
  | releaseRequest (ctrl cid : Nat)
  /-- RELEASE_DRAIN_DONE (R74). -/
  | releaseDrainDone
  /-- FIRMWARE_IMAGE_DOWNLOAD (R98): `done` carries the copy that the bytes written so far spell, once they spell one. -/
  | firmwareImageDownload (ctrl cid slot offset length : Nat) (image : Option Image)
  /-- FIRMWARE_COMMIT_STORE (R99, R100): commit action 000. -/
  | firmwareCommitStore (ctrl cid slot : Nat)
  /-- FIRMWARE_COMMIT_AT_RESET (R99, R100): commit actions 001 and 010. -/
  | firmwareCommitAtReset (ctrl cid slot action : Nat)
  /-- FIRMWARE_COMMIT_ACTIVATE (R99, R101): commit action 011. -/
  | firmwareCommitActivate (ctrl cid slot : Nat)
  /-- COMMIT_READBACK_DONE (R99). -/
  | commitReadbackDone (readOk : Bool)
  /-- ACTIVATION_RECORD_WRITTEN (R102 step 6): the hand-over record is in DRAM and the cores restart. -/
  | activationRecordWritten
  /-- FIRMWARE_READY (R102 step 7). -/
  | firmwareReady
  /-- ACTIVATION_GUARD_EXPIRY (R103). -/
  | activationGuardExpiry
  /-- OWNER_ENROL (R113): IDN_ENROL_CTL.GO with REVOKE clear. -/
  | ownerEnrol (writer : Writer)
  /-- OWNER_REVOKE (R114): IDN_ENROL_CTL.GO with REVOKE set. -/
  | ownerRevoke (writer : Writer)
  /-- FUSE_PROGRAM_DONE (R108, R665): the running fuse programming ends; did its bits read back blown? -/
  | fuseProgramDone (readBackOk : Bool)
  /-- SVN_FLOOR_RAISE (R120, R121). -/
  | svnFloorRaise (ctrl cid : Nat)
  /-- ATTESTATION_QUOTE (R122). -/
  | attestationQuote (ctrl cid nonce : Nat)
  /-- QUOTE_SIGNED (R124). -/
  | quoteSigned
  /-- LINK_AN_DONE (R134): auto-negotiation found a common ability, or none. -/
  | linkAnDone (unit : Nat) (common : Bool)
  /-- LINK_TRAINING_DONE (R134). -/
  | linkTrainingDone (unit : Nat)
  /-- LINK_TRAINING_TIMEOUT (R134): 3 s without completion. -/
  | linkTrainingTimeout (unit : Nat)
  /-- LINK_LOCK_ACQUIRED (R134, R135). -/
  | linkLockAcquired (unit : Nat)
  /-- LINK_ALIGN_TIMEOUT (R134): 100 ms without lock. -/
  | linkAlignTimeout (unit : Nat)
  /-- LINK_QUALIFY_DONE (R134): 48,829 Turns of unbroken lock. -/
  | linkQualifyDone (unit : Nat)
  /-- LINK_LOCK_LOST (R134, R135). -/
  | linkLockLost (unit : Nat)
  /-- LINK_LOSS_TIMEOUT (R135): 4,883 Turns of continuous loss of lock. -/
  | linkLossTimeout (unit : Nat)
  /-- LINK_NEGOTIATION_TIMEOUT (R136): 10 s without ALIGN. -/
  | linkNegotiationTimeout (unit : Nat)
  /-- LINK_FAULT_TIMEOUT (R154): a local or remote fault has persisted for 4,883 Turns in UP. -/
  | linkFaultTimeout (unit : Nat) (remote : Bool)
  /-- FEC_WINDOW_END (R139): the codewords corrected and uncorrectable in the window that ends. -/
  | fecWindowEnd (unit corrected uncorrectable : Nat)
  /-- FRAME_RX (R144). -/
  | frameRx (unit : Nat) (frame : Frame)
  /-- ARP_REQUEST_RX (R140): sender's MAC and IP, the IP asked for. -/
  | arpRequestRx (unit senderMac senderIp targetIp : Nat)
  /-- ARP_REPLY_RX (R141): the sender's MAC and IP. -/
  | arpReplyRx (unit senderMac senderIp : Nat)
  /-- NEIGHBOUR_SOLICITATION_RX (R140): source MAC and IP, the target asked for. -/
  | neighbourSolicitationRx (unit senderMac senderIp targetIp : Nat)
  /-- NEIGHBOUR_ADVERTISEMENT_RX (R141): the sender's MAC and the address it claims. -/
  | neighbourAdvertisementRx (unit senderMac targetIp : Nat)
  /-- ETH_DROP_CLEAR: a 1 written to ETH_DROP_CLR.CLEAR. -/
  | ethDropClear (unit : Nat)
  /-- SEND_RX (R155): a Send packet, with its immediate data if it carries any. -/
  | sendRx (p : Pkt) (pos : PktPos) (imm : Option Nat)
  /-- RDMA_WRITE_RX (R206): an RDMA Write packet with its key, virtual address, immediate data and payload. -/
  | rdmaWriteRx (p : Pkt) (pos : PktPos) (rkey va : Nat) (imm : Option Nat) (payload : List Byte)
  /-- RDMA_READ_REQUEST_RX (R206). -/
  | rdmaReadRequestRx (p : Pkt) (rkey va length : Nat)
  /-- RDMA_READ_RESPONSE_RX (R155): a response to one of Daxzin's own reads. -/
  | rdmaReadResponseRx (p : Pkt) (pos : PktPos) (payload : List Byte)
  /-- ACK_RX (R191): acknowledges up to `psn`; received at `rx`, answering a packet sent at `tx`. -/
  | ackRx (qpn psn : Nat) (rx tx : Stamp)
  /-- NAK_RX (R191, R194). -/
  | nakRx (qpn psn : Nat) (code : NakCode)
  /-- RNR_NAK_RX (R193): the wait that the NAK names, in Turns. -/
  | rnrNakRx (qpn psn wait : Nat)
  /-- CNP_RX (R178). -/
  | cnpRx (qpn : Nat)
  /-- SEND_WITH_INVALIDATE_RX (R155). -/
  | sendWithInvalidateRx (p : Pkt)
  /-- CONTEXT_FETCH_DONE (R172, R176). -/
  | contextFetchDone (qp : Nat) (eccOk : Bool)
  /-- CM_REQ_RX (R164, R165). -/
  | cmReqRx (req : CmReq)
  /-- CM_REP_RX (R167): to a QP that Daxzin initiated, with the peer's QPN, PSN and granted options. -/
  | cmRepRx (qp remoteQpn psn granted : Nat)
  /-- CM_RTU_RX (R167). -/
  | cmRtuRx (qp : Nat)
  /-- CM_REJ_RX (R166). -/
  | cmRejRx (qp reason : Nat)
  /-- CM_MRA_RX (R166): with its service timeout in Turns. -/
  | cmMraRx (qp timeout : Nat)
  /-- CM_DREQ_RX (R167). -/
  | cmDreqRx (qp : Nat)
  /-- CM_DREP_RX (R167). -/
  | cmDrepRx (qp : Nat)
  /-- CM_UNSUPPORTED_RX (R161): LAP, APR or SIDR. -/
  | cmUnsupportedRx
  /-- CONNECT_INITIATE (R166): Daxzin opens a federation connection to a host address. -/
  | connectInitiate (dest : HostAddr) (tenant : Nat)
  /-- CONNECT_RETRY_EXPIRY (R166). -/
  | connectRetryExpiry (qp : Nat)
  /-- MRA_TIMER_EXPIRY (R165). -/
  | mraTimerExpiry (qp : Nat)
  /-- QP_DRAIN_DONE (R167). -/
  | qpDrainDone (qp : Nat)
  /-- QP_DRAIN_TIMEOUT (R167). -/
  | qpDrainTimeout (qp : Nat)
  /-- QP_TIMEWAIT_EXPIRY (R167). -/
  | qpTimewaitExpiry (qp : Nat)
  /-- ACK_TIMEOUT (R191). -/
  | ackTimeout (qp : Nat)
  /-- RNR_WAIT_EXPIRY (R193). -/
  | rnrWaitExpiry (qp : Nat)
  /-- WQE_POST (R185, R187): an on-chip producer posts a work request. -/
  | wqePost (qp : Nat) (wqe : Wqe)
  /-- TRIGGER_TIMEOUT (R188). -/
  | triggerTimeout (qp : Nat)
  /-- QP_FORCE_ERROR: a 1 written to XPT_QP_CTL.FORCE_ERR by a principal with the admin role, or not. -/
  | qpForceError (writer : Writer) (admin : Bool)
  /-- QP_CONTEXT_READ: a 1 written to XPT_QP_CTL.READ. -/
  | qpContextRead (writer : Writer)
  /-- MISS_PEAK_CLEAR: a write of XPT_MISS_PEAK. -/
  | missPeakClear
  /-- WINDOW_OPEN (R201, R202): admin opcode 0xC1 on a host's admin queue; `qp` is the queue's QP. -/
  | windowOpen (ctrl cid qp nsid length type : Nat) (remoteW remoteR bind : Bool)
  /-- WINDOW_CLOSE (R203): admin opcode 0xC2. -/
  | windowClose (ctrl cid key : Nat)
  /-- WINDOW_REVOKE_DRAINED (R211): no packet credited before the swap remains for the window. -/
  | windowRevokeDrained (window : Nat)
  /-- WINDOW_DESCRIPTOR_READ: a 1 written to WIN_READ.READ. -/
  | windowDescriptorRead (writer : Writer)
  /-- WINDOW_VIOLATION_CLEAR: a 1 written to WIN_READ.CLEAR_VIOL. -/
  | windowViolationClear
  /-- EGRESS_PICK (R229): the transmitter of a sub-port can take a frame, at a Pip of the current Turn; the frames that
  wait on that sub-port, in the order in which the transport produced them. -/
  | egressPick (unit pip : Nat) (waiting : List EgressFrame)
  /-- INGEST_PULL_ISSUE (R231): the RDMA Read for `length` bytes of a command's host data on a QP and sub-port. -/
  | ingestPullIssue (qp unit seq length : Nat)
  /-- SCH_PARAM_WRITE (R245): a 1 written to SCH_PARAM_CTL.WRITE. -/
  | schParamWrite (writer : Writer)
  /-- SCH_PARAM_READ: a 1 written to SCH_PARAM_CTL.READ. -/
  | schParamRead (writer : Writer)
  /-- SCH_PARAM_READ_LIVE: a 1 written to SCH_PARAM_CTL.READ_LIVE. -/
  | schParamReadLive (writer : Writer)
  /-- INGEST_HELD_TIMEOUT (R248): the ingest side has stayed at black for 1,024 Turns, or 2^19 more. -/
  | ingestHeldTimeout
  /-- FABRICS_CONNECT (R249 to R251): on an admin queue (`ctrl` none) or an I/O queue of an existing controller. `subnqn` is
  the subsystem NQN's number (0 the subsystem, 1 the management subsystem, others unknown). -/
  | fabricsConnect (qp cid : Nat) (ctrl : Option Nat) (subnqn hostnqn qid sqsize kato : Nat)
  /-- PROPERTY_GET (R254). -/
  | propertyGet (ctrl cid offset : Nat)
  /-- PROPERTY_SET (R275). -/
  | propertySet (ctrl cid offset value : Nat)
  /-- IDENTIFY (R257, R261). -/
  | identify (ctrl cid cns nsid csi : Nat)
  /-- GET_LOG_PAGE (R263, R282). -/
  | getLogPage (ctrl cid lid offset dwords : Nat)
  /-- ABORT (R274): the command identifier to abort on queue `qp`. -/
  | abort (ctrl cid qp target : Nat)
  /-- SET_FEATURES (R264). -/
  | setFeatures (ctrl cid fid value : Nat) (save : Bool)
  /-- GET_FEATURES (R264). -/
  | getFeatures (ctrl cid fid sel : Nat)
  /-- ASYNC_EVENT_REQUEST (R261, R631). -/
  | asyncEventRequest (ctrl cid : Nat)
  /-- NAMESPACE_CREATE (R261): requested command set, LBA size and size in LBAs. -/
  | namespaceCreate (ctrl cid csi lbaSize size : Nat)
  /-- NAMESPACE_DELETE (R261). -/
  | namespaceDelete (ctrl cid nsid : Nat)
  /-- NAMESPACE_RESIZE (R261). -/
  | namespaceResize (ctrl cid nsid size : Nat)
  /-- SELF_TEST_SHORT (R284): STC 1h. -/
  | selfTestShort (ctrl cid nsid : Nat)
  /-- SELF_TEST_EXTENDED (R285): STC 2h. -/
  | selfTestExtended (ctrl cid nsid : Nat)
  /-- SELF_TEST_ABORT (R283): STC Fh. -/
  | selfTestAbort (ctrl cid : Nat)
  /-- SELF_TEST_DONE (R284): the running test ends; the failing segment of a short test, if any. -/
  | selfTestDone (failed : Option Nat)
  /-- KEEP_ALIVE (R275). -/
  | keepAlive (ctrl cid : Nat)
  /-- KEEP_ALIVE_EXPIRY (R275). -/
  | keepAliveExpiry (ctrl : Nat)
  /-- GET_CHALLENGE (R255). -/
  | getChallenge (ctrl cid : Nat)
  /-- AUTHENTICATE (R255). -/
  | authenticate (ctrl cid principal signature : Nat)
  /-- NVM_READ (R268). -/
  | nvmRead (io : Io) (data : DataPtr)
  /-- NVM_WRITE (R265). -/
  | nvmWrite (io : Io) (data : DataPtr)
  /-- WINDOW_COMMIT (R214, R215): a Write or a Zone Append whose data pointer is a window descriptor. -/
  | windowCommit (io : Io) (append : Bool) (offset length rkey : Nat)
  /-- FLUSH (R273). -/
  | flush (io : Io)
  /-- WRITE_ZEROES (R262). -/
  | writeZeroes (io : Io)
  /-- DATASET_MANAGEMENT (R262): the ranges as first LBA and number of LBAs. -/
  | datasetManagement (io : Io) (deallocate : Bool) (ranges : List (Nat × Nat))
  /-- ZONE_APPEND (R271): `io.slba` names the zone's first LBA. -/
  | zoneAppend (io : Io) (data : DataPtr)
  /-- ZONE_CLOSE (R260). -/
  | zoneClose (io : Io) (selectAll : Bool)
  /-- ZONE_FINISH (R260, R271). -/
  | zoneFinish (io : Io) (selectAll : Bool)
  /-- ZONE_OPEN (R260). -/
  | zoneOpen (io : Io) (selectAll : Bool)
  /-- ZONE_RESET (R260, R271). -/
  | zoneReset (io : Io) (selectAll : Bool)
  /-- ZONE_MANAGEMENT_RECEIVE (R260): Report Zones with a reporting option, partial or not. -/
  | zoneManagementReceive (io : Io) (option : Nat) (isPartial : Bool)
  /-- COMMAND_ADMIT (R265 to R271): the engine admits the waiting command of this sequence number. -/
  | commandAdmit (seq : Nat)
  /-- FSP_ALLOCATE (R294, R303): requester code, role and class. -/
  | fspAllocate (req role cls : Nat)
  /-- FSP_FREE (R303, R304): a DECREF. -/
  | fspFree (req : Nat) (buf : BufRef)
  /-- FSP_INCREF (R303). -/
  | fspIncref (req : Nat) (buf : BufRef)
  /-- FSP_CACHE_REFILL (R298): the indices among the 256 that an uncorrectable ECC error destroyed. -/
  | fspCacheRefill (pool : Nat) (eccBad : List Nat)
  /-- FSP_CACHE_WRITEBACK (R298). -/
  | fspCacheWriteback (pool : Nat)
  /-- FSP_CLEAR: a 1 written to FSP_CLR.CLEAR. -/
  | fspClear
  /-- CACHE_ENABLE (R336): GCH_CTL.EN written 1. -/
  | cacheEnable
  /-- CACHE_DISABLE (R336): GCH_CTL.EN written 0. -/
  | cacheDisable
  /-- CACHE_DRAIN_DONE (R337). -/
  | cacheDrainDone
  /-- CACHE_FILL_DONE (R333): a fill of some sub-blocks (bit mask) of a line ends; tag ECC intact or not. -/
  | cacheFillDone (slot line subs : Nat) (tagOk : Bool)
  /-- SAL_CLEAN (R327, R332): GO with OP 1 held in the writer's copy. -/
  | salClean (writer : Writer)
  /-- SAL_INVALIDATE: GO with OP 2. -/
  | salInvalidate (writer : Writer)
  /-- SAL_CLEAN_INVALIDATE: GO with OP 3. -/
  | salCleanInvalidate (writer : Writer)
  /-- SAL_PIN: GO with OP 4. -/
  | salPin (writer : Writer)
  /-- SAL_UNPIN: GO with OP 5. -/
  | salUnpin (writer : Writer)
  /-- SAL_OPERATION_START (R330, R331): the engine takes its next step on the front operation. -/
  | salOperationStart
  /-- SAL_WRITE_BACK_ISSUE (R328, R329): the front write-back request is issued. -/
  | salWriteBackIssue
  /-- SAL_OPERATION_DONE (R332). -/
  | salOperationDone
  /-- COMPRESS_BLOCK_START (R363): a committed block is taken by a lane; staging ECC intact, pipeline parity intact. -/
  | compressBlockStart (block : Nat) (stagingOk parityOk : Bool)
  /-- COMPRESS_BLOCK_DONE (R365): the checker's CRC of the decoded output. -/
  | compressBlockDone (block checkerCrc : Nat)
  /-- SPILL_READBACK_DONE (R28, R217): a spilled block's data is back for staging. -/
  | spillReadbackDone (block : Nat)
  /-- DECOMPRESS_BLOCK_START (R367): an open and decode of one stored block begins on a lane. -/
  | decompressBlockStart (job : Nat) (parityOk : Bool)
  /-- DECOMPRESS_BLOCK_DONE (R368, R369): the decode ends; a faulty lane may report a reason of its own (R369). -/
  | decompressBlockDone (job : Nat) (fault : Option Nat)
  /-- CMP_VERIFY_CLEAR: a 1 written to CMP_CLR.CLEAR. -/
  | cmpVerifyClear
  /-- KEY_LOAD (R389): opcode D0h. -/
  | keyLoad (ctrl cid : Nat) (record : KeyRecord)
  /-- KEY_DESTROY (R398): opcode D1h. -/
  | keyDestroy (ctrl cid keyId : Nat)
  /-- KEY_ACTIVATE (R395): opcode D2h. -/
  | keyActivate (ctrl cid nsid keyId : Nat) (reseal : Bool)
  /-- RESEAL_DONE (R397). -/
  | resealDone
  /-- CIPHER_JOB (R384): opcode D3h. -/
  | cipherJob (ctrl cid rkey offset length keyId mode : Nat) (decrypt : Bool) (iv : Nat)
  /-- FALLBACK_KEY_LOAD (R394): GO written to fall-back set `reg`. -/
  | fallbackKeyLoad (writer : Writer) (reg : Nat)
  /-- KEY_SLOT_READ: a 1 written to CPH_SLOT_CTL.READ. -/
  | keySlotRead (writer : Writer)
  /-- IV_EPOCH_DURABLE (R381): the write of the new IV epoch has completed. -/
  | ivEpochDurable
  /-- VERSION_PLACE (R420): the version that command `seq` (0 for a version placed again) makes of an extent is placed;
  `parityEcc`: an uncorrectable ECC error has struck the parity slot of a stripe it completes (R411). -/
  | versionPlace (seq nsid extent : Nat) (parityEcc : Bool)
  /-- GATHER_HOLD_EXPIRY (R422): the gather hold of the open stripe at a row. -/
  | gatherHoldExpiry (group row : Nat)
  /-- CLOSE_HOLD_EXPIRY (R423). -/
  | closeHoldExpiry (group row : Nat)
  /-- PARITY_SLOT_WAIT_TIMEOUT (R421): the version of an extent has waited 16 Turns for a parity slot. -/
  | paritySlotWaitTimeout (seq nsid extent : Nat)
  /-- STRIPE_WRITE_DONE (R424): the write to one position of a stripe ends, without error or with one. -/
  | stripeWriteDone (group row position : Nat) (ok : Bool)
  /-- MEMBER_READ_DONE (R437): the reads of a read job end; the rows that it read. -/
  | memberReadDone (job : Nat) (rows : List RowRead)
  /-- COMPACTION_START (R430). -/
  | compactionStart (group : Nat)
  /-- SET_READY_TIMEOUT (R433). -/
  | setReadyTimeout (set : Nat)
  /-- SET_IDLE_TIMEOUT (R435). -/
  | setIdleTimeout (set : Nat)
  /-- SET_POWER_ON_REQUEST (R435): LAY_SET_CTL written with SET and ON. -/
  | setPowerOnRequest (writer : Writer) (set : Nat)
  /-- SET_STOP_REQUEST (R435): LAY_SET_CTL written with SET and OFF. -/
  | setStopRequest (writer : Writer) (set : Nat)
  /-- SET_STOP_WRITES_DONE (R436): steps 2 and 3 of a stop have ended. -/
  | setStopWritesDone (set : Nat)
  /-- DELTA_BATCH_WRITE (R443, R469). -/
  | deltaBatchWrite
  /-- CHECKPOINT_START (R444). -/
  | checkpointStart
  /-- CHECKPOINT_DONE (R444). -/
  | checkpointDone
  /-- METADATA_WRITE_DONE (R442): the oldest outstanding FUA write to the shelf metadata stream completes on the anchors. -/
  | metadataWriteDone
  /-- JOURNAL_WRITE_DONE (R460): an outstanding journal write of an anchor role ends, counted from the oldest. -/
  | journalWriteDone (role index : Nat) (ok : Bool)
  /-- ANCHOR_RESEED_TIMEOUT (R473). -/
  | anchorReseedTimeout (role : Nat)
  /-- REPLAY_DONE (R475 to R479): what the readable rings hold, and the versions that the row scan found. -/
  | replayDone (rings : List RingRead) (scan : List ScanRead)
  /-- RESYNC_WINDOW_EXPIRY (R490): the ABSENT position that a slot fills. -/
  | resyncWindowExpiry (slot : Nat)
  /-- WALK_ROW_ISSUE (R494): the walk of a group (or its scrub) reads its next row. -/
  | walkRowIssue (group : Nat) (scrub : Bool)
  /-- WALK_ROW_DONE (R494): the row, and the other rows that hold the versions that are judged with it. -/
  | walkRowDone (group : Nat) (scrub : Bool) (rows : List RowRead)
  /-- RESHAPE_START (R502): opcode D4h. -/
  | reshapeStart (ctrl cid group newK : Nat)
  /-- RESHAPE_BATCH_DONE (R505): the batch's new rows and its progress record have been written to every member. -/
  | reshapeBatchDone
  /-- RESHAPE_CANCEL (R508): opcode D5h. -/
  | reshapeCancel (ctrl cid : Nat)
  /-- MEMBER_FAIL (R509): opcode D6h. -/
  | memberFail (ctrl cid slot : Nat)
  /-- DRIVE_PERST_RELEASE (R510). -/
  | drivePerstRelease (slot : Nat)
  /-- DRIVE_LINK_UP (R511): DL_Active in a mode code; CAP.TO of the drive's controller, in units of 500 ms. -/
  | driveLinkUp (slot code capTo : Nat)
  /-- DRIVE_LINK_TIMEOUT (R513). -/
  | driveLinkTimeout (slot : Nat)
  /-- DRIVE_PERST_RETRY_EXPIRY (R513). -/
  | drivePerstRetryExpiry (slot : Nat)
  /-- DRIVE_SETUP_STEP_DONE (R517). -/
  | driveSetupStepDone (slot : Nat) (result : SetupResult)
  /-- DRIVE_FORMAT_DONE (R520): Format NVM ends, without error or with one. -/
  | driveFormatDone (slot : Nat) (ok : Bool)
  /-- DRIVE_INBOUND_VIOLATION (R515). -/
  | driveInboundViolation (slot : Nat)
  /-- DRIVE_BAD_TLP (R515). -/
  | driveBadTlp (slot : Nat)
  /-- DRIVE_LINK_DOWN (R515). -/
  | driveLinkDown (slot : Nat)
  /-- DRIVE_COMPLETION_TIMEOUT (R515). -/
  | driveCompletionTimeout (slot : Nat)
  /-- MEMBER_COMMAND_TIMEOUT (R528). -/
  | memberCommandTimeout (slot : Nat) (kind : MemberCmd)
  /-- LADDER_STEP_TIMEOUT (R530). -/
  | ladderStepTimeout (slot : Nat)
  /-- SMART_POLL (R525): the SMART / Health log of a ready drive: critical-warning byte, composite temperature in °C, and
  whether the temperature crosses a threshold of the drive. -/
  | smartPoll (slot critWarn temp : Nat) (crossed : Bool)
  /-- CSTS_POLL (R525): CSTS.CFS of a ready drive. -/
  | cstsPoll (slot : Nat) (cfs : Bool)
  /-- DRIVE_ASYNC_EVENT (R525): a drive's event, with its critical-warning byte and a temperature crossing. -/
  | driveAsyncEvent (slot critWarn : Nat) (crossed : Bool)
  /-- DRIVE_RELEASE (R522): opcode D7h. -/
  | driveRelease (ctrl cid slot : Nat)
  /-- HAND_OVER (R593): opcode D8h. -/
  | handOver (ctrl cid : Nat)
  /-- EVENT_READ (R631): opcode DAh: the maximum number of records. -/
  | eventRead (ctrl cid count : Nat)
  /-- COUNTER_READ (R641): opcode D9h: CDW10. -/
  | counterRead (ctrl cid snapshot : Nat)
  /-- REGISTER_SEQUENCE (R660): opcode DBh. -/
  | registerSequence (ctrl cid count : Nat) (entries : List SeqEntry)
  /-- FLASH_WRITE (R612): opcode C8h: command identifier, copy, host address, length, and the copy that the data spell. -/
  | flashWrite (cid copy address length : Nat) (image : Option Image)
  /-- DRIVE_READY_TIMEOUT (R517). -/
  | driveReadyTimeout (slot : Nat)
  /-- MEMBER_ABORT_DONE (R530). -/
  | memberAbortDone (slot : Nat)
  /-- SLOT_PRESENT_DEBOUNCED (R541). -/
  | slotPresentDebounced (slot : Nat)
  /-- SLOT_REMOVED (R541). -/
  | slotRemoved (slot : Nat)
  /-- INSERT_DELAY_EXPIRY (R542). -/
  | insertDelayExpiry (slot : Nat)
  /-- SLOT_CHANNEL_START (R540). -/
  | slotChannelStart (slot : Nat)
  /-- SLOT_POWER_GOOD (R545). -/
  | slotPowerGood (slot : Nat)
  /-- FAULT_TIMER_EXPIRY (R543): of slot channel 0 to 23, feed A (24) or feed B (25). -/
  | faultTimerExpiry (channel : Nat)
  /-- EFUSE_TRIP (R544): of slot channel 0 to 23, feed A (24) or feed B (25). -/
  | efuseTrip (channel : Nat)
  /-- SLOT_OUTPUT_UV (R546). -/
  | slotOutputUv (slot : Nat)
  /-- SLOT_INPUT_OUT_OF_WINDOW (R547): above OV, or below UV while starting. -/
  | slotInputOutOfWindow (slot : Nat) (excess : Bool)
  /-- BROWNOUT_HOLD_START (R549). -/
  | brownoutHoldStart (slot : Nat)
  /-- BROWNOUT_HOLD_EXPIRY (R549): is the input still below UV? -/
  | brownoutHoldExpiry (slot : Nat) (stillBelow : Bool)
  /-- RETRY_DELAY_EXPIRY (R548): of a slot channel or a feed. -/
  | retryDelayExpiry (channel : Nat)
  /-- RETRY_COUNT_CLEAR_EXPIRY (R548): of a slot channel or a feed. -/
  | retryCountClearExpiry (channel : Nat)
  /-- SLOT_CLEAR (R548): a 1 written to PWR_SLOT_CTL.CLEAR. -/
  | slotClear (writer : Writer) (slot : Nat)
  /-- SLOT_CYCLE (R568): a 1 written to PWR_SLOT_CTL.CYCLE. -/
  | slotCycle (writer : Writer) (slot : Nat)
  /-- SLOT_CYCLE_EXPIRY (R530). -/
  | slotCycleExpiry (slot : Nat)
  /-- SLOT_PEAK_CLEAR (R536): a 1 written to PWR_SLOT_CTL.PEAK_CLR. -/
  | slotPeakClear (writer : Writer) (slot : Nat)
  /-- SLOT_SHUTDOWN_DONE (R552): CSTS.SHST = 10b, or the wait ran out. -/
  | slotShutdownDone (slot : Nat)
  /-- SLOT_STOP_ACK_TIMEOUT (R552). -/
  | slotStopAckTimeout (slot : Nat)
  /-- SLOT_HELD_CHECK (R553): has the rail stayed above 1.0 V? -/
  | slotHeldCheck (slot : Nat) (above : Bool)
  /-- SLOT_DISCHARGE_CHECK (R555): has the rail stayed above 1.0 V, and the own shunt's current in mA. -/
  | slotDischargeCheck (slot : Nat) (above : Bool) (current : Nat)
  /-- FEED_PRESENT_DEBOUNCED (R557): feed 0 (A) or 1 (B). -/
  | feedPresentDebounced (feed : Nat)
  /-- FEED_INSERT_DELAY_EXPIRY (R557). -/
  | feedInsertDelayExpiry (feed : Nat)
  /-- FEED_RETURN_HOLD_EXPIRY (R557). -/
  | feedReturnHoldExpiry (feed : Nat)
  /-- FEED_FAILURE_TRANSFER (R559): the selected feed's presence drops, or its input leaves its window. -/
  | feedFailureTransfer (presenceLost : Bool)
  /-- FEED_DEAD_TIME_EXPIRY (R559). -/
  | feedDeadTimeExpiry
  /-- FEED_POWER_GOOD (R557). -/
  | feedPowerGood (feed : Nat)
  /-- SUPPLY_WARNING_ASSERT (R563). -/
  | supplyWarningAssert
  /-- SUPPLY_WARNING_RELEASE (R563). -/
  | supplyWarningRelease
  /-- FEED_INPUT_OUT_OF_WINDOW (R557). -/
  | feedInputOutOfWindow (feed : Nat)
  /-- FEED_REMOVED (R557). -/
  | feedRemoved (feed : Nat)
  /-- PAWN_CHALLENGE_RX (R571). -/
  | pawnChallengeRx (conn : PawnConn) (msg : PawnMsg)
  /-- PAWN_PROOF_RX (R571). -/
  | pawnProofRx (conn : PawnConn) (msg : PawnMsg) (proof : PawnProof)
  /-- WITNESS_PROOF_TIMEOUT (R571). -/
  | witnessProofTimeout (conn : PawnConn)
  /-- WITNESS_RETRY_EXPIRY (R571). -/
  | witnessRetryExpiry (w : Nat)
  /-- WITNESS_CONNECTION_LOST (R598). -/
  | witnessConnectionLost (w : Nat)
  /-- PAWN_REQUEST_RX (R577): a witness takes a REQUEST from a canister of a shelf it serves. -/
  | pawnRequestRx (shelf canister : Nat) (msg : PawnMsg)
  /-- CONTENTION_WAIT_EXPIRY (R577). -/
  | contentionWaitExpiry (shelf : Nat)
  /-- PAWN_GRANT_RX (R575): from witness w. -/
  | pawnGrantRx (w : Nat) (msg : PawnMsg)
  /-- PAWN_DENY_RX (R584). -/
  | pawnDenyRx (w : Nat) (msg : PawnMsg)
  /-- DENY_WAIT_EXPIRY (R584). -/
  | denyWaitExpiry (w : Nat)
  /-- PAWN_RELEASE_RX (R577): a witness takes a RELEASE. -/
  | pawnReleaseRx (shelf canister : Nat) (msg : PawnMsg)
  /-- PAWN_RENEW_TIMER (R576). -/
  | pawnRenewTimer
  /-- PAWN_RESEND_EXPIRY (R576): of the REQUEST to witness w. -/
  | pawnResendExpiry (w : Nat)
  /-- MINORITY_BACKOFF_EXPIRY (R576). -/
  | minorityBackoffExpiry
  /-- PAWN_CUTOFF (R588). -/
  | pawnCutoff
  /-- PAWN_EXPIRY (R575). -/
  | pawnExpiry
  /-- HELLO_RX (R581). -/
  | helloRx (lane : Nat) (hello : Hello)
  /-- HEARTBEAT_RX (R579). -/
  | heartbeatRx (lane : Nat) (beat : Heartbeat)
  /-- HEARTBEAT_TIMER (R579). -/
  | heartbeatTimer
  /-- PEER_LOST (R580): no heartbeat for 24,415 Turns, or the peer link is down. -/
  | peerLost
  /-- MAP_BULK_RX (R582): warm-up entries with mirror SEQ, and whether they end the copy. -/
  | mapBulkRx (seq : Nat) (entries : List DeltaRead) (last : Bool)
  /-- MAP_DELTA_RX (R582). -/
  | mapDeltaRx (seq : Nat) (deltas : List DeltaRead)
  /-- TRAILER_RX (R582). -/
  | trailerRx (seq : Nat) (trailer : Trailer)
  /-- RECORD_RX (R582). -/
  | recordRx (seq : Nat) (record : MdRecord)
  /-- NACK_RX (R583): the first missing mirror SEQ. -/
  | nackRx (seq : Nat)
  /-- SLOT_DEMAND_RX (R550). -/
  | slotDemandRx (map : Nat)
  /-- SLOT_DEMAND_TIMER (R550). -/
  | slotDemandTimer
  /-- SLOT_ACK_RX (R552). -/
  | slotAckRx (slot : Nat)
  /-- HEALTH_RX (R526). -/
  | healthRx (slot : Nat) (finding : Health)
  /-- YIELD_RX (R584). -/
  | yieldRx (reason : Nat) (planned : Bool)
  /-- RECOVERY_HELLO_TIMEOUT (R585). -/
  | recoveryHelloTimeout
  /-- FITNESS_TEST_DONE (R590): the compression lanes, decompression lanes and cipher pipelines that fail, and whether every P
  and Q engine passes. -/
  | fitnessTestDone (badComp badDec badPipes : List Nat) (pqOk : Bool)
  /-- HAND_OVER_DRAIN_TIMEOUT (R593). -/
  | handOverDrainTimeout
  /-- CHECKPOINT_FENCE_EXPIRY (R589). -/
  | checkpointFenceExpiry
  /-- PAIR_UNSERVICEABLE_TIMER (R592). -/
  | pairUnserviceableTimer
  /-- REPLICA_EXTENT_SEND (R597): a changed extent is sent; has its replica completed it? -/
  | replicaExtentSend (nsid extent : Nat) (completed : Bool)
  /-- REPLICA_DOWN_TIMEOUT (R597): of the connection to a peer shelf. -/
  | replicaDownTimeout (shelf : Nat)
  /-- ENDPOINT_RESET (R600): SEP_PERST_N asserted (it stays so until SEP_PERST_RELEASE), or a hot reset or link disable. -/
  | endpointReset (perst : Bool)
  /-- ENDPOINT_LINK_UP (R601): speed code, width, and the configuration bits as the host has written them. -/
  | endpointLinkUp (speed width : Nat) (config : SepConfig)
  /-- POWER_STATE_CHANGE (R602): D3hot or D0. -/
  | powerStateChange (d3hot : Bool)
  /-- MSIX_UNMASK (R613): a vector's mask bit is cleared, with the configuration bits as the host has written them. -/
  | msixUnmask (vector : Nat) (config : SepConfig)
  /-- MAILBOX_SUBMIT (R610): a write of SEP_MBX_SQ_TAIL. -/
  | mailboxSubmit (tail : Nat)
  /-- MAILBOX_DMA_DONE (R609). -/
  | mailboxDmaDone
  /-- FLASH_ERASE_DONE (R612): within 400 ms or not. -/
  | flashEraseDone (ok : Bool)
  /-- FLASH_PAGE_PROGRAM_DONE (R612): within 5 ms or not. -/
  | flashPageProgramDone (ok : Bool)
  /-- FUNCTION_LEVEL_RESET (R614). -/
  | functionLevelReset
  /-- FLR_DMA_QUIESCE (R614). -/
  | flrDmaQuiesce
  /-- FLR_COMPLETE (R614). -/
  | flrComplete
  /-- ENDPOINT_CONTAIN (R616). -/
  | endpointContain (cause : ContainCause)
  /-- CONTAINMENT_RELEASE (R618): a 1 written to VSEC RELEASE. -/
  | containmentRelease
  /-- SEP_PERST_RELEASE (R601). -/
  | sepPerstRelease
  /-- EVENT_RING_HEAD_WRITE (R642). -/
  | eventRingHeadWrite (writer : Writer) (head : Nat)
  /-- SNAPSHOT_PASS_DONE (R635). -/
  | snapshotPassDone
  /-- COUNTER_PRELOAD (R634): a 1 written to CNT_CTL.PRELOAD. -/
  | counterPreload (writer : Writer)
  /-- COUNTER_LIVE_READ (R633): a 1 written to CNT_CTL.READ. -/
  | counterLiveRead (writer : Writer)
  /-- COUNTER_OVERFLOW (R640): an occurrence that wraps a counter; the INSTANCE it concerns. -/
  | counterOverflow (counter inst : Nat)
  /-- COUNTER_SAMPLE_READ (R640): core 15 reads the context of a counter. -/
  | counterSampleRead (counter : Nat)
  /-- BW_WINDOW_WRITE (R639): CNT_CFG.BW_WINDOW written. -/
  | bwWindowWrite (writer : Writer) (value : Nat)
  deriving DecidableEq, Repr

end Sys2Proof
end

