-- ==== Sys2Proof/Decode.lean ====
section
/-!
DEFINITION. Decode.lean: the command that a word spells by the opcode table's bits. The table gives no row any bits (the spec's
commands are frames, capsules, register writes, pins and timers, not words), so no word spells a command.
-/

namespace Sys2Proof

/-- The command that a word of the opcode table's bits spells: none, because no row of the table has bits. -/
def decodeTableWord (_nbits _w : Nat) : Option Instr := none

end Sys2Proof
end

