-- ==== Sys2Proof/Config.lean ====
section
/-!
DEFINITION. Config.lean: what the spec leaves open and what the standards it names compute. Every constant here has no body:
nothing in Lean can evaluate one, and a statement about the model holds for every choice of them (notes/assumptions/3.md,
notes/assumptions/4.md).
-/

namespace Sys2Proof

/-- A free value: the model's counter of free values taken picks a fresh one each time. -/
opaque Config.freeValue : Nat → Nat

/-- A value of the on-die random source (R166, R198, R255, R571), for the model's counter of free values. -/
opaque Config.random : Nat → Nat

/-- SHAKE256 (FIPS 202) of a byte string, as the number that `n` output bytes spell, little-endian. -/
opaque Config.shake256 : List Byte → Nat → Nat

/-- The bytes 0 to IMAGE_LEN − 257 of a copy (R79): the spec gives no encoding of section values. -/
opaque Config.imageBytes : ImgHeader → List ImgSection → List Byte

/-- The code bytes of a firmware package (R87). -/
opaque Config.codeBytes : Nat → Nat → List Byte

/-- The Ed448 public key of a private key (RFC 8032). -/
opaque Config.edPublic : Nat → Nat

/-- The Ed448 signature by a private key over a message with an empty context (RFC 8032). -/
opaque Config.edSign : Nat → List Byte → Nat

/-- Does an Ed448 signature verify: public key, message, signature? -/
opaque Config.edVerify : Nat → List Byte → Nat → Bool

/-- The AES-256 forward cipher (FIPS 197): key, 16-byte block. -/
opaque Config.aesEncrypt : Nat → Nat → Nat

/-- The AES-256 inverse cipher (FIPS 197): key, 16-byte block. -/
opaque Config.aesDecrypt : Nat → Nat → Nat

/-- The GCM keystream (SP 800-38D): key, IV, byte count. -/
opaque Config.gcmStream : Nat → Nat → Nat → List Byte

/-- The GCM tag (SP 800-38D): key, IV, additional authenticated data, ciphertext. -/
opaque Config.gcmTag : Nat → Nat → List Byte → List Byte → Nat

/-- AES-KW and AES-KWP unwrap (SP 800-38F): algorithm, key-encryption key, wrapped value; the 40-byte plaintext. -/
opaque Config.unwrap : Nat → Nat → Nat → Option Nat

/-- The servo's frequency correction after a measured offset (R52, R54), in thousandths of its range, before it is held to the
range: the spec gives the range and no control law. -/
opaque Config.servo : Int → Int → Int

/-- Fields of an Identify structure, a log page or a feature that the spec names without a value: page, word. -/
opaque Config.reported : Nat → Nat → Nat

end Sys2Proof
end

