-- ==== Sys2Proof/Machine/Tbl.lean ====
section
/-!
DEFINITION. Machine/Tbl.lean: sparse tables (keys strictly rising), byte memory with a zero default in canonical form, and
the small list operations that the blocks share.
-/

namespace Sys2Proof.Machine

/-- A sparse table: key and value pairs, keys strictly rising. -/
abbrev Tbl (α : Type) := List (Nat × α)

/-- The value stored under a key. -/
def tget {α : Type} : Tbl α → Nat → Option α
  | [], _ => none
  | (k', v) :: t, k => if k' = k then some v else tget t k

/-- Store a value under a key, keeping the keys strictly rising. -/
def tset {α : Type} : Tbl α → Nat → α → Tbl α
  | [], k, v => [(k, v)]
  | (k', v') :: t, k, v =>
    if k < k' then (k, v) :: (k', v') :: t
    else if k = k' then (k, v) :: t
    else (k', v') :: tset t k v

/-- Remove a key. -/
def tdel {α : Type} : Tbl α → Nat → Tbl α
  | [], _ => []
  | (k', v') :: t, k => if k' = k then tdel t k else (k', v') :: tdel t k

/-- The value under a key, or a default. -/
def tgetD {α : Type} (t : Tbl α) (k : Nat) (d : α) : α := (tget t k).getD d

/-- Change the value under a key, if there is one. -/
def tmod {α : Type} (t : Tbl α) (k : Nat) (f : α → α) : Tbl α :=
  match tget t k with
  | some v => tset t k (f v)
  | none => t

/-- Apply a function to every value. -/
def tmap {α : Type} (t : Tbl α) (f : Nat → α → α) : Tbl α := t.map fun p => (p.1, f p.1 p.2)

/-- Does the table hold the key? -/
def thas {α : Type} (t : Tbl α) (k : Nat) : Bool := (tget t k).isSome

/-- The first of the indices from `k` on, `n` of them, that the table does not hold. -/
def tfree {α : Type} (t : Tbl α) : Nat → Nat → Option Nat
  | _, 0 => none
  | k, n + 1 => if thas t k then tfree t (k + 1) n else some k

/-- A table of numbers whose entries are never the default: storing the default removes the entry. -/
def tput (d : Nat) (t : Tbl Nat) (k v : Nat) : Tbl Nat := if v = d then tdel t k else tset t k v

/-- Keys strictly rising. -/
def tsorted {α : Type} : Tbl α → Bool
  | [] => true
  | [_] => true
  | a :: b :: t => decide (a.1 < b.1) && tsorted (b :: t)

/-- Byte memory: address and byte pairs, addresses strictly rising, no byte equal to the zero that an unlisted
address reads as. -/
abbrev Mem := List Host.Cell

/-- Read one byte: an unlisted address reads as zero. -/
def memRead : Mem → Nat → Byte
  | [], _ => 0
  | (a', b) :: m, a => if a' = a then b else memRead m a

/-- Remove an address. -/
def memErase : Mem → Nat → Mem
  | [], _ => []
  | (a', b) :: m, a => if a' = a then memErase m a else (a', b) :: memErase m a

/-- List a byte under its address, keeping the addresses strictly rising. -/
def memInsert : Mem → Nat → Byte → Mem
  | [], a, b => [(a, b)]
  | (a', b') :: m, a, b =>
    if a < a' then (a, b) :: (a', b') :: m
    else if a = a' then (a, b) :: m
    else (a', b') :: memInsert m a b

/-- Write one byte; writing zero removes the entry. -/
def memWrite (m : Mem) (a : Nat) (b : Byte) : Mem := if b = 0 then memErase m a else memInsert m a b

/-- Write a run of bytes from an address on. -/
def memWriteList : Mem → Nat → List Byte → Mem
  | m, _, [] => m
  | m, a, b :: bs => memWriteList (memWrite m a b) (a + 1) bs

/-- Read `n` bytes from an address on. -/
def memReadList (m : Mem) (a : Nat) : Nat → List Byte
  | 0 => []
  | n + 1 => memRead m a :: memReadList m (a + 1) n

/-- The canonical form of byte memory. -/
def Mem.wf : Mem → Bool
  | [] => true
  | [c] => c.2 != 0
  | a :: b :: m => (a.2 != 0) && decide (a.1 < b.1) && Mem.wf (b :: m)

/-- Replace the element at an index; a list that is too short is left as it is. -/
def lset {α : Type} : List α → Nat → α → List α
  | [], _, _ => []
  | _ :: t, 0, v => v :: t
  | h :: t, n + 1, v => h :: lset t n v

/-- Change the element at an index. -/
def lmod {α : Type} : List α → Nat → (α → α) → List α
  | [], _, _ => []
  | h :: t, 0, f => f h :: t
  | h :: t, n + 1, f => h :: lmod t n f

/-- The little-endian number that a list of bytes spells (R9). -/
def leNat : List Byte → Nat
  | [] => 0
  | b :: bs => b.toNat + 256 * leNat bs

/-- The low `n` bytes of a number, little-endian (R9). -/
def leBytes : Nat → Nat → List Byte
  | 0, _ => []
  | n + 1, v => BitVec.ofNat 8 v :: leBytes n (v / 256)

/-- Bit `i` of a number. -/
def bitOf (v i : Nat) : Bool := (v / 2 ^ i) % 2 == 1

/-- Set or clear bit `i` of a number. -/
def setBitOf (v i : Nat) (b : Bool) : Nat :=
  if bitOf v i = b then v else if b then v + 2 ^ i else v - 2 ^ i

/-- The bits from `lo` on, `w` of them. -/
def bitsOf (v lo w : Nat) : Nat := (v / 2 ^ lo) % 2 ^ w

/-- One or zero. -/
def b2n (b : Bool) : Nat := if b then 1 else 0

/-- Quotient rounded up. -/
def ceilDiv (a b : Nat) : Nat := (a + b - 1) / b

/-- Fold an operation over the indices 0 to n − 1, in order. -/
def foldIdx {α : Type} (n : Nat) (f : Nat → α → α) (a : α) : α := (List.range n).foldl (fun a i => f i a) a

end Sys2Proof.Machine
end

