-- ==== Sys2Proof/Machine/StCommon.lean ====
section
/-!
DEFINITION. Machine/StCommon.lean: what several blocks hold: event records, the model's record of what the part sends out,
effects that wait for the next Turn boundary, and the device states.
-/

namespace Sys2Proof.Machine

/-- The device states of R72, in the order of their codes. -/
inductive DevState where
  | boot | safeHold | shelfIdle | recovery | standby | active | activating
  deriving DecidableEq, Repr

/-- An event as a block hands it to EVT (R620, R621): source number, severity, the Turn to which its cause is credited,
the payload fields, and the occurrences suppressed before it. -/
structure EventRec where
  source : Nat
  severity : Nat
  turn : Nat
  inst : Nat
  code : Nat
  value : Nat
  value2 : Nat
  suppressed : Nat
  deriving DecidableEq, Repr

/-- The kinds of thing that the part sends out (the model's own record of its outputs; see notes/assumptions/8.md). The
arguments are named in each constructor's docstring. -/
inductive OutKind where
  /-- completion: session or controller, command identifier, SCT, SC, DW0, DW1 -/
  | completion
  /-- data returned with a command: controller, command identifier, then the words -/
  | data
  /-- ACK: QP, PSN -/
  | ack
  /-- NAK: QP, PSN, code (0 sequence, 1 invalid request, 2 remote access) -/
  | nak
  /-- RNR NAK: QP, PSN, timer code -/
  | rnrNak
  /-- CNP: QP -/
  | cnp
  /-- resend from a PSN (go-back-N): QP, PSN -/
  | resend
  /-- RDMA Read Response: QP, bytes -/
  | readResponse
  /-- a work request's transfer on the wire: QP, opcode, length, producer tag, window, offset, remote address, remote key and
  immediate; for a replica: QP, 0, length, command or extent, NSID and peer NSID -/
  | wqeSend
  /-- a work request's completion to its producer: QP, producer tag, status -/
  | wqeDone
  /-- CM REQ: QP, attempt -/
  | cmReq
  /-- CM REP: QP, granted options, 1 if the option block is present -/
  | cmRep
  /-- CM RTU: QP -/
  | cmRtu
  /-- CM REJ: remote QPN, reason -/
  | cmRej
  /-- CM MRA: QP or remote QPN -/
  | cmMra
  /-- CM DREQ: QP -/
  | cmDreq
  /-- CM DREP: QP -/
  | cmDrep
  /-- ARP reply or solicited Neighbour Advertisement: sub-port, 0 or 1, target MAC, target IP -/
  | addressReply
  /-- gratuitous ARP or unsolicited Neighbour Advertisement: sub-port, 0 or 1 -/
  | gratuitous
  /-- PTP Delay_Req: sub-port, sequence -/
  | delayReq
  /-- a frame leaves a sub-port: sub-port, QP, length, 1 if from the control lane -/
  | frame
  /-- RDMA Read issued for host data: QP, bytes -/
  | pull
  /-- MSI-X message: vector -/
  | msix
  /-- asynchronous event completion: controller, command identifier, DW0 -/
  | asyncEvent
  /-- NVMe command to a member: slot, command kind, arguments (15: Deallocate, with the first segment and the number of segments) -/
  | drive
  /-- a pin is driven: pin, level -/
  | pin
  /-- message to a witness or Pawn requester: connection, kind, fields -/
  | pawn
  /-- message on the peer link: kind, fields -/
  | peer
  /-- write with FUA to a member or to the metadata stream: kind, target, arguments (5: a member label, with all of its fields) -/
  | store
  /-- Frogspawn's answer: requester, 0 a pointer, 1 EMPTY, 2 an error; the pointer or the reason of R306 -/
  | buffer
  /-- SPI NOR operation: copy, kind -/
  | spi
  deriving DecidableEq, Repr

/-- One thing sent out. -/
structure Output where
  kind : OutKind
  args : List Nat
  deriving DecidableEq, Repr

/-- Effects that a rule times to the next Turn boundary; the boundary applies them in the order in which they were asked
for, after the bank swaps (R59). -/
inductive Deferred where
  /-- a packet or frame credited to the following Turn (R46) -/
  | command (i : Instr)
  /-- ETH_DROP_CLR.CLEAR of a sub-port -/
  | ethDropClear (unit : Nat)
  /-- XPT_QP_CTL.FORCE_ERR of a QP index -/
  | forceErr (qp : Nat)
  /-- WIN_READ.CLEAR_VIOL -/
  | clearViol
  /-- FSP_CLR.CLEAR -/
  | fspClear
  /-- GCH_CTL.EN written (R336) -/
  | cacheEnable (on : Bool)
  /-- CMP_CLR.CLEAR -/
  | cmpClear
  /-- CNT_CTL.PRELOAD (R634) -/
  | preload (counter value : Nat)
  /-- Key Activate takes effect (R395) -/
  | keyCurrent (nsid keyId : Nat) (reseal : Bool)
  /-- a release request on a STANDBY canister completes (R74) -/
  | standbyRelease (ctrl cid : Nat)
  /-- a PTP realignment (R53, R55): true at boot, false for RELOAD -/
  | align (boot : Bool)
  /-- enter ACTIVATING (R102 step 1) -/
  | activationHold
  /-- leave ACTIVATING (R102 step 8) -/
  | activationResume
  /-- sample the quotes that wait (R123) -/
  | quoteSample
  /-- a power set's members get the shutdown notification (R436 step 4) -/
  | setShutdown (set : Nat)
  /-- a reshape's BOUNDARY moves (R505) -/
  | boundaryMove (group boundary : Nat)
  /-- the anchor role becomes ACTIVE (R472) -/
  | anchorReady (role : Nat)
  /-- the anchor role leaves for FAILED (R451) -/
  | roleFailed (role : Nat)
  /-- a slot's drive-port state changes (R514): slot, state code, refusal reason or ladder step -/
  | drvTo (slot st arg : Nat)
  /-- a position changes state (R484): group, position, state code -/
  | posTo (group position st : Nat)
  /-- a set starts to stop (R436 step 1): set, cause (R687) -/
  | setStop (set cause : Nat)
  /-- CLEAR takes a slot channel from FAULT to IDLE (R548) -/
  | slotIdle (slot : Nat)
  /-- PWR_SLOT_CTL.PEAK_CLR -/
  | peakClear (slot : Nat)
  /-- write-class admission is held for a hand-over (R593 step 1) -/
  | handOverHold
  /-- step 1 of an FLR: the mailbox command in progress is abandoned (R614) -/
  | flrStop
  /-- containment ends (R618) -/
  | containRelease
  /-- the withdrawn or deposed canister acts (R588): the REASON of its RELEASE and of its YIELD -/
  | depose (release reason : Nat)
  deriving DecidableEq, Repr

end Sys2Proof.Machine
end

