-- ==== Sys2Proof/Machine/StTurn.lean ====
section
/-!
DEFINITION. Machine/StTurn.lean: state of TRN (chapter 02), CFG and the boot sequence (03), IDN and the fuses (04) and the
network ports (05). A register field without richer state behind it lives in the register file (State.regs).
-/

namespace Sys2Proof.Machine

/-- The discipline states of R52, in the order of their codes. -/
inductive Disc where
  | free | acquiring | locked | holdover
  deriving DecidableEq, Repr

/-- The Sync of which a measurement is being made: sender, sequence, its receive time and origin in units of 0.05 ns. -/
structure SyncMeas where
  source : Nat
  seq : Nat
  rx : Nat
  origin : Option Nat
  deriving DecidableEq, Repr

/-- TRN: the Turn counter, the local Turns since reset that timers count (R57), and its discipline (R47 to R58), the run of overruns of each job (R69, R70) and the Turn of the last SCH refill. -/
structure Trn where
  count : Nat
  ticks : Nat
  disc : Disc
  aligned : Bool
  slewing : Bool
  offset : Int
  corr : Int
  turnLen : Nat
  prevLen : Nat
  sinceAdjust : Nat
  goodSyncs : Nat
  syncArmed : Option Nat
  acqArmed : Option Nat
  reloadArmed : Option Nat
  alignPending : Bool
  sync : Option SyncMeas
  parent : Option Announce
  overrunRun : Tbl Nat
  lastRefill : Nat
  deriving DecidableEq, Repr

/-- Where the boot sequence of R89 stands. -/
inductive BootPhase where
  | held                                   -- SYS_RESET_N asserted
  | thermalHeld                            -- in reset until the board asserts SYS_RESET_N (R681)
  | training                               -- step 3
  | reading (copy : Nat) (fallback : Bool) -- step 5 on a copy
  | starting                               -- step 9
  | acquiring                              -- step 11
  | done
  deriving DecidableEq, Repr

/-- One SPI NOR copy region (R75): the copy its bytes spell, if any, and whether its header sector is erased. -/
structure SpiCopy where
  image : Option Image
  headerErased : Bool
  unreadable : Bool
  written : Nat
  deriving DecidableEq, Repr

/-- A Firmware Commit in progress (R99): who asked, the copy and the action. -/
structure CommitJob where
  ctrl : Nat
  cid : Nat
  copy : Nat
  action : Nat
  deriving DecidableEq, Repr

/-- How far a hitless activation has come (R102). -/
inductive ActStep where
  | waiting | holding | restarted | ready
  deriving DecidableEq, Repr

/-- A hitless activation (R102 to R104). -/
structure Activation where
  job : CommitJob
  step : ActStep
  prior : DevState
  guard : Option Nat
  deriving DecidableEq, Repr

/-- CFG: device state, boot sequence, SPI NOR copies, the running image, update and activation, and the cores. -/
structure Cfg where
  state : DevState
  locked : Bool
  phase : BootPhase
  resetAsserted : Bool
  spi : List SpiCopy
  sfdpQuad : Bool
  dramGib : Nat
  dramRate : Nat
  firstFault : Option (Nat × Nat)
  running : Option Image
  runningCopy : Nat
  fwDigest : Nat
  canister : Nat
  downloadSlot : Option Nat
  commit : Option CommitJob
  activation : Option Activation
  watchdogs : Tbl (List Nat)
  coreTasks : Tbl (List (Nat × Nat))
  release : Option (Nat × Nat)
  hotMain : Nat
  hotA : Nat
  hotB : Nat
  temperature : Int
  thermTrip : Bool
  frozenNs : List Nat
  frozenGroups : List Nat
  deriving DecidableEq, Repr

/-- One owner slot of the fuse array (R106, R108): its fields and their commit bits. -/
structure OwnerFuse where
  digest : Nat
  secret : Nat
  enrolled : Bool
  enrolCommit : Bool
  revoked : Bool
  revokeCommit : Bool
  spoiled : Bool
  spoilCommit : Bool
  deriving DecidableEq, Repr

/-- The fuse array (R106). The device certificate is held as the fields of R111 that the part reads, and its whole bytes. -/
structure Fuses where
  lot : Nat
  wafer : Nat
  dieX : Nat
  dieY : Nat
  stepping : Nat
  variant : Nat
  speedBin : Nat
  portDisable : Nat
  idSeed : Nat
  lxFwRoot : Nat
  certIdPub : Nat
  cert : Nat
  owners : List OwnerFuse
  svnFloor : Nat
  alignRec : Nat
  alignCommit : Bool
  tamperCount : Nat
  deriving DecidableEq, Repr

/-- What the running fuse programming writes (R665). -/
inductive FuseJob where
  | enrol (slot digest secret : Nat)
  | revoke (slot : Nat)
  | align (second : Nat)
  | svn (target ctrl cid : Nat)
  deriving DecidableEq, Repr

/-- A quote request (R122, R123): who asked, the nonce, and the sampled fields once sampled. -/
structure Quote where
  ctrl : Nat
  cid : Nat
  nonce : Nat
  sampled : Option (List Nat)
  deriving DecidableEq, Repr

/-- IDN: fuses, the derived identity key, fuse programming and quotes. -/
structure Idn where
  fuses : Fuses
  fuseOk : Bool
  vppFuse : Bool
  keyReady : Bool
  idPub : Nat
  job : Option FuseJob
  quotes : List Quote
  deriving DecidableEq, Repr

/-- The link states of R134, in the order of their codes. -/
inductive LinkState where
  | disabled | an | training | align | qualify | up
  deriving DecidableEq, Repr

/-- One sub-port (unit 2p for a, 2p + 1 for b) or peer lane (units 16, 17): link state, the Turns in which its timers were
armed, and the address replies of this Turn (R141). -/
structure Link where
  st : LinkState
  locked : Bool
  negArmed : Option Nat
  trainArmed : Option Nat
  alignArmed : Option Nat
  qualArmed : Option Nat
  lossArmed : Option Nat
  answered : Nat
  deriving DecidableEq, Repr

/-- A link before bring-up. -/
def Link.off : Link :=
  { st := .disabled, locked := false, negArmed := none, trainArmed := none, alignArmed := none, qualArmed := none,
    lossArmed := none, answered := 0 }

end Sys2Proof.Machine
end

