-- ==== Sys2Proof/Machine/ImageCheck.lean ====
section
/-!
DEFINITION. Machine/ImageCheck.lean: the checks that accept or reject an image copy: header (R78), section walk (R81 to R84),
field ranges (R85 and the section tables of the chapters), cross-checks (R86, R92, R293, R404, R452, R570, R685) and the
firmware package (R87).
-/

namespace Sys2Proof.Machine

/-- Why a copy is rejected: fault code (R95), section TYPE, byte offset. -/
structure Reject where
  code : Nat
  section_ : Nat
  loc : Nat
  deriving DecidableEq, Repr

/-- Eight years in TAI seconds (R50). -/
def eightYears : Nat := 252460800

/-- The header checks of R78, but for SECTION_COUNT against the sections found. -/
def headerOk (h : ImgHeader) (variant : Nat) : Bool :=
  h.magic == 0x4943584C && h.format == 1 && h.hdrLen == 256 && h.imageLen % 8 == 0 && decide (1024 ≤ h.imageLen) &&
  decide (h.imageLen ≤ 16777216) && decide (1 ≤ h.sectionCount) && decide (h.sectionCount ≤ 1024) &&
  decide (h.flags ≤ 1) && decide (1 ≤ h.sequence) && decide (h.sequence ≤ 0xFFFFFFFE) &&
  (h.variant == 0x2400 || h.variant == 0x2416) && h.variant == variant && h.stepping == 0xB0 && h.resv1C == 0 &&
  decide (h.buildTime < 2 ^ 48) && decide (h.ownerSlot ≤ 3) && h.resv29 == 0 && h.resv69 == 0

/-- The trailer layout of R79. -/
def trailerOk (t : ImgTrailer) : Bool := t.magic == 0x5343584C && t.resv04 == 0 && t.resvBA == 0

/-- The digest of a copy (R79). -/
def copyDigest (i : Image) : Nat := Config.shake256 (Config.imageBytes i.header i.sections) 64

/-- A value's length rounded up to the next multiple of 8 (R81). -/
def padded (n : Nat) : Nat := (n + 7) / 8 * 8

/-- The sections of a copy with the byte offset of each header (R81). -/
def sectionOffsets : Nat → List ImgSection → List (Nat × ImgSection)
  | _, [] => []
  | off, x :: xs => (off, x) :: sectionOffsets (off + 8 + padded x.length) xs

/-- Section types that the section table knows (R84). -/
def knownType (t : Nat) : Bool := decide (1 ≤ t) && decide (t ≤ 0x15)

/-- Section types marked single (R82, R84). -/
def singleType (t : Nat) : Bool := decide (1 ≤ t) && decide (t ≤ 0x12)

/-- Section types that a copy must hold, in ascending order (R84). -/
def requiredTypes : List Nat := [1, 2, 3, 4, 5, 6, 8, 9, 0xB, 0xF, 0x10, 0x12, 0x13]

/-- Position of the first non-zero byte. -/
def firstNonZero : Nat → List Byte → Option Nat
  | _, [] => none
  | n, b :: bs => if b = 0 then firstNonZero (n + 1) bs else some n

/-- The structure rules of R81 to R83 for one section at `off`, after a section of type `prev`; the trailer begins at `lim`. -/
def sectionFault (lim prev off : Nat) (x : ImgSection) : Option Reject :=
  if x.flags > 1 || x.resv3 != 0 || x.length % 4 != 0 || decide (off + 8 + x.length > lim) then some ⟨0xB, x.type, off⟩
  else if x.type < prev || (x.type == prev && singleType x.type) then some ⟨0xB, x.type, off⟩
  else if !knownType x.type && x.flags % 2 == 1 then some ⟨0xB, x.type, off⟩
  else if x.padding.length != padded x.length - x.length then some ⟨0xB, x.type, off⟩
  else match firstNonZero 0 x.padding with
    | some n => some ⟨0xB, x.type, off + 8 + x.length + n⟩
    | none => none

/-- Walk the sections in order; the first fault rejects. -/
def walkFault (lim : Nat) : Nat → List (Nat × ImgSection) → Option Reject
  | _, [] => none
  | prev, (off, x) :: xs =>
    match sectionFault lim prev off x with
    | some r => some r
    | none => walkFault lim x.type xs

/-- Where the last section ends. -/
def sectionsEnd (i : Image) : Nat := i.sections.foldl (fun o x => o + 8 + padded x.length) 256

/-- The section walk of R81 to R84, with SECTION_COUNT of R78. -/
def structureFault (i : Image) : Option Reject :=
  let lim := i.header.imageLen - 256
  let secs := sectionOffsets 256 i.sections
  match walkFault lim 0 secs with
  | some r => some r
  | none =>
    if sectionsEnd i != lim then some ⟨0xB, 0, sectionsEnd i⟩
    else if i.sections.length != i.header.sectionCount then some ⟨0x6, 0, 0xC⟩
    else match requiredTypes.find? (fun t => i.sections.all (fun x => x.type != t)) with
      | some t => some ⟨0xB, t, ((secs.find? (fun p => decide (p.2.type > t))).map (fun p => p.1)).getD lim⟩
      | none => none

/-- The unknown sections that R83 skips, in order, one image-notice each. -/
def skippedTypes (i : Image) : List Nat := (i.sections.filter (fun x => !knownType x.type)).map (fun x => x.type)

end Sys2Proof.Machine

namespace Sys2Proof

open Sys2Proof.Machine

/-- The values of the sections of one type, in order. -/
def Image.values (i : Image) (t : Nat) : List SecValue := (i.sections.filter (fun x => x.type == t)).map (fun x => x.value)

/-- The firmware package of a copy. -/
def Image.fw (i : Image) : Option FwPackage := (i.values 1).findSome? fun | .firmware f => some f | _ => none
/-- PLATFORM. -/
def Image.platform (i : Image) : Option SecPlatform := (i.values 2).findSome? fun | .platform f => some f | _ => none
/-- TIMEBASE. -/
def Image.timebase (i : Image) : Option SecTimebase := (i.values 3).findSome? fun | .timebase f => some f | _ => none
/-- SERVICE_EP. -/
def Image.serviceEp (i : Image) : Option SecServiceEp := (i.values 4).findSome? fun | .serviceEp f => some f | _ => none
/-- NETWORK. -/
def Image.network (i : Image) : Option SecNetwork := (i.values 5).findSome? fun | .network f => some f | _ => none
/-- TRANSPORT. -/
def Image.transport (i : Image) : Option SecTransport := (i.values 6).findSome? fun | .transport f => some f | _ => none
/-- SCHEDULER, or its defaults (R247). -/
def Image.scheduler (i : Image) : SecScheduler :=
  ((i.values 7).findSome? fun | .scheduler f => some f | _ => none).getD ⟨[], [], [], [], []⟩
/-- POOLS. -/
def Image.pools (i : Image) : List PoolCfg := ((i.values 8).findSome? fun | .pools f => some f | _ => none).getD []
/-- CACHE. -/
def Image.cache (i : Image) : Option SecCache := (i.values 9).findSome? fun | .cache f => some f | _ => none
/-- COMPRESSION, or its defaults (R85, R357). -/
def Image.compression (i : Image) : SecCompression :=
  ((i.values 0xA).findSome? fun | .compression f => some f | _ => none).getD ⟨64, 1, 0, []⟩
/-- LAYOUT. -/
def Image.layout (i : Image) : Option SecLayout := (i.values 0xB).findSome? fun | .layout f => some f | _ => none
/-- The lowest-numbered spare, or 31 for none (R452). -/
def lowestSpare (l : SecLayout) : Nat :=
  ((List.range 24).find? (fun s => l.members.any (fun m => m.slot == s && m.group == 15))).getD 31
/-- JOURNAL, or its defaults (R85, R452). -/
def Image.journal (i : Image) : SecJournal :=
  ((i.values 0xC).findSome? fun | .journal f => some f | _ => none).getD ⟨8, 48, (i.layout.map lowestSpare).getD 31⟩
/-- REBUILD, or its defaults (R85, R500). -/
def Image.rebuild (i : Image) : SecRebuild :=
  ((i.values 0xD).findSome? fun | .rebuild f => some f | _ => none).getD ⟨10, 4, 16, 2, 8, 16⟩
/-- DRIVES, or its defaults (R85, R516). -/
def Image.drives (i : Image) : SecDrives := ((i.values 0xE).findSome? fun | .drives f => some f | _ => none).getD ⟨4, 6, 1⟩
/-- POWER. -/
def Image.power (i : Image) : Option SecPower := (i.values 0xF).findSome? fun | .power f => some f | _ => none
/-- FAILOVER. -/
def Image.failover (i : Image) : Option SecFailover := (i.values 0x10).findSome? fun | .failover f => some f | _ => none
/-- EVENTS, or its defaults (R629). -/
def Image.events (i : Image) : SecEvents :=
  ((i.values 0x11).findSome? fun | .events f => some f | _ => none).getD ⟨1, 2, [], 9, 9, []⟩
/-- ROLES: principals with their role masks. -/
def Image.roles (i : Image) : List (Nat × Nat) := ((i.values 0x12).findSome? fun | .roles f => some f | _ => none).getD []
/-- TENANT sections. -/
def Image.tenants (i : Image) : List SecTenant := (i.values 0x13).filterMap fun | .tenant f => some f | _ => none
/-- NAMESPACE sections. -/
def Image.namespaces (i : Image) : List SecNamespace := (i.values 0x14).filterMap fun | .namespaceSlot f => some f | _ => none
/-- TALLY sections. -/
def Image.tallies (i : Image) : List SecTally := (i.values 0x15).filterMap fun | .tally f => some f | _ => none

end Sys2Proof

namespace Sys2Proof.Machine

/-- Does a number lie in a range, ends included? -/
def within (lo v hi : Nat) : Bool := decide (lo ≤ v) && decide (v ≤ hi)

/-- Is a number a power of two? -/
def isPow2 (v : Nat) : Bool := decide (0 < v) && 2 ^ Nat.log2 v == v

/-- No two equal elements. -/
def noRepeats : List Nat → Bool
  | [] => true
  | x :: xs => !xs.contains x && noRepeats xs

/-- A unicast MAC address, as a 48-bit number in network order. -/
def unicastMac (m : Nat) : Bool := m != 0 && decide (m < 2 ^ 48) && !bitOf m 40

/-- A unicast IPv4 address. -/
def unicastV4 (a : Nat) : Bool := a != 0 && decide (a < 0xE0000000)

/-- A unicast IPv6 address. -/
def unicastV6 (a : Nat) : Bool := a != 0 && decide (a < 0xFF * 2 ^ 120)

/-- The addresses of the enabled sub-ports: MAC, IPv4, IPv6. -/
def subPortAddrs (n : SecNetwork) : List (Nat × Nat × Nat) :=
  n.ports.flatMap fun p =>
    if !p.en then [] else if p.split then [(p.macA, p.ipv4A, p.ipv6A), (p.macB, p.ipv4B, p.ipv6B)]
    else [(p.macA, p.ipv4A, p.ipv6A)]

/-- The field ranges of a parameter-table entry (R225, R229, R239, R244): entry index, data words. -/
def paramOk (i : Nat) (w : List Nat) : Bool :=
  let d := fun k => w.getD k 0
  let rate := fun v => decide (v ≤ 13107200)
  let burst := fun v => within 4352 v 16777215
  let lenOvh := fun v =>                       -- LEN in [16]; OVH, signed, in [31:24], -32 to +63 (R228)
    let o := bitsOf v 24 8
    (decide (o ≤ 63) || decide (224 ≤ o)) && decide (v < 2 ^ 32)
  if i < 16384 then
    rate (d 0) && burst (d 1) && rate (d 2) && burst (d 3) && within 1 (bitsOf (d 4) 8 8) 255 && lenOvh (d 4)
  else if i < 16640 then
    rate (d 0) && rate (d 1) && decide (d 0 ≤ d 1) && burst (d 2) && burst (d 3) && within 1 (bitsOf (d 4) 8 8) 255 &&
      lenOvh (d 4) && rate (d 5) && burst (d 6)
  else if i < 16648 then
    rate (d 0) && burst (d 1) && rate (d 2) && burst (d 3) && lenOvh (d 4)
  else if i < 24840 then
    let mode := bitsOf (d 4) 0 2
    decide (mode ≤ 2) && decide (bitsOf (d 4) 5 2 ≤ 2) && lenOvh (d 4) &&
      (mode == 0 || (rate (d 0) && burst (d 1) && burst (d 3) && (mode == 1 || (rate (d 2) && decide (d 0 ≤ d 2)))))
  else false

/-- A gate list (R232): at most 256 entries, reserved bits 0. -/
def gateListOk (l : List Nat) : Bool := decide (l.length ≤ 256) && l.all (fun e => decide (e < 2 ^ 24))

/-- The field ranges of one section (R85, R133, R160, R200, R247, R324, R357, R386, R403, R446, R452, R500, R516, R537, R538,
R570, R603, R629). `i` is the whole copy, for the fields whose range names another section. -/
def valueRangeOk (i : Image) (portDisable : Nat) : SecValue → Bool
  | .firmware _ => true
  | .platform p =>
    within 4800 p.dramMinRate 8800 && p.dramMinRate % 800 == 0 && decide (p.priorityDir ≤ 1) && within 4 p.stagingHold 256 &&
      decide (p.gatherCache ≤ 128)
  | .timebase t =>
    decide (t.epoch < 2 ^ 48) && decide (t.ptpPort ≤ 7) && decide (t.ptpSub ≤ 1) && within 1 t.acqTimeout 120 &&
      decide (t.ptpDomain ≤ 127)
  | .serviceEp e =>
    within 1 e.subsysVendor 0xFFFE && within 1 e.subsysId 0xFFFE && decide (e.classCode < 2 ^ 24) && isPow2 e.bar2Size &&
      within (2 ^ 24) e.bar2Size (2 ^ 30) && within 1 e.maxSpeed 5 && [1, 2, 4].contains e.maxWidth &&
      [128, 256, 512].contains e.mps && decide (e.dsnEn ≤ 1)
  | .network n =>
    n.ports.length == 8 &&
      (List.range 8).all (fun p => match n.ports[p]? with
        | some c => !c.en || !bitOf portDisable p
        | none => true) &&
      [1024, 2048, 4096].contains n.pathMtu && decide (n.dscpData ≤ 63) && decide (n.dscpCnp ≤ 63) &&
      decide (n.dscpPtp ≤ 63) && within 1 n.fecDegrade 65535 &&
      n.ports.all (fun c => decide (c.media ≤ 1) && decide (c.anMode ≤ 1) && decide (c.rxPol ≤ 15) && decide (c.txPol ≤ 15) &&
        decide (-32768 ≤ c.tsAdjRx) && decide (c.tsAdjRx ≤ 32767) && decide (-32768 ≤ c.tsAdjTx) && decide (c.tsAdjTx ≤ 32767)) &&
      (subPortAddrs n).all (fun a => unicastMac a.1 && unicastV4 a.2.1 && unicastV6 a.2.2) &&
      noRepeats ((subPortAddrs n).map (·.1)) && noRepeats ((subPortAddrs n).map (·.2.1)) &&
      noRepeats ((subPortAddrs n).map (·.2.2))
  | .transport t =>
    within 1 t.qpPerHost 65536 && isPow2 t.cwndMin && isPow2 t.cwndMax && decide (4096 ≤ t.cwndMin) &&
      decide (t.cwndMax ≤ 2 ^ 24) && decide (t.cwndMin ≤ t.cwndMax) && decide (t.lxOptions ≤ 3) && within 1 t.ackTimeout 20 &&
      within 1 t.retryCnt 7 && decide (t.rnrRetry ≤ 7) && isPow2 t.cwndInit && within t.cwndMin t.cwndInit t.cwndMax &&
      t.aiBytes % 256 == 0 && within 256 t.aiBytes 65536 && within 1 t.rttTarget 512 && decide (t.pinQp ≤ 512) &&
      decide (t.trigMax ≤ 4096) && within 1 t.winPerHost 65536 && isPow2 t.winMaxLen &&
      within 65536 t.winMaxLen (2 ^ 28)
  | .scheduler c =>
    c.caps.all (fun x => within 1 x.egCap 13107200 && within 1 x.inCap 13107200 && decide (x.defNode ≤ 29) &&
        within 4352 x.defBurst 16777215) &&
      c.nodes.all (fun x => decide (x.1 < 256) && paramOk (16384 + x.1) x.2) &&
      c.ports.all (fun x => decide (x.1 < 8) && paramOk (16640 + x.1) x.2) &&
      c.gcl.all (fun x => decide (x.1 < 8) && gateListOk x.2) &&
      c.dscpMap.all (fun x => decide (x.1 < 64) && decide (x.2 ≤ 2))
  | .pools ps =>
    ps.length == 16 && ps.all (fun p => decide (p.cls ≤ 2) && decide (p.role ≤ 3) && decide (p.amber ≤ 50) &&
        decide (p.red < p.amber) && decide (p.black < p.red) && decide (1 ≤ p.black)) &&
      decide ((ps.map (·.count)).sum ≤ 2 ^ 26)
  | .cache c =>
    c.wayMask.length == 8 && c.rebuildMask.length == 8 && (c.wayMask ++ c.rebuildMask).all (fun m => within 1 m 0xFFFF) &&
      within 1 c.salRate 16 && decide (c.pinLimit ≤ 50)
  | .compression c =>
    decide (c.noGain ≤ 4096) && decide (c.tables ≤ 1) && decide (c.outClass ≤ 1) && decide (c.nsTables.length ≤ 1024) &&
      c.nsTables.all (fun x => decide (x.2 ≤ 1) && i.namespaces.any (fun n => n.nsid == x.1))
  | .layout l =>
    l.members.all (fun m => decide (m.slot < 24) && (decide (m.group ≤ 9) || m.group == 15) && decide (m.powerSet ≤ 7) &&
        (match l.groups.find? (fun g => g.group == m.group) with
          | some g => decide (m.position ≤ g.width + 1)
          | none => m.group == 15 || decide (m.position ≤ 11))) &&
      noRepeats (l.members.map (·.slot)) &&
      (List.range 10).all (fun g => noRepeats ((l.members.filter (fun m => m.group == g)).map (·.position))) &&
      l.groups.all (fun g => decide (g.group ≤ 7) && within 4 g.kMin g.kMax && decide (g.kMax ≤ 22) &&
        within g.kMin g.width g.kMax && decide (g.append ≤ 1)) &&
      noRepeats (l.groups.map (·.group)) &&
      l.anchors.length == 3 && noRepeats l.anchors && l.anchors.all (fun a => l.members.any (fun m => m.slot == a)) &&
      within 1 l.gatherHold 4096 && within 4096 l.closeHold (2 ^ 24) && within 5 l.readyTimeout 300 &&
      decide (l.idleOff ≤ 1440) && within 1 l.reservePct 20 && within (l.reservePct + 1) l.compactPct 50 &&
      within 64 l.metadataGib 4096
  | .journal j =>
    within 1 j.anchorCap 8 && within 16 j.liveCap 48 && (decide (j.standbyAnchor < 24) || j.standbyAnchor == 31)
  | .rebuild r =>
    within 1 r.resyncWindow 60 && within 1 r.rbFloor 60 && within r.rbFloor r.rbCeil 60 && within 1 r.rsFloor 60 &&
      within r.rsFloor r.rsCeil 60 && within 1 r.scCeil 60
  | .drives d => within 1 d.cmdTimeout 60 && within 1 d.linkMin 6 && decide (d.formatNew ≤ 1)
  | .power p =>
    within 50 p.insertDelay 2000 && within 4 p.ilimSlot 64 && within 8 p.ilimFeed 64 && within 1 p.faultTimer 50 &&
      within 90 p.uv 115 && within 125 p.ov 140 && within (p.uv + 3) p.warn 118 && within 1 p.shuntSlot 255 &&
      within 1 p.shuntFeed 255 && decide (p.feedPri ≤ 2) && within 1 p.returnHold 600 && within 1 p.brownoutHold 20 &&
      within 1 p.stagger 24 && within 1 p.retryDelay 600 && decide (p.maxRetry ≤ 15) &&
      within 160 (p.ilimSlot * p.shuntSlot) 4000 && within 200 (p.ilimFeed * p.shuntFeed) 5000
  | .failover f =>
    decide (f.shelfId ≤ 1023) && within 1 f.witnesses.length 4 &&
      f.witnesses.all (fun w => decide (w.kind ≤ 1) && unicastMac w.mac && decide (w.subPort < 16) &&
        (w.kind == 1 || (decide (w.shelfId ≤ 1023) && decide (w.canister ≤ 1)))) &&
      decide (f.witnessFor.length ≤ 64) && f.witnessFor.all (fun w => decide (w.1 ≤ 1023)) &&
      decide (f.peers.length ≤ 64) && f.peers.all (fun p => decide (p.shelfId ≤ 1023)) &&
      decide (f.replicas.length ≤ 256) &&
      f.replicas.all (fun r => decide (r.mode ≤ 1) && f.peers.any (fun p => p.shelfId == r.peerShelf))
  | .events e =>
    within 1 e.ringMin 4 && within 1 e.aenMin 4 && e.routes.all (fun r => decide (r.1 < 256) && decide (r.2 ≤ 255)) &&
      decide (e.snapPeriodLog ≤ 20) && decide (e.bwWindowLog ≤ 20) && e.ovfEn.all (fun c => decide (c < 384))
  | .roles ps => within 1 ps.length 64 && ps.all (fun p => decide (p.2 ≤ 15))
  | .tenant t =>
    within 1 t.tenantId 4095 && within 1 t.hostNqns.length 64 && decide (t.fallback ≤ 1) &&
      noRepeats (i.tenants.map (·.tenantId)) && noRepeats (i.tenants.flatMap (·.hostNqns)) &&
      decide ((i.tenants.map (·.keyQuota)).sum ≤ 65536)
  | .namespaceSlot n =>
    within 1 n.nsid 1024 && decide (n.nsType ≤ 2) && (n.lbaSize == 4096 || n.lbaSize == 4160) && within 1 n.maxCap (2 ^ 48) &&
      noRepeats (i.namespaces.map (·.nsid))
  | .tally t =>
    t.width == 10 && (t.group == 8 || t.group == 9) && noRepeats (i.tallies.map (·.group)) && t.members.length == 12 &&
      t.members.all (fun m => decide (m.1 < 24)) && decide (t.baseLba ≤ 2 ^ 40) && within 1 t.rows (2 ^ 32) &&
      i.namespaces.any (fun n => n.nsid == t.nsid && n.nsType == 2)
  | .unknown _ => true

/-- Does a section's value hold the fields of its type? -/
def valueFits (x : ImgSection) : Bool :=
  match x.type, x.value with
  | 1, .firmware _ => true | 2, .platform _ => true | 3, .timebase _ => true | 4, .serviceEp _ => true
  | 5, .network _ => true | 6, .transport _ => true | 7, .scheduler _ => true | 8, .pools _ => true
  | 9, .cache _ => true | 0xA, .compression _ => true | 0xB, .layout _ => true | 0xC, .journal _ => true
  | 0xD, .rebuild _ => true | 0xE, .drives _ => true | 0xF, .power _ => true | 0x10, .failover _ => true
  | 0x11, .events _ => true | 0x12, .roles _ => true | 0x13, .tenant _ => true | 0x14, .namespaceSlot _ => true
  | 0x15, .tally _ => true | _, .unknown _ => true
  | _, _ => false

/-- The range checks of R85: the first section whose fields fail. -/
def rangeFault (i : Image) (portDisable : Nat) : Option Reject :=
  (sectionOffsets 256 i.sections).findSome? fun p =>
    if knownType p.2.type && (!valueFits p.2 || p.2.value matches .unknown _ || !valueRangeOk i portDisable p.2.value) then
      some ⟨0xC, p.2.type, p.1⟩
    else none

/-- Bytes of a pool class (R292). -/
def classBytes (c : Nat) : Nat := if c = 0 then 4096 else if c = 1 then 65536 else 1048576

/-- Extents of a namespace of 256 LBAs each (R258). -/
def extentsOf (lbas : Nat) : Nat := ceilDiv lbas 256

/-- Bytes of the extent map of all declared native namespaces (R685, R416). -/
def extentMapBytes (i : Image) : Nat :=
  ((i.namespaces.filter (fun n => decide (n.nsType ≤ 1))).map (fun n => 32 * extentsOf n.maxCap)).sum

/-- Where the pools' DRAM regions end, each aligned to its class size (R295). -/
def poolBytes (ps : List PoolCfg) : Nat :=
  ps.foldl (fun off p => if p.count = 0 then off else ceilDiv off (classBytes p.cls) * classBytes p.cls + p.count * classBytes p.cls) 0

/-- The partitions of R685, in bytes. -/
def dramNeed (i : Image) : Nat :=
  let gib := 2 ^ 30
  let mib := 2 ^ 20
  let ps := i.pools
  4 * gib + (i.platform.map (·.gatherCache)).getD 64 * gib + poolBytes ps + 12 * (ps.map (·.count)).sum + 16 * mib + 16 * mib +
    (4 * ((ps.filter (fun p => p.cls == 1 && p.role == 0)).map (·.count)).sum + 16 * mib) + extentMapBytes i +
    256 * mib * ((i.layout.map (·.groups.length)).getD 0)

/-- Is a sub-port of a copy enabled? -/
def subPortEnabled (n : SecNetwork) (port sub : Nat) : Bool :=
  match n.ports[port]? with
  | some c => c.en && (sub == 0 || (sub == 1 && c.split))
  | none => false

/-- The epoch check of R92 (R50): against BUILD_TIME while the record is blank, else against the record. -/
def epochOk (epoch buildTime : Nat) (record : Option Nat) : Bool :=
  match record with
  | none => decide (epoch ≤ buildTime)
  | some r => decide (epoch ≤ r) && decide (r - epoch ≤ eightYears)

/-- The way masks of R86 and R323: with a TALLY section the tally mask is exactly 0x8000 and no other class holds way 15. -/
def tallyMasksOk (ms : List Nat) : Bool :=
  (List.range 8).all fun c => if c = 6 then ms.getD c 0 == 0x8000 else !bitOf (ms.getD c 0) 15

/-- The cross-checks of R86 with those of R247, R293, R404, R452 and R570; the section that the failing check names. -/
def crossFault (i : Image) (f : Fuses) (dramGib idPub : Nat) : Option Reject :=
  let bad := fun (sec : Nat) => some (Reject.mk 0xD sec 0)
  let record := if f.alignCommit then some f.alignRec else none
  match i.network, i.timebase, i.layout, i.cache, i.failover with
  | some net, some tb, some lay, some cache, some fo =>
    let natives := lay.groups
    let membersOf := fun g => lay.members.filter (fun m => m.group == g)
    let setGroups := fun (set : Nat) => (lay.members.filter (fun m => m.powerSet == set && m.group ≤ 9)).map (·.group)
    if i.header.variant != f.variant then bad 0
    else if lay.members.any (fun m => bitOf f.portDisable (8 + m.slot)) then bad 0xB
    else if f.variant == 0x2416 && natives.any (fun g => decide (g.kMax > 14) || decide (g.kMin > 14)) then bad 0xB
    else if dramNeed i > dramGib * 2 ^ 30 then bad 2
    else if lay.anchors.any (fun a => !lay.members.any (fun m => m.slot == a && decide (m.group ≤ 7))) then bad 0xB
    else if (List.range 8).any (fun s => (setGroups s).any (fun g => decide (g ≤ 7)) && (setGroups s).any (fun g => decide (8 ≤ g)))
      then bad 0xB
    else if !i.tallies.isEmpty && !(tallyMasksOk cache.wayMask && tallyMasksOk cache.rebuildMask) then bad 9
    else if i.namespaces.any (fun n => !i.tenants.any (fun t => t.tenantId == n.tenant)) then bad 0x14
    else if i.namespaces.any (fun n =>
        if n.nsType == 2 then !i.tallies.any (fun t => t.nsid == n.nsid) || n.lbaSize != 4160 else n.lbaSize == 4160) then bad 0x14
    else if !subPortEnabled net tb.ptpPort tb.ptpSub || !epochOk tb.epoch i.header.buildTime record then bad 3
    else if net.ports.any (fun c => c.split) && i.scheduler.caps.any (fun c => decide (c.defNode > 13)) then bad 7
    else if !(i.pools.any (fun p => p.role == 0 && p.cls == 1 && p.count != 0) &&
        i.pools.any (fun p => p.role == 1 && p.cls == 1 && p.count != 0) &&
        i.pools.any (fun p => p.role == 2 && p.cls == 0 && p.count != 0) &&
        i.pools.any (fun p => p.role == 3 && p.cls == 1 && p.count != 0) &&
        i.pools.any (fun p => p.role == 3 && p.cls == 2 && p.count != 0)) then bad 8
    else if natives.isEmpty || natives.any (fun g => (membersOf g.group).length != g.width + 2) then bad 0xB
    else if (List.range 10).any (fun g => decide (((membersOf g).map (·.powerSet)).eraseDups.length > 1)) then bad 0xB
    else if lay.metadataGib * 2 ^ 30 < 2 * extentMapBytes i + 16 * 2 ^ 30 then bad 0xB
    else if i.journal.standbyAnchor != 31 &&
        !lay.members.any (fun m => m.slot == i.journal.standbyAnchor && m.group == 15) then bad 0xC
    else if fo.witnesses.any (fun w => w.kind == 0 && (w.shelfId == fo.shelfId || w.pub == idPub)) ||
        fo.witnessFor.any (fun w => w.1 == fo.shelfId) then bad 0x10
    else none
  | _, _, _, _, _ => bad 0

/-- The 64-byte digest of the package header bytes 0x00 to 0x87 (R87). -/
def fwHeaderDigest (f : FwPackage) : Nat :=
  Config.shake256 (leBytes 4 f.magic ++ leBytes 2 f.format ++ leBytes 1 f.svn ++ leBytes 1 f.resv07 ++ leBytes 4 f.codeLen ++
    leBytes 64 f.codeDigest ++ leBytes 57 f.fwPub ++ leBytes 3 f.resv85) 64

/-- The firmware package checks of R87, in row order, then the code digest: true when all pass. -/
def firmwareOk (f : FwPackage) (sectionLen : Nat) (fuses : Fuses) : Bool :=
  f.magic == 0x5746584C && f.format == 1 && within fuses.svnFloor f.svn 255 && f.resv07 == 0 && f.codeLen % 4 == 0 &&
    within 4 f.codeLen (2 ^ 23) && f.codeLen + 256 == sectionLen &&
    Config.shake256 (leBytes 57 f.fwPub) 64 == fuses.lxFwRoot && f.resv85 == 0 &&
    Config.edVerify f.fwPub (leBytes 64 (fwHeaderDigest f)) f.signature && f.resvFA == 0 &&
    Config.shake256 (Config.codeBytes f.code f.codeLen) 64 == f.codeDigest

/-- An owner slot that signs images and unwraps keys: enrolled, not revoked, not spoiled (R80, R108, R117). -/
def ownerUsable (o : OwnerFuse) : Bool :=
  o.enrolled && o.enrolCommit && !(o.revoked && o.revokeCommit) && !(o.spoiled && o.spoilCommit)

/-- Is any owner slot usable (R80, R119)? -/
def anyOwner (f : Fuses) : Bool := f.owners.any ownerUsable

/-- The signature rule of R80. -/
def signatureOk (i : Image) (f : Fuses) : Bool :=
  match f.owners[i.header.ownerSlot]? with
  | some o => ownerUsable o && Config.shake256 (leBytes 57 i.header.ownerPub) 64 == o.digest && trailerOk i.trailer &&
      Config.edVerify i.header.ownerPub (leBytes 64 i.trailer.digest) i.trailer.signature
  | none => false

/-- The length of the FIRMWARE section. -/
def fwSectionLen (i : Image) : Nat := ((i.sections.find? (fun x => x.type == 1)).map (·.length)).getD 0

/-- Steps 5 to 7 of R89 on a copy: the first check that fails rejects it. -/
def copyFault (i : Image) (f : Fuses) (dramGib idPub : Nat) : Option Reject :=
  if copyDigest i != i.trailer.digest then some ⟨0x7, 0, 0⟩
  else if !signatureOk i f then some ⟨0x8, 0, 0⟩
  else if (match i.fw with | some p => !firmwareOk p (fwSectionLen i) f | none => false) then some ⟨0xA, 1, 0⟩
  else match structureFault i with
    | some r => some r
    | none => match rangeFault i f.portDisable with
      | some r => some r
      | none => crossFault i f dramGib idPub

/-- F-class sections (R84), which a hitless activation must find identical (R101). -/
def fClass (t : Nat) : Bool := [2, 3, 4, 5, 8, 9, 0x15].contains t

/-- The F-class sections of a copy. -/
def fSections (i : Image) : List ImgSection := i.sections.filter (fun x => fClass x.type)

end Sys2Proof.Machine
end

