-- ==== Sys2Proof/Machine/RegMap.lean ====
section
/-!
DEFINITION. Machine/RegMap.lean: every register field of the BAR0 blocks as the chapters' register tables and field
maps give it (R10, R14, R643, R71). A field is located by the byte offset of its register in BAR0, its least significant
bit and its width; a register that repeats (per sub-port, pool, group, slot ...) carries the byte stride and count of its
unit, and a register array carries a second stride and count. `reset` is the field map's reset column; a field marked
fused or CAN_SEL is given live by the state that the fuses and pins hold.
-/

namespace Sys2Proof.Machine

/-- The access types of R14; `wclr` is the register whose field map says that a write of any value clears it. -/
inductive Acc where
  | ro | rw | wo | w1c | w1s | rwl | wclr
  deriving DecidableEq, Repr

/-- One register field: BAR0 byte offset, lowest bit, width, access type, reset value, stride and count of the unit it
repeats over, stride and count inside the unit. -/
structure Fld where
  off : Nat
  lo : Nat
  width : Nat
  acc : Acc
  reset : Nat
  stride1 : Nat
  count1 : Nat
  stride2 : Nat
  count2 : Nat
  deriving DecidableEq, Repr

/-- The bit address of instance (i, j) of a field: eight times its BAR0 byte offset, plus its lowest bit. -/
def Fld.key (f : Fld) (i j : Nat) : Nat := 8 * (f.off + i * f.stride1 + j * f.stride2) + f.lo

/-- TRN_CTL.RELOAD (02), W1S, reset 0: Realign the counter from PTP at the next boundary; honoured as R55 states -/
def Reg.TRN_CTL_RELOAD : Fld := ⟨0, 0, 1, .w1s, 0, 0, 1, 0, 1⟩

/-- TRN_CTL.PTP_PORT (02), RWL, reset 0: Port 0–7 carrying PTP -/
def Reg.TRN_CTL_PTP_PORT : Fld := ⟨0, 4, 4, .rwl, 0, 0, 1, 0, 1⟩

/-- TRN_CTL.PTP_SUB (02), RWL, reset 0: Sub-port when split: 0 = a, 1 = b -/
def Reg.TRN_CTL_PTP_SUB : Fld := ⟨0, 8, 1, .rwl, 0, 0, 1, 0, 1⟩

/-- TRN_CTL.ACQ_TIMEOUT (02), RWL, reset 10: Acquire timeout in seconds, 1–120. A value outside that range rejects the image copy -/
def Reg.TRN_CTL_ACQ_TIMEOUT : Fld := ⟨0, 16, 7, .rwl, 10, 0, 1, 0, 1⟩

/-- TRN_STATUS.STATE (02), RO, reset 0: 0 FREE, 1 ACQUIRING, 2 LOCKED, 3 HOLDOVER -/
def Reg.TRN_STATUS_STATE : Fld := ⟨4, 0, 2, .ro, 0, 0, 1, 0, 1⟩

/-- TRN_STATUS.ALIGNED (02), RO, reset 0: The counter was loaded from PTP time -/
def Reg.TRN_STATUS_ALIGNED : Fld := ⟨4, 2, 1, .ro, 0, 0, 1, 0, 1⟩

/-- TRN_STATUS.SLEWING (02), RO, reset 0: The servo is at its range limit -/
def Reg.TRN_STATUS_SLEWING : Fld := ⟨4, 3, 1, .ro, 0, 0, 1, 0, 1⟩

/-- TRN_COUNT (02): Turn counter in [47:0]; [63:48] read 0. Read it as one 64-bit access -/
def Reg.TRN_COUNT : Fld := ⟨8, 0, 64, .ro, 0, 0, 1, 0, 1⟩

/-- TRN_OFFSET (02): Last measured offset, signed ns, RO -/
def Reg.TRN_OFFSET : Fld := ⟨16, 0, 32, .ro, 0, 0, 1, 0, 1⟩

/-- TRN_EPOCH (02): Turn epoch, TAI seconds in [47:0], RWL, set from the image -/
def Reg.TRN_EPOCH : Fld := ⟨24, 0, 48, .rwl, 0, 0, 1, 0, 1⟩

/-- TRN_OVERRUN.SCH_REFILL (02), W1C, reset 0: Scheduler refill overran -/
def Reg.TRN_OVERRUN_SCH_REFILL : Fld := ⟨32, 0, 1, .w1c, 0, 0, 1, 0, 1⟩

/-- TRN_OVERRUN.XPT_CWND (02), W1C, reset 0: Window update overran -/
def Reg.TRN_OVERRUN_XPT_CWND : Fld := ⟨32, 1, 1, .w1c, 0, 0, 1, 0, 1⟩

/-- TRN_OVERRUN.FSP_THRESH (02), W1C, reset 0: Threshold evaluation overran -/
def Reg.TRN_OVERRUN_FSP_THRESH : Fld := ⟨32, 2, 1, .w1c, 0, 0, 1, 0, 1⟩

/-- TRN_OVERRUN.LAY_HOLD (02), W1C, reset 0: Hold-timer pass overran -/
def Reg.TRN_OVERRUN_LAY_HOLD : Fld := ⟨32, 3, 1, .w1c, 0, 0, 1, 0, 1⟩

/-- TRN_OVERRUN.CNT_SNAP (02), W1C, reset 0: Snapshot pass skipped -/
def Reg.TRN_OVERRUN_CNT_SNAP : Fld := ⟨32, 4, 1, .w1c, 0, 0, 1, 0, 1⟩

/-- TRN_OVERRUN.BG_CREDIT (02), W1C, reset 0: AXL or SAL credit pass overran -/
def Reg.TRN_OVERRUN_BG_CREDIT : Fld := ⟨32, 5, 1, .w1c, 0, 0, 1, 0, 1⟩

/-- CFG_STATE.STATE (03), RO, reset 0: State code (R72) -/
def Reg.CFG_STATE_STATE : Fld := ⟨1048576, 0, 3, .ro, 0, 0, 1, 0, 1⟩

/-- CFG_STATE.LOCKED (03), RO, reset 0: Boot lock is set -/
def Reg.CFG_STATE_LOCKED : Fld := ⟨1048576, 3, 1, .ro, 0, 0, 1, 0, 1⟩

/-- CFG_STATE.FORCE_SAFE (03), RO, reset 0: FORCE_SAFE_N was taken as asserted -/
def Reg.CFG_STATE_FORCE_SAFE : Fld := ⟨1048576, 4, 1, .ro, 0, 0, 1, 0, 1⟩

/-- CFG_BOOT.COPY (03), RO, reset 0: Running copy: 0 A, 1 B -/
def Reg.CFG_BOOT_COPY : Fld := ⟨1048580, 0, 1, .ro, 0, 0, 1, 0, 1⟩

/-- CFG_BOOT.FALLBACK (03), RO, reset 0: The first copy tried was rejected -/
def Reg.CFG_BOOT_FALLBACK : Fld := ⟨1048580, 1, 1, .ro, 0, 0, 1, 0, 1⟩

/-- CFG_BOOT.A_VALID (03), RO, reset 0: Copy A passed R78 -/
def Reg.CFG_BOOT_A_VALID : Fld := ⟨1048580, 2, 1, .ro, 0, 0, 1, 0, 1⟩

/-- CFG_BOOT.B_VALID (03), RO, reset 0: Copy B passed R78 -/
def Reg.CFG_BOOT_B_VALID : Fld := ⟨1048580, 3, 1, .ro, 0, 0, 1, 0, 1⟩

/-- CFG_BOOT.FW_SVN (03), RO, reset 0: SVN of the running firmware -/
def Reg.CFG_BOOT_FW_SVN : Fld := ⟨1048580, 8, 8, .ro, 0, 0, 1, 0, 1⟩

/-- CFG_SEQ (03): SEQUENCE of the running copy, RO -/
def Reg.CFG_SEQ : Fld := ⟨1048584, 0, 32, .ro, 0, 0, 1, 0, 1⟩

/-- CFG_FAULT.CODE (03), RO, reset 0: Fault code (R95) -/
def Reg.CFG_FAULT_CODE : Fld := ⟨1048588, 0, 8, .ro, 0, 0, 1, 0, 1⟩

/-- CFG_FAULT.COPY (03), RO, reset 0: Copy that faulted: 0 A, 1 B -/
def Reg.CFG_FAULT_COPY : Fld := ⟨1048588, 8, 1, .ro, 0, 0, 1, 0, 1⟩

/-- CFG_FAULT.SECTION (03), RO, reset 0: TYPE of the section at fault; 0 if none -/
def Reg.CFG_FAULT_SECTION : Fld := ⟨1048588, 16, 16, .ro, 0, 0, 1, 0, 1⟩

/-- CFG_FAULT_LOC (03): Byte offset of the fault in the copy, RO -/
def Reg.CFG_FAULT_LOC : Fld := ⟨1048592, 0, 32, .ro, 0, 0, 1, 0, 1⟩

/-- CFG_CTL.REBOOT (03), W1S, reset 0: Reset Daxzin; honoured in SAFE_HOLD and SHELF_IDLE only. In any other state the write is ignored and the configuration-violation event is raised -/
def Reg.CFG_CTL_REBOOT : Fld := ⟨1048596, 0, 1, .w1s, 0, 0, 1, 0, 1⟩

/-- CFG_DIGEST (03): DIGEST of the running copy, RO, 16 registers -/
def Reg.CFG_DIGEST : Fld := ⟨1048640, 0, 32, .ro, 0, 0, 1, 4, 16⟩

/-- IDN_LOT (04): LOT characters 0–6 in bytes 0–6, RO -/
def Reg.IDN_LOT : Fld := ⟨2097152, 0, 64, .ro, 0, 0, 1, 0, 1⟩

/-- IDN_DIE.WAFER (04), RO, reset fused: 1 to 25 -/
def Reg.IDN_DIE_WAFER : Fld := ⟨2097160, 0, 5, .ro, 0, 0, 1, 0, 1⟩

/-- IDN_DIE.DIE_X (04), RO, reset fused: Die column -/
def Reg.IDN_DIE_DIE_X : Fld := ⟨2097160, 8, 8, .ro, 0, 0, 1, 0, 1⟩

/-- IDN_DIE.DIE_Y (04), RO, reset fused: Die row -/
def Reg.IDN_DIE_DIE_Y : Fld := ⟨2097160, 16, 8, .ro, 0, 0, 1, 0, 1⟩

/-- IDN_DIE.STEPPING (04), RO, reset fused: 0xB0 -/
def Reg.IDN_DIE_STEPPING : Fld := ⟨2097160, 24, 8, .ro, 0, 0, 1, 0, 1⟩

/-- IDN_PART.VARIANT (04), RO, reset fused: 0x2400 or 0x2416 -/
def Reg.IDN_PART_VARIANT : Fld := ⟨2097164, 0, 16, .ro, 0, 0, 1, 0, 1⟩

/-- IDN_PART.SPEED_BIN (04), RO, reset fused: R106 -/
def Reg.IDN_PART_SPEED_BIN : Fld := ⟨2097164, 16, 4, .ro, 0, 0, 1, 0, 1⟩

/-- IDN_PART.SVN_FLOOR (04), RO, reset fused: Current floor, 0 to 255 -/
def Reg.IDN_PART_SVN_FLOOR : Fld := ⟨2097164, 20, 8, .ro, 0, 0, 1, 0, 1⟩

/-- IDN_STATUS.KEY_READY (04), RO, reset 0: Identity key derived and matched (R110) -/
def Reg.IDN_STATUS_KEY_READY : Fld := ⟨2097168, 0, 1, .ro, 0, 0, 1, 0, 1⟩

/-- IDN_STATUS.PROG_BUSY (04), RO, reset 0: Fuse programming is running -/
def Reg.IDN_STATUS_PROG_BUSY : Fld := ⟨2097168, 1, 1, .ro, 0, 0, 1, 0, 1⟩

/-- IDN_STATUS.PROG_ERR (04), W1C, reset 0: A programming read-back failed -/
def Reg.IDN_STATUS_PROG_ERR : Fld := ⟨2097168, 2, 1, .w1c, 0, 0, 1, 0, 1⟩

/-- IDN_STATUS.TAMPER_COUNT (04), RO, reset fused: 0 to 8 -/
def Reg.IDN_STATUS_TAMPER_COUNT : Fld := ⟨2097168, 8, 8, .ro, 0, 0, 1, 0, 1⟩

/-- IDN_SLOTS.ENROLLED (04), RO, reset fused: Slot s is enrolled -/
def Reg.IDN_SLOTS_ENROLLED_0 : Fld := ⟨2097172, 0, 1, .ro, 0, 0, 1, 0, 1⟩

/-- IDN_SLOTS.ENROLLED (04), RO, reset fused: Slot s is enrolled -/
def Reg.IDN_SLOTS_ENROLLED_1 : Fld := ⟨2097172, 4, 1, .ro, 0, 0, 1, 0, 1⟩

/-- IDN_SLOTS.ENROLLED (04), RO, reset fused: Slot s is enrolled -/
def Reg.IDN_SLOTS_ENROLLED_2 : Fld := ⟨2097172, 8, 1, .ro, 0, 0, 1, 0, 1⟩

/-- IDN_SLOTS.ENROLLED (04), RO, reset fused: Slot s is enrolled -/
def Reg.IDN_SLOTS_ENROLLED_3 : Fld := ⟨2097172, 12, 1, .ro, 0, 0, 1, 0, 1⟩

/-- IDN_SLOTS.REVOKED (04), RO, reset fused: Slot s is revoked -/
def Reg.IDN_SLOTS_REVOKED_0 : Fld := ⟨2097172, 1, 1, .ro, 0, 0, 1, 0, 1⟩

/-- IDN_SLOTS.REVOKED (04), RO, reset fused: Slot s is revoked -/
def Reg.IDN_SLOTS_REVOKED_1 : Fld := ⟨2097172, 5, 1, .ro, 0, 0, 1, 0, 1⟩

/-- IDN_SLOTS.REVOKED (04), RO, reset fused: Slot s is revoked -/
def Reg.IDN_SLOTS_REVOKED_2 : Fld := ⟨2097172, 9, 1, .ro, 0, 0, 1, 0, 1⟩

/-- IDN_SLOTS.REVOKED (04), RO, reset fused: Slot s is revoked -/
def Reg.IDN_SLOTS_REVOKED_3 : Fld := ⟨2097172, 13, 1, .ro, 0, 0, 1, 0, 1⟩

/-- IDN_SLOTS.SPOILED (04), RO, reset fused: Slot s is spoiled (R108) -/
def Reg.IDN_SLOTS_SPOILED_0 : Fld := ⟨2097172, 2, 1, .ro, 0, 0, 1, 0, 1⟩

/-- IDN_SLOTS.SPOILED (04), RO, reset fused: Slot s is spoiled (R108) -/
def Reg.IDN_SLOTS_SPOILED_1 : Fld := ⟨2097172, 6, 1, .ro, 0, 0, 1, 0, 1⟩

/-- IDN_SLOTS.SPOILED (04), RO, reset fused: Slot s is spoiled (R108) -/
def Reg.IDN_SLOTS_SPOILED_2 : Fld := ⟨2097172, 10, 1, .ro, 0, 0, 1, 0, 1⟩

/-- IDN_SLOTS.SPOILED (04), RO, reset fused: Slot s is spoiled (R108) -/
def Reg.IDN_SLOTS_SPOILED_3 : Fld := ⟨2097172, 14, 1, .ro, 0, 0, 1, 0, 1⟩

/-- IDN_ALIGN_REC (04): ALIGN_REC in [47:0], commit in [48], RO -/
def Reg.IDN_ALIGN_REC : Fld := ⟨2097176, 0, 64, .ro, 0, 0, 1, 0, 1⟩

/-- IDN_ID_PUB (04): ID_PUB in bytes 0–56, RO, 16 registers -/
def Reg.IDN_ID_PUB : Fld := ⟨2097216, 0, 32, .ro, 0, 0, 1, 4, 16⟩

/-- IDN_ENROL_CTL.SLOT (04), RW, reset 0: Owner slot 0 to 3 -/
def Reg.IDN_ENROL_CTL_SLOT : Fld := ⟨2097280, 0, 2, .rw, 0, 0, 1, 0, 1⟩

/-- IDN_ENROL_CTL.REVOKE (04), RW, reset 0: 0 enrol, 1 revoke -/
def Reg.IDN_ENROL_CTL_REVOKE : Fld := ⟨2097280, 2, 1, .rw, 0, 0, 1, 0, 1⟩

/-- IDN_ENROL_CTL.GO (04), W1S, reset 0: Start; reads 1 until done -/
def Reg.IDN_ENROL_CTL_GO : Fld := ⟨2097280, 3, 1, .w1s, 0, 0, 1, 0, 1⟩

/-- IDN_ENROL_CTL.RESULT (04), RO, reset 0: 0 none; 1 done; 2 slot not blank; 3 secret zero; 4 key or signature bad; 5 not SAFE_HOLD; 6 read-back failed, slot spoiled -/
def Reg.IDN_ENROL_CTL_RESULT : Fld := ⟨2097280, 8, 4, .ro, 0, 0, 1, 0, 1⟩

/-- IDN_ENROL_KEY (04): Owner public key, bytes 0–56, RW, 16 registers -/
def Reg.IDN_ENROL_KEY : Fld := ⟨2097408, 0, 32, .rw, 0, 0, 1, 4, 16⟩

/-- IDN_ENROL_SECRET (04): Root secret, WO, 8 registers -/
def Reg.IDN_ENROL_SECRET : Fld := ⟨2097472, 0, 32, .wo, 0, 0, 1, 4, 8⟩

/-- IDN_ENROL_SIG (04): Revocation signature, bytes 0–113, RW, 32 registers -/
def Reg.IDN_ENROL_SIG : Fld := ⟨2097536, 0, 32, .rw, 0, 0, 1, 4, 32⟩

/-- IDN_CERT (04): DEVICE_CERT, RO, 64 registers -/
def Reg.IDN_CERT : Fld := ⟨2098176, 0, 32, .ro, 0, 0, 1, 4, 64⟩

/-- ETH_PORT_CFG.EN (05), RWL, reset 0: Port enabled -/
def Reg.ETH_PORT_CFG_EN : Fld := ⟨3145728, 0, 1, .rwl, 0, 32768, 18, 0, 1⟩

/-- ETH_PORT_CFG.SPLIT (05), RWL, reset 0: 0 = 200G, 1 = 2 × 100G -/
def Reg.ETH_PORT_CFG_SPLIT : Fld := ⟨3145728, 1, 1, .rwl, 0, 32768, 18, 0, 1⟩

/-- ETH_PORT_CFG.MEDIA (05), RWL, reset 0: 0 KR, 1 CR -/
def Reg.ETH_PORT_CFG_MEDIA : Fld := ⟨3145728, 2, 1, .rwl, 0, 32768, 18, 0, 1⟩

/-- ETH_PORT_CFG.AN_MODE (05), RWL, reset 0: 0 Clause 73, 1 forced -/
def Reg.ETH_PORT_CFG_AN_MODE : Fld := ⟨3145728, 3, 1, .rwl, 0, 32768, 18, 0, 1⟩

/-- ETH_PORT_CFG.RX_POL (05), RWL, reset 0: Receive polarity inversion, one bit per lane -/
def Reg.ETH_PORT_CFG_RX_POL : Fld := ⟨3145728, 4, 4, .rwl, 0, 32768, 18, 0, 1⟩

/-- ETH_PORT_CFG.TX_POL (05), RWL, reset 0: Transmit polarity inversion, one bit per lane -/
def Reg.ETH_PORT_CFG_TX_POL : Fld := ⟨3145728, 8, 4, .rwl, 0, 32768, 18, 0, 1⟩

/-- ETH_PORT_CFG.MTU (05), RWL, reset 2: PATH_MTU: 0 = 1,024, 1 = 2,048, 2 = 4,096; 3 is never written -/
def Reg.ETH_PORT_CFG_MTU : Fld := ⟨3145728, 12, 2, .rwl, 2, 32768, 18, 0, 1⟩

/-- ETH_PORT_STATUS.LSTATE (05), RO, reset 0: Link state code (R134) -/
def Reg.ETH_PORT_STATUS_LSTATE : Fld := ⟨3145732, 0, 3, .ro, 0, 32768, 18, 0, 1⟩

/-- ETH_PORT_STATUS.PTP_SRC (05), RO, reset 0: This sub-port feeds the servo -/
def Reg.ETH_PORT_STATUS_PTP_SRC : Fld := ⟨3145732, 3, 1, .ro, 0, 32768, 18, 0, 1⟩

/-- ETH_PORT_STATUS.LOCAL_FAULT (05), RO, reset 0: Local fault present -/
def Reg.ETH_PORT_STATUS_LOCAL_FAULT : Fld := ⟨3145732, 4, 1, .ro, 0, 32768, 18, 0, 1⟩

/-- ETH_PORT_STATUS.REMOTE_FAULT (05), RO, reset 0: Remote fault received -/
def Reg.ETH_PORT_STATUS_REMOTE_FAULT : Fld := ⟨3145732, 5, 1, .ro, 0, 32768, 18, 0, 1⟩

/-- ETH_PORT_STATUS.FEC_DEGRADED (05), RO, reset 0: R139 -/
def Reg.ETH_PORT_STATUS_FEC_DEGRADED : Fld := ⟨3145732, 6, 1, .ro, 0, 32768, 18, 0, 1⟩

/-- ETH_PORT_STATUS.CONFLICT (05), W1C, reset 0: An address conflict was seen (R141) -/
def Reg.ETH_PORT_STATUS_CONFLICT : Fld := ⟨3145732, 7, 1, .w1c, 0, 32768, 18, 0, 1⟩

/-- ETH_PORT_STATUS.LINK_DOWNS (05), RO, reset 0: Exits from UP since reset, saturating at 255 -/
def Reg.ETH_PORT_STATUS_LINK_DOWNS : Fld := ⟨3145732, 8, 8, .ro, 0, 32768, 18, 0, 1⟩

/-- ETH_TS_ADJ.RX_ADJ (05), RWL, reset 0: TS_ADJ_RX, signed sixteenths of a cycle -/
def Reg.ETH_TS_ADJ_RX_ADJ : Fld := ⟨3145736, 0, 16, .rwl, 0, 32768, 18, 0, 1⟩

/-- ETH_TS_ADJ.TX_ADJ (05), RWL, reset 0: TS_ADJ_TX, signed sixteenths of a cycle -/
def Reg.ETH_TS_ADJ_TX_ADJ : Fld := ⟨3145736, 16, 16, .rwl, 0, 32768, 18, 0, 1⟩

/-- ETH_FEC_CORR (05): Corrected codewords, RO, wraps -/
def Reg.ETH_FEC_CORR : Fld := ⟨3145744, 0, 64, .ro, 0, 32768, 18, 0, 1⟩

/-- ETH_FEC_UNCORR (05): Uncorrectable codewords, RO, wraps -/
def Reg.ETH_FEC_UNCORR : Fld := ⟨3145752, 0, 64, .ro, 0, 32768, 18, 0, 1⟩

/-- ETH_TX_DISCARD (05): Egress discards (R137), RO, saturating -/
def Reg.ETH_TX_DISCARD : Fld := ⟨3145760, 0, 32, .ro, 0, 32768, 18, 0, 1⟩

/-- ETH_DROP_LAST.REASON (05), RO, reset 0: Code from R144; 0 if none -/
def Reg.ETH_DROP_LAST_REASON : Fld := ⟨3145764, 0, 5, .ro, 0, 32768, 18, 0, 1⟩

/-- ETH_DROP_LAST.TURN (05), RO, reset 0: Turn counter [15:0] at the drop -/
def Reg.ETH_DROP_LAST_TURN : Fld := ⟨3145764, 16, 16, .ro, 0, 32768, 18, 0, 1⟩

/-- ETH_DROP_CLR.CLEAR (05), W1S, reset 0: Zero ETH_DROP, ETH_TX_DISCARD and ETH_DROP_LAST at the next Turn boundary -/
def Reg.ETH_DROP_CLR_CLEAR : Fld := ⟨3145768, 0, 1, .w1s, 0, 32768, 18, 0, 1⟩

/-- ETH_DROP (05): Drop count for reason n at 0x0040 + 4 × (n − 1), RO, saturating -/
def Reg.ETH_DROP : Fld := ⟨3145792, 0, 32, .ro, 0, 32768, 18, 4, 17⟩

/-- XPT_CFG.ACK_T (06), RWL, reset 10: ACK_TIMEOUT, 1 to 20 -/
def Reg.XPT_CFG_ACK_T : Fld := ⟨4194304, 0, 5, .rwl, 10, 0, 1, 0, 1⟩

/-- XPT_CFG.RETRY_CNT (06), RWL, reset 7: 1 to 7 -/
def Reg.XPT_CFG_RETRY_CNT : Fld := ⟨4194304, 5, 3, .rwl, 7, 0, 1, 0, 1⟩

/-- XPT_CFG.RNR_RETRY (06), RWL, reset 6: 0 to 7; 7 unlimited -/
def Reg.XPT_CFG_RNR_RETRY : Fld := ⟨4194304, 8, 3, .rwl, 6, 0, 1, 0, 1⟩

/-- XPT_CFG.LX_OPTIONS (06), RWL, reset 3: Options that may be granted (R163) -/
def Reg.XPT_CFG_LX_OPTIONS : Fld := ⟨4194304, 12, 2, .rwl, 3, 0, 1, 0, 1⟩

/-- XPT_CFG.PIN_QP (06), RWL, reset 64: 0 to 512 -/
def Reg.XPT_CFG_PIN_QP : Fld := ⟨4194304, 16, 10, .rwl, 64, 0, 1, 0, 1⟩

/-- XPT_CC_CFG.CWND_MIN (06), RWL, reset 12: log2 of CWND_MIN in bytes, 12 to 24 -/
def Reg.XPT_CC_CFG_CWND_MIN : Fld := ⟨4194308, 0, 5, .rwl, 12, 0, 1, 0, 1⟩

/-- XPT_CC_CFG.CWND_MAX (06), RWL, reset 24: log2 of CWND_MAX in bytes, 12 to 24 -/
def Reg.XPT_CC_CFG_CWND_MAX : Fld := ⟨4194308, 5, 5, .rwl, 24, 0, 1, 0, 1⟩

/-- XPT_CC_CFG.CWND_INIT (06), RWL, reset 18: log2 of CWND_INIT in bytes -/
def Reg.XPT_CC_CFG_CWND_INIT : Fld := ⟨4194308, 10, 5, .rwl, 18, 0, 1, 0, 1⟩

/-- XPT_CC_CFG.AI_BYTES (06), RWL, reset 16: AI_BYTES in units of 256 bytes, 1 to 256; 256 is written as 0. The field is 8 bits wide, so every value of R160 can be encoded -/
def Reg.XPT_CC_CFG_AI_BYTES : Fld := ⟨4194308, 15, 8, .rwl, 16, 0, 1, 0, 1⟩

/-- XPT_CC_CFG.RTT_TARGET (06), RWL, reset 16: RTT_TARGET in µs, 1 to 512; 512 is written as 0 -/
def Reg.XPT_CC_CFG_RTT_TARGET : Fld := ⟨4194308, 23, 9, .rwl, 16, 0, 1, 0, 1⟩

/-- XPT_STATUS.QP_USED (06), RO, reset 0: Indices not in RESET, 0 to 65,536 -/
def Reg.XPT_STATUS_QP_USED : Fld := ⟨4194312, 0, 17, .ro, 0, 0, 1, 0, 1⟩

/-- XPT_STATUS.TRIG_WAIT (06), RO, reset 0: Triggers waiting, 0 to 4,096 -/
def Reg.XPT_STATUS_TRIG_WAIT : Fld := ⟨4194312, 18, 13, .ro, 0, 0, 1, 0, 1⟩

/-- XPT_STATUS.HANDLES_FULL (06), RO, reset 0: All 4,096 address handles are in use -/
def Reg.XPT_STATUS_HANDLES_FULL : Fld := ⟨4194312, 31, 1, .ro, 0, 0, 1, 0, 1⟩

/-- XPT_GECKO_HIT (06): Gecko hits, RO, wraps -/
def Reg.XPT_GECKO_HIT : Fld := ⟨4194320, 0, 64, .ro, 0, 0, 1, 0, 1⟩

/-- XPT_GECKO_MISS (06): Gecko misses, RO, wraps -/
def Reg.XPT_GECKO_MISS : Fld := ⟨4194328, 0, 64, .ro, 0, 0, 1, 0, 1⟩

/-- XPT_MISS_DROP (06): Packets dropped under R174, RO, saturating -/
def Reg.XPT_MISS_DROP : Fld := ⟨4194336, 0, 32, .ro, 0, 0, 1, 0, 1⟩

/-- XPT_MISS_PEAK (06): Highest miss-buffer occupancy since the last clear, 0 to 512; a write of any value clears it -/
def Reg.XPT_MISS_PEAK : Fld := ⟨4194340, 0, 32, .wclr, 0, 0, 1, 0, 1⟩

/-- XPT_BAD_QPN (06): Packets dropped under R159, RO, saturating -/
def Reg.XPT_BAD_QPN : Fld := ⟨4194344, 0, 32, .ro, 0, 0, 1, 0, 1⟩

/-- XPT_QP_SEL (06): QP index in [15:0] for readout and control, RW -/
def Reg.XPT_QP_SEL : Fld := ⟨4194348, 0, 16, .rw, 0, 0, 1, 0, 1⟩

/-- XPT_QP_CTL.READ (06), W1S, reset 0: Copy the selected context into XPT_QP_DATA; reads 1 until done, within 1 Turn -/
def Reg.XPT_QP_CTL_READ : Fld := ⟨4194352, 0, 1, .w1s, 0, 0, 1, 0, 1⟩

/-- XPT_QP_CTL.FORCE_ERR (06), W1S, reset 0: Move the selected QP to ERR at the next Turn boundary. Honoured only from a principal with the admin role; ignored for a QP in RESET -/
def Reg.XPT_QP_CTL_FORCE_ERR : Fld := ⟨4194352, 1, 1, .w1s, 0, 0, 1, 0, 1⟩

/-- XPT_QP_CTL.VALID (06), RO, reset 0: XPT_QP_DATA holds the context of the index in XPT_QP_SEL -/
def Reg.XPT_QP_CTL_VALID : Fld := ⟨4194352, 2, 1, .ro, 0, 0, 1, 0, 1⟩

/-- XPT_BANK_CTL.COMMIT (06), W1S, reset 0: Request a swap; reads 1 until the swap -/
def Reg.XPT_BANK_CTL_COMMIT : Fld := ⟨4194368, 0, 1, .w1s, 0, 0, 1, 0, 1⟩

/-- XPT_BANK_CTL.ABORT (06), W1S, reset 0: Cancel a pending commit (R67) -/
def Reg.XPT_BANK_CTL_ABORT : Fld := ⟨4194368, 1, 1, .w1s, 0, 0, 1, 0, 1⟩

/-- XPT_BANK_CTL.ACTIVE (06), RO, reset 0: Active bank, 0 or 1 -/
def Reg.XPT_BANK_CTL_ACTIVE : Fld := ⟨4194368, 2, 1, .ro, 0, 0, 1, 0, 1⟩

/-- XPT_BANK_CTL.CATCHUP (06), RO, reset 0: Catch-up is running -/
def Reg.XPT_BANK_CTL_CATCHUP : Fld := ⟨4194368, 3, 1, .ro, 0, 0, 1, 0, 1⟩

/-- XPT_BANK_CTL.TIMED (06), RW, reset 0: Swap at the target Turn; writable on timed tables only -/
def Reg.XPT_BANK_CTL_TIMED : Fld := ⟨4194368, 4, 1, .rw, 0, 0, 1, 0, 1⟩

/-- XPT_BANK_CTL.LATE_WRITE (06), W1C, reset 0: A shadow write was dropped -/
def Reg.XPT_BANK_CTL_LATE_WRITE : Fld := ⟨4194368, 8, 1, .w1c, 0, 0, 1, 0, 1⟩

/-- XPT_BANK_CTL.LATE_TARGET (06), W1C, reset 0: The target Turn had passed when the commit was credited -/
def Reg.XPT_BANK_CTL_LATE_TARGET : Fld := ⟨4194368, 9, 1, .w1c, 0, 0, 1, 0, 1⟩

/-- XPT_BANK_CTL.RANGE_ERR (06), W1C, reset 0: The target was more than 2^30 Turns ahead -/
def Reg.XPT_BANK_CTL_RANGE_ERR : Fld := ⟨4194368, 10, 1, .w1c, 0, 0, 1, 0, 1⟩

/-- XPT_BANK_CTL.UNALIGNED (06), W1C, reset 0: A timed commit was refused because ALIGNED was clear (R56) -/
def Reg.XPT_BANK_CTL_UNALIGNED : Fld := ⟨4194368, 11, 1, .w1c, 0, 0, 1, 0, 1⟩

/-- XPT_BANK_TARGET (06): R71; reads 0 (not a timed table) -/
def Reg.XPT_BANK_TARGET : Fld := ⟨4194376, 0, 64, .ro, 0, 0, 1, 0, 1⟩

/-- XPT_BANK_SWAP (06): R71 -/
def Reg.XPT_BANK_SWAP : Fld := ⟨4194384, 0, 64, .ro, 0, 0, 1, 0, 1⟩

/-- XPT_QP_DATA (06): Context of the selected QP (R169), RO, 64 registers -/
def Reg.XPT_QP_DATA : Fld := ⟨4194560, 0, 32, .ro, 0, 0, 1, 4, 64⟩

/-- WIN_CFG.WIN_PER_HOST (07), RWL, reset 256: 1 to 65,536 -/
def Reg.WIN_CFG_WIN_PER_HOST : Fld := ⟨5242880, 0, 17, .rwl, 256, 0, 1, 0, 1⟩

/-- WIN_CFG.WIN_MAX_LEN (07), RWL, reset 10: log2 of WIN_MAX_LEN in 64 KiB blocks, 0 to 12 -/
def Reg.WIN_CFG_WIN_MAX_LEN : Fld := ⟨5242880, 17, 4, .rwl, 10, 0, 1, 0, 1⟩

/-- WIN_STATUS.OPEN (07), RO, reset 0: Windows OPEN in the active bank, 0 to 262,144 -/
def Reg.WIN_STATUS_OPEN : Fld := ⟨5242884, 0, 19, .ro, 0, 0, 1, 0, 1⟩

/-- WIN_STATUS.DRAINING (07), RO, reset 0: Windows DRAINING, 0 to 256 -/
def Reg.WIN_STATUS_DRAINING : Fld := ⟨5242884, 19, 9, .ro, 0, 0, 1, 0, 1⟩

/-- WIN_SPILL (07): Blocks spilled, RO, wraps -/
def Reg.WIN_SPILL : Fld := ⟨5242888, 0, 64, .ro, 0, 0, 1, 0, 1⟩

/-- WIN_SEL (07): Window index in [17:0] for readout, RW -/
def Reg.WIN_SEL : Fld := ⟨5242896, 0, 18, .rw, 0, 0, 1, 0, 1⟩

/-- WIN_READ.READ (07), W1S, reset 0: Copy the active-bank descriptor into WIN_DATA; reads 1 until done, within 1 Turn -/
def Reg.WIN_READ_READ : Fld := ⟨5242900, 0, 1, .w1s, 0, 0, 1, 0, 1⟩

/-- WIN_READ.VALID (07), RO, reset 0: WIN_DATA holds the descriptor of the index in WIN_SEL -/
def Reg.WIN_READ_VALID : Fld := ⟨5242900, 1, 1, .ro, 0, 0, 1, 0, 1⟩

/-- WIN_READ.CLEAR_VIOL (07), W1S, reset 0: Zero WIN_VIOL at the next Turn boundary -/
def Reg.WIN_READ_CLEAR_VIOL : Fld := ⟨5242900, 2, 1, .w1s, 0, 0, 1, 0, 1⟩

/-- WIN_BANK_CTL.COMMIT (07), W1S, reset 0: Request a swap; reads 1 until the swap -/
def Reg.WIN_BANK_CTL_COMMIT : Fld := ⟨5242944, 0, 1, .w1s, 0, 0, 1, 0, 1⟩

/-- WIN_BANK_CTL.ABORT (07), W1S, reset 0: Cancel a pending commit (R67) -/
def Reg.WIN_BANK_CTL_ABORT : Fld := ⟨5242944, 1, 1, .w1s, 0, 0, 1, 0, 1⟩

/-- WIN_BANK_CTL.ACTIVE (07), RO, reset 0: Active bank, 0 or 1 -/
def Reg.WIN_BANK_CTL_ACTIVE : Fld := ⟨5242944, 2, 1, .ro, 0, 0, 1, 0, 1⟩

/-- WIN_BANK_CTL.CATCHUP (07), RO, reset 0: Catch-up is running -/
def Reg.WIN_BANK_CTL_CATCHUP : Fld := ⟨5242944, 3, 1, .ro, 0, 0, 1, 0, 1⟩

/-- WIN_BANK_CTL.TIMED (07), RW, reset 0: Swap at the target Turn; writable on timed tables only -/
def Reg.WIN_BANK_CTL_TIMED : Fld := ⟨5242944, 4, 1, .rw, 0, 0, 1, 0, 1⟩

/-- WIN_BANK_CTL.LATE_WRITE (07), W1C, reset 0: A shadow write was dropped -/
def Reg.WIN_BANK_CTL_LATE_WRITE : Fld := ⟨5242944, 8, 1, .w1c, 0, 0, 1, 0, 1⟩

/-- WIN_BANK_CTL.LATE_TARGET (07), W1C, reset 0: The target Turn had passed when the commit was credited -/
def Reg.WIN_BANK_CTL_LATE_TARGET : Fld := ⟨5242944, 9, 1, .w1c, 0, 0, 1, 0, 1⟩

/-- WIN_BANK_CTL.RANGE_ERR (07), W1C, reset 0: The target was more than 2^30 Turns ahead -/
def Reg.WIN_BANK_CTL_RANGE_ERR : Fld := ⟨5242944, 10, 1, .w1c, 0, 0, 1, 0, 1⟩

/-- WIN_BANK_CTL.UNALIGNED (07), W1C, reset 0: A timed commit was refused because ALIGNED was clear (R56) -/
def Reg.WIN_BANK_CTL_UNALIGNED : Fld := ⟨5242944, 11, 1, .w1c, 0, 0, 1, 0, 1⟩

/-- WIN_BANK_TARGET (07): R71; reads 0 (not a timed table) -/
def Reg.WIN_BANK_TARGET : Fld := ⟨5242952, 0, 64, .ro, 0, 0, 1, 0, 1⟩

/-- WIN_BANK_SWAP (07): R71 -/
def Reg.WIN_BANK_SWAP : Fld := ⟨5242960, 0, 64, .ro, 0, 0, 1, 0, 1⟩

/-- WIN_VIOL (07): Count for reason n of R206 at 0x0060 + 4 × (n − 1), RO, saturating -/
def Reg.WIN_VIOL : Fld := ⟨5242976, 0, 32, .ro, 0, 0, 1, 4, 7⟩

/-- WIN_DATA (07): Descriptor of the selected window (R196), RO, 8 registers -/
def Reg.WIN_DATA : Fld := ⟨5243136, 0, 32, .ro, 0, 0, 1, 4, 8⟩

/-- SCH_STATUS.IN_LEVEL (08), RO, reset 0: Ingest side this Turn: 0 OK, 1 amber, 2 red, 3 black -/
def Reg.SCH_STATUS_IN_LEVEL : Fld := ⟨6291456, 0, 2, .ro, 0, 0, 1, 0, 1⟩

/-- SCH_STATUS.RS_LEVEL (08), RO, reset 0: Restore side this Turn, coded as IN_LEVEL -/
def Reg.SCH_STATUS_RS_LEVEL : Fld := ⟨6291456, 2, 2, .ro, 0, 0, 1, 0, 1⟩

/-- SCH_STATUS.BUDGET (08), RO, reset 0: A direction budget of R243 is active this Turn -/
def Reg.SCH_STATUS_BUDGET : Fld := ⟨6291456, 4, 1, .ro, 0, 0, 1, 0, 1⟩

/-- SCH_STATUS.BUDGET_DIR (08), RO, reset 0: Budgeted direction: 0 ingest, 1 restore -/
def Reg.SCH_STATUS_BUDGET_DIR : Fld := ⟨6291456, 5, 1, .ro, 0, 0, 1, 0, 1⟩

/-- SCH_STATUS.EXHAUSTED (08), RO, reset 0: The budget ran out in the previous Turn -/
def Reg.SCH_STATUS_EXHAUSTED : Fld := ⟨6291456, 6, 1, .ro, 0, 0, 1, 0, 1⟩

/-- SCH_PARAM_SEL (08): Entry index in [14:0], 0 to 24,839, RW -/
def Reg.SCH_PARAM_SEL : Fld := ⟨6291464, 0, 15, .rw, 0, 0, 1, 0, 1⟩

/-- SCH_PARAM_CTL.WRITE (08), W1S, reset 0: Copy SCH_PARAM_DATA into the selected shadow entry (R245); reads 1 until done, within 1 Turn -/
def Reg.SCH_PARAM_CTL_WRITE : Fld := ⟨6291468, 0, 1, .w1s, 0, 0, 1, 0, 1⟩

/-- SCH_PARAM_CTL.READ (08), W1S, reset 0: Copy the active-bank entry into SCH_PARAM_DATA; reads 1 until done, within 1 Turn -/
def Reg.SCH_PARAM_CTL_READ : Fld := ⟨6291468, 1, 1, .w1s, 0, 0, 1, 0, 1⟩

/-- SCH_PARAM_CTL.READ_LIVE (08), W1S, reset 0: As READ, but DW5 to DW7 return live bucket balances as signed bytes. For a node: CIR, PIR and ingest. For a policer: C, E or P, and 0. For a queue or port: egress and ingest, and 0 -/
def Reg.SCH_PARAM_CTL_READ_LIVE : Fld := ⟨6291468, 2, 1, .w1s, 0, 0, 1, 0, 1⟩

/-- SCH_PARAM_CTL.VALID (08), RO, reset 0: SCH_PARAM_DATA holds the entry named by SCH_PARAM_SEL -/
def Reg.SCH_PARAM_CTL_VALID : Fld := ⟨6291468, 3, 1, .ro, 0, 0, 1, 0, 1⟩

/-- SCH_PARAM_CTL.PARAM_ERR (08), W1C, reset 0: The last WRITE was refused -/
def Reg.SCH_PARAM_CTL_PARAM_ERR : Fld := ⟨6291468, 4, 1, .w1c, 0, 0, 1, 0, 1⟩

/-- SCH_POL_DROP (08): Red frames dropped, RO, wraps -/
def Reg.SCH_POL_DROP : Fld := ⟨6291472, 0, 64, .ro, 0, 0, 1, 0, 1⟩

/-- SCH_POL_MARK (08): Frames marked CE, RO, wraps -/
def Reg.SCH_POL_MARK : Fld := ⟨6291480, 0, 64, .ro, 0, 0, 1, 0, 1⟩

/-- SCH_PARAM_DATA (08): Entry data, RW, 8 registers -/
def Reg.SCH_PARAM_DATA : Fld := ⟨6291488, 0, 32, .rw, 0, 0, 1, 4, 8⟩

/-- SCH_BANK_CTL.COMMIT (08), W1S, reset 0: Request a swap; reads 1 until the swap -/
def Reg.SCH_BANK_CTL_COMMIT : Fld := ⟨6291520, 0, 1, .w1s, 0, 0, 1, 0, 1⟩

/-- SCH_BANK_CTL.ABORT (08), W1S, reset 0: Cancel a pending commit (R67) -/
def Reg.SCH_BANK_CTL_ABORT : Fld := ⟨6291520, 1, 1, .w1s, 0, 0, 1, 0, 1⟩

/-- SCH_BANK_CTL.ACTIVE (08), RO, reset 0: Active bank, 0 or 1 -/
def Reg.SCH_BANK_CTL_ACTIVE : Fld := ⟨6291520, 2, 1, .ro, 0, 0, 1, 0, 1⟩

/-- SCH_BANK_CTL.CATCHUP (08), RO, reset 0: Catch-up is running -/
def Reg.SCH_BANK_CTL_CATCHUP : Fld := ⟨6291520, 3, 1, .ro, 0, 0, 1, 0, 1⟩

/-- SCH_BANK_CTL.TIMED (08), RW, reset 0: Swap at the target Turn; writable on timed tables only -/
def Reg.SCH_BANK_CTL_TIMED : Fld := ⟨6291520, 4, 1, .rw, 0, 0, 1, 0, 1⟩

/-- SCH_BANK_CTL.LATE_WRITE (08), W1C, reset 0: A shadow write was dropped -/
def Reg.SCH_BANK_CTL_LATE_WRITE : Fld := ⟨6291520, 8, 1, .w1c, 0, 0, 1, 0, 1⟩

/-- SCH_BANK_CTL.LATE_TARGET (08), W1C, reset 0: The target Turn had passed when the commit was credited -/
def Reg.SCH_BANK_CTL_LATE_TARGET : Fld := ⟨6291520, 9, 1, .w1c, 0, 0, 1, 0, 1⟩

/-- SCH_BANK_CTL.RANGE_ERR (08), W1C, reset 0: The target was more than 2^30 Turns ahead -/
def Reg.SCH_BANK_CTL_RANGE_ERR : Fld := ⟨6291520, 10, 1, .w1c, 0, 0, 1, 0, 1⟩

/-- SCH_BANK_CTL.UNALIGNED (08), W1C, reset 0: A timed commit was refused because ALIGNED was clear (R56) -/
def Reg.SCH_BANK_CTL_UNALIGNED : Fld := ⟨6291520, 11, 1, .w1c, 0, 0, 1, 0, 1⟩

/-- SCH_BANK_TARGET (08): R71; reads 0 (not a timed table) -/
def Reg.SCH_BANK_TARGET : Fld := ⟨6291528, 0, 64, .ro, 0, 0, 1, 0, 1⟩

/-- SCH_BANK_SWAP (08): R71 -/
def Reg.SCH_BANK_SWAP : Fld := ⟨6291536, 0, 64, .ro, 0, 0, 1, 0, 1⟩

/-- SCH_DSCP_MAP (08): Colour of DSCP d in bits [2(d mod 16)+1 : 2(d mod 16)] of register d / 16, rounded down; RWL. A value of 3 rejects the image copy -/
def Reg.SCH_DSCP_MAP : Fld := ⟨6291552, 0, 32, .rwl, 0, 0, 1, 4, 4⟩

/-- SCH_GCL_BANK_CTL.COMMIT (08), W1S, reset 0: Request a swap; reads 1 until the swap -/
def Reg.SCH_GCL_BANK_CTL_COMMIT : Fld := ⟨6295552, 0, 1, .w1s, 0, 4096, 8, 0, 1⟩

/-- SCH_GCL_BANK_CTL.ABORT (08), W1S, reset 0: Cancel a pending commit (R67) -/
def Reg.SCH_GCL_BANK_CTL_ABORT : Fld := ⟨6295552, 1, 1, .w1s, 0, 4096, 8, 0, 1⟩

/-- SCH_GCL_BANK_CTL.ACTIVE (08), RO, reset 0: Active bank, 0 or 1 -/
def Reg.SCH_GCL_BANK_CTL_ACTIVE : Fld := ⟨6295552, 2, 1, .ro, 0, 4096, 8, 0, 1⟩

/-- SCH_GCL_BANK_CTL.CATCHUP (08), RO, reset 0: Catch-up is running -/
def Reg.SCH_GCL_BANK_CTL_CATCHUP : Fld := ⟨6295552, 3, 1, .ro, 0, 4096, 8, 0, 1⟩

/-- SCH_GCL_BANK_CTL.TIMED (08), RW, reset 0: Swap at the target Turn; writable on timed tables only -/
def Reg.SCH_GCL_BANK_CTL_TIMED : Fld := ⟨6295552, 4, 1, .rw, 0, 4096, 8, 0, 1⟩

/-- SCH_GCL_BANK_CTL.LATE_WRITE (08), W1C, reset 0: A shadow write was dropped -/
def Reg.SCH_GCL_BANK_CTL_LATE_WRITE : Fld := ⟨6295552, 8, 1, .w1c, 0, 4096, 8, 0, 1⟩

/-- SCH_GCL_BANK_CTL.LATE_TARGET (08), W1C, reset 0: The target Turn had passed when the commit was credited -/
def Reg.SCH_GCL_BANK_CTL_LATE_TARGET : Fld := ⟨6295552, 9, 1, .w1c, 0, 4096, 8, 0, 1⟩

/-- SCH_GCL_BANK_CTL.RANGE_ERR (08), W1C, reset 0: The target was more than 2^30 Turns ahead -/
def Reg.SCH_GCL_BANK_CTL_RANGE_ERR : Fld := ⟨6295552, 10, 1, .w1c, 0, 4096, 8, 0, 1⟩

/-- SCH_GCL_BANK_CTL.UNALIGNED (08), W1C, reset 0: A timed commit was refused because ALIGNED was clear (R56) -/
def Reg.SCH_GCL_BANK_CTL_UNALIGNED : Fld := ⟨6295552, 11, 1, .w1c, 0, 4096, 8, 0, 1⟩

/-- SCH_GCL_BANK_TARGET (08): R71 -/
def Reg.SCH_GCL_BANK_TARGET : Fld := ⟨6295560, 0, 48, .rw, 0, 4096, 8, 0, 1⟩

/-- SCH_GCL_BANK_SWAP (08): R71 -/
def Reg.SCH_GCL_BANK_SWAP : Fld := ⟨6295568, 0, 64, .ro, 0, 4096, 8, 0, 1⟩

/-- SCH_GCL_BASE (08): B of the active list, RO -/
def Reg.SCH_GCL_BASE : Fld := ⟨6295576, 0, 64, .ro, 0, 4096, 8, 0, 1⟩

/-- SCH_GCL_POS.ENTRY (08), RO, reset 0: Current entry, 0 to 255 -/
def Reg.SCH_GCL_POS_ENTRY : Fld := ⟨6295584, 0, 8, .ro, 0, 4096, 8, 0, 1⟩

/-- SCH_GCL_POS.GATES (08), RO, reset 0xFF: Gates open in the current Turn -/
def Reg.SCH_GCL_POS_GATES : Fld := ⟨6295584, 8, 8, .ro, 255, 4096, 8, 0, 1⟩

/-- SCH_GCL_POS.LEFT (08), RO, reset 0: Turns left in the current entry, including the current Turn; 0 when all gates are open -/
def Reg.SCH_GCL_POS_LEFT : Fld := ⟨6295584, 16, 16, .ro, 0, 4096, 8, 0, 1⟩

/-- SCH_GCL_ENTRY (08): Shadow list, entry e at +0x0400 + 4e; RW, subject to R65 -/
def Reg.SCH_GCL_ENTRY : Fld := ⟨6296576, 0, 32, .rw, 0, 4096, 8, 4, 256⟩

/-- CMD_STATUS.CMDS (09), RO, reset 0: Commands in the table, 0 to 131,072 -/
def Reg.CMD_STATUS_CMDS : Fld := ⟨7340032, 0, 18, .ro, 0, 0, 1, 0, 1⟩

/-- CMD_STATUS.LOCKS (09), RO, reset 0: Lock entries in use, 0 to 4,095; 4,096 reads as LOCK_FULL with LOCKS 0 -/
def Reg.CMD_STATUS_LOCKS : Fld := ⟨7340032, 18, 12, .ro, 0, 0, 1, 0, 1⟩

/-- CMD_STATUS.LOCK_FULL (09), RO, reset 0: Every lock entry is in use -/
def Reg.CMD_STATUS_LOCK_FULL : Fld := ⟨7340032, 30, 1, .ro, 0, 0, 1, 0, 1⟩

/-- CMD_STATUS.HELD (09), RO, reset 0: Write-class admission is held (R266) -/
def Reg.CMD_STATUS_HELD : Fld := ⟨7340032, 31, 1, .ro, 0, 0, 1, 0, 1⟩

/-- CMD_LOCK_PEAK (09): Highest lock-table occupancy since the last clear, 0 to 4,096; a write of any value clears it -/
def Reg.CMD_LOCK_PEAK : Fld := ⟨7340036, 0, 32, .wclr, 0, 0, 1, 0, 1⟩

/-- CMD_INFLIGHT (09): Admitted unacknowledged write-class bytes (R265), RO -/
def Reg.CMD_INFLIGHT : Fld := ⟨7340040, 0, 64, .ro, 0, 0, 1, 0, 1⟩

/-- CMD_DEFER.MARKERS (09), RO, reset 0: Markers set, 0 to 8,191; 8,192 reads as OVERFLOW with MARKERS 0 -/
def Reg.CMD_DEFER_MARKERS : Fld := ⟨7340048, 0, 14, .ro, 0, 0, 1, 0, 1⟩

/-- CMD_DEFER.OVERFLOW (09), W1C, reset 0: R281 -/
def Reg.CMD_DEFER_OVERFLOW : Fld := ⟨7340048, 14, 1, .w1c, 0, 0, 1, 0, 1⟩

/-- CMD_DEFER.LOG_NEXT (09), RO, reset 0: Index of the next Lost Extent entry, modulo 65,536 -/
def Reg.CMD_DEFER_LOG_NEXT : Fld := ⟨7340048, 16, 16, .ro, 0, 0, 1, 0, 1⟩

/-- CMD_ST.KIND (09), RO, reset 0: 0 none, 1 short, 2 extended -/
def Reg.CMD_ST_KIND : Fld := ⟨7340052, 0, 2, .ro, 0, 0, 1, 0, 1⟩

/-- CMD_ST.PERCENT (09), RO, reset 0: Progress, 0 to 100 -/
def Reg.CMD_ST_PERCENT : Fld := ⟨7340052, 2, 7, .ro, 0, 0, 1, 0, 1⟩

/-- CMD_ST.RESULT (09), RO, reset 0: Last result code (R284, R286) -/
def Reg.CMD_ST_RESULT : Fld := ⟨7340052, 12, 4, .ro, 0, 0, 1, 0, 1⟩

/-- CMD_ST.NSID (09), RO, reset 0: Namespace under test, 1 to 1,024; 2,047 for all -/
def Reg.CMD_ST_NSID : Fld := ⟨7340052, 16, 11, .ro, 0, 0, 1, 0, 1⟩

/-- CMD_ANA.STATE (09), RO, reset 4: ANA state code reported for group 1 (R287) -/
def Reg.CMD_ANA_STATE : Fld := ⟨7340056, 0, 4, .ro, 4, 0, 1, 0, 1⟩

/-- CMD_ANA.CHANGES (09), RO, reset 0: ANA changes since reset, saturating at 65,535 -/
def Reg.CMD_ANA_CHANGES : Fld := ⟨7340056, 16, 16, .ro, 0, 0, 1, 0, 1⟩

/-- CMD_CTRLS.CTRLS (09), RO, reset 0: Controllers in existence, 0 to 32,751 -/
def Reg.CMD_CTRLS_CTRLS : Fld := ⟨7340060, 0, 15, .ro, 0, 0, 1, 0, 1⟩

/-- CMD_CTRLS.SESSIONS (09), RO, reset 0: Authenticated management sessions, 0 to 127 -/
def Reg.CMD_CTRLS_SESSIONS : Fld := ⟨7340060, 16, 7, .ro, 0, 0, 1, 0, 1⟩

/-- FSP_LEVEL.LEVEL_n (10), RO, reset 0: Level of pool n this Turn: 0 OK, 1 amber, 2 red, 3 black -/
def Reg.FSP_LEVEL_0 : Fld := ⟨8388608, 0, 2, .ro, 0, 0, 1, 0, 1⟩

/-- FSP_LEVEL.LEVEL_n (10), RO, reset 0: Level of pool n this Turn: 0 OK, 1 amber, 2 red, 3 black -/
def Reg.FSP_LEVEL_1 : Fld := ⟨8388608, 2, 2, .ro, 0, 0, 1, 0, 1⟩

/-- FSP_LEVEL.LEVEL_n (10), RO, reset 0: Level of pool n this Turn: 0 OK, 1 amber, 2 red, 3 black -/
def Reg.FSP_LEVEL_2 : Fld := ⟨8388608, 4, 2, .ro, 0, 0, 1, 0, 1⟩

/-- FSP_LEVEL.LEVEL_n (10), RO, reset 0: Level of pool n this Turn: 0 OK, 1 amber, 2 red, 3 black -/
def Reg.FSP_LEVEL_3 : Fld := ⟨8388608, 6, 2, .ro, 0, 0, 1, 0, 1⟩

/-- FSP_LEVEL.LEVEL_n (10), RO, reset 0: Level of pool n this Turn: 0 OK, 1 amber, 2 red, 3 black -/
def Reg.FSP_LEVEL_4 : Fld := ⟨8388608, 8, 2, .ro, 0, 0, 1, 0, 1⟩

/-- FSP_LEVEL.LEVEL_n (10), RO, reset 0: Level of pool n this Turn: 0 OK, 1 amber, 2 red, 3 black -/
def Reg.FSP_LEVEL_5 : Fld := ⟨8388608, 10, 2, .ro, 0, 0, 1, 0, 1⟩

/-- FSP_LEVEL.LEVEL_n (10), RO, reset 0: Level of pool n this Turn: 0 OK, 1 amber, 2 red, 3 black -/
def Reg.FSP_LEVEL_6 : Fld := ⟨8388608, 12, 2, .ro, 0, 0, 1, 0, 1⟩

/-- FSP_LEVEL.LEVEL_n (10), RO, reset 0: Level of pool n this Turn: 0 OK, 1 amber, 2 red, 3 black -/
def Reg.FSP_LEVEL_7 : Fld := ⟨8388608, 14, 2, .ro, 0, 0, 1, 0, 1⟩

/-- FSP_LEVEL.LEVEL_n (10), RO, reset 0: Level of pool n this Turn: 0 OK, 1 amber, 2 red, 3 black -/
def Reg.FSP_LEVEL_8 : Fld := ⟨8388608, 16, 2, .ro, 0, 0, 1, 0, 1⟩

/-- FSP_LEVEL.LEVEL_n (10), RO, reset 0: Level of pool n this Turn: 0 OK, 1 amber, 2 red, 3 black -/
def Reg.FSP_LEVEL_9 : Fld := ⟨8388608, 18, 2, .ro, 0, 0, 1, 0, 1⟩

/-- FSP_LEVEL.LEVEL_n (10), RO, reset 0: Level of pool n this Turn: 0 OK, 1 amber, 2 red, 3 black -/
def Reg.FSP_LEVEL_10 : Fld := ⟨8388608, 20, 2, .ro, 0, 0, 1, 0, 1⟩

/-- FSP_LEVEL.LEVEL_n (10), RO, reset 0: Level of pool n this Turn: 0 OK, 1 amber, 2 red, 3 black -/
def Reg.FSP_LEVEL_11 : Fld := ⟨8388608, 22, 2, .ro, 0, 0, 1, 0, 1⟩

/-- FSP_LEVEL.LEVEL_n (10), RO, reset 0: Level of pool n this Turn: 0 OK, 1 amber, 2 red, 3 black -/
def Reg.FSP_LEVEL_12 : Fld := ⟨8388608, 24, 2, .ro, 0, 0, 1, 0, 1⟩

/-- FSP_LEVEL.LEVEL_n (10), RO, reset 0: Level of pool n this Turn: 0 OK, 1 amber, 2 red, 3 black -/
def Reg.FSP_LEVEL_13 : Fld := ⟨8388608, 26, 2, .ro, 0, 0, 1, 0, 1⟩

/-- FSP_LEVEL.LEVEL_n (10), RO, reset 0: Level of pool n this Turn: 0 OK, 1 amber, 2 red, 3 black -/
def Reg.FSP_LEVEL_14 : Fld := ⟨8388608, 28, 2, .ro, 0, 0, 1, 0, 1⟩

/-- FSP_LEVEL.LEVEL_n (10), RO, reset 0: Level of pool n this Turn: 0 OK, 1 amber, 2 red, 3 black -/
def Reg.FSP_LEVEL_15 : Fld := ⟨8388608, 30, 2, .ro, 0, 0, 1, 0, 1⟩

/-- FSP_BAD_LAST.REASON (10), RO, reset 0: Code from R306; 0 if none -/
def Reg.FSP_BAD_LAST_REASON : Fld := ⟨8388616, 0, 3, .ro, 0, 0, 1, 0, 1⟩

/-- FSP_BAD_LAST.POOL (10), RO, reset 0: Pool concerned -/
def Reg.FSP_BAD_LAST_POOL : Fld := ⟨8388616, 3, 4, .ro, 0, 0, 1, 0, 1⟩

/-- FSP_BAD_LAST.REQ (10), RO, reset 0: Requester, coded as in R297 -/
def Reg.FSP_BAD_LAST_REQ : Fld := ⟨8388616, 7, 3, .ro, 0, 0, 1, 0, 1⟩

/-- FSP_BAD_LAST.TURN (10), RO, reset 0: Turn counter [15:0] at the failure -/
def Reg.FSP_BAD_LAST_TURN : Fld := ⟨8388616, 16, 16, .ro, 0, 0, 1, 0, 1⟩

/-- FSP_CLR.CLEAR (10), W1S, reset 0: Zero FSP_BAD and FSP_BAD_LAST, and set every FSP_POOL_MIN to its current free count, at the next Turn boundary -/
def Reg.FSP_CLR_CLEAR : Fld := ⟨8388620, 0, 1, .w1s, 0, 0, 1, 0, 1⟩

/-- FSP_BAD (10): Count for reason n of R306 at 0x0010 + 4 × (n − 1), RO, saturating -/
def Reg.FSP_BAD : Fld := ⟨8388624, 0, 32, .ro, 0, 0, 1, 4, 6⟩

/-- FSP_POOL_CFG.CLASS (10), RWL, reset 0: 0 = 4 KiB, 1 = 64 KiB, 2 = 1 MiB; 3 is never written -/
def Reg.FSP_POOL_CFG_CLASS : Fld := ⟨8388864, 0, 2, .rwl, 0, 64, 16, 0, 1⟩

/-- FSP_POOL_CFG.ROLE (10), RWL, reset 0: R292 -/
def Reg.FSP_POOL_CFG_ROLE : Fld := ⟨8388864, 2, 2, .rwl, 0, 64, 16, 0, 1⟩

/-- FSP_POOL_CFG.EN (10), RWL, reset 0: Pool enabled; COUNT is not 0 -/
def Reg.FSP_POOL_CFG_EN : Fld := ⟨8388864, 4, 1, .rwl, 0, 64, 16, 0, 1⟩

/-- FSP_POOL_CFG.AMBER (10), RWL, reset 25: Percent free, 1 to 50 -/
def Reg.FSP_POOL_CFG_AMBER : Fld := ⟨8388864, 8, 6, .rwl, 25, 64, 16, 0, 1⟩

/-- FSP_POOL_CFG.RED (10), RWL, reset 10: Percent free, below AMBER -/
def Reg.FSP_POOL_CFG_RED : Fld := ⟨8388864, 16, 6, .rwl, 10, 64, 16, 0, 1⟩

/-- FSP_POOL_CFG.BLACK (10), RWL, reset 2: Percent free, below RED, at least 1 -/
def Reg.FSP_POOL_CFG_BLACK : Fld := ⟨8388864, 24, 6, .rwl, 2, 64, 16, 0, 1⟩

/-- FSP_POOL_BASE (10): DRAM base of the pool region, RWL -/
def Reg.FSP_POOL_BASE : Fld := ⟨8388872, 0, 64, .rwl, 0, 64, 16, 0, 1⟩

/-- FSP_POOL_RANGE (10): FIRST in [25:0] and COUNT in [58:32], RWL -/
def Reg.FSP_POOL_RANGE_FIRST : Fld := ⟨8388880, 0, 26, .rwl, 0, 64, 16, 0, 1⟩

/-- FSP_POOL_RANGE (10): FIRST in [25:0] and COUNT in [58:32], RWL -/
def Reg.FSP_POOL_RANGE_COUNT : Fld := ⟨8388880, 32, 27, .rwl, 0, 64, 16, 0, 1⟩

/-- FSP_POOL_FREE (10): Free count frozen at the last boundary, RO -/
def Reg.FSP_POOL_FREE : Fld := ⟨8388888, 0, 32, .ro, 0, 64, 16, 0, 1⟩

/-- FSP_POOL_MIN (10): Lowest frozen free count since the last clear, RO -/
def Reg.FSP_POOL_MIN : Fld := ⟨8388892, 0, 32, .ro, 0, 64, 16, 0, 1⟩

/-- FSP_POOL_CACHE (10): Cache occupancy, 0 to 1,024, RO -/
def Reg.FSP_POOL_CACHE : Fld := ⟨8388896, 0, 32, .ro, 0, 64, 16, 0, 1⟩

/-- FSP_STALL (10): Allocates that waited for refill, RO, wraps -/
def Reg.FSP_STALL : Fld := ⟨8388904, 0, 64, .ro, 0, 64, 16, 0, 1⟩

/-- FSP_LEAK (10): Buffers withdrawn under R302 and R307, RO, saturating -/
def Reg.FSP_LEAK : Fld := ⟨8388912, 0, 32, .ro, 0, 64, 16, 0, 1⟩

/-- GCH_CTL.EN (11), RW, reset 0: 1 requests ON, 0 requests DRAINING then OFF (R336); ignored when GATHER_CACHE is 0 -/
def Reg.GCH_CTL_EN : Fld := ⟨9437184, 0, 1, .rw, 0, 0, 1, 0, 1⟩

/-- GCH_STATUS.STATE (11), RO, reset 0: 0 OFF, 1 ON, 2 DRAINING -/
def Reg.GCH_STATUS_STATE : Fld := ⟨9437188, 0, 2, .ro, 0, 0, 1, 0, 1⟩

/-- GCH_STATUS.RB_MASKS (11), RO, reset 0: The REBUILD_MASK set is active -/
def Reg.GCH_STATUS_RB_MASKS : Fld := ⟨9437188, 2, 1, .ro, 0, 0, 1, 0, 1⟩

/-- GCH_STATUS.SETS (11), RO, reset 0: Number of sets, 0 to 8,192 -/
def Reg.GCH_STATUS_SETS : Fld := ⟨9437188, 16, 14, .ro, 0, 0, 1, 0, 1⟩

/-- GCH_CFG.SIZE (11), RWL, reset 0: GATHER_CACHE in GiB, 0 to 128 -/
def Reg.GCH_CFG_SIZE : Fld := ⟨9437192, 0, 8, .rwl, 0, 0, 1, 0, 1⟩

/-- GCH_CFG.SAL_RATE (11), RWL, reset 2: Write-back sub-blocks per Turn, 1 to 16 -/
def Reg.GCH_CFG_SAL_RATE : Fld := ⟨9437192, 8, 5, .rwl, 2, 0, 1, 0, 1⟩

/-- GCH_CFG.PIN_LIMIT (11), RWL, reset 25: Percent of lines, 0 to 50 -/
def Reg.GCH_CFG_PIN_LIMIT : Fld := ⟨9437192, 16, 6, .rwl, 25, 0, 1, 0, 1⟩

/-- GCH_DIRTY (11): Dirty sub-blocks, 0 to 2,097,152, RO -/
def Reg.GCH_DIRTY : Fld := ⟨9437200, 0, 32, .ro, 0, 0, 1, 0, 1⟩

/-- GCH_PINNED (11): Pinned lines, 0 to 65,536, RO -/
def Reg.GCH_PINNED : Fld := ⟨9437204, 0, 32, .ro, 0, 0, 1, 0, 1⟩

/-- GCH_BYPASS (11): Accesses that bypassed under R326, RO, wraps -/
def Reg.GCH_BYPASS : Fld := ⟨9437208, 0, 64, .ro, 0, 0, 1, 0, 1⟩

/-- GCH_DEAD (11): Ways retired under R335, RO -/
def Reg.GCH_DEAD : Fld := ⟨9437216, 0, 32, .ro, 0, 0, 1, 0, 1⟩

/-- GCH_BANK_CTL.COMMIT (11), W1S, reset 0: Request a swap; reads 1 until the swap -/
def Reg.GCH_BANK_CTL_COMMIT : Fld := ⟨9437248, 0, 1, .w1s, 0, 0, 1, 0, 1⟩

/-- GCH_BANK_CTL.ABORT (11), W1S, reset 0: Cancel a pending commit (R67) -/
def Reg.GCH_BANK_CTL_ABORT : Fld := ⟨9437248, 1, 1, .w1s, 0, 0, 1, 0, 1⟩

/-- GCH_BANK_CTL.ACTIVE (11), RO, reset 0: Active bank, 0 or 1 -/
def Reg.GCH_BANK_CTL_ACTIVE : Fld := ⟨9437248, 2, 1, .ro, 0, 0, 1, 0, 1⟩

/-- GCH_BANK_CTL.CATCHUP (11), RO, reset 0: Catch-up is running -/
def Reg.GCH_BANK_CTL_CATCHUP : Fld := ⟨9437248, 3, 1, .ro, 0, 0, 1, 0, 1⟩

/-- GCH_BANK_CTL.TIMED (11), RW, reset 0: Swap at the target Turn; writable on timed tables only -/
def Reg.GCH_BANK_CTL_TIMED : Fld := ⟨9437248, 4, 1, .rw, 0, 0, 1, 0, 1⟩

/-- GCH_BANK_CTL.LATE_WRITE (11), W1C, reset 0: A shadow write was dropped -/
def Reg.GCH_BANK_CTL_LATE_WRITE : Fld := ⟨9437248, 8, 1, .w1c, 0, 0, 1, 0, 1⟩

/-- GCH_BANK_CTL.LATE_TARGET (11), W1C, reset 0: The target Turn had passed when the commit was credited -/
def Reg.GCH_BANK_CTL_LATE_TARGET : Fld := ⟨9437248, 9, 1, .w1c, 0, 0, 1, 0, 1⟩

/-- GCH_BANK_CTL.RANGE_ERR (11), W1C, reset 0: The target was more than 2^30 Turns ahead -/
def Reg.GCH_BANK_CTL_RANGE_ERR : Fld := ⟨9437248, 10, 1, .w1c, 0, 0, 1, 0, 1⟩

/-- GCH_BANK_CTL.UNALIGNED (11), W1C, reset 0: A timed commit was refused because ALIGNED was clear (R56) -/
def Reg.GCH_BANK_CTL_UNALIGNED : Fld := ⟨9437248, 11, 1, .w1c, 0, 0, 1, 0, 1⟩

/-- GCH_BANK_TARGET (11): R71; reads 0 (not a timed table) -/
def Reg.GCH_BANK_TARGET : Fld := ⟨9437256, 0, 64, .ro, 0, 0, 1, 0, 1⟩

/-- GCH_BANK_SWAP (11): R71 -/
def Reg.GCH_BANK_SWAP : Fld := ⟨9437264, 0, 64, .ro, 0, 0, 1, 0, 1⟩

/-- GCH_MASK (11): Active mask of class c in [15:0] at 0x0060 + 4c, RO -/
def Reg.GCH_MASK : Fld := ⟨9437280, 0, 32, .ro, 0, 0, 1, 4, 8⟩

/-- GCH_MASK_SHADOW (11): Shadow mask of class c, RW, subject to R65 and R340 -/
def Reg.GCH_MASK_SHADOW : Fld := ⟨9437312, 0, 32, .rw, 0, 0, 1, 4, 8⟩

/-- GCH_HIT (11): Hits of class c at 0x0100 + 8c, RO, wraps -/
def Reg.GCH_HIT : Fld := ⟨9437440, 0, 64, .ro, 0, 0, 1, 8, 8⟩

/-- GCH_MISS (11): Misses and sector misses of class c at 0x0140 + 8c, RO, wraps -/
def Reg.GCH_MISS : Fld := ⟨9437504, 0, 64, .ro, 0, 0, 1, 8, 8⟩

/-- SAL_CMD.OP (11), RW, reset 0: Operation (R327) -/
def Reg.SAL_CMD_OP : Fld := ⟨10485760, 0, 3, .rw, 0, 0, 1, 0, 1⟩

/-- SAL_CMD.ALL (11), RW, reset 0: Whole cache; SLOT, SAL_FIRST and SAL_COUNT are ignored -/
def Reg.SAL_CMD_ALL : Fld := ⟨10485760, 3, 1, .rw, 0, 0, 1, 0, 1⟩

/-- SAL_CMD.CLASS (11), RW, reset 0: Class for PIN, or the filter for ALL -/
def Reg.SAL_CMD_CLASS : Fld := ⟨10485760, 4, 3, .rw, 0, 0, 1, 0, 1⟩

/-- SAL_CMD.FILTER (11), RW, reset 0: With ALL, act only on lines whose CLASS matches -/
def Reg.SAL_CMD_FILTER : Fld := ⟨10485760, 7, 1, .rw, 0, 0, 1, 0, 1⟩

/-- SAL_CMD.SLOT (11), RW, reset 0: Member slot, 0 to 23 -/
def Reg.SAL_CMD_SLOT : Fld := ⟨10485760, 8, 5, .rw, 0, 0, 1, 0, 1⟩

/-- SAL_CMD.TAG (11), RW, reset 0: Returned in SAL_LAST and in the Salamander-done event -/
def Reg.SAL_CMD_TAG : Fld := ⟨10485760, 16, 16, .rw, 0, 0, 1, 0, 1⟩

/-- SAL_FIRST (11): First member line L in [27:0], RW -/
def Reg.SAL_FIRST : Fld := ⟨10485764, 0, 28, .rw, 0, 0, 1, 0, 1⟩

/-- SAL_COUNT (11): Line count in [28:0], 1 to 2^28, RW -/
def Reg.SAL_COUNT : Fld := ⟨10485768, 0, 29, .rw, 0, 0, 1, 0, 1⟩

/-- SAL_SUBMIT (11): [0] GO, W1S: queue the operation held in SAL_CMD, SAL_FIRST and SAL_COUNT -/
def Reg.SAL_SUBMIT_GO : Fld := ⟨10485772, 0, 1, .w1s, 0, 0, 1, 0, 1⟩

/-- SAL_STATUS.BUSY (11), RO, reset 0: An operation or the drain is running -/
def Reg.SAL_STATUS_BUSY : Fld := ⟨10485776, 0, 1, .ro, 0, 0, 1, 0, 1⟩

/-- SAL_STATUS.DRAIN (11), RO, reset 0: The running work is the drain of R337 -/
def Reg.SAL_STATUS_DRAIN : Fld := ⟨10485776, 1, 1, .ro, 0, 0, 1, 0, 1⟩

/-- SAL_STATUS.QUEUED (11), RO, reset 0: Operations queued, 0 to 16 -/
def Reg.SAL_STATUS_QUEUED : Fld := ⟨10485776, 2, 5, .ro, 0, 0, 1, 0, 1⟩

/-- SAL_STATUS.FULL (11), W1C, reset 0: A GO was dropped (R332) -/
def Reg.SAL_STATUS_FULL : Fld := ⟨10485776, 7, 1, .w1c, 0, 0, 1, 0, 1⟩

/-- SAL_STATUS.WB_QUEUE (11), RO, reset 0: Write-back queue occupancy, 0 to 256 -/
def Reg.SAL_STATUS_WB_QUEUE : Fld := ⟨10485776, 8, 9, .ro, 0, 0, 1, 0, 1⟩

/-- SAL_PROGRESS (11): Lines or sets handled by the running operation, RO -/
def Reg.SAL_PROGRESS : Fld := ⟨10485780, 0, 32, .ro, 0, 0, 1, 0, 1⟩

/-- SAL_TOTAL (11): Lines or sets the running operation will handle, RO -/
def Reg.SAL_TOTAL : Fld := ⟨10485784, 0, 32, .ro, 0, 0, 1, 0, 1⟩

/-- SAL_LAST.STATUS (11), RO, reset 0: Status code (R332) -/
def Reg.SAL_LAST_STATUS : Fld := ⟨10485788, 0, 3, .ro, 0, 0, 1, 0, 1⟩

/-- SAL_LAST.SKIPPED (11), RO, reset 0: Lines skipped, saturating at 8,191 -/
def Reg.SAL_LAST_SKIPPED : Fld := ⟨10485788, 3, 13, .ro, 0, 0, 1, 0, 1⟩

/-- SAL_LAST.TAG (11), RO, reset 0: TAG of that operation -/
def Reg.SAL_LAST_TAG : Fld := ⟨10485788, 16, 16, .ro, 0, 0, 1, 0, 1⟩

/-- CMP_CFG.NO_GAIN (12), RWL, reset 64: No-gain margin in bytes, 0 to 4,096 -/
def Reg.CMP_CFG_NO_GAIN : Fld := ⟨11534336, 0, 13, .rwl, 64, 0, 1, 0, 1⟩

/-- CMP_CFG.TABLES (12), RWL, reset 1: Default tables: 0 static, 1 dynamic -/
def Reg.CMP_CFG_TABLES : Fld := ⟨11534336, 13, 1, .rwl, 1, 0, 1, 0, 1⟩

/-- CMP_CFG.OUT_CLASS (12), RWL, reset 0: Output buffer class: 0 = 4 KiB, 1 = 64 KiB -/
def Reg.CMP_CFG_OUT_CLASS : Fld := ⟨11534336, 14, 1, .rwl, 0, 0, 1, 0, 1⟩

/-- CMP_STATUS.CLANES (12), RO, reset 48: Compression lanes in service, 0 to 48 -/
def Reg.CMP_STATUS_CLANES : Fld := ⟨11534340, 0, 6, .ro, 48, 0, 1, 0, 1⟩

/-- CMP_STATUS.DLANES (12), RO, reset 64: Decompression lanes in service, 0 to 64 -/
def Reg.CMP_STATUS_DLANES : Fld := ⟨11534340, 8, 7, .ro, 64, 0, 1, 0, 1⟩

/-- CMP_STATUS.WAIT (12), RO, reset 0: Committed blocks waiting for a lane, 0 to 96 -/
def Reg.CMP_STATUS_WAIT : Fld := ⟨11534340, 16, 7, .ro, 0, 0, 1, 0, 1⟩

/-- CMP_CLANE_FAULT (12): Compression lanes out of service, bits [47:0], RO -/
def Reg.CMP_CLANE_FAULT : Fld := ⟨11534344, 0, 64, .ro, 0, 0, 1, 0, 1⟩

/-- CMP_DLANE_FAULT (12): Decompression lanes out of service, bits [63:0], RO -/
def Reg.CMP_DLANE_FAULT : Fld := ⟨11534352, 0, 64, .ro, 0, 0, 1, 0, 1⟩

/-- CMP_IN_BYTES (12): Plaintext bytes compressed, RO, wraps -/
def Reg.CMP_IN_BYTES : Fld := ⟨11534360, 0, 64, .ro, 0, 0, 1, 0, 1⟩

/-- CMP_OUT_BYTES (12): Stored bytes produced, compressed or raw, RO, wraps -/
def Reg.CMP_OUT_BYTES : Fld := ⟨11534368, 0, 64, .ro, 0, 0, 1, 0, 1⟩

/-- CMP_NOGAIN (12): Blocks stored raw under R361, RO, wraps -/
def Reg.CMP_NOGAIN : Fld := ⟨11534376, 0, 64, .ro, 0, 0, 1, 0, 1⟩

/-- CMP_DYN (12): Blocks stored with a dynamic table, RO, wraps -/
def Reg.CMP_DYN : Fld := ⟨11534384, 0, 64, .ro, 0, 0, 1, 0, 1⟩

/-- CMP_VERIFY_LAST.REASON (12), RO, reset 0: Code from R367; 0 if none -/
def Reg.CMP_VERIFY_LAST_REASON : Fld := ⟨11534392, 0, 3, .ro, 0, 0, 1, 0, 1⟩

/-- CMP_VERIFY_LAST.RETRY_PASSED (12), RO, reset 0: The second decode of R369 passed -/
def Reg.CMP_VERIFY_LAST_RETRY_PASSED : Fld := ⟨11534392, 3, 1, .ro, 0, 0, 1, 0, 1⟩

/-- CMP_VERIFY_LAST.LANE (12), RO, reset 0: Lane of the first decode, 0 to 63 -/
def Reg.CMP_VERIFY_LAST_LANE : Fld := ⟨11534392, 4, 6, .ro, 0, 0, 1, 0, 1⟩

/-- CMP_VERIFY_LAST.TURN (12), RO, reset 0: Turn counter [15:0] at the failure -/
def Reg.CMP_VERIFY_LAST_TURN : Fld := ⟨11534392, 16, 16, .ro, 0, 0, 1, 0, 1⟩

/-- CMP_CLR.CLEAR (12), W1S, reset 0: Zero CMP_VERIFY and CMP_VERIFY_LAST at the next Turn boundary -/
def Reg.CMP_CLR_CLEAR : Fld := ⟨11534396, 0, 1, .w1s, 0, 0, 1, 0, 1⟩

/-- CMP_VERIFY (12): Count for reason n of R367 at 0x0040 + 4 × (n − 1), RO, saturating -/
def Reg.CMP_VERIFY : Fld := ⟨11534400, 0, 32, .ro, 0, 0, 1, 4, 7⟩

/-- CMP_MODE (12): Sectors coded in mode m at 0x0100 + 8m; RAW sectors at 0x0140; RO, wraps -/
def Reg.CMP_MODE : Fld := ⟨11534592, 0, 64, .ro, 0, 0, 1, 8, 9⟩

/-- CPH_STATUS.LOADED (13), RO, reset 0: Slots LOADED, 0 to 65,536 -/
def Reg.CPH_STATUS_LOADED : Fld := ⟨12582912, 0, 17, .ro, 0, 0, 1, 0, 1⟩

/-- CPH_STATUS.ENGINES (13), RO, reset 32: Pipelines in service, 0 to 32 -/
def Reg.CPH_STATUS_ENGINES : Fld := ⟨12582912, 17, 6, .ro, 32, 0, 1, 0, 1⟩

/-- CPH_STATUS.SEALING (13), RO, reset 0: The epoch is durable and sealing is allowed (R381) -/
def Reg.CPH_STATUS_SEALING : Fld := ⟨12582912, 23, 1, .ro, 0, 0, 1, 0, 1⟩

/-- CPH_ENG_FAULT (13): Pipelines out of service, bit per pipeline, RO, cleared only on reset -/
def Reg.CPH_ENG_FAULT : Fld := ⟨12582916, 0, 32, .ro, 0, 0, 1, 0, 1⟩

/-- CPH_EPOCH (13): FIELD of the current epoch (R380), RO -/
def Reg.CPH_EPOCH : Fld := ⟨12582920, 0, 32, .ro, 0, 0, 1, 0, 1⟩

/-- CPH_INVOC (13): Next INVOCATION, RO -/
def Reg.CPH_INVOC : Fld := ⟨12582928, 0, 64, .ro, 0, 0, 1, 0, 1⟩

/-- CPH_TAG_FAIL (13): Tag failures, RO, wraps -/
def Reg.CPH_TAG_FAIL : Fld := ⟨12582936, 0, 64, .ro, 0, 0, 1, 0, 1⟩

/-- CPH_TALLY_BYTES (13): Tally bytes through the pool, RO, wraps -/
def Reg.CPH_TALLY_BYTES : Fld := ⟨12582944, 0, 64, .ro, 0, 0, 1, 0, 1⟩

/-- CPH_SLOT_SEL (13): Slot index in [15:0], RW -/
def Reg.CPH_SLOT_SEL : Fld := ⟨12582952, 0, 16, .rw, 0, 0, 1, 0, 1⟩

/-- CPH_SLOT_CTL.READ (13), W1S, reset 0: Copy the selected slot's metadata into CPH_SLOT_DATA; reads 1 until done, within 1 Turn -/
def Reg.CPH_SLOT_CTL_READ : Fld := ⟨12582956, 0, 1, .w1s, 0, 0, 1, 0, 1⟩

/-- CPH_SLOT_CTL.VALID (13), RO, reset 0: CPH_SLOT_DATA holds the slot in CPH_SLOT_SEL -/
def Reg.CPH_SLOT_CTL_VALID : Fld := ⟨12582956, 1, 1, .ro, 0, 0, 1, 0, 1⟩

/-- CPH_RESEAL.NSID (13), RO, reset 0: Namespace being re-sealed; 0 if none -/
def Reg.CPH_RESEAL_NSID : Fld := ⟨12582960, 0, 11, .ro, 0, 0, 1, 0, 1⟩

/-- CPH_RESEAL.PERCENT (13), RO, reset 0: Progress, 0 to 100 -/
def Reg.CPH_RESEAL_PERCENT : Fld := ⟨12582960, 11, 7, .ro, 0, 0, 1, 0, 1⟩

/-- CPH_RESEAL.SKIPPED (13), RO, reset 0: Extents skipped (R397), saturating at 16,383 -/
def Reg.CPH_RESEAL_SKIPPED : Fld := ⟨12582960, 18, 14, .ro, 0, 0, 1, 0, 1⟩

/-- CPH_SLOT_DATA (13): DW0 KEY_ID; DW1 NSID; DW2 [1:0] state, [2] fall-back, [3] current; DW3–DW4 REFS; DW5 Turn loaded [31:0]; DW6–DW7 0; RO -/
def Reg.CPH_SLOT_DATA : Fld := ⟨12583168, 0, 32, .ro, 0, 0, 1, 4, 8⟩

/-- CPH_FBK_KEY (13): Key bytes 0–31, WO -/
def Reg.CPH_FBK_KEY : Fld := ⟨12587008, 0, 32, .wo, 0, 64, 16, 4, 8⟩

/-- CPH_FBK_ID (13): KEY_ID, RW -/
def Reg.CPH_FBK_ID : Fld := ⟨12587040, 0, 32, .rw, 0, 64, 16, 0, 1⟩

/-- CPH_FBK_NS (13): NSID, RW -/
def Reg.CPH_FBK_NS : Fld := ⟨12587044, 0, 32, .rw, 0, 64, 16, 0, 1⟩

/-- CPH_FBK_CTL.GO (13), W1S, reset 0: Load the key (R394). Reads 1 until done: within 1 ms for a re-entry, and, for a new KEY_ID, until its record is durable and the slot is LOADED -/
def Reg.CPH_FBK_CTL_GO : Fld := ⟨12587048, 0, 1, .w1s, 0, 64, 16, 0, 1⟩

/-- CPH_FBK_CTL.RESULT (13), RO, reset 0: 0 none; 1 done; 2 FORMAT; 3 TENANT or FALLBACK clear; 4 DUPLICATE; 5 NAMESPACE; 6 check value mismatch; 7 refused under the first sentence of R394; 8 a new KEY_ID on a canister that is not ACTIVE (R394) -/
def Reg.CPH_FBK_CTL_RESULT : Fld := ⟨12587048, 4, 4, .ro, 0, 64, 16, 0, 1⟩

/-- LAY_STATUS.OPEN (14), RO, reset 0: Open stripes, 0 to 256 -/
def Reg.LAY_STATUS_OPEN : Fld := ⟨13631488, 0, 9, .ro, 0, 0, 1, 0, 1⟩

/-- LAY_STATUS.APPEND_HELD (14), RO, reset 0: Write-class admission is held for lack of an appending group (R434) -/
def Reg.LAY_STATUS_APPEND_HELD : Fld := ⟨13631488, 9, 1, .ro, 0, 0, 1, 0, 1⟩

/-- LAY_STATUS.DELTA_HELD (14), RO, reset 0: Write-class admission is held under R444 -/
def Reg.LAY_STATUS_DELTA_HELD : Fld := ⟨13631488, 10, 1, .ro, 0, 0, 1, 0, 1⟩

/-- LAY_STATUS.APPENDING (14), RO, reset 0: Bit g: native group g is appending -/
def Reg.LAY_STATUS_APPENDING : Fld := ⟨13631488, 16, 8, .ro, 0, 0, 1, 0, 1⟩

/-- LAY_CFG.GATHER_HOLD (14), RWL, reset 64: Turns, 1 to 4,096; 4,096 is written as 0 -/
def Reg.LAY_CFG_GATHER_HOLD : Fld := ⟨13631492, 0, 13, .rwl, 64, 0, 1, 0, 1⟩

/-- LAY_CFG.RESERVE_PCT (14), RWL, reset 2: 1 to 20 -/
def Reg.LAY_CFG_RESERVE_PCT : Fld := ⟨13631492, 13, 5, .rwl, 2, 0, 1, 0, 1⟩

/-- LAY_CFG.COMPACT_PCT (14), RWL, reset 10: Above RESERVE_PCT, up to 50 -/
def Reg.LAY_CFG_COMPACT_PCT : Fld := ⟨13631492, 18, 6, .rwl, 10, 0, 1, 0, 1⟩

/-- LAY_CFG.READY_TIMEOUT (14), RWL, reset 30: Units of 2 s, 3 to 150. Firmware writes the image value in seconds, 5 to 300, divided by 2 and rounded up, and the timeout runs for the encoded value. The default of 60 s is written as 30 -/
def Reg.LAY_CFG_READY_TIMEOUT : Fld := ⟨13631492, 24, 8, .rwl, 30, 0, 1, 0, 1⟩

/-- LAY_CLOSE_HOLD (14): CLOSE_HOLD in Turns, RWL -/
def Reg.LAY_CLOSE_HOLD : Fld := ⟨13631496, 0, 32, .rwl, 0, 0, 1, 0, 1⟩

/-- LAY_SET_CTL.SET (14), RW, reset 0: Set, 0 to 7 -/
def Reg.LAY_SET_CTL_SET : Fld := ⟨13631504, 0, 3, .rw, 0, 0, 1, 0, 1⟩

/-- LAY_SET_CTL.ON (14), W1S, reset 0: Request power-up; reads 1 until the request is accepted or refused -/
def Reg.LAY_SET_CTL_ON : Fld := ⟨13631504, 3, 1, .w1s, 0, 0, 1, 0, 1⟩

/-- LAY_SET_CTL.OFF (14), W1S, reset 0: Request a stop; reads 1 until the request is accepted or refused -/
def Reg.LAY_SET_CTL_OFF : Fld := ⟨13631504, 4, 1, .w1s, 0, 0, 1, 0, 1⟩

/-- LAY_SET_CTL.RESULT (14), RO, reset 0: 0 none; 1 accepted, a stop of a POWERING set included (R435); 2 no such set; 3 refused (R435); 4 already in that state; 5 outside R96; 6 the canister is not ACTIVE (R435) -/
def Reg.LAY_SET_CTL_RESULT : Fld := ⟨13631504, 8, 4, .ro, 0, 0, 1, 0, 1⟩

/-- LAY_SET_STATUS.STATE_s (14), RO, reset 0: State of set s (R432) -/
def Reg.LAY_SET_STATUS_STATE_0 : Fld := ⟨13631508, 0, 2, .ro, 0, 0, 1, 0, 1⟩

/-- LAY_SET_STATUS.STATE_s (14), RO, reset 0: State of set s (R432) -/
def Reg.LAY_SET_STATUS_STATE_1 : Fld := ⟨13631508, 2, 2, .ro, 0, 0, 1, 0, 1⟩

/-- LAY_SET_STATUS.STATE_s (14), RO, reset 0: State of set s (R432) -/
def Reg.LAY_SET_STATUS_STATE_2 : Fld := ⟨13631508, 4, 2, .ro, 0, 0, 1, 0, 1⟩

/-- LAY_SET_STATUS.STATE_s (14), RO, reset 0: State of set s (R432) -/
def Reg.LAY_SET_STATUS_STATE_3 : Fld := ⟨13631508, 6, 2, .ro, 0, 0, 1, 0, 1⟩

/-- LAY_SET_STATUS.STATE_s (14), RO, reset 0: State of set s (R432) -/
def Reg.LAY_SET_STATUS_STATE_4 : Fld := ⟨13631508, 8, 2, .ro, 0, 0, 1, 0, 1⟩

/-- LAY_SET_STATUS.STATE_s (14), RO, reset 0: State of set s (R432) -/
def Reg.LAY_SET_STATUS_STATE_5 : Fld := ⟨13631508, 10, 2, .ro, 0, 0, 1, 0, 1⟩

/-- LAY_SET_STATUS.STATE_s (14), RO, reset 0: State of set s (R432) -/
def Reg.LAY_SET_STATUS_STATE_6 : Fld := ⟨13631508, 12, 2, .ro, 0, 0, 1, 0, 1⟩

/-- LAY_SET_STATUS.STATE_s (14), RO, reset 0: State of set s (R432) -/
def Reg.LAY_SET_STATUS_STATE_7 : Fld := ⟨13631508, 14, 2, .ro, 0, 0, 1, 0, 1⟩

/-- LAY_SET_STATUS.AUTO (14), RO, reset 0: Bit s: set s was last powered by Daxzin itself (R434) -/
def Reg.LAY_SET_STATUS_AUTO : Fld := ⟨13631508, 16, 8, .ro, 0, 0, 1, 0, 1⟩

/-- LAY_CKPT.BUSY (14), RO, reset 0: A checkpoint is running -/
def Reg.LAY_CKPT_BUSY : Fld := ⟨13631512, 0, 1, .ro, 0, 0, 1, 0, 1⟩

/-- LAY_CKPT.PERCENT (14), RO, reset 0: Progress, 0 to 100 -/
def Reg.LAY_CKPT_PERCENT : Fld := ⟨13631512, 1, 7, .ro, 0, 0, 1, 0, 1⟩

/-- LAY_CKPT.AREA (14), RO, reset 0: Area of the newest complete checkpoint: 0 A, 1 B -/
def Reg.LAY_CKPT_AREA : Fld := ⟨13631512, 8, 1, .ro, 0, 0, 1, 0, 1⟩

/-- LAY_CKPT.TURN (14), RO, reset 0: Turn counter [15:0] at which the newest complete checkpoint began -/
def Reg.LAY_CKPT_TURN : Fld := ⟨13631512, 16, 16, .ro, 0, 0, 1, 0, 1⟩

/-- LAY_STRIPES (14): Stripes written, RO, wraps -/
def Reg.LAY_STRIPES : Fld := ⟨13631520, 0, 64, .ro, 0, 0, 1, 0, 1⟩

/-- LAY_PADDED (14): Stripes closed by padding, RO, wraps -/
def Reg.LAY_PADDED : Fld := ⟨13631528, 0, 64, .ro, 0, 0, 1, 0, 1⟩

/-- LAY_RMW (14): Versions written by R427, RO, wraps -/
def Reg.LAY_RMW : Fld := ⟨13631536, 0, 64, .ro, 0, 0, 1, 0, 1⟩

/-- LAY_ERASURE (14): Units recomputed on read, RO, wraps -/
def Reg.LAY_ERASURE : Fld := ⟨13631544, 0, 64, .ro, 0, 0, 1, 0, 1⟩

/-- LAY_PARITY_FIX (14): Parity units rewritten, RO, saturating -/
def Reg.LAY_PARITY_FIX : Fld := ⟨13631552, 0, 32, .ro, 0, 0, 1, 0, 1⟩

/-- LAY_LOST (14): Blocks marked lost, RO, saturating -/
def Reg.LAY_LOST : Fld := ⟨13631556, 0, 32, .ro, 0, 0, 1, 0, 1⟩

/-- LAY_GROUP_CFG.K (14), RO, reset 0: Current width in data units -/
def Reg.LAY_GROUP_CFG_K : Fld := ⟨13631744, 0, 5, .ro, 0, 64, 10, 0, 1⟩

/-- LAY_GROUP_CFG.TALLY (14), RO, reset 0: The group is a tally group -/
def Reg.LAY_GROUP_CFG_TALLY : Fld := ⟨13631744, 5, 1, .ro, 0, 64, 10, 0, 1⟩

/-- LAY_GROUP_CFG.SET (14), RO, reset 0: Power set -/
def Reg.LAY_GROUP_CFG_SET : Fld := ⟨13631744, 6, 3, .ro, 0, 64, 10, 0, 1⟩

/-- LAY_GROUP_CFG.APPEND (14), RWL, reset 0: APPEND from the image -/
def Reg.LAY_GROUP_CFG_APPEND : Fld := ⟨13631744, 9, 1, .rwl, 0, 64, 10, 0, 1⟩

/-- LAY_GROUP_STATE.FAILED (14), RO, reset 0: Failed members: 0, 1, 2, or 3 for more than 2 -/
def Reg.LAY_GROUP_STATE_FAILED : Fld := ⟨13631748, 0, 2, .ro, 0, 64, 10, 0, 1⟩

/-- LAY_GROUP_STATE.APPENDING (14), RO, reset 0: R419 holds -/
def Reg.LAY_GROUP_STATE_APPENDING : Fld := ⟨13631748, 2, 1, .ro, 0, 64, 10, 0, 1⟩

/-- LAY_GROUP_STATE.FULL (14), RO, reset 0: At reserve (R431) -/
def Reg.LAY_GROUP_STATE_FULL : Fld := ⟨13631748, 3, 1, .ro, 0, 64, 10, 0, 1⟩

/-- LAY_GROUP_STATE.COMPACTING (14), RO, reset 0: R430 is running -/
def Reg.LAY_GROUP_STATE_COMPACTING : Fld := ⟨13631748, 4, 1, .ro, 0, 64, 10, 0, 1⟩

/-- LAY_GROUP_STATE.RESHAPING (14), RO, reset 0: A reshape is running -/
def Reg.LAY_GROUP_STATE_RESHAPING : Fld := ⟨13631748, 5, 1, .ro, 0, 64, 10, 0, 1⟩

/-- LAY_GROUP_STATE.UNREADABLE (14), RO, reset 0: Fewer than k members are ready (R433) -/
def Reg.LAY_GROUP_STATE_UNREADABLE : Fld := ⟨13631748, 6, 1, .ro, 0, 64, 10, 0, 1⟩

/-- LAY_GROUP_STATE.OPEN (14), RO, reset 0: Open stripes of the group, 0 to 128 -/
def Reg.LAY_GROUP_STATE_OPEN : Fld := ⟨13631748, 8, 8, .ro, 0, 64, 10, 0, 1⟩

/-- LAY_GROUP_HEAD (14): Head log address, RO -/
def Reg.LAY_GROUP_HEAD : Fld := ⟨13631752, 0, 64, .ro, 0, 64, 10, 0, 1⟩

/-- LAY_GROUP_TAIL (14): First row of the tail segment, RO -/
def Reg.LAY_GROUP_TAIL : Fld := ⟨13631760, 0, 64, .ro, 0, 64, 10, 0, 1⟩

/-- LAY_GROUP_ROWS (14): ROWS, RO -/
def Reg.LAY_GROUP_ROWS : Fld := ⟨13631768, 0, 64, .ro, 0, 64, 10, 0, 1⟩

/-- LAY_GROUP_LIVE (14): Live stored bytes, RO -/
def Reg.LAY_GROUP_LIVE : Fld := ⟨13631776, 0, 64, .ro, 0, 64, 10, 0, 1⟩

/-- LAY_GROUP_MEMBERS (14): Member slots in bits [23:0], RO -/
def Reg.LAY_GROUP_MEMBERS : Fld := ⟨13631784, 0, 32, .ro, 0, 64, 10, 0, 1⟩

/-- JNL_STATUS.ACTIVE (15), RO, reset 0: ACTIVE anchors, 0 to 3 -/
def Reg.JNL_STATUS_ACTIVE : Fld := ⟨14680064, 0, 2, .ro, 0, 0, 1, 0, 1⟩

/-- JNL_STATUS.STALLED (15), RO, reset 0: Completions held under R474 -/
def Reg.JNL_STATUS_STALLED : Fld := ⟨14680064, 2, 1, .ro, 0, 0, 1, 0, 1⟩

/-- JNL_STATUS.CAP_LIMITED (15), RO, reset 0: The credit was at or below 0 at the last boundary -/
def Reg.JNL_STATUS_CAP_LIMITED : Fld := ⟨14680064, 3, 1, .ro, 0, 0, 1, 0, 1⟩

/-- JNL_STATUS.RING_HELD (15), RO, reset 0: R468 -/
def Reg.JNL_STATUS_RING_HELD : Fld := ⟨14680064, 4, 1, .ro, 0, 0, 1, 0, 1⟩

/-- JNL_STATUS.REPLAYING (15), RO, reset 0: Replay is running -/
def Reg.JNL_STATUS_REPLAYING : Fld := ⟨14680064, 5, 1, .ro, 0, 0, 1, 0, 1⟩

/-- JNL_STATUS.SEEDING (15), RO, reset 0: A re-seed is running -/
def Reg.JNL_STATUS_SEEDING : Fld := ⟨14680064, 6, 1, .ro, 0, 0, 1, 0, 1⟩

/-- JNL_CFG.ANCHOR_CAP (15), RWL, reset 8: GB/s, 1 to 8 -/
def Reg.JNL_CFG_ANCHOR_CAP : Fld := ⟨14680068, 0, 4, .rwl, 8, 0, 1, 0, 1⟩

/-- JNL_CFG.LIVE_CAP (15), RWL, reset 48: MiB, 16 to 48 -/
def Reg.JNL_CFG_LIVE_CAP : Fld := ⟨14680068, 4, 6, .rwl, 48, 0, 1, 0, 1⟩

/-- JNL_CFG.STANDBY_ANCHOR (15), RWL, reset 31: Slot 0 to 23; 31 none -/
def Reg.JNL_CFG_STANDBY_ANCHOR : Fld := ⟨14680068, 16, 5, .rwl, 31, 0, 1, 0, 1⟩

/-- JNL_SEQ (15): Next SEQ, RO -/
def Reg.JNL_SEQ : Fld := ⟨14680072, 0, 64, .ro, 0, 0, 1, 0, 1⟩

/-- JNL_TAIL (15): SEQ of the tail, RO -/
def Reg.JNL_TAIL : Fld := ⟨14680080, 0, 64, .ro, 0, 0, 1, 0, 1⟩

/-- JNL_CREDIT (15): Credit in bytes, signed, RO -/
def Reg.JNL_CREDIT : Fld := ⟨14680088, 0, 32, .ro, 0, 0, 1, 0, 1⟩

/-- JNL_LIVE (15): Live PARTIAL bytes, RO -/
def Reg.JNL_LIVE : Fld := ⟨14680092, 0, 32, .ro, 0, 0, 1, 0, 1⟩

/-- JNL_BYTES (15): Sum of the LENGTH of every non-PAD record formed, which each anchor that receives records gets once. PAD records and the consolidated records of a re-seed are not counted. RO, wraps -/
def Reg.JNL_BYTES : Fld := ⟨14680096, 0, 64, .ro, 0, 0, 1, 0, 1⟩

/-- JNL_CAP_WAIT (15): Hold expiries without a record (R466), RO, wraps -/
def Reg.JNL_CAP_WAIT : Fld := ⟨14680104, 0, 64, .ro, 0, 0, 1, 0, 1⟩

/-- JNL_REPLAY.KIND (15), RO, reset 0: 0 none, 1 power-up, 2 takeover -/
def Reg.JNL_REPLAY_KIND : Fld := ⟨14680112, 0, 2, .ro, 0, 0, 1, 0, 1⟩

/-- JNL_REPLAY.UNNAMED (15), RO, reset 0: A loss was reported with NSID FFFFFFFFh (R478) -/
def Reg.JNL_REPLAY_UNNAMED : Fld := ⟨14680112, 2, 1, .ro, 0, 0, 1, 0, 1⟩

/-- JNL_REPLAY.LOST (15), RO, reset 0: Versions marked lost, saturating at 255 -/
def Reg.JNL_REPLAY_LOST : Fld := ⟨14680112, 8, 8, .ro, 0, 0, 1, 0, 1⟩

/-- JNL_REPLAY.DURATION (15), RO, reset 0: Replay time in ms, saturating at 65,535 -/
def Reg.JNL_REPLAY_DURATION : Fld := ⟨14680112, 16, 16, .ro, 0, 0, 1, 0, 1⟩

/-- JNL_STALL (15): Turns spent under R474, RO, saturating -/
def Reg.JNL_STALL : Fld := ⟨14680116, 0, 32, .ro, 0, 0, 1, 0, 1⟩

/-- JNL_REPLAY_RECS (15): Records applied by the last replay, RO -/
def Reg.JNL_REPLAY_RECS : Fld := ⟨14680120, 0, 32, .ro, 0, 0, 1, 0, 1⟩

/-- JNL_ANCHOR.STATE (15), RO, reset 3: R451 -/
def Reg.JNL_ANCHOR_STATE : Fld := ⟨14680128, 0, 2, .ro, 3, 32, 3, 0, 1⟩

/-- JNL_ANCHOR.PROMOTED (15), RO, reset 0: The role is held by a promoted spare or a replacement drive (R471) -/
def Reg.JNL_ANCHOR_PROMOTED : Fld := ⟨14680128, 2, 1, .ro, 0, 32, 3, 0, 1⟩

/-- JNL_ANCHOR.SLOT (15), RO, reset 0: Member slot, 0 to 23 -/
def Reg.JNL_ANCHOR_SLOT : Fld := ⟨14680128, 8, 5, .ro, 0, 32, 3, 0, 1⟩

/-- JNL_ANCHOR.EPOCH (15), RO, reset 0: RING_EPOCH [15:0] -/
def Reg.JNL_ANCHOR_EPOCH : Fld := ⟨14680128, 16, 16, .ro, 0, 32, 3, 0, 1⟩

/-- JNL_ANCHOR_HEAD (15): Ring offset of the next record, RO -/
def Reg.JNL_ANCHOR_HEAD : Fld := ⟨14680136, 0, 64, .ro, 0, 32, 3, 0, 1⟩

/-- JNL_ANCHOR_COMMIT (15): COMMIT_SEQ (R460), RO -/
def Reg.JNL_ANCHOR_COMMIT : Fld := ⟨14680144, 0, 64, .ro, 0, 32, 3, 0, 1⟩

/-- AXL_STATUS.WALKING (16), RO, reset 0: Bit g: a walk runs on group g -/
def Reg.AXL_STATUS_WALKING : Fld := ⟨15728640, 0, 10, .ro, 0, 0, 1, 0, 1⟩

/-- AXL_STATUS.RESHAPING (16), RO, reset 0: A reshape or PREPARING runs -/
def Reg.AXL_STATUS_RESHAPING : Fld := ⟨15728640, 10, 1, .ro, 0, 0, 1, 0, 1⟩

/-- AXL_STATUS.PRESSURE (16), RO, reset 0: The previous Turn showed host pressure (R499) -/
def Reg.AXL_STATUS_PRESSURE : Fld := ⟨15728640, 11, 1, .ro, 0, 0, 1, 0, 1⟩

/-- AXL_RB_RATE.FLOOR (16), RWL, reset 4 / 2: Floor in units of 0.25 GB/s, 1 to 60 -/
def Reg.AXL_RB_RATE_FLOOR : Fld := ⟨15728644, 0, 6, .rwl, 4, 0, 1, 0, 1⟩

/-- AXL_RB_RATE.CEIL (16), RWL, reset 16 / 8: Ceiling in units of 0.25 GB/s, FLOOR to 60 -/
def Reg.AXL_RB_RATE_CEIL : Fld := ⟨15728644, 8, 6, .rwl, 16, 0, 1, 0, 1⟩

/-- AXL_RB_RATE.RATE (16), RW, reset 16 / 8: Current RATE, FLOOR to CEIL. A write outside that range is ignored and raises the configuration-violation event. Honoured from a control core only (R220) -/
def Reg.AXL_RB_RATE_RATE : Fld := ⟨15728644, 16, 6, .rw, 16, 0, 1, 0, 1⟩

/-- AXL_RS_RATE.FLOOR (16), RWL, reset 4 / 2: Floor in units of 0.25 GB/s, 1 to 60 -/
def Reg.AXL_RS_RATE_FLOOR : Fld := ⟨15728648, 0, 6, .rwl, 2, 0, 1, 0, 1⟩

/-- AXL_RS_RATE.CEIL (16), RWL, reset 16 / 8: Ceiling in units of 0.25 GB/s, FLOOR to 60 -/
def Reg.AXL_RS_RATE_CEIL : Fld := ⟨15728648, 8, 6, .rwl, 8, 0, 1, 0, 1⟩

/-- AXL_RS_RATE.RATE (16), RW, reset 16 / 8: Current RATE, FLOOR to CEIL. A write outside that range is ignored and raises the configuration-violation event. Honoured from a control core only (R220) -/
def Reg.AXL_RS_RATE_RATE : Fld := ⟨15728648, 16, 6, .rw, 8, 0, 1, 0, 1⟩

/-- AXL_SC_RATE.CEIL (16), RWL, reset 16: SC_CEIL in units of 0.25 GB/s, 1 to 60 -/
def Reg.AXL_SC_RATE_CEIL : Fld := ⟨15728652, 8, 6, .rwl, 16, 0, 1, 0, 1⟩

/-- AXL_SC_RATE.RATE (16), RW, reset 16: Current rate, 1 to CEIL; honoured from a control core only -/
def Reg.AXL_SC_RATE_RATE : Fld := ⟨15728652, 16, 6, .rw, 16, 0, 1, 0, 1⟩

/-- AXL_CREDIT (16): Credits of rebuild, reshape and scrub in bytes, signed, RO -/
def Reg.AXL_CREDIT : Fld := ⟨15728656, 0, 32, .ro, 0, 0, 1, 4, 3⟩

/-- AXL_RESYNC (16): RESYNC_WINDOW in minutes, 1 to 60, RWL -/
def Reg.AXL_RESYNC : Fld := ⟨15728672, 0, 32, .rwl, 0, 0, 1, 0, 1⟩

/-- AXL_RB_BYTES (16): Bytes written by walks, RO, wraps -/
def Reg.AXL_RB_BYTES : Fld := ⟨15728680, 0, 64, .ro, 0, 0, 1, 0, 1⟩

/-- AXL_LOST_COLS (16): Page columns lost under R487, RO, saturating -/
def Reg.AXL_LOST_COLS : Fld := ⟨15728688, 0, 32, .ro, 0, 0, 1, 0, 1⟩

/-- AXL_POS.STATE (16), RO, reset 0: R484 -/
def Reg.AXL_POS_STATE : Fld := ⟨15728896, 0, 3, .ro, 0, 4, 24, 0, 1⟩

/-- AXL_POS.SPARE (16), RO, reset 0: The drive in the slot is a spare -/
def Reg.AXL_POS_SPARE : Fld := ⟨15728896, 3, 1, .ro, 0, 4, 24, 0, 1⟩

/-- AXL_POS.GROUP (16), RO, reset 15: Group 0 to 9; 15 none -/
def Reg.AXL_POS_GROUP : Fld := ⟨15728896, 4, 4, .ro, 15, 4, 24, 0, 1⟩

/-- AXL_POS.POSITION (16), RO, reset 0: 0 to 23 -/
def Reg.AXL_POS_POSITION : Fld := ⟨15728896, 8, 5, .ro, 0, 4, 24, 0, 1⟩

/-- AXL_POS.GEN (16), RO, reset 0: Member generation [15:0] -/
def Reg.AXL_POS_GEN : Fld := ⟨15728896, 16, 16, .ro, 0, 4, 24, 0, 1⟩

/-- AXL_GRP_DONE (16): Rows done by the current walk, RO -/
def Reg.AXL_GRP_DONE : Fld := ⟨15729152, 0, 64, .ro, 0, 32, 10, 0, 1⟩

/-- AXL_GRP_PENDING (16): Rows pending at the walk's start, RO -/
def Reg.AXL_GRP_PENDING : Fld := ⟨15729160, 0, 64, .ro, 0, 32, 10, 0, 1⟩

/-- AXL_GRP_BOUNDARY (16): BOUNDARY of a reshape (R506), RO -/
def Reg.AXL_GRP_BOUNDARY : Fld := ⟨15729168, 0, 64, .ro, 0, 32, 10, 0, 1⟩

/-- AXL_GRP_RESHAPE.STATE (16), RO, reset 0: 0 none, 1 PREPARING, 2 moving, 3 paused -/
def Reg.AXL_GRP_RESHAPE_STATE : Fld := ⟨15729176, 0, 2, .ro, 0, 32, 10, 0, 1⟩

/-- AXL_GRP_RESHAPE.DIR (16), RO, reset 0: 0 widen, 1 narrow -/
def Reg.AXL_GRP_RESHAPE_DIR : Fld := ⟨15729176, 2, 1, .ro, 0, 32, 10, 0, 1⟩

/-- AXL_GRP_RESHAPE.BACKUP (16), RO, reset 0: The current batch holds units in the backup -/
def Reg.AXL_GRP_RESHAPE_BACKUP : Fld := ⟨15729176, 3, 1, .ro, 0, 32, 10, 0, 1⟩

/-- AXL_GRP_RESHAPE.OLD_K (16), RO, reset 0: k -/
def Reg.AXL_GRP_RESHAPE_OLD_K : Fld := ⟨15729176, 4, 5, .ro, 0, 32, 10, 0, 1⟩

/-- AXL_GRP_RESHAPE.NEW_K (16), RO, reset 0: k′ -/
def Reg.AXL_GRP_RESHAPE_NEW_K : Fld := ⟨15729176, 9, 5, .ro, 0, 32, 10, 0, 1⟩

/-- AXL_GRP_RESHAPE.PERCENT (16), RO, reset 0: Progress, 0 to 100 -/
def Reg.AXL_GRP_RESHAPE_PERCENT : Fld := ⟨15729176, 16, 7, .ro, 0, 32, 10, 0, 1⟩

/-- DRV_STATUS (17): Ready slots in bits [23:0], RO -/
def Reg.DRV_STATUS : Fld := ⟨16777216, 0, 32, .ro, 0, 0, 1, 0, 1⟩

/-- DRV_CFG.CMD_TIMEOUT (17), RWL, reset 4: Units of 0.5 s, 1 to 60 -/
def Reg.DRV_CFG_CMD_TIMEOUT : Fld := ⟨16777220, 0, 6, .rwl, 4, 0, 1, 0, 1⟩

/-- DRV_CFG.LINK_MIN (17), RWL, reset 6: Mode code of R511, 1 to 6 -/
def Reg.DRV_CFG_LINK_MIN : Fld := ⟨16777220, 8, 3, .rwl, 6, 0, 1, 0, 1⟩

/-- DRV_CFG.FORMAT_NEW (17), RWL, reset 1: R520 -/
def Reg.DRV_CFG_FORMAT_NEW : Fld := ⟨16777220, 11, 1, .rwl, 1, 0, 1, 0, 1⟩

/-- DRV_SLOT_STATE.STATE (17), RO, reset 0: 0 EMPTY, 1 POWERING, 2 TRAINING, 3 SETUP, 4 READY, 5 REFUSED, 6 LADDER, 7 OFF (R514) -/
def Reg.DRV_SLOT_STATE_STATE : Fld := ⟨16781312, 0, 3, .ro, 0, 256, 24, 0, 1⟩

/-- DRV_SLOT_STATE.LINK (17), RO, reset 0: Mode code of R511; 0 down -/
def Reg.DRV_SLOT_STATE_LINK : Fld := ⟨16781312, 3, 3, .ro, 0, 256, 24, 0, 1⟩

/-- DRV_SLOT_STATE.IO_OWNER (17), RO, reset 0: This canister issues I/O to the drive -/
def Reg.DRV_SLOT_STATE_IO_OWNER : Fld := ⟨16781312, 6, 1, .ro, 0, 256, 24, 0, 1⟩

/-- DRV_SLOT_STATE.TALLY (17), RO, reset 0: The drive is a tally member -/
def Reg.DRV_SLOT_STATE_TALLY : Fld := ⟨16781312, 7, 1, .ro, 0, 256, 24, 0, 1⟩

/-- DRV_SLOT_STATE.STEP (17), RO, reset 0: Ladder step, 1 to 4; 0 off the ladder -/
def Reg.DRV_SLOT_STATE_STEP : Fld := ⟨16781312, 8, 3, .ro, 0, 256, 24, 0, 1⟩

/-- DRV_SLOT_STATE.REASON (17), RO, reset 0: 0 none; 1 NO_LINK; 2 SLOW_LINK; 3 NOT_READY; 4 SINGLE_PORT; 5 QUEUES; 6 FORMAT; 7 VWC; 8 FOREIGN; 9 FAILED, by ladder step 4 (R530), Member Fail or R526; 10 LABEL, the label could not be read (R517, R520, R690) -/
def Reg.DRV_SLOT_STATE_REASON : Fld := ⟨16781312, 12, 4, .ro, 0, 256, 24, 0, 1⟩

/-- DRV_SLOT_STATE.CRIT_WARN (17), RO, reset 0: Critical-warning byte of the last SMART read -/
def Reg.DRV_SLOT_STATE_CRIT_WARN : Fld := ⟨16781312, 16, 8, .ro, 0, 256, 24, 0, 1⟩

/-- DRV_SLOT_STATE.TEMP (17), RO, reset 0: Composite temperature of the last SMART read, in °C, saturating at 255 -/
def Reg.DRV_SLOT_STATE_TEMP : Fld := ⟨16781312, 24, 8, .ro, 0, 256, 24, 0, 1⟩

/-- DRV_SLOT_SERIAL (17): NVMe serial number, 20 bytes, RO -/
def Reg.DRV_SLOT_SERIAL : Fld := ⟨16781320, 0, 32, .ro, 0, 256, 24, 4, 5⟩

/-- DRV_SLOT_TIMEOUTS (17): Commands timed out, RO, saturating -/
def Reg.DRV_SLOT_TIMEOUTS : Fld := ⟨16781344, 0, 32, .ro, 0, 256, 24, 0, 1⟩

/-- DRV_SLOT_LADDERS (17): Ladder entries, RO, saturating -/
def Reg.DRV_SLOT_LADDERS : Fld := ⟨16781348, 0, 32, .ro, 0, 256, 24, 0, 1⟩

/-- DRV_SLOT_PCIE_ERR (17): Correctable errors in [15:0] and uncorrectable in [31:16], RO, saturating -/
def Reg.DRV_SLOT_PCIE_ERR : Fld := ⟨16781352, 0, 32, .ro, 0, 256, 24, 0, 1⟩

/-- DRV_SLOT_BYTES_W (17): Bytes written, RO, wraps -/
def Reg.DRV_SLOT_BYTES_W : Fld := ⟨16781360, 0, 64, .ro, 0, 256, 24, 0, 1⟩

/-- DRV_SLOT_BYTES_R (17): Bytes read, RO, wraps -/
def Reg.DRV_SLOT_BYTES_R : Fld := ⟨16781368, 0, 64, .ro, 0, 256, 24, 0, 1⟩

/-- PWR_STATUS.WARN (18), RO, reset 0: The supply warning is asserted (R563) -/
def Reg.PWR_STATUS_WARN : Fld := ⟨17825792, 0, 1, .ro, 0, 0, 1, 0, 1⟩

/-- PWR_STATUS.SEL_VALID (18), RO, reset 0: A feed is SELECTED -/
def Reg.PWR_STATUS_SEL_VALID : Fld := ⟨17825792, 1, 1, .ro, 0, 0, 1, 0, 1⟩

/-- PWR_STATUS.SEL (18), RO, reset 0: Selected feed: 0 A, 1 B -/
def Reg.PWR_STATUS_SEL : Fld := ⟨17825792, 2, 1, .ro, 0, 0, 1, 0, 1⟩

/-- PWR_STATUS.TRANSFER (18), RO, reset 0: A transfer is in progress -/
def Reg.PWR_STATUS_TRANSFER : Fld := ⟨17825792, 3, 1, .ro, 0, 0, 1, 0, 1⟩

/-- PWR_STATUS.WARNS (18), RO, reset 0: Warnings since reset, saturating at 65,535 -/
def Reg.PWR_STATUS_WARNS : Fld := ⟨17825792, 16, 16, .ro, 0, 0, 1, 0, 1⟩

/-- PWR_CFG.FEED_PRI (18), RWL, reset 0: R537; 3 is never written -/
def Reg.PWR_CFG_FEED_PRI : Fld := ⟨17825796, 0, 2, .rwl, 0, 0, 1, 0, 1⟩

/-- PWR_CFG.BROWNOUT_HOLD (18), RWL, reset 2: ms, 1 to 20 -/
def Reg.PWR_CFG_BROWNOUT_HOLD : Fld := ⟨17825796, 3, 5, .rwl, 2, 0, 1, 0, 1⟩

/-- PWR_CFG.STAGGER (18), RWL, reset 4: Slots, 1 to 24 -/
def Reg.PWR_CFG_STAGGER : Fld := ⟨17825796, 8, 5, .rwl, 4, 0, 1, 0, 1⟩

/-- PWR_CFG.MAX_RETRY (18), RWL, reset 3: 0 to 15 -/
def Reg.PWR_CFG_MAX_RETRY : Fld := ⟨17825796, 16, 4, .rwl, 3, 0, 1, 0, 1⟩

/-- PWR_CFG.RETURN_HOLD (18), RWL, reset 10: Units of 0.1 s, 1 to 600 -/
def Reg.PWR_CFG_RETURN_HOLD : Fld := ⟨17825796, 20, 10, .rwl, 10, 0, 1, 0, 1⟩

/-- PWR_VOLT.UV (18), RWL, reset 102: Units of 0.1 V, 90 to 115 -/
def Reg.PWR_VOLT_UV : Fld := ⟨17825800, 0, 8, .rwl, 102, 0, 1, 0, 1⟩

/-- PWR_VOLT.OV (18), RWL, reset 132: Units of 0.1 V, 125 to 140 -/
def Reg.PWR_VOLT_OV : Fld := ⟨17825800, 8, 8, .rwl, 132, 0, 1, 0, 1⟩

/-- PWR_VOLT.WARN (18), RWL, reset 114: Units of 0.1 V, UV + 3 to 118 -/
def Reg.PWR_VOLT_WARN : Fld := ⟨17825800, 16, 8, .rwl, 114, 0, 1, 0, 1⟩

/-- PWR_TIMING.INSERT_DELAY (18), RWL, reset 250: ms, 50 to 2,000 -/
def Reg.PWR_TIMING_INSERT_DELAY : Fld := ⟨17825804, 0, 11, .rwl, 250, 0, 1, 0, 1⟩

/-- PWR_TIMING.FAULT_TIMER (18), RWL, reset 10: ms, 1 to 50 -/
def Reg.PWR_TIMING_FAULT_TIMER : Fld := ⟨17825804, 16, 6, .rwl, 10, 0, 1, 0, 1⟩

/-- PWR_TIMING.RETRY_DELAY (18), RWL, reset 10: s, 1 to 600 -/
def Reg.PWR_TIMING_RETRY_DELAY : Fld := ⟨17825804, 22, 10, .rwl, 10, 0, 1, 0, 1⟩

/-- PWR_CURRENT.ILIM_SLOT (18), RWL, reset 16: Units of 0.125 A, 4 to 64 -/
def Reg.PWR_CURRENT_ILIM_SLOT : Fld := ⟨17825808, 0, 7, .rwl, 16, 0, 1, 0, 1⟩

/-- PWR_CURRENT.ILIM_FEED (18), RWL, reset 40: A, 8 to 64 -/
def Reg.PWR_CURRENT_ILIM_FEED : Fld := ⟨17825808, 8, 7, .rwl, 40, 0, 1, 0, 1⟩

/-- PWR_CURRENT.SHUNT_SLOT (18), RWL, reset 50: Units of 0.1 mΩ, 1 to 255 -/
def Reg.PWR_CURRENT_SHUNT_SLOT : Fld := ⟨17825808, 16, 8, .rwl, 50, 0, 1, 0, 1⟩

/-- PWR_CURRENT.SHUNT_FEED (18), RWL, reset 50: Units of 0.01 mΩ, 1 to 255 -/
def Reg.PWR_CURRENT_SHUNT_FEED : Fld := ⟨17825808, 24, 8, .rwl, 50, 0, 1, 0, 1⟩

/-- PWR_BUS (18): Canister bus in mV: PPC-A in [15:0], PPC-B in [31:16], RO -/
def Reg.PWR_BUS : Fld := ⟨17825812, 0, 32, .ro, 0, 0, 1, 0, 1⟩

/-- PWR_FEED_STATE.STATE (18), RO, reset 0: R557 -/
def Reg.PWR_FEED_STATE_STATE : Fld := ⟨17826048, 0, 3, .ro, 0, 64, 2, 0, 1⟩

/-- PWR_FEED_STATE.PRESENT (18), RO, reset 0: Presence debounced -/
def Reg.PWR_FEED_STATE_PRESENT : Fld := ⟨17826048, 3, 1, .ro, 0, 64, 2, 0, 1⟩

/-- PWR_FEED_STATE.PG (18), RO, reset 0: Power-good -/
def Reg.PWR_FEED_STATE_PG : Fld := ⟨17826048, 4, 1, .ro, 0, 64, 2, 0, 1⟩

/-- PWR_FEED_STATE.LIMITING (18), RO, reset 0: The last sample had LIMITING set -/
def Reg.PWR_FEED_STATE_LIMITING : Fld := ⟨17826048, 5, 1, .ro, 0, 64, 2, 0, 1⟩

/-- PWR_FEED_STATE.IN_WINDOW (18), RO, reset 0: The input lay between UV and OV for the last 4 samples -/
def Reg.PWR_FEED_STATE_IN_WINDOW : Fld := ⟨17826048, 6, 1, .ro, 0, 64, 2, 0, 1⟩

/-- PWR_FEED_STATE.CAUSE (18), RO, reset 0: Last fault, coded as R547; 0 if none -/
def Reg.PWR_FEED_STATE_CAUSE : Fld := ⟨17826048, 8, 4, .ro, 0, 64, 2, 0, 1⟩

/-- PWR_FEED_STATE.RETRIES (18), RO, reset 0: Retry count (R548) -/
def Reg.PWR_FEED_STATE_RETRIES : Fld := ⟨17826048, 12, 4, .ro, 0, 64, 2, 0, 1⟩

/-- PWR_FEED_VIN (18): Input in mV in [15:0], RO -/
def Reg.PWR_FEED_VIN : Fld := ⟨17826052, 0, 32, .ro, 0, 64, 2, 0, 1⟩

/-- PWR_FEED_I (18): Current in units of 10 mA in [15:0], RO -/
def Reg.PWR_FEED_I : Fld := ⟨17826056, 0, 32, .ro, 0, 64, 2, 0, 1⟩

/-- PWR_FEED_COUNTS (18): Failure transfers away in [15:0], latched faults in [31:16], RO, saturating -/
def Reg.PWR_FEED_COUNTS : Fld := ⟨17826060, 0, 32, .ro, 0, 64, 2, 0, 1⟩

/-- PWR_SLOT_CTL.CLEAR (18), W1S, reset 0: Zero the retry count. In FAULT, also cancel the latched fault, unless it is FET_DAMAGED, and enter IDLE at the next boundary. In any other state the state is unchanged (R548) -/
def Reg.PWR_SLOT_CTL_CLEAR : Fld := ⟨17829888, 0, 1, .w1s, 0, 64, 24, 0, 1⟩

/-- PWR_SLOT_CTL.CYCLE (18), W1S, reset 0: Turn the channel off for 488,282 Turns (1 s, R19), then restore demand; ladder step 3 (R530); honoured under R568 -/
def Reg.PWR_SLOT_CTL_CYCLE : Fld := ⟨17829888, 1, 1, .w1s, 0, 64, 24, 0, 1⟩

/-- PWR_SLOT_CTL.PEAK_CLR (18), W1S, reset 0: Zero PWR_SLOT_IPEAK at the next boundary -/
def Reg.PWR_SLOT_CTL_PEAK_CLR : Fld := ⟨17829888, 2, 1, .w1s, 0, 64, 24, 0, 1⟩

/-- PWR_SLOT_STATE.STATE (18), RO, reset 0: R539 -/
def Reg.PWR_SLOT_STATE_STATE : Fld := ⟨17829892, 0, 3, .ro, 0, 64, 24, 0, 1⟩

/-- PWR_SLOT_STATE.PRESENT (18), RO, reset 0: Presence debounced (R541) -/
def Reg.PWR_SLOT_STATE_PRESENT : Fld := ⟨17829892, 3, 1, .ro, 0, 64, 24, 0, 1⟩

/-- PWR_SLOT_STATE.PG (18), RO, reset 0: Power-good (R545) -/
def Reg.PWR_SLOT_STATE_PG : Fld := ⟨17829892, 4, 1, .ro, 0, 64, 24, 0, 1⟩

/-- PWR_SLOT_STATE.LIMITING (18), RO, reset 0: The last sample had LIMITING set -/
def Reg.PWR_SLOT_STATE_LIMITING : Fld := ⟨17829892, 5, 1, .ro, 0, 64, 24, 0, 1⟩

/-- PWR_SLOT_STATE.DEMAND (18), RO, reset 0: This canister demands the slot -/
def Reg.PWR_SLOT_STATE_DEMAND : Fld := ⟨17829892, 6, 1, .ro, 0, 64, 24, 0, 1⟩

/-- PWR_SLOT_STATE.PEER_DEMAND (18), RO, reset 0: The peer's last-known demand for the slot -/
def Reg.PWR_SLOT_STATE_PEER_DEMAND : Fld := ⟨17829892, 7, 1, .ro, 0, 64, 24, 0, 1⟩

/-- PWR_SLOT_STATE.CAUSE (18), RO, reset 0: Last fault, coded as R547; 0 if none -/
def Reg.PWR_SLOT_STATE_CAUSE : Fld := ⟨17829892, 8, 4, .ro, 0, 64, 24, 0, 1⟩

/-- PWR_SLOT_STATE.DAMAGED (18), RO, reset 0: FET_DAMAGED is latched (R555) -/
def Reg.PWR_SLOT_STATE_DAMAGED : Fld := ⟨17829892, 12, 1, .ro, 0, 64, 24, 0, 1⟩

/-- PWR_SLOT_STATE.RETRIES (18), RO, reset 0: Retry count (R548) -/
def Reg.PWR_SLOT_STATE_RETRIES : Fld := ⟨17829892, 16, 4, .ro, 0, 64, 24, 0, 1⟩

/-- PWR_SLOT_VOUT (18): Slot rail in mV in [15:0], RO -/
def Reg.PWR_SLOT_VOUT : Fld := ⟨17829896, 0, 32, .ro, 0, 64, 24, 0, 1⟩

/-- PWR_SLOT_I (18): Current in mA in [15:0], RO -/
def Reg.PWR_SLOT_I : Fld := ⟨17829900, 0, 32, .ro, 0, 64, 24, 0, 1⟩

/-- PWR_SLOT_IPEAK (18): Highest sampled current in mA since the last clear, in [15:0], RO -/
def Reg.PWR_SLOT_IPEAK : Fld := ⟨17829904, 0, 32, .ro, 0, 64, 24, 0, 1⟩

/-- PWR_SLOT_COUNTS (18): Latched faults in [15:0], removals in [31:16], RO, saturating -/
def Reg.PWR_SLOT_COUNTS : Fld := ⟨17829908, 0, 32, .ro, 0, 64, 24, 0, 1⟩

/-- FOV_STATUS.HOLDER (19), RO, reset 0: The Pawn is held (R575) -/
def Reg.FOV_STATUS_HOLDER : Fld := ⟨18874368, 0, 1, .ro, 0, 0, 1, 0, 1⟩

/-- FOV_STATUS.VALID (19), RO, reset 0: The Pawn is valid for acknowledgement -/
def Reg.FOV_STATUS_VALID : Fld := ⟨18874368, 1, 1, .ro, 0, 0, 1, 0, 1⟩

/-- FOV_STATUS.ELIGIBLE (19), RO, reset 1: R591, R594 -/
def Reg.FOV_STATUS_ELIGIBLE : Fld := ⟨18874368, 2, 1, .ro, 1, 0, 1, 0, 1⟩

/-- FOV_STATUS.WARM (19), RO, reset 0: R582 -/
def Reg.FOV_STATUS_WARM : Fld := ⟨18874368, 3, 1, .ro, 0, 0, 1, 0, 1⟩

/-- FOV_STATUS.FIT (19), RO, reset 0: The last fitness test passed (R590) -/
def Reg.FOV_STATUS_FIT : Fld := ⟨18874368, 4, 1, .ro, 0, 0, 1, 0, 1⟩

/-- FOV_STATUS.PEER_UP (19), RO, reset 0: The peer is not lost (R580) -/
def Reg.FOV_STATUS_PEER_UP : Fld := ⟨18874368, 5, 1, .ro, 0, 0, 1, 0, 1⟩

/-- FOV_STATUS.LANES (19), RO, reset 0: Bit l: peer lane Ll is UP -/
def Reg.FOV_STATUS_LANES : Fld := ⟨18874368, 6, 2, .ro, 0, 0, 1, 0, 1⟩

/-- FOV_STATUS.PEER_STATE (19), RO, reset 0: Peer state from its last heartbeat (R72) -/
def Reg.FOV_STATUS_PEER_STATE : Fld := ⟨18874368, 8, 3, .ro, 0, 0, 1, 0, 1⟩

/-- FOV_STATUS.PEER_HOLDER (19), RO, reset 0: The peer reports HOLDER -/
def Reg.FOV_STATUS_PEER_HOLDER : Fld := ⟨18874368, 11, 1, .ro, 0, 0, 1, 0, 1⟩

/-- FOV_STATUS.GRANTS (19), RO, reset 0: Witnesses whose expiry lies ahead, 0 to 4 -/
def Reg.FOV_STATUS_GRANTS : Fld := ⟨18874368, 12, 3, .ro, 0, 0, 1, 0, 1⟩

/-- FOV_STATUS.TAKING_OVER (19), RO, reset 0: Steps 2 to 6 of R586 are running -/
def Reg.FOV_STATUS_TAKING_OVER : Fld := ⟨18874368, 15, 1, .ro, 0, 0, 1, 0, 1⟩

/-- FOV_CFG.SHELF_ID (19), RWL, reset 0: 0 to 1,023 -/
def Reg.FOV_CFG_SHELF_ID : Fld := ⟨18874372, 0, 10, .rwl, 0, 0, 1, 0, 1⟩

/-- FOV_CFG.CANISTER (19), RO, reset CAN_SEL: 0 A, 1 B (R569) -/
def Reg.FOV_CFG_CANISTER : Fld := ⟨18874372, 10, 1, .ro, 0, 0, 1, 0, 1⟩

/-- FOV_CFG.WITNESSES (19), RWL, reset 1: W, 1 to 4 -/
def Reg.FOV_CFG_WITNESSES : Fld := ⟨18874372, 11, 3, .rwl, 1, 0, 1, 0, 1⟩

/-- FOV_CFG.MAJORITY (19), RO, reset 1: M (R575) -/
def Reg.FOV_CFG_MAJORITY : Fld := ⟨18874372, 14, 3, .ro, 1, 0, 1, 0, 1⟩

/-- FOV_CFG.WITNESS_FOR (19), RWL, reset 0: Shelves witnessed, 0 to 64 -/
def Reg.FOV_CFG_WITNESS_FOR : Fld := ⟨18874372, 17, 7, .rwl, 0, 0, 1, 0, 1⟩

/-- FOV_CUTOFF (19): Cutoff Turn in [47:0]; 0 when not holder; RO -/
def Reg.FOV_CUTOFF : Fld := ⟨18874376, 0, 64, .ro, 0, 0, 1, 0, 1⟩

/-- FOV_EXPIRY (19): Expiry Turn in [47:0]; 0 when not holder; RO -/
def Reg.FOV_EXPIRY : Fld := ⟨18874384, 0, 64, .ro, 0, 0, 1, 0, 1⟩

/-- FOV_MIRROR (19): Mirror SEQ sent (active) or applied (standby), RO -/
def Reg.FOV_MIRROR : Fld := ⟨18874392, 0, 64, .ro, 0, 0, 1, 0, 1⟩

/-- FOV_TAKEOVER.KIND (19), RO, reset 0: 0 none, 1 failure, 2 planned, 3 from COLD or STALE -/
def Reg.FOV_TAKEOVER_KIND : Fld := ⟨18874400, 0, 2, .ro, 0, 0, 1, 0, 1⟩

/-- FOV_TAKEOVER.UNFIT (19), RO, reset 0: The takeover ended under R591 -/
def Reg.FOV_TAKEOVER_UNFIT : Fld := ⟨18874400, 2, 1, .ro, 0, 0, 1, 0, 1⟩

/-- FOV_TAKEOVER.DURATION (19), RO, reset 0: Milliseconds from step 1 to step 7, saturating at 65,535 -/
def Reg.FOV_TAKEOVER_DURATION : Fld := ⟨18874400, 16, 16, .ro, 0, 0, 1, 0, 1⟩

/-- FOV_COUNTS (19): Takeovers in [15:0], Pawn losses in [31:16], RO, saturating -/
def Reg.FOV_COUNTS : Fld := ⟨18874404, 0, 32, .ro, 0, 0, 1, 0, 1⟩

/-- FOV_WIT.STATE (19), RO, reset 0: 0 down, 1 connecting, 2 proving, 3 ready -/
def Reg.FOV_WIT_STATE : Fld := ⟨18874432, 0, 2, .ro, 0, 0, 1, 4, 4⟩

/-- FOV_WIT.GRANTED (19), RO, reset 0: This witness's expiry lies ahead -/
def Reg.FOV_WIT_GRANTED : Fld := ⟨18874432, 2, 1, .ro, 0, 0, 1, 4, 4⟩

/-- FOV_WIT.AUTH_FAIL (19), W1C, reset 0: A proof failed (R571) -/
def Reg.FOV_WIT_AUTH_FAIL : Fld := ⟨18874432, 3, 1, .w1c, 0, 0, 1, 4, 4⟩

/-- FOV_WIT.LAST_GRANT (19), RO, reset 0: Turn counter [15:0] of the last GRANT received -/
def Reg.FOV_WIT_LAST_GRANT : Fld := ⟨18874432, 16, 16, .ro, 0, 0, 1, 4, 4⟩

/-- SEP_STATUS.LINK (20), RO, reset 0: 0 held (R601), 1 training, 2 DL_Active, 3 down -/
def Reg.SEP_STATUS_LINK : Fld := ⟨19922944, 0, 2, .ro, 0, 0, 1, 0, 1⟩

/-- SEP_STATUS.SPEED (20), RO, reset 0: 1 to 5, as MAX_SPEED -/
def Reg.SEP_STATUS_SPEED : Fld := ⟨19922944, 2, 3, .ro, 0, 0, 1, 0, 1⟩

/-- SEP_STATUS.WIDTH (20), RO, reset 0: 1, 2 or 4 -/
def Reg.SEP_STATUS_WIDTH : Fld := ⟨19922944, 5, 3, .ro, 0, 0, 1, 0, 1⟩

/-- SEP_STATUS.CONTAINED (20), RO, reset 0: R616 -/
def Reg.SEP_STATUS_CONTAINED : Fld := ⟨19922944, 8, 1, .ro, 0, 0, 1, 0, 1⟩

/-- SEP_STATUS.FLR (20), RO, reset 0: An FLR is running -/
def Reg.SEP_STATUS_FLR : Fld := ⟨19922944, 9, 1, .ro, 0, 0, 1, 0, 1⟩

/-- SEP_STATUS.D3HOT (20), RO, reset 0: R602 -/
def Reg.SEP_STATUS_D3HOT : Fld := ⟨19922944, 10, 1, .ro, 0, 0, 1, 0, 1⟩

/-- SEP_STATUS.BME (20), RO, reset 0: Bus Master Enable -/
def Reg.SEP_STATUS_BME : Fld := ⟨19922944, 11, 1, .ro, 0, 0, 1, 0, 1⟩

/-- SEP_STATUS.MSIX_EN (20), RO, reset 0: MSI-X Enable -/
def Reg.SEP_STATUS_MSIX_EN : Fld := ⟨19922944, 12, 1, .ro, 0, 0, 1, 0, 1⟩

/-- SEP_STATUS.FMASK (20), RO, reset 0: MSI-X function mask -/
def Reg.SEP_STATUS_FMASK : Fld := ⟨19922944, 13, 1, .ro, 0, 0, 1, 0, 1⟩

/-- SEP_STATUS.SESSION (20), RO, reset 0: 0 unauthenticated, 1 authenticated, 2 locked out -/
def Reg.SEP_STATUS_SESSION : Fld := ⟨19922944, 14, 2, .ro, 0, 0, 1, 0, 1⟩

/-- SEP_ERR.CAUSE (20), RO, reset 0: Code from R616; 0 if none -/
def Reg.SEP_ERR_CAUSE : Fld := ⟨19922948, 0, 3, .ro, 0, 0, 1, 0, 1⟩

/-- SEP_ERR.TURN (20), RO, reset 0: Turn counter [15:0] at entry to containment -/
def Reg.SEP_ERR_TURN : Fld := ⟨19922948, 16, 16, .ro, 0, 0, 1, 0, 1⟩

/-- SEP_ERR_COUNT (20): Correctable errors in [15:0], uncorrectable in [31:16], RO, saturating -/
def Reg.SEP_ERR_COUNT : Fld := ⟨19922952, 0, 32, .ro, 0, 0, 1, 0, 1⟩

/-- SEP_MBX_SQ (20): Submission slots, RW -/
def Reg.SEP_MBX_SQ : Fld := ⟨19927040, 0, 32, .rw, 0, 0, 1, 4, 128⟩

/-- SEP_MBX_CQ (20): Completion slots, RO -/
def Reg.SEP_MBX_CQ : Fld := ⟨19927552, 0, 32, .ro, 0, 0, 1, 4, 32⟩

/-- SEP_MBX_SQ_TAIL (20): Tail index in [2:0], RW -/
def Reg.SEP_MBX_SQ_TAIL : Fld := ⟨19927680, 0, 3, .rw, 0, 0, 1, 0, 1⟩

/-- SEP_MBX_CQ_HEAD (20): Head index in [2:0], RW -/
def Reg.SEP_MBX_CQ_HEAD : Fld := ⟨19927684, 0, 3, .rw, 0, 0, 1, 0, 1⟩

/-- SEP_MBX_STATUS.BUSY (20), RO, reset 0: A command is running -/
def Reg.SEP_MBX_STATUS_BUSY : Fld := ⟨19927688, 0, 1, .ro, 0, 0, 1, 0, 1⟩

/-- SEP_MBX_STATUS.SQ_HEAD (20), RO, reset 0: Next slot Daxzin will take -/
def Reg.SEP_MBX_STATUS_SQ_HEAD : Fld := ⟨19927688, 1, 3, .ro, 0, 0, 1, 0, 1⟩

/-- SEP_MBX_STATUS.OPCODE (20), RO, reset 0: Opcode of the running or last command -/
def Reg.SEP_MBX_STATUS_OPCODE : Fld := ⟨19927688, 8, 8, .ro, 0, 0, 1, 0, 1⟩

/-- SEP_MBX_STATUS.PERCENT (20), RO, reset 0: Flash Write progress, 0 to 100 -/
def Reg.SEP_MBX_STATUS_PERCENT : Fld := ⟨19927688, 16, 8, .ro, 0, 0, 1, 0, 1⟩

/-- SEP_MSIX_TABLE (20): Address (64), data (32), vector control (mask in bit 0), as PCIe defines -/
def Reg.SEP_MSIX_TABLE : Fld := ⟨19939328, 0, 32, .rw, 0, 0, 1, 4, 1024⟩

/-- SEP_MSIX_PBA (20): Pending bit of vector v at bit v, RO -/
def Reg.SEP_MSIX_PBA : Fld := ⟨19943424, 0, 32, .ro, 0, 0, 1, 4, 8⟩

/-- EVT_CFG.RING_MIN (21), RWL, reset 1: Lowest severity written to the ring, 1 to 4 -/
def Reg.EVT_CFG_RING_MIN : Fld := ⟨20971520, 0, 3, .rwl, 1, 0, 1, 0, 1⟩

/-- EVT_CFG.AEN_MIN (21), RWL, reset 2: Lowest severity copied to session queues, 1 to 4 -/
def Reg.EVT_CFG_AEN_MIN : Fld := ⟨20971520, 4, 3, .rwl, 2, 0, 1, 0, 1⟩

/-- EVT_RING_TAIL.TAIL (21), RO, reset 0: Next slot to be written -/
def Reg.EVT_RING_TAIL_TAIL : Fld := ⟨20971524, 0, 18, .ro, 0, 0, 1, 0, 1⟩

/-- EVT_RING_TAIL.PHASE (21), RO, reset 1: PHASE of the current pass -/
def Reg.EVT_RING_TAIL_PHASE : Fld := ⟨20971524, 31, 1, .ro, 1, 0, 1, 0, 1⟩

/-- EVT_RING_HEAD (21): Next slot software consumes, [17:0], RW -/
def Reg.EVT_RING_HEAD : Fld := ⟨20971528, 0, 18, .rw, 0, 0, 1, 0, 1⟩

/-- EVT_LOST (21): Records dropped (R628), RO, saturating -/
def Reg.EVT_LOST : Fld := ⟨20971532, 0, 32, .ro, 0, 0, 1, 0, 1⟩

/-- EVT_LATCH (21): Bit s of register s / 32: source s occurred; W1C -/
def Reg.EVT_LATCH : Fld := ⟨20971552, 0, 32, .w1c, 0, 0, 1, 4, 8⟩

/-- EVT_ROUTE (21): Vector of source s in bits [8(s mod 4)+7 : 8(s mod 4)] of register s / 4, rounded down; RWL -/
def Reg.EVT_ROUTE_0 : Fld := ⟨20971584, 0, 8, .rwl, 0, 0, 1, 4, 64⟩

/-- EVT_ROUTE (21): Vector of source s in bits [8(s mod 4)+7 : 8(s mod 4)] of register s / 4, rounded down; RWL -/
def Reg.EVT_ROUTE_1 : Fld := ⟨20971584, 8, 8, .rwl, 0, 0, 1, 4, 64⟩

/-- EVT_ROUTE (21): Vector of source s in bits [8(s mod 4)+7 : 8(s mod 4)] of register s / 4, rounded down; RWL -/
def Reg.EVT_ROUTE_2 : Fld := ⟨20971584, 16, 8, .rwl, 0, 0, 1, 4, 64⟩

/-- EVT_ROUTE (21): Vector of source s in bits [8(s mod 4)+7 : 8(s mod 4)] of register s / 4, rounded down; RWL -/
def Reg.EVT_ROUTE_3 : Fld := ⟨20971584, 24, 8, .rwl, 0, 0, 1, 4, 64⟩

/-- CNT_CFG.SNAP_PERIOD (21), RWL, reset 9: log2 of SNAP_PERIOD in Turns, 0 to 20 -/
def Reg.CNT_CFG_SNAP_PERIOD : Fld := ⟨22020096, 0, 5, .rwl, 9, 0, 1, 0, 1⟩

/-- CNT_CFG.BW_WINDOW (21), RW, reset 9: log2 of BW_WINDOW in Turns, 0 to 20; applied under R639 -/
def Reg.CNT_CFG_BW_WINDOW : Fld := ⟨22020096, 8, 5, .rw, 9, 0, 1, 0, 1⟩

/-- CNT_SNAP_SEQ (21): SNAP_SEQ of the newest complete snapshot, RO -/
def Reg.CNT_SNAP_SEQ : Fld := ⟨22020104, 0, 64, .ro, 0, 0, 1, 0, 1⟩

/-- CNT_SEL (21): Counter index in [8:0], 0 to 383, RW -/
def Reg.CNT_SEL : Fld := ⟨22020112, 0, 9, .rw, 0, 0, 1, 0, 1⟩

/-- CNT_CTL.READ (21), W1S, reset 0: Copy the live value of the selected counter into CNT_DATA; reads 1 until done, within 1 Turn -/
def Reg.CNT_CTL_READ : Fld := ⟨22020116, 0, 1, .w1s, 0, 0, 1, 0, 1⟩

/-- CNT_CTL.PRELOAD (21), W1S, reset 0: Write CNT_DATA into the selected counter at the next boundary (R634) -/
def Reg.CNT_CTL_PRELOAD : Fld := ⟨22020116, 1, 1, .w1s, 0, 0, 1, 0, 1⟩

/-- CNT_CTL.VALID (21), RO, reset 0: CNT_DATA holds the counter named in CNT_SEL -/
def Reg.CNT_CTL_VALID : Fld := ⟨22020116, 2, 1, .ro, 0, 0, 1, 0, 1⟩

/-- CNT_DATA (21): Counter value in [47:0], RW -/
def Reg.CNT_DATA : Fld := ⟨22020120, 0, 48, .rw, 0, 0, 1, 0, 1⟩

/-- CNT_OVF_EN (21): Bit i mod 32 of register i / 32: OVF_EN of counter i, RWL -/
def Reg.CNT_OVF_EN : Fld := ⟨22020128, 0, 32, .rwl, 0, 0, 1, 4, 12⟩

/-- CNT_OVF_PEND (21): Pending samples (R640), RO -/
def Reg.CNT_OVF_PEND : Fld := ⟨22020192, 0, 32, .ro, 0, 0, 1, 4, 12⟩

/-- CNT_SAMPLE_LOST (21): Samples discarded (R640), RO, saturating -/
def Reg.CNT_SAMPLE_LOST : Fld := ⟨22020256, 0, 32, .ro, 0, 0, 1, 0, 1⟩

/-- Fields of the register map, part 0. -/
def fldTable0 : List Fld :=
  [Reg.TRN_CTL_RELOAD, Reg.TRN_CTL_PTP_PORT, Reg.TRN_CTL_PTP_SUB, Reg.TRN_CTL_ACQ_TIMEOUT, Reg.TRN_STATUS_STATE, Reg.TRN_STATUS_ALIGNED, Reg.TRN_STATUS_SLEWING, Reg.TRN_COUNT, Reg.TRN_OFFSET, Reg.TRN_EPOCH, Reg.TRN_OVERRUN_SCH_REFILL, Reg.TRN_OVERRUN_XPT_CWND, Reg.TRN_OVERRUN_FSP_THRESH, Reg.TRN_OVERRUN_LAY_HOLD, Reg.TRN_OVERRUN_CNT_SNAP, Reg.TRN_OVERRUN_BG_CREDIT, Reg.CFG_STATE_STATE, Reg.CFG_STATE_LOCKED, Reg.CFG_STATE_FORCE_SAFE, Reg.CFG_BOOT_COPY, Reg.CFG_BOOT_FALLBACK, Reg.CFG_BOOT_A_VALID, Reg.CFG_BOOT_B_VALID, Reg.CFG_BOOT_FW_SVN, Reg.CFG_SEQ, Reg.CFG_FAULT_CODE, Reg.CFG_FAULT_COPY, Reg.CFG_FAULT_SECTION, Reg.CFG_FAULT_LOC, Reg.CFG_CTL_REBOOT, Reg.CFG_DIGEST, Reg.IDN_LOT, Reg.IDN_DIE_WAFER, Reg.IDN_DIE_DIE_X, Reg.IDN_DIE_DIE_Y, Reg.IDN_DIE_STEPPING, Reg.IDN_PART_VARIANT, Reg.IDN_PART_SPEED_BIN, Reg.IDN_PART_SVN_FLOOR, Reg.IDN_STATUS_KEY_READY]

/-- Fields of the register map, part 1. -/
def fldTable1 : List Fld :=
  [Reg.IDN_STATUS_PROG_BUSY, Reg.IDN_STATUS_PROG_ERR, Reg.IDN_STATUS_TAMPER_COUNT, Reg.IDN_SLOTS_ENROLLED_0, Reg.IDN_SLOTS_ENROLLED_1, Reg.IDN_SLOTS_ENROLLED_2, Reg.IDN_SLOTS_ENROLLED_3, Reg.IDN_SLOTS_REVOKED_0, Reg.IDN_SLOTS_REVOKED_1, Reg.IDN_SLOTS_REVOKED_2, Reg.IDN_SLOTS_REVOKED_3, Reg.IDN_SLOTS_SPOILED_0, Reg.IDN_SLOTS_SPOILED_1, Reg.IDN_SLOTS_SPOILED_2, Reg.IDN_SLOTS_SPOILED_3, Reg.IDN_ALIGN_REC, Reg.IDN_ID_PUB, Reg.IDN_ENROL_CTL_SLOT, Reg.IDN_ENROL_CTL_REVOKE, Reg.IDN_ENROL_CTL_GO, Reg.IDN_ENROL_CTL_RESULT, Reg.IDN_ENROL_KEY, Reg.IDN_ENROL_SECRET, Reg.IDN_ENROL_SIG, Reg.IDN_CERT, Reg.ETH_PORT_CFG_EN, Reg.ETH_PORT_CFG_SPLIT, Reg.ETH_PORT_CFG_MEDIA, Reg.ETH_PORT_CFG_AN_MODE, Reg.ETH_PORT_CFG_RX_POL, Reg.ETH_PORT_CFG_TX_POL, Reg.ETH_PORT_CFG_MTU, Reg.ETH_PORT_STATUS_LSTATE, Reg.ETH_PORT_STATUS_PTP_SRC, Reg.ETH_PORT_STATUS_LOCAL_FAULT, Reg.ETH_PORT_STATUS_REMOTE_FAULT, Reg.ETH_PORT_STATUS_FEC_DEGRADED, Reg.ETH_PORT_STATUS_CONFLICT, Reg.ETH_PORT_STATUS_LINK_DOWNS, Reg.ETH_TS_ADJ_RX_ADJ]

/-- Fields of the register map, part 2. -/
def fldTable2 : List Fld :=
  [Reg.ETH_TS_ADJ_TX_ADJ, Reg.ETH_FEC_CORR, Reg.ETH_FEC_UNCORR, Reg.ETH_TX_DISCARD, Reg.ETH_DROP_LAST_REASON, Reg.ETH_DROP_LAST_TURN, Reg.ETH_DROP_CLR_CLEAR, Reg.ETH_DROP, Reg.XPT_CFG_ACK_T, Reg.XPT_CFG_RETRY_CNT, Reg.XPT_CFG_RNR_RETRY, Reg.XPT_CFG_LX_OPTIONS, Reg.XPT_CFG_PIN_QP, Reg.XPT_CC_CFG_CWND_MIN, Reg.XPT_CC_CFG_CWND_MAX, Reg.XPT_CC_CFG_CWND_INIT, Reg.XPT_CC_CFG_AI_BYTES, Reg.XPT_CC_CFG_RTT_TARGET, Reg.XPT_STATUS_QP_USED, Reg.XPT_STATUS_TRIG_WAIT, Reg.XPT_STATUS_HANDLES_FULL, Reg.XPT_GECKO_HIT, Reg.XPT_GECKO_MISS, Reg.XPT_MISS_DROP, Reg.XPT_MISS_PEAK, Reg.XPT_BAD_QPN, Reg.XPT_QP_SEL, Reg.XPT_QP_CTL_READ, Reg.XPT_QP_CTL_FORCE_ERR, Reg.XPT_QP_CTL_VALID, Reg.XPT_BANK_CTL_COMMIT, Reg.XPT_BANK_CTL_ABORT, Reg.XPT_BANK_CTL_ACTIVE, Reg.XPT_BANK_CTL_CATCHUP, Reg.XPT_BANK_CTL_TIMED, Reg.XPT_BANK_CTL_LATE_WRITE, Reg.XPT_BANK_CTL_LATE_TARGET, Reg.XPT_BANK_CTL_RANGE_ERR, Reg.XPT_BANK_CTL_UNALIGNED, Reg.XPT_BANK_TARGET]

/-- Fields of the register map, part 3. -/
def fldTable3 : List Fld :=
  [Reg.XPT_BANK_SWAP, Reg.XPT_QP_DATA, Reg.WIN_CFG_WIN_PER_HOST, Reg.WIN_CFG_WIN_MAX_LEN, Reg.WIN_STATUS_OPEN, Reg.WIN_STATUS_DRAINING, Reg.WIN_SPILL, Reg.WIN_SEL, Reg.WIN_READ_READ, Reg.WIN_READ_VALID, Reg.WIN_READ_CLEAR_VIOL, Reg.WIN_BANK_CTL_COMMIT, Reg.WIN_BANK_CTL_ABORT, Reg.WIN_BANK_CTL_ACTIVE, Reg.WIN_BANK_CTL_CATCHUP, Reg.WIN_BANK_CTL_TIMED, Reg.WIN_BANK_CTL_LATE_WRITE, Reg.WIN_BANK_CTL_LATE_TARGET, Reg.WIN_BANK_CTL_RANGE_ERR, Reg.WIN_BANK_CTL_UNALIGNED, Reg.WIN_BANK_TARGET, Reg.WIN_BANK_SWAP, Reg.WIN_VIOL, Reg.WIN_DATA, Reg.SCH_STATUS_IN_LEVEL, Reg.SCH_STATUS_RS_LEVEL, Reg.SCH_STATUS_BUDGET, Reg.SCH_STATUS_BUDGET_DIR, Reg.SCH_STATUS_EXHAUSTED, Reg.SCH_PARAM_SEL, Reg.SCH_PARAM_CTL_WRITE, Reg.SCH_PARAM_CTL_READ, Reg.SCH_PARAM_CTL_READ_LIVE, Reg.SCH_PARAM_CTL_VALID, Reg.SCH_PARAM_CTL_PARAM_ERR, Reg.SCH_POL_DROP, Reg.SCH_POL_MARK, Reg.SCH_PARAM_DATA, Reg.SCH_BANK_CTL_COMMIT, Reg.SCH_BANK_CTL_ABORT]

/-- Fields of the register map, part 4. -/
def fldTable4 : List Fld :=
  [Reg.SCH_BANK_CTL_ACTIVE, Reg.SCH_BANK_CTL_CATCHUP, Reg.SCH_BANK_CTL_TIMED, Reg.SCH_BANK_CTL_LATE_WRITE, Reg.SCH_BANK_CTL_LATE_TARGET, Reg.SCH_BANK_CTL_RANGE_ERR, Reg.SCH_BANK_CTL_UNALIGNED, Reg.SCH_BANK_TARGET, Reg.SCH_BANK_SWAP, Reg.SCH_DSCP_MAP, Reg.SCH_GCL_BANK_CTL_COMMIT, Reg.SCH_GCL_BANK_CTL_ABORT, Reg.SCH_GCL_BANK_CTL_ACTIVE, Reg.SCH_GCL_BANK_CTL_CATCHUP, Reg.SCH_GCL_BANK_CTL_TIMED, Reg.SCH_GCL_BANK_CTL_LATE_WRITE, Reg.SCH_GCL_BANK_CTL_LATE_TARGET, Reg.SCH_GCL_BANK_CTL_RANGE_ERR, Reg.SCH_GCL_BANK_CTL_UNALIGNED, Reg.SCH_GCL_BANK_TARGET, Reg.SCH_GCL_BANK_SWAP, Reg.SCH_GCL_BASE, Reg.SCH_GCL_POS_ENTRY, Reg.SCH_GCL_POS_GATES, Reg.SCH_GCL_POS_LEFT, Reg.SCH_GCL_ENTRY, Reg.CMD_STATUS_CMDS, Reg.CMD_STATUS_LOCKS, Reg.CMD_STATUS_LOCK_FULL, Reg.CMD_STATUS_HELD, Reg.CMD_LOCK_PEAK, Reg.CMD_INFLIGHT, Reg.CMD_DEFER_MARKERS, Reg.CMD_DEFER_OVERFLOW, Reg.CMD_DEFER_LOG_NEXT, Reg.CMD_ST_KIND, Reg.CMD_ST_PERCENT, Reg.CMD_ST_RESULT, Reg.CMD_ST_NSID, Reg.CMD_ANA_STATE]

/-- Fields of the register map, part 5. -/
def fldTable5 : List Fld :=
  [Reg.CMD_ANA_CHANGES, Reg.CMD_CTRLS_CTRLS, Reg.CMD_CTRLS_SESSIONS, Reg.FSP_LEVEL_0, Reg.FSP_LEVEL_1, Reg.FSP_LEVEL_2, Reg.FSP_LEVEL_3, Reg.FSP_LEVEL_4, Reg.FSP_LEVEL_5, Reg.FSP_LEVEL_6, Reg.FSP_LEVEL_7, Reg.FSP_LEVEL_8, Reg.FSP_LEVEL_9, Reg.FSP_LEVEL_10, Reg.FSP_LEVEL_11, Reg.FSP_LEVEL_12, Reg.FSP_LEVEL_13, Reg.FSP_LEVEL_14, Reg.FSP_LEVEL_15, Reg.FSP_BAD_LAST_REASON, Reg.FSP_BAD_LAST_POOL, Reg.FSP_BAD_LAST_REQ, Reg.FSP_BAD_LAST_TURN, Reg.FSP_CLR_CLEAR, Reg.FSP_BAD, Reg.FSP_POOL_CFG_CLASS, Reg.FSP_POOL_CFG_ROLE, Reg.FSP_POOL_CFG_EN, Reg.FSP_POOL_CFG_AMBER, Reg.FSP_POOL_CFG_RED, Reg.FSP_POOL_CFG_BLACK, Reg.FSP_POOL_BASE, Reg.FSP_POOL_RANGE_FIRST, Reg.FSP_POOL_RANGE_COUNT, Reg.FSP_POOL_FREE, Reg.FSP_POOL_MIN, Reg.FSP_POOL_CACHE, Reg.FSP_STALL, Reg.FSP_LEAK, Reg.GCH_CTL_EN]

/-- Fields of the register map, part 6. -/
def fldTable6 : List Fld :=
  [Reg.GCH_STATUS_STATE, Reg.GCH_STATUS_RB_MASKS, Reg.GCH_STATUS_SETS, Reg.GCH_CFG_SIZE, Reg.GCH_CFG_SAL_RATE, Reg.GCH_CFG_PIN_LIMIT, Reg.GCH_DIRTY, Reg.GCH_PINNED, Reg.GCH_BYPASS, Reg.GCH_DEAD, Reg.GCH_BANK_CTL_COMMIT, Reg.GCH_BANK_CTL_ABORT, Reg.GCH_BANK_CTL_ACTIVE, Reg.GCH_BANK_CTL_CATCHUP, Reg.GCH_BANK_CTL_TIMED, Reg.GCH_BANK_CTL_LATE_WRITE, Reg.GCH_BANK_CTL_LATE_TARGET, Reg.GCH_BANK_CTL_RANGE_ERR, Reg.GCH_BANK_CTL_UNALIGNED, Reg.GCH_BANK_TARGET, Reg.GCH_BANK_SWAP, Reg.GCH_MASK, Reg.GCH_MASK_SHADOW, Reg.GCH_HIT, Reg.GCH_MISS, Reg.SAL_CMD_OP, Reg.SAL_CMD_ALL, Reg.SAL_CMD_CLASS, Reg.SAL_CMD_FILTER, Reg.SAL_CMD_SLOT, Reg.SAL_CMD_TAG, Reg.SAL_FIRST, Reg.SAL_COUNT, Reg.SAL_SUBMIT_GO, Reg.SAL_STATUS_BUSY, Reg.SAL_STATUS_DRAIN, Reg.SAL_STATUS_QUEUED, Reg.SAL_STATUS_FULL, Reg.SAL_STATUS_WB_QUEUE, Reg.SAL_PROGRESS]

/-- Fields of the register map, part 7. -/
def fldTable7 : List Fld :=
  [Reg.SAL_TOTAL, Reg.SAL_LAST_STATUS, Reg.SAL_LAST_SKIPPED, Reg.SAL_LAST_TAG, Reg.CMP_CFG_NO_GAIN, Reg.CMP_CFG_TABLES, Reg.CMP_CFG_OUT_CLASS, Reg.CMP_STATUS_CLANES, Reg.CMP_STATUS_DLANES, Reg.CMP_STATUS_WAIT, Reg.CMP_CLANE_FAULT, Reg.CMP_DLANE_FAULT, Reg.CMP_IN_BYTES, Reg.CMP_OUT_BYTES, Reg.CMP_NOGAIN, Reg.CMP_DYN, Reg.CMP_VERIFY_LAST_REASON, Reg.CMP_VERIFY_LAST_RETRY_PASSED, Reg.CMP_VERIFY_LAST_LANE, Reg.CMP_VERIFY_LAST_TURN, Reg.CMP_CLR_CLEAR, Reg.CMP_VERIFY, Reg.CMP_MODE, Reg.CPH_STATUS_LOADED, Reg.CPH_STATUS_ENGINES, Reg.CPH_STATUS_SEALING, Reg.CPH_ENG_FAULT, Reg.CPH_EPOCH, Reg.CPH_INVOC, Reg.CPH_TAG_FAIL, Reg.CPH_TALLY_BYTES, Reg.CPH_SLOT_SEL, Reg.CPH_SLOT_CTL_READ, Reg.CPH_SLOT_CTL_VALID, Reg.CPH_RESEAL_NSID, Reg.CPH_RESEAL_PERCENT, Reg.CPH_RESEAL_SKIPPED, Reg.CPH_SLOT_DATA, Reg.CPH_FBK_KEY, Reg.CPH_FBK_ID]

/-- Fields of the register map, part 8. -/
def fldTable8 : List Fld :=
  [Reg.CPH_FBK_NS, Reg.CPH_FBK_CTL_GO, Reg.CPH_FBK_CTL_RESULT, Reg.LAY_STATUS_OPEN, Reg.LAY_STATUS_APPEND_HELD, Reg.LAY_STATUS_DELTA_HELD, Reg.LAY_STATUS_APPENDING, Reg.LAY_CFG_GATHER_HOLD, Reg.LAY_CFG_RESERVE_PCT, Reg.LAY_CFG_COMPACT_PCT, Reg.LAY_CFG_READY_TIMEOUT, Reg.LAY_CLOSE_HOLD, Reg.LAY_SET_CTL_SET, Reg.LAY_SET_CTL_ON, Reg.LAY_SET_CTL_OFF, Reg.LAY_SET_CTL_RESULT, Reg.LAY_SET_STATUS_STATE_0, Reg.LAY_SET_STATUS_STATE_1, Reg.LAY_SET_STATUS_STATE_2, Reg.LAY_SET_STATUS_STATE_3, Reg.LAY_SET_STATUS_STATE_4, Reg.LAY_SET_STATUS_STATE_5, Reg.LAY_SET_STATUS_STATE_6, Reg.LAY_SET_STATUS_STATE_7, Reg.LAY_SET_STATUS_AUTO, Reg.LAY_CKPT_BUSY, Reg.LAY_CKPT_PERCENT, Reg.LAY_CKPT_AREA, Reg.LAY_CKPT_TURN, Reg.LAY_STRIPES, Reg.LAY_PADDED, Reg.LAY_RMW, Reg.LAY_ERASURE, Reg.LAY_PARITY_FIX, Reg.LAY_LOST, Reg.LAY_GROUP_CFG_K, Reg.LAY_GROUP_CFG_TALLY, Reg.LAY_GROUP_CFG_SET, Reg.LAY_GROUP_CFG_APPEND, Reg.LAY_GROUP_STATE_FAILED]

/-- Fields of the register map, part 9. -/
def fldTable9 : List Fld :=
  [Reg.LAY_GROUP_STATE_APPENDING, Reg.LAY_GROUP_STATE_FULL, Reg.LAY_GROUP_STATE_COMPACTING, Reg.LAY_GROUP_STATE_RESHAPING, Reg.LAY_GROUP_STATE_UNREADABLE, Reg.LAY_GROUP_STATE_OPEN, Reg.LAY_GROUP_HEAD, Reg.LAY_GROUP_TAIL, Reg.LAY_GROUP_ROWS, Reg.LAY_GROUP_LIVE, Reg.LAY_GROUP_MEMBERS, Reg.JNL_STATUS_ACTIVE, Reg.JNL_STATUS_STALLED, Reg.JNL_STATUS_CAP_LIMITED, Reg.JNL_STATUS_RING_HELD, Reg.JNL_STATUS_REPLAYING, Reg.JNL_STATUS_SEEDING, Reg.JNL_CFG_ANCHOR_CAP, Reg.JNL_CFG_LIVE_CAP, Reg.JNL_CFG_STANDBY_ANCHOR, Reg.JNL_SEQ, Reg.JNL_TAIL, Reg.JNL_CREDIT, Reg.JNL_LIVE, Reg.JNL_BYTES, Reg.JNL_CAP_WAIT, Reg.JNL_REPLAY_KIND, Reg.JNL_REPLAY_UNNAMED, Reg.JNL_REPLAY_LOST, Reg.JNL_REPLAY_DURATION, Reg.JNL_STALL, Reg.JNL_REPLAY_RECS, Reg.JNL_ANCHOR_STATE, Reg.JNL_ANCHOR_PROMOTED, Reg.JNL_ANCHOR_SLOT, Reg.JNL_ANCHOR_EPOCH, Reg.JNL_ANCHOR_HEAD, Reg.JNL_ANCHOR_COMMIT, Reg.AXL_STATUS_WALKING, Reg.AXL_STATUS_RESHAPING]

/-- Fields of the register map, part 10. -/
def fldTable10 : List Fld :=
  [Reg.AXL_STATUS_PRESSURE, Reg.AXL_RB_RATE_FLOOR, Reg.AXL_RB_RATE_CEIL, Reg.AXL_RB_RATE_RATE, Reg.AXL_RS_RATE_FLOOR, Reg.AXL_RS_RATE_CEIL, Reg.AXL_RS_RATE_RATE, Reg.AXL_SC_RATE_CEIL, Reg.AXL_SC_RATE_RATE, Reg.AXL_CREDIT, Reg.AXL_RESYNC, Reg.AXL_RB_BYTES, Reg.AXL_LOST_COLS, Reg.AXL_POS_STATE, Reg.AXL_POS_SPARE, Reg.AXL_POS_GROUP, Reg.AXL_POS_POSITION, Reg.AXL_POS_GEN, Reg.AXL_GRP_DONE, Reg.AXL_GRP_PENDING, Reg.AXL_GRP_BOUNDARY, Reg.AXL_GRP_RESHAPE_STATE, Reg.AXL_GRP_RESHAPE_DIR, Reg.AXL_GRP_RESHAPE_BACKUP, Reg.AXL_GRP_RESHAPE_OLD_K, Reg.AXL_GRP_RESHAPE_NEW_K, Reg.AXL_GRP_RESHAPE_PERCENT, Reg.DRV_STATUS, Reg.DRV_CFG_CMD_TIMEOUT, Reg.DRV_CFG_LINK_MIN, Reg.DRV_CFG_FORMAT_NEW, Reg.DRV_SLOT_STATE_STATE, Reg.DRV_SLOT_STATE_LINK, Reg.DRV_SLOT_STATE_IO_OWNER, Reg.DRV_SLOT_STATE_TALLY, Reg.DRV_SLOT_STATE_STEP, Reg.DRV_SLOT_STATE_REASON, Reg.DRV_SLOT_STATE_CRIT_WARN, Reg.DRV_SLOT_STATE_TEMP, Reg.DRV_SLOT_SERIAL]

/-- Fields of the register map, part 11. -/
def fldTable11 : List Fld :=
  [Reg.DRV_SLOT_TIMEOUTS, Reg.DRV_SLOT_LADDERS, Reg.DRV_SLOT_PCIE_ERR, Reg.DRV_SLOT_BYTES_W, Reg.DRV_SLOT_BYTES_R, Reg.PWR_STATUS_WARN, Reg.PWR_STATUS_SEL_VALID, Reg.PWR_STATUS_SEL, Reg.PWR_STATUS_TRANSFER, Reg.PWR_STATUS_WARNS, Reg.PWR_CFG_FEED_PRI, Reg.PWR_CFG_BROWNOUT_HOLD, Reg.PWR_CFG_STAGGER, Reg.PWR_CFG_MAX_RETRY, Reg.PWR_CFG_RETURN_HOLD, Reg.PWR_VOLT_UV, Reg.PWR_VOLT_OV, Reg.PWR_VOLT_WARN, Reg.PWR_TIMING_INSERT_DELAY, Reg.PWR_TIMING_FAULT_TIMER, Reg.PWR_TIMING_RETRY_DELAY, Reg.PWR_CURRENT_ILIM_SLOT, Reg.PWR_CURRENT_ILIM_FEED, Reg.PWR_CURRENT_SHUNT_SLOT, Reg.PWR_CURRENT_SHUNT_FEED, Reg.PWR_BUS, Reg.PWR_FEED_STATE_STATE, Reg.PWR_FEED_STATE_PRESENT, Reg.PWR_FEED_STATE_PG, Reg.PWR_FEED_STATE_LIMITING, Reg.PWR_FEED_STATE_IN_WINDOW, Reg.PWR_FEED_STATE_CAUSE, Reg.PWR_FEED_STATE_RETRIES, Reg.PWR_FEED_VIN, Reg.PWR_FEED_I, Reg.PWR_FEED_COUNTS, Reg.PWR_SLOT_CTL_CLEAR, Reg.PWR_SLOT_CTL_CYCLE, Reg.PWR_SLOT_CTL_PEAK_CLR, Reg.PWR_SLOT_STATE_STATE]

/-- Fields of the register map, part 12. -/
def fldTable12 : List Fld :=
  [Reg.PWR_SLOT_STATE_PRESENT, Reg.PWR_SLOT_STATE_PG, Reg.PWR_SLOT_STATE_LIMITING, Reg.PWR_SLOT_STATE_DEMAND, Reg.PWR_SLOT_STATE_PEER_DEMAND, Reg.PWR_SLOT_STATE_CAUSE, Reg.PWR_SLOT_STATE_DAMAGED, Reg.PWR_SLOT_STATE_RETRIES, Reg.PWR_SLOT_VOUT, Reg.PWR_SLOT_I, Reg.PWR_SLOT_IPEAK, Reg.PWR_SLOT_COUNTS, Reg.FOV_STATUS_HOLDER, Reg.FOV_STATUS_VALID, Reg.FOV_STATUS_ELIGIBLE, Reg.FOV_STATUS_WARM, Reg.FOV_STATUS_FIT, Reg.FOV_STATUS_PEER_UP, Reg.FOV_STATUS_LANES, Reg.FOV_STATUS_PEER_STATE, Reg.FOV_STATUS_PEER_HOLDER, Reg.FOV_STATUS_GRANTS, Reg.FOV_STATUS_TAKING_OVER, Reg.FOV_CFG_SHELF_ID, Reg.FOV_CFG_CANISTER, Reg.FOV_CFG_WITNESSES, Reg.FOV_CFG_MAJORITY, Reg.FOV_CFG_WITNESS_FOR, Reg.FOV_CUTOFF, Reg.FOV_EXPIRY, Reg.FOV_MIRROR, Reg.FOV_TAKEOVER_KIND, Reg.FOV_TAKEOVER_UNFIT, Reg.FOV_TAKEOVER_DURATION, Reg.FOV_COUNTS, Reg.FOV_WIT_STATE, Reg.FOV_WIT_GRANTED, Reg.FOV_WIT_AUTH_FAIL, Reg.FOV_WIT_LAST_GRANT, Reg.SEP_STATUS_LINK]

/-- Fields of the register map, part 13. -/
def fldTable13 : List Fld :=
  [Reg.SEP_STATUS_SPEED, Reg.SEP_STATUS_WIDTH, Reg.SEP_STATUS_CONTAINED, Reg.SEP_STATUS_FLR, Reg.SEP_STATUS_D3HOT, Reg.SEP_STATUS_BME, Reg.SEP_STATUS_MSIX_EN, Reg.SEP_STATUS_FMASK, Reg.SEP_STATUS_SESSION, Reg.SEP_ERR_CAUSE, Reg.SEP_ERR_TURN, Reg.SEP_ERR_COUNT, Reg.SEP_MBX_SQ, Reg.SEP_MBX_CQ, Reg.SEP_MBX_SQ_TAIL, Reg.SEP_MBX_CQ_HEAD, Reg.SEP_MBX_STATUS_BUSY, Reg.SEP_MBX_STATUS_SQ_HEAD, Reg.SEP_MBX_STATUS_OPCODE, Reg.SEP_MBX_STATUS_PERCENT, Reg.SEP_MSIX_TABLE, Reg.SEP_MSIX_PBA, Reg.EVT_CFG_RING_MIN, Reg.EVT_CFG_AEN_MIN, Reg.EVT_RING_TAIL_TAIL, Reg.EVT_RING_TAIL_PHASE, Reg.EVT_RING_HEAD, Reg.EVT_LOST, Reg.EVT_LATCH, Reg.EVT_ROUTE_0, Reg.EVT_ROUTE_1, Reg.EVT_ROUTE_2, Reg.EVT_ROUTE_3, Reg.CNT_CFG_SNAP_PERIOD, Reg.CNT_CFG_BW_WINDOW, Reg.CNT_SNAP_SEQ, Reg.CNT_SEL, Reg.CNT_CTL_READ, Reg.CNT_CTL_PRELOAD, Reg.CNT_CTL_VALID]

/-- Fields of the register map, part 14. -/
def fldTable14 : List Fld :=
  [Reg.CNT_DATA, Reg.CNT_OVF_EN, Reg.CNT_OVF_PEND, Reg.CNT_SAMPLE_LOST]

/-- Every register field of BAR0 (R643). -/
def fldTable : List Fld :=
  fldTable0 ++ fldTable1 ++ fldTable2 ++ fldTable3 ++ fldTable4 ++ fldTable5 ++ fldTable6 ++ fldTable7 ++ fldTable8 ++ fldTable9 ++ fldTable10 ++ fldTable11 ++ fldTable12 ++ fldTable13 ++ fldTable14

end Sys2Proof.Machine
end

