-- ==== Sys2Proof/Machine/StXpt.lean ====
section
/-!
DEFINITION. Machine/StXpt.lean: state of the transport (chapter 06), the memory windows (07) and the scheduler (08), and the
double-banked tables of R62.
-/

namespace Sys2Proof.Machine

/-- A double-banked table (R62 to R68): both banks, the entries the shadow bank has changed since the last swap, the
entries still to be caught up, the entries the writer has rewritten since the swap, and the contents of earlier Turns that
a parked packet may still need (R173), newest first. The register fields of R71 are in the register file. -/
structure Banked (α : Type) where
  act : Tbl α
  shd : Tbl α
  changed : List Nat
  catchup : List Nat
  hist : List (Nat × Tbl α)
  deriving DecidableEq, Repr

/-- A table with nothing in either bank. -/
def Banked.empty {α : Type} : Banked α :=
  { act := [], shd := [], changed := [], catchup := [], hist := [] }

/-- The queue pair states of R167, in the order of their codes. -/
inductive QpState where
  | reset | init | rtr | rts | draining | err | timewait
  deriving DecidableEq, Repr

/-- A work request in a send queue: the request, whether its transfer has been started, its last PSN once sent, and the Turn
in which a TRIGGER reached the head (R188). -/
structure SqEntry where
  wqe : Wqe
  started : Bool
  lastPsn : Nat
  headTurn : Option Nat
  deriving DecidableEq, Repr

/-- A queue pair: the context of R169 and the timers that run for it. -/
structure Qp where
  st : QpState
  initiated : Bool
  relaxed : Bool
  triggers : Bool
  service : Nat
  gen : Nat
  countSel : Nat
  remoteQpn : Nat
  handle : Nat
  tenant : Nat
  unit : Nat
  pmtu : Nat
  ackT : Nat
  retryCnt : Nat
  rnrRetry : Nat
  ird : Nat
  ord : Nat
  sqPsn : Nat
  unaPsn : Nat
  epsn : Nat
  msn : Nat
  retriesLeft : Nat
  rnrLeft : Nat
  ackArmed : Option Nat
  cwnd : Nat
  inflight : Nat
  alpha : Nat
  quiet : Nat
  rttLast : Nat
  compCount : Nat
  lastFinalPsn : Nat
  sq : List SqEntry
  recv : List Nat
  reads : List (Nat × Nat)
  nakSent : Bool
  ackDue : Option Nat
  cnpSent : Bool
  cnpRx : Bool
  rttMin : Option Nat
  rnrWait : Option (Nat × Nat)
  drainArmed : Option Nat
  timewaitArmed : Option Nat
  attempts : Nat
  connectArmed : Option Nat
  mraArmed : Option Nat
  repPending : Bool
  granted : Option Nat
  sentPkts : Nat
  rcvdPkts : Nat
  retrans : Nat
  naks : Nat
  cnpsRx : Nat
  cnpsTx : Nat
  deriving DecidableEq, Repr

/-- A packet parked behind a context fetch (R172): QP index, the Turn to which it is credited, the packet. -/
structure Parked where
  qp : Nat
  turn : Nat
  packet : Instr
  deriving DecidableEq, Repr

/-- One way of a Gecko set (R170): the QP whose context it holds, changed since fetched, pinned. -/
structure GeckoWay where
  qp : Nat
  dirty : Bool
  pinned : Bool
  deriving DecidableEq, Repr

/-- XPT: queue pairs, generations of indices in RESET, Gecko (ways of each set, most recently used first), the miss buffer,
fetches under way, address handles (R165) and trigger use. -/
structure Xpt where
  qps : Tbl Qp
  gens : Tbl Nat
  gecko : Tbl (List GeckoWay)
  missBuf : List Parked
  fetches : List Nat
  handles : Banked HostAddr
  handleUse : Tbl (HostAddr × Nat)
  pinned : List Nat
  deriving DecidableEq, Repr

/-- Window states (R196). -/
inductive WinState where
  | free | isOpen | draining
  deriving DecidableEq, Repr

/-- A window descriptor (R196). -/
structure WinDesc where
  st : WinState
  buffer : Bool
  remoteW : Bool
  remoteR : Bool
  bind : Bool
  fed : Bool
  keyTag : Nat
  tenant : Nat
  nsid : Nat
  handle : Nat
  length : Nat
  openTurn : Nat
  listAddr : Nat
  deriving DecidableEq, Repr

/-- A block list entry (R197): buffer index, SPILLED, WRITTEN. -/
structure BlockEnt where
  buf : Nat
  spilled : Bool
  written : Bool
  deriving DecidableEq, Repr

/-- Where the plaintext of a block stands (R28, R213, R217, R363). -/
inductive BlkPlace where
  | staged (slot : Nat)   -- in compression staging
  | spilled               -- in its Frogspawn buffer
  | readback              -- being read back into staging
  | lane (slot lane : Nat)-- taken by a compression lane
  | sealed                -- compressed and sealed; its chain waits for layout
  deriving DecidableEq, Repr

/-- Who a block belongs to: an open window block, or a command (R216), with the extent block it will become. -/
structure BlkOwner where
  seq : Nat
  nsid : Nat
  extent : Nat
  index : Nat
  firstSector : Nat
  sectors : Nat
  deriving DecidableEq, Repr

/-- A 64 KiB block of plaintext on its way in: window and block number if it came through a window, place, the Turn in which
its staging hold was armed, its bytes (absent bytes are zero, R213), the bytes written so far, its owner once committed,
and the sealed result (chain head, stored length, raw, CRC, IV, tag, key), and the window buffer that is freed with it once its window
is gone (R211, R217). -/
structure Blk where
  window : Option (Nat × Nat)
  place : BlkPlace
  hold : Option Nat
  data : Mem
  filled : Nat
  owner : Option BlkOwner
  chain : Option Nat
  stored : List Byte
  raw : Bool
  crc : Nat
  iv : Nat
  tag : Nat
  keyId : Nat
  buf : Option Nat
  deriving DecidableEq, Repr

/-- A change of a window descriptor that waits for its batch (R204): window, new descriptor, and the command that completes
with it, if any (controller, command identifier). -/
structure WinChange where
  window : Nat
  desc : WinDesc
  reply : Option (Nat × Nat)
  deriving DecidableEq, Repr

/-- A revoke whose completion waits for the last packets (R211): window, its swap Turn and the reply (none: Daxzin's own
revoke, which ends in a window-revoked event). -/
structure Revoke where
  window : Nat
  turn : Nat
  reply : Option (Nat × Nat)
  deriving DecidableEq, Repr

/-- WIN: the banked window table, block lists, key tags, batches, revokes, and the blocks in staging and spilled. -/
structure Win where
  table : Banked WinDesc
  lists : Tbl (List BlockEnt)
  tags : Tbl Nat
  batch : List WinChange
  waiting : List WinChange
  revokes : List Revoke
  blocks : Tbl Blk
  nextBlk : Nat
  deriving DecidableEq, Repr

/-- One port's gate list (R232 to R236): the banked entries, the base Turn, the gates of this Turn, the entry in force and the Turns left of it. -/
structure GateList where
  list : Banked Nat
  base : Nat
  gates : Nat
  entry : Nat
  left : Nat
  deriving DecidableEq, Repr

/-- SCH: the banked parameter table (an absent entry is all zero), bucket balances in 1/256 byte (key 4 × entry + k),
gate lists, DWRR deficits and turns, latched levels and the direction budget of R243. -/
structure Sch where
  params : Banked (List Nat)
  tokens : Tbl Int
  gates : List GateList
  deficit : Tbl Int
  turnOf : Tbl Nat
  inLevel : Nat
  rsLevel : Nat
  budget : Bool
  budgetDir : Nat
  budgetLeft : Int
  exhausted : Bool
  blackSince : Option Nat
  heldArmed : Option Nat
  deriving DecidableEq, Repr

end Sys2Proof.Machine
end

