-- ==== Sys2Proof/Machine/StCmd.lean ====
section
/-!
DEFINITION. Machine/StCmd.lean: state of the command engine and the NVMe face (chapter 09), Frogspawn (10), the gather cache
and Salamander (11), compression (12) and the cipher block (13).
-/

namespace Sys2Proof.Machine

/-- The I/O commands of R262 and the zone actions of R260, as the engine holds them. -/
inductive CmdKind where
  | read | write | zoneAppend | writeZeroes | deallocate | flush | zoneClose | zoneFinish | zoneOpen | zoneReset
  | reseal | tallyWrite
  deriving DecidableEq, Repr

/-- A command in the table (R253): its fields, the host it came from, arrival Turn, LENGTH under the in-flight cap (R265),
ranges for Dataset Management, whether it holds lock entries and is admitted, whether it has waited on
a lock, on the cap and on black, the extents whose versions are not yet
durable, the assigned LBA of an append, the bytes read so far, the status it will end with, whether its completion is discarded (R275), and the
replica counter it waits on (R189: QP, threshold, Turn of the deadline). -/
structure CmdEnt where
  io : Io
  kind : CmdKind
  data : DataPtr
  host : Nat
  arrival : Nat
  length : Nat
  ranges : List (Nat × Nat)
  selectAll : Bool
  locked : Bool
  admitted : Bool
  waitedLock : Bool
  waitedCap : Bool
  waitedBlack : Bool
  pulled : Nat
  pending : List Nat
  reading : List Nat
  resultLba : Nat
  out : Mem
  status : Nat × Nat
  done : Bool
  discard : Bool
  replica : Option (Nat × Nat × Nat)
  deriving DecidableEq, Repr

/-- A range-lock entry (R267). -/
structure LockEnt where
  nsid : Nat
  first : Nat
  count : Nat
  seq : Nat
  write : Bool
  deriving DecidableEq, Repr

/-- A controller or management session (R249 to R255): host NQN and tenant (none for a management session), its queues (queue
number and QP), CC.EN, CSTS.RDY, KATO in Turns with the Turn of the last Keep Alive, role mask once authenticated, the
outstanding challenge, failed authentications, outstanding Asynchronous Event Requests, the event configuration, the number
of I/O queues once set, whether an Event Read is awaited (R631), CC as written. -/
structure Ctrl where
  mgmt : Bool
  host : Nat
  tenant : Nat
  queues : List (Nat × Nat)
  enabled : Bool
  ready : Bool
  kato : Nat
  lastKeep : Nat
  roles : Option Nat
  challenge : Option Nat
  authFails : Nat
  aers : List Nat
  aenConfig : Nat
  numQueues : Option Nat
  awaitRead : Bool
  cc : Nat
  deriving DecidableEq, Repr

/-- A namespace (R257, R261): type, LBA size, size in LBAs, tenant. -/
structure Ns where
  type : Nat
  lbaSize : Nat
  size : Nat
  tenant : Nat
  deriving DecidableEq, Repr

/-- Zone states of the zoned command set. -/
inductive ZoneState where
  | empty | implicitOpen | explicitOpen | closed | full
  deriving DecidableEq, Repr

/-- One zone (R260, R271, R272): state, write pointer as an LBA offset within the zone, and where that pointer stood after the last write or
change that was completed. -/
structure Zone where
  st : ZoneState
  wp : Nat
  acked : Nat
  deriving DecidableEq, Repr

/-- A Lost Extent log entry (R282). -/
structure LostEnt where
  index : Nat
  nsid : Nat
  lba : Nat
  count : Nat
  cause : Nat
  turn : Nat
  deriving DecidableEq, Repr

/-- A Register Sequence that runs (R660): session, command identifier, entries still to run, results so far, boundaries that the
poll at its front has still to see. -/
structure SeqRun where
  ctrl : Nat
  cid : Nat
  left : List SeqEntry
  results : List Nat
  polls : Nat
  deriving DecidableEq, Repr

/-- The running self-test (R283 to R286): kind (1 short, 2 extended), NSID (2,047 for all), the controller that started it. -/
structure SelfTest where
  kind : Nat
  nsid : Nat
  ctrl : Nat
  paused : Bool
  deriving DecidableEq, Repr

/-- CMD: the command table, range locks, controllers, namespaces and zones, deferred markers (host NQN, NSID, newest log
index), the Lost Extent log, the self-test, feature values, and the Register Sequences in progress. -/
structure Cmd where
  entries : Tbl CmdEnt
  nextSeq : Nat
  locks : List LockEnt
  inflight : Nat
  ctrls : Tbl Ctrl
  nss : Tbl Ns
  zones : Tbl Zone
  markers : List (Nat × Nat × Nat)
  lost : List LostEnt
  lostTotal : Nat
  selfTest : Option SelfTest
  stResults : List (Nat × Nat)
  anaState : Nat
  tempOver : Int
  tempUnder : Int
  tempIsOver : Bool
  tempIsUnder : Bool
  changedNs : List Nat
  seqs : List SeqRun
  deriving DecidableEq, Repr

/-- A Frogspawn buffer descriptor (R297); a free buffer has none. -/
structure BufDesc where
  ref : Nat
  req : Nat
  next : Option Nat
  deriving DecidableEq, Repr

/-- One pool (R291 to R300): configuration, index range, DRAM base, the cache (next pointer to hand out first), the ring as
runs of consecutive indices (first, count), oldest first, the free count frozen at the last boundary, and the level. -/
structure Pool where
  en : Bool
  cls : Nat
  role : Nat
  first : Nat
  count : Nat
  base : Nat
  cache : List Nat
  ring : List (Nat × Nat)
  frozen : Nat
  level : Nat
  deriving DecidableEq, Repr

/-- A pool that is disabled. -/
def Pool.off : Pool :=
  { en := false, cls := 0, role := 0, first := 0, count := 0, base := 0, cache := [], ring := [], frozen := 0, level := 0 }

/-- FSP: the pools and the descriptors of allocated buffers. -/
structure Fsp where
  pools : List Pool
  descs : Tbl BufDesc
  deriving DecidableEq, Repr

/-- The cache states of R336, in the order of their codes. -/
inductive CacheState where
  | off | on | draining
  deriving DecidableEq, Repr

/-- One cache line (R314): VALID and DIRTY are bit masks over the 16 sub-blocks. -/
structure Line where
  slot : Nat
  line : Nat
  cls : Nat
  valid : Nat
  dirty : Nat
  pin : Bool
  deriving DecidableEq, Repr

/-- What a fill in progress delivers to (R333). -/
structure Fill where
  slot : Nat
  line : Nat
  subs : Nat
  cls : Nat
  seq : Nat
  pin : Bool
  deriving DecidableEq, Repr

/-- GCH: state, sets, lines keyed by 16 × set + way, dead ways, pseudo-LRU trees, exclusive and shared line locks (key
2^32 × slot + line, number of shared holders; exclusive holders are the fills and writes), fills, banked way masks. -/
structure Gch where
  st : CacheState
  sets : Nat
  lines : Tbl Line
  dead : List Nat
  plru : Tbl Nat
  shared : Tbl Nat
  exclusive : List Nat
  fills : List Fill
  masks : Banked Nat
  rebuildMasks : Bool
  deriving DecidableEq, Repr

/-- A Salamander operation (R327), as it was queued. -/
structure SalOp where
  op : Nat
  all : Bool
  cls : Nat
  filter : Bool
  slot : Nat
  first : Nat
  count : Nat
  tag : Nat
  internal : Bool
  deriving DecidableEq, Repr

/-- The running Salamander operation: position among its lines or sets, their number, whether it walks the tag array, lines skipped. -/
structure SalRun where
  op : SalOp
  pos : Nat
  total : Nat
  walk : Bool
  skipped : Nat
  deriving DecidableEq, Repr

/-- SAL: queue, running operation or drain, write-back queue (line keys), the sub-blocks whose write-back is awaited (mask by line key),
credit. -/
structure Sal where
  queue : List SalOp
  run : Option SalRun
  drain : Bool
  wbQueue : List Nat
  awaited : Tbl Nat
  credit : Int
  deriving DecidableEq, Repr

/-- A stored extent block to be opened and decoded (R367): the command or function it serves, the block's identity, the
stored bytes, where they begin in the version, the header fields that the extent header gives, the lane, and whether this is the second decode (R369). -/
structure DecJob where
  seq : Nat
  nsid : Nat
  extent : Nat
  index : Nat
  firstSector : Nat
  sectors : Nat
  raw : Bool
  keyId : Nat
  iv : Nat
  tag : Nat
  crc : Nat
  stored : List Byte
  pos : Nat
  lane : Option Nat
  firstLane : Option Nat
  deriving DecidableEq, Repr

/-- CMP: decode jobs waiting and in lanes; lanes out of service are register bits. -/
structure Cmp where
  jobs : Tbl DecJob
  nextJob : Nat
  deriving DecidableEq, Repr

/-- Key slot states (R390). -/
inductive SlotKeyState where
  | loaded | unavailable
  deriving DecidableEq, Repr

/-- A key slot (R390, R392); an EMPTY slot is not listed. -/
structure KeySlot where
  keyId : Nat
  nsid : Nat
  st : SlotKeyState
  fallback : Bool
  key : Nat
  turn : Nat
  refs : Nat
  deriving DecidableEq, Repr

/-- A key load that waits for its record to be durable (R389, R394): the record, who asked (controller and command, or a
fall-back register set), and the key. -/
structure KeyPending where
  record : KeyRecord
  ctrl : Nat
  cid : Nat
  fbk : Option Nat
  key : Nat
  deriving DecidableEq, Repr

/-- CPH: key slots, stored key records (keyed by KEY_ID), the current key of each namespace, IV epoch and INVOCATION, whether
the epoch is durable, tally credit, loads that wait for durability, and a running re-seal (NSID, extents left, their number at the start,
skipped). -/
structure Cph where
  slots : Tbl KeySlot
  records : Tbl KeyRecord
  current : Tbl Nat
  epoch : Nat
  epochs : Tbl Nat
  sealing : Bool
  invoc : Nat
  tallyCredit : Nat
  loads : List KeyPending
  reseal : Option (Nat × List Nat × Nat × Nat)
  deriving DecidableEq, Repr

end Sys2Proof.Machine
end

