-- ==== Sys2Proof/Machine/StDrv.lean ====
section
/-!
DEFINITION. Machine/StDrv.lean: state of the drive ports (chapter 17) and of the power companions (18).
-/

namespace Sys2Proof.Machine

/-- The drive port's view of a slot (R514), in the order of the codes. -/
inductive DrvState where
  | empty | powering | training | setup | ready | refused | ladder | off
  deriving DecidableEq, Repr

/-- How a drive is classified (R521). -/
inductive DriveClass where
  | unknown | member | newDrive | tally | foreign
  deriving DecidableEq, Repr

/-- A drive slot (R510 to R532): state, link mode code, refusal reason, ladder step with the Turn it began, running set-up step
with the Turn it began and CAP.TO, DRV_PERST_N asserted, the Turns from which PERST release, the link timeout and the PERST
retry run, failed link attempts, what set-up has read of the drive (serial number, capacity, VWC, Dataset Management, RTD3E,
label, class), I/O queues created, Turns of the last ladder entries, whether a channel fault's retry is under way, the last
SMART values, and whether Drive Release has made a FOREIGN drive a new one (R522). -/
structure Slot where
  st : DrvState
  link : Nat
  reason : Nat
  step : Nat
  stepArmed : Option Nat
  setup : Nat
  setupArmed : Option Nat
  capTo : Nat
  perst : Bool
  perstArmed : Option Nat
  linkArmed : Option Nat
  retryArmed : Option Nat
  attempts : Nat
  serial : Nat
  capacity : Nat
  vwc : Bool
  dsm : Bool
  rtd3e : Nat
  label : Option Label
  cls : DriveClass
  ioQueues : Bool
  entries : List Nat
  released : Bool
  critWarn : Nat
  temp : Nat
  deriving DecidableEq, Repr

/-- An empty slot. -/
def Slot.none : Slot :=
  { st := .empty, link := 0, reason := 0, step := 0, stepArmed := Option.none, setup := 0, setupArmed := Option.none, capTo := 0,
    perst := true, perstArmed := Option.none, linkArmed := Option.none, retryArmed := Option.none, attempts := 0, serial := 0,
    capacity := 0, vwc := false, dsm := false, rtd3e := 0, label := Option.none, cls := .unknown,
    ioQueues := false, entries := [], released := false, critWarn := 0, temp := 0 }

/-- The slot channel states of R539, in the order of their codes. -/
inductive ChanState where
  | empty | inserting | idle | waitInput | starting | on | stopping | fault
  deriving DecidableEq, Repr

/-- What a companion keeps of a channel's samples (R536 to R549): the last sample's voltages in mV, current and LIMITING, the
fault timer's count (R543), the run of qualified samples (R545, at most 16), and the runs of samples in window, below UV,
above OV and below WARN (at most 4). -/
structure Sampler where
  vin : Nat
  vout : Nat
  current : Nat
  limiting : Bool
  faultCount : Nat
  qualified : Nat
  inWindow : Nat
  below : Nat
  above : Nat
  belowWarn : Nat
  deriving DecidableEq, Repr

/-- A channel that no sample has been taken of. -/
def Sampler.none : Sampler :=
  { vin := 0, vout := 0, current := 0, limiting := false, faultCount := 0, qualified := 0, inWindow := 0, below := 0, above := 0,
    belowWarn := 0 }

/-- A slot channel (R539 to R556): state, debounced presence, power-good, demand of both canisters, last fault, FET_DAMAGED,
retry count, the timers (insertion delay, retry delay, power-good since, brown-out hold, orderly stop, acknowledgement of the
stop, power cycle, slot-held check, discharge check), peak current and samples. -/
structure Chan where
  st : ChanState
  present : Bool
  pg : Bool
  demand : Bool
  peerDemand : Bool
  cause : Nat
  damaged : Bool
  retries : Nat
  insertArmed : Option Nat
  retryArmed : Option Nat
  goodArmed : Option Nat
  brownArmed : Option Nat
  stopArmed : Option Nat
  ackArmed : Option Nat
  cycleArmed : Option Nat
  heldArmed : Option Nat
  clearArmed : Option Nat
  peak : Nat
  smp : Sampler
  deriving DecidableEq, Repr

/-- An empty slot channel. -/
def Chan.none : Chan :=
  { st := .empty, present := false, pg := false, demand := false, peerDemand := false, cause := 0, damaged := false, retries := 0,
    insertArmed := Option.none, retryArmed := Option.none, goodArmed := Option.none, brownArmed := Option.none,
    stopArmed := Option.none, ackArmed := Option.none, cycleArmed := Option.none, heldArmed := Option.none,
    clearArmed := Option.none, peak := 0, smp := Sampler.none }

/-- The feed states of R557, in the order of their codes. -/
inductive FeedState where
  | absent | waiting | available | starting | selected | fault
  deriving DecidableEq, Repr

/-- A feed channel (R557 to R561): state, presence, power-good, last fault, retry count, whether this is its first power, and
the timers (insertion delay, input in window since, retry delay, power-good since). -/
structure Feed where
  st : FeedState
  present : Bool
  pg : Bool
  cause : Nat
  retries : Nat
  first : Bool
  insertArmed : Option Nat
  windowArmed : Option Nat
  retryArmed : Option Nat
  goodArmed : Option Nat
  smp : Sampler
  deriving DecidableEq, Repr

/-- A feed that is absent. -/
def Feed.none : Feed :=
  { st := .absent, present := false, pg := false, cause := 0, retries := 0, first := true, insertArmed := Option.none,
    windowArmed := Option.none, retryArmed := Option.none, goodArmed := Option.none, smp := Sampler.none }

/-- PWR: slot channels, feeds, the transfer in progress (is it a planned one?), its dead time running, the supply warning, and
the Turn since which the condition of its release has held. -/
structure Pwr where
  slots : List Chan
  feeds : List Feed
  transfer : Option Bool
  dead : Bool
  warn : Bool
  warnArmed : Option Nat
  deriving DecidableEq, Repr

end Sys2Proof.Machine
end

