-- ==== Sys2Proof/Machine/StEvt.lean ====
section
/-!
DEFINITION. Machine/StEvt.lean: state of the events and counters blocks (chapter 21).
-/

namespace Sys2Proof.Machine

/-- A record in the ring or in a session queue (R620): the event, PHASE, LOST_BEFORE, SEQ. -/
structure RingRec where
  ev : EventRec
  phase : Bool
  lostBefore : Bool
  seq : Nat
  deriving DecidableEq, Repr

/-- A session's event queue (R631): the records, oldest first, and the number overwritten since the last Event Read. -/
structure EvtQueue where
  recs : List RingRec
  overwritten : Nat
  deriving DecidableEq, Repr

/-- EVT: events handed over and not yet written (R625), the ring slots, tail and phase, the record sequence number, records
dropped since the last Ring-overflow record with the TURN of the last, LOST_BEFORE to carry, suppressed counts per source,
the last Turn in which a rate-limited source was recorded (keyed by source × 2^32 + instance), session queues keyed by
session, and MSI-X causes of the current Turn. -/
structure Evt where
  raised : List EventRec
  ring : Tbl RingRec
  tail : Nat
  phase : Bool
  seq : Nat
  lostSince : Nat
  lostTurn : Nat
  lostBefore : Bool
  suppressed : Tbl Nat
  lastTurn : Tbl Nat
  queues : Tbl EvtQueue
  causes : List Nat
  deriving DecidableEq, Repr

/-- A snapshot slot (R636): SNAP_SEQ, start Turn, SKIPPED, log2 of SNAP_PERIOD and BW_WINDOW, PRELOADED, the 384 counters, the free
cycle at which counter 0 was read, and the twenty bandwidth units with the window number. -/
structure Snap where
  seq : Nat
  turn : Nat
  skipped : Bool
  period : Nat
  window : Nat
  preloaded : List Nat
  counters : List Nat
  cycles : Nat
  units : List (Nat × Nat × Nat)
  deriving DecidableEq, Repr

/-- CNT: the 384 counters (an unlisted one is 0), the INSTANCE of the last occurrence per counter, occurrences since a pending
wrap, a preload that waits, counters preloaded since the last pass, the running pass (start Turn), passes done, whether the
next snapshot sets SKIPPED, the snapshot slots, and the bandwidth windows: length (log2), start Turn, accumulators (unit,
received or read, sent or written), the last completed window with its number, and that window at the start of the running
pass. -/
structure Cnt where
  vals : Tbl Nat
  context : Tbl Nat
  sinceWrap : Tbl Nat
  preloaded : List Nat
  running : Option Nat
  passes : Nat
  skipNext : Bool
  slots : Tbl Snap
  bwLog : Nat
  bwStart : Nat
  bwAcc : Tbl (Nat × Nat)
  bwLast : List (Nat × Nat × Nat)
  snapBw : List (Nat × Nat × Nat)
  deriving DecidableEq, Repr

end Sys2Proof.Machine
end

