-- ==== Sys2Proof/Machine/StLay.lean ====
section
/-!
DEFINITION. Machine/StLay.lean: state of the layout block (chapter 14), the journal (15) and Axolotl (16).
-/

namespace Sys2Proof.Machine

/-- An extent-map entry (R416); an extent that the map does not list has every field 0. -/
structure MapEnt where
  group : Nat
  addr : Nat
  storedLen : Nat
  blockMask : Nat
  mapped : Bool
  version : Nat
  lostMask : Nat
  turn : Nat
  deriving DecidableEq, Repr

/-- The entry that an unlisted extent has. -/
def MapEnt.empty : MapEnt :=
  { group := 0, addr := 0, storedLen := 0, blockMask := 0, mapped := false, version := 0, lostMask := 0, turn := 0 }

/-- A map delta (R443, R458): extent, its new entry, the tag of the host whose command made it. -/
structure Delta where
  nsid : Nat
  extent : Nat
  ent : MapEnt
  host : Nat
  deriving DecidableEq, Repr

/-- A sealed block as a version stores it (R415): the descriptor's fields and the sealed bytes. -/
structure SealedBlk where
  index : Nat
  raw : Bool
  sectors : Nat
  first : Nat
  keyId : Nat
  crc : Nat
  iv : Nat
  tag : Nat
  bytes : List Byte
  deriving DecidableEq, Repr

/-- A version that is being put together (R427): the command it belongs to (none for one placed again), the extent, blocks
copied sealed, blocks still to be sealed, the blocks of a new version that a re-placement keeps (VERSION and entry), the Turn
since which it has waited for a parity slot (R421), and the lost blocks that it still carries. -/
structure Gathering where
  seq : Nat
  nsid : Nat
  extent : Nat
  host : Nat
  copied : List SealedBlk
  expect : List Nat
  reading : Bool
  again : Option MapEnt
  lost : Nat
  slotWait : Option Nat
  deriving DecidableEq, Repr

/-- A version placed in the log whose fate is not settled: extent, entry, the entry that it replaced, the command that it
belongs to, the host's tag, the journal record that carries its delta, and whether it is durable. -/
structure Placed where
  seq : Nat
  nsid : Nat
  extent : Nat
  host : Nat
  ent : MapEnt
  prev : MapEnt
  header : List SealedBlk
  record : Option Nat
  durable : Bool
  deriving DecidableEq, Repr

/-- Where a stripe stands: open, being written, counted as written. -/
inductive StripeState where
  | opened | writing | written
  deriving DecidableEq, Repr

/-- A stripe that is open or not yet released from DRAM (R410, R421 to R426): width in data units, parity slot, bytes placed in
its data units, P and Q, bytes placed so far and journalled so far (offsets in unit order), the Turn of the first byte, the
gather hold, the positions whose writes are outstanding and the number that completed without error, and its intent record. -/
structure Stripe where
  group : Nat
  row : Nat
  k : Nat
  st : StripeState
  slot : Option Nat
  data : Mem
  p : Mem
  q : Mem
  fill : Nat
  journalled : Nat
  first : Nat
  hold : Option Nat
  outstanding : List Nat
  okWrites : Nat
  intent : Option Nat
  deriving DecidableEq, Repr

/-- A segment's entry (R429). -/
structure Seg where
  live : Nat
  readers : Nat
  deriving DecidableEq, Repr

/-- A layout group (R402 to R408, R429): declared, tally, width range, current width in data units, power set, rows, head log
address, segments with LIVE or READERS not zero, member slots by position, at reserve, compaction's segment, for a tally
group its namespace and first member LBA, and the tail segment up to which rows have been deallocated (R518). -/
structure Grp where
  declared : Bool
  tally : Bool
  kMin : Nat
  kMax : Nat
  k : Nat
  append : Bool
  set : Nat
  rows : Nat
  head : Nat
  segs : Tbl Seg
  members : List Nat
  full : Bool
  compacting : Option Nat
  nsid : Nat
  baseLba : Nat
  tailSeen : Nat
  deriving DecidableEq, Repr

/-- A group that the image does not declare. -/
def Grp.none : Grp :=
  { declared := false, tally := false, kMin := 0, kMax := 0, k := 0, append := false, set := 0, rows := 0, head := 0, segs := [],
    members := [], full := false, compacting := Option.none, nsid := 0, baseLba := 0, tailSeen := 0 }

/-- The states of a power set (R432), in the order of their codes. -/
inductive SetState where
  | off | powering | on | stopping
  deriving DecidableEq, Repr

/-- A power set (R432 to R436): state, cause of the power-up or stop (R687), the READY_TIMEOUT timer, the Turn of the last
activity, a management stop held while POWERING, the step of a stop (0 before the boundary, 2 during steps 2 and 3, 4 from step
4 on), whether a read waits for OFF, and whether Daxzin itself powered it last. -/
structure PSet where
  st : SetState
  cause : Nat
  armed : Option Nat
  lastUse : Nat
  stopHeld : Bool
  step : Nat
  again : Bool
  auto : Bool
  deriving DecidableEq, Repr

/-- A set that is OFF. -/
def PSet.none : PSet :=
  { st := .off, cause := 0, armed := Option.none, lastUse := 0, stopHeld := false, step := 0, again := false, auto := false }

/-- What a read of a version is for. -/
inductive ReadFor where
  | host          -- a host Read
  | rewrite       -- R427
  | compact       -- R430
  | reseal        -- R397
  | scrub         -- R441
  | replica       -- R597
  deriving DecidableEq, Repr

/-- A read of a version (R437 to R439): command, extent, purpose, the entry it reads under, the retry stage (0 as read, 1 with
parity, 2 through Q with P erased), the data units held erased, whether it waits for its set or for buffers, the units that it reads
(row and position), its buffers, the version's blocks once its header has passed, the blocks wanted, and the decodes still running. -/
structure ReadJob where
  seq : Nat
  nsid : Nat
  extent : Nat
  use : ReadFor
  ent : MapEnt
  stage : Nat
  erased : List Nat
  waiting : Bool
  units : List (Nat × Nat)
  bufs : List Nat
  blocks : List SealedBlk
  want : Nat
  decoding : List Nat
  deriving DecidableEq, Repr

/-- What waits to be durable in the shelf metadata stream (R442). -/
inductive MdWrite where
  | batch (deltas : List Delta) (trailer : Trailer)
  | record (r : MdRecord)
  | keyRecord (keyId : Nat)
  | keyGone (ctrl cid keyId : Nat)
  | current (ctrl cid nsid keyId : Nat)
  deriving DecidableEq, Repr

/-- LAY: the extent map, the map as the metadata stream gives it, stripes, versions being gathered and placed, groups, sets,
reads, map deltas of durable records that no batch carries yet, batches written, the delta log's bytes since the last
checkpoint began and since the newest complete one began, the running checkpoint (start Turn, start position), the newest
complete one (area, start Turn), the checkpoint fence, outstanding metadata writes, the KEY_IDs that the
extent headers of stored versions name (keyed by location), the round-robin debt of each group, lost
tally ranges. -/
structure Lay where
  map : Tbl MapEnt
  stream : Tbl MapEnt
  stripes : List Stripe
  gathering : List Gathering
  placed : List Placed
  groups : List Grp
  sets : List PSet
  reads : Tbl ReadJob
  nextRead : Nat
  deltas : List Delta
  batches : Nat
  lastBatch : Nat
  logSince : Nat
  logPos : Nat
  ckptRun : Option (Nat × Nat)
  ckptDone : Option (Nat × Nat × Nat)
  fence : Option Nat
  writes : List MdWrite
  heads : Tbl (List Nat)
  share : Tbl Nat
  tallyLost : List (Nat × Nat × Nat)
  deriving DecidableEq, Repr

/-- The states of an anchor role (R451), in the order of their codes. -/
inductive RoleState where
  | active | seeding | failed | none
  deriving DecidableEq, Repr

/-- A journal write that is outstanding on a ring (R456): the highest SEQ whose last byte it holds (0 for none), and whether it
has completed without error. -/
structure JWrite where
  upto : Nat
  done : Bool
  deriving DecidableEq, Repr

/-- An anchor role (R451 to R460, R472): state, slot, promoted, RING_EPOCH, FIRST_SEQ, ring offset of the next record,
COMMIT_SEQ, outstanding writes, records that wait for a write (SEQ and LENGTH, in order), PAD bytes of the Turn, the Turn of
promotion, the last consolidated SEQ of its re-seed, its assignment generation, and the ring offsets of the live records. -/
structure Role where
  st : RoleState
  slot : Nat
  promoted : Bool
  epoch : Nat
  firstSeq : Nat
  head : Nat
  commit : Nat
  writes : List JWrite
  queue : List (Nat × Nat)
  pad : Nat
  promotedAt : Option Nat
  seedSeq : Option Nat
  gen : Nat
  offs : Tbl Nat
  deriving DecidableEq, Repr

/-- A role before RECOVERY. -/
def Role.none : Role :=
  { st := .none, slot := 0, promoted := false, epoch := 0, firstSeq := 0, head := 0, commit := 0, writes := [], queue := [],
    pad := 0, promotedAt := Option.none, seedSeq := Option.none, gen := 0, offs := [] }

/-- The record types of R457. -/
inductive RecType where
  | intent | partialData | map | tally | tallyIntent
  deriving DecidableEq, Repr

/-- A live record (R457, R459, R468): SEQ, type, stripe or tally row, START and BYTES, LENGTH, its deltas, whether a re-seed
wrote it, and whether its deltas are in a batch that is committed. -/
structure JRec where
  seq : Nat
  type : RecType
  group : Nat
  k : Nat
  row : Nat
  start : Nat
  bytes : Nat
  length : Nat
  deltas : List Delta
  reseed : Bool
  batched : Bool
  cmd : Nat
  deriving DecidableEq, Repr

/-- A tally write on its way (R448): command, group, row, first LBA within the row and count, whole rows, and where it stands:
0 waits for its data or its row, 1 reads, 2 waits for the cipher and the journal, 3 writes in place; the number of sectors that the
cipher has taken (for a replayed record, SEQ 0: the mask of the LBAs that it carries), its record, the positions whose writes are outstanding and the number that completed without error, whether the command has
been told, the new bytes of data units (unit × 66,560 + offset; a unit is 64 KiB of data, then 1 KiB of tags) and of P and Q. -/
structure TallyJob where
  seq : Nat
  group : Nat
  row : Nat
  first : Nat
  count : Nat
  whole : Bool
  step : Nat
  enc : Nat
  record : Option Nat
  outstanding : List Nat
  okWrites : Nat
  told : Bool
  data : Mem
  p : Mem
  q : Mem
  deriving DecidableEq, Repr

/-- What a replay has found and not yet acted on (R475 to R479): kept PARTIAL bytes (group, row, width, START, bytes), TALLY and tally INTENT
records to redo (group, row, first LBA, bytes), the highest stripe named per group, the changes made to the map, the versions marked
lost (HOST_TAG, NSID, extent), those that failed verification (NSID, extent), the SEQs that no anchor can read, the next SEQ, and the end
of each ring. -/
structure Replayed where
  kept : List (Nat × Nat × Nat × Nat × List Byte)
  redo : List (Nat × Nat × Nat × List Byte)
  tops : Tbl Nat
  deltas : List Delta
  gone : List (Nat × Nat × Nat)
  failed : List (Nat × Nat)
  unread : List Nat
  records : Nat
  next : Nat
  ends : Tbl Nat
  deriving DecidableEq, Repr

/-- JNL: next SEQ, credit, roles, live records, tally jobs, the stall (R474) with the Turn of its last event, the Turn in which
replay started with its kind, the newest committed batch's trailer, and what a replay has found that waits for a grant (R585). -/
structure Jnl where
  seq : Nat
  credit : Int
  roles : List Role
  recs : List JRec
  tallies : List TallyJob
  stalled : Option Nat
  held : Bool
  replay : Option (Nat × Nat)
  trailer : Option Trailer
  product : Option Replayed
  deriving DecidableEq, Repr

/-- The position states of R484, in the order of their codes. -/
inductive PosState where
  | online | absent | resyncing | failed | rebuilding
  deriving DecidableEq, Repr

/-- A position of a group (R484 to R493): state, the slot of its member (or of its target), the member's serial number, the
member generation, the Turn in which it became ABSENT with ALIGNED at that moment, the segments of its dirty-stripe log, the
rows still pending as runs of first and count, and rows left undecided. -/
structure Pos where
  st : PosState
  slot : Nat
  serial : Nat
  gen : Nat
  absentAt : Option (Nat × Bool)
  dirty : List Nat
  pending : List (Nat × Nat)
  undecided : List Nat
  deriving DecidableEq, Repr

/-- A walk of a group (R494): the next row, rows done, the Turn it started, columns lost, the row whose
units are being read, and the segment of the last progress record. -/
structure Walk where
  row : Nat
  done : Nat
  startTurn : Nat
  lostCols : Nat
  issued : Bool
  paused : Bool
  deriving DecidableEq, Repr

/-- The states of a reshape, as AXL_GRP_RESHAPE codes them from 1 on. -/
inductive ReshapeState where
  | preparing | moving | paused
  deriving DecidableEq, Repr

/-- A reshape (R502 to R508): group, widths, state, BOUNDARY, first new row of the batch in progress, the row where a narrowing
starts, and the spares that a widening joined. -/
structure Reshape where
  group : Nat
  oldK : Nat
  newK : Nat
  st : ReshapeState
  boundary : Nat
  batch : Nat
  top : Nat
  joined : List Nat
  deriving DecidableEq, Repr

/-- AXL: positions (key 32 × group + position), spares, walks and scrubs per group, the reshape, class credits in bytes, bytes that walks
of tally groups have taken of the Turn's rebuild grant (R500), and progress SEQ per group. -/
structure Axl where
  poses : Tbl Pos
  spares : List Nat
  walks : Tbl Walk
  scrubs : Tbl Walk
  reshape : Option Reshape
  rbCredit : Int
  rsCredit : Int
  scCredit : Int
  tallyUsed : Nat
  progress : Tbl Nat
  deriving DecidableEq, Repr

end Sys2Proof.Machine
end

