-- ==== Sys2Proof/Machine/StFov.lean ====
section
/-!
DEFINITION. Machine/StFov.lean: state of fail-over, the Pawn, the peer link and replication (chapter 19) and of the service
endpoint (20).
-/

namespace Sys2Proof.Machine

/-- The states of a witness connection, as FOV_WIT codes them. -/
inductive WitState where
  | down | connecting | proving | ready
  deriving DecidableEq, Repr

/-- The canister's side of a witness connection (R571 to R576): state, the nonce it sent, the Turn since which the proof is
awaited, the Turn of a failed proof, a failed proof seen, REQUESTs sent (sequence number, Turn), newest first, the one that
waits for an answer, cutoff, expiry, the Turn and length of a DENY's wait, the Turn of the last GRANT. -/
structure Witness where
  st : WitState
  nonce : Nat
  proofArmed : Option Nat
  retryArmed : Option Nat
  reqs : List (Nat × Nat)
  waiting : Option Nat
  cutoff : Nat
  expiry : Nat
  denied : Option (Nat × Nat)
  lastGrant : Nat
  lease : Nat
  deriving DecidableEq, Repr

/-- A connection that is down. -/
def Witness.none : Witness :=
  { st := .down, nonce := 0, proofArmed := Option.none, retryArmed := Option.none, reqs := [],
    waiting := Option.none, cutoff := 0, expiry := 0, denied := Option.none, lastGrant := 0, lease := 0 }

/-- A shelf that this Daxzin witnesses (R577, R596): the connections (canister: nonce, proof awaited since, proved), the holder,
LEASE_ID, expiry, guard end, the Turn from which QUIET runs, and the contention wait (canister, Turn, message). -/
structure Served where
  conns : Tbl (Nat × Option Nat × Bool)
  holder : Option Nat
  lease : Nat
  expiry : Nat
  guardEnd : Nat
  since : Nat
  contention : Option (Nat × Nat × PawnMsg)
  deriving DecidableEq, Repr

/-- How warm a standby's map is (R582, R583). -/
inductive Warmth where
  | cold | warm | stale
  deriving DecidableEq, Repr

/-- A takeover in progress (R586): the Turn of step 1, its kind, whether member set-up, fitness and replay are done. -/
structure Takeover where
  start : Nat
  kind : Nat
  fitDone : Bool
  replayDone : Bool
  epochDone : Bool
  deriving DecidableEq, Repr

/-- A hand-over in progress (R593): who asked, the Turn of step 1's boundary, drained. -/
structure HandOver where
  ctrl : Nat
  cid : Nat
  armed : Option Nat
  drained : Bool
  deriving DecidableEq, Repr

/-- FOV: witness connections, request sequence, whether the canister is requesting and since when, the random wait of R576 with
its length, the renewal timer; holder, valid, eligible, former; the peer (HELLO accepted, lost, its heartbeat and the Turn of
it, heartbeats without FORMER and HOLDER in a row); the mirror (SEQ sent or applied, resend buffer, warmth, deltas
buffered during the copy, a copy running); whether the peer's YIELD was a planned one; the standby's view of positions; the wait for HELLO in RECOVERY; the
takeover; the hand-over and whether it holds admission; fitness; the Turn of the last pair-unserviceable
event; served shelves; the replication bitmap and replicas that are down; the last slot-demand map sent and its Turn. -/
structure Fov where
  wits : List Witness
  reqSeq : Nat
  nextLease : Nat
  requesting : Option Nat
  backoff : Option (Nat × Nat)
  renewArmed : Option Nat
  holder : Bool
  valid : Bool
  eligible : Bool
  former : Bool
  fit : Bool
  hello : Option Hello
  peerUp : Bool
  beat : Option Heartbeat
  beatTurn : Nat
  beatSent : Nat
  clearBeats : Nat
  mismatch : Bool
  mirror : Nat
  buffer : List (Nat × Nat)
  warmth : Warmth
  held : List Delta
  copying : Bool
  planned : Bool
  helloArmed : Option Nat
  built : Bool
  takeover : Option Takeover
  handOver : Option HandOver
  handOverHold : Bool
  unserviceable : Option Nat
  served : Tbl Served
  replica : List (Nat × Nat)
  replicaDown : Tbl Nat
  demandSent : Nat
  demandTurn : Nat
  setStates : List Nat
  deriving DecidableEq, Repr

/-- The endpoint's link, as SEP_STATUS.LINK codes it. -/
inductive SepLink where
  | held | training | active | down
  deriving DecidableEq, Repr

/-- Where a Flash Write stands (R612): reading by DMA, erasing, programming the body, programming the header page. -/
inductive FlashStep where
  | reading | erasing | body | header
  deriving DecidableEq, Repr

/-- A Flash Write (R612): command identifier, copy, length in bytes, the copy that the data spell, step, pages programmed. -/
structure FlashJob where
  cid : Nat
  copy : Nat
  length : Nat
  image : Option Image
  step : FlashStep
  pages : Nat
  deriving DecidableEq, Repr

/-- SEP: PERST asserted, link, speed, width, the capability table in force, D3hot, configuration bits, the containment's cause, a
running FLR (Turn, DMA silent), pending bits, mailbox (head of the submission queue, tail of the completion queue with its
phase, running command, completions held back by containment, commands whose completion is discarded), lock-out, and the Flash
Write. -/
structure Sep where
  perst : Bool
  link : SepLink
  speed : Nat
  width : Nat
  table : SecServiceEp
  d3hot : Bool
  bme : Bool
  msixEn : Bool
  fmask : Bool
  contained : Option Nat
  flr : Option Nat
  flrQuiet : Bool
  pba : List Nat
  sqHead : Nat
  cqTail : Nat
  phase : Bool
  busy : Option Nat
  held : List (Nat × Nat × Nat)
  abandoned : List Nat
  locked : Bool
  flash : Option FlashJob
  deriving DecidableEq, Repr

end Sys2Proof.Machine
end

