-- ==== Sys2Proof/Machine/State.lean ====
section
/-!
DEFINITION. Machine/State.lean: the whole state of the part as plain data, the reasons a command can stop, and the state
right after reset.
-/

namespace Sys2Proof.Machine

/-- Why a command stops the model. -/
inductive Fault where
  /-- The operand names a port, sub-port, slot, core, feed, witness, pool or role that the part does not have (R11, R1).
  Raised by every meaning whose operand is such an index. Safe: the model stops where no such event exists. -/
  | noSuchUnit
  deriving DecidableEq, Repr

/-- Why the model gives a command no meaning. -/
inductive Refusal where
  /-- The command's meaning is not written yet. Raised by an arm of exec only. Safe: nothing can be proved of the command. -/
  | notModelled (mnemonic : String)
  deriving DecidableEq, Repr

/-- The state of the part (block by block in the order of the chapters), the commands that wait, and the model's records. -/
structure State where
  /-- commands that wait, first in, first out -/
  pending : List Instr
  /-- what the part has sent out, oldest first (the model's own record) -/
  outbox : List Output
  /-- effects timed to the next Turn boundary -/
  deferred : List Deferred
  /-- the model's own counter of free values taken (notes/assumptions/3.md) -/
  free : Nat
  /-- the register file: key Fld.key, absent = reset value -/
  regs : Tbl Nat
  /-- DRAM that the Frogspawn buffers lie in -/
  dram : Mem
  /-- the Turn counter, its discipline and the boundary (chapter 02) -/
  trn : Trn
  /-- device state, boot, images, update, activation, cores (01, 03) -/
  cfg : Cfg
  /-- fuses, identity, quotes (04) -/
  idn : Idn
  /-- the sixteen sub-ports and two peer lanes (05) -/
  eth : List Link
  /-- the RDMA transport (06) -/
  xpt : Xpt
  /-- memory windows and staged blocks (07) -/
  win : Win
  /-- scheduler, policers, gate lists (08) -/
  sch : Sch
  /-- command engine and NVMe face (09) -/
  cmd : Cmd
  /-- Frogspawn pools (10) -/
  fsp : Fsp
  /-- gather cache (11) -/
  gch : Gch
  /-- Salamander (11) -/
  sal : Sal
  /-- compression and decompression lanes (12) -/
  cmp : Cmp
  /-- cipher block and keys (13) -/
  cph : Cph
  /-- layout, extent map, power sets (14) -/
  lay : Lay
  /-- stripe journal (15) -/
  jnl : Jnl
  /-- rebuild, reshape, scrub (16) -/
  axl : Axl
  /-- the 24 drive ports (17) -/
  drv : List Slot
  /-- power companions: slot and feed channels (18) -/
  pwr : Pwr
  /-- Pawn leases, peer link, take-over, replication (19) -/
  fov : Fov
  /-- service endpoint, mailbox, flash path (20) -/
  sep : Sep
  /-- events and the event ring (21) -/
  evt : Evt
  /-- counters and snapshots (21) -/
  cnt : Cnt
  deriving DecidableEq, Repr

/-- TRN after reset (R52, R53): the counter at 0 in FREE, unaligned. -/
def trnReset : Trn :=
  { count := 0, ticks := 0, disc := .free, aligned := false, slewing := false, offset := 0, corr := 0, turnLen := 2560, prevLen := 2560,
    sinceAdjust := 4, goodSyncs := 0, syncArmed := none, acqArmed := none, reloadArmed := none, alignPending := false,
    sync := none, parent := none, overrunRun := [], lastRefill := 0 }

/-- An SPI NOR region with nothing written (notes/assumptions/1.md). -/
def SpiCopy.erased : SpiCopy := { image := none, headerErased := true, unreadable := false, written := 0 }

/-- CFG after reset: BOOT, unlocked, in reset, both SPI NOR regions erased. -/
def cfgReset : Cfg :=
  { state := .boot, locked := false, phase := .held, resetAsserted := true, spi := [SpiCopy.erased, SpiCopy.erased],
    sfdpQuad := false, dramGib := 0, dramRate := 0, firstFault := none, running := none, runningCopy := 0, fwDigest := 0,
    canister := 0, downloadSlot := none, commit := none, activation := none, watchdogs := [], coreTasks := [],
    release := none, hotMain := 0, hotA := 0, hotB := 0, temperature := 0, thermTrip := false, frozenNs := [],
    frozenGroups := [] }

/-- A blank owner slot. -/
def OwnerFuse.blank : OwnerFuse :=
  { digest := 0, secret := 0, enrolled := false, enrolCommit := false, revoked := false, revokeCommit := false,
    spoiled := false, spoilCommit := false }

/-- The fuse contents that the model starts from: an LX-DZ2400 of stepping B0, production, wafer 1, every customer field
blank (notes/assumptions/1.md). -/
def fusesReset : Fuses :=
  { lot := 0, wafer := 1, dieX := 0, dieY := 0, stepping := 0xB0, variant := 0x2400, speedBin := 1, portDisable := 0,
    idSeed := 0, lxFwRoot := 0, certIdPub := 0, cert := 0,
    owners := [OwnerFuse.blank, OwnerFuse.blank, OwnerFuse.blank, OwnerFuse.blank], svnFloor := 0, alignRec := 0,
    alignCommit := false, tamperCount := 0 }

/-- IDN after reset: fuses present but not loaded, no identity key. -/
def idnReset : Idn :=
  { fuses := fusesReset, fuseOk := false, vppFuse := false, keyReady := false, idPub := 0, job := none, quotes := [] }

/-- Every sub-port and peer lane before bring-up (R134). -/
def ethReset : List Link := List.replicate 18 Link.off

/-- XPT after reset: every index in RESET with generation 0, Gecko and miss buffer empty. -/
def xptReset : Xpt :=
  { qps := [], gens := [], gecko := [], missBuf := [], fetches := [], handles := Banked.empty, handleUse := [], pinned := [] }

/-- WIN after reset: every window FREE, no staged block. -/
def winReset : Win :=
  { table := Banked.empty, lists := [], tags := [], batch := [], waiting := [], revokes := [], blocks := [], nextBlk := 0 }

/-- A gate list with no entries: every gate open (R233). -/
def GateList.allOpen : GateList := { list := Banked.empty, base := 0, gates := 0xFF, entry := 0, left := 0 }

/-- SCH after reset. -/
def schReset : Sch :=
  { params := Banked.empty, tokens := [], gates := List.replicate 8 GateList.allOpen, deficit := [], turnOf := [],
    inLevel := 0, rsLevel := 0, budget := false, budgetDir := 0, budgetLeft := 0, exhausted := false, blackSince := none,
    heldArmed := none }

/-- CMD after reset: no command, controller, namespace or marker; ANA Persistent Loss (CMD_ANA). -/
def cmdReset : Cmd :=
  { entries := [], nextSeq := 0, locks := [], inflight := 0, ctrls := [], nss := [], zones := [], markers := [], lost := [],
    lostTotal := 0, selfTest := none, stResults := [], anaState := 4, tempOver := 0xFFFF, tempUnder := 0,
    tempIsOver := false, tempIsUnder := false, changedNs := [], seqs := [] }

/-- FSP after reset: no pool enabled until boot step 9 (R301). -/
def fspReset : Fsp := { pools := List.replicate 16 Pool.off, descs := [] }

/-- GCH after reset: OFF, no line (R318, GCH registers). -/
def gchReset : Gch :=
  { st := .off, sets := 0, lines := [], dead := [], plru := [], shared := [], exclusive := [], fills := [],
    masks := Banked.empty, rebuildMasks := false }

/-- SAL after reset: the queue is empty. -/
def salReset : Sal := { queue := [], run := none, drain := false, wbQueue := [], awaited := [], credit := 0 }

/-- CMP after reset: every lane in service, nothing in it. -/
def cmpReset : Cmp := { jobs := [], nextJob := 0 }

/-- CPH after reset: every slot EMPTY, no epoch durable (R118, R381). -/
def cphReset : Cph :=
  { slots := [], records := [], current := [], epoch := 0, epochs := [], sealing := false, invoc := 0, tallyCredit := 0,
    loads := [], reseal := none }

/-- LAY after reset: no group declared, every set OFF, empty map (R432; notes/assumptions/1.md). -/
def layReset : Lay :=
  { map := [], stream := [], stripes := [], gathering := [], placed := [], groups := List.replicate 10 Grp.none,
    sets := List.replicate 8 PSet.none, reads := [], nextRead := 0, deltas := [], batches := 0, lastBatch := 0, logSince := 0,
    logPos := 0, ckptRun := none, ckptDone := none, fence := none, writes := [], heads := [], share := [], tallyLost := [] }

/-- JNL after reset: every role NONE (R451), no record. -/
def jnlReset : Jnl :=
  { seq := 1, credit := 0, roles := [Role.none, Role.none, Role.none], recs := [], tallies := [], stalled := none, held := false,
    replay := none, trailer := none, product := none }

/-- AXL after reset: no position, no walk, no reshape. -/
def axlReset : Axl :=
  { poses := [], spares := [], walks := [], scrubs := [], reshape := none, rbCredit := 0, rsCredit := 0, scCredit := 0,
    tallyUsed := 0, progress := [] }

/-- DRV after reset: 24 empty slots (R514), DRV_PERST_N asserted. -/
def drvReset : List Slot := List.replicate 24 Slot.none

/-- PWR at first power: every channel empty, every feed absent, no warning judged yet (R539, R557). -/
def pwrReset : Pwr :=
  { slots := List.replicate 24 Chan.none, feeds := [Feed.none, Feed.none], transfer := none, dead := false, warn := false, warnArmed := none }

/-- FOV after reset: no connection, no Pawn, ELIGIBLE set (FOV_STATUS), the standby COLD (R582). -/
def fovReset : Fov :=
  { wits := List.replicate 4 Witness.none, reqSeq := 0, nextLease := 1, requesting := none, backoff := none, renewArmed := none,
    holder := false, valid := false, eligible := true, former := false, fit := false, hello := none, peerUp := false,
    beat := none, beatTurn := 0, beatSent := 0, clearBeats := 0, mismatch := false, mirror := 0, buffer := [],
    warmth := .cold, held := [], copying := false, planned := false, helloArmed := none, built := false, takeover := none, handOver := none,
    handOverHold := false, unserviceable := none, served := [], replica := [], replicaDown := [], demandSent := 0,
    demandTurn := 0, setStates := [] }

/-- The fall-back capability table of R604. -/
def sepFallback : SecServiceEp :=
  { subsysVendor := 0x1D2B, subsysId := 0, classCode := 0x088000, bar2Size := 0x1000000, maxSpeed := 5, maxWidth := 4, mps := 512,
    dsnEn := 1 }

/-- SEP after reset: link held (R601), mailbox empty with the first phase 1, nothing contained. -/
def sepReset : Sep :=
  { perst := false, link := .held, speed := 0, width := 0, table := sepFallback, d3hot := false, bme := false,
    msixEn := false, fmask := false, contained := none, flr := none, flrQuiet := false, pba := [], sqHead := 0,
    cqTail := 0, phase := true, busy := none, held := [], abandoned := [], locked := false, flash := none }

/-- EVT after reset: ring empty, PHASE 1 (R627, R632). -/
def evtReset : Evt :=
  { raised := [], ring := [], tail := 0, phase := true, seq := 0, lostSince := 0, lostTurn := 0, lostBefore := false,
    suppressed := [], lastTurn := [], queues := [], causes := [] }

/-- CNT after reset: every counter zero (R632), bandwidth window of 2^9 Turns (CNT_CFG). -/
def cntReset : Cnt :=
  { vals := [], context := [], sinceWrap := [], preloaded := [], running := none, passes := 0, skipNext := false, slots := [],
    bwLog := 9, bwStart := 0, bwAcc := [], bwLast := [], snapBw := [] }

/-- The machine right after reset: every block at its reset values, SYS_RESET_N still asserted, fuses as notes/assumptions/1.md
names them, both SPI NOR regions erased, nothing waiting (R89, R657, R659). -/
def State.reset : State :=
  { pending := [], outbox := [], deferred := [], free := 0, regs := [], dram := [], trn := trnReset, cfg := cfgReset, idn := idnReset, eth := ethReset, xpt := xptReset, win := winReset, sch := schReset, cmd := cmdReset, fsp := fspReset, gch := gchReset, sal := salReset, cmp := cmpReset, cph := cphReset, lay := layReset, jnl := jnlReset, axl := axlReset, drv := drvReset, pwr := pwrReset, fov := fovReset, sep := sepReset, evt := evtReset, cnt := cntReset }

end Sys2Proof.Machine
end

