-- ==== Sys2Proof/Machine/Ops.lean ====
section
/-!
DEFINITION. Machine/Ops.lean: the operations that every block shares: the register file, timers, counters, events, outputs,
free values, effects timed to the next Turn boundary, command completions and the device state.
-/

namespace Sys2Proof.Machine

/-- What a meaning answers. -/
abbrev Out := Host.Outcome State Fault Refusal

/-- The current Turn (R49). -/
def State.now (s : State) : Nat := s.trn.count

/-- Local Turns since reset: what every timer counts (R57). -/
def State.clock (s : State) : Nat := s.trn.ticks

/-- The value of instance (i, j) of a register field: the last value stored, or its reset value (R14, R657). -/
def State.rd (s : State) (f : Fld) (i : Nat := 0) (j : Nat := 0) : Nat := tgetD s.regs (f.key i j) f.reset

/-- Store a value in a register file, in an instance that the register map has; the reset value is not listed. -/
def regPut (r : Tbl Nat) (f : Fld) (i j v : Nat) : Tbl Nat :=
  if i < f.count1 ∧ j < f.count2 then tput f.reset r (f.key i j) (v % 2 ^ f.width) else r

/-- Store a value in instance (i, j) of a register field. -/
def State.wr (s : State) (f : Fld) (i j v : Nat) : State := { s with regs := regPut s.regs f i j v }

/-- Add to a count that saturates at the width of its field. -/
def State.bump (s : State) (f : Fld) (i j n : Nat) : State := s.wr f i j (min (2 ^ f.width - 1) (s.rd f i j + n))

/-- Add to a count that wraps at the width of its field. -/
def State.bumpWrap (s : State) (f : Fld) (i j n : Nat) : State := s.wr f i j (s.rd f i j + n)

/-- Has a timer of `t` Turns that was armed in Turn `a` expired (R51): is the boundary that begins Turn a + 1 + t past? -/
def expired (a t now : Nat) : Bool := decide (a + 1 + t ≤ now)

/-- A timer that may not be armed: expired when it is armed and its time is up. -/
def due (armed : Option Nat) (t now : Nat) : Bool :=
  match armed with
  | some a => expired a t now
  | none => false

/-- Whole Turns of a time in ns, rounded up (R19). -/
def turnsOfNs (ns : Nat) : Nat := ceilDiv ns 2048

/-- Whole Turns of a time in µs (R19). -/
def turnsOfUs (us : Nat) : Nat := ceilDiv (us * 1000) 2048

/-- Whole Turns of a time in ms (R19). -/
def turnsOfMs (ms : Nat) : Nat := ceilDiv (ms * 1000000) 2048

/-- Whole Turns of a time in s (R19). -/
def turnsOfSec (sec : Nat) : Nat := ceilDiv (sec * 1000000000) 2048

/-- Add to the model's record of what the part sends out. -/
def State.emit (s : State) (k : OutKind) (args : List Nat) : State := { s with outbox := s.outbox ++ [⟨k, args⟩] }

/-- Leave an effect to the next Turn boundary. -/
def State.defer (s : State) (d : Deferred) : State := { s with deferred := s.deferred ++ [d] }

/-- Take a free value (notes/assumptions/3.md): the value, and the state with the counter advanced. -/
def State.takeFree (s : State) : Nat × State := (Config.freeValue s.free, { s with free := s.free + 1 })

/-- Draw from the on-die random source. -/
def State.draw (s : State) : Nat × State := (Config.random s.free, { s with free := s.free + 1 })

/-- Set bit s of EVT_LATCH (R628). -/
def State.latch (s : State) (src : Nat) : State :=
  s.wr Reg.EVT_LATCH 0 (src / 32) (setBitOf (s.rd Reg.EVT_LATCH 0 (src / 32)) (src % 32) true)

/-- Raise an event (R620, R621, R628): the latch is set and the record goes to EVT with the suppressed count of its source. -/
def State.raise (s : State) (src sev inst code value value2 : Nat) : State :=
  let r : EventRec := { source := src, severity := sev, turn := s.now, inst := inst, code := code, value := value,
                        value2 := value2, suppressed := tgetD s.evt.suppressed src 0 }
  let s := s.latch src
  { s with evt := { s.evt with raised := s.evt.raised ++ [r], suppressed := tdel s.evt.suppressed src } }

/-- Raise an event at most once per `period` Turns for one key (R626): the limit suppresses the record and counts it; the
latch is set either way. -/
def State.raiseLim (s : State) (period key src sev inst code value value2 : Nat) : State :=
  let k := src * 2 ^ 32 + key
  let again := match tget s.evt.lastTurn k with
    | some t => decide (t + period ≤ s.clock)
    | none => true
  if again then
    let s := s.raise src sev inst code value value2
    { s with evt := { s.evt with lastTurn := tset s.evt.lastTurn k s.clock } }
  else
    let s := s.latch src
    let n := tgetD s.evt.suppressed src 0
    { s with evt := { s.evt with suppressed := tset s.evt.suppressed src (min 0xFFFFFFFF (n + 1)) } }

/-- The configuration-violation event (R621): INSTANCE the block index, VALUE the BAR0 offset, VALUE2 the writer. -/
def State.violation (s : State) (offset writer : Nat) : State := s.raise 5 2 (offset / 0x100000) 0 offset writer

/-- The code of a writer in the configuration-violation event (R621). -/
def writerCode : Writer → Nat
  | .endpoint => 0
  | .core => 1
  | .session => 2

/-- Is OVF_EN set for a counter? -/
def State.ovfEnabled (s : State) (i : Nat) : Bool := bitOf (s.rd Reg.CNT_OVF_EN 0 (i / 32)) (i % 32)

/-- Is CNT_OVF_PEND set for a counter? -/
def State.ovfPending (s : State) (i : Nat) : Bool := bitOf (s.rd Reg.CNT_OVF_PEND 0 (i / 32)) (i % 32)

/-- Set or clear CNT_OVF_PEND of a counter. -/
def State.setOvfPending (s : State) (i : Nat) (b : Bool) : State :=
  s.wr Reg.CNT_OVF_PEND 0 (i / 32) (setBitOf (s.rd Reg.CNT_OVF_PEND 0 (i / 32)) (i % 32) b)

/-- Count `n` occurrences on counter `i`, the last of them concerning `inst` (R633, R634, R640): the counter wraps at 2^48; a
wrap with OVF_EN set sets the pending bit, or is counted as a lost sample while the bit is still set. -/
def State.count (s : State) (i n inst : Nat) : State :=
  let v := tgetD s.cnt.vals i 0 + n
  let s1 : State := { s with cnt := { s.cnt with
    vals := tput 0 s.cnt.vals i (v % 2 ^ 48),
    context := tset s.cnt.context i inst,
    sinceWrap := if s.ovfPending i then tset s.cnt.sinceWrap i (tgetD s.cnt.sinceWrap i 0 + n) else s.cnt.sinceWrap } }
  if v < 2 ^ 48 then s1
  else if s1.ovfEnabled i then
    if s1.ovfPending i then s1.bump Reg.CNT_SAMPLE_LOST 0 0 1
    else
      let s2 := s1.setOvfPending i true
      { s2 with cnt := { s2.cnt with sinceWrap := tset s2.cnt.sinceWrap i (v % 2 ^ 48) } }
  else s1

/-- Discard a pending sample (R640): counted, and Sample-lost at most once per 2^19 Turns. -/
def State.loseSample (s : State) (i : Nat) : State :=
  ((s.setOvfPending i false).bump Reg.CNT_SAMPLE_LOST 0 0 1).raiseLim (2 ^ 19) 0 16 2 i 0 0 0

/-- Add bytes to a bandwidth accumulator (R639): received or read, sent or written. -/
def State.bwAdd (s : State) (unit a b : Nat) : State :=
  let o := tgetD s.cnt.bwAcc unit (0, 0)
  { s with cnt := { s.cnt with bwAcc := tset s.cnt.bwAcc unit (o.1 + a, o.2 + b) } }

/-- Post the completion of a command: SCT and SC, DW0 and DW1. -/
def State.complete (s : State) (ctrl cid : Nat) (st : Nat × Nat) (dw0 dw1 : Nat) : State :=
  s.emit .completion [ctrl, cid, st.1, st.2, dw0, dw1]

/-- Code of a device state (R72). -/
def DevState.code : DevState → Nat
  | .boot => 0
  | .safeHold => 1
  | .shelfIdle => 2
  | .recovery => 3
  | .standby => 4
  | .active => 5
  | .activating => 6

/-- Is the part held in reset (SYS_RESET_N asserted, or the thermal trip of R681)? -/
def State.inReset (s : State) : Bool := s.cfg.phase == .held || s.cfg.phase == .thermalHeld

/-- Is a network port's hardware present (R2): ports that fuses disable do not exist? -/
def State.portOn (s : State) (port : Nat) : Bool := decide (port < 8) && !bitOf s.idn.fuses.portDisable port

/-- Is a drive slot present (R2)? -/
def State.slotOn (s : State) (slot : Nat) : Bool := decide (slot < 24) && !bitOf s.idn.fuses.portDisable (8 + slot)

/-- Is a sub-port or peer lane present: units 2p and 2p + 1 of port p, peer lanes 16 and 17? -/
def State.unitOn (s : State) (u : Nat) : Bool := decide (u < 16) && s.portOn (u / 2) || u == 16 || u == 17

/-- Answer a next state where the operand names a unit the part has, and stop where it does not. -/
def guardUnit (ok : Bool) (s : State) : Out := if ok then .next s else .fault .noSuchUnit

/-- Status codes of R289. -/
abbrev St.ok : Nat × Nat := (0, 0)
abbrev St.invalidOpcode : Nat × Nat := (0, 0x01)
abbrev St.invalidField : Nat × Nat := (0, 0x02)
abbrev St.dataTransfer : Nat × Nat := (0, 0x04)
abbrev St.internal : Nat × Nat := (0, 0x06)
abbrev St.abortRequested : Nat × Nat := (0, 0x07)
abbrev St.sqDeletion : Nat × Nat := (0, 0x08)
abbrev St.invalidNs : Nat × Nat := (0, 0x0B)
abbrev St.sglLength : Nat × Nat := (0, 0x0F)
abbrev St.sglType : Nat × Nat := (0, 0x11)
abbrev St.sglOffset : Nat × Nat := (0, 0x16)
abbrev St.denied : Nat × Nat := (0, 0x15)
abbrev St.interrupted : Nat × Nat := (0, 0x21)
abbrev St.lbaRange : Nat × Nat := (0, 0x80)
abbrev St.capacity : Nat × Nat := (0, 0x81)
abbrev St.badSlot : Nat × Nat := (1, 0x06)
abbrev St.badImage : Nat × Nat := (1, 0x07)
abbrev St.badLogPage : Nat × Nat := (1, 0x09)
abbrev St.needsReset : Nat × Nat := (1, 0x0B)
abbrev St.notSaveable : Nat × Nat := (1, 0x0D)
abbrev St.prohibited : Nat × Nat := (1, 0x13)
abbrev St.selfTestBusy : Nat × Nat := (1, 0x1D)
abbrev St.connectParams : Nat × Nat := (1, 0x82)
abbrev St.connectHost : Nat × Nat := (1, 0x84)
abbrev St.zoneBoundary : Nat × Nat := (1, 0xB8)
abbrev St.zoneFull : Nat × Nat := (1, 0xB9)
abbrev St.zoneInvalidWrite : Nat × Nat := (1, 0xBC)
abbrev St.zoneTransition : Nat × Nat := (1, 0xBF)
abbrev St.unrecovered : Nat × Nat := (2, 0x81)
abbrev St.accessDenied : Nat × Nat := (2, 0x86)
abbrev St.anaLoss : Nat × Nat := (3, 0x01)
abbrev St.anaInaccessible : Nat × Nat := (3, 0x02)
abbrev St.anaTransition : Nat × Nat := (3, 0x03)
abbrev St.deferredWrite : Nat × Nat := (7, 0xC0)
abbrev St.replicaUnconfirmed : Nat × Nat := (7, 0xC1)

/-- The period of most event rate limits: 2^19 Turns. -/
abbrev lim19 : Nat := 2 ^ 19

/-- Severities of an event (R620). -/
abbrev Sev.notice : Nat := 1
abbrev Sev.warning : Nat := 2
abbrev Sev.error : Nat := 3
abbrev Sev.fatal : Nat := 4

/-- Source numbers of the events (R623). -/
abbrev Ev.turnState : Nat := 0
abbrev Ev.turnOffset : Nat := 1
abbrev Ev.turnUnaligned : Nat := 2
abbrev Ev.bankLate : Nat := 3
abbrev Ev.turnOverrun : Nat := 4
abbrev Ev.configurationViolation : Nat := 5
abbrev Ev.coreWatchdog : Nat := 6
abbrev Ev.withdrawal : Nat := 7
abbrev Ev.tamper : Nat := 8
abbrev Ev.imageNotice : Nat := 9
abbrev Ev.imageRejected : Nat := 10
abbrev Ev.activationFailed : Nat := 11
abbrev Ev.stateChange : Nat := 12
abbrev Ev.temperature : Nat := 13
abbrev Ev.ringOverflow : Nat := 14
abbrev Ev.counterSample : Nat := 15
abbrev Ev.sampleLost : Nat := 16
abbrev Ev.linkUp : Nat := 32
abbrev Ev.linkDown : Nat := 33
abbrev Ev.linkNegotiationFailed : Nat := 34
abbrev Ev.fecDegraded : Nat := 35
abbrev Ev.linkFault : Nat := 36
abbrev Ev.addressConflict : Nat := 37
abbrev Ev.ingressDrop : Nat := 38
abbrev Ev.peerLaneDown : Nat := 39
abbrev Ev.peerLinkDown : Nat := 40
abbrev Ev.qpError : Nat := 64
abbrev Ev.retryExhausted : Nat := 65
abbrev Ev.missDrop : Nat := 66
abbrev Ev.contextEcc : Nat := 67
abbrev Ev.triggerTimeout : Nat := 68
abbrev Ev.triggerTableFull : Nat := 69
abbrev Ev.connectFailed : Nat := 70
abbrev Ev.handleTableFull : Nat := 71
abbrev Ev.windowViolation : Nat := 72
abbrev Ev.windowRevoked : Nat := 73
abbrev Ev.windowQuota : Nat := 74
abbrev Ev.policerDrop : Nat := 75
abbrev Ev.ingestHeld : Nat := 76
abbrev Ev.gateSwap : Nat := 77
abbrev Ev.deferredErrorSet : Nat := 96
abbrev Ev.deferredOverflow : Nat := 97
abbrev Ev.rangeLockFull : Nat := 98
abbrev Ev.commandTableFull : Nat := 99
abbrev Ev.keepAliveExpired : Nat := 100
abbrev Ev.authenticationFailed : Nat := 101
abbrev Ev.selfTestComplete : Nat := 102
abbrev Ev.anaChange : Nat := 103
abbrev Ev.poolLevel : Nat := 104
abbrev Ev.frogspawnBadPointer : Nat := 105
abbrev Ev.frogspawnEcc : Nat := 106
abbrev Ev.cacheState : Nat := 128
abbrev Ev.cacheEcc : Nat := 129
abbrev Ev.salamanderDone : Nat := 130
abbrev Ev.pinLimit : Nat := 131
abbrev Ev.compressionLaneFault : Nat := 132
abbrev Ev.decompressionLaneFault : Nat := 133
abbrev Ev.decompressionVerify : Nat := 134
abbrev Ev.stagingEcc : Nat := 135
abbrev Ev.cipherEngineFault : Nat := 136
abbrev Ev.keyLoadFailed : Nat := 137
abbrev Ev.keyUnavailable : Nat := 138
abbrev Ev.tagFailure : Nat := 139
abbrev Ev.reSealDone : Nat := 140
abbrev Ev.setPower : Nat := 160
abbrev Ev.setPowerFailed : Nat := 161
abbrev Ev.groupFull : Nat := 162
abbrev Ev.stripeRewrite : Nat := 163
abbrev Ev.erasureRepaired : Nat := 164
abbrev Ev.extentLost : Nat := 165
abbrev Ev.parityFixed : Nat := 166
abbrev Ev.paritySramEcc : Nat := 167
abbrev Ev.anchorFailed : Nat := 168
abbrev Ev.anchorSeeded : Nat := 169
abbrev Ev.anchorLate : Nat := 170
abbrev Ev.ackStall : Nat := 171
abbrev Ev.journalCap : Nat := 172
abbrev Ev.ringFull : Nat := 173
abbrev Ev.journalRecordLost : Nat := 174
abbrev Ev.replayDone : Nat := 175
abbrev Ev.positionState : Nat := 192
abbrev Ev.noTarget : Nat := 193
abbrev Ev.targetTooSmall : Nat := 194
abbrev Ev.walkDone : Nat := 195
abbrev Ev.lossPending : Nat := 196
abbrev Ev.reshapeState : Nat := 197
abbrev Ev.linkDegraded : Nat := 198
abbrev Ev.memberRefused : Nat := 199
abbrev Ev.ladderStep : Nat := 200
abbrev Ev.memberHealth : Nat := 201
abbrev Ev.standbyPortDown : Nat := 202
abbrev Ev.slotPower : Nat := 203
abbrev Ev.slotFault : Nat := 204
abbrev Ev.slotInput : Nat := 205
abbrev Ev.slotHeld : Nat := 206
abbrev Ev.fetDamaged : Nat := 207
abbrev Ev.slotVoltageUnexplained : Nat := 208
abbrev Ev.feedTransfer : Nat := 209
abbrev Ev.feedFault : Nat := 210
abbrev Ev.supplyWarning : Nat := 211
abbrev Ev.pawnGranted : Nat := 224
abbrev Ev.pawnLost : Nat := 225
abbrev Ev.witnessLost : Nat := 226
abbrev Ev.witnessAuthFailed : Nat := 227
abbrev Ev.peerLost : Nat := 228
abbrev Ev.peerMismatch : Nat := 229
abbrev Ev.peerImageDiffers : Nat := 230
abbrev Ev.mirrorStale : Nat := 231
abbrev Ev.takeover : Nat := 232
abbrev Ev.takeoverUnfit : Nat := 233
abbrev Ev.pairUnserviceable : Nat := 234
abbrev Ev.replicaDown : Nat := 235
abbrev Ev.endpointLink : Nat := 236
abbrev Ev.endpointContained : Nat := 237
abbrev Ev.endpointReleased : Nat := 238
abbrev Ev.endpointFlr : Nat := 239
abbrev Ev.mailboxLockout : Nat := 240

end Sys2Proof.Machine
end

