-- ==== Sys2Proof/Machine/PoolOps.lean ====
section
/-!
DEFINITION. Machine/PoolOps.lean: Frogspawn's shared operations: choosing a pool, allocating, the pointer checks, reference
counts, the free store and the levels (R291 to R310).
-/

namespace Sys2Proof.Machine

/-- A pool, by number. -/
def State.pool (s : State) (n : Nat) : Pool := s.fsp.pools.getD n Pool.off

/-- Replace a pool. -/
def State.setPool (s : State) (n : Nat) (p : Pool) : State := { s with fsp := { s.fsp with pools := lset s.fsp.pools n p } }

/-- Pointers in a ring kept as runs of consecutive indices. -/
def ringCount (r : List (Nat × Nat)) : Nat := (r.map (·.2)).sum

/-- Free buffers of a pool: cache and ring occupancy (R308). -/
def Pool.free (p : Pool) : Nat := p.cache.length + ringCount p.ring

/-- Take up to `n` pointers from the front of a ring: the pointers and the rest; the fuel bounds the runs visited. -/
def ringTake : Nat → Nat → List (Nat × Nat) → List Nat × List (Nat × Nat)
  | 0, _, r => ([], r)
  | _, 0, r => ([], r)
  | _, _, [] => ([], [])
  | fuel + 1, n + 1, (f, c) :: t =>
    if c ≤ n + 1 then
      let r := ringTake fuel (n + 1 - c) t
      ((List.range c).map (· + f) ++ r.1, r.2)
    else ((List.range (n + 1)).map (· + f), (f + (n + 1), c - (n + 1)) :: t)

/-- The pools of a role and class in the order in which an allocate tries them (R294): most free at the last boundary first, the
lowest number on a tie. -/
def State.poolOrder (s : State) (role cls : Nat) : List Nat :=
  let ps := (List.range 16).filter fun n => let p := s.pool n; p.en && p.role == role && p.cls == cls
  ps.foldl (init := []) fun acc n =>
    let before := acc.takeWhile fun m => decide ((s.pool n).frozen ≤ (s.pool m).frozen)
    before ++ n :: acc.drop before.length

/-- The pointer word of a buffer (R296). -/
def pointerWord (pool cls idx : Nat) : Nat := idx + 2 ^ 26 * pool + 2 ^ 30 * cls

/-- Take a pointer from pool `n`, which holds one (R299, R300): from its cache, or after a refill counted in FSP_STALL. -/
def State.takeFrom (s : State) (n req : Nat) : Option (Nat × State) :=
  let p := s.pool n
  let r := match p.cache with
    | i :: t => some (i, { p with cache := t }, false)
    | [] =>
      match ringTake (p.ring.length + 1) 256 p.ring with
      | (i :: t, rest) => some (i, { p with cache := t, ring := rest }, true)
      | ([], _) => none
  match r with
  | some (i, p', stalled) =>
    let s1 := s.setPool n p'
    let s2 := if stalled then (s1.bumpWrap Reg.FSP_STALL n 0 1).count (121 + 2 * n) 1 n else s1
    let s3 := s2.count (120 + 2 * n) 1 n
    some (i, { s3 with fsp := { s3.fsp with descs := tset s3.fsp.descs i { ref := 1, req := req, next := none } } })
  | none => none

/-- Allocate a buffer of a role and class for a requester (R294, R303): pool, index and state, or EMPTY. -/
def State.alloc (s : State) (role cls req : Nat) : Option (Nat × Nat × State) :=
  (s.poolOrder role cls).findSome? fun n => (s.takeFrom n req).map fun r => (n, r.1, r.2)

/-- Allocate `k` buffers, or none at all. -/
def State.allocMany (s : State) (role cls req : Nat) : Nat → Option (List Nat × State)
  | 0 => some ([], s)
  | k + 1 =>
    match s.alloc role cls req with
    | some (_, i, s') => (s'.allocMany role cls req k).map fun r => (i :: r.1, r.2)
    | none => none

/-- The pool whose range holds an index, if an enabled one does. -/
def State.poolOfIndex (s : State) (i : Nat) : Option Nat :=
  (List.range 16).find? fun n => let p := s.pool n; p.en && decide (p.first ≤ i) && decide (i < p.first + p.count)

/-- Bytes of a buffer of a class (R292). -/
def bufBytes (c : Nat) : Nat := if c = 0 then 4096 else if c = 1 then 65536 else 1048576

/-- The DRAM address of a buffer (R295). -/
def State.bufAddr (s : State) (i : Nat) : Nat :=
  match s.poolOfIndex i with
  | some n => let p := s.pool n; p.base + (i - p.first) * bufBytes p.cls
  | none => 0

/-- Checks 1 to 4 of R306: the pool and index that a pointer, an index or an address names, or the reason and the pool
concerned. -/
def State.resolveBuf (s : State) : BufRef → Except (Nat × Nat) (Nat × Nat)
  | .pointer w =>
    let n := bitsOf w 26 4
    let p := s.pool n
    let i := bitsOf w 0 26
    if !p.en then .error (1, n)
    else if i < p.first || p.first + p.count ≤ i then .error (2, n)
    else if bitsOf w 30 2 != p.cls then .error (3, n)
    else .ok (n, i)
  | .index i =>
    match s.poolOfIndex i with
    | some n => .ok (n, i)
    | none => .error (2, 0)
  | .address a =>
    match (List.range 16).find? fun n =>
        let p := s.pool n; p.en && decide (p.base ≤ a) && decide (a < p.base + p.count * bufBytes p.cls) with
    | some n =>
      let p := s.pool n
      if (a - p.base) % bufBytes p.cls != 0 then .error (4, n) else .ok (n, p.first + (a - p.base) / bufBytes p.cls)
    | none => .error (2, 0)

/-- Drop an operation whose pointer check failed (R307). -/
def State.badPointer (s : State) (reason pool req : Nat) : State :=
  let s := s.bump Reg.FSP_BAD 0 (reason - 1) 1
  let s := (((s.wr Reg.FSP_BAD_LAST_REASON 0 0 reason).wr Reg.FSP_BAD_LAST_POOL 0 0 pool).wr Reg.FSP_BAD_LAST_REQ 0 0 req).wr
    Reg.FSP_BAD_LAST_TURN 0 0 (s.now % 65536)
  (s.raiseLim lim19 0 Ev.frogspawnBadPointer Sev.error pool reason req 0).emit .buffer [req, 2, reason]

/-- Return a buffer whose count has reached 0 to its pool's cache (R299). -/
def State.toCache (s : State) (i : Nat) : State :=
  match s.poolOfIndex i with
  | some n =>
    let p := s.pool n
    let s := { s with fsp := { s.fsp with descs := tdel s.fsp.descs i } }
    s.setPool n { p with cache := i :: p.cache }
  | none => s

/-- DECREF along a chain (R303, R304): a buffer whose count reaches 0 is freed and its successor released. -/
def State.decrefChain : Nat → State → Nat → State
  | 0, s, _ => s
  | fuel + 1, s, i =>
    match tget s.fsp.descs i with
    | some d =>
      if d.ref ≤ 1 then
        let s := s.toCache i
        match d.next with
        | some j => State.decrefChain fuel s j
        | none => s
      else { s with fsp := { s.fsp with descs := tset s.fsp.descs i { d with ref := d.ref - 1 } } }
    | none => s

/-- Release a buffer by index, with the rest of its chain. -/
def State.decref (s : State) (i : Nat) : State := State.decrefChain (s.fsp.descs.length + 1) s i

/-- Release a list of buffers. -/
def State.decrefs (s : State) (l : List Nat) : State := l.foldl State.decref s

/-- Share a buffer (R303, R305): the count stops at 255. -/
def State.incref (s : State) (i : Nat) : State :=
  { s with fsp := { s.fsp with descs := tmod s.fsp.descs i fun d => { d with ref := min 255 (d.ref + 1) } } }

/-- The threshold of a percentage (R308). -/
def Pool.threshold (p : Pool) (pct : Nat) : Nat := p.count * pct / 100

/-- The level that a free count gives (R308), for thresholds amber, red and black. -/
def levelOf (free amber red black : Nat) : Nat := if free ≤ black then 3 else if free ≤ red then 2 else if free ≤ amber then 1 else 0

/-- The next level of a pool (R308, R309): it may worsen freely, and leaves a level only when its free count stands at that level's
threshold plus floor(COUNT / 100) or above. -/
def nextLevel (now free count amber red black : Nat) : Nat :=
  let fresh := levelOf free amber red black
  let thr := if now = 3 then black else if now = 2 then red else amber
  if now ≤ fresh then fresh else if thr + count / 100 ≤ free then fresh else now

/-- The LEVEL_n fields of FSP_LEVEL. -/
def levelField (n : Nat) : Fld := { Reg.FSP_LEVEL_0 with lo := 2 * (n % 16) }

/-- Freeze a pool's free count and set its level (R308, R309), raising Pool-level on a change (R311). -/
def State.poolBoundary (s : State) (n : Nat) : State :=
  let p := s.pool n
  if !p.en then s
  else
    let free := p.free
    let thr := fun (f : Fld) => p.threshold (s.rd f n 0)
    let lvl := nextLevel p.level free p.count (thr Reg.FSP_POOL_CFG_AMBER) (thr Reg.FSP_POOL_CFG_RED) (thr Reg.FSP_POOL_CFG_BLACK)
    let s := s.setPool n { p with frozen := free, level := lvl }
    let s := s.wr Reg.FSP_POOL_FREE n 0 free
    let s := s.wr Reg.FSP_POOL_MIN n 0 (min free (s.rd Reg.FSP_POOL_MIN n 0))
    let s := s.wr (levelField n) 0 0 lvl
    if lvl = p.level then s
    else s.raiseLim lim19 (16 * lvl + n) Ev.poolLevel (if lvl ≤ 1 then Sev.notice else lvl) n lvl free 0

/-- The worst level of the pools of a role (R310). -/
def State.roleLevel (s : State) (role : Nat) : Nat :=
  (s.fsp.pools.filter fun p => p.en && p.role == role).foldl (fun a p => max a p.level) 0

/-- Enable a pool from its POOLS entry (R295, R301): its ring holds every index. -/
def poolFrom (c : PoolCfg) (first base : Nat) : Pool :=
  { en := c.count != 0, cls := c.cls, role := c.role, first := first, count := c.count, base := base, cache := [],
    ring := if c.count = 0 then [] else [(first, c.count)], frozen := c.count, level := 0 }

/-- Lay the pools out in number order (R295): indices and 4 KiB-, 64 KiB- or 1 MiB-aligned DRAM regions from `base` on. -/
def layPools : Nat → Nat → List PoolCfg → List Pool
  | _, _, [] => []
  | first, base, c :: cs =>
    let b := ceilDiv base (bufBytes c.cls) * bufBytes c.cls
    poolFrom c first b :: layPools (first + c.count) (b + c.count * bufBytes c.cls) cs

end Sys2Proof.Machine
end

