-- ==== Sys2Proof/Machine/CmdOps.lean ====
section
/-!
DEFINITION. Machine/CmdOps.lean: the shared operations of the command engine and the NVMe face (chapter 09): completions and
the mailbox completion queue, the gate of admin commands, ANA, deferred markers and the Lost Extent log, the command table,
and what a reset or the loss of a queue does. Also the shelf metadata stream's writes and the mirror to the standby, which
these use.
-/

namespace Sys2Proof.Machine

/-! ### The peer link and the metadata stream -/

/-- Message types of the peer link (R579). -/
abbrev Peer.hello : Nat := 1
abbrev Peer.heartbeat : Nat := 2
abbrev Peer.mapBulk : Nat := 3
abbrev Peer.mapDelta : Nat := 4
abbrev Peer.trailer : Nat := 5
abbrev Peer.record : Nat := 6
abbrev Peer.slotDemand : Nat := 7
abbrev Peer.slotAck : Nat := 8
abbrev Peer.health : Nat := 9
abbrev Peer.yield : Nat := 10
abbrev Peer.nack : Nat := 11

/-- Bytes that the resend buffer of R583 holds. -/
def mirrorBuffer : Nat := 64 * 2 ^ 20

/-- Drop the oldest messages of a resend buffer until at most `cap` bytes are left (newest first). -/
def keepBytes : Nat → List (Nat × Nat) → List (Nat × Nat)
  | _, [] => []
  | cap, (q, n) :: t => if n ≤ cap then (q, n) :: keepBytes (cap - n) t else []

/-- Send a mirror message of a type and body length to the standby (R578, R579, R583): it takes the next mirror SEQ, and the
resend buffer keeps it. -/
def State.mirrorSend (s : State) (type bytes : Nat) (args : List Nat) : State :=
  let q := s.fov.mirror + 1
  let s : State := { s with fov := { s.fov with mirror := q, buffer := keepBytes mirrorBuffer ((q, 16 + bytes) :: s.fov.buffer) } }
  (s.emit .peer (type :: q :: args)).count 355 1 type

/-- Write a record to the shelf metadata stream with FUA (R442); it is outstanding until its METADATA_WRITE_DONE. -/
def State.mdWrite (s : State) (w : MdWrite) : State := { s with lay := { s.lay with writes := s.lay.writes ++ [w] } }

/-! ### Completions -/

/-- The controller ID of the mailbox session (R611). -/
def State.mailboxId (s : State) : Nat := if s.cfg.canister = 0 then 0x7FFF else 0xFFFF

/-- Is this controller ID a mailbox session's? -/
def isMailbox (ctrl : Nat) : Bool := ctrl == 0x7FFF || ctrl == 0xFFFF

/-- A controller or management session. -/
def State.ctrlOf (s : State) (ctrl : Nat) : Option Ctrl := tget s.cmd.ctrls ctrl

/-- Replace a controller. -/
def State.setCtrl (s : State) (ctrl : Nat) (c : Ctrl) : State := { s with cmd := { s.cmd with ctrls := tset s.cmd.ctrls ctrl c } }

/-- Change a controller if it exists. -/
def State.modCtrl (s : State) (ctrl : Nat) (f : Ctrl → Ctrl) : State :=
  { s with cmd := { s.cmd with ctrls := tmod s.cmd.ctrls ctrl f } }

/-- Post an entry to the mailbox completion queue (R610): DW0, DW1, the head of the submission queue and the command
identifier with phase and status; the cause of vector 0 (R613) is noted and BUSY clears. -/
def State.mailboxPost (s : State) (cid : Nat) (st : Nat × Nat) (dw0 dw1 : Nat) : State :=
  let t := s.sep.cqTail
  let stat := cid % 65536 + 2 ^ 16 * b2n s.sep.phase + 2 ^ 17 * (st.2 + 256 * st.1)
  let s := ((s.wr Reg.SEP_MBX_CQ 0 (4 * t) dw0).wr Reg.SEP_MBX_CQ 0 (4 * t + 1) dw1).wr Reg.SEP_MBX_CQ 0 (4 * t + 2) s.sep.sqHead
  let s := s.wr Reg.SEP_MBX_CQ 0 (4 * t + 3) stat
  let s := (s.wr Reg.SEP_MBX_STATUS_BUSY 0 0 0).wr Reg.SEP_MBX_STATUS_PERCENT 0 0 0
  { s with sep := { s.sep with cqTail := (t + 1) % 8, phase := if t = 7 then !s.sep.phase else s.sep.phase, busy := none },
           evt := { s.evt with causes := if s.evt.causes.contains 0 then s.evt.causes else 0 :: s.evt.causes } }

/-- Complete an admin or management command (R289): on the mailbox's completion queue for the mailbox session (held back while
the endpoint is contained, R617, and discarded for an abandoned command, R614), else by a response capsule. -/
def State.reply (s : State) (ctrl cid : Nat) (st : Nat × Nat) (dw0 dw1 : Nat) : State :=
  let s := (s.complete ctrl cid st dw0 dw1).count 109 1 ctrl
  if isMailbox ctrl then
    if s.sep.abandoned.contains cid then { s with sep := { s.sep with abandoned := s.sep.abandoned.erase cid } }
    else if s.sep.contained.isSome then
      { s with sep := { s.sep with busy := none, held := s.sep.held ++ [(cid, st.1, st.2)] } }
    else s.mailboxPost cid st dw0 dw1
  else s

/-- Complete successfully with nothing in DW0 and DW1. -/
def State.replyOk (s : State) (ctrl cid : Nat) : State := s.reply ctrl cid St.ok 0 0

/-- Complete with an error status. -/
def State.replyErr (s : State) (ctrl cid : Nat) (st : Nat × Nat) : State := s.reply ctrl cid st 0 0

/-- Note an admin command as in progress on a core (R42). -/
def State.startTask (s : State) (core ctrl cid : Nat) : State :=
  { s with cfg := { s.cfg with coreTasks := tset s.cfg.coreTasks core (tgetD s.cfg.coreTasks core [] ++ [(ctrl, cid)]) } }

/-- An admin command in progress on a core has ended. -/
def State.endTask (s : State) (core ctrl cid : Nat) : State :=
  let left := (tgetD s.cfg.coreTasks core []).filter fun t => !(t == (ctrl, cid))
  { s with cfg := { s.cfg with coreTasks := tset s.cfg.coreTasks core left } }

/-- The core of 2 to 4 that handles an admin command of connection and namespace management (notes/assumptions/9.md). -/
def adminCore (cid : Nat) : Nat := 2 + cid % 3

/-! ### The gate of admin commands -/

/-- On which connections a command is served (R254, R256, R261). -/
inductive ServedOn where
  | always                    -- before authentication, and on hosts
  | both                      -- on a host connection and on an authenticated session
  | hostOnly
  | mgmtOpen                  -- on a management session, authenticated or not
  | mgmt (role : Option Nat)  -- on an authenticated management session, with a role bit
  deriving DecidableEq, Repr

/-- Role bits of R85. -/
abbrev RoleBit.admin : Nat := 0
abbrev RoleBit.keyOfficer : Nat := 1
abbrev RoleBit.observer : Nat := 2
abbrev RoleBit.firmware : Nat := 3

/-- What the gate answers: no such connection, served, or a status. -/
inductive Gate where
  | absent
  | pass
  | fail (st : Nat × Nat)
  deriving DecidableEq, Repr

/-- Does a session hold what a management command asks for? -/
def Ctrl.may (c : Ctrl) (role : Option Nat) : Bool :=
  match c.roles, role with
  | none, _ => false
  | some _, none => true
  | some m, some r => bitOf m r

/-- The gate of a controller that is not the mailbox's or is not in SAFE_HOLD (R254, R256, R261). -/
def Ctrl.gate (c : Ctrl) : ServedOn → Gate
  | .always => .pass
  | .both => if c.mgmt && c.roles.isNone then .fail St.accessDenied else .pass
  | .hostOnly => if !c.mgmt then .pass else if c.roles.isNone then .fail St.accessDenied else .fail St.invalidOpcode
  | .mgmtOpen => if c.mgmt then .pass else .fail St.invalidOpcode
  | .mgmt role =>
    if !c.mgmt then .fail St.invalidOpcode
    else if c.may role then .pass else .fail St.accessDenied

/-- The gate of an admin command (R254, R256, R261, R611): `safe` marks the two commands besides Flash Write that the mailbox
serves in SAFE_HOLD. -/
def State.gate (s : State) (ctrl : Nat) (a : ServedOn) (safe : Bool := false) : Gate :=
  match s.ctrlOf ctrl with
  | none => .absent
  | some c =>
    if isMailbox ctrl then
      if s.sep.locked then .fail St.accessDenied
      else if s.cfg.state = .safeHold then if safe then .pass else .fail St.denied
      else c.gate a
    else c.gate a

/-- Run an admin command behind its gate. While ACTIVATING it waits for the resume (R102), except a Keep Alive and the Connect
that precedes it. -/
def State.admin (s : State) (i : Instr) (ctrl cid : Nat) (a : ServedOn) (run : State → State) (safe : Bool := false)
    (held : Bool := true) : State :=
  match s.gate ctrl a safe with
  | .absent => s
  | .fail st => s.replyErr ctrl cid st
  | .pass => if held && s.cfg.state == .activating then s.defer (.command i) else run s

/-- A management request outside its bound (R96): Invalid Field, the state unchanged, the configuration-violation event with the
block's index. -/
def State.outOfBound (s : State) (ctrl cid block : Nat) : State :=
  (s.violation (block * 0x100000) 2).replyErr ctrl cid St.invalidField

/-! ### ANA -/

/-- Raise an ANA change (R288): the code, the count, the event and a notice on every controller that enabled it. -/
def State.setAna (s : State) (code : Nat) : State :=
  if s.cmd.anaState = code then s
  else
    let old := s.cmd.anaState
    let s : State := { s with cmd := { s.cmd with anaState := code } }
    let s := (s.wr Reg.CMD_ANA_STATE 0 0 code).bump Reg.CMD_ANA_CHANGES 0 0 1
    let s := s.raise Ev.anaChange Sev.notice 1 code old 0
    s.cmd.ctrls.foldl (init := s) fun s p =>
      if bitOf p.2.aenConfig 11 && !p.2.mgmt then
        match p.2.aers with
        | cid :: rest => (s.emit .asyncEvent [p.1, cid, 2 + 2 ^ 8 * 3 + 2 ^ 16 * 0x0C]).modCtrl p.1 fun c => { c with aers := rest }
        | [] => s
      else s

/-- The status of an I/O command that the ANA state keeps out (R287). -/
def State.anaStatus (s : State) : Option (Nat × Nat) :=
  if s.cmd.anaState = 1 then none
  else if s.cmd.anaState = 0xF then some St.anaTransition
  else if s.cmd.anaState = 3 then some St.anaInaccessible
  else some St.anaLoss

/-! ### Namespaces, markers, the Lost Extent log -/

/-- A namespace. -/
def State.nsOf (s : State) (nsid : Nat) : Option Ns := tget s.cmd.nss nsid

/-- Is a namespace attached to a controller: does it belong to the controller's tenant (R256)? -/
def State.attached (s : State) (ctrl nsid : Nat) : Option Ns :=
  match s.ctrlOf ctrl, s.nsOf nsid with
  | some c, some n => if !c.mgmt && c.tenant = n.tenant then some n else none
  | _, _ => none

/-- Set a deferred marker (R279, R280, R281): losses of one pair fold into one; when 8,192 are held no new one is set. -/
def State.setMarker (s : State) (host nsid index : Nat) : State :=
  let others := s.cmd.markers.filter fun m => !(m.1 == host && m.2.1 == nsid)
  if others.length < 8192 then
    let s : State := { s with cmd := { s.cmd with markers := others ++ [(host, nsid, index)] } }
    let s := (s.wr Reg.CMD_DEFER_MARKERS 0 0 (others.length + 1))
    (s.raise Ev.deferredErrorSet Sev.error 0 0 nsid index).mdWrite (.record (.marker host nsid index))
  else (s.wr Reg.CMD_DEFER_OVERFLOW 0 0 1).raise Ev.deferredOverflow Sev.error 0 0 nsid index

/-- Append to the Lost Extent log (R279, R282): a ring of 65,536 entries. -/
def State.logLost (s : State) (nsid lba count cause : Nat) : State :=
  let i := s.cmd.lostTotal
  let e : LostEnt := { index := i, nsid := nsid, lba := lba, count := count, cause := cause, turn := s.now }
  let l := s.cmd.lost ++ [e]
  let s : State := { s with cmd := { s.cmd with lost := l.drop (l.length - 65536), lostTotal := i + 1 } }
  (s.wr Reg.CMD_DEFER_LOG_NEXT 0 0 ((i + 1) % 65536)).mdWrite (.record (.lost i nsid lba count cause s.now))

/-- The hosts with a controller attached to a namespace (R279). -/
def State.hostsOf (s : State) (nsid : Nat) : List Nat :=
  match s.nsOf nsid with
  | some n => ((s.cmd.ctrls.filter fun p => !p.2.mgmt && p.2.tenant == n.tenant).map fun p => p.2.host).eraseDups
  | none => []

/-- Record the loss of an LBA range (R279): the log entry, then a marker for each host affected. -/
def State.lose (s : State) (hosts : List Nat) (nsid lba count cause : Nat) : State :=
  let i := s.cmd.lostTotal
  let s := s.logLost nsid lba count cause
  hosts.foldl (fun s h => s.setMarker h nsid i) s

/-- Take the marker that a command of a host on a namespace meets (R280, R478): its own, else the one of every namespace; the log
index, and the state with that marker clear. -/
def State.takeMarker (s : State) (host nsid : Nat) : Option (Nat × State) :=
  let own := s.cmd.markers.find? fun m => m.1 == host && m.2.1 == nsid
  let hit := match own with
    | some m => some m
    | none => s.cmd.markers.find? fun m => m.1 == host && m.2.1 == 0xFFFFFFFF
  match hit with
  | some h =>
    let left := s.cmd.markers.filter fun m => !(m.1 == host && m.2.1 == h.2.1)
    some (h.2.2, ({ s with cmd := { s.cmd with markers := left } } : State).wr Reg.CMD_DEFER_MARKERS 0 0 left.length)
  | none => none

/-! ### Zones -/

/-- LBAs of a zone: size and capacity (R260). -/
abbrev zoneLbas : Nat := 262144

/-- The key of a zone. -/
def zoneKey (nsid z : Nat) : Nat := nsid * 2 ^ 32 + z

/-- A zone; one that the table does not list is Empty. -/
def State.zone (s : State) (nsid z : Nat) : Zone := tgetD s.cmd.zones (zoneKey nsid z) { st := .empty, wp := 0, acked := 0 }

/-- Replace a zone; an Empty one is not listed. -/
def State.setZone (s : State) (nsid z : Nat) (x : Zone) : State :=
  { s with cmd := { s.cmd with zones := if x.st = .empty then tdel s.cmd.zones (zoneKey nsid z) else tset s.cmd.zones (zoneKey nsid z) x } }

/-- The zones of a namespace that are not Empty, as zone number and zone. -/
def State.zonesOf (s : State) (nsid : Nat) : List (Nat × Zone) :=
  (s.cmd.zones.filter fun p => p.1 / 2 ^ 32 == nsid).map fun p => (p.1 % 2 ^ 32, p.2)

/-- Is a zone open? -/
def Zone.isOpen (x : Zone) : Bool := x.st == .implicitOpen || x.st == .explicitOpen

/-! ### The command table -/

/-- A command of the table. -/
def State.entry (s : State) (seq : Nat) : Option CmdEnt := tget s.cmd.entries seq

/-- Replace a command of the table. -/
def State.setEntry (s : State) (seq : Nat) (e : CmdEnt) : State := { s with cmd := { s.cmd with entries := tset s.cmd.entries seq e } }

/-- Change a command of the table if it is there. -/
def State.modEntry (s : State) (seq : Nat) (f : CmdEnt → CmdEnt) : State :=
  { s with cmd := { s.cmd with entries := tmod s.cmd.entries seq f } }

/-- Is a kind of command write-class (R265)? -/
def CmdKind.writeClass : CmdKind → Bool
  | .write | .zoneAppend | .writeZeroes | .deallocate | .zoneReset | .zoneFinish | .tallyWrite => true
  | .read | .flush | .zoneClose | .zoneOpen | .reseal => false

/-- The first LBA that a write-class command acts on: the assigned one for an append (R271). -/
def CmdEnt.firstLba (e : CmdEnt) : Nat := if e.kind == .zoneAppend then e.resultLba else e.io.slba

/-- The counter of a kind's completions (R633). -/
def CmdKind.counter : CmdKind → Option Nat
  | .read => some 96
  | .write | .tallyWrite => some 97
  | .zoneAppend => some 98
  | .flush => some 99
  | .writeZeroes => some 100
  | .deallocate => some 101
  | .zoneClose | .zoneFinish | .zoneOpen | .zoneReset => some 102
  | .reseal => none

/-- Report the table's size and the locks in CMD_STATUS, and raise the peak of the locks. -/
def State.cmdStatus (s : State) : State :=
  let n := s.cmd.locks.length
  let s := (s.wr Reg.CMD_STATUS_CMDS 0 0 s.cmd.entries.length).wr Reg.CMD_STATUS_LOCKS 0 0 (n % 4096)
  let s := (s.wr Reg.CMD_STATUS_LOCK_FULL 0 0 (b2n (n == 4096))).wr Reg.CMD_INFLIGHT 0 0 s.cmd.inflight
  s.wr Reg.CMD_LOCK_PEAK 0 0 (max n (s.rd Reg.CMD_LOCK_PEAK))

/-- The owner index that marks a window block whose command is not admitted yet: no extent has this number. -/
abbrev unplacedExtent : Nat := 2 ^ 64

/-- Let go of the blocks of a command that ends: a window block that was never handed on is the window's again, unless newer writes
have begun it anew; everything else is dropped with its chain and buffer (R216, R218). -/
def State.releaseBlocks (s : State) (seq : Nat) : State :=
  let mine := fun (b : Blk) => match b.owner with
    | some o => o.seq == seq
    | none => false
  let back := fun (b : Blk) => match b.owner with
    | some o => o.extent == unplacedExtent && b.window.isSome && !(s.win.blocks.any fun p => p.2.window == b.window && p.2.owner.isNone)
    | none => false
  let blocks := (s.win.blocks.filter fun p => !mine p.2 || back p.2).map fun p => if mine p.2 then (p.1, { p.2 with owner := none }) else p
  let gone := s.win.blocks.filter fun p => mine p.2 && !back p.2
  (({ s with win := { s.win with blocks := blocks } } : State).decrefs (gone.filterMap fun p => p.2.chain)).decrefs (gone.filterMap fun p => p.2.buf)

/-- Remove a command from the table with its lock entries and its share of the in-flight cap (R265, R267), and let go of the
blocks that it owns. -/
def State.dropEntry (s : State) (seq : Nat) : State :=
  match s.entry seq with
  | none => s
  | some e =>
    let s : State := { s with cmd := { s.cmd with
      entries := tdel s.cmd.entries seq
      locks := s.cmd.locks.filter fun l => l.seq != seq
      inflight := if e.admitted && e.kind.writeClass then s.cmd.inflight - e.length else s.cmd.inflight } }
    (s.releaseBlocks seq).cmdStatus

/-- Post the completion of an I/O command and release it (R267): counted by its kind, or discarded (R275, R288). -/
def State.finishOne (s : State) (seq : Nat) (st : Nat × Nat) (dw0 dw1 : Nat) : State :=
  match s.entry seq with
  | none => s
  | some e =>
    let s := s.dropEntry seq
    if e.discard || e.kind == .reseal then s
    else
      let s := s.complete e.io.ctrl e.io.cid st dw0 dw1
      let s := match e.kind.counter with
        | some c => s.count c 1 e.io.nsid
        | none => s
      if st == St.anaTransition then s.count 110 1 e.io.nsid
      else if st == St.deferredWrite then s.count 108 1 e.io.nsid
      else s

/-- Does a Flush still wait (R273): is it held (R102), or is a write-class command on its namespaces, admitted or held before it, in the table? -/
def State.flushWaits (s : State) (seq : Nat) (f : CmdEnt) : Bool :=
  !f.admitted || s.cmd.entries.any fun p =>
    decide (p.1 < seq) && p.2.kind.writeClass &&
      (p.2.io.nsid == f.io.nsid || f.io.nsid == 0xFFFFFFFF && (s.attached f.io.ctrl p.2.io.nsid).isSome)

/-- Complete every Flush that waits for nothing (R273). -/
def State.settleFlushes (s : State) : State :=
  s.cmd.entries.foldl (init := s) fun s p =>
    if p.2.kind == .flush && !s.flushWaits p.1 p.2 then s.finishOne p.1 St.ok 0 0 else s

/-- End a command, then the Flushes that waited for it. -/
def State.finish (s : State) (seq : Nat) (st : Nat × Nat) (dw0 dw1 : Nat) : State :=
  (s.finishOne seq st dw0 dw1).settleFlushes

/-! ### Reset and loss of a queue (R274 to R276) -/

/-- Abandon the decodes of a read; its read jobs, which serve no command any more, end at the next boundary. -/
def State.abandonReads (s : State) (seq : Nat) : State :=
  { s with cmp := { s.cmp with jobs := s.cmp.jobs.filter fun p => p.2.seq != seq || seq == 0 } }

/-- Steps 2 to 4 of R275 for one command: not admitted, completed with SQ Deletion where the connection still carries completions;
an admitted read abandoned; an admitted write-class command runs on and its completion is discarded. -/
def State.resetEntry (s : State) (carries : Bool) (seq : Nat) : State :=
  match s.entry seq with
  | none => s
  | some e =>
    if !e.admitted then
      if carries then s.finishOne seq St.sqDeletion 0 0 else (s.modEntry seq fun e => { e with discard := true }).finishOne seq St.ok 0 0
    else if e.kind.writeClass then s.modEntry seq fun e => { e with discard := true }
    else ((s.modEntry seq fun e => { e with discard := true }).finishOne seq St.ok 0 0).abandonReads seq

/-- Steps 1 to 4 of R275 for the commands of a controller, or of one of its queues (R276). -/
def State.resetQueues (s : State) (ctrl : Nat) (qp : Option Nat) (carries : Bool) : State :=
  let hit := s.cmd.entries.filter fun p => p.2.io.ctrl == ctrl && (match qp with | none => true | some q => p.2.io.qp == q)
  (hit.foldl (fun s p => s.resetEntry carries p.1) s).settleFlushes

/-- End the running self-test with a result code (R286, R284). -/
def State.endSelfTest (s : State) (result segment : Nat) : State :=
  match s.cmd.selfTest with
  | none => s
  | some t =>
    let s : State := { s with cmd := { s.cmd with selfTest := none, stResults := ((result, segment) :: s.cmd.stResults).take 20 } }
    let s := (((s.wr Reg.CMD_ST_KIND 0 0 0).wr Reg.CMD_ST_PERCENT 0 0 0).wr Reg.CMD_ST_RESULT 0 0 result).wr Reg.CMD_ST_NSID 0 0 0
    s.raise Ev.selfTestComplete Sev.notice t.nsid result t.kind segment

/-- Controllers in existence and authenticated sessions, as CMD_CTRLS counts them. -/
def State.ctrlStatus (s : State) : State :=
  let n := (s.cmd.ctrls.filter fun p => !p.2.mgmt).length
  let m := (s.cmd.ctrls.filter fun p => p.2.mgmt && p.2.roles.isSome).length
  (s.wr Reg.CMD_CTRLS_CTRLS 0 0 n).wr Reg.CMD_CTRLS_SESSIONS 0 0 m

/-- A controller reset (R275, R286): its queues stop, CSTS.RDY clears, and a short self-test that it started is aborted. -/
def State.resetController (s : State) (ctrl : Nat) (carries : Bool) : State :=
  let s := s.resetQueues ctrl none carries
  let s := s.modCtrl ctrl fun c => { c with ready := false, enabled := false, aers := [] }
  match s.cmd.selfTest with
  | some t => if t.ctrl == ctrl && t.kind == 1 then s.endSelfTest 2 0 else s
  | none => s

/-- Remove a controller or session with its state (its admin connection is gone). -/
def State.removeController (s : State) (ctrl : Nat) : State :=
  let s : State := { s with cmd := { s.cmd with ctrls := tdel s.cmd.ctrls ctrl }, evt := { s.evt with queues := tdel s.evt.queues ctrl } }
  s.ctrlStatus

/-- The controller and queue that a queue pair carries. -/
def State.queueOf (s : State) (qp : Nat) : Option (Nat × Nat) :=
  s.cmd.ctrls.findSome? fun p => (p.2.queues.find? fun q => q.2 == qp).map fun q => (p.1, q.1)

/-- A queue's QP enters ERR or disconnects (R275, R276): the admin queue resets and removes its controller, an I/O queue is lost
alone. -/
def State.loseQueue (s : State) (qp : Nat) : State :=
  match s.queueOf qp with
  | none => s
  | some (ctrl, qid) =>
    if qid = 0 then (s.resetController ctrl false).removeController ctrl
    else (s.resetQueues ctrl (some qp) false).modCtrl ctrl fun c => { c with queues := c.queues.filter fun q => q.2 != qp }

end Sys2Proof.Machine
end

