-- ==== Sys2Proof/Machine/MemberOps.lean ====
section
/-!
DEFINITION. Machine/MemberOps.lean: the shared operations over slots, positions, anchor roles and power sets: group geometry
(R402 to R408, R429), slot demand and channels (R539, R550, R552), the drive port's view of a slot and the escalation ladder
(R514, R529 to R532), positions (R484 to R493) and power sets (R432 to R436).
-/

namespace Sys2Proof.Machine

/-! ### Accessors -/

/-- A group. -/
def State.grp (s : State) (g : Nat) : Grp := s.lay.groups.getD g Grp.none

/-- Change a group. -/
def State.modGrp (s : State) (g : Nat) (f : Grp → Grp) : State := { s with lay := { s.lay with groups := lmod s.lay.groups g f } }

/-- A power set. -/
def State.pset (s : State) (n : Nat) : PSet := s.lay.sets.getD n PSet.none

/-- Change a power set. -/
def State.modSet (s : State) (n : Nat) (f : PSet → PSet) : State := { s with lay := { s.lay with sets := lmod s.lay.sets n f } }

/-- An anchor role. -/
def State.role (s : State) (a : Nat) : Role := s.jnl.roles.getD a Role.none

/-- Change an anchor role. -/
def State.modRole (s : State) (a : Nat) (f : Role → Role) : State := { s with jnl := { s.jnl with roles := lmod s.jnl.roles a f } }

/-- A drive slot. -/
def State.slot (s : State) (i : Nat) : Slot := s.drv.getD i Slot.none

/-- Change a drive slot. -/
def State.modSlot (s : State) (i : Nat) (f : Slot → Slot) : State := { s with drv := lmod s.drv i f }

/-- A slot channel. -/
def State.chan (s : State) (i : Nat) : Chan := s.pwr.slots.getD i Chan.none

/-- Change a slot channel. -/
def State.modChan (s : State) (i : Nat) (f : Chan → Chan) : State := { s with pwr := { s.pwr with slots := lmod s.pwr.slots i f } }

/-- A feed channel. -/
def State.feed (s : State) (i : Nat) : Feed := s.pwr.feeds.getD i Feed.none

/-- Change a feed channel. -/
def State.modFeed (s : State) (i : Nat) (f : Feed → Feed) : State := { s with pwr := { s.pwr with feeds := lmod s.pwr.feeds i f } }

/-- The key of a position. -/
def posKey (g p : Nat) : Nat := 32 * g + p

/-- A position that no group has. -/
def Pos.none : Pos :=
  { st := .online, slot := 31, serial := 0, gen := 0, absentAt := Option.none, dirty := [], pending := [], undecided := [] }

/-- A position of a group. -/
def State.pos (s : State) (g p : Nat) : Pos := tgetD s.axl.poses (posKey g p) Pos.none

/-- Change a position. -/
def State.modPos (s : State) (g p : Nat) (f : Pos → Pos) : State :=
  { s with axl := { s.axl with poses := tmod s.axl.poses (posKey g p) f } }

/-- Is the canister ACTIVE or ACTIVATING? -/
def State.serving (s : State) : Bool := s.cfg.state == .active || s.cfg.state == .activating

/-- The running image's section of a type. -/
def State.section? (s : State) (type : Nat) : Option SecValue :=
  match s.cfg.running with
  | some i => (i.sections.find? fun x => x.type == type).map (·.value)
  | none => none

/-- The LAYOUT section of the running image. -/
def State.layoutSec (s : State) : Option SecLayout :=
  match s.section? 0x0B with
  | some (.layout l) => some l
  | _ => none

/-- The slot of STANDBY_ANCHOR, if there is one (R452). -/
def State.standbyAnchor (s : State) : Option Nat :=
  let v := s.rd Reg.JNL_CFG_STANDBY_ANCHOR
  if v < 24 then some v else none

/-! ### Groups -/

/-- The width of a group in units (R402). -/
def Grp.width (g : Grp) : Nat := g.k + 2

/-- The row that a group log address lies in (R408). -/
def Grp.rowOf (g : Grp) (addr : Nat) : Nat := if g.k = 0 then 0 else addr / 65536 / g.k

/-- The row that the head stands in, the next one when it stands inside a row. -/
def Grp.headUp (g : Grp) : Nat := if g.k = 0 then 0 else ceilDiv g.head (65536 * g.k)

/-- Does a row hold the new layout of a reshape whose moves have begun (R506)? -/
def Reshape.isNew (r : Reshape) (row : Nat) : Bool := decide (r.oldK < r.newK) == decide (row < r.boundary)

/-- The reshape of a group whose moves have begun. -/
def State.moving (s : State) (g : Nat) : Option Reshape := s.axl.reshape.filter fun r => r.group == g && r.st != .preparing

/-- The width in data units of a row (R408, R506). -/
def State.rowK (s : State) (g row : Nat) : Nat :=
  match s.moving g with
  | some r => if r.isNew row then r.newK else r.oldK
  | none => (s.grp g).k

/-- Where data unit U of a group lies: row, width of that row, and data unit in it (R408, R506). -/
def State.unitRow (s : State) (g u : Nat) : Nat × Nat × Nat :=
  match s.moving g with
  | some r => if r.isNew (u / r.newK) then (u / r.newK, r.newK, u % r.newK) else (u / r.oldK, r.oldK, u % r.oldK)
  | none => let k := (s.grp g).k; (u / k, k, u % k)

/-- Where a group's log addresses end (R406, R429, R504); 0 while its rows are not known. -/
def State.ringEnd (s : State) (g : Nat) : Nat :=
  let x := s.grp g
  match s.axl.reshape with
  | some r => x.rows * (if r.group = g && r.st == .preparing then r.newK else x.k) * 65536
  | none => x.rows * x.k * 65536

/-- A head address, back at the start of the ring once it has reached the end (R429, R504). -/
def State.wrapHead (s : State) (g a : Nat) : Nat := if s.ringEnd g != 0 && decide (s.ringEnd g ≤ a) then 0 else a

/-- Is a segment in use: LIVE or READERS not zero (R429)? -/
def Seg.used (x : Seg) : Bool := x.live != 0 || x.readers != 0

/-- The tail segment (R429): the oldest segment in use, in ring order from the head on. -/
def Grp.tailSeg (g : Grp) : Nat :=
  let h := g.rowOf g.head / 256
  let used := (g.segs.filter fun p => p.2.used).map (·.1)
  (used.find? fun i => decide (h < i)).getD (used.headD h)

/-- Free rows (R429): the rows from the head to the tail. -/
def Grp.freeRows (g : Grp) : Nat :=
  if g.rows = 0 then 0
  else
    let t := g.tailSeg * 256 % g.rows
    let h := g.headUp % g.rows
    g.rows - (h + g.rows - t) % g.rows

/-- Add to the LIVE bytes of the segment of a row (R429). -/
def Grp.addLive (g : Grp) (row n : Nat) : Grp :=
  let i := row / 256
  let x := tgetD g.segs i { live := 0, readers := 0 }
  { g with segs := tset g.segs i { x with live := x.live + n } }

/-- Take from the LIVE bytes of the segment of a row; an entry of zeros is not listed. -/
def Grp.subLive (g : Grp) (row n : Nat) : Grp :=
  let i := row / 256
  let x := tgetD g.segs i { live := 0, readers := 0 }
  let y := { x with live := x.live - n }
  { g with segs := if y.used then tset g.segs i y else tdel g.segs i }

/-- Change READERS of the segment of a row (R269, R429). -/
def Grp.addReaders (g : Grp) (row : Nat) (more : Bool) : Grp :=
  let i := row / 256
  let x := tgetD g.segs i { live := 0, readers := 0 }
  let y := { x with readers := if more then x.readers + 1 else x.readers - 1 }
  { g with segs := if y.used then tset g.segs i y else tdel g.segs i }

/-- The position of P in a stripe of width w (R407). -/
def posP (w r : Nat) : Nat := w - 1 - r % w

/-- The position of Q. -/
def posQ (w r : Nat) : Nat := (w - r % w) % w

/-- The position of data unit d. -/
def posD (w r d : Nat) : Nat := (posQ w r + 1 + d) % w

/-- Positions of a group that are not ONLINE (R485). -/
def State.failedCount (s : State) (g : Nat) : Nat :=
  ((List.range (s.grp g).width).filter fun p => (s.pos g p).st != .online).length

/-- Does a member take commands: is its slot READY, or on ladder step 1 (R531)? -/
def State.slotUsable (s : State) (i : Nat) : Bool := (s.slot i).st == .ready || (s.slot i).st == .ladder && (s.slot i).step ≤ 1

/-- Is the member of a position ready (R433)? -/
def State.memberReady (s : State) (g p : Nat) : Bool :=
  let q := s.pos g p
  q.st != .absent && q.st != .failed && s.slotUsable q.slot

/-- Ready members of a group. -/
def State.readyCount (s : State) (g : Nat) : Nat := ((List.range (s.grp g).width).filter fun p => s.memberReady g p).length

/-- Members that a group needs ready: k, or 10 for a tally group (R433). -/
def Grp.needed (g : Grp) : Nat := if g.tally then 10 else g.k

/-- Is a row pending for a position (R494)? -/
def Pos.rowPending (q : Pos) (row : Nat) : Bool := q.pending.any fun r => decide (r.1 ≤ row) && decide (row < r.1 + r.2)

/-- Remove a row from runs of rows. -/
def runsRemove : List (Nat × Nat) → Nat → List (Nat × Nat)
  | [], _ => []
  | (f, c) :: t, row =>
    if f ≤ row ∧ row < f + c then
      (if f < row then [(f, row - f)] else []) ++ (if row + 1 < f + c then [(row + 1, f + c - row - 1)] else []) ++ t
    else (f, c) :: runsRemove t row

/-- Rows in runs. -/
def runsCount (l : List (Nat × Nat)) : Nat := (l.map (·.2)).sum

/-- Is the unit of a position erased in a row (R486)? -/
def State.unitErased (s : State) (g p row : Nat) : Bool :=
  let q := s.pos g p
  match q.st with
  | .absent | .failed => true
  | .rebuilding | .resyncing => q.rowPending row || !s.slotUsable q.slot
  | .online => !s.slotUsable q.slot

/-- Is a stripe write issued to a position (R424, R484, R531)? -/
def State.unitWritten (s : State) (g p : Nat) : Bool :=
  let q := s.pos g p
  q.st != .absent && q.st != .failed && s.slotUsable q.slot

/-- Positions of a group that count as failed for appends: those not ONLINE (R485), and members on ladder steps 2 and 3 (R531). -/
def State.failedForAppend (s : State) (g : Nat) : Nat :=
  ((List.range (s.grp g).width).filter fun p => (s.pos g p).st != .online || ((s.slot (s.pos g p).slot).st == .ladder && decide (2 ≤ (s.slot (s.pos g p).slot).step))).length

/-- Does a group append (R419)? -/
def State.appending (s : State) (g : Nat) : Bool :=
  let x := s.grp g
  x.declared && !x.tally && x.append && (s.pset x.set).st == .on && decide (s.failedForAppend g < 2) &&
    decide (x.rows * s.rd Reg.LAY_CFG_RESERVE_PCT / 100 < x.freeRows) &&
    (match s.axl.reshape with
     | some r => r.group != g || r.st == .preparing
     | none => true)

/-- The groups of a set. -/
def State.setGroups (s : State) (n : Nat) : List Nat :=
  (List.range 10).filter fun g => (s.grp g).declared && (s.grp g).set == n

/-- The slots of a set: its groups' members and the image's spares of that set (R433). -/
def State.setSlots (s : State) (n : Nat) : List Nat :=
  let members := (s.setGroups n).flatMap fun g => (s.grp g).members
  let taken := (List.range 10).flatMap fun g => (s.grp g).members
  let spares := match s.layoutSec with
    | some l => (l.members.filter fun m => m.powerSet == n && !taken.contains m.slot).map (·.slot)
    | none => []
  (members ++ spares).eraseDups

/-- The slots that the anchor roles hold, with STANDBY_ANCHOR (R432, R453). -/
def State.anchorSlots (s : State) : List Nat :=
  ((s.jnl.roles.filter fun r => r.st != .none).map (·.slot)) ++ s.standbyAnchor.toList

/-! ### Slot channels and demand -/

/-- Drive-port states in the order of their codes (R514). -/
def DrvState.ofCode : Nat → DrvState
  | 0 => .empty
  | 1 => .powering
  | 2 => .training
  | 3 => .setup
  | 4 => .ready
  | 5 => .refused
  | 6 => .ladder
  | _ => .off

/-- Ask for a drive-port state at the next boundary (R514). -/
def State.drvTo (s : State) (i st arg : Nat) : State := s.defer (.drvTo i st arg)

/-- Is the peer link up (R153)? -/
def State.peerLink (s : State) : Bool := (s.eth.getD 16 Link.off).st == .up || (s.eth.getD 17 Link.off).st == .up

/-- Start or stop the check of a slot's channel for damage (R555): both demands clear, no stop running, and the peer link up. -/
def State.armClear (s : State) (i : Nat) : State :=
  s.modChan i fun c =>
    if !c.demand && !c.peerDemand && c.st != .stopping && s.peerLink then (if c.clearArmed.isSome then c else { c with clearArmed := some s.clock })
    else { c with clearArmed := none }

/-- A slot channel enters IDLE (R539, R567). -/
def State.chanIdle (s : State) (i : Nat) : State :=
  if (s.chan i).st == .idle then s else (s.modChan i fun c => { c with st := .idle }).raise Ev.slotPower Sev.notice i 2 0 0

/-- The gate of a slot channel goes off: power-good drops and DRV_PERST_N follows it (R546). -/
def State.gateOff (s : State) (i : Nat) (st : ChanState) : State :=
  let s := if st == .idle then s.chanIdle i else s.modChan i fun c => { c with st := st }
  let s := s.modChan i fun c => { c with pg := false, goodArmed := none, brownArmed := none, stopArmed := none, ackArmed := none, smp := { c.smp with faultCount := 0, qualified := 0 } }
  (s.modSlot i fun d => { d with perst := true, perstArmed := none, linkArmed := none, link := 0 }).armClear i

/-- Start an orderly stop of a slot (R552 step 1): CC.SHN on the own port of the drive. -/
def State.startStop (s : State) (i : Nat) : State :=
  (s.modChan i fun c => { c with st := .stopping, stopArmed := some s.clock, ackArmed := none }).emit .drive [i, 1, 0]

/-- Set or clear this canister's demand for a slot (R539, R550, R552, R514). -/
def State.chanDemand (s : State) (i : Nat) (on : Bool) : State :=
  let c := s.chan i
  if c.demand = on then s
  else
    let s := s.modChan i fun c => { c with demand := on }
    let d := s.slot i
    let s := if on then
        let s := match c.st with
          | .idle => s.modChan i fun c => { c with st := .waitInput }
          | .stopping =>
            let s := s.modChan i fun c => { c with st := .on, stopArmed := none, ackArmed := none }
            if d.st == .ready || d.st == .setup then s.drvTo i 3 1 else s
          | _ => s
        if d.st == .off && c.st != .empty && c.st != .inserting then s.drvTo i 1 0 else s
      else
        let s := match c.st with
          | .waitInput => s.chanIdle i
          | .on => s.startStop i
          | _ => s
        if d.st == .powering then s.drvTo i 7 0
        else if d.st == .refused && c.st != .on then s.drvTo i 7 0
        else s
    s.armClear i

/-- Does a power set that is not OFF want a slot (R432 to R436)? -/
def State.setWants (s : State) (i : Nat) : Bool :=
  (List.range 8).any fun n => (s.pset n).st != .off && !((s.pset n).st == .stopping && decide (4 ≤ (s.pset n).step)) && (s.setSlots n).contains i

/-- The slots that this canister demands in its device state (R550). -/
def State.wanted (s : State) (i : Nat) : Bool :=
  match s.cfg.state with
  | .boot | .safeHold | .shelfIdle => false
  | .recovery | .active | .activating => s.anchorSlots.contains i || s.setWants i
  | .standby => s.anchorSlots.contains i || (s.chan i).peerDemand || (s.fov.takeover.isSome && s.setWants i)

/-- The demand map that a canister sends: a slot that stops leaves it at step 2 of its stop (R550, R552). -/
def State.demandMap (s : State) : Nat :=
  foldIdx 24 (fun i a => if (s.chan i).demand || ((s.chan i).st == .stopping && (s.chan i).ackArmed.isNone) then a + 2 ^ i else a) 0

/-- Send the slot-demand map to the peer (R550, R579 type 0x07), which demands what it shows from then on. -/
def State.sendDemand (s : State) : State :=
  let m := s.demandMap
  let s := foldIdx 24 (fun i s => if s.peerLink && bitOf m i && !(s.chan i).peerDemand then (s.modChan i fun c => { c with peerDemand := true }).armClear i else s) s
  ({ s with fov := { s.fov with demandSent := m, demandTurn := s.clock } } : State).emit .peer [Peer.slotDemand, 0, m]

/-- Bring the demand of every slot into line with the device state and the sets (R550); the active canister tells its peer. -/
def State.updateDemand (s : State) : State :=
  let s := foldIdx 24 (fun i s =>
    if s.slotOn i && (s.chan i).cycleArmed.isNone then s.chanDemand i (s.wanted i) else s) s
  if s.serving && s.demandMap != s.fov.demandSent then s.sendDemand else s

/-- A power cycle starts (R530 step 3, R568): the demand is withdrawn for 488,282 Turns, and the gate goes off at once. -/
def State.beginCycle (s : State) (i : Nat) : State :=
  let s := match (s.chan i).st with
    | .starting | .on | .stopping => s.gateOff i .idle
    | .waitInput => s.chanIdle i
    | .empty | .inserting | .idle | .fault => s
  let s := s.modChan i fun c => { c with demand := false, cycleArmed := some s.clock }
  if s.serving then s.sendDemand else s

/-! ### Row commands -/

/-- Count bytes that a member is sent or returns (DRV_SLOT_BYTES_W, DRV_SLOT_BYTES_R). -/
def State.driveBytes (s : State) (slot : Nat) (write : Bool) (n : Nat) : State :=
  if 24 ≤ slot then s
  else if write then (s.bumpWrap Reg.DRV_SLOT_BYTES_W slot 0 n).count (272 + 2 * slot) n slot
  else (s.bumpWrap Reg.DRV_SLOT_BYTES_R slot 0 n).count (273 + 2 * slot) n slot

/-- Bytes of a unit of a group (R406, R447). -/
def Grp.unitBytes (g : Grp) : Nat := if g.tally then 66560 else 65536

/-- Write the unit of a position of a row with FUA (R518). -/
def State.writeUnit (s : State) (g p row : Nat) : State :=
  let slot := (s.pos g p).slot
  (s.driveBytes slot true (s.grp g).unitBytes).emit .drive [slot, 10, row]

/-- Read the unit of a position of a row. -/
def State.readUnit (s : State) (g p row : Nat) : State :=
  let slot := (s.pos g p).slot
  (s.driveBytes slot false (s.grp g).unitBytes).emit .drive [slot, 11, row]

/-! ### Positions and anchor roles -/

/-- The position whose member a slot holds. -/
def State.posOfSlot (s : State) (i : Nat) : Option (Nat × Nat) :=
  (s.axl.poses.find? fun p => p.2.slot == i).map fun p => (p.1 / 32, p.1 % 32)

/-- The anchor role that a slot holds. -/
def State.roleOfSlot (s : State) (i : Nat) : Option Nat :=
  (List.range 3).find? fun a => (s.role a).st != .none && (s.role a).slot == i

/-- Codes of the position states (R484). -/
def PosState.code : PosState → Nat
  | .online => 0
  | .absent => 1
  | .resyncing => 2
  | .failed => 3
  | .rebuilding => 4

/-- The position state of a code. -/
def PosState.ofCode : Nat → PosState
  | 0 => .online
  | 1 => .absent
  | 2 => .resyncing
  | 3 => .failed
  | _ => .rebuilding

/-- Ask for a position state at the next boundary (R484). -/
def State.posTo (s : State) (g p : Nat) (st : PosState) : State := s.defer (.posTo g p st.code)

/-- The anchor role of a slot, if it is ACTIVE or SEEDING, leaves for FAILED at the next boundary (R451). -/
def State.anchorLeaves (s : State) (i : Nat) : State :=
  match s.roleOfSlot i with
  | some a => if (s.role a).st == .active || (s.role a).st == .seeding then s.defer (.roleFailed a) else s
  | none => s

/-- Rows that a resync has to do: those of every marked segment (R492). -/
def Grp.dirtyRows (g : Grp) (dirty : List Nat) : List (Nat × Nat) :=
  dirty.map fun x => (256 * x, min 256 (g.rows - 256 * x))

/-- The pending rows of a rebuild (R493): from the tail segment to the head row, less unused segments; every row of a tally
group. -/
def Grp.rebuildRows (g : Grp) : List (Nat × Nat) :=
  if g.tally then [(0, g.rows)]
  else
    let used := g.segs.filter fun p => p.2.used
    let t := g.tailSeg
    let order := (used.filter fun p => decide (t ≤ p.1)) ++ (used.filter fun p => decide (p.1 < t))
    let head := g.rowOf g.head
    let runs := order.map fun p => (256 * p.1, min 256 (g.rows - 256 * p.1))
    runs.filterMap fun r =>
      if r.1 / 256 = head / 256 then (if r.1 < head then some (r.1, head - r.1) else Option.none) else some r

/-- The lowest number of a list. -/
def lowest : List Nat → Option Nat
  | [] => none
  | a :: b => some (b.foldl min a)

/-- The next pending row of a position from a row on, in ring order (R494). -/
def Pos.nextPending (q : Pos) (row : Nat) : Option Nat :=
  match lowest (q.pending.filterMap fun r => if row < r.1 + r.2 then some (max r.1 row) else Option.none) with
  | some r => some r
  | Option.none => lowest (q.pending.map (·.1))

/-- Has a position a target that is written (R484)? -/
def Pos.hasTarget (q : Pos) : Bool := q.st == .resyncing || q.st == .rebuilding

/-- The next row of a group's walk from a row on: of the rows pending for positions with a target, the first in ring order. -/
def State.nextWalkRow (s : State) (g row : Nat) : Option Nat :=
  let l := (List.range (s.grp g).width).filterMap fun p => if (s.pos g p).hasTarget then (s.pos g p).nextPending row else none
  let ahead := l.filter fun r => decide (row ≤ r)
  lowest (if ahead = [] then l else ahead)

/-- Start the walk of a group if a position has pending rows and none runs (R494). -/
def State.startWalk (s : State) (g : Nat) : State :=
  let pend := ((List.range (s.grp g).width).map fun p => runsCount (s.pos g p).pending).foldl max 0
  if pend = 0 || thas s.axl.walks g then s
  else
    let first := (s.nextWalkRow g ((s.grp g).tailSeg * 256)).getD 0
    let w : Walk := { row := first, done := 0, startTurn := s.clock, lostCols := 0, issued := false, paused := false }
    let s : State := { s with axl := { s.axl with walks := tset s.axl.walks g w } }
    (s.wr Reg.AXL_GRP_PENDING g 0 pend).wr Reg.AXL_GRP_DONE g 0 0

/-- Pause or resume the reshape of a group as its positions leave or return to ONLINE (R508). -/
def State.reshapeGate (s : State) (g : Nat) : State :=
  match s.axl.reshape with
  | some r =>
    if r.group != g || r.st == .preparing then s
    else if decide (0 < s.failedCount g) && r.st == .moving then
      ({ s with axl := { s.axl with reshape := some { r with st := .paused } } } : State).raise Ev.reshapeState Sev.notice g 3 r.boundary 0
    else if s.failedCount g = 0 && r.st == .paused then
      ({ s with axl := { s.axl with reshape := some { r with st := .moving, batch := r.boundary } } } : State).raise Ev.reshapeState Sev.notice g 2 r.boundary 0
    else s
  | none => s

/-- A position enters a state at a boundary (R484, R485, R490 to R493, R509). -/
def State.applyPos (s : State) (g p : Nat) (st : PosState) : State :=
  let q := s.pos g p
  if q.st = st || !thas s.axl.poses (posKey g p) then s
  else
    let grp := s.grp g
    let q' := match st with
      | .failed => { q with st := st, gen := q.gen + 1, absentAt := none, dirty := [], pending := [], undecided := [] }
      | .absent => { q with st := st, absentAt := some (s.now, s.trn.aligned), dirty := [grp.rowOf grp.head / 256], pending := [], undecided := [] }
      | .resyncing => { q with st := st, absentAt := none, pending := grp.dirtyRows q.dirty, undecided := [] }
      | .rebuilding => { q with st := st, absentAt := none, dirty := [], pending := grp.rebuildRows, undecided := [] }
      | .online => { q with st := st, absentAt := none, dirty := [], pending := [], undecided := [] }
    let s := s.modPos g p fun _ => q'
    let s := s.raise Ev.positionState (if st = .failed then Sev.error else Sev.notice) g st.code p q.slot
    let s := if s.serving then s.mdWrite (.record (.position g p st.code q'.gen q'.slot q'.serial)) else s
    let s := if st = .failed || st = .absent then s.anchorLeaves q.slot else s
    (s.startWalk g).reshapeGate g

/-! ### The drive port's view and the ladder -/

/-- Refusal reasons of DRV_SLOT_STATE.REASON. -/
abbrev Refuse.noLink : Nat := 1
abbrev Refuse.slowLink : Nat := 2
abbrev Refuse.notReady : Nat := 3
abbrev Refuse.singlePort : Nat := 4
abbrev Refuse.queues : Nat := 5
abbrev Refuse.format : Nat := 6
abbrev Refuse.vwc : Nat := 7
abbrev Refuse.foreign : Nat := 8
abbrev Refuse.failed : Nat := 9
abbrev Refuse.label : Nat := 10

/-- The bound of a ladder step in Turns (R530): CMD_TIMEOUT, min(CAP.TO × 500 ms, READY_TIMEOUT), READY_TIMEOUT. -/
def State.stepBound (s : State) (i step : Nat) : Nat :=
  let cmd := turnsOfMs (500 * s.rd Reg.DRV_CFG_CMD_TIMEOUT)
  let ready := turnsOfSec (2 * s.rd Reg.LAY_CFG_READY_TIMEOUT)
  if step = 1 then cmd else if step = 2 then min (turnsOfMs (500 * (s.slot i).capTo)) ready else ready

/-- A member that the ladder has recovered (R531): the rows that it missed are resynced, or join the rows of its rebuild. -/
def State.resyncLadder (s : State) (i : Nat) : State :=
  match s.posOfSlot i with
  | none => s
  | some (g, p) =>
    let q := s.pos g p
    if q.dirty = [] then s
    else match q.st with
      | .online => s.applyPos g p .resyncing
      | .resyncing => (s.modPos g p fun q => { q with pending := q.pending ++ ((s.grp g).dirtyRows q.dirty).filter fun r => !q.rowPending r.1 }).startWalk g
      | .rebuilding => (s.modPos g p fun q => { q with pending := q.pending ++ ((s.grp g).dirtyRows q.dirty).filter fun r => !q.rowPending r.1, dirty := [] }).startWalk g
      | .absent | .failed => s

/-- A slot takes a drive-port state at a boundary, with what its entry does (R514, R689, R530). -/
def State.applyDrv (s : State) (i st arg : Nat) : State :=
  let d := s.slot i
  let t := DrvState.ofCode st
  let stuck := d.st == .refused && d.reason == Refuse.failed && t != .empty && !(t == .off && s.cfg.state == .shelfIdle)
  if stuck then s
  else match t with
    | .empty => s.modSlot i fun _ => Slot.none
    | .powering =>
      s.modSlot i fun d => { d with st := .powering, reason := 0, step := 0, setup := 0, link := 0, attempts := 0, perst := true, ioQueues := false }
    | .training => s.modSlot i fun d => { d with st := .training, perst := false, linkArmed := if d.linkArmed.isSome then d.linkArmed else some s.clock, retryArmed := none }
    | .setup => s.modSlot i fun d => { d with st := .setup, reason := 0, step := 0, setup := if arg = 0 then 1 else arg, setupArmed := some s.clock, linkArmed := none }
    | .ready =>
      let back := d.st == .ladder
      let s := s.modSlot i fun d => { d with st := .ready, reason := 0, step := 0, stepArmed := none, setup := 0, setupArmed := none }
      if back || (match s.posOfSlot i with
        | some (g, p) => (s.pos g p).st == .online
        | none => false) then s.resyncLadder i else s
    | .refused =>
      let s := s.modSlot i fun d => { d with st := .refused, reason := arg, step := 0, stepArmed := none, setup := 0, setupArmed := none, linkArmed := none, retryArmed := none, ioQueues := false }
      let s := (s.raise Ev.memberRefused Sev.warning i arg 0 0).anchorLeaves i
      if s.cfg.state == .standby && (s.posOfSlot i).isSome then s.raise Ev.standbyPortDown Sev.warning i arg 0 0 else s
    | .ladder =>
      let entering := d.st != .ladder
      let s := s.modSlot i fun d => { d with st := .ladder, step := arg, stepArmed := some s.clock, ioQueues := d.ioQueues && arg == 1, setup := if arg = 1 then 0 else 1, setupArmed := none }
      let s := if entering then s.bump Reg.DRV_SLOT_LADDERS i 0 1 else s
      let s := (s.raise Ev.ladderStep (if arg < 3 then Sev.warning else Sev.error) i arg 0 0).anchorLeaves i
      let s := s.emit .drive [i, 1 + arg, 0]
      if arg = 3 then
        if (s.chan i).st == .on then (s.modChan i fun c => { c with stopArmed := some s.clock }).emit .drive [i, 1, 0] else s.beginCycle i
      else if arg = 4 then
        let s := s.defer (.drvTo i 5 Refuse.failed)
        match s.posOfSlot i with
        | some (g, p) => s.posTo g p .failed
        | none => s
      else s
    | .off => s.modSlot i fun d => { d with st := .off, reason := 0, step := 0, stepArmed := none, setup := 0, setupArmed := none, link := 0, ioQueues := false, perst := true }

/-- A member enters the ladder at a step, or moves to a later one (R529, R532). -/
def State.enterLadder (s : State) (i step : Nat) : State :=
  let d := s.slot i
  if d.st == .ready then
    let recent := d.entries.filter fun t => decide (s.clock < t + 2 ^ 30)
    let s := s.modSlot i fun d => { d with entries := s.clock :: recent }
    s.drvTo i 6 (if 3 ≤ recent.length then 4 else step)
  else if d.st == .ladder && d.step < step then s.drvTo i 6 step
  else s

/-- Codes of drive-port states (R514). -/
def DrvState.code : DrvState → Nat
  | .empty => 0
  | .powering => 1
  | .training => 2
  | .setup => 3
  | .ready => 4
  | .refused => 5
  | .ladder => 6
  | .off => 7

/-! ### Power sets -/

/-- The cause codes of R687. -/
abbrev SetCause.read : Nat := 1
abbrev SetCause.append : Nat := 2
abbrev SetCause.replay : Nat := 3
abbrev SetCause.walk : Nat := 4
abbrev SetCause.selfTest : Nat := 5
abbrev SetCause.management : Nat := 6
abbrev SetCause.idle : Nat := 7
abbrev SetCause.device : Nat := 8
abbrev SetCause.peer : Nat := 9

/-- Request power for a set (R434, R436). -/
def State.requestSet (s : State) (n cause : Nat) : State :=
  let x := s.pset n
  match x.st with
  | .off =>
    (s.modSet n fun x => { x with st := .powering, cause := cause, armed := some s.clock, auto := cause != SetCause.management, stopHeld := false, step := 0, again := false, lastUse := s.clock }).updateDemand
  | .powering | .on => s.modSet n fun x => { x with lastUse := s.clock }
  | .stopping =>
    if cause != SetCause.read then s.modSet n fun x => { x with again := true }
    else if x.step < 4 then s.modSet n fun x => { x with st := .on, step := 0, lastUse := s.clock }
    else s.modSet n fun x => { x with again := true }

/-- Record which sets are ON in the shelf metadata stream (R434, R475, R579). -/
def State.noteSets (s : State) : State :=
  let on := (List.range 8).filter fun n => (s.pset n).st == .on
  if s.serving && s.fov.setStates != on then ({ s with fov := { s.fov with setStates := on } } : State).mdWrite (.record (.setStates on)) else s

/-- A set enters ON (R433, R687): the event, the power-up count, and a stop that was held. -/
def State.setOn (s : State) (n : Nat) (failed : Option Nat) : State :=
  let x := s.pset n
  let s := s.modSet n fun x => { x with st := .on, armed := none, stopHeld := false, lastUse := s.clock }
  let s := match failed with
    | some m => s.raise Ev.setPowerFailed Sev.error n 2 x.cause m
    | none => s
  let s := ((s.raise Ev.setPower Sev.notice n 2 x.cause 0).count 225 1 n).noteSets
  if x.stopHeld then s.defer (.setStop n SetCause.management) else s

/-- Are enough members of every group of a set ready (R433)? -/
def State.setReady (s : State) (n : Nat) : Bool :=
  (s.setGroups n).all fun g => decide ((s.grp g).needed ≤ s.readyCount g)

/-- A set enters OFF (R436 step 5, R687); a read that waited powers it up again. -/
def State.setOff (s : State) (n cause : Nat) : State :=
  let again := (s.pset n).again
  let s := s.modSet n fun x => { x with st := .off, armed := none, stopHeld := false, step := 0, again := false }
  let s := ((s.raise Ev.setPower Sev.notice n 0 cause 0).noteSets).updateDemand
  if again then s.requestSet n SetCause.read else s

end Sys2Proof.Machine
end

