-- ==== Sys2Proof/Machine/BankOps.lean ====
section
/-!
DEFINITION. Machine/BankOps.lean: the double-banked tables (R62 to R68, R71): shadow writes, commits, aborts and the swap; and
the memory windows' batches, revokes and staged blocks (R197 to R205, R211 to R217).
-/

namespace Sys2Proof.Machine

/-! ### Bank registers -/

/-- The COMMIT field of a table's PREFIX_BANK_CTL. -/
def bankCtl : BankId → Fld
  | .windows => Reg.WIN_BANK_CTL_COMMIT
  | .handles => Reg.XPT_BANK_CTL_COMMIT
  | .gates _ => Reg.SCH_GCL_BANK_CTL_COMMIT
  | .params => Reg.SCH_BANK_CTL_COMMIT
  | .masks => Reg.GCH_BANK_CTL_COMMIT

/-- The instance of the registers: the port of a gate list. -/
def bankUnit : BankId → Nat
  | .gates p => p
  | _ => 0

/-- PREFIX_BANK_SWAP of a table. -/
def bankSwapReg : BankId → Fld
  | .windows => Reg.WIN_BANK_SWAP
  | .handles => Reg.XPT_BANK_SWAP
  | .gates _ => Reg.SCH_GCL_BANK_SWAP
  | .params => Reg.SCH_BANK_SWAP
  | .masks => Reg.GCH_BANK_SWAP

/-- Bits of PREFIX_BANK_CTL (R71). -/
abbrev BankBit.commit : Nat := 0
abbrev BankBit.abort : Nat := 1
abbrev BankBit.active : Nat := 2
abbrev BankBit.catchup : Nat := 3
abbrev BankBit.timed : Nat := 4
abbrev BankBit.lateWrite : Nat := 8
abbrev BankBit.lateTarget : Nat := 9
abbrev BankBit.rangeErr : Nat := 10
abbrev BankBit.unaligned : Nat := 11

/-- Read a bit of PREFIX_BANK_CTL. -/
def State.bankBit (s : State) (b : BankId) (bit : Nat) : Bool := s.rd { bankCtl b with lo := bit } (bankUnit b) 0 == 1

/-- Write a bit of PREFIX_BANK_CTL. -/
def State.setBankBit (s : State) (b : BankId) (bit : Nat) (v : Bool) : State :=
  s.wr { bankCtl b with lo := bit } (bankUnit b) 0 (b2n v)

/-- The target Turn of a timed table; the others read 0 (R71). -/
def State.bankTarget (s : State) : BankId → Nat
  | .gates p => s.rd Reg.SCH_GCL_BANK_TARGET p 0
  | _ => 0

/-- Is a table timed (R62)? -/
def bankTimed : BankId → Bool
  | .gates _ => true
  | _ => false

/-- Entries that catch-up copies in one Turn (R62). -/
def bankRate : BankId → Nat
  | .windows | .handles => 256
  | .params => 1024
  | .gates _ | .masks => 4096

/-- The BAR0 offset of a table's PREFIX_BANK_CTL. -/
def bankOffset (b : BankId) : Nat := (bankCtl b).off + bankUnit b * (bankCtl b).stride1

/-- Raise Bank-late (R65, R68): INSTANCE the block, CODE 0 a dropped shadow write or 1 a late target, VALUE the BAR0 offset of
PREFIX_BANK_CTL. -/
def State.bankLate (s : State) (b : BankId) (code : Nat) : State :=
  s.raise Ev.bankLate Sev.warning (bankOffset b / 0x100000) code (bankOffset b) 0

/-- The copy of a register that a writer reaches (R656): the control cores' and sessions' copies lie beside the endpoint's. -/
def Fld.forWriter (f : Fld) (w : Writer) : Fld := if w = .endpoint then f else { f with off := f.off + 0x4000000 }

/-- The registers of which each path has a copy (R656). -/
def copiedFields : List Fld :=
  [Reg.XPT_QP_SEL, Reg.XPT_QP_CTL_READ, Reg.XPT_QP_CTL_VALID, Reg.XPT_QP_DATA, Reg.WIN_SEL, Reg.WIN_READ_READ, Reg.WIN_READ_VALID, Reg.WIN_DATA, Reg.SCH_PARAM_SEL, Reg.SCH_PARAM_DATA, Reg.SCH_PARAM_CTL_READ, Reg.SCH_PARAM_CTL_READ_LIVE, Reg.SCH_PARAM_CTL_VALID, Reg.CPH_SLOT_SEL, Reg.CPH_SLOT_CTL_READ, Reg.CPH_SLOT_CTL_VALID, Reg.CPH_SLOT_DATA, Reg.SAL_CMD_OP, Reg.SAL_CMD_ALL, Reg.SAL_CMD_CLASS, Reg.SAL_CMD_FILTER, Reg.SAL_CMD_SLOT, Reg.SAL_CMD_TAG, Reg.SAL_FIRST, Reg.SAL_COUNT, Reg.CNT_SEL, Reg.CNT_CTL_READ, Reg.CNT_CTL_VALID, Reg.CNT_DATA]

/-- The copy of a field that a writer's path reaches (R656). -/
def Fld.onPath (f : Fld) (writer : Writer) : Fld := if copiedFields.contains f then f.forWriter writer else f

/-- The copies of R656 that a path reaches return to their reset values (R659). -/
def State.resetCopies (s : State) (writer : Writer) : State :=
  copiedFields.foldl (fun s f => foldIdx f.count2 (fun j s => s.wr (f.onPath writer) 0 j f.reset) s) s

/-! ### One table -/

/-- Write an entry of a shadow bank: it is changed since the last swap, and catch-up skips it (R64, R66). -/
def Banked.put {α : Type} (t : Banked α) (i : Nat) (v : α) : Banked α :=
  { t with shd := tset t.shd i v, changed := if t.changed.contains i then t.changed else t.changed ++ [i], catchup := t.catchup.filter (· != i) }

/-- The swap (R63, R66): the banks change places, and the entries the committed bank changed are to be caught up. -/
def Banked.swap {α : Type} (t : Banked α) (turn : Nat) (keep : Bool) : Banked α :=
  { act := t.shd, shd := t.act, changed := [], catchup := t.changed, hist := if keep then (turn, t.act) :: t.hist else [] }

/-- Copy up to `n` entries that the swap left to catch up (R66). -/
def Banked.catchUp {α : Type} (t : Banked α) (n : Nat) : Banked α :=
  let now := t.catchup.take n
  let copy := fun (d : Tbl α) i =>
    match tget t.act i with
    | some v => tset d i v
    | none => tdel d i
  { t with shd := now.foldl copy t.shd, catchup := t.catchup.drop n }

/-- The contents that were active in a Turn: those of now, or the oldest kept contents that a later swap replaced (R60, R173). -/
def Banked.atTurn {α : Type} (t : Banked α) (turn : Nat) : Tbl α :=
  match (t.hist.filter fun h => decide (turn < h.1)).getLast? with
  | some h => h.2
  | none => t.act

/-! ### Commit and abort -/

/-- A commit credited to the current Turn (R63, R56, R68): a timed commit is refused while ALIGNED is clear or its target lies
more than 2^30 Turns ahead. -/
def State.bankCommit (s : State) (b : BankId) : State :=
  if s.bankBit b BankBit.commit then s
  else if bankTimed b && s.bankBit b BankBit.timed then
    let target := s.bankTarget b
    if !s.trn.aligned then s.setBankBit b BankBit.unaligned true
    else if s.now + 2 ^ 30 < target then s.setBankBit b BankBit.rangeErr true
    else
      let s := s.setBankBit b BankBit.commit true
      if target ≤ s.now then (s.setBankBit b BankBit.lateTarget true).bankLate b 1 else s
  else s.setBankBit b BankBit.commit true

/-- An abort (R67): a pending commit is cancelled and the shadow contents stay. -/
def State.bankAbort (s : State) (b : BankId) : State := s.setBankBit b BankBit.commit false

/-- May a table swap at the boundary that begins the Turn `turn` (R63, R68)? -/
def State.bankEligible (s : State) (b : BankId) (caughtUp : Bool) (turn : Nat) : Bool :=
  s.bankBit b BankBit.commit && caughtUp && (!(bankTimed b && s.bankBit b BankBit.timed) || decide (s.bankTarget b ≤ turn))

/-- The registers of a table whose swap takes effect at a boundary (R63, R71). -/
def State.bankSwapped (s : State) (b : BankId) (turn : Nat) : State :=
  ((s.setBankBit b BankBit.commit false).setBankBit b BankBit.active (!s.bankBit b BankBit.active)).wr (bankSwapReg b) (bankUnit b) 0 turn

/-- A shadow write while COMMIT is set (R65). -/
def State.lateWrite (s : State) (b : BankId) : State := (s.setBankBit b BankBit.lateWrite true).bankLate b 0

/-! ### Windows -/

/-- A window that no open has touched (R196). -/
def WinDesc.free : WinDesc :=
  { st := .free, buffer := false, remoteW := false, remoteR := false, bind := false, fed := false, keyTag := 0, tenant := 0, nsid := 0, handle := 0, length := 0, openTurn := 0, listAddr := 0 }

/-- The descriptor of a window in the active bank. -/
def State.window (s : State) (w : Nat) : WinDesc := tgetD s.win.table.act w WinDesc.free

/-- The descriptor that was active in a Turn (R60, R173). -/
def State.windowAt (s : State) (w turn : Nat) : WinDesc := tgetD (s.win.table.atTurn turn) w WinDesc.free

/-- Put a changed descriptor into the shadow bank with the batch that firmware gathers, or keep it for the next batch (R204). -/
def State.winChange (s : State) (c : WinChange) : State :=
  if !s.bankBit .windows BankBit.commit && decide (s.win.batch.length < 256) then
    { s with win := { s.win with table := s.win.table.put c.window c.desc, batch := s.win.batch ++ [c] } }
  else { s with win := { s.win with waiting := s.win.waiting ++ [c] } }

/-- After a swap, changes that waited enter the next batch (R204). -/
def State.winNextBatch (s : State) : State :=
  let w := s.win.waiting
  let s : State := { s with win := { s.win with waiting := [] } }
  w.foldl (fun s c => s.winChange c) s

/-- The newest descriptor that a window has or is about to have. -/
def State.windowNewest (s : State) (w : Nat) : WinDesc :=
  match ((s.win.batch ++ s.win.waiting).filter fun c => c.window == w).getLast? with
  | some c => c.desc
  | none => s.window w

/-- Revoke a window (R211): its descriptor goes to DRAINING at the next batch's swap. -/
def State.revoke (s : State) (w : Nat) (reply : Option (Nat × Nat)) : State :=
  let d := s.windowNewest w
  if d.st == .isOpen then s.winChange { window := w, desc := { d with st := .draining }, reply := reply } else s

/-- Windows that are open or about to be, by index. -/
def State.openWindows (s : State) : List Nat :=
  let known := (s.win.table.act.map (·.1)) ++ ((s.win.batch ++ s.win.waiting).map (·.window))
  known.eraseDups.filter fun w => (s.windowNewest w).st == .isOpen

/-- Revoke the windows that a test picks (R205). -/
def State.revokeWhere (s : State) (p : WinDesc → Bool) : State :=
  (s.openWindows.filter fun w => p (s.windowNewest w)).foldl (fun s w => s.revoke w none) s

/-- Windows OPEN and DRAINING in the active bank, for WIN_STATUS. -/
def State.winStatus (s : State) : State :=
  let n := fun st => (s.win.table.act.filter fun p => p.2.st == st).length
  (s.wr Reg.WIN_STATUS_OPEN 0 0 (n .isOpen)).wr Reg.WIN_STATUS_DRAINING 0 0 (n .draining)

/-! ### Staged blocks -/

/-- The staging slot that a block holds (R28, R213). -/
def Blk.slot? (b : Blk) : Option Nat :=
  match b.place with
  | .staged n => some n
  | .lane n _ => some n
  | _ => none

/-- The lowest free staging slot of the 96 (R213). -/
def State.freeStaging (s : State) : Option Nat :=
  let used := s.win.blocks.filterMap fun p => p.2.slot?
  (List.range 96).find? fun n => !used.contains n

/-- The block that remote writes into block b of a window land in: the one that no command owns. -/
def State.openBlock (s : State) (w b : Nat) : Option (Nat × Blk) :=
  s.win.blocks.find? fun p => p.2.window == some (w, b) && p.2.owner.isNone

/-- Change a staged block. -/
def State.modBlk (s : State) (k : Nat) (f : Blk → Blk) : State := { s with win := { s.win with blocks := tmod s.win.blocks k f } }

/-- Does a work request of Daxzin's own still read a block of a window (R217): a started one that names it and is not acknowledged? -/
def State.beingRead (s : State) (w b : Nat) : Bool :=
  s.xpt.qps.any fun p => p.2.sq.any fun e =>
    e.started && decide (e.wqe.opcode < 4) && decide (0 < e.wqe.length) && e.wqe.window == w &&
      decide (e.wqe.offset / 65536 ≤ b) && decide (b ≤ (e.wqe.offset + e.wqe.length - 1) / 65536)

/-- Drop a staged block. -/
def State.dropBlk (s : State) (k : Nat) : State := { s with win := { s.win with blocks := tdel s.win.blocks k } }

/-- Change the block list entry of a window (R197). -/
def State.modList (s : State) (w b : Nat) (f : BlockEnt → BlockEnt) : State :=
  { s with win := { s.win with lists := tmod s.win.lists w fun l => lmod l b f } }

/-- A block with no data yet (R213). -/
def Blk.fresh (window : Option (Nat × Nat)) (place : BlkPlace) (hold : Option Nat) : Blk :=
  { window := window, place := place, hold := hold, data := [], filled := 0, owner := none, chain := none, stored := [], raw := false, crc := 0, iv := 0, tag := 0, keyId := 0, buf := none }

/-- Count a spilled block (R29, R213). -/
def State.countSpill (s : State) (w b : Nat) : State :=
  ((s.modList w b fun e => { e with spilled := true }).bumpWrap Reg.WIN_SPILL 0 0 1).count 72 1 w

/-- The first write into a block of an APPEND window (R213): a staging slot, or its Frogspawn buffer. -/
def State.newBlock (s : State) (w b : Nat) : Nat × State :=
  let k := s.win.nextBlk
  let place := match s.freeStaging with
    | some n => BlkPlace.staged n
    | none => .spilled
  let blk := Blk.fresh (some (w, b)) place (if place == .spilled then none else some s.clock)
  let s : State := { s with win := { s.win with blocks := tset s.win.blocks k blk, nextBlk := k + 1 } }
  (k, if place == .spilled then s.countSpill w b else s)

/-- Ask for the read-back of a spilled block when a staging slot is free (R28). -/
def State.readBack (s : State) (k : Nat) : State := s.modBlk k fun b => if b.place == .spilled then { b with place := .readback } else b

/-- The commit of a window's blocks, or the end of a revoke, frees nothing that a command owns; the rest is discarded and its
buffers are freed (R211, R218). -/
def State.freeWindow (s : State) (w : Nat) : State :=
  let list := tgetD s.win.lists w []
  let mine := fun (b : Blk) => match b.window with
    | some (x, _) => x == w
    | none => false
  let owned := (s.win.blocks.filter fun p => mine p.2 && p.2.owner.isSome).filterMap fun p => p.2.window.map (·.2)
  let blocks := (s.win.blocks.filter fun p => !(mine p.2 && p.2.owner.isNone)).map fun p =>
    match p.2.window with
    | some (x, b) => if x == w then (p.1, { p.2 with window := none, buf := (list[b]?).map (·.buf) }) else p
    | none => p
  let free := (list.zipIdx.filter fun e => !owned.contains e.2).map fun e => e.1.buf
  ({ s with win := { s.win with blocks := blocks, lists := tdel s.win.lists w } } : State).decrefs free

end Sys2Proof.Machine
end

