-- ==== Sys2Proof/Machine/Gf.lean ====
section
/-!
DEFINITION. Machine/Gf.lean: arithmetic of GF(2^8) for P and Q (R409, R412), and CRC-32C (R21, R343, R416).
-/

namespace Sys2Proof.Machine

/-- Multiply by g = 2 in GF(2^8) with the polynomial 0x11D (R409). -/
def gfDouble (a : Byte) : Byte := if a.getLsbD 7 then (a <<< 1) ^^^ 0x1D else a <<< 1

/-- The product in GF(2^8), over the low `n` bits of the second factor. -/
def gfMulBits (a b : Byte) : Nat → Byte
  | 0 => 0
  | n + 1 => gfMulBits (gfDouble a) (b >>> 1) n ^^^ (if b.getLsbD 0 then a else 0)

/-- The product in GF(2^8). -/
def gfMul (a b : Byte) : Byte := gfMulBits a b 8

/-- A power in GF(2^8). -/
def gfPow (a : Byte) : Nat → Byte
  | 0 => 1
  | n + 1 => gfMul a (gfPow a n)

/-- g^n, for the generator g = 2. -/
def gfGen (n : Nat) : Byte := gfPow 2 n

/-- The inverse in GF(2^8): a^254, and 0 for 0. -/
def gfInv (a : Byte) : Byte := gfPow a 254

/-- The exclusive or of a list of bytes. -/
def xorAll (l : List Byte) : Byte := l.foldl (· ^^^ ·) 0

/-- P of the data bytes at one offset (R409). -/
def parityP (d : List Byte) : Byte := xorAll d

/-- Q of the data bytes at one offset, the first of which is data unit `i` (R409). -/
def parityQFrom (i : Nat) : List Byte → Byte
  | [] => 0
  | b :: bs => gfMul (gfGen i) b ^^^ parityQFrom (i + 1) bs

/-- Q of the data bytes at one offset (R409). -/
def parityQ (d : List Byte) : Byte := parityQFrom 0 d

/-- The data bytes of one offset with every erased unit taken as 0. -/
def zeroErased (d : List (Option Byte)) : List Byte := d.map (·.getD 0)

/-- The data bytes at one offset, after recomputation under R412 (none: more erasures than P and Q cover). The data units come
as `d` (none where erased), `p` and `q` as read (none where erased). -/
def recomputeData (d : List (Option Byte)) (p q : Option Byte) : Option (List Byte) :=
  let erased := (List.range d.length).filter fun i => d.getD i none == none
  let known := zeroErased d
  match erased with
  | [] => some known
  | [x] =>
    match p, q with
    | some p, _ => some (lset known x (p ^^^ parityP known))
    | none, some q => some (lset known x (gfMul (q ^^^ parityQ known) (gfInv (gfGen x))))
    | none, none => none
  | [x, y] =>
    match p, q with
    | some p, some q =>
      let pxy := p ^^^ parityP known
      let qxy := q ^^^ parityQ known
      let r := gfGen (y - x)
      let den := gfInv (r ^^^ 1)
      let a := gfMul r den
      let b := gfMul (gfInv (gfGen x)) den
      let dx := gfMul a pxy ^^^ gfMul b qxy
      some (lset (lset known x dx) y (pxy ^^^ dx))
    | _, _ => none
  | _ => none

/-- One bit step of the reflected CRC-32C. -/
def crcBit (c : BitVec 32) : BitVec 32 := if c.getLsbD 0 then (c >>> 1) ^^^ 0x82F63B78 else c >>> 1

/-- Take `n` bit steps. -/
def crcBits : Nat → BitVec 32 → BitVec 32
  | 0, c => c
  | n + 1, c => crcBits n (crcBit c)

/-- Take one byte into a CRC-32C. -/
def crcByte (c : BitVec 32) (b : Byte) : BitVec 32 := crcBits 8 (c ^^^ b.zeroExtend 32)

/-- CRC-32C (Castagnoli) of a byte string: initial value and final exclusive or all ones. -/
def crc32c (l : List Byte) : Nat := ((l.foldl crcByte 0xFFFFFFFF) ^^^ 0xFFFFFFFF).toNat

end Sys2Proof.Machine
end

