-- ==== Sys2Proof/Machine/Codec.lean ====
section
/-!
DEFINITION. Machine/Codec.lean: the compressed block format: predictors, symbols, code tables, the tournament and the encoder
(R341 to R362, R686), and the decoder with the reasons of R367.
-/

namespace Sys2Proof.Machine

/-- Bytes of a sector (R341). -/
abbrev sectorBytes : Nat := 4096

/-- A symbol with the raw bits that follow it: symbol, number of bits, their value. -/
structure Token where
  sym : Nat
  bits : Nat
  val : Nat
  deriving DecidableEq, Repr

/-- Plaintext `d` bytes before offset `i`, zero before the block (R342). -/
def backByte (x : Array Nat) (i d : Nat) : Nat := if i < d then 0 else x.getD (i - d) 0

/-- Residue against the byte `d` back, modulo 256 (R344). -/
def deltaResidue (x : Array Nat) (d i : Nat) : Nat := (backByte x i 0 + 256 - backByte x i d) % 256

/-- The offsets of sector `k`. -/
def sectorOffsets (k : Nat) : List Nat := (List.range sectorBytes).map (· + k * sectorBytes)

/-- The residues of a sector in a mode that subtracts the byte `d` back; mode 0 subtracts nothing (R344). -/
def deltaResidues (x : Array Nat) (d k : Nat) : List Nat :=
  (sectorOffsets k).map fun i => if d = 0 then backByte x i 0 else deltaResidue x d i

/-- The context index of R345. -/
def ctxIndex (b2 b1 : Nat) : Nat := ((b2 * 16) ^^^ b1) % 4096

/-- The residue of a byte under a context list (R345). -/
def ctxResidue (l : List Nat) (b : Nat) : Nat :=
  match l.findIdx? (· == b) with
  | some k => k
  | none => l.length + b - (l.filter (· < b)).length

/-- The bytes that a list does not hold, in ascending order. -/
def notListed (l : List Nat) : List Nat := (List.range 256).filter fun b => !l.contains b

/-- The byte that a residue names under a context list (R345). -/
def ctxByte (l : List Nat) (r : Nat) : Nat := if r < l.length then l.getD r 0 else (notListed l).getD (r - l.length) 0

/-- Move a byte to the front of a context list, dropping a fifth value (R345). -/
def ctxPush (l : List Nat) (b : Nat) : List Nat := (b :: l.filter (· != b)).take 4

/-- Take one byte into the context table (R346). -/
def ctxUpdate (t : Array (List Nat)) (h b : Nat) : Array (List Nat) := t.setIfInBounds h (ctxPush (t.getD h []) b)

/-- The empty context table. -/
def ctxEmpty : Array (List Nat) := Array.replicate 4096 []

/-- The residues of mode 5 over the offsets given, and the context table after them (R345, R346). -/
def ctxResidues (x : Array Nat) (t : Array (List Nat)) (is : List Nat) : List Nat × Array (List Nat) :=
  let r := is.foldl (init := (([] : List Nat), t)) fun (acc, t) i =>
    let h := ctxIndex (backByte x i 2) (backByte x i 1)
    let b := backByte x i 0
    (ctxResidue (t.getD h []) b :: acc, ctxUpdate t h b)
  (r.1.reverse, r.2)

/-- The record lengths that the encoder tries (R347). -/
def recCandidates : List Nat := (List.range 56).map (· + 9) ++ (List.range 120).map (fun i => 72 + 8 * i)

/-- How many offsets of a sector equal the byte `r` back. -/
def recScore (x : Array Nat) (k r : Nat) : Nat := ((sectorOffsets k).filter fun i => backByte x i 0 == backByte x i r).length

/-- The record length of a sector (R347): the most equal offsets, the smaller candidate on a tie. -/
def chooseRec (x : Array Nat) (k : Nat) : Nat :=
  (recCandidates.foldl (init := (9, 0, false)) fun (best, n, any) r =>
    let m := recScore x k r
    if !any || n < m then (r, m, true) else (best, n, any)).1

/-- Base and extra bits of the length symbols (R349). -/
def lenTable : List (Nat × Nat) :=
  [(4, 0), (5, 0), (6, 0), (7, 0), (8, 0), (9, 0), (10, 0), (11, 0), (12, 1), (14, 2), (18, 3), (26, 4), (42, 5), (74, 6),
   (138, 7), (266, 12)]

/-- The length symbol of a length from 4 to 4,096 (R349). -/
def lenToken (n : Nat) : Token :=
  let i := ((List.range 16).filter fun i => decide ((lenTable.getD i (0, 0)).1 ≤ n)).length - 1
  let e := lenTable.getD i (0, 0)
  ⟨256 + i, e.2, n - e.1⟩

/-- The tokens of a run of `n` zero residues (R348). -/
def zeroTokens (n : Nat) : List Token := if 4 ≤ n then [lenToken n] else List.replicate n ⟨0, 0, 0⟩

/-- The tokens of residues, with `z` zeros seen before them (R348). -/
def runTokens : Nat → List Nat → List Token
  | z, [] => zeroTokens z
  | z, r :: rs => if r = 0 then runTokens (z + 1) rs else zeroTokens z ++ ⟨r, 0, 0⟩ :: runTokens 0 rs

/-- Do four bytes from `i` equal four bytes from `j`? -/
def fourEqual (x : Array Nat) (i j : Nat) : Bool :=
  (List.range 4).all fun d => x.getD (i + d) 0 == x.getD (j + d) 0

/-- The nearest earlier offsets below `j` whose four bytes match those at `i`, at most `m` of them, nearest first (R686). -/
def matchCandidates (x : Array Nat) (i : Nat) : Nat → Nat → List Nat
  | 0, _ => []
  | _, 0 => []
  | j + 1, m + 1 => if fourEqual x i j then j :: matchCandidates x i j m else matchCandidates x i j (m + 1)

/-- How many bytes agree from `i` and `j` on, at most `n`. -/
def agree (x : Array Nat) (i j : Nat) : Nat → Nat
  | 0 => 0
  | n + 1 => if x.getD i 0 == x.getD j 0 then agree x (i + 1) (j + 1) n + 1 else 0

/-- The match that the encoder codes at `i`, `left` bytes before the sector's end: length and distance (R686). -/
def bestMatch (x : Array Nat) (i left : Nat) : Option (Nat × Nat) :=
  if left < 4 then none
  else (matchCandidates x i i 16).foldl (init := none) fun best j =>
    let n := agree x i j left
    match best with
    | some (l, d) => if l < n then some (n, i - j) else some (l, d)
    | none => some (n, i - j)

/-- The length and distance of a match as one token (R349, R350). -/
def matchToken (len dist : Nat) : Token :=
  let t := lenToken len
  let c := Nat.log2 dist
  ⟨t.sym, t.bits + 4 + c, (t.val * 16 + c) * 2 ^ c + (dist - 2 ^ c)⟩

/-- The tokens of a mode 6 sector from offset `i`, `left` bytes before its end (R686). -/
def matchTokens (x : Array Nat) : Nat → Nat → Nat → List Token
  | 0, _, _ => []
  | _, _, 0 => []
  | fuel + 1, i, left + 1 =>
    match bestMatch x i (left + 1) with
    | some (n, d) => matchToken n d :: matchTokens x fuel (i + n) (left + 1 - n)
    | none => ⟨x.getD i 0, 0, 0⟩ :: matchTokens x fuel (i + 1) left

/-- Code lengths of the static tables (R353): LITERAL, DELTA, RANK, FLAT. -/
def staticLength (table sym : Nat) : Nat :=
  let inR := fun lo hi => decide (lo ≤ sym) && decide (sym ≤ hi)
  match table with
  | 0 =>
    if sym == 0 || sym == 0x20 then 5 else if inR 0x61 0x7A then 6 else if inR 256 271 then 7
    else if inR 0x30 0x39 || inR 0x41 0x5A then 8 else if inR 0x90 0xFF then 10 else 9
  | 1 =>
    if sym == 0 then 2 else if sym == 1 || sym == 255 then 3 else if sym == 2 || sym == 254 then 4
    else if sym == 3 || sym == 253 then 5 else if inR 4 7 || inR 249 252 then 6
    else if inR 8 15 || inR 241 248 || inR 256 271 then 8 else if inR 16 31 || inR 226 240 then 11 else 12
  | 2 =>
    if sym == 0 then 1 else if sym == 1 then 3 else if sym == 2 then 4 else if sym == 3 then 5
    else if inR 256 271 then 7 else if inR 4 71 then 10 else 11
  | _ => if sym < 240 then 8 else 9

/-- The 272 code lengths of a static table. -/
def staticLengths (table : Nat) : List Nat := (List.range 272).map (staticLength table)

/-- The symbols of a table by code length and then by symbol (R351). -/
def codeOrder (lens : List Nat) : List (Nat × Nat) :=
  (List.range 16).flatMap fun n =>
    if n = 0 then [] else ((List.range 272).filter fun s => lens.getD s 0 == n).map fun s => (s, n)

/-- Canonical codes (R351): symbol, length, code. -/
def canonicalFrom : Nat → Nat → List (Nat × Nat) → List (Nat × Nat × Nat)
  | _, _, [] => []
  | code, prev, (s, n) :: t => (s, n, code * 2 ^ (n - prev)) :: canonicalFrom (code * 2 ^ (n - prev) + 1) n t

/-- The canonical codes of a table. -/
def canonicalCodes (lens : List Nat) : List (Nat × Nat × Nat) :=
  match codeOrder lens with
  | [] => []
  | (s, n) :: t => (s, n, 0) :: canonicalFrom 1 n t

/-- Are these code lengths a table (R351)? -/
def tableOk (lens : List Nat) : Bool :=
  let used := lens.filter (· != 0)
  lens.all (decide <| · ≤ 15) &&
    (used == [1] || (used.map fun n => 2 ^ (15 - n)).sum == 2 ^ 15)

/-- The `n` low bits of a value, most significant first (R352). -/
def bitsMsb (n v : Nat) : List Bool := (List.range n).map fun i => bitOf v (n - 1 - i)

/-- Bytes from bits, each filled from bit 7 down, the last padded with zeros (R352); the fuel is the number of bytes. -/
def packBits : Nat → List Bool → List Byte
  | 0, _ => []
  | _, [] => []
  | n + 1, bs =>
    let v := (List.range 8).foldl (fun a i => 2 * a + b2n (bs.getD i false)) 0
    BitVec.ofNat 8 v :: packBits n (bs.drop 8)

/-- The bits of a byte string, most significant first. -/
def unpackBits (l : List Byte) : List Bool := l.flatMap fun b => bitsMsb 8 b.toNat

/-- Bits of a token stream under code lengths (R355). -/
def streamBits (lens : Array Nat) (ts : List Token) : Nat := ts.foldl (fun a t => a + lens.getD t.sym 0 + t.bits) 0

/-- The payload of a token stream under canonical codes (R352). -/
def payload (codes : List (Nat × Nat × Nat)) (ts : List Token) : List Byte :=
  let tab := codes.foldl (fun (a : Array (Nat × Nat)) c => a.setIfInBounds c.1 (c.2.1, c.2.2)) (Array.replicate 272 (0, 0))
  let bits := ts.flatMap fun t =>
    let c := tab.getD t.sym (0, 0)
    bitsMsb c.1 c.2 ++ bitsMsb t.bits t.val
  packBits (ceilDiv bits.length 8) bits

/-- The winning pair of a sector: bits, mode, table, record length and its token stream; none when the sector is RAW (R355). -/
structure Winner where
  bits : Nat
  mode : Nat
  table : Nat
  recLen : Nat
  toks : List Token
  deriving DecidableEq, Repr

/-- The eight token streams of a sector, and the context table after it (R355). -/
def sectorStreams (x : Array Nat) (ctx : Array (List Nat)) (k : Nat) : List (List Token) × Nat × Array (List Nat) :=
  let r := chooseRec x k
  let c := ctxResidues x ctx (sectorOffsets k)
  let run := fun d => runTokens 0 (deltaResidues x d k)
  ([run 0, run 1, run 2, run 4, run 8, runTokens 0 c.1, matchTokens x sectorBytes (k * sectorBytes) sectorBytes, run r], r, c.2)

/-- The tournament of one sector (R355): fewest bits, then the lower mode, then the lower table. -/
def tournament (streams : List (List Token)) (recLen : Nat) : Option Winner :=
  let tabs := (List.range 4).map fun t => (staticLengths t).toArray
  let best := (List.range 8).foldl (init := (none : Option Winner)) fun b m =>
    let ts := streams.getD m []
    (List.range 4).foldl (init := b) fun b t =>
      let n := streamBits (tabs.getD t #[]) ts
      let w : Winner := ⟨n, m, t, if m = 7 then recLen else 0, ts⟩
      match b with
      | some v => if n < v.bits then some w else some v
      | none => some w
  match best with
  | some w => if sectorBytes ≤ ceilDiv w.bits 8 then none else some w
  | none => none

/-- The tournament of every sector of a block, in order. -/
def winners (x : Array Nat) : Array (List Nat) → Nat → Nat → List (Option Winner)
  | _, _, 0 => []
  | ctx, k, n + 1 =>
    let r := sectorStreams x ctx k
    tournament r.1 r.2.1 :: winners x r.2.2 (k + 1) n

/-- An item of the package-merge construction (R354): weight and the leaves inside it. -/
structure Package where
  weight : Nat
  syms : List Nat
  deriving DecidableEq, Repr

/-- Pair the items of a list in order; an odd last item is dropped. -/
def pairUp : List Package → List Package
  | a :: b :: t => ⟨a.weight + b.weight, a.syms ++ b.syms⟩ :: pairUp t
  | _ => []

/-- Insert a leaf before the first item that weighs as much or more. -/
def insertLeaf (l : Package) : List Package → List Package
  | [] => [l]
  | h :: t => if l.weight ≤ h.weight then l :: h :: t else h :: insertLeaf l t

/-- Merge leaves and packages by weight, a leaf first on equal weight, each kind in its order. -/
def mergeItems : Nat → List Package → List Package → List Package
  | 0, ls, ps => ls ++ ps
  | _, [], ps => ps
  | _, ls, [] => ls
  | n + 1, l :: ls, p :: ps => if l.weight ≤ p.weight then l :: mergeItems n ls (p :: ps) else p :: mergeItems n (l :: ls) ps

/-- The leaves of a histogram, by count and then by symbol. -/
def leavesOf (hist : Array Nat) : List Package :=
  (List.range 272).reverse.foldl (init := []) fun acc s =>
    let n := hist.getD s 0
    if n = 0 then acc else insertLeaf ⟨n, [s]⟩ acc

/-- Repeat the pairing step. -/
def packageRounds (leaves : List Package) : Nat → List Package → List Package
  | 0, l => l
  | n + 1, l => packageRounds leaves n (mergeItems 1024 leaves (pairUp l))

/-- The code lengths of a histogram, at most 15 (R354, R351). -/
def dynLengths (hist : Array Nat) : List Nat :=
  let leaves := leavesOf hist
  let add := fun (a : Array Nat) (s : Nat) => a.setIfInBounds s (a.getD s 0 + 1)
  match leaves with
  | [] => List.replicate 272 0
  | [l] => (l.syms.foldl add (Array.replicate 272 0)).toList
  | _ =>
    let chosen := (packageRounds leaves 14 leaves).take (2 * leaves.length - 2)
    (chosen.foldl (fun a p => p.syms.foldl add a) (Array.replicate 272 0)).toList

/-- The symbol counts of the winning streams of the sectors that are not RAW (R356). -/
def histogram (ws : List (Option Winner)) : Array Nat :=
  ws.foldl (init := Array.replicate 272 0) fun a w =>
    match w with
    | some w => w.toks.foldl (fun a t => a.setIfInBounds t.sym (a.getD t.sym 0 + 1)) a
    | none => a

/-- Bytes of a sector with its header: its own plaintext when RAW. -/
def sectorSize : Option Winner → Nat
  | some w => 4 + ceilDiv w.bits 8
  | none => 4 + sectorBytes

/-- The second pass over a block (R356): the sectors, and the table if one is serialised. -/
def secondPass (ws : List (Option Winner)) : List (Option Winner) × Option (List Nat) :=
  let lens := dynLengths (histogram ws)
  let arr := lens.toArray
  let ws' := ws.map fun w =>
    match w with
    | some w =>
      let n := streamBits arr w.toks
      if n < w.bits then some { w with bits := n, table := 4 } else some w
    | none => none
  let size := fun (l : List (Option Winner)) => 8 + (l.map sectorSize).sum
  if ws'.any (fun w => match w with | some w => w.table == 4 | none => false) && decide (size ws' + 136 < size ws) then
    (ws', some lens)
  else (ws, none)

/-- The serialised dynamic table (R354). -/
def tableBytes (lens : List Nat) : List Byte :=
  (List.range 136).map fun j => BitVec.ofNat 8 (lens.getD (2 * j) 0 + 16 * lens.getD (2 * j + 1) 0)

/-- A sector's header and payload (R359). -/
def sectorOut (x : Array Nat) (dyn : Option (List (Nat × Nat × Nat))) (k : Nat) (w : Option Winner) : List Byte :=
  match w with
  | some w =>
    let codes := if w.table = 4 then dyn.getD [] else canonicalCodes (staticLengths w.table)
    let p := payload codes w.toks
    leBytes 4 (w.mode + 16 * w.table + 256 * p.length + 2 ^ 21 * w.recLen) ++ p
  | none => leBytes 4 (8 + 256 * sectorBytes) ++ (sectorOffsets k).map fun i => BitVec.ofNat 8 (backByte x i 0)

/-- The sectors of a block, in order. -/
def sectorsOut (x : Array Nat) (dyn : Option (List (Nat × Nat × Nat))) : Nat → List (Option Winner) → List Byte
  | _, [] => []
  | k, w :: ws => sectorOut x dyn k w ++ sectorsOut x dyn (k + 1) ws

/-- What compressing a block yields: the stored bytes, whether raw, the modes coded (8 for a RAW sector) and whether a dynamic
table is serialised. -/
structure Compressed where
  bytes : List Byte
  raw : Bool
  modes : List Nat
  dyn : Bool
  deriving DecidableEq, Repr

/-- Compress a block of `n` sectors (R355 to R361). -/
def compressBlock (dynamic : Bool) (noGain n : Nat) (plain : List Byte) : Compressed :=
  let x := (plain.map (·.toNat)).toArray
  let ws := winners x ctxEmpty 0 n
  let r := if dynamic then secondPass ws else (ws, none)
  let body := (match r.2 with | some l => tableBytes l | none => []) ++ sectorsOut x (r.2.map canonicalCodes) 0 r.1
  let len := 8 + body.length
  if len + noGain ≤ n * sectorBytes then
    { bytes := [1, BitVec.ofNat 8 (b2n r.2.isSome), BitVec.ofNat 8 n, 0] ++ leBytes 4 len ++ body, raw := false,
      modes := r.1.map fun w => match w with | some w => w.mode | none => 8
      dyn := r.2.isSome }
  else { bytes := plain, raw := true, modes := [], dyn := false }

/-- Take `n` raw bits as a number, most significant first. -/
def takeBits : Nat → List Bool → Option (Nat × List Bool)
  | 0, bs => some (0, bs)
  | _ + 1, [] => none
  | n + 1, b :: bs => (takeBits n bs).map fun r => (b2n b * 2 ^ n + r.1, r.2)

/-- Why a code could not be read: no such code, or the stream ended. -/
inductive CodeFault where
  | unknown | short
  deriving DecidableEq, Repr

/-- Read one code (R351): `len` bits of value `v` read so far. -/
def readCode (codes : List (Nat × Nat × Nat)) : Nat → Nat → Nat → List Bool → Except CodeFault (Nat × List Bool)
  | 0, _, _, _ => .error .unknown
  | fuel + 1, len, v, bs =>
    match bs with
    | [] => .error .short
    | b :: bs =>
      let v := 2 * v + b2n b
      match codes.find? (fun c => c.2.1 == len + 1 && c.2.2 == v) with
      | some c => .ok (c.1, bs)
      | none =>
        -- a longer code must begin with these bits
        if codes.any (fun c => decide (len + 1 < c.2.1) && c.2.2 / 2 ^ (c.2.1 - (len + 1)) == v) then
          readCode codes fuel (len + 1) v bs
        else .error .unknown

/-- What the decoder carries through a block: the plaintext so far and the context table. -/
structure DecState where
  out : Array Nat
  ctx : Array (List Nat)

/-- Append one byte (R346: the context table takes every byte). -/
def DecState.push (d : DecState) (b : Nat) : DecState :=
  let i := d.out.size
  let h := ctxIndex (backByte d.out i 2) (backByte d.out i 1)
  { out := d.out.push b, ctx := ctxUpdate d.ctx h b }

/-- The byte that a residue gives at the next offset (R344, R345). -/
def DecState.byteOf (d : DecState) (mode recLen r : Nat) : Nat :=
  let i := d.out.size
  let back := fun k => (r + backByte d.out i k) % 256
  match mode with
  | 1 => back 1
  | 2 => back 2
  | 3 => back 4
  | 4 => back 8
  | 5 => ctxByte (d.ctx.getD (ctxIndex (backByte d.out i 2) (backByte d.out i 1)) []) r
  | 7 => back recLen
  | _ => r

/-- Append `n` zero residues. -/
def DecState.zeros (d : DecState) (mode recLen : Nat) : Nat → DecState
  | 0 => d
  | n + 1 => (d.push (d.byteOf mode recLen 0)).zeros mode recLen n

/-- Copy `n` bytes from `dist` back, one at a time (R348). -/
def DecState.copy (d : DecState) (dist : Nat) : Nat → DecState
  | 0 => d
  | n + 1 => (d.push (backByte d.out d.out.size dist)).copy dist n

/-- Read the symbol that comes next: the symbol, its length value and distance, and the rest; SYMBOL or LENGTH otherwise. -/
def readSymbol (codes : List (Nat × Nat × Nat)) (mode : Nat) (bs : List Bool) : Except Nat (Nat × Nat × Nat × List Bool) :=
  -- reason 6 where fewer than 8 bits are left, all zero, and the symbol needs more; reason 5 otherwise
  let short : Nat := if decide (bs.length < 8) && bs.all (· == false) then 6 else 5
  match readCode codes 15 0 0 bs with
  | .error .unknown => .error 5
  | .error .short => .error short
  | .ok (s, rest) =>
    if s < 256 then .ok (s, 0, 0, rest)
    else
      let e := lenTable.getD (s - 256) (0, 0)
      match takeBits e.2 rest with
      | none => .error short
      | some (x, rest) =>
        if mode != 6 then .ok (s, e.1 + x, 0, rest)
        else match takeBits 4 rest with
          | none => .error short
          | some (c, rest) =>
            match takeBits c rest with
            | none => .error short
            | some (v, rest) => .ok (s, e.1 + x, 2 ^ c + v, rest)

/-- Decode a sector's payload (R348 to R352, reasons 5 and 6 of R367): `left` bytes are still to be produced. -/
def decodePayload (codes : List (Nat × Nat × Nat)) (mode recLen : Nat) : Nat → Nat → DecState → List Bool → Except Nat DecState
  | _, 0, d, bs => if decide (8 ≤ bs.length) || bs.any id then .error 6 else .ok d
  | 0, _, _, _ => .error 5
  | fuel + 1, left + 1, d, bs =>
    match readSymbol codes mode bs with
    | .error r => .error r
    | .ok (s, len, dist, rest) =>
      if s < 256 then
        let b := if mode = 6 then s else d.byteOf mode recLen s
        decodePayload codes mode recLen fuel left (d.push b) rest
      else if len > left + 1 || len > 4096 then .error 5
      else if mode = 6 then
        if dist > d.out.size then .error 5
        else decodePayload codes mode recLen fuel (left + 1 - len) (d.copy dist len) rest
      else decodePayload codes mode recLen fuel (left + 1 - len) (d.zeros mode recLen len) rest

/-- Decode one sector from the bytes left of the block (R359; reason 4): the state and the rest. -/
def decodeSector (dyn : Option (List (Nat × Nat × Nat))) (d : DecState) (l : List Byte) : Except Nat (DecState × List Byte) :=
  if l.length < 4 then .error 4
  else
    let h := leNat (l.take 4)
    let mode := bitsOf h 0 3
    let raw := bitOf h 3
    let table := bitsOf h 4 3
    let len := bitsOf h 8 13
    let recLen := bitsOf h 21 11
    let headOk := !bitOf h 7 && decide (1 ≤ len) && decide (len ≤ 4096) && decide (table ≤ 4) &&
      (!raw || (mode == 0 && table == 0 && len == 4096)) && (table != 4 || dyn.isSome) &&
      (if mode = 7 then decide (9 ≤ recLen) && decide (recLen ≤ 1024) else recLen == 0)
    if !headOk || l.length < 4 + len then .error 4
    else
      let pay := (l.drop 4).take len
      let rest := l.drop (4 + len)
      if raw then .ok (pay.foldl (fun d b => d.push b.toNat) d, rest)
      else
        let codes := if table = 4 then dyn.getD [] else canonicalCodes (staticLengths table)
        match decodePayload codes mode recLen (sectorBytes + 1) sectorBytes d (unpackBits pay) with
        | .error r => .error r
        | .ok d => .ok (d, rest)

/-- Decode the sectors of a block in turn; bytes that remain after the last are reason 6. -/
def decodeSectors (dyn : Option (List (Nat × Nat × Nat))) : Nat → DecState → List Byte → Except Nat DecState
  | 0, d, l => if l.isEmpty then .ok d else .error 6
  | n + 1, d, l =>
    match decodeSector dyn d l with
    | .error r => .error r
    | .ok (d, rest) => decodeSectors dyn n d rest

/-- Decode a compressed block of `n` sectors whose CRC-32C is `crc`: the plaintext, or a reason from 2 to 7 (R367). -/
def decodeCompressed (n crc : Nat) (l : List Byte) : Except Nat (List Byte) :=
  let flags := (l.getD 1 0).toNat
  if l.length < 8 || l.getD 0 0 != 1 || flags > 1 || (l.getD 2 0).toNat != n || l.getD 3 0 != 0 ||
      leNat ((l.drop 4).take 4) != l.length then .error 2
  else
    let body := l.drop 8
    let lens := ((body.take 136).flatMap fun b => [b.toNat % 16, b.toNat / 16])
    if flags = 1 && (body.length < 136 || !tableOk lens) then .error 3
    else
      let dyn := if flags = 1 then some (canonicalCodes lens) else none
      let rest := if flags = 1 then body.drop 136 else body
      match decodeSectors dyn n { out := #[], ctx := ctxEmpty } rest with
      | .error r => .error r
      | .ok d =>
        let plain := d.out.toList.map (BitVec.ofNat 8)
        if crc32c plain = crc then .ok plain else .error 7

/-- Decode a stored block (R367): a raw block has its length and CRC judged only. -/
def decodeBlock (raw : Bool) (n crc : Nat) (l : List Byte) : Except Nat (List Byte) :=
  if raw then if crc32c l = crc then .ok l else .error 7 else decodeCompressed n crc l

end Sys2Proof.Machine
end

