-- ==== Sys2Proof/Machine/KeyOps.lean ====
section
/-!
DEFINITION. Machine/KeyOps.lean: the cipher block's shared operations (chapter 13): key slots and records, key-encryption keys
(R116), the IV and the additional data of a seal (R379, R380), sealing and opening, and the modes of tally sectors and cipher
jobs (R383, R384).
-/

namespace Sys2Proof.Machine

/-- The bytes of an ASCII string. -/
def ascii (t : String) : List Byte := t.toList.map fun c => BitVec.ofNat 8 c.toNat

/-- Tenant of a KEY_ID (R385). -/
def keyTenant (id : Nat) : Nat := bitsOf id 16 12

/-- Usage of a KEY_ID (R385): 0 NATIVE, 1 TALLY, 2 JOB. -/
def keyUsage (id : Nat) : Nat := bitsOf id 28 2

/-- The key-encryption key of a tenant under an owner slot (R116). -/
def State.kek (s : State) (tenant owner : Nat) : Nat :=
  let o := s.idn.fuses.owners.getD owner OwnerFuse.blank
  Config.shake256 (ascii "LXKEK" ++ leBytes 32 o.secret ++ leBytes 2 tenant ++ leBytes 64 o.digest) 32

/-- Is an owner slot enrolled, and neither revoked nor spoiled (R108, R117)? -/
def OwnerFuse.usable (o : OwnerFuse) : Bool := o.enrolled && o.enrolCommit && !(o.revoked && o.revokeCommit) && !(o.spoiled && o.spoilCommit)

/-- The data key of a wrapped record (R388): none where the slot is unusable, the unwrap fails its integrity check, or the
embedded KEY_ID or NSID differs. -/
def State.unwrapKey (s : State) (r : KeyRecord) : Option Nat :=
  if (s.idn.fuses.owners.getD r.ownerSlot OwnerFuse.blank).usable then
    match Config.unwrap r.alg (s.kek (keyTenant r.keyId) r.ownerSlot) r.value with
    | some v => if v / 2 ^ 256 % 2 ^ 32 = r.keyId ∧ v / 2 ^ 288 % 2 ^ 32 = r.nsid then some (v % 2 ^ 256) else none
    | none => none
  else none

/-- The check value of a fall-back key (R394). -/
def fallbackCheck (key : Nat) : Nat := Config.shake256 (ascii "LXKCV" ++ leBytes 32 key) 16

/-- The slot that holds a KEY_ID, with its index. -/
def State.keySlot (s : State) (id : Nat) : Option (Nat × KeySlot) := s.cph.slots.find? fun p => p.2.keyId == id

/-- Is the key of a KEY_ID LOADED? -/
def State.keyLoaded (s : State) (id : Nat) : Option KeySlot :=
  match s.keySlot id with
  | some (_, k) => if k.st == .loaded then some k else none
  | none => none

/-- Slots LOADED, as CPH_STATUS reports them. -/
def State.keyStatus (s : State) : State :=
  s.wr Reg.CPH_STATUS_LOADED 0 0 (s.cph.slots.filter fun p => p.2.st == .loaded).length

/-- Change the slot of a KEY_ID. -/
def State.modKey (s : State) (id : Nat) (f : KeySlot → KeySlot) : State :=
  match s.keySlot id with
  | some (i, k) => { s with cph := { s.cph with slots := tset s.cph.slots i (f k) } }
  | none => s

/-- REFS of a key rises or falls by one block (R392). -/
def State.keyRef (s : State) (id : Nat) (up : Bool) : State :=
  s.modKey id fun k => { k with refs := if up then k.refs + 1 else k.refs - 1 }

/-- Put a key or an unavailable record into the lowest free slot (R389, R391). -/
def State.fillSlot (s : State) (r : KeyRecord) (key : Option Nat) (refs : Nat) : State :=
  let at' := match s.keySlot r.keyId with
    | some (i, _) => some i
    | none => tfree s.cph.slots 0 65536
  match at' with
  | some i =>
    let k : KeySlot := { keyId := r.keyId, nsid := r.nsid, st := if key.isSome then .loaded else .unavailable, fallback := r.alg == 2,
                         key := key.getD 0, turn := s.now, refs := refs }
    ({ s with cph := { s.cph with slots := tset s.cph.slots i k } } : State).keyStatus
  | none => s

/-- Stored blocks sealed under a key (R392), as the headers of the stored versions name them. -/
def State.storedUnder (s : State) (id : Nat) : Nat := (s.lay.heads.map fun p => (p.2.filter (· == id)).length).sum

/-- Unwrap one stored record into a slot (R391): a record that cannot be unwrapped leaves its slot UNAVAILABLE. -/
def State.unwrapRecord (s : State) (r : KeyRecord) : State :=
  let refs := match s.keySlot r.keyId with
    | some (_, k) => k.refs
    | none => s.storedUnder r.keyId
  if r.alg = 2 then
    (s.fillSlot r none refs).raise Ev.keyUnavailable Sev.error 0 2 r.keyId 0
  else
    match s.unwrapKey r with
    | some k => s.fillSlot r (some k) refs
    | none => (s.fillSlot r none refs).raise Ev.keyUnavailable Sev.error 0 1 r.keyId 0

/-- Unwrap every stored record (R118, R391). -/
def State.unwrapAll (s : State) : State := s.cph.records.foldl (fun s p => s.unwrapRecord p.2) s

/-- An owner slot is revoked (R117, R118, R390): every key that its blobs wrap is UNAVAILABLE. -/
def State.ownerGone (s : State) (owner : Nat) : State :=
  let gone := (s.cph.records.filter fun p => decide (p.2.alg < 2) && p.2.ownerSlot == owner && (s.keyLoaded p.1).isSome).map (·.1)
  (gone.foldl (fun s id => (s.modKey id fun k => { k with st := .unavailable, key := 0 }).raise Ev.keyUnavailable Sev.error 0 1 id 0) s).keyStatus

/-- FIELD of an IV (R380): the canister in bit 31, the epoch below. -/
def State.ivField (s : State) : Nat := s.cfg.canister * 2 ^ 31 + s.cph.epoch % 2 ^ 31

/-- The next IV as the 12 bytes of R380, little-endian, and the state with INVOCATION advanced. -/
def State.nextIv (s : State) : Nat × State :=
  (s.ivField + 2 ^ 32 * s.cph.invoc,
   ({ s with cph := { s.cph with invoc := s.cph.invoc + 1 } } : State).wr Reg.CPH_INVOC 0 0 (s.cph.invoc + 1))

/-- The additional authenticated data of a block's seal (R379). -/
def sealAad (keyId nsid extent index : Nat) (raw : Bool) (sectors first crc : Nat) : List Byte :=
  leBytes 4 keyId ++ leBytes 4 nsid ++ leBytes 8 extent ++ leBytes 1 index ++ leBytes 1 (b2n raw) ++ leBytes 1 sectors ++
    leBytes 1 first ++ leBytes 4 crc ++ leBytes 8 0

/-- Exclusive or of two byte strings, as long as the first. -/
def xorBytes : List Byte → List Byte → List Byte
  | [], _ => []
  | a :: as, [] => a :: as
  | a :: as, b :: bs => (a ^^^ b) :: xorBytes as bs

/-- Seal a stored block with AES-256-GCM (R379): ciphertext and tag. -/
def sealBytes (key iv : Nat) (aad plain : List Byte) : List Byte × Nat :=
  let c := xorBytes plain (Config.gcmStream key iv plain.length)
  (c, Config.gcmTag key iv aad c)

/-- Open a sealed block: none where the tag fails (R399). -/
def openBytes (key iv tag : Nat) (aad cipher : List Byte) : Option (List Byte) :=
  if Config.gcmTag key iv aad cipher = tag then some (xorBytes cipher (Config.gcmStream key iv cipher.length)) else none

/-- CBC encryption of whole 16-byte blocks, as numbers. -/
def cbcEncrypt (key : Nat) : Nat → List Nat → List Nat
  | _, [] => []
  | iv, p :: ps => let c := Config.aesEncrypt key (p ^^^ iv); c :: cbcEncrypt key c ps

/-- CBC decryption of whole blocks. -/
def cbcDecrypt (key : Nat) : Nat → List Nat → List Nat
  | _, [] => []
  | iv, c :: cs => (Config.aesDecrypt key c ^^^ iv) :: cbcDecrypt key c cs

/-- The 128-bit number whose bytes, most significant first, are the bytes of another, least significant first. -/
def flip128 (v : Nat) : Nat := (leBytes 16 v).foldl (fun a b => 256 * a + b.toNat) 0

/-- CTR over whole blocks: the counter block counts as a big-endian integer, modulo 2^128 (R384). -/
def ctrMode (key : Nat) : Nat → List Nat → List Nat
  | _, [] => []
  | iv, p :: ps => (p ^^^ Config.aesEncrypt key iv) :: ctrMode key (flip128 ((flip128 iv + 1) % 2 ^ 128)) ps

/-- CFB-128 encryption. -/
def cfbEncrypt (key : Nat) : Nat → List Nat → List Nat
  | _, [] => []
  | iv, p :: ps => let c := p ^^^ Config.aesEncrypt key iv; c :: cfbEncrypt key c ps

/-- CFB-128 decryption. -/
def cfbDecrypt (key : Nat) : Nat → List Nat → List Nat
  | _, [] => []
  | iv, c :: cs => (c ^^^ Config.aesEncrypt key iv) :: cfbDecrypt key c cs

/-- The 16-byte blocks of a byte string as numbers, the first byte least significant; the fuel is the number of blocks. -/
def blocks16 : Nat → List Byte → List Nat
  | 0, _ => []
  | n + 1, l => leNat (l.take 16) :: blocks16 n (l.drop 16)

/-- The bytes of a list of 16-byte blocks. -/
def unblocks16 (l : List Nat) : List Byte := l.flatMap (leBytes 16)

/-- Transform the bytes of a cipher job (R384): mode 0 CBC, 1 CTR, 2 CFB-128. -/
def cipherMode (mode : Nat) (decrypt : Bool) (key iv : Nat) (l : List Byte) : List Byte :=
  let b := blocks16 (l.length / 16) l
  let r := if mode = 0 then (if decrypt then cbcDecrypt key iv b else cbcEncrypt key iv b)
    else if mode = 1 then ctrMode key iv b
    else if decrypt then cfbDecrypt key iv b else cfbEncrypt key iv b
  unblocks16 r

/-- Encrypt the 4,096 data bytes of a tally sector (R383): CBC with the LBA as IV. -/
def tallyEncrypt (key lba : Nat) (l : List Byte) : List Byte := unblocks16 (cbcEncrypt key (lba % 2 ^ 64) (blocks16 256 l))

/-- Decrypt the 4,096 data bytes of a tally sector (R383). -/
def tallyDecrypt (key lba : Nat) (l : List Byte) : List Byte := unblocks16 (cbcDecrypt key (lba % 2 ^ 64) (blocks16 256 l))

end Sys2Proof.Machine
end

