-- ==== Sys2Proof/Machine/DevOps.lean ====
section
/-!
DEFINITION. Machine/DevOps.lean: device states and what leaving service does: state changes with their ANA state (R72, R73,
R287), the end of an activation (R104), deposition (R588), withdrawal (R594), the IV epoch (R381), resets (R73, R554, R657) and
SAFE_HOLD (R93).
-/

namespace Sys2Proof.Machine

/-! ### Messages of the Pawn protocol -/

/-- Pawn message types (R573). -/
abbrev Pawn.challenge : Nat := 1
abbrev Pawn.proof : Nat := 2
abbrev Pawn.request : Nat := 3
abbrev Pawn.grant : Nat := 4
abbrev Pawn.deny : Nat := 5
abbrev Pawn.release : Nat := 6

/-- The number of a connection in the record of outputs: witness w, or 16 + 2 × shelf + canister. -/
def connCode : PawnConn → Nat
  | .witness w => w
  | .client shelf canister => 16 + 2 * shelf + canister

/-- Send a Pawn message: connection, type, REASON, FLAGS, WAIT_MS, REQ_SEQ, LEASE_ID, CHALLENGE (R572). -/
def State.pawnSend (s : State) (conn : PawnConn) (type reason flags wait reqSeq lease challenge : Nat) : State :=
  s.emit .pawn [connCode conn, type, reason, flags, wait, reqSeq, lease, challenge]

/-- FLAGS of this canister's messages (R572): ELIGIBLE, WARM, FORMER, PLANNED. -/
def State.pawnFlags (s : State) (planned : Bool) : Nat :=
  b2n s.fov.eligible + 2 * b2n (s.fov.warmth == .warm || s.serving) + 4 * b2n s.fov.former + 8 * b2n planned

/-- The FAILOVER section of the running image. -/
def State.failoverSec (s : State) : Option SecFailover :=
  match s.section? 0x10 with
  | some (.failover f) => some f
  | _ => none

/-- Witnesses that the image configures. -/
def State.witnessCount (s : State) : Nat := match s.failoverSec with
  | some f => min 4 f.witnesses.length
  | none => 0

/-- A connection to a witness. -/
def State.wit (s : State) (w : Nat) : Witness := s.fov.wits.getD w Witness.none

/-- Change a connection to a witness. -/
def State.modWit (s : State) (w : Nat) (f : Witness → Witness) : State := { s with fov := { s.fov with wits := lmod s.fov.wits w f } }

/-- Send RELEASE to every witness whose connection is READY (R573): its grant ends now. -/
def State.sendRelease (s : State) (reason : Nat) (only : Nat → Bool) : State :=
  foldIdx s.witnessCount (fun w s =>
    if (s.wit w).st == .ready && only w then
      (s.modWit w fun x => { x with cutoff := 0, expiry := 0, waiting := none, reqs := [], denied := none }).pawnSend (.witness w) Pawn.release reason (s.pawnFlags (reason == 0)) 0 s.fov.reqSeq (s.wit w).lease 0
    else s) s

/-- Send YIELD to the peer (R579). -/
def State.sendYield (s : State) (reason : Nat) (planned : Bool) : State := s.emit .peer [Peer.yield, 0, reason, b2n planned]

/-! ### Device states -/

/-- The ANA state that a device state gives (R287). -/
def anaOf : DevState → Nat
  | .active | .activating => 1
  | .standby => 3
  | .boot | .safeHold | .shelfIdle | .recovery => 4

/-- Change the device state (R72): CFG_STATE.STATE, the State-change event, the ANA state (R287) and the demand of the slots
(R550). -/
def State.setDevState (s : State) (d : DevState) : State :=
  if s.cfg.state = d then s
  else
    let old := s.cfg.state
    let s : State := { s with cfg := { s.cfg with state := d } }
    let s := (s.wr Reg.CFG_STATE_STATE 0 0 d.code).raise Ev.stateChange Sev.notice 0 old.code d.code 0
    let s := s.setAna (anaOf d)
    s.updateDemand

/-- Record a fault in CFG_FAULT (R95). -/
def State.setFault (s : State) (code copy sect loc : Nat) : State :=
  (((s.wr Reg.CFG_FAULT_CODE 0 0 code).wr Reg.CFG_FAULT_COPY 0 0 copy).wr Reg.CFG_FAULT_SECTION 0 0 sect).wr Reg.CFG_FAULT_LOC 0 0 loc

/-- Fault codes of R95. -/
abbrev Fc.forced : Nat := 1
abbrev Fc.fuse : Nat := 2
abbrev Fc.selfTest : Nat := 3
abbrev Fc.dram : Nat := 4
abbrev Fc.spi : Nat := 5
abbrev Fc.header : Nat := 6
abbrev Fc.fwStart : Nat := 0xE
abbrev Fc.activation : Nat := 0xF

/-- Every slot channel turns off at once, with no shutdown notification (R554). -/
def State.slotsOff (s : State) : State :=
  foldIdx 24 (fun i s =>
    let c := s.chan i
    let s := s.modChan i fun c => { c with demand := false, cycleArmed := none, retryArmed := none }
    let s := match c.st with
      | .waitInput => s.chanIdle i
      | .starting | .on | .stopping => s.gateOff i .idle
      | _ => s
    s.modSlot i fun d => if d.st == .empty then d else { Slot.none with st := .off, serial := d.serial, label := d.label, entries := d.entries }) s

/-- Every network port and peer lane goes down (R93, R134). -/
def State.portsDown (s : State) : State :=
  let s : State := { s with eth := s.eth.map fun _ => Link.off }
  foldIdx 18 (fun u s => s.wr Reg.ETH_PORT_STATUS_LSTATE u 0 0) s

/-- The endpoint's link starts to train once SEP_PERST_N is released and a copy has passed step 7 or SAFE_HOLD is entered (R601). -/
def State.sepStart (s : State) : State :=
  if !s.inReset && !s.sep.perst && s.sep.link == .held && (s.cfg.running.isSome || s.cfg.state == .safeHold) then { s with sep := { s.sep with link := .training } } else s

/-- Every MSI-X vector is masked, as PCIe has it after a reset (R614). -/
def State.maskVectors (s : State) : State := foldIdx 256 (fun v s => s.wr Reg.SEP_MSIX_TABLE 0 (4 * v + 3) 1) s

/-- Nothing that a state before SAFE_HOLD had under way goes on there: the wait for PTP, arbitration, a takeover, a hand-over, a rebuild
of the map, an activation (R93: SAFE_HOLD is left on reset only). -/
def State.stopEverything (s : State) : State :=
  { s with
    cfg := { s.cfg with phase := .done, activation := none, commit := none, release := none }
    trn := { s.trn with acqArmed := none, reloadArmed := none, alignPending := false }
    fov := { s.fov with takeover := none, requesting := none, backoff := none, renewArmed := none, helloArmed := none, built := false, copying := false, handOver := none, handOverHold := false }
    jnl := { s.jnl with replay := none, product := none }
    deferred := s.deferred.filter fun d => match d with
      | .align _ => false
      | .activationHold => false
      | .activationResume => false
      | _ => true }

/-- Enter SAFE_HOLD (R73, R93). -/
def State.enterSafeHold (s : State) : State :=
  let s := s.stopEverything
  (((s.setDevState .safeHold).slotsOff).portsDown).sepStart

/-- Enter SAFE_HOLD from the boot sequence with a fault (R89, R95). -/
def State.bootFault (s : State) (code copy sect loc : Nat) : State := (s.setFault code copy sect loc).enterSafeHold

/-! ### The end of an activation -/

/-- Abandon an activation whose cores have not restarted (R104): the state before it returns and the commit fails. -/
def State.abandonActivation (s : State) : State :=
  match s.cfg.activation with
  | some a =>
    if a.step == .waiting || a.step == .holding then
      let s : State := { s with cfg := { s.cfg with activation := none } }
      let s := if s.cfg.state == .activating then s.setDevState a.prior else s
      (s.endTask (adminCore a.job.cid) a.job.ctrl a.job.cid).replyErr a.job.ctrl a.job.cid St.prohibited
    else s
  | none => s

/-! ### Leaving service -/

/-- The key of an extent in the map. -/
def extKey (nsid extent : Nat) : Nat := nsid * 2 ^ 64 + extent

/-- Drop the writes of a canister that may no longer journal (R463, R588): versions that are not durable leave the map, and
stripes, gatherings, reads, walks and journal records go. -/
def State.dropWrites (s : State) : State :=
  let undone := s.lay.placed.filter fun p => !p.durable
  let map := undone.reverse.foldl (init := s.lay.map) fun m p =>
    let k := extKey p.nsid p.extent
    if tget m k = some p.ent then (if p.prev = MapEnt.empty then tdel m k else tset m k p.prev) else m
  let chains := s.win.blocks.filterMap fun p => if p.2.owner.isSome then p.2.chain else none
  let held := s.lay.reads.flatMap fun p => p.2.bufs
  let bufs := s.win.blocks.filterMap fun p => if p.2.owner.isSome then p.2.buf else none
  let s : State := { s with
    lay := { s.lay with map := map, stripes := [], gathering := [], placed := [], reads := [], writes := [], groups := s.lay.groups.map fun g => { g with segs := (g.segs.map fun p => (p.1, { p.2 with readers := 0 })).filter fun p => p.2.live != 0 } }
    jnl := { s.jnl with recs := [], tallies := [], held := false, stalled := none, roles := s.jnl.roles.map fun r => { r with writes := [], queue := [], pad := 0 } }
    axl := { s.axl with walks := [], scrubs := [] }
    cmp := { s.cmp with jobs := [] }
    cph := { s.cph with sealing := false, reseal := none, loads := [] }
    win := { s.win with blocks := s.win.blocks.filter fun p => p.2.owner.isNone } }
  ((s.decrefs chains).decrefs bufs).decrefs held

/-- End every I/O command of a canister that lost the Pawn (R288): completions of admitted write-class commands are discarded,
everything else completes with ANA Transition. -/
def State.endCommands (s : State) : State :=
  let s := s.cmd.entries.foldl (init := s) fun s p =>
    if p.2.admitted && p.2.kind.writeClass then (s.modEntry p.1 fun e => { e with discard := true }).finishOne p.1 St.ok 0 0
    else s.finishOne p.1 St.anaTransition 0 0
  s.settleFlushes

/-- Complete the management commands that wait for a write of the metadata stream, which a deposed canister makes no more: each may be
repeated on the other canister (notes/assumptions/7.md). -/
def State.endStreamCommands (s : State) : State :=
  let waits := s.lay.writes.filterMap fun w => match w with
    | .keyGone c i _ | .current c i _ _ => some (c, i)
    | .batch _ _ | .record _ | .keyRecord _ => none
  let loads := (s.cph.loads.filter fun l => l.fbk.isNone).map fun l => (l.ctrl, l.cid)
  (waits ++ loads).foldl (fun s w => s.replyErr w.1 w.2 St.interrupted) s

/-- What R588 asks of a canister whose Pawn stops being valid, or that sends RELEASE or YIELD: `release` is the REASON of the
RELEASE it sends (255: none), `yield` the REASON of its YIELD. -/
def State.depose (s : State) (release yield : Nat) : State :=
  let s := s.setAna 0xF
  let s := (s.endCommands.endStreamCommands).dropWrites
  let s := s.revokeWhere fun _ => true
  let s : State := { s with drv := s.drv.map fun d => { d with ioQueues := false }, cmd := { s.cmd with zones := [] } }
  let s := match s.cmd.selfTest with
    | some _ => s.endSelfTest 8 0
    | none => s
  let s := if release = 255 then s else s.sendRelease release fun _ => true
  let s := s.sendYield yield (release == 0)
  let s := foldIdx 4 (fun w s => s.modWit w fun x => { x with cutoff := 0, expiry := 0 }) s
  let s : State := { s with fov := { s.fov with holder := false, valid := false, former := true, warmth := .warm, handOverHold := false, handOver := none, takeover := none, requesting := none, renewArmed := none, backoff := none } }
  let s := (s.setDevState .standby).raise Ev.pawnLost Sev.warning s.cfg.canister yield 0 0
  (s.bump Reg.FOV_COUNTS 0 0 65536).count 353 1 0

/-- A canister in RECOVERY discards what it built and becomes STANDBY (R585). -/
def State.discardBuilt (s : State) : State :=
  let s : State := { s with
    fov := { s.fov with takeover := none, requesting := none, backoff := none, built := false, helloArmed := none, warmth := .cold, copying := false, held := [] }
    jnl := { s.jnl with product := none, replay := none, tallies := [] }
    cmd := { s.cmd with zones := [] } }
  s.setDevState .standby

/-- Withdraw from service (R73, R594): the fatal event, ELIGIBLE cleared until reset, and the state that R73 gives. -/
def State.withdraw (s : State) (cause : Nat) : State :=
  let s := s.raise Ev.withdrawal Sev.fatal 0 cause 0 0
  let s := s.abandonActivation
  let s : State := { s with fov := { s.fov with eligible := false } }
  match s.cfg.state with
  | .active | .activating => s.defer (.depose 1 4)
  | .recovery => s.discardBuilt
  | _ => s

/-- Read the epoch, add one and write the new value with FUA (R381); sealing waits for IV_EPOCH_DURABLE. An epoch past
0x7FFF_FFFF withdraws the canister. -/
def State.startEpoch (s : State) : State :=
  let n := tgetD s.cph.epochs s.cfg.canister 0 + 1
  if 0x7FFFFFFF < n then s.withdraw 3
  else
    let s : State := { s with cph := { s.cph with epoch := n, sealing := false, invoc := 0 } }
    (((s.wr Reg.CPH_EPOCH 0 0 s.ivField).wr Reg.CPH_STATUS_SEALING 0 0 0).wr Reg.CPH_INVOC 0 0 0).emit .store [3, s.cfg.canister, n]

/-! ### Reset -/

/-- A fuse array whose programming has stopped (R129, R657): what is blown stays. -/
def State.keptFuses (s : State) : Idn := { idnReset with fuses := s.idn.fuses, fuseOk := false, vppFuse := false }

/-- A slot channel across a reset of Daxzin (R547, R554): its gate is off and FET_DAMAGED is clear; what the companion knows of
the slot stays. -/
def Chan.afterReset (c : Chan) : Chan :=
  let st := match c.st with
    | .empty => ChanState.empty
    | .inserting => .inserting
    | .fault => if c.damaged then .idle else .fault
    | _ => .idle
  { Chan.none with st := st, present := c.present, cause := if c.damaged then 0 else c.cause, retries := c.retries, insertArmed := if st == .inserting then some 0 else Option.none, retryArmed := if st == .fault then some 0 else Option.none }

/-- A feed channel across a reset: its state stays (R554), and its running timers start again with the Turn count. -/
def Feed.afterReset (f : Feed) : Feed :=
  let again := fun (t : Option Nat) => t.map fun _ => 0
  { f with insertArmed := again f.insertArmed, windowArmed := again f.windowArmed, retryArmed := again f.retryArmed, goodArmed := again f.goodArmed }

/-- What an anchor role keeps on the members (R453, R688). -/
def Role.kept (r : Role) : Role := { Role.none with slot := r.slot, gen := r.gen, epoch := r.epoch }

/-- A reset of Daxzin (R73, R554, R657): every block returns to its reset values, but for SPI NOR, fuses, what the members store
(the shelf metadata stream), the power companions, and the model's own records. -/
def State.partReset (s : State) (phase : BootPhase) (asserted : Bool) : State :=
  let r := State.reset
  { r with
    pending := s.pending, outbox := s.outbox, free := s.free, deferred := []
    cfg := { r.cfg with spi := s.cfg.spi, phase := phase, resetAsserted := asserted, thermTrip := phase == .thermalHeld }
    idn := s.keptFuses
    cmd := { r.cmd with nss := s.cmd.nss, zones := s.cmd.zones, markers := s.cmd.markers, lost := s.cmd.lost, lostTotal := s.cmd.lostTotal }
    cph := { r.cph with records := s.cph.records, current := s.cph.current, epochs := s.cph.epochs }
    lay := { r.lay with stream := s.lay.stream, groups := s.lay.groups.map fun g => { Grp.none with k := g.k }, batches := s.lay.batches, lastBatch := s.lay.lastBatch, heads := s.lay.heads, logSince := s.lay.logSince, logPos := s.lay.logPos, ckptDone := s.lay.ckptDone, tallyLost := s.lay.tallyLost }
    jnl := { r.jnl with roles := s.jnl.roles.map Role.kept, trailer := s.jnl.trailer }
    axl := { r.axl with poses := s.axl.poses, reshape := s.axl.reshape, progress := s.axl.progress }
    drv := s.pwr.slots.map fun c => if c.present then { Slot.none with st := .off } else Slot.none
    pwr := { r.pwr with slots := s.pwr.slots.map Chan.afterReset, feeds := s.pwr.feeds.map Feed.afterReset, transfer := s.pwr.transfer, dead := s.pwr.dead, warn := s.pwr.warn }
    fov := { r.fov with setStates := s.fov.setStates, replica := s.fov.replica }
    sep := { r.sep with perst := s.sep.perst } }

end Sys2Proof.Machine
end

