-- ==== Sys2Proof/Machine/CacheOps.lean ====
section
/-!
DEFINITION. Machine/CacheOps.lean: the gather cache's shared operations (R312 to R326, R335): geometry, lookup, replacement,
line locks, the effect of member writes, and what Salamander's operations ask of a line (R327 to R332).
-/

namespace Sys2Proof.Machine

/-! ### Geometry -/

/-- The member byte address of a group's row on one of its members (R405, R406, R447). -/
def State.unitAddr (s : State) (g p row : Nat) : Nat :=
  let x := s.grp g
  if x.tally then x.baseLba * 4096 + row * 65536
  else
    let anchor := (s.roleOfSlot (s.pos g p).slot).isSome
    let meta' := match s.layoutSec with
      | some l => l.metadataGib
      | none => 0
    (if anchor then (65 + meta') * 2 ^ 30 else 2 ^ 30) + row * 65536

/-- Line and sub-block of a member byte address (R313). -/
def lineOf (a : Nat) : Nat × Nat := (a / 2 ^ 20, a / 65536 % 16)

/-- The set of a key (R313). -/
def State.cacheSet (s : State) (slot line : Nat) : Nat := if s.gch.sets = 0 then 0 else (line ^^^ (slot * 256)) % s.gch.sets

/-- The tag that matches a key: set and way as one number, and the line. -/
def State.findLine (s : State) (slot line : Nat) : Option (Nat × Line) :=
  let set := s.cacheSet slot line
  (List.range 16).findSome? fun w =>
    match tget s.gch.lines (16 * set + w) with
    | some l => if l.slot == slot && l.line == line then some (16 * set + w, l) else none
    | none => none

/-- The key of a line in the lock table. -/
def lockKey (slot line : Nat) : Nat := 2 ^ 32 * slot + line

/-- Is a line's lock held in either mode (R316)? -/
def State.lineLocked (s : State) (slot line : Nat) : Bool :=
  s.gch.exclusive.contains (lockKey slot line) || thas s.gch.shared (lockKey slot line)

/-- The active way mask of a class (R321, R322). -/
def State.wayMask (s : State) (cls : Nat) : Nat := tgetD s.gch.masks.act cls 0xFFFF

/-- Do reads of a class look the cache up, and does a read miss allocate, and does a write allocate (R319)? -/
def clsLooksUp (c : Nat) : Bool := c != 7
def clsReadAllocates (c : Nat) : Bool := [2, 3, 5, 6].contains c
def clsWriteAllocates (c : Nat) : Bool := [0, 2, 3, 5, 6].contains c

/-- Dirty sub-blocks of a mask. -/
def popCount (m : Nat) : Nat := ((List.range 16).filter (bitOf m)).length

/-- Report GCH_DIRTY, GCH_PINNED and GCH_DEAD. -/
def State.cacheStatus (s : State) : State :=
  let dirty := (s.gch.lines.map fun p => popCount p.2.dirty).sum
  let pinned := (s.gch.lines.filter fun p => p.2.pin).length
  ((s.wr Reg.GCH_DIRTY 0 0 dirty).wr Reg.GCH_PINNED 0 0 pinned).wr Reg.GCH_DEAD 0 0 s.gch.dead.length

/-- Replace a line; a line with no valid sub-block does not exist (R314). -/
def State.setLine (s : State) (k : Nat) (l : Line) : State :=
  { s with gch := { s.gch with lines := if l.valid = 0 then tdel s.gch.lines k else tset s.gch.lines k l } }

/-! ### Replacement -/

/-- Mark a way as most recently used in a 15-bit tree: the bits on its path point away from it (R325). -/
def plruTouch (tree way : Nat) : Nat :=
  let step := fun (acc : Nat × Nat) (bit : Nat) => (setBitOf acc.1 acc.2 (bit == 0), 2 * acc.2 + 1 + bit)
  ([way / 8 % 2, way / 4 % 2, way / 2 % 2, way % 2].foldl step (tree, 0)).1

/-- The way that the tree names among eligible ways: at each node the side that the bit names, or the other where that side holds
no eligible way (R325). -/
def plruPick (tree : Nat) (ok : Nat → Bool) : Nat → Nat → Nat → Nat → Option Nat
  | 0, _, lo, _ => if ok lo then some lo else none
  | d + 1, node, lo, n =>
    let half := n / 2
    let left := (List.range half).any fun i => ok (lo + i)
    let right := (List.range half).any fun i => ok (lo + half + i)
    if !left && !right then none
    else
      let goRight := if bitOf tree node then right else !left
      if goRight then plruPick tree ok d (2 * node + 2) (lo + half) half else plruPick tree ok d (2 * node + 1) lo half

/-- The victim of an allocation (R325): an empty way of the mask, or a clean, unpinned, unlocked one that the tree names. -/
def State.victim (s : State) (set mask : Nat) : Option Nat :=
  let usable := fun w => bitOf mask w && !s.gch.dead.contains (16 * set + w)
  match (List.range 16).find? fun w => usable w && !thas s.gch.lines (16 * set + w) with
  | some w => some w
  | none =>
    let ok := fun w => usable w && (match tget s.gch.lines (16 * set + w) with
      | some l => l.dirty == 0 && !l.pin && !s.lineLocked l.slot l.line
      | none => false)
    plruPick (tgetD s.gch.plru set 0) ok 4 0 0 16

/-- Mark the way of a line as most recently used. -/
def State.touchLine (s : State) (k : Nat) : State :=
  { s with gch := { s.gch with plru := tset s.gch.plru (k / 16) (plruTouch (tgetD s.gch.plru (k / 16) 0) (k % 16)) } }

/-- Count an access that bypasses the cache (R326). -/
def State.bypass (s : State) : State := (s.bumpWrap Reg.GCH_BYPASS 0 0 1).count 168 1 0

/-- The way for a line of a class: its own tag, or a victim's place (R315, R325). None: the access bypasses. -/
def State.allocLine (s : State) (slot line cls : Nat) : Option (Nat × Line) :=
  match s.findLine slot line with
  | some r => some r
  | none =>
    let set := s.cacheSet slot line
    match s.victim set (s.wayMask cls) with
    | some w => some (16 * set + w, { slot := slot, line := line, cls := cls, valid := 0, dirty := 0, pin := false })
    | none => none

/-! ### Accesses -/

/-- Count a lookup of a class (GCH_HIT, GCH_MISS). -/
def State.countLookup (s : State) (cls : Nat) (hit : Bool) : State :=
  if hit then (s.bumpWrap Reg.GCH_HIT 0 cls 1).count (152 + 2 * cls) 1 cls
  else (s.bumpWrap Reg.GCH_MISS 0 cls 1).count (153 + 2 * cls) 1 cls

/-- A read of one sub-block by a class (R315, R319, R326, R336): a hit touches the line; a miss of an allocating class takes a way
and starts a fill of that sub-block under the line's lock. -/
def State.cacheRead (s : State) (slot a cls seq : Nat) : State :=
  let (line, sub) := lineOf a
  if !clsLooksUp cls then s
  else
    let hit := s.gch.st != .off && (match s.findLine slot line with
      | some (_, l) => bitOf l.valid sub
      | none => false)
    let s := s.countLookup cls hit
    if hit then (match s.findLine slot line with
      | some (k, _) => s.touchLine k
      | none => s)
    else if !clsReadAllocates cls then s
    else if s.gch.st != .on || s.gch.sets = 0 then s.bypass
    else match s.allocLine slot line cls with
      | some (k, l) =>
        let s := if l.valid = 0 then { s with gch := { s.gch with lines := tset s.gch.lines k l } } else s
        let f : Fill := { slot := slot, line := line, subs := 2 ^ sub, cls := cls, seq := seq, pin := false }
        { s with gch := { s.gch with fills := s.gch.fills ++ [f], exclusive := if s.gch.exclusive.contains (lockKey slot line) then s.gch.exclusive else lockKey slot line :: s.gch.exclusive } }
      | none => s.bypass

/-- Place bytes bound for a sub-block in a line (R319, R325, R326): it becomes valid and dirty. -/
def State.cacheDirty (s : State) (slot a cls : Nat) : State :=
  let (line, sub) := lineOf a
  if s.gch.st != .on || s.gch.sets = 0 || !clsWriteAllocates cls then s.bypass
  else match s.allocLine slot line cls with
    | some (k, l) =>
      ((s.setLine k { l with valid := setBitOf l.valid sub true, dirty := setBitOf l.dirty sub true }).touchLine k).cacheStatus
    | none => s.bypass

/-- Is a sub-block dirty? -/
def State.subDirty (s : State) (slot a : Nat) : Bool :=
  match s.findLine slot (lineOf a).1 with
  | some (_, l) => bitOf l.dirty (lineOf a).2
  | none => false

/-- A write-back of a sub-block is awaited no longer. -/
def State.notAwaited (s : State) (slot a : Nat) : State :=
  let k := lockKey slot (lineOf a).1
  match tget s.sal.awaited k with
  | some m =>
    let n := setBitOf m (lineOf a).2 false
    { s with sal := { s.sal with awaited := if n = 0 then tdel s.sal.awaited k else tset s.sal.awaited k n } }
  | none => s

/-- A member write with FUA from a line has completed (R317): its sub-block is clean. -/
def State.cacheWritten (s : State) (slot a : Nat) : State :=
  match s.findLine slot (lineOf a).1 with
  | some (k, l) =>
    if bitOf l.dirty (lineOf a).2 then
      let s := s.setLine k { l with dirty := setBitOf l.dirty (lineOf a).2 false }
      ((s.count 169 1 slot).notAwaited slot a).cacheStatus
    else s
  | none => s

/-- A member write from another buffer (R317): a valid clean sub-block is no longer valid. -/
def State.cacheOverwritten (s : State) (slot a : Nat) : State :=
  match s.findLine slot (lineOf a).1 with
  | some (k, l) => if bitOf l.dirty (lineOf a).2 then s else (s.setLine k { l with valid := setBitOf l.valid (lineOf a).2 false }).cacheStatus
  | none => s

/-- A dirty unit whose write will not happen loses its line's claim (R317, R335, R424). -/
def State.cacheForget (s : State) (slot a : Nat) : State :=
  match s.findLine slot (lineOf a).1 with
  | some (k, l) => ((s.setLine k { l with dirty := setBitOf l.dirty (lineOf a).2 false, valid := setBitOf l.valid (lineOf a).2 false }).notAwaited slot a).cacheStatus
  | none => s

/-! ### Salamander -/

/-- Report the queue and the running operation (SAL_STATUS). -/
def State.salStatus (s : State) : State :=
  let busy := s.sal.run.isSome || s.sal.drain
  let s := (s.wr Reg.SAL_STATUS_BUSY 0 0 (b2n busy)).wr Reg.SAL_STATUS_DRAIN 0 0 (b2n s.sal.drain)
  let s := (s.wr Reg.SAL_STATUS_QUEUED 0 0 s.sal.queue.length).wr Reg.SAL_STATUS_WB_QUEUE 0 0 s.sal.wbQueue.length
  match s.sal.run with
  | some r => (s.wr Reg.SAL_PROGRESS 0 0 r.pos).wr Reg.SAL_TOTAL 0 0 r.total
  | none => s

/-- Queue an operation (R332): a full queue drops it and sets FULL. -/
def State.salQueue (s : State) (op : SalOp) : State :=
  if s.sal.queue.length < 16 then ({ s with sal := { s.sal with queue := s.sal.queue ++ [op] } } : State).salStatus
  else if op.internal then ({ s with sal := { s.sal with queue := s.sal.queue ++ [op] } } : State).salStatus
  else s.wr Reg.SAL_STATUS_FULL 0 0 1

/-- Queue the internal CLEAN_INVALIDATE of a slot whose member failed or was replaced (R317). -/
def State.salSlot (s : State) (slot : Nat) : State :=
  if s.gch.st == .off then s
  else s.salQueue { op := 3, all := false, cls := 0, filter := false, slot := slot, first := 0, count := 2 ^ 28, tag := 0, internal := true }

/-- An operation ends with a status (R332): SAL_LAST and the Salamander-done event with its tag. -/
def State.salEnd (s : State) (op : SalOp) (status skipped : Nat) : State :=
  if op.internal then s.count 170 1 status
  else
    let s := ((s.wr Reg.SAL_LAST_STATUS 0 0 status).wr Reg.SAL_LAST_SKIPPED 0 0 (min 8191 skipped)).wr Reg.SAL_LAST_TAG 0 0 op.tag
    (s.raise Ev.salamanderDone Sev.notice 0 status op.tag skipped).count 170 1 status

/-- Remove a line. -/
def State.removeLine (s : State) (k : Nat) : State := { s with gch := { s.gch with lines := tdel s.gch.lines k } }

end Sys2Proof.Machine
end

