-- ==== Sys2Proof/Machine/JnlOps.lean ====
section
/-!
DEFINITION. Machine/JnlOps.lean: the stripe journal's shared operations (chapter 15): forming records and their charge (R457 to
R459, R465, R466), composing journal writes on the rings (R456, R468), COMMIT_SEQ (R460), the anchor roles (R470 to R472) and the
batch trailer (R469).
-/

namespace Sys2Proof.Machine

/-- Bytes of a ring's record area (R454). -/
abbrev ringBytes : Nat := 65535 * 2 ^ 20

/-- Codes of the record types (R457). -/
def RecType.code : RecType → Nat
  | .intent => 1
  | .partialData => 2
  | .map => 3
  | .tally => 4
  | .tallyIntent => 1

/-- LENGTH of a record with `deltas` delta entries and `bytes` data bytes (R457, R458). -/
def recLength (deltas bytes : Nat) : Nat := 64 + 64 * deltas + ceilDiv bytes 64 * 64

/-- Does a role receive new records (R451)? -/
def Role.receives (r : Role) : Bool := r.st == .active || r.st == .seeding

/-- Roles that are ACTIVE. -/
def State.activeRoles (s : State) : List Nat := (List.range 3).filter fun a => (s.role a).st == .active

/-- Is a record committed on every ACTIVE anchor, with at least two ACTIVE (R460, R461)? -/
def State.committed (s : State) (seq : Nat) : Bool :=
  decide (2 ≤ s.activeRoles.length) && s.activeRoles.all fun a => decide (seq ≤ (s.role a).commit)

/-- Is a record committed on every ACTIVE anchor (R468: what keeps a record live)? -/
def State.onEveryActive (s : State) (seq : Nat) : Bool :=
  s.activeRoles != [] && s.activeRoles.all fun a => decide (seq ≤ (s.role a).commit)

/-- SEQ of the journal tail: the oldest live record, or the next SEQ when none is live (R468). -/
def State.tailSeq (s : State) : Nat := (s.jnl.recs.map (·.seq)).foldl min s.jnl.seq

/-- Ring offset of the tail on a role (R469). -/
def State.tailOffset (s : State) (a : Nat) : Nat := tgetD (s.role a).offs s.tailSeq (s.role a).head

/-- Live PARTIAL bytes: those of records that no re-seed wrote (R467). -/
def State.livePartial (s : State) : Nat :=
  ((s.jnl.recs.filter fun r => r.type == .partialData && !r.reseed).map (·.bytes)).sum

/-- Report the anchor roles, the sequence, the tail and the live bytes. -/
def State.jnlStatus (s : State) : State :=
  let s := foldIdx 3 (fun a s =>
    let r := s.role a
    let st := match r.st with
      | .active => 0
      | .seeding => 1
      | .failed => 2
      | .none => 3
    let s := ((s.wr Reg.JNL_ANCHOR_STATE a 0 st).wr Reg.JNL_ANCHOR_PROMOTED a 0 (b2n r.promoted)).wr Reg.JNL_ANCHOR_SLOT a 0 r.slot
    let s := (s.wr Reg.JNL_ANCHOR_EPOCH a 0 (r.epoch % 65536)).wr Reg.JNL_ANCHOR_HEAD a 0 r.head
    s.wr Reg.JNL_ANCHOR_COMMIT a 0 r.commit) s
  let s := ((s.wr Reg.JNL_SEQ 0 0 s.jnl.seq).wr Reg.JNL_TAIL 0 0 s.tailSeq).wr Reg.JNL_LIVE 0 0 s.livePartial
  let s := (s.wr Reg.JNL_STATUS_ACTIVE 0 0 s.activeRoles.length).wr Reg.JNL_STATUS_STALLED 0 0 (b2n s.jnl.stalled.isSome)
  let s := (s.wr Reg.JNL_STATUS_RING_HELD 0 0 (b2n s.jnl.held)).wr Reg.JNL_STATUS_REPLAYING 0 0 (b2n s.jnl.replay.isSome)
  (s.wr Reg.JNL_STATUS_SEEDING 0 0 (b2n (s.jnl.roles.any fun r => r.st == .seeding))).wr Reg.JNL_CREDIT 0 0 ((s.jnl.credit % (2 ^ 32 : Int)).toNat)

/-! ### Journal writes -/

/-- Bytes of a ring in use, from the tail to the head (R468). -/
def State.ringUsed (s : State) (a : Nat) : Nat :=
  let r := s.role a
  match tget r.offs s.tailSeq with
  | some o => (r.head + ringBytes - o) % ringBytes
  | none => 0

/-- The records of a queue that one journal write of at most 1 MiB takes (R456): at least the first. -/
def takeRecords : Nat → List (Nat × Nat) → List (Nat × Nat) × List (Nat × Nat)
  | _, [] => ([], [])
  | room, (q, n) :: t =>
    if n ≤ room then
      let r := takeRecords (room - n) t
      ((q, n) :: r.1, r.2)
    else ([], (q, n) :: t)

/-- Give records their ring offsets from `o` on (R456): a record never wraps. -/
def layRecords : Nat → List (Nat × Nat) → Tbl Nat → Nat × Tbl Nat
  | o, [], t => (o, t)
  | o, (q, n) :: l, t =>
    let o := if ringBytes < o + n then 0 else o
    layRecords (o + n) l (tset t q o)

/-- Issue one journal write on a ring, if records wait, fewer than 8 writes are outstanding and the ring has room (R456, R468). -/
def State.pumpOne (s : State) (a : Nat) : State :=
  let r := s.role a
  if !r.receives || decide (8 ≤ r.writes.length) then s
  else match r.queue with
  | [] => s
  | (q, n) :: t =>
    let (now, rest) := if 2 ^ 20 < n then ([(q, n)], t) else takeRecords (2 ^ 20) ((q, n) :: t)
    let bytes := (now.map (·.2)).sum
    let whole := ceilDiv bytes 4096 * 4096
    if ringBytes ≤ s.ringUsed a + whole + 4096 then
      if s.jnl.held then s else ({ s with jnl := { s.jnl with held := true } } : State).raise Ev.ringFull Sev.error a 0 s.tailSeq 0
    else
      let fits := decide (r.head + whole ≤ ringBytes)
      let fill := if fits then 0 else ringBytes - r.head
      let start := if fits then r.head else 0
      let (_, offs) := layRecords start now r.offs
      let parts := ceilDiv whole (2 ^ 20)
      let writes := (List.range parts).map fun i => ({ upto := if i + 1 = parts then (now.getLast?.map (·.1)).getD 0 else 0, done := false } : JWrite)
      let r' := { r with queue := rest, head := (start + whole) % ringBytes, writes := r.writes ++ writes, pad := r.pad + fill + (whole - bytes), offs := offs }
      ((s.modRole a fun _ => r').driveBytes r.slot true whole).emit .store [0, a, start, whole]

/-- Issue journal writes on a ring until none can be issued; the fuel bounds the records. -/
def State.pump : Nat → Nat → State → State
  | 0, _, s => s
  | n + 1, a, s => if (s.role a).queue.length = 0 || decide (8 ≤ (s.role a).writes.length) || s.jnl.held then s else State.pump n a (s.pumpOne a)

/-- Issue journal writes on every ring. -/
def State.pumpAll (s : State) : State := foldIdx 3 (fun a s => State.pump ((s.role a).queue.length + 1) a s) s

/-- Form a record (R457, R459): it takes the next SEQ, is charged unless a re-seed wrote it (R465, R472), and goes to every ACTIVE
and SEEDING ring. -/
def State.journal (s : State) (type : RecType) (group k row start bytes : Nat) (deltas : List Delta) (reseed : Bool) (cmd : Nat) :
    Nat × State :=
  let q := s.jnl.seq
  let n := recLength deltas.length bytes
  let r : JRec := { seq := q, type := type, group := group, k := k, row := row, start := start, bytes := bytes, length := n, deltas := deltas, reseed := reseed, batched := false, cmd := cmd }
  let roles := s.jnl.roles.map fun x => if x.receives then { x with queue := x.queue ++ [(q, n)] } else x
  let s : State := { s with jnl := { s.jnl with seq := q + 1, recs := s.jnl.recs ++ [r], roles := roles, credit := if reseed then s.jnl.credit else s.jnl.credit - n } }
  let s := if reseed then s else (s.bumpWrap Reg.JNL_BYTES 0 0 n).count 240 n group
  let s := s.count (241 + type.code) 1 group
  let s := if type == .partialData then s.count 248 bytes group else s
  (q, (s.pumpAll).jnlStatus)

/-- The writes at the front of a ring that have completed give COMMIT_SEQ (R460). -/
def commitPrefix : List JWrite → Nat → List JWrite × Nat
  | [], c => ([], c)
  | w :: ws, c => if w.done then commitPrefix ws (max c w.upto) else (w :: ws, c)

/-- A journal write ends without error (R460). -/
def State.ringAdvance (s : State) (a index : Nat) : State :=
  let r := s.role a
  let ws := lmod r.writes index fun w => { w with done := true }
  let (left, c) := commitPrefix ws r.commit
  (State.pump (r.queue.length + 1) a (s.modRole a fun r => { r with writes := left, commit := c }))

/-- Drop records that are no longer live and let a held ring go on (R468). -/
def State.dropRecords (s : State) (dead : JRec → Bool) : State :=
  let left := s.jnl.recs.filter fun r => !dead r
  let gone := (s.jnl.recs.filter dead).map (·.seq)
  let roles := s.jnl.roles.map fun r => { r with offs := gone.foldl tdel r.offs }
  let s : State := { s with jnl := { s.jnl with recs := left, roles := roles } }
  if s.jnl.held && gone != [] then ({ s with jnl := { s.jnl with held := false } } : State).pumpAll.jnlStatus else s

/-! ### Roles -/

/-- Does the stall of R474 hold, and since when: fewer than two anchors ACTIVE on a canister that serves. -/
def State.judgeStall (s : State) : State :=
  let stalled := s.serving && decide (s.activeRoles.length < 2)
  match s.jnl.stalled, stalled with
  | none, true => (({ s with jnl := { s.jnl with stalled := some s.clock } } : State).raise Ev.ackStall Sev.error s.activeRoles.length 0 0 0).jnlStatus
  | some _, false => ({ s with jnl := { s.jnl with stalled := none } } : State).jnlStatus
  | _, _ => s

/-- A role leaves ACTIVE or SEEDING for FAILED at a boundary (R451, R470). -/
def State.failRole (s : State) (a : Nat) : State :=
  let r := s.role a
  if r.receives then
    let s := s.modRole a fun r => { r with st := .failed, writes := [], queue := [], offs := [], promotedAt := none, seedSeq := none }
    ((s.raise Ev.anchorFailed Sev.error a 0 r.slot 0).judgeStall).jnlStatus
  else s

/-- The labels of this shelf that the ready members carry, with their slots (R405, R688). -/
def State.labels (s : State) : List (Nat × Label) :=
  (s.drv.zipIdx.filterMap fun d => if d.1.st == .ready then d.1.label.map fun l => (d.2, l) else none).filter fun x => x.2.shelf == s.rd Reg.FOV_CFG_SHELF_ID && x.2.slot == x.1

/-- The highest assignment generation that any role or any anchor label of the shelf has carried (R688). -/
def State.topGen (s : State) : Nat := (s.labels.map (·.2.roleGen)).foldl max ((s.jnl.roles.map (·.gen)).foldl max 0)

/-- Write a member's label (R405, R688, R690): shelf, slot, group (15 for a spare), position, member generation, serial number, and the
anchor role that the slot holds with its assignment generation. -/
def State.writeLabel (s : State) (i g p gen : Nat) : State :=
  let a := (List.range 3).find? fun a => (s.role a).receives && (s.role a).slot == i
  let l : Label := { shelf := s.rd Reg.FOV_CFG_SHELF_ID, slot := i, group := g, position := p, gen := gen, serial := (s.slot i).serial, role := a.getD 3, roleGen := (a.map fun a => (s.role a).gen).getD 0 }
  (s.modSlot i fun d => { d with label := some l }).emit .store [5, i, l.shelf, g, p, gen, l.serial, l.role, l.roleGen]

/-- Write the label of a slot anew, for the position that it fills or as a spare's (R688). -/
def State.relabel (s : State) (i : Nat) : State :=
  match s.posOfSlot i with
  | some (g, p) => s.writeLabel i g p (s.pos g p).gen
  | none => s.writeLabel i 15 0 0

/-- The anchor roles on a new shelf (R688): the first canister to become ACTIVE gives roles that no label names generation 1. -/
def State.claimRoles (s : State) : State :=
  foldIdx 3 (fun a s =>
    let r := s.role a
    if r.receives && r.gen = 0 then ((s.modRole a fun r => { r with gen := 1 }).mdWrite (.record (.anchor a r.slot 1))).relabel r.slot else s) s

/-- The stripes that hold live PARTIAL data, as group, row, width and the bytes journalled (R472 step 3). -/
def State.liveStripes (s : State) : List (Nat × Nat × Nat × Nat) :=
  let parts := s.jnl.recs.filter fun r => r.type == .partialData
  (parts.map fun r => (r.group, r.row, r.k)).eraseDups.map fun x =>
    (x.1, x.2.1, x.2.2, ((parts.filter fun r => r.group == x.1 && r.row == x.2.1).map fun r => r.start + r.bytes).foldl max 0)

/-- Write the consolidated records of a re-seed (R472 step 3). -/
def State.reseed (s : State) (a : Nat) : State :=
  let old := s.jnl.recs
  let s := s.liveStripes.foldl (init := s) fun s x => (s.journal .partialData x.1 x.2.2.1 x.2.1 0 x.2.2.2 [] true 0).2
  let s := (old.filter fun r => r.type == .tally || r.type == .tallyIntent).foldl (init := s) fun s r =>
    (s.journal r.type r.group r.k r.row r.start r.bytes [] true r.cmd).2
  let ds := (old.filter fun r => (r.type == .intent || r.type == .map) && !r.batched).flatMap (·.deltas)
  let s := if ds = [] then s else (s.journal .map 0 0 0 0 0 ds true 0).2
  s.modRole a fun r => { r with seedSeq := some (s.jnl.seq - 1) }

/-- Promote a member to a FAILED role at a boundary (R471, R472, R688): label, metadata record, ring header, and the copy. -/
def State.promote (s : State) (a slot : Nat) (promoted : Bool) : State :=
  let gen := s.topGen + 1
  let e := if (s.role a).slot = slot && (s.role a).epoch != 0 then (s.role a).epoch + 1 else 1
  let s := s.mdWrite (.record (.anchor a slot gen))
  let s := s.modRole a fun r => { r with st := .seeding, slot := slot, promoted := promoted, epoch := e, firstSeq := s.jnl.seq, head := 0, commit := s.jnl.seq - 1, writes := [], queue := [], pad := 0, promotedAt := some s.clock, seedSeq := none, gen := gen, offs := [] }
  let s := (s.relabel slot).emit .store [1, a, e, s.jnl.seq]
  ((s.reseed a).updateDemand).jnlStatus

/-- The candidate of R471 for a FAILED role: the same member once READY, then the STANDBY_ANCHOR, then what else fills the slot. -/
def State.candidate (s : State) (a : Nat) : Option (Nat × Bool) :=
  let r := s.role a
  let free := fun x => ((List.range 3).all fun b => b == a || (s.role b).st == .none || (s.role b).slot != x)
  let same := (s.slot r.slot).st == .ready && (match s.posOfSlot r.slot with
    | some (g, p) => (s.pos g p).st != .failed && (s.pos g p).st != .absent
    | none => false)
  if same then some (r.slot, r.promoted)
  else match s.standbyAnchor with
    | some x => if (s.slot x).st == .ready && free x && ((s.posOfSlot x).isNone || r.slot == x) then some (x, true)
        else if (s.slot r.slot).st == .ready && (s.slot r.slot).cls == .newDrive then some (r.slot, true) else none
    | none => if (s.slot r.slot).st == .ready && (s.slot r.slot).cls == .newDrive then some (r.slot, true) else none

/-- A SEEDING role whose copy is committed and whose COMMIT_SEQ has caught up becomes ACTIVE at the next boundary (R472 step 4). -/
def State.seedCheck (s : State) (a : Nat) : State :=
  let r := s.role a
  let low := match s.activeRoles.map fun b => (s.role b).commit with
    | [] => 0
    | c :: cs => cs.foldl min c
  let asked := s.deferred.contains (.anchorReady a)
  match r.seedSeq with
  | some q => if r.st == .seeding && decide (q ≤ r.commit) && decide (low ≤ r.commit) && !asked then s.defer (.anchorReady a) else s
  | none => s

/-- A SEEDING role becomes ACTIVE (R472 step 4). -/
def State.activateRole (s : State) (a : Nat) : State :=
  let r := s.role a
  if r.st == .seeding then
    let s := s.modRole a fun r => { r with st := .active, seedSeq := none, promotedAt := none }
    ((s.raise Ev.anchorSeeded Sev.notice a 0 r.slot 0).judgeStall).jnlStatus
  else s

/-! ### Batches -/

/-- The trailer of the delta batch that is about to be written (R469). -/
def State.trailerNow (s : State) : Trailer :=
  { tailSeq := s.tailSeq, offsets := (List.range 3).map fun a => if (s.role a).receives then s.tailOffset a else 2 ^ 64 - 1, heads := (List.range 10).map fun g => if (s.grp g).declared && !(s.grp g).tally then (s.grp g).head else 0, batch := s.lay.batches + 1 }

end Sys2Proof.Machine
end

