-- ==== Sys2Proof/Machine/LayOps.lean ====
section
/-!
DEFINITION. Machine/LayOps.lean: the layout block's shared operations (chapter 14): versions as bytes (R413 to R415), the extent
map and its deltas (R416, R426, R443), open stripes and their parity (R409, R410, R421 to R425), placement (R419, R420, R589),
durability (R461, R462), and reads of versions (R437 to R439).
-/

namespace Sys2Proof.Machine

/-! ### Versions as bytes -/

/-- A block descriptor (R415). -/
def descBytes (b : SealedBlk) : List Byte :=
  leBytes 1 b.index ++ leBytes 1 (b2n b.raw) ++ leBytes 1 b.sectors ++ leBytes 1 b.first ++ leBytes 4 b.keyId ++
    leBytes 4 b.bytes.length ++ leBytes 4 b.crc ++ leBytes 12 b.iv ++ leBytes 16 b.tag ++ leBytes 4 0

/-- BLOCK_MASK of a list of blocks. -/
def blockMask (l : List SealedBlk) : Nat := l.foldl (fun m b => setBitOf m b.index true) 0

/-- The extent header with a value for HDR_CRC (R414). -/
def headerBytes (l : List SealedBlk) (nsid extent version turn crc : Nat) : List Byte :=
  ascii "LXEH" ++ leBytes 1 1 ++ leBytes 1 l.length ++ leBytes 2 (blockMask l) ++ leBytes 4 nsid ++ leBytes 4 version ++
    leBytes 8 extent ++ leBytes 4 turn ++ leBytes 4 crc

/-- A version: header, descriptors, sealed blocks (R413 to R415). -/
def versionBytes (l : List SealedBlk) (nsid extent version turn : Nat) : List Byte :=
  let d := l.flatMap descBytes
  let crc := crc32c (headerBytes l nsid extent version turn 0 ++ d)
  headerBytes l nsid extent version turn crc ++ d ++ l.flatMap (·.bytes)

/-- STORED_LEN of a list of blocks (R415). -/
def storedLen (l : List SealedBlk) : Nat := 32 + 48 * l.length + (l.map fun b => b.bytes.length).sum

/-- A little-endian field of a byte string. -/
def fieldAt (l : List Byte) (off n : Nat) : Nat := leNat ((l.drop off).take n)

/-- The blocks that a version's bytes name, from descriptor `i` on; `pos` is where the next sealed block begins (R413, R415). -/
def parseBlocks (l : List Byte) : Nat → Nat → Nat → List SealedBlk
  | 0, _, _ => []
  | n + 1, i, pos =>
    let o := 32 + 48 * i
    let len := fieldAt l (o + 8) 4
    let b : SealedBlk := { index := fieldAt l o 1, raw := bitOf (fieldAt l (o + 1) 1) 0, sectors := fieldAt l (o + 2) 1, first := fieldAt l (o + 3) 1, keyId := fieldAt l (o + 4) 4, crc := fieldAt l (o + 12) 4, iv := fieldAt l (o + 16) 12, tag := fieldAt l (o + 28) 16, bytes := (l.drop pos).take len }
    b :: parseBlocks l n (i + 1) (pos + len)

/-- The header checks of R437: the blocks of a version that pass, or nothing. -/
def parseVersion (l : List Byte) (nsid extent version : Nat) : Option (List SealedBlk) :=
  let n := fieldAt l 5 1
  let mask := fieldAt l 6 2
  let crc := crc32c (l.take 28 ++ leBytes 4 0 ++ (l.drop 32).take (48 * n))
  if fieldAt l 0 4 = leNat (ascii "LXEH") ∧ fieldAt l 4 1 = 1 ∧ popCount mask = n ∧ 1 ≤ n ∧ fieldAt l 8 4 = nsid ∧ fieldAt l 16 8 = extent ∧
      fieldAt l 12 4 = version ∧ fieldAt l 28 4 = crc then
    let bs := parseBlocks l n 0 (32 + 48 * n)
    if blockMask bs = mask then some bs else none
  else none

/-! ### The extent map -/

/-- The map entry of an extent (R416). -/
def State.extent (s : State) (nsid extent : Nat) : MapEnt := tgetD s.lay.map (extKey nsid extent) MapEnt.empty

/-- Store a map entry; the entry of an extent never written is not listed. -/
def State.setExtent (s : State) (nsid extent : Nat) (e : MapEnt) : State :=
  { s with lay := { s.lay with map := if e = MapEnt.empty then tdel s.lay.map (extKey nsid extent) else tset s.lay.map (extKey nsid extent) e } }

/-- The data units that the bytes `i` to `i + n − 1` of a version lie in, by U (R438). -/
def unitsUnder (e : MapEnt) (i n : Nat) : List Nat :=
  if n = 0 then [] else (List.range ((e.addr + i + n - 1) / 65536 + 1 - (e.addr + i) / 65536)).map (· + (e.addr + i) / 65536)

/-- The row that a version begins in. -/
def State.rowOf (s : State) (e : MapEnt) : Nat := (s.unitRow e.group (e.addr / 65536)).1

/-- The rows that a version lies in. -/
def State.rowsOf (s : State) (e : MapEnt) : List Nat :=
  if (s.grp e.group).k = 0 then [] else ((unitsUnder e 0 e.storedLen).map fun u => (s.unitRow e.group u).1).eraseDups

/-- The key of a version's location. -/
def placeKey (e : MapEnt) : Nat := e.group * 2 ^ 64 + e.addr

/-- The stored bytes of a version no longer count as live (R429), and its blocks no longer under their keys (R392). -/
def State.deadBytes (s : State) (e : MapEnt) : State :=
  if e.mapped then
    let s := (tgetD s.lay.heads (placeKey e) []).foldl (fun s k => s.keyRef k false) s
    ({ s with lay := { s.lay with heads := tdel s.lay.heads (placeKey e) } } : State).modGrp e.group fun g => g.subLive (s.rowOf e) e.storedLen
  else s

/-- Carry HOST_TAG for a host (R458). -/
def hostTag (host : Nat) : Nat := Config.shake256 (leBytes 8 host) 8

/-! ### Stripes -/

/-- The stripe of a row that DRAM still holds. -/
def State.stripe (s : State) (g row : Nat) : Option Stripe := s.lay.stripes.find? fun x => x.group == g && x.row == row

/-- Change a stripe. -/
def State.modStripe (s : State) (g row : Nat) (f : Stripe → Stripe) : State :=
  { s with lay := { s.lay with stripes := s.lay.stripes.map fun x => if x.group == g && x.row == row then f x else x } }

/-- Stripes that are open, on a group or on the device. -/
def State.openStripes (s : State) : List Stripe := s.lay.stripes.filter fun x => x.st == .opened

/-- Parity slots in use (R410, R421). -/
def State.usedSlots (s : State) : List Nat := s.lay.stripes.filterMap (·.slot)

/-- Report open stripes, heads, tails, rows and live bytes. -/
def State.layStatus (s : State) : State :=
  let s := s.wr Reg.LAY_STATUS_OPEN 0 0 s.openStripes.length
  let s := s.wr Reg.LAY_STATUS_APPENDING 0 0 (foldIdx 8 (fun g a => if s.appending g then a + 2 ^ g else a) 0)
  foldIdx 10 (fun g s =>
    let x := s.grp g
    if !x.declared then s
    else
      let s := ((s.wr Reg.LAY_GROUP_HEAD g 0 x.head).wr Reg.LAY_GROUP_TAIL g 0 (x.tailSeg * 256)).wr Reg.LAY_GROUP_ROWS g 0 x.rows
      let s := s.wr Reg.LAY_GROUP_LIVE g 0 (x.segs.map fun p => p.2.live).sum
      let s := (s.wr Reg.LAY_GROUP_MEMBERS g 0 (x.members.foldl (fun a i => setBitOf a i true) 0)).wr Reg.LAY_GROUP_CFG_K g 0 x.k
      let s := (s.wr Reg.LAY_GROUP_STATE_FAILED g 0 (s.failedCount g)).wr Reg.LAY_GROUP_STATE_APPENDING g 0 (b2n (s.appending g))
      let s := (s.wr Reg.LAY_GROUP_STATE_FULL g 0 (b2n x.full)).wr Reg.LAY_GROUP_STATE_COMPACTING g 0 (b2n x.compacting.isSome)
      let moving := match s.axl.reshape with
        | some r => r.group == g
        | none => false
      let s := (s.wr Reg.LAY_GROUP_STATE_RESHAPING g 0 (b2n moving)).wr Reg.LAY_GROUP_STATE_UNREADABLE g 0 (b2n (decide (s.readyCount g < x.needed)))
      s.wr Reg.LAY_GROUP_STATE_OPEN g 0 (s.openStripes.filter fun y => y.group == g).length) s

/-- Open the stripe of a row (R421): a cleared parity slot, the gather hold not armed yet. -/
def State.openStripe (s : State) (g row : Nat) : State :=
  let used := s.usedSlots
  let x : Stripe := { group := g, row := row, k := (s.grp g).k, st := .opened, slot := (List.range 256).find? fun n => !used.contains n, data := [], p := [], q := [], fill := 0, journalled := 0, first := s.clock, hold := none, outstanding := [], okWrites := 0, intent := none }
  { s with lay := { s.lay with stripes := s.lay.stripes ++ [x] } }

/-- Fold one placed byte into P and Q (R409, R410). -/
def Stripe.fold (x : Stripe) (o : Nat) (b : Byte) : Stripe :=
  let c := o % 65536
  { x with p := memWrite x.p c (memRead x.p c ^^^ b), q := memWrite x.q c (memRead x.q c ^^^ gfMul (gfGen (o / 65536)) b) }

/-- Fold a run of bytes from an offset on. -/
def Stripe.foldList : Stripe → Nat → List Byte → Stripe
  | x, _, [] => x
  | x, o, b :: bs => (x.fold o b).foldList (o + 1) bs

/-- The data units that a run of bytes from an offset touches. -/
def unitsOf (o n : Nat) : List Nat := if n = 0 then [] else (List.range ((o + n - 1) / 65536 + 1 - o / 65536)).map (· + o / 65536)

/-- Mark the segment of a row in the dirty-stripe log of a position whose member misses a write (R491, R531): a FAILED position keeps none. -/
def State.markDirty (s : State) (g p row : Nat) : State :=
  let q := s.pos g p
  if q.st == .failed || q.dirty.contains (row / 256) then s
  else (s.modPos g p fun q => { q with dirty := q.dirty ++ [row / 256] }).emit .store [7, g, p, row / 256]

/-- Issue the writes of a full or padded stripe (R424): to every position whose member is written. -/
def State.issueStripe (s : State) (g row : Nat) (padded : Bool) : State :=
  match s.stripe g row with
  | none => s
  | some x =>
    let w := x.k + 2
    let targets := (List.range w).filter fun p => s.unitWritten g p
    let missed := (List.range w).filter fun p => !s.unitWritten g p
    let s := s.modStripe g row fun x => { x with st := .writing, hold := none, outstanding := targets }
    let s := targets.foldl (fun s p => s.writeUnit g p row) s
    let s := missed.foldl (init := s) fun s p =>
      let q := s.pos g p
      (s.cacheForget q.slot (s.unitAddr g p row)).markDirty g p row
    if padded then
      let s := (s.bumpWrap Reg.LAY_PADDED 0 0 1).count 217 1 g
      let next := s.wrapHead g ((row + 1) * 65536 * x.k)
      s.modGrp g fun y => if y.rowOf y.head = row then { y with head := next } else y
    else s

/-- Close an open stripe by padding (R423). -/
def State.padStripe (s : State) (g row : Nat) : State :=
  match s.stripe g row with
  | some x => if x.st == .opened then (s.issueStripe g row true).layStatus else s
  | none => s

/-- The versions that have a byte in a stripe. -/
def State.versionsIn (s : State) (g row : Nat) : List Placed := s.lay.placed.filter fun p => p.ent.group == g && (s.rowsOf p.ent).contains row

/-- The deltas of the versions whose last byte lies in the data offsets from `lo` up to `hi` of a stripe (R459). -/
def State.deltasIn (s : State) (g row k lo hi : Nat) : List Delta :=
  (s.lay.placed.filter fun p =>
    let last := p.ent.addr + p.ent.storedLen - 1
    p.ent.group == g && decide (row * 65536 * k + lo ≤ last) && decide (last < row * 65536 * k + hi)).map fun p =>
    { nsid := p.nsid, extent := p.extent, ent := p.ent, host := p.host }

/-- The stripe counts as written (R424): its intent record is formed (R459). -/
def State.stripeWritten (s : State) (g row : Nat) : State :=
  match s.stripe g row with
  | none => s
  | some x =>
    let ds := s.deltasIn g row x.k 0 (65536 * x.k)
    let s := s.modStripe g row fun x => { x with st := .written }
    let s := (s.bumpWrap Reg.LAY_STRIPES 0 0 1).count 216 1 g
    let (q, s) := s.journal .intent g x.k row 0 0 ds false 0
    s.modStripe g row fun x => { x with intent := some q }

/-- A stripe reached fewer than w − 1 members (R425): its versions are placed again, unopened. -/
def State.rewriteStripe (s : State) (g row : Nat) : State :=
  let again := s.versionsIn g row
  let s := s.modStripe g row fun x => { x with intent := some 0, slot := none, outstanding := [] }
  let s := again.foldl (init := s) fun s p =>
    let old := s.lay.gathering.any fun y => y.nsid == p.nsid && y.extent == p.extent && y.again == some p.ent
    if old then s
    else
      let y : Gathering := { seq := if p.durable then 0 else p.seq, nsid := p.nsid, extent := p.extent, host := p.host, copied := p.header, expect := [], reading := false, again := some p.ent, lost := p.ent.lostMask, slotWait := none }
      { s with lay := { s.lay with gathering := s.lay.gathering ++ [y] } }
  s.raise Ev.stripeRewrite Sev.warning g 0 row again.length

/-- Judge a stripe after its writes changed (R424, R425, R436): written, to be rewritten, or still open. -/
def State.checkStripe (s : State) (g row : Nat) : State :=
  match s.stripe g row with
  | none => s
  | some x =>
    let w := x.k + 2
    if x.st == .writing && x.intent.isNone then
      if w - 1 ≤ x.okWrites then s.stripeWritten g row
      else if x.okWrites + x.outstanding.length < w - 1 then s.rewriteStripe g row
      else s
    else s

/-- Close a stripe that is full. -/
def State.fullStripe (s : State) (g row : Nat) : State := (s.issueStripe g row false).checkStripe g row

/-! ### Placement -/

/-- Place bytes at a group log address, stripe by stripe (R410, R420, R421, R422); the fuel bounds the stripes. -/
def State.placeBytes : Nat → Nat → Nat → List Byte → State → State
  | 0, _, _, _, s => s
  | fuel + 1, g, addr, l, s =>
    let k := (s.grp g).k
    match l with
    | [] => s
    | _ =>
      let row := addr / (65536 * k)
      let off := addr % (65536 * k)
      let now := l.take (65536 * k - off)
      let s := if (s.stripe g row).isSome then s else s.openStripe g row
      let s := s.modStripe g row fun x =>
        let x := (x.foldList off now)
        { x with data := memWriteList x.data off now, first := if x.fill = 0 then s.clock else x.first, hold := if x.fill = 0 then some s.clock else x.hold, fill := max x.fill (off + now.length) }
      let s := (unitsOf off now.length).foldl (init := s) fun s d =>
        let p := posD (k + 2) row d
        s.cacheDirty (s.pos g p).slot (s.unitAddr g p row) 0
      let next := s.wrapHead g (addr + now.length)
      let s := s.modGrp g fun y => { y with head := next }
      let s := if off + now.length = 65536 * k then s.fullStripe g row else s
      State.placeBytes fuel g (addr + now.length) (l.drop now.length) s

/-- The group that the next version goes to (R419): the appending group that has had the least in proportion to its width. -/
def State.nextGroup (s : State) : Option Nat :=
  ((List.range 8).filter s.appending).foldl (init := none) fun best g =>
    match best with
    | none => some g
    | some b => if tgetD s.lay.share g 0 * (s.grp b).k < tgetD s.lay.share b 0 * (s.grp g).k then some g else best

/-- Rows in a run back from `r`, in ring order, that are among the rows that wait; the fuel bounds them. -/
def waitingRun : Nat → Nat → Nat → List Nat → Nat
  | 0, _, _, _ => 0
  | n + 1, rows, r, waiting => if waiting.contains r then 1 + waitingRun n rows (if r = 0 then rows - 1 else r - 1) waiting else 0

/-- Rows just behind a group's head whose intent is not committed on every ACTIVE anchor (R589); rows that a takeover fenced off do not
count. -/
def State.uncommittedRun (s : State) (g : Nat) : Nat :=
  let x := s.grp g
  let waiting := (s.lay.stripes.filter fun x => x.group == g && !(match x.intent with
    | some q => q != 0 && s.onEveryActive q
    | none => false)).map (·.row)
  waitingRun waiting.length x.rows (if x.headUp = 0 then x.rows - 1 else x.headUp - 1) waiting

/-- Where a version of a length goes: the head, 64-byte aligned, or the start of the ring when it does not fit before the end. -/
def State.placeAddr (s : State) (g len : Nat) : Nat :=
  let a := ceilDiv (s.grp g).head 64 * 64
  if s.ringEnd g != 0 && decide (s.ringEnd g < a + len) then 0 else a

/-- May a version of a length be placed at a group's head: parity slots (R421) and the fence of R589; the address, or why not
(true: no parity slot). -/
def State.placeAt (s : State) (g len : Nat) : Except Bool Nat :=
  let x := s.grp g
  let addr := s.placeAddr g len
  let per := 65536 * x.k
  let first := addr / per
  let last := (addr + len - 1) / per
  let fresh := ((List.range (last + 1 - first)).filter fun i => (s.stripe g (first + i)).isNone).length
  let past := if x.head ≤ addr then last + 1 - x.headUp else last + 1 + x.rows - x.headUp
  if 4096 < past + s.uncommittedRun g then .error false
  else if 256 < s.usedSlots.length + fresh || 128 < (s.openStripes.filter fun y => y.group == g).length + fresh then .error true
  else .ok addr

/-- A version is placed (R420, R426): its bytes go to the head, the map entry is repointed, the space counts as live. -/
def State.placeVersion (s : State) (g addr : Nat) (y : Gathering) (blocks : List SealedBlk) : State :=
  let old := s.extent y.nsid y.extent
  let version := match y.again with
    | some e => e.version
    | none => (old.version + 1) % 2 ^ 32
  let turn := s.now % 2 ^ 32
  let ent : MapEnt := { group := g, addr := addr, storedLen := storedLen blocks, blockMask := blockMask blocks, mapped := true, version := version, lostMask := y.lost, turn := turn }
  let prior := s.lay.placed.find? fun p => p.nsid == y.nsid && p.extent == y.extent && some p.ent == y.again
  let prev := match prior with
    | some p => if p.durable then p.ent else p.prev
    | none => old
  let abandoned := match prior with
    | some p => if p.durable then none else some p.ent
    | none => none
  let pl : Placed := { seq := y.seq, nsid := y.nsid, extent := y.extent, host := y.host, ent := ent, prev := prev, header := blocks, record := none, durable := false }
  let s := match abandoned with
    | some e => s.deadBytes e
    | none => s
  let s : State := { s with lay := { s.lay with placed := (s.lay.placed.filter fun p => !(p.nsid == y.nsid && p.extent == y.extent && some p.ent == y.again)) ++ [pl], gathering := s.lay.gathering.filter fun z => !(z.seq == y.seq && z.nsid == y.nsid && z.extent == y.extent), share := tset s.lay.share g (tgetD s.lay.share g 0 + ent.storedLen) } }
  let s := s.setExtent y.nsid y.extent ent
  let s : State := { s with lay := { s.lay with heads := tset s.lay.heads (placeKey ent) (blocks.map (·.keyId)) } }
  let s := y.copied.foldl (fun s b => s.keyRef b.keyId true) s
  let row := s.rowOf ent
  let s := s.modGrp g fun x => x.addLive row ent.storedLen
  let s := (s.count 222 1 g).count 223 ent.storedLen g
  let pad := addr - (s.grp g).head
  (State.placeBytes (ent.storedLen / 65536 + 3) g (addr - pad) (List.replicate pad 0 ++ versionBytes blocks y.nsid y.extent version turn) s).layStatus

/-! ### Durability -/

/-- Is the part of a stripe below offset `hi` durable (R461): its intent is committed, or committed PARTIAL records reach `hi`. -/
def State.stripeDurable (s : State) (g row hi : Nat) : Bool :=
  match s.stripe g row with
  | none => true
  | some x =>
    (match x.intent with
     | some q => q != 0 && s.committed q
     | none => false) ||
    ((s.jnl.recs.filter fun r => r.type == .partialData && !r.reseed && r.group == g && r.row == row && s.committed r.seq).any fun r =>
      decide (hi ≤ r.start + r.bytes))

/-- Is every byte of a version durable (R461)? -/
def State.versionDurable (s : State) (e : MapEnt) : Bool :=
  let per := 65536 * (s.grp e.group).k
  (s.rowsOf e).all fun row => s.stripeDurable e.group row (min per (e.addr + e.storedLen - row * per))

/-- A write to a zone is acknowledged (R272): the zone's write pointer has stood just past it. -/
def State.zoneAcked (s : State) (nsid lba n : Nat) : State :=
  let z := lba / zoneLbas
  match tget s.cmd.zones (zoneKey nsid z) with
  | some x => s.setZone nsid z { x with acked := max x.acked (lba % zoneLbas + n) }
  | none => s

/-- Complete a write-class command whose versions and map changes are all durable (R462), unless a replica is awaited (R189). -/
def State.completeWrite (s : State) (seq : Nat) : State :=
  match s.entry seq with
  | some e =>
    if e.admitted && (e.kind.writeClass || e.kind == .reseal) && e.pending.isEmpty && e.replica.isNone && s.jnl.stalled.isNone then
      let done := e.kind == .write || e.kind == .zoneAppend
      let s := if done then s.count 104 e.length e.io.nsid else s
      let s := if done || e.kind == .writeZeroes then s.zoneAcked e.io.nsid e.firstLba e.io.nlb else s
      s.finish seq e.status (if e.kind == .zoneAppend then e.resultLba % 2 ^ 32 else 0) (if e.kind == .zoneAppend then e.resultLba / 2 ^ 32 else 0)
    else s
  | none => s

/-- An extent of a command has become durable. -/
def State.extentDone (s : State) (seq extent : Nat) : State :=
  (s.modEntry seq fun e => { e with pending := e.pending.filter (· != extent) }).completeWrite seq

/-- Set the bit of a changed extent in the replication bitmap of a MODE 0 replica (R597). -/
def State.markReplica (s : State) (nsid extent : Nat) : State :=
  let deferred := match s.failoverSec with
    | some f => f.replicas.any fun r => r.nsid == nsid && r.mode == 0
    | none => false
  if deferred && !s.fov.replica.contains (nsid, extent) then
    ({ s with fov := { s.fov with replica := s.fov.replica ++ [(nsid, extent)] } } : State).mdWrite (.record (.replicaBit nsid extent true))
  else s

/-- A version has become durable (R426, R461): the space of the one it replaced is dead, its delta goes to the delta log, a
replica's bit is set, and its command may complete. -/
def State.versionDone (s : State) (p : Placed) : State :=
  let s : State := { s with lay := { s.lay with placed := s.lay.placed.map fun x => if x == p then { x with durable := true } else x, deltas := s.lay.deltas ++ [{ nsid := p.nsid, extent := p.extent, ent := p.ent, host := p.host }] } }
  let s := if p.prev.mapped && p.prev.addr != p.ent.addr then s.deadBytes p.prev else s
  if p.seq = 0 then s else (s.markReplica p.nsid p.extent).extentDone p.seq p.extent

/-- What a PARTIAL, INTENT or MAP record's commitment settles, in order: versions, map changes, live records, stripes, seeds. -/
def State.settle (s : State) : State :=
  let ready := s.lay.placed.filter fun p => !p.durable && s.versionDurable p.ent
  let s := ready.foldl (fun s p => s.versionDone p) s
  -- map changes without data (R461)
  let maps := s.jnl.recs.filter fun r => r.type == .map && !r.reseed && r.cmd != 0 && s.committed r.seq
  let s := maps.foldl (init := s) fun s r =>
    let s : State := { s with jnl := { s.jnl with recs := s.jnl.recs.map fun x => if x.seq == r.seq then { x with cmd := 0 } else x }, lay := { s.lay with deltas := s.lay.deltas ++ r.deltas } }
    r.deltas.foldl (fun s d => (s.markReplica d.nsid d.extent).extentDone (r.cmd - 1) d.extent) s
  -- PARTIAL records die with their stripe's committed intent; INTENT and MAP once batched (R468)
  let intentDone := fun (g row : Nat) => match s.stripe g row with
    | some x => (match x.intent with
      | some q => q != 0 && s.onEveryActive q
      | none => false)
    | none => true
  let s := s.dropRecords fun r => match r.type with
    | .partialData => intentDone r.group r.row
    | .intent | .map => r.batched
    | .tally | .tallyIntent => false
  -- a stripe leaves DRAM once it is durable and every write has ended; a parity slot once P and Q have (R410)
  let keep := fun (x : Stripe) =>
    let q := x.intent.getD 0
    let inRow := fun (e : MapEnt) => e.group == x.group && (s.rowsOf e).contains x.row
    if x.intent == some 0 then (s.lay.gathering.any fun y => y.again.any inRow) || s.lay.reads.any fun r => inRow r.2.ent
    else !(x.st == .written && x.outstanding.isEmpty && s.onEveryActive q)
  let stripes := (s.lay.stripes.filter keep).map fun x =>
    let w := x.k + 2
    if x.st != .opened && !x.outstanding.contains (posP w x.row) && !x.outstanding.contains (posQ w x.row) then { x with slot := none } else x
  let s : State := { s with lay := { s.lay with stripes := stripes } }
  -- a durable version whose stripes have left DRAM needs no more care
  let placed := s.lay.placed.filter fun p => !(p.durable && (s.rowsOf p.ent).all fun row => (s.stripe p.ent.group row).isNone)
  let s : State := { s with lay := { s.lay with placed := placed } }
  ((foldIdx 3 (fun a s => s.seedCheck a) s).jnlStatus).layStatus

/-- A map change without data (R459): MAP records of at most 16,384 deltas carry it, for the command `seq`. -/
def State.mapRecord (s : State) (seq : Nat) (deltas : List Delta) : State := (s.journal .map 0 0 0 0 0 deltas false (seq + 1)).2

/-- Clear MAPPED for an extent (R417, R262) on behalf of a command; the delta that says so. -/
def State.unmap (s : State) (nsid extent host : Nat) : State × Delta :=
  let old := s.extent nsid extent
  let ent : MapEnt := { MapEnt.empty with version := (old.version + 1) % 2 ^ 32, turn := s.now % 2 ^ 32 }
  ((s.deadBytes old).setExtent nsid extent ent, { nsid := nsid, extent := extent, ent := ent, host := host })

/-- Journal a PARTIAL record when a gather hold expires (R422, R466, R467). -/
def State.gatherHold (s : State) (g row : Nat) : State :=
  match s.stripe g row with
  | none => s
  | some x =>
    let s := s.modStripe g row fun x => { x with hold := some s.clock }
    if x.fill ≤ x.journalled then s
    else if s.jnl.credit ≤ 0 then
      let s := (s.bumpWrap Reg.JNL_CAP_WAIT 0 0 1).count 241 1 g
      s.raiseLim lim19 0 Ev.journalCap Sev.notice g 0 s.livePartial 0
    else
      let n := x.fill - x.journalled
      if s.rd Reg.JNL_CFG_LIVE_CAP * 2 ^ 20 < s.livePartial + n then
        let oldest := (s.jnl.recs.filter fun r => r.type == .partialData && !r.reseed).head?
        match oldest with
        | some r => (s.padStripe r.group r.row).checkStripe r.group r.row
        | none => s
      else
        let ds := s.deltasIn g row x.k x.journalled x.fill
        let (_, s) := s.journal .partialData g x.k row x.journalled n ds false 0
        s.modStripe g row fun x => { x with journalled := x.fill }

/-! ### Reading -/

/-- The requester class of a read (R319). -/
def ReadFor.cls : ReadFor → Nat
  | .host => 1
  | .rewrite => 0
  | .compact | .reseal => 3
  | .scrub => 7
  | .replica => 4

/-- Pool role and requester code of the buffers that a read takes (R292, R297): RESTORE for host data, BACKGROUND otherwise. -/
def ReadFor.buffers : ReadFor → Nat × Nat
  | .host | .rewrite => (1, 2)
  | .compact | .reseal => (3, 4)
  | .scrub => (3, 6)
  | .replica => (3, 7)

/-- Can reads of a group be served now (R432, R436)? -/
def State.setReads (s : State) (g : Nat) : Bool :=
  let x := s.pset (s.grp g).set
  x.st == .on || x.st == .stopping && decide (x.step < 4)

/-- Start the member reads of a waiting job once its set serves reads and buffers are free (R292, R434, R437): each unit looks the
cache up in its class, tally members in class 6 (R320). -/
def State.startJob (s : State) (j : Nat) : State :=
  match tget s.lay.reads j with
  | none => s
  | some r =>
    let g := r.ent.group
    if !r.waiting || !s.setReads g then s
    else
      let (role, req) := r.use.buffers
      match s.allocMany role 1 req r.units.length with
      | none => s
      | some (bufs, s) =>
        let s : State := { s with lay := { s.lay with reads := tset s.lay.reads j { r with waiting := false, bufs := bufs } } }
        let cls := if (s.grp g).tally then 6 else r.use.cls
        r.units.foldl (init := s) fun s u =>
          (s.cacheRead (s.pos g u.2).slot (s.unitAddr g u.2 u.1) cls r.seq).readUnit g u.2 u.1

/-- Queue a read job (R269, R434): its segment gains a reader, and a host's read powers its set. -/
def State.queueRead (s : State) (r : ReadJob) : State :=
  let g := r.ent.group
  let s := if r.units = [] || !(r.use == .host || r.use == .rewrite || r.use == .replica) then s else s.requestSet (s.grp g).set SetCause.read
  let j := s.lay.nextRead
  let s : State := { s with lay := { s.lay with reads := tset s.lay.reads j { r with waiting := r.units != [] }, nextRead := j + 1 } }
  (s.modGrp g fun x => x.addReaders (s.rowOf r.ent) true).startJob j

/-- The data units that a version lies in, as row and position. -/
def State.unitsRead (s : State) (e : MapEnt) : List (Nat × Nat) :=
  if (s.grp e.group).k = 0 then []
  else ((unitsUnder e 0 e.storedLen).map fun u => let (row, k, d) := s.unitRow e.group u; (row, posD (k + 2) row d)).filter fun u => (s.stripe e.group u.1).isNone

/-- Queue a read of a version (R426, R434, R437): stripes still in DRAM are served from there. -/
def State.startRead (s : State) (seq nsid extent : Nat) (use : ReadFor) (want : Nat) : State :=
  let e := s.extent nsid extent
  s.queueRead { seq := seq, nsid := nsid, extent := extent, use := use, ent := e, stage := 0, erased := [], waiting := false, units := s.unitsRead e, bufs := [], blocks := [], want := want, decoding := [] }

/-- End a read: its segment loses the reader and its buffers are freed. -/
def State.endRead (s : State) (j : Nat) : State :=
  match tget s.lay.reads j with
  | some r =>
    let s := s.modGrp r.ent.group fun g => g.addReaders (s.rowOf r.ent) false
    ({ s with lay := { s.lay with reads := tdel s.lay.reads j } } : State).decrefs r.bufs
  | none => s

/-- The 4 KiB page column, or the LBA of a tally unit, that an offset in a unit lies in (R447, R486). -/
def pageOf (off : Nat) : Nat := if off < 65536 then off / 4096 else (off - 65536) / 64

/-- A byte of a unit as its member returned it: none where the unit is erased or the read or page is bad (R412, R486). -/
def State.memberByte (s : State) (g p row off : Nat) (reads : List RowRead) : Option Byte :=
  if s.unitErased g p row then none
  else match reads.find? fun x => x.row == row with
    | some x => (match x.units[p]? with
      | some u => if u.ok && !u.badPages.contains (pageOf off) then some (u.bytes.getD off 0) else none
      | none => none)
    | none => none

/-- A byte of a data unit (R426, R412, R438, R439): from the stripe in DRAM, as read, or recomputed with the given units erased; P
counts as erased too where `noP` holds. -/
def State.dataByte (s : State) (g row d off : Nat) (reads : List RowRead) (erased : List Nat) (noP : Bool) : Option Byte :=
  match s.stripe g row with
  | some x => some (memRead x.data (d * 65536 + off))
  | none =>
    let k := s.rowK g row
    let w := k + 2
    let unit := fun j => if erased.contains (row * k + j) then none else s.memberByte g (posD w row j) row off reads
    match unit d with
    | some b => some b
    | none =>
      let p := if noP then none else s.memberByte g (posP w row) row off reads
      let q := s.memberByte g (posQ w row) row off reads
      (recomputeData ((List.range k).map unit) p q).map fun l => l.getD d 0

/-- The bytes of a version, from `i` on, `n` of them; none where one cannot be had. -/
def State.readBytes (s : State) (e : MapEnt) (reads : List RowRead) (erased : List Nat) (noP : Bool) (i n : Nat) : Option (List Byte) :=
  (List.range n).foldr (init := some []) fun j acc =>
    let (row, _, d) := s.unitRow e.group ((e.addr + i + j) / 65536)
    match acc, s.dataByte e.group row d ((e.addr + i + j) % 65536) reads erased noP with
    | some l, some b => some (b :: l)
    | _, _ => none

/-- Which data units of a version had to be recomputed (LAY_ERASURE). -/
def State.missingUnits (s : State) (e : MapEnt) (reads : List RowRead) (erased : List Nat) : List Nat :=
  (unitsUnder e 0 e.storedLen).filter fun u =>
    let (row, k, d) := s.unitRow e.group u
    (s.stripe e.group row).isNone && (erased.contains u || (s.memberByte e.group (posD (k + 2) row d) row 0 reads).isNone)

/-- Mark blocks of an extent lost (R439, R279): LOST_MASK, the log with its cause (2, or 3 from a scrub, R285), markers, and the event. -/
def State.loseBlocks (s : State) (nsid extent mask : Nat) (e : MapEnt) (cause : Nat := 2) : State :=
  let now := s.extent nsid extent
  if now.version != e.version || now.addr != e.addr then s
  else
    let ent := { now with lostMask := now.lostMask ||| mask, turn := s.now % 2 ^ 32 }
    let s := s.setExtent nsid extent ent
    let s : State := { s with lay := { s.lay with deltas := s.lay.deltas ++ [{ nsid := nsid, extent := extent, ent := ent, host := 0 }] } }
    let hosts := s.hostsOf nsid
    let s := (List.range 16).foldl (init := s) fun s b =>
      if bitOf mask b then ((s.lose hosts nsid (extent * 256 + b * 16) 16 cause).bump Reg.LAY_LOST 0 0 1).count 221 1 e.group else s
    s.raise Ev.extentLost Sev.error e.group 0 nsid extent

end Sys2Proof.Machine
end

