-- ==== Sys2Proof/Machine/ApplyOps.lean ====
section
/-!
DEFINITION. Machine/ApplyOps.lean: the running image becomes the machine's configuration (R89 step 9, R102 step 7): the RWL
registers that the sections set (R85 and the section tables), Frogspawn's pools (R295, R301), groups, sets and positions (R403,
R446), the parameter table's defaults (R247); and the entry into RECOVERY (R585, R688, R97) with the end of boot (R89 steps 11, 12).
-/

namespace Sys2Proof.Machine

/-- Write a list of register fields: field, first index, value. -/
def State.wrs (s : State) (l : List (Fld × Nat × Nat)) : State := l.foldl (fun s x => s.wr x.1 x.2.1 0 x.2.2) s

/-- A signed number in 16 bits. -/
def int16 (v : Int) : Nat := (v % 65536).toNat

/-- The MTU code of ETH_PORT_CFG. -/
def mtuCode (m : Nat) : Nat := if m = 1024 then 0 else if m = 2048 then 1 else 2

/-- TIMEBASE and NETWORK (R85, R133): TRN_CTL, TRN_EPOCH, ETH_PORT_CFG and ETH_TS_ADJ of each sub-port. -/
def State.applyNetwork (s : State) (t : SecTimebase) (n : SecNetwork) : State :=
  let s := s.wrs [(Reg.TRN_CTL_PTP_PORT, 0, t.ptpPort), (Reg.TRN_CTL_PTP_SUB, 0, t.ptpSub), (Reg.TRN_CTL_ACQ_TIMEOUT, 0, t.acqTimeout), (Reg.TRN_EPOCH, 0, t.epoch)]
  n.ports.zipIdx.foldl (init := s) fun s x =>
    let (c, p) := x
    [(2 * p, c.en), (2 * p + 1, c.en && c.split)].foldl (init := s) fun s u =>
      s.wrs [(Reg.ETH_PORT_CFG_EN, u.1, b2n u.2), (Reg.ETH_PORT_CFG_SPLIT, u.1, b2n c.split), (Reg.ETH_PORT_CFG_MEDIA, u.1, c.media), (Reg.ETH_PORT_CFG_AN_MODE, u.1, c.anMode), (Reg.ETH_PORT_CFG_RX_POL, u.1, c.rxPol), (Reg.ETH_PORT_CFG_TX_POL, u.1, c.txPol), (Reg.ETH_PORT_CFG_MTU, u.1, mtuCode n.pathMtu), (Reg.ETH_TS_ADJ_RX_ADJ, u.1, int16 c.tsAdjRx), (Reg.ETH_TS_ADJ_TX_ADJ, u.1, int16 c.tsAdjTx)]

/-- TRANSPORT (R85, R160, R200): XPT_CFG, XPT_CC_CFG and WIN_CFG. -/
def State.applyTransport (s : State) (t : SecTransport) : State :=
  s.wrs [(Reg.XPT_CFG_ACK_T, 0, t.ackTimeout), (Reg.XPT_CFG_RETRY_CNT, 0, t.retryCnt), (Reg.XPT_CFG_RNR_RETRY, 0, t.rnrRetry), (Reg.XPT_CFG_LX_OPTIONS, 0, t.lxOptions), (Reg.XPT_CFG_PIN_QP, 0, t.pinQp), (Reg.XPT_CC_CFG_CWND_MIN, 0, Nat.log2 t.cwndMin), (Reg.XPT_CC_CFG_CWND_MAX, 0, Nat.log2 t.cwndMax), (Reg.XPT_CC_CFG_CWND_INIT, 0, Nat.log2 t.cwndInit), (Reg.XPT_CC_CFG_AI_BYTES, 0, t.aiBytes / 256), (Reg.XPT_CC_CFG_RTT_TARGET, 0, t.rttTarget), (Reg.WIN_CFG_WIN_PER_HOST, 0, t.winPerHost), (Reg.WIN_CFG_WIN_MAX_LEN, 0, Nat.log2 t.winMaxLen - 16)]

/-- The line rate in rate units (R225). -/
abbrev lineRate : Nat := 13107200

/-- The default node entry of a port (R247): its bursts and ingest rate are the model's choice (notes/assumptions/10.md). -/
def defaultNode (split : Bool) (n : Nat) : List Nat :=
  let group := if n = 30 || n = 31 || (split && (n = 14 || n = 15)) then 7 else 0
  [0, lineRate, 65536, 65536, group + 256, lineRate, 65536, 0]

/-- The default port entry (R247). -/
def defaultPort : List Nat := [lineRate, 65536, lineRate, 65536, 0, 0, 0, 0]

/-- SCHEDULER (R247): SCH_DSCP_MAP, the node and port entries in both banks, and the gate lists. -/
def State.applyScheduler (s : State) (c : SecScheduler) (n : SecNetwork) : State :=
  let s := c.dscpMap.foldl (init := s) fun s x =>
    let r := s.rd Reg.SCH_DSCP_MAP 0 (x.1 / 16)
    let lo := 2 * (x.1 % 16)
    s.wr Reg.SCH_DSCP_MAP 0 (x.1 / 16) (setBitOf (setBitOf r lo (bitOf x.2 0)) (lo + 1) (bitOf x.2 1))
  let split := fun p => match n.ports[p]? with
    | some x => x.split
    | none => false
  let nodes := (List.range 256).map fun i => (16384 + i, ((c.nodes.find? fun x => x.1 == i).map (·.2)).getD (defaultNode (split (i / 32)) (i % 32)))
  let ports := (List.range 8).map fun p => (16640 + p, ((c.ports.find? fun x => x.1 == p).map (·.2)).getD defaultPort)
  let t := nodes ++ ports
  let gates := (List.range 8).map fun p =>
    let l := ((c.gcl.find? fun x => x.1 == p).map (·.2)).getD []
    let b : Tbl Nat := (l.zipIdx.filter fun e => e.1 != 0).map fun e => (e.2, e.1)
    ({ GateList.allOpen with list := { Banked.empty with act := b, shd := b } } : GateList)
  { s with sch := { s.sch with params := { Banked.empty with act := t, shd := t }, gates := gates } }

/-- The DRAM address where Frogspawn's regions begin: after the reserve and the gather cache of R685
(notes/assumptions/10.md). -/
def poolsBase (gatherCache : Nat) : Nat := (4 + gatherCache) * 2 ^ 30

/-- POOLS (R291, R295, R301): FSP_POOL_CFG, ranges and bases, and full rings. -/
def State.applyPools (s : State) (ps : List PoolCfg) (gatherCache : Nat) : State :=
  let pools := layPools 0 (poolsBase gatherCache) ps
  let s : State := { s with fsp := { s.fsp with pools := pools ++ List.replicate (16 - pools.length) Pool.off, descs := [] } }
  let s := ps.zipIdx.foldl (init := s) fun s x =>
    let (c, n) := x
    s.wrs [(Reg.FSP_POOL_CFG_CLASS, n, c.cls), (Reg.FSP_POOL_CFG_ROLE, n, c.role), (Reg.FSP_POOL_CFG_EN, n, b2n (c.count != 0)), (Reg.FSP_POOL_CFG_AMBER, n, c.amber), (Reg.FSP_POOL_CFG_RED, n, c.red), (Reg.FSP_POOL_CFG_BLACK, n, c.black)]
  pools.zipIdx.foldl (init := s) fun s x =>
    s.wrs [(Reg.FSP_POOL_BASE, x.2, x.1.base), (Reg.FSP_POOL_RANGE_FIRST, x.2, x.1.first), (Reg.FSP_POOL_RANGE_COUNT, x.2, x.1.count), (Reg.FSP_POOL_FREE, x.2, x.1.count), (Reg.FSP_POOL_MIN, x.2, x.1.count)]

/-- CACHE and GATHER_CACHE (R85, R312, R324): GCH_CFG, the sets, the masks; the cache starts ON unless its size is 0. -/
def State.applyCache (s : State) (gib : Nat) (c : SecCache) : State :=
  let m : Tbl Nat := c.wayMask.zipIdx.map fun x => (x.2, x.1)
  let s := s.wrs [(Reg.GCH_CFG_SIZE, 0, gib), (Reg.GCH_CFG_SAL_RATE, 0, c.salRate), (Reg.GCH_CFG_PIN_LIMIT, 0, c.pinLimit), (Reg.GCH_STATUS_SETS, 0, 64 * gib), (Reg.GCH_CTL_EN, 0, b2n (gib != 0)), (Reg.GCH_STATUS_STATE, 0, b2n (gib != 0))]
  let s := c.wayMask.zipIdx.foldl (fun s x => (s.wr Reg.GCH_MASK 0 x.2 x.1).wr Reg.GCH_MASK_SHADOW 0 x.2 x.1) s
  { s with gch := { s.gch with st := if gib = 0 then .off else .on, sets := 64 * gib, masks := { Banked.empty with act := m, shd := m } } }

/-- COMPRESSION, LAYOUT, JOURNAL, REBUILD and DRIVES (R85, R357, R403, R452, R500, R516). -/
def State.applyStorage (s : State) (i : Image) (l : SecLayout) : State :=
  let c := i.compression
  let j := i.journal
  let r := i.rebuild
  let d := i.drives
  s.wrs [(Reg.CMP_CFG_NO_GAIN, 0, c.noGain), (Reg.CMP_CFG_TABLES, 0, c.tables), (Reg.CMP_CFG_OUT_CLASS, 0, c.outClass), (Reg.LAY_CFG_GATHER_HOLD, 0, l.gatherHold), (Reg.LAY_CFG_RESERVE_PCT, 0, l.reservePct), (Reg.LAY_CFG_COMPACT_PCT, 0, l.compactPct), (Reg.LAY_CFG_READY_TIMEOUT, 0, ceilDiv l.readyTimeout 2), (Reg.LAY_CLOSE_HOLD, 0, l.closeHold), (Reg.JNL_CFG_ANCHOR_CAP, 0, j.anchorCap), (Reg.JNL_CFG_LIVE_CAP, 0, j.liveCap), (Reg.JNL_CFG_STANDBY_ANCHOR, 0, j.standbyAnchor), (Reg.AXL_RB_RATE_FLOOR, 0, r.rbFloor), (Reg.AXL_RB_RATE_CEIL, 0, r.rbCeil), (Reg.AXL_RB_RATE_RATE, 0, r.rbCeil), (Reg.AXL_RS_RATE_FLOOR, 0, r.rsFloor), (Reg.AXL_RS_RATE_CEIL, 0, r.rsCeil), (Reg.AXL_RS_RATE_RATE, 0, r.rsCeil), (Reg.AXL_SC_RATE_CEIL, 0, r.scCeil), (Reg.AXL_SC_RATE_RATE, 0, r.scCeil), (Reg.AXL_RESYNC, 0, r.resyncWindow), (Reg.DRV_CFG_CMD_TIMEOUT, 0, d.cmdTimeout), (Reg.DRV_CFG_LINK_MIN, 0, d.linkMin), (Reg.DRV_CFG_FORMAT_NEW, 0, d.formatNew)]

/-- POWER (R85, R537). -/
def State.applyPower (s : State) (p : SecPower) : State :=
  s.wrs [(Reg.PWR_CFG_FEED_PRI, 0, p.feedPri), (Reg.PWR_CFG_BROWNOUT_HOLD, 0, p.brownoutHold), (Reg.PWR_CFG_STAGGER, 0, p.stagger), (Reg.PWR_CFG_MAX_RETRY, 0, p.maxRetry), (Reg.PWR_CFG_RETURN_HOLD, 0, p.returnHold), (Reg.PWR_VOLT_UV, 0, p.uv), (Reg.PWR_VOLT_OV, 0, p.ov), (Reg.PWR_VOLT_WARN, 0, p.warn), (Reg.PWR_TIMING_INSERT_DELAY, 0, p.insertDelay), (Reg.PWR_TIMING_FAULT_TIMER, 0, p.faultTimer), (Reg.PWR_TIMING_RETRY_DELAY, 0, p.retryDelay), (Reg.PWR_CURRENT_ILIM_SLOT, 0, p.ilimSlot), (Reg.PWR_CURRENT_ILIM_FEED, 0, p.ilimFeed), (Reg.PWR_CURRENT_SHUNT_SLOT, 0, p.shuntSlot), (Reg.PWR_CURRENT_SHUNT_FEED, 0, p.shuntFeed)]

/-- FAILOVER (R570, R574): FOV_CFG, and the shelves that this Daxzin witnesses, known to nobody yet (R577). -/
def State.applyFailover (s : State) (f : SecFailover) : State :=
  let w := min 4 f.witnesses.length
  let s := s.wrs [(Reg.FOV_CFG_SHELF_ID, 0, f.shelfId), (Reg.FOV_CFG_CANISTER, 0, s.cfg.canister), (Reg.FOV_CFG_WITNESSES, 0, w), (Reg.FOV_CFG_MAJORITY, 0, w / 2 + 1), (Reg.FOV_CFG_WITNESS_FOR, 0, f.witnessFor.length)]
  let served := f.witnessFor.foldl (init := ([] : Tbl Served)) fun t x =>
    tset t x.1 { conns := [], holder := none, lease := 0, expiry := 0, guardEnd := 0, since := s.clock, contention := none }
  { s with fov := { s.fov with served := served } }

/-- The EVT_ROUTE field of a source. -/
def routeField (src : Nat) : Fld :=
  if src % 4 = 0 then Reg.EVT_ROUTE_0 else if src % 4 = 1 then Reg.EVT_ROUTE_1 else if src % 4 = 2 then Reg.EVT_ROUTE_2 else Reg.EVT_ROUTE_3

/-- EVENTS (R629, R622): thresholds, routes (1 + group unless the section says otherwise), periods and enabled samples. -/
def State.applyEvents (s : State) (e : SecEvents) : State :=
  let s := s.wrs [(Reg.EVT_CFG_RING_MIN, 0, e.ringMin), (Reg.EVT_CFG_AEN_MIN, 0, e.aenMin), (Reg.CNT_CFG_SNAP_PERIOD, 0, e.snapPeriodLog), (Reg.CNT_CFG_BW_WINDOW, 0, e.bwWindowLog)]
  let s := foldIdx 256 (fun src s => s.wr (routeField src) 0 (src / 4) (((e.routes.find? fun r => r.1 == src).map (·.2)).getD (1 + src / 32))) s
  let s := e.ovfEn.foldl (fun s c => s.wr Reg.CNT_OVF_EN 0 (c / 32) (setBitOf (s.rd Reg.CNT_OVF_EN 0 (c / 32)) (c % 32) true)) s
  { s with cnt := { s.cnt with bwLog := e.bwWindowLog, bwStart := s.now } }

/-- Members of a group by position, from the LAYOUT section. -/
def membersOf (l : SecLayout) (g : Nat) : List MemberCfg :=
  let ms := l.members.filter fun m => m.group == g
  (List.range 24).filterMap fun p => ms.find? fun m => m.position == p

/-- The native groups of LAYOUT (R403); a width that the shelf metadata stream holds is kept (R97). -/
def nativeGroup (l : SecLayout) (c : GroupCfg) (old : Grp) : Grp :=
  let ms := membersOf l c.group
  { Grp.none with declared := true, kMin := c.kMin, kMax := c.kMax, k := if old.k = 0 then c.width else old.k, append := c.append == 1, set := (ms.head?.map (·.powerSet)).getD 0, members := ms.map (·.slot) }

/-- A tally group (R446): k = 10. -/
def tallyGroup (l : Option SecLayout) (t : SecTally) : Grp :=
  let set := match l with
    | some l => ((l.members.find? fun m => m.group == t.group).map (·.powerSet)).getD 0
    | none => 0
  { Grp.none with declared := true, tally := true, kMin := 10, kMax := 10, k := 10, set := set, rows := t.rows, members := t.members.map (·.1), nsid := t.nsid, baseLba := t.baseLba }

/-- Groups, power sets, positions and spares of the image (R402, R403, R446, R484): a position that the shelf metadata stream
knows keeps its state. -/
def State.applyGroups (s : State) (i : Image) (l : SecLayout) : State :=
  let groups := (List.range 10).map fun g =>
    match l.groups.find? fun c => c.group == g with
    | some c => nativeGroup l c (s.grp g)
    | none => (match i.tallies.find? fun t => t.group == g with
      | some t => tallyGroup (some l) t
      | none => Grp.none)
  let poses := groups.zipIdx.foldl (init := s.axl.poses) fun t x =>
    x.1.members.zipIdx.foldl (init := t) fun t m =>
      let serial := match i.tallies.find? fun y => y.group == x.2 with
        | some y => ((y.members[m.2]?).map (·.2)).getD 0
        | none => 0
      if thas t (posKey x.2 m.2) then t else tset t (posKey x.2 m.2) { Pos.none with slot := m.1, serial := serial }
  let spares := (l.members.filter fun m => m.group == 15).map (·.slot)
  let s : State := { s with lay := { s.lay with groups := groups }, axl := { s.axl with poses := poses, spares := spares } }
  let s := groups.zipIdx.foldl (init := s) fun s x =>
    if !x.1.declared then s
    else s.wrs [(Reg.LAY_GROUP_CFG_K, x.2, x.1.k), (Reg.LAY_GROUP_CFG_TALLY, x.2, b2n x.1.tally), (Reg.LAY_GROUP_CFG_APPEND, x.2, b2n x.1.append), (Reg.LAY_GROUP_CFG_SET, x.2, x.1.set)]
  s.layStatus

/-- Everything that boot step 9 writes from the running image (R89). -/
def State.applyImage (s : State) (i : Image) : State :=
  let gib := (i.platform.map (·.gatherCache)).getD 64
  let s := match i.timebase, i.network with
    | some t, some n => (s.applyNetwork t n).applyScheduler i.scheduler n
    | _, _ => s
  let s := match i.transport with
    | some t => s.applyTransport t
    | none => s
  let s := s.applyPools i.pools gib
  let s := match i.cache with
    | some c => s.applyCache gib c
    | none => s
  let s := match i.layout with
    | some l => (s.applyStorage i l).applyGroups i l
    | none => s
  let s := match i.power with
    | some p => s.applyPower p
    | none => s
  let s := match i.failover with
    | some f => s.applyFailover f
    | none => s
  let s := match i.serviceEp with
    | some t => { s with sep := { s.sep with table := t } }
    | none => s
  s.applyEvents i.events

/-- Items of the shelf metadata stream that fall outside a bound of the running image (R97): one configuration violation each; a
namespace of that kind serves reads and fails writes, a group keeps its width. -/
def State.checkFrozen (s : State) (i : Image) : State :=
  let ns := (s.cmd.nss.filter fun p => match i.namespaces.find? fun n => n.nsid == p.1 with
    | some n => decide (n.maxCap < p.2.size)
    | none => true).map (·.1)
  let gs := (List.range 8).filter fun g => let x := s.grp g; x.declared && !(decide (x.kMin ≤ x.k) && decide (x.k ≤ x.kMax))
  let s : State := { s with cfg := { s.cfg with frozenNs := ns, frozenGroups := gs } }
  let s := ns.foldl (fun s _ => s.violation 0x700000 1) s
  gs.foldl (fun s _ => s.violation 0xD00000 1) s

/-- The anchor roles at RECOVERY (R688): the member that the shelf's labels name, or the image's ANCHORS on a new shelf. -/
def State.startRoles (s : State) (l : SecLayout) : State :=
  foldIdx 3 (fun a s => s.modRole a fun r =>
    let slot := if r.gen = 0 then l.anchors.getD a 31 else r.slot
    { r with st := .active, slot := slot }) s

/-- Enter RECOVERY (R72, R585): the wait for HELLO runs, stored keys are unwrapped (R391), the sets that were on are powered
(R434, R475), and the stream is checked against the image (R97). -/
def State.enterRecovery (s : State) : State :=
  match s.cfg.running, s.layoutSec with
  | some i, some l =>
    let s := s.startRoles l
    let s := s.setDevState .recovery
    let s : State := { s with fov := { s.fov with helloArmed := some s.clock, built := false, requesting := none } }
    let s : State := { s with lay := { s.lay with map := s.lay.stream } }
    let s := s.unwrapAll
    let s := s.fov.setStates.foldl (fun s n => s.requestSet n SetCause.replay) s
    (s.checkFrozen i).jnlStatus
  | _, _ => s

/-- The end of boot (R89 step 12): RECOVERY where AUTO_SERVE is set, else SHELF_IDLE. -/
def State.bootDone (s : State) : State :=
  let s : State := { s with cfg := { s.cfg with phase := .done } }
  let auto := match s.cfg.running with
    | some i => bitOf i.header.flags 0
    | none => false
  if auto then s.enterRecovery else s.setDevState .shelfIdle

end Sys2Proof.Machine
end

