-- ==== Sys2Proof/Machine/Turn.lean ====
section
/-!
DEFINITION. Machine/Turn.lean: the commands of the Turn, its discipline and the double-banked tables (chapter 02), with the core
watchdog and the staging hold (chapter 01).
-/

namespace Sys2Proof.Machine

/-- Nothing but the pins and the supplies acts on a part in reset. -/
def State.up (s : State) (t : State) : State := if s.inReset then s else t

/-- A write of an action bit: nothing in reset; an endpoint's write in SAFE_HOLD is ignored (R655). -/
def State.acts (s : State) (writer : Writer) (offset : Nat) (t : State) : State :=
  s.up <| if writer == .endpoint && s.cfg.state == .safeHold then s.violation offset 0 else t

/-! ### Cores and staging -/

/-- Drop the jobs that a completed admin command had under way. -/
def State.dropJobs (s : State) (ctrl cid : Nat) : State :=
  let mine := fun (j : CommitJob) => j.ctrl == ctrl && j.cid == cid
  let act := match s.cfg.activation with
    | some a => if mine a.job && (a.step == .waiting || a.step == .holding) then none else some a
    | none => none
  let back := s.cfg.activation.isSome && act.isNone
  let prior := match s.cfg.activation with
    | some a => a.prior
    | none => s.cfg.state
  let s := if back && s.cfg.state == .activating then s.setDevState prior else s
  let commit := match s.cfg.commit with
    | some j => if mine j then none else some j
    | none => none
  { s with cfg := { s.cfg with activation := act, commit := commit, release := if s.cfg.release == some (ctrl, cid) then none else s.cfg.release },
           idn := { s.idn with quotes := s.idn.quotes.filter fun q => !(q.ctrl == ctrl && q.cid == cid) },
           cmd := { s.cmd with seqs := s.cmd.seqs.filter fun r => !(r.ctrl == ctrl && r.cid == cid) } }

/-- CORE_WATCHDOG_EXPIRY (R42, R43; at boot step 9, R89): the core is reset, its admin commands fail, and the third expiry within 2^19
Turns withdraws the part. -/
def execCoreWatchdogExpiry (core : Nat) (s : State) : Out :=
  guardUnit (decide (core < 16)) <|
    match s.cfg.phase with
    | .starting => s.bootFault Fc.fwStart s.cfg.runningCopy 0 0
    | .acquiring | .done =>
      let recent := (tgetD s.cfg.watchdogs core []).filter fun t => decide (s.clock ≤ t + 2 ^ 19)
      let tasks := tgetD s.cfg.coreTasks core []
      let s := s.raise Ev.coreWatchdog Sev.error core 0 (recent.length + 1) 0
      let s : State := { s with cfg := { s.cfg with watchdogs := tset s.cfg.watchdogs core (recent ++ [s.clock]), coreTasks := tdel s.cfg.coreTasks core } }
      let s := if core = 1 && !s.cmd.seqs.isEmpty then s.resetCopies .core else s
      let s := tasks.foldl (init := s) fun s t => (s.dropJobs t.1 t.2).replyErr t.1 t.2 St.internal
      let s := if core = 15 then (List.range 384).foldl (fun s i => if s.ovfPending i then s.loseSample i else s) s else s
      if 2 ≤ recent.length then s.withdraw 1 else s
    | _ => s

/-- The staging hold of the running image, in Turns (R28). -/
def State.stagingHold (s : State) : Nat :=
  match s.section? 2 with
  | some (.platform p) => p.stagingHold
  | _ => 16

/-- Bytes that block b of a window can hold: 64 KiB. -/
abbrev blockBytes : Nat := 65536

/-- STAGING_HOLD_EXPIRY (R28, R29, R217): a window block that has not filled within the hold, or that a work request still reads, is
spilled. -/
def execStagingHoldExpiry (window block : Nat) (s : State) : Out :=
  .next <|
    let hit := fun (b : Blk) =>
      b.window == some (window, block) && b.slot?.isSome && due b.hold s.stagingHold s.clock &&
        (match b.owner with
        | none => decide (b.filled < blockBytes)
        | some _ => s.beingRead window block)
    (s.win.blocks.filter fun p => hit p.2).foldl (init := s) fun s p =>
      match p.2.place with
      | .staged _ => (s.modBlk p.1 fun b => { b with place := .spilled, hold := none }).countSpill window block
      | _ => s

/-! ### Times -/

/-- Units of 0.05 ns in a nominal Turn (R47, R58). -/
abbrev turnUnits : Nat := 40960

/-- A timestamp as local time in units of 0.05 ns, nominal cycles (R58, R150). -/
def stampTime (x : Stamp) : Int := (x.turn * turnUnits + x.cycle * 16 + x.sixteenth : Nat)

/-- The actual length of a Turn near the current one, in sixteenths of a cycle (R47, R150). -/
def State.turnLength (s : State) (turn : Nat) : Int :=
  ((if turn + 1 = s.now then s.trn.prevLen else if turn = s.now then s.trn.turnLen else 2560) * 16 : Nat)

/-- Adjust a timestamp by sixteenths of a cycle (R148, R150): across a Turn boundary the Turn field borrows or carries, by the
actual length of the Turn crossed. -/
def State.adjust (s : State) (x : Stamp) (d : Int) : Stamp :=
  let v : Int := (x.cycle * 16 + x.sixteenth : Nat) + d
  let put := fun (turn : Nat) (v : Int) => ({ turn := turn, cycle := v.toNat / 16, sixteenth := v.toNat % 16 } : Stamp)
  if v < 0 then put (x.turn - 1) (v + s.turnLength (x.turn - 1))
  else if s.turnLength x.turn ≤ v then put (x.turn + 1) (v - s.turnLength x.turn)
  else put x.turn v

/-- A register's 16-bit signed value. -/
def signed16 (v : Nat) : Int := if v < 32768 then v else (v : Int) - 65536

/-- A receive timestamp as it is stored (R148). -/
def State.rxStamp (s : State) (unit : Nat) (x : Stamp) : Stamp := s.adjust x (-(signed16 (s.rd Reg.ETH_TS_ADJ_RX_ADJ unit)))

/-- A transmit timestamp as it is stored (R148). -/
def State.txStamp (s : State) (unit : Nat) (x : Stamp) : Stamp := s.adjust x (signed16 (s.rd Reg.ETH_TS_ADJ_TX_ADJ unit))

/-- A PTP time in ns as local time of an aligned counter (R49). -/
def State.ptpTime (s : State) (ns : Nat) : Int := ((ns : Int) - (s.rd Reg.TRN_EPOCH : Int) * 1000000000) * 20

/-! ### The discipline -/

/-- The sub-port that carries PTP (R149). -/
def State.ptpUnit (s : State) : Nat := 2 * s.rd Reg.TRN_CTL_PTP_PORT + s.rd Reg.TRN_CTL_PTP_SUB

/-- Does a sub-port pass PTP frames (R134, R149)? -/
def State.passesPtp (s : State) (unit : Nat) : Bool :=
  unit == s.ptpUnit && (match s.eth[unit]? with
    | some l => l.st == .qualify || l.st == .up
    | none => false)

/-- Code of a discipline state (R52). -/
def Disc.code : Disc → Nat
  | .free => 0
  | .acquiring => 1
  | .locked => 2
  | .holdover => 3

/-- TRN_STATUS and TRN_OFFSET as they stand. -/
def State.trnStatus (s : State) : State :=
  let s := (s.wr Reg.TRN_STATUS_STATE 0 0 s.trn.disc.code).wr Reg.TRN_STATUS_ALIGNED 0 0 (b2n s.trn.aligned)
  (s.wr Reg.TRN_STATUS_SLEWING 0 0 (b2n s.trn.slewing)).wr Reg.TRN_OFFSET 0 0 ((s.trn.offset % (2 ^ 32 : Int)).toNat)

/-- Enter a discipline state (R52), with the Turn-state event. -/
def State.setDisc (s : State) (d : Disc) : State :=
  if s.trn.disc = d then s
  else
    let old := s.trn.disc
    (({ s with trn := { s.trn with disc := d, goodSyncs := 0 } } : State).trnStatus).raise Ev.turnState Sev.warning 0 d.code old.code 0

/-- Hold a frequency correction to the range of R48, in thousandths of it. -/
def clampCorr (c : Int) : Int := if c < -1000 then -1000 else if 1000 < c then 1000 else c

/-- A measured offset in units of 0.05 ns runs the servo (R52, R54, R55): local minus master. -/
def State.measured (s : State) (off : Int) : State :=
  let ns := off / 20
  let s : State := { s with trn := { s.trn with offset := ns } }
  let pend : State := { s with trn := { s.trn with alignPending := true, corr := off } }
  if s.trn.alignPending then s
  else if s.trn.acqArmed.isSome then pend.defer (.align true)
  else if s.trn.reloadArmed.isSome then pend.defer (.align false)
  else if !s.trn.aligned then (s.trnStatus).raise Ev.turnUnaligned Sev.warning 0 0 0 0
  else
    let corr := clampCorr (Config.servo ns s.trn.corr)
    let far := decide (1000000 < ns.natAbs)
    let s : State := { s with trn := { s.trn with corr := corr, slewing := decide (1000 ≤ corr.natAbs), goodSyncs := if ns.natAbs ≤ 50 then s.trn.goodSyncs + 1 else 0 } }
    let s := if far then s.raise Ev.turnOffset Sev.warning 0 0 ((ns % (2 ^ 64 : Int)).toNat) 0 else s
    let s := if s.trn.disc == .acquiring && decide (16 ≤ s.trn.goodSyncs) then s.setDisc .locked else s
    s.trnStatus

/-- PTP_SYNC_RX (R52, R149): a Sync of the parent is stamped and kept, and a Delay_Req leaves. -/
def execPtpSyncRx (unit source seq : Nat) (origin : Option Nat) (rx : Stamp) (s : State) : Out :=
  guardUnit (s.unitOn unit) <|
    match s.trn.parent with
    | some p =>
      if s.passesPtp unit && p.port == source then
        let m : SyncMeas := { source := source, seq := seq, rx := (stampTime (s.rxStamp unit rx)).toNat, origin := origin }
        let s : State := { s with trn := { s.trn with sync := some m, syncArmed := some s.clock } }
        let s := if s.trn.disc == .holdover then s.setDisc .acquiring else s
        s.emit .delayReq [unit, seq]
      else s
    | none => s

/-- PTP_FOLLOW_UP_RX (R52): the origin time of the Sync it follows. -/
def execPtpFollowUpRx (unit source seq origin : Nat) (s : State) : Out :=
  guardUnit (s.unitOn unit) <|
    match s.trn.sync with
    | some m =>
      if s.passesPtp unit && m.source == source && m.seq == seq && m.origin.isNone then
        { s with trn := { s.trn with sync := some { m with origin := some origin } } }
      else s
    | none => s

/-- PTP_DELAY_RESP_RX (R53): the measurement that the Sync began is complete. -/
def execPtpDelayRespRx (unit source seq received : Nat) (tx : Stamp) (s : State) : Out :=
  guardUnit (s.unitOn unit) <|
    match s.trn.sync with
    | some m =>
      (match m.origin with
      | some o =>
        if s.passesPtp unit && m.source == source && m.seq == seq then
          let t1 := s.ptpTime o
          let t2 : Int := m.rx
          let t3 := stampTime (s.txStamp unit tx)
          let t4 := s.ptpTime received
          ({ s with trn := { s.trn with sync := none } } : State).measured (((t2 - t1) - (t4 - t3)) / 2)
        else s
      | none => s)
    | none => s

/-- The data set of an Announce in the order in which IEEE 1588 compares it (R149, notes/assumptions/7.md). -/
def announceKey (a : Announce) : List Nat :=
  [a.priority1, a.clockClass, a.accuracy, a.variance, a.priority2, a.gmIdentity, a.stepsRemoved, a.port]

/-- Does one list of numbers come before another? -/
def listBefore : List Nat → List Nat → Bool
  | a :: as, b :: bs => decide (a < b) || (a == b && listBefore as bs)
  | _, _ => false

/-- PTP_ANNOUNCE_RX (R149): the best master seen is the parent; the parent's own Announce replaces what it said before. -/
def execPtpAnnounceRx (unit : Nat) (data : Announce) (s : State) : Out :=
  guardUnit (s.unitOn unit) <|
    if s.passesPtp unit then
      let take := match s.trn.parent with
        | none => true
        | some p => p.port == data.port || listBefore (announceKey data) (announceKey p)
      if take then
        let same := match s.trn.parent with
          | some p => p.port == data.port
          | none => false
        { s with trn := { s.trn with parent := some data, sync := if same then s.trn.sync else none } }
      else s
    else s

/-- ACQUIRE_TIMEOUT_EXPIRY (R53): no measurement in time; the counter starts at 0 in FREE with ALIGNED clear, and boot goes on
(R89 step 12). -/
def execAcquireTimeoutExpiry (s : State) : Out :=
  .next <|
    if s.cfg.phase == .acquiring && due s.trn.acqArmed (turnsOfSec (s.rd Reg.TRN_CTL_ACQ_TIMEOUT)) s.clock && !s.trn.alignPending then
      let s : State := { s with trn := { s.trn with acqArmed := none, count := 0, disc := .free, aligned := false } }
      let s := (s.trnStatus).raise Ev.turnState Sev.warning 0 0 0 0
      s.bootDone
    else s

/-- SYNC_LOSS_TIMEOUT (R52): 3 s without a valid Sync in LOCKED. -/
def execSyncLossTimeout (s : State) : Out :=
  .next <|
    if s.trn.disc == .locked && due s.trn.syncArmed (turnsOfSec 3) s.clock then
      ({ s with trn := { s.trn with syncArmed := none } } : State).setDisc .holdover
    else s

/-- TRN_RELOAD (R55, R655): honoured in SHELF_IDLE only. -/
def execTrnReload (writer : Writer) (s : State) : Out :=
  .next <| s.up <|
    if s.cfg.state == .shelfIdle then
      ({ s with trn := { s.trn with reloadArmed := some s.clock } } : State).wr Reg.TRN_CTL_RELOAD 0 0 1
    else s.violation 0 (writerCode writer)

/-- RELOAD_TIMEOUT_EXPIRY (R55): RELOAD clears, the counter keeps running unaligned. -/
def execReloadTimeoutExpiry (s : State) : Out :=
  .next <|
    if due s.trn.reloadArmed (turnsOfSec (s.rd Reg.TRN_CTL_ACQ_TIMEOUT)) s.clock && !s.trn.alignPending then
      ({ s with trn := { s.trn with reloadArmed := none } } : State).wr Reg.TRN_CTL_RELOAD 0 0 0
    else s

/-! ### Double-banked tables -/

/-- Is a table's shadow bank written from a control core only (R220, R245, R340)? COMMIT and ABORT always are (R653). -/
def bankCoreOnly : BankId → Bool
  | .gates _ => false
  | _ => true

/-- A window descriptor from its eight words (R196). -/
def descOfWords (l : List Nat) : WinDesc :=
  let d := fun i => l.getD i 0
  { st := if bitsOf (d 0) 0 2 = 1 then .isOpen else if bitsOf (d 0) 0 2 = 2 then .draining else .free, buffer := bitOf (d 0) 2, remoteW := bitOf (d 0) 3, remoteR := bitOf (d 0) 4, bind := bitOf (d 0) 5, fed := bitOf (d 0) 6, keyTag := d 1 % 2 ^ 14, tenant := d 2 % 65536, nsid := d 2 / 65536 % 65536, handle := d 3 % 65536, length := d 4 % 2 ^ 13, openTurn := d 5, listAddr := d 6 + 2 ^ 32 * d 7 }

/-- The eight words of a window descriptor (R196). -/
def WinDesc.words (d : WinDesc) : List Nat :=
  let st := match d.st with
    | .free => 0
    | .isOpen => 1
    | .draining => 2
  [st + 4 * b2n d.buffer + 8 * b2n d.remoteW + 16 * b2n d.remoteR + 32 * b2n d.bind + 64 * b2n d.fed, d.keyTag, d.tenant + 65536 * d.nsid, d.handle, d.length, d.openTurn % 2 ^ 32, d.listAddr % 2 ^ 32, d.listAddr / 2 ^ 32]

/-- Store an entry in a shadow bank; an index or value that the table does not admit leaves it unchanged (R232, R244, R245). -/
def State.shadowPut (s : State) (b : BankId) (i : Nat) (words : List Nat) : State :=
  match b with
  | .windows => if i < 262144 then { s with win := { s.win with table := s.win.table.put i (descOfWords words) } } else s
  | .handles => if i < 4096 then { s with xpt := { s.xpt with handles := s.xpt.handles.put i { mac := words.getD 0 0, ip := words.getD 1 0, unit := words.getD 2 0 } } } else s
  | .gates p => if i < 256 then { s with sch := { s.sch with gates := lmod s.sch.gates p fun g => { g with list := g.list.put i (words.getD 0 0 % 2 ^ 24) } } } else s
  | .params =>
    if i < 24840 && paramOk i words then { s with sch := { s.sch with params := s.sch.params.put i ((words ++ List.replicate 8 0).take 8) } }
    else s.wr Reg.SCH_PARAM_CTL_PARAM_ERR 0 0 1
  | .masks => if i < 8 then { s with gch := { s.gch with masks := s.gch.masks.put i (words.getD 0 0 % 65536) } } else s

/-- A write that only a control core may make, for itself or for a session (R652), from the service endpoint: ignored, with the
configuration-violation event (R653). -/
def State.coreOnly (s : State) (writer : Writer) (only : Bool) (offset : Nat) (t : State) : State :=
  if only && writer == .endpoint then s.violation offset (writerCode writer) else t

/-- SHADOW_WRITE (R62, R65): stored, or dropped while COMMIT is set. -/
def execShadowWrite (writer : Writer) (bank : BankId) (index : Nat) (words : List Nat) (s : State) : Out :=
  guardUnit (decide (bankUnit bank < 8)) <| s.acts writer (bankOffset bank) <| s.coreOnly writer (bankCoreOnly bank) (bankOffset bank) <|
    if s.bankBit bank BankBit.commit then s.lateWrite bank else s.shadowPut bank index words

/-- BANK_COMMIT (R63, R68, R56). -/
def execBankCommit (writer : Writer) (bank : BankId) (s : State) : Out :=
  guardUnit (decide (bankUnit bank < 8)) <| s.up <| s.coreOnly writer true (bankOffset bank) <| s.bankCommit bank

/-- BANK_ABORT (R67). -/
def execBankAbort (writer : Writer) (bank : BankId) (s : State) : Out :=
  guardUnit (decide (bankUnit bank < 8)) <| s.up <| s.coreOnly writer true (bankOffset bank) <| s.bankAbort bank

end Sys2Proof.Machine
end

