-- ==== Sys2Proof/Machine/Boot.lean ====
section
/-!
DEFINITION. Machine/Boot.lean: the commands of reset, boot, thermal and tamper supervision, service and release, firmware download,
commit and activation (chapters 03, 04, 23).
-/

namespace Sys2Proof.Machine

/-! ### Links and the mailbox session at boot -/

/-- A sub-port starts its bring-up (R134): AN, or TRAINING when AN_MODE is forced. -/
def State.startLink (s : State) (u : Nat) : State :=
  let forced := s.rd Reg.ETH_PORT_CFG_AN_MODE u == 1
  let st := if forced then LinkState.training else .an
  let s : State := { s with eth := lmod s.eth u fun _ => { Link.off with st := st, negArmed := some s.clock, trainArmed := if forced then some s.clock else none } }
  s.wr Reg.ETH_PORT_STATUS_LSTATE u 0 (if forced then 2 else 1)

/-- Bring up every enabled sub-port and both peer lanes (R89 step 11, R151). -/
def State.startLinks (s : State) : State :=
  foldIdx 18 (fun u s => if u == 16 || u == 17 || (s.unitOn u && s.rd Reg.ETH_PORT_CFG_EN u == 1) then s.startLink u else s) s

/-- A management session that nobody has authenticated on. -/
def Ctrl.session (host : Nat) : Ctrl :=
  { mgmt := true, host := host, tenant := 0, queues := [], enabled := true, ready := true, kato := 0, lastKeep := 0, roles := none, challenge := none, authFails := 0, aers := [], aenConfig := 0, numQueues := none, awaitRead := false, cc := 0 }

/-- The mailbox session exists from boot on (R611), and MSI-X is masked. -/
def State.openMailbox (s : State) : State := (s.setCtrl s.mailboxId (Ctrl.session 0)).maskVectors

/-! ### Reset -/

/-- SYS_RESET_ASSERT (R73, R669): a pulse of 1 µs takes effect and one below 100 ns does not; between them the spec says nothing. -/
def execSysResetAssert (ns : Nat) (s : State) : Out :=
  .next <|
    if ns < 100 then s
    else
      let taken := decide (1000 ≤ ns) || s.takeFree.1 % 2 == 1
      let s := if 1000 ≤ ns then s else s.takeFree.2
      if taken then s.partReset .held true else s

/-- The fuse programming of boot (R108): an owner slot with enrolment bits but no commit bit is spoiled. -/
def OwnerFuse.spoil (o : OwnerFuse) : OwnerFuse :=
  let started := o.digest != 0 || o.secret != 0 || o.enrolled
  if started && !o.enrolCommit && !o.spoilCommit then { o with spoiled := true, spoilCommit := true } else o

/-- Do the fused identity fields pass R107? -/
def Fuses.fieldsOk (f : Fuses) : Bool :=
  decide (f.speedBin ≤ 1) && within 1 f.wafer 25 && f.stepping == 0xB0 && (f.variant == 0x2400 || f.variant == 0x2416)

/-- The string that the identity key is derived from (R109). -/
def Fuses.identityString (f : Fuses) : List Byte :=
  ascii "LXIDK" ++ leBytes 32 f.idSeed ++ leBytes 7 f.lot ++ leBytes 1 f.wafer ++ leBytes 1 f.dieX ++ leBytes 1 f.dieY ++ leBytes 1 f.stepping ++ leBytes 2 f.variant ++ leBytes 1 f.speedBin

/-- The identity private key (R109). -/
def Fuses.identityKey (f : Fuses) : Nat := Config.shake256 f.identityString 57

/-- SYS_RESET_RELEASE (R88, R89 steps 1 and 2, R569): FORCE_SAFE_N, CAN_SEL, fuses and known-answer tests. -/
def execSysResetRelease (obs : ReleaseObs) (s : State) : Out :=
  .next <|
    if s.cfg.phase != .held then s
    else
      let f := s.idn.fuses
      let canister := b2n obs.canSel
      let unspoiled := f.owners.any fun o => o.spoil != o
      let f := if obs.vppFuse && obs.fuseOk then { f with owners := f.owners.map OwnerFuse.spoil } else f
      let good := obs.fuseOk && f.fieldsOk
      let pub := Config.edPublic f.identityKey
      let ready := good && obs.katOk && decide (pub = f.certIdPub)
      let s : State := { s with cfg := { s.cfg with resetAsserted := false, phase := .training, canister := canister }, idn := { s.idn with fuses := f, fuseOk := good, vppFuse := obs.vppFuse, keyReady := ready, idPub := if obs.katOk then pub else 0 } }
      let s := (s.wr Reg.FOV_CFG_CANISTER 0 0 canister).wr Reg.IDN_STATUS_KEY_READY 0 0 (b2n ready)
      let s := if unspoiled && obs.fuseOk && !obs.vppFuse then s.wr Reg.IDN_STATUS_PROG_ERR 0 0 1 else s
      let s := s.openMailbox
      if decide (16 ≤ obs.forceLow.length) && obs.forceLow.all id then (s.bootFault Fc.forced 0 0 0).wr Reg.CFG_STATE_FORCE_SAFE 0 0 1
      else if !good then s.bootFault Fc.fuse 0 0 0
      else if !obs.katOk then s.bootFault Fc.selfTest 0 0 0
      else if !ready then s.bootFault Fc.fuse 0 0 0
      else s

/-! ### Boot selection -/

/-- A copy region of SPI NOR. -/
def State.copyOf (s : State) (c : Nat) : SpiCopy := s.cfg.spi.getD c SpiCopy.erased

/-- Change a copy region. -/
def State.modCopy (s : State) (c : Nat) (f : SpiCopy → SpiCopy) : State := { s with cfg := { s.cfg with spi := lmod s.cfg.spi c f } }

/-- The image of a copy whose header passes R78. -/
def State.headerImage (s : State) (c : Nat) : Option Image :=
  let r := s.copyOf c
  match r.image with
  | some i => if !r.unreadable && !r.headerErased && headerOk i.header s.idn.fuses.variant then some i else none
  | none => none

/-- The copy that is tried first (R91). -/
def State.firstCopy (s : State) : Option Nat :=
  match s.headerImage 0, s.headerImage 1 with
  | some a, some b => some (if a.header.sequence < b.header.sequence then 1 else 0)
  | some _, none => some 0
  | none, some _ => some 1
  | none, none => none

/-- A copy fails at step 5, 6 or 7 (R91): the other is tried once, else SAFE_HOLD and the image-rejected event with both faults. -/
def State.copyFailed (s : State) (c : Nat) (fallback : Bool) (r : Reject) : State :=
  let other := 1 - c
  if !fallback && (s.headerImage other).isSome then
    let s : State := { s with cfg := { s.cfg with firstFault := some (c, r.code), phase := .reading other true } }
    (s.setFault r.code c r.section_ r.loc).wr Reg.CFG_BOOT_FALLBACK 0 0 1
  else
    let first := match s.cfg.firstFault with
      | some f => f.2
      | none => 0
    (s.raise Ev.imageRejected Sev.error c r.code first r.loc).bootFault r.code c r.section_ r.loc

/-- DRAM_TRAINING_DONE (R34, R35, R89 steps 3 and 4). -/
def execDramTrainingDone (channels : List ChannelTraining) (sfdpQuad : Bool) (s : State) : Out :=
  .next <|
    if s.cfg.phase != .training then s
    else match channels with
    | [] => s.bootFault Fc.dram 0 0 0
    | c :: cs =>
      if channels.length != 12 || !(channels.all fun x => x.trained && x.moduleType == c.moduleType && x.gib == c.gib) then s.bootFault Fc.dram 0 0 0
      else
        let rate := cs.foldl (fun a x => min a x.rate) c.rate
        let s : State := { s with cfg := { s.cfg with sfdpQuad := sfdpQuad, dramGib := 12 * c.gib, dramRate := rate } }
        let s := (s.wr Reg.CFG_BOOT_A_VALID 0 0 (b2n (s.headerImage 0).isSome)).wr Reg.CFG_BOOT_B_VALID 0 0 (b2n (s.headerImage 1).isSome)
        if !anyOwner s.idn.fuses then s.bootFault 9 0 0 0
        else match s.firstCopy with
        | some k => { s with cfg := { s.cfg with phase := .reading k false } }
        | none => s.bootFault Fc.header 1 0 0

/-- SPI_TRANSACTION_TIMEOUT (R76): the copy being read is unreadable. -/
def execSpiTransactionTimeout (copy : Nat) (s : State) : Out :=
  guardUnit (decide (copy < 2)) <|
    match s.cfg.phase with
    | .reading c fallback => if c = copy then s.copyFailed c fallback ⟨Fc.spi, 0, 0⟩ else s
    | _ => s

/-- The words of a 64-byte digest. -/
def State.wrDigest (s : State) (d : Nat) : State := foldIdx 16 (fun w s => s.wr Reg.CFG_DIGEST 0 w (d / 2 ^ (32 * w) % 2 ^ 32)) s

/-- The running copy and what the CFG registers say of it. -/
def State.setRunning (s : State) (c : Nat) (i : Image) : State :=
  let svn := (i.fw.map (·.svn)).getD 0
  let dig := (i.fw.map (·.codeDigest)).getD 0
  let s : State := { s with cfg := { s.cfg with running := some i, runningCopy := c, fwDigest := dig } }
  let s := match i.serviceEp with
    | some e => { s with sep := { s.sep with table := e } }
    | none => s
  let s := s.sepStart
  ((s.wr Reg.CFG_BOOT_COPY 0 0 c).wr Reg.CFG_BOOT_FW_SVN 0 0 svn).wr Reg.CFG_SEQ 0 0 i.header.sequence |>.wrDigest i.trailer.digest

/-- COPY_READ_DONE (R89 steps 5 to 8). -/
def execCopyReadDone (s : State) : Out :=
  .next <| match s.cfg.phase with
    | .reading c fallback =>
      (match (s.copyOf c).image with
      | none => s.copyFailed c fallback ⟨7, 0, 0⟩
      | some i =>
        match copyFault i s.idn.fuses s.cfg.dramGib s.idn.idPub with
        | some r => s.copyFailed c fallback r
        | none =>
          let low := match i.platform with
            | some p => decide (s.cfg.dramRate < p.dramMinRate)
            | none => false
          if low then s.bootFault Fc.dram c 2 0
          else
            let s := (skippedTypes i).foldl (fun s t => s.raise Ev.imageNotice Sev.notice 0 0 t 0) s
            let s := match s.cfg.firstFault with
              | some (k, code) => s.raise Ev.imageRejected Sev.error k code 0 0
              | none => s
            let s := s.setRunning c i
            { s with cfg := { s.cfg with phase := .starting } })
    | _ => s

/-- FIRMWARE_STARTED (R89 steps 9 to 11, R90): the registers are written, boot lock is set, the enabled ports come up, and the wait for
a first PTP measurement begins. -/
def execFirmwareStarted (s : State) : Out :=
  .next <| match s.cfg.phase, s.cfg.running with
    | .starting, some i =>
      let s := s.applyImage i
      let s : State := { s with cfg := { s.cfg with locked := true, phase := .acquiring }, trn := { s.trn with acqArmed := some s.clock } }
      (s.wr Reg.CFG_STATE_LOCKED 0 0 1).startLinks
    | _, _ => s

/-- CFG_REBOOT (R73): a reset in SAFE_HOLD and SHELF_IDLE; elsewhere a configuration violation. -/
def execCfgReboot (writer : Writer) (s : State) : Out :=
  .next <| s.up <|
    if s.cfg.state == .safeHold || s.cfg.state == .shelfIdle then s.partReset .held false
    else s.violation Reg.CFG_CTL_REBOOT.off (writerCode writer)

/-! ### Tamper, supplies and temperature -/

/-- Clear every key that the part holds (R127 step 1). -/
def State.clearKeys (s : State) : State :=
  let s : State := { s with cph := { s.cph with slots := [], loads := [] }, idn := { s.idn with keyReady := false, idPub := 0, job := none } }
  let s := foldIdx 8 (fun w s => s.wr Reg.IDN_ENROL_SECRET 0 w 0) s
  let s := foldIdx 16 (fun r s => foldIdx 8 (fun w s => s.wr Reg.CPH_FBK_KEY r w 0) s) s
  ((s.wr Reg.IDN_STATUS_KEY_READY 0 0 0).wr Reg.IDN_STATUS_PROG_BUSY 0 0 0).keyStatus

/-- A tamper event (R127 to R129, R594). -/
def State.tampered (s : State) (cause : Nat) : State :=
  let s := s.clearKeys
  let s := (s.raise Ev.tamper Sev.fatal 0 cause s.idn.fuses.tamperCount 0).raise Ev.withdrawal Sev.fatal 0 4 0 0
  let s := if s.idn.vppFuse then { s with idn := { s.idn with fuses := { s.idn.fuses with tamperCount := min 8 (s.idn.fuses.tamperCount + 1) } } } else s.wr Reg.IDN_STATUS_PROG_ERR 0 0 1
  let s := s.abandonActivation
  let s := if s.serving then s.depose 1 4 else s
  let s : State := { s with fov := { s.fov with eligible := false } }
  s.enterSafeHold

/-- TAMPER_EVENT (R126, R127). -/
def execTamperEvent (cause : TamperCause) (s : State) : Out :=
  .next <| s.up <| s.tampered (match cause with
    | .pin => 0
    | .supplyGlitch => 1
    | .clockGlitch => 2)

/-- BROWN_OUT (R667): an excursion of a monitored rail, while SYS_RESET_N is deasserted. -/
def execBrownOut (rail percent ns : Nat) (s : State) : Out :=
  guardUnit (decide (rail < 3)) <| s.up <|
    if percent ≤ 10 then s
    else if 1000 ≤ ns then s.partReset .held false
    else if 20 < percent then s.tampered 1
    else s

/-- Send one asynchronous event to every controller that waits for one and enabled its notice (R261): DW0. -/
def State.asyncNotice (s : State) (bit dw0 : Nat) (only : Nat → Ctrl → Bool) : State :=
  s.cmd.ctrls.foldl (init := s) fun s p =>
    if (bit == 32 || bitOf p.2.aenConfig bit) && only p.1 p.2 then
      match p.2.aers with
      | cid :: rest => (s.emit .asyncEvent [p.1, cid, dw0]).modCtrl p.1 fun c => { c with aers := rest }
      | [] => s
    else s

/-- The on-die sensor crosses the thresholds of the Temperature Threshold feature (R264, R623), in kelvin. -/
def State.judgeTemperature (s : State) (celsius : Int) : State :=
  let k := celsius + 273
  let excess := decide (s.cmd.tempOver ≤ k)
  let under := decide (k ≤ s.cmd.tempUnder)
  let kel := k.toNat
  let s1 := if excess && !s.cmd.tempIsOver then s.raise Ev.temperature Sev.warning 0 0 kel 0 else s
  let s2 := if under && !s.cmd.tempIsUnder then s1.raise Ev.temperature Sev.warning 0 1 kel 0 else s1
  { s2 with cmd := { s2.cmd with tempIsOver := excess, tempIsUnder := under }, cfg := { s2.cfg with temperature := celsius } }

/-- TEMPERATURE_SAMPLE (R680, R681). -/
def execTemperatureSample (main companionA companionB : Int) (s : State) : Out :=
  .next <| s.up <|
    let hot := fun (now : Bool) (n : Nat) => if now then n + 1 else 0
    let m := hot (decide (115 ≤ main)) s.cfg.hotMain
    let a := hot (decide (135 ≤ companionA)) s.cfg.hotA
    let b := hot (decide (135 ≤ companionB)) s.cfg.hotB
    if 4 ≤ m || 4 ≤ a || 4 ≤ b then (s.partReset .thermalHeld false).emit .pin [0, 0]
    else ({ s with cfg := { s.cfg with hotMain := m, hotA := a, hotB := b } } : State).judgeTemperature main

/-! ### Service and release -/

/-- SERVICE_REQUEST (R72): SHELF_IDLE to RECOVERY. -/
def execServiceRequest (ctrl cid : Nat) (s : State) : Out :=
  .next <| s.admin (.serviceRequest ctrl cid) ctrl cid (.mgmt (some RoleBit.admin)) fun s =>
    if s.cfg.state == .shelfIdle then s.enterRecovery.replyOk ctrl cid else s.replyErr ctrl cid St.denied

/-- Stripes that are not yet written in full while a journal record names them (R74). -/
def State.stragglers (s : State) : Bool :=
  s.lay.stripes.any (fun x => x.st != .written) || s.cmd.entries.any (fun p => p.2.admitted && p.2.kind.writeClass) || !s.lay.gathering.isEmpty

/-- RELEASE_REQUEST (R74): on the standby at the next boundary; on the active canister once its stragglers have drained. -/
def execReleaseRequest (ctrl cid : Nat) (s : State) : Out :=
  .next <| s.admin (.releaseRequest ctrl cid) ctrl cid (.mgmt (some RoleBit.admin)) fun s =>
    match s.cfg.state with
    | .standby => s.defer (.standbyRelease ctrl cid)
    | .active =>
      if s.cfg.release.isSome then s.replyErr ctrl cid St.interrupted
      else
        let s : State := { s with cfg := { s.cfg with release := some (ctrl, cid) } }
        s.openStripes.foldl (fun s x => (s.padStripe x.group x.row).checkStripe x.group x.row) s
    | _ => s.replyErr ctrl cid St.denied

/-- RELEASE_DRAIN_DONE (R74): the released canister gives up the Pawn and enters SHELF_IDLE. -/
def execReleaseDrainDone (s : State) : Out :=
  .next <| match s.cfg.release with
    | some (ctrl, cid) =>
      if s.cfg.state == .active && !s.stragglers then
        let s := s.depose 0 4
        let s := s.setDevState .shelfIdle
        ({ s with cfg := { s.cfg with release := none } } : State).replyOk ctrl cid
      else s
    | none => s

/-! ### Download and commit -/

/-- The copy region that a firmware slot names: slot 1 is copy A, slot 2 copy B (notes/assumptions/7.md). -/
def copyOfSlot (slot : Nat) : Option Nat := if slot = 1 then some 0 else if slot = 2 then some 1 else none

/-- FIRMWARE_IMAGE_DOWNLOAD (R98): the first download into the other slot erases it; the bytes are written as they arrive. -/
def execFirmwareImageDownload (ctrl cid slot offset length : Nat) (image : Option Image) (s : State) : Out :=
  .next <| s.admin (.firmwareImageDownload ctrl cid slot offset length image) ctrl cid (.mgmt (some RoleBit.firmware)) fun s =>
    match copyOfSlot slot with
    | none => s.replyErr ctrl cid St.badSlot
    | some c =>
      if s.cfg.running.isSome && s.cfg.runningCopy = c then s.replyErr ctrl cid St.badSlot
      else if 2 ^ 24 < offset + length then s.replyErr ctrl cid St.invalidField
      else
        let s := if s.cfg.downloadSlot = some c then s else (s.modCopy c fun _ => SpiCopy.erased).emit .spi [c, 0]
        let s := s.modCopy c fun r => { image := image, headerErased := r.headerErased && offset != 0, unreadable := false, written := max r.written (offset + length) }
        (({ s with cfg := { s.cfg with downloadSlot := some c } } : State).emit .spi [c, 1]).replyOk ctrl cid

/-- Erase the header sector of a copy (R99). -/
def State.eraseHeader (s : State) (c : Nat) : State := (s.modCopy c fun r => { r with headerErased := true }).emit .spi [c, 0]

/-- A Firmware Commit is taken (R99): its slot is to be read back. -/
def State.startCommit (s : State) (ctrl cid slot action : Nat) : State :=
  match copyOfSlot slot with
  | none => s.replyErr ctrl cid St.badSlot
  | some c =>
    if s.cfg.commit.isSome then s.replyErr ctrl cid St.interrupted
    else
      let s : State := { s with cfg := { s.cfg with commit := some { ctrl := ctrl, cid := cid, copy := c, action := action } } }
      s.startTask (adminCore cid) ctrl cid

/-- FIRMWARE_COMMIT_STORE (R99, R100). -/
def execFirmwareCommitStore (ctrl cid slot : Nat) (s : State) : Out :=
  .next <| s.admin (.firmwareCommitStore ctrl cid slot) ctrl cid (.mgmt (some RoleBit.firmware)) fun s => s.startCommit ctrl cid slot 0

/-- FIRMWARE_COMMIT_AT_RESET (R99, R100): actions 001 and 010; any other fails. -/
def execFirmwareCommitAtReset (ctrl cid slot action : Nat) (s : State) : Out :=
  .next <| s.admin (.firmwareCommitAtReset ctrl cid slot action) ctrl cid (.mgmt (some RoleBit.firmware)) fun s =>
    if action = 1 ∨ action = 2 then s.startCommit ctrl cid slot action else s.replyErr ctrl cid St.invalidField

/-- FIRMWARE_COMMIT_ACTIVATE (R99, R101). -/
def execFirmwareCommitActivate (ctrl cid slot : Nat) (s : State) : Out :=
  .next <| s.admin (.firmwareCommitActivate ctrl cid slot) ctrl cid (.mgmt (some RoleBit.firmware)) fun s => s.startCommit ctrl cid slot 3

/-- Do the bounds of an image exclude runtime state (R97, R101)? -/
def State.excludes (s : State) (i : Image) : Bool :=
  (s.cmd.nss.any fun p => match i.namespaces.find? fun n => n.nsid == p.1 with
    | some n => decide (n.maxCap < p.2.size)
    | none => true) ||
  (List.range 8).any fun g =>
    let x := s.grp g
    x.declared && (match i.layout with
      | some l => (match l.groups.find? fun c => c.group == g with
        | some c => !(decide (c.kMin ≤ x.k) && decide (x.k ≤ c.kMax))
        | none => true)
      | none => true)

/-- Why action 011 is refused (R101). -/
def State.activationRefusal (s : State) (i : Image) : Option (Nat × Nat) :=
  let same := match s.cfg.running with
    | some r => decide (fSections r = fSections i)
    | none => false
  if !same then some St.needsReset
  else if s.excludes i || s.cfg.activation.isSome || s.cfg.state == .boot || s.cfg.state == .safeHold || s.cfg.state == .recovery then some St.prohibited
  else none

/-- The fault of a slot that is read back at a commit (R99): steps 5 to 7, and a SEQUENCE above the running copy's. -/
def State.commitFault (s : State) (c : Nat) (readOk : Bool) : Option Reject :=
  if !readOk then some ⟨Fc.spi, 0, 0⟩
  else match (s.copyOf c).image, s.headerImage c with
  | none, _ => some ⟨7, 0, 0⟩
  | some _, none => some ⟨Fc.header, 0, 0⟩
  | some _, some i =>
    match copyFault i s.idn.fuses s.cfg.dramGib s.idn.idPub with
    | some r => some r
    | none =>
      let cur := match s.cfg.running with
        | some r => r.header.sequence
        | none => 0
      if i.header.sequence ≤ cur then some ⟨Fc.header, 0, 0x10⟩ else none

/-- COMMIT_READBACK_DONE (R99 to R102). -/
def execCommitReadbackDone (readOk : Bool) (s : State) : Out :=
  .next <| match s.cfg.commit with
    | none => s
    | some j =>
      let s : State := { s with cfg := { s.cfg with commit := none, downloadSlot := none } }
      let done := fun (s : State) => s.endTask (adminCore j.cid) j.ctrl j.cid
      match s.commitFault j.copy readOk with
      | some r => ((done (s.eraseHeader j.copy)).setFault r.code j.copy r.section_ r.loc).replyErr j.ctrl j.cid St.badImage
      | none =>
        if j.action != 3 then (done s).replyOk j.ctrl j.cid
        else match (s.copyOf j.copy).image with
        | none => s
        | some i =>
          match s.activationRefusal i with
          | some st => (done s).replyErr j.ctrl j.cid st
          | none => ({ s with cfg := { s.cfg with activation := some { job := j, step := .waiting, prior := s.cfg.state, guard := none } } } : State).defer .activationHold

/-! ### Activation -/

/-- ACTIVATION_RECORD_WRITTEN (R102 steps 4 to 6): the other admin commands are done, and the cores restart. -/
def execActivationRecordWritten (s : State) : Out :=
  .next <| match s.cfg.activation with
    | some a =>
      let busy := s.cfg.coreTasks.any fun p => p.2.any fun t => t != (a.job.ctrl, a.job.cid)
      if a.step == .holding && !busy then { s with cfg := { s.cfg with activation := some { a with step := .restarted } } } else s
    | none => s

/-- What a hitless activation changes (R101, R102): the sections that are not of class F, on blocks that keep running. -/
def State.applyHitless (s : State) (i : Image) : State :=
  let s : State := match i.transport with
    | some t => s.applyTransport t
    | none => s
  let s : State := match i.layout with
    | some l =>
      let s := s.applyStorage i l
      l.groups.foldl (fun s c => s.modGrp c.group fun g => { g with kMin := c.kMin, kMax := c.kMax, append := c.append == 1 }) s
    | none => s
  let s : State := match i.power with
    | some p => s.applyPower p
    | none => s
  let s : State := match i.failover with
    | some f =>
      let known := s.fov.served
      let s := s.applyFailover f
      { s with fov := { s.fov with served := s.fov.served.map fun (p : Nat × Served) => (p.1, (tget known p.1).getD p.2) } }
    | none => s
  s.applyEvents i.events

/-- FIRMWARE_READY (R102 step 7): admission resumes at the next boundary. -/
def execFirmwareReady (s : State) : Out :=
  .next <| match s.cfg.activation with
    | some a =>
      if a.step == .restarted then
        match (s.copyOf a.job.copy).image with
        | some i =>
          let s := (s.setRunning a.job.copy i).applyHitless i
          ({ s with cfg := { s.cfg with activation := some { a with step := .ready, guard := none } } } : State).defer .activationResume
        | none => s
      else s
    | none => s

/-- ACTIVATION_GUARD_EXPIRY (R103): the old code resumes, the new slot loses its header, the commit fails. -/
def execActivationGuardExpiry (s : State) : Out :=
  .next <| match s.cfg.activation with
    | some a =>
      if due a.guard 24415 s.clock && (a.step == .holding || a.step == .restarted) then
        let s : State := { s with cfg := { s.cfg with activation := none } }
        let s := s.setDevState a.prior
        let s := (s.eraseHeader a.job.copy).setFault Fc.activation a.job.copy 0 0
        let s := s.raise Ev.activationFailed Sev.error a.job.copy Fc.activation 0 0
        (s.endTask (adminCore a.job.cid) a.job.ctrl a.job.cid).replyErr a.job.ctrl a.job.cid St.badImage
      else s
    | none => s

end Sys2Proof.Machine
end

