-- ==== Sys2Proof/Machine/Identity.lean ====
section
/-!
DEFINITION. Machine/Identity.lean: owner enrolment and revocation, fuse programming, the SVN floor and attestation quotes (chapter
04).
-/

namespace Sys2Proof.Machine

/-- The number that the first `n` words of a register array spell. -/
def State.words (s : State) (f : Fld) (i n : Nat) : Nat := (List.range n).foldr (fun w a => s.rd f i w + 2 ^ 32 * a) 0

/-- DEVICE_ID (R110). -/
def State.deviceId (s : State) : Nat := Config.shake256 (leBytes 57 s.idn.idPub) 16

/-- An owner slot. -/
def State.owner (s : State) (i : Nat) : OwnerFuse := s.idn.fuses.owners.getD i OwnerFuse.blank

/-- Change an owner slot. -/
def State.modOwner (s : State) (i : Nat) (f : OwnerFuse → OwnerFuse) : State :=
  { s with idn := { s.idn with fuses := { s.idn.fuses with owners := lmod s.idn.fuses.owners i f } } }

/-- Fuse programming starts (R665). -/
def State.startFuse (s : State) (j : FuseJob) : State :=
  ({ s with idn := { s.idn with job := some j } } : State).wr Reg.IDN_STATUS_PROG_BUSY 0 0 1

/-- The RESULT field of IDN_ENROL_CTL, with GO cleared. -/
def State.enrolResult (s : State) (r : Nat) : State := (s.wr Reg.IDN_ENROL_CTL_RESULT 0 0 r).wr Reg.IDN_ENROL_CTL_GO 0 0 0

/-- Enrolment and revocation run in SAFE_HOLD only, one at a time (R112). -/
def State.enrolGate (s : State) (writer : Writer) (f : State → State) : State :=
  s.up <|
    if s.cfg.state != .safeHold then (s.violation Reg.IDN_ENROL_CTL_GO.off (writerCode writer)).enrolResult 5
    else if s.idn.job.isSome then s
    else f s

/-- OWNER_ENROL (R112, R113). -/
def execOwnerEnrol (writer : Writer) (s : State) : Out :=
  .next <| s.enrolGate writer fun s =>
    let slot := s.rd Reg.IDN_ENROL_CTL_SLOT
    let secret := s.words Reg.IDN_ENROL_SECRET 0 8
    let key := s.words Reg.IDN_ENROL_KEY 0 16 % 2 ^ 456
    let s := foldIdx 8 (fun w s => s.wr Reg.IDN_ENROL_SECRET 0 w 0) s
    if s.owner slot != OwnerFuse.blank then s.enrolResult 2
    else if secret = 0 then s.enrolResult 3
    else
      let digest := Config.shake256 (leBytes 57 key) 64
      let s := if s.idn.vppFuse then s.modOwner slot fun o => { o with digest := digest, secret := secret, enrolled := true } else s
      (s.startFuse (.enrol slot digest secret)).wr Reg.IDN_ENROL_CTL_GO 0 0 1

/-- The message that a revocation signs (R114). -/
def State.revokeMessage (s : State) (slot : Nat) : List Byte :=
  leBytes 64 (Config.shake256 (ascii "LXREVOKE" ++ leBytes 16 s.deviceId ++ leBytes 1 slot) 64)

/-- OWNER_REVOKE (R112, R114). -/
def execOwnerRevoke (writer : Writer) (s : State) : Out :=
  .next <| s.enrolGate writer fun s =>
    let slot := s.rd Reg.IDN_ENROL_CTL_SLOT
    let key := s.words Reg.IDN_ENROL_KEY 0 16 % 2 ^ 456
    let sig := s.words Reg.IDN_ENROL_SIG 0 32 % 2 ^ 912
    let s := foldIdx 8 (fun w s => s.wr Reg.IDN_ENROL_SECRET 0 w 0) s
    let o := s.owner slot
    if o.usable && Config.shake256 (leBytes 57 key) 64 == o.digest && Config.edVerify key (s.revokeMessage slot) sig then
      let s := if s.idn.vppFuse then s.modOwner slot fun o => { o with revoked := true } else s
      (s.startFuse (.revoke slot)).wr Reg.IDN_ENROL_CTL_GO 0 0 1
    else s.enrolResult 4

/-- Programming ends: PROG_BUSY clears, PROG_ERR where the read-back failed. -/
def State.endFuse (s : State) (ok : Bool) : State :=
  let s := ({ s with idn := { s.idn with job := none } } : State).wr Reg.IDN_STATUS_PROG_BUSY 0 0 0
  if ok then s else s.wr Reg.IDN_STATUS_PROG_ERR 0 0 1

/-- FUSE_PROGRAM_DONE (R108, R113, R114, R119, R121, R92, R665). -/
def execFuseProgramDone (readBackOk : Bool) (s : State) : Out :=
  .next <| match s.idn.job with
    | none => s
    | some j =>
      let ok := readBackOk && s.idn.vppFuse
      let s := s.endFuse ok
      match j with
      | .enrol slot _ _ => if ok then (s.modOwner slot fun o => { o with enrolCommit := true }).enrolResult 1 else s.enrolResult 6
      | .revoke slot =>
        if ok then
          let s := ((s.modOwner slot fun o => { o with revokeCommit := true }).ownerGone slot).enrolResult 1
          if anyOwner s.idn.fuses then s else s.setFault 9 0 0 0
        else s.enrolResult 6
      | .align t => if ok then { s with idn := { s.idn with fuses := { s.idn.fuses with alignRec := t, alignCommit := true } } } else s
      | .svn target ctrl cid =>
        let floor := s.idn.fuses.svnFloor
        let setFloor := fun (s : State) (v : Nat) => ({ s with idn := { s.idn with fuses := { s.idn.fuses with svnFloor := v } } } : State)
        let s := s.endTask (adminCore cid) ctrl cid
        if ok then (setFloor s target).reply ctrl cid St.ok target 0
        else if s.idn.vppFuse then (setFloor s.takeFree.2 (floor + s.takeFree.1 % (target - floor))).replyErr ctrl cid St.internal
        else s.replyErr ctrl cid St.internal

/-- Firmware's SVN in a copy that passes R78. -/
def State.copySvn (s : State) (c : Nat) : Option Nat :=
  match s.headerImage c with
  | some i => (i.fw).map FwPackage.svn
  | none => none

/-- SVN_FLOOR_RAISE (R120, R121): the first case of the table that holds decides. -/
def execSvnFloorRaise (ctrl cid : Nat) (s : State) : Out :=
  .next <| s.admin (.svnFloorRaise ctrl cid) ctrl cid (.mgmt (some RoleBit.firmware)) (held := false) fun s =>
    if s.cfg.state == .activating then s.replyErr ctrl cid St.interrupted
    else match s.cfg.running with
    | none => s.replyErr ctrl cid St.denied
    | some i =>
      let target := ((i.fw).map FwPackage.svn).getD 0
      let floor := s.idn.fuses.svnFloor
      let low := fun c => match s.copySvn c with
        | some v => decide (v < target)
        | none => true
      if target ≤ floor then s.reply ctrl cid St.ok floor 0
      else if low 0 || low 1 then s.replyErr ctrl cid St.denied
      else if s.idn.job.isSome then s.replyErr ctrl cid St.interrupted
      else (s.startFuse (.svn target ctrl cid)).startTask (adminCore cid) ctrl cid

/-! ### Quotes -/

/-- ATTESTATION_QUOTE (R122, R123): sampled at the next boundary, signed after. A part whose identity key is cleared signs nothing. -/
def execAttestationQuote (ctrl cid nonce : Nat) (s : State) : Out :=
  .next <| s.admin (.attestationQuote ctrl cid nonce) ctrl cid (.mgmt none) (safe := true) fun s =>
    if nonce = 0 then s.replyErr ctrl cid St.invalidField
    else if 8 ≤ s.idn.quotes.length then s.replyErr ctrl cid St.interrupted
    else if !s.idn.keyReady then s.replyErr ctrl cid St.denied
    else
      let q : Quote := { ctrl := ctrl, cid := cid, nonce := nonce, sampled := none }
      ({ s with idn := { s.idn with quotes := s.idn.quotes ++ [q] } } : State).defer .quoteSample

/-- Bytes 0x000 to 0x14F of a quote (R124). -/
def State.quoteBody (s : State) (nonce : Nat) : List Byte :=
  let f := s.idn.fuses
  let flags := b2n s.trn.aligned + 2 * b2n (f.speedBin == 0) + 4 * b2n s.cfg.running.isNone + 8 * b2n (f.tamperCount != 0)
  let img := match s.cfg.running with
    | some i => (i.trailer.digest, ((i.fw).map FwPackage.svn).getD 0, i.header.ownerSlot, i.header.sequence)
    | none => (0, 0, 0, 0)
  let owner := if s.cfg.running.isSome then (s.owner img.2.2.1).digest else 0
  ascii "LXAQ" ++ leBytes 2 1 ++ leBytes 2 flags ++ leBytes 2 f.variant ++ leBytes 2 f.stepping ++
    leBytes 1 f.speedBin ++ leBytes 1 f.wafer ++ leBytes 1 f.dieX ++ leBytes 1 f.dieY ++ leBytes 7 f.lot ++ leBytes 1 f.tamperCount ++
    leBytes 8 s.now ++ leBytes 32 nonce ++ leBytes 64 s.cfg.fwDigest ++ leBytes 64 img.1 ++ leBytes 1 img.2.1 ++ leBytes 1 f.svnFloor ++
    leBytes 1 s.cfg.state.code ++ leBytes 1 img.2.2.1 ++ leBytes 1 s.cfg.runningCopy ++ leBytes 3 0 ++ leBytes 4 img.2.2.2 ++ leBytes 4 0 ++
    leBytes 64 owner ++ leBytes 57 s.idn.idPub ++ leBytes 7 0

/-- Sample every quote that waits (R123). -/
def State.sampleQuotes (s : State) : State :=
  { s with idn := { s.idn with quotes := s.idn.quotes.map fun q => if q.sampled.isSome then q else { q with sampled := some ((s.quoteBody q.nonce).map (·.toNat)) } } }

/-- QUOTE_SIGNED (R124): the oldest sampled quote, its signature and DEVICE_CERT are returned. -/
def execQuoteSigned (s : State) : Out :=
  .next <| match s.idn.quotes with
    | q :: rest =>
      (match q.sampled with
      | some body =>
        if s.idn.keyReady then
          let digest := Config.shake256 (body.map (BitVec.ofNat 8)) 64
          let sig := Config.edSign s.idn.fuses.identityKey (leBytes 64 digest)
          let s : State := { s with idn := { s.idn with quotes := rest } }
          (s.emit .data ([q.ctrl, q.cid] ++ body ++ [sig, s.idn.fuses.cert])).replyOk q.ctrl q.cid
        else s
      | none => s)
    | [] => s

end Sys2Proof.Machine
end

