-- ==== Sys2Proof/Machine/Ports.lean ====
section
/-!
DEFINITION. Machine/Ports.lean: the commands of the sub-ports and peer lanes: bring-up, FEC windows, received frames, ARP and Neighbour
Discovery (chapter 05).
-/

namespace Sys2Proof.Machine

/-- A sub-port or peer lane. -/
def State.link (s : State) (u : Nat) : Link := s.eth.getD u Link.off

/-- Change a sub-port or peer lane. -/
def State.modLink (s : State) (u : Nat) (f : Link → Link) : State := { s with eth := lmod s.eth u f }

/-- Codes of the link states (R134). -/
def LinkState.code : LinkState → Nat
  | .disabled => 0
  | .an => 1
  | .training => 2
  | .align => 3
  | .qualify => 4
  | .up => 5

/-- The NETWORK section of the running image. -/
def State.networkSec (s : State) : Option SecNetwork :=
  match s.section? 5 with
  | some (.network n) => some n
  | _ => none

/-- MAC, IPv4 and IPv6 address of a sub-port (R140). -/
def State.ownAddr (s : State) (u : Nat) : Nat × Nat × Nat :=
  match s.networkSec with
  | some n => (match n.ports[u / 2]? with
    | some c => if u % 2 = 0 then (c.macA, c.ipv4A, c.ipv6A) else (c.macB, c.ipv4B, c.ipv6B)
    | none => (0, 0, 0))
  | none => (0, 0, 0)

/-- PATH_MTU in bytes (R85). -/
def State.pathMtu (s : State) : Nat := 1024 * 2 ^ s.rd Reg.ETH_PORT_CFG_MTU

/-- Peer lanes that are UP, as FOV_STATUS reports them. -/
def State.laneStatus (s : State) : State :=
  let m := b2n ((s.link 16).st == .up) + 2 * b2n ((s.link 17).st == .up)
  s.wr Reg.FOV_STATUS_LANES 0 0 m

/-- A sub-port enters a link state. -/
def State.setLink (s : State) (u : Nat) (st : LinkState) : State :=
  let s := (s.modLink u fun l => { l with st := st }).wr Reg.ETH_PORT_STATUS_LSTATE u 0 st.code
  if 16 ≤ u then s.laneStatus else s

/-- Does the meaning of a link command apply: the unit's hardware is there? -/
def State.linkCmd (s : State) (u : Nat) (st : LinkState) (t : State) : Out := guardUnit (s.unitOn u) (if (s.link u).st == st then t else s)

/-- Raise link-negotiation-failed, at most once per 2^22 Turns for a sub-port (R136). -/
def State.negFailed (s : State) (u code : Nat) : State := s.raiseLim (2 ^ 22) u Ev.linkNegotiationFailed Sev.warning u code 0 0

/-- LINK_AN_DONE (R134, R136). -/
def execLinkAnDone (unit : Nat) (common : Bool) (s : State) : Out :=
  s.linkCmd unit .an <|
    if common then (s.setLink unit .training).modLink unit fun l => { l with trainArmed := some s.clock }
    else s.negFailed unit 0

/-- LINK_TRAINING_DONE (R134). -/
def execLinkTrainingDone (unit : Nat) (s : State) : Out :=
  s.linkCmd unit .training <|
    (s.setLink unit .align).modLink unit fun l => { l with trainArmed := none, negArmed := none, alignArmed := some s.clock }

/-- LINK_TRAINING_TIMEOUT (R134): 3 s. -/
def execLinkTrainingTimeout (unit : Nat) (s : State) : Out :=
  s.linkCmd unit .training <|
    if due (s.link unit).trainArmed (turnsOfSec 3) s.clock then (s.setLink unit .an).modLink unit fun l => { l with trainArmed := none }
    else s

/-- LINK_LOCK_ACQUIRED (R134, R135): ALIGN to QUALIFY; a lock regained in UP ends the loss. -/
def execLinkLockAcquired (unit : Nat) (s : State) : Out :=
  guardUnit (s.unitOn unit) <| match (s.link unit).st with
    | .align => (s.setLink unit .qualify).modLink unit fun l => { l with locked := true, alignArmed := none, qualArmed := some s.clock }
    | .up => s.modLink unit fun l => { l with locked := true, lossArmed := none }
    | _ => s

/-- LINK_ALIGN_TIMEOUT (R134): 100 ms. -/
def execLinkAlignTimeout (unit : Nat) (s : State) : Out :=
  s.linkCmd unit .align <|
    if due (s.link unit).alignArmed (turnsOfMs 100) s.clock then
      (s.setLink unit .an).modLink unit fun l => { l with alignArmed := none, negArmed := some s.clock }
    else s

/-- The owner-slot check of HELLO (R115): status bits, digest and check value of each slot. -/
def State.ownerChecks (s : State) : List (Nat × Nat × Nat) :=
  s.idn.fuses.owners.map fun o =>
    let bits := b2n (o.enrolled && o.enrolCommit) + 2 * b2n (o.revoked && o.revokeCommit) + 4 * b2n (o.spoiled && o.spoilCommit)
    (bits, o.digest, Config.shake256 (ascii "LXRCHK" ++ leBytes 32 o.secret) 8)

/-- This canister's HELLO (R579). -/
def State.ownHello (s : State) : Hello :=
  let epoch := ((s.cfg.running.bind fun i => i.timebase).map (·.epoch)).getD 0
  { order := s.idn.fuses.variant, stepping := s.idn.fuses.stepping, shelf := s.rd Reg.FOV_CFG_SHELF_ID, canister := s.cfg.canister, epoch := epoch,
    sequence := ((s.cfg.running.map (·.header.sequence))).getD 0, svn := ((s.cfg.running.bind (·.fw)).map FwPackage.svn).getD 0, owners := s.ownerChecks }

/-- Send HELLO on a lane (R579). -/
def State.sendHello (s : State) (unit : Nat) : State :=
  let h := s.ownHello
  s.emit .peer ([Peer.hello, 0, unit, h.order, h.stepping, h.shelf, h.canister, h.epoch, h.sequence, h.svn] ++ h.owners.flatMap fun o => [o.1, o.2.1, o.2.2])

/-- LINK_QUALIFY_DONE (R134, R140, R154): UP, with one gratuitous ARP and one unsolicited Neighbour Advertisement. -/
def execLinkQualifyDone (unit : Nat) (s : State) : Out :=
  s.linkCmd unit .qualify <|
    if due (s.link unit).qualArmed 48829 s.clock then
      let s := ((s.setLink unit .up).modLink unit fun l => { l with qualArmed := none, lossArmed := none }).raise Ev.linkUp Sev.notice unit 0 0 0
      if unit < 16 then (s.emit .gratuitous [unit, 0]).emit .gratuitous [unit, 1] else foldIdx 24 (fun i s => s.armClear i) (s.sendHello unit)
    else s

/-- LINK_LOCK_LOST (R134, R135). -/
def execLinkLockLost (unit : Nat) (s : State) : Out :=
  guardUnit (s.unitOn unit) <| match (s.link unit).st with
    | .qualify => (s.setLink unit .align).modLink unit fun l => { l with locked := false, qualArmed := none, alignArmed := some s.clock }
    | .up => s.modLink unit fun l => { l with locked := false, lossArmed := if l.lossArmed.isSome then l.lossArmed else some s.clock }
    | _ => s

/-- A sub-port or lane leaves UP (R134, R153, R154). -/
def State.linkDown (s : State) (u : Nat) : State :=
  let s := (s.setLink u .align).modLink u fun l => { l with lossArmed := none, alignArmed := some s.clock }
  let s := (s.bumpWrap Reg.ETH_PORT_STATUS_LINK_DOWNS u 0 1).wr Reg.ETH_PORT_STATUS_LOCAL_FAULT u 0 0 |>.wr Reg.ETH_PORT_STATUS_REMOTE_FAULT u 0 0
  if u < 16 then s.raise Ev.linkDown Sev.warning u 0 0 0
  else
    let s := s.raise Ev.peerLaneDown Sev.warning u 0 0 0
    if s.peerLink then s else foldIdx 24 (fun i s => s.armClear i) (s.raise Ev.peerLinkDown Sev.error u 0 0 0)

/-- LINK_LOSS_TIMEOUT (R134, R135). -/
def execLinkLossTimeout (unit : Nat) (s : State) : Out :=
  s.linkCmd unit .up <| if due (s.link unit).lossArmed 4883 s.clock then s.linkDown unit else s

/-- LINK_NEGOTIATION_TIMEOUT (R136): 10 s without ALIGN. -/
def execLinkNegotiationTimeout (unit : Nat) (s : State) : Out :=
  guardUnit (s.unitOn unit) <|
    let l := s.link unit
    if (l.st == .an || l.st == .training) && due l.negArmed (turnsOfSec 10) s.clock then
      (s.modLink unit fun l => { l with negArmed := some s.clock }).negFailed unit 1
    else s

/-- LINK_FAULT_TIMEOUT (R154): a local or remote fault has persisted for 4,883 Turns in UP. -/
def execLinkFaultTimeout (unit : Nat) (remote : Bool) (s : State) : Out :=
  s.linkCmd unit .up <|
    let s := if remote then s.wr Reg.ETH_PORT_STATUS_REMOTE_FAULT unit 0 1 else s.wr Reg.ETH_PORT_STATUS_LOCAL_FAULT unit 0 1
    s.raise Ev.linkFault Sev.warning unit (b2n remote) 0 0

/-- FEC_WINDOW_END (R139). -/
def execFecWindowEnd (unit corrected uncorrectable : Nat) (s : State) : Out :=
  guardUnit (s.unitOn unit) <|
    let limit := match s.networkSec with
      | some n => n.fecDegrade
      | none => 16
    let s := (s.bumpWrap Reg.ETH_FEC_CORR unit 0 corrected).bumpWrap Reg.ETH_FEC_UNCORR unit 0 uncorrectable
    if limit < uncorrectable then (s.wr Reg.ETH_PORT_STATUS_FEC_DEGRADED unit 0 1).raise Ev.fecDegraded Sev.warning unit 0 uncorrectable 0
    else s.wr Reg.ETH_PORT_STATUS_FEC_DEGRADED unit 0 0

/-! ### Frames -/

/-- Drop a frame for a reason (R144, R147). -/
def State.dropFrame (s : State) (u reason : Nat) : State :=
  let s := s.bump Reg.ETH_DROP u (reason - 1) 1
  let s := (s.wr Reg.ETH_DROP_LAST_REASON u 0 reason).wr Reg.ETH_DROP_LAST_TURN u 0 (s.now % 65536)
  let s := if u < 16 then s.count (6 * (u / 2) + 4) 1 u else s
  s.raiseLim lim19 u Ev.ingressDrop Sev.notice u reason (s.rd Reg.ETH_DROP u (reason - 1)) 0

/-- Is a frame ARP or Neighbour Discovery? -/
def isNd (f : Frame) : Bool := f.etherType == 0x0806 || f.l4 == .neighbourSolicitation || f.l4 == .neighbourAdvertisement

/-- Is a frame PTP over UDP (ports 319 and 320)? -/
def isPtp (f : Frame) : Bool := f.etherType != 0x0806 && (f.l4 == .udp 319 || f.l4 == .udp 320)

/-- The PTP domain of the image (R85). -/
def State.ptpDomain (s : State) : Nat :=
  match s.section? 3 with
  | some (.timebase t) => t.ptpDomain
  | _ => 0

/-- The first check of R144 that a frame on a sub-port fails. -/
def State.frameFault (s : State) (u : Nat) (f : Frame) : Option Nat :=
  let arp := f.etherType == 0x0806
  let roce := !arp && f.l4 == .udp 4791
  if f.fecUncorr then some 0x01
  else if f.length < 64 then some 0x02
  else if s.pathMtu + 256 < f.length then some 0x03
  else if !f.fcsOk then some 0x04
  else if (s.link u).st == .qualify && !isNd f && !isPtp f then some 0x05
  else if !(f.dmac == .own || (f.dmac == .broadcast && arp) || f.dmac == .solicitedNode || f.dmac == .ptpGroup) then some 0x06
  else if f.vlan then some 0x07
  else if !(f.etherType == 0x0800 || f.etherType == 0x86DD || arp) then some 0x08
  else if !arp && !f.ipHdrOk then some 0x09
  else if !arp && !f.ipPlain then some 0x0A
  else if !arp && f.dip == .other then some 0x0B
  else if !arp && !isNd f && !isPtp f && !roce then some 0x0C
  else if !arp && !isNd f && !f.udpLenOk then some 0x0D
  else if isPtp f && (u != s.ptpUnit || f.ptpVersion != 2 || f.ptpDomain != s.ptpDomain || !f.udpSumOk) then some 0x0E
  else if roce && !f.icrcOk then some 0x0F
  else if roce && (f.tver != 0 || f.bth == .other) then some 0x10
  else if isNd f && (!f.ndOk || decide (16 ≤ (s.link u).answered)) then some 0x11
  else none

/-- The first check that a frame on a peer lane fails (R152). -/
def State.peerFault (s : State) (u : Nat) (f : Frame) : Option Nat :=
  if f.fecUncorr then some 0x01
  else if f.length < 64 then some 0x02
  else if 2048 + 18 < f.length then some 0x03
  else if !f.fcsOk then some 0x04
  else if (s.link u).st != .up then some 0x05
  else if !f.srcOk || f.dmac != .own then some 0x06
  else if f.vlan then some 0x07
  else if f.etherType != 0x88B5 then some 0x08
  else none

/-- FRAME_RX (R144 to R148, R152): counted, checked, and either dropped with a reason or passed to its one consumer. -/
def execFrameRx (unit : Nat) (frame : Frame) (s : State) : Out :=
  guardUnit (s.unitOn unit) <|
    let st := (s.link unit).st
    if st != .qualify && st != .up then s
    else
      let s := if unit < 16 then ((s.bwAdd (unit / 2) frame.length 0).count (6 * (unit / 2)) frame.length unit).count (6 * (unit / 2) + 2) 1 unit else s
      match if unit < 16 then s.frameFault unit frame else s.peerFault unit frame with
      | some r => s.dropFrame unit r
      | none => s

/-! ### ARP and Neighbour Discovery -/

/-- Does a sub-port pass ARP and Neighbour Discovery (R134)? -/
def State.linkPasses (s : State) (u : Nat) : Bool := decide (u < 16) && ((s.link u).st == .qualify || (s.link u).st == .up)

/-- Another station claims an address of a sub-port (R141). -/
def State.conflict (s : State) (u mac : Nat) (claims : Bool) : State :=
  if claims && mac != (s.ownAddr u).1 then (s.wr Reg.ETH_PORT_STATUS_CONFLICT u 0 1).raise Ev.addressConflict Sev.error u 0 mac 0 else s

/-- Answer a request for an own address, at most 16 in a Turn (R140, R141). -/
def State.answer (s : State) (u kind mac ip : Nat) (own : Bool) : State :=
  if !own || decide (16 ≤ (s.link u).answered) then s.dropFrame u 0x11
  else (s.modLink u fun l => { l with answered := l.answered + 1 }).emit .addressReply [u, kind, mac, ip]

/-- ARP_REQUEST_RX (R140, R141). -/
def execArpRequestRx (unit senderMac senderIp targetIp : Nat) (s : State) : Out :=
  guardUnit (s.unitOn unit) <|
    if s.linkPasses unit then
      let own := (s.ownAddr unit).2.1
      (s.conflict unit senderMac (senderIp == own)).answer unit 0 senderMac senderIp (targetIp == own)
    else s

/-- ARP_REPLY_RX (R141). -/
def execArpReplyRx (unit senderMac senderIp : Nat) (s : State) : Out :=
  guardUnit (s.unitOn unit) <| if s.linkPasses unit then s.conflict unit senderMac (senderIp == (s.ownAddr unit).2.1) else s

/-- NEIGHBOUR_SOLICITATION_RX (R140, R141). -/
def execNeighbourSolicitationRx (unit senderMac senderIp targetIp : Nat) (s : State) : Out :=
  guardUnit (s.unitOn unit) <|
    if s.linkPasses unit then s.answer unit 1 senderMac senderIp (targetIp == (s.ownAddr unit).2.2) else s

/-- NEIGHBOUR_ADVERTISEMENT_RX (R141). -/
def execNeighbourAdvertisementRx (unit senderMac targetIp : Nat) (s : State) : Out :=
  guardUnit (s.unitOn unit) <| if s.linkPasses unit then s.conflict unit senderMac (targetIp == (s.ownAddr unit).2.2) else s

/-- ETH_DROP_CLEAR: ETH_DROP_CLR.CLEAR zeroes the drop counters at the next boundary. -/
def execEthDropClear (unit : Nat) (s : State) : Out :=
  guardUnit (s.unitOn unit) (s.up (s.defer (.ethDropClear unit)))

end Sys2Proof.Machine
end

