-- ==== Sys2Proof/Machine/SchOps.lean ====
section
/-!
DEFINITION. Machine/SchOps.lean: the scheduler's shared operations (chapter 08): parameter entries, counted lengths, buckets, policers,
ingest charges and the entries of a new address handle.
-/

namespace Sys2Proof.Machine

/-! ### Entries -/

/-- The active parameter entry of an index; an absent entry is all zero (R244). -/
def State.param (s : State) (i : Nat) : List Nat := tgetD s.sch.params.act i []

/-- A word of a parameter entry. -/
def State.paramWord (s : State) (i k : Nat) : Nat := (s.param i).getD k 0

/-- The subscriber queue of a QP (R221, R222). -/
def queueOfQp (handle service : Nat) : Nat := 4 * handle + service

/-- The node entry that a queue joins on a sub-port (R222). -/
def State.nodeOf (s : State) (queue unit : Nat) : Nat :=
  let n := s.paramWord queue 4 % 32
  let split := s.rd Reg.ETH_PORT_CFG_SPLIT unit == 1
  let m := if split then (if unit % 2 = 0 then n % 16 else 16 + n % 16) else n
  16384 + 32 * (unit / 2) + m

/-- The port entry of a sub-port. -/
def portEntry (unit : Nat) : Nat := 16640 + unit / 2

/-- The length of a frame as an entry counts it (R228): mode 1 adds the signed OVH. -/
def countedLength (dw4 length : Nat) : Nat :=
  if bitOf dw4 16 then
    let o := bitsOf dw4 24 8
    if o < 128 then length + o else length + o - 256
  else length

/-! ### Buckets -/

/-- A bucket: entry and number (R225): queue 0 egress, 1 ingest; node 0 CIR, 1 PIR, 2 ingest; port 0 egress, 1 ingest of the port or of
sub-port a, 2 and 3 of sub-port b; policer 0 C, 1 E or P. -/
def bucketKey (entry k : Nat) : Nat := 4 * entry + k

/-- The balance of a bucket in 1/256 byte. -/
def State.bucket (s : State) (entry k : Nat) : Int := tgetD s.sch.tokens (bucketKey entry k) 0

/-- The bucket of a port for a sub-port and direction (R222). -/
def State.portBucket (s : State) (unit dir : Nat) : Nat := if s.rd Reg.ETH_PORT_CFG_SPLIT unit == 1 && unit % 2 == 1 then 2 + dir else dir

/-- Charge a frame to a bucket (R227): it may go negative, down to the floor. -/
def State.charge (s : State) (entry k dw4 length : Nat) : State :=
  let v := s.bucket entry k - (countedLength dw4 length * 256 : Nat)
  let floor : Int := -(16777215 * 256)
  { s with sch := { s.sch with tokens := tset s.sch.tokens (bucketKey entry k) (if v < floor then floor else v) } }

/-- Charge placed ingest payload to its queue, node and port, and to a direction budget (R231, R243). -/
def State.chargeIngest (s : State) (handle service unit length : Nat) : State :=
  let q := queueOfQp handle service
  let n := s.nodeOf q unit
  let p := portEntry unit
  let s := s.charge q 1 (s.paramWord q 4) length
  let s := s.charge n 2 (s.paramWord n 4) length
  let s := s.charge p (s.portBucket unit 1) (s.paramWord p 4) length
  if s.sch.budget && s.sch.budgetDir = 0 then { s with sch := { s.sch with budgetLeft := s.sch.budgetLeft - (length : Int) } } else s

/-! ### Policers -/

/-- The policer entry of a QP (R238). -/
def policerOf (handle service : Nat) : Nat := 16648 + 2 * handle + (if service = 0 then 0 else 1)

/-- The colour that SCH_DSCP_MAP gives a DSCP (R240). -/
def State.dscpColour (s : State) (d : Nat) : Nat := bitsOf (s.rd Reg.SCH_DSCP_MAP 0 (d / 16)) (2 * (d % 16)) 2

/-- Meter a frame (R239, R240): its colour (0 green, 1 yellow, 2 red), and the state with the tokens taken. -/
def State.meter (s : State) (entry dscp length : Nat) : Nat × State :=
  let dw4 := s.paramWord entry 4
  let mode := bitsOf dw4 0 2
  let need : Int := (countedLength dw4 length * 256 : Nat)
  let c := s.bucket entry 0
  let e := s.bucket entry 1
  let input := if bitOf dw4 2 then s.dscpColour dscp else 0
  let take := fun (s : State) k v => ({ s with sch := { s.sch with tokens := tset s.sch.tokens (bucketKey entry k) (v - need) } } : State)
  if mode = 0 then (0, s)
  else if input = 2 then (2, s)
  else if mode = 1 then
    if input = 0 && decide (need ≤ c) then (0, take s 0 c)
    else if need ≤ e then (1, take s 1 e)
    else (2, s)
  else if e < need then (2, s)
  else if input = 0 && decide (need ≤ c) then (0, take (take s 1 e) 0 c)
  else (1, take s 1 e)

/-- What a policer does with a payload frame (R241): passed, marked CE or dropped. -/
inductive Policed where
  | pass | mark | drop
  deriving DecidableEq, Repr

/-- Police a payload frame of a QP (R238 to R241). -/
def State.police (s : State) (handle service dscp length : Nat) : Policed × State :=
  let entry := policerOf handle service
  let dw4 := s.paramWord entry 4
  let (colour, s) := s.meter entry dscp length
  let s := s.count (82 + colour) 1 handle
  let act := if colour = 0 then 2 else if colour = 1 then (if bitOf dw4 4 then 1 else 2) else bitsOf dw4 5 2
  if act = 0 then (.drop, ((s.bumpWrap Reg.SCH_POL_DROP 0 0 1).count 80 1 handle).raiseLim lim19 0 Ev.policerDrop Sev.notice handle colour 0 0)
  else if act = 1 then (.mark, (s.bumpWrap Reg.SCH_POL_MARK 0 0 1).count 81 1 handle)
  else (.pass, s)

/-! ### The entries of an address handle -/

/-- The SCHEDULER caps of a tenant, or their defaults (R247). -/
def State.tenantCap (s : State) (tenant : Nat) : TenantCap :=
  let d : TenantCap := { tenant := tenant, egCap := lineRate, inCap := lineRate, defNode := 0, defBurst := 65536 }
  match s.cfg.running with
  | some i => ((i.scheduler.caps.find? fun c => c.tenant == tenant)).getD d
  | none => d

/-- The four queue entries and two policer entries of a new handle (R246, R247): host queues to DEF_NODE, management to node 31,
federation to node 30; policers of mode 0. -/
def handleParams (h : Nat) (c : TenantCap) : List (Nat × List Nat) :=
  let q := fun node => [c.egCap, c.defBurst, c.inCap, c.defBurst, node + 256, 0, 0, 0]
  [(4 * h, q c.defNode), (4 * h + 1, q 31), (4 * h + 2, q 30), (4 * h + 3, q c.defNode), (16648 + 2 * h, [0, 0, 0, 0, 0, 0, 0, 0]), (16648 + 2 * h + 1, [0, 0, 0, 0, 0, 0, 0, 0])]

end Sys2Proof.Machine
end

