-- ==== Sys2Proof/Machine/XptOps.lean ====
section
/-!
DEFINITION. Machine/XptOps.lean: the transport's shared operations (chapter 06): queue pairs, their QPNs and states, Gecko and the miss
buffer, address handles, work requests, acknowledgements and errors.
-/

namespace Sys2Proof.Machine

/-! ### Queue pairs -/

/-- A queue pair; none in RESET (R167). -/
def State.qp? (s : State) (i : Nat) : Option Qp := tget s.xpt.qps i

/-- Replace a queue pair. -/
def State.setQp (s : State) (i : Nat) (q : Qp) : State := { s with xpt := { s.xpt with qps := tset s.xpt.qps i q } }

/-- Change a queue pair that is not in RESET. -/
def State.modQp (s : State) (i : Nat) (f : Qp → Qp) : State := { s with xpt := { s.xpt with qps := tmod s.xpt.qps i f } }

/-- The TRANSPORT section of the running image. -/
def State.transportSec (s : State) : Option SecTransport :=
  match s.section? 6 with
  | some (.transport t) => some t
  | _ => none

/-- QPs in use and triggers that wait, as XPT_STATUS reports them. -/
def State.xptStatus (s : State) : State :=
  let waits := (s.xpt.qps.map fun p => (p.2.sq.filter fun e => bitOf e.wqe.flags 0 && !e.started).length).sum
  (s.wr Reg.XPT_STATUS_QP_USED 0 0 s.xpt.qps.length).wr Reg.XPT_STATUS_TRIG_WAIT 0 0 waits

/-- Triggers that wait (R187). -/
def State.triggersWaiting (s : State) : Nat := (s.xpt.qps.map fun p => (p.2.sq.filter fun e => bitOf e.wqe.flags 0 && !e.started).length).sum

/-- The local QPN of an index (R158). -/
def qpnOf (gen i : Nat) : Nat := 0x100000 + gen * 0x10000 + i

/-- The index that a received QPN names: none in RESET, TIMEWAIT or of another generation (R159, R167). -/
def State.indexOfQpn (s : State) (qpn : Nat) : Option Nat :=
  let i := qpn % 65536
  match s.qp? i with
  | some q => if qpnOf q.gen i = qpn && q.st != .timewait then some i else none
  | none => none

/-- Count a packet whose QPN names nothing (R159). -/
def State.badQpn (s : State) : State := (s.bump Reg.XPT_BAD_QPN 0 0 1).count 51 1 0

/-- The distance of a PSN from another, modulo 2^24. -/
def psnDiff (a b : Nat) : Nat := (a + 2 ^ 24 - b % 2 ^ 24) % 2 ^ 24

/-- A PSN moved on by n. -/
def psnAdd (a n : Nat) : Nat := (a + n) % 2 ^ 24

/-- Packets of a message of a length (R157): at least one. -/
def packetsOf (length pmtu : Nat) : Nat := if length = 0 then 1 else ceilDiv length (if pmtu = 0 then 1024 else pmtu)

/-! ### Gecko (R170, R171) -/

/-- The ways of a QP's set, most recently used first. -/
def State.geckoSet (s : State) (i : Nat) : List GeckoWay := tgetD s.xpt.gecko (i % 1024) []

/-- Is a QP's context in Gecko? -/
def State.geckoHit (s : State) (i : Nat) : Bool := (s.geckoSet i).any fun w => w.qp == i

/-- Is a way locked: does a packet of its QP wait in the miss buffer (R170)? -/
def State.geckoLocked (s : State) (w : GeckoWay) : Bool := w.pinned || s.xpt.missBuf.any fun p => p.qp == w.qp

/-- Drop the least recently used way that may be evicted. -/
def State.evictWay (s : State) (ways : List GeckoWay) : List GeckoWay :=
  match (ways.reverse.find? fun w => !s.geckoLocked w) with
  | some v => ways.filter fun w => w.qp != v.qp
  | none => ways.dropLast

/-- Bring a context into Gecko, or make it the most recently used. -/
def State.geckoTouch (s : State) (i : Nat) : State :=
  let ways := s.geckoSet i
  let rest := ways.filter fun w => w.qp != i
  let rest := if rest.length < 8 then rest else s.evictWay rest
  let w : GeckoWay := { qp := i, dirty := true, pinned := s.xpt.pinned.contains i }
  { s with xpt := { s.xpt with gecko := tset s.xpt.gecko (i % 1024) (w :: rest) } }

/-- Pin the context of a management or federation QP, if a pin is left (R171). -/
def State.pinQp (s : State) (i service : Nat) : State :=
  let inSet := (s.xpt.pinned.filter fun j => j % 1024 == i % 1024).length
  if service != 0 && decide (s.xpt.pinned.length < s.rd Reg.XPT_CFG_PIN_QP) && decide (inSet < 2) then
    { s with xpt := { s.xpt with pinned := s.xpt.pinned ++ [i] } }
  else s

/-! ### Work requests -/

/-- Status of a work request's completion, as the model's record codes it. -/
abbrev Wq.ok : Nat := 0
abbrev Wq.trigOption : Nat := 1
abbrev Wq.trigTenant : Nat := 2
abbrev Wq.trigFull : Nat := 3
abbrev Wq.invalid : Nat := 4
abbrev Wq.trigTimeout : Nat := 5
abbrev Wq.flushed : Nat := 6

/-- Complete a work request to its producer. -/
def State.wqeDone (s : State) (i : Nat) (w : Wqe) (status : Nat) : State := s.emit .wqeDone [i, w.tag, status]

/-- Does a trigger's condition hold (R186): COMP_COUNT − THRESHOLD as a signed 32-bit value? -/
def reached (count threshold : Nat) : Bool := decide ((count + 2 ^ 32 - threshold % 2 ^ 32) % 2 ^ 32 < 2 ^ 31)

/-- COMP_COUNT of a QP, as long as it can still be read. -/
def State.compCount (s : State) (i : Nat) : Nat :=
  match s.qp? i with
  | some q => q.compCount
  | none => 0

/-- The flag bit of a work request that pulls host data for a command: such a request names no local window. -/
abbrev Wq.pull : Nat := 7

/-- Does a work request pass the check of R209 when it starts: its local window is OPEN and of its tenant? -/
def State.wqeWindowOk (s : State) (q : Qp) (w : Wqe) : Bool :=
  let d := s.window w.window
  decide (4 < w.opcode) || bitOf w.flags Wq.pull || (d.st == .isOpen && (q.tenant == d.tenant || q.service == 2 || d.fed))

/-- Start the work requests at the front of a send queue as far as its state, CWND, ORD, fences and triggers allow (R179, R185, R186);
`turn` says that a boundary evaluates triggers; the fuel bounds the requests. -/
def State.runSq : Nat → Nat → Bool → State → State
  | 0, _, _, s => s
  | fuel + 1, i, turn, s =>
    match s.qp? i with
    | none => s
    | some q =>
      match q.sq.find? fun e => !e.started with
      | none => s
      | some e =>
        let w := e.wqe
        let first := match q.sq.head? with
          | some h => h == e
          | none => false
        let put := fun (q : Qp) (f : SqEntry → SqEntry) =>
          { q with sq := q.sq.takeWhile (·.started) ++ (match q.sq.dropWhile (·.started) with
            | x :: t => f x :: t
            | [] => []) }
        if q.st != .rts || q.rnrWait.isSome then s
        else if bitOf w.flags 0 && !(turn && reached (s.compCount w.trigQp) w.threshold && e.headTurn.isSome) then
          if e.headTurn.isNone then s.setQp i (put q fun e => { e with headTurn := some s.clock }) else s
        else if !s.wqeWindowOk q w then
          State.runSq fuel i turn ((s.setQp i { q with sq := q.sq.takeWhile (·.started) ++ (q.sq.dropWhile (·.started)).drop 1 }).wqeDone i w Wq.invalid)
        else if w.opcode = 15 then
          if first then
            let q := { q with sq := q.sq.drop 1, compCount := if bitOf w.flags 1 && bitOf q.countSel 0 then (q.compCount + 1) % 2 ^ 32 else q.compCount }
            State.runSq fuel i turn ((s.setQp i q).wqeDone i w Wq.ok)
          else s
        else
          let need := if w.opcode ≤ 4 then w.length else 0
          let fits := decide (q.inflight + need ≤ q.cwnd) || decide (q.inflight = 0)
          let fence := bitOf w.flags 4 && !q.reads.isEmpty
          let ord := w.opcode = 4 && decide (q.ord ≤ q.reads.length)
          if !fits || fence || ord then s
          else
            let n := packetsOf w.length q.pmtu
            let q := put q fun e => { e with started := true, lastPsn := psnAdd q.sqPsn (n - 1) }
            let q := { q with sqPsn := psnAdd q.sqPsn n, inflight := q.inflight + need, ackArmed := if q.ackArmed.isSome then q.ackArmed else some s.clock, sentPkts := q.sentPkts + (if w.opcode = 4 then 1 else n), reads := if w.opcode = 4 then q.reads ++ [(w.tag, w.length)] else q.reads }
            let s := (s.setQp i q).emit .wqeSend [i, w.opcode, w.length, w.tag, w.window, w.offset, w.remoteVa, w.remoteKey, w.imm]
            let s := if bitOf w.flags 0 then s.count 61 1 i else s
            State.runSq fuel i turn s

/-- Start what a send queue can start. -/
def State.pumpSq (s : State) (i : Nat) (turn : Bool) : State :=
  match s.qp? i with
  | some q => State.runSq (q.sq.length + 1) i turn s
  | none => s

/-- Acknowledge the work requests whose last PSN is at most `psn` (R184, R191). -/
def State.ackUpTo (s : State) (i psn : Nat) : State :=
  match s.qp? i with
  | none => s
  | some q =>
    let span := psnDiff q.sqPsn q.unaPsn
    let d := psnDiff psn q.unaPsn
    if span ≤ d then s
    else
      let una := psnAdd psn 1
      let done := q.sq.takeWhile fun e => e.started && decide (psnDiff e.lastPsn q.unaPsn ≤ d)
      let left := q.sq.drop done.length
      let bytes := (done.map fun e => e.wqe.length).sum
      let counted := (done.filter fun e => bitOf e.wqe.flags 1).length
      let q := { q with unaPsn := una, sq := left, inflight := q.inflight - bytes, retriesLeft := q.retryCnt, rnrLeft := q.rnrRetry, ackArmed := if una = q.sqPsn then none else some s.clock, compCount := if bitOf q.countSel 0 then (q.compCount + counted) % 2 ^ 32 else q.compCount }
      let s := s.setQp i q
      let s := done.foldl (fun s e => s.wqeDone i e.wqe Wq.ok) s
      (s.pumpSq i false).xptStatus

/-! ### Ends and errors -/

/-- Flush every work request of a send queue (R194). -/
def State.flushSq (s : State) (i : Nat) : State :=
  match s.qp? i with
  | some q => (q.sq.foldl (fun s e => s.wqeDone i e.wqe Wq.flushed) s).modQp i fun q => { q with sq := [], inflight := 0, reads := [], ackArmed := none, rnrWait := none, unaPsn := q.sqPsn }
  | none => s

/-- A QP goes to TIMEWAIT (R167). -/
def State.toTimewait (s : State) (i : Nat) : State :=
  s.modQp i fun q => { q with st := .timewait, timewaitArmed := some s.clock, drainArmed := none, connectArmed := none, mraArmed := none, ackArmed := none, ackDue := none, repPending := false }

/-- A QP enters ERR (R167, R194, R275): work requests are flushed, a DREQ is sent and TIMEWAIT follows; the queue it carries is lost. -/
def State.qpToErr (s : State) (i : Nat) (cause : Nat) (forced : Bool) : State :=
  match s.qp? i with
  | none => s
  | some q =>
    if q.st == .timewait then s
    else
      let s := (s.flushSq i).count 60 1 i
      let s := if forced then s else s.raise Ev.qpError Sev.warning i cause 0 0
      let s := (s.decrefs q.recv).modQp i fun q => { q with st := .err, recv := [] }
      let s := s.emit .cmDreq [i]
      ((s.toTimewait i).loseQueue i).xptStatus

/-- Retries are exhausted, or a fatal NAK arrived (R194). -/
def State.retryExhausted (s : State) (i cause : Nat) : State := (s.raise Ev.retryExhausted Sev.warning i cause 0 0).qpToErr i cause false

/-- A retransmission (R191): go back to a PSN, or give up. -/
def State.retryFrom (s : State) (i psn : Nat) : State :=
  match s.qp? i with
  | none => s
  | some q =>
    if q.retriesLeft = 0 then s.retryExhausted i 0
    else
      let s := s.modQp i fun q => { q with retriesLeft := q.retriesLeft - 1, ackArmed := some s.clock, retrans := q.retrans + 1 }
      (s.emit .resend [i, psn]).count 52 1 i

/-! ### Address handles (R142, R165, R246) -/

/-- The handle that a host address has, if any. -/
def State.handleOf (s : State) (a : HostAddr) : Option Nat := (s.xpt.handleUse.find? fun p => p.2.1 == a).map (·.1)

/-- The tenant of the QPs of a handle. -/
def State.handleTenant (s : State) (h : Nat) : Nat := ((s.xpt.qps.find? fun p => p.2.handle == h).map fun p => p.2.tenant).getD 0

/-- Is a handle in the active bank as it is meant to be? -/
def State.handleActive (s : State) (h : Nat) : Bool :=
  match tget s.xpt.handles.act h, tget s.xpt.handleUse h with
  | some a, some u => a == u.1
  | _, _ => false

/-- Write the handles that are new into the shadow bank with their scheduler entries, and commit both tables (R165, R246), unless a
commit is pending or the parameters still catch up (a handle never becomes active before its entries). -/
def State.handleBatch (s : State) : State :=
  let fresh := s.xpt.handleUse.filter fun p => tget s.xpt.handles.act p.1 != some p.2.1
  if fresh.isEmpty || s.bankBit .handles BankBit.commit || s.bankBit .params BankBit.commit || !s.sch.params.catchup.isEmpty then s
  else
    let s := fresh.foldl (init := s) fun s p =>
      let ps := handleParams p.1 (s.tenantCap (s.handleTenant p.1))
      let params := ps.foldl (fun t x => t.put x.1 x.2) s.sch.params
      { s with xpt := { s.xpt with handles := s.xpt.handles.put p.1 p.2.1 }, sch := { s.sch with params := params } }
    (s.bankCommit .handles).bankCommit .params

/-- Take a handle for a host address (R165): the one it has, or the lowest free one. -/
def State.takeHandle (s : State) (a : HostAddr) : Option (Nat × State) :=
  match s.handleOf a with
  | some h =>
    let n := match tget s.xpt.handleUse h with
      | some u => u.2
      | none => 0
    some (h, { s with xpt := { s.xpt with handleUse := tset s.xpt.handleUse h (a, n + 1) } })
  | none =>
    match tfree s.xpt.handleUse 0 4096 with
    | some h =>
      let s : State := { s with xpt := { s.xpt with handleUse := tset s.xpt.handleUse h (a, 1) } }
      some (h, s.wr Reg.XPT_STATUS_HANDLES_FULL 0 0 (b2n (s.xpt.handleUse.length == 4096)))
    | none => none

/-- A QP no longer uses its handle. -/
def State.freeHandle (s : State) (h : Nat) : State :=
  match tget s.xpt.handleUse h with
  | some (a, n) =>
    let t := if n ≤ 1 then tdel s.xpt.handleUse h else tset s.xpt.handleUse h (a, n - 1)
    ({ s with xpt := { s.xpt with handleUse := t } } : State).wr Reg.XPT_STATUS_HANDLES_FULL 0 0 (b2n (t.length == 4096))
  | none => s

/-- A QP index returns to RESET (R158, R167): the next generation, and its handle is released. -/
def State.qpReset (s : State) (i : Nat) : State :=
  match s.qp? i with
  | none => s
  | some q =>
    let s := (s.decrefs q.recv).freeHandle q.handle
    let gecko := tset s.xpt.gecko (i % 1024) ((s.geckoSet i).filter fun w => w.qp != i)
    let s : State := { s with xpt := { s.xpt with qps := tdel s.xpt.qps i, gens := tput 0 s.xpt.gens i ((q.gen + 1) % 16), gecko := gecko, pinned := s.xpt.pinned.filter (· != i), missBuf := s.xpt.missBuf.filter (fun p => p.qp != i), fetches := s.xpt.fetches.filter (· != i) } }
    s.xptStatus

/-- A new QP (R160, R167, R169): its context, in INIT. -/
def State.newQp (s : State) (i handle tenant service unit remoteQpn epsn pmtu ird ord : Nat) (initiated relaxed triggers : Bool) : State :=
  let (psn, s) := s.draw
  let q : Qp := {
    st := .init, initiated := initiated, relaxed := relaxed, triggers := triggers, service := service, gen := tgetD s.xpt.gens i 0
    countSel := if triggers then 7 else 0, remoteQpn := remoteQpn, handle := handle, tenant := tenant, unit := unit, pmtu := pmtu
    ackT := s.rd Reg.XPT_CFG_ACK_T, retryCnt := s.rd Reg.XPT_CFG_RETRY_CNT, rnrRetry := s.rd Reg.XPT_CFG_RNR_RETRY, ird := ird, ord := ord
    sqPsn := psn % 2 ^ 24, unaPsn := psn % 2 ^ 24, epsn := epsn % 2 ^ 24, msn := 0, retriesLeft := s.rd Reg.XPT_CFG_RETRY_CNT
    rnrLeft := s.rd Reg.XPT_CFG_RNR_RETRY, ackArmed := none, cwnd := 0, inflight := 0, alpha := 0, quiet := 0, rttLast := 0, compCount := 0
    lastFinalPsn := 0, sq := [], recv := [], reads := [], nakSent := false, ackDue := none, cnpSent := false, cnpRx := false, rttMin := none
    rnrWait := none, drainArmed := none, timewaitArmed := none, attempts := 0, connectArmed := none, mraArmed := none, repPending := false
    granted := none, sentPkts := 0, rcvdPkts := 0, retrans := 0, naks := 0, cnpsRx := 0, cnpsTx := 0 }
  ((s.setQp i q).pinQp i service).geckoTouch i |>.xptStatus

/-- A QP enters RTS (R167, R179). -/
def State.enterRts (s : State) (i : Nat) : State :=
  (s.modQp i fun q => { q with st := .rts, cwnd := 2 ^ s.rd Reg.XPT_CC_CFG_CWND_INIT, alpha := 0 }).pumpSq i false

/-- Send what a QP that waits for its handle has to send (R165): the REP of an accepted connection, or the first REQ of one that Daxzin
opens. -/
def State.greet (s : State) (i : Nat) : State :=
  match s.qp? i with
  | some q =>
    if q.repPending && s.handleActive q.handle && s.cfg.state != .activating then
      if q.initiated then
        (s.modQp i fun q => { q with repPending := false, attempts := 1, connectArmed := some s.clock }).emit .cmReq [i, 1]
      else
        let g := q.granted
        (s.modQp i fun q => { q with repPending := false, mraArmed := none, st := .rtr }).emit .cmRep [i, g.getD 0, b2n g.isSome]
    else s
  | none => s

/-- Begin to drain a QP (R167). -/
def State.drainQp (s : State) (i : Nat) : State :=
  match s.qp? i with
  | some q =>
    if q.st == .rts || q.st == .rtr then
      let late := q.sq.filter fun e => !e.started
      let s := late.foldl (fun s e => s.wqeDone i e.wqe Wq.flushed) s
      ((s.modQp i fun q => { q with st := .draining, drainArmed := some s.clock, sq := q.sq.filter (·.started) }).loseQueue i).xptStatus
    else s
  | none => s

end Sys2Proof.Machine
end

