-- ==== Sys2Proof/Machine/Windows.lean ====
section
/-!
DEFINITION. Machine/Windows.lean: the memory windows: the checks of R206 and R215, placing remote writes (R213), and the commands of
chapter 07.
-/

namespace Sys2Proof.Machine

/-! ### Checks -/

/-- Window index and tag of a remote key (R198). -/
def keyIndex (key : Nat) : Nat := key % 2 ^ 18
def keyTagOf (key : Nat) : Nat := key / 2 ^ 18

/-- The first of checks 1 to 5 of R206 that a QP fails against a descriptor. -/
def WinDesc.fault5 (d : WinDesc) (q : Qp) (key : Nat) : Option Nat :=
  if 262144 ≤ keyIndex key then some 1
  else if d.st != .isOpen then some 2
  else if keyTagOf key != d.keyTag then some 3
  else if q.tenant != d.tenant && !(d.fed && q.service == 2) then some 4
  else if d.bind && q.handle != d.handle then some 5
  else none

/-- The first check of R206 that an access fails. -/
def WinDesc.fault (d : WinDesc) (q : Qp) (key offset length : Nat) (write : Bool) : Option Nat :=
  match d.fault5 q key with
  | some r => some r
  | none =>
    if write && !d.remoteW || !write && !d.remoteR then some 6
    else if d.length * 65536 < offset + length then some 7
    else none

/-- Count a failed check under its reason, and raise window-violation (R207, R219). -/
def State.windowViol (s : State) (w reason : Nat) : State :=
  let s := (s.bump Reg.WIN_VIOL 0 (reason - 1) 1).count (72 + reason) 1 w
  s.raiseLim lim19 0 Ev.windowViolation Sev.notice w reason (s.rd Reg.WIN_VIOL 0 (reason - 1)) 0

/-! ### Placing data -/

/-- Place bytes that lie within one block of a window (R199, R213): in the buffer of a BUFFER window; in the block's staging slot, or
spilled, of an APPEND window. -/
def State.placeBlock (s : State) (w : Nat) (d : WinDesc) (b off : Nat) (l : List Byte) : State :=
  let s := s.modList w b fun e => { e with written := true }
  if d.buffer then
    match (tgetD s.win.lists w [])[b]? with
    | some e => { s with dram := memWriteList s.dram (s.bufAddr e.buf + off) l }
    | none => s
  else
    let (k, s) := match s.openBlock w b with
      | some (k, _) => (k, s)
      | none => s.newBlock w b
    s.modBlk k fun x => { x with data := memWriteList x.data off l, filled := x.filled + l.length }

/-- Place bytes in a window from an offset on, block by block; the fuel bounds the blocks. -/
def State.placeWindow : Nat → Nat → WinDesc → Nat → List Byte → State → State
  | 0, _, _, _, _, s => s
  | n + 1, w, d, off, l, s =>
    match l with
    | [] => s
    | _ =>
      let room := 65536 - off % 65536
      State.placeWindow n w d (off + room) (l.drop room) (s.placeBlock w d (off / 65536) (off % 65536) (l.take room))

/-- Place a run of bytes in a window. -/
def State.place (s : State) (w : Nat) (d : WinDesc) (off : Nat) (l : List Byte) : State :=
  State.placeWindow (l.length / 65536 + 2) w d off l s

/-! ### Opening and closing -/

/-- The handle of the host behind a controller: that of its admin queue's QP. -/
def State.ctrlHandle (s : State) (ctrl : Nat) : Option Nat :=
  match s.ctrlOf ctrl with
  | some c => ((c.queues.find? fun q => q.1 == 0).bind fun q => s.qp? q.2).map (·.handle)
  | none => none

/-- The windows that are not FREE, or are about to be. -/
def State.usedWindows (s : State) : List Nat :=
  ((s.win.table.act.map (·.1)) ++ ((s.win.batch ++ s.win.waiting).map (·.window))).eraseDups.filter fun w => (s.windowNewest w).st != .free || (s.window w).st != .free

/-- The KEY_TAG that the next open of an index uses (R198): random at first, then one more each time. -/
def State.nextTag (s : State) (w : Nat) : Nat × State :=
  match tget s.win.tags w with
  | some t => ((t + 1) % 2 ^ 14, { s with win := { s.win with tags := tset s.win.tags w ((t + 1) % 2 ^ 14) } })
  | none =>
    let (r, s) := s.draw
    (r % 2 ^ 14, { s with win := { s.win with tags := tset s.win.tags w (r % 2 ^ 14) } })

/-- Open a window (R197, R201, R204): buffers, key, and the descriptor in the next batch; the completion follows the swap. -/
def State.openWindow (s : State) (w : Nat) (bufs : List Nat) (q : Qp) (nsid length type : Nat) (remoteW remoteR bind : Bool)
    (reply : Nat × Nat) : State :=
  let (tag, s) := s.nextTag w
  let (list, s) := s.takeFree
  let s : State := { s with win := { s.win with lists := tset s.win.lists w (bufs.map fun b => { buf := b, spilled := false, written := false }) } }
  s.winChange { window := w, reply := some reply, desc := { st := .isOpen, buffer := type == 1, remoteW := remoteW, remoteR := remoteR, bind := bind, fed := q.service == 2, keyTag := tag, tenant := q.tenant, nsid := nsid, handle := q.handle, length := length, openTurn := 0, listAddr := list % 2 ^ 34 * 64 } }

/-- Refuse an open for want of quota, index or state (R202, R219). -/
def State.quota (s : State) (ctrl cid handle : Nat) : State :=
  (s.raiseLim lim19 handle Ev.windowQuota Sev.notice handle 0 0 0).replyErr ctrl cid St.denied

/-- WINDOW_OPEN (R201, R202, R204, R242). -/
def execWindowOpen (ctrl cid qp nsid length type : Nat) (remoteW remoteR bind : Bool) (s : State) : Out :=
  .next <| s.admin (.windowOpen ctrl cid qp nsid length type remoteW remoteR bind) ctrl cid .hostOnly fun s =>
    match s.qp? qp with
    | none => s
    | some q =>
      let append := type == 0
      let free := tfree ((s.usedWindows).map fun w => (w, ())) 0 262144
      let held := (s.openWindows.filter fun w => (s.windowNewest w).handle == q.handle).length
      if length = 0 || 2 ^ s.rd Reg.WIN_CFG_WIN_MAX_LEN < length || append && (remoteR || !remoteW) || !append && nsid != 0 then
        s.replyErr ctrl cid St.invalidField
      else if append && (s.nsOf nsid).any (fun n => n.type == 2) then s.replyErr ctrl cid St.invalidField
      else if append && (s.attached ctrl nsid).isNone then s.replyErr ctrl cid St.invalidNs
      else if s.rd Reg.WIN_CFG_WIN_PER_HOST ≤ held || s.cfg.state != .active then s.quota ctrl cid q.handle
      else match free with
        | none => s.quota ctrl cid q.handle
        | some w =>
          if 2 ≤ s.sch.inLevel then s.replyErr ctrl cid St.interrupted
          else match s.allocMany 0 1 0 length with
            | none => s.replyErr ctrl cid St.interrupted
            | some (bufs, s) => s.openWindow w bufs q nsid length type remoteW remoteR bind (ctrl, cid)

/-- WINDOW_CLOSE (R203, R211). -/
def execWindowClose (ctrl cid key : Nat) (s : State) : Out :=
  .next <| s.admin (.windowClose ctrl cid key) ctrl cid .hostOnly fun s =>
    let w := keyIndex key
    let d := s.windowNewest w
    if d.st == .isOpen && keyTagOf key == d.keyTag && some d.handle == s.ctrlHandle ctrl then s.revoke w (some (ctrl, cid))
    else s.replyErr ctrl cid St.invalidField

/-- WINDOW_REVOKE_DRAINED (R205, R211, R218): the revoke completes, what no commit owns is freed, and the next batch makes the window
FREE. -/
def execWindowRevokeDrained (window : Nat) (s : State) : Out :=
  .next <|
    match s.win.revokes.find? fun r => r.window == window with
    | none => s
    | some r =>
      if s.xpt.missBuf.any fun p => decide (p.turn < r.turn) then s
      else
        let left := s.win.revokes.filter fun x => x.window != window
        let s : State := { s with win := { s.win with revokes := left } }
        let s := match r.reply with
          | some (ctrl, cid) => s.replyOk ctrl cid
          | none => if left.any fun x => x.reply.isNone then s else s.raise Ev.windowRevoked Sev.notice window 0 0 0
        let d := s.windowNewest window
        (s.freeWindow window).winChange { window := window, desc := { d with st := .free }, reply := none }

/-- WINDOW_DESCRIPTOR_READ (R196, R656): the active descriptor goes to WIN_DATA of the writer's copy. -/
def execWindowDescriptorRead (writer : Writer) (s : State) : Out :=
  .next <| s.acts writer Reg.WIN_READ_READ.off <|
    let w := s.rd (Reg.WIN_SEL.forWriter writer)
    let s := ((s.window w).words.zipIdx).foldl (init := s) fun s x => s.wr (Reg.WIN_DATA.forWriter writer) 0 x.2 x.1
    s.wr (Reg.WIN_READ_VALID.forWriter writer) 0 0 1

/-- WINDOW_VIOLATION_CLEAR: WIN_VIOL is zeroed at the next boundary. -/
def execWindowViolationClear (s : State) : Out := .next <| s.up <| s.defer .clearViol

end Sys2Proof.Machine
end

