-- ==== Sys2Proof/Machine/Transport.lean ====
section
/-!
DEFINITION. Machine/Transport.lean: received packets of established queue pairs, Gecko's misses, acknowledgements, timers and work requests
(chapter 06).
-/

namespace Sys2Proof.Machine

/-! ### Responder -/

/-- Receive a packet whose ECN field is CE (R177): at most one CNP per QP per Turn. -/
def State.congested (s : State) (i : Nat) : State :=
  match s.qp? i with
  | some q =>
    if q.cnpSent then s
    else (((s.modQp i fun q => { q with cnpSent := true, cnpsTx := q.cnpsTx + 1 }).emit .cnp [i]).count 57 1 i).count (6 * (q.unit / 2) + 5) 1 q.unit
  | none => s

/-- Acknowledge a placed packet (R190): at once where AckReq asks for it, else at the next boundary. -/
def State.acknowledge (s : State) (i psn : Nat) (ackReq : Bool) : State :=
  if ackReq then (s.modQp i fun q => { q with ackDue := none }).emit .ack [i, psn] else s.modQp i fun q => { q with ackDue := some psn }

/-- Send a NAK for EPSN, once (R155, R192, R207): codes 0 sequence, 1 invalid request, 2 remote access. -/
def State.nak (s : State) (i code : Nat) : State :=
  match s.qp? i with
  | some q => if q.nakSent then s else ((s.modQp i fun q => { q with nakSent := true, naks := q.naks + 1 }).emit .nak [i, q.epsn, code]).count 53 1 i
  | none => s

/-- A request in PSN order (R183, R192): new, a duplicate up to 2^23 behind, or out of sequence. -/
def State.inSequence (s : State) (i : Nat) (p : Pkt) (fresh : Qp → State) (dup : Qp → State) : State :=
  match s.qp? i with
  | some q =>
    if q.st == .rtr || q.st == .rts || q.st == .draining then
      let d := psnDiff p.psn q.epsn
      if d = 0 then fresh q else if 2 ^ 23 ≤ d then dup q else s.nak i 0
    else s
  | none => s

/-- Advance EPSN by the packets of a request, and MSN at the end of a message. -/
def State.accepted (s : State) (i packets : Nat) (ends : Bool) : State :=
  s.modQp i fun q => { q with epsn := psnAdd q.epsn packets, msn := (q.msn + b2n ends) % 2 ^ 24, nakSent := false, rcvdPkts := q.rcvdPkts + 1 }

/-- Meter a payload frame when its context is there (R238 to R241): dropped, or passed on, marked or as it came. -/
def State.metered (s : State) (i : Nat) (p : Pkt) (run : State → State) : State :=
  match s.qp? i with
  | some q =>
    let (r, s) := s.police q.handle q.service p.dscp p.length
    match r with
    | .drop => s
    | .mark => run (s.congested i)
    | .pass => run (if p.ce then s.congested i else s)
  | none => s

/-- Charge placed payload to the ingest buckets of its QP (R231). -/
def State.placedFrame (s : State) (i : Nat) (p : Pkt) : State :=
  match s.qp? i with
  | some q => s.chargeIngest q.handle q.service p.unit p.length
  | none => s

/-- Is a packet the last of its message? -/
def endsMsg (x : PktPos) : Bool := x == .last || x == .only

/-- A Send (R155, R184, R193): RNR NAK at black or with no buffer, else into the receive ring. -/
def State.runSend (s : State) (i : Nat) (p : Pkt) (pos : PktPos) : State :=
  s.metered i p fun s => s.inSequence i p
    (fun _ =>
      match if s.roleLevel 2 = 3 then none else s.alloc 2 0 3 with
      | none => (s.emit .rnrNak [i, p.psn, 12]).count 55 1 i
      | some (_, b, s) =>
        let s := (s.modQp i fun q => { q with recv := q.recv ++ [b], compCount := if endsMsg pos && bitOf q.countSel 2 then (q.compCount + 1) % 2 ^ 32 else q.compCount }).placedFrame i p
        (s.accepted i 1 (endsMsg pos)).acknowledge i p.psn p.ackReq)
    (fun q => s.acknowledge i (psnAdd q.epsn (2 ^ 24 - 1)) p.ackReq)

/-- An RDMA Write (R206 to R208, R213, R181): checked against the bank of its Turn, then placed. -/
def State.runWrite (s : State) (i turn : Nat) (p : Pkt) (pos : PktPos) (rkey va : Nat) (imm : Option Nat) (payload : List Byte) : State :=
  s.metered i p fun s => s.inSequence i p
    (fun q =>
      let w := keyIndex rkey
      let d := s.windowAt w turn
      match d.fault q rkey va payload.length true with
      | some r => (s.nak i 2).windowViol w r
      | none =>
        let final := q.relaxed && endsMsg pos && (match imm with
          | some v => bitOf v 31
          | none => false)
        let s := (s.place w d va payload).placedFrame i p
        let s := s.modQp i fun q => { q with lastFinalPsn := if final then p.psn else q.lastFinalPsn, compCount := if final && bitOf q.countSel 1 then (q.compCount + 1) % 2 ^ 32 else q.compCount }
        (s.accepted i 1 (endsMsg pos)).acknowledge i p.psn p.ackReq)
    (fun q => s.acknowledge i (psnAdd q.epsn (2 ^ 24 - 1)) p.ackReq)

/-- An RDMA Read Request (R206, R207, R192): served from the window, again from the current banks if it is a duplicate. -/
def State.runRead (s : State) (i turn : Nat) (p : Pkt) (rkey va length : Nat) : State :=
  let s := if p.ce then s.congested i else s
  let w := keyIndex rkey
  s.inSequence i p
    (fun q => match (s.windowAt w turn).fault q rkey va length false with
      | some r => (s.nak i 2).windowViol w r
      | none => (s.accepted i (packetsOf length q.pmtu) true).emit .readResponse [i, length])
    (fun q => match (s.windowAt w turn).fault q rkey va length false with
      | some r => (s.nak i 2).windowViol w r
      | none => s.emit .readResponse [i, length])

/-! ### Requester -/

/-- The first PSN of a work request's packets. -/
def Qp.firstPsn (q : Qp) (e : SqEntry) : Nat := psnAdd e.lastPsn (2 ^ 24 + 1 - packetsOf e.wqe.length q.pmtu)

/-- The oldest RDMA Read in flight. -/
def Qp.oldestRead (q : Qp) : Option SqEntry := q.sq.find? fun e => e.started && e.wqe.opcode == 4

/-- The PSN up to which an ACK can complete requests: none past a read whose responses are still to come. -/
def Qp.ackLimit (q : Qp) (psn : Nat) : Nat :=
  match q.oldestRead with
  | some e => if psnDiff psn q.unaPsn < psnDiff (q.firstPsn e) q.unaPsn then psn else psnAdd (q.firstPsn e) (2 ^ 24 - 1)
  | none => psn

/-- Does a PSN name a packet in flight? -/
def Qp.inFlight (q : Qp) (psn : Nat) : Bool := decide (psnDiff psn q.unaPsn < psnDiff q.sqPsn q.unaPsn)

/-- Bytes pulled for a command, from an offset of its data on: into the blocks that it owns (R216, R341), or, for a tally write, beside it. -/
def State.fillPulled (s : State) (seq off : Nat) (l : List Byte) : State :=
  match s.entry seq with
  | none => s
  | some e =>
    if e.kind == .tallyWrite then s.setEntry seq { e with out := memWriteList e.out off l }
    else
      let a := (if e.kind == .zoneAppend then e.resultLba else e.io.slba) * 4096 + off
      s.win.blocks.foldl (init := s) fun s x =>
        match x.2.owner with
        | some o =>
          let base := (o.extent * 16 + o.index) * 65536 + o.firstSector * 4096
          let lo := max a base
          let hi := min (a + l.length) (base + o.sectors * 4096)
          if o.seq = seq && decide (lo < hi) && x.2.window.isNone then
            s.modBlk x.1 fun b => { b with data := memWriteList b.data (lo - base) ((l.drop (lo - a)).take (hi - lo)), filled := b.filled + (hi - lo) }
          else s
        | none => s

/-- A response to Daxzin's own oldest read (R155, R179): the next of its PSNs only. -/
def State.runReadResponse (s : State) (i : Nat) (p : Pkt) (payload : List Byte) : State :=
  s.metered i p fun s =>
    match s.qp? i with
    | none => s
    | some q =>
      match q.oldestRead, q.reads with
      | some e, (tag, left) :: more =>
        let done := e.wqe.length - left
        let expect := psnAdd (q.firstPsn e) (done / (if q.pmtu = 0 then 1024 else q.pmtu))
        let n := min payload.length left
        if p.psn != expect || (n = 0 && left != 0) then s
        else
          let s := if bitOf e.wqe.flags Wq.pull then s.fillPulled tag (e.wqe.offset + done) (payload.take n)
            else s.place e.wqe.window (s.window e.wqe.window) (e.wqe.offset + done) (payload.take n)
          let s := s.placedFrame i p
          if left ≤ n then (s.setQp i { q with reads := more, rcvdPkts := q.rcvdPkts + 1 }).ackUpTo i e.lastPsn
          else s.modQp i fun q => { q with reads := (tag, left - n) :: more, rcvdPkts := q.rcvdPkts + 1 }
      | _, _ => s

/-- An ACK (R178, R184, R191): acknowledged work, and an RTT sample in fabric cycles. -/
def State.runAck (s : State) (i psn : Nat) (rx tx : Stamp) : State :=
  match s.qp? i with
  | some q =>
    let d := stampTime (s.rxStamp q.unit rx) - stampTime (s.txStamp q.unit tx)
    let sample := d.toNat / 16
    let s := s.modQp i fun q => { q with rcvdPkts := q.rcvdPkts + 1, rttMin := some (match q.rttMin with
      | some m => min m sample
      | none => sample) }
    if q.inFlight psn then s.ackUpTo i (q.ackLimit psn) else s
  | none => s

/-- A NAK (R191, R194): a sequence NAK resends from the PSN that it names, the others end the QP. -/
def State.runNak (s : State) (i psn : Nat) (code : NakCode) : State :=
  match s.qp? i with
  | some q =>
    let s := s.count 54 1 i
    match code with
    | .psnSequence => if q.inFlight psn then (s.ackUpTo i (q.ackLimit (psnAdd psn (2 ^ 24 - 1)))).retryFrom i psn else s
    | .invalidRequest => s.retryExhausted i 1
    | .remoteAccess => s.retryExhausted i 2
    | .remoteOperational => s.retryExhausted i 3
  | none => s

/-- An RNR NAK (R193, R194): wait and retry the packet, or give up. -/
def State.runRnr (s : State) (i psn wait : Nat) : State :=
  match s.qp? i with
  | some q =>
    let s := s.count 56 1 i
    if !q.inFlight psn then s
    else
      let s := s.ackUpTo i (q.ackLimit (psnAdd psn (2 ^ 24 - 1)))
      if q.rnrLeft = 0 && q.rnrRetry != 7 then s.retryExhausted i 4
      else s.modQp i fun q => { q with rnrLeft := if q.rnrRetry = 7 then q.rnrLeft else q.rnrLeft - 1, rnrWait := some (s.clock, wait), ackArmed := none }
  | none => s

/-! ### Gecko -/

/-- Run a packet of a QP whose context is in Gecko, against the banks of its Turn (R173). -/
def State.runPacket (s : State) (i turn : Nat) : Instr → State
  | .sendRx p pos _ => s.runSend i p pos
  | .rdmaWriteRx p pos rkey va imm payload => s.runWrite i turn p pos rkey va imm payload
  | .rdmaReadRequestRx p rkey va length => s.runRead i turn p rkey va length
  | .rdmaReadResponseRx p _ payload => s.runReadResponse i p payload
  | .sendWithInvalidateRx p => s.metered i p fun s => s.inSequence i p (fun _ => s.nak i 1) (fun _ => s)
  | .ackRx _ psn rx tx => s.runAck i psn rx tx
  | .nakRx _ psn code => s.runNak i psn code
  | .rnrNakRx _ psn wait => s.runRnr i psn wait
  | .cnpRx _ => (s.modQp i fun q => { q with cnpRx := true, cnpsRx := q.cnpsRx + 1 }).count 58 1 i
  | _ => s

/-- Park a packet that misses, or drop it where the miss buffer is full (R172, R174). -/
def State.park (s : State) (i turn : Nat) (packet : Instr) : State :=
  let s := (s.bumpWrap Reg.XPT_GECKO_MISS 0 0 1).count 49 1 i
  let n := s.xpt.missBuf.length
  if 512 ≤ n then ((s.bump Reg.XPT_MISS_DROP 0 0 1).count 50 1 i).raiseLim lim19 0 Ev.missDrop Sev.notice i 0 (s.rd Reg.XPT_MISS_DROP) 0
  else
    let s : State := { s with xpt := { s.xpt with missBuf := s.xpt.missBuf ++ [{ qp := i, turn := turn, packet := packet }], fetches := if s.xpt.fetches.contains i then s.xpt.fetches else s.xpt.fetches ++ [i] } }
    s.wr Reg.XPT_MISS_PEAK 0 0 (max (s.rd Reg.XPT_MISS_PEAK) (n + 1))

/-- A packet reaches the transport (R159, R168, R170, R172). -/
def State.receive (s : State) (qpn turn : Nat) (packet : Instr) : State :=
  match s.indexOfQpn qpn with
  | none => s.badQpn
  | some i =>
    if s.geckoHit i then (((s.bumpWrap Reg.XPT_GECKO_HIT 0 0 1).count 48 1 i).geckoTouch i).runPacket i turn packet
    else s.park i turn packet

/-- Does a sub-port carry RoCEv2 traffic (R134)? -/
def State.carries (s : State) (unit : Nat) : Bool := decide (unit < 16) && (s.link unit).st == .up

/-- A packet with its own sub-port: credited to the current Turn, or in the last four cycles to the following one (R46). -/
def State.receivePkt (s : State) (p : Pkt) (packet later : Instr) : Out :=
  guardUnit (decide (p.unit < 16) && s.unitOn p.unit) <|
    if !s.carries p.unit then s
    else if p.lastCycles then s.defer (.command later)
    else s.receive p.qpn s.now packet

/-- A packet that names its QP alone: its sub-port is the QP's. -/
def State.receiveQpn (s : State) (qpn : Nat) (packet : Instr) : Out :=
  .next <|
    if s.inReset then s
    else match s.indexOfQpn qpn with
      | some i => if (s.qp? i).any fun q => s.carries q.unit then s.receive qpn s.now packet else s
      | none => s.badQpn

/-- SEND_RX (R155, R193). -/
def execSendRx (p : Pkt) (pos : PktPos) (imm : Option Nat) (s : State) : Out :=
  s.receivePkt p (.sendRx p pos imm) (.sendRx { p with lastCycles := false } pos imm)

/-- RDMA_WRITE_RX (R155, R206 to R213). -/
def execRdmaWriteRx (p : Pkt) (pos : PktPos) (rkey va : Nat) (imm : Option Nat) (payload : List Byte) (s : State) : Out :=
  s.receivePkt p (.rdmaWriteRx p pos rkey va imm payload) (.rdmaWriteRx { p with lastCycles := false } pos rkey va imm payload)

/-- RDMA_READ_REQUEST_RX (R155, R206, R207). -/
def execRdmaReadRequestRx (p : Pkt) (rkey va length : Nat) (s : State) : Out :=
  s.receivePkt p (.rdmaReadRequestRx p rkey va length) (.rdmaReadRequestRx { p with lastCycles := false } rkey va length)

/-- RDMA_READ_RESPONSE_RX (R155). -/
def execRdmaReadResponseRx (p : Pkt) (pos : PktPos) (payload : List Byte) (s : State) : Out :=
  s.receivePkt p (.rdmaReadResponseRx p pos payload) (.rdmaReadResponseRx { p with lastCycles := false } pos payload)

/-- SEND_WITH_INVALIDATE_RX (R155): NAK, invalid request. -/
def execSendWithInvalidateRx (p : Pkt) (s : State) : Out :=
  s.receivePkt p (.sendWithInvalidateRx p) (.sendWithInvalidateRx { p with lastCycles := false })

/-- ACK_RX (R178, R191). -/
def execAckRx (qpn psn : Nat) (rx tx : Stamp) (s : State) : Out := s.receiveQpn qpn (.ackRx qpn psn rx tx)

/-- NAK_RX (R191, R194). -/
def execNakRx (qpn psn : Nat) (code : NakCode) (s : State) : Out := s.receiveQpn qpn (.nakRx qpn psn code)

/-- RNR_NAK_RX (R193, R194). -/
def execRnrNakRx (qpn psn wait : Nat) (s : State) : Out := s.receiveQpn qpn (.rnrNakRx qpn psn wait)

/-- CNP_RX (R178). -/
def execCnpRx (qpn : Nat) (s : State) : Out := s.receiveQpn qpn (.cnpRx qpn)

/-- CONTEXT_FETCH_DONE (R172, R173, R176). -/
def execContextFetchDone (qp : Nat) (eccOk : Bool) (s : State) : Out :=
  .next <|
    if !s.xpt.fetches.contains qp then s
    else
      let mine := s.xpt.missBuf.filter fun p => p.qp == qp
      let s : State := { s with xpt := { s.xpt with missBuf := s.xpt.missBuf.filter fun p => p.qp != qp, fetches := s.xpt.fetches.filter (· != qp) } }
      if eccOk then mine.foldl (fun s p => s.runPacket qp p.turn p.packet) (s.geckoTouch qp)
      else (s.raise Ev.contextEcc Sev.error qp 0 0 0).qpToErr qp 1 false

/-! ### Timers and work requests -/

/-- ACK_TIMEOUT (R191, R194). -/
def execAckTimeout (qp : Nat) (s : State) : Out :=
  .next <| match s.qp? qp with
    | some q => if due q.ackArmed (2 ^ (q.ackT + 1)) s.clock && q.unaPsn != q.sqPsn then (s.count 59 1 qp).retryFrom qp q.unaPsn else s
    | none => s

/-- RNR_WAIT_EXPIRY (R193): the packet is sent again. -/
def execRnrWaitExpiry (qp : Nat) (s : State) : Out :=
  .next <| match s.qp? qp with
    | some q => (match q.rnrWait with
      | some (t, wait) =>
        if expired t wait s.clock then
          (((s.modQp qp fun q => { q with rnrWait := none, ackArmed := some s.clock, retrans := q.retrans + 1 }).emit .resend [qp, q.unaPsn]).count 52 1 qp).pumpSq qp false
        else s
      | none => s)
    | none => s

/-- TRIG_MAX of the running image (R160). -/
def State.trigMax (s : State) : Nat :=
  match s.transportSec with
  | some t => t.trigMax
  | none => 4096

/-- Why a work request is refused at its posting (R185, R187), if it is. -/
def State.wqeFault (s : State) (q : Qp) (w : Wqe) : Option Nat :=
  if !(w.opcode ≤ 4 || w.opcode == 15) || decide (2 ^ 31 < w.length) then some Wq.invalid
  else if !bitOf w.flags 0 then none
  else
    match s.qp? w.trigQp with
    | none => some Wq.trigOption
    | some t =>
      if !q.triggers || !t.triggers then some Wq.trigOption
      else if q.tenant != t.tenant && q.service != 2 && t.service != 2 then some Wq.trigTenant
      else if s.trigMax ≤ s.triggersWaiting then some Wq.trigFull
      else if w.trigTimeout = 0 || 2 ^ 30 < w.trigTimeout then some Wq.invalid
      else none

/-- Post a work request (R185, R187): queued, refused, or flushed where the QP takes none. -/
def State.postWqe (s : State) (qp : Nat) (w : Wqe) : State :=
  match s.qp? qp with
  | none => s.wqeDone qp w Wq.flushed
  | some q =>
    if q.st == .draining || q.st == .err || q.st == .timewait then s.wqeDone qp w Wq.flushed
    else match s.wqeFault q w with
      | some c =>
        let s := if c = Wq.trigFull then s.raise Ev.triggerTableFull Sev.warning qp 0 s.triggersWaiting 0 else s
        s.wqeDone qp w c
      | none =>
        ((s.modQp qp fun q => { q with sq := q.sq ++ [{ wqe := w, started := false, lastPsn := 0, headTurn := none }] }).pumpSq qp false).xptStatus

/-- WQE_POST (R184 to R187, R209). -/
def execWqePost (qp : Nat) (wqe : Wqe) (s : State) : Out := .next <| s.up <| s.postWqe qp { wqe with flags := wqe.flags % 32 }

/-- TRIGGER_TIMEOUT (R188): the trigger at the head completes with TRIG_TIMEOUT and is skipped. -/
def execTriggerTimeout (qp : Nat) (s : State) : Out :=
  .next <| match s.qp? qp with
    | some q => (match q.sq.find? fun e => !e.started with
      | some e =>
        if bitOf e.wqe.flags 0 && due e.headTurn e.wqe.trigTimeout s.clock then
          let s := s.setQp qp { q with sq := q.sq.takeWhile (·.started) ++ (q.sq.dropWhile (·.started)).drop 1 }
          let s := (s.raise Ev.triggerTimeout Sev.notice qp 0 e.wqe.trigQp e.wqe.threshold).count 62 1 qp
          ((s.wqeDone qp e.wqe Wq.trigTimeout).pumpSq qp false).xptStatus
        else s
      | none => s)
    | none => s

/-- QP_FORCE_ERROR (R653): from an admin principal, not from the service endpoint; the QP of the writer's XPT_QP_SEL enters ERR at the
next boundary. -/
def execQpForceError (writer : Writer) (admin : Bool) (s : State) : Out :=
  .next <| s.up <|
    if writer == .endpoint || !admin then s.violation Reg.XPT_QP_CTL_FORCE_ERR.off (writerCode writer)
    else s.defer (.forceErr (s.rd (Reg.XPT_QP_SEL.forWriter writer)))

/-- Codes of the QP states (R167). -/
def QpState.code : QpState → Nat
  | .reset => 0
  | .init => 1
  | .rtr => 2
  | .rts => 3
  | .draining => 4
  | .err => 5
  | .timewait => 6

/-- The 64 words of a context (R169); the ring bases and indices and the words that CMD owns are not given by the spec. -/
def Qp.words (q : Qp) (deadline : Nat) (unknown : Nat → Nat) : List Nat :=
  [q.st.code + 8 * b2n q.initiated + 16 * b2n q.relaxed + 32 * b2n q.triggers + 64 * q.service + 2 ^ 8 * q.gen + 2 ^ 16 * q.countSel, q.remoteQpn,
   q.handle + 65536 * q.tenant,
   (q.pmtu / 1024 / 2 + 3) % 256 + 2 ^ 8 * q.ackT + 2 ^ 16 * (q.retryCnt + 16 * q.rnrRetry) + 2 ^ 24 * (q.ird - 1 + 16 * (q.ord - 1)),
   q.sqPsn, q.unaPsn, q.epsn, q.msn, q.retriesLeft + 256 * q.rnrLeft, deadline, q.cwnd, q.inflight, q.alpha + 65536 * q.quiet, q.rttLast, q.compCount,
   q.lastFinalPsn] ++ (List.range 8).map unknown ++ List.replicate 8 0 ++ (List.range 16).map (fun k => unknown (8 + k)) ++
  [q.sentPkts % 2 ^ 32, q.sentPkts / 2 ^ 32, q.rcvdPkts % 2 ^ 32, q.rcvdPkts / 2 ^ 32, q.retrans, q.naks, q.cnpsRx, q.cnpsTx] ++ List.replicate 8 0

/-- QP_CONTEXT_READ (R169, R656): the selected context goes to XPT_QP_DATA of the writer's copy. -/
def execQpContextRead (writer : Writer) (s : State) : Out :=
  .next <| s.acts writer Reg.XPT_QP_CTL_READ.off <|
    let i := s.rd (Reg.XPT_QP_SEL.forWriter writer)
    let base := s.free
    let unknown := fun k => (Config.freeValue (base + k)) % 2 ^ 32
    let words := match s.qp? i with
      | some q =>
        let deadline := match q.ackArmed with
          | some a => (s.now + (a + 1 + 2 ^ (q.ackT + 1) - s.clock)) % 2 ^ 32
          | none => 0
        q.words deadline unknown
      | none => 2 ^ 8 * tgetD s.xpt.gens i 0 :: List.replicate 63 0
    let s : State := { s with free := s.free + 24 }
    let s := words.zipIdx.foldl (init := s) fun s x => s.wr (Reg.XPT_QP_DATA.forWriter writer) 0 x.2 x.1
    s.wr (Reg.XPT_QP_CTL_VALID.forWriter writer) 0 0 1

/-- MISS_PEAK_CLEAR: a write of XPT_MISS_PEAK of any value clears it. -/
def execMissPeakClear (s : State) : Out := .next <| s.up <| s.wr Reg.XPT_MISS_PEAK 0 0 0

end Sys2Proof.Machine
end

