-- ==== Sys2Proof/Machine/Connect.lean ====
section
/-!
DEFINITION. Machine/Connect.lean: connection management (R156, R161 to R168).
-/

namespace Sys2Proof.Machine

/-- Does the device state accept a REQ for a service (R168)? -/
def DevState.accepts (d : DevState) (service : Nat) : Bool :=
  match d with
  | .boot | .safeHold => false
  | .shelfIdle | .recovery => service != 0
  | .standby | .active | .activating => true

/-- Queue pairs of a host address. -/
def State.qpsOfHost (s : State) (a : HostAddr) : Nat :=
  match s.handleOf a with
  | some h => (s.xpt.qps.filter fun p => p.2.handle == h).length
  | none => 0

/-- QP_PER_HOST of the running image (R85). -/
def State.qpPerHost (s : State) : Nat :=
  match s.transportSec with
  | some t => t.qpPerHost
  | none => 64

/-- The lowest QP index in RESET. -/
def State.freeQp (s : State) : Option Nat := tfree s.xpt.qps 0 65536

/-- Accept a REQ (R157, R163, R165): a QP in INIT, its REP to follow once the handle is active; while ACTIVATING an MRA goes out now. -/
def State.acceptReq (s : State) (req : CmReq) (i h : Nat) : State :=
  let granted := req.options.map fun o => o &&& s.rd Reg.XPT_CFG_LX_OPTIONS
  let g := granted.getD 0
  let s := s.newQp i h req.tenant req.service req.host.unit req.remoteQpn req.psn (min s.pathMtu req.mtu) (min 16 req.initiatorDepth) (min 16 req.responderResources) false (bitOf g 0) (bitOf g 1)
  let s := s.modQp i fun q => { q with granted := granted, repPending := true, mraArmed := some s.clock }
  let s := if s.cfg.state == .activating then (s.modQp i fun q => { q with mraArmed := none }).emit .cmMra [i] else s
  s.handleBatch.greet i

/-- CM_REQ_RX (R161 to R165, R168): rejected with a reason and no state, or accepted. -/
def execCmReqRx (req : CmReq) (s : State) : Out :=
  guardUnit (decide (req.host.unit < 16) && s.unitOn req.host.unit) <|
    if !s.carries req.host.unit then s
    else
      let rej := fun (s : State) reason => s.emit .cmRej [req.remoteQpn, reason]
      if 3 ≤ req.service then rej s 8
      else if !s.cfg.state.accepts req.service || !req.requestOk then rej s 28
      else if s.qpPerHost ≤ s.qpsOfHost req.host then rej s 1
      else match s.freeQp with
        | none => rej s 1
        | some i =>
          if 16 < req.responderResources then rej s 3
          else match s.takeHandle req.host with
            | none => rej (s.raise Ev.handleTableFull Sev.warning 0 0 0 0) 3
            | some (h, s) => s.acceptReq req i h

/-- The test of a CM message about a QP: its sub-port carries traffic and the QP stands as `p` asks. -/
def State.cmQp (s : State) (i : Nat) (p : Qp → Bool) (run : Qp → State) : State :=
  match s.qp? i with
  | some q => if s.carries q.unit && p q then run q else s
  | none => s

/-- Is a QP one that Daxzin is opening? -/
def Qp.opening (q : Qp) : Bool := q.st == .init && q.initiated && decide (0 < q.attempts)

/-- CM_REP_RX (R163, R167): RTR, then an RTU and RTS. -/
def execCmRepRx (qp remoteQpn psn granted : Nat) (s : State) : Out :=
  .next <| s.cmQp qp Qp.opening fun _ =>
    let s := s.modQp qp fun q => { q with st := .rtr, remoteQpn := remoteQpn, epsn := psn % 2 ^ 24, relaxed := bitOf granted 0, triggers := bitOf granted 1, countSel := if bitOf granted 1 then q.countSel else 0, connectArmed := none }
    (s.emit .cmRtu [qp]).enterRts qp

/-- CM_RTU_RX (R167). -/
def execCmRtuRx (qp : Nat) (s : State) : Out := .next <| s.cmQp qp (fun q => q.st == .rtr && !q.initiated) fun _ => s.enterRts qp

/-- CM_REJ_RX (R166): the attempt ends. -/
def execCmRejRx (qp _reason : Nat) (s : State) : Out := .next <| s.cmQp qp Qp.opening fun _ => s.qpReset qp

/-- CM_MRA_RX (R166): the wait for the REP starts again with the peer's service timeout. -/
def execCmMraRx (qp timeout : Nat) (s : State) : Out :=
  .next <| s.cmQp qp Qp.opening fun _ => s.modQp qp fun q => { q with connectArmed := some (s.clock + timeout) }

/-- CM_DREQ_RX (R167): RTS gives way to DRAINING; in TIMEWAIT the DREP is sent again. -/
def execCmDreqRx (qp : Nat) (s : State) : Out :=
  .next <| s.cmQp qp (fun q => q.st == .rts || q.st == .timewait) fun q => if q.st == .rts then s.drainQp qp else s.emit .cmDrep [qp]

/-- Has a draining QP nothing outstanding (R167)? -/
def Qp.drained (q : Qp) : Bool := q.st == .draining && q.sq.isEmpty && q.reads.isEmpty

/-- CM_DREP_RX (R167). -/
def execCmDrepRx (qp : Nat) (s : State) : Out := .next <| s.cmQp qp Qp.drained fun _ => s.toTimewait qp

/-- CM_UNSUPPORTED_RX: LAP, APR and SIDR are answered with nothing. -/
def execCmUnsupportedRx (s : State) : Out := .next s

/-- Open a connection on service 19,544 as its initiator (R163, R165, R166): a federation QP in INIT; its REQ follows once the handle is
active. -/
def State.connectOut (s : State) (dest : HostAddr) (tenant : Nat) : State :=
  match s.freeQp with
  | none => s.raise Ev.connectFailed Sev.warning 0 0 0 0
  | some i => match s.takeHandle dest with
    | none => s.raise Ev.connectFailed Sev.warning i 0 0 0
    | some (h, s) =>
      let s := s.newQp i h tenant 2 dest.unit 0 0 s.pathMtu 16 16 true true true
      (s.modQp i fun q => { q with repPending := true }).handleBatch.greet i

/-- CONNECT_INITIATE (R163, R165, R166). -/
def execConnectInitiate (dest : HostAddr) (tenant : Nat) (s : State) : Out :=
  guardUnit (decide (dest.unit < 16) && s.unitOn dest.unit) <| if s.cfg.state.accepts 2 then s.connectOut dest tenant else s

/-- CONNECT_RETRY_EXPIRY (R166): up to 4 REQs, 0.5 s apart, then the connection has failed. -/
def execConnectRetryExpiry (qp : Nat) (s : State) : Out :=
  .next <| match s.qp? qp with
    | some q =>
      if q.opening && due q.connectArmed (turnsOfMs 500) s.clock then
        if q.attempts < 4 then (s.modQp qp fun q => { q with attempts := q.attempts + 1, connectArmed := some s.clock }).emit .cmReq [qp, q.attempts + 1]
        else (s.raise Ev.connectFailed Sev.warning qp 0 0 0).qpReset qp
      else s
    | none => s

/-- MRA_TIMER_EXPIRY (R165): no REP within 1 ms of the REQ. -/
def execMraTimerExpiry (qp : Nat) (s : State) : Out :=
  .next <| match s.qp? qp with
    | some q => if q.repPending && due q.mraArmed (turnsOfMs 1) s.clock then (s.modQp qp fun q => { q with mraArmed := none }).emit .cmMra [qp] else s
    | none => s

/-- QP_DRAIN_DONE (R167): the DREP goes out and TIMEWAIT follows. -/
def execQpDrainDone (qp : Nat) (s : State) : Out :=
  .next <| match s.qp? qp with
    | some q => if q.drained then ((s.emit .cmDrep [qp]).toTimewait qp).xptStatus else s
    | none => s

/-- QP_DRAIN_TIMEOUT (R167): 2^(T+1) Turns in DRAINING. -/
def execQpDrainTimeout (qp : Nat) (s : State) : Out :=
  .next <| match s.qp? qp with
    | some q => if q.st == .draining && due q.drainArmed (2 ^ (q.ackT + 1)) s.clock then ((((s.flushSq qp).emit .cmDrep [qp]).toTimewait qp)).xptStatus else s
    | none => s

/-- QP_TIMEWAIT_EXPIRY (R158, R167, R205): RESET and the next generation; with the last QP of a host its handle is released and its
windows are revoked. -/
def execQpTimewaitExpiry (qp : Nat) (s : State) : Out :=
  .next <| match s.qp? qp with
    | some q =>
      if q.st == .timewait && due q.timewaitArmed (2 ^ (q.ackT + 2)) s.clock then
        let s := s.qpReset qp
        if thas s.xpt.handleUse q.handle then s else s.revokeWhere fun d => d.handle == q.handle
      else s
    | none => s

end Sys2Proof.Machine
end

