-- ==== Sys2Proof/Machine/Scheduling.lean ====
section
/-!
DEFINITION. Machine/Scheduling.lean: gate lists (R232 to R236), the egress pick (R229), ingest pulls (R231) and the parameter commands
(chapter 08).
-/

namespace Sys2Proof.Machine

/-! ### Gates -/

/-- The entries of a gate list before the first INTERVAL of 0 (R233), from entry `e` on: entry, gates, interval. -/
def gateCycle (t : Tbl Nat) : Nat → Nat → List (Nat × Nat × Nat)
  | 0, _ => []
  | n + 1, e =>
    let v := tgetD t e 0
    let i := bitsOf v 8 16
    if i = 0 then [] else (e, v % 256, i) :: gateCycle t n (e + 1)

/-- The entry that holds a position of the cycle: entry, gates, Turns left with this one. -/
def gateAt : List (Nat × Nat × Nat) → Nat → Nat × Nat × Nat
  | [], _ => (0, 0xFF, 0)
  | (e, g, i) :: l, pos => if pos < i then (e, g, i - pos) else gateAt l (pos - i)

/-- Entry, gates and Turns left of a list with base Turn B in a Turn (R233). -/
def gateStep (t : Tbl Nat) (base turn : Nat) : Nat × Nat × Nat :=
  let c := gateCycle t 256 0
  let total := (c.map fun x => x.2.2).sum
  if total = 0 then (0, 0xFF, 0) else gateAt c ((turn - base) % total)

/-- A port's gate list. -/
def State.gateList (s : State) (port : Nat) : GateList := s.sch.gates.getD port GateList.allOpen

/-- The gates that the next boundary sets on a port (R234): those of the new list if one swaps there. -/
def State.nextGates (s : State) (port : Nat) : Nat :=
  let g := s.gateList port
  let n := s.now + 1
  if s.bankEligible (.gates port) g.list.catchup.isEmpty n then
    let base := if s.bankBit (.gates port) BankBit.timed then s.bankTarget (.gates port) else n
    (gateStep g.list.shd base n).2.1
  else (gateStep g.list.act g.base n).2.1

/-- The length of the guard on a sub-port in Pips (R236). -/
def State.guardPips (s : State) (unit : Nat) : Nat :=
  let gbps := if s.rd Reg.ETH_PORT_CFG_SPLIT unit == 1 then 100 else 200
  ceilDiv ((s.pathMtu + 256) * 8) (gbps * 32)

/-- May a frame of a service group start at a Pip (R235, R236)? -/
def State.gateOpen (s : State) (unit group pip : Nat) : Bool :=
  bitOf (s.gateList (unit / 2)).gates group && !(decide (64 - s.guardPips unit ≤ pip) && !bitOf (s.nextGates (unit / 2)) group)

/-! ### Egress -/

/-- The subscriber queue of a QP. -/
def State.queueOfFrame (s : State) (qp : Nat) : Nat :=
  match s.qp? qp with
  | some q => queueOfQp q.handle q.service
  | none => 0

/-- The service group of a node entry. -/
def State.groupOf (s : State) (node : Nat) : Nat := s.paramWord node 4 % 8

/-- Weight of an entry. -/
def State.weightOf (s : State) (entry : Nat) : Nat := bitsOf (s.paramWord entry 4) 8 8

/-- The first of a rising list of numbers that comes after another, cyclically. -/
def nextAfter (l : List Nat) (a : Nat) : Nat :=
  match l.find? fun x => decide (a < x) with
  | some x => x
  | none => l.headD 0

/-- Insert a number into a rising list without repeats. -/
def insertNat (x : Nat) : List Nat → List Nat
  | [] => [x]
  | y :: l => if x < y then x :: y :: l else if x = y then y :: l else y :: insertNat x l

/-- A rising list without repeats. -/
def sortNat (l : List Nat) : List Nat := l.foldl (fun a x => insertNat x a) []

/-- The head frame of a queue (R223): of its QPs that have frames ready, the next in turn, and that QP's first frame. -/
def State.headFrame (s : State) (queue : Nat) (frames : List EgressFrame) : Option EgressFrame :=
  let mine := frames.filter fun f => s.queueOfFrame f.qp == queue
  match mine with
  | [] => none
  | _ =>
    let qp := nextAfter (sortNat (mine.map (·.qp))) (tgetD s.sch.turnOf (2 ^ 40 + queue) 0)
    mine.find? fun f => f.qp == qp

/-- Deficit round robin among candidates in rising order (R229): the one whose turn it is stays while its deficit covers its head
frame; the next one gets a quantum of weight × 4,352 bytes. -/
def State.dwrr (s : State) (ring : Nat) (cands : List Nat) (weight length : Nat → Nat) : Nat × State :=
  let now := tgetD s.sch.turnOf ring 0
  let key := fun c => ring * 2 ^ 16 + c
  let have' := fun c => tgetD s.sch.deficit (key c) 0
  if cands.contains now && decide ((length now : Int) ≤ have' now) then
    (now, { s with sch := { s.sch with deficit := tset s.sch.deficit (key now) (have' now - (length now : Int)) } })
  else
    let c := nextAfter cands now
    let d := tdel s.sch.deficit (key now)
    (c, { s with sch := { s.sch with turnOf := tset s.sch.turnOf ring c, deficit := tset d (key c) (tgetD d (key c) 0 + (weight c * 4352 : Nat) - (length c : Int)) } })

/-- Send a frame on a sub-port. -/
def State.sendFrame (s : State) (unit : Nat) (f : EgressFrame) : State :=
  let p := portEntry unit
  let s := s.charge p (s.portBucket unit 0) (s.paramWord p 4) f.length
  (((s.emit .frame [unit, f.qp, f.length, b2n f.control]).bwAdd (unit / 2) 0 f.length).count (6 * (unit / 2) + 1) f.length unit).count (6 * (unit / 2) + 3) 1 unit

/-- Send from a node (R229): the next eligible queue's head frame, charged to queue, node CIR and PIR, and port. -/
def State.sendFrom (s : State) (unit node : Nat) (frames : List EgressFrame) : State :=
  let qs := sortNat ((frames.map fun f => s.queueOfFrame f.qp).filter fun q => s.nodeOf q unit == node && decide (0 < s.bucket q 0))
  let len := fun q => match s.headFrame q frames with
    | some f => f.length
    | none => 0
  let (q, s) := s.dwrr node qs s.weightOf len
  match s.headFrame q frames with
  | some f =>
    let s : State := { s with sch := { s.sch with turnOf := tset s.sch.turnOf (2 ^ 40 + q) f.qp } }
    let s := s.charge q 0 (s.paramWord q 4) f.length
    let s := (s.charge node 0 (s.paramWord node 4) f.length).charge node 1 (s.paramWord node 4) f.length
    s.sendFrame unit f
  | none => s

/-- Try one service group in one pass: 0 committed, 1 excess. -/
def State.tryGroup (s : State) (unit pip pass group : Nat) (frames : List EgressFrame) : Option State :=
  if !s.gateOpen unit group pip then none
  else
    let ready := frames.filter fun f => decide (0 < s.bucket (s.queueOfFrame f.qp) 0)
    let nodes := sortNat ((ready.map fun f => s.nodeOf (s.queueOfFrame f.qp) unit).filter fun n => s.groupOf n == group && decide (0 < s.bucket n pass))
    match nodes with
    | [] => none
    | _ =>
      let len := fun n => match ready.find? fun f => s.nodeOf (s.queueOfFrame f.qp) unit == n with
        | some f => f.length
        | none => 0
      let (n, s) := s.dwrr (2 ^ 20 + 16 * unit + group) nodes s.weightOf len
      some (s.sendFrom unit n frames)

/-- EGRESS_PICK (R222 to R230, R235, R236): one egress pick on a sub-port. -/
def execEgressPick (unit pip : Nat) (waiting : List EgressFrame) (s : State) : Out :=
  guardUnit (decide (unit < 16) && s.unitOn unit) <|
    if (s.link unit).st != .up && (s.link unit).st != .qualify then s
    else match waiting.find? fun f => f.control with
      | some f => s.sendFrame unit f
      | none =>
        let p := portEntry unit
        let frames := waiting.filter fun f => (s.qp? f.qp).isSome
        if (s.link unit).st != .up || s.bucket p (s.portBucket unit 0) ≤ 0 then s
        else
          let order := [0, 1].flatMap fun pass => [7, 6, 5, 4, 3, 2, 1, 0].map fun g => (pass, g)
          (order.findSome? fun x => s.tryGroup unit pip x.1 x.2 frames).getD s

/-! ### Ingest -/

/-- The parts of extent blocks that the bytes `lo` to `hi − 1` of a namespace touch (R341), within `a` to `b − 1`, what their command
covers: extent, index, first sector, sectors. -/
def blockParts (a b lo hi : Nat) : List (Nat × Nat × Nat × Nat) :=
  if hi ≤ lo then []
  else (List.range ((hi - 1) / 65536 + 1 - lo / 65536)).map fun i =>
    let n := lo / 65536 + i
    let x := max a (n * 65536)
    let y := min b (n * 65536 + 65536)
    (n / 16, n % 16, (x - n * 65536) / 4096, (y - x) / 4096)

/-- Give a command an empty block in compression staging; none where no slot is free. -/
def State.ownBlock (s : State) (o : BlkOwner) : Option State :=
  match s.freeStaging with
  | some n =>
    let k := s.win.nextBlk
    some { s with win := { s.win with blocks := tset s.win.blocks k { Blk.fresh none (.staged n) none with owner := some o }, nextBlk := k + 1 } }
  | none => none

/-- Give a command the blocks that it does not have yet; none where staging does not suffice. -/
def State.ownBlocks (s : State) (seq nsid : Nat) (l : List (Nat × Nat × Nat × Nat)) : Option State :=
  l.foldl (init := some s) fun s x =>
    match s with
    | none => none
    | some s =>
      let o : BlkOwner := { seq := seq, nsid := nsid, extent := x.1, index := x.2.1, firstSector := x.2.2.1, sectors := x.2.2.2 }
      let same := fun (p : BlkOwner) => p.seq == seq && p.nsid == nsid && p.extent == x.1 && p.index == x.2.1
      if s.win.blocks.any fun b => b.2.owner.any same then some s else s.ownBlock o

/-- May a pull be issued now (R231, R235, R242, R243)? -/
def State.mayPull (s : State) (q : Qp) (unit : Nat) : Bool :=
  let queue := queueOfQp q.handle q.service
  let node := s.nodeOf queue unit
  let p := portEntry unit
  decide (0 < s.bucket queue 1) && decide (0 < s.bucket node 2) && decide (0 < s.bucket p (s.portBucket unit 1)) &&
    bitOf (s.gateList (unit / 2)).gates (s.groupOf node) && decide (s.sch.inLevel < 2) &&
    !(s.sch.budget && s.sch.budgetDir == 0 && decide (s.sch.budgetLeft ≤ 0)) && decide (q.reads.length < q.ord)

/-- INGEST_PULL_ISSUE (R231): an RDMA Read of the next bytes of a command's host data. -/
def execIngestPullIssue (qp unit seq length : Nat) (s : State) : Out :=
  guardUnit (decide (unit < 16) && s.unitOn unit) <|
    match s.qp? qp, s.entry seq with
    | some q, some e =>
      let total := e.io.nlb * (if e.kind == .tallyWrite then 4160 else 4096)
      let keyed := match e.data with
        | .keyed _ _ _ => true
        | _ => false
      let kind := e.kind == .write || e.kind == .zoneAppend || e.kind == .tallyWrite
      let fits := decide (q.inflight + length ≤ q.cwnd) || decide (q.inflight = 0)
      if q.st == .rts && q.unit == unit && s.carries unit && e.admitted && keyed && kind && e.io.qp == qp && decide (0 < length) &&
          decide (e.pulled + length ≤ total) && fits && s.mayPull q unit then
        let a := e.firstLba * 4096
        let parts := if e.kind == .tallyWrite then [] else blockParts a (a + total) (a + e.pulled) (a + e.pulled + length)
        match s.ownBlocks seq e.io.nsid parts with
        | none => s
        | some s =>
          let n := packetsOf length q.pmtu
          let w : Wqe := { opcode := 4, flags := 2 ^ Wq.pull, trigQp := 0, threshold := 0, imm := 0, length := length, window := 0, offset := e.pulled, remoteVa := 0, remoteKey := 0, trigTimeout := 0, tag := seq }
          let x : SqEntry := { wqe := w, started := true, lastPsn := psnAdd q.sqPsn (n - 1), headTurn := none }
          let q := { q with sq := q.sq.takeWhile (·.started) ++ [x] ++ q.sq.dropWhile (·.started), sqPsn := psnAdd q.sqPsn n, inflight := q.inflight + length, ackArmed := if q.ackArmed.isSome then q.ackArmed else some s.clock, sentPkts := q.sentPkts + 1, reads := q.reads ++ [(seq, length)] }
          (((s.setQp qp q).modEntry seq fun e => { e with pulled := e.pulled + length }).emit .pull [qp, length]).count 85 1 qp
      else s
    | _, _ => s

/-- INGEST_HELD_TIMEOUT (R248): 1,024 Turns at black, and each further 2^19. -/
def execIngestHeldTimeout (s : State) : Out :=
  .next <| match s.sch.blackSince with
    | some b =>
      let isDue := match s.sch.heldArmed with
        | none => decide (b + 1024 ≤ s.clock)
        | some h => decide (h + 2 ^ 19 ≤ s.clock)
      if isDue then ({ s with sch := { s.sch with heldArmed := some s.clock } } : State).raise Ev.ingestHeld Sev.warning 0 0 (s.clock - b) 0 else s
    | none => s

/-! ### Parameters -/

/-- Fill SCH_PARAM_DATA of a writer's copy (R656). -/
def State.paramData (s : State) (writer : Writer) (words : List Nat) : State :=
  let s := words.zipIdx.foldl (init := s) fun s x => s.wr (Reg.SCH_PARAM_DATA.forWriter writer) 0 x.2 x.1
  s.wr (Reg.SCH_PARAM_CTL_VALID.forWriter writer) 0 0 1

/-- Does an entry keep to the caps of the tenant whose handle it belongs to (R245, R247)? A policer meters ingest. -/
def State.withinCap (s : State) (i : Nat) (w : List Nat) : Bool :=
  let d := fun k => w.getD k 0
  if i < 16384 then
    let c := s.tenantCap (s.handleTenant (i / 4))
    decide (d 0 ≤ c.egCap) && decide (d 2 ≤ c.inCap)
  else if 16648 ≤ i then
    let c := s.tenantCap (s.handleTenant ((i - 16648) / 2))
    decide (d 0 ≤ c.inCap) && decide (d 2 ≤ c.inCap)
  else true

/-- SCH_PARAM_WRITE (R245): from a control core only; checked, and dropped while COMMIT is set (R65). A session's request above the
tenant's cap is refused with the configuration-violation event (R96). -/
def execSchParamWrite (writer : Writer) (s : State) : Out :=
  .next <| s.up <| s.coreOnly writer true Reg.SCH_PARAM_CTL_WRITE.off <|
    let i := s.rd (Reg.SCH_PARAM_SEL.forWriter writer)
    let words := (List.range 8).map fun k => s.rd (Reg.SCH_PARAM_DATA.forWriter writer) 0 k
    if writer == .session && !s.withinCap i words then s.violation Reg.SCH_PARAM_CTL_WRITE.off (writerCode writer)
    else if s.bankBit .params BankBit.commit then s.lateWrite .params else (s.wr Reg.SCH_PARAM_CTL_PARAM_ERR 0 0 0).shadowPut .params i words

/-- The eight words of an active entry (R244). -/
def State.paramWords (s : State) (i : Nat) : List Nat := (List.range 8).map (s.paramWord i)

/-- SCH_PARAM_READ (R244). -/
def execSchParamRead (writer : Writer) (s : State) : Out :=
  .next <| s.acts writer Reg.SCH_PARAM_CTL_READ.off <| s.paramData writer (s.paramWords (s.rd (Reg.SCH_PARAM_SEL.forWriter writer)))

/-- A balance in bytes as a 32-bit signed word. -/
def State.liveWord (s : State) (i k : Nat) : Nat := ((s.bucket i k / 256) % (2 ^ 32 : Int)).toNat

/-- SCH_PARAM_READ_LIVE (R244): DW5 to DW7 return live bucket balances. -/
def execSchParamReadLive (writer : Writer) (s : State) : Out :=
  .next <| s.acts writer Reg.SCH_PARAM_CTL_READ_LIVE.off <|
    let i := s.rd (Reg.SCH_PARAM_SEL.forWriter writer)
    let third := if 16384 ≤ i && i < 16640 then s.liveWord i 2 else 0
    s.paramData writer ((s.paramWords i).take 5 ++ [s.liveWord i 0, s.liveWord i 1, third])

end Sys2Proof.Machine
end

