-- ==== Sys2Proof/Machine/Command.lean ====
section
/-!
DEFINITION. Machine/Command.lean: controllers, sessions and the admin commands of the NVMe face (chapter 09).
-/

namespace Sys2Proof.Machine

/-! ### Connect and properties -/

/-- The tenant whose TENANT section lists a host NQN (R250). -/
def State.tenantOfHost (s : State) (nqn : Nat) : Option Nat :=
  match s.cfg.running with
  | some i => (i.tenants.find? fun t => t.hostNqns.contains nqn).map (·.tenantId)
  | none => none

/-- The lowest free controller ID of this canister (R250). -/
def State.freeCtrl (s : State) : Option Nat := tfree s.cmd.ctrls (if s.cfg.canister = 0 then 1 else 0x8001) 0x7FEF

/-- A new controller or session on an admin queue (R250, R254). -/
def Ctrl.fresh (mgmt : Bool) (host tenant qp kato now : Nat) : Ctrl :=
  { mgmt := mgmt, host := host, tenant := tenant, queues := [(0, qp)], enabled := false, ready := false, kato := kato, lastKeep := now, roles := none, challenge := none, authFails := 0, aers := [], aenConfig := 0, numQueues := none, awaitRead := false, cc := 0 }

/-- Complete a Connect: DW0 carries the controller ID. -/
def State.connectReply (s : State) (ctrl cid : Nat) (st : Nat × Nat) : State := (s.complete ctrl cid st ctrl 0).count 109 1 ctrl

/-- Connect on an admin queue (R249 to R251). -/
def State.connectAdmin (s : State) (q : Qp) (qp cid subnqn hostnqn sqsize kato : Nat) : State :=
  let mgmt := subnqn == 1
  if (q.service == 1) != mgmt || sqsize < 2 || 32 < sqsize || kato < 1000 || 3600000 < kato then s.connectReply 0 cid St.connectParams
  else match if mgmt then some 0 else s.tenantOfHost hostnqn with
    | none => s.connectReply 0 cid St.connectHost
    | some tenant => match s.freeCtrl with
      | none => s.connectReply 0 cid St.connectParams
      | some c => ((s.setCtrl c (Ctrl.fresh mgmt hostnqn tenant qp (turnsOfMs kato) s.clock)).ctrlStatus).connectReply c cid St.ok

/-- Connect on an I/O queue of an existing controller (R250, R251). -/
def State.connectIo (s : State) (ctrl qp cid hostnqn qid sqsize : Nat) : State :=
  match s.ctrlOf ctrl with
  | none => s.connectReply ctrl cid St.connectParams
  | some c =>
    if c.mgmt || c.host != hostnqn || !c.ready || qid < 1 || c.numQueues.getD 64 < qid || sqsize < 2 || 1024 < sqsize || c.queues.any (fun x => x.1 == qid) then
      s.connectReply ctrl cid St.connectParams
    else (s.setCtrl ctrl { c with queues := c.queues ++ [(qid, qp)] }).connectReply ctrl cid St.ok

/-- FABRICS_CONNECT (R249 to R251). -/
def execFabricsConnect (qp cid : Nat) (ctrl : Option Nat) (subnqn hostnqn qid sqsize kato : Nat) (s : State) : Out :=
  .next <| match s.qp? qp with
    | none => s
    | some q =>
      if q.st != .rts then s
      else if 1 < subnqn || (s.queueOf qp).isSome then s.connectReply 0 cid St.connectParams
      else match ctrl with
        | none => if qid = 0 then s.connectAdmin q qp cid subnqn hostnqn sqsize kato else s.connectReply 0 cid St.connectParams
        | some c => if subnqn = 0 then s.connectIo c qp cid hostnqn qid sqsize else s.connectReply c cid St.connectParams

/-- Return data words with a command. -/
def State.dataOut (s : State) (ctrl cid : Nat) (words : List Nat) : State := s.emit .data (ctrl :: cid :: words)

/-- The value of a controller property: CAP (its MQES from R251), VS, CC, CSTS; none for another offset. -/
def State.property (s : State) (c : Ctrl) (offset : Nat) : Option Nat :=
  if offset = 0 then some (1023 + 2 ^ 16 * (Config.reported 0x100 0 % 2 ^ 48))
  else if offset = 8 then some (Config.reported 0x100 1 % 2 ^ 32)
  else if offset = 0x14 then some c.cc
  else if offset = 0x1C then some (b2n c.ready + 4 * (if bitsOf c.cc 14 2 = 0 then 0 else 2) + 2 ^ 4 * b2n (s.cfg.state == .boot))
  else none

/-- PROPERTY_GET (R254). -/
def execPropertyGet (ctrl cid offset : Nat) (s : State) : Out :=
  .next <| s.admin (.propertyGet ctrl cid offset) ctrl cid .always fun s =>
    match s.ctrlOf ctrl with
    | none => s
    | some c => match s.property c offset with
      | some v => (s.dataOut ctrl cid [v]).reply ctrl cid St.ok (v % 2 ^ 32) (v / 2 ^ 32)
      | none => s.replyErr ctrl cid St.invalidField

/-- PROPERTY_SET (R275): CC.EN set readies the controller; CC.EN cleared or CC.SHN written resets it. -/
def execPropertySet (ctrl cid offset value : Nat) (s : State) : Out :=
  .next <| s.admin (.propertySet ctrl cid offset value) ctrl cid .always fun s =>
    match s.ctrlOf ctrl with
    | none => s
    | some c =>
      if offset != 0x14 then s.replyErr ctrl cid St.invalidField
      else
        let s := s.setCtrl ctrl { c with cc := value % 2 ^ 32 }
        let on := bitOf value 0
        let s := if c.enabled && !on || bitsOf value 14 2 != 0 then s.resetController ctrl true else s
        let s := if on && bitsOf value 14 2 == 0 then s.modCtrl ctrl fun c => { c with enabled := true, ready := true } else s
        s.replyOk ctrl cid

/-! ### Identify and log pages -/

/-- The namespaces that a controller or session sees (R256). -/
def State.visible (s : State) (c : Ctrl) : List (Nat × Ns) := s.cmd.nss.filter fun p => c.mgmt || p.2.tenant == c.tenant

/-- CSI of a namespace type (R257). -/
def csiOf (type : Nat) : Nat := if type = 1 then 2 else 0

/-- What Identify returns for a CNS, as the fields that the spec names (R257, R260, R264); none for a NSID that is not there. -/
def State.identifyData (s : State) (c : Ctrl) (cns nsid : Nat) : Option (List Nat) :=
  let ns := ((s.visible c).find? fun p => p.1 == nsid).map (·.2)
  if cns = 0 then ns.map fun n => [n.size, n.size, n.lbaSize, b2n (n.type == 2) * 64]
  else if cns = 1 then some [0x1D2B, 12, 3, 0, 2, 1, 1, 10, 1024, 1, 0x66, 0x44, s.cmd.anaState]
  else if cns = 2 then some (((s.visible c).map (·.1)).filter fun n => decide (nsid < n))
  else if cns = 3 then ns.map fun n => [csiOf n.type]
  else if cns = 5 then ns.map fun n => if n.type == 1 then [262144, 4095, 4095] else []
  else some [12]

/-- IDENTIFY (R257, R260, R261, R264). -/
def execIdentify (ctrl cid cns nsid csi : Nat) (s : State) : Out :=
  .next <| s.admin (.identify ctrl cid cns nsid csi) ctrl cid .always (safe := true) fun s =>
    match s.ctrlOf ctrl with
    | none => s
    | some c =>
      if ! [0, 1, 2, 3, 5, 6].contains cns then s.replyErr ctrl cid St.invalidField
      else match s.identifyData c cns nsid with
        | some l => (s.dataOut ctrl cid (cns :: l)).replyOk ctrl cid
        | none => s.replyErr ctrl cid St.invalidNs

/-- A word of the Lost Extent log page (R282): the header's 16 words, then 8 words an entry, at its place in the ring. -/
def State.lostWord (s : State) (d : Nat) : Nat :=
  if d < 16 then
    if d = 0 then s.cmd.lostTotal % 2 ^ 32
    else if d = 1 then s.cmd.lostTotal / 2 ^ 32
    else if d = 2 then s.cmd.lostTotal % 65536
    else if d = 3 then b2n (decide (65536 < s.cmd.lostTotal)) + 2 * s.rd Reg.CMD_DEFER_OVERFLOW
    else 0
  else
    match s.cmd.lost.find? fun e => e.index % 65536 == (d - 16) / 8 with
    | some e => ([e.index % 2 ^ 32, e.nsid, e.lba % 2 ^ 32, e.lba / 2 ^ 32, e.count, e.cause, e.turn % 2 ^ 32, e.turn / 2 ^ 32 % 2 ^ 16]).getD ((d - 16) % 8) 0
    | none => 0

/-- FW_SVN and SEQUENCE of a copy (R263). -/
def copyRevision (c : Option Image) : List Nat :=
  match c with
  | some i => [(i.fw.map FwPackage.svn).getD 0, i.header.sequence]
  | none => [0, 0]

/-- The words of a log page (R263, R282): `dwords` of them from a byte offset on; a page that the spec names without its layout gives
what it says the page holds. -/
def State.logWords (s : State) (c : Ctrl) (lid offset dwords : Nat) : List Nat :=
  if lid = 0xC0 then (List.range dwords).map fun i => s.lostWord (offset / 4 + i)
  else
    let all :=
      if lid = 2 then [(s.cfg.temperature + 273).toNat, tgetD s.cnt.vals 103 0, tgetD s.cnt.vals 104 0]
      else if lid = 3 then (s.cfg.runningCopy + 1) :: s.cfg.spi.flatMap fun x => copyRevision x.image
      else if lid = 4 then s.cmd.changedNs.filter fun n => ((s.nsOf n).map fun x => c.mgmt || x.tenant == c.tenant).getD true
      else if lid = 6 then s.rd Reg.CMD_ST_KIND :: s.rd Reg.CMD_ST_PERCENT :: s.cmd.stResults.flatMap fun r => [r.1, r.2]
      else if lid = 0xC then [1, s.cmd.anaState, s.rd Reg.CMD_ANA_CHANGES]
      else (List.range dwords).map fun i => Config.reported lid (offset / 4 + i)
    if lid = 1 || lid = 5 then all else (all.drop (offset / 4)).take dwords

/-- GET_LOG_PAGE (R263, R282). -/
def execGetLogPage (ctrl cid lid offset dwords : Nat) (s : State) : Out :=
  .next <| s.admin (.getLogPage ctrl cid lid offset dwords) ctrl cid .both fun s =>
    match s.ctrlOf ctrl with
    | none => s
    | some c =>
      if ! [1, 2, 3, 4, 5, 6, 0xC, 0xC0].contains lid then s.replyErr ctrl cid St.badLogPage
      else if offset % 4 != 0 then s.replyErr ctrl cid St.invalidField
      else
        let s := s.dataOut ctrl cid (s.logWords c lid offset dwords)
        let s : State := if lid = 4 then { s with cmd := { s.cmd with changedNs := [] } } else s
        s.replyOk ctrl cid

/-! ### Abort, features, events -/

/-- ABORT (R274): a command that is in the table and not yet admitted. -/
def execAbort (ctrl cid qp target : Nat) (s : State) : Out :=
  .next <| s.admin (.abort ctrl cid qp target) ctrl cid .both fun s =>
    match s.cmd.entries.find? fun p => p.2.io.ctrl == ctrl && p.2.io.qp == qp && p.2.io.cid == target && !p.2.admitted with
    | some p => (s.finish p.1 St.abortRequested 0 0).reply ctrl cid St.ok 0 0
    | none => s.reply ctrl cid St.ok 1 0

/-- SET_FEATURES (R264). -/
def execSetFeatures (ctrl cid fid value : Nat) (save : Bool) (s : State) : Out :=
  .next <| s.admin (.setFeatures ctrl cid fid value save) ctrl cid .both fun s =>
    match s.ctrlOf ctrl with
    | none => s
    | some c =>
      if save then s.replyErr ctrl cid St.notSaveable
      else if fid = 4 then
        let k : Int := (value % 65536 : Nat)
        let sel := bitsOf value 20 2
        if bitsOf value 16 4 != 0 || 1 < sel then s.replyErr ctrl cid St.invalidField
        else
          let s : State := { s with cmd := if sel = 0 then { s.cmd with tempOver := k } else { s.cmd with tempUnder := k } }
          s.replyOk ctrl cid
      else if fid = 7 then
        if c.numQueues.isSome then s.replyErr ctrl cid St.invalidField
        else
          let n := min 64 (min (value % 65536) (value / 65536 % 65536) + 1)
          (s.setCtrl ctrl { c with numQueues := some n }).reply ctrl cid St.ok ((n - 1) * 65537) 0
      else if fid = 0xB then (s.setCtrl ctrl { c with aenConfig := value % 2 ^ 32 }).replyOk ctrl cid
      else s.replyErr ctrl cid St.invalidField

/-- The current value of a feature; none where the feature is not supported (R264). -/
def State.feature (s : State) (c : Ctrl) (fid sel : Nat) : Option Nat :=
  if ! [4, 7, 0xB, 0xF].contains fid then none
  else if sel = 3 then some (if fid = 0xF then 0 else 4)
  else if sel != 0 then some (Config.reported 0x200 fid % 2 ^ 32)
  else if fid = 4 then some (s.cmd.tempOver % 65536).toNat
  else if fid = 7 then some ((c.numQueues.getD 64 - 1) * 65537)
  else if fid = 0xB then some c.aenConfig
  else some (c.kato * 2048 / 1000000)

/-- GET_FEATURES (R264). -/
def execGetFeatures (ctrl cid fid sel : Nat) (s : State) : Out :=
  .next <| s.admin (.getFeatures ctrl cid fid sel) ctrl cid .both fun s =>
    match s.ctrlOf ctrl with
    | none => s
    | some c => match s.feature c fid sel with
      | some v => s.reply ctrl cid St.ok v 0
      | none => s.replyErr ctrl cid St.invalidField

/-- Complete a waiting Asynchronous Event Request of a session whose event queue holds records (R631): DW0 names the GROUP of the
oldest. -/
def State.pumpAer (s : State) (ctrl : Nat) : State :=
  match s.ctrlOf ctrl, tget s.evt.queues ctrl with
  | some c, some q =>
    match c.aers, q.recs with
    | a :: rest, r :: _ =>
      if c.awaitRead then s
      else
        let dw0 := 7 + 2 ^ 8 * (r.ev.source / 32)
        let s := (s.setCtrl ctrl { c with aers := rest, awaitRead := true }).emit .asyncEvent [ctrl, a, dw0]
        if isMailbox ctrl then s.mailboxPost a St.ok dw0 0 else s
    | _, _ => s
  | _, _ => s

/-- ASYNC_EVENT_REQUEST (R261, R631): up to four are outstanding. -/
def execAsyncEventRequest (ctrl cid : Nat) (s : State) : Out :=
  .next <| s.admin (.asyncEventRequest ctrl cid) ctrl cid .both fun s =>
    match s.ctrlOf ctrl with
    | none => s
    | some c =>
      if 4 ≤ c.aers.length then s.replyErr ctrl cid St.invalidField
      else (s.setCtrl ctrl { c with aers := c.aers ++ [cid] }).pumpAer ctrl

/-! ### Namespaces -/

/-- Report a namespace change to the controllers of its tenant that enabled the notice (R264). -/
def State.nsNotice (s : State) (nsid tenant : Nat) : State :=
  let s : State := { s with cmd := { s.cmd with changedNs := if s.cmd.changedNs.contains nsid then s.cmd.changedNs else s.cmd.changedNs ++ [nsid] } }
  s.asyncNotice 8 (2 + 2 ^ 16 * 4) fun _ c => !c.mgmt && c.tenant == tenant

/-- Store a namespace, and keep it in the shelf metadata stream (R97). -/
def State.putNs (s : State) (nsid : Nat) (n : Ns) : State :=
  (({ s with cmd := { s.cmd with nss := tset s.cmd.nss nsid n } } : State).mdWrite (.record (.namespaceRec nsid n.type n.lbaSize n.size n.tenant))).nsNotice nsid n.tenant

/-- The namespace slots that the running image declares. -/
def State.nsSlots (s : State) : List SecNamespace :=
  match s.cfg.running with
  | some i => i.namespaces
  | none => []

/-- Does a canister that is not ACTIVE refuse a change of the shelf's stored state? -/
def State.ifActive (s : State) (ctrl cid : Nat) (t : State) : State := if s.cfg.state == .active then t else s.replyErr ctrl cid St.denied

/-- NAMESPACE_CREATE (R96, R261): the lowest free declared slot whose TYPE matches the command set and format. -/
def execNamespaceCreate (ctrl cid csi lbaSize size : Nat) (s : State) : Out :=
  .next <| s.admin (.namespaceCreate ctrl cid csi lbaSize size) ctrl cid (.mgmt (some RoleBit.admin)) fun s =>
    s.ifActive ctrl cid <|
      let fits := s.nsSlots.filter fun n => csiOf n.nsType == csi && n.lbaSize == lbaSize && (s.nsOf n.nsid).isNone
      let low := fits.foldl (init := none) fun (a : Option SecNamespace) n => match a with
        | some m => if n.nsid < m.nsid then some n else a
        | none => some n
      match low with
      | none => s.outOfBound ctrl cid 9
      | some n =>
        if size = 0 || n.maxCap < size then s.outOfBound ctrl cid 9
        else (s.putNs n.nsid { type := n.nsType, lbaSize := lbaSize, size := size, tenant := n.tenant }).reply ctrl cid St.ok n.nsid 0

/-- Clear MAPPED for every extent of a namespace from an extent on, in one MAP record (R262, R459). -/
def State.unmapAll (s : State) (nsid first : Nat) : State :=
  let exts := (s.lay.map.filter fun p => p.1 / 2 ^ 64 == nsid && p.2.mapped && decide (first ≤ p.1 % 2 ^ 64)).map fun p => p.1 % 2 ^ 64
  let (s, ds) := exts.foldl (init := (s, [])) fun a x => let r := a.1.unmap nsid x 0; (r.1, a.2 ++ [r.2])
  if ds = [] then s else s.mapRecord 0 ds

/-- NAMESPACE_DELETE (R205, R261, R286): the slot is empty, its windows are revoked, its extents unmapped, a test of it aborted. -/
def execNamespaceDelete (ctrl cid nsid : Nat) (s : State) : Out :=
  .next <| s.admin (.namespaceDelete ctrl cid nsid) ctrl cid (.mgmt (some RoleBit.admin)) fun s =>
    s.ifActive ctrl cid <|
      match s.nsOf nsid with
      | none => s.replyErr ctrl cid St.invalidNs
      | some n =>
        let s := s.revokeWhere fun d => !d.buffer && d.nsid == nsid
        let s := match s.cmd.selfTest with
          | some t => if t.nsid == nsid then s.endSelfTest 3 0 else s
          | none => s
        let s := s.unmapAll nsid 0
        let zones := s.cmd.zones.filter fun p => p.1 / 2 ^ 32 != nsid
        let s : State := { s with cmd := { s.cmd with nss := tdel s.cmd.nss nsid, zones := zones }, cph := { s.cph with current := tdel s.cph.current nsid } }
        ((s.mdWrite (.record (.namespaceRec nsid n.type n.lbaSize 0 n.tenant))).nsNotice nsid n.tenant).replyOk ctrl cid

/-- NAMESPACE_RESIZE (R96, R261, R289): within MAX_CAP; growth beyond it fails with Capacity Exceeded. -/
def execNamespaceResize (ctrl cid nsid size : Nat) (s : State) : Out :=
  .next <| s.admin (.namespaceResize ctrl cid nsid size) ctrl cid (.mgmt (some RoleBit.admin)) fun s =>
    s.ifActive ctrl cid <|
      match s.nsOf nsid, s.nsSlots.find? fun n => n.nsid == nsid with
      | none, _ => s.replyErr ctrl cid St.invalidNs
      | some n, slot =>
        let cap := (slot.map (·.maxCap)).getD 0
        if size = 0 then s.outOfBound ctrl cid 9
        else if cap < size then (s.violation (9 * 0x100000) 2).replyErr ctrl cid St.capacity
        else
          let s := if size < n.size then s.unmapAll nsid (ceilDiv size 256) else s
          (s.putNs nsid { n with size := size }).replyOk ctrl cid

/-! ### Self-test -/

/-- Start a self-test (R283): one at a time, on the ACTIVE canister only. -/
def State.startTest (s : State) (ctrl cid kind nsid : Nat) (more : State → State) : State :=
  if s.cfg.state != .active then s.replyErr ctrl cid St.denied
  else if s.cmd.selfTest.isSome then s.replyErr ctrl cid St.selfTestBusy
  else if nsid != 0xFFFFFFFF && nsid != 0 && (s.nsOf nsid).isNone then s.replyErr ctrl cid St.invalidNs
  else
    let n := if nsid = 0xFFFFFFFF then 2047 else nsid
    let s : State := { s with cmd := { s.cmd with selfTest := some { kind := kind, nsid := n, ctrl := ctrl, paused := false } } }
    let s := ((s.wr Reg.CMD_ST_KIND 0 0 kind).wr Reg.CMD_ST_PERCENT 0 0 0).wr Reg.CMD_ST_NSID 0 0 n
    (more s).replyOk ctrl cid

/-- SELF_TEST_SHORT (R284). -/
def execSelfTestShort (ctrl cid nsid : Nat) (s : State) : Out :=
  .next <| s.admin (.selfTestShort ctrl cid nsid) ctrl cid (.mgmt (some RoleBit.admin)) fun s => s.startTest ctrl cid 1 nsid id

/-- A walk that has not read a row yet (R285, R494). -/
def Walk.fresh (turn : Nat) : Walk :=
  { row := 0, done := 0, startTurn := turn, lostCols := 0, issued := false, paused := false }

/-- Start the scrubs of an extended test (R285): of a tally namespace its group, else of every native group, or of all. -/
def State.startScrubs (s : State) (nsid : Nat) : State :=
  let wanted := fun g =>
    let x := s.grp g
    x.declared && (nsid == 0xFFFFFFFF || (if (s.nsOf nsid).any (fun n => n.type == 2) then x.tally && x.nsid == nsid else !x.tally))
  foldIdx 10 (fun g s => if wanted g then { s with axl := { s.axl with scrubs := tset s.axl.scrubs g (Walk.fresh s.now) } } else s) s

/-- SELF_TEST_EXTENDED (R285). -/
def execSelfTestExtended (ctrl cid nsid : Nat) (s : State) : Out :=
  .next <| s.admin (.selfTestExtended ctrl cid nsid) ctrl cid (.mgmt (some RoleBit.admin)) fun s =>
    s.startTest ctrl cid 2 nsid fun s => s.startScrubs nsid

/-- Drop the scrubs of a test that ends. -/
def State.dropScrubs (s : State) : State := { s with axl := { s.axl with scrubs := [] } }

/-- SELF_TEST_ABORT (R283): STC Fh aborts the test that is running, if one is. -/
def execSelfTestAbort (ctrl cid : Nat) (s : State) : Out :=
  .next <| s.admin (.selfTestAbort ctrl cid) ctrl cid (.mgmt (some RoleBit.admin)) fun s => ((s.endSelfTest 1 0).dropScrubs).replyOk ctrl cid

/-- SELF_TEST_DONE (R284, R286): result 0, or 7 with the failing segment; an extended test ends once its scrubs have. -/
def execSelfTestDone (failed : Option Nat) (s : State) : Out :=
  .next <| match s.cmd.selfTest with
    | some t =>
      if t.paused || (t.kind == 2 && s.axl.scrubs != []) then s
      else match failed with
        | some n => if t.kind == 1 then s.endSelfTest 7 n else s.endSelfTest 0 0
        | none => s.endSelfTest 0 0
    | none => s

/-! ### Keep Alive and authentication -/

/-- KEEP_ALIVE (R275, R277): answered in every device state. -/
def execKeepAlive (ctrl cid : Nat) (s : State) : Out :=
  .next <| s.admin (.keepAlive ctrl cid) ctrl cid .always (held := false) fun s =>
    (s.modCtrl ctrl fun c => { c with lastKeep := s.clock }).replyOk ctrl cid

/-- KEEP_ALIVE_EXPIRY (R275, R290). -/
def execKeepAliveExpiry (ctrl : Nat) (s : State) : Out :=
  .next <| match s.ctrlOf ctrl with
    | some c => if !isMailbox ctrl && expired c.lastKeep c.kato s.clock then (s.raise Ev.keepAliveExpired Sev.warning ctrl 0 0 0).resetController ctrl true else s
    | none => s

/-- GET_CHALLENGE (R255): a fresh challenge replaces any earlier one. -/
def execGetChallenge (ctrl cid : Nat) (s : State) : Out :=
  .next <| s.admin (.getChallenge ctrl cid) ctrl cid .mgmtOpen fun s =>
    let (r, s) := s.draw
    let v := r % 2 ^ 256
    ((s.modCtrl ctrl fun c => { c with challenge := some v }).dataOut ctrl cid [v]).replyOk ctrl cid

/-- What a principal signs to authenticate (R255). -/
def State.sessionDigest (s : State) (ctrl challenge : Nat) : List Byte :=
  leBytes 64 (Config.shake256 (ascii "LXSESS" ++ leBytes 16 s.deviceId ++ leBytes 32 challenge ++ leBytes 2 ctrl) 64)

/-- The queue pair of a controller's admin queue. -/
def Ctrl.adminQp (c : Ctrl) : Option Nat := (c.queues.find? fun q => q.1 == 0).map (·.2)

/-- Authentication failed (R255, R611): the third failure moves the connection to ERR, or locks the mailbox out. -/
def State.authFailed (s : State) (ctrl cid principal : Nat) (c : Ctrl) : State :=
  let s := s.raise Ev.authenticationFailed Sev.warning ctrl 0 principal (c.authFails + 1)
  let s := (s.setCtrl ctrl { c with authFails := c.authFails + 1 }).replyErr ctrl cid St.accessDenied
  if c.authFails + 1 < 3 then s
  else if isMailbox ctrl then ({ s with sep := { s.sep with locked := true } } : State).raise Ev.mailboxLockout Sev.warning 0 0 0 0
  else match c.adminQp with
    | some qp => s.qpToErr qp 4 false
    | none => s

/-- AUTHENTICATE (R255). -/
def execAuthenticate (ctrl cid principal signature : Nat) (s : State) : Out :=
  .next <| s.admin (.authenticate ctrl cid principal signature) ctrl cid .mgmtOpen fun s =>
    match s.ctrlOf ctrl with
    | none => s
    | some c =>
      let role := match s.cfg.running with
        | some i => i.roles[principal % 64]?
        | none => none
      match c.challenge, role with
      | some ch, some (pub, mask) =>
        if Config.edVerify pub (s.sessionDigest ctrl ch) signature then
          let s := s.setCtrl ctrl { c with roles := some mask, challenge := none }
          let s : State := if thas s.evt.queues ctrl then s else { s with evt := { s.evt with queues := tset s.evt.queues ctrl { recs := [], overwritten := 0 } } }
          s.ctrlStatus.replyOk ctrl cid
        else s.authFailed ctrl cid principal c
      | _, _ => s.authFailed ctrl cid principal c

end Sys2Proof.Machine
end

