-- ==== Sys2Proof/Machine/CmdIo.lean ====
section
/-!
DEFINITION. Machine/CmdIo.lean: the arrival of I/O commands (chapter 09): the gate of ANA, namespace and marker, the checks that need
no earlier command's outcome, the commit of window data (R214 to R216), and zones (R260).
-/

namespace Sys2Proof.Machine

/-! ### Zones -/

/-- Statuses of the zoned command set that R260 and R289 cover. -/
abbrev St.tooManyActive : Nat × Nat := (1, 0xBD)
abbrev St.tooManyOpen : Nat × Nat := (1, 0xBE)

/-- Open a zone, explicitly or by a write (R260): at most 4,096 zones are active and open; an open beyond that closes the lowest zone
that is only implicitly open. -/
def State.openZone (s : State) (nsid z : Nat) (explicit : Bool) : Except (Nat × Nat) State :=
  let x := s.zone nsid z
  let zs := s.zonesOf nsid
  let active := (zs.filter fun p => p.2.isOpen || p.2.st == .closed).length
  let opened := (zs.filter fun p => p.2.isOpen).length
  let put := fun (s : State) => s.setZone nsid z { x with st := if explicit then .explicitOpen else .implicitOpen }
  if x.st == .full then .error St.zoneTransition
  else if x.isOpen then .ok (if explicit then put s else s)
  else if x.st == .empty && decide (4096 ≤ active) then .error St.tooManyActive
  else if opened < 4096 then .ok (put s)
  else match zs.find? fun p => p.2.st == .implicitOpen with
    | some (y, v) => .ok (put (s.setZone nsid y { v with st := .closed }))
    | none => .error St.tooManyOpen

/-- The write pointer of a zone after `n` LBAs have been written at it: at its capacity the zone is Full. -/
def State.advanceZone (s : State) (nsid z n : Nat) : State :=
  let x := s.zone nsid z
  s.setZone nsid z (if zoneLbas ≤ x.wp + n then { x with st := .full, wp := zoneLbas } else { x with wp := x.wp + n })

/-! ### The gate of I/O commands -/

/-- Complete an I/O command that never entered the table (R289), counted by its kind and its status. -/
def State.ioEnd (s : State) (io : Io) (kind : CmdKind) (st : Nat × Nat) (dw0 : Nat) : State :=
  let s := s.complete io.ctrl io.cid st dw0 0
  let s := match kind.counter with
    | some c => s.count c 1 io.nsid
    | none => s
  if st == St.anaTransition then s.count 110 1 io.nsid
  else if st == St.deferredWrite then s.count 108 1 io.nsid
  else s

/-- Fail an I/O command at its arrival. -/
def State.ioFail (s : State) (io : Io) (kind : CmdKind) (st : Nat × Nat) : State := s.ioEnd io kind st 0

/-- An I/O command arrives on a queue of a ready controller (R253, R287): a full table leaves it in the receive ring, and the ANA
state may fail it. -/
def State.ioArrive (s : State) (i : Instr) (io : Io) (kind : CmdKind) (run : Ctrl → State → State) : State :=
  match s.ctrlOf io.ctrl with
  | none => s
  | some c =>
    let rts := match s.qp? io.qp with
      | some q => q.st == .rts
      | none => false
    if c.mgmt || !c.ready || !rts || !(c.queues.any fun q => q.2 == io.qp && decide (1 ≤ q.1)) then s
    else if 131072 ≤ s.cmd.entries.length then
      (s.raiseLim lim19 0 Ev.commandTableFull Sev.warning 0 0 s.cmd.entries.length 0).defer (.command i)
    else match s.anaStatus with
      | some st => s.ioFail io kind st
      | none => run c s

/-- The namespace of an I/O command: attached (R289), and with no deferred marker for this host (R280). -/
def State.ioNs (s : State) (io : Io) (kind : CmdKind) (c : Ctrl) (run : Ns → State → State) : State :=
  match s.attached io.ctrl io.nsid with
  | none => s.ioFail io kind St.invalidNs
  | some n => match s.takeMarker c.host io.nsid with
    | some (index, s) => s.ioEnd io kind St.deferredWrite index
    | none => run n s

/-- An I/O command on a namespace: arrival, namespace, marker. -/
def State.ioCmd (s : State) (i : Instr) (io : Io) (kind : CmdKind) (run : Ctrl → Ns → State → State) : State :=
  s.ioArrive i io kind fun c s => s.ioNs io kind c fun n s => run c n s

/-- A command as the table takes it (R253). -/
def CmdEnt.fresh (io : Io) (kind : CmdKind) (data : DataPtr) (host arrival length : Nat) : CmdEnt :=
  { io := io, kind := kind, data := data, host := host, arrival := arrival, length := length, ranges := [], selectAll := false, locked := false, admitted := false, waitedLock := false, waitedCap := false, waitedBlack := false, pulled := 0, pending := [], reading := [], resultLba := 0, out := [], status := St.ok, done := false, discard := false, replica := none }

/-- The sequence number that the next command takes (R253): the model numbers them from 1. -/
def State.nextSeq (s : State) : Nat := s.cmd.nextSeq + 1

/-- A command enters the table (R253). -/
def State.ioEnter (s : State) (e : CmdEnt) : State :=
  ({ s with cmd := { s.cmd with nextSeq := s.nextSeq, entries := tset s.cmd.entries s.nextSeq e } } : State).cmdStatus

/-- The largest transfer in bytes (R260: ZASL, equal to MDTS). -/
abbrev maxTransfer : Nat := 16 * 2 ^ 20

/-- Does an LBA range lie outside a namespace, or name nothing? -/
def Ns.outside (n : Ns) (slba nlb : Nat) : Bool := nlb = 0 || decide (n.size < slba + nlb)

/-- What is wrong with a keyed descriptor for `bytes` bytes (R252, R289). -/
def dataFault (d : DataPtr) (bytes : Nat) : Option (Nat × Nat) :=
  match d with
  | .keyed _ _ n => if n = bytes then none else some St.sglLength
  | .window _ _ _ _ => some St.sglType
  | .other => some St.sglType

/-- The first fault of a transfer of LBAs (R252, R260, R289). -/
def Ns.transferFault (n : Ns) (io : Io) (data : DataPtr) : Option (Nat × Nat) :=
  if maxTransfer < io.nlb * n.lbaSize then some St.invalidField
  else match dataFault data (io.nlb * n.lbaSize) with
    | some st => some st
    | none => if n.outside io.slba io.nlb then some St.lbaRange else none

/-- Does a write of a range end beyond the capacity of its zone (R260)? -/
def crossesZone (slba nlb : Nat) : Bool := decide (zoneLbas < slba % zoneLbas + nlb)

/-! ### Window commits -/

/-- The first check of R215 that a commit fails, with its status. -/
def State.commitStatus (s : State) (q : Qp) (io : Io) (n : Ns) (offset length rkey : Nat) : Option (Nat × Nat) :=
  let d := s.window (keyIndex rkey)
  if (d.fault5 q rkey).isSome then some St.accessDenied
  else if d.buffer then some St.sglType
  else if io.nsid != d.nsid then some St.invalidField
  else if offset % 4096 != 0 || decide (d.length * 65536 ≤ offset) then some St.sglOffset
  else if length != io.nlb * 4096 || decide (d.length * 65536 < offset + length) then some St.sglLength
  else if n.type = 2 then some St.invalidField
  else none

/-- Ownership of the blocks that a commit touches passes to its command (R216). -/
def State.ownCommitted (s : State) (seq nsid w offset length : Nat) : State :=
  let last := (offset + length - 1) / 65536
  { s with win := { s.win with blocks := s.win.blocks.map fun p =>
      match p.2.window, p.2.owner with
      | some (x, b), none =>
        if x = w && decide (offset / 65536 ≤ b) && decide (b ≤ last) then
          (p.1, { p.2 with owner := some { seq := seq, nsid := nsid, extent := unplacedExtent, index := b, firstSector := 0, sectors := 16 } })
        else p
      | _, _ => p } }

/-- A Write or Zone Append that names a window (R214 to R216, R257, R271). -/
def State.commitWindow (s : State) (c : Ctrl) (n : Ns) (io : Io) (append : Bool) (offset length rkey : Nat) : State :=
  let kind : CmdKind := if append then .zoneAppend else .write
  match s.qp? io.qp with
  | none => s
  | some q =>
    if append && n.type = 0 then s.ioFail io kind St.invalidOpcode
    else match s.commitStatus q io n offset length rkey with
      | some st => s.ioFail io kind st
      | none =>
        if !append && n.type = 1 then s.ioFail io kind St.sglType
        else if maxTransfer < length then s.ioFail io kind St.invalidField
        else if append && io.slba % zoneLbas != 0 then s.ioFail io kind St.invalidField
        else if n.outside io.slba io.nlb then s.ioFail io kind St.lbaRange
        else
          let e := CmdEnt.fresh io kind (.window offset length rkey true) c.host s.now length
          let seq := s.nextSeq
          (s.ioEnter e).ownCommitted seq io.nsid (keyIndex rkey) offset length

/-- WINDOW_COMMIT (R214 to R216). -/
def execWindowCommit (io : Io) (append : Bool) (offset length rkey : Nat) (s : State) : Out :=
  .next <| s.up <| s.ioCmd (.windowCommit io append offset length rkey) io (if append then .zoneAppend else .write) fun c n s =>
    s.commitWindow c n io append offset length rkey

/-! ### Reads and writes -/

/-- NVM_READ (R252, R253, R257, R262). -/
def execNvmRead (io : Io) (data : DataPtr) (s : State) : Out :=
  .next <| s.up <| s.ioCmd (.nvmRead io data) io .read fun c n s =>
    match n.transferFault io data with
    | some st => s.ioFail io .read st
    | none => s.ioEnter (CmdEnt.fresh io .read data c.host s.now (io.nlb * n.lbaSize))

/-- NVM_WRITE (R252, R253, R257, R260): a keyed Write; a window descriptor makes it a commit. -/
def execNvmWrite (io : Io) (data : DataPtr) (s : State) : Out :=
  .next <| s.up <| s.ioCmd (.nvmWrite io data) io .write fun c n s =>
    match data with
    | .window offset length rkey ok => if ok then s.commitWindow c n io false offset length rkey else s.ioFail io .write St.sglType
    | .keyed _ _ _ | .other =>
      match n.transferFault io data with
      | some st => s.ioFail io .write st
      | none =>
        if n.type = 1 && crossesZone io.slba io.nlb then s.ioFail io .write St.zoneBoundary
        else s.ioEnter (CmdEnt.fresh io (if n.type = 2 then .tallyWrite else .write) data c.host s.now (io.nlb * n.lbaSize))

/-- ZONE_APPEND (R257, R259, R260, R271): to a zone named by its first LBA. -/
def execZoneAppend (io : Io) (data : DataPtr) (s : State) : Out :=
  .next <| s.up <| s.ioCmd (.zoneAppend io data) io .zoneAppend fun c n s =>
    if n.type = 2 then s.ioFail io .zoneAppend St.invalidField
    else if n.type != 1 then s.ioFail io .zoneAppend St.invalidOpcode
    else match data with
      | .window offset length rkey ok => if ok then s.commitWindow c n io true offset length rkey else s.ioFail io .zoneAppend St.sglType
      | .keyed _ _ _ | .other =>
        match n.transferFault io data with
        | some st => s.ioFail io .zoneAppend st
        | none =>
          if io.slba % zoneLbas != 0 then s.ioFail io .zoneAppend St.invalidField
          else s.ioEnter (CmdEnt.fresh io .zoneAppend data c.host s.now (io.nlb * 4096))

/-- Does a Flush of every namespace meet a marker: that of the lowest NSID attached that has one (R280)? -/
def State.lowestMarker (s : State) (c : Ctrl) (ctrl : Nat) : Option Nat :=
  (s.cmd.nss.find? fun p => (s.attached ctrl p.1).isSome && s.cmd.markers.any fun m => m.1 == c.host && m.2.1 == p.1).map (·.1)

/-- A Flush enters the table admitted, unless admission is held for an activation (R102, R273); it completes at once where it waits for
nothing. -/
def State.enterFlush (s : State) (c : Ctrl) (io : Io) : State :=
  (s.ioEnter { CmdEnt.fresh io .flush .other c.host s.now 0 with admitted := s.cfg.state == .active }).settleFlushes

/-- FLUSH (R273, R280): NSID FFFFFFFFh means every namespace attached to the controller. -/
def execFlush (io : Io) (s : State) : Out :=
  .next <| s.up <| s.ioArrive (.flush io) io .flush fun c s =>
    if io.nsid = 0xFFFFFFFF then
      match (match (s.lowestMarker c io.ctrl).bind fun n => s.takeMarker c.host n with
          | some r => some r
          | none => s.takeMarker c.host 0xFFFFFFFF) with
      | some (index, s) => s.ioEnd io .flush St.deferredWrite index
      | none => s.enterFlush c io
    else s.ioNs io .flush c fun _ s => s.enterFlush c io

/-! ### Writes without data -/

/-- The whole extents within an LBA range (R258, R262). -/
def wholeExtents (slba nlb : Nat) : List Nat :=
  let a := ceilDiv slba 256
  let b := (slba + nlb) / 256
  (List.range (b - a)).map (· + a)

/-- The LBA ranges that a range takes of extents it covers only in part (R262). -/
def partialRanges (slba nlb : Nat) : List (Nat × Nat) :=
  let a := ceilDiv slba 256 * 256
  let b := (slba + nlb) / 256 * 256
  if b < a then [(slba, nlb)]
  else ([(slba, a - slba), (b, slba + nlb - b)]).filter fun r => r.2 != 0

/-- WRITE_ZEROES (R257, R259, R262, R265). -/
def execWriteZeroes (io : Io) (s : State) : Out :=
  .next <| s.up <| s.ioCmd (.writeZeroes io) io .writeZeroes fun c n s =>
    if n.type = 2 then s.ioFail io .writeZeroes St.invalidField
    else if n.outside io.slba io.nlb then s.ioFail io .writeZeroes St.lbaRange
    else if n.type = 1 && crossesZone io.slba io.nlb then s.ioFail io .writeZeroes St.zoneBoundary
    else s.ioEnter (CmdEnt.fresh io .writeZeroes .other c.host s.now (((partialRanges io.slba io.nlb).map (·.2)).sum * 4096))

/-- DATASET_MANAGEMENT (R257, R259, R262): Deallocate only, at most 256 ranges. -/
def execDatasetManagement (io : Io) (deallocate : Bool) (ranges : List (Nat × Nat)) (s : State) : Out :=
  .next <| s.up <| s.ioCmd (.datasetManagement io deallocate ranges) io .deallocate fun c n s =>
    if n.type = 2 || !deallocate || decide (256 < ranges.length) then s.ioFail io .deallocate St.invalidField
    else if ranges.any fun r => decide (n.size < r.1 + r.2) then s.ioFail io .deallocate St.lbaRange
    else s.ioEnter { CmdEnt.fresh io .deallocate .other c.host s.now 0 with ranges := ranges.filter fun r => r.2 != 0 }

/-! ### Zone management -/

/-- A Zone Management Send enters the table (R257, R260): a single zone is named by its first LBA. -/
def State.zoneSend (s : State) (i : Instr) (io : Io) (kind : CmdKind) (selectAll : Bool) : State :=
  s.ioCmd i io kind fun c n s =>
    if n.type = 2 then s.ioFail io kind St.invalidField
    else if n.type != 1 then s.ioFail io kind St.invalidOpcode
    else if !selectAll && io.slba % zoneLbas != 0 then s.ioFail io kind St.invalidField
    else if !selectAll && decide (n.size ≤ io.slba) then s.ioFail io kind St.lbaRange
    else s.ioEnter { CmdEnt.fresh io kind .other c.host s.now 0 with selectAll := selectAll }

/-- ZONE_CLOSE (R260). -/
def execZoneClose (io : Io) (selectAll : Bool) (s : State) : Out := .next <| s.up <| s.zoneSend (.zoneClose io selectAll) io .zoneClose selectAll

/-- ZONE_FINISH (R260, R271). -/
def execZoneFinish (io : Io) (selectAll : Bool) (s : State) : Out := .next <| s.up <| s.zoneSend (.zoneFinish io selectAll) io .zoneFinish selectAll

/-- ZONE_OPEN (R260). -/
def execZoneOpen (io : Io) (selectAll : Bool) (s : State) : Out := .next <| s.up <| s.zoneSend (.zoneOpen io selectAll) io .zoneOpen selectAll

/-- ZONE_RESET (R260, R271). -/
def execZoneReset (io : Io) (selectAll : Bool) (s : State) : Out := .next <| s.up <| s.zoneSend (.zoneReset io selectAll) io .zoneReset selectAll

/-- The reporting option that names a zone's state (0 names every zone). -/
def ZoneState.reportOption : ZoneState → Nat
  | .empty => 1
  | .implicitOpen => 2
  | .explicitOpen => 3
  | .closed => 4
  | .full => 5

/-- The zone report from a zone on (R260): the number of zones, then zone number, state and write pointer of each zone that the
option selects. -/
def State.zoneReport (s : State) (nsid first zones option : Nat) : List Nat :=
  let all := ((List.range (zones - first)).map fun i => (first + i, s.zone nsid (first + i))).filter fun p => option = 0 || p.2.st.reportOption = option
  all.length :: all.flatMap fun p => [p.1, p.2.st.reportOption, p.1 * zoneLbas + p.2.wp]

/-- ZONE_MANAGEMENT_RECEIVE (R260): Report Zones; a Partial Report counts the zones that it returns, which are all of them here. -/
def execZoneManagementReceive (io : Io) (option : Nat) (isPartial : Bool) (s : State) : Out :=
  .next <| s.up <| s.ioCmd (.zoneManagementReceive io option isPartial) io .zoneOpen fun _ n s =>
    if n.type = 2 then s.ioFail io .zoneOpen St.invalidField
    else if n.type != 1 then s.ioFail io .zoneOpen St.invalidOpcode
    else if 7 < option then s.ioFail io .zoneOpen St.invalidField
    else if n.size ≤ io.slba then s.ioFail io .zoneOpen St.lbaRange
    else (s.dataOut io.ctrl io.cid (s.zoneReport io.nsid (io.slba / zoneLbas) (ceilDiv n.size zoneLbas) option)).ioEnd io .zoneOpen St.ok 0

end Sys2Proof.Machine
end

