-- ==== Sys2Proof/Machine/CmdAdmit.lean ====
section
/-!
DEFINITION. Machine/CmdAdmit.lean: COMMAND_ADMIT (R265 to R271): range locks, the in-flight cap and the holds, and what an admitted
command starts: reads of versions, versions to be gathered, map changes, zone transitions and tally jobs.
-/

namespace Sys2Proof.Machine

/-! ### Range locks -/

/-- The whole extents that an LBA range touches, as first extent and count. -/
def touched (slba nlb : Nat) : Nat × Nat := (slba / 256, (slba + nlb - 1) / 256 + 1 - slba / 256)

/-- The contiguous extent ranges that a command takes (R267): an append's begin at its zone's write pointer (R271). -/
def State.lockRanges (s : State) (e : CmdEnt) : List (Nat × Nat) :=
  match e.kind with
  | .read | .write | .writeZeroes | .tallyWrite => [touched e.io.slba e.io.nlb]
  | .zoneAppend => [touched (if e.locked then e.resultLba else e.io.slba + (s.zone e.io.nsid (e.io.slba / zoneLbas)).wp) e.io.nlb]
  | .deallocate => e.ranges.map fun r => touched r.1 r.2
  | .reseal => e.ranges.map fun r => touched r.1 r.2
  | .zoneReset | .zoneFinish =>
    if e.selectAll then [(0, (((s.nsOf e.io.nsid).map (·.size)).getD 0 + 255) / 256)] else [(e.io.slba / 256, zoneLbas / 256)]
  | .flush | .zoneClose | .zoneOpen => []

/-- Do two extent ranges share an extent? -/
def overlaps (a b : Nat × Nat) : Bool := decide (a.1 < b.1 + b.2) && decide (b.1 < a.1 + a.2)

/-- Must a command wait for an earlier one (R268)? -/
def State.conflicts (s : State) (later earlier : CmdEnt) : Bool :=
  later.io.nsid == earlier.io.nsid &&
    (earlier.kind.writeClass || earlier.kind == .reseal || earlier.kind == .read && later.kind != .read && (earlier.locked || !earlier.admitted)) &&
    (s.lockRanges later).any fun a => (s.lockRanges earlier).any fun b => overlaps a b

/-- Does an earlier command that this one overlaps still run (R268)? Two appends to one zone also keep their order (R271). -/
def State.mustWait (s : State) (seq : Nat) (e : CmdEnt) : Bool :=
  s.cmd.entries.any fun p =>
    decide (p.1 < seq) &&
      (s.conflicts e p.2 || e.kind == .zoneAppend && p.2.kind == .zoneAppend && !p.2.admitted && p.2.io.nsid == e.io.nsid && p.2.io.slba == e.io.slba)

/-- Take a command's lock entries (R267); none where the table lacks them, or an earlier command waits for entries (R270). -/
def State.takeLocks (s : State) (seq : Nat) (e : CmdEnt) : Option State :=
  if e.locked then some s
  else
    let rs := s.lockRanges e
    let queued := s.cmd.entries.any fun p => decide (p.1 < seq) && !p.2.locked && !p.2.admitted && p.2.waitedLock
    if queued || decide (4096 < s.cmd.locks.length + rs.length) then none
    else
      let base := match e.kind, rs with
        | .zoneAppend, _ => e.io.slba + (s.zone e.io.nsid (e.io.slba / zoneLbas)).wp
        | _, _ => 0
      let new := rs.map fun r => ({ nsid := e.io.nsid, first := r.1, count := r.2, seq := seq, write := e.kind != .read } : LockEnt)
      let s : State := { s with cmd := { s.cmd with locks := s.cmd.locks ++ new } }
      some ((s.setEntry seq { e with locked := true, resultLba := base }).cmdStatus)

/-- A command waits for lock entries or for an overlapped command: counted once. -/
def State.waitLock (s : State) (seq : Nat) (e : CmdEnt) : State :=
  if e.waitedLock then s else (s.modEntry seq fun e => { e with waitedLock := true }).count 105 1 e.io.nsid

/-- The lock table lacks the entries that a command needs (R270). -/
def State.lockShort (s : State) (seq : Nat) (e : CmdEnt) : State :=
  ((s.waitLock seq e).wr Reg.CMD_STATUS_LOCK_FULL 0 0 1).raiseLim lim19 0 Ev.rangeLockFull Sev.warning 0 0 s.cmd.locks.length 0

/-! ### Ending commands -/

/-- An admitted read has every extent (R252): its data and its completion. -/
def State.completeRead (s : State) (seq : Nat) : State :=
  match s.entry seq with
  | some e =>
    if e.kind == .read && e.admitted && e.reading.isEmpty then
      let bytes := memReadList e.out 0 e.length
      let s := if e.discard then s else (s.dataOut e.io.ctrl e.io.cid (bytes.map (·.toNat))).count 103 e.length e.io.nsid
      s.finish seq St.ok 0 0
    else s
  | none => s

/-- An extent (or tally row) of a read has been delivered. -/
def State.extentRead (s : State) (seq x : Nat) : State :=
  (s.modEntry seq fun e => { e with reading := e.reading.filter (· != x) }).completeRead seq

/-- End the reads that a command has under way, their readers and their decodes. -/
def State.endReads (s : State) (seq : Nat) : State :=
  let s := (s.lay.reads.filter fun p => p.2.seq == seq && seq != 0).foldl (fun s p => s.endRead p.1) s
  { s with cmp := { s.cmp with jobs := s.cmp.jobs.filter fun p => p.2.seq != seq || seq == 0 } }

/-- Fail an admitted command: what it had under way ends. -/
def State.failCmd (s : State) (seq : Nat) (st : Nat × Nat) : State :=
  let s := s.endReads seq
  let s : State := { s with lay := { s.lay with gathering := s.lay.gathering.filter fun y => y.seq != seq || seq == 0 }, jnl := { s.jnl with tallies := s.jnl.tallies.filter fun t => t.seq != seq || t.record.isSome } }
  s.finish seq st 0 0

/-! ### Reads -/

/-- The subscriber queue of a command's QP. -/
def State.cmdQueue (s : State) (e : CmdEnt) : Option Nat := (s.qp? e.io.qp).map fun q => queueOfQp q.handle q.service

/-- May a read command start member reads at the restore side's level (R242), or under an exhausted restore budget (R243)? -/
def State.restoreGate (s : State) (e : CmdEnt) : Bool :=
  let level := if s.sch.budget && s.sch.budgetDir == 1 && decide (s.sch.budgetLeft ≤ 0) then max 2 s.sch.rsLevel else s.sch.rsLevel
  if level = 0 then true
  else if level = 1 then (match s.cmdQueue e with
    | some q => decide (0 < s.bucket q 0)
    | none => false)
  else if level = 2 then !(s.cmd.entries.any fun p => p.2.kind == .read && p.2.admitted && !p.2.reading.isEmpty && s.cmdQueue p.2 == s.cmdQueue e)
  else false

/-- Charge the stored bytes of member reads to the restore budget (R243). -/
def State.chargeRestore (s : State) (n : Nat) : State :=
  if s.sch.budget && s.sch.budgetDir == 1 then { s with sch := { s.sch with budgetLeft := s.sch.budgetLeft - (n : Int) } } else s

/-- Is a group unreadable: its set ON with fewer ready members than it needs (R433)? -/
def State.unreadable (s : State) (g : Nat) : Bool := (s.pset (s.grp g).set).st == .on && decide (s.readyCount g < (s.grp g).needed)

/-- The tally group of a namespace (R446). -/
def State.tallyGroupOf (s : State) (nsid : Nat) : Option Nat := (List.range 10).find? fun g => (s.grp g).declared && (s.grp g).tally && (s.grp g).nsid == nsid

/-- The entry under which a row of a tally group is read: the whole row. -/
def tallyEnt (g row : Nat) : MapEnt := { MapEnt.empty with group := g, mapped := true, addr := row * 655360, storedLen := 655360 }

/-- Queue the read of LBAs of a tally row (R434, R447, R449): the data units that hold them; a write reads P and Q too (R448). -/
def State.startTallyRead (s : State) (seq g row first count : Nat) (use : ReadFor) : State :=
  let lo := first / 16
  let hi := (first + count - 1) / 16
  s.queueRead { seq := seq, nsid := (s.grp g).nsid, extent := row, use := use, ent := tallyEnt g row, stage := 0, erased := [], waiting := false, units := ((List.range (hi + 1 - lo)).map fun i => (row, posD 12 row (lo + i))) ++ (if use == .rewrite then [(row, posP 12 row), (row, posQ 12 row)] else []), bufs := [], blocks := [], want := (2 ^ count - 1) * 2 ^ first, decoding := [] }

/-- The rows of a tally range, each with its first LBA in the row and count (R447). -/
def tallyRows (slba nlb : Nat) : List (Nat × Nat × Nat) :=
  if nlb = 0 then []
  else (List.range ((slba + nlb - 1) / 160 + 1 - slba / 160)).map fun i =>
    let r := slba / 160 + i
    let a := max slba (160 * r)
    let b := min (slba + nlb) (160 * r + 160)
    (r, a - 160 * r, b - a)

/-- Does a tally range touch a lost one (R488)? -/
def State.tallyTouched (s : State) (nsid slba nlb : Nat) : Bool := s.lay.tallyLost.any fun l => l.1 == nsid && overlaps (l.2.1, l.2.2) (slba, nlb)

/-- Admit a read of a tally namespace (R445, R449, R488). -/
def State.admitTallyRead (s : State) (seq : Nat) (e : CmdEnt) : State :=
  match s.tallyGroupOf e.io.nsid with
  | none => s.finish seq St.internal 0 0
  | some g =>
    if s.tallyTouched e.io.nsid e.io.slba e.io.nlb then s.finish seq St.unrecovered 0 0
    else if s.unreadable g then s.finish seq St.interrupted 0 0
    else if !s.restoreGate e then s
    else
      let rows := tallyRows e.io.slba e.io.nlb
      let s := s.setEntry seq { e with admitted := true, reading := rows.map (·.1) }
      (rows.foldl (fun s r => s.startTallyRead seq g r.1 r.2.1 r.2.2 .host) s).chargeRestore e.length

/-- The stored blocks of an extent that a read of some parts wants: BLOCK_MASK restricted to them. -/
def wantMask (e : MapEnt) (parts : List (Nat × Nat × Nat × Nat)) : Nat := e.blockMask &&& parts.foldl (fun m p => setBitOf m p.2.1 true) 0

/-- Admit a read of a native namespace (R268, R417, R437, R433): the extents that hold stored data are read, the rest is zero. -/
def State.admitNativeRead (s : State) (seq : Nat) (e : CmdEnt) : State :=
  let a := e.io.slba * 4096
  let parts := blockParts a (a + e.length) a (a + e.length)
  let xs := (parts.map (·.1)).eraseDups
  let mine := fun x => parts.filter fun p => p.1 == x
  if xs.any fun x => let m := s.extent e.io.nsid x; m.mapped && (mine x).any fun p => bitOf m.lostMask p.2.1 then s.finish seq St.unrecovered 0 0
  else
    let stored := xs.filter fun x => let m := s.extent e.io.nsid x; m.mapped && wantMask m (mine x) != 0
    let ents := stored.map fun x => s.extent e.io.nsid x
    let members := ents.filter fun m => !((s.rowsOf m).all fun r => (s.stripe m.group r).isSome)
    if members.any fun m => s.unreadable m.group then s.finish seq St.interrupted 0 0
    else if members != [] && !s.restoreGate e then s
    else
      let s := s.setEntry seq { e with admitted := true, reading := stored }
      let s := stored.foldl (init := s) fun s x => s.startRead seq e.io.nsid x .host (wantMask (s.extent e.io.nsid x) (mine x))
      (s.chargeRestore (members.map (·.storedLen)).sum).completeRead seq

/-- Admit a read (R268): one that overlaps an earlier write-class command takes a read entry and waits. -/
def State.admitRead (s : State) (seq : Nat) (e : CmdEnt) : State :=
  if s.mustWait seq e then
    match s.takeLocks seq e with
    | some s => s.waitLock seq ((s.entry seq).getD e)
    | none => s.lockShort seq e
  else match s.nsOf e.io.nsid with
    | none => s.finish seq St.invalidNs 0 0
    | some n => if n.type = 2 then s.admitTallyRead seq e else s.admitNativeRead seq e

/-! ### The holds of write-class admission -/

/-- Bytes of the delta-log ring: METADATA_GIB gives the region, and the spec leaves its division open (notes/assumptions/3.md). -/
def State.deltaRing (s : State) : Nat := Config.reported 0x444 ((s.layoutSec.map (·.metadataGib)).getD 0)

/-- Is write-class admission held under R444: would the next batch overwrite a delta written after the newest checkpoint began? -/
def State.deltaHeld (s : State) : Bool := s.lay.ckptRun.isSome && decide (s.deltaRing < s.lay.logPos + 48 * s.lay.deltas.length + 128)

/-- Does a native group have free rows above its reserve (R431)? -/
def State.roomIn (s : State) (g : Nat) : Bool :=
  let x := s.grp g
  x.declared && !x.tally && decide (x.rows * s.rd Reg.LAY_CFG_RESERVE_PCT / 100 < x.freeRows)

/-- The lowest set with an APPEND group that has room (R434). -/
def State.appendSet (s : State) : Option Nat :=
  (List.range 8).find? fun n => (s.setGroups n).any fun g => (s.grp g).append && s.roomIn g

/-- Is a namespace's current key LOADED (R395)? -/
def State.writable (s : State) (nsid : Nat) : Bool :=
  match tget s.cph.current nsid with
  | some id => (s.keyLoaded id).isSome
  | none => false

/-- The in-flight cap (R265). -/
abbrev inflightCap : Nat := 512 * 2 ^ 20

/-- Is write-class admission held for the whole device: not ACTIVE (R102), a supply warning (R563), a hand-over (R593), a release
(R74), or the delta log (R444)? -/
def State.writesHeld (s : State) : Bool := s.cfg.state != .active || s.pwr.warn || s.fov.handOverHold || s.cfg.release.isSome || s.deltaHeld

/-- A write-class command that waits at black: counted once (R266). -/
def State.waitBlack (s : State) (seq : Nat) (e : CmdEnt) : State :=
  if e.waitedBlack then s else (s.modEntry seq fun e => { e with waitedBlack := true }).count 107 1 e.io.nsid

/-- A write-class command that does not fit under the cap: counted once (R265). -/
def State.waitCap (s : State) (seq : Nat) (e : CmdEnt) : State :=
  if e.waitedCap then s else (s.modEntry seq fun e => { e with waitedCap := true }).count 106 1 e.io.nsid

/-- Is an earlier write-class command waiting for the cap or at black (R265, R266)? -/
def State.behind (s : State) (seq : Nat) : Bool :=
  s.cmd.entries.any fun p => decide (p.1 < seq) && p.2.kind.writeClass && !p.2.admitted && (p.2.waitedCap || p.2.waitedBlack)

/-! ### Writes -/

/-- Give a command a block in staging, or spilled where no slot is free, with data that is complete. -/
def State.giveBlock (s : State) (o : BlkOwner) (b : Blk) : State :=
  let place := match s.freeStaging with
    | some n => BlkPlace.staged n
    | none => .spilled
  let k := s.win.nextBlk
  { s with win := { s.win with blocks := tset s.win.blocks k { b with place := place, hold := none, owner := some o, filled := o.sectors * 4096 }, nextBlk := k + 1 } }

/-- The blocks of a commit, put together as blocks of extents (R216, R341): each takes the place of the first window block that it comes
from and that no other took; bytes never written are zero. -/
def State.assemble (s : State) (seq nsid first offset length : Nat) : State :=
  let sources := s.win.blocks.filter fun p => match p.2.owner with
    | some o => o.seq == seq && o.extent == unplacedExtent
    | none => false
  let a := first * 4096
  let dropped : State := { s with win := { s.win with blocks := s.win.blocks.filter fun p => !(sources.any fun q => q.1 == p.1) } }
  let r := (blockParts a (a + length) a (a + length)).foldl (init := (dropped, ([] : List Nat))) fun acc p =>
    let lo := (p.1 * 16 + p.2.1) * 65536 + p.2.2.1 * 4096 - a + offset
    let hi := lo + p.2.2.2 * 4096
    let from' := (List.range ((hi - 1) / 65536 + 1 - lo / 65536)).filterMap fun i => sources.find? fun q => match q.2.owner with
      | some o => o.index == lo / 65536 + i
      | none => false
    let data : Mem := from'.flatMap fun q => match q.2.owner with
      | some o => (q.2.data.filter fun c => decide (lo ≤ o.index * 65536 + c.1) && decide (o.index * 65536 + c.1 < hi)).map fun c => (o.index * 65536 + c.1 - lo, c.2)
      | none => []
    let o : BlkOwner := { seq := seq, nsid := nsid, extent := p.1, index := p.2.1, firstSector := p.2.2.1, sectors := p.2.2.2 }
    match from'.find? fun q => !acc.2.contains q.1 with
    | some q =>
      let b : Blk := { q.2 with data := data, filled := p.2.2.2 * 4096, owner := some o }
      ((({ acc.1 with win := { acc.1.win with blocks := tset acc.1.win.blocks q.1 b } } : State).readBack q.1), q.1 :: acc.2)
    | none => (acc.1.giveBlock o { Blk.fresh none .spilled none with data := data }, acc.2)
  r.1

/-- Would a write cover a lost block only in part (R427)? -/
def State.partlyLost (s : State) (nsid : Nat) (parts : List (Nat × Nat × Nat × Nat)) : Bool :=
  parts.any fun p => let m := s.extent nsid p.1; m.mapped && bitOf m.lostMask p.2.1 && decide (p.2.2.2 < 16)

/-- Begin the new version of an extent (R427): the blocks of the write are to be sealed, and the old version is read unless every sector
of the extent is new. -/
def State.gather (s : State) (seq : Nat) (e : CmdEnt) (x : Nat) (parts : List (Nat × Nat × Nat × Nat)) : State :=
  let old := s.extent e.io.nsid x
  let mine := parts.filter fun p => p.1 == x
  let whole := mine.length = 16 && mine.all fun p => p.2.2.2 == 16
  let kept := mine.foldl (fun m p => if p.2.2.2 = 16 then setBitOf m p.2.1 false else m) old.lostMask
  let read := old.mapped && !whole
  let y : Gathering := { seq := seq, nsid := e.io.nsid, extent := x, host := hostTag e.host, copied := [], expect := mine.map (·.2.1), reading := read, again := none, lost := if old.mapped && !whole then kept else 0, slotWait := none }
  let s : State := { s with lay := { s.lay with gathering := s.lay.gathering ++ [y] } }
  if read then ((s.bumpWrap Reg.LAY_RMW 0 0 1).count 218 1 old.group).startRead seq e.io.nsid x .rewrite 0xFFFF else s

/-- Clear MAPPED for those extents of a list that have it (R262, R417): the state, the extents and their deltas. -/
def State.unmapList (s : State) (nsid host : Nat) (xs : List Nat) : State × List Nat × List Delta :=
  (xs.filter fun x => (s.extent nsid x).mapped).foldl (init := (s, [], [])) fun a x =>
    let r := a.1.unmap nsid x host
    (r.1, a.2.1 ++ [x], a.2.2 ++ [r.2])

/-- Journal a map change in MAP records of at most 16,384 deltas (R457, R459); the fuel bounds the records. -/
def State.mapRecords : Nat → Nat → List Delta → State → State
  | 0, _, _, s => s
  | n + 1, seq, ds, s => match ds with
    | [] => s
    | _ => State.mapRecords n seq (ds.drop 16384) (s.mapRecord seq (ds.take 16384))

/-- The extents that a select-all or single zone action covers. -/
def State.zoneTargets (s : State) (e : CmdEnt) (pick : Zone → Bool) : List Nat :=
  if e.selectAll then ((s.zonesOf e.io.nsid).filter fun p => pick p.2).map (·.1) else [e.io.slba / zoneLbas]

/-- What REPLICA says of a namespace in MODE 1: a federation QP of Daxzin's own to the peer shelf, if one is in RTS (R189, R597). -/
def State.replicaQp (s : State) (nsid : Nat) : Option (Option Nat) :=
  match s.failoverSec with
  | none => none
  | some f => match f.replicas.find? fun r => r.nsid == nsid && r.mode == 1 with
    | none => none
    | some r =>
      let addrs := ((f.peers.find? fun p => p.shelfId == r.peerShelf).map (·.addrs)).getD []
      some ((s.xpt.qps.find? fun p => p.2.initiated && p.2.service == 2 && p.2.st == .rts &&
        addrs.any fun a => (tget s.xpt.handleUse p.2.handle).any fun h => h.1.ip == a.1).map (·.1))

/-- Forward an admitted write-class command to its replica (R189, R597): it waits on the next completion of that QP that no other waits
for, until the function's TRIG_TIMEOUT, which the spec does not give; without a connection it is not confirmed (R278). -/
def State.forwardReplica (s : State) (seq : Nat) (e : CmdEnt) : State :=
  match s.replicaQp e.io.nsid with
  | none => s
  | some none => s.modEntry seq fun e => { e with status := St.replicaUnconfirmed }
  | some (some q) =>
    let ahead := (s.cmd.entries.filter fun p => p.2.replica.any fun r => r.1 == q).length
    let (t, s) := s.takeFree
    (s.modEntry seq fun e => { e with replica := some (q, (s.compCount q + ahead + 1) % 2 ^ 32, s.clock + t % 2 ^ 32) }).emit .wqeSend [q, 0, e.length, seq, e.io.nsid]

/-- Mark a write-class command admitted (R265): its bytes count under the cap, and its pending extents are known. -/
def State.markAdmitted (s : State) (seq : Nat) (pending : List Nat) : State :=
  match s.entry seq with
  | none => s
  | some e =>
    let s := s.setEntry seq { e with admitted := true, pending := pending }
    let s : State := { s with cmd := { s.cmd with inflight := s.cmd.inflight + e.length } }
    (s.forwardReplica seq e).cmdStatus

/-- The zone step of a write at a write pointer (R260, R271): Full, capacity, position, opening, and the advance. -/
def State.zoneWrite (s : State) (nsid slba nlb : Nat) (append : Bool) : Except (Nat × Nat) State :=
  let z := slba / zoneLbas
  let x := s.zone nsid z
  if x.st == .full then .error St.zoneFull
  else if append && decide (zoneLbas < x.wp + nlb) then .error St.zoneBoundary
  else if !append && slba % zoneLbas != x.wp then .error St.zoneInvalidWrite
  else match s.openZone nsid z false with
    | .ok s => .ok (s.advanceZone nsid z nlb)
    | .error st => .error st

/-- Does a write of this kind move a zone's write pointer? -/
def CmdKind.atPointer : CmdKind → Bool
  | .write | .zoneAppend | .writeZeroes => true
  | .read | .deallocate | .flush | .zoneClose | .zoneFinish | .zoneOpen | .zoneReset | .reseal | .tallyWrite => false

/-- The zone step of a write-class command of a zoned namespace. -/
def State.zoneStep (s : State) (n : Ns) (e : CmdEnt) : Except (Nat × Nat) State :=
  if n.type = 1 && e.kind.atPointer then s.zoneWrite e.io.nsid e.firstLba e.io.nlb (e.kind == .zoneAppend) else .ok s

/-- Start a Write or a Zone Append (R216, R271, R427). -/
def State.startWrite (s : State) (seq : Nat) (e : CmdEnt) : State :=
  let a := e.firstLba * 4096
  let parts := blockParts a (a + e.length) a (a + e.length)
  if s.partlyLost e.io.nsid parts then s.finish seq St.unrecovered 0 0
  else
    let xs := (parts.map (·.1)).eraseDups
    let s := s.markAdmitted seq xs
    let s := match e.data with
      | .window offset length _ _ => s.assemble seq e.io.nsid e.firstLba offset length
      | .keyed _ _ _ | .other => s
    xs.foldl (fun s x => s.gather seq e x parts) s

/-- Start a Write Zeroes (R262): whole extents are recorded as zero, the stored parts of partial ones are rewritten with zeros. -/
def State.startZeroes (s : State) (seq : Nat) (e : CmdEnt) : State :=
  let parts := ((partialRanges e.io.slba e.io.nlb).flatMap fun r => blockParts (r.1 * 4096) ((r.1 + r.2) * 4096) (r.1 * 4096) ((r.1 + r.2) * 4096)).filter fun p => (s.extent e.io.nsid p.1).mapped
  if s.partlyLost e.io.nsid parts then s.finish seq St.unrecovered 0 0
  else
    let xs := (parts.map (·.1)).eraseDups
    let (s, gone, ds) := s.unmapList e.io.nsid (hostTag e.host) (wholeExtents e.io.slba e.io.nlb)
    let s := s.markAdmitted seq (xs ++ gone)
    let s := parts.foldl (init := s) fun s p => s.giveBlock { seq := seq, nsid := e.io.nsid, extent := p.1, index := p.2.1, firstSector := p.2.2.1, sectors := p.2.2.2 } (Blk.fresh none .spilled none)
    let s := xs.foldl (fun s x => s.gather seq e x parts) s
    (State.mapRecords (ds.length / 16384 + 1) seq ds s).completeWrite seq

/-- Start a command that only unmaps extents (R262, R459). -/
def State.startUnmap (s : State) (seq : Nat) (e : CmdEnt) (xs : List Nat) : State :=
  let (s, gone, ds) := s.unmapList e.io.nsid (hostTag e.host) xs
  let s := s.markAdmitted seq gone
  (State.mapRecords (ds.length / 16384 + 1) seq ds s).completeWrite seq

/-- Start a Zone Reset (R260, R271): the zones become Empty and their extents are unmapped. -/
def State.startReset (s : State) (seq : Nat) (e : CmdEnt) : State :=
  let zs := s.zoneTargets e fun _ => true
  let s := zs.foldl (fun s z => s.setZone e.io.nsid z { st := .empty, wp := 0, acked := 0 }) s
  s.startUnmap seq e (zs.flatMap fun z => (List.range 1024).map (· + z * 1024))

/-- Start a Zone Finish (R260, R271): the zones become Full. -/
def State.startFinish (s : State) (seq : Nat) (e : CmdEnt) : State :=
  let zs := s.zoneTargets e fun z => z.isOpen || z.st == .closed
  let s := zs.foldl (fun s z => s.setZone e.io.nsid z { st := .full, wp := zoneLbas, acked := zoneLbas }) s
  (s.markAdmitted seq []).completeWrite seq

/-- Start a tally write (R448): one job for each row, in admission order. -/
def State.startTally (s : State) (seq : Nat) (e : CmdEnt) : State :=
  match s.tallyGroupOf e.io.nsid with
  | none => s.finish seq St.internal 0 0
  | some g =>
    let rows := tallyRows e.io.slba e.io.nlb
    let s := s.markAdmitted seq (rows.map (·.1))
    let jobs := rows.map fun r => ({ seq := seq, group := g, row := r.1, first := r.2.1, count := r.2.2, whole := r.2.2 == 160, step := 0, enc := 0, record := none, outstanding := [], okWrites := 0, told := false, data := [], p := [], q := [] } : TallyJob)
    { s with jnl := { s.jnl with tallies := s.jnl.tallies ++ jobs } }

/-- Start an admitted write-class command. -/
def State.startClass (s : State) (seq : Nat) (e : CmdEnt) : State :=
  match e.kind with
  | .write | .zoneAppend => s.startWrite seq e
  | .writeZeroes => s.startZeroes seq e
  | .deallocate => s.startUnmap seq e (e.ranges.flatMap fun r => wholeExtents r.1 r.2).eraseDups
  | .zoneReset => s.startReset seq e
  | .zoneFinish => s.startFinish seq e
  | .tallyWrite => s.startTally seq e
  | .read | .flush | .zoneClose | .zoneOpen | .reseal => s

/-- The appending groups that a native write needs (R434): true while there is one; else the lowest set with an APPEND group that has
room is powered, and admission is held. -/
def State.needAppend (s : State) (native : Bool) : Bool × State :=
  if !native || (List.range 8).any s.appending then (true, s.wr Reg.LAY_STATUS_APPEND_HELD 0 0 0)
  else
    let s := s.wr Reg.LAY_STATUS_APPEND_HELD 0 0 1
    (false, match s.appendSet with
      | some n => s.requestSet n SetCause.append
      | none => s)

/-- Admit a write-class command (R265 to R268, R271, R395, R431): refused for want of a key or of room, held back by locks, holds,
black and the cap, else started. -/
def State.admitWrite (s : State) (seq : Nat) (e : CmdEnt) : State :=
  match s.nsOf e.io.nsid with
  | none => s.finish seq St.invalidNs 0 0
  | some n =>
    let native := n.type != 2
    if !s.writable e.io.nsid || s.cfg.frozenNs.contains e.io.nsid then s.finish seq St.denied 0 0
    else if native && !((List.range 8).any s.roomIn) then s.finish seq St.capacity 0 0
    else match s.takeLocks seq e with
      | none => s.lockShort seq e
      | some s =>
        let e := (s.entry seq).getD e
        if s.mustWait seq e then s.waitLock seq e
        else if s.sch.inLevel = 3 then s.waitBlack seq e
        else
          let s := s.wr Reg.LAY_STATUS_DELTA_HELD 0 0 (b2n s.deltaHeld)
          if s.writesHeld then s
          else
            let (ok, s) := s.needAppend native
            if !ok then s
            else if s.behind seq || decide (inflightCap < s.cmd.inflight + e.length) then s.waitCap seq e
            else match s.zoneStep n e with
              | .error st => s.finish seq st 0 0
              | .ok s => s.startClass seq e

/-- Admit a Zone Open or Close (R260): it takes no lock. -/
def State.admitZone (s : State) (seq : Nat) (e : CmdEnt) : State :=
  let nsid := e.io.nsid
  if e.kind == .zoneClose then
    let zs := s.zoneTargets e fun z => z.isOpen
    if zs.any fun z => let x := s.zone nsid z; !(x.isOpen || x.st == .closed) then s.finish seq St.zoneTransition 0 0
    else (zs.foldl (fun s z => s.setZone nsid z { s.zone nsid z with st := .closed }) s).finish seq St.ok 0 0
  else
    let zs := s.zoneTargets e fun z => z.st == .closed
    let r := zs.foldl (init := (Except.ok s : Except (Nat × Nat) State)) fun a z => match a with
      | .ok s => s.openZone nsid z true
      | .error st => .error st
    match r with
    | .ok s => s.finish seq St.ok 0 0
    | .error st => s.finish seq st 0 0

/-- COMMAND_ADMIT (R102, R265 to R271): admission is held while the canister is not ACTIVE. -/
def execCommandAdmit (seq : Nat) (s : State) : Out :=
  .next <| s.up <| match s.entry seq with
    | none => s
    | some e =>
      if e.admitted || s.cfg.state != .active then s
      else match e.kind with
        | .read => s.admitRead seq e
        | .flush => (s.setEntry seq { e with admitted := true }).settleFlushes
        | .zoneClose | .zoneOpen => s.admitZone seq e
        | .write | .zoneAppend | .writeZeroes | .deallocate | .zoneReset | .zoneFinish | .tallyWrite => s.admitWrite seq e
        | .reseal => s

end Sys2Proof.Machine
end

