-- ==== Sys2Proof/Machine/ReadOps.lean ====
section
/-!
DEFINITION. Machine/ReadOps.lean: what a read of a version does once its units are there (R427, R437 to R439): which blocks are
decoded, what becomes of a decoded block, of a block that fails, and of the read when every block has passed.
-/

namespace Sys2Proof.Machine

/-! ### The parts that a write-class command rewrites -/

/-- The parts of blocks that a command writes data into: extent, block, first sector, sectors. -/
def CmdEnt.parts (e : CmdEnt) : List (Nat × Nat × Nat × Nat) :=
  match e.kind with
  | .write | .zoneAppend => let a := e.firstLba * 4096; blockParts a (a + e.length) a (a + e.length)
  | .writeZeroes => (partialRanges e.io.slba e.io.nlb).flatMap fun r => blockParts (r.1 * 4096) ((r.1 + r.2) * 4096) (r.1 * 4096) ((r.1 + r.2) * 4096)
  | .read | .deallocate | .flush | .zoneClose | .zoneFinish | .zoneOpen | .zoneReset | .reseal | .tallyWrite => []

/-- The sectors that a command writes in a block: first and count. -/
def CmdEnt.partOf (e : CmdEnt) (x i : Nat) : Option (Nat × Nat) := (e.parts.find? fun p => p.1 == x && p.2.1 == i).map (·.2.2)

/-- What a rewrite does with a stored block (R427): 0 copied sealed, 1 replaced, 2 opened and merged. -/
def CmdEnt.fateOf (e : CmdEnt) (x : Nat) (b : SealedBlk) : Nat :=
  match e.partOf x b.index with
  | none => 0
  | some (f, n) => if f ≤ b.first ∧ b.first + b.sectors ≤ f + n then 1 else 2

/-! ### Read jobs -/

/-- Replace a read job. -/
def State.setRead (s : State) (j : Nat) (r : ReadJob) : State := { s with lay := { s.lay with reads := tset s.lay.reads j r } }

/-- The read that a decode serves. -/
def State.readOfDecode (s : State) (d : Nat) : Option (Nat × ReadJob) := s.lay.reads.find? fun p => p.2.decoding.contains d

/-- Drop the decodes of a read. -/
def State.dropDecodes (s : State) (r : ReadJob) : State :=
  { s with cmp := { s.cmp with jobs := s.cmp.jobs.filter fun p => !r.decoding.contains p.1 } }

/-- The gathering that a read feeds. -/
def ReadJob.feeds (r : ReadJob) (y : Gathering) : Bool := y.seq == r.seq && y.nsid == r.nsid && y.extent == r.extent && y.again.isNone

/-- Change the gathering that a read feeds. -/
def State.modGathering (s : State) (r : ReadJob) (f : Gathering → Gathering) : State :=
  { s with lay := { s.lay with gathering := s.lay.gathering.map fun y => if r.feeds y then f y else y } }

/-- Is the map entry of an extent still the version that a read took (R430, R438)? -/
def State.sameVersion (s : State) (nsid extent : Nat) (e : MapEnt) : Bool :=
  let now := s.extent nsid extent
  now.mapped && now.version == e.version && now.group == e.group && now.addr == e.addr

/-- Place a version again unopened (R425, R430, R438), if it is not already on its way and every block that is not lost is at hand. -/
def State.placeAgain (s : State) (nsid extent host : Nat) (e : MapEnt) (blocks : List SealedBlk) : State :=
  let old := s.lay.gathering.any fun y => y.nsid == nsid && y.extent == extent && y.again.isSome
  let short := (List.range 16).any fun i => bitOf e.blockMask i && !bitOf (s.extent nsid extent).lostMask i && !blocks.any fun b => b.index == i
  if old || blocks = [] || short || !s.sameVersion nsid extent e then s
  else
    let y : Gathering := { seq := 0, nsid := nsid, extent := extent, host := host, copied := blocks, expect := [], reading := false, again := some (s.extent nsid extent), lost := (s.extent nsid extent).lostMask, slotWait := none }
    { s with lay := { s.lay with gathering := s.lay.gathering ++ [y] } }

/-- A re-seal skips an extent (R397): counted, and its command leaves the table. -/
def State.skipReseal (s : State) (seq : Nat) : State :=
  let s : State := match s.cph.reseal with
    | some (n, left, total, skipped) => { s with cph := { s.cph with reseal := some (n, left, total, skipped + 1) } }
    | none => s
  let n := match s.cph.reseal with
    | some (_, _, _, k) => k
    | none => 0
  (s.wr Reg.CPH_RESEAL_SKIPPED 0 0 (min 16383 n)).failCmd seq St.ok

/-- A read that fails for good, by what it serves: a command fails, a function's read just ends. -/
def State.readFails (s : State) (j : Nat) (r : ReadJob) (st : Nat × Nat) : State :=
  let s := s.dropDecodes r
  match r.use with
  | .host | .rewrite => s.failCmd r.seq st
  | .reseal => (s.endRead j).skipReseal r.seq
  | .compact | .scrub | .replica => s.endRead j

/-- Blocks are lost (R439): the map, the log and the markers say so, and the read fails. -/
def State.readLost (s : State) (j : Nat) (r : ReadJob) (mask : Nat) : State := (s.loseBlocks r.nsid r.extent mask r.ent).readFails j r St.unrecovered

/-- A check fails (R438, R439): the units that hold the failing bytes are erasures and the rest of their stripes is read; after the retry
through Q the failing blocks are lost. -/
def State.readRetry (s : State) (j : Nat) (r : ReadJob) (units : List Nat) (mask : Nat) : State :=
  if 2 ≤ r.stage then s.readLost j r mask
  else
    let s := s.dropDecodes r
    let g := r.ent.group
    let all := (s.rowsOf r.ent).flatMap fun row => if (s.stripe g row).isSome then [] else (List.range (s.rowK g row + 2)).map fun p => (row, p)
    let s := s.setRead j { r with stage := r.stage + 1, erased := (r.erased ++ units).eraseDups, decoding := [], blocks := [], units := all }
    all.foldl (fun s u => s.readUnit g u.2 u.1) s

/-- Every block of a read has passed: repaired data is placed again (R438), and what the read serves goes on. -/
def State.readPasses (s : State) (j : Nat) (r : ReadJob) : State :=
  let s := if r.stage = 0 then s
    else (s.raiseLim lim19 0 Ev.erasureRepaired Sev.notice r.ent.group r.stage r.nsid r.extent).placeAgain r.nsid r.extent 0 r.ent r.blocks
  let s := s.endRead j
  match r.use with
  | .host => s.extentRead r.seq r.extent
  | .rewrite | .reseal => s.modGathering r fun y => { y with reading := false }
  | .compact => s.placeAgain r.nsid r.extent 0 r.ent r.blocks
  | .scrub | .replica => s

/-! ### Decoded blocks -/

/-- Place the sectors of a decoded block that a host read asks for (R417). -/
def CmdEnt.takeBlock (e : CmdEnt) (x : Nat) (d : DecJob) (plain : List Byte) : CmdEnt :=
  let base := (x * 16 + d.index) * 65536 + d.firstSector * 4096
  let a := e.io.slba * 4096
  let lo := max a base
  let hi := min (a + e.length) (base + plain.length)
  if lo < hi then { e with out := memWriteList e.out (lo - a) ((plain.drop (lo - base)).take (hi - lo)) } else e

/-- Merge an opened block with the write into it (R427): the block of the command widens to hold both, the write's bytes on top. -/
def State.mergeBlock (s : State) (r : ReadJob) (d : DecJob) (plain : List Byte) : State :=
  match (s.entry r.seq).bind fun e => e.partOf r.extent d.index with
  | none => s
  | some (f, n) =>
    let lo := min f d.firstSector
    let hi := max (f + n) (d.firstSector + d.sectors)
    let mine := fun (o : BlkOwner) => o.seq == r.seq && o.nsid == r.nsid && o.extent == r.extent && o.index == d.index
    let o : BlkOwner := { seq := r.seq, nsid := r.nsid, extent := r.extent, index := d.index, firstSector := lo, sectors := hi - lo }
    let (k, b, s) : Nat × Blk × State := match s.win.blocks.find? fun p => p.2.owner.any mine with
      | some (k, b) => (k, b, s)
      | none =>
        let place := match s.freeStaging with
          | some n => BlkPlace.staged n
          | none => .spilled
        let k := s.win.nextBlk
        (k, Blk.fresh none place none, { s with win := { s.win with nextBlk := k + 1 } })
    let old := memWriteList [] ((d.firstSector - lo) * 4096) plain
    let kept := old.filter fun c => decide (c.1 < (f - lo) * 4096) || decide ((f - lo + n) * 4096 ≤ c.1)
    let data := b.data.foldl (fun m c => memWrite m (c.1 + (f - lo) * 4096) c.2) kept
    let b := { b with data := data, owner := some o, filled := b.filled + (hi - lo - n) * 4096 }
    { s with win := { s.win with blocks := tset s.win.blocks k b } }

/-- A block has been opened and has passed every check (R368): its plaintext goes to what the read serves. -/
def State.blockPasses (s : State) (j : Nat) (r : ReadJob) (dec : Nat) (d : DecJob) (plain : List Byte) : State :=
  let s : State := { s with cmp := { s.cmp with jobs := tdel s.cmp.jobs dec } }
  let s := match r.use with
    | .host => s.modEntry r.seq fun e => e.takeBlock r.extent d plain
    | .rewrite => s.mergeBlock r d plain
    | .reseal => s.giveBlock { seq := r.seq, nsid := r.nsid, extent := r.extent, index := d.index, firstSector := d.firstSector, sectors := d.sectors } { Blk.fresh none .spilled none with data := memWriteList [] 0 plain }
    | .compact | .scrub | .replica => s
  let r := { r with decoding := r.decoding.filter (· != dec), want := setBitOf r.want d.index false }
  if r.decoding.isEmpty then (s.setRead j r).readPasses j r else s.setRead j r

/-- Queue the decode of a stored block (R367). -/
def State.queueDecode (s : State) (r : ReadJob) (b : SealedBlk) (pos : Nat) : Nat × State :=
  let n := s.cmp.nextJob
  let d : DecJob := { seq := r.seq, nsid := r.nsid, extent := r.extent, index := b.index, firstSector := b.first, sectors := b.sectors, raw := b.raw, keyId := b.keyId, iv := b.iv, tag := b.tag, crc := b.crc, stored := b.bytes, pos := pos, lane := none, firstLane := none }
  (n, { s with cmp := { s.cmp with jobs := tset s.cmp.jobs n d, nextJob := n + 1 } })

/-- Where each sealed block begins in its version (R413). -/
def blockStarts : Nat → List SealedBlk → List (SealedBlk × Nat)
  | _, [] => []
  | o, b :: bs => (b, o) :: blockStarts (o + b.bytes.length) bs

/-- Queue the decodes of some of a version's blocks and note them on the read; a read that wants none has passed. -/
def State.decodeBlocks (s : State) (j : Nat) (r : ReadJob) (pick : SealedBlk → Bool) : State :=
  let l := (blockStarts (32 + 48 * r.blocks.length) r.blocks).filter fun p => pick p.1
  let acc := l.foldl (init := (([] : List Nat), s)) fun a p => let q := a.2.queueDecode r p.1 p.2; (a.1 ++ [q.1], q.2)
  let r := { r with decoding := acc.1 }
  if acc.1.isEmpty then acc.2.readPasses j r else acc.2.setRead j r

/-- The header of a version has passed (R437): its blocks are decoded or copied by what the read serves (R397, R427, R430). -/
def State.versionRead (s : State) (j : Nat) (r : ReadJob) (blocks : List SealedBlk) : State :=
  let r := { r with blocks := blocks }
  match r.use with
  | .host | .scrub | .replica => s.decodeBlocks j r fun b => bitOf r.want b.index
  | .compact => s.readPasses j r
  | .rewrite =>
    match s.entry r.seq with
    | none => s.endRead j
    | some e =>
      let s := s.modGathering r fun y => { y with copied := blocks.filter fun b => e.fateOf r.extent b == 0 && !bitOf r.ent.lostMask b.index }
      s.decodeBlocks j r fun b => e.fateOf r.extent b == 2 && bitOf r.want b.index && !bitOf r.ent.lostMask b.index
  | .reseal =>
    let current := tget s.cph.current r.nsid
    let old := blocks.filter fun b => some b.keyId != current && !bitOf r.ent.lostMask b.index
    if old.any fun b => (s.keyLoaded b.keyId).isNone then s.readFails j r St.ok
    else if old = [] then (s.endRead j).failCmd r.seq St.ok
    else
      let y : Gathering := { seq := r.seq, nsid := r.nsid, extent := r.extent, host := 0, copied := blocks.filter fun b => some b.keyId == current && !bitOf r.ent.lostMask b.index, expect := old.map (·.index), reading := true, again := none, lost := r.ent.lostMask, slotWait := none }
      let s : State := { s with lay := { s.lay with gathering := (s.lay.gathering.filter fun z => !r.feeds z) ++ [y] } }
      s.decodeBlocks j r fun b => some b.keyId != current && bitOf r.want b.index && !bitOf r.ent.lostMask b.index

end Sys2Proof.Machine
end

