-- ==== Sys2Proof/Machine/Compression.lean ====
section
/-!
DEFINITION. Machine/Compression.lean: the COMPRESSION family (chapter 12): blocks taken, compressed and sealed by the lanes, the
read-back of spilled blocks, and blocks opened, decoded and checked.
-/

namespace Sys2Proof.Machine

/-! ### Lanes and pipelines -/

/-- Compression and decompression lanes, cipher pipelines (R363, R373). -/
abbrev compLanes : Nat := 48
abbrev decompLanes : Nat := 64
abbrev pipelines : Nat := 32

/-- The lowest unit in service of a fault mask, leaving some out. -/
def lowestIn (mask n : Nat) (skip : Nat → Bool) : Option Nat := (List.range n).find? fun i => !bitOf mask i && !skip i

/-- Units in service. -/
def inService (mask n : Nat) : Nat := ((List.range n).filter fun i => !bitOf mask i).length

/-- Take a cipher pipeline out of service until reset (R377). -/
def State.pipelineOut (s : State) (i : Nat) : State :=
  let m := setBitOf (s.rd Reg.CPH_ENG_FAULT) i true
  ((s.wr Reg.CPH_ENG_FAULT 0 0 m).wr Reg.CPH_STATUS_ENGINES 0 0 (inService m pipelines)).raise Ev.cipherEngineFault Sev.error i 0 0 0

/-- A pipeline's parity fails under a stream: the lowest in service goes out and the stream runs on another (R377). -/
def State.pipelineFault (s : State) : State :=
  match lowestIn (s.rd Reg.CPH_ENG_FAULT) pipelines fun _ => false with
  | some i => s.pipelineOut i
  | none => s

/-- Is any pipeline in service? -/
def State.cipherUp (s : State) : Bool := (lowestIn (s.rd Reg.CPH_ENG_FAULT) pipelines fun _ => false).isSome

/-- Take a compression lane out of service until reset (R365). -/
def State.compLaneOut (s : State) (i : Nat) : State :=
  let m := setBitOf (s.rd Reg.CMP_CLANE_FAULT) i true
  ((s.wr Reg.CMP_CLANE_FAULT 0 0 m).wr Reg.CMP_STATUS_CLANES 0 0 (inService m compLanes)).raise Ev.compressionLaneFault Sev.error i 0 0 0

/-- Take a decompression lane out of service until reset (R369). -/
def State.decompLaneOut (s : State) (i : Nat) : State :=
  let m := setBitOf (s.rd Reg.CMP_DLANE_FAULT) i true
  ((s.wr Reg.CMP_DLANE_FAULT 0 0 m).wr Reg.CMP_STATUS_DLANES 0 0 (inService m decompLanes)).raise Ev.decompressionLaneFault Sev.error i 0 0 0

/-- The lane of a staging slot (R363): the one that owns it, or the lowest in service where that one is out. -/
def State.laneOf (s : State) (slot : Nat) : Option Nat :=
  let m := s.rd Reg.CMP_CLANE_FAULT
  if bitOf m (slot / 2) then lowestIn m compLanes fun _ => false else some (slot / 2)

/-! ### Compression -/

/-- Does a block still wait for the old version that it is merged with (R427): its version is being read, and it does not cover its 16
sectors or its merge is under way? -/
def State.awaitsMerge (s : State) (o : BlkOwner) : Bool :=
  decide (o.sectors < 16) &&
  (s.lay.gathering.any fun y => y.seq == o.seq && y.nsid == o.nsid && y.extent == o.extent && y.again.isNone && y.reading) &&
  (match s.lay.reads.find? fun p => p.2.seq == o.seq && p.2.nsid == o.nsid && p.2.extent == o.extent && p.2.use == .rewrite with
   | some (_, r) => r.blocks.isEmpty || r.decoding.any fun d => (tget s.cmp.jobs d).any fun x => x.index == o.index
   | none => false)

/-- May a block be taken by a lane (R216, R217, R363): staged, owned by an admitted command's version, complete, and not being read? -/
def State.takeable (s : State) (b : Blk) : Option (Nat × BlkOwner) :=
  match b.place, b.owner with
  | .staged n, some o =>
    let waited := s.lay.gathering.any fun y => y.seq == o.seq && y.nsid == o.nsid && y.extent == o.extent && y.expect.contains o.index
    let read := match b.window with
      | some (w, i) => s.beingRead w i
      | none => false
    if waited && decide (o.sectors * 4096 ≤ b.filled) && !read && !s.awaitsMerge o then some (n, o) else none
  | _, _ => none

/-- Output buffer class and role of a chain (R292, R360). -/
def State.chainClass (s : State) : Nat := s.rd Reg.CMP_CFG_OUT_CLASS

/-- A lane waits because the pool of its chain is empty (R292): the stall is counted. -/
def State.chainStall (s : State) : State :=
  match s.poolOrder 0 s.chainClass with
  | n :: _ => (s.bumpWrap Reg.FSP_STALL n 0 1).count (121 + 2 * n) 1 n
  | [] => s

/-- An uncorrectable error in a committed block's staging slot (R366). -/
def State.stagingLost (s : State) (k slot : Nat) (o : BlkOwner) : State :=
  ((s.raise Ev.stagingEcc Sev.error slot 0 o.nsid o.extent).failCmd o.seq St.internal).dropBlk k

/-- The lane takes the block (R360, R377, R381, R382, R392): its key is fixed, its first buffer is allocated, and it takes an IV; a pipeline
whose parity fails costs one. -/
def State.takeBlock (s : State) (k : Nat) (b : Blk) (n lane keyId : Nat) (parityOk : Bool) : State :=
  match s.alloc 0 s.chainClass 1 with
  | none => s.chainStall
  | some (_, head, s) =>
    let s := s.keyRef keyId true
    let s := if parityOk then s else s.nextIv.2.pipelineFault
    let (iv, s) := s.nextIv
    { s with win := { s.win with blocks := tset s.win.blocks k { b with place := .lane n lane, hold := none, chain := some head, iv := iv, keyId := keyId } } }

/-- COMPRESS_BLOCK_START (R363, R366, R381): nothing is sealed before the IV epoch is durable. -/
def execCompressBlockStart (block : Nat) (stagingOk parityOk : Bool) (s : State) : Out :=
  .next <| match tget s.win.blocks block with
    | none => s
    | some b => match s.takeable b with
      | none => s
      | some (n, o) =>
        if !stagingOk then s.stagingLost block n o
        else match s.laneOf n, (tget s.cph.current o.nsid).bind s.keyLoaded with
          | some lane, some key => if s.cph.sealing && s.cipherUp then s.takeBlock block b n lane key.keyId parityOk else s
          | _, _ => s

/-- The tables that a namespace's blocks are coded with (R357): dynamic or static. -/
def State.dynamicFor (s : State) (nsid : Nat) : Bool :=
  let excess := (s.cfg.running.bind fun i => i.compression.nsTables.find? fun x => x.1 == nsid).map (·.2)
  excess.getD (s.rd Reg.CMP_CFG_TABLES) == 1

/-- Count what a block of a given plaintext became. -/
def State.countCompressed (s : State) (plain : Nat) (c : Compressed) (stored : Nat) : State :=
  let s := (s.bumpWrap Reg.CMP_IN_BYTES 0 0 plain).count 176 plain 0
  let s := (s.bumpWrap Reg.CMP_OUT_BYTES 0 0 stored).count 177 stored 0
  let s := if c.raw then (s.bumpWrap Reg.CMP_NOGAIN 0 0 1).count 178 1 0 else s
  let s := if c.dyn then (s.bumpWrap Reg.CMP_DYN 0 0 1).count 179 1 0 else s
  c.modes.foldl (fun s m => (s.bumpWrap Reg.CMP_MODE 0 m 1).count (180 + m) 1 m) s

/-- Link buffers into a chain through NEXT (R297). -/
def State.linkChain (s : State) : List Nat → State
  | a :: b :: t => ({ s with fsp := { s.fsp with descs := tmod s.fsp.descs a fun d => { d with next := some b } } } : State).linkChain (b :: t)
  | _ => s

/-- The block's window has its buffer back (R217): WRITTEN and SPILLED clear, unless newer writes have begun the block anew; the buffer of a
window that is gone is freed. -/
def State.returnBuffer (s : State) (b : Blk) : State :=
  let s := match b.window with
    | some (w, i) => if (s.openBlock w i).isSome then s else s.modList w i fun e => { e with written := false, spilled := false }
    | none => s
  match b.buf with
  | some i => s.decref i
  | none => s

/-- The lane's checker disagrees (R365): the chain is discarded, the lane goes out of service, and the block runs again. -/
def State.checkerFails (s : State) (k : Nat) (b : Blk) (n lane : Nat) : State :=
  let s := match b.chain with
    | some h => s.decref h
    | none => s
  ((s.keyRef b.keyId false).compLaneOut lane).modBlk k fun b => { b with place := .staged n, chain := none }

/-- The block is compressed, or stored raw under the no-gain rule, sealed, and its chain is complete (R343, R360 to R362, R379). -/
def State.sealBlock (s : State) (k : Nat) (b : Blk) (o : BlkOwner) (head key : Nat) (plain : List Byte) (crc : Nat) : State :=
  let c := compressBlock (s.dynamicFor o.nsid) (s.rd Reg.CMP_CFG_NO_GAIN) o.sectors plain
  match s.allocMany 0 s.chainClass 1 (ceilDiv c.bytes.length (bufBytes s.chainClass) - 1) with
  | none => s.chainStall
  | some (rest, s) =>
    let s := s.linkChain (head :: rest)
    let (iv, s) := if c.raw then s.nextIv else (b.iv, s)
    let (sealed, tag) := sealBytes key iv (sealAad b.keyId o.nsid o.extent o.index c.raw o.sectors o.firstSector crc) c.bytes
    let s := s.returnBuffer b
    let b := { b with window := none, buf := none, place := .sealed, data := [], stored := sealed, raw := c.raw, crc := crc, iv := iv, tag := tag }
    let s : State := { s with win := { s.win with blocks := tset s.win.blocks k b } }
    (s.countCompressed plain.length c c.bytes.length).count 200 1 o.nsid

/-- COMPRESS_BLOCK_DONE (R365). -/
def execCompressBlockDone (block checkerCrc : Nat) (s : State) : Out :=
  .next <| match tget s.win.blocks block with
    | none => s
    | some b => match b.place, b.owner, b.chain, s.keyLoaded b.keyId with
      | .lane n lane, some o, some head, some key =>
        let plain := memReadList b.data 0 (o.sectors * 4096)
        let crc := crc32c plain
        if checkerCrc = crc then s.sealBlock block b o head key.key plain crc else s.checkerFails block b n lane
      | _, _, _, _ => s

/-- SPILL_READBACK_DONE (R28, R217, R363): a spilled block that has completed or been committed is back in the lowest free staging slot. -/
def execSpillReadbackDone (block : Nat) (s : State) : Out :=
  .next <| match tget s.win.blocks block with
    | none => s
    | some b =>
      let away := b.place == .spilled || b.place == .readback
      let read := match b.window with
        | some (w, i) => s.beingRead w i
        | none => false
      match s.freeStaging with
      | some n => if away && !read && (b.owner.isSome || decide (65536 ≤ b.filled)) then s.modBlk block fun b => { b with place := .staged n } else s
      | none => s

/-! ### Decompression -/

/-- The lane for a decode (R363, R369): the lowest in service with a free egress slot of its two, another one for a second decode. -/
def State.decodeLane (s : State) (first : Option Nat) : Option Nat :=
  lowestIn (s.rd Reg.CMP_DLANE_FAULT) decompLanes fun i =>
    first == some i || decide (2 ≤ (s.cmp.jobs.filter fun p => p.2.lane == some i).length)

/-- A block whose key is not LOADED is never opened (R393): the read fails, with no log entry and no marker. -/
def State.keyMissing (s : State) (dec : Nat) : State :=
  match s.readOfDecode dec with
  | some (j, r) => s.readFails j r St.unrecovered
  | none => { s with cmp := { s.cmp with jobs := tdel s.cmp.jobs dec } }

/-- DECOMPRESS_BLOCK_START (R367, R377, R393). -/
def execDecompressBlockStart (job : Nat) (parityOk : Bool) (s : State) : Out :=
  .next <| match tget s.cmp.jobs job with
    | none => s
    | some d =>
      if d.lane.isSome then s
      else if (s.keyLoaded d.keyId).isNone then s.keyMissing job
      else match s.decodeLane d.firstLane with
        | none => s
        | some i =>
          if !s.cipherUp then s
          else
            let s := if parityOk then s else s.pipelineFault
            { s with cmp := { s.cmp with jobs := tset s.cmp.jobs job { d with lane := some i } } }

/-- Count a verification failure (R367, R371, R399). -/
def State.verifyFailed (s : State) (d : DecJob) (lane reason : Nat) : State :=
  let first := d.firstLane.getD lane
  let s := (s.bump Reg.CMP_VERIFY 0 (reason - 1) 1).count (188 + reason) 1 d.nsid
  let s := ((s.wr Reg.CMP_VERIFY_LAST_REASON 0 0 reason).wr Reg.CMP_VERIFY_LAST_RETRY_PASSED 0 0 0).wr Reg.CMP_VERIFY_LAST_LANE 0 0 first
  let s := s.wr Reg.CMP_VERIFY_LAST_TURN 0 0 (s.now % 65536)
  let s := s.raiseLim lim19 0 Ev.decompressionVerify Sev.warning lane reason d.nsid d.extent
  if reason = 1 then ((s.bump Reg.CPH_TAG_FAIL 0 0 1).count 202 1 d.nsid).raiseLim lim19 0 Ev.tagFailure Sev.warning 0 0 d.nsid d.keyId else s

/-- The first decode failed and the second passed (R369): the first lane goes out of service. -/
def State.retryPassed (s : State) (d : DecJob) : State :=
  match d.firstLane with
  | none => s
  | some l =>
    let s := s.wr Reg.CMP_VERIFY_LAST_RETRY_PASSED 0 0 1
    if bitOf (s.rd Reg.CMP_DLANE_FAULT) l then s else s.decompLaneOut l

/-- A decode ends for good with a failure: the units that hold its bytes are erasures (R369, R438). -/
def State.decodeLost (s : State) (dec : Nat) (d : DecJob) : State :=
  match s.readOfDecode dec with
  | some (j, r) => s.readRetry j r (unitsUnder r.ent d.pos d.stored.length) (2 ^ d.index)
  | none => { s with cmp := { s.cmp with jobs := tdel s.cmp.jobs dec } }

/-- What a lane answers for a block (R367): the plaintext, or a reason; a lane at fault may answer a reason of its own. -/
def DecJob.decode (d : DecJob) (key : Nat) (fault : Option Nat) : Except Nat (List Byte) :=
  match openBytes key d.iv d.tag (sealAad d.keyId d.nsid d.extent d.index d.raw d.sectors d.firstSector d.crc) d.stored with
  | none => .error 1
  | some l => match fault with
    | some r => .error r
    | none => if d.raw && l.length != d.sectors * 4096 then .error 7 else decodeBlock d.raw d.sectors d.crc l

/-- DECOMPRESS_BLOCK_DONE (R367 to R369, R393, R438). -/
def execDecompressBlockDone (job : Nat) (fault : Option Nat) (s : State) : Out :=
  .next <| match tget s.cmp.jobs job with
    | none => s
    | some d => match d.lane, s.keyLoaded d.keyId with
      | none, _ => s
      | some _, none => s.keyMissing job
      | some lane, some key =>
        let s := s.count 201 1 d.nsid
        match d.decode key.key fault with
        | .ok plain =>
          let s := s.retryPassed d
          (match s.readOfDecode job with
           | some (j, r) => s.blockPasses j r job d plain
           | none => { s with cmp := { s.cmp with jobs := tdel s.cmp.jobs job } })
        | .error r =>
          let s := s.verifyFailed d lane r
          if r != 1 && d.firstLane.isNone then { s with cmp := { s.cmp with jobs := tset s.cmp.jobs job { d with lane := none, firstLane := some lane } } }
          else s.decodeLost job d

/-- CMP_VERIFY_CLEAR (R372). -/
def execCmpVerifyClear (s : State) : Out := .next <| s.up <| s.defer .cmpClear

end Sys2Proof.Machine
end

