-- ==== Sys2Proof/Machine/Cipher.lean ====
section
/-!
DEFINITION. Machine/Cipher.lean: the KEYS family (chapter 13): Key Load, Key Destroy, Key Activate and its re-seal, cipher jobs, the
fall-back registers, the slot readout and the IV epoch.
-/

namespace Sys2Proof.Machine

/-! ### Loading keys -/

/-- The causes of R389 in the order of its table, as the key-load-failed event numbers them. -/
abbrev KeyCause.format : Nat := 1
abbrev KeyCause.tenant : Nat := 2
abbrev KeyCause.duplicate : Nat := 3
abbrev KeyCause.namespace' : Nat := 4
abbrev KeyCause.owner : Nat := 5
abbrev KeyCause.unwrap : Nat := 6

/-- Keys that a tenant holds, loads under way among them. -/
def State.keysHeld (s : State) (tenant : Nat) : Nat :=
  (s.cph.slots.filter fun p => keyTenant p.2.keyId == tenant).length + (s.cph.loads.filter fun l => keyTenant l.record.keyId == tenant).length

/-- A declared tenant of the running image. -/
def State.tenantOf (s : State) (t : Nat) : Option SecTenant := s.cfg.running.bind fun i => i.tenants.find? fun x => x.tenantId == t

/-- A declared namespace of the running image. -/
def State.nsSlotOf (s : State) (nsid : Nat) : Option SecNamespace := s.cfg.running.bind fun i => i.namespaces.find? fun x => x.nsid == nsid

/-- Does a record's usage fit the namespace that it names (R389)? -/
def State.keyFits (s : State) (r : KeyRecord) : Bool :=
  let own := (s.nsSlotOf r.nsid).filter fun n => n.tenant == keyTenant r.keyId
  if keyUsage r.keyId = 2 then r.nsid == 0
  else match own with
    | some n => if keyUsage r.keyId = 0 then n.nsType == 0 || n.nsType == 1 else n.nsType == 2
    | none => false

/-- Is a record's form wrong (R385, R387, R389 FORMAT)? The fall-back registers give no bytes but KEY_ID. -/
def keyFormBad (r : KeyRecord) (fallback : Bool) : Bool :=
  decide (r.keyId / 2 ^ 30 ≠ 0) || keyUsage r.keyId == 3 ||
    (!fallback && (r.magic != leNat (ascii "LXKB") || r.format != 1 || r.zeroes != 0 || decide (2 ≤ r.alg)))

/-- A slot that a fall-back key may be entered into again (R394): UNAVAILABLE, with an ALG 2 record. -/
def State.refillable (s : State) (id : Nat) : Option KeyRecord :=
  match s.keySlot id, tget s.cph.records id with
  | some (_, k), some r => if k.st == .unavailable && r.alg == 2 then some r else none
  | _, _ => none

/-- The first of the causes FORMAT to NAMESPACE for which a load is refused (R389, R394), and whether it is the quota that R96 bounds. -/
def State.keyCause (s : State) (r : KeyRecord) (fallback : Bool) : Option (Nat × Bool) :=
  let again := fallback && (s.refillable r.keyId).isSome
  if keyFormBad r fallback then some (KeyCause.format, false)
  else match s.tenantOf (keyTenant r.keyId) with
    | none => some (KeyCause.tenant, false)
    | some t =>
      if fallback && t.fallback = 0 then some (KeyCause.tenant, false)
      else if !again && decide (t.keyQuota ≤ s.keysHeld t.tenantId) then some (KeyCause.tenant, true)
      else if !again && ((s.keySlot r.keyId).isSome || s.cph.loads.any fun l => l.record.keyId == r.keyId) then some (KeyCause.duplicate, false)
      else if !s.keyFits r then some (KeyCause.namespace', false)
      else none

/-- The key of a wrapped record, or the cause OWNER or UNWRAP (R389). -/
def State.openRecord (s : State) (r : KeyRecord) : Except Nat Nat :=
  if 4 ≤ r.ownerSlot || !(s.idn.fuses.owners.getD r.ownerSlot OwnerFuse.blank).usable then .error KeyCause.owner
  else match s.unwrapKey r with
    | some k => .ok k
    | none => .error KeyCause.unwrap

/-- Raise key-load-failed with its cause (R389, R401); a quota is a bound of R96 too. -/
def State.keyRefused (s : State) (inst cause keyId : Nat) (bound : Bool) : State :=
  let s := (s.raise Ev.keyLoadFailed Sev.warning inst cause keyId 0).count 206 1 inst
  if bound then s.violation 0xC00000 2 else s

/-- A record is written to the shelf metadata stream; the load waits for it (R389). -/
def State.startLoad (s : State) (l : KeyPending) : State :=
  ({ s with cph := { s.cph with loads := s.cph.loads ++ [l] } } : State).mdWrite (.keyRecord l.record.keyId)

/-- KEY_LOAD (R387 to R389). -/
def execKeyLoad (ctrl cid : Nat) (record : KeyRecord) (s : State) : Out :=
  .next <| s.admin (.keyLoad ctrl cid record) ctrl cid (.mgmt (some RoleBit.keyOfficer)) fun s =>
    s.ifActive ctrl cid <|
      match s.keyCause record false with
      | some (c, bound) => (s.keyRefused 0 c record.keyId bound).replyErr ctrl cid St.invalidField
      | none => match s.openRecord record with
        | .error c => (s.keyRefused 0 c record.keyId false).replyErr ctrl cid St.invalidField
        | .ok key => s.startLoad { record := record, ctrl := ctrl, cid := cid, fbk := none, key := key }

/-- A fall-back load ends (R394): RESULT, GO clear, and the event where it failed. -/
def State.fbkEnd (s : State) (reg result keyId : Nat) : State :=
  let s := (s.wr Reg.CPH_FBK_CTL_GO reg 0 0).wr Reg.CPH_FBK_CTL_RESULT reg 0 result
  if result = 1 then s else s.keyRefused reg (if 6 ≤ result then result else result - 1) keyId false

/-- The record of a key load is durable (R389, R394): it is stored and mirrored, the slot is LOADED, and who asked is answered. -/
def State.keyDurable (s : State) (keyId : Nat) : State :=
  match s.cph.loads.find? fun l => l.record.keyId == keyId with
  | none => s
  | some l =>
    let s : State := { s with cph := { s.cph with records := tset s.cph.records keyId l.record, loads := s.cph.loads.filter fun x => x.record.keyId != keyId } }
    let s := ((s.fillSlot l.record (some l.key) 0).count 205 1 keyId).mirrorSend Peer.record 64 [0, keyId]
    match l.fbk with
    | some r => s.fbkEnd r 1 keyId
    | none => s.replyOk l.ctrl l.cid

/-- A load through a fall-back set, once GO is taken (R394). -/
def State.fbkLoad (s : State) (reg : Nat) : State :=
  let key := leNat ((List.range 8).flatMap fun w => leBytes 4 (s.rd Reg.CPH_FBK_KEY reg w))
  let s := foldIdx 8 (fun w s => s.wr Reg.CPH_FBK_KEY reg w 0) s
  let id := s.rd Reg.CPH_FBK_ID reg
  let r : KeyRecord := { magic := leNat (ascii "LXKB"), format := 1, alg := 2, ownerSlot := 0, zeroes := 0, keyId := id, nsid := s.rd Reg.CPH_FBK_NS reg, value := fallbackCheck key }
  match s.keyCause r true with
  | some (c, bound) =>
    let s := s.fbkEnd reg (c + 1) id
    if bound then s.violation 0xC00000 0 else s
  | none => match s.refillable id with
    | some old =>
      if old.value = fallbackCheck key then
        let refs := match s.keySlot id with
          | some (_, k) => k.refs
          | none => 0
        ((s.fillSlot old (some key) refs).count 205 1 id).fbkEnd reg 1 id
      else s.fbkEnd reg 6 id
    | none =>
      if s.cfg.state != .active then s.fbkEnd reg 8 id
      else (s.wr Reg.CPH_FBK_CTL_GO reg 0 1).startLoad { record := r, ctrl := 0, cid := 0, fbk := some reg, key := key }

/-- FALLBACK_KEY_LOAD (R394): from the service endpoint only, in SHELF_IDLE, RECOVERY, STANDBY and ACTIVE. -/
def execFallbackKeyLoad (writer : Writer) (reg : Nat) (s : State) : Out :=
  if 16 ≤ reg then .fault .noSuchUnit
  else .next <| s.up <|
    let allowed := writer == .endpoint && (s.cfg.state == .shelfIdle || s.cfg.state == .recovery || s.cfg.state == .standby || s.cfg.state == .active)
    if !allowed then (s.wr Reg.CPH_FBK_CTL_RESULT reg 0 7).violation (Reg.CPH_FBK_CTL_GO.off + 64 * reg) (writerCode writer)
    else if s.rd Reg.CPH_FBK_CTL_GO reg = 1 then s
    else s.fbkLoad reg

/-- KEY_DESTROY (R398). -/
def execKeyDestroy (ctrl cid keyId : Nat) (s : State) : Out :=
  .next <| s.admin (.keyDestroy ctrl cid keyId) ctrl cid (.mgmt (some RoleBit.keyOfficer)) fun s =>
    s.ifActive ctrl cid <|
      match s.keySlot keyId with
      | none => s.replyErr ctrl cid St.invalidField
      | some (_, k) =>
        if k.refs != 0 || s.cph.current.any fun p => p.2 == keyId then s.replyErr ctrl cid St.denied
        else s.mdWrite (.keyGone ctrl cid keyId)

/-- A key record is gone from the stream (R398): the slot is EMPTY on both canisters. -/
def State.keyErased (s : State) (keyId : Nat) : State :=
  let slots := s.cph.slots.filter fun p => p.2.keyId != keyId
  ({ s with cph := { s.cph with records := tdel s.cph.records keyId, slots := slots } } : State).keyStatus

/-! ### The current key and the re-seal -/

/-- Is Key Activate a bad request (R395, R396)? -/
def State.activateBad (s : State) (nsid keyId : Nat) (reseal : Bool) : Bool :=
  match s.nsSlotOf nsid, tget s.cph.records keyId, s.keyLoaded keyId with
  | some n, some r, some _ =>
    let tally := n.nsType == 2
    r.nsid != nsid || keyUsage keyId != (if tally then 1 else 0) || tally && (reseal || thas s.cph.current nsid)
  | _, _, _ => true

/-- KEY_ACTIVATE (R395 to R397): the canister's state is judged first, then a running re-seal. -/
def execKeyActivate (ctrl cid nsid keyId : Nat) (reseal : Bool) (s : State) : Out :=
  .next <| s.admin (.keyActivate ctrl cid nsid keyId reseal) ctrl cid (.mgmt (some RoleBit.keyOfficer)) fun s =>
    s.ifActive ctrl cid <|
      let busy := match s.cph.reseal with
        | some r => r.1 == nsid || reseal
        | none => false
      if busy then s.replyErr ctrl cid St.interrupted
      else if s.activateBad nsid keyId reseal then s.replyErr ctrl cid St.invalidField
      else (s.defer (.keyCurrent nsid keyId reseal)).mdWrite (.current ctrl cid nsid keyId)

/-- Extents of a namespace that hold a block under another key than the current one (R397). -/
def State.resealExtents (s : State) (nsid : Nat) : List Nat :=
  (s.lay.map.filter fun p => p.1 / 2 ^ 64 == nsid && p.2.mapped && (tgetD s.lay.heads (placeKey p.2) []).any fun k => some k != tget s.cph.current nsid).map fun p => p.1 % 2 ^ 64

/-- A key becomes current at a boundary, and its re-seal starts (R395, R397). -/
def State.keyCurrent (s : State) (nsid keyId : Nat) (reseal : Bool) : State :=
  let s : State := { s with cph := { s.cph with current := tset s.cph.current nsid keyId } }
  if !reseal then s
  else
    let xs := s.resealExtents nsid
    let s : State := { s with cph := { s.cph with reseal := some (nsid, xs, xs.length, 0) } }
    ((s.wr Reg.CPH_RESEAL_NSID 0 0 nsid).wr Reg.CPH_RESEAL_PERCENT 0 0 0).wr Reg.CPH_RESEAL_SKIPPED 0 0 0

/-- Is a re-seal's command for an extent in the table? -/
def State.resealing (s : State) : Bool := s.cmd.entries.any fun p => p.2.kind == .reseal

/-- The running re-seal takes its next extent (R397): with a write range-lock entry once nothing earlier overlaps, on a set that serves
reads, within the reshape class's credit. -/
def State.resealStep (s : State) : State :=
  match s.cph.reseal with
  | some (nsid, x :: xs, total, skipped) =>
    if s.resealing || s.cfg.state != .active || decide (s.axl.rsCredit ≤ 0) then s
    else
      let m := s.extent nsid x
      let next : State := ({ s with cph := { s.cph with reseal := some (nsid, xs, total, skipped) } } : State).wr Reg.CPH_RESEAL_PERCENT 0 0 ((total - xs.length) * 100 / max 1 total)
      if !(s.resealExtents nsid).contains x then next
      else if !s.setReads m.group then s
      else
        let io : Io := { ctrl := 0, cid := 0, qp := 0, nsid := nsid, slba := x * 256, nlb := 256 }
        let e := { CmdEnt.fresh io .reseal .other 0 s.now 0 with ranges := [(x * 256, 256)] }
        let seq := s.nextSeq
        if s.mustWait seq e then s
        else match (next.ioEnter e).takeLocks seq e with
          | none => s
          | some t =>
            let t := t.modEntry seq fun e => { e with admitted := true, pending := [x] }
            ({ t with axl := { t.axl with rsCredit := t.axl.rsCredit - (m.storedLen : Int) } } : State).startRead seq nsid x .reseal 0xFFFF
  | _ => s

/-- RESEAL_DONE (R397): the walk has ended. -/
def execResealDone (s : State) : Out :=
  .next <| match s.cph.reseal with
    | some (nsid, [], _, skipped) =>
      if s.resealing then s
      else
        let s : State := { s with cph := { s.cph with reseal := none } }
        ((s.wr Reg.CPH_RESEAL_NSID 0 0 0).wr Reg.CPH_RESEAL_PERCENT 0 0 100).raise Ev.reSealDone Sev.notice 0 0 skipped nsid
    | _ => s

/-! ### Cipher jobs -/

/-- Bytes of a BUFFER window from an offset on (R199). -/
def State.windowBytes (s : State) (w off n : Nat) : List Byte :=
  let l := tgetD s.win.lists w []
  (List.range n).map fun i =>
    match l[(off + i) / 65536]? with
    | some e => memRead s.dram (s.bufAddr e.buf + (off + i) % 65536)
    | none => 0

/-- Replace bytes of a BUFFER window. -/
def State.windowPut (s : State) (w off : Nat) (l : List Byte) : State :=
  let bufs := tgetD s.win.lists w []
  l.zipIdx.foldl (init := s) fun s b =>
    match bufs[(off + b.2) / 65536]? with
    | some e => { s with dram := memWrite s.dram (s.bufAddr e.buf + (off + b.2) % 65536) b.1 }
    | none => s

/-- Do the window checks of R206 fail for a job (R384)? The job reads and writes in place, for the tenant of its key; a BIND window is
bound to the address handle of the session's connection. -/
def State.jobDenied (s : State) (ctrl rkey offset length keyId : Nat) : Bool :=
  let d := s.window (keyIndex rkey)
  let handle := ((s.ctrlOf ctrl).bind fun c => (c.queues.find? fun q => q.1 == 0).bind fun q => s.qp? q.2).map (·.handle)
  decide (262144 ≤ keyIndex rkey) || d.st != .isOpen || keyTagOf rkey != d.keyTag || keyTenant keyId != d.tenant ||
    d.bind && handle != some d.handle || !d.remoteW || !d.remoteR || decide (d.length * 65536 < offset + length)

/-- CIPHER_JOB (R384). -/
def execCipherJob (ctrl cid rkey offset length keyId mode : Nat) (decrypt : Bool) (iv : Nat) (s : State) : Out :=
  .next <| s.admin (.cipherJob ctrl cid rkey offset length keyId mode decrypt iv) ctrl cid (.mgmt (some RoleBit.keyOfficer)) fun s =>
    let w := keyIndex rkey
    let bad := !(s.window w).buffer || length % 16 != 0 || decide (16 * 2 ^ 20 < length) || keyUsage keyId != 2 || decide (3 ≤ mode)
    if s.jobDenied ctrl rkey offset length keyId then s.replyErr ctrl cid St.accessDenied
    else match s.keyLoaded keyId with
      | none => s.replyErr ctrl cid St.invalidField
      | some k =>
        if bad then s.replyErr ctrl cid St.invalidField
        else
          let out := cipherMode mode decrypt k.key iv (s.windowBytes w offset length)
          ((s.windowPut w offset out).count 204 length w).replyOk ctrl cid

/-! ### Readout and epoch -/

/-- The data words of a key slot (CPH_SLOT_DATA). -/
def State.slotWords (s : State) (i : Nat) : List Nat :=
  match tget s.cph.slots i with
  | none => List.replicate 8 0
  | some k =>
    let st := match k.st with
      | .loaded => 1
      | .unavailable => 2
    let current := s.cph.current.any fun p => p.2 == k.keyId
    [k.keyId, k.nsid, st + 4 * b2n k.fallback + 8 * b2n current, k.refs % 2 ^ 32, k.refs / 2 ^ 32 % 256, k.turn % 2 ^ 32, 0, 0]

/-- KEY_SLOT_READ (R390, R656): the selected slot's metadata, never its key. -/
def execKeySlotRead (writer : Writer) (s : State) : Out :=
  .next <| s.acts writer Reg.CPH_SLOT_CTL_READ.off <|
    let words := s.slotWords (s.rd (Reg.CPH_SLOT_SEL.forWriter writer))
    let s := words.zipIdx.foldl (init := s) fun s x => s.wr (Reg.CPH_SLOT_DATA.forWriter writer) 0 x.2 x.1
    s.wr (Reg.CPH_SLOT_CTL_VALID.forWriter writer) 0 0 1

/-- IV_EPOCH_DURABLE (R381): sealing is allowed, with INVOCATION 0. -/
def execIvEpochDurable (s : State) : Out :=
  .next <|
    let c := s.cfg.canister
    if s.cph.sealing || s.cph.epoch ≤ tgetD s.cph.epochs c 0 then s
    else
      let s : State := { s with cph := { s.cph with sealing := true, invoc := 0, epochs := tset s.cph.epochs c s.cph.epoch }
                                fov := { s.fov with takeover := s.fov.takeover.map fun t => { t with epochDone := true } } }
      (s.wr Reg.CPH_STATUS_SEALING 0 0 1).wr Reg.CPH_INVOC 0 0 0

end Sys2Proof.Machine
end

