-- ==== Sys2Proof/Machine/LayRead.lean ====
section
/-!
DEFINITION. Machine/LayRead.lean: MEMBER_READ_DONE (R437 to R439, R447 to R449, R486 to R488): the bytes that the members return, which
of them can be had, and what a native version or a tally row makes of them.
-/

namespace Sys2Proof.Machine

/-! ### What can be had of a byte -/

/-- Is the unit of a position erased at an offset: its position (R486), a bad page, or damage that was found (R438)? -/
def State.unitLost (s : State) (g p row off : Nat) (reads : List RowRead) (erased : List Nat) (noP : Bool) : Bool :=
  let k := s.rowK g row
  s.unitErased g p row || noP && p == posP (k + 2) row ||
    (List.range k).any (fun d => posD (k + 2) row d == p && erased.contains (row * k + d)) ||
    (match reads.find? fun x => x.row == row with
     | some x => (match x.units[p]? with
       | some u => !u.ok || u.badPages.contains (pageOf off)
       | none => false)
     | none => false)

/-- Was the unit of a position read? -/
def unitRead (p row : Nat) (reads : List RowRead) : Bool :=
  match reads.find? fun x => x.row == row with
  | some x => decide (p < x.units.length)
  | none => false

/-- What can be had of a byte of a data unit (R487): 0 it is there, 1 other units have to be read, 2 not yet decided, 3 lost. -/
def State.byteFate (s : State) (g row d off : Nat) (reads : List RowRead) (erased : List Nat) (noP : Bool) : Nat :=
  if (s.dataByte g row d off reads erased noP).isSome then 0
  else
    let ps := List.range (s.rowK g row + 2)
    let gone := ps.filter fun p => s.unitLost g p row off reads erased noP
    if ps.any fun p => !gone.contains p && !unitRead p row reads then 1
    else if 2 < gone.length && (gone.filter fun p => (s.pos g p).st != .absent).length ≤ 2 then 2
    else 3

/-- The fate of a run of bytes: what has to be done first. -/
def worstFate (l : List Nat) : Nat := if l.contains 1 then 1 else if l.contains 2 then 2 else if l.contains 3 then 3 else 0

/-- The fate of the bytes `i` to `i + n − 1` of a version. -/
def State.rangeFate (s : State) (r : ReadJob) (reads : List RowRead) (i n : Nat) : Nat :=
  worstFate ((List.range n).map fun j =>
    let a := r.ent.addr + i + j
    let (row, _, d) := s.unitRow r.ent.group (a / 65536)
    s.byteFate r.ent.group row d (a % 65536) reads r.erased (r.stage == 2))

/-- Read the rest of the stripes of a read (R412, R438). -/
def State.readRest (s : State) (j : Nat) (r : ReadJob) : State :=
  let g := r.ent.group
  let all := (s.rowsOf r.ent).flatMap fun row => if (s.stripe g row).isSome then [] else (List.range (s.rowK g row + 2)).map fun p => (row, p)
  all.foldl (fun s u => s.readUnit g u.2 u.1) (s.setRead j { r with units := all })

/-! ### Native versions -/

/-- Does a read need a block of the version (R397, R427, R430, R437)? A lost block is never copied. -/
def State.needsBlock (s : State) (r : ReadJob) (b : SealedBlk) : Bool :=
  !bitOf r.ent.lostMask b.index &&
    (match r.use with
     | .host | .scrub | .replica => bitOf r.want b.index
     | .rewrite => (match s.entry r.seq with
       | some e => e.fateOf r.extent b != 1
       | none => false)
     | .compact | .reseal => true)

/-- Mask of the blocks of a list. -/
def maskOf (l : List SealedBlk) : Nat := blockMask l

/-- The units of a native version are there (R437 to R439, R487). -/
def State.nativeRead (s : State) (j : Nat) (r : ReadJob) (reads : List RowRead) : State :=
  let e := r.ent
  let hdr := 32 + 48 * popCount e.blockMask
  let missing := s.missingUnits e reads r.erased
  let s := if missing = [] then s else (s.bumpWrap Reg.LAY_ERASURE 0 0 missing.length).count 219 missing.length e.group
  match s.rangeFate r reads 0 hdr with
  | 1 => s.readRest j r
  | 2 => s.readFails j r St.interrupted
  | 3 => s.readLost j r e.blockMask
  | _ =>
    let bytes := (List.range e.storedLen).map fun i =>
      let a := e.addr + i
      let (row, _, d) := s.unitRow e.group (a / 65536)
      (s.dataByte e.group row d (a % 65536) reads r.erased (r.stage == 2)).getD 0
    match parseVersion bytes r.nsid r.extent e.version with
    | none => s.readRetry j r (unitsUnder e 0 hdr) e.blockMask
    | some blocks =>
      let placed := (blockStarts hdr blocks).map fun b => (b.1, s.rangeFate r reads b.2 b.1.bytes.length)
      let need := placed.filter fun b => s.needsBlock r b.1
      match worstFate (need.map (·.2)) with
      | 1 => s.readRest j r
      | 2 => s.readFails j r St.interrupted
      | 3 => s.readLost j r (maskOf ((need.filter fun b => b.2 == 3).map (·.1)))
      | _ => s.versionRead j r ((placed.filter fun b => b.2 == 0 && !bitOf e.lostMask b.1.index).map (·.1))

/-! ### Tally rows -/

/-- Bytes of a tally unit: data and tags (R447). -/
abbrev tallyUnit : Nat := 66560

/-- Offset in a tally unit of byte `i` of the 4,160 of an LBA: 4,096 data bytes, then the tag. -/
def tallyOff (l i : Nat) : Nat := if i < 4096 then l % 16 * 4096 + i else 65536 + l % 16 * 64 + (i - 4096)

/-- Record a lost range of a tally namespace (R488), up to 65,536 of them. -/
def State.tallyLose (s : State) (g nsid lba count : Nat) : State :=
  if s.lay.tallyLost.contains (nsid, lba, count) || decide (65536 ≤ s.lay.tallyLost.length) then s
  else
    let s : State := { s with lay := { s.lay with tallyLost := s.lay.tallyLost ++ [(nsid, lba, count)] } }
    (s.mdWrite (.record (.tallyLost nsid lba count))).raise Ev.extentLost Sev.error g 0 nsid lba

/-- The fate of an LBA of a tally row. -/
def State.lbaFate (s : State) (g row l : Nat) (reads : List RowRead) : Nat :=
  worstFate ((List.range 4160).map fun i => s.byteFate g row (l / 16) (tallyOff l i) reads [] false)

/-- The 4,160 stored bytes of an LBA of a tally row; a byte that cannot be had is 0. -/
def State.lbaBytes (s : State) (g row l : Nat) (reads : List RowRead) : List Byte :=
  (List.range 4160).map fun i => (s.dataByte g row (l / 16) (tallyOff l i) reads [] false).getD 0

/-- Sectors that the cipher takes in this Turn (R376). -/
def State.tallySectors (s : State) : Nat := ceilDiv s.cph.tallyCredit 4096

/-- Charge tally sectors to the cipher's credit (R376). -/
def State.chargeTally (s : State) (n nsid : Nat) : State :=
  let s : State := { s with cph := { s.cph with tallyCredit := s.cph.tallyCredit - n * 4096 } }
  (s.bumpWrap Reg.CPH_TALLY_BYTES 0 0 (n * 4096)).count 203 (n * 4096) nsid

/-- Is the current key of a namespace LOADED; its key? -/
def State.currentKey (s : State) (nsid : Nat) : Option KeySlot := (tget s.cph.current nsid).bind s.keyLoaded

/-- LBAs of a row in a mask. -/
def lbasIn (m : Nat) : List Nat := (List.range 160).filter (bitOf m)

/-- The units of a host read of a tally row are there (R376, R383, R449, R487): the sectors are decrypted as the credit allows, the rest
waits for the next boundary; nothing is checked. -/
def State.tallyHostRead (s : State) (j : Nat) (r : ReadJob) (reads : List RowRead) : State :=
  let g := r.ent.group
  let row := r.extent
  let ls := lbasIn r.want
  let fates := ls.map fun l => (l, s.lbaFate g row l reads)
  match worstFate (fates.map (·.2)), s.currentKey r.nsid with
  | 1, _ => s.readRest j r
  | 2, _ => s.readFails j r St.interrupted
  | 3, _ => ((fates.filter fun f => f.2 == 3).foldl (fun s f => s.tallyLose g r.nsid (row * 160 + f.1) 1) s).readFails j r St.unrecovered
  | _, none => s.readFails j r St.unrecovered
  | _, some key =>
    let now := ls.take s.tallySectors
    let s := now.foldl (init := s) fun s l =>
      let b := s.lbaBytes g row l reads
      let plain := tallyDecrypt key.key (row * 160 + l) (b.take 4096) ++ b.drop 4096
      s.modEntry r.seq fun e => { e with out := memWriteList e.out ((row * 160 + l - e.io.slba) * 4160) plain }
    let s := s.chargeTally now.length r.nsid
    let r := { r with want := now.foldl (fun m l => setBitOf m l false) r.want }
    if r.want = 0 then ((s.setRead j r).endRead j).extentRead r.seq r.extent
    else (s.setRead j r).defer (.command (.memberReadDone j reads))

/-- Change the tally job of a command and row. -/
def State.modTally (s : State) (seq row : Nat) (f : TallyJob → TallyJob) : State :=
  { s with jnl := { s.jnl with tallies := s.jnl.tallies.map fun t => if t.seq == seq && t.row == row then f t else t } }

/-- The 4,160 bytes that a tally command writes to an LBA (R383): the data encrypted, the tag as it came. -/
def CmdEnt.tallySector (e : CmdEnt) (key lba : Nat) : List Byte :=
  let b := memReadList e.out ((lba - e.io.slba) * 4160) 4160
  tallyEncrypt key lba (b.take 4096) ++ b.drop 4096

/-- Put the new bytes of one LBA into a job and fold them into P and Q (R448): P' = P ⊕ D ⊕ D', Q' = Q ⊕ g^d·(D ⊕ D'). -/
def TallyJob.put (t : TallyJob) (l : Nat) (old new : List Byte) : TallyJob :=
  (new.zip old).zipIdx.foldl (init := t) fun t x =>
    let o := tallyOff l x.2
    let diff := x.1.1 ^^^ x.1.2
    { t with data := memWrite t.data (l / 16 * tallyUnit + o) x.1.1, p := memWrite t.p o (memRead t.p o ^^^ diff), q := memWrite t.q o (memRead t.q o ^^^ gfMul (gfGen (l / 16)) diff) }

/-- The whole row of a replayed tally record is there (R448, R479): the record's sectors lie over what the members hold, and P and Q are
computed from the whole row; a byte that cannot be had counts as zero. -/
def State.tallyRedoRead (s : State) (j : Nat) (r : ReadJob) (reads : List RowRead) : State :=
  let g := r.ent.group
  let row := r.extent
  let ls := lbasIn r.want
  match worstFate (ls.map fun l => s.lbaFate g row l reads) with
  | 1 => s.readRest j r
  | _ =>
    (s.endRead j).modTally 0 row fun t =>
      (List.range 160).foldl (init := { t with step := 2 }) fun u l =>
        let b := if bitOf t.enc l then (List.range 4160).map fun i => memRead t.data (l / 16 * tallyUnit + tallyOff l i) else s.lbaBytes g row l reads
        u.put l (List.replicate 4160 0) b

/-- The old sectors and the parity of a row are there (R448 steps 1 and 2); an old sector that is lost counts as zeros, for the write covers
it. -/
def State.tallyOldRead (s : State) (j : Nat) (r : ReadJob) (reads : List RowRead) : State :=
  let g := r.ent.group
  let row := r.extent
  let ls := lbasIn r.want
  match worstFate (ls.map fun l => s.lbaFate g row l reads), s.entry r.seq, s.currentKey r.nsid with
  | 1, _, _ => s.readRest j r
  | 2, _, _ => s.readFails j r St.interrupted
  | _, some e, some key =>
    let parity := fun (p o : Nat) => (s.memberByte g p row o reads).getD 0
    let offs := ls.flatMap fun l => (List.range 4160).map (tallyOff l)
    let fill := fun (p : Nat) => offs.foldl (fun m o => memWrite m o (parity p o)) ([] : Mem)
    let t0 : TallyJob → TallyJob := fun t => { t with step := 2, p := fill (posP 12 row), q := fill (posQ 12 row) }
    (s.endRead j).modTally r.seq row fun t =>
      ls.foldl (fun t l => t.put l (s.lbaBytes g row l reads) (e.tallySector key.key (row * 160 + l))) (t0 t)
  | _, _, _ => s.readFails j r St.internal

/-- MEMBER_READ_DONE (R437): the reads of a waiting job end. -/
def execMemberReadDone (job : Nat) (rows : List RowRead) (s : State) : Out :=
  .next <| match tget s.lay.reads job with
    | none => s
    | some r =>
      if r.waiting || r.decoding != [] then s
      else if !(s.grp r.ent.group).tally then s.nativeRead job r rows
      else match r.use with
        | .rewrite => if r.seq = 0 then s.tallyRedoRead job r rows else s.tallyOldRead job r rows
        | .host | .compact | .reseal | .scrub | .replica => s.tallyHostRead job r rows

end Sys2Proof.Machine
end

