-- ==== Sys2Proof/Machine/Layout.lean ====
section
/-!
DEFINITION. Machine/Layout.lean: the LAYOUT family (chapter 14): placing versions, closing and writing stripes, compaction, power sets,
and the shelf metadata stream.
-/

namespace Sys2Proof.Machine

/-! ### Placing versions -/

/-- Group-full and its end (R431). -/
def State.fullCheck (s : State) (g : Nat) : State :=
  let x := s.grp g
  if !x.declared || x.tally then s
  else
    let low := !s.roomIn g
    if low && !x.full then (s.modGrp g fun x => { x with full := true }).raise Ev.groupFull Sev.warning g 0 x.freeRows 0
    else if !low && x.full then s.modGrp g fun x => { x with full := false }
    else s

/-- May a version that is placed again go to its own group (R425, R430, R431)? It may use the reserve. -/
def State.reusable (s : State) (g : Nat) : Bool :=
  let x := s.grp g
  x.declared && !x.tally && (s.pset x.set).st == .on && decide (s.failedForAppend g < 2) && decide (0 < x.freeRows) &&
    (match s.axl.reshape with
     | some r => r.group != g || r.st == .preparing
     | none => true)

/-- The group that a version goes to (R419, R425, R430). -/
def State.groupFor (s : State) (y : Gathering) : Option Nat :=
  match y.again with
  | some e => if s.reusable e.group then some e.group else s.nextGroup
  | none => s.nextGroup

/-- The sealed blocks that a gathering expects, with the keys of their staged records; none while one is missing. -/
def State.sealedOf (s : State) (y : Gathering) : Option (List (Nat × SealedBlk)) :=
  y.expect.foldr (init := some []) fun i acc =>
    let hit := s.win.blocks.find? fun p => p.2.place == .sealed && p.2.owner.any fun o => o.seq == y.seq && o.nsid == y.nsid && o.extent == y.extent && o.index == i
    match acc, hit with
    | some l, some (k, b) => match b.owner with
      | some o => some ((k, { index := i, raw := b.raw, sectors := o.sectors, first := o.firstSector, keyId := b.keyId, crc := b.crc, iv := b.iv, tag := b.tag, bytes := b.stored }) :: l)
      | none => none
    | _, _ => none

/-- Insert a block into a list in ascending block index (R413). -/
def insertBlk (b : SealedBlk) : List SealedBlk → List SealedBlk
  | [] => [b]
  | c :: l => if b.index ≤ c.index then b :: c :: l else c :: insertBlk b l

/-- Release the chains of blocks that layout has copied (R304, R420). -/
def State.releaseChains (s : State) (ks : List Nat) : State :=
  let chains := ks.filterMap fun k => (tget s.win.blocks k).bind (·.chain)
  ({ s with win := { s.win with blocks := s.win.blocks.filter fun p => !ks.contains p.1 } } : State).decrefs chains

/-- Drop a gathering. -/
def State.dropGathering (s : State) (y : Gathering) : State := { s with lay := { s.lay with gathering := s.lay.gathering.filter fun z => !(z == y) } }

/-- Place a version whose blocks are all at hand, or let it wait for a parity slot or behind the fence (R420, R421, R589). -/
def State.tryPlace (s : State) (y : Gathering) (sealed' : List (Nat × SealedBlk)) (parityEcc : Bool) : State :=
  let blocks := (y.copied ++ sealed'.map (·.2)).foldl (fun l b => insertBlk b l) []
  match s.groupFor y with
  | none => s
  | some g => match s.placeAt g (storedLen blocks) with
    | .error true => { s with lay := { s.lay with gathering := s.lay.gathering.map fun z => if z == y && z.slotWait.isNone then { z with slotWait := some s.clock } else z } }
    | .error false => s
    | .ok addr =>
      let row := addr / (65536 * (s.grp g).k)
      let s := (s.placeVersion g addr y blocks).releaseChains (sealed'.map (·.1))
      let full := s.lay.stripes.any fun x => x.group == g && x.row == row && x.st != .opened
      let s := if parityEcc && full then s.raise Ev.paritySramEcc Sev.error g 0 row 0 else s
      s.fullCheck g

/-- VERSION_PLACE (R411, R420, R426): a version that is placed again is dropped where the map entry has changed since (R430). -/
def execVersionPlace (seq nsid extent : Nat) (parityEcc : Bool) (s : State) : Out :=
  .next <| match s.lay.gathering.find? fun y => y.seq == seq && y.nsid == nsid && y.extent == extent with
    | none => s
    | some y =>
      let stale := match y.again with
        | some e => !s.sameVersion nsid extent e
        | none => false
      if stale then (s.dropGathering y).settle
      else if y.reading then s
      else match s.sealedOf y with
        | none => s
        | some l => if y.copied = [] && l = [] then s else s.tryPlace y l parityEcc

/-! ### Stripes -/

/-- The gather hold in Turns: 4,096 is written as 0 (R422, LAY_CFG). -/
def State.gatherTurns (s : State) : Nat := let v := s.rd Reg.LAY_CFG_GATHER_HOLD; if v = 0 then 4096 else v

/-- GATHER_HOLD_EXPIRY (R422, R466, R467). -/
def execGatherHoldExpiry (group row : Nat) (s : State) : Out :=
  .next <| match s.stripe group row with
    | none => s
    | some x => if x.st == .opened && due x.hold s.gatherTurns s.clock then s.gatherHold group row else s

/-- Close a stripe by padding and judge it (R423, R424). -/
def State.closeStripe (s : State) (g row : Nat) : State := ((s.padStripe g row).checkStripe g row).fullCheck g

/-- CLOSE_HOLD_EXPIRY (R423). -/
def execCloseHoldExpiry (group row : Nat) (s : State) : Out :=
  .next <| match s.stripe group row with
    | none => s
    | some x => if x.st == .opened && expired x.first (s.rd Reg.LAY_CLOSE_HOLD) s.clock then s.closeStripe group row else s

/-- The oldest open stripe on the device. -/
def State.oldestStripe (s : State) : Option Stripe :=
  s.openStripes.foldl (init := none) fun best x => match best with
    | none => some x
    | some b => if x.first < b.first then some x else some b

/-- PARITY_SLOT_WAIT_TIMEOUT (R421). -/
def execParitySlotWaitTimeout (seq nsid extent : Nat) (s : State) : Out :=
  .next <| match s.lay.gathering.find? fun y => y.seq == seq && y.nsid == nsid && y.extent == extent with
    | none => s
    | some y =>
      if due y.slotWait 16 s.clock then
        let s : State := { s with lay := { s.lay with gathering := s.lay.gathering.map fun z => if z == y then { z with slotWait := some s.clock } else z } }
        match s.oldestStripe with
        | some x => s.closeStripe x.group x.row
        | none => s
      else s

/-- A write of a native stripe ends (R424, R425, R317, R529): an error sends the member to the ladder and leaves its unit to a resync. -/
def State.stripeWrite (s : State) (g row p : Nat) (ok : Bool) : State :=
  match s.stripe g row with
  | none => s
  | some x =>
    if !x.outstanding.contains p then s
    else
      let slot := (s.pos g p).slot
      let s := s.modStripe g row fun x => { x with outstanding := x.outstanding.filter (· != p), okWrites := if ok then x.okWrites + 1 else x.okWrites }
      let s := if ok then s.cacheWritten slot (s.unitAddr g p row) else ((s.cacheForget slot (s.unitAddr g p row)).markDirty g p row).enterLadder slot 2
      (s.checkStripe g row).settle

/-- Writes outstanding to a position will not complete (R436, R530): its member has left the ready members of its group. -/
def State.dropTargets (s : State) (g p : Nat) : State :=
  let hit := s.lay.stripes.filter fun x => x.group == g && x.outstanding.contains p
  let s := hit.foldl (init := s) fun s x =>
    let s := s.modStripe g x.row fun x => { x with outstanding := x.outstanding.filter (· != p) }
    (((s.cacheForget (s.pos g p).slot (s.unitAddr g p x.row)).markDirty g p x.row).checkStripe g x.row)
  if hit = [] then s else s.settle

/-! ### Tally rows (R448) -/

/-- The positions that a job writes: the units that it changes, P and Q, where their members are written. -/
def State.tallyTargets (s : State) (t : TallyJob) : List Nat × List Nat :=
  let ds := (List.range 10).filter fun d => decide (t.first < 16 * d + 16) && decide (16 * d < t.first + t.count)
  let ps := ds.map (posD 12 t.row) ++ [posP 12 t.row, posQ 12 t.row]
  (ps.filter (s.unitWritten t.group), ps.filter fun p => !s.unitWritten t.group p)

/-- The in-place writes of a job are issued (R448 step 4, R491, R317): the rows of a position that is pending are walked first (R496). -/
def State.tallyIssue (s : State) (t : TallyJob) : State :=
  let pending := (List.range 12).any fun p => (s.pos t.group p).rowPending t.row
  if pending then
    { s with axl := { s.axl with walks := tmod s.axl.walks t.group fun w => if w.issued then w else { w with row := t.row } } }
  else
    let (dest, missed) := s.tallyTargets t
    let s := missed.foldl (fun s p => s.markDirty t.group p t.row) s
    let s := dest.foldl (init := s) fun s p =>
      let slot := (s.pos t.group p).slot
      (s.cacheDirty slot (s.unitAddr t.group p t.row) 6).writeUnit t.group p t.row
    s.modTally t.seq t.row fun t => { t with step := 3, outstanding := dest }

/-- Ranges of a tally namespace that a write covers whole are lost no more (R488). -/
def State.tallyHeal (s : State) (nsid lba count : Nat) : State :=
  { s with lay := { s.lay with tallyLost := s.lay.tallyLost.filter fun l => !(l.1 == nsid && decide (lba ≤ l.2.1) && decide (l.2.1 + l.2.2 ≤ lba + count)) } }

/-- A job's command has its row durable (R448, R462). -/
def State.tallyTell (s : State) (t : TallyJob) : State :=
  let nsid := (s.grp t.group).nsid
  (((s.modTally t.seq t.row fun t => { t with told := true }).tallyHeal nsid (t.row * 160 + t.first) t.count).markReplica nsid t.row).extentDone t.seq t.row

/-- A job ends: its record is live no more (R468). -/
def State.tallyEnd (s : State) (t : TallyJob) : State :=
  let s : State := { s with jnl := { s.jnl with tallies := s.jnl.tallies.filter fun x => !(x.seq == t.seq && x.row == t.row) } }
  s.dropRecords fun r => some r.seq == t.record || (r.reseed && (r.type == .tally || r.type == .tallyIntent) && r.group == t.group && r.row == t.row)

/-- Judge a job whose writes changed (R424, R448): whole rows are told at w − 1 writes; with no write outstanding the job ends, and a whole
row that reached fewer members ends its command with Command Interrupted. -/
def State.tallyJudge (s : State) (t : TallyJob) : State :=
  let s := if t.whole && !t.told && decide (11 ≤ t.okWrites) then s.tallyTell t else s
  if t.outstanding != [] then s
  else
    let s := s.tallyEnd t
    if t.whole && decide (t.okWrites < 11) then s.failCmd t.seq St.interrupted else s

/-- A write of a tally row ends. -/
def State.tallyWrite (s : State) (g row p : Nat) (ok : Bool) : State :=
  match s.jnl.tallies.find? fun t => t.group == g && t.row == row && t.step == 3 && t.outstanding.contains p with
  | none => s
  | some t =>
    let slot := (s.pos g p).slot
    let t := { t with outstanding := t.outstanding.filter (· != p), okWrites := if ok then t.okWrites + 1 else t.okWrites }
    let s := s.modTally t.seq row fun _ => t
    let s := if ok then s.cacheWritten slot (s.unitAddr g p row) else ((s.cacheForget slot (s.unitAddr g p row)).markDirty g p row).enterLadder slot 2
    s.tallyJudge t

/-- STRIPE_WRITE_DONE (R424, R448). -/
def execStripeWriteDone (group row position : Nat) (ok : Bool) (s : State) : Out :=
  .next <| if (s.grp group).tally then s.tallyWrite group row position ok else s.stripeWrite group row position ok

/-! ### Compaction -/

/-- Is a group short of free rows (R430)? -/
def State.needsCompaction (s : State) (g : Nat) : Bool :=
  let x := s.grp g
  x.declared && !x.tally && (s.pset x.set).st == .on && decide (x.freeRows < x.rows * s.rd Reg.LAY_CFG_COMPACT_PCT / 100)

/-- COMPACTION_START (R430). -/
def execCompactionStart (group : Nat) (s : State) : Out :=
  if 8 ≤ group then .fault .noSuchUnit
  else .next <| if s.needsCompaction group && s.serving && (s.grp group).compacting.isNone then
      (s.modGrp group fun x => { x with compacting := some x.tailSeg }).layStatus
    else s

/-- The versions that begin in a segment of a group and that map entries point at. -/
def State.versionsOfSeg (s : State) (g seg : Nat) : List (Nat × MapEnt) :=
  s.lay.map.filter fun p => p.2.mapped && p.2.group == g && s.rowOf p.2 / 256 == seg

/-- The next step of a group's compaction (R430, R499): one version is read at a time within the reshape credit; the tail segment is done
when no map entry points into it, and compaction stops at COMPACT_PCT + RESERVE_PCT. -/
def State.compactStep (s : State) (g : Nat) : State :=
  let x := s.grp g
  match x.compacting with
  | none => s
  | some seg =>
    let enough := decide (x.rows * (s.rd Reg.LAY_CFG_COMPACT_PCT + s.rd Reg.LAY_CFG_RESERVE_PCT) / 100 < x.freeRows)
    if enough || (s.pset x.set).st != .on || !s.serving then (s.modGrp g fun x => { x with compacting := none }).layStatus
    else
      let busy := (s.lay.reads.any fun p => p.2.use == .compact && p.2.ent.group == g) || s.lay.gathering.any fun y => y.seq == 0 && y.again.any fun e => e.group == g
      match s.versionsOfSeg g seg with
      | [] => if x.tailSeg = seg then s else s.modGrp g fun x => { x with compacting := some x.tailSeg }
      | (k, e) :: _ =>
        if busy || decide (s.axl.rsCredit ≤ 0) || s.cfg.state != .active then s
        else
          let s : State := { s with axl := { s.axl with rsCredit := s.axl.rsCredit - (e.storedLen : Int) } }
          (s.count 224 e.storedLen g).startRead 0 (k / 2 ^ 64) (k % 2 ^ 64) .compact 0xFFFF

/-! ### Power sets -/

/-- Is a set defined: does it hold a group or spare? -/
def State.setDefined (s : State) (n : Nat) : Bool := (s.setSlots n) != []

/-- Slots of a set that are not ready. -/
def State.notReady (s : State) (n : Nat) : List Nat := (s.setSlots n).filter fun i => (s.slot i).st != .ready

/-- SET_READY_TIMEOUT (R433, R484, R687): the set becomes ON, and members not ready are declared failed, or absent where no drive is
there. -/
def execSetReadyTimeout (set : Nat) (s : State) : Out :=
  if 8 ≤ set then .fault .noSuchUnit
  else .next <|
    let x := s.pset set
    if x.st == .powering && due x.armed (turnsOfSec (2 * s.rd Reg.LAY_CFG_READY_TIMEOUT)) s.clock then
      let late := s.notReady set
      let s := s.setOn set (if late = [] then none else some (late.foldl (fun m i => setBitOf m i true) 0))
      late.foldl (init := s) fun s i => match s.posOfSlot i with
        | some (g, p) => if (s.pos g p).st == .failed || (s.pos g p).st == .absent then s else s.posTo g p (if (s.slot i).st == .empty then .absent else .failed)
        | none => s
    else s

/-- What keeps a set busy (R435): an open stripe, a walk, a reshape, compaction, scrub or a read on one of its groups. -/
def State.setBusy (s : State) (n : Nat) : Bool :=
  (s.setGroups n).any fun g =>
    (s.lay.stripes.any fun x => x.group == g) || thas s.axl.walks g || thas s.axl.scrubs g || (s.grp g).compacting.isSome ||
      (s.lay.reads.any fun p => p.2.ent.group == g) || (s.jnl.tallies.any fun t => t.group == g) ||
      (match s.axl.reshape with
       | some r => r.group == g
       | none => false)

/-- SET_IDLE_TIMEOUT (R435): IDLE_OFF of 0 never stops a set. -/
def execSetIdleTimeout (set : Nat) (s : State) : Out :=
  if 8 ≤ set then .fault .noSuchUnit
  else .next <|
    let m := (s.layoutSec.map (·.idleOff)).getD 10
    let x := s.pset set
    if x.st == .on && m != 0 && !s.setBusy set && expired x.lastUse (turnsOfSec (60 * m)) s.clock && s.serving then s.defer (.setStop set SetCause.idle) else s

/-- Answer a LAY_SET_CTL request. -/
def State.setResult (s : State) (set r : Nat) : State :=
  ((s.wr Reg.LAY_SET_CTL_SET 0 0 set).wr Reg.LAY_SET_CTL_ON 0 0 0).wr Reg.LAY_SET_CTL_OFF 0 0 0 |>.wr Reg.LAY_SET_CTL_RESULT 0 0 r

/-- A request for a set that LAYOUT does not define (R96). -/
def State.setUnknown (s : State) (set : Nat) (writer : Writer) : State := (s.setResult set 2).violation Reg.LAY_SET_CTL_SET.off (writerCode writer)

/-- SET_POWER_ON_REQUEST (R434, R435). -/
def execSetPowerOnRequest (writer : Writer) (set : Nat) (s : State) : Out :=
  if 8 ≤ set then .fault .noSuchUnit
  else .next <| s.acts writer Reg.LAY_SET_CTL_SET.off <|
    if s.cfg.state != .active then s.setResult set 6
    else if !s.setDefined set then s.setUnknown set writer
    else match (s.pset set).st with
      | .on | .powering => s.setResult set 4
      | .off | .stopping => (s.requestSet set SetCause.management).setResult set 1

/-- Does a rebuild, reshape or self-test run on a set (R435)? -/
def State.setHeld (s : State) (n : Nat) : Bool :=
  (s.setGroups n).any fun g =>
    thas s.axl.walks g ||
      (match s.axl.reshape with
       | some r => r.group == g
       | none => false) ||
      thas s.axl.scrubs g

/-- SET_STOP_REQUEST (R435). -/
def execSetStopRequest (writer : Writer) (set : Nat) (s : State) : Out :=
  if 8 ≤ set then .fault .noSuchUnit
  else .next <| s.acts writer Reg.LAY_SET_CTL_SET.off <|
    if s.cfg.state != .active then s.setResult set 6
    else if !s.setDefined set then s.setUnknown set writer
    else match (s.pset set).st with
      | .off | .stopping => s.setResult set 4
      | .powering => if s.setHeld set then s.setResult set 3 else (s.modSet set fun x => { x with stopHeld := true }).setResult set 1
      | .on => if s.setHeld set then s.setResult set 3 else (s.defer (.setStop set SetCause.management)).setResult set 1

/-- A set starts to stop at a boundary (R436 steps 1 and 2). -/
def State.beginStop (s : State) (n cause : Nat) : State :=
  if (s.pset n).st != .on then s
  else
    let s := s.modSet n fun x => { x with st := .stopping, step := 2, cause := cause, again := false }
    let gs := s.setGroups n
    (s.openStripes.filter fun x => gs.contains x.group).foldl (fun s x => s.closeStripe x.group x.row) s

/-- Have steps 2 and 3 of a stop ended (R436)? -/
def State.stopDrained (s : State) (n : Nat) : Bool :=
  let gs := s.setGroups n
  !(s.lay.stripes.any fun x => gs.contains x.group && (x.st == .opened || x.outstanding != [])) &&
    !(s.lay.reads.any fun p => gs.contains p.2.ent.group && !p.2.waiting) && !(s.jnl.tallies.any fun t => gs.contains t.group && t.step == 3)

/-- SET_STOP_WRITES_DONE (R436 step 4): the members get the shutdown notification at the next boundary. -/
def execSetStopWritesDone (set : Nat) (s : State) : Out :=
  if 8 ≤ set then .fault .noSuchUnit
  else .next <|
    let x := s.pset set
    if x.st == .stopping && x.step = 2 && s.stopDrained set then (s.modSet set fun x => { x with step := 3 }).defer (.setShutdown set) else s

/-- Steps 4 and 5 of a stop (R436): the set's demand goes, and the slots stop in order, but for the anchors'. -/
def State.shutdownSet (s : State) (n : Nat) : State :=
  let x := s.pset n
  if x.st == .stopping && x.step = 3 then (s.modSet n fun x => { x with step := 4 }).updateDemand else s

/-- A stopping set is OFF once the channels of its slots are off (R436 step 5). -/
def State.stopStep (s : State) (n : Nat) : State :=
  let x := s.pset n
  let on := (s.setSlots n).any fun i => !s.anchorSlots.contains i && ((s.chan i).st == .on || (s.chan i).st == .stopping || (s.chan i).st == .starting)
  if x.st == .stopping && decide (4 ≤ x.step) && !on then s.setOff n x.cause else s

/-- A set whose members are ready becomes ON (R433). -/
def State.readyStep (s : State) (n : Nat) : State := if (s.pset n).st == .powering && s.setReady n then s.setOn n none else s

/-- Report the power sets (LAY_SET_STATUS). -/
def State.setStatus (s : State) : State :=
  let code := fun (n : Nat) => match (s.pset n).st with
    | .off => 0
    | .powering => 1
    | .on => 2
    | .stopping => 3
  let v := foldIdx 8 (fun n a => a + code n * 4 ^ n) 0
  let s := s.wr { Reg.LAY_SET_STATUS_STATE_0 with width := 16 } 0 0 v
  s.wr Reg.LAY_SET_STATUS_AUTO 0 0 (foldIdx 8 (fun n a => if (s.pset n).auto then a + 2 ^ n else a) 0)

/-! ### The shelf metadata stream -/

/-- Write a delta batch (R443, R469). -/
def State.writeBatch (s : State) : State :=
  let t := s.trailerNow
  let ds := s.lay.deltas
  let n := 48 * ds.length + 128
  let s : State := { s with lay := { s.lay with deltas := [], batches := s.lay.batches + 1, lastBatch := s.clock, logSince := s.lay.logSince + n, logPos := s.lay.logPos + n } }
  ((s.mdWrite (.batch ds t)).emit .store [2, ds.length, t.batch]).count 226 1 0

/-- DELTA_BATCH_WRITE (R443): once every 64 Turns, by the canister that may write the stream. -/
def execDeltaBatchWrite (s : State) : Out :=
  .next <| if s.serving && decide (s.lay.lastBatch + 64 ≤ s.clock) then s.writeBatch else s

/-- CHECKPOINT_START (R444, R589): 512 MiB of deltas since the last one began, none running, and no fence. -/
def execCheckpointStart (s : State) : Out :=
  .next <|
    if s.serving && s.lay.ckptRun.isNone && s.lay.fence.isNone && decide (512 * 2 ^ 20 ≤ s.lay.logSince) then
      let s : State := { s with lay := { s.lay with ckptRun := some (s.now, s.lay.logPos), logSince := 0 } }
      (s.wr Reg.LAY_CKPT_BUSY 0 0 1).wr Reg.LAY_CKPT_PERCENT 0 0 0
    else s

/-- CHECKPOINT_DONE (R444): the area that did not hold the newest complete checkpoint holds it now. -/
def execCheckpointDone (s : State) : Out :=
  .next <| match s.lay.ckptRun with
    | none => s
    | some (turn, pos) =>
      let area := match s.lay.ckptDone with
        | some (a, _, _) => 1 - a
        | none => 0
      let s : State := { s with lay := { s.lay with ckptRun := none, ckptDone := some (area, turn, pos), logPos := s.lay.logPos - pos } }
      let s := (s.wr Reg.LAY_CKPT_BUSY 0 0 0).wr Reg.LAY_CKPT_PERCENT 0 0 100
      let s := (s.wr Reg.LAY_CKPT_AREA 0 0 area).wr Reg.LAY_CKPT_TURN 0 0 (turn % 65536)
      (s.count 227 1 area).emit .store [4, area, turn]

/-- The map as the stream gives it, after a batch. -/
def streamApply (m : Tbl MapEnt) (ds : List Delta) : Tbl MapEnt := ds.foldl (fun m d => tset m (extKey d.nsid d.extent) d.ent) m

/-- Is a delta in the stream: does the stream hold its extent in this version or a later one? -/
def inStream (m : Tbl MapEnt) (d : Delta) : Bool :=
  match tget m (extKey d.nsid d.extent) with
  | some e => decide (d.ent.version ≤ e.version)
  | none => false

/-- Send deltas to the standby, 42 to a message (R579, R582); the fuel bounds the messages. -/
def State.mirrorDeltas : Nat → List Delta → State → State
  | 0, _, s => s
  | n + 1, ds, s => match ds with
    | [] => s
    | _ =>
      let now := ds.take 42
      State.mirrorDeltas n (ds.drop 42) (s.mirrorSend Peer.mapDelta (48 * now.length) (now.flatMap fun d => [d.nsid, d.extent]))

/-- A delta batch is committed (R443, R468, R469, R582). -/
def State.batchDone (s : State) (ds : List Delta) (t : Trailer) : State :=
  let m := streamApply s.lay.stream ds
  let s : State := { s with lay := { s.lay with stream := m }, jnl := { s.jnl with trailer := some t, recs := s.jnl.recs.map fun r => { r with batched := r.batched || r.deltas.all (inStream m) } } }
  ((State.mirrorDeltas (ds.length / 42 + 1) ds s).mirrorSend Peer.trailer 128 [t.tailSeq, t.batch]).settle

/-- The number of a metadata record's kind in the record of outputs. -/
def recordKind : MdRecord → Nat
  | .key _ => 0
  | .keyGone _ => 1
  | .currentKey _ _ => 2
  | .lost _ _ _ _ _ _ => 3
  | .marker _ _ _ => 4
  | .position _ _ _ _ _ _ => 5
  | .anchor _ _ _ => 6
  | .groupWidth _ _ => 7
  | .reshape _ _ _ _ => 8
  | .setStates _ => 9
  | .namespaceRec _ _ _ _ _ => 10
  | .replicaBit _ _ _ => 11
  | .ivEpoch _ => 12
  | .tallyLost _ _ _ => 13

/-- METADATA_WRITE_DONE (R442): the oldest outstanding write of the stream is on the anchors, and what waited for it goes on; the standby takes
records once they are durable (R582). -/
def execMetadataWriteDone (s : State) : Out :=
  .next <| match s.lay.writes with
    | [] => s
    | w :: rest =>
      let s : State := { s with lay := { s.lay with writes := rest } }
      match w with
      | .batch ds t => s.batchDone ds t
      | .record r => s.mirrorSend Peer.record 64 [recordKind r]
      | .keyRecord id => s.keyDurable id
      | .keyGone ctrl cid id => ((s.keyErased id).mirrorSend Peer.record 64 [1, id]).replyOk ctrl cid
      | .current ctrl cid nsid id => (s.mirrorSend Peer.record 64 [2, nsid, id]).replyOk ctrl cid

end Sys2Proof.Machine
end

