-- ==== Sys2Proof/Machine/Journal.lean ====
section
/-!
DEFINITION. Machine/Journal.lean: the JOURNAL family (chapter 15): the end of a journal write (R460), the bound of a re-seed (R473), tally
writes on their way through the journal (R448), and replay (R475 to R479) with the fences of R589.
-/

namespace Sys2Proof.Machine

/-! ### Tally writes (R448) -/

/-- Is all the data of a command here: everything pulled, and no read for it outstanding on its QP? -/
def State.pulledAll (s : State) (seq : Nat) (e : CmdEnt) : Bool :=
  decide (e.length ≤ e.pulled) && !(match s.qp? e.io.qp with
    | some q => q.reads.any fun r => r.1 == seq
    | none => true)

/-- Does an earlier job of the list write the same row (R448: one at a time, in admission order)? -/
def tallyBehind (l : List TallyJob) (t : TallyJob) : Bool :=
  (l.takeWhile fun x => !(x.seq == t.seq && x.row == t.row && x.group == t.group)).any fun x => x.group == t.group && x.row == t.row

/-- A job whose data is here and whose row is free starts (R448): a whole row computes its parity, another reads the old sectors. -/
def State.tallyBegin (s : State) (t : TallyJob) : State :=
  match s.entry t.seq with
  | none => s
  | some e =>
    if !s.pulledAll t.seq e || tallyBehind s.jnl.tallies t then s
    else if !t.whole then
      let s := s.modTally t.seq t.row fun t => { t with step := 1 }
      s.startTallyRead t.seq t.group t.row t.first t.count .rewrite
    else match s.currentKey e.io.nsid with
      | none => s.failCmd t.seq St.internal
      | some key => s.modTally t.seq t.row fun t =>
          (List.range 160).foldl (fun u l => u.put l (List.replicate 4160 0) (e.tallySector key.key (t.row * 160 + l))) { t with step := 2 }

/-- A job in step 2 moves on: the cipher takes its sectors as the credit allows (R376), then its record is formed (R448, R465). -/
def State.tallyEncrypt (s : State) (t : TallyJob) : State :=
  if t.record.isSome || t.seq = 0 then s
  else
    let n := min s.tallySectors (t.count - t.enc)
    let s := s.chargeTally n (s.grp t.group).nsid
    let s := s.modTally t.seq t.row fun t => { t with enc := t.enc + n }
    if t.enc + n < t.count then s
    else if t.whole then
      let (q, s) := s.journal .tallyIntent t.group 10 t.row 0 0 [] false 0
      s.modTally t.seq t.row fun t => { t with record := some q }
    else if s.jnl.credit ≤ 0 then s
    else
      let (q, s) := s.journal .tally t.group 10 t.row t.first (t.count * 4160) [] false 0
      s.modTally t.seq t.row fun t => { t with record := some q }

/-- A job whose record is committed tells its command, unless it wrote a whole row, and its in-place writes are issued (R448). -/
def State.tallyCommit (s : State) (t : TallyJob) : State :=
  let ready := t.seq = 0 || (match t.record with
    | some q => s.committed q
    | none => false)
  if t.step != 2 || !ready then s
  else
    let s := if t.whole || t.told || t.seq = 0 then s else s.tallyTell t
    match s.jnl.tallies.find? fun x => x.seq == t.seq && x.row == t.row && x.group == t.group with
    | some t => s.tallyIssue t
    | none => s

/-- Every tally job whose record is committed goes on. -/
def State.tallySettle (s : State) : State := s.jnl.tallies.foldl (fun s t => s.tallyCommit t) s

/-- What every tally job can do at a Turn boundary. -/
def State.tallyAdvance (s : State) : State :=
  let s := (s.jnl.tallies.filter fun t => t.step == 0).foldl (fun s t => s.tallyBegin t) s
  let s := (s.jnl.tallies.filter fun t => t.step == 2).foldl (fun s t => s.tallyEncrypt t) s
  s.tallySettle

/-! ### Anchors -/

/-- JOURNAL_WRITE_DONE (R460, R451, R529): COMMIT_SEQ advances past the writes at the front that have completed, and what waited settles; an
error sends the member to the ladder and the role to FAILED. -/
def execJournalWriteDone (role index : Nat) (ok : Bool) (s : State) : Out :=
  guardUnit (decide (role < 3)) <|
    match (s.role role).writes[index]? with
    | none => s
    | some w =>
      if w.done then s
      else if ok then ((s.ringAdvance role index).settle).tallySettle
      else (s.anchorLeaves (s.role role).slot).enterLadder (s.role role).slot 2

/-- ANCHOR_RESEED_TIMEOUT (R473): the bound has passed and the role stays SEEDING. -/
def execAnchorReseedTimeout (role : Nat) (s : State) : Out :=
  guardUnit (decide (role < 3)) <|
    let r := s.role role
    if r.st == .seeding && due r.promotedAt 2048 s.clock then
      (s.modRole role fun r => { r with promotedAt := none }).raise Ev.anchorLate Sev.warning role 0 r.slot 0
    else s

/-! ### Replay -/

/-- Is a version newer than another, taking wrap into account (R476)? -/
def newerVersion (cur v : Nat) : Bool :=
  let d := (v + 2 ^ 32 - cur % 2 ^ 32) % 2 ^ 32
  decide (0 < d) && decide (d < 2 ^ 31)

/-- The map entry that a delta carries (R443). -/
def DeltaRead.entry (d : DeltaRead) : MapEnt :=
  { group := d.group, addr := d.addr, storedLen := d.storedLen, blockMask := d.blockMask, mapped := d.mapped, version := d.version, lostMask := d.lostMask, turn := d.turn }

/-- Does a run of `n` stripe bytes, from START of a row on, hold a byte of a version? -/
def MapEnt.meets (e : MapEnt) (group row k start n : Nat) : Bool :=
  let base := row * 65536 * k + start
  e.mapped && e.group == group && decide (e.addr < base + n) && decide (base < e.addr + e.storedLen)

/-- A replay that has found nothing. -/
def Replayed.empty : Replayed :=
  { kept := [], redo := [], tops := [], deltas := [], gone := [], failed := [], unread := [], records := 0, next := 0, ends := [] }

/-- The later of two rows in ring order, for rows less than half the ring apart. -/
def laterRow (rows a b : Nat) : Nat := if rows = 0 then max a b else if (b + rows - a % rows) % rows < rows / 2 then b else a

/-- What replay carries from record to record: the ranges whose PARTIAL bytes are lost, the SEQ that comes next, and the findings. -/
structure Replaying where
  lost : List (Nat × Nat × Nat × Nat × Nat)
  expect : Nat
  found : Replayed

/-- Apply a change of the map, if its version is newer (R476): a version with a byte in a lost range is applied whole as lost. -/
def State.replayDelta (x : State × Replaying) (d : DeltaRead) : State × Replaying :=
  let (s, r) := x
  let cur := s.extent d.nsid d.extent
  if !newerVersion cur.version d.version then (s, r)
  else
    let e := DeltaRead.entry d
    let hit := r.lost.any fun l => e.meets l.1 l.2.1 l.2.2.1 l.2.2.2.1 l.2.2.2.2
    let e := if hit then { e with lostMask := e.blockMask } else e
    let s := (s.deadBytes cur).setExtent d.nsid d.extent e
    let f := { r.found with deltas := r.found.deltas ++ [{ nsid := d.nsid, extent := d.extent, ent := e, host := d.hostTag }], gone := if hit then r.found.gone ++ [(d.hostTag, d.nsid, d.extent)] else r.found.gone }
    (s, { r with found := f })

/-- Apply the record of one SEQ (R475): the first copy whose header passes, with the first body that does. -/
def State.replayRecord (x : State × Replaying) (copies : List RecordRead) : State × Replaying :=
  match copies with
  | [] => x
  | c :: _ =>
    let (s, r) := x
    let skipped := (List.range (c.seq - r.expect)).map (· + r.expect)
    let body := copies.find? (·.bodyOk)
    let tally := (s.grp c.group).tally
    let f := { r.found with unread := r.found.unread ++ skipped, records := r.found.records + 1, next := c.seq + 1 }
    let f := if c.type = 1 || c.type = 2 then { f with tops := tset f.tops c.group (laterRow (s.grp c.group).rows (tgetD f.tops c.group c.stripe) c.stripe) } else f
    let f := match c.type, body with
      | 2, some b => { f with kept := f.kept ++ [(c.group, c.stripe, c.k, c.start, b.data ++ List.replicate (b.bytes - b.data.length) 0)] }
      | 4, some b => { f with redo := f.redo ++ [(c.group, c.stripe, c.start, b.data ++ List.replicate (b.bytes - b.data.length) 0)] }
      | 1, _ => if tally then { f with redo := f.redo ++ [(c.group, c.stripe, 0, [])] } else f
      | _, _ => f
    let lost := if c.type = 2 && body.isNone then r.lost ++ [(c.group, c.stripe, c.k, c.start, c.bytes)] else r.lost
    c.deltas.foldl State.replayDelta (s, { lost := lost, expect := c.seq + 1, found := f })

/-- The readable rings (R475): those of a role whose member is ready and whose header has a valid copy. -/
def State.readable (s : State) (rings : List RingRead) : List RingRead :=
  rings.filter fun r => r.header.isSome && s.slotUsable (s.role r.role).slot

/-- The copies of records that pass, on every readable ring, from a SEQ on: PAD records and records below a ring's FIRST_SEQ do not count. -/
def copiesFrom (rings : List RingRead) (tail : Nat) : List RecordRead :=
  rings.flatMap fun r => r.records.filter fun c =>
    c.headOk && decide (1 ≤ c.type) && decide (c.type ≤ 4) && decide (tail ≤ c.seq) && decide (((r.header.map (·.2)).getD 0) ≤ c.seq)

/-- A version that the row scan found (R477): applied when it verifies and is newer; a newer one that does not verify is lost. -/
def State.replayScan (x : State × Replaying) (v : ScanRead) : State × Replaying :=
  let d := v.version
  if v.verified then State.replayDelta x d
  else if newerVersion (x.1.extent d.nsid d.extent).version d.version then
    (x.1, { x.2 with found := { x.2.found with failed := x.2.found.failed ++ [(d.nsid, d.extent)] } })
  else x

/-- LIVE of every segment, from the map (R429). -/
def State.countLive (s : State) : State :=
  let s : State := { s with lay := { s.lay with groups := s.lay.groups.map fun g => { g with segs := (g.segs.map fun p => (p.1, { p.2 with live := 0 })).filter fun p => p.2.used } } }
  s.lay.map.foldl (init := s) fun s p => if p.2.mapped then s.modGrp p.2.group fun g => g.addLive (s.rowOf p.2) p.2.storedLen else s

/-- Read the rings into the map (R475 to R477), changing nothing on the members. -/
def State.replayRings (s : State) (rings : List RingRead) (scan : List ScanRead) : State × Replayed :=
  let rs := s.readable rings
  let firsts := rs.filterMap fun r => r.header.map (·.2)
  let low := firsts.foldl min (firsts.headD 1)
  let tail := max ((s.jnl.trailer.map (·.tailSeq)).getD 0) low
  let all := copiesFrom rs tail
  let seqs := all.foldl (fun l c => insertNat c.seq l) []
  let start : Replaying := { lost := [], expect := tail, found := { Replayed.empty with next := tail, ends := rs.foldl (fun t r => tset t r.role r.endOff) [] } }
  let (s, r) := seqs.foldl (fun x q => State.replayRecord x (all.filter fun c => c.seq == q)) (s, start)
  let (s, r) := if r.found.unread = [] then (s, r) else scan.foldl State.replayScan (s, r)
  (s.countLive, r.found)

/-- Every host NQN of a tenant, or of all (R386). -/
def State.nqnsOf (s : State) (tenant : Option Nat) : List Nat :=
  match s.cfg.running with
  | some i => ((i.tenants.filter fun t => tenant.all (· == t.tenantId)).flatMap (·.hostNqns)).eraseDups
  | none => []

/-- Report the losses of a replay (R478). -/
def State.reportLosses (s : State) (p : Replayed) : State :=
  let all := s.nqnsOf none
  let s := p.gone.foldl (init := s) fun s l => s.lose (all.filter fun h => hostTag h == l.1) l.2.1 (l.2.2 * 256) 256 1
  let s := p.failed.foldl (init := s) fun s l => s.lose (s.nqnsOf ((s.nsSlotOf l.1).map (·.tenant))) l.1 (l.2 * 256) 256 1
  p.unread.foldl (init := s) fun s q => (s.lose all 0xFFFFFFFF 0 0 1).raise Ev.journalRecordLost Sev.error 0 0 q 0

/-! ### The writing steps (R479, R589) -/

/-- The first 1 MiB boundary at least 8 MiB past an offset (R589). -/
def fenced (o : Nat) : Nat := ceilDiv (o + 8 * 2 ^ 20) (2 ^ 20) * 2 ^ 20

/-- Raise the epoch of every ring and rewrite its header (R479, R589); a role whose member is not ready is FAILED (R688). -/
def State.raiseRings (s : State) (p : Replayed) : State :=
  let s : State := { s with jnl := { s.jnl with seq := max s.jnl.seq p.next, recs := [], held := false } }
  foldIdx 3 (fun a s =>
    if !(s.role a).receives then s
    else if !s.slotUsable (s.role a).slot then s.failRole a
    else
      let q := s.jnl.seq
      let s := s.modRole a fun r => { r with epoch := r.epoch + 1, firstSeq := q, commit := q - 1, writes := [], queue := [], pad := 0, offs := [], head := match tget p.ends a with
        | some o => fenced o % ringBytes
        | none => r.head }
      s.emit .store [1, a, (s.role a).epoch, q]) s

/-- Move the heads past every stripe that a record or the trailer names, and 4,096 rows further (R479, R589); a group with fewer free rows
than that goes without the fence. -/
def State.moveHeads (s : State) (p : Replayed) : State :=
  foldIdx 8 (fun g s =>
    let x := s.grp g
    if !x.declared || x.tally || x.k = 0 then s
    else
      let s := match (s.jnl.trailer.bind fun t => t.heads[g]?) with
        | some a => s.modGrp g fun x => { x with head := a }
        | none => s
      let y := s.grp g
      let row := laterRow x.rows (y.rowOf y.head) (tgetD p.tops g (y.rowOf y.head)) + 1
      let s := s.modGrp g fun y => { y with head := row * 65536 * y.k }
      let row := if x.rows = 0 then row + 4096 else if 4097 < (s.grp g).freeRows then (row + 4096) % x.rows else row % x.rows
      s.modGrp g fun y => { y with head := row * 65536 * y.k }) s

/-- Put kept PARTIAL bytes back into DRAM (R479): a stripe whose bytes are only there, until its versions are placed again. -/
def State.keepBytes (s : State) (g row k start : Nat) (l : List Byte) : State :=
  let fresh : Stripe := { group := g, row := row, k := k, st := .written, slot := none, data := [], p := [], q := [], fill := 0, journalled := 0, first := s.clock, hold := none, outstanding := [], okWrites := 0, intent := some 0 }
  let s : State := if (s.stripe g row).isSome then s else { s with lay := { s.lay with stripes := s.lay.stripes ++ [fresh] } }
  s.modStripe g row fun x => { x with data := memWriteList x.data start l, fill := max x.fill (start + l.length) }

/-- The versions that have bytes in kept PARTIAL records and are not lost are read and placed again (R479, R425). -/
def State.replaceKept (s : State) (p : Replayed) : State :=
  let s := p.kept.foldl (init := s) fun s x => s.keepBytes x.1 x.2.1 x.2.2.1 x.2.2.2.1 x.2.2.2.2
  let hit := s.lay.map.filter fun m => m.2.lostMask != m.2.blockMask && p.kept.any fun x => m.2.meets x.1 x.2.1 x.2.2.1 x.2.2.2.1 x.2.2.2.2.length
  hit.foldl (init := s) fun s m =>
    let s := s.requestSet (s.grp m.2.group).set SetCause.replay
    s.startRead 0 (m.1 / 2 ^ 64) (m.1 % 2 ^ 64) .compact 0xFFFF

/-- Put the sectors of a replayed TALLY record into the job of its row: byte `i` of the record's data, from its first LBA on. -/
def TallyJob.carry (t : TallyJob) (first : Nat) (l : List Byte) : TallyJob :=
  let n := l.length / 4160
  let lo := if t.count = 0 then first else min t.first first
  let hi := max (t.first + t.count) (first + n)
  let t := { t with first := lo, count := if n = 0 && t.count = 0 then 0 else hi - lo, enc := (List.range n).foldl (fun m i => setBitOf m (first + i) true) t.enc }
  l.zipIdx.foldl (init := t) fun t b => { t with data := memWrite t.data ((first + b.2 / 4160) / 16 * tallyUnit + tallyOff (first + b.2 / 4160) (b.2 % 4160)) b.1 }

/-- Redo the tally records (R448, R479): one job for each row that they name, which reads the whole row. -/
def State.redoTallies (s : State) (p : Replayed) : State :=
  let fresh := fun (g row : Nat) => ({ seq := 0, group := g, row := row, first := 0, count := 0, whole := false, step := 1, enc := 0, record := none, outstanding := [], okWrites := 0, told := true, data := [], p := [], q := [] } : TallyJob)
  let rows := (p.redo.map fun x => (x.1, x.2.1)).eraseDups
  rows.foldl (init := s) fun s x =>
    let t := (p.redo.filter fun y => y.1 == x.1 && y.2.1 == x.2).foldl (fun t y => t.carry y.2.2.1 y.2.2.2) (fresh x.1 x.2)
    let s : State := { s with jnl := { s.jnl with tallies := s.jnl.tallies ++ [t] } }
    (s.requestSet (s.grp x.1).set SetCause.replay).startTallyRead 0 x.1 x.2 0 160 .rewrite

/-- A zone whose write pointer goes back to its last acknowledged write. -/
def Zone.atAcked (x : Zone) : Zone := { x with wp := x.acked, st := if zoneLbas ≤ x.acked then .full else .closed }

/-- Where the write pointers of the zones stand after a replay (R272): just past the last write that was acknowledged; of a zone that this
canister has written nothing to, just past what the map holds. -/
def State.replayZones (s : State) : State :=
  let known := s.cmd.zones
  let s : State := { s with cmd := { s.cmd with zones := (known.filter fun p => p.2.acked != 0).map fun p => (p.1, p.2.atAcked) } }
  let zoned := (s.cmd.nss.filter fun p => p.2.type == 1).map (·.1)
  s.lay.map.foldl (init := s) fun s m =>
    let nsid := m.1 / 2 ^ 64
    let x := m.1 % 2 ^ 64
    let k := zoneKey nsid (x / 1024)
    if !zoned.contains nsid || !m.2.mapped || thas known k then s
    else
      let top := (List.range 16).foldl (fun a b => if bitOf m.2.blockMask b then b + 1 else a) 0
      let wp := x % 1024 * 256 + top * 16
      s.setZone nsid (x / 1024) { st := if zoneLbas ≤ wp then .full else .closed, wp := wp, acked := wp }

/-- What the canister that becomes ACTIVE does after a replay (R479, R589, R478): epochs, heads, versions, tally rows, losses, a batch; a
shelf whose stream nobody has written yet has nothing to fence off. -/
def State.finishReplay (s : State) (p : Replayed) : State :=
  let used := s.jnl.trailer.isSome
  let s := s.raiseRings p
  let s := if used then s.moveHeads p else s
  let s : State := if used then { s with lay := { s.lay with logPos := fenced s.lay.logPos, fence := some s.clock } } else s
  let s := ((s.replaceKept p).redoTallies p).reportLosses p
  let s : State := { s with lay := { s.lay with deltas := s.lay.deltas ++ p.deltas } }
  let s : State := { s with jnl := { s.jnl with product := none }, fov := { s.fov with takeover := s.fov.takeover.map fun t => { t with replayDone := true } } }
  ((s.replayZones.writeBatch).jnlStatus).layStatus

/-- Is everything that a replay asks for before admission done (R479): no version left to read or that could be placed again, no tally row
left to redo? -/
def State.replaySettled (s : State) : Bool :=
  !(s.lay.reads.any fun p => p.2.use == .compact && p.2.seq == 0) && !(s.jnl.tallies.any fun t => t.seq == 0) &&
    !(s.lay.gathering.any fun y => y.again.isSome && (s.groupFor y).isSome)

/-- The member that holds an anchor role (R688): the one whose label names the role with the highest assignment generation, if that is above the
one on record; RING_EPOCH is that of the ring's own header (R472, R479). -/
def State.labelRole (s : State) (rings : List RingRead) (a : Nat) : State :=
  let best := (s.labels.filter fun x => x.2.role == a).foldl (fun b x => if b.2 < x.2.roleGen then (some x.1, x.2.roleGen) else b) (none, (s.role a).gen)
  let s := match best with
    | (some i, g) => s.modRole a fun r => { r with slot := i, gen := g, epoch := 0 }
    | _ => s
  match (rings.find? fun r => r.role == a).bind (·.header) with
  | some h => s.modRole a fun r => { r with epoch := h.1 }
  | none => s

/-- The three roles as the labels name them (R688). -/
def State.labelRoles (s : State) (rings : List RingRead) : State := foldIdx 3 (fun a s => s.labelRole rings a) s

/-- REPLAY_DONE (R475 to R479, R585, R586): the map is complete and its result reported; in RECOVERY the writing steps wait for a grant. -/
def execReplayDone (rings : List RingRead) (scan : List ScanRead) (s : State) : Out :=
  .next <| match s.jnl.replay with
    | none => s
    | some (start, kind) =>
      let (s, p) := s.labelRoles rings |>.replayRings rings scan
      let ms := min 65535 ((s.clock - start) * 2048 / 1000000)
      let lost := p.gone.length + p.failed.length
      let s : State := { s with jnl := { s.jnl with replay := none } }
      let s := ((s.wr Reg.JNL_REPLAY_KIND 0 0 kind).wr Reg.JNL_REPLAY_UNNAMED 0 0 (b2n (p.unread != []))).wr Reg.JNL_REPLAY_LOST 0 0 (min 255 lost)
      let s := (s.wr Reg.JNL_REPLAY_DURATION 0 0 ms).wr Reg.JNL_REPLAY_RECS 0 0 (p.records % 2 ^ 32)
      let s := s.raise Ev.replayDone Sev.notice (min 65535 lost) kind p.records ms
      if kind = 2 then (s.finishReplay p).startEpoch
      else ({ s with jnl := { s.jnl with product := some p }, fov := { s.fov with built := true } } : State).jnlStatus

end Sys2Proof.Machine
end

