-- ==== Sys2Proof/Machine/Axolotl.lean ====
section
/-!
DEFINITION. Machine/Axolotl.lean: the AXOLOTL family (chapter 16): absences, targets, rebuild and resync walks, scrub (R285, R441), the
online reshape, Member Fail, and the class credits.
-/

namespace Sys2Proof.Machine

/-! ### Credits (R499, R500) -/

/-- The bytes that a class is granted in a Turn: 0 rebuild, 1 reshape, 2 scrub; a rate step of 0.25 GB/s is 512 bytes of a Turn. -/
def State.bgGrant (s : State) (cls : Nat) : Nat :=
  let pressed := s.rd Reg.AXL_STATUS_PRESSURE = 1
  let short := match s.cmd.selfTest with
    | some t => t.kind == 1
    | none => false
  512 * (if cls = 0 then (if pressed then s.rd Reg.AXL_RB_RATE_FLOOR else s.rd Reg.AXL_RB_RATE_RATE)
    else if cls = 1 then (if pressed then s.rd Reg.AXL_RS_RATE_FLOOR else s.rd Reg.AXL_RS_RATE_RATE)
    else if pressed then (if short then 4 else 0) else s.rd Reg.AXL_SC_RATE_RATE)

/-- A 32-bit signed field. -/
def int32 (v : Int) : Nat := (v % (2 ^ 32 : Int)).toNat

/-- Report positions, walks, credits and the reshape. -/
def State.axlStatus (s : State) : State :=
  let s := foldIdx 24 (fun i s =>
    let s := s.wr Reg.AXL_POS_SPARE i 0 (b2n (s.axl.spares.contains i))
    match s.posOfSlot i with
    | some (g, p) =>
      let q := s.pos g p
      (((s.wr Reg.AXL_POS_STATE i 0 q.st.code).wr Reg.AXL_POS_GROUP i 0 g).wr Reg.AXL_POS_POSITION i 0 p).wr Reg.AXL_POS_GEN i 0 (q.gen % 65536)
    | none => (((s.wr Reg.AXL_POS_STATE i 0 0).wr Reg.AXL_POS_GROUP i 0 15).wr Reg.AXL_POS_POSITION i 0 0).wr Reg.AXL_POS_GEN i 0 0) s
  let s := s.wr Reg.AXL_STATUS_WALKING 0 0 (foldIdx 10 (fun g a => if thas s.axl.walks g then a + 2 ^ g else a) 0)
  let s := (s.wr Reg.AXL_CREDIT 0 0 (int32 s.axl.rbCredit)).wr Reg.AXL_CREDIT 0 1 (int32 s.axl.rsCredit)
  let s := (s.wr Reg.AXL_CREDIT 0 2 (int32 s.axl.scCredit)).wr Reg.AXL_STATUS_RESHAPING 0 0 (b2n s.axl.reshape.isSome)
  foldIdx 10 (fun g s => match s.axl.reshape with
    | some r =>
      if r.group != g then s.wr Reg.AXL_GRP_RESHAPE_STATE g 0 0
      else
        let code := match r.st with
          | .preparing => 1
          | .moving => 2
          | .paused => 3
        let wide := decide (r.oldK < r.newK)
        let last := ceilDiv ((s.grp g).rows * r.oldK) (max 1 r.newK)
        let done := if wide then r.boundary * 100 / max 1 last else (r.top + 1 - r.boundary) * 100 / max 1 (r.top + 1)
        let overlap := if wide then 256 * r.oldK - r.boundary * (r.newK - r.oldK) else 0
        let s := ((s.wr Reg.AXL_GRP_RESHAPE_STATE g 0 code).wr Reg.AXL_GRP_RESHAPE_DIR g 0 (b2n (!wide))).wr Reg.AXL_GRP_RESHAPE_OLD_K g 0 r.oldK
        let s := (s.wr Reg.AXL_GRP_RESHAPE_NEW_K g 0 r.newK).wr Reg.AXL_GRP_BOUNDARY g 0 r.boundary
        (s.wr Reg.AXL_GRP_RESHAPE_PERCENT g 0 (min 100 done)).wr Reg.AXL_GRP_RESHAPE_BACKUP g 0 (b2n (code = 2 && overlap != 0))
    | none => s.wr Reg.AXL_GRP_RESHAPE_STATE g 0 0) s

/-- The credits of a new Turn (R61, R499): min(G, credit + G), with G by the pressure that the Turn before showed. -/
def State.axlCredits (s : State) (waited : Bool) : State :=
  let pressed := s.sch.exhausted || s.sch.inLevel != 0 || s.sch.rsLevel != 0 || waited
  let s := s.wr Reg.AXL_STATUS_PRESSURE 0 0 (b2n pressed)
  let s := if pressed then s.count 262 1 0 else s
  let fill := fun (c : Int) (g : Nat) => min (g : Int) (c + g)
  { s with axl := { s.axl with rbCredit := fill s.axl.rbCredit (s.bgGrant 0), rsCredit := fill s.axl.rsCredit (s.bgGrant 1), scCredit := fill s.axl.scCredit (s.bgGrant 2), tallyUsed := 0 } }

/-! ### Absence and targets -/

/-- RESYNC_WINDOW in Turns (R490). -/
def State.resyncWindow (s : State) : Nat := turnsOfSec (60 * s.rd Reg.AXL_RESYNC)

/-- RESYNC_WINDOW_EXPIRY (R484, R490): the ABSENT position that a slot fills becomes FAILED. -/
def execResyncWindowExpiry (slot : Nat) (s : State) : Out :=
  guardUnit (decide (slot < 24)) <|
    match s.posOfSlot slot with
    | none => s
    | some (g, p) => match (s.pos g p).absentAt with
      | some (t, _) => if (s.pos g p).st == .absent && decide (t + s.resyncWindow ≤ s.now) then s.posTo g p .failed else s
      | none => s

/-- Bytes that a member must hold to fill a position (R405, R489). -/
def State.bytesNeeded (s : State) (g p : Nat) : Nat := s.unitAddr g p (s.grp g).rows

/-- The power set of a spare (R402). -/
def State.spareSet (s : State) (i : Nat) : Option Nat := s.layoutSec.bind fun l => (l.members.find? fun m => m.slot == i).map (·.powerSet)

/-- The candidates of R489 for a FAILED position, in their order: those that are ready. -/
def State.targets (s : State) (g p : Nat) : List Nat :=
  let q := s.pos g p
  let anchor := (s.roleOfSlot q.slot).isSome
  let ready := fun i => (s.slot i).st == .ready
  let first := match s.standbyAnchor with
    | some x => if anchor && s.axl.spares.contains x then [x] else []
    | none => []
  let own := if (s.slot q.slot).cls == .newDrive && (s.slot q.slot).serial != q.serial then [q.slot] else []
  let spares := (List.range 24).filter fun i => s.axl.spares.contains i && some i != s.standbyAnchor && s.spareSet i == some (s.grp g).set
  (first ++ own ++ spares).filter ready

/-- A target takes a position (R489): its label is written, and the position is REBUILDING from the next boundary on. -/
def State.takeTarget (s : State) (g p i : Nat) : State :=
  let gen := (s.pos g p).gen
  let s : State := { s with axl := { s.axl with spares := s.axl.spares.filter (· != i) } }
  let s := s.modPos g p fun q => { q with slot := i, serial := (s.slot i).serial }
  let s := s.modGrp g fun x => { x with members := lset x.members p i }
  let s := s.modSlot i fun d => { d with cls := .member }
  ((s.writeLabel i g p gen).salSlot i).posTo g p .rebuilding

/-- Assign a FAILED position its target (R489), with the events for candidates that are too small and for none. -/
def State.assignTarget (s : State) (g p : Nat) : State :=
  if (s.pos g p).st != .failed || s.deferred.contains (.posTo g p PosState.rebuilding.code) then s
  else
    let need := s.bytesNeeded g p
    let l := s.targets g p
    let small := l.takeWhile fun i => decide ((s.slot i).capacity < need)
    let s := small.foldl (fun s i => s.raise Ev.targetTooSmall Sev.warning g 0 p i) s
    match l.drop small.length with
    | i :: _ => s.takeTarget g p i
    | [] => s.raise Ev.noTarget Sev.error g 0 p 0

/-- Fill a FAILED anchor role (R471): a promoted STANDBY_ANCHOR takes the failed anchor's position as well. -/
def State.fillRole (s : State) (a : Nat) : State :=
  if (s.role a).st != .failed || !s.serving then s
  else match s.candidate a with
  | none => s
  | some (x, promoted) =>
    let old := (s.role a).slot
    let s := match s.posOfSlot old with
      | some (g, p) => if x != old && s.axl.spares.contains x then ((s.applyPos g p .failed).takeTarget g p x) else s
      | none => s
    s.promote a x promoted

/-- Look for targets and anchors (R471, R489): at a boundary after a position has failed or a drive has become ready. -/
def State.seekTargets (s : State) : State :=
  let s := foldIdx 3 (fun a s => s.fillRole a) s
  if !s.serving then s
  else foldIdx 10 (fun g s => foldIdx (s.grp g).width (fun p s => s.assignTarget g p) s) s

/-! ### Judging rows (R487, R488) -/

/-- Is the unit of a position erased in a page column of a row, as the row was read (R486)? -/
def State.colErased (s : State) (g row c : Nat) (reads : List RowRead) (p : Nat) : Bool :=
  s.unitErased g p row || !unitRead p row reads ||
    (match reads.find? fun x => x.row == row with
     | some x => (match x.units[p]? with
       | some u => !u.ok || u.badPages.contains c
       | none => true)
     | none => true)

/-- The fate of a page column (R487): 0 recomputed, 1 not yet decided, 2 lost. -/
def State.colFate (s : State) (g row c : Nat) (reads : List RowRead) : Nat :=
  let gone := (List.range (s.rowK g row + 2)).filter (s.colErased g row c reads)
  let absent := gone.filter fun p => (s.pos g p).st == .absent
  if gone.length ≤ 2 then 0 else if gone.length - absent.length ≤ 2 then 1 else 2

/-- Has a run of a version's bytes one in a page column of a row? -/
def State.inColumn (s : State) (e : MapEnt) (i n row c : Nat) : Bool :=
  (unitsUnder e i n).any fun u =>
    let lo := max (e.addr + i) (u * 65536)
    let hi := min (e.addr + i + n) ((u + 1) * 65536) - 1
    (s.unitRow e.group u).1 == row && decide (lo % 65536 / 4096 ≤ c) && decide (c ≤ hi % 65536 / 4096)

/-- The live versions that have a byte in a row. -/
def State.liveIn (s : State) (g row : Nat) : List (Nat × MapEnt) :=
  s.lay.map.filter fun m => m.2.mapped && m.2.group == g && (s.rowsOf m.2).contains row

/-- The blocks of a version that lie in lost columns of a row (R488): all of them where its header or descriptors do, or cannot be read. -/
def State.blocksIn (s : State) (m : Nat × MapEnt) (row : Nat) (cols : List Nat) (reads : List RowRead) : Nat :=
  let e := m.2
  let hdr := 32 + 48 * popCount e.blockMask
  if cols.any fun c => s.inColumn e 0 hdr row c then e.blockMask
  else match (s.readBytes e reads [] false 0 hdr).bind fun l => parseVersion l (m.1 / 2 ^ 64) (m.1 % 2 ^ 64) e.version with
    | none => if cols.any fun c => s.inColumn e 0 e.storedLen row c then e.blockMask else 0
    | some _ =>
      let heads := (s.readBytes e reads [] false 0 hdr).getD []
      let lens := parseBlocks heads (popCount e.blockMask) 0 hdr
      let starts := (List.range lens.length).map fun i => (lens.getD i ⟨0, false, 0, 0, 0, 0, 0, 0, []⟩, hdr + ((List.range i).map fun j => fieldAt heads (40 + 48 * j) 4).sum, fieldAt heads (40 + 48 * i) 4)
      starts.foldl (fun k b => if cols.any fun c => s.inColumn e b.2.1 b.2.2 row c then setBitOf k b.1.index true else k) 0

/-- Report the loss of page columns of a row (R488). -/
def State.loseColumns (s : State) (g row : Nat) (cols : List Nat) (reads : List RowRead) (cause : Nat) : State :=
  if cols = [] then s
  else
    let s := (s.bump Reg.AXL_LOST_COLS 0 0 cols.length).count 257 cols.length g
    if (s.grp g).tally then
      (List.range 10).foldl (init := s) fun s d => cols.foldl (fun s c => s.tallyLose g (s.grp g).nsid (row * 160 + d * 16 + c) 1) s
    else
      (s.liveIn g row).foldl (init := s) fun s m =>
        let mask := s.blocksIn m row cols reads
        if mask = 0 then s else s.loseBlocks (m.1 / 2 ^ 64) (m.1 % 2 ^ 64) mask m.2 cause

/-! ### Checking versions (R437, R438) -/

/-- Does a sealed block open and decode (R367)? A block whose key is not LOADED cannot be judged and passes. -/
def State.blockGood (s : State) (m : Nat × MapEnt) (b : SealedBlk) : Bool :=
  match s.keyLoaded b.keyId with
  | none => true
  | some k =>
    let d : DecJob := { seq := 0, nsid := m.1 / 2 ^ 64, extent := m.1 % 2 ^ 64, index := b.index, firstSector := b.first, sectors := b.sectors, raw := b.raw, keyId := b.keyId, iv := b.iv, tag := b.tag, crc := b.crc, stored := b.bytes, pos := 0, lane := none, firstLane := none }
    match d.decode k.key none with
    | .ok _ => true
    | .error _ => false

/-- Check a version with some data units erased: its blocks, or the data units under what fails and the blocks that fail. -/
def State.checkVersion (s : State) (m : Nat × MapEnt) (reads : List RowRead) (erased : List Nat) : Except (List Nat × Nat) (List SealedBlk) :=
  let e := m.2
  let hdr := 32 + 48 * popCount e.blockMask
  let bytes := (List.range e.storedLen).map fun i =>
    let (row, _, d) := s.unitRow e.group ((e.addr + i) / 65536)
    (s.dataByte e.group row d ((e.addr + i) % 65536) reads erased false).getD 0
  match parseVersion bytes (m.1 / 2 ^ 64) (m.1 % 2 ^ 64) e.version with
  | none => .error (unitsUnder e 0 hdr, e.blockMask)
  | some blocks =>
    let bad := (blockStarts hdr blocks).filter fun b => !bitOf e.lostMask b.1.index && !s.blockGood m b.1
    if bad = [] then .ok blocks
    else .error ((bad.flatMap fun b => unitsUnder e b.2 b.1.bytes.length).eraseDups, maskOf (bad.map (·.1)))

/-- Check the live versions whose last byte lies in a row (R494, R441): a failure is worked again once with its units erased; what then
passes is placed again (R438), what does not is lost. Did every one pass as it was read? -/
def State.checkVersions (s : State) (g row : Nat) (reads : List RowRead) (cause : Nat) : State × Bool :=
  let l := (s.liveIn g row).filter fun m => (s.unitRow g ((m.2.addr + m.2.storedLen - 1) / 65536)).1 == row && m.2.lostMask != m.2.blockMask
  l.foldl (init := (s, true)) fun x m =>
    let (s, good) := x
    match s.checkVersion m reads [] with
    | .ok _ => (s, good)
    | .error (units, _) =>
      match s.checkVersion m reads units with
      | .ok blocks => ((s.raiseLim lim19 0 Ev.erasureRepaired Sev.notice g 1 (m.1 / 2 ^ 64) (m.1 % 2 ^ 64)).placeAgain (m.1 / 2 ^ 64) (m.1 % 2 ^ 64) 0 m.2 (blocks.filter fun b => !bitOf m.2.lostMask b.index), false)
      | .error (_, mask) => (s.loseBlocks (m.1 / 2 ^ 64) (m.1 % 2 ^ 64) mask m.2 cause, false)

/-! ### Walks (R494 to R498) -/

/-- The positions whose pending set holds a row and that have a target. -/
def State.todo (s : State) (g row : Nat) : List Nat :=
  (List.range (s.grp g).width).filter fun p => (s.pos g p).hasTarget && (s.pos g p).rowPending row

/-- Read the units of a row that are not erased. -/
def State.readRow (s : State) (g row : Nat) : State :=
  ((List.range (s.rowK g row + 2)).filter fun p => !s.unitErased g p row).foldl (init := s) fun s p =>
    (s.cacheRead (s.pos g p).slot (s.unitAddr g p row) (if (s.grp g).tally then 6 else 4) 0).readUnit g p row

/-- Issue the next row of a walk (R494, R498, R500): the credit is above 0, a tally group stays within a quarter of the grant, and the
group's set is ON. -/
def State.walkIssue (s : State) (g : Nat) : State :=
  match tget s.axl.walks g with
  | none => s
  | some w =>
    if w.issued || w.paused || s.cfg.state != .active then s
    else match s.nextWalkRow g w.row with
      | none => s
      | some row =>
        let s := if (s.pset (s.grp g).set).st == .on then s else s.requestSet (s.grp g).set SetCause.walk
        let tallyFull := (s.grp g).tally && decide (s.bgGrant 0 ≤ 4 * s.axl.tallyUsed)
        if !s.setReads g || s.axl.rbCredit ≤ 0 || tallyFull then s
        else ({ s with axl := { s.axl with walks := tset s.axl.walks g { w with row := row, issued := true } } } : State).readRow g row

/-- The next row that a scrub reads: rows of live segments only (R285), every row of a tally group. -/
def State.nextScrubRow (s : State) (g row : Nat) : Option Nat :=
  let x := s.grp g
  if x.tally then (if row < x.rows then some row else none)
  else
    let segs := (x.segs.filter fun p => p.2.live != 0 && decide (row < 256 * p.1 + 256)).map (·.1)
    match segs with
    | [] => none
    | a :: _ => if max row (256 * a) < x.rows then some (max row (256 * a)) else none

/-- Issue the next row of a scrub (R285, R503): it waits for a reshape of its group and for its set. -/
def State.scrubIssue (s : State) (g : Nat) : State :=
  match tget s.axl.scrubs g with
  | none => s
  | some w =>
    let moving := s.axl.reshape.any fun r => r.group == g
    if w.issued || w.paused || moving || s.cfg.state != .active || !s.setReads g || s.axl.scCredit ≤ 0 then s
    else match s.nextScrubRow g w.row with
      | none => { s with axl := { s.axl with scrubs := tdel s.axl.scrubs g } }
      | some row =>
        let n := ((List.range (s.grp g).width).filter fun p => !s.unitErased g p row).length * (s.grp g).unitBytes
        let s : State := { s with axl := { s.axl with scrubs := tset s.axl.scrubs g { w with row := row, issued := true }, scCredit := s.axl.scCredit - (n : Int) } }
        (s.count 261 n g).readRow g row

/-- WALK_ROW_ISSUE (R494, R285). -/
def execWalkRowIssue (group : Nat) (scrub : Bool) (s : State) : Out :=
  guardUnit (decide (group < 10)) (if scrub then s.scrubIssue group else s.walkIssue group)

/-- Write a progress record once a segment is done (R495, R501). -/
def State.walkProgress (s : State) (g row : Nat) : State :=
  let left := (List.range (s.grp g).width).any fun p => (s.pos g p).hasTarget && (s.pos g p).pending.any fun r => decide (r.1 < row / 256 * 256 + 256) && decide (row / 256 * 256 < r.1 + r.2)
  if left then s
  else
    let n := tgetD s.axl.progress g 0 + 1
    ({ s with axl := { s.axl with progress := tset s.axl.progress g n } } : State).emit .store [6, g, row / 256, n]

/-- A walk whose rows are all done ends: its positions become ONLINE at the next boundary (R484, R492, R494). -/
def State.walkEnd (s : State) (g : Nat) : State :=
  match tget s.axl.walks g with
  | none => s
  | some w =>
    let ps := (List.range (s.grp g).width).filter fun p => (s.pos g p).hasTarget && (s.pos g p).pending = []
    let s := ps.foldl (fun s p => if s.deferred.contains (.posTo g p PosState.online.code) then s else s.posTo g p .online) s
    let open' := (List.range (s.grp g).width).any fun p => (s.pos g p).hasTarget && (s.pos g p).pending != []
    if open' then s
    else
      let s : State := { s with axl := { s.axl with walks := tdel s.axl.walks g } }
      s.raise Ev.walkDone Sev.notice g (min 65535 w.lostCols) w.done (s.clock - w.startTurn)

/-- A row of a walk is there (R494, R487, R488): undecided columns leave it pending; else it is written to each target and done. -/
def State.walkDone (s : State) (g : Nat) (w : Walk) (reads : List RowRead) : State :=
  let row := w.row
  let cols := List.range 16
  let s : State := { s with axl := { s.axl with walks := tset s.axl.walks g { w with issued := false, row := row + 1 } } }
  let todo := s.todo g row
  if todo = [] then s.walkEnd g
  else if cols.any fun c => s.colFate g row c reads == 1 then
    let s := todo.foldl (fun s p => s.modPos g p fun q => { q with undecided := if q.undecided.contains row then q.undecided else q.undecided ++ [row] }) s
    s.raiseLim lim19 g Ev.lossPending Sev.warning g 0 row 0
  else
    let lost := cols.filter fun c => s.colFate g row c reads == 2
    let s := s.loseColumns g row lost reads 2
    let s := if (s.grp g).tally then s else (s.checkVersions g row reads 2).1
    let bad := (List.range (s.rowK g row + 2)).filter fun p => !s.unitErased g p row && cols.any (fun c => s.colErased g row c reads p)
    let pages := (bad.map fun p => (cols.filter fun c => s.colErased g row c reads p).length).sum
    let n := todo.length * (s.grp g).unitBytes + pages * 4096
    let rebuilt := todo.any fun p => (s.pos g p).st == .rebuilding
    let s := (todo ++ bad).foldl (fun s p => s.writeUnit g p row) s
    let s := todo.foldl (fun s p => s.modPos g p fun q => { q with pending := runsRemove q.pending row, undecided := q.undecided.filter (· != row) }) s
    let s : State := { s with axl := { s.axl with rbCredit := s.axl.rbCredit - (n : Int), tallyUsed := if (s.grp g).tally then s.axl.tallyUsed + n else s.axl.tallyUsed,
                                                  walks := tmod s.axl.walks g fun w => { w with done := w.done + 1, lostCols := w.lostCols + lost.length } } }
    let s := ((s.bumpWrap Reg.AXL_RB_BYTES 0 0 n).count 256 n g).count (if rebuilt then 258 else 259) 1 g
    let s := s.wr Reg.AXL_GRP_DONE g 0 ((tget s.axl.walks g).map (·.done) |>.getD 0)
    (s.walkProgress g row).walkEnd g

/-- P and Q of a row, as they are read and as its data gives them: do they agree? (R441) -/
def State.parityWrong (s : State) (g row : Nat) (reads : List RowRead) : List Nat :=
  let k := s.rowK g row
  let w := k + 2
  let unit := fun p => match reads.find? fun x => x.row == row with
    | some x => x.units.getD p ⟨false, [], []⟩
    | none => ⟨false, [], []⟩
  let datas := (List.range k).map fun d => (unit (posD w row d)).bytes
  let at' := fun (l : List Byte) (o : Nat) => l.getD o 0
  let size := (s.grp g).unitBytes
  let p := (List.range size).any fun o => parityP (datas.map fun l => at' l o) != at' (unit (posP w row)).bytes o
  let q := (List.range size).any fun o => parityQ (datas.map fun l => at' l o) != at' (unit (posQ w row)).bytes o
  (if p then [posP w row] else []) ++ (if q then [posQ w row] else [])

/-- A row of a scrub is there (R441, R496): versions are checked; with all good and every unit read, wrong parity is rewritten in place;
a row that is pending for a walk is walked first. -/
def State.scrubDone (s : State) (g : Nat) (w : Walk) (reads : List RowRead) : State :=
  let row := w.row
  let again : State := { s with axl := { s.axl with scrubs := tset s.axl.scrubs g { w with issued := false } } }
  let next : State := { s with axl := { s.axl with scrubs := tset s.axl.scrubs g { w with issued := false, row := row + 1, done := w.done + 1 } } }
  if (s.stripe g row).isSome then next
  else if s.todo g row != [] then { again with axl := { again.axl with walks := tmod again.axl.walks g fun v => if v.issued then v else { v with row := row } } }
  else
    let cols := List.range 16
    let lost := cols.filter fun c => s.colFate g row c reads == 2
    let s := next.loseColumns g row lost reads 3
    let (s, good) := if (s.grp g).tally then (s, true) else s.checkVersions g row reads 3
    let whole := (List.range (s.rowK g row + 2)).all fun p => cols.all fun c => !s.colErased g row c reads p
    if !good || !whole then s
    else (s.parityWrong g row reads).foldl (init := s) fun s p =>
      let s := if s.unitWritten g p then s.writeUnit g p row else s.markDirty g p row
      ((s.bump Reg.LAY_PARITY_FIX 0 0 1).count 220 1 g).raise Ev.parityFixed Sev.notice g 0 row p

/-- WALK_ROW_DONE (R494, R441). -/
def execWalkRowDone (group : Nat) (scrub : Bool) (rows : List RowRead) (s : State) : Out :=
  guardUnit (decide (group < 10)) <|
    match tget (if scrub then s.axl.scrubs else s.axl.walks) group with
    | none => s
    | some w => if !w.issued then s else if scrub then s.scrubDone group w rows else s.walkDone group w rows

/-! ### Reshape (R502 to R508) -/

/-- The highest data unit that holds live data or lies in an open stripe (R505). -/
def State.topUnit (s : State) (g : Nat) : Nat :=
  let live := (s.lay.map.filter fun m => m.2.mapped && m.2.group == g).map fun m => (m.2.addr + m.2.storedLen - 1) / 65536
  let dram := (s.lay.stripes.filter fun x => x.group == g).map fun x => x.row * x.k + x.k - 1
  (live ++ dram).foldl max 0

/-- The spares that a widening could join (R489, R502): of the group's set, other than STANDBY_ANCHOR, large enough, in slot order. -/
def State.joiners (s : State) (g : Nat) : List Nat :=
  let need := 2 ^ 30 + (s.grp g).rows * 65536
  (List.range 24).filter fun i => s.axl.spares.contains i && some i != s.standbyAnchor && s.spareSet i == some (s.grp g).set && decide (need ≤ (s.slot i).capacity)

/-- Why a Reshape Start is refused (R502). -/
def State.reshapeRefusal (s : State) (g k' : Nat) : Option (Nat × Nat) :=
  let x := s.grp g
  let anchorThere := (List.range (x.k + 2)).any fun p => decide (k' + 2 ≤ p) && (s.roleOfSlot (s.pos g p).slot).isSome
  if !x.declared || x.tally || k' = x.k || k' < x.kMin || x.kMax < k' || s.cfg.frozenGroups.contains g then some St.invalidField
  else if (s.axl.reshape.any fun r => r.st != .preparing) || s.failedCount g != 0 then some St.interrupted
  else if x.k < k' && decide ((s.joiners g).length < k' - x.k) then some St.denied
  else if k' < x.k && anchorThere then some St.denied
  else none

/-- Spares join a group that widens (R503). -/
def State.joinSpares (s : State) (g : Nat) (l : List Nat) : State :=
  let first := (s.grp g).k + 2
  let s := l.zipIdx.foldl (init := s) fun s x =>
    let q : Pos := { Pos.none with slot := x.1, serial := (s.slot x.1).serial }
    let s : State := { s with axl := { s.axl with poses := tset s.axl.poses (posKey g (first + x.2)) q, spares := s.axl.spares.filter (· != x.1) } }
    (s.writeLabel x.1 g (first + x.2) 0).mdWrite (.record (.position g (first + x.2) 0 0 x.1 q.serial))
  s.modGrp g fun x => { x with members := x.members ++ l, compacting := none }

/-- RESHAPE_START (R502, R503, R504). -/
def execReshapeStart (ctrl cid group newK : Nat) (s : State) : Out :=
  .next <| s.admin (.reshapeStart ctrl cid group newK) ctrl cid (.mgmt (some RoleBit.admin)) fun s =>
    s.ifActive ctrl cid <|
      match s.reshapeRefusal group newK with
      | some st => s.replyErr ctrl cid st
      | none =>
        let x := s.grp group
        let s := s.requestSet x.set SetCause.walk
        let wide := decide (x.k < newK)
        let r : Reshape := { group := group, oldK := x.k, newK := newK, st := if wide then .moving else .preparing, boundary := 0, batch := 0, top := 0, joined := if wide then (s.joiners group).take (newK - x.k) else [] }
        let s := if wide then s.joinSpares group r.joined else s
        let s : State := { s with axl := { s.axl with reshape := some r } }
        let s := (s.mdWrite (.record (.reshape group x.k newK 0))).raise Ev.reshapeState Sev.notice group (if wide then 2 else 1) 0 0
        (s.axlStatus.layStatus).replyOk ctrl cid

/-- PREPARING ends at a boundary once nothing lies at or above ROWS × k′ (R504, R505). -/
def State.prepareStep (s : State) : State :=
  match s.axl.reshape with
  | none => s
  | some r =>
    let x := s.grp r.group
    if r.st != .preparing || x.rows = 0 || x.rows * r.newK ≤ s.topUnit r.group || s.cfg.state != .active then s
    else
      let top := s.topUnit r.group / r.newK
      let s : State := { s with axl := { s.axl with reshape := some { r with st := .moving, boundary := top + 1, batch := top + 1, top := top } } }
      (s.modGrp r.group fun x => { x with compacting := none }).raise Ev.reshapeState Sev.notice r.group 2 (top + 1) 0

/-- The BOUNDARY after a batch (R505): the next batch that has live units, or the end. -/
def State.nextBoundary (s : State) (r : Reshape) : Nat :=
  let units := ((s.lay.map.filter fun m => m.2.mapped && m.2.group == r.group).map (·.2) ++ (s.lay.reads.filter fun p => p.2.ent.group == r.group).map (·.2.ent)).flatMap fun e => unitsUnder e 0 e.storedLen
  if r.oldK < r.newK then
    let past := r.boundary + 256
    match units.filter fun u => decide (past * r.newK ≤ u) with
    | [] => ceilDiv ((s.grp r.group).rows * r.oldK) r.newK
    | u :: us => us.foldl min u / r.newK / 256 * 256
  else
    let past := r.boundary - 256
    match units.filter fun u => decide (u < past * r.newK) with
    | [] => 0
    | u :: us => r.top + 1 - (r.top - us.foldl max u / r.newK) / 256 * 256

/-- Bytes that the batch in progress writes (R505): whole new rows, and each overlapping unit twice. -/
def Reshape.batchBytes (r : Reshape) : Nat :=
  let excess := if r.oldK < r.newK then 256 * r.oldK - r.boundary * (r.newK - r.oldK) else 0
  (min 256 (if r.oldK < r.newK then 256 else r.boundary) * (r.newK + 2) + 2 * excess) * 65536

/-- RESHAPE_BATCH_DONE (R505, R508): the boundary moves at the next one, once no read still uses the rows that were written over and the
group's stripes have left DRAM; a pause lets the batch in progress end. -/
def execReshapeBatchDone (s : State) : Out :=
  .next <| match s.axl.reshape with
    | none => s
    | some r =>
      let lo := if r.oldK < r.newK then r.boundary else r.boundary - 256
      let hi := if r.oldK < r.newK then r.boundary + 256 else r.boundary
      let used := s.lay.reads.any fun p => p.2.ent.group == r.group && !p.2.waiting && (s.rowsOf p.2.ent).any fun row => decide (lo ≤ row) && decide (row < hi)
      let dram := s.lay.stripes.any fun x => x.group == r.group
      let asked := s.deferred.any fun d => match d with
        | .boundaryMove _ _ => true
        | _ => false
      if r.st == .preparing || r.batch != r.boundary || used || dram || asked || s.cfg.state != .active || s.axl.rsCredit ≤ 0 then s
      else
        let b := s.nextBoundary r
        let n := r.batchBytes
        let p := tgetD s.axl.progress r.group 0 + 1
        let s : State := { s with axl := { s.axl with rsCredit := s.axl.rsCredit - (n : Int), progress := tset s.axl.progress r.group p } }
        ((s.count 260 (256 * r.newK) r.group).emit .store [6, r.group, b, p]).defer (.boundaryMove r.group b)

/-- A reshape ends (R507): the new width, spares that a narrowing frees, and the head at the start of a row. -/
def State.reshapeEnd (s : State) (r : Reshape) : State :=
  let g := r.group
  let out := ((List.range (r.oldK + 2)).filter fun p => decide (r.newK + 2 ≤ p))
  let freed := out.map fun p => (s.pos g p).slot
  let poses := out.foldl (fun t p => tdel t (posKey g p)) s.axl.poses
  let s : State := { s with axl := { s.axl with poses := poses, spares := s.axl.spares ++ freed, reshape := none } }
  let s := s.modGrp g fun x => { x with k := r.newK, members := x.members.take (r.newK + 2), head := ceilDiv x.head (65536 * r.newK) * 65536 * r.newK }
  let head := s.wrapHead g (s.grp g).head
  let s := (s.modGrp g fun x => { x with head := head }).countLive
  ((s.mdWrite (.record (.groupWidth g r.newK))).raise Ev.reshapeState Sev.notice g 0 r.boundary 0).layStatus

/-- BOUNDARY moves at a Turn boundary (R505, R507): LIVE follows, and past the last batch the reshape is done. -/
def State.moveBoundary (s : State) (g b : Nat) : State :=
  match s.axl.reshape with
  | none => s
  | some r =>
    if r.group != g || r.st == .preparing then s
    else
      let r := { r with boundary := b, batch := if r.st == .moving then b else r.batch }
      let s := (({ s with axl := { s.axl with reshape := some r } } : State).countLive).mdWrite (.record (.reshape g r.oldK r.newK b))
      let excess := if r.oldK < r.newK then decide ((s.grp g).rows * r.oldK ≤ b * r.newK) else decide (b = 0)
      if excess then s.reshapeEnd r else s

/-- RESHAPE_CANCEL (R504, R508): ends PREPARING; a reshape whose moves have begun is never undone. -/
def execReshapeCancel (ctrl cid : Nat) (s : State) : Out :=
  .next <| s.admin (.reshapeCancel ctrl cid) ctrl cid (.mgmt (some RoleBit.admin)) fun s =>
    s.ifActive ctrl cid <|
      match s.axl.reshape with
      | none => s.replyErr ctrl cid St.invalidField
      | some r =>
        if r.st != .preparing then s.replyErr ctrl cid St.interrupted
        else
          let s : State := { s with axl := { s.axl with reshape := none } }
          (((s.mdWrite (.record (.reshape r.group r.oldK r.oldK 0))).raise Ev.reshapeState Sev.notice r.group 0 0 0).axlStatus).replyOk ctrl cid

/-! ### Member Fail -/

/-- MEMBER_FAIL (R509). -/
def execMemberFail (ctrl cid slot : Nat) (s : State) : Out :=
  .next <| s.admin (.memberFail ctrl cid slot) ctrl cid (.mgmt (some RoleBit.admin)) fun s =>
    s.ifActive ctrl cid <|
      match s.posOfSlot slot with
      | none => s.replyErr ctrl cid St.invalidField
      | some (g, p) =>
        let others := (List.range (s.grp g).width).any fun q => q != p && (s.pos g q).st != .online
        if others then s.replyErr ctrl cid St.interrupted else ((s.posTo g p .failed).drvTo slot 5 Refuse.failed).replyOk ctrl cid

end Sys2Proof.Machine
end

