-- ==== Sys2Proof/Machine/Counters.lean ====
section
/-!
DEFINITION. Machine/Counters.lean: the event ring and the session queues, counters, samples, snapshots and bandwidth windows
(chapter 21).
-/

namespace Sys2Proof.Machine

/-! ### The event ring (R625 to R631) -/

/-- Slots of the event ring (R627). -/
abbrev ringSlots : Nat := 262144

/-- EVT_RING_HEAD. -/
def State.ringHead (s : State) : Nat := s.rd Reg.EVT_RING_HEAD

/-- Is the ring full: the tail one slot behind the head (R627)? -/
def State.ringFull (s : State) : Bool := (s.evt.tail + 1) % ringSlots == s.ringHead

/-- Copy a record into every session queue that takes its severity (R631); a full queue loses its oldest record. -/
def State.queueRecord (s : State) (r : RingRec) : State :=
  if r.ev.severity < s.rd Reg.EVT_CFG_AEN_MIN then s
  else { s with evt := { s.evt with queues := tmap s.evt.queues fun _ q =>
    if q.recs.length < 4096 then { q with recs := q.recs ++ [r] }
    else { recs := q.recs.drop 1 ++ [r], overwritten := q.overwritten + 1 } } }

/-- Write a record at the tail (R620, R627, R630): PHASE flips at the wrap, and the source's vector gets a cause. -/
def State.ringWrite (s : State) (ev : EventRec) : State :=
  let lost := s.evt.lostBefore && ev.source != Ev.ringOverflow
  let r : RingRec := { ev := ev, phase := s.evt.phase, lostBefore := lost, seq := s.evt.seq }
  let wrap := s.evt.tail + 1 == ringSlots
  let tail := if wrap then 0 else s.evt.tail + 1
  let phase := if wrap then !s.evt.phase else s.evt.phase
  let v := s.rd (routeField ev.source) 0 (ev.source / 4)
  let s : State := { s with evt := { s.evt with
    ring := tset s.evt.ring s.evt.tail r, tail := tail, phase := phase, seq := (s.evt.seq + 1) % 2 ^ 16,
    lostBefore := s.evt.lostBefore && !lost, causes := if v = 0 then s.evt.causes else s.evt.causes ++ [v] } }
  ((s.wrs [(Reg.EVT_RING_TAIL_TAIL, 0, tail), (Reg.EVT_RING_TAIL_PHASE, 0, b2n phase)]).count 357 1 ev.source).queueRecord r

/-- Drop a record that finds the ring full (R628). -/
def State.ringDrop (s : State) (ev : EventRec) : State :=
  (({ s with evt := { s.evt with lostSince := s.evt.lostSince + 1, lostTurn := ev.turn } } : State).bump Reg.EVT_LOST 0 0 1).count 358 1 ev.source

/-- The copy that the session queues take of a record that the ring does not: nothing states its PHASE and SEQ, which are free. -/
def State.queueOnly (s : State) (ev : EventRec) : State :=
  let (v, s) := s.takeFree
  s.queueRecord { ev := ev, phase := bitOf v 16, lostBefore := false, seq := v % 2 ^ 16 }

/-- The Ring-overflow record that comes first once a slot is free (R628). -/
def State.ringOverflow (s : State) : State :=
  if s.evt.lostSince = 0 || s.ringFull then s
  else
    let ev : EventRec := { source := Ev.ringOverflow, severity := Sev.error, turn := s.evt.lostTurn, inst := 0, code := 0, value := s.evt.lostSince, value2 := 0, suppressed := 0 }
    let s := (s.latch Ev.ringOverflow).ringWrite ev
    { s with evt := { s.evt with lostSince := 0, lostBefore := true } }

/-- EVT takes one record (R625, R628, R630). -/
def State.takeRecord (s : State) (ev : EventRec) : State :=
  let s := s.ringOverflow
  if ev.severity < s.rd Reg.EVT_CFG_RING_MIN then s.queueOnly ev
  else if s.ringFull then (s.ringDrop ev).queueOnly ev
  else s.ringWrite ev

/-- Insert a record behind those of its Turn and source (R625). -/
def insertRecord (ev : EventRec) : List EventRec → List EventRec
  | [] => [ev]
  | x :: xs => if ev.turn < x.turn || ev.turn = x.turn && ev.source < x.source then ev :: x :: xs else x :: insertRecord ev xs

/-- Records in ascending Turn, then ascending source, then order of arrival (R625). -/
def orderRecords (l : List EventRec) : List EventRec := l.foldl (fun acc ev => insertRecord ev acc) []

/-- The records that EVT has written by the boundary that begins the current Turn (R625): those of Turn N by Turn N + 3. -/
def State.writeEvents (s : State) : State :=
  let ripe := fun (r : EventRec) => decide (r.turn + 3 ≤ s.now) || decide (s.now < r.turn)
  let batch := orderRecords (s.evt.raised.filter ripe)
  let s : State := { s with evt := { s.evt with raised := s.evt.raised.filter fun r => !ripe r } }
  let s := (batch.foldl (fun s ev => s.takeRecord ev) s).ringOverflow
  s.evt.queues.foldl (fun s q => s.pumpAer q.1) s

/-- EVENT_RING_HEAD_WRITE (R642, R643, R653): from the endpoint only, within the range from the head to the tail. -/
def execEventRingHeadWrite (writer : Writer) (head : Nat) (s : State) : Out :=
  .next <| s.up <|
    let h := head % 2 ^ 18
    let cur := s.ringHead
    let ahead := fun x => (x + ringSlots - cur) % ringSlots
    if writer != .endpoint || ahead s.evt.tail < ahead h then s.violation Reg.EVT_RING_HEAD.off (writerCode writer)
    else s.wr Reg.EVT_RING_HEAD 0 0 h

/-- The words of a record as the data buffer carries it (R620, R621). -/
def RingRec.words (r : RingRec) : List Nat :=
  [r.ev.source / 32 % 8 + b2n r.phase * 2 ^ 7 + r.ev.source % 32 * 2 ^ 8 + r.ev.severity % 2 ^ 8 * 2 ^ 16 + b2n r.lostBefore * 2 ^ 24,
   r.seq % 2 ^ 16 + r.ev.turn % 2 ^ 48 % 2 ^ 16 * 2 ^ 16, r.ev.turn % 2 ^ 48 / 2 ^ 16,
   r.ev.inst % 2 ^ 16 + r.ev.code % 2 ^ 16 * 2 ^ 16, r.ev.value % 2 ^ 32, r.ev.value % 2 ^ 64 / 2 ^ 32, r.ev.value2 % 2 ^ 32,
   min 0xFFFFFFFF r.ev.suppressed]

/-- EVENT_READ (R631): up to 128 records of the session's queue, oldest first. -/
def execEventRead (ctrl cid count : Nat) (s : State) : Out :=
  .next <| s.admin (.eventRead ctrl cid count) ctrl cid (.mgmt none) fun s =>
    let n := count % 256
    if n = 0 || 128 < n then s.replyErr ctrl cid St.invalidField
    else
      let q := tgetD s.evt.queues ctrl { recs := [], overwritten := 0 }
      let taken := q.recs.take n
      let s : State := { s with evt := { s.evt with queues := tset s.evt.queues ctrl { recs := q.recs.drop n, overwritten := 0 } } }
      let s := s.emit .data ([ctrl, cid] ++ taken.flatMap RingRec.words)
      let s := s.reply ctrl cid St.ok taken.length q.overwritten
      (s.modCtrl ctrl fun c => { c with awaitRead := false }).pumpAer ctrl

/-! ### Counters (R633, R634, R640) -/

/-- The register of a writer's own copy (R656). -/
def State.own (s : State) (f : Fld) (writer : Writer) : Nat := s.rd (f.forWriter writer)

/-- COUNTER_PRELOAD (R634): CNT_DATA goes into the counter named by CNT_SEL at the next boundary. -/
def execCounterPreload (writer : Writer) (s : State) : Out :=
  .next <| s.acts writer Reg.CNT_CTL_PRELOAD.off <|
    (s.wr Reg.CNT_CTL_PRELOAD 0 0 1).defer (.preload (s.own Reg.CNT_SEL writer) (s.own Reg.CNT_DATA writer))

/-- The preload of a boundary (R634). -/
def State.preloadCounter (s : State) (i v : Nat) : State :=
  if 384 ≤ i then s.wr Reg.CNT_CTL_PRELOAD 0 0 0
  else
    let c := { s.cnt with vals := tput 0 s.cnt.vals i (v % 2 ^ 48), preloaded := if s.cnt.preloaded.contains i then s.cnt.preloaded else s.cnt.preloaded ++ [i] }
    ({ s with cnt := c } : State).wr Reg.CNT_CTL_PRELOAD 0 0 0

/-- COUNTER_LIVE_READ (R633, R655): the live value into CNT_DATA of the writer's copy, VALID set. -/
def execCounterLiveRead (writer : Writer) (s : State) : Out :=
  .next <| s.up <|
    let v := tgetD s.cnt.vals (s.own Reg.CNT_SEL writer) 0
    (s.wr (Reg.CNT_DATA.forWriter writer) 0 0 v).wr (Reg.CNT_CTL_VALID.forWriter writer) 0 0 1

/-- COUNTER_OVERFLOW (R634, R640): the occurrence that wraps a counter from 2^48 − 1; an occurrence that finds it elsewhere wraps
nothing and is not this command. -/
def execCounterOverflow (counter inst : Nat) (s : State) : Out :=
  guardUnit (decide (counter < 384)) <| s.up <|
    if tgetD s.cnt.vals counter 0 + 1 = 2 ^ 48 then s.count counter 1 inst else s

/-- COUNTER_SAMPLE_READ (R640): core 15 writes the Counter-sample record, or discards a sample whose skid is over 64. -/
def execCounterSampleRead (counter : Nat) (s : State) : Out :=
  guardUnit (decide (counter < 384)) <| s.up <|
    if !s.ovfPending counter then s
    else
      let skid := tgetD s.cnt.sinceWrap counter 0
      if 64 < skid then s.loseSample counter
      else
        let s := s.raise Ev.counterSample Sev.notice counter 0 (tgetD s.cnt.context counter 0) skid
        (s.setOvfPending counter false).count 359 1 counter

/-! ### Snapshots and bandwidth windows (R635, R636, R639, R641) -/

/-- Start a pass where the Turn is a multiple of SNAP_PERIOD (R635); a pass that still runs skips it. `late` is the overrun of R69. -/
def State.startSnapshot (s : State) (late : Bool) : State :=
  if s.now % 2 ^ s.rd Reg.CNT_CFG_SNAP_PERIOD != 0 then s
  else if late || s.cnt.running.isSome then { s with cnt := { s.cnt with skipNext := true } }
  else { s with cnt := { s.cnt with running := some s.now, snapBw := s.cnt.bwLast } }

/-- SNAPSHOT_PASS_DONE (R635, R636): slot n mod 2,048 is filled and SNAP_SEQ is written last. -/
def execSnapshotPassDone (s : State) : Out :=
  .next <| s.up <|
    match s.cnt.running with
    | none => s
    | some start =>
      let n := s.cnt.passes + 1
      let vals := (List.range 384).map fun i => tgetD s.cnt.vals i 0
      let (r, s) := s.takeFree
      let snap : Snap := { seq := n, turn := start, skipped := s.cnt.skipNext, period := s.rd Reg.CNT_CFG_SNAP_PERIOD, window := s.cnt.bwLog, preloaded := s.cnt.preloaded, counters := vals, cycles := r % 7, units := s.cnt.snapBw }
      ({ s with cnt := { s.cnt with running := none, passes := n, skipNext := false, preloaded := [], slots := tset s.cnt.slots (n % 2048) snap } } : State).wr Reg.CNT_SNAP_SEQ 0 0 n

/-- The bandwidth windows at a boundary (R639): a new length that waits starts at its first multiple and discards the running
window; otherwise a window that is up is frozen with its number. -/
def State.bwBoundary (s : State) : State :=
  let new := s.rd Reg.CNT_CFG_BW_WINDOW
  if new != s.cnt.bwLog && s.now % 2 ^ new == 0 then
    { s with cnt := { s.cnt with bwLog := new, bwStart := s.now, bwAcc := [] } }
  else if s.now % 2 ^ s.cnt.bwLog == 0 then
    let num := s.cnt.bwStart / 2 ^ s.cnt.bwLog % 2 ^ 16
    let last := (List.range 20).map fun u => (tgetD s.cnt.bwAcc u (0, 0), num)
    { s with cnt := { s.cnt with bwLast := last.map fun x => (x.1.1, x.1.2, x.2), bwStart := s.now, bwAcc := [] } }
  else s

/-- BW_WINDOW_WRITE (R639, R649): log2 of the window, 0 to 20. -/
def execBwWindowWrite (writer : Writer) (value : Nat) (s : State) : Out :=
  .next <| s.acts writer Reg.CNT_CFG_BW_WINDOW.off <|
    if 20 < value % 32 then s.violation Reg.CNT_CFG_BW_WINDOW.off (writerCode writer) else s.wr Reg.CNT_CFG_BW_WINDOW 0 0 value

/-- A snapshot slot as 32-bit words (R636): 4,096 bytes. The counters are read one every 6 cycles, from a free cycle on
that ends the pass within 2,304. -/
def Snap.words (x : Snap) : List Nat :=
  let two := fun v => [v % 2 ^ 32, v / 2 ^ 32]
  let pre := (List.range 12).map fun w => (x.preloaded.filter fun i => i / 32 == w).foldl (fun a i => setBitOf a (i % 32) true) 0
  let cyc := fun i => x.cycles + 6 * i
  two x.seq ++ two (x.turn % 2 ^ 48) ++ [b2n x.skipped, 2 ^ x.period, 2 ^ x.window, 0] ++ pre ++ List.replicate 12 0
    ++ (x.counters.zipIdx.flatMap fun c => two (c.1 % 2 ^ 48 + cyc c.2 * 2 ^ 48))
    ++ (x.units.flatMap fun u => two (u.1 % 2 ^ 48 + u.2.2 * 2 ^ 48) ++ two (u.2.1 % 2 ^ 48 + u.2.2 * 2 ^ 48))
    ++ List.replicate 144 0

/-- The slot that a Counter Read names (R641). -/
def State.snapshotOf (s : State) (cdw10 : Nat) : Option Snap :=
  if cdw10 = 0 then if s.cnt.passes = 0 then none else tget s.cnt.slots (s.cnt.passes % 2048)
  else (s.cnt.slots.find? fun p => p.2.seq % 2 ^ 32 == cdw10 % 2 ^ 32).map (·.2)

/-- COUNTER_READ (R641): a snapshot slot, with the observer role. -/
def execCounterRead (ctrl cid snapshot : Nat) (s : State) : Out :=
  .next <| s.admin (.counterRead ctrl cid snapshot) ctrl cid (.mgmt (some RoleBit.observer)) fun s =>
    match s.snapshotOf snapshot with
    | some x => (s.emit .data ([ctrl, cid] ++ x.words)).replyOk ctrl cid
    | none => s.replyErr ctrl cid St.invalidField

end Sys2Proof.Machine
end

