-- ==== Sys2Proof/Machine/Drives.lean ====
section
/-!
DEFINITION. Machine/Drives.lean: the DRIVES family (chapter 17): bring-up of a drive port (R510 to R513), set-up and acceptance (R517 to
R522, R690), health (R525, R526), member command timeouts and the escalation ladder (R528 to R532).
-/

namespace Sys2Proof.Machine

/-! ### Reporting -/

/-- The serial number of a drive as five words (DRV_SLOT_SERIAL). -/
def serialWord (v i : Nat) : Nat := v / 2 ^ (32 * i) % 2 ^ 32

/-- The slots and positions that TALLY sections list for a serial number (R445). -/
def State.tallyPlaces (s : State) (serial : Nat) : List (Nat × Nat × Nat) :=
  match s.cfg.running with
  | some i => i.tallies.flatMap fun t => (t.members.zipIdx.filter fun m => m.1.2 == serial).map fun m => (m.1.1, t.group, m.2)
  | none => []

/-- Report the drive ports (DRV_STATUS, DRV_SLOT_STATE, DRV_SLOT_SERIAL). -/
def State.drvStatus (s : State) : State :=
  let s := s.wr Reg.DRV_STATUS 0 0 (foldIdx 24 (fun i a => if (s.slot i).st == .ready then a + 2 ^ i else a) 0)
  foldIdx 24 (fun i s =>
    let d := s.slot i
    let s := ((s.wr Reg.DRV_SLOT_STATE_STATE i 0 d.st.code).wr Reg.DRV_SLOT_STATE_LINK i 0 d.link).wr Reg.DRV_SLOT_STATE_IO_OWNER i 0 (b2n d.ioQueues)
    let s := ((s.wr Reg.DRV_SLOT_STATE_TALLY i 0 (b2n (d.cls == .tally))).wr Reg.DRV_SLOT_STATE_STEP i 0 d.step).wr Reg.DRV_SLOT_STATE_REASON i 0 d.reason
    let s := (s.wr Reg.DRV_SLOT_STATE_CRIT_WARN i 0 d.critWarn).wr Reg.DRV_SLOT_STATE_TEMP i 0 (min 255 d.temp)
    foldIdx 5 (fun w s => s.wr Reg.DRV_SLOT_SERIAL i w (serialWord d.serial w)) s) s

/-- Count an uncorrectable PCIe error of a slot (DRV_SLOT_PCIE_ERR [31:16], saturating). -/
def State.pcieError (s : State) (i : Nat) : State :=
  let v := s.rd Reg.DRV_SLOT_PCIE_ERR i
  s.wr Reg.DRV_SLOT_PCIE_ERR i 0 (v % 65536 + 65536 * min 65535 (v / 65536 + 1))

/-! ### Bring-up -/

/-- DRIVE_PERST_RELEASE (R510, R514): 100 ms after power-good. -/
def execDrivePerstRelease (slot : Nat) (s : State) : Out :=
  guardUnit (decide (slot < 24)) <|
    let d := s.slot slot
    if (s.chan slot).pg && due d.perstArmed (turnsOfMs 100) s.clock then
      let s := s.modSlot slot fun d => { d with perst := false, perstArmed := none, linkArmed := some s.clock }
      if d.st == .powering then s.drvTo slot 2 0 else s
    else s

/-- The running set-up ends without success (R517, R530): the slot is refused, or the ladder step ends. -/
def State.setupFail (s : State) (i reason : Nat) : State :=
  let d := s.slot i
  if d.st == .ladder then s.drvTo i 6 (d.step + 1) else s.drvTo i 5 reason

/-- Is a drive on a ladder step that runs set-up again (R530)? -/
def Slot.rebuilding (d : Slot) : Bool := d.st == .ladder && (d.step == 2 || d.step == 3)

/-- DRIVE_LINK_UP (R511 to R514, R530): set-up begins, or the slot is refused as slow. -/
def execDriveLinkUp (slot code capTo : Nat) (s : State) : Out :=
  guardUnit (decide (slot < 24)) <|
    let d := s.slot slot
    if d.perst || d.link != 0 || !(d.st == .training || d.st == .ready || d.rebuilding) then s
    else
      let s := s.modSlot slot fun d => { d with link := code, capTo := capTo, linkArmed := none }
      let s := if 1 < code then s.raise Ev.linkDegraded Sev.warning slot code 0 0 else s
      if d.st == .ready then s
      else if s.rd Reg.DRV_CFG_LINK_MIN < code then s.setupFail slot Refuse.slowLink
      else if d.st == .training then s.drvTo slot 3 1
      else s.modSlot slot fun d => { d with setup := 1, setupArmed := some s.clock }

/-- DRIVE_LINK_TIMEOUT (R513): the third failed attempt refuses the slot. -/
def execDriveLinkTimeout (slot : Nat) (s : State) : Out :=
  guardUnit (decide (slot < 24)) <|
    let d := s.slot slot
    if d.st == .training && d.link = 0 && due d.linkArmed (turnsOfSec 1) s.clock then
      if 3 ≤ d.attempts + 1 then (s.modSlot slot fun d => { d with linkArmed := none }).drvTo slot 5 Refuse.noLink
      else s.modSlot slot fun d => { d with attempts := d.attempts + 1, perst := true, linkArmed := none, retryArmed := some s.clock }
    else s

/-- DRIVE_PERST_RETRY_EXPIRY (R513): 10 ms of DRV_PERST_N. -/
def execDrivePerstRetryExpiry (slot : Nat) (s : State) : Out :=
  guardUnit (decide (slot < 24)) <|
    let d := s.slot slot
    if d.st == .training && due d.retryArmed (turnsOfMs 10) s.clock then
      s.modSlot slot fun d => { d with perst := false, retryArmed := none, linkArmed := some s.clock }
    else s

/-! ### Acceptance (R489, R490, R521, R690) -/

/-- ROWS of a group once the capacity of every member is known (R406). -/
def State.setRows (s : State) (g : Nat) : State :=
  let x := s.grp g
  if !x.declared || x.tally || x.rows != 0 then s
  else
    let caps := (List.range x.width).map fun p => ((s.slot (s.pos g p).slot).capacity, s.unitAddr g p 0)
    if caps.any fun c => decide (c.1 ≤ c.2) then s
    else match lowest (caps.map fun c => (c.1 - c.2) / 65536) with
      | some n => (s.modGrp g fun x => { x with rows := min n (2 ^ 32) }).layStatus
      | none => s

/-- A drive that carries no label of use is labelled as a spare, or as the member of a position that has never had one (R690, R688): only an
ACTIVE canister writes labels. -/
def State.labelNew (s : State) (i : Nat) : State :=
  let d := s.slot i
  if !s.serving || d.cls != .newDrive then s
  else match (s.posOfSlot i).filter fun x => (s.pos x.1 x.2).st == .online && (s.pos x.1 x.2).serial == 0 && !(s.grp x.1).tally with
    | some (g, p) =>
      let s := s.modPos g p fun q => { q with serial := d.serial }
      let s := s.modSlot i fun d => { d with cls := .member }
      (s.writeLabel i g p (s.pos g p).gen).mdWrite (.record (.position g p 0 (s.pos g p).gen i d.serial))
    | none =>
      let own := (s.posOfSlot i).isSome
      let s : State := if own || s.axl.spares.contains i then s else { s with axl := { s.axl with spares := s.axl.spares ++ [i] } }
      s.writeLabel i 15 0 0

/-- A member whose position is ABSENT returns (R490): it resyncs, or the position fails and the drive is a new one. -/
def State.returnMember (s : State) (i g p : Nat) : State :=
  match (s.pos g p).absentAt with
  | none => s
  | some (t, aligned) =>
    let same := (s.slot i).serial == (s.pos g p).serial
    if same && decide (s.now < t + s.resyncWindow) && aligned && s.trn.aligned then s.posTo g p .resyncing
    else (s.modSlot i fun d => { d with cls := .newDrive }).posTo g p .failed

/-- A drive is accepted with a class (R521): the slot is READY at the next boundary, and its position follows. -/
def State.accept (s : State) (i : Nat) (cls : DriveClass) : State :=
  let s := (s.modSlot i fun d => { d with cls := cls, released := false }).drvTo i 4 0
  let s := match s.posOfSlot i with
    | some (g, p) =>
      let s : State := s.setRows g
      let q : Pos := s.pos g p
      if q.st != PosState.absent then s
      else if cls == DriveClass.newDrive then s.posTo g p .failed
      else s.returnMember i g p
    | none => s
  s.labelNew i

/-- Classify a drive by what step 7 reads (R521): tally members by serial number, others by label. -/
def State.classify (s : State) (i : Nat) (label : Option Label) : Except Nat DriveClass :=
  let d := s.slot i
  match s.tallyPlaces d.serial with
  | t :: ts => if (t :: ts).any fun x => x.1 == i then .ok .tally else .error Refuse.foreign
  | [] => match label with
    | none => .ok .newDrive
    | some l =>
      if l.shelf != s.rd Reg.FOV_CFG_SHELF_ID then if d.released then .ok .newDrive else .error Refuse.foreign
      else if l.slot != i then .ok .newDrive
      else if l.group = 15 then .ok .member
      else match s.posOfSlot i with
        | some (g, p) => if l.group = g && l.position = p && l.gen = (s.pos g p).gen && l.serial = d.serial then .ok .member else .ok .newDrive
        | none => .ok .newDrive

/-- The label of a drive has been read (R517 step 7, R530 step 3). -/
def State.setupLabel (s : State) (i : Nat) (label : Option Label) : State :=
  let d := s.slot i
  match s.classify i label with
  | .error r => s.setupFail i r
  | .ok c =>
    if d.st == .ladder then
      if c == d.cls then (s.modSlot i fun d => { d with label := label }).drvTo i 4 0 else s.setupFail i Refuse.foreign
    else (s.modSlot i fun d => { d with label := label }).accept i c

/-! ### Set-up (R517, R519, R520) -/

/-- The step number of a set-up that waits for Format NVM. -/
abbrev setupFormat : Nat := 14

/-- Go on with a set-up step. -/
def State.setupNext (s : State) (i step : Nat) : State :=
  (s.modSlot i fun d => { d with setup := step, setupArmed := some s.clock }).emit .drive [i, 13, step]

/-- Step 2 of set-up: Identify Controller. -/
def State.setupController (s : State) (i : Nat) (multi : Bool) (queues mqes serial : Nat) (vwc dsm : Bool) (rtd3e : Nat) : State :=
  let d := s.slot i
  if !multi then s.setupFail i Refuse.singlePort
  else if queues < 4 || mqes < 1023 then s.setupFail i Refuse.queues
  else if d.st == .ladder && serial != d.serial then s.setupFail i Refuse.failed
  else (s.modSlot i fun d => { d with serial := serial, vwc := vwc, dsm := dsm, rtd3e := rtd3e }).setupNext i 3

/-- Step 4 of set-up: the LBA format, and Format NVM of a new drive (R519, R520). The standby goes on to the label. -/
def State.setupFormatStep (s : State) (i : Nat) (native tally lists : Bool) (label : Option (Option Label)) : State :=
  let d := s.slot i
  let isTally := s.tallyPlaces d.serial != []
  let next := if !s.serving then 7 else if d.vwc then 5 else 6
  if isTally then if tally then s.setupNext i next else s.setupFail i Refuse.format
  else if native then s.setupNext i next
  else match label with
    | none => s.setupFail i Refuse.label
    | some (some _) => s.setupFail i Refuse.format
    | some none =>
      if s.rd Reg.DRV_CFG_FORMAT_NEW = 1 && lists && s.cfg.state == .active && d.st == .setup then
        (s.modSlot i fun d => { d with setup := setupFormat, setupArmed := some s.clock }).emit .drive [i, 12, 0]
      else s.setupFail i Refuse.format

/-- DRIVE_SETUP_STEP_DONE (R517, R520, R521, R530). -/
def execDriveSetupStepDone (slot : Nat) (result : SetupResult) (s : State) : Out :=
  guardUnit (decide (slot < 24)) <|
    let d := s.slot slot
    if d.link = 0 || !(d.st == .setup || d.rebuilding || (d.st == .ready && d.setup != 0)) then s
    else match d.setup, result with
      | 0, _ => s
      | 1, .ready => s.setupNext slot 2
      | 2, .controller multi queues mqes serial vwc dsm rtd3e => s.setupController slot multi queues mqes serial vwc dsm rtd3e
      | 3, .namespaceOne present capacity =>
        if present then (s.modSlot slot fun d => { d with capacity := capacity }).setupNext slot 4 else s.setupFail slot Refuse.format
      | 4, .format native tally lists label => s.setupFormatStep slot native tally lists label
      | 5, .writeCache wce => if wce then s.setupFail slot Refuse.vwc else s.setupNext slot 6
      | 6, .queues created =>
        if !created then s.setupFail slot Refuse.queues
        else
          let s := s.modSlot slot fun d => { d with ioQueues := true }
          if d.st == .ladder && d.step = 2 then s.drvTo slot 4 0 else s.setupNext slot 7
      | 7, .label none => s.setupFail slot Refuse.label
      | 7, .label (some l) => s.setupLabel slot l
      | 7, .failed => s.setupFail slot Refuse.label
      | _, .failed => s.setupFail slot Refuse.notReady
      | _, _ => s

/-- DRIVE_FORMAT_DONE (R520, R517): set-up resumes at step 3. -/
def execDriveFormatDone (slot : Nat) (ok : Bool) (s : State) : Out :=
  guardUnit (decide (slot < 24)) <|
    let d := s.slot slot
    if d.st == .setup && d.setup = setupFormat then if ok then s.setupNext slot 3 else s.setupFail slot Refuse.notReady else s

/-- DRIVE_READY_TIMEOUT (R517, R51). -/
def execDriveReadyTimeout (slot : Nat) (s : State) : Out :=
  guardUnit (decide (slot < 24)) <|
    let d := s.slot slot
    if d.st == .setup && d.setup = 1 && due d.setupArmed (s.stepBound slot 2) s.clock then s.setupFail slot Refuse.notReady else s

/-- DRIVE_RELEASE (R522, R514): set-up goes on at step 7, with the drive as a new one. -/
def execDriveRelease (ctrl cid slot : Nat) (s : State) : Out :=
  .next <| s.admin (.driveRelease ctrl cid slot) ctrl cid (.mgmt (some RoleBit.admin)) fun s =>
    let d := s.slot slot
    if d.st == .refused && d.reason = Refuse.foreign then
      ((s.modSlot slot fun d => { d with released := true }).drvTo slot 3 7).replyOk ctrl cid
    else s.replyErr ctrl cid St.invalidField

/-! ### Causes of the ladder (R515, R525 to R529) -/

/-- Report a finding to the active canister (R526, R579). -/
def State.sendHealth (s : State) (i kind v : Nat) : State := s.emit .peer [Peer.health, 0, i, kind, v]

/-- A cause at a member: the ladder on the canister that serves; the standby takes no action, and reports a port that is down (R526, R527). -/
def State.memberCause (s : State) (i step : Nat) (portDown : Bool) : State :=
  if s.cfg.state == .standby || s.cfg.state == .recovery then
    if portDown && (s.slot i).st == .ready then
      let s := s.sendHealth i 2 0
      if (s.posOfSlot i).isSome then s.raise Ev.standbyPortDown Sev.warning i 0 0 0 else s
    else s
  else s.enterLadder i step

/-- DRIVE_INBOUND_VIOLATION (R515). -/
def execDriveInboundViolation (slot : Nat) (s : State) : Out := guardUnit (decide (slot < 24)) ((s.pcieError slot).memberCause slot 2 false)

/-- DRIVE_BAD_TLP (R515). -/
def execDriveBadTlp (slot : Nat) (s : State) : Out := guardUnit (decide (slot < 24)) ((s.pcieError slot).memberCause slot 2 false)

/-- DRIVE_COMPLETION_TIMEOUT (R515). -/
def execDriveCompletionTimeout (slot : Nat) (s : State) : Out := guardUnit (decide (slot < 24)) ((s.pcieError slot).memberCause slot 2 false)

/-- DRIVE_LINK_DOWN (R515, R527): the present input stays asserted. -/
def execDriveLinkDown (slot : Nat) (s : State) : Out :=
  guardUnit (decide (slot < 24)) <|
    if (s.slot slot).link = 0 || !(s.chan slot).present then s
    else (s.modSlot slot fun d => { d with link := 0 }).memberCause slot 2 true

/-- MEMBER_COMMAND_TIMEOUT (R517, R525, R528, R529): reads and writes enter the ladder at step 1, admin commands at step 2; a set-up command ends
its set-up; CSTS is read again. -/
def execMemberCommandTimeout (slot : Nat) (kind : MemberCmd) (s : State) : Out :=
  guardUnit (decide (slot < 24)) <|
    let d := s.slot slot
    let s := (s.bump Reg.DRV_SLOT_TIMEOUTS slot 0 1).emit .drive [slot, 14, 0]
    match kind with
    | .read | .write => s.memberCause slot 1 false
    | .admin => s.memberCause slot 2 false
    | .setup =>
      if d.setup = 0 || !(d.st == .setup || d.rebuilding) then s
      else s.setupFail slot (if d.setup = 7 then Refuse.label else Refuse.notReady)

/-- A member's position fails on a health finding (R526, R514). -/
def State.healthFail (s : State) (i : Nat) : State :=
  match s.posOfSlot i with
  | some (g, p) => if (s.pos g p).st == .failed then s else (s.posTo g p .failed).drvTo i 5 Refuse.failed
  | none => s

/-- Act on a critical-warning byte (R525, R526): a bit that becomes set, or a threshold crossed, raises the event; media read-only and a failed
backup fail the position on the active canister. -/
def State.healthRead (s : State) (i warn : Nat) (crossed : Bool) : State :=
  let d := s.slot i
  let fresh := (List.range 8).any fun b => bitOf warn b && !bitOf d.critWarn b
  let s := s.modSlot i fun d => { d with critWarn := warn }
  let s := if fresh || crossed then s.raise Ev.memberHealth Sev.warning i warn d.temp 0 else s
  if s.cfg.state == .standby then if warn != 0 then s.sendHealth i 0 warn else s
  else if s.serving && (bitOf warn 3 || bitOf warn 4) then s.healthFail i
  else s

/-- SMART_POLL (R525, R526). -/
def execSmartPoll (slot critWarn temp : Nat) (crossed : Bool) (s : State) : Out :=
  guardUnit (decide (slot < 24)) <|
    if (s.slot slot).st == .ready then (s.modSlot slot fun d => { d with temp := temp }).healthRead slot critWarn crossed else s

/-- DRIVE_ASYNC_EVENT (R525, R526). -/
def execDriveAsyncEvent (slot critWarn : Nat) (crossed : Bool) (s : State) : Out :=
  guardUnit (decide (slot < 24)) <| if (s.slot slot).st == .ready then s.healthRead slot critWarn crossed else s

/-- CSTS_POLL (R525, R526, R529). -/
def execCstsPoll (slot : Nat) (cfs : Bool) (s : State) : Out :=
  guardUnit (decide (slot < 24)) <|
    let d := s.slot slot
    if !cfs || !(d.st == .ready || d.st == .ladder) then s
    else if s.cfg.state == .standby then s.sendHealth slot 1 0
    else s.memberCause slot 2 false

/-! ### The ladder -/

/-- MEMBER_ABORT_DONE (R530): step 1 succeeds. -/
def execMemberAbortDone (slot : Nat) (s : State) : Out :=
  guardUnit (decide (slot < 24)) <| if (s.slot slot).st == .ladder && (s.slot slot).step = 1 then s.drvTo slot 4 0 else s

/-- LADDER_STEP_TIMEOUT (R530). -/
def execLadderStepTimeout (slot : Nat) (s : State) : Out :=
  guardUnit (decide (slot < 24)) <|
    let d := s.slot slot
    if d.st == .ladder && decide (1 ≤ d.step) && decide (d.step ≤ 3) && due d.stepArmed (s.stepBound slot d.step) s.clock then s.drvTo slot 6 (d.step + 1) else s

end Sys2Proof.Machine
end

