-- ==== Sys2Proof/Machine/Power.lean ====
section
/-!
DEFINITION. Machine/Power.lean: the POWER family (chapter 18): slot channels (R534 to R556, R689), feed channels and their transfers (R557 to
R561), the supply warning (R563 to R565), and what the registers of PWR report. A command named after a run of samples has its effect when the
samples that the boundaries brought, with the two of the running Turn, make up that run (notes/assumptions/11.md); while SYS_RESET_N is asserted
the companions judge by samples of their own (R536).
-/

namespace Sys2Proof.Machine

/-! ### Thresholds and timers -/

/-- The retry delay in Turns. -/
def State.retryTurns (s : State) : Nat := turnsOfSec (s.rd Reg.PWR_TIMING_RETRY_DELAY)

/-- The insertion delay in Turns. -/
def State.insertTurns (s : State) : Nat := turnsOfMs (s.rd Reg.PWR_TIMING_INSERT_DELAY)

/-- FAULT_TIMER in samples of 1.024 µs, rounded up (R543). -/
def State.faultSamples (s : State) : Nat := ceilDiv (s.rd Reg.PWR_TIMING_FAULT_TIMER * 1000000) 1024

/-- Has a companion's timer expired? In reset no Turn is counted, and the companion times it itself (R536, R554). -/
def State.pwrDue (s : State) (armed : Option Nat) (t : Nat) : Bool := if s.inReset then armed.isSome else due armed t s.clock

/-- Does a run of samples reach a length with the two of the running Turn (R536)? -/
def State.sampled (s : State) (run need : Nat) : Bool := s.inReset || decide (need ≤ run + 2)

/-! ### The drive's side of a slot channel -/

/-- A slot channel turned off under a present drive (R515, R548, R689): a ready member's link is gone, and a slot on its way up returns to
POWERING while power will return, else to OFF. -/
def State.driveLostPower (s : State) (i : Nat) (again : Bool) : State :=
  match (s.slot i).st with
  | .ready | .ladder => if (s.chan i).demand then s.memberCause i 2 true else s.drvTo i 7 0
  | .powering | .training | .setup | .refused => s.drvTo i (if again && (s.chan i).demand then 1 else 7) 0
  | .empty | .off => s

/-! ### Slot channels: presence and start -/

/-- SLOT_PRESENT_DEBOUNCED (R539, R541, R542): the insertion delay starts. -/
def execSlotPresentDebounced (slot : Nat) (s : State) : Out :=
  guardUnit (s.slotOn slot) <|
    if (s.chan slot).st == .empty then s.modChan slot fun c => { c with st := .inserting, present := true, insertArmed := some s.clock } else s

/-- SLOT_REMOVED (R541, R689): from every state to EMPTY; a latched fault, its retry delay and its retry count go. -/
def execSlotRemoved (slot : Nat) (s : State) : Out :=
  guardUnit (s.slotOn slot) <|
    let c := s.chan slot
    if c.st == .empty then s
    else
      let s := s.gateOff slot .empty
      let s := s.modChan slot fun c => { c with present := false, retries := 0, insertArmed := none, retryArmed := none, cycleArmed := none, heldArmed := none }
      let v := s.rd Reg.PWR_SLOT_COUNTS slot
      let s := (s.wr Reg.PWR_SLOT_COUNTS slot 0 (v % 65536 + 65536 * min 65535 (v / 65536 + 1))).count 348 1 slot
      let s := s.drvTo slot 0 0
      match s.posOfSlot slot with
      | some (g, p) => if s.serving && (s.pos g p).st != .absent && (s.pos g p).st != .failed then s.posTo g p .absent else s
      | none => s

/-- INSERT_DELAY_EXPIRY (R514, R542). -/
def execInsertDelayExpiry (slot : Nat) (s : State) : Out :=
  guardUnit (s.slotOn slot) <|
    let c := s.chan slot
    if c.st == .inserting && due c.insertArmed s.insertTurns s.clock then
      let s := (s.modChan slot fun c => { c with insertArmed := none }).chanIdle slot
      if c.demand then (s.modChan slot fun c => { c with st := .waitInput }).drvTo slot 1 0 else s.drvTo slot 7 0
    else s

/-- Channels in STARTING (R540). -/
def State.startingCount (s : State) : Nat := ((List.range 24).filter fun i => (s.chan i).st == .starting).length

/-- Could a channel start but for its place in the stagger (R540)? -/
def State.mayStart (s : State) (i : Nat) : Bool :=
  let c := s.chan i
  c.st == .waitInput && c.demand && !c.damaged && !s.pwr.warn && s.sampled c.smp.inWindow 4

/-- SLOT_CHANNEL_START (R540): fewer than STAGGER channels in STARTING, and those that wait start in slot order. -/
def execSlotChannelStart (slot : Nat) (s : State) : Out :=
  guardUnit (s.slotOn slot) <|
    if s.mayStart slot && decide (s.startingCount < s.rd Reg.PWR_CFG_STAGGER) && !((List.range slot).any fun i => s.mayStart i) then
      s.modChan slot fun c => { c with st := .starting, smp := { c.smp with faultCount := 0, qualified := 0 } }
    else s

/-- SLOT_POWER_GOOD (R510, R545, R546, R552): ON; DRV_PERST_N is due in 100 ms; a channel whose demand has gone meanwhile stops. -/
def execSlotPowerGood (slot : Nat) (s : State) : Out :=
  guardUnit (s.slotOn slot) <|
    let c := s.chan slot
    if c.st == .starting && s.sampled c.smp.qualified 16 then
      let s := s.modChan slot fun c => { c with st := .on, pg := true, goodArmed := some s.clock }
      let s := s.modSlot slot fun d => { d with perst := true, perstArmed := some s.clock }
      let s := (s.raise Ev.slotPower Sev.notice slot 5 0 0).count 344 1 slot
      if c.demand then s else s.startStop slot
    else s

/-! ### Slot channels: faults and inputs -/

/-- A slot channel latches a fault (R547, R548): gate off, the retry delay, the counts, and the ladder. -/
def State.slotFault (s : State) (i cause : Nat) : State :=
  let n := (s.chan i).retries + 1
  let retry := decide (n ≤ s.rd Reg.PWR_CFG_MAX_RETRY)
  let s := s.gateOff i .fault
  let s := s.modChan i fun c => { c with cause := cause, retries := n, retryArmed := some s.clock }
  let v := s.rd Reg.PWR_SLOT_COUNTS i
  let s := (s.wr Reg.PWR_SLOT_COUNTS i 0 (v / 65536 * 65536 + min 65535 (v % 65536 + 1))).count 345 1 i
  (s.raise Ev.slotFault Sev.error i cause n 0).driveLostPower i retry

/-- A slot channel waits for its input (R547 codes 4 and 5). -/
def State.inputFail (s : State) (i cause : Nat) : State :=
  let s := (s.gateOff i .waitInput).modChan i fun c => { c with cause := cause }
  let s := (s.raise Ev.slotInput Sev.warning i cause 0 0).driveLostPower i true
  if (s.chan i).demand then s else s.chanIdle i

/-- A feed latches a fault or is otherwise lost while it starts (R559, R561): the dead time, and then a selection. -/
def State.feedOff (s : State) (f : Nat) (st : FeedState) : State :=
  s.modFeed f fun x => { x with st := st, pg := false, goodArmed := none, smp := { x.smp with faultCount := 0, qualified := 0 } }

/-- The supply warning is asserted (R563 to R565). -/
def State.assertWarning (s : State) : State :=
  if s.pwr.warn then s
  else
    let s : State := { s with pwr := { s.pwr with warn := true } }
    let s := ((s.raise Ev.supplyWarning Sev.warning 0 1 0 0).bump Reg.PWR_STATUS_WARNS 0 0 1).count 351 1 0
    (s.emit .pin [1, 1]).abandonActivation

/-- The feed that is SELECTED. -/
def State.selected (s : State) : Option Nat := if (s.feed 0).st == .selected then some 0 else if (s.feed 1).st == .selected then some 1 else none

/-- The feed that starts. -/
def State.startingFeed (s : State) : Option Nat := if (s.feed 0).st == .starting then some 0 else if (s.feed 1).st == .starting then some 1 else none

/-- A failure transfer away from the selected feed starts (R559, R561, R563). -/
def State.failureTransfer (s : State) (f : Nat) (dest : FeedState) : State :=
  let s := s.feedOff f dest
  let s := s.modFeed f fun x => { x with windowArmed := if dest == .waiting then some s.clock else x.windowArmed }
  let s : State := { s with pwr := { s.pwr with transfer := some false, dead := true, warnArmed := none } }
  let v := s.rd Reg.PWR_FEED_COUNTS f
  let s := (s.wr Reg.PWR_FEED_COUNTS f 0 (v / 65536 * 65536 + min 65535 (v % 65536 + 1))).count 349 1 f
  (s.raise Ev.feedTransfer Sev.warning f 0 0 0).assertWarning

/-- A feed latches a fault (R547, R548, R557, R561). -/
def State.feedFault (s : State) (f cause : Nat) : State :=
  let was := (s.feed f).st
  let n := (s.feed f).retries + 1
  let s := s.modFeed f fun x => { x with cause := cause, retries := n, retryArmed := some s.clock }
  let v := s.rd Reg.PWR_FEED_COUNTS f
  let s := (s.wr Reg.PWR_FEED_COUNTS f 0 (v % 65536 + 65536 * min 65535 (v / 65536 + 1))).raise Ev.feedFault Sev.error f cause n 0
  if was == .selected then s.failureTransfer f .fault
  else
    let s := s.feedOff f .fault
    { s with pwr := { s.pwr with dead := true } }

/-- FAULT_TIMER_EXPIRY (R543, R545, R547): the count of LIMITING samples reaches FAULT_TIMER. -/
def execFaultTimerExpiry (channel : Nat) (s : State) : Out :=
  if channel < 24 then
    guardUnit (s.slotOn channel) <|
      let c := s.chan channel
      if (c.st == .starting || c.st == .on) && s.sampled c.smp.faultCount s.faultSamples then s.slotFault channel 1 else s
  else if channel < 26 then
    let f := s.feed (channel - 24)
    .next <| if (f.st == .starting || f.st == .selected) && s.sampled f.smp.faultCount s.faultSamples then s.feedFault (channel - 24) 1 else s
  else .fault .noSuchUnit

/-- EFUSE_TRIP (R544, R547): in STARTING and in ON alike. -/
def execEfuseTrip (channel : Nat) (s : State) : Out :=
  if channel < 24 then
    guardUnit (s.slotOn channel) <|
      if (s.chan channel).st == .starting || (s.chan channel).st == .on then (s.count 346 1 channel).slotFault channel 2 else s
  else if channel < 26 then
    let f := s.feed (channel - 24)
    .next <| if f.st == .starting || f.st == .selected then (s.count 346 1 channel).feedFault (channel - 24) 2 else s
  else .fault .noSuchUnit

/-- SLOT_OUTPUT_UV (R546, R547): with the input in its window and no brown-out hold running. -/
def execSlotOutputUv (slot : Nat) (s : State) : Out :=
  guardUnit (s.slotOn slot) <|
    let c := s.chan slot
    if c.st == .on && c.pg && c.brownArmed.isNone then s.slotFault slot 3 else s

/-- SLOT_INPUT_OUT_OF_WINDOW (R547): above OV in STARTING or ON, or below UV in STARTING. -/
def execSlotInputOutOfWindow (slot : Nat) (excess : Bool) (s : State) : Out :=
  guardUnit (s.slotOn slot) <|
    let st := (s.chan slot).st
    if st == .starting || (st == .on && excess) then s.inputFail slot (if excess then 4 else 5) else s

/-- BROWNOUT_HOLD_START (R549). -/
def execBrownoutHoldStart (slot : Nat) (s : State) : Out :=
  guardUnit (s.slotOn slot) <|
    let c := s.chan slot
    if c.st == .on && c.brownArmed.isNone then (s.modChan slot fun c => { c with brownArmed := some s.clock }).count 347 1 slot else s

/-- BROWNOUT_HOLD_EXPIRY (R546, R549). -/
def execBrownoutHoldExpiry (slot : Nat) (stillBelow : Bool) (s : State) : Out :=
  guardUnit (s.slotOn slot) <|
    let c := s.chan slot
    if due c.brownArmed (turnsOfMs (s.rd Reg.PWR_CFG_BROWNOUT_HOLD)) s.clock then
      let s := s.modChan slot fun c => { c with brownArmed := none }
      if stillBelow && c.st == .on then s.inputFail slot 5 else s
    else s

/-! ### Retries -/

/-- Which feed selection picks when none is SELECTED or STARTING (R558): the preferred feed if it is AVAILABLE, else the other. -/
def State.pickFeed (s : State) : Option Nat :=
  let first := if s.rd Reg.PWR_CFG_FEED_PRI = 1 then 1 else 0
  if (s.feed first).st == .available then some first else if (s.feed (1 - first)).st == .available then some (1 - first) else none

/-- Selection (R558 to R560): a feed starts when none is selected and no dead time runs; the companions return to the preferred feed. -/
def State.feedSelect (s : State) : State :=
  if s.pwr.dead || s.startingFeed.isSome then s
  else match s.selected with
    | some f =>
      let pri := s.rd Reg.PWR_CFG_FEED_PRI
      if pri < 2 && pri != f && (s.feed pri).st == .available then
        let s := s.feedOff f .available
        let s : State := { s with pwr := { s.pwr with transfer := some true, dead := true, warnArmed := none } }
        (s.raise Ev.feedTransfer Sev.notice f 1 0 0).count 350 1 f
      else s
    | none => match s.pickFeed with
      | some f => s.modFeed f fun x => { x with st := .starting, smp := { x.smp with faultCount := 0, qualified := 0 } }
      | none => { s with pwr := { s.pwr with transfer := none } }

/-- RETRY_DELAY_EXPIRY (R548, R514, R557): with demand to WAIT_INPUT, without it to IDLE; a feed waits for its input again. Past MAX_RETRY
the channel stays in FAULT. -/
def execRetryDelayExpiry (channel : Nat) (s : State) : Out :=
  let max := s.rd Reg.PWR_CFG_MAX_RETRY
  if channel < 24 then
    guardUnit (s.slotOn channel) <|
      let c := s.chan channel
      if c.st == .fault && !c.damaged && decide (c.retries ≤ max) && due c.retryArmed s.retryTurns s.clock then
        let s := s.modChan channel fun c => { c with retryArmed := none }
        if c.demand then
          let s := s.modChan channel fun c => { c with st := .waitInput }
          if (s.slot channel).st == .off then s.drvTo channel 1 0 else s
        else s.chanIdle channel
      else s
  else if channel < 26 then
    let f := s.feed (channel - 24)
    .next <| if f.st == .fault && decide (f.retries ≤ max) && s.pwrDue f.retryArmed s.retryTurns then
      s.modFeed (channel - 24) fun x => { x with st := .waiting, retryArmed := none, windowArmed := some s.clock }
    else s
  else .fault .noSuchUnit

/-- RETRY_COUNT_CLEAR_EXPIRY (R548): power-good held for RETRY_DELAY. -/
def execRetryCountClearExpiry (channel : Nat) (s : State) : Out :=
  if channel < 24 then
    guardUnit (s.slotOn channel) <|
      let c := s.chan channel
      if c.pg && due c.goodArmed s.retryTurns s.clock then s.modChan channel fun c => { c with retries := 0, goodArmed := none } else s
  else if channel < 26 then
    let f := s.feed (channel - 24)
    .next <| if f.pg && s.pwrDue f.goodArmed s.retryTurns then s.modFeed (channel - 24) fun x => { x with retries := 0, goodArmed := none } else s
  else .fault .noSuchUnit

/-! ### Slot control -/

/-- SLOT_CLEAR (R548, R514): the retry count goes; in FAULT the channel enters IDLE at the next boundary. -/
def execSlotClear (writer : Writer) (slot : Nat) (s : State) : Out :=
  guardUnit (s.slotOn slot) <| s.acts writer (Reg.PWR_SLOT_CTL_CLEAR.off + Reg.PWR_SLOT_CTL_CLEAR.stride1 * slot) <|
    let c := s.chan slot
    let s := s.modChan slot fun c => { c with retries := 0 }
    if c.st == .fault && !c.damaged then
      let s := (s.modChan slot fun c => { c with retryArmed := none }).defer (.slotIdle slot)
      if c.demand && (s.slot slot).st == .off then s.drvTo slot 1 0 else s
    else s

/-- What CLEAR does at the boundary (R548, R539): IDLE, and with demand on to WAIT_INPUT. -/
def State.slotCleared (s : State) (i : Nat) : State :=
  if (s.chan i).st == .fault && !(s.chan i).damaged then
    let s := s.chanIdle i
    if (s.chan i).demand then s.modChan i fun c => { c with st := .waitInput } else s
  else s

/-- SLOT_CYCLE (R568, R514): from a control core only. -/
def execSlotCycle (writer : Writer) (slot : Nat) (s : State) : Out :=
  guardUnit (s.slotOn slot) <| s.up <|
    match writer with
    | .endpoint | .session => s.violation Reg.PWR_SLOT_CTL_CYCLE.off (writerCode writer)
    | .core =>
      let c := s.chan slot
      if !c.present || !c.demand || c.cycleArmed.isSome then s
      else
        let s := s.beginCycle slot
        if (s.slot slot).st == .ladder then s else s.drvTo slot 1 0

/-- SLOT_CYCLE_EXPIRY (R530, R568): the demand is restored. -/
def execSlotCycleExpiry (slot : Nat) (s : State) : Out :=
  guardUnit (s.slotOn slot) <|
    if due (s.chan slot).cycleArmed 488282 s.clock then (s.modChan slot fun c => { c with cycleArmed := none }).updateDemand else s

/-- SLOT_PEAK_CLEAR (R536): PWR_SLOT_IPEAK is zeroed at the next boundary. -/
def execSlotPeakClear (writer : Writer) (slot : Nat) (s : State) : Out :=
  guardUnit (s.slotOn slot) (s.acts writer (Reg.PWR_SLOT_CTL_CLEAR.off + Reg.PWR_SLOT_CTL_CLEAR.stride1 * slot) (s.defer (.peakClear slot)))

/-! ### Orderly stops (R552, R553, R555) -/

/-- The channel of a stop turns off (R552 step 4): IDLE, and the drive port is OFF (R514). -/
def State.finishStop (s : State) (i : Nat) : State :=
  let s := s.gateOff i .idle
  if (s.slot i).st == .empty then s else s.drvTo i 7 0

/-- SLOT_SHUTDOWN_DONE (R530, R552, R553): step 1 ends. The active canister sends its demand, or turns its channel off when the peer link is down;
the standby turns its own off and acknowledges. A ladder at step 3 turns its channel off for its second. -/
def execSlotShutdownDone (slot : Nat) (s : State) : Out :=
  guardUnit (s.slotOn slot) <|
    let c := s.chan slot
    let d := s.slot slot
    if d.st == .ladder && d.step = 3 && c.st == .on && c.stopArmed.isSome then s.beginCycle slot
    else if c.st == .stopping && c.stopArmed.isSome && c.ackArmed.isNone then
      if s.serving then
        if s.peerLink then (s.modChan slot fun c => { c with ackArmed := some s.clock }).sendDemand
        else (s.finishStop slot).modChan slot fun c => { c with heldArmed := some s.clock }
      else if s.cfg.state == .standby then (s.finishStop slot).emit .peer [Peer.slotAck, 0, slot]
      else s.finishStop slot
    else s

/-- SLOT_STOP_ACK_TIMEOUT (R552 step 4): 2 s after step 2. -/
def execSlotStopAckTimeout (slot : Nat) (s : State) : Out :=
  guardUnit (s.slotOn slot) <|
    if (s.chan slot).st == .stopping && due (s.chan slot).ackArmed (turnsOfSec 2) s.clock then s.finishStop slot else s

/-- SLOT_HELD_CHECK (R553): 977 Turns after the own channel went off with the peer link down. -/
def execSlotHeldCheck (slot : Nat) (above : Bool) (s : State) : Out :=
  guardUnit (s.slotOn slot) <|
    if due (s.chan slot).heldArmed 977 s.clock then
      let s := s.modChan slot fun c => { c with heldArmed := none }
      if above then s.raise Ev.slotHeld Sev.notice slot 0 0 0 else s
    else s

/-- SLOT_DISCHARGE_CHECK (R547, R555): 977 Turns after both demands cleared. -/
def execSlotDischargeCheck (slot : Nat) (above : Bool) (current : Nat) (s : State) : Out :=
  guardUnit (s.slotOn slot) <|
    if due (s.chan slot).clearArmed 977 s.clock then
      let s := s.modChan slot fun c => { c with clearArmed := none }
      if !above then s
      else if 100 < current then
        let s := s.modChan slot fun c => { c with damaged := true, cause := 6, retryArmed := none, st := if c.st == .empty || c.st == .inserting then c.st else .fault }
        s.raise Ev.fetDamaged Sev.error slot 6 current 0
      else s.raise Ev.slotVoltageUnexplained Sev.warning slot 0 current 0
    else s

/-! ### Feeds -/

/-- FEED_PRESENT_DEBOUNCED (R541, R557). -/
def execFeedPresentDebounced (feed : Nat) (s : State) : Out :=
  guardUnit (decide (feed < 2)) <|
    if (s.feed feed).st == .absent then s.modFeed feed fun x => { x with st := .waiting, present := true, insertArmed := some s.clock, windowArmed := some s.clock } else s

/-- A feed's input may be used (R557, R558, R560). -/
def State.feedAvailable (s : State) (f : Nat) : State :=
  (s.modFeed f fun x => { x with st := .available, insertArmed := none, windowArmed := none, first := false }).feedSelect

/-- FEED_INSERT_DELAY_EXPIRY (R557): at first power the feed is AVAILABLE at once. -/
def execFeedInsertDelayExpiry (feed : Nat) (s : State) : Out :=
  guardUnit (decide (feed < 2)) <|
    let x := s.feed feed
    if x.st == .waiting && s.pwrDue x.insertArmed s.insertTurns then
      if x.first then s.feedAvailable feed else s.modFeed feed fun x => { x with insertArmed := none }
    else s

/-- FEED_RETURN_HOLD_EXPIRY (R557): in window for RETURN_HOLD, with the insertion delay passed. -/
def execFeedReturnHoldExpiry (feed : Nat) (s : State) : Out :=
  guardUnit (decide (feed < 2)) <|
    let x := s.feed feed
    let served := x.insertArmed.isNone || s.pwrDue x.insertArmed s.insertTurns
    if x.st == .waiting && served && s.pwrDue x.windowArmed (turnsOfMs (100 * s.rd Reg.PWR_CFG_RETURN_HOLD)) then s.feedAvailable feed else s

/-- A feed that is pulled (R541, R557): ABSENT, with no latched fault and no retry count. -/
def State.feedPulled (s : State) (f : Nat) : State :=
  (s.feedOff f .absent).modFeed f fun x => { x with present := false, retries := 0, insertArmed := none, windowArmed := none, retryArmed := none }

/-- FEED_FAILURE_TRANSFER (R559): the selected feed's gate goes off, and the dead time runs; a feed whose presence dropped is ABSENT (R541). -/
def execFeedFailureTransfer (presenceLost : Bool) (s : State) : Out :=
  .next <| match s.selected with
    | some f =>
      let s := s.failureTransfer f .waiting
      if presenceLost then s.feedPulled f else s
    | none => s

/-- FEED_DEAD_TIME_EXPIRY (R559, R560): the other feed starts if it is AVAILABLE. -/
def execFeedDeadTimeExpiry (s : State) : Out :=
  .next <| if s.pwr.dead then ({ s with pwr := { s.pwr with dead := false } } : State).feedSelect else s

/-- FEED_POWER_GOOD (R545, R557, R560). -/
def execFeedPowerGood (feed : Nat) (s : State) : Out :=
  guardUnit (decide (feed < 2)) <|
    let x := s.feed feed
    if x.st == .starting && s.sampled x.smp.qualified 16 then
      let s := s.modFeed feed fun x => { x with st := .selected, pg := true, goodArmed := some s.clock }
      let s : State := { s with pwr := { s.pwr with transfer := none, warnArmed := some s.clock } }
      s.feedSelect
    else s

/-- FEED_INPUT_OUT_OF_WINDOW (R557). -/
def execFeedInputOutOfWindow (feed : Nat) (s : State) : Out :=
  guardUnit (decide (feed < 2)) <|
    if (s.feed feed).st == .available then s.modFeed feed fun x => { x with st := .waiting, windowArmed := some s.clock } else s

/-- FEED_REMOVED (R541, R557): a feed that is not selected; one that starts leaves the bus to a new selection. -/
def execFeedRemoved (feed : Nat) (s : State) : Out :=
  guardUnit (decide (feed < 2)) <|
    match (s.feed feed).st with
    | .absent | .selected => s
    | .starting =>
      let s := s.feedPulled feed
      { s with pwr := { s.pwr with dead := true } }
    | .waiting | .available | .fault => s.feedPulled feed

/-! ### The supply warning -/

/-- Does one of the conditions of R563 hold: a selected feed below WARN for 4 samples, a failure transfer, or no feed selected outside a planned
transfer (R560)? -/
def State.warnCause (s : State) : Bool :=
  match s.selected with
  | some f => s.sampled (s.feed f).smp.belowWarn 4
  | none => s.pwr.transfer != some true

/-- SUPPLY_WARNING_ASSERT (R563 to R565). -/
def execSupplyWarningAssert (s : State) : Out := .next <| if s.warnCause then s.assertWarning else s

/-- SUPPLY_WARNING_RELEASE (R563, R565, R567): 4,883 whole Turns in the condition. -/
def execSupplyWarningRelease (s : State) : Out :=
  .next <|
    if s.pwr.warn && s.selected.isSome && s.pwrDue s.pwr.warnArmed 4883 then
      let s : State := { s with pwr := { s.pwr with warn := false } }
      (s.raise Ev.supplyWarning Sev.notice 0 0 0 0).emit .pin [1, 0]
    else s

/-! ### Samples and registers -/

/-- A run of samples, at most 16: one more, or back to none. -/
def runUp (n : Nat) (more : Bool) : Nat := if more then min 16 (n + 1) else 0

/-- A companion takes a sample of a channel (R536, R543, R545). -/
def Sampler.take (m : Sampler) (x : PowerSample) (uv ov warn : Nat) : Sampler :=
  { vin := x.vin, vout := x.vout, current := x.current, limiting := x.limiting
    faultCount := if x.limiting then m.faultCount + 1 else m.faultCount - 1
    qualified := runUp m.qualified (x.gateOk && decide (x.vin ≤ x.vout + 300))
    inWindow := runUp m.inWindow (decide (uv ≤ x.vin) && decide (x.vin ≤ ov))
    below := runUp m.below (decide (x.vin < uv))
    above := runUp m.above (decide (ov < x.vin))
    belowWarn := runUp m.belowWarn (decide (x.vin < warn)) }

/-- One sample of the running Turn (R536, R549, R557, R563): a slot channel's peak current and the end of a dip, a feed's hold of its window and
the condition of the warning's release. -/
def State.takeSample (s : State) (x : PowerSample) : State :=
  let uv := 100 * s.rd Reg.PWR_VOLT_UV
  let ov := 100 * s.rd Reg.PWR_VOLT_OV
  let warn := 100 * s.rd Reg.PWR_VOLT_WARN
  if x.channel < 24 then
    s.modChan x.channel fun c => { c with smp := c.smp.take x uv ov warn, peak := max c.peak x.current }
  else if x.channel < 26 then
    let f := x.channel - 24
    let s := s.modFeed f fun y =>
      { y with smp := y.smp.take x uv ov warn, windowArmed := if y.windowArmed.isSome && !(decide (uv ≤ x.vin) && decide (x.vin ≤ ov)) then some s.clock else y.windowArmed }
    if (s.feed f).st == .selected && !(decide (warn + 100 ≤ x.vin) && decide (x.vin ≤ ov)) then { s with pwr := { s.pwr with warnArmed := some s.clock } } else s
  else s

/-- Has the input of a slot channel been above UV + 0.2 V for its last samples? A brown-out hold then ends (R549). -/
def State.endDip (s : State) (i : Nat) : State :=
  let c := s.chan i
  if c.brownArmed.isSome && decide (4 ≤ c.smp.inWindow) && decide (100 * s.rd Reg.PWR_VOLT_UV + 200 < c.smp.vin) then s.modChan i fun c => { c with brownArmed := none } else s

/-- Report the companions (PWR_STATUS, PWR_BUS, PWR_FEED_STATE, PWR_SLOT_STATE and their readings). -/
def State.pwrStatus (s : State) : State :=
  let s := ((s.wr Reg.PWR_STATUS_WARN 0 0 (b2n s.pwr.warn)).wr Reg.PWR_STATUS_SEL_VALID 0 0 (b2n s.selected.isSome)).wr Reg.PWR_STATUS_SEL 0 0 (s.selected.getD 0)
  let s := s.wr Reg.PWR_STATUS_TRANSFER 0 0 (b2n s.pwr.transfer.isSome)
  let s := s.wr Reg.PWR_BUS 0 0 (min 65535 (s.chan 0).smp.vin + 65536 * min 65535 (s.chan 12).smp.vin)
  let s := foldIdx 2 (fun f s =>
    let x := s.feed f
    let code := match x.st with
      | .absent => 0
      | .waiting => 1
      | .available => 2
      | .starting => 3
      | .selected => 4
      | .fault => 5
    let s := ((s.wr Reg.PWR_FEED_STATE_STATE f 0 code).wr Reg.PWR_FEED_STATE_PRESENT f 0 (b2n x.present)).wr Reg.PWR_FEED_STATE_PG f 0 (b2n x.pg)
    let s := ((s.wr Reg.PWR_FEED_STATE_LIMITING f 0 (b2n x.smp.limiting)).wr Reg.PWR_FEED_STATE_IN_WINDOW f 0 (b2n (decide (4 ≤ x.smp.inWindow)))).wr Reg.PWR_FEED_STATE_CAUSE f 0 x.cause
    ((s.wr Reg.PWR_FEED_STATE_RETRIES f 0 (min 15 x.retries)).wr Reg.PWR_FEED_VIN f 0 (min 65535 x.smp.vin)).wr Reg.PWR_FEED_I f 0 (min 65535 x.smp.current)) s
  foldIdx 24 (fun i s =>
    let c := s.chan i
    let code := match c.st with
      | .empty => 0
      | .inserting => 1
      | .idle => 2
      | .waitInput => 3
      | .starting => 4
      | .on => 5
      | .stopping => 6
      | .fault => 7
    let s := ((s.wr Reg.PWR_SLOT_STATE_STATE i 0 code).wr Reg.PWR_SLOT_STATE_PRESENT i 0 (b2n c.present)).wr Reg.PWR_SLOT_STATE_PG i 0 (b2n c.pg)
    let s := ((s.wr Reg.PWR_SLOT_STATE_LIMITING i 0 (b2n c.smp.limiting)).wr Reg.PWR_SLOT_STATE_DEMAND i 0 (b2n c.demand)).wr Reg.PWR_SLOT_STATE_PEER_DEMAND i 0 (b2n c.peerDemand)
    let s := ((s.wr Reg.PWR_SLOT_STATE_CAUSE i 0 c.cause).wr Reg.PWR_SLOT_STATE_DAMAGED i 0 (b2n c.damaged)).wr Reg.PWR_SLOT_STATE_RETRIES i 0 (min 15 c.retries)
    ((s.wr Reg.PWR_SLOT_VOUT i 0 (min 65535 c.smp.vout)).wr Reg.PWR_SLOT_I i 0 (min 65535 c.smp.current)).wr Reg.PWR_SLOT_IPEAK i 0 (min 65535 c.peak)) s

end Sys2Proof.Machine
end

