-- ==== Sys2Proof/Machine/Failover.lean ====
section
/-!
DEFINITION. Machine/Failover.lean: the FAILOVER family (chapter 19): witness connections and Pawn leases as a canister holds them (R571 to R576), the
witness (R577, R596), the peer link and the mirror (R578 to R584, R550, R552, R526), RECOVERY and takeover (R585 to R591), the pair (R592), the planned
hand-over (R593) and replication (R597). Lease times count local Turns (R57, R574); FOV_CUTOFF and FOV_EXPIRY give them as Turns of the counter.
-/

namespace Sys2Proof.Machine

/-! ### Lease constants (R574) -/

abbrev leaseTurns : Nat := 976563
abbrev cutoffTurns : Nat := 854492
abbrev renewTurns : Nat := 244141
abbrev guardTurns : Nat := 48829
abbrev quietTurns : Nat := 1025392
abbrev resendTurns : Nat := 65536
abbrev contentionTurns : Nat := 2442

/-- MAGIC of a Pawn message (R572): ASCII "LXPW", little-endian. -/
abbrev pawnMagic : Nat := 0x5750584C

/-- Does a message fit a connection (R572): magic, version, type, shelf and canister? -/
def pawnFits (m : PawnMsg) (type shelf canister : Nat) : Bool :=
  m.magic == pawnMagic && m.version == 1 && m.type == type && m.shelf == shelf && m.canister == canister

/-- The shelf and canister that a connection is for (R572). -/
def State.connOf (s : State) : PawnConn → Nat × Nat
  | .witness _ => (s.rd Reg.FOV_CFG_SHELF_ID, s.cfg.canister)
  | .client shelf canister => (shelf, canister)

/-- M, the majority of the configured witnesses (R575). -/
def State.majority (s : State) : Nat := s.witnessCount / 2 + 1

/-- Witnesses whose expiry lies ahead (R575). -/
def State.grants (s : State) : Nat := ((List.range s.witnessCount).filter fun w => decide (s.clock < (s.wit w).expiry)).length

/-- Does the canister hold the Pawn (R575)? -/
def State.pawnHeld (s : State) : Bool := decide (s.majority ≤ s.grants)

/-- Is its Pawn valid (R463, R575)? -/
def State.pawnValid (s : State) : Bool := decide (s.majority ≤ ((List.range s.witnessCount).filter fun w => decide (s.clock < (s.wit w).cutoff)).length)

/-- MAP_POS (R572): the delta batches applied. -/
def State.mapPos (s : State) : Nat := (s.jnl.trailer.map (·.batch)).getD 0

/-! ### Witness connections (R571) -/

/-- The WITNESS entry of a witness. -/
def State.witCfg (s : State) (w : Nat) : Option WitnessCfg := s.failoverSec.bind fun f => f.witnesses[w]?

/-- Daxzin's own federation QP to an address, if there is one. -/
def State.fedQp (s : State) (ip unit : Nat) : Option (Nat × Qp) :=
  s.xpt.qps.find? fun p => p.2.initiated && p.2.service == 2 && p.2.unit == unit && p.2.st != .timewait && (tget s.xpt.handleUse p.2.handle).any fun h => h.1.ip == ip

/-- Send CHALLENGE with a fresh nonce; the proof is awaited (R571). -/
def State.challenge (s : State) (conn : PawnConn) : Nat × State :=
  let (n, s) := s.draw
  let nonce := n % 2 ^ 256
  (nonce, s.pawnSend conn Pawn.challenge 0 (s.pawnFlags false) 0 0 0 nonce)

/-- The QP of a witness connection is disconnected (R167, R571). -/
def State.disconnect (s : State) (w : Nat) : State :=
  match (s.witCfg w).bind fun c => s.fedQp c.addr c.subPort with
  | some (i, _) => (s.emit .cmDreq [i]).drainQp i
  | none => s

/-- A connection that has come up: CHALLENGE goes out (R571). -/
def State.startProof (s : State) (w : Nat) : State :=
  let (nonce, s) := s.challenge (.witness w)
  s.modWit w fun x => { x with st := .proving, nonce := nonce, proofArmed := some s.clock, retryArmed := none }

/-- Open the connection to a witness (R571). -/
def State.connectWitness (s : State) (w : Nat) : State :=
  match s.witCfg w with
  | none => s
  | some c => match s.fedQp c.addr c.subPort with
    | some (_, q) => if q.st == .rts then s.startProof w else s.modWit w fun x => { x with st := .connecting, retryArmed := none }
    | none => (s.modWit w fun x => { x with st := .connecting, retryArmed := none }).connectOut { mac := c.mac, ip := c.addr, unit := c.subPort } 0

/-- A witness connection is gone (R571, R598): what it granted stands until it expires. -/
def State.witnessDown (s : State) (w : Nat) : State := s.modWit w fun x => { x with st := .down, proofArmed := none, waiting := none, denied := none }

/-- At each boundary: connections open, come up and are found gone (R571); an attempt that failed is made again after 2^22 Turns. -/
def State.witnessStep (s : State) (w : Nat) : State :=
  match s.witCfg w with
  | none => s
  | some c =>
    let up := match s.fedQp c.addr c.subPort with
      | some (_, q) => some (q.st == .rts)
      | none => none
    if !s.cfg.state.accepts 2 then s
    else match (s.wit w).st, up with
      | .down, _ => if (s.wit w).retryArmed.isNone then s.connectWitness w else s
      | .connecting, some true => s.startProof w
      | .connecting, some false => s
      | .connecting, none => (s.witnessDown w).modWit w fun x => { x with retryArmed := some s.clock }
      | .proving, _ => s
      | .ready, _ => s

/-- The message of a rack service's proof (R571). -/
def witMessage (nonce shelf canister : Nat) : List Byte := leBytes 64 (Config.shake256 (ascii "LXWIT" ++ leBytes 32 nonce ++ leBytes 2 shelf ++ leBytes 1 canister) 64)

/-- Does a quote verify under a key, with a nonce (R124, R571)? -/
def quoteOk (body : List Byte) (given nonce pub sig : Nat) : Bool :=
  given == nonce && leNat ((body.drop 0x20).take 32) == nonce && Config.edVerify pub (leBytes 64 (Config.shake256 body 64)) sig

/-- PROOF (R124, R571): a quote with the other side's nonce and its signature, with DEVICE_CERT. -/
def State.sendProof (s : State) (conn : PawnConn) (nonce : Nat) : State :=
  let body := s.quoteBody nonce
  let sig := Config.edSign s.idn.fuses.identityKey (leBytes 64 (Config.shake256 body 64))
  s.emit .pawn ([connCode conn, Pawn.proof, 0, s.pawnFlags false, 0, 0, 0, nonce] ++ body.map (·.toNat) ++ [sig, s.idn.fuses.cert])

/-- Change what a served shelf holds (R577). -/
def State.modServed (s : State) (shelf : Nat) (f : Served → Served) : State := { s with fov := { s.fov with served := tmod s.fov.served shelf f } }

/-- Does this Daxzin act as a witness (R596)? -/
def State.witnesses (s : State) : Bool := s.cfg.state.accepts 2

/-- PAWN_CHALLENGE_RX (R571): answered with PROOF; a canister of a listed shelf is challenged in turn. -/
def execPawnChallengeRx (conn : PawnConn) (msg : PawnMsg) (s : State) : Out :=
  .next <|
    let (shelf, canister) := s.connOf conn
    if !pawnFits msg Pawn.challenge shelf canister then s
    else match conn with
      | .witness w => if (s.wit w).st == .down || s.witnessCount ≤ w then s else s.sendProof conn msg.challenge
      | .client sh c =>
        if !s.witnesses || !thas s.fov.served sh then s
        else
          let s := s.sendProof conn msg.challenge
          let known := (tget s.fov.served sh).any fun x => thas x.conns c
          if known then s
          else
            let (nonce, s) := s.challenge conn
            s.modServed sh fun x => { x with conns := tset x.conns c (nonce, some s.clock, false) }

/-- A proof failed or did not come (R571): disconnect, the event, and a retry after 2^22 Turns by the side that connects. -/
def State.proofFailed (s : State) (conn : PawnConn) : State :=
  let s := s.raise Ev.witnessAuthFailed Sev.error (connCode conn) 0 0 0
  match conn with
  | .witness w =>
    let s := (s.disconnect w).witnessDown w
    (s.modWit w fun x => { x with retryArmed := some s.clock }).wr Reg.FOV_WIT_AUTH_FAIL 0 w 1
  | .client sh c => s.modServed sh fun x => { x with conns := tdel x.conns c }

/-- Send REQUEST to a witness whose connection is READY (R572, R573, R575). -/
def State.sendRequest (s : State) (w : Nat) : State :=
  if (s.wit w).st == .ready then
    let q := s.fov.reqSeq + 1
    let s : State := { s with fov := { s.fov with reqSeq := q } }
    let s := s.modWit w fun x => { x with reqs := ((q, s.clock) :: x.reqs).take 8, waiting := some q, denied := none }
    s.pawnSend (.witness w) Pawn.request 0 (s.pawnFlags false) 0 q (s.wit w).lease s.mapPos
  else s

/-- PAWN_PROOF_RX (R571): checked against the configured key. -/
def execPawnProofRx (conn : PawnConn) (msg : PawnMsg) (proof : PawnProof) (s : State) : Out :=
  .next <|
    let (shelf, canister) := s.connOf conn
    if !pawnFits msg Pawn.proof shelf canister then s
    else match conn with
      | .witness w => match s.witCfg w with
        | none => s
        | some c =>
          if (s.wit w).st != .proving then s
          else
            let nonce := (s.wit w).nonce
            let ok := match proof with
              | .signature sig => c.kind == 1 && Config.edVerify c.pub (witMessage nonce shelf canister) sig
              | .quote body given sig => c.kind == 0 && quoteOk body given nonce c.pub sig
            if ok then
              let s := s.modWit w fun x => { x with st := .ready, proofArmed := none }
              if s.fov.requesting.isSome then s.sendRequest w else s
            else s.proofFailed conn
      | .client sh ca => match (tget s.fov.served sh).bind fun x => tget x.conns ca with
        | some (nonce, some _, false) =>
          let pub := match s.failoverSec.bind fun f => f.witnessFor.find? fun x => x.1 == sh with
            | some x => if ca = 0 then x.2.1 else x.2.2
            | none => 0
          let ok := match proof with
            | .signature _ => false
            | .quote body given sig => quoteOk body given nonce pub sig
          if ok then s.modServed sh fun x => { x with conns := tset x.conns ca (nonce, none, true) } else s.proofFailed conn
        | _ => s

/-- WITNESS_PROOF_TIMEOUT (R571): 2^20 Turns without a valid proof. -/
def execWitnessProofTimeout (conn : PawnConn) (s : State) : Out :=
  .next <| match conn with
    | .witness w => if (s.wit w).st == .proving && due (s.wit w).proofArmed (2 ^ 20) s.clock then s.proofFailed conn else s
    | .client sh c => match (tget s.fov.served sh).bind fun x => tget x.conns c with
      | some (_, armed, false) => if due armed (2 ^ 20) s.clock then s.proofFailed conn else s
      | _ => s

/-- WITNESS_RETRY_EXPIRY (R571): 2^22 Turns after a failed proof. -/
def execWitnessRetryExpiry (w : Nat) (s : State) : Out :=
  guardUnit (decide (w < 4)) <| if (s.wit w).st == .down && due (s.wit w).retryArmed (2 ^ 22) s.clock then s.connectWitness w else s

/-- WITNESS_CONNECTION_LOST (R598). -/
def execWitnessConnectionLost (w : Nat) (s : State) : Out :=
  guardUnit (decide (w < 4)) <| if (s.wit w).st == .down then s else (s.witnessDown w).raise Ev.witnessLost Sev.warning w 0 0 0

/-! ### Leases as the canister holds them (R575, R576) -/

/-- Start to request the Pawn (R584, R585): REQUEST to every witness whose answer is not a DENY that still runs. -/
def State.startRequesting (s : State) : State :=
  if !s.fov.eligible || s.fov.requesting.isSome || s.fov.takeover.isSome then s
  else
    let s : State := { s with fov := { s.fov with requesting := some s.clock, backoff := none } }
    foldIdx s.witnessCount (fun w s => if (s.wit w).denied.isSome then s else s.sendRequest w) s

/-- Member set-up steps 5 to 7 on every member, at once (R524, R586 step 3); a slot whose port is down or REFUSED leaves its position ABSENT (R527). -/
def State.takeoverSetup (s : State) : State :=
  foldIdx 24 (fun i s =>
    let d := s.slot i
    if d.st == .ready && d.link != 0 then s.setupNext i (if d.vwc then 5 else 6)
    else if d.st == .refused || (d.st == .ready && d.link == 0) then match s.posOfSlot i with
      | some (g, p) => if (s.pos g p).st == .online then s.applyPos g p .absent else s
      | none => s
    else s) s

/-- Step 1 of a takeover, or the grant that a canister in RECOVERY waited for (R585, R586): ANA Change, member set-up, the sets that were ON. -/
def State.startTakeover (s : State) : State :=
  let standby := s.cfg.state == .standby
  let kind := if !standby then 0 else if s.fov.warmth != .warm then 3 else if s.fov.planned then 2 else 1
  let s : State := { s with fov := { s.fov with requesting := none, backoff := none, takeover := some { start := s.clock, kind := kind, fitDone := !standby, replayDone := false, epochDone := false } } }
  let s := if standby then
      ((s.wr Reg.FOV_TAKEOVER_KIND 0 0 kind).wr Reg.FOV_TAKEOVER_UNFIT 0 0 0).raise Ev.takeover Sev.notice s.cfg.canister kind 0 0
    else s
  let s := (s.setAna 0xF).takeoverSetup
  s.fov.setStates.foldl (fun s n => s.requestSet n SetCause.peer) s

/-- PAWN_GRANT_RX (R575, R576): a GRANT that answers one of the last 8 REQUESTs. -/
def execPawnGrantRx (w : Nat) (msg : PawnMsg) (s : State) : Out :=
  guardUnit (decide (w < 4)) <|
    let x := s.wit w
    let (shelf, canister) := s.connOf (.witness w)
    match x.reqs.find? fun r => r.1 == msg.reqSeq with
    | none => s
    | some (q, sent) =>
      if x.st != .ready || !pawnFits msg Pawn.grant shelf canister then s
      else
        let had := s.fov.holder
        let s := s.modWit w fun x => { x with cutoff := max x.cutoff (sent + cutoffTurns), expiry := max x.expiry (sent + leaseTurns), lease := msg.leaseId, denied := none, lastGrant := s.now % 65536, waiting := if x.waiting = some q then none else x.waiting }
        if !s.pawnHeld then s
        else
          let s : State := { s with fov := { s.fov with holder := true, valid := s.pawnValid } }
          if had then s
          else
            let s : State := { s with fov := { s.fov with renewArmed := some s.clock } }
            let s := (s.raise Ev.pawnGranted Sev.notice s.cfg.canister 0 0 0).count 352 1 s.cfg.canister
            if s.fov.takeover.isNone && s.fov.eligible && (s.cfg.state == .standby || (s.cfg.state == .recovery && s.fov.built)) then s.startTakeover
            else { s with fov := { s.fov with requesting := none } }

/-- PAWN_DENY_RX (R584): REQUEST again after WAIT_MS. -/
def execPawnDenyRx (w : Nat) (msg : PawnMsg) (s : State) : Out :=
  guardUnit (decide (w < 4)) <|
    let x := s.wit w
    let (shelf, canister) := s.connOf (.witness w)
    if x.st != .ready || !pawnFits msg Pawn.deny shelf canister || !(x.reqs.any fun r => r.1 == msg.reqSeq) then s
    else s.modWit w fun x => { x with denied := some (s.clock, turnsOfMs msg.waitMs), waiting := if x.waiting = some msg.reqSeq then none else x.waiting }

/-- DENY_WAIT_EXPIRY (R584). -/
def execDenyWaitExpiry (w : Nat) (s : State) : Out :=
  guardUnit (decide (w < 4)) <| match (s.wit w).denied with
    | some (t, n) =>
      if expired t n s.clock then
        let s := s.modWit w fun x => { x with denied := none }
        if s.fov.requesting.isSome then s.sendRequest w else s
      else s
    | none => s

/-- PAWN_RENEW_TIMER (R576): the holder sends REQUEST to every witness. -/
def execPawnRenewTimer (s : State) : Out :=
  .next <| match s.fov.renewArmed with
    | some t =>
      if s.fov.holder && decide (t + renewTurns ≤ s.clock) then
        foldIdx s.witnessCount (fun w s => s.sendRequest w) { s with fov := { s.fov with renewArmed := some s.clock } }
      else s
    | none => s

/-- A minority (R576): RELEASE with REASON 3 to the witnesses that granted, and a random wait of 0 to 244,141 Turns. -/
def State.minority (s : State) : State :=
  let s := s.sendRelease 3 fun w => decide (s.clock < (s.wit w).expiry)
  let (n, s) := s.draw
  { s with fov := { s.fov with requesting := none, backoff := some (s.clock, n % (renewTurns + 1)) } }

/-- PAWN_RESEND_EXPIRY (R576): an unanswered REQUEST is sent again with a new REQ_SEQ; a canister that has requested for 65,536 Turns and holds too
few grants gives way, unless every witness has told it how long to wait (R584). -/
def execPawnResendExpiry (w : Nat) (s : State) : Out :=
  guardUnit (decide (w < 4)) <|
    let x := s.wit w
    let unanswered := (List.range s.witnessCount).any fun w => (s.wit w).waiting.isSome
    let long := match s.fov.requesting with
      | some t => decide (t + resendTurns ≤ s.clock)
      | none => false
    if long && !s.pawnHeld && (unanswered || decide (0 < s.grants)) then s.minority
    else match x.waiting with
      | none => s
      | some q => match x.reqs.find? fun r => r.1 == q with
        | some (_, t) => if decide (t + resendTurns ≤ s.clock) && (s.fov.requesting.isSome || s.fov.holder) then s.sendRequest w else s
        | none => s

/-- MINORITY_BACKOFF_EXPIRY (R576). -/
def execMinorityBackoffExpiry (s : State) : Out :=
  .next <| match s.fov.backoff with
    | some (t, n) => if expired t n s.clock then ({ s with fov := { s.fov with backoff := none } } : State).startRequesting else s
    | none => s

/-- A takeover, or the way out of RECOVERY, ends because the Pawn has gone (R586): STANDBY, or RECOVERY with what it built, goes on as before. -/
def State.takeoverLost (s : State) : State :=
  if s.fov.takeover.isSome then
    let s : State := { s with fov := { s.fov with takeover := none } }
    (s.setAna (anaOf s.cfg.state)).updateDemand
  else s

/-- What the canister does at the boundary at which its Pawn stops being valid (R463, R588). -/
def State.pawnCutoff (s : State) : State :=
  if s.pawnValid then s
  else
    let s : State := { s with fov := { s.fov with valid := false } }
    if s.serving then s.abandonActivation.depose 255 4 else s.takeoverLost

/-- PAWN_CUTOFF (R588). -/
def execPawnCutoff (s : State) : Out := .next s.pawnCutoff

/-- PAWN_EXPIRY (R575): fewer than M witnesses show an expiry ahead. -/
def execPawnExpiry (s : State) : Out :=
  .next <| if s.pawnHeld then s else ({ s with fov := { s.fov with holder := false, renewArmed := none } } : State).pawnCutoff

/-! ### The witness (R577) -/

/-- Milliseconds of a number of Turns, rounded up (R572). -/
def msOfTurns (t : Nat) : Nat := ceilDiv (t * 2048) 1000000

/-- DENY (R573, R577). -/
def State.deny (s : State) (shelf canister reqSeq reason wait : Nat) : State :=
  let lease := ((tget s.fov.served shelf).map (·.lease)).getD 0
  s.pawnSend (.client shelf canister) Pawn.deny reason 0 (msOfTurns wait) reqSeq lease 0

/-- GRANT (R577): the expiry and the guard end from now; a new LEASE_ID when the holder changes. -/
def State.grant (s : State) (shelf canister reqSeq : Nat) : State :=
  match tget s.fov.served shelf with
  | none => s
  | some x =>
    let new := x.holder != some canister
    let lease := if new then s.fov.nextLease else x.lease
    let s : State := if new then { s with fov := { s.fov with nextLease := s.fov.nextLease + 1 } } else s
    let s := s.modServed shelf fun x => { x with holder := some canister, lease := lease, expiry := s.clock + leaseTurns, guardEnd := s.clock + leaseTurns + guardTurns, contention := none }
    s.pawnSend (.client shelf canister) Pawn.grant 0 0 0 reqSeq lease 0

/-- The rank of a claim (R577 case 4): ELIGIBLE, WARM, MAP_POS, FORMER, canister A, the first weighing most. -/
def claimRank (canister : Nat) (m : PawnMsg) : Nat :=
  let f := m.flags
  (((b2n (bitOf f 0) * 2 + b2n (bitOf f 1)) * 2 ^ 64 + m.challenge % 2 ^ 64) * 2 + b2n (bitOf f 2)) * 2 + (1 - canister)

/-- Is a connection of a canister proved (R571)? -/
def Served.proved (x : Served) (canister : Nat) : Bool := (tget x.conns canister).any (·.2.2)

/-- PAWN_REQUEST_RX (R577): the first of the four cases that holds. -/
def execPawnRequestRx (shelf canister : Nat) (msg : PawnMsg) (s : State) : Out :=
  .next <| match tget s.fov.served shelf with
    | none => s
    | some x =>
      if !s.witnesses || !x.proved canister || !pawnFits msg Pawn.request shelf canister then s
      else if s.clock < x.since + quietTurns then s.deny shelf canister msg.reqSeq 2 (x.since + quietTurns - s.clock)
      else if x.holder == some canister then s.grant shelf canister msg.reqSeq
      else if x.holder.isSome && decide (s.clock < x.guardEnd) then
        s.deny shelf canister msg.reqSeq (if s.clock < x.expiry then 1 else 2) (x.guardEnd - s.clock)
      else match x.contention with
        | some (other, _, first) =>
          if other = canister then s.modServed shelf fun x => { x with contention := x.contention.map fun y => (y.1, y.2.1, msg) }
          else
            let (a, am, b, bm) := if claimRank other first < claimRank canister msg then (canister, msg, other, first) else (other, first, canister, msg)
            (s.grant shelf a am.reqSeq).deny shelf b bm.reqSeq 1 (leaseTurns + guardTurns)
        | none => s.modServed shelf fun x => { x with contention := some (canister, s.clock, msg) }

/-- CONTENTION_WAIT_EXPIRY (R577 case 4). -/
def execContentionWaitExpiry (shelf : Nat) (s : State) : Out :=
  .next <| match (tget s.fov.served shelf).bind (·.contention) with
    | some (c, t, m) => if expired t contentionTurns s.clock then s.grant shelf c m.reqSeq else s
    | none => s

/-- PAWN_RELEASE_RX (R577): from the holder, the expiry is now and the guard runs from now. -/
def execPawnReleaseRx (shelf canister : Nat) (msg : PawnMsg) (s : State) : Out :=
  .next <| match tget s.fov.served shelf with
    | none => s
    | some x =>
      if s.witnesses && x.proved canister && pawnFits msg Pawn.release shelf canister && x.holder == some canister then
        s.modServed shelf fun x => { x with expiry := s.clock, guardEnd := s.clock + guardTurns }
      else s

/-! ### The peer link (R579 to R581) -/

/-- The first field in which two HELLOs keep a pair from forming (R581): 1 order number, 2 owner slots, 3 SHELF_ID, 4 EPOCH. -/
def helloMismatch (a b : Hello) : Option Nat :=
  if a.order != b.order then some 1 else if a.owners != b.owners then some 2 else if a.shelf != b.shelf then some 3 else if a.epoch != b.epoch then some 4 else none

/-- A canister in RECOVERY reads the members (R585): the map from the stream, and the rings. -/
def State.startBuild (s : State) : State :=
  let s : State := { s with fov := { s.fov with helloArmed := none, built := false }, lay := { s.lay with map := s.lay.stream }, jnl := { s.jnl with replay := some (s.clock, 1) } }
  s.jnlStatus

/-- HELLO_RX (R23, R115, R581): the pair forms, or the canister does not become standby. -/
def execHelloRx (lane : Nat) (hello : Hello) (s : State) : Out :=
  guardUnit (decide (lane < 2)) <|
    let own := s.ownHello
    match helloMismatch own hello with
    | some c =>
      let s : State := { s with fov := { s.fov with hello := none, peerUp := false, mismatch := true } }
      s.raise Ev.peerMismatch Sev.error lane c 0 0
    | none =>
      let new := s.fov.hello != some hello
      let s : State := { s with fov := { s.fov with hello := some hello, mismatch := false, peerUp := true, beatTurn := s.clock } }
      if new && (own.sequence != hello.sequence || own.svn != hello.svn) then s.raise Ev.peerImageDiffers Sev.notice lane 0 hello.sequence hello.svn else s

/-- Flags of a heartbeat (R579). -/
def beatEligible (b : Heartbeat) : Bool := bitOf b.flags 0
def beatWarm (b : Heartbeat) : Bool := bitOf b.flags 1
def beatFormer (b : Heartbeat) : Bool := bitOf b.flags 2
def beatHolder (b : Heartbeat) : Bool := bitOf b.flags 4

/-- Send map entries as MAP_BULK, 42 to a message (R579, R582); the fuel bounds the messages. -/
def State.mirrorBulk : Nat → List (Nat × MapEnt) → State → State
  | 0, _, s => s
  | n + 1, l, s => match l with
    | [] => s
    | _ =>
      let now := l.take 42
      State.mirrorBulk n (l.drop 42) (s.mirrorSend Peer.mapBulk (48 * now.length) (now.flatMap fun e => [e.1 / 2 ^ 64, e.1 % 2 ^ 64]))

/-- Send the whole extent map to a standby that is not WARM (R582, R583); an empty map is one message with no entry. -/
def State.startCopy (s : State) : State :=
  let s : State := { s with fov := { s.fov with copying := true } }
  if s.lay.stream = [] then s.mirrorSend Peer.mapBulk 0 [] else State.mirrorBulk (s.lay.stream.length / 42 + 1) s.lay.stream s

/-- The hand-over's peer has applied the last trailer (R593 steps 3 and 4): the command completes, and the Pawn is given up. -/
def State.handOverStep (s : State) : State :=
  match s.fov.handOver, s.fov.beat with
  | some h, some b =>
    let sent := s.lay.deltas = [] && !(s.lay.writes.any fun w => match w with
      | .batch _ _ => true
      | _ => false)
    if h.drained && sent && b.mapPos == s.mapPos && s.cfg.state == .active then
      let s : State := { s with fov := { s.fov with handOver := none } }
      (s.replyOk h.ctrl h.cid).depose 0 0
    else s
  | _, _ => s

/-- HEARTBEAT_RX (R582, R584, R585, R588, R593): what the peer's state and flags make this canister do. -/
def execHeartbeatRx (lane : Nat) (beat : Heartbeat) (s : State) : Out :=
  guardUnit (decide (lane < 2)) <|
    if s.fov.hello.isNone then s
    else
      let clear := if beatFormer beat || beatHolder beat then 0 else s.fov.clearBeats + 1
      let s : State := { s with fov := { s.fov with beat := some beat, beatTurn := s.clock, peerUp := true, clearBeats := clear } }
      match s.cfg.state with
      | .recovery =>
        if beatHolder beat && s.fov.takeover.isNone then s.discardBuilt
        else if s.fov.helloArmed.isSome then s.startBuild
        else s
      | .standby =>
        let s : State := if beatHolder beat && s.fov.takeover.isNone then { s with fov := { s.fov with requesting := none, backoff := none, planned := false } } else s
        let s : State := if beat.state = 5 && s.fov.former then { s with fov := { s.fov with former := false, warmth := .cold, copying := false, held := [] } } else s
        if 2 ≤ clear then s.startRequesting else s
      | .active =>
        let s : State := if beatWarm beat then { s with fov := { s.fov with copying := false } } else s
        let s := if beat.state = 4 && !beatWarm beat && !s.fov.copying then s.startCopy else s
        s.handOverStep
      | .boot | .safeHold | .shelfIdle | .activating => s

/-- HEARTBEAT_TIMER (R579): every 4,883 Turns, on both lanes. -/
def execHeartbeatTimer (s : State) : Out :=
  .next <| s.up <|
    if s.fov.beatSent + 4883 ≤ s.clock && s.peerLink then
      let s : State := { s with fov := { s.fov with beatSent := s.clock } }
      let low := (List.range s.witnessCount).map fun w => (s.wit w).cutoff - s.clock
      let flags := s.pawnFlags false + 16 * b2n s.fov.holder + 32 * b2n s.fov.fit
      s.emit .peer [Peer.heartbeat, 0, s.cfg.state.code, flags, low.foldl max 0, s.mapPos]
    else s

/-- A hand-over that can no longer end is given up: admission goes on. -/
def State.endHandOver (s : State) : State :=
  match s.fov.handOver with
  | some h => ({ s with fov := { s.fov with handOver := none, handOverHold := false } } : State).replyErr h.ctrl h.cid St.interrupted
  | none => s

/-- PEER_LOST (R580, R584): no HEARTBEAT for 24,415 Turns, or the peer link down. -/
def execPeerLost (s : State) : Out :=
  .next <|
    if s.fov.peerUp && (decide (s.fov.beatTurn + 24415 ≤ s.clock) || !s.peerLink) then
      let s : State := { s with fov := { s.fov with peerUp := false, clearBeats := 0, copying := if s.serving then false else s.fov.copying } }
      let s := (s.raise Ev.peerLost Sev.error (1 - s.cfg.canister) 0 0 0).endHandOver
      if s.cfg.state == .standby then s.startRequesting else s
    else s

/-- RECOVERY_HELLO_TIMEOUT (R585): 24,415 Turns. -/
def execRecoveryHelloTimeout (s : State) : Out :=
  .next <| if s.cfg.state == .recovery && due s.fov.helloArmed 24415 s.clock then s.startBuild else s

/-! ### The mirror as the standby takes it (R582, R583) -/

/-- A delta as the model keeps it. -/
def deltaOf (d : DeltaRead) : Delta := { nsid := d.nsid, extent := d.extent, ent := DeltaRead.entry d, host := d.hostTag }

/-- Apply deltas to the standby's map and to its view of the stream (R582). -/
def State.applyMirror (s : State) (ds : List Delta) : State :=
  { s with lay := { s.lay with map := streamApply s.lay.map ds, stream := streamApply s.lay.stream ds } }

/-- Take a mirror message in SEQ order (R583): a gap is answered with NACK, a repetition is dropped. A standby with no copy yet takes the first
message's SEQ as its start. -/
def State.mirrorTake (s : State) (seq : Nat) (apply : State → State) : State :=
  if s.cfg.state != .standby then s
  else
    let fresh := s.fov.warmth != .warm && !s.fov.copying
    if fresh || seq = s.fov.mirror + 1 then
      (apply { s with fov := { s.fov with mirror := seq } }).count 356 1 0
    else if s.fov.mirror < seq then s.emit .peer [Peer.nack, 0, s.fov.mirror + 1]
    else s

/-- The copy and the deltas that came meanwhile are applied: WARM (R582). -/
def State.copyDone (s : State) : State :=
  let ds := s.fov.held
  ({ s with fov := { s.fov with copying := false, held := [], warmth := .warm } } : State).applyMirror ds

/-- MAP_BULK_RX (R582, R583): a copy begins with a message out of the standby's order; one that begins again marks a WARM standby STALE. -/
def execMapBulkRx (seq : Nat) (entries : List DeltaRead) (last : Bool) (s : State) : Out :=
  .next <|
    if s.cfg.state != .standby then s
    else
      let stale := s.fov.warmth == .warm && !s.fov.former
      let s := if stale && !s.fov.copying then (({ s with fov := { s.fov with warmth := .stale } } : State).raise Ev.mirrorStale Sev.warning 0 0 s.fov.mirror seq) else s
      let s : State := if s.fov.copying then s else { s with fov := { s.fov with mirror := seq - 1, held := [] }, lay := { s.lay with map := [], stream := [] } }
      s.mirrorTake seq fun s =>
        let s := ({ s with fov := { s.fov with copying := true } } : State).applyMirror (entries.map deltaOf)
        if last then s.copyDone else s

/-- MAP_DELTA_RX (R582): applied, or buffered while the copy runs. -/
def execMapDeltaRx (seq : Nat) (deltas : List DeltaRead) (s : State) : Out :=
  .next <| s.mirrorTake seq fun s =>
    let ds := deltas.map deltaOf
    if s.fov.copying then { s with fov := { s.fov with held := s.fov.held ++ ds } } else s.applyMirror ds

/-- TRAILER_RX (R469, R582). -/
def execTrailerRx (seq : Nat) (trailer : Trailer) (s : State) : Out :=
  .next <| s.mirrorTake seq fun s => { s with jnl := { s.jnl with trailer := some trailer }, lay := { s.lay with batches := trailer.batch } }

/-- A position as the mirror reports it (R484, R514): one that is FAILED refuses its drive. -/
def State.mirrorPos (s : State) (g p st gen slot serial : Nat) : State :=
  let fresh := (s.pos g p).st != .failed
  let q := { s.pos g p with st := PosState.ofCode st, gen := gen, slot := slot, serial := serial }
  let s : State := { s with axl := { s.axl with poses := tset s.axl.poses (posKey g p) q } }
  if q.st == .failed && fresh then s.drvTo slot 5 Refuse.failed else s

/-- Apply a record of the shelf metadata stream (R579, R583). -/
def State.applyRecord (s : State) (r : MdRecord) : State :=
  match r with
  | .key k => ({ s with cph := { s.cph with records := tset s.cph.records k.keyId k } } : State).unwrapRecord k
  | .keyGone id => s.keyErased id
  | .currentKey nsid id => { s with cph := { s.cph with current := tset s.cph.current nsid id } }
  | .lost index nsid lba count cause turn =>
    let l := s.cmd.lost ++ [{ index := index, nsid := nsid, lba := lba, count := count, cause := cause, turn := turn }]
    { s with cmd := { s.cmd with lost := l.drop (l.length - 65536), lostTotal := index + 1 } }
  | .marker host nsid index =>
    let others := s.cmd.markers.filter fun m => !(m.1 == host && m.2.1 == nsid)
    { s with cmd := { s.cmd with markers := others ++ [(host, nsid, index)] } }
  | .position g p st gen slot serial => s.mirrorPos g p st gen slot serial
  | .anchor role slot gen => s.modRole role fun x => { x with slot := slot, gen := gen, st := .active }
  | .groupWidth g k => (s.modGrp g fun x => { x with k := k }).layStatus
  | .reshape g oldK newK boundary =>
    let gone := oldK = newK || (oldK < newK && decide ((s.grp g).k = newK))
    let st := if boundary = 0 && newK < oldK then ReshapeState.preparing else .moving
    { s with axl := { s.axl with reshape := if gone then none else some { group := g, oldK := oldK, newK := newK, st := st, boundary := boundary, batch := boundary, top := 0, joined := [] } } }
  | .setStates l => { s with fov := { s.fov with setStates := l } }
  | .namespaceRec nsid type lbaSize size tenant =>
    { s with cmd := { s.cmd with nss := if size = 0 then tdel s.cmd.nss nsid else tset s.cmd.nss nsid { type := type, lbaSize := lbaSize, size := size, tenant := tenant } } }
  | .replicaBit nsid extent changed =>
    let others := s.fov.replica.filter (· != (nsid, extent))
    { s with fov := { s.fov with replica := if changed then others ++ [(nsid, extent)] else others } }
  | .ivEpoch e => { s with cph := { s.cph with epochs := tset s.cph.epochs (1 - s.cfg.canister) e } }
  | .tallyLost nsid lba count => { s with lay := { s.lay with tallyLost := s.lay.tallyLost ++ [(nsid, lba, count)] } }

/-- RECORD_RX (R579, R582, R583). -/
def execRecordRx (seq : Nat) (record : MdRecord) (s : State) : Out := .next <| s.mirrorTake seq fun s => s.applyRecord record

/-- The pseudo-type under which a mirror message that is sent again stands in the record of outputs. -/
abbrev peerResend : Nat := 128

/-- NACK_RX (R583): everything from the missing SEQ on is sent again, or the copy starts again when that SEQ has left the buffer. -/
def execNackRx (seq : Nat) (s : State) : Out :=
  .next <|
    if !s.serving then s
    else if s.fov.buffer.any fun m => m.1 == seq then
      ((s.fov.buffer.filter fun m => decide (seq ≤ m.1)).reverse).foldl (fun s m => s.emit .peer [peerResend, m.1]) s
    else s.startCopy

/-! ### Slot demand and health (R526, R550, R552) -/

/-- SLOT_DEMAND_RX (R550, R552): the standby follows the map; a slot that has nothing to stop is acknowledged at once. -/
def execSlotDemandRx (map : Nat) (s : State) : Out :=
  .next <|
    let before := s
    let s := foldIdx 24 (fun i s => (s.modChan i fun c => { c with peerDemand := bitOf map i }).armClear i) s
    if s.cfg.state == .standby then
      let s := s.updateDemand
      foldIdx 24 (fun i s => if (before.chan i).peerDemand && !bitOf map i && (s.chan i).st != .stopping then s.emit .peer [Peer.slotAck, 0, i] else s) s
    else s

/-- SLOT_DEMAND_TIMER (R550): once per 2^19 Turns. -/
def execSlotDemandTimer (s : State) : Out := .next <| if s.serving && decide (s.fov.demandTurn + 2 ^ 19 ≤ s.clock) then s.sendDemand else s

/-- SLOT_ACK_RX (R552 step 4). -/
def execSlotAckRx (slot : Nat) (s : State) : Out :=
  guardUnit (s.slotOn slot) <|
    let s := (s.modChan slot fun c => { c with peerDemand := false }).armClear slot
    if s.serving && (s.chan slot).st == .stopping && (s.chan slot).ackArmed.isSome then s.finishStop slot else s

/-- HEALTH_RX (R526): the active canister takes the standby's findings; a drive that reports media read-only or a failed backup fails. -/
def execHealthRx (slot : Nat) (finding : Health) (s : State) : Out :=
  guardUnit (s.slotOn slot) <| match finding with
    | .critWarn v => if s.serving && (bitOf v 3 || bitOf v 4) then s.healthFail slot else s
    | .cfs => s
    | .portDown => s

/-- YIELD_RX (R584). -/
def execYieldRx (_reason : Nat) (planned : Bool) (s : State) : Out :=
  .next <| if s.cfg.state == .standby then ({ s with fov := { s.fov with planned := planned } } : State).startRequesting else s

/-! ### Takeover (R586 to R591) -/

/-- An unfit canister (R591). -/
def State.unfit (s : State) : State :=
  let s := ((s.sendRelease 2 fun _ => true).sendYield 2 false)
  let s : State := { s with fov := { s.fov with eligible := false, fit := false, holder := false, valid := false, takeover := none, renewArmed := none, requesting := none } }
  let s := (s.setAna (anaOf .standby)).updateDemand
  (s.wr Reg.FOV_TAKEOVER_UNFIT 0 0 1).raise Ev.takeoverUnfit Sev.error s.cfg.canister 0 0 0

/-- FITNESS_TEST_DONE (R590, R591): failed units go out of service, and too few that pass make the canister unfit. -/
def execFitnessTestDone (badComp badDec badPipes : List Nat) (pqOk : Bool) (s : State) : Out :=
  .next <| match s.fov.takeover with
    | none => s
    | some t =>
      if t.fitDone then s
      else
        let s := badComp.foldl (fun s i => if i < compLanes then s.compLaneOut i else s) s
        let s := badDec.foldl (fun s i => if i < decompLanes then s.decompLaneOut i else s) s
        let s := badPipes.foldl (fun s i => if i < pipelines then s.pipelineOut i else s) s
        let few := decide (inService (s.rd Reg.CMP_CLANE_FAULT) compLanes < 24) || decide (inService (s.rd Reg.CMP_DLANE_FAULT) decompLanes < 32) || decide (inService (s.rd Reg.CPH_ENG_FAULT) pipelines < 16)
        if !pqOk || few then s.unfit else { s with fov := { s.fov with fit := true, takeover := some { t with fitDone := true } } }

/-- Step 7 (R586), and the end of RECOVERY (R585): ACTIVE and ANA Optimized; walks resume (R495, R508),
and the anchor roles of a new shelf and new drives are labelled (R688, R690). -/
def State.enterActive (s : State) : State :=
  match s.fov.takeover with
  | none => s
  | some t =>
    let ms := min 65535 ((s.clock - t.start) * 2048 / 1000000)
    let s : State := { s with fov := { s.fov with takeover := none, built := false, former := false, planned := false, copying := false, buffer := [], warmth := .cold } }
    let s := s.setDevState .active
    let s := if t.kind = 0 then s
      else ((s.wr Reg.FOV_TAKEOVER_DURATION 0 0 ms).bump Reg.FOV_COUNTS 0 0 (if s.rd Reg.FOV_COUNTS % 65536 = 65535 then 0 else 1)).raise Ev.takeover Sev.notice s.cfg.canister t.kind ms 0 |>.count 354 1 s.cfg.canister
    let s := foldIdx 10 (fun g s => (s.startWalk g).modGrp g fun x => { x with tailSeen := x.tailSeg }) s.claimRoles
    foldIdx 24 (fun i s => if (s.slot i).st == .ready then s.labelNew i else s) s

/-- Is step 3 done: the fitness tests, and set-up on every member (R586)? -/
def State.stepThree (s : State) (t : Takeover) : Bool := t.fitDone && !(s.drv.any fun d => d.st == .ready && d.setup != 0)

/-- Steps 4 to 7 at a boundary (R585, R586): replay, the writing steps, the IV epoch, and ACTIVE. -/
def State.takeoverStep (s : State) : State :=
  match s.fov.takeover with
  | none => s
  | some t =>
    if !s.stepThree t then s
    else if t.replayDone then if t.epochDone && s.replaySettled then s.enterActive else s
    else match s.jnl.product with
      | some p => (s.finishReplay p).startEpoch
      | none =>
        if s.jnl.replay.isSome || s.cfg.state != .standby then s
        else
          let s : State := if t.kind = 3 then { s with lay := { s.lay with map := s.lay.stream } } else s
          ({ s with jnl := { s.jnl with replay := some (s.clock, 2) } } : State).jnlStatus

/-- A canister that may request does so (R584, R585): in STANDBY with its peer lost, in RECOVERY with its map built. -/
def State.requestStep (s : State) : State :=
  let free := s.fov.requesting.isNone && s.fov.backoff.isNone && !s.fov.holder && s.fov.takeover.isNone
  if free && ((s.cfg.state == .standby && !s.fov.peerUp) || (s.cfg.state == .recovery && s.fov.built)) then s.startRequesting else s

/-- CHECKPOINT_FENCE_EXPIRY (R589): 2^22 Turns after the grant. -/
def execCheckpointFenceExpiry (s : State) : Out :=
  .next <| if due s.lay.fence (2 ^ 22) s.clock then { s with lay := { s.lay with fence := none } } else s

/-! ### The pair (R592, R593) -/

/-- Is no canister of the pair both ELIGIBLE and present (R592)? -/
def State.noneEligible (s : State) : Bool :=
  let here := s.cfg.state == .recovery || s.cfg.state == .standby || s.serving
  here && !s.fov.eligible && !(s.fov.peerUp && s.fov.beat.any fun b => beatEligible b)

/-- The pair becomes unserviceable, or serviceable again (R592): the event, and ANA Inaccessible. -/
def State.pairStep (s : State) : State :=
  match s.noneEligible, s.fov.unserviceable with
  | true, none => (({ s with fov := { s.fov with unserviceable := some s.clock } } : State).raise Ev.pairUnserviceable Sev.error 0 0 0 0).setAna 3
  | false, some _ => { s with fov := { s.fov with unserviceable := none } }
  | _, _ => s

/-- PAIR_UNSERVICEABLE_TIMER (R592): again every 2^22 Turns. -/
def execPairUnserviceableTimer (s : State) : Out :=
  .next <| match s.fov.unserviceable with
    | some t =>
      if s.noneEligible && decide (t + 2 ^ 22 ≤ s.clock) then ({ s with fov := { s.fov with unserviceable := some s.clock } } : State).raise Ev.pairUnserviceable Sev.error 0 0 0 0 else s
    | none => s

/-- HAND_OVER (R593): write-class admission is held from the next boundary. -/
def execHandOver (ctrl cid : Nat) (s : State) : Out :=
  .next <| s.admin (.handOver ctrl cid) ctrl cid (.mgmt (some RoleBit.admin)) fun s =>
    s.ifActive ctrl cid <|
      let fit := s.fov.peerUp && s.fov.beat.any fun b => b.state == 4 && beatEligible b && beatWarm b
      if !fit || s.fov.handOver.isSome then s.replyErr ctrl cid St.interrupted
      else ({ s with fov := { s.fov with handOver := some { ctrl := ctrl, cid := cid, armed := none, drained := false } } } : State).defer .handOverHold

/-- Step 1 of a hand-over at its boundary (R593). -/
def State.holdForHandOver (s : State) : State :=
  match s.fov.handOver with
  | some h => { s with fov := { s.fov with handOverHold := true, handOver := some { h with armed := some s.clock } } }
  | none => s

/-- Nothing admitted is left (R593 step 3): the last batch and its trailer go out. -/
def State.handOverDrained (s : State) : State :=
  match s.fov.handOver with
  | some h => (({ s with fov := { s.fov with handOver := some { h with drained := true } } } : State).writeBatch).handOverStep
  | none => s

/-- Step 2 of a hand-over at a boundary (R593): have all admitted write-class commands run to acknowledgement? -/
def State.drainStep (s : State) : State :=
  match s.fov.handOver with
  | some h =>
    if h.armed.isNone then s
    else if h.drained then s.handOverStep
    else if s.cmd.entries.any fun p => p.2.admitted && p.2.kind.writeClass then s else s.handOverDrained
  | none => s

/-- HAND_OVER_DRAIN_TIMEOUT (R593 step 2): after 48,829 Turns the completions that remain are discarded. -/
def execHandOverDrainTimeout (s : State) : Out :=
  .next <| match s.fov.handOver with
    | some h =>
      if !h.drained && due h.armed 48829 s.clock then
        let s := s.cmd.entries.foldl (init := s) fun s p => if p.2.admitted && p.2.kind.writeClass then (s.modEntry p.1 fun e => { e with discard := true }).finishOne p.1 St.ok 0 0 else s
        s.handOverDrained
      else s
    | none => s

/-! ### Replication (R597) -/

/-- The MODE 0 entry of a namespace. -/
def State.deferredReplica (s : State) (nsid : Nat) : Option ReplicaCfg := s.failoverSec.bind fun f => f.replicas.find? fun r => r.nsid == nsid && r.mode == 0

/-- Daxzin's QP in RTS to a canister of a peer shelf. -/
def State.shelfQp (s : State) (shelf : Nat) : Option Nat :=
  let addrs := ((s.failoverSec.bind fun f => f.peers.find? fun p => p.shelfId == shelf).map (·.addrs)).getD []
  (s.xpt.qps.find? fun p => p.2.initiated && p.2.service == 2 && p.2.st == .rts && addrs.any fun a => (tget s.xpt.handleUse p.2.handle).any fun h => h.1.ip == a.1).map (·.1)

/-- REPLICA_EXTENT_SEND (R597): a changed extent goes to its replica; its bit clears once the replica completes. -/
def execReplicaExtentSend (nsid extent : Nat) (completed : Bool) (s : State) : Out :=
  .next <| match s.deferredReplica nsid with
    | none => s
    | some r =>
      if !s.serving || !s.fov.replica.contains (nsid, extent) then s
      else if completed then
        ({ s with fov := { s.fov with replica := s.fov.replica.filter (· != (nsid, extent)) } } : State).mdWrite (.record (.replicaBit nsid extent false))
      else match s.shelfQp r.peerShelf with
        | some q => s.emit .wqeSend [q, 0, (s.extent nsid extent).storedLen, extent, nsid, r.peerNsid]
        | none => s

/-- Note at a boundary since when the connection to each peer shelf of a MODE 0 replica is down (R597). -/
def State.replicaStep (s : State) : State :=
  match s.failoverSec with
  | none => s
  | some f =>
    if !s.serving then { s with fov := { s.fov with replicaDown := [] } }
    else f.replicas.foldl (init := s) fun s r =>
      if r.mode != 0 then s
      else if (s.shelfQp r.peerShelf).isSome then { s with fov := { s.fov with replicaDown := tdel s.fov.replicaDown r.peerShelf } }
      else if thas s.fov.replicaDown r.peerShelf then s
      else { s with fov := { s.fov with replicaDown := tset s.fov.replicaDown r.peerShelf s.clock } }

/-- REPLICA_DOWN_TIMEOUT (R597): 2^22 Turns. -/
def execReplicaDownTimeout (shelf : Nat) (s : State) : Out :=
  .next <| if due (tget s.fov.replicaDown shelf) (2 ^ 22) s.clock then
      ({ s with fov := { s.fov with replicaDown := tset s.fov.replicaDown shelf s.clock } } : State).raise Ev.replicaDown Sev.warning shelf 0 0 0
    else s

/-! ### Registers -/

/-- The M-th latest of the witnesses' times (R575): when too few of them lie ahead. -/
def State.pawnUntil (s : State) (f : Witness → Nat) : Nat :=
  let l := (List.range s.witnessCount).map fun w => f (s.wit w)
  (l.filter fun t => decide (s.majority ≤ (l.filter fun u => decide (t ≤ u)).length)).foldl max 0

/-- A local Turn as a Turn of the counter. -/
def State.asCount (s : State) (t : Nat) : Nat := (s.now + t - s.clock) % 2 ^ 48

/-- Report FOV_STATUS, FOV_CUTOFF, FOV_EXPIRY, FOV_MIRROR and FOV_WIT. -/
def State.fovStatus (s : State) : State :=
  let f := s.fov
  let s := s.wrs [(Reg.FOV_STATUS_HOLDER, 0, b2n f.holder), (Reg.FOV_STATUS_VALID, 0, b2n f.valid), (Reg.FOV_STATUS_ELIGIBLE, 0, b2n f.eligible), (Reg.FOV_STATUS_WARM, 0, b2n (f.warmth == .warm)), (Reg.FOV_STATUS_FIT, 0, b2n f.fit), (Reg.FOV_STATUS_PEER_UP, 0, b2n f.peerUp), (Reg.FOV_STATUS_PEER_STATE, 0, (f.beat.map (·.state)).getD 0), (Reg.FOV_STATUS_PEER_HOLDER, 0, b2n (f.beat.any fun b => beatHolder b)), (Reg.FOV_STATUS_GRANTS, 0, s.grants), (Reg.FOV_STATUS_TAKING_OVER, 0, b2n (f.takeover.any fun t => t.kind != 0)), (Reg.FOV_MIRROR, 0, f.mirror)]
  let s := (s.wr Reg.FOV_CUTOFF 0 0 (if f.holder then s.asCount (s.pawnUntil (·.cutoff)) else 0)).wr Reg.FOV_EXPIRY 0 0 (if f.holder then s.asCount (s.pawnUntil (·.expiry)) else 0)
  foldIdx 4 (fun w s =>
    let x := s.wit w
    let code := match x.st with
      | .down => 0
      | .connecting => 1
      | .proving => 2
      | .ready => 3
    ((s.wr Reg.FOV_WIT_STATE 0 w code).wr Reg.FOV_WIT_GRANTED 0 w (b2n (decide (s.clock < x.expiry)))).wr Reg.FOV_WIT_LAST_GRANT 0 w x.lastGrant) s

/-- The leases at a boundary (R463, R575, R588): whether the Pawn is held and valid, and what losing it asks. -/
def State.leaseStep (s : State) : State :=
  let s : State := { s with fov := { s.fov with holder := s.fov.holder && s.pawnHeld, valid := s.pawnValid } }
  if s.serving || s.fov.takeover.isSome then s.pawnCutoff else s

end Sys2Proof.Machine
end

