-- ==== Sys2Proof/Machine/Endpoint.lean ====
section
/-!
DEFINITION. Machine/Endpoint.lean: the ENDPOINT family (chapter 20): resets and link of the service endpoint (R600, R601), power states (R602), MSI-X
(R613), the mailbox and Flash Write (R609 to R612), function-level reset (R614, R615) and containment (R616 to R618).
-/

namespace Sys2Proof.Machine

/-- The code of a containment cause (R616). -/
def causeCode : ContainCause → Nat
  | .surpriseDown => 1
  | .poisoned => 2
  | .malformed => 3
  | .cplTimeout => 4
  | .internal => 5

/-- A fall-back key set whose GO has not been taken is cleared (R615). -/
def State.clearFallback (s : State) : State :=
  foldIdx 16 (fun r s =>
    if s.rd Reg.CPH_FBK_CTL_GO r = 1 then s
    else
      let s := foldIdx 8 (fun w s => s.wr Reg.CPH_FBK_KEY r w 0) s
      (s.wr Reg.CPH_FBK_ID r 0 0).wr Reg.CPH_FBK_NS r 0 0) s

/-- A Flash Write stops (R614): its copy stays as it is. -/
def State.stopFlash (s : State) : State := { s with sep := { s.sep with flash := none } }

/-- The mailbox command in progress is abandoned: its completion is discarded (R614, R600). -/
def State.abandonMailbox (s : State) : State :=
  let left := s.sep.busy.toList
  let s := (s.wr Reg.SEP_MBX_STATUS_BUSY 0 0 0).wr Reg.SEP_MBX_STATUS_PERCENT 0 0 0
  ({ s with sep := { s.sep with busy := none, abandoned := s.sep.abandoned ++ left } } : State).stopFlash

/-- Containment ends (R618): the event, and the completions that it held back. -/
def State.endContainment (s : State) : State :=
  if s.sep.contained.isNone then s
  else
    let held := s.sep.held
    let s : State := { s with sep := { s.sep with contained := none, held := [] } }
    held.foldl (fun s h => s.mailboxPost h.1 (h.2.1, h.2.2) 0 0) (s.raise Ev.endpointReleased Sev.notice 0 0 0 0)

/-- The mailbox's queues and session and the endpoint's copies of R656 return to their reset state (R600, R611, R614, R659). -/
def State.resetMailbox (s : State) : State :=
  let s := s.abandonMailbox.resetCopies .endpoint
  let s := foldIdx 32 (fun j s => s.wr Reg.SEP_MBX_CQ 0 j 0) (foldIdx 128 (fun j s => s.wr Reg.SEP_MBX_SQ 0 j 0) s)
  let s := ((s.wr Reg.SEP_MBX_SQ_TAIL 0 0 0).wr Reg.SEP_MBX_CQ_HEAD 0 0 0).wr Reg.SEP_MBX_STATUS_OPCODE 0 0 0
  let s : State := { s with sep := { s.sep with sqHead := 0, cqTail := 0, phase := true, locked := false, held := [] }, evt := { s.evt with queues := tdel s.evt.queues s.mailboxId } }
  s.setCtrl s.mailboxId (Ctrl.session 0)

/-- Configuration space returns to the values of its table, and MSI-X is masked with no pending bit (R600, R614). -/
def State.resetConfig (s : State) : State :=
  ({ s with sep := { s.sep with bme := false, msixEn := false, fmask := false, d3hot := false, pba := [], flr := none, flrQuiet := false } } : State).maskVectors

/-- The endpoint's link takes a state: the event on entry to DL_Active and on leaving it (R619). -/
def State.sepLink (s : State) (l : SepLink) (speed width : Nat) : State :=
  let was := s.sep.link == .active
  let s : State := { s with sep := { s.sep with link := l, speed := speed, width := width } }
  if l == .active && !was then s.raise Ev.endpointLink Sev.notice 0 2 speed width
  else if was && l != .active then s.raise Ev.endpointLink Sev.warning 0 3 0 0
  else s

/-- ENDPOINT_RESET (R600, R611, R615, R618): SEP_PERST_N holds the endpoint in reset; after a hot reset or a link disable the link trains again. -/
def execEndpointReset (perst : Bool) (s : State) : Out :=
  .next <|
    let s : State := { s with sep := { s.sep with perst := s.sep.perst || perst } }
    if s.inReset then s
    else
      let held := s.sep.link == .held || s.sep.perst
      let s := s.sepLink (if held then .held else .training) 0 0
      let s := { s with sep := { s.sep with held := [] } }
      ((s.endContainment.resetMailbox).resetConfig).clearFallback

/-- SEP_PERST_RELEASE (R601). -/
def execSepPerstRelease (s : State) : Out := .next ({ s with sep := { s.sep with perst := false } } : State).sepStart

/-- What the host has written into the configuration bits. -/
def State.setConfig (s : State) (c : SepConfig) : State := { s with sep := { s.sep with bme := c.bme, msixEn := c.msixEn, fmask := c.fmask } }

/-- ENDPOINT_LINK_UP (R599, R601, R603, R618): within the speed and width of the capability table. -/
def execEndpointLinkUp (speed width : Nat) (config : SepConfig) (s : State) : Out :=
  .next <|
    if (s.sep.link == .training || s.sep.link == .down) && decide (speed ≤ s.sep.table.maxSpeed) && decide (width ≤ s.sep.table.maxWidth) then
      (s.sepLink .active speed width).setConfig config
    else s

/-- POWER_STATE_CHANGE (R602). -/
def execPowerStateChange (d3hot : Bool) (s : State) : Out :=
  .next <| if s.sep.link == .active && s.sep.flr.isNone then { s with sep := { s.sep with d3hot := d3hot } } else s

/-! ### MSI-X (R613) -/

/-- MSIX_UNMASK (R613): the vector's mask bit clears. -/
def execMsixUnmask (vector : Nat) (config : SepConfig) (s : State) : Out :=
  guardUnit (decide (vector < 256)) <|
    if s.sep.link == .active && s.sep.flr.isNone then (s.wr Reg.SEP_MSIX_TABLE 0 (4 * vector + 3) (setBitOf (s.rd Reg.SEP_MSIX_TABLE 0 (4 * vector + 3)) 0 false)).setConfig config else s

/-- May a message go out on a vector (R602, R609, R613, R614, R617)? -/
def State.vectorOpen (s : State) (v : Nat) : Bool :=
  s.sep.msixEn && s.sep.bme && !s.sep.fmask && !s.sep.d3hot && s.sep.contained.isNone && s.sep.flr.isNone && s.sep.link == .active &&
    !bitOf (s.rd Reg.SEP_MSIX_TABLE 0 (4 * v + 3)) 0

/-- The messages of a boundary (R613): one on each vector with a cause in the Turn that ended or a pending bit, where it may go out. -/
def State.sendMsix (s : State) : State :=
  let causes := s.evt.causes
  let s : State := { s with evt := { s.evt with causes := [] } }
  if !s.sep.msixEn then s
  else
    let due := (causes ++ s.sep.pba).eraseDups
    let s : State := { s with sep := { s.sep with pba := due.filter fun v => !s.vectorOpen v } }
    (due.filter fun v => s.vectorOpen v).foldl (fun s v => s.emit .msix [v]) s

/-- Report the pending bits (SEP_MSIX_PBA) and SEP_STATUS. -/
def State.sepStatus (s : State) : State :=
  let s := foldIdx 8 (fun w s => s.wr Reg.SEP_MSIX_PBA 0 w ((s.sep.pba.filter fun v => v / 32 == w).foldl (fun a v => setBitOf a (v % 32) true) 0)) s
  let x := s.sep
  let link := match x.link with
    | .held => 0
    | .training => 1
    | .active => 2
    | .down => 3
  let auth := (s.ctrlOf s.mailboxId).any fun c => c.roles.isSome
  s.wrs [(Reg.SEP_STATUS_LINK, 0, link), (Reg.SEP_STATUS_SPEED, 0, x.speed), (Reg.SEP_STATUS_WIDTH, 0, x.width), (Reg.SEP_STATUS_CONTAINED, 0, b2n x.contained.isSome), (Reg.SEP_STATUS_FLR, 0, b2n x.flr.isSome), (Reg.SEP_STATUS_D3HOT, 0, b2n x.d3hot), (Reg.SEP_STATUS_BME, 0, b2n x.bme), (Reg.SEP_STATUS_MSIX_EN, 0, b2n x.msixEn), (Reg.SEP_STATUS_FMASK, 0, b2n x.fmask), (Reg.SEP_STATUS_SESSION, 0, if x.locked then 2 else b2n auth), (Reg.SEP_MBX_STATUS_SQ_HEAD, 0, x.sqHead), (Reg.SEP_MBX_STATUS_BUSY, 0, b2n x.busy.isSome)]

/-! ### The mailbox (R609 to R611) -/

/-- Does the mailbox take entries: the endpoint out of reset, with no FLR and no containment? -/
def State.mailboxOpen (s : State) : Bool := s.sep.link == .active && s.sep.flr.isNone && s.sep.contained.isNone

/-- Take the next entry of the submission queue (R610): its opcode and command identifier; a bad data pointer fails it. What the entry asks is the
command itself, which follows in the queue of commands. -/
def State.takeEntry (s : State) : State :=
  let h := s.sep.sqHead
  if !s.mailboxOpen || s.sep.busy.isSome || h = s.rd Reg.SEP_MBX_SQ_TAIL then s
  else
    let w := fun (i : Nat) => s.rd Reg.SEP_MBX_SQ 0 (16 * h + i)
    let cid := w 0 / 65536
    let bad := w 6 % 4096 != 0 || decide (2 ^ 24 < w 8)
    let s := ((s.wr Reg.SEP_MBX_STATUS_OPCODE 0 0 (w 0 % 256)).wr Reg.SEP_MBX_STATUS_BUSY 0 0 1).wr Reg.SEP_MBX_STATUS_PERCENT 0 0 0
    let s : State := { s with sep := { s.sep with sqHead := (h + 1) % 8, busy := some cid } }
    if bad then s.replyErr s.mailboxId cid St.invalidField else s

/-- MAILBOX_SUBMIT (R610): a write of SEP_MBX_SQ_TAIL. -/
def execMailboxSubmit (tail : Nat) (s : State) : Out :=
  .next <| s.up <| if s.sep.link == .active && s.sep.flr.isNone then (s.wr Reg.SEP_MBX_SQ_TAIL 0 0 tail).takeEntry else s

/-! ### Flash Write (R612) -/

/-- FLASH_WRITE (R612): opcode C8h of the mailbox session, honoured in SAFE_HOLD only. -/
def execFlashWrite (cid copy address length : Nat) (image : Option Image) (s : State) : Out :=
  .next <|
    let ctrl := s.mailboxId
    if !s.mailboxOpen then s
    else if s.sep.locked then s.replyErr ctrl cid St.accessDenied
    else if s.cfg.state != .safeHold then s.replyErr ctrl cid St.denied
    else if address % 4096 != 0 || length % 4096 != 0 || length < 4096 || 2 ^ 24 < length then s.replyErr ctrl cid St.invalidField
    else if s.sep.flash.isSome then s.replyErr ctrl cid St.interrupted
    else
      let job : FlashJob := { cid := cid, copy := copy % 2, length := length, image := image, step := .reading, pages := 0 }
      let s := ((s.wr Reg.SEP_MBX_STATUS_OPCODE 0 0 0xC8).wr Reg.SEP_MBX_STATUS_BUSY 0 0 1).wr Reg.SEP_MBX_STATUS_PERCENT 0 0 0
      { s with sep := { s.sep with flash := some job, busy := some cid } }

/-- The Flash Write ends with a status. -/
def State.flashEnd (s : State) (j : FlashJob) (st : Nat × Nat) : State := s.stopFlash.replyErr s.mailboxId j.cid st

/-- MAILBOX_DMA_DONE (R609, R612 step 1): a Flash Write goes on to erase its region; any other command's data has no state of its own here. -/
def execMailboxDmaDone (s : State) : Out :=
  .next <| match s.sep.flash with
    | some j =>
      if j.step == .reading && s.mailboxOpen && s.sep.bme then
        let s := (s.modCopy j.copy fun r => { r with headerErased := true }).emit .spi [j.copy, 0]
        { s with sep := { s.sep with flash := some { j with step := .erasing } } }
      else s
    | none => s

/-- FLASH_ERASE_DONE (R612 step 2): an erase that exceeds 400 ms fails the command. -/
def execFlashEraseDone (ok : Bool) (s : State) : Out :=
  .next <| match s.sep.flash with
    | some j =>
      if j.step != .erasing then s
      else if ok then
        let s := (s.modCopy j.copy fun _ => SpiCopy.erased).emit .spi [j.copy, 1]
        { s with sep := { s.sep with flash := some { j with step := .body } } }
      else s.flashEnd j St.internal
    | none => s

/-- FLASH_PAGE_PROGRAM_DONE (R612 steps 3 and 4): the pages after the first, then the first; a page that exceeds 5 ms fails the command. The copy
holds what the data spell once its header page is programmed. -/
def execFlashPageProgramDone (ok : Bool) (s : State) : Out :=
  .next <| match s.sep.flash with
    | none => s
    | some j =>
      if j.step != .body && j.step != .header then s
      else if !ok then s.flashEnd j St.internal
      else if j.step == .header then
        let s := s.modCopy j.copy fun _ => { SpiCopy.erased with image := j.image, headerErased := j.image.isNone, written := j.length }
        s.flashEnd j St.ok
      else
        let total := j.length / 256
        let n := j.pages + 1
        let s := (s.wr Reg.SEP_MBX_STATUS_PERCENT 0 0 (100 * n / total)).emit .spi [j.copy, 1]
        { s with sep := { s.sep with flash := some { j with pages := n, step := if n + 1 < total then .body else .header } } }

/-! ### Function-level reset (R614) -/

/-- FUNCTION_LEVEL_RESET (R614, R615): step 1 at the boundary of the following Turn. -/
def execFunctionLevelReset (s : State) : Out :=
  .next <|
    if s.sep.link == .active && s.sep.flr.isNone then
      (({ s with sep := { s.sep with flr := some s.clock, flrQuiet := false } } : State).clearFallback).defer .flrStop
    else s

/-- FLR_DMA_QUIESCE (R614 step 2). -/
def execFlrDmaQuiesce (s : State) : Out :=
  .next <| match s.sep.flr with
    | some f => if f + 1 + 489 ≤ s.clock then { s with sep := { s.sep with flrQuiet := true } } else s
    | none => s

/-- FLR_COMPLETE (R614 step 3, R618). -/
def execFlrComplete (s : State) : Out :=
  .next <| match s.sep.flr with
    | some f =>
      if f + 48829 ≤ s.clock then
        let s := { s with sep := { s.sep with held := [] } }
        ((s.endContainment.resetMailbox).resetConfig).raise Ev.endpointFlr Sev.notice 0 0 0 0
      else s
    | none => s

/-! ### Containment (R616 to R618) -/

/-- A cause of containment while none is in force (R615, R616, R617). -/
def State.contain (s : State) (code : Nat) : State :=
  let s := ((s.wr Reg.SEP_ERR_CAUSE 0 0 code).wr Reg.SEP_ERR_TURN 0 0 (s.now % 65536)).raise Ev.endpointContained Sev.error 0 code 0 0
  let v := s.rd Reg.SEP_ERR_COUNT
  let s := s.wr Reg.SEP_ERR_COUNT 0 0 (v % 65536 + 65536 * min 65535 (v / 65536 + 1))
  let held := s.sep.busy.toList.map fun c => (c, St.dataTransfer.1, St.dataTransfer.2)
  let s : State := { s with sep := { s.sep with contained := some code, held := held } }
  s.abandonMailbox.clearFallback

/-- ENDPOINT_CONTAIN (R616, R617): a second cause changes only SEP_ERR. -/
def execEndpointContain (cause : ContainCause) (s : State) : Out :=
  .next <|
    let code := causeCode cause
    let live := s.sep.link == .active || (cause == .internal && s.sep.link != .held)
    if !live then s
    else
      let s := if cause == .surpriseDown then s.sepLink .down 0 0 else s
      if s.sep.contained.isSome then s.wr Reg.SEP_ERR_CAUSE 0 0 code else s.contain code

/-- CONTAINMENT_RELEASE (R606, R618): at the next Turn boundary. -/
def execContainmentRelease (s : State) : Out := .next <| if s.sep.contained.isSome then s.defer .containRelease else s

end Sys2Proof.Machine
end

