-- ==== Sys2Proof/Machine/Cache.lean ====
section
/-!
DEFINITION. Machine/Cache.lean: the gather cache and Salamander (chapter 11): enable, disable and drain, fills, and Salamander's
operations and write-backs.
-/

namespace Sys2Proof.Machine

/-! ### States -/

/-- CACHE_ENABLE (R336, R340): EN is written 1; ignored when GATHER_CACHE is 0. -/
def execCacheEnable (s : State) : Out :=
  .next <| s.up <| if s.gch.sets = 0 then s else (s.wr Reg.GCH_CTL_EN 0 0 1).defer (.cacheEnable true)

/-- CACHE_DISABLE (R336, R337): EN is written 0. -/
def execCacheDisable (s : State) : Out :=
  .next <| s.up <| if s.gch.sets = 0 then s else (s.wr Reg.GCH_CTL_EN 0 0 0).defer (.cacheEnable false)

/-- The cache takes a state (R336, R339): its code, and the event when it enters ON or OFF. -/
def State.setCache (s : State) (st : CacheState) : State :=
  let code := match st with
    | .off => 0
    | .on => 1
    | .draining => 2
  let s : State := ({ s with gch := { s.gch with st := st } } : State).wr Reg.GCH_STATUS_STATE 0 0 code
  if st == .draining then s else s.raise Ev.cacheState Sev.notice 0 code 0 0

/-- Lines with a dirty sub-block whose write-back is not asked for yet. -/
def State.dirtyLines (s : State) : List (Nat × Line) :=
  s.gch.lines.filter fun p => p.2.dirty != 0 && !thas s.sal.awaited (lockKey p.2.slot p.2.line)

/-- Put a line's dirty sub-blocks into the write-back queue (R328, R330); none where the queue is full. -/
def State.askWriteBack (s : State) (l : Line) : Option State :=
  let k := lockKey l.slot l.line
  if thas s.sal.awaited k || l.dirty = 0 then some s
  else if 256 ≤ s.sal.wbQueue.length then none
  else some { s with sal := { s.sal with wbQueue := s.sal.wbQueue ++ [k], awaited := tset s.sal.awaited k l.dirty } }

/-- What EN asks for takes effect at the boundary (R336 to R338). -/
def State.cacheSwitch (s : State) (on : Bool) : State :=
  match s.gch.st, on with
  | .off, true => if s.gch.sets = 0 then s else s.setCache .on
  | .draining, true => (({ s with sal := { s.sal with drain := false } } : State).setCache .on).salStatus
  | .on, false =>
    let s := match s.sal.run with
      | some r => ({ s with sal := { s.sal with run := none } } : State).salEnd r.op 2 r.skipped
      | none => s
    let q := s.sal.queue
    let s : State := { s with sal := { s.sal with queue := [], drain := true } }
    let s := q.foldl (fun s op => s.salEnd op 3 0) s
    (s.setCache .draining).salStatus
  | _, _ => s

/-- CACHE_DRAIN_DONE (R336, R337): no dirty sub-block remains, every pin and line goes, and the cache is OFF. -/
def execCacheDrainDone (s : State) : Out :=
  .next <| s.up <|
    if s.gch.st == .draining && s.sal.drain && !(s.gch.lines.any fun p => p.2.dirty != 0) && s.gch.fills.isEmpty && s.gch.exclusive.isEmpty then
      let s : State := { s with gch := { s.gch with lines := [] }, sal := { s.sal with drain := false, wbQueue := [], awaited := [] } }
      ((s.setCache .off).cacheStatus).salStatus
    else s

/-! ### Fills -/

/-- The unit that a member byte address of a slot holds: group, position and row. -/
def State.unitAt (s : State) (slot a : Nat) : Option (Nat × Nat × Nat) :=
  (s.posOfSlot slot).bind fun x =>
    let base := s.unitAddr x.1 x.2 0
    if base ≤ a then some (x.1, x.2, (a - base) / 65536) else none

/-- The address of a line's sub-block. -/
def subAddr (line j : Nat) : Nat := line * 2 ^ 20 + j * 65536

/-- A tag is lost (R335): the way is dead until reset, and open stripes that its dirty sub-blocks served are placed again. -/
def State.deadWay (s : State) (k : Nat) (l : Line) : State :=
  let s : State := { s with gch := { s.gch with dead := if s.gch.dead.contains k then s.gch.dead else s.gch.dead ++ [k] } }
  let s := (s.removeLine k).raise Ev.cacheEcc Sev.error 0 0 l.slot l.line
  let rows := ((List.range 16).filter (bitOf l.dirty)).filterMap fun j => s.unitAt l.slot (subAddr l.line j)
  let s : State := { s with sal := { s.sal with awaited := tdel s.sal.awaited (lockKey l.slot l.line) } }
  (rows.foldl (init := s) fun s x => match s.stripe x.1 x.2.2 with
    | some y => if y.st == .opened then s.rewriteStripe x.1 x.2.2 else s
    | none => s).cacheStatus

/-- CACHE_FILL_DONE (R316, R333, R335): the sub-blocks become valid and the line's lock is released. -/
def execCacheFillDone (slot line subs : Nat) (tagOk : Bool) (s : State) : Out :=
  guardUnit (s.slotOn slot) <|
    match s.gch.fills.find? fun f => f.slot == slot && f.line == line && f.subs == subs with
    | none => s
    | some f =>
      let left := s.gch.fills.erase f
      let lock := lockKey slot line
      let s : State := { s with gch := { s.gch with fills := left, exclusive := if left.any fun g => g.slot == slot && g.line == line then s.gch.exclusive else s.gch.exclusive.filter (· != lock) } }
      match s.findLine slot line with
      | none => s
      | some (k, l) =>
        if !tagOk then s.deadWay k l
        else if s.gch.st != .on then (if l.valid = 0 then s.removeLine k else s)
        else
          let v := l.valid ||| subs
          let pinned := f.pin && v == 0xFFFF && !l.pin
          let s := ((s.setLine k { l with valid := v, pin := l.pin || pinned }).touchLine k).cacheStatus
          if pinned then s.count 171 1 slot else s

/-! ### Salamander's operations -/

/-- GO (R327, R332, R656): the operation that the writer's copy of SAL_CMD, SAL_FIRST and SAL_COUNT describes is queued; the row names
the OP that the copy holds. -/
def State.salGo (s : State) (writer : Writer) (op : Nat) : Out :=
  .next <| s.acts writer Reg.SAL_SUBMIT_GO.off <|
    let f := fun (x : Fld) => s.rd (x.forWriter writer)
    s.salQueue { op := op, all := f Reg.SAL_CMD_ALL == 1, cls := f Reg.SAL_CMD_CLASS, filter := f Reg.SAL_CMD_FILTER == 1, slot := f Reg.SAL_CMD_SLOT, first := f Reg.SAL_FIRST, count := f Reg.SAL_COUNT, tag := f Reg.SAL_CMD_TAG, internal := false }

/-- SAL_CLEAN (R327). -/
def execSalClean (writer : Writer) (s : State) : Out := s.salGo writer 1

/-- SAL_INVALIDATE (R327). -/
def execSalInvalidate (writer : Writer) (s : State) : Out := s.salGo writer 2

/-- SAL_CLEAN_INVALIDATE (R327). -/
def execSalCleanInvalidate (writer : Writer) (s : State) : Out := s.salGo writer 3

/-- SAL_PIN (R327, R331). -/
def execSalPin (writer : Writer) (s : State) : Out := s.salGo writer 4

/-- SAL_UNPIN (R327). -/
def execSalUnpin (writer : Writer) (s : State) : Out := s.salGo writer 5

/-- Is an operation INVALID (R332)? -/
def State.salInvalid (s : State) (op : SalOp) : Bool :=
  if op.op = 4 && !clsReadAllocates op.cls then true
  else if op.all || op.internal then false
  else decide (23 < op.slot) || op.count = 0 || decide ((s.slot op.slot).capacity < (op.first + op.count) * 2 ^ 20)

/-- Is a line in an operation's range? -/
def SalOp.covers (op : SalOp) (l : Line) : Bool :=
  if op.all then !op.filter || l.cls == op.cls
  else l.slot == op.slot && decide (op.first ≤ l.line) && decide (l.line < op.first + op.count)

/-- Lines pinned or about to be, in a set or in the whole cache. -/
def State.pinsIn (s : State) (set : Option Nat) : Nat :=
  let hit := fun k => match set with
    | some n => k / 16 == n
    | none => true
  (s.gch.lines.filter fun p => hit p.1 && (p.2.pin || s.gch.fills.any fun f => f.pin && f.slot == p.2.slot && f.line == p.2.line)).length

/-- PIN of one line (R327, R331): true where the line is skipped. -/
def State.pinLine (s : State) (op : SalOp) (slot line : Nat) : Bool × State :=
  let up := (s.chan slot).st == .on && (match s.posOfSlot slot with
    | some (g, p) => (s.pos g p).st != .failed
    | none => true)
  let set := s.cacheSet slot line
  if !up then (true, s)
  else if 8 ≤ s.pinsIn (some set) || s.gch.sets * 16 * s.rd Reg.GCH_CFG_PIN_LIMIT / 100 ≤ s.pinsIn none then
    (true, s.raiseLim lim19 0 Ev.pinLimit Sev.warning slot 0 line set)
  else match s.allocLine slot line op.cls with
    | none => (true, s)
    | some (k, l) =>
      let missing := 0xFFFF - l.valid % 65536
      if missing = 0 then (false, ((s.setLine k { l with pin := true }).cacheStatus).count 171 1 slot)
      else
        let s : State := { s with gch := { s.gch with lines := tset s.gch.lines k l, fills := s.gch.fills ++ [{ slot := slot, line := line, subs := missing, cls := op.cls, seq := 0, pin := true }], exclusive := lockKey slot line :: s.gch.exclusive } }
        (false, s)

/-- The effect of an operation on a line that it may take (R327): true where the line is skipped; nothing where it must be waited for. -/
def State.salLine (s : State) (op : SalOp) (k : Nat) (l : Line) : Option (Bool × State) :=
  if s.lineLocked l.slot l.line then none
  else if op.op = 1 then (s.askWriteBack l).map fun s => (false, s)
  else if op.op = 2 then
    if l.pin || l.dirty != 0 then some (true, s) else some (false, (s.removeLine k).cacheStatus)
  else if op.op = 3 then
    if l.dirty != 0 then none
    else if l.pin then some (false, s) else some (false, (s.removeLine k).cacheStatus)
  else if op.op = 4 then some (s.pinLine op l.slot l.line)
  else some (false, (s.setLine k { l with pin := false }).cacheStatus)

/-- Ask for the write-backs that a CLEAN_INVALIDATE waits for. -/
def State.salAsk (s : State) (op : SalOp) (l : Line) : State := if op.op = 3 then (s.askWriteBack l).getD s else s

/-- The lines of one unit of an operation's range: one line of a range that is looked up, or a set of a walk (R330). -/
def State.salUnit (s : State) (r : SalRun) : List (Nat × Line) :=
  if r.walk then (List.range 16).filterMap fun w => match tget s.gch.lines (16 * r.pos + w) with
    | some l => if r.op.covers l then some (16 * r.pos + w, l) else none
    | none => none
  else (s.findLine r.op.slot (r.op.first + r.pos)).toList

/-- One unit of the running operation (R330 to R334): nothing where a line of it must be waited for. -/
def State.salStep (s : State) (r : SalRun) : Option State :=
  if !r.walk && r.op.op = 4 then
    if s.lineLocked r.op.slot (r.op.first + r.pos) then none
    else
      let (skip, s) := s.pinLine r.op r.op.slot (r.op.first + r.pos)
      some { s with sal := { s.sal with run := some { r with pos := r.pos + 1, skipped := r.skipped + b2n skip } } }
  else
    let done := (s.salUnit r).foldl (init := some (0, s)) fun a x => match a with
      | none => none
      | some (n, s) => (s.salLine r.op x.1 x.2).map fun y => (n + b2n y.1, y.2)
    done.map fun y => { y.2 with sal := { y.2.sal with run := some { r with pos := r.pos + 1, skipped := r.skipped + y.1 } } }

/-- Run the operation until it ends or waits; the fuel bounds its units. -/
def State.salRun : Nat → State → State
  | 0, s => s
  | n + 1, s => match s.sal.run with
    | none => s
    | some r =>
      if r.total ≤ r.pos then s
      else match s.salStep r with
        | some s => State.salRun n s
        | none => (s.salUnit r).foldl (fun s x => s.salAsk r.op x.2) s

/-- Start the front operation (R330, R332); the fuel bounds the operations that end at once. -/
def State.salStart : Nat → State → State
  | 0, s => s
  | n + 1, s => match s.sal.run, s.sal.queue with
    | none, op :: rest =>
      if s.sal.drain then s
      else
        let s : State := { s with sal := { s.sal with queue := rest } }
        if s.gch.st != .on then State.salStart n (s.salEnd op 3 0)
        else if s.salInvalid op then State.salStart n (s.salEnd op 4 0)
        else
          let walk := op.all || decide (s.gch.sets < op.count)
          { s with sal := { s.sal with run := some { op := op, pos := 0, total := if walk then s.gch.sets else op.count, walk := walk, skipped := 0 } } }
    | _, _ => s

/-- Salamander goes on as far as it can: the drain asks for write-backs, or the running operation takes its next lines. -/
def State.salAdvance (s : State) : State :=
  if s.sal.drain then
    (s.dirtyLines.foldl (fun s p => (s.askWriteBack p.2).getD s) s).salStatus
  else match s.sal.run with
    | some r => (State.salRun (r.total - r.pos + 1) s).salStatus
    | none => s

/-- SAL_OPERATION_START (R330 to R332): the next queued operation starts where none runs; the running one goes on. -/
def execSalOperationStart (s : State) : Out :=
  .next <| s.up <| ((State.salStart (s.sal.queue.length + 1) s).salAdvance).salStatus

/-- The credit after a request that cleans `n` sub-blocks (R329). -/
def salCharge (credit : Int) (n : Nat) : Int := if credit - n < -255 then -255 else credit - n

/-- Hand a dirty sub-block to its owner's writer (R328): an open stripe is closed, one being written is awaited, anything else is
written to its member with FUA. -/
def State.handOff (s : State) (slot a : Nat) : State :=
  match s.unitAt slot a with
  | none => s.cacheWritten slot a
  | some (g, p, row) => match s.stripe g row with
    | some x => if x.st == .opened then (s.padStripe g row).checkStripe g row else s
    | none => (s.writeUnit g p row).cacheWritten slot a

/-- SAL_WRITE_BACK_ISSUE (R328, R329): the front request, while the credit is above 0. -/
def execSalWriteBackIssue (s : State) : Out :=
  .next <| s.up <| match s.sal.wbQueue with
    | [] => s
    | k :: rest =>
      if s.sal.credit ≤ 0 then s
      else
        let slot := k / 2 ^ 32
        let line := k % 2 ^ 32
        let mask := match s.findLine slot line with
          | some (_, l) => l.dirty
          | none => 0
        let s : State := { s with sal := { s.sal with wbQueue := rest, credit := salCharge s.sal.credit (popCount mask), awaited := if mask = 0 then tdel s.sal.awaited k else s.sal.awaited } }
        let s := ((List.range 16).filter (bitOf mask)).foldl (fun s j => s.handOff slot (subAddr line j)) s
        s.salAdvance.salStatus

/-- SAL_OPERATION_DONE (R332): every line handled, every write-back done and every pin fill delivered; the next may start. -/
def execSalOperationDone (s : State) : Out :=
  .next <| s.up <| match s.sal.run with
    | none => s
    | some r =>
      if r.pos < r.total || !s.sal.wbQueue.isEmpty || !s.sal.awaited.isEmpty || s.gch.fills.any (·.pin) then s
      else (({ s with sal := { s.sal with run := none } } : State).salEnd r.op (b2n (r.skipped != 0)) r.skipped).salStatus

end Sys2Proof.Machine
end

