-- ==== Sys2Proof/Machine/Operands.lean ====
section
/-!
DEFINITION. Machine/Operands.lean: the operands of a register access: which field instances an access covers, the bits that it
carries for each, and the values that a field takes (R14, R17, R645, R649, R656).
-/

namespace Sys2Proof.Machine

/-- Does the register that holds a field have 64 bits? -/
def Fld.wide (f : Fld) : Bool := decide (32 < f.lo + f.width)

/-- The instance of a field whose register begins at a BAR0 offset. -/
def Fld.instAt (f : Fld) (off : Nat) : Option (Nat × Nat) :=
  let rel := off - f.off
  let i := if f.count1 ≤ 1 then 0 else rel / f.stride1
  let j := if f.count2 ≤ 1 then 0 else (rel - i * f.stride1) / f.stride2
  if f.off ≤ off && i < f.count1 && j < f.count2 && i * f.stride1 + j * f.stride2 == rel then some (i, j) else none

/-- A field instance. -/
abbrev FldInst := Fld × Nat × Nat

/-- The instances of a field that an access of `n` bytes at a naturally aligned offset covers. -/
def Fld.covered (f : Fld) (off n : Nat) : List FldInst :=
  let bases := (if f.wide && 4 ≤ off then [off - 4] else []) ++ [off] ++ (if n = 8 then [off + 4] else [])
  bases.filterMap fun b => (f.instAt b).map fun p => (f, p.1, p.2)

/-- The field instances that an access covers, in the order of the register map. -/
def fieldsAt (off n : Nat) : List FldInst := fldTable.flatMap fun f => f.covered off n

/-- A register access that Daxzin completes (R17): 32 or 64 bits, naturally aligned. -/
def accessOk (off n : Nat) : Bool := (n == 4 || n == 8) && off % n == 0

/-- The lowest bit and one past the highest bit of a field that an access covers, as bit addresses. -/
def coveredBits (key width off n : Nat) : Nat × Nat := (max key (8 * off), min (key + width) (8 * off + 8 * n))

/-- The bits of an access that fall on a field, in their places within the field. -/
def fieldBits (key width off n val : Nat) : Nat :=
  let c := coveredBits key width off n
  if c.2 ≤ c.1 then 0 else bitsOf val (c.1 - 8 * off) (c.2 - c.1) * 2 ^ (c.1 - key)

/-- The value that a field would take from an access: the bits that the access does not cover are kept. -/
def splice (key width off n val old : Nat) : Nat :=
  let c := coveredBits key width off n
  if c.2 ≤ c.1 then old
  else old - bitsOf old (c.1 - key) (c.2 - c.1) * 2 ^ (c.1 - key) + fieldBits key width off n val

/-- VALID of the data that a selector names: a write of the selector clears it. -/
def selectorValid : List (Fld × Fld) :=
  [(Reg.XPT_QP_SEL, Reg.XPT_QP_CTL_VALID), (Reg.WIN_SEL, Reg.WIN_READ_VALID), (Reg.SCH_PARAM_SEL, Reg.SCH_PARAM_CTL_VALID), (Reg.CPH_SLOT_SEL, Reg.CPH_SLOT_CTL_VALID), (Reg.CNT_SEL, Reg.CNT_CTL_VALID)]

/-- The ranges that the field maps give (R649): field, least and greatest value. -/
def fieldRanges : List (Fld × Nat × Nat) :=
  [(Reg.TRN_CTL_PTP_PORT, 0, 7), (Reg.TRN_CTL_ACQ_TIMEOUT, 1, 120), (Reg.ETH_PORT_CFG_MTU, 0, 2), (Reg.XPT_CFG_ACK_T, 1, 20), (Reg.XPT_CFG_RETRY_CNT, 1, 7), (Reg.XPT_CFG_PIN_QP, 0, 512), (Reg.XPT_CC_CFG_CWND_MIN, 12, 24), (Reg.XPT_CC_CFG_CWND_MAX, 12, 24), (Reg.WIN_CFG_WIN_PER_HOST, 1, 65536), (Reg.WIN_CFG_WIN_MAX_LEN, 0, 12), (Reg.SCH_PARAM_SEL, 0, 24839), (Reg.FSP_POOL_CFG_CLASS, 0, 2), (Reg.FSP_POOL_CFG_AMBER, 1, 50), (Reg.FSP_POOL_CFG_BLACK, 1, 63), (Reg.GCH_CFG_SIZE, 0, 128), (Reg.GCH_CFG_SAL_RATE, 1, 16), (Reg.GCH_CFG_PIN_LIMIT, 0, 50), (Reg.SAL_CMD_SLOT, 0, 23), (Reg.SAL_COUNT, 1, 2 ^ 28)]
  ++ [(Reg.CMP_CFG_NO_GAIN, 0, 4096), (Reg.LAY_CFG_GATHER_HOLD, 0, 4095), (Reg.LAY_CFG_RESERVE_PCT, 1, 20), (Reg.LAY_CFG_COMPACT_PCT, 0, 50), (Reg.LAY_CFG_READY_TIMEOUT, 3, 150), (Reg.JNL_CFG_ANCHOR_CAP, 1, 8), (Reg.JNL_CFG_LIVE_CAP, 16, 48), (Reg.AXL_RB_RATE_FLOOR, 1, 60), (Reg.AXL_RB_RATE_CEIL, 1, 60), (Reg.AXL_RS_RATE_FLOOR, 1, 60), (Reg.AXL_RS_RATE_CEIL, 1, 60), (Reg.AXL_SC_RATE_CEIL, 1, 60), (Reg.AXL_RESYNC, 1, 60), (Reg.DRV_CFG_CMD_TIMEOUT, 1, 60), (Reg.DRV_CFG_LINK_MIN, 1, 6), (Reg.PWR_CFG_FEED_PRI, 0, 2), (Reg.PWR_CFG_BROWNOUT_HOLD, 1, 20), (Reg.PWR_CFG_STAGGER, 1, 24), (Reg.PWR_CFG_RETURN_HOLD, 1, 600), (Reg.PWR_VOLT_UV, 90, 115), (Reg.PWR_VOLT_OV, 125, 140), (Reg.PWR_VOLT_WARN, 0, 118), (Reg.PWR_TIMING_INSERT_DELAY, 50, 2000), (Reg.PWR_TIMING_FAULT_TIMER, 1, 50), (Reg.PWR_TIMING_RETRY_DELAY, 1, 600)]
  ++ [(Reg.PWR_CURRENT_ILIM_SLOT, 4, 64), (Reg.PWR_CURRENT_ILIM_FEED, 8, 64), (Reg.PWR_CURRENT_SHUNT_SLOT, 1, 255), (Reg.PWR_CURRENT_SHUNT_FEED, 1, 255), (Reg.FOV_CFG_WITNESSES, 1, 4), (Reg.FOV_CFG_WITNESS_FOR, 0, 64), (Reg.EVT_CFG_RING_MIN, 1, 4), (Reg.EVT_CFG_AEN_MIN, 1, 4), (Reg.CNT_CFG_SNAP_PERIOD, 0, 20), (Reg.CNT_SEL, 0, 383)]

/-- Fields that depend on another field of the same register or copy (R85, R500). -/
def State.relatedOk (s : State) (f : Fld) (i v : Nat) : Bool :=
  if f = Reg.AXL_RB_RATE_RATE then decide (s.rd Reg.AXL_RB_RATE_FLOOR ≤ v) && decide (v ≤ s.rd Reg.AXL_RB_RATE_CEIL)
  else if f = Reg.AXL_RS_RATE_RATE then decide (s.rd Reg.AXL_RS_RATE_FLOOR ≤ v) && decide (v ≤ s.rd Reg.AXL_RS_RATE_CEIL)
  else if f = Reg.AXL_SC_RATE_RATE then decide (1 ≤ v) && decide (v ≤ s.rd Reg.AXL_SC_RATE_CEIL)
  else if f = Reg.FSP_POOL_CFG_RED then decide (v < s.rd Reg.FSP_POOL_CFG_AMBER i)
  else if f = Reg.JNL_CFG_STANDBY_ANCHOR then decide (v ≤ 23) || v == 31
  else true

/-- May a field take a value (R649)? -/
def State.inRange (s : State) (f : Fld) (i v : Nat) : Bool :=
  (match fieldRanges.find? fun r => r.1 == f with
   | some r => decide (r.2.1 ≤ v) && decide (v ≤ r.2.2)
   | none => true) && s.relatedOk f i v

/-- The bank-control fields that act: COMMIT and ABORT with their table (R71). -/
def bankActions (i : Nat) : List (Fld × BankId × Bool) :=
  [BankId.windows, .handles, .gates i, .params, .masks].flatMap fun b =>
    [({ bankCtl b with lo := BankBit.commit }, b, true), ({ bankCtl b with lo := BankBit.abort }, b, false)]

/-- TIMED of the tables that are not timed: not writable (R71). -/
def untimedFields : List Fld := [BankId.windows, .handles, .params, .masks].map fun b => { bankCtl b with lo := BankBit.timed, acc := .rw }

/-- Is the unit that a register belongs to present (R2): a sub-port, a port's gate list, a drive slot? -/
def State.fldPresent (s : State) (f : Fld) (i : Nat) : Bool :=
  if f.count1 = 18 then s.unitOn i
  else if f.count1 = 8 && f.off / 0x100000 = 6 then s.portOn i
  else if f.count1 = 24 then s.slotOn i
  else true

end Sys2Proof.Machine
end

