-- ==== Sys2Proof/Machine/Flags.lean ====
section
/-!
DEFINITION. Machine/Flags.lean: register fields whose value is that of richer state, and what a read of BAR0 returns (R14, R644 to
R646, R657).
-/

namespace Sys2Proof.Machine

/-- The fused fields of the IDN block (R106), loaded at boot step 1 (R657). -/
def State.fusedField (s : State) (f : Fld) (j : Nat) : Option Nat :=
  let x := s.idn.fuses
  let o := fun k => x.owners.getD k OwnerFuse.blank
  let word := fun (v : Nat) => v / 2 ^ (32 * j) % 2 ^ 32
  let v : Option Nat :=
    if f = Reg.IDN_LOT then some (x.lot % 2 ^ 56)
    else if f = Reg.IDN_DIE_WAFER then some x.wafer
    else if f = Reg.IDN_DIE_DIE_X then some x.dieX
    else if f = Reg.IDN_DIE_DIE_Y then some x.dieY
    else if f = Reg.IDN_DIE_STEPPING then some x.stepping
    else if f = Reg.IDN_PART_VARIANT then some x.variant
    else if f = Reg.IDN_PART_SPEED_BIN then some x.speedBin
    else if f = Reg.IDN_PART_SVN_FLOOR then some x.svnFloor
    else if f = Reg.IDN_STATUS_TAMPER_COUNT then some x.tamperCount
    else if f = Reg.IDN_ALIGN_REC then some (if x.alignCommit then x.alignRec % 2 ^ 48 + 2 ^ 48 else 0)
    else if f = Reg.IDN_CERT then some (word x.cert)
    else if f.off = Reg.IDN_SLOTS_ENROLLED_0.off then
      let k := f.lo / 4
      let b := f.lo % 4
      some (b2n (if b = 0 then (o k).enrolled && (o k).enrolCommit else if b = 1 then (o k).revoked && (o k).revokeCommit else (o k).spoiled && (o k).spoilCommit))
    else none
  v.map fun n => if s.idn.fuseOk then n else 0

/-- The fields of a port's gate list and of the cache masks that the banked tables hold (R236, R340). -/
def State.bankedField (s : State) (f : Fld) (i j : Nat) : Option Nat :=
  let g := s.sch.gates.getD i GateList.allOpen
  if f = Reg.SCH_GCL_BASE then some g.base
  else if f = Reg.SCH_GCL_POS_ENTRY then some g.entry
  else if f = Reg.SCH_GCL_POS_GATES then some g.gates
  else if f = Reg.SCH_GCL_POS_LEFT then some g.left
  else if f = Reg.SCH_GCL_ENTRY then some (tgetD g.list.shd j 0)
  else if f = Reg.GCH_MASK then some (tgetD s.gch.masks.act j f.reset)
  else if f = Reg.GCH_MASK_SHADOW then some (tgetD s.gch.masks.shd j f.reset)
  else none

/-- A field whose value is that of richer state. -/
def State.liveField (s : State) (f : Fld) (i j : Nat) : Option Nat :=
  if f = Reg.TRN_COUNT then some (s.trn.count % 2 ^ 48)
  else if f = Reg.IDN_ID_PUB then some (if s.idn.keyReady then s.idn.idPub / 2 ^ (32 * j) % 2 ^ 32 else 0)
  else if f = Reg.FSP_POOL_CACHE then some ((s.fsp.pools.getD i Pool.off).cache.length)
  else if f = Reg.CMP_STATUS_WAIT then some (min 96 (s.win.blocks.filter fun b => b.2.owner.isSome && (b.2.place == .spilled || b.2.place == .readback || (match b.2.place with
    | .staged _ => true
    | _ => false))).length)
  else match s.fusedField f j with
    | some v => some v
    | none => s.bankedField f i j

/-- What a field reads as on a writer's path: zero for a WO field, a unit that is absent (R2) and a layout group that the image does not
declare (R644). -/
def State.fieldValue (s : State) (writer : Writer) (x : FldInst) : Nat :=
  let f := x.1
  if f.acc = .wo || !s.fldPresent f x.2.1 then 0
  else if f.count1 = 10 && !(s.lay.groups.getD x.2.1 Grp.none).declared then 0
  else match s.liveField f x.2.1 x.2.2 with
    | some v => v % 2 ^ f.width
    | none => s.rd (f.onPath writer) x.2.1 x.2.2

/-- A read of BAR0 (R644 to R646): the fields that the access covers, each in its place; no read changes any state. -/
def State.readBar (s : State) (writer : Writer) (off n : Nat) : Nat :=
  ((fieldsAt off n).map fun x =>
    let key := x.1.key x.2.1 x.2.2
    let v := s.fieldValue writer x
    if 8 * off ≤ key then v * 2 ^ (key - 8 * off) else v / 2 ^ (8 * off - key)).sum % 2 ^ (8 * n)

end Sys2Proof.Machine
end

