-- ==== Sys2Proof/Machine/Frogspawn.lean ====
section
/-!
DEFINITION. Machine/Frogspawn.lean: the commands of the Frogspawn buffer pool (chapter 10).
-/

namespace Sys2Proof.Machine

/-- FSP_ALLOCATE (R294, R299, R300, R303): a pointer, or EMPTY. -/
def execFspAllocate (req role cls : Nat) (s : State) : Out :=
  .next <| match s.alloc role cls req with
    | some (n, i, t) => t.emit .buffer [req, 0, pointerWord n cls i]
    | none => s.emit .buffer [req, 1, 0]

/-- FSP_FREE (R303 to R307): a DECREF after the pointer checks. -/
def execFspFree (req : Nat) (buf : BufRef) (s : State) : Out :=
  .next <| match s.resolveBuf buf with
    | .error (reason, n) => s.badPointer reason n req
    | .ok (n, i) => if thas s.fsp.descs i then s.decref i else s.badPointer 5 n req

/-- FSP_INCREF (R303, R305 to R307). -/
def execFspIncref (req : Nat) (buf : BufRef) (s : State) : Out :=
  .next <| match s.resolveBuf buf with
    | .error (reason, n) => s.badPointer reason n req
    | .ok (n, i) =>
      match tget s.fsp.descs i with
      | none => s.badPointer 5 n req
      | some d => if d.ref = 255 then s.badPointer 6 n req else s.incref i

/-- FSP_CACHE_REFILL (R298, R302): 256 pointers from the ring, when the cache holds fewer than 256; an index that an
uncorrectable ECC error struck is discarded, counted and reported. -/
def execFspCacheRefill (pool : Nat) (eccBad : List Nat) (s : State) : Out :=
  let p := s.pool pool
  guardUnit (decide (pool < 16)) <|
    if p.en && decide (p.cache.length < 256) then
      let r := ringTake (p.ring.length + 1) 256 p.ring
      let good := r.1.filter fun i => !eccBad.contains i
      let lost := r.1.length - good.length
      let s := s.setPool pool { p with cache := p.cache ++ good, ring := r.2 }
      if lost = 0 then s
      else (s.bump Reg.FSP_LEAK pool 0 lost).raise Ev.frogspawnEcc Sev.error pool 0 lost 0
    else s

/-- FSP_CACHE_WRITEBACK (R298): 256 pointers go back to the ring, when the cache holds more than 768. -/
def execFspCacheWriteback (pool : Nat) (s : State) : Out :=
  let p := s.pool pool
  guardUnit (decide (pool < 16)) <|
    if p.en && decide (768 < p.cache.length) then
      let keep := p.cache.take (p.cache.length - 256)
      let back := p.cache.drop (p.cache.length - 256)
      s.setPool pool { p with cache := keep, ring := p.ring ++ back.map fun i => (i, 1) }
    else s

/-- FSP_CLEAR: FSP_CLR.CLEAR takes effect at the next boundary. -/
def execFspClear (s : State) : Out := .next (if s.inReset then s else s.defer .fspClear)

end Sys2Proof.Machine
end

