-- ==== Sys2Proof/Machine/Registers.lean ====
section
/-!
DEFINITION. Machine/Registers.lean: register writes by their access types and writer restrictions (R14 to R17, R643 to R656) and
Register Sequence (R660, R661).
-/

namespace Sys2Proof.Machine

/-- The next state of a command, or the state before where it stopped. -/
def State.after (s : State) : Out → State
  | .next t => t
  | .fault _ => s
  | .refused _ => s

/-! ### One field -/

/-- May a field be written here: the endpoint in SAFE_HOLD (R655), the enrolment registers outside SAFE_HOLD (R112), and the blocks that
one writer owns (R394, R643, R653)? -/
def State.fieldAllowed (s : State) (writer : Writer) (f : Fld) : Bool :=
  let enrol := f = Reg.IDN_ENROL_CTL_SLOT || f = Reg.IDN_ENROL_CTL_REVOKE || f = Reg.IDN_ENROL_CTL_GO || f = Reg.IDN_ENROL_KEY || f = Reg.IDN_ENROL_SECRET || f = Reg.IDN_ENROL_SIG
  let fbk := f = Reg.CPH_FBK_KEY || f = Reg.CPH_FBK_ID || f = Reg.CPH_FBK_NS
  let rate := f = Reg.AXL_RB_RATE_RATE || f = Reg.AXL_RS_RATE_RATE || f = Reg.AXL_SC_RATE_RATE
  if enrol then s.cfg.state == .safeHold
  else if writer = .endpoint && s.cfg.state = .safeHold then
    f = Reg.CFG_CTL_REBOOT || f.off / 0x100000 = 19 || f = Reg.EVT_RING_HEAD || f = Reg.EVT_LATCH || f = Reg.CNT_SEL || f = Reg.CNT_CTL_READ
  else if fbk then writer = .endpoint && (s.cfg.state == .shelfIdle || s.cfg.state == .recovery || s.cfg.state == .standby || s.cfg.state == .active)
  else if rate then writer != .endpoint
  else true

/-- What a 1 written to a W1S field starts; these are the commands of the table that a register starts. -/
def State.fieldAction (s : State) (writer : Writer) (f : Fld) (i : Nat) : State :=
  let go := s.after
  match (bankActions i).find? fun b => b.1 == f with
  | some (_, b, true) => go (execBankCommit writer b s)
  | some (_, b, false) => go (execBankAbort writer b s)
  | none =>
    if f = Reg.TRN_CTL_RELOAD then go (execTrnReload writer s)
    else if f = Reg.CFG_CTL_REBOOT then go (execCfgReboot writer s)
    else if f = Reg.IDN_ENROL_CTL_GO then if s.rd Reg.IDN_ENROL_CTL_REVOKE = 1 then go (execOwnerRevoke writer s) else go (execOwnerEnrol writer s)
    else if f = Reg.ETH_DROP_CLR_CLEAR then go (execEthDropClear i s)
    else if f = Reg.XPT_QP_CTL_READ then go (execQpContextRead writer s)
    else if f = Reg.XPT_QP_CTL_FORCE_ERR then go (execQpForceError writer true s)
    else if f = Reg.WIN_READ_READ then go (execWindowDescriptorRead writer s)
    else if f = Reg.WIN_READ_CLEAR_VIOL then go (execWindowViolationClear s)
    else if f = Reg.SCH_PARAM_CTL_WRITE then go (execSchParamWrite writer s)
    else if f = Reg.SCH_PARAM_CTL_READ then go (execSchParamRead writer s)
    else if f = Reg.SCH_PARAM_CTL_READ_LIVE then go (execSchParamReadLive writer s)
    else if f = Reg.FSP_CLR_CLEAR then go (execFspClear s)
    else if f = Reg.SAL_SUBMIT_GO then go (s.salGo writer (s.own Reg.SAL_CMD_OP writer))
    else if f = Reg.CMP_CLR_CLEAR then go (execCmpVerifyClear s)
    else if f = Reg.CPH_SLOT_CTL_READ then go (execKeySlotRead writer s)
    else if f = Reg.CPH_FBK_CTL_GO then go (execFallbackKeyLoad writer i s)
    else if f = Reg.LAY_SET_CTL_ON then go (execSetPowerOnRequest writer (s.rd Reg.LAY_SET_CTL_SET) s)
    else if f = Reg.LAY_SET_CTL_OFF then go (execSetStopRequest writer (s.rd Reg.LAY_SET_CTL_SET) s)
    else if f = Reg.PWR_SLOT_CTL_CLEAR then go (execSlotClear writer i s)
    else if f = Reg.PWR_SLOT_CTL_CYCLE then go (execSlotCycle writer i s)
    else if f = Reg.PWR_SLOT_CTL_PEAK_CLR then go (execSlotPeakClear writer i s)
    else if f = Reg.CNT_CTL_READ then go (execCounterLiveRead writer s)
    else if f = Reg.CNT_CTL_PRELOAD then go (execCounterPreload writer s)
    else s

/-- The RW fields whose write is a command of the table. -/
def State.fieldCommand (s : State) (writer : Writer) (f : Fld) (i j v : Nat) : Option State :=
  if f = Reg.SCH_GCL_ENTRY then some (s.after (execShadowWrite writer (.gates i) j [v] s))
  else if f = Reg.GCH_MASK_SHADOW then some (s.after (execShadowWrite writer .masks j [v] s))
  else if f = Reg.GCH_CTL_EN then some (s.after (if v = 1 then execCacheEnable s else execCacheDisable s))
  else if f = Reg.SEP_MBX_SQ_TAIL then some (s.after (execMailboxSubmit v s))
  else if f = Reg.EVT_RING_HEAD then some (s.after (execEventRingHeadWrite writer v s))
  else if f = Reg.CNT_CFG_BW_WINDOW then some (s.after (execBwWindowWrite writer v s))
  else none

/-- Store a field on its path; a selector's VALID clears. -/
def State.putField (s : State) (writer : Writer) (f : Fld) (i j v : Nat) : State :=
  let s := s.wr (f.onPath writer) i j v
  match selectorValid.find? fun p => p.1 == f with
  | some p => s.wr (p.2.onPath writer) 0 0 0
  | none => s

/-- Write one field by its access type (R14, R15, R647 to R654): the state, and whether the write was ignored with the
configuration-violation event. `bits` are the bits written in their places, `new` the value that the field would take. -/
def State.writeField (s : State) (writer : Writer) (x : FldInst) (bits new : Nat) : State × Bool :=
  let f := x.1
  let i := x.2.1
  let j := x.2.2
  let old := s.rd (f.onPath writer) i j
  if !s.fldPresent f i || f.acc = .ro then (s, false)
  else if f.acc = .rwl then
    if new = old then (s, false)
    else if writer = .endpoint || s.cfg.locked || !s.inRange f i new then (s, true)
    else (s.putField writer f i j new, false)
  else if f.acc = .w1s && bits = 0 || f.acc = .w1c && bits = 0 then (s, false)
  else if !s.fieldAllowed writer f then (s, true)
  else match f.acc with
    | .w1s => (s.fieldAction writer f i, false)
    | .w1c => (s.wr f i j (old - Nat.land old bits), false)
    | .wclr => (s.wr f i j 0, false)
    | _ =>
      if untimedFields.contains f then (s, false)
      else match s.fieldCommand writer f i j new with
        | some t => (t, false)
        | none => if s.inRange f i new then (s.putField writer f i j new, false) else (s, true)

/-! ### One access -/

/-- Write an access: every field that it covers, the ones that start something last, and one event where some field was ignored. -/
def State.writeBar (s : State) (writer : Writer) (off n val : Nat) : State :=
  let xs := fieldsAt off n
  let step := fun (a : State × Bool) (x : FldInst) =>
    let key := x.1.key x.2.1 x.2.2
    let old := a.1.rd (x.1.onPath writer) x.2.1 x.2.2
    let r := a.1.writeField writer x (fieldBits key x.1.width off n val) (splice key x.1.width off n val old)
    (r.1, a.2 || r.2)
  let a := (xs.filter fun x => x.1.acc != .w1s).foldl step (s, false)
  let a := (xs.filter fun x => x.1.acc == .w1s).foldl step a
  if a.2 then a.1.violation off (writerCode writer) else a.1

/-- REGISTER_WRITE (R14 to R17, R644, R649 to R656): an access that is misaligned or of another width changes nothing, and so does an
offset that holds no register. -/
def execRegisterWrite (writer : Writer) (offset width value : Nat) (s : State) : Out :=
  .next <| s.up <| if accessOk offset width then s.writeBar writer offset width value else s

/-! ### Register Sequence (R660, R661) -/

/-- Configuration-violation events that wait for EVT. -/
def State.violations (s : State) : Nat := (s.evt.raised.filter fun r => r.source == Ev.configurationViolation).length

/-- The bytes that an entry accesses; none where its OP is invalid. -/
def SeqRun.bytes (op : Nat) : Option Nat :=
  match op with
  | 0 => some 4
  | 1 => some 4
  | 2 => some 8
  | 3 => some 8
  | 4 => some 4
  | _ => none

/-- The status with which an entry fails before it runs (R661). -/
def State.entryFault (s : State) (ctrl : Nat) (off op : Nat) : Option (Nat × Nat) :=
  let observer := (s.ctrlOf ctrl).any fun c => c.may (some RoleBit.observer)
  match SeqRun.bytes op with
  | none => some St.invalidField
  | some n =>
    if off % n != 0 || 0x1600000 ≤ off then some St.invalidField
    else if (op == 0 || op == 2 || op == 4) && off / 0x100000 == 21 && !observer then some St.accessDenied
    else none

/-- A sequence ends: its results, and the number of entries that completed. -/
def State.endSeq (s : State) (r : SeqRun) (st : Nat × Nat) : State :=
  let s : State := { s with cmd := { s.cmd with seqs := s.cmd.seqs.filter fun x => !(x.ctrl == r.ctrl && x.cid == r.cid) } }
  ((s.emit .data ([r.ctrl, r.cid] ++ r.results)).endTask 1 r.ctrl r.cid).reply r.ctrl r.cid st r.results.length 0

/-- Keep a sequence that waits for a boundary. -/
def State.keepSeq (s : State) (r : SeqRun) : State :=
  if s.cmd.seqs.any fun x => x.ctrl == r.ctrl && x.cid == r.cid then
    { s with cmd := { s.cmd with seqs := s.cmd.seqs.map fun x => if x.ctrl == r.ctrl && x.cid == r.cid then r else x } }
  else { s with cmd := { s.cmd with seqs := s.cmd.seqs ++ [r] } }

/-- Run entries in order up to a poll, which waits for the boundaries (R660). -/
def State.runSeq : List SeqEntry → SeqRun → State → State
  | [], r, s => s.endSeq r St.ok
  | e :: rest, r, s =>
    match s.entryFault r.ctrl e.offset e.op, SeqRun.bytes e.op with
    | some st, _ => s.endSeq r st
    | none, none => s.endSeq r St.invalidField
    | none, some n =>
      if e.op = 4 then s.keepSeq { r with left := e :: rest, polls := 4 }
      else if e.op = 0 || e.op = 2 then State.runSeq rest { r with results := r.results ++ [s.readBar .session e.offset n] } s
      else
        let before := s.violations
        let t := s.writeBar .session e.offset n (e.arg % 2 ^ (8 * n))
        if t.inReset then t
        else if before < t.violations then t.endSeq r St.invalidField
        else State.runSeq rest { r with results := r.results ++ [0] } t

/-- A poll at a Turn boundary (R660): it matches, it looks again at the next boundary, or it fails at the fourth. -/
def State.pollSeq (s : State) (r : SeqRun) : State :=
  match r.left with
  | [] => s.endSeq r St.ok
  | e :: rest =>
    if r.polls = 0 then State.runSeq r.left r s
    else
      let v := s.readBar .session e.offset 4
      let mask := e.arg % 2 ^ 32
      let expect := e.arg / 2 ^ 32 % 2 ^ 32
      if Nat.land v mask = expect then State.runSeq rest { r with results := r.results ++ [v] } s
      else if r.polls ≤ 1 then s.endSeq r St.invalidField
      else s.keepSeq { r with polls := r.polls - 1 }

/-- The sequences at a boundary: the first goes on, and each that ends lets the next one run (core 1 runs one at a time). -/
def State.pumpSeqs : Nat → State → State
  | 0, s => s
  | n + 1, s =>
    match s.cmd.seqs with
    | [] => s
    | r :: _ =>
      let t := s.pollSeq r
      if t.cmd.seqs.length < s.cmd.seqs.length then State.pumpSeqs n t else t

/-- REGISTER_SEQUENCE (R660, R661). -/
def execRegisterSequence (ctrl cid count : Nat) (entries : List SeqEntry) (s : State) : Out :=
  .next <| s.admin (.registerSequence ctrl cid count entries) ctrl cid (.mgmt none) fun s =>
    let n := count % 128
    let writes := (entries.take n).any fun e => e.op == 1 || e.op == 3
    let admin := (s.ctrlOf ctrl).any fun c => c.may (some RoleBit.admin)
    if n = 0 || 64 < n || entries.length < n then s.replyErr ctrl cid St.invalidField
    else if writes && !admin then s.replyErr ctrl cid St.accessDenied
    else
      let r : SeqRun := { ctrl := ctrl, cid := cid, left := entries.take n, results := [], polls := 0 }
      let s := s.startTask 1 ctrl cid
      if s.cmd.seqs = [] then State.runSeq r.left r s else s.keepSeq r

end Sys2Proof.Machine
end

