-- ==== Sys2Proof/Machine/Boundary.lean ====
section
/-!
DEFINITION. Machine/Boundary.lean: TURN_BOUNDARY (R59): the counter, the bank swaps, the boundary jobs of R61 with their overruns (R69), the
effects that rules time to a boundary, and what every block goes on with from Turn to Turn.
-/

namespace Sys2Proof.Machine

/-! ### The counter and its alignment (R47 to R55) -/

/-- The length of the Turn that begins (R47, R48): at most one Turn in four is adjusted, by one cycle, as often as the correction asks. -/
def State.nextTurnLen (s : State) : Nat :=
  let t := s.trn
  if t.disc == .free || !t.aligned || t.alignPending || decide (t.sinceAdjust < 3) || decide ((t.sinceAdjust + 1) * t.corr.natAbs < 4000) then 2560
  else if 0 < t.corr then 2561 else 2559

/-- The counter as a pending alignment loads it (R53, R55): floor((t − epoch) / 2.048 µs) at this boundary; `corr` holds the measured offset. -/
def State.alignedCount (s : State) : Int := (((s.trn.count + 1 : Nat) : Int) * turnUnits - s.trn.corr) / turnUnits

/-- The aligned TAI second (R92). -/
def State.alignedSecond (s : State) : Nat := s.rd Reg.TRN_EPOCH + (s.alignedCount.toNat * 2048) / 1000000000

/-- Does a pending alignment pass the epoch check of R50 and R92? -/
def State.alignFits (s : State) : Bool :=
  decide (0 ≤ s.alignedCount) && (s.idn.fuses.alignCommit || decide (s.alignedSecond ≤ s.rd Reg.TRN_EPOCH + 252460800))

/-- Is an alignment due at this boundary? -/
def State.aligning (s : State) : Bool := s.deferred.contains (.align true) || s.deferred.contains (.align false)

/-- The counter after this boundary (R54, R59): the next value, or the one that an alignment loads. -/
def State.nextCount (s : State) : Nat :=
  if s.aligning && s.alignFits then s.alignedCount.toNat % 2 ^ 48 else (s.trn.count + 1) % 2 ^ 48

/-- Cycle 0 (R59): the counter, the local Turns that timers count (R57) and the length of the Turn that begins. -/
def State.tick (s : State) : State :=
  let n := s.nextTurnLen
  { s with trn := { s.trn with count := s.nextCount, ticks := s.trn.ticks + 1, prevLen := s.trn.turnLen, turnLen := n, sinceAdjust := if n = 2560 then min 4000 (s.trn.sinceAdjust + 1) else 0 } }

/-- What an alignment does beside loading the counter (R53, R55, R92): the first one is fused, and boot goes on; a time that does not fit
leaves the counter unaligned. `second` and `fits` are those of the boundary. -/
def State.endAlign (s : State) (boot fits : Bool) (second : Nat) : State :=
  let s : State := { s with trn := { s.trn with alignPending := false, acqArmed := none, reloadArmed := none, corr := 0 } }
  let s := s.wr Reg.TRN_CTL_RELOAD 0 0 0
  let s :=
    if fits then
      let s := if s.idn.fuses.alignCommit || s.idn.job.isSome then s else s.startFuse (.align second)
      (({ s with trn := { s.trn with aligned := true } } : State).setDisc .acquiring).trnStatus
    else (s.trnStatus).raise Ev.turnUnaligned Sev.warning 0 0 0 0
  if boot && s.cfg.phase == .acquiring then s.bootDone else s

/-! ### Bank swaps (R62 to R68) -/

/-- Every double-banked table (R62). -/
def bankIds : List BankId := [.windows, .handles] ++ (List.range 8).map BankId.gates ++ [.params, .masks]

/-- The commit that firmware makes of a batch of window changes (R204). -/
def State.commitBatch (s : State) : State :=
  if s.win.batch.isEmpty || s.bankBit .windows BankBit.commit || s.cfg.state == .activating then s else s.bankCommit .windows

/-- Does a rebuild or a reshape run (R322): a walk with a REBUILDING position, or a reshape that moves rows? -/
def State.rebuildRuns (s : State) : Bool :=
  s.axl.reshape.isSome || s.axl.walks.any fun w => s.axl.poses.any fun p => p.1 / 32 == w.1 && p.2.st == .rebuilding

/-- The commit that firmware makes of the way masks when the first rebuild or reshape starts and when the last one ends (R322): REBUILD_MASK
or WAY_MASK of the image's CACHE section. -/
def State.commitMasks (s : State) : State :=
  let need := s.rebuildRuns
  if s.gch.rebuildMasks == need || s.bankBit .masks BankBit.commit || s.cfg.state == .activating then s
  else match s.cfg.running.bind Image.cache with
    | some c =>
      let m := if need then c.rebuildMask else c.wayMask
      let s := m.zipIdx.foldl (fun s x => s.shadowPut .masks x.2 [x.1]) s
      ({ s with gch := { s.gch with rebuildMasks := need } } : State).bankCommit .masks
    | none => s

/-- A window change takes effect (R204, R211): an open completes with its key, a revoke waits for the packets before it. -/
def State.winChanged (s : State) (c : WinChange) : State :=
  match c.desc.st with
  | .isOpen =>
    let s : State := { s with win := { s.win with table := { s.win.table with act := tmod s.win.table.act c.window fun d => { d with openTurn := s.now } } } }
    (match c.reply with
    | some (ctrl, cid) => s.reply ctrl cid St.ok (c.desc.keyTag * 2 ^ 18 + c.window) 0
    | none => s)
  | .draining => { s with win := { s.win with revokes := s.win.revokes ++ [{ window := c.window, turn := s.now, reply := c.reply }] } }
  | .free => s

/-- The window table swaps (R63, R204); earlier contents are kept while a parked packet may need them (R173). -/
def State.swapWindows (s : State) : State :=
  let batch := s.win.batch
  let s : State := { s with win := { s.win with table := s.win.table.swap s.now (!s.xpt.missBuf.isEmpty), batch := [] } }
  ((batch.foldl (fun s c => s.winChanged c) s).winNextBatch).winStatus

/-- A port's gate list swaps (R233, R236): base Turn B, the event and the count. -/
def State.swapGates (s : State) (p : Nat) : State :=
  let b := BankId.gates p
  let base := if s.bankBit b BankBit.timed then s.bankTarget b else s.now
  let s : State := { s with sch := { s.sch with gates := lmod s.sch.gates p fun g => { g with list := g.list.swap s.now false, base := base } } }
  (s.raise Ev.gateSwap Sev.notice p (b2n (s.bankBit b BankBit.lateTarget)) base 0).count 93 1 p

/-- Entries still to be caught up of a table. -/
def State.catchupLeft (s : State) : BankId → List Nat
  | .windows => s.win.table.catchup
  | .handles => s.xpt.handles.catchup
  | .gates p => (s.gateList p).list.catchup
  | .params => s.sch.params.catchup
  | .masks => s.gch.masks.catchup

/-- The swap of one table. -/
def State.swapBank (s : State) (b : BankId) : State :=
  let s := match b with
    | .windows => s.swapWindows
    | .handles => { s with xpt := { s.xpt with handles := s.xpt.handles.swap s.now false } }
    | .gates p => s.swapGates p
    | .params => { s with sch := { s.sch with params := s.sch.params.swap s.now false } }
    | .masks => ({ s with gch := { s.gch with masks := s.gch.masks.swap s.now false } } : State).wr Reg.GCH_STATUS_RB_MASKS 0 0 (b2n s.gch.rebuildMasks)
  s.bankSwapped b s.now

/-- The catch-up of one table in the Turn that begins (R66). -/
def State.catchBank (s : State) (b : BankId) : State :=
  let n := bankRate b
  let s : State := match b with
    | .windows => { s with win := { s.win with table := s.win.table.catchUp n } }
    | .handles => { s with xpt := { s.xpt with handles := s.xpt.handles.catchUp n } }
    | .gates p => { s with sch := { s.sch with gates := lmod s.sch.gates p fun g => { g with list := g.list.catchUp n } } }
    | .params => { s with sch := { s.sch with params := s.sch.params.catchUp n } }
    | .masks => { s with gch := { s.gch with masks := s.gch.masks.catchUp n } }
  s.setBankBit b BankBit.catchup (!(s.catchupLeft b).isEmpty)

/-- A table at a boundary: an eligible swap, then catch-up (R63, R66, R68). -/
def State.bankStep (s : State) (b : BankId) : State :=
  (if s.bankEligible b (s.catchupLeft b).isEmpty s.now then s.swapBank b else s).catchBank b

/-- Every table (R59); contents of earlier Turns go once no parked packet needs them. -/
def State.bankSteps (s : State) : State :=
  let s := bankIds.foldl (fun s b => s.bankStep b) s.commitBatch.commitMasks
  if s.xpt.missBuf.isEmpty then { s with win := { s.win with table := { s.win.table with hist := [] } } } else s

/-! ### Overruns (R69, R70) -/

/-- The bit of a job in TRN_OVERRUN and the block that owns the job. -/
def jobBlock : Job → Fld × Nat
  | .schRefill => (Reg.TRN_OVERRUN_SCH_REFILL, 6)
  | .xptCwnd => (Reg.TRN_OVERRUN_XPT_CWND, 4)
  | .fspThresh => (Reg.TRN_OVERRUN_FSP_THRESH, 8)
  | .layHold => (Reg.TRN_OVERRUN_LAY_HOLD, 13)
  | .cntSnap => (Reg.TRN_OVERRUN_CNT_SNAP, 21)
  | .bgCredit => (Reg.TRN_OVERRUN_BG_CREDIT, 15)

/-- One job of R61 at a boundary: in time, or late, with its bit, the event, and the withdrawal after 256 Turns in a row (R69, R70). -/
def State.jobStep (s : State) (j : Job) (late : Bool) : State :=
  let (f, block) := jobBlock j
  if !late then { s with trn := { s.trn with overrunRun := tdel s.trn.overrunRun f.lo } }
  else
    let n := tgetD s.trn.overrunRun f.lo 0 + 1
    let s : State := { s with trn := { s.trn with overrunRun := tset s.trn.overrunRun f.lo n } }
    let s := (s.wr f 0 0 1).raise Ev.turnOverrun Sev.error block 0 n 0
    if n = 256 then s.withdraw 2 else s

/-- Is the snapshot of this boundary skipped because the pass before it still runs (R69)? -/
def State.snapLate (s : State) (obs : TurnObs) : Bool :=
  obs.late.contains .cntSnap || s.now % 2 ^ s.rd Reg.CNT_CFG_SNAP_PERIOD == 0 && s.cnt.running.isSome

/-- Every job's overrun. -/
def State.jobSteps (s : State) (obs : TurnObs) : State :=
  let s := [Job.schRefill, .xptCwnd, .fspThresh, .layHold, .bgCredit].foldl (fun s j => s.jobStep j (obs.late.contains j)) s
  s.jobStep .cntSnap (s.snapLate obs)

/-! ### Frogspawn levels (R242, R308 to R310) -/

/-- FSP's job: levels of the pools and of the two sides, and the Turns counted at each. -/
def State.fspJob (s : State) : State :=
  let s := foldIdx 16 (fun n s => s.poolBoundary n) s
  let inL := s.roleLevel 0
  let rsL := s.roleLevel 1
  let since := if inL = 3 then (if s.sch.blackSince.isSome then s.sch.blackSince else some s.clock) else none
  { s with sch := { s.sch with inLevel := inL, rsLevel := rsL, blackSince := since, heldArmed := if inL = 3 then s.sch.heldArmed else none } }

/-- The levels that hold for the Turn, in the registers and the counters of Turns spent at each (R242, R633). -/
def State.levelStatus (s : State) : State :=
  let s := if s.sch.inLevel = 0 then s else s.count (85 + s.sch.inLevel) 1 0
  let s := if s.sch.rsLevel = 0 then s else s.count (88 + s.sch.rsLevel) 1 0
  s.wrs [(Reg.SCH_STATUS_IN_LEVEL, 0, s.sch.inLevel), (Reg.SCH_STATUS_RS_LEVEL, 0, s.sch.rsLevel), (Reg.CMD_STATUS_HELD, 0, b2n (s.sch.inLevel = 3))]

/-! ### The DRAM grant (R36, R37, R243) -/

/-- Bytes of DRAM per Turn at full rate: ingest 404 GB/s, restore 380 GB/s, control 6 GB/s. -/
abbrev fullIngest : Nat := 827392
abbrev fullRestore : Nat := 778240
abbrev controlShare : Nat := 12288

/-- Usable DRAM bytes of a Turn, in 1/10,000 byte: 0.95 of the peak of twelve channels of 8 bytes. -/
def State.usableDram (s : State) : Nat := 1867776 * s.cfg.dramRate

/-- Is the usable bandwidth below 790 GB/s (R36)? -/
def State.dramShort (s : State) : Bool := decide (0 < s.cfg.dramRate) && decide (s.cfg.dramRate < 8663)

/-- The priority direction of the image: 0 ingest, 1 restore (R36). -/
def State.priorityDir (s : State) : Nat :=
  match s.section? 2 with
  | some (.platform p) => p.priorityDir
  | _ => 0

/-- The host-payload budget of the direction without priority (R36, R37, R243), in bytes, to the nearest one. -/
def State.dramBudget (s : State) (obs : TurnObs) : Nat :=
  let dir := s.priorityDir
  let used := if dir = 0 then min obs.dramIngest fullIngest else min obs.dramRestore fullRestore
  let left := s.usableDram - 10000 * (obs.dramBackground + controlShare + used)
  if dir = 0 then min 368640 ((left + 10555) / 21111) else min 368640 ((left + 11222) / 22444)

/-- The grant of a boundary: a deficit is carried on, unused budget is not (R243). -/
def State.grantStep (s : State) (obs : TurnObs) : State :=
  let x := s.sch
  let out := x.budget && decide (x.budgetLeft ≤ 0)
  let s := if out then s.count 92 1 0 else s
  let short := s.dramShort
  let carry := if x.budget then min 0 x.budgetLeft else 0
  let dir := 1 - s.priorityDir
  let s : State := { s with sch := { s.sch with budget := short, budgetDir := if short then dir else 0, budgetLeft := if short then (s.dramBudget obs : Int) + carry else 0, exhausted := out } }
  s.wrs [(Reg.SCH_STATUS_BUDGET, 0, b2n short), (Reg.SCH_STATUS_BUDGET_DIR, 0, s.sch.budgetDir), (Reg.SCH_STATUS_EXHAUSTED, 0, b2n out)]

/-! ### Refill and gates (R226, R233, R234) -/

/-- A bucket's refill: min(burst, tokens + rate), over the Turns since the last (R226, R69), in 1/256 byte. -/
def State.fill (s : State) (key rate burst turns : Nat) : State :=
  let v := tgetD s.sch.tokens key 0 + ((rate * turns : Nat) : Int)
  { s with sch := { s.sch with tokens := tset s.sch.tokens key (min ((burst * 256 : Nat) : Int) v) } }

/-- The two buckets of a policer (R239): in mode 1 E fills from C's overflow, in mode 2 P has its own rate. -/
def State.fillPolicer (s : State) (e : Nat) (d : Nat → Nat) (turns : Nat) : State :=
  let mode := bitsOf (d 4) 0 2
  if mode = 0 then s
  else
    let c := s.bucket e 0 + ((d 0 * turns : Nat) : Int)
    let cap : Int := (d 1 * 256 : Nat)
    let excess := (c - cap).toNat
    let s := s.fill (bucketKey e 0) (d 0) (d 1) turns
    if mode = 1 then s.fill (bucketKey e 1) excess (d 3) 1 else s.fill (bucketKey e 1) (d 2) (d 3) turns

/-- The buckets of one entry (R222, R229, R231, R242, R244): amber halves the ingest refill of subscriber queues, red stops every ingest
bucket; a split port's sub-ports have half of its rates and bursts each. -/
def State.fillEntry (s : State) (e : Nat) (turns : Nat) : State :=
  let d := s.paramWord e
  let level := s.sch.inLevel
  let ingest := fun (k rate burst : Nat) (s : State) => if 2 ≤ level then s else s.fill (bucketKey e k) rate burst turns
  if e < 16384 then ingest 1 (if level = 1 then d 2 / 2 else d 2) (d 3) (s.fill (bucketKey e 0) (d 0) (d 1) turns)
  else if e < 16640 then
    ingest 2 (d 5) (d 6) ((s.fill (bucketKey e 0) (d 0) (d 2) turns).fill (bucketKey e 1) (d 1) (d 3) turns)
  else if e < 16648 then
    if s.rd Reg.ETH_PORT_CFG_SPLIT (2 * (e - 16640)) = 1 then
      let s := (s.fill (bucketKey e 0) (d 0 / 2) (d 1 / 2) turns).fill (bucketKey e 2) (d 0 / 2) (d 1 / 2) turns
      ingest 3 (d 2 / 2) (d 3 / 2) (ingest 1 (d 2 / 2) (d 3 / 2) s)
    else ingest 1 (d 2) (d 3) (s.fill (bucketKey e 0) (d 0) (d 1) turns)
  else s.fillPolicer e d turns

/-- The gates of the Turn that begins (R233, R234). -/
def State.gateSteps (s : State) : State :=
  foldIdx 8 (fun p s => { s with sch := { s.sch with gates := lmod s.sch.gates p fun g =>
    let (e, v, left) := gateStep g.list.act g.base s.now
    { g with entry := e, gates := v, left := left } } }) s

/-- SCH's job (R61); an overrun leaves it to the next (R69). -/
def State.schJob (s : State) (late : Bool) : State :=
  if late then s
  else
    let turns := s.clock - s.trn.lastRefill
    let s := (s.sch.params.act.map (·.1)).foldl (fun s e => s.fillEntry e turns) s
    ({ s with trn := { s.trn with lastRefill := s.clock } } : State).gateSteps

/-! ### Transport (R177, R178, R190) -/

/-- RTT_TARGET in fabric cycles; 512 µs is written as 0. -/
def State.rttTarget (s : State) : Nat := 1250 * (let v := s.rd Reg.XPT_CC_CFG_RTT_TARGET; if v = 0 then 512 else v)

/-- AI_BYTES; 256 units are written as 0. -/
def State.aiBytes (s : State) : Nat := 256 * (let v := s.rd Reg.XPT_CC_CFG_AI_BYTES; if v = 0 then 256 else v)

/-- The congestion-window update of a QP that received a CNP or took a sample (R178). -/
def State.cwndStep (s : State) (q : Qp) : Qp :=
  if !q.cnpRx && q.rttMin.isNone then q
  else
    let rtt := q.rttMin.getD 0
    let target := s.rttTarget
    let n := min (q.quiet + 1) 65535
    let up := if target < rtt then 0 else if n < 64 then s.aiBytes else max s.aiBytes (q.cwnd / 16)
    let a := q.alpha + (65536 - q.alpha) / 16
    let (alpha, quiet, cwnd) := if q.cnpRx || decide (4 * target < rtt) then (a, 0, q.cwnd - q.cwnd * a / 131072) else (q.alpha - q.alpha / 16, n, q.cwnd + up)
    { q with cnpRx := false, rttMin := none, rttLast := rtt, alpha := alpha, quiet := quiet, cwnd := min (max cwnd (2 ^ s.rd Reg.XPT_CC_CFG_CWND_MIN)) (2 ^ s.rd Reg.XPT_CC_CFG_CWND_MAX) }

/-- XPT's job (R61): every window; an overrun leaves the samples to the next (R69). -/
def State.xptJob (s : State) (late : Bool) : State :=
  if late then s else { s with xpt := { s.xpt with qps := tmap s.xpt.qps fun _ q => s.cwndStep q } }

/-- A QP at a boundary: the acknowledgement that is due (R190), receive buffers that were consumed, one CNP again (R177), and its work
requests with the triggers that a boundary evaluates (R186), where its handle is active (R165). -/
def State.qpStep (s : State) (i : Nat) : State :=
  match s.qp? i with
  | none => s
  | some q =>
    let s := (s.decrefs q.recv).modQp i fun q => { q with recv := [], ackDue := none, cnpSent := false }
    let s := match q.ackDue with
      | some psn => s.emit .ack [i, psn]
      | none => s
    (if q.sq.isEmpty then s else s.pumpSq i true).greet i

/-- What the ports and the transport go on with in a new Turn: at most 16 address replies again (R141), and every QP. -/
def State.netSteps (s : State) : State :=
  let s : State := { s with eth := s.eth.map fun l => { l with answered := 0 } }
  let s := (s.xpt.qps.map (·.1)).foldl (fun s i => s.qpStep i) s
  let s := if s.cfg.state == .activating then s else s.handleBatch
  foldIdx 16 (fun u s => s.wr Reg.ETH_PORT_STATUS_PTP_SRC u 0 (b2n (s.trn.parent.isSome && s.passesPtp u))) s

/-! ### Credits of the background classes and the journal (R61, R326, R465, R466, R499) -/

/-- Axolotl's and Salamander's credits; an overrun issues none (R69). -/
def State.creditJob (s : State) (obs : TurnObs) : State :=
  if obs.late.contains .bgCredit then s
  else
    let s := s.axlCredits obs.memberWait
    let r : Int := s.rd Reg.GCH_CFG_SAL_RATE
    { s with sal := { s.sal with credit := min r (s.sal.credit + r) } }

/-- The journal's credit (R465): charged the largest PAD of a ring first (R466); and the Turns of a stall with the event again after
2^19 of them (R474). -/
def State.journalCredit (s : State) : State :=
  let pad := (s.jnl.roles.map (·.pad)).foldl max 0
  let c := s.jnl.credit - (pad : Int)
  let step : Int := (s.rd Reg.JNL_CFG_ANCHOR_CAP * 2048 : Nat)
  let s : State := { s with jnl := { s.jnl with credit := min (step * 64) (c + step), roles := s.jnl.roles.map fun r => { r with pad := 0 } } }
  let s := s.wr Reg.JNL_STATUS_CAP_LIMITED 0 0 (b2n (decide (s.jnl.credit ≤ 0)))
  let s := s.judgeStall
  match s.jnl.stalled with
  | none => s
  | some t =>
    let s := (s.bump Reg.JNL_STALL 0 0 1).count 247 1 0
    if s.clock != t && (s.clock - t) % lim19 = 0 then s.raise Ev.ackStall Sev.error s.activeRoles.length 0 0 0 else s

/-- Credits of every kind; tally sectors are opened and sealed at no more than 80 GB/s (R399), that is 163,840 bytes a Turn. -/
def State.creditSteps (s : State) (obs : TurnObs) : State :=
  let s := (s.creditJob obs).journalCredit
  { s with cph := { s.cph with tallyCredit := 163840 } }

/-! ### Counters (R635, R637, R639) -/

/-- CNT at a boundary: the channels' bytes and the pipelines' slots of the Turn that ends, the bandwidth windows, and the snapshot. -/
def State.cntJob (s : State) (obs : TurnObs) : State :=
  let s := (obs.channels.take 12).zipIdx.foldl (init := s) fun s x =>
    ((s.bwAdd (8 + x.2) x.1.1 x.1.2).count (320 + 2 * x.2) x.1.1 x.2).count (321 + 2 * x.2) x.1.2 x.2
  let s := (obs.slots.take 24).zipIdx.foldl (fun s x => if x.1 = 0 then s else s.count (360 + x.2) x.1 (x.2 / 4)) s
  (s.bwBoundary).startSnapshot (obs.late.contains .cntSnap)

/-! ### Effects timed to a boundary -/

/-- A command that an earlier Turn held back runs now (R46, R102, R253). -/
def runLater (i : Instr) (s : State) : Out :=
  match i with
  | .sendRx p pos imm => execSendRx p pos imm s
  | .rdmaWriteRx p pos rkey va imm payload => execRdmaWriteRx p pos rkey va imm payload s
  | .rdmaReadRequestRx p rkey va length => execRdmaReadRequestRx p rkey va length s
  | .rdmaReadResponseRx p pos payload => execRdmaReadResponseRx p pos payload s
  | .sendWithInvalidateRx p => execSendWithInvalidateRx p s
  | .nvmRead io data => execNvmRead io data s
  | .nvmWrite io data => execNvmWrite io data s
  | .windowCommit io append offset length rkey => execWindowCommit io append offset length rkey s
  | .flush io => execFlush io s
  | .writeZeroes io => execWriteZeroes io s
  | .datasetManagement io deallocate ranges => execDatasetManagement io deallocate ranges s
  | .zoneAppend io data => execZoneAppend io data s
  | .zoneClose io selectAll => execZoneClose io selectAll s
  | .zoneFinish io selectAll => execZoneFinish io selectAll s
  | .zoneOpen io selectAll => execZoneOpen io selectAll s
  | .zoneReset io selectAll => execZoneReset io selectAll s
  | .zoneManagementReceive io option isPartial => execZoneManagementReceive io option isPartial s
  | .memberReadDone job rows => execMemberReadDone job rows s
  | .abort ctrl cid qp target => execAbort ctrl cid qp target s
  | .asyncEventRequest ctrl cid => execAsyncEventRequest ctrl cid s
  | .attestationQuote ctrl cid nonce => execAttestationQuote ctrl cid nonce s
  | .authenticate ctrl cid principal signature => execAuthenticate ctrl cid principal signature s
  | .cipherJob ctrl cid rkey offset length keyId mode decrypt iv => execCipherJob ctrl cid rkey offset length keyId mode decrypt iv s
  | .counterRead ctrl cid snapshot => execCounterRead ctrl cid snapshot s
  | .driveRelease ctrl cid slot => execDriveRelease ctrl cid slot s
  | .eventRead ctrl cid count => execEventRead ctrl cid count s
  | .firmwareCommitActivate ctrl cid slot => execFirmwareCommitActivate ctrl cid slot s
  | .firmwareCommitAtReset ctrl cid slot action => execFirmwareCommitAtReset ctrl cid slot action s
  | .firmwareCommitStore ctrl cid slot => execFirmwareCommitStore ctrl cid slot s
  | .firmwareImageDownload ctrl cid slot offset length image => execFirmwareImageDownload ctrl cid slot offset length image s
  | .getChallenge ctrl cid => execGetChallenge ctrl cid s
  | .getFeatures ctrl cid fid sel => execGetFeatures ctrl cid fid sel s
  | .getLogPage ctrl cid lid offset dwords => execGetLogPage ctrl cid lid offset dwords s
  | .handOver ctrl cid => execHandOver ctrl cid s
  | .identify ctrl cid cns nsid csi => execIdentify ctrl cid cns nsid csi s
  | .keepAlive ctrl cid => execKeepAlive ctrl cid s
  | .keyActivate ctrl cid nsid keyId reseal => execKeyActivate ctrl cid nsid keyId reseal s
  | .keyDestroy ctrl cid keyId => execKeyDestroy ctrl cid keyId s
  | .keyLoad ctrl cid record => execKeyLoad ctrl cid record s
  | .memberFail ctrl cid slot => execMemberFail ctrl cid slot s
  | .namespaceCreate ctrl cid csi lbaSize size => execNamespaceCreate ctrl cid csi lbaSize size s
  | .namespaceDelete ctrl cid nsid => execNamespaceDelete ctrl cid nsid s
  | .namespaceResize ctrl cid nsid size => execNamespaceResize ctrl cid nsid size s
  | .propertyGet ctrl cid offset => execPropertyGet ctrl cid offset s
  | .propertySet ctrl cid offset value => execPropertySet ctrl cid offset value s
  | .registerSequence ctrl cid count entries => execRegisterSequence ctrl cid count entries s
  | .releaseRequest ctrl cid => execReleaseRequest ctrl cid s
  | .reshapeCancel ctrl cid => execReshapeCancel ctrl cid s
  | .reshapeStart ctrl cid group newK => execReshapeStart ctrl cid group newK s
  | .selfTestAbort ctrl cid => execSelfTestAbort ctrl cid s
  | .selfTestExtended ctrl cid nsid => execSelfTestExtended ctrl cid nsid s
  | .selfTestShort ctrl cid nsid => execSelfTestShort ctrl cid nsid s
  | .serviceRequest ctrl cid => execServiceRequest ctrl cid s
  | .setFeatures ctrl cid fid value save => execSetFeatures ctrl cid fid value save s
  | .svnFloorRaise ctrl cid => execSvnFloorRaise ctrl cid s
  | .windowClose ctrl cid key => execWindowClose ctrl cid key s
  | .windowOpen ctrl cid qp nsid length type remoteW remoteR bind => execWindowOpen ctrl cid qp nsid length type remoteW remoteR bind s
  | _ => .next s

/-- Writes to a member that has left the ready members of its group will not complete (R436, R531). -/
def State.memberGone (s : State) (i : Nat) : State :=
  match s.posOfSlot i with
  | none => s
  | some (g, p) =>
    let s := s.dropTargets g p
    ((s.jnl.tallies.filter fun t => t.group == g && t.outstanding.contains p).map (·.row)).foldl (fun s row => s.tallyWrite g row p false) s

/-- A slot's drive-port state at a boundary (R514), with what its member's group and role lose by it. -/
def State.drvStep (s : State) (i st arg : Nat) : State :=
  let s := s.applyDrv i st arg
  let t := DrvState.ofCode st
  let gone := t == .empty || t == .powering || t == .refused || t == .off || t == .ladder && decide (2 ≤ arg)
  if !gone then s
  else
    let s := if s.serving && (t == .empty || t == .off) then s.anchorLeaves i else s
    s.memberGone i

/-- A position's state at a boundary (R484): a FAILED member's lines are cleaned out (R317), and its writes will not complete. -/
def State.posStep (s : State) (g p st : Nat) : State :=
  let slot := (s.pos g p).slot
  let s := s.applyPos g p (PosState.ofCode st)
  if PosState.ofCode st == .failed then (s.salSlot slot).memberGone slot else s

/-- Two anchors are ACTIVE again: what waited on them completes (R474). -/
def State.resettle (s : State) : State :=
  let s := (s.settle).tallySettle
  (s.cmd.entries.map (·.1)).foldl (fun s seq => s.completeWrite seq) s

/-- The boundary at which a hitless activation holds admission (R102 step 1). -/
def State.holdStep (s : State) : State :=
  match s.cfg.activation with
  | some a =>
    if a.step != .waiting then s
    else if s.cfg.state == .shelfIdle || s.cfg.state == .standby || s.cfg.state == .active then
      ({ s with cfg := { s.cfg with activation := some { a with step := .holding, prior := s.cfg.state, guard := some s.clock } } } : State).setDevState .activating
    else s.abandonActivation
  | none => s

/-- The boundary at which admission resumes (R102 step 8): the commit completes, and Flushes that were held are admitted. -/
def State.resumeStep (s : State) : State :=
  match s.cfg.activation with
  | some a =>
    if a.step != .ready then s
    else
      let s : State := { s with cfg := { s.cfg with activation := none } }
      let s := (if s.cfg.state == .activating then s.setDevState a.prior else s).endTask (adminCore a.job.cid) a.job.ctrl a.job.cid
      let s := s.replyOk a.job.ctrl a.job.cid
      let s : State := { s with cmd := { s.cmd with entries := tmap s.cmd.entries fun _ e => if e.kind == .flush then { e with admitted := true } else e } }
      s.settleFlushes
  | none => s

/-- One effect that waited for this boundary. `second` and `fits` are those of an alignment. -/
def State.effect (fits : Bool) (second : Nat) (s : State) : Deferred → State
  | .command i => s.after (runLater i s)
  | .ethDropClear u =>
    let s := foldIdx 17 (fun n s => s.wr Reg.ETH_DROP u n 0) s
    (s.wrs [(Reg.ETH_DROP_LAST_REASON, u, 0), (Reg.ETH_DROP_LAST_TURN, u, 0)]).wr Reg.ETH_TX_DISCARD u 0 0
  | .forceErr q => s.qpToErr q 0 true
  | .clearViol => foldIdx 7 (fun n s => s.wr Reg.WIN_VIOL 0 n 0) s
  | .fspClear =>
    let s := foldIdx 6 (fun n s => s.wr Reg.FSP_BAD 0 n 0) s
    let s := s.wrs [(Reg.FSP_BAD_LAST_REASON, 0, 0), (Reg.FSP_BAD_LAST_POOL, 0, 0), (Reg.FSP_BAD_LAST_REQ, 0, 0), (Reg.FSP_BAD_LAST_TURN, 0, 0)]
    foldIdx 16 (fun n s => s.wr Reg.FSP_POOL_MIN n 0 (s.pool n).free) s
  | .cacheEnable on => s.cacheSwitch on
  | .cmpClear =>
    let s := foldIdx 7 (fun n s => s.wr Reg.CMP_VERIFY 0 n 0) s
    s.wrs [(Reg.CMP_VERIFY_LAST_REASON, 0, 0), (Reg.CMP_VERIFY_LAST_RETRY_PASSED, 0, 0), (Reg.CMP_VERIFY_LAST_LANE, 0, 0), (Reg.CMP_VERIFY_LAST_TURN, 0, 0)]
  | .preload c v => s.preloadCounter c v
  | .keyCurrent nsid keyId reseal => s.keyCurrent nsid keyId reseal
  | .standbyRelease ctrl cid =>
    if s.cfg.state == .standby then (s.setDevState .shelfIdle).updateDemand.replyOk ctrl cid else s.replyErr ctrl cid St.interrupted
  | .align boot => s.endAlign boot fits second
  | .activationHold => s.holdStep
  | .activationResume => s.resumeStep
  | .quoteSample => if s.cfg.state == .activating then s.defer .quoteSample else s.sampleQuotes
  | .setShutdown n => s.shutdownSet n
  | .boundaryMove g b => s.moveBoundary g b
  | .anchorReady a => (s.activateRole a).resettle
  | .roleFailed a => s.failRole a
  | .drvTo slot st arg => s.drvStep slot st arg
  | .posTo g p st => s.posStep g p st
  | .setStop n cause => s.beginStop n cause
  | .slotIdle slot => s.slotCleared slot
  | .peakClear slot => (s.modChan slot fun c => { c with peak := 0 }).wr Reg.PWR_SLOT_IPEAK slot 0 0
  | .handOverHold => s.holdForHandOver
  | .flrStop => s.abandonMailbox
  | .containRelease => s.endContainment
  | .depose r y =>
    if s.cfg.state == .active then s.depose r y
    else if s.cfg.state == .activating then
      let t := s.abandonActivation
      if t.cfg.state == .activating then t.defer (.depose r y) else t.depose r y
    else s

/-- Every effect that waited, in order; what one of them times to a boundary waits for the next. -/
def State.effects (s : State) (fits : Bool) (second : Nat) : State :=
  let l := s.deferred
  l.foldl (State.effect fits second) { s with deferred := [] }

/-! ### What goes on from Turn to Turn -/

/-- Replicas that a write waits for (R189): its counter is reached, or the wait is over and it completes unconfirmed (R278). -/
def State.replicaWaits (s : State) : State :=
  (s.cmd.entries.filterMap fun p => p.2.replica.map fun r => (p.1, r)).foldl (init := s) fun s x =>
    let (seq, q, threshold, deadline) := x
    if reached (s.compCount q) threshold then (s.modEntry seq fun e => { e with replica := none }).completeWrite seq
    else if deadline ≤ s.clock then (s.modEntry seq fun e => { e with replica := none, status := St.replicaUnconfirmed }).completeWrite seq
    else s

/-- Reads: those of a command that has gone end, and those that wait start where they can (R434). -/
def State.readSteps (s : State) : State :=
  let gone := s.lay.reads.filter fun p => p.2.seq != 0 && (p.2.use == .host || p.2.use == .rewrite) && (s.entry p.2.seq).isNone
  let s := gone.foldl (fun s p => s.endRead p.1) s
  (s.lay.reads.filter fun p => p.2.waiting).foldl (fun s p => s.startJob p.1) s

/-- The extended self-test powers one set of a group to be scrubbed at a time, and lets go of it when its scrubs are done (R285); a test
pauses while ACTIVATING (R286). -/
def State.selfTestStep (s : State) : State :=
  let s : State := { s with cmd := { s.cmd with selfTest := s.cmd.selfTest.map fun t => { t with paused := s.cfg.state == .activating } } }
  let scrubbed := fun n => (s.setGroups n).any fun g => thas s.axl.scrubs g
  let mine := (List.range 8).filter fun n => (s.pset n).st == .on && (s.pset n).cause == SetCause.selfTest && !scrubbed n && !s.setBusy n
  let s := mine.foldl (fun s n => if s.deferred.contains (.setStop n SetCause.selfTest) then s else s.defer (.setStop n SetCause.selfTest)) s
  let todo := (List.range 8).filter scrubbed
  let runs := todo.any fun n => (s.pset n).st == .on || (s.pset n).st == .powering
  match s.cmd.selfTest with
  | some t =>
    if t.kind != 2 || t.paused || runs then s
    else (match todo.find? fun n => (s.pset n).st == .off with
      | some n => s.requestSet n SetCause.selfTest
      | none => s)
  | none => s

/-- Power sets: becoming ON and OFF, and the activity that keeps a set ON (R433 to R436). -/
def State.setSteps (s : State) : State :=
  let s := foldIdx 8 (fun n s => (s.readyStep n).stopStep n) s
  foldIdx 8 (fun n s => if (s.pset n).st == .on && s.setBusy n then s.modSet n fun x => { x with lastUse := s.clock } else s) s

/-- A drive that is READY without a label of use is labelled once the canister serves (R690). -/
def State.labelStep (s : State) (i : Nat) : State :=
  let d := s.slot i
  let blank := match s.posOfSlot i with
    | some (g, p) => (s.pos g p).st == .online && (s.pos g p).serial == 0 && !(s.grp g).tally
    | none => !s.axl.spares.contains i
  if s.serving && d.st == .ready && d.cls == .newDrive && blank then s.labelNew i else s

/-- Dataset Management with Deallocate for the rows of the segments that a group's tail has passed (R518, R429), on every member whose drive
reports the command. -/
def State.deallocStep (s : State) (g : Nat) : State :=
  let x := s.grp g
  let tail := x.tailSeg
  if !s.serving || !x.declared || x.tally || tail = x.tailSeen then s
  else
    let n := max 1 (ceilDiv x.rows 256)
    let passed := (tail + n - x.tailSeen % n) % n
    let s := if x.rows = 0 || passed = 0 then s else foldIdx x.width (fun p s =>
      let i := (s.pos g p).slot
      if s.slotUsable i && (s.slot i).dsm then s.emit .drive [i, 15, x.tailSeen, passed] else s) s
    s.modGrp g fun x => { x with tailSeen := tail }

/-- The storage side (chapters 11 to 17). -/
def State.storeSteps (s : State) : State :=
  let s := ((s.readSteps.salAdvance).tallyAdvance).resealStep
  let s := foldIdx 8 (fun g s => ((s.compactStep g).fullCheck g).deallocStep g) s
  let s := ((s.prepareStep).selfTestStep).setSteps
  let s := foldIdx 24 (fun i s => s.labelStep i) s
  (s.seekTargets).replicaWaits

/-- Fail-over (chapter 19). -/
def State.pairSteps (s : State) : State :=
  let s := (foldIdx 4 (fun w s => s.witnessStep w) s).leaseStep
  ((((s.takeoverStep).requestStep).pairStep).drainStep).replicaStep

/-- What the registers report. -/
def State.report (s : State) : State :=
  let s := ((((s.trnStatus).xptStatus).winStatus).cmdStatus).cacheStatus
  let s := (((s.salStatus).layStatus).setStatus).jnlStatus
  (((s.axlStatus.drvStatus).pwrStatus).fovStatus).sepStatus

/-! ### The boundary -/

/-- What the Turn that ends brought the companions (R536), and cycle 0 with the records, messages and swaps that go with it. -/
def State.cycleZero (s : State) (obs : TurnObs) : State :=
  let s := obs.power.foldl (fun s x => s.takeSample x) s
  let s := (foldIdx 24 (fun i s => s.endDip i) s).tick
  ((s.writeEvents).sendMsix).bankSteps

/-- The boundary jobs of R61. -/
def State.jobs (s : State) (obs : TurnObs) : State :=
  let s := s.jobSteps obs
  let s := (if obs.late.contains .fspThresh then s else s.fspJob).levelStatus
  let s := ((s.grantStep obs).schJob (obs.late.contains .schRefill)).xptJob (obs.late.contains .xptCwnd)
  (s.creditSteps obs).cntJob obs

/-- Everything that follows the jobs. -/
def State.goOn (s : State) : State :=
  let s := ((s.netSteps).storeSteps).pairSteps
  let s := ((s.feedSelect).takeEntry).pumpSeqs s.cmd.seqs.length
  s.report

/-- The state after a boundary: the counter and its clock are TRN's alone. -/
def State.boundary (s : State) (obs : TurnObs) : State :=
  let t := ((s.cycleZero obs).jobs obs).effects s.alignFits s.alignedSecond
  let t := t.goOn
  { t with trn := { t.trn with count := s.nextCount, ticks := s.trn.ticks + 1 } }

/-- TURN_BOUNDARY (R59): nothing counts Turns while the part is in reset. -/
def execTurnBoundary (obs : TurnObs) (s : State) : Out := .next (if s.inReset then s else s.boundary obs)

end Sys2Proof.Machine
end

