-- ==== Sys2Proof/Machine/Dispatch.lean ====
section
/-!
DEFINITION. Machine/Dispatch.lean: one arm per command, each a direct call of the command's meaning.
-/

namespace Sys2Proof.Machine

def exec (i : Instr) (s : State) : Host.Outcome State Fault Refusal :=
  match i with
  | .registerWrite writer offset width value => Sys2Proof.Machine.execRegisterWrite writer offset width value s
  | .turnBoundary obs => Sys2Proof.Machine.execTurnBoundary obs s
  | .coreWatchdogExpiry core => Sys2Proof.Machine.execCoreWatchdogExpiry core s
  | .stagingHoldExpiry window block => Sys2Proof.Machine.execStagingHoldExpiry window block s
  | .ptpSyncRx unit source seq origin rx => Sys2Proof.Machine.execPtpSyncRx unit source seq origin rx s
  | .ptpFollowUpRx unit source seq origin => Sys2Proof.Machine.execPtpFollowUpRx unit source seq origin s
  | .ptpDelayRespRx unit source seq received tx => Sys2Proof.Machine.execPtpDelayRespRx unit source seq received tx s
  | .ptpAnnounceRx unit data => Sys2Proof.Machine.execPtpAnnounceRx unit data s
  | .acquireTimeoutExpiry => Sys2Proof.Machine.execAcquireTimeoutExpiry s
  | .syncLossTimeout => Sys2Proof.Machine.execSyncLossTimeout s
  | .trnReload writer => Sys2Proof.Machine.execTrnReload writer s
  | .reloadTimeoutExpiry => Sys2Proof.Machine.execReloadTimeoutExpiry s
  | .shadowWrite writer bank index words => Sys2Proof.Machine.execShadowWrite writer bank index words s
  | .bankCommit writer bank => Sys2Proof.Machine.execBankCommit writer bank s
  | .bankAbort writer bank => Sys2Proof.Machine.execBankAbort writer bank s
  | .sysResetAssert ns => Sys2Proof.Machine.execSysResetAssert ns s
  | .sysResetRelease obs => Sys2Proof.Machine.execSysResetRelease obs s
  | .dramTrainingDone channels sfdpQuad => Sys2Proof.Machine.execDramTrainingDone channels sfdpQuad s
  | .spiTransactionTimeout copy => Sys2Proof.Machine.execSpiTransactionTimeout copy s
  | .copyReadDone => Sys2Proof.Machine.execCopyReadDone s
  | .firmwareStarted => Sys2Proof.Machine.execFirmwareStarted s
  | .cfgReboot writer => Sys2Proof.Machine.execCfgReboot writer s
  | .brownOut rail percent ns => Sys2Proof.Machine.execBrownOut rail percent ns s
  | .temperatureSample main companionA companionB => Sys2Proof.Machine.execTemperatureSample main companionA companionB s
  | .tamperEvent cause => Sys2Proof.Machine.execTamperEvent cause s
  | .serviceRequest ctrl cid => Sys2Proof.Machine.execServiceRequest ctrl cid s
  | .releaseRequest ctrl cid => Sys2Proof.Machine.execReleaseRequest ctrl cid s
  | .releaseDrainDone => Sys2Proof.Machine.execReleaseDrainDone s
  | .firmwareImageDownload ctrl cid slot offset length image => Sys2Proof.Machine.execFirmwareImageDownload ctrl cid slot offset length image s
  | .firmwareCommitStore ctrl cid slot => Sys2Proof.Machine.execFirmwareCommitStore ctrl cid slot s
  | .firmwareCommitAtReset ctrl cid slot action => Sys2Proof.Machine.execFirmwareCommitAtReset ctrl cid slot action s
  | .firmwareCommitActivate ctrl cid slot => Sys2Proof.Machine.execFirmwareCommitActivate ctrl cid slot s
  | .commitReadbackDone readOk => Sys2Proof.Machine.execCommitReadbackDone readOk s
  | .activationRecordWritten => Sys2Proof.Machine.execActivationRecordWritten s
  | .firmwareReady => Sys2Proof.Machine.execFirmwareReady s
  | .activationGuardExpiry => Sys2Proof.Machine.execActivationGuardExpiry s
  | .ownerEnrol writer => Sys2Proof.Machine.execOwnerEnrol writer s
  | .ownerRevoke writer => Sys2Proof.Machine.execOwnerRevoke writer s
  | .fuseProgramDone readBackOk => Sys2Proof.Machine.execFuseProgramDone readBackOk s
  | .svnFloorRaise ctrl cid => Sys2Proof.Machine.execSvnFloorRaise ctrl cid s
  | .attestationQuote ctrl cid nonce => Sys2Proof.Machine.execAttestationQuote ctrl cid nonce s
  | .quoteSigned => Sys2Proof.Machine.execQuoteSigned s
  | .linkAnDone unit common => Sys2Proof.Machine.execLinkAnDone unit common s
  | .linkTrainingDone unit => Sys2Proof.Machine.execLinkTrainingDone unit s
  | .linkTrainingTimeout unit => Sys2Proof.Machine.execLinkTrainingTimeout unit s
  | .linkLockAcquired unit => Sys2Proof.Machine.execLinkLockAcquired unit s
  | .linkAlignTimeout unit => Sys2Proof.Machine.execLinkAlignTimeout unit s
  | .linkQualifyDone unit => Sys2Proof.Machine.execLinkQualifyDone unit s
  | .linkLockLost unit => Sys2Proof.Machine.execLinkLockLost unit s
  | .linkLossTimeout unit => Sys2Proof.Machine.execLinkLossTimeout unit s
  | .linkNegotiationTimeout unit => Sys2Proof.Machine.execLinkNegotiationTimeout unit s
  | .linkFaultTimeout unit remote => Sys2Proof.Machine.execLinkFaultTimeout unit remote s
  | .fecWindowEnd unit corrected uncorrectable => Sys2Proof.Machine.execFecWindowEnd unit corrected uncorrectable s
  | .frameRx unit frame => Sys2Proof.Machine.execFrameRx unit frame s
  | .arpRequestRx unit senderMac senderIp targetIp => Sys2Proof.Machine.execArpRequestRx unit senderMac senderIp targetIp s
  | .arpReplyRx unit senderMac senderIp => Sys2Proof.Machine.execArpReplyRx unit senderMac senderIp s
  | .neighbourSolicitationRx unit senderMac senderIp targetIp => Sys2Proof.Machine.execNeighbourSolicitationRx unit senderMac senderIp targetIp s
  | .neighbourAdvertisementRx unit senderMac targetIp => Sys2Proof.Machine.execNeighbourAdvertisementRx unit senderMac targetIp s
  | .ethDropClear unit => Sys2Proof.Machine.execEthDropClear unit s
  | .sendRx p pos imm => Sys2Proof.Machine.execSendRx p pos imm s
  | .rdmaWriteRx p pos rkey va imm payload => Sys2Proof.Machine.execRdmaWriteRx p pos rkey va imm payload s
  | .rdmaReadRequestRx p rkey va length => Sys2Proof.Machine.execRdmaReadRequestRx p rkey va length s
  | .rdmaReadResponseRx p pos payload => Sys2Proof.Machine.execRdmaReadResponseRx p pos payload s
  | .ackRx qpn psn rx tx => Sys2Proof.Machine.execAckRx qpn psn rx tx s
  | .nakRx qpn psn code => Sys2Proof.Machine.execNakRx qpn psn code s
  | .rnrNakRx qpn psn wait => Sys2Proof.Machine.execRnrNakRx qpn psn wait s
  | .cnpRx qpn => Sys2Proof.Machine.execCnpRx qpn s
  | .sendWithInvalidateRx p => Sys2Proof.Machine.execSendWithInvalidateRx p s
  | .contextFetchDone qp eccOk => Sys2Proof.Machine.execContextFetchDone qp eccOk s
  | .cmReqRx req => Sys2Proof.Machine.execCmReqRx req s
  | .cmRepRx qp remoteQpn psn granted => Sys2Proof.Machine.execCmRepRx qp remoteQpn psn granted s
  | .cmRtuRx qp => Sys2Proof.Machine.execCmRtuRx qp s
  | .cmRejRx qp reason => Sys2Proof.Machine.execCmRejRx qp reason s
  | .cmMraRx qp timeout => Sys2Proof.Machine.execCmMraRx qp timeout s
  | .cmDreqRx qp => Sys2Proof.Machine.execCmDreqRx qp s
  | .cmDrepRx qp => Sys2Proof.Machine.execCmDrepRx qp s
  | .cmUnsupportedRx => Sys2Proof.Machine.execCmUnsupportedRx s
  | .connectInitiate dest tenant => Sys2Proof.Machine.execConnectInitiate dest tenant s
  | .connectRetryExpiry qp => Sys2Proof.Machine.execConnectRetryExpiry qp s
  | .mraTimerExpiry qp => Sys2Proof.Machine.execMraTimerExpiry qp s
  | .qpDrainDone qp => Sys2Proof.Machine.execQpDrainDone qp s
  | .qpDrainTimeout qp => Sys2Proof.Machine.execQpDrainTimeout qp s
  | .qpTimewaitExpiry qp => Sys2Proof.Machine.execQpTimewaitExpiry qp s
  | .ackTimeout qp => Sys2Proof.Machine.execAckTimeout qp s
  | .rnrWaitExpiry qp => Sys2Proof.Machine.execRnrWaitExpiry qp s
  | .wqePost qp wqe => Sys2Proof.Machine.execWqePost qp wqe s
  | .triggerTimeout qp => Sys2Proof.Machine.execTriggerTimeout qp s
  | .qpForceError writer admin => Sys2Proof.Machine.execQpForceError writer admin s
  | .qpContextRead writer => Sys2Proof.Machine.execQpContextRead writer s
  | .missPeakClear => Sys2Proof.Machine.execMissPeakClear s
  | .windowOpen ctrl cid qp nsid length type remoteW remoteR bind => Sys2Proof.Machine.execWindowOpen ctrl cid qp nsid length type remoteW remoteR bind s
  | .windowClose ctrl cid key => Sys2Proof.Machine.execWindowClose ctrl cid key s
  | .windowRevokeDrained window => Sys2Proof.Machine.execWindowRevokeDrained window s
  | .windowDescriptorRead writer => Sys2Proof.Machine.execWindowDescriptorRead writer s
  | .windowViolationClear => Sys2Proof.Machine.execWindowViolationClear s
  | .egressPick unit pip waiting => Sys2Proof.Machine.execEgressPick unit pip waiting s
  | .ingestPullIssue qp unit seq length => Sys2Proof.Machine.execIngestPullIssue qp unit seq length s
  | .schParamWrite writer => Sys2Proof.Machine.execSchParamWrite writer s
  | .schParamRead writer => Sys2Proof.Machine.execSchParamRead writer s
  | .schParamReadLive writer => Sys2Proof.Machine.execSchParamReadLive writer s
  | .ingestHeldTimeout => Sys2Proof.Machine.execIngestHeldTimeout s
  | .fabricsConnect qp cid ctrl subnqn hostnqn qid sqsize kato => Sys2Proof.Machine.execFabricsConnect qp cid ctrl subnqn hostnqn qid sqsize kato s
  | .propertyGet ctrl cid offset => Sys2Proof.Machine.execPropertyGet ctrl cid offset s
  | .propertySet ctrl cid offset value => Sys2Proof.Machine.execPropertySet ctrl cid offset value s
  | .identify ctrl cid cns nsid csi => Sys2Proof.Machine.execIdentify ctrl cid cns nsid csi s
  | .getLogPage ctrl cid lid offset dwords => Sys2Proof.Machine.execGetLogPage ctrl cid lid offset dwords s
  | .abort ctrl cid qp target => Sys2Proof.Machine.execAbort ctrl cid qp target s
  | .setFeatures ctrl cid fid value save => Sys2Proof.Machine.execSetFeatures ctrl cid fid value save s
  | .getFeatures ctrl cid fid sel => Sys2Proof.Machine.execGetFeatures ctrl cid fid sel s
  | .asyncEventRequest ctrl cid => Sys2Proof.Machine.execAsyncEventRequest ctrl cid s
  | .namespaceCreate ctrl cid csi lbaSize size => Sys2Proof.Machine.execNamespaceCreate ctrl cid csi lbaSize size s
  | .namespaceDelete ctrl cid nsid => Sys2Proof.Machine.execNamespaceDelete ctrl cid nsid s
  | .namespaceResize ctrl cid nsid size => Sys2Proof.Machine.execNamespaceResize ctrl cid nsid size s
  | .selfTestShort ctrl cid nsid => Sys2Proof.Machine.execSelfTestShort ctrl cid nsid s
  | .selfTestExtended ctrl cid nsid => Sys2Proof.Machine.execSelfTestExtended ctrl cid nsid s
  | .selfTestAbort ctrl cid => Sys2Proof.Machine.execSelfTestAbort ctrl cid s
  | .selfTestDone failed => Sys2Proof.Machine.execSelfTestDone failed s
  | .keepAlive ctrl cid => Sys2Proof.Machine.execKeepAlive ctrl cid s
  | .keepAliveExpiry ctrl => Sys2Proof.Machine.execKeepAliveExpiry ctrl s
  | .getChallenge ctrl cid => Sys2Proof.Machine.execGetChallenge ctrl cid s
  | .authenticate ctrl cid principal signature => Sys2Proof.Machine.execAuthenticate ctrl cid principal signature s
  | .nvmRead io data => Sys2Proof.Machine.execNvmRead io data s
  | .nvmWrite io data => Sys2Proof.Machine.execNvmWrite io data s
  | .windowCommit io append offset length rkey => Sys2Proof.Machine.execWindowCommit io append offset length rkey s
  | .flush io => Sys2Proof.Machine.execFlush io s
  | .writeZeroes io => Sys2Proof.Machine.execWriteZeroes io s
  | .datasetManagement io deallocate ranges => Sys2Proof.Machine.execDatasetManagement io deallocate ranges s
  | .zoneAppend io data => Sys2Proof.Machine.execZoneAppend io data s
  | .zoneClose io selectAll => Sys2Proof.Machine.execZoneClose io selectAll s
  | .zoneFinish io selectAll => Sys2Proof.Machine.execZoneFinish io selectAll s
  | .zoneOpen io selectAll => Sys2Proof.Machine.execZoneOpen io selectAll s
  | .zoneReset io selectAll => Sys2Proof.Machine.execZoneReset io selectAll s
  | .zoneManagementReceive io option isPartial => Sys2Proof.Machine.execZoneManagementReceive io option isPartial s
  | .commandAdmit seq => Sys2Proof.Machine.execCommandAdmit seq s
  | .fspAllocate req role cls => Sys2Proof.Machine.execFspAllocate req role cls s
  | .fspFree req buf => Sys2Proof.Machine.execFspFree req buf s
  | .fspIncref req buf => Sys2Proof.Machine.execFspIncref req buf s
  | .fspCacheRefill pool eccBad => Sys2Proof.Machine.execFspCacheRefill pool eccBad s
  | .fspCacheWriteback pool => Sys2Proof.Machine.execFspCacheWriteback pool s
  | .fspClear => Sys2Proof.Machine.execFspClear s
  | .cacheEnable => Sys2Proof.Machine.execCacheEnable s
  | .cacheDisable => Sys2Proof.Machine.execCacheDisable s
  | .cacheDrainDone => Sys2Proof.Machine.execCacheDrainDone s
  | .cacheFillDone slot line subs tagOk => Sys2Proof.Machine.execCacheFillDone slot line subs tagOk s
  | .salClean writer => Sys2Proof.Machine.execSalClean writer s
  | .salInvalidate writer => Sys2Proof.Machine.execSalInvalidate writer s
  | .salCleanInvalidate writer => Sys2Proof.Machine.execSalCleanInvalidate writer s
  | .salPin writer => Sys2Proof.Machine.execSalPin writer s
  | .salUnpin writer => Sys2Proof.Machine.execSalUnpin writer s
  | .salOperationStart => Sys2Proof.Machine.execSalOperationStart s
  | .salWriteBackIssue => Sys2Proof.Machine.execSalWriteBackIssue s
  | .salOperationDone => Sys2Proof.Machine.execSalOperationDone s
  | .compressBlockStart block stagingOk parityOk => Sys2Proof.Machine.execCompressBlockStart block stagingOk parityOk s
  | .compressBlockDone block checkerCrc => Sys2Proof.Machine.execCompressBlockDone block checkerCrc s
  | .spillReadbackDone block => Sys2Proof.Machine.execSpillReadbackDone block s
  | .decompressBlockStart job parityOk => Sys2Proof.Machine.execDecompressBlockStart job parityOk s
  | .decompressBlockDone job fault => Sys2Proof.Machine.execDecompressBlockDone job fault s
  | .cmpVerifyClear => Sys2Proof.Machine.execCmpVerifyClear s
  | .keyLoad ctrl cid record => Sys2Proof.Machine.execKeyLoad ctrl cid record s
  | .keyDestroy ctrl cid keyId => Sys2Proof.Machine.execKeyDestroy ctrl cid keyId s
  | .keyActivate ctrl cid nsid keyId reseal => Sys2Proof.Machine.execKeyActivate ctrl cid nsid keyId reseal s
  | .resealDone => Sys2Proof.Machine.execResealDone s
  | .cipherJob ctrl cid rkey offset length keyId mode decrypt iv => Sys2Proof.Machine.execCipherJob ctrl cid rkey offset length keyId mode decrypt iv s
  | .fallbackKeyLoad writer reg => Sys2Proof.Machine.execFallbackKeyLoad writer reg s
  | .keySlotRead writer => Sys2Proof.Machine.execKeySlotRead writer s
  | .ivEpochDurable => Sys2Proof.Machine.execIvEpochDurable s
  | .versionPlace seq nsid extent parityEcc => Sys2Proof.Machine.execVersionPlace seq nsid extent parityEcc s
  | .gatherHoldExpiry group row => Sys2Proof.Machine.execGatherHoldExpiry group row s
  | .closeHoldExpiry group row => Sys2Proof.Machine.execCloseHoldExpiry group row s
  | .paritySlotWaitTimeout seq nsid extent => Sys2Proof.Machine.execParitySlotWaitTimeout seq nsid extent s
  | .stripeWriteDone group row position ok => Sys2Proof.Machine.execStripeWriteDone group row position ok s
  | .memberReadDone job rows => Sys2Proof.Machine.execMemberReadDone job rows s
  | .compactionStart group => Sys2Proof.Machine.execCompactionStart group s
  | .setReadyTimeout set => Sys2Proof.Machine.execSetReadyTimeout set s
  | .setIdleTimeout set => Sys2Proof.Machine.execSetIdleTimeout set s
  | .setPowerOnRequest writer set => Sys2Proof.Machine.execSetPowerOnRequest writer set s
  | .setStopRequest writer set => Sys2Proof.Machine.execSetStopRequest writer set s
  | .setStopWritesDone set => Sys2Proof.Machine.execSetStopWritesDone set s
  | .deltaBatchWrite => Sys2Proof.Machine.execDeltaBatchWrite s
  | .checkpointStart => Sys2Proof.Machine.execCheckpointStart s
  | .checkpointDone => Sys2Proof.Machine.execCheckpointDone s
  | .metadataWriteDone => Sys2Proof.Machine.execMetadataWriteDone s
  | .journalWriteDone role index ok => Sys2Proof.Machine.execJournalWriteDone role index ok s
  | .anchorReseedTimeout role => Sys2Proof.Machine.execAnchorReseedTimeout role s
  | .replayDone rings scan => Sys2Proof.Machine.execReplayDone rings scan s
  | .resyncWindowExpiry slot => Sys2Proof.Machine.execResyncWindowExpiry slot s
  | .walkRowIssue group scrub => Sys2Proof.Machine.execWalkRowIssue group scrub s
  | .walkRowDone group scrub rows => Sys2Proof.Machine.execWalkRowDone group scrub rows s
  | .reshapeStart ctrl cid group newK => Sys2Proof.Machine.execReshapeStart ctrl cid group newK s
  | .reshapeBatchDone => Sys2Proof.Machine.execReshapeBatchDone s
  | .reshapeCancel ctrl cid => Sys2Proof.Machine.execReshapeCancel ctrl cid s
  | .memberFail ctrl cid slot => Sys2Proof.Machine.execMemberFail ctrl cid slot s
  | .drivePerstRelease slot => Sys2Proof.Machine.execDrivePerstRelease slot s
  | .driveLinkUp slot code capTo => Sys2Proof.Machine.execDriveLinkUp slot code capTo s
  | .driveLinkTimeout slot => Sys2Proof.Machine.execDriveLinkTimeout slot s
  | .drivePerstRetryExpiry slot => Sys2Proof.Machine.execDrivePerstRetryExpiry slot s
  | .driveSetupStepDone slot result => Sys2Proof.Machine.execDriveSetupStepDone slot result s
  | .driveFormatDone slot ok => Sys2Proof.Machine.execDriveFormatDone slot ok s
  | .driveInboundViolation slot => Sys2Proof.Machine.execDriveInboundViolation slot s
  | .driveBadTlp slot => Sys2Proof.Machine.execDriveBadTlp slot s
  | .driveLinkDown slot => Sys2Proof.Machine.execDriveLinkDown slot s
  | .driveCompletionTimeout slot => Sys2Proof.Machine.execDriveCompletionTimeout slot s
  | .memberCommandTimeout slot kind => Sys2Proof.Machine.execMemberCommandTimeout slot kind s
  | .ladderStepTimeout slot => Sys2Proof.Machine.execLadderStepTimeout slot s
  | .smartPoll slot critWarn temp crossed => Sys2Proof.Machine.execSmartPoll slot critWarn temp crossed s
  | .cstsPoll slot cfs => Sys2Proof.Machine.execCstsPoll slot cfs s
  | .driveAsyncEvent slot critWarn crossed => Sys2Proof.Machine.execDriveAsyncEvent slot critWarn crossed s
  | .driveRelease ctrl cid slot => Sys2Proof.Machine.execDriveRelease ctrl cid slot s
  | .handOver ctrl cid => Sys2Proof.Machine.execHandOver ctrl cid s
  | .eventRead ctrl cid count => Sys2Proof.Machine.execEventRead ctrl cid count s
  | .counterRead ctrl cid snapshot => Sys2Proof.Machine.execCounterRead ctrl cid snapshot s
  | .registerSequence ctrl cid count entries => Sys2Proof.Machine.execRegisterSequence ctrl cid count entries s
  | .flashWrite cid copy address length image => Sys2Proof.Machine.execFlashWrite cid copy address length image s
  | .driveReadyTimeout slot => Sys2Proof.Machine.execDriveReadyTimeout slot s
  | .memberAbortDone slot => Sys2Proof.Machine.execMemberAbortDone slot s
  | .slotPresentDebounced slot => Sys2Proof.Machine.execSlotPresentDebounced slot s
  | .slotRemoved slot => Sys2Proof.Machine.execSlotRemoved slot s
  | .insertDelayExpiry slot => Sys2Proof.Machine.execInsertDelayExpiry slot s
  | .slotChannelStart slot => Sys2Proof.Machine.execSlotChannelStart slot s
  | .slotPowerGood slot => Sys2Proof.Machine.execSlotPowerGood slot s
  | .faultTimerExpiry channel => Sys2Proof.Machine.execFaultTimerExpiry channel s
  | .efuseTrip channel => Sys2Proof.Machine.execEfuseTrip channel s
  | .slotOutputUv slot => Sys2Proof.Machine.execSlotOutputUv slot s
  | .slotInputOutOfWindow slot excess => Sys2Proof.Machine.execSlotInputOutOfWindow slot excess s
  | .brownoutHoldStart slot => Sys2Proof.Machine.execBrownoutHoldStart slot s
  | .brownoutHoldExpiry slot stillBelow => Sys2Proof.Machine.execBrownoutHoldExpiry slot stillBelow s
  | .retryDelayExpiry channel => Sys2Proof.Machine.execRetryDelayExpiry channel s
  | .retryCountClearExpiry channel => Sys2Proof.Machine.execRetryCountClearExpiry channel s
  | .slotClear writer slot => Sys2Proof.Machine.execSlotClear writer slot s
  | .slotCycle writer slot => Sys2Proof.Machine.execSlotCycle writer slot s
  | .slotCycleExpiry slot => Sys2Proof.Machine.execSlotCycleExpiry slot s
  | .slotPeakClear writer slot => Sys2Proof.Machine.execSlotPeakClear writer slot s
  | .slotShutdownDone slot => Sys2Proof.Machine.execSlotShutdownDone slot s
  | .slotStopAckTimeout slot => Sys2Proof.Machine.execSlotStopAckTimeout slot s
  | .slotHeldCheck slot above => Sys2Proof.Machine.execSlotHeldCheck slot above s
  | .slotDischargeCheck slot above current => Sys2Proof.Machine.execSlotDischargeCheck slot above current s
  | .feedPresentDebounced feed => Sys2Proof.Machine.execFeedPresentDebounced feed s
  | .feedInsertDelayExpiry feed => Sys2Proof.Machine.execFeedInsertDelayExpiry feed s
  | .feedReturnHoldExpiry feed => Sys2Proof.Machine.execFeedReturnHoldExpiry feed s
  | .feedFailureTransfer presenceLost => Sys2Proof.Machine.execFeedFailureTransfer presenceLost s
  | .feedDeadTimeExpiry => Sys2Proof.Machine.execFeedDeadTimeExpiry s
  | .feedPowerGood feed => Sys2Proof.Machine.execFeedPowerGood feed s
  | .supplyWarningAssert => Sys2Proof.Machine.execSupplyWarningAssert s
  | .supplyWarningRelease => Sys2Proof.Machine.execSupplyWarningRelease s
  | .feedInputOutOfWindow feed => Sys2Proof.Machine.execFeedInputOutOfWindow feed s
  | .feedRemoved feed => Sys2Proof.Machine.execFeedRemoved feed s
  | .pawnChallengeRx conn msg => Sys2Proof.Machine.execPawnChallengeRx conn msg s
  | .pawnProofRx conn msg proof => Sys2Proof.Machine.execPawnProofRx conn msg proof s
  | .witnessProofTimeout conn => Sys2Proof.Machine.execWitnessProofTimeout conn s
  | .witnessRetryExpiry w => Sys2Proof.Machine.execWitnessRetryExpiry w s
  | .witnessConnectionLost w => Sys2Proof.Machine.execWitnessConnectionLost w s
  | .pawnRequestRx shelf canister msg => Sys2Proof.Machine.execPawnRequestRx shelf canister msg s
  | .contentionWaitExpiry shelf => Sys2Proof.Machine.execContentionWaitExpiry shelf s
  | .pawnGrantRx w msg => Sys2Proof.Machine.execPawnGrantRx w msg s
  | .pawnDenyRx w msg => Sys2Proof.Machine.execPawnDenyRx w msg s
  | .denyWaitExpiry w => Sys2Proof.Machine.execDenyWaitExpiry w s
  | .pawnReleaseRx shelf canister msg => Sys2Proof.Machine.execPawnReleaseRx shelf canister msg s
  | .pawnRenewTimer => Sys2Proof.Machine.execPawnRenewTimer s
  | .pawnResendExpiry w => Sys2Proof.Machine.execPawnResendExpiry w s
  | .minorityBackoffExpiry => Sys2Proof.Machine.execMinorityBackoffExpiry s
  | .pawnCutoff => Sys2Proof.Machine.execPawnCutoff s
  | .pawnExpiry => Sys2Proof.Machine.execPawnExpiry s
  | .helloRx lane hello => Sys2Proof.Machine.execHelloRx lane hello s
  | .heartbeatRx lane beat => Sys2Proof.Machine.execHeartbeatRx lane beat s
  | .heartbeatTimer => Sys2Proof.Machine.execHeartbeatTimer s
  | .peerLost => Sys2Proof.Machine.execPeerLost s
  | .mapBulkRx seq entries last => Sys2Proof.Machine.execMapBulkRx seq entries last s
  | .mapDeltaRx seq deltas => Sys2Proof.Machine.execMapDeltaRx seq deltas s
  | .trailerRx seq trailer => Sys2Proof.Machine.execTrailerRx seq trailer s
  | .recordRx seq record => Sys2Proof.Machine.execRecordRx seq record s
  | .nackRx seq => Sys2Proof.Machine.execNackRx seq s
  | .slotDemandRx map => Sys2Proof.Machine.execSlotDemandRx map s
  | .slotDemandTimer => Sys2Proof.Machine.execSlotDemandTimer s
  | .slotAckRx slot => Sys2Proof.Machine.execSlotAckRx slot s
  | .healthRx slot finding => Sys2Proof.Machine.execHealthRx slot finding s
  | .yieldRx reason planned => Sys2Proof.Machine.execYieldRx reason planned s
  | .recoveryHelloTimeout => Sys2Proof.Machine.execRecoveryHelloTimeout s
  | .fitnessTestDone badComp badDec badPipes pqOk => Sys2Proof.Machine.execFitnessTestDone badComp badDec badPipes pqOk s
  | .handOverDrainTimeout => Sys2Proof.Machine.execHandOverDrainTimeout s
  | .checkpointFenceExpiry => Sys2Proof.Machine.execCheckpointFenceExpiry s
  | .pairUnserviceableTimer => Sys2Proof.Machine.execPairUnserviceableTimer s
  | .replicaExtentSend nsid extent completed => Sys2Proof.Machine.execReplicaExtentSend nsid extent completed s
  | .replicaDownTimeout shelf => Sys2Proof.Machine.execReplicaDownTimeout shelf s
  | .endpointReset perst => Sys2Proof.Machine.execEndpointReset perst s
  | .endpointLinkUp speed width config => Sys2Proof.Machine.execEndpointLinkUp speed width config s
  | .powerStateChange d3hot => Sys2Proof.Machine.execPowerStateChange d3hot s
  | .msixUnmask vector config => Sys2Proof.Machine.execMsixUnmask vector config s
  | .mailboxSubmit tail => Sys2Proof.Machine.execMailboxSubmit tail s
  | .mailboxDmaDone => Sys2Proof.Machine.execMailboxDmaDone s
  | .flashEraseDone ok => Sys2Proof.Machine.execFlashEraseDone ok s
  | .flashPageProgramDone ok => Sys2Proof.Machine.execFlashPageProgramDone ok s
  | .functionLevelReset => Sys2Proof.Machine.execFunctionLevelReset s
  | .flrDmaQuiesce => Sys2Proof.Machine.execFlrDmaQuiesce s
  | .flrComplete => Sys2Proof.Machine.execFlrComplete s
  | .endpointContain cause => Sys2Proof.Machine.execEndpointContain cause s
  | .containmentRelease => Sys2Proof.Machine.execContainmentRelease s
  | .sepPerstRelease => Sys2Proof.Machine.execSepPerstRelease s
  | .eventRingHeadWrite writer head => Sys2Proof.Machine.execEventRingHeadWrite writer head s
  | .snapshotPassDone => Sys2Proof.Machine.execSnapshotPassDone s
  | .counterPreload writer => Sys2Proof.Machine.execCounterPreload writer s
  | .counterLiveRead writer => Sys2Proof.Machine.execCounterLiveRead writer s
  | .counterOverflow counter inst => Sys2Proof.Machine.execCounterOverflow counter inst s
  | .counterSampleRead counter => Sys2Proof.Machine.execCounterSampleRead counter s
  | .bwWindowWrite writer value => Sys2Proof.Machine.execBwWindowWrite writer value s

end Sys2Proof.Machine
end

