-- ==== Sys2Proof/Safety.lean ====
section
/-!
DEFINITION. Safety.lean: what counts as a safe run (every command ends in a next state), and the words that the statements use:
the parts of the state, what a command leaves alone, and that a command completes in a state that a predicate describes.
-/

namespace Sys2Proof.Machine

/-- Does an outcome go on? -/
def goesOn : Out → Bool
  | .next _ => true
  | .fault _ => false
  | .refused _ => false

/-- A run of `n` steps that never stops. -/
def safeRun : Nat → State → Bool
  | 0, _ => true
  | n + 1, s =>
    match step s with
    | .next t => safeRun n t
    | .fault _ => false
    | .refused _ => false

/-- The parts of the state: one per field of State, and `reg b` for the registers of the register block b, numbered as BAR0 lays the
blocks out (R643): 0 TRN, 1 CFG, 2 IDN, 3 ETH, 4 XPT, 5 WIN, 6 SCH, 7 CMD, 8 FSP, 9 GCH, 10 SAL, 11 CMP, 12 CPH, 13 LAY, 14 JNL,
15 AXL, 16 DRV, 17 PWR, 18 FOV, 19 SEP, 20 EVT, 21 CNT. -/
inductive Part where
  | reg (block : Nat)
  | pending | outbox | deferred | free | regs | dram | trn | cfg | idn | eth | xpt | win | sch | cmd | fsp | gch | sal | cmp | cph | lay | jnl | axl | drv | pwr | fov | sep | evt | cnt
  deriving DecidableEq, Repr

/-- Is a part in a list of parts? -/
def Part.mem (p : Part) (ps : List Part) : Bool := ps.any fun q => decide (q = p)

/-- The new value of a part that is in the list, else the old value. -/
def pick {α : Type} (p : Part) (ps : List Part) (old new : α) : α := match p.mem ps with
  | true => new
  | false => old

/-- The register block that a key of the register file lies in; the control cores' copies (R656) lie in the blocks of the endpoint's. -/
def regBlock (key : Nat) : Nat := key / 2 ^ 23 % 64

/-- The state `s` with the parts of the list, and the register file, taken from `t`. -/
def merge (ps : List Part) (s t : State) : State :=
  { pending := pick .pending ps s.pending t.pending, outbox := pick .outbox ps s.outbox t.outbox, deferred := pick .deferred ps s.deferred t.deferred, free := pick .free ps s.free t.free, regs := t.regs, dram := pick .dram ps s.dram t.dram, trn := pick .trn ps s.trn t.trn, cfg := pick .cfg ps s.cfg t.cfg, idn := pick .idn ps s.idn t.idn, eth := pick .eth ps s.eth t.eth, xpt := pick .xpt ps s.xpt t.xpt, win := pick .win ps s.win t.win, sch := pick .sch ps s.sch t.sch, cmd := pick .cmd ps s.cmd t.cmd, fsp := pick .fsp ps s.fsp t.fsp, gch := pick .gch ps s.gch t.gch, sal := pick .sal ps s.sal t.sal, cmp := pick .cmp ps s.cmp t.cmp, cph := pick .cph ps s.cph t.cph, lay := pick .lay ps s.lay t.lay, jnl := pick .jnl ps s.jnl t.jnl, axl := pick .axl ps s.axl t.axl, drv := pick .drv ps s.drv t.drv, pwr := pick .pwr ps s.pwr t.pwr, fov := pick .fov ps s.fov t.fov, sep := pick .sep ps s.sep t.sep, evt := pick .evt ps s.evt t.evt, cnt := pick .cnt ps s.cnt t.cnt }

/-- The state `t` is `s` in every part but the listed ones: no register outside the listed blocks has changed (`regs` lists every
block), and no other part. -/
def Frame (ps : List Part) (s t : State) : Prop :=
  t = merge ps s t ∧ ∀ k, Part.mem .regs ps = false → Part.mem (.reg (regBlock k)) ps = false → tget t.regs k = tget s.regs k

/-- Whenever the command ends in a next state, it has left every part alone but the listed ones. -/
def Leaves (ps : List Part) (i : Instr) : Prop := ∀ s t, exec i s = .next t → Frame ps s t

/-- The command ends in a next state, and the predicate describes it. -/
def Completes (i : Instr) (s : State) (p : State → Prop) : Prop := ∃ t, exec i s = .next t ∧ p t

/-- The keys of the register file rise strictly, and DRAM is in canonical form. -/
abbrev State.Canon (s : State) : Prop := tsorted s.regs = true ∧ Mem.wf s.dram = true

/-- What the part has sent out between two states: `l`, in order. -/
abbrev Sent (s t : State) (l : List Output) : Prop := t.outbox = s.outbox ++ l

/-- The part has sent an output out between two states. -/
abbrev Sends (s t : State) (o : Output) : Prop := s.outbox <+: t.outbox ∧ o ∈ t.outbox.drop s.outbox.length

/-- A command has been answered between two states with a status. -/
abbrev Answers (s t : State) (ctrl cid : Nat) (st : Nat × Nat) : Prop :=
  s.outbox <+: t.outbox ∧ ∃ o ∈ t.outbox.drop s.outbox.length, o.kind = .completion ∧ o.args.take 4 = [ctrl, cid, st.1, st.2]

/-- The last thing that a state has sent out is the answer to a command with a status. -/
abbrev AnswersLast (t : State) (ctrl cid : Nat) (st : Nat × Nat) : Prop :=
  (t.outbox.getLast?.map fun o => (o.kind, o.args.take 4)) = some (.completion, [ctrl, cid, st.1, st.2])

/-- An admin command of a connection ends with Access Denied and nothing else is answered. -/
abbrev Denied (s : State) (ctrl cid : Nat) (i : Instr) : Prop :=
  Completes i s fun t => t.outbox = s.outbox ++ [⟨.completion, [ctrl, cid, St.accessDenied.1, St.accessDenied.2, 0, 0]⟩]

/-- An event of a source, with an instance and a code, has been raised between two states. -/
abbrev Raises (s t : State) (source inst code : Nat) : Prop :=
  s.evt.raised <+: t.evt.raised ∧ ∃ r ∈ t.evt.raised.drop s.evt.raised.length, r.source = source ∧ r.inst = inst ∧ r.code = code

/-- An admin command of this connection is served now: its gate passes and no activation holds it. -/
abbrev Serves (s : State) (ctrl : Nat) (a : ServedOn) : Prop := s.gate ctrl a = .pass ∧ s.cfg.state ≠ .activating

/-- A packet reaches its queue pair now: its sub-port carries traffic, its context is in Gecko and its policer meters nothing. -/
abbrev Arrives (s : State) (p : Pkt) (i : Nat) (q : Qp) : Prop :=
  p.unit < 16 ∧ s.unitOn p.unit = true ∧ s.carries p.unit = true ∧ p.lastCycles = false ∧ s.indexOfQpn p.qpn = some i ∧ s.geckoHit i = true ∧
    s.qp? i = some q ∧ bitsOf (s.paramWord (policerOf q.handle q.service) 4) 0 2 = 0

/-- A packet that names its queue pair alone reaches it now. -/
abbrev Reaches (s : State) (qpn i : Nat) (q : Qp) : Prop :=
  s.inReset = false ∧ s.indexOfQpn qpn = some i ∧ s.qp? i = some q ∧ s.carries q.unit = true ∧ s.geckoHit i = true

/-- An I/O command is taken now: its queue, the table and the ANA state admit it, its namespace is attached and no marker is set. -/
abbrev TakesIo (s : State) (io : Io) (c : Ctrl) (n : Ns) : Prop :=
  s.inReset = false ∧ s.ctrlOf io.ctrl = some c ∧ c.mgmt = false ∧ c.ready = true ∧ (s.qp? io.qp).map (fun q => q.st) = some .rts ∧
    (c.queues.any fun q => q.2 == io.qp && decide (1 ≤ q.1)) = true ∧ s.cmd.entries.length < 131072 ∧ s.anaStatus = none ∧
    s.attached io.ctrl io.nsid = some n ∧ s.takeMarker c.host io.nsid = none

/-- A command has entered the table between two states, under the next sequence number, and nothing has been sent. -/
abbrev Enters (s t : State) (e : CmdEnt) : Prop := t.entry s.nextSeq = some e ∧ t.outbox = s.outbox

/-- The Salamander operation that the writer's copy of SAL_CMD, SAL_FIRST and SAL_COUNT describes (R327), with its OP. -/
abbrev State.salAsked (s : State) (w : Writer) (op : Nat) : SalOp :=
  { op := op, all := s.rd (Reg.SAL_CMD_ALL.forWriter w) == 1, cls := s.rd (Reg.SAL_CMD_CLASS.forWriter w), filter := s.rd (Reg.SAL_CMD_FILTER.forWriter w) == 1,
    slot := s.rd (Reg.SAL_CMD_SLOT.forWriter w), first := s.rd (Reg.SAL_FIRST.forWriter w), count := s.rd (Reg.SAL_COUNT.forWriter w),
    tag := s.rd (Reg.SAL_CMD_TAG.forWriter w), internal := false }

end Sys2Proof.Machine
end

