-- ==== Sys2Proof/Certificates/Slice0/Obligations.lean ====
section
/-!
DEFINITION. Certificates/Slice0/Obligations.lean: the statements for the provers, each in the words of State, of the meanings' own
operands and of the spec's rules that its docstring cites.
-/

open Sys2Proof Sys2Proof.Machine

/-- A step takes the command at the front of the queue and runs it on the state with the queue's rest. -/
def Obligations.StepRunsFront : Prop :=
  ∀ (c : Instr) (rest : List Instr) (s : State), step { s with pending := c :: rest } = exec c { s with pending := rest }

/-- With an empty queue a step changes nothing: the model's own choice (notes/assumptions/6.md). -/
def Obligations.IdleOnEmptyQueue : Prop := ∀ s : State, s.pending = [] → step s = .next s

/-- Only a step takes a command from the queue: exec leaves it alone, for every command. -/
def Obligations.QueueIsKept : Prop := ∀ (i : Instr) (s t : State), exec i s = .next t → t.pending = s.pending

/-- What State.reset holds: the canonical form, the reset value of every register, empty rings and counters, and nothing under way (R14, R72, R632, R657). -/
def Obligations.StateAtReset : Prop :=
  State.reset.Canon ∧ (∀ (f : Fld) (i j : Nat), State.reset.rd f i j = f.reset) ∧ (∀ i : Nat, tgetD State.reset.cnt.vals i 0 = 0) ∧
  State.reset.evt.ring = [] ∧ State.reset.evt.queues = [] ∧ State.reset.evt.raised = [] ∧ State.reset.ringHead = 0 ∧ State.reset.evt.tail = 0 ∧
  State.reset.cfg.state = .boot ∧ State.reset.inReset = true ∧ State.reset.cph.slots = [] ∧ State.reset.cmd.entries = [] ∧ State.reset.pending = [] ∧ State.reset.outbox = [] ∧
  State.reset.deferred = []

/-- Every step keeps the canonical form of the register file and of DRAM. -/
def Obligations.CanonIsKept : Prop := ∀ s t : State, s.Canon → step s = .next t → t.Canon

/-- The commands of the discipline (R52, R53, R55, R149) complete with their own effect. -/
def Obligations.DisciplineCommands : Prop :=
  (∀ (s : State) (unit source seq : Nat) (origin : Option Nat) (rx : Stamp) (p : Announce), s.unitOn unit = true → s.passesPtp unit = true →
    s.trn.parent = some p → p.port = source → s.trn.disc ≠ .holdover →
    Completes (.ptpSyncRx unit source seq origin rx) s fun t =>
      t.trn.sync = some ⟨source, seq, (stampTime (s.rxStamp unit rx)).toNat, origin⟩ ∧ t.trn.syncArmed = some s.clock ∧ Sent s t [⟨.delayReq, [unit, seq]⟩]) ∧
  (∀ (s : State) (unit origin : Nat) (m : SyncMeas), s.unitOn unit = true → s.passesPtp unit = true → s.trn.sync = some m → m.origin = none →
    Completes (.ptpFollowUpRx unit m.source m.seq origin) s fun t => t.trn.sync = some { m with origin := some origin }) ∧
  (∀ (s : State) (unit received o : Nat) (tx : Stamp) (m : SyncMeas), s.unitOn unit = true → s.passesPtp unit = true → s.trn.sync = some m → m.origin = some o →
    s.trn.alignPending = false →
    Completes (.ptpDelayRespRx unit m.source m.seq received tx) s fun t => t.trn.sync = none ∧
      t.trn.offset = (((m.rx : Int) - s.ptpTime o) - (s.ptpTime received - stampTime (s.txStamp unit tx))) / 2 / 20) ∧
  (∀ (s : State) (unit : Nat) (a : Announce), s.unitOn unit = true → s.passesPtp unit = true → s.trn.parent = none →
    Completes (.ptpAnnounceRx unit a) s fun t => t.trn.parent = some a) ∧
  (∀ s : State, due s.trn.acqArmed (turnsOfSec (s.rd Reg.TRN_CTL_ACQ_TIMEOUT)) s.clock = true → s.trn.alignPending = false → s.cfg.phase = .acquiring →
    Completes .acquireTimeoutExpiry s fun t => t.trn.count = 0 ∧ t.trn.disc = .free ∧ t.trn.aligned = false ∧ t.trn.acqArmed = none ∧ t.cfg.phase = .done) ∧
  (∀ s : State, s.trn.disc = .locked → due s.trn.syncArmed (turnsOfSec 3) s.clock = true →
    Completes .syncLossTimeout s fun t => t.trn.disc = .holdover ∧ Raises s t Ev.turnState 0 3) ∧
  (∀ (s : State) (w : Writer), s.inReset = false → s.cfg.state = .shelfIdle →
    Completes (.trnReload w) s fun t => t.trn.reloadArmed = some s.clock ∧ t.rd Reg.TRN_CTL_RELOAD = 1) ∧
  (∀ s : State, due s.trn.reloadArmed (turnsOfSec (s.rd Reg.TRN_CTL_ACQ_TIMEOUT)) s.clock = true → s.trn.alignPending = false →
    Completes .reloadTimeoutExpiry s fun t => t.trn.reloadArmed = none ∧ t.rd Reg.TRN_CTL_RELOAD = 0 ∧ t.trn.count = s.trn.count)

/-- The commands of reset, boot, temperature and tamper supervision complete with their own effect (R73, R76, R88, R89, R91, R127,
R657, R667, R680, R681). -/
def Obligations.ResetAndBootCommands : Prop :=
  (∀ (s : State) (ns : Nat), 1000 ≤ ns →
    Completes (.sysResetAssert ns) s fun t => t.inReset = true ∧ t.cfg.resetAsserted = true ∧ t.cfg.state = .boot ∧ t.cfg.locked = false ∧
      t.regs = [] ∧ t.dram = [] ∧ t.deferred = [] ∧ t.idn.fuses = s.idn.fuses ∧ t.cfg.spi = s.cfg.spi) ∧
  (∀ (s : State) (obs : ReleaseObs), s.cfg.phase = .held → obs.fuseOk = true → obs.katOk = true → obs.vppFuse = false →
    s.idn.fuses.fieldsOk = true → Config.edPublic s.idn.fuses.identityKey = s.idn.fuses.certIdPub → obs.forceLow.all id = false →
    Completes (.sysResetRelease obs) s fun t => t.cfg = { s.cfg with resetAsserted := false, phase := .training, canister := b2n obs.canSel } ∧
      t.idn.keyReady = true ∧ t.idn.idPub = s.idn.fuses.certIdPub ∧ t.idn.fuses = s.idn.fuses) ∧
  (∀ (s : State) (c : ChannelTraining) (cs : List ChannelTraining) (quad : Bool) (k : Nat), s.cfg.phase = .training → (c :: cs).length = 12 →
    (∀ x ∈ c :: cs, x.trained = true ∧ x.moduleType = c.moduleType ∧ x.gib = c.gib) → anyOwner s.idn.fuses = true → s.firstCopy = some k →
    Completes (.dramTrainingDone (c :: cs) quad) s fun t => t.cfg.phase = .reading k false ∧ t.cfg.dramGib = 12 * c.gib ∧
      t.cfg.dramRate = cs.foldl (fun a x => min a x.rate) c.rate ∧ t.cfg.sfdpQuad = quad ∧ t.cfg.state = s.cfg.state) ∧
  (∀ (s : State) (copy : Nat), copy < 2 → s.cfg.phase = .reading copy false → (s.headerImage (1 - copy)).isSome = true →
    Completes (.spiTransactionTimeout copy) s fun t => t.cfg.phase = .reading (1 - copy) true ∧ t.rd Reg.CFG_FAULT_CODE = 5 ∧
      t.rd Reg.CFG_FAULT_COPY = copy ∧ t.rd Reg.CFG_BOOT_FALLBACK = 1) ∧
  (∀ (s : State) (c : Nat) (fallback : Bool) (i : Image), s.cfg.phase = .reading c fallback → (s.copyOf c).image = some i →
    Completes .copyReadDone s fun t =>
      (copyFault i s.idn.fuses s.cfg.dramGib s.idn.idPub = none → (i.platform.all fun p => decide (p.dramMinRate ≤ s.cfg.dramRate)) = true →
        t.cfg.phase = .starting ∧ t.cfg.running = some i ∧ t.cfg.runningCopy = c ∧ t.cfg.state = s.cfg.state) ∧
      ((copyFault i s.idn.fuses s.cfg.dramGib s.idn.idPub).isSome = true → fallback = true → t.cfg.state = .safeHold)) ∧
  (∀ (s : State) (i : Image), s.cfg.phase = .starting → s.cfg.running = some i →
    Completes .firmwareStarted s fun t => t.cfg.phase = .acquiring ∧ t.cfg.locked = true ∧ t.trn.acqArmed = some s.clock ∧ t.cfg.running = some i) ∧
  (∀ (s : State) (w : Writer), s.inReset = false → s.cfg.state = .safeHold ∨ s.cfg.state = .shelfIdle →
    Completes (.cfgReboot w) s fun t => t.cfg.phase = .held ∧ t.cfg.state = .boot ∧ t.cfg.locked = false ∧ t.regs = [] ∧ t.idn.fuses = s.idn.fuses) ∧
  (∀ (s : State) (rail percent ns : Nat), rail < 3 → s.inReset = false → 10 < percent → 1000 ≤ ns →
    Completes (.brownOut rail percent ns) s fun t => t.cfg.phase = .held ∧ t.cfg.state = .boot ∧ t.regs = [] ∧ t.cfg.spi = s.cfg.spi) ∧
  (∀ (s : State) (main a b : Int), s.inReset = false → main < 115 → a < 135 → b < 135 →
    Completes (.temperatureSample main a b) s fun t => t.cfg.hotMain = 0 ∧ t.cfg.hotA = 0 ∧ t.cfg.hotB = 0 ∧ t.cfg.temperature = main) ∧
  (∀ (s : State) (main a b : Int), s.inReset = false → 115 ≤ main → 3 ≤ s.cfg.hotMain →
    Completes (.temperatureSample main a b) s fun t => t.cfg.phase = .thermalHeld ∧ t.cfg.thermTrip = true ∧ Sent s t [⟨.pin, [0, 0]⟩]) ∧
  (∀ (s : State) (cause : TamperCause), s.inReset = false →
    Completes (.tamperEvent cause) s fun t => t.cfg.state = .safeHold ∧ t.cph.loads = [] ∧ t.idn.keyReady = false ∧ t.idn.idPub = 0 ∧
      t.fov.eligible = false)

/-- The commands of service, release, download, commit and activation complete with their own effect (R72, R74, R98 to R103). -/
def Obligations.UpdateCommands : Prop :=
  (∀ (s : State) (ctrl cid : Nat) (i : Image) (l : SecLayout), Serves s ctrl (.mgmt (some RoleBit.admin)) → s.cfg.state = .shelfIdle →
    s.cfg.running = some i → s.layoutSec = some l →
    Completes (.serviceRequest ctrl cid) s fun t => t.cfg.state = .recovery ∧ AnswersLast t ctrl cid St.ok) ∧
  (∀ (s : State) (ctrl cid : Nat), Serves s ctrl (.mgmt (some RoleBit.admin)) → s.cfg.state = .active → s.cfg.release = none →
    Completes (.releaseRequest ctrl cid) s fun t => t.cfg.release = some (ctrl, cid) ∧ t.cfg.state = .active) ∧
  (∀ (s : State) (ctrl cid : Nat), Serves s ctrl (.mgmt (some RoleBit.admin)) → s.cfg.state = .standby →
    Completes (.releaseRequest ctrl cid) s fun t => t = s.defer (.standbyRelease ctrl cid)) ∧
  (∀ (s : State) (ctrl cid : Nat), s.cfg.release = some (ctrl, cid) → s.cfg.state = .active → s.stragglers = false →
    Completes .releaseDrainDone s fun t => t.cfg.state = .shelfIdle ∧ t.cfg.release = none ∧ AnswersLast t ctrl cid St.ok) ∧
  (∀ (s : State) (ctrl cid slot c offset length : Nat) (image : Option Image), Serves s ctrl (.mgmt (some RoleBit.firmware)) →
    copyOfSlot slot = some c → (s.cfg.running.isSome = true → s.cfg.runningCopy ≠ c) → offset + length ≤ 2 ^ 24 → c < s.cfg.spi.length →
    Completes (.firmwareImageDownload ctrl cid slot offset length image) s fun t => Answers s t ctrl cid St.ok ∧
      Sends s t ⟨.spi, [c, 1]⟩ ∧ t.cfg.downloadSlot = some c ∧ (t.copyOf c).image = image ∧ offset + length ≤ (t.copyOf c).written) ∧
  (∀ (s : State) (ctrl cid slot c : Nat), Serves s ctrl (.mgmt (some RoleBit.firmware)) → copyOfSlot slot = some c → s.cfg.commit = none →
    Completes (.firmwareCommitStore ctrl cid slot) s fun t => t.cfg.commit = some ⟨ctrl, cid, c, 0⟩ ∧ t.outbox = s.outbox) ∧
  (∀ (s : State) (ctrl cid slot c action : Nat), Serves s ctrl (.mgmt (some RoleBit.firmware)) → copyOfSlot slot = some c → s.cfg.commit = none →
    action = 1 ∨ action = 2 →
    Completes (.firmwareCommitAtReset ctrl cid slot action) s fun t => t.cfg.commit = some ⟨ctrl, cid, c, action⟩ ∧ t.outbox = s.outbox) ∧
  (∀ (s : State) (ctrl cid slot c : Nat), Serves s ctrl (.mgmt (some RoleBit.firmware)) → copyOfSlot slot = some c → s.cfg.commit = none →
    Completes (.firmwareCommitActivate ctrl cid slot) s fun t => t.cfg.commit = some ⟨ctrl, cid, c, 3⟩ ∧ t.outbox = s.outbox) ∧
  (∀ (s : State) (j : CommitJob), s.cfg.commit = some j → j.action ≠ 3 →
    Completes (.commitReadbackDone true) s fun t => t.cfg.commit = none ∧ t.cfg.downloadSlot = none ∧
      (s.commitFault j.copy true = none → t.cfg.spi = s.cfg.spi ∧ Answers s t j.ctrl j.cid St.ok) ∧
      (∀ r, s.commitFault j.copy true = some r → t.rd Reg.CFG_FAULT_CODE = r.code % 256 ∧ Answers s t j.ctrl j.cid St.badImage)) ∧
  (∀ (s : State) (j : CommitJob), s.cfg.commit = some j →
    Completes (.commitReadbackDone false) s fun t => t.cfg.commit = none ∧ t.rd Reg.CFG_FAULT_CODE = 5 ∧ t.rd Reg.CFG_FAULT_COPY = j.copy % 2 ∧
      Answers s t j.ctrl j.cid St.badImage) ∧
  (∀ (s : State) (a : Activation), s.cfg.activation = some a → a.step = .holding → (s.cfg.coreTasks.all fun p => p.2.all fun y => y == (a.job.ctrl, a.job.cid)) = true →
    Completes .activationRecordWritten s fun t => t.cfg.activation = some { a with step := .restarted }) ∧
  (∀ (s : State) (a : Activation) (i : Image), s.cfg.activation = some a → a.step = .restarted → (s.copyOf a.job.copy).image = some i →
    Completes .firmwareReady s fun t => t.cfg.running = some i ∧ t.cfg.runningCopy = a.job.copy ∧ t.cfg.activation = some { a with step := .ready, guard := none } ∧
      .activationResume ∈ t.deferred) ∧
  (∀ (s : State) (a : Activation), s.cfg.activation = some a → due a.guard 24415 s.clock = true → a.step = .holding ∨ a.step = .restarted →
    Completes .activationGuardExpiry s fun t => t.cfg.activation = none ∧ t.cfg.state = a.prior ∧ t.rd Reg.CFG_FAULT_CODE = 15 ∧
      AnswersLast t a.job.ctrl a.job.cid St.badImage)

/-- The commands of the cores, of staging and of the double-banked tables complete with their own effect (R28, R42, R62, R63, R65,
R67). -/
def Obligations.CoreStagingAndBankCommands : Prop :=
  (∀ (s : State) (core : Nat), core < 15 → s.cfg.phase = .done → tget s.cfg.watchdogs core = none → tget s.cfg.coreTasks core = none →
    Completes (.coreWatchdogExpiry core) s fun t => tget t.cfg.watchdogs core = some [s.clock] ∧ Raises s t Ev.coreWatchdog core 0 ∧ t.cfg.state = s.cfg.state) ∧
  (∀ (s : State) (window block k n : Nat) (b : Blk), s.win.blocks = [(k, b)] → b.window = some (window, block) → b.place = .staged n →
    due b.hold s.stagingHold s.clock = true → b.owner = none → b.filled < 65536 →
    Completes (.stagingHoldExpiry window block) s fun t => tget t.win.blocks k = some { b with place := .spilled, hold := none } ∧
      t.rd Reg.WIN_SPILL = (s.rd Reg.WIN_SPILL + 1) % 2 ^ Reg.WIN_SPILL.width) ∧
  (∀ (s : State) (index : Nat) (words : List Nat), s.inReset = false → index < 262144 → s.bankBit .windows BankBit.commit = false →
    Completes (.shadowWrite .core .windows index words) s fun t => tget t.win.table.shd index = some (descOfWords words) ∧ t.win.table.act = s.win.table.act) ∧
  (∀ (s : State) (index : Nat) (words : List Nat), s.inReset = false → index < 4096 → s.bankBit .handles BankBit.commit = false →
    Completes (.shadowWrite .core .handles index words) s fun t =>
      tget t.xpt.handles.shd index = some { mac := words.getD 0 0, ip := words.getD 1 0, unit := words.getD 2 0 } ∧ t.xpt.handles.act = s.xpt.handles.act) ∧
  (∀ (s : State) (w : Writer) (p index : Nat) (words : List Nat) (g : GateList), p < 8 → s.inReset = false → w ≠ .endpoint ∨ s.cfg.state ≠ .safeHold →
    index < 256 → s.sch.gates[p]? = some g → s.bankBit (.gates p) BankBit.commit = false →
    Completes (.shadowWrite w (.gates p) index words) s fun t =>
      t.sch.gates[p]? = some { g with list := g.list.put index (words.getD 0 0 % 2 ^ 24) } ∧ tget (g.list.put index (words.getD 0 0 % 2 ^ 24)).shd index = some (words.getD 0 0 % 2 ^ 24)) ∧
  (∀ (s : State) (index : Nat) (words : List Nat), s.inReset = false → index < 24840 → paramOk index words = true → s.bankBit .params BankBit.commit = false →
    Completes (.shadowWrite .core .params index words) s fun t => tget t.sch.params.shd index = some ((words ++ List.replicate 8 0).take 8) ∧ t.sch.params.act = s.sch.params.act) ∧
  (∀ (s : State) (index : Nat) (words : List Nat), s.inReset = false → index < 8 → s.bankBit .masks BankBit.commit = false →
    Completes (.shadowWrite .core .masks index words) s fun t => tget t.gch.masks.shd index = some (words.getD 0 0 % 65536) ∧ t.gch.masks.act = s.gch.masks.act) ∧
  (∀ (s : State) (b : BankId) (index : Nat) (words : List Nat), bankUnit b < 8 → s.inReset = false → s.bankBit b BankBit.commit = true →
    Completes (.shadowWrite .core b index words) s fun t => t.win = s.win ∧ t.xpt = s.xpt ∧ t.sch = s.sch ∧ t.gch = s.gch ∧
      t.bankBit b BankBit.lateWrite = true ∧ Raises s t Ev.bankLate (bankOffset b / 0x100000) 0) ∧
  (∀ (s : State) (b : BankId), bankUnit b < 8 → s.inReset = false → s.bankBit b BankBit.commit = false → bankTimed b = false ∨ s.bankBit b BankBit.timed = false →
    Completes (.bankCommit .core b) s fun t => t.bankBit b BankBit.commit = true ∧ t.evt = s.evt) ∧
  (∀ (s : State) (b : BankId), bankUnit b < 8 → s.inReset = false → s.bankBit b BankBit.commit = true →
    Completes (.bankAbort .core b) s fun t => t.bankBit b BankBit.commit = false ∧ t.win = s.win ∧ t.xpt = s.xpt ∧ t.sch = s.sch ∧ t.gch = s.gch ∧ t.evt = s.evt)

/-- The commands of chapter 04 complete with their own effect (R112 to R114, R120 to R124). -/
def Obligations.IdentityCommands : Prop :=
  (∀ (s : State) (w : Writer), s.inReset = false → s.cfg.state = .safeHold → s.idn.job = none → s.idn.vppFuse = true →
    s.owner (s.rd Reg.IDN_ENROL_CTL_SLOT) = OwnerFuse.blank → s.words Reg.IDN_ENROL_SECRET 0 8 ≠ 0 →
    Completes (.ownerEnrol w) s fun t => t.rd Reg.IDN_STATUS_PROG_BUSY = 1 ∧ t.words Reg.IDN_ENROL_SECRET 0 8 = 0 ∧
      t.idn.job = some (.enrol (s.rd Reg.IDN_ENROL_CTL_SLOT) (Config.shake256 (leBytes 57 (s.words Reg.IDN_ENROL_KEY 0 16 % 2 ^ 456)) 64) (s.words Reg.IDN_ENROL_SECRET 0 8))) ∧
  (∀ (s : State) (w : Writer), s.inReset = false → s.cfg.state = .safeHold → s.idn.job = none → (s.owner (s.rd Reg.IDN_ENROL_CTL_SLOT)).usable = true →
    Config.shake256 (leBytes 57 (s.words Reg.IDN_ENROL_KEY 0 16 % 2 ^ 456)) 64 = (s.owner (s.rd Reg.IDN_ENROL_CTL_SLOT)).digest →
    Completes (.ownerRevoke w) s fun t =>
      match Config.edVerify (s.words Reg.IDN_ENROL_KEY 0 16 % 2 ^ 456) (s.revokeMessage (s.rd Reg.IDN_ENROL_CTL_SLOT)) (s.words Reg.IDN_ENROL_SIG 0 32 % 2 ^ 912) with
      | true => t.rd Reg.IDN_STATUS_PROG_BUSY = 1 ∧ t.idn.job = some (.revoke (s.rd Reg.IDN_ENROL_CTL_SLOT))
      | false => t.rd Reg.IDN_ENROL_CTL_RESULT = 4 ∧ t.idn = s.idn) ∧
  (∀ (s : State) (slot digest secret : Nat), s.idn.job = some (.enrol slot digest secret) → s.idn.vppFuse = true →
    Completes (.fuseProgramDone true) s fun t => t.idn.job = none ∧ t.rd Reg.IDN_STATUS_PROG_BUSY = 0 ∧ t.rd Reg.IDN_ENROL_CTL_RESULT = 1 ∧
      t.idn.fuses.owners = lmod s.idn.fuses.owners slot fun o => { o with enrolCommit := true }) ∧
  (∀ (s : State) (target ctrl cid : Nat), s.idn.job = some (.svn target ctrl cid) → s.idn.vppFuse = true →
    Completes (.fuseProgramDone true) s fun t => t.idn.fuses.svnFloor = target ∧ Sends s t ⟨.completion, [ctrl, cid, 0, 0, target, 0]⟩) ∧
  (∀ (s : State) (ctrl cid : Nat) (i : Image), Serves s ctrl (.mgmt (some RoleBit.firmware)) → s.cfg.running = some i →
    ((i.fw).map FwPackage.svn).getD 0 ≤ s.idn.fuses.svnFloor →
    Completes (.svnFloorRaise ctrl cid) s fun t => Sends s t ⟨.completion, [ctrl, cid, 0, 0, s.idn.fuses.svnFloor, 0]⟩ ∧ t.idn = s.idn) ∧
  (∀ (s : State) (ctrl cid a b : Nat) (i : Image) (f : FwPackage), Serves s ctrl (.mgmt (some RoleBit.firmware)) → s.cfg.running = some i → i.fw = some f →
    s.idn.fuses.svnFloor < f.svn → s.copySvn 0 = some a → s.copySvn 1 = some b → f.svn ≤ a → f.svn ≤ b → s.idn.job = none →
    Completes (.svnFloorRaise ctrl cid) s fun t => t.idn.job = some (.svn f.svn ctrl cid) ∧ t.rd Reg.IDN_STATUS_PROG_BUSY = 1 ∧ t.outbox = s.outbox) ∧
  (∀ (s : State) (ctrl cid nonce : Nat), Serves s ctrl (.mgmt none) → nonce ≠ 0 → s.idn.quotes.length < 8 → s.idn.keyReady = true →
    Completes (.attestationQuote ctrl cid nonce) s fun t => t.idn.quotes = s.idn.quotes ++ [⟨ctrl, cid, nonce, none⟩] ∧ t.deferred = s.deferred ++ [.quoteSample]) ∧
  (∀ (s : State) (q : Quote) (rest : List Quote) (body : List Nat), s.idn.quotes = q :: rest → q.sampled = some body → s.idn.keyReady = true →
    Completes .quoteSigned s fun t => t.idn.quotes = rest ∧ Answers s t q.ctrl q.cid St.ok ∧
      Sends s t ⟨.data, [q.ctrl, q.cid] ++ body ++ [Config.edSign s.idn.fuses.identityKey (leBytes 64 (Config.shake256 (body.map (BitVec.ofNat 8)) 64)), s.idn.fuses.cert]⟩)

/-- The commands of bring-up and of link faults complete with their own effect (R134 to R136, R139, R154). -/
def Obligations.LinkCommands : Prop :=
  (∀ (s : State) (unit : Nat), s.unitOn unit = true → (s.link unit).st = .an →
    Completes (.linkAnDone unit true) s fun t => (t.link unit).st = .training ∧ (t.link unit).trainArmed = some s.clock) ∧
  (∀ (s : State) (unit : Nat), s.unitOn unit = true → (s.link unit).st = .training →
    Completes (.linkTrainingDone unit) s fun t => (t.link unit).st = .align ∧ (t.link unit).alignArmed = some s.clock) ∧
  (∀ (s : State) (unit : Nat), s.unitOn unit = true → (s.link unit).st = .training → due (s.link unit).trainArmed (turnsOfSec 3) s.clock = true →
    Completes (.linkTrainingTimeout unit) s fun t => (t.link unit).st = .an ∧ (t.link unit).trainArmed = none) ∧
  (∀ (s : State) (unit : Nat), s.unitOn unit = true → (s.link unit).st = .align →
    Completes (.linkLockAcquired unit) s fun t => (t.link unit).st = .qualify ∧ (t.link unit).locked = true ∧ (t.link unit).qualArmed = some s.clock) ∧
  (∀ (s : State) (unit : Nat), s.unitOn unit = true → (s.link unit).st = .align → due (s.link unit).alignArmed (turnsOfMs 100) s.clock = true →
    Completes (.linkAlignTimeout unit) s fun t => (t.link unit).st = .an ∧ (t.link unit).negArmed = some s.clock) ∧
  (∀ (s : State) (unit : Nat), s.unitOn unit = true → unit < 16 → (s.link unit).st = .qualify → due (s.link unit).qualArmed 48829 s.clock = true →
    Completes (.linkQualifyDone unit) s fun t => (t.link unit).st = .up ∧ Raises s t Ev.linkUp unit 0 ∧ Sent s t [⟨.gratuitous, [unit, 0]⟩, ⟨.gratuitous, [unit, 1]⟩]) ∧
  (∀ (s : State) (unit : Nat), s.unitOn unit = true → (s.link unit).st = .qualify →
    Completes (.linkLockLost unit) s fun t => (t.link unit).st = .align ∧ (t.link unit).locked = false) ∧
  (∀ (s : State) (unit : Nat), s.unitOn unit = true → (s.link unit).st = .up → (s.link unit).lossArmed = none →
    Completes (.linkLockLost unit) s fun t => (t.link unit).st = .up ∧ (t.link unit).lossArmed = some s.clock) ∧
  (∀ (s : State) (unit : Nat), s.unitOn unit = true → unit < 16 → (s.link unit).st = .up → due (s.link unit).lossArmed 4883 s.clock = true →
    Completes (.linkLossTimeout unit) s fun t => (t.link unit).st = .align ∧ Raises s t Ev.linkDown unit 0) ∧
  (∀ (s : State) (unit : Nat), s.unitOn unit = true → (s.link unit).st = .an → due (s.link unit).negArmed (turnsOfSec 10) s.clock = true →
    tget s.evt.lastTurn (Ev.linkNegotiationFailed * 2 ^ 32 + unit) = none →
    Completes (.linkNegotiationTimeout unit) s fun t => (t.link unit).negArmed = some s.clock ∧ Raises s t Ev.linkNegotiationFailed unit 1) ∧
  (∀ (s : State) (unit : Nat) (remote : Bool), s.unitOn unit = true → (s.link unit).st = .up →
    Completes (.linkFaultTimeout unit remote) s fun t => Raises s t Ev.linkFault unit (b2n remote) ∧
      t.rd (if remote then Reg.ETH_PORT_STATUS_REMOTE_FAULT else Reg.ETH_PORT_STATUS_LOCAL_FAULT) unit = 1) ∧
  (∀ (s : State) (unit corrected uncorrectable : Nat), s.unitOn unit = true → s.networkSec = none →
    Completes (.fecWindowEnd unit corrected uncorrectable) s fun t => t.rd Reg.ETH_FEC_CORR unit = (s.rd Reg.ETH_FEC_CORR unit + corrected) % 2 ^ Reg.ETH_FEC_CORR.width ∧
      t.rd Reg.ETH_FEC_UNCORR unit = (s.rd Reg.ETH_FEC_UNCORR unit + uncorrectable) % 2 ^ Reg.ETH_FEC_UNCORR.width ∧
      t.rd Reg.ETH_PORT_STATUS_FEC_DEGRADED unit = b2n (decide (16 < uncorrectable)))

/-- The commands of received frames and of address resolution complete with their own effect (R140, R141, R144, R147, R152). -/
def Obligations.FrameCommands : Prop :=
  (∀ (s : State) (unit reason : Nat) (f : Frame), s.unitOn unit = true → unit < 16 → (s.link unit).st = .up → s.frameFault unit f = some reason → s.rd Reg.ETH_DROP unit (reason - 1) = 0 →
    Completes (.frameRx unit f) s fun t => t.rd Reg.ETH_DROP_LAST_REASON unit = reason ∧ t.rd Reg.ETH_DROP_LAST_TURN unit = s.now % 65536 ∧
      t.rd Reg.ETH_DROP unit (reason - 1) = 1 ∧ t.eth = s.eth) ∧
  (∀ (s : State) (unit : Nat) (f : Frame), s.unitOn unit = true → unit < 16 → (s.link unit).st = .up → s.frameFault unit f = none →
    Completes (.frameRx unit f) s fun t => t.evt = s.evt ∧ t.eth = s.eth ∧ tgetD t.cnt.vals (6 * (unit / 2) + 2) 0 = (tgetD s.cnt.vals (6 * (unit / 2) + 2) 0 + 1) % 2 ^ 48) ∧
  (∀ (s : State) (unit reason : Nat) (f : Frame), s.unitOn unit = true → 16 ≤ unit → (s.link unit).st = .up → s.peerFault unit f = some reason →
    Completes (.frameRx unit f) s fun t => t.rd Reg.ETH_DROP_LAST_REASON unit = reason ∧ t.eth = s.eth) ∧
  (∀ (s : State) (unit mac ip : Nat), s.unitOn unit = true → s.linkPasses unit = true → ip ≠ (s.ownAddr unit).2.1 → (s.link unit).answered < 16 →
    Completes (.arpRequestRx unit mac ip (s.ownAddr unit).2.1) s fun t => Sent s t [⟨.addressReply, [unit, 0, mac, ip]⟩] ∧
      (t.link unit).answered = (s.link unit).answered + 1) ∧
  (∀ (s : State) (unit mac : Nat), s.unitOn unit = true → s.linkPasses unit = true → mac ≠ (s.ownAddr unit).1 →
    Completes (.arpReplyRx unit mac (s.ownAddr unit).2.1) s fun t => t.rd Reg.ETH_PORT_STATUS_CONFLICT unit = 1 ∧ Raises s t Ev.addressConflict unit 0) ∧
  (∀ (s : State) (unit mac ip : Nat), s.unitOn unit = true → s.linkPasses unit = true → (s.link unit).answered < 16 →
    Completes (.neighbourSolicitationRx unit mac ip (s.ownAddr unit).2.2) s fun t => Sent s t [⟨.addressReply, [unit, 1, mac, ip]⟩]) ∧
  (∀ (s : State) (unit mac : Nat), s.unitOn unit = true → s.linkPasses unit = true → mac ≠ (s.ownAddr unit).1 →
    Completes (.neighbourAdvertisementRx unit mac (s.ownAddr unit).2.2) s fun t => t.rd Reg.ETH_PORT_STATUS_CONFLICT unit = 1 ∧ Raises s t Ev.addressConflict unit 0) ∧
  (∀ (s : State) (unit : Nat), s.unitOn unit = true → s.inReset = false →
    Completes (.ethDropClear unit) s fun t => t = s.defer (.ethDropClear unit))

/-- Received packets complete with their own effect (R155, R172, R178, R191 to R193, R206). -/
def Obligations.PacketCommands : Prop :=
  (∀ (s : State) (p : Pkt) (pos : PktPos) (imm : Option Nat) (i : Nat) (q : Qp), Arrives s p i q → q.st = .rts → p.psn = q.epsn → s.roleLevel 2 ≠ 3 →
    (s.alloc 2 0 3).isSome = true → p.ackReq = true →
    Completes (.sendRx p pos imm) s fun t => Sends s t ⟨.ack, [i, p.psn]⟩ ∧
      ((t.qp? i).map fun x => (x.epsn, x.recv.length)) = some (psnAdd q.epsn 1, q.recv.length + 1)) ∧
  (∀ (s : State) (p : Pkt) (pos : PktPos) (rkey va : Nat) (imm : Option Nat) (l : List Byte) (i : Nat) (q : Qp) (e : BlockEnt), Arrives s p i q → q.st = .rts →
    p.psn = q.epsn → (s.windowAt (keyIndex rkey) s.now).fault q rkey va l.length true = none → (s.windowAt (keyIndex rkey) s.now).buffer = true →
    (tgetD s.win.lists (keyIndex rkey) [])[va / 65536]? = some e → va % 65536 + l.length ≤ 65536 → l ≠ [] →
    Completes (.rdmaWriteRx p pos rkey va imm l) s fun t => ((t.qp? i).map fun x => (x.epsn, x.nakSent)) = some (psnAdd q.epsn 1, false) ∧
      (List.range l.length).map (fun k => memRead t.dram (s.bufAddr e.buf + va % 65536 + k)) = l) ∧
  (∀ (s : State) (p : Pkt) (rkey va length i : Nat) (q : Qp), Arrives s p i q → q.st = .rts → p.psn = q.epsn →
    (s.windowAt (keyIndex rkey) s.now).fault q rkey va length false = none →
    Completes (.rdmaReadRequestRx p rkey va length) s fun t => Sends s t ⟨.readResponse, [i, length]⟩ ∧
      ((t.qp? i).map fun x => x.epsn) = some (psnAdd q.epsn (packetsOf length q.pmtu))) ∧
  (∀ (s : State) (p : Pkt) (pos : PktPos) (l : List Byte) (i : Nat) (q : Qp) (e : SqEntry) (tag left : Nat) (more : List (Nat × Nat)), Arrives s p i q →
    q.oldestRead = some e → q.reads = (tag, left) :: more → q.pmtu ≠ 0 → p.psn = psnAdd (q.firstPsn e) ((e.wqe.length - left) / q.pmtu) →
    l ≠ [] → l.length < left →
    Completes (.rdmaReadResponseRx p pos l) s fun t => ((t.qp? i).map fun x => x.reads) = some ((tag, left - l.length) :: more)) ∧
  (∀ (s : State) (p : Pkt) (i : Nat) (q : Qp), Arrives s p i q → q.st = .rts → p.psn = q.epsn → q.nakSent = false →
    Completes (.sendWithInvalidateRx p) s fun t => Sends s t ⟨.nak, [i, q.epsn, 1]⟩ ∧ ((t.qp? i).map fun x => (x.nakSent, x.epsn)) = some (true, q.epsn)) ∧
  (∀ (s : State) (qpn psn i : Nat) (rx tx : Stamp) (q : Qp), Reaches s qpn i q → q.inFlight psn = true → q.oldestRead = none →
    Completes (.ackRx qpn psn rx tx) s fun t => ((t.qp? i).map fun x => x.unaPsn) = some (psnAdd psn 1)) ∧
  (∀ (s : State) (qpn psn i : Nat) (q : Qp), Reaches s qpn i q → q.inFlight psn = true → q.oldestRead = none → q.retriesLeft ≠ 0 → q.retryCnt ≠ 0 →
    Completes (.nakRx qpn psn .psnSequence) s fun t => Sends s t ⟨.resend, [i, psn]⟩) ∧
  (∀ (s : State) (qpn wait i : Nat) (q : Qp), Reaches s qpn i q → q.inFlight q.unaPsn = true → q.oldestRead = none → q.unaPsn < 2 ^ 24 → q.rnrLeft ≠ 0 → q.rnrRetry ≠ 7 →
    Completes (.rnrNakRx qpn q.unaPsn wait) s fun t => ((t.qp? i).map fun x => (x.rnrWait, x.rnrLeft)) = some (some (s.clock, wait), q.rnrLeft - 1)) ∧
  (∀ (s : State) (qpn i : Nat) (q : Qp), Reaches s qpn i q →
    Completes (.cnpRx qpn) s fun t => ((t.qp? i).map fun x => (x.cnpRx, x.cnpsRx)) = some (true, q.cnpsRx + 1)) ∧
  (∀ (s : State) (qpn i : Nat) (q : Qp), s.inReset = false → s.indexOfQpn qpn = some i → s.qp? i = some q → s.carries q.unit = true → s.geckoHit i = false →
    s.xpt.missBuf.length < 512 →
    Completes (.cnpRx qpn) s fun t => t.xpt.missBuf = s.xpt.missBuf ++ [⟨i, s.now, .cnpRx qpn⟩] ∧ t.xpt.fetches.contains i = true ∧ t.xpt.qps = s.xpt.qps) ∧
  (∀ (s : State) (i qpn turn : Nat) (q : Qp), s.xpt.fetches.contains i = true → s.xpt.missBuf = [⟨i, turn, .cnpRx qpn⟩] → s.qp? i = some q →
    Completes (.contextFetchDone i true) s fun t => t.xpt.missBuf = [] ∧ t.xpt.fetches.contains i = false ∧ t.geckoHit i = true ∧
      ((t.qp? i).map fun x => x.cnpRx) = some true)

/-- The timers, work requests and register commands of queue pairs complete with their own effect (R169, R174, R184, R185, R188, R191,
R193, R653). -/
def Obligations.QueuePairCommands : Prop :=
  (∀ (s : State) (i : Nat) (q : Qp), s.qp? i = some q → due q.ackArmed (2 ^ (q.ackT + 1)) s.clock = true → q.unaPsn ≠ q.sqPsn → q.retriesLeft ≠ 0 →
    Completes (.ackTimeout i) s fun t => Sent s t [⟨.resend, [i, q.unaPsn]⟩] ∧ ((t.qp? i).map fun x => (x.retriesLeft, x.ackArmed)) = some (q.retriesLeft - 1, some s.clock)) ∧
  (∀ (s : State) (i a wait : Nat) (q : Qp), s.qp? i = some q → q.rnrWait = some (a, wait) → expired a wait s.clock = true →
    Completes (.rnrWaitExpiry i) s fun t => Sends s t ⟨.resend, [i, q.unaPsn]⟩ ∧ ((t.qp? i).map fun x => x.rnrWait) = some none) ∧
  (∀ (s : State) (i : Nat) (w : Wqe) (q : Qp), s.inReset = false → s.qp? i = some q → q.st = .rtr → s.wqeFault q { w with flags := w.flags % 32 } = none →
    Completes (.wqePost i w) s fun t => t.outbox = s.outbox ∧ ((t.qp? i).map fun x => x.sq) = some (q.sq ++ [⟨{ w with flags := w.flags % 32 }, false, 0, none⟩])) ∧
  (∀ (s : State) (i : Nat) (w : Wqe) (q : Qp), s.inReset = false → s.qp? i = some q → q.st = .rts → q.rnrWait = none → q.sq = [] → w.opcode < 4 → w.flags = 0 →
    s.wqeWindowOk q w = true → q.inflight + w.length ≤ q.cwnd → w.length ≤ 2 ^ 31 →
    Completes (.wqePost i w) s fun t => Sent s t [⟨.wqeSend, [i, w.opcode, w.length, w.tag, w.window, w.offset, w.remoteVa, w.remoteKey, w.imm]⟩] ∧
      ((t.qp? i).map fun x => (x.sqPsn, x.inflight)) = some (psnAdd q.sqPsn (packetsOf w.length q.pmtu), q.inflight + w.length)) ∧
  (∀ (s : State) (i : Nat) (q : Qp) (e : SqEntry), s.qp? i = some q → q.sq = [e] → e.started = false → bitOf e.wqe.flags 0 = true → due e.headTurn e.wqe.trigTimeout s.clock = true →
    Completes (.triggerTimeout i) s fun t => Sent s t [⟨.wqeDone, [i, e.wqe.tag, 5]⟩] ∧ Raises s t Ev.triggerTimeout i 0 ∧ ((t.qp? i).map fun x => x.sq) = some []) ∧
  (∀ (s : State) (w : Writer), s.inReset = false → w ≠ .endpoint →
    Completes (.qpForceError w true) s fun t => t = s.defer (.forceErr (s.rd (Reg.XPT_QP_SEL.forWriter w)))) ∧
  (∀ (s : State) (w : Writer) (q : Qp), s.inReset = false → w ≠ .endpoint → s.qp? (s.rd (Reg.XPT_QP_SEL.forWriter w)) = some q →
    Completes (.qpContextRead w) s fun t => t.rd (Reg.XPT_QP_CTL_VALID.forWriter w) = 1 ∧ t.rd (Reg.XPT_QP_DATA.forWriter w) 0 1 = q.remoteQpn % 2 ^ 32 ∧
      t.rd (Reg.XPT_QP_DATA.forWriter w) 0 6 = q.epsn % 2 ^ 32 ∧ t.xpt = s.xpt) ∧
  (∀ s : State, s.inReset = false → Completes .missPeakClear s fun t => t = s.wr Reg.XPT_MISS_PEAK 0 0 0 ∧ t.rd Reg.XPT_MISS_PEAK = 0)

/-- The connection management commands complete with their own effect (R158, R161 to R168). -/
def Obligations.ConnectionCommands : Prop :=
  (∀ (s : State) (r : CmReq), r.host.unit < 16 → s.unitOn r.host.unit = true → s.carries r.host.unit = true → 3 ≤ r.service →
    Completes (.cmReqRx r) s fun t => t = s.emit .cmRej [r.remoteQpn, 8]) ∧
  (∀ (s : State) (r : CmReq) (i : Nat), r.host.unit < 16 → s.unitOn r.host.unit = true → s.carries r.host.unit = true → r.service < 3 →
    s.cfg.state.accepts r.service = true → r.requestOk = true → s.qpsOfHost r.host < s.qpPerHost → s.freeQp = some i → r.responderResources ≤ 16 →
    (s.takeHandle r.host).isSome = true →
    Completes (.cmReqRx r) s fun t => ((t.qp? i).map fun q => (q.remoteQpn, q.epsn, q.service, q.initiated)) = some (r.remoteQpn, r.psn % 2 ^ 24, r.service, false)) ∧
  (∀ (s : State) (i remoteQpn psn granted : Nat) (q : Qp), s.qp? i = some q → s.carries q.unit = true → q.opening = true →
    Completes (.cmRepRx i remoteQpn psn granted) s fun t => Sends s t ⟨.cmRtu, [i]⟩ ∧
      ((t.qp? i).map fun x => (x.st, x.remoteQpn, x.epsn)) = some (.rts, remoteQpn, psn % 2 ^ 24)) ∧
  (∀ (s : State) (i : Nat) (q : Qp), s.qp? i = some q → s.carries q.unit = true → q.st = .rtr → q.initiated = false →
    Completes (.cmRtuRx i) s fun t => ((t.qp? i).map fun x => x.st) = some .rts) ∧
  (∀ (s : State) (i reason : Nat) (q : Qp), s.qp? i = some q → s.carries q.unit = true → q.opening = true →
    Completes (.cmRejRx i reason) s fun t => t.qp? i = none ∧ t.outbox = s.outbox) ∧
  (∀ (s : State) (i timeout : Nat) (q : Qp), s.qp? i = some q → s.carries q.unit = true → q.opening = true →
    Completes (.cmMraRx i timeout) s fun t => t.qp? i = some { q with connectArmed := some (s.clock + timeout) }) ∧
  (∀ (s : State) (i : Nat) (q : Qp), s.qp? i = some q → s.carries q.unit = true → q.st = .rts →
    Completes (.cmDreqRx i) s fun t => ((t.qp? i).map fun x => x.st) = some .draining) ∧
  (∀ (s : State) (i : Nat) (q : Qp), s.qp? i = some q → s.carries q.unit = true → q.st = .timewait →
    Completes (.cmDreqRx i) s fun t => t = s.emit .cmDrep [i]) ∧
  (∀ (s : State) (i : Nat) (q : Qp), s.qp? i = some q → s.carries q.unit = true → q.drained = true →
    Completes (.cmDrepRx i) s fun t => ((t.qp? i).map fun x => (x.st, x.timewaitArmed)) = some (.timewait, some s.clock)) ∧
  (∀ s : State, Completes .cmUnsupportedRx s fun t => t = s) ∧
  (∀ (s : State) (dest : HostAddr) (tenant i : Nat), dest.unit < 16 → s.unitOn dest.unit = true → s.cfg.state.accepts 2 = true → s.freeQp = some i →
    (s.takeHandle dest).isSome = true →
    Completes (.connectInitiate dest tenant) s fun t => ((t.qp? i).map fun q => (q.initiated, q.service, q.tenant)) = some (true, 2, tenant)) ∧
  (∀ (s : State) (i : Nat) (q : Qp), s.qp? i = some q → q.opening = true → due q.connectArmed (turnsOfMs 500) s.clock = true → q.attempts < 4 →
    Completes (.connectRetryExpiry i) s fun t => Sent s t [⟨.cmReq, [i, q.attempts + 1]⟩] ∧ ((t.qp? i).map fun x => x.attempts) = some (q.attempts + 1)) ∧
  (∀ (s : State) (i : Nat) (q : Qp), s.qp? i = some q → q.repPending = true → due q.mraArmed (turnsOfMs 1) s.clock = true →
    Completes (.mraTimerExpiry i) s fun t => Sent s t [⟨.cmMra, [i]⟩] ∧ ((t.qp? i).map fun x => x.mraArmed) = some none) ∧
  (∀ (s : State) (i : Nat) (q : Qp), s.qp? i = some q → q.drained = true →
    Completes (.qpDrainDone i) s fun t => Sent s t [⟨.cmDrep, [i]⟩] ∧ ((t.qp? i).map fun x => x.st) = some .timewait) ∧
  (∀ (s : State) (i : Nat) (q : Qp), s.qp? i = some q → q.st = .draining → due q.drainArmed (2 ^ (q.ackT + 1)) s.clock = true →
    Completes (.qpDrainTimeout i) s fun t => Sends s t ⟨.cmDrep, [i]⟩ ∧ ((t.qp? i).map fun x => (x.st, x.sq)) = some (.timewait, [])) ∧
  (∀ (s : State) (i : Nat) (q : Qp), s.qp? i = some q → q.st = .timewait → due q.timewaitArmed (2 ^ (q.ackT + 2)) s.clock = true →
    Completes (.qpTimewaitExpiry i) s fun t => t.qp? i = none ∧ tgetD t.xpt.gens i 0 = (q.gen + 1) % 16)

/-- The commands of the memory windows complete with their own effect (R196, R201 to R204, R207, R211). -/
def Obligations.WindowCommands : Prop :=
  (∀ (s : State) (ctrl cid qp length w : Nat) (remoteW remoteR bind : Bool) (q : Qp), Serves s ctrl .hostOnly → s.qp? qp = some q → length ≠ 0 →
    length ≤ 2 ^ s.rd Reg.WIN_CFG_WIN_MAX_LEN → (s.openWindows.filter fun x => (s.windowNewest x).handle == q.handle).length < s.rd Reg.WIN_CFG_WIN_PER_HOST →
    s.cfg.state = .active → tfree ((s.usedWindows).map fun x => (x, ())) 0 262144 = some w → s.sch.inLevel < 2 → (s.allocMany 0 1 0 length).isSome = true →
    Completes (.windowOpen ctrl cid qp 0 length 1 remoteW remoteR bind) s fun t =>
      ((t.win.batch ++ t.win.waiting).any fun c => c.window == w && c.reply == some (ctrl, cid) && c.desc.st == .isOpen && c.desc.buffer && c.desc.length == length && c.desc.handle == q.handle) = true ∧
      ((tgetD t.win.lists w []).length = length) ∧ t.outbox = s.outbox) ∧
  (∀ (s : State) (ctrl cid qp nsid length w : Nat) (bind : Bool) (q : Qp) (n : Ns), Serves s ctrl .hostOnly → s.qp? qp = some q → length ≠ 0 →
    length ≤ 2 ^ s.rd Reg.WIN_CFG_WIN_MAX_LEN → s.attached ctrl nsid = some n → n.type ≠ 2 →
    (s.openWindows.filter fun x => (s.windowNewest x).handle == q.handle).length < s.rd Reg.WIN_CFG_WIN_PER_HOST →
    s.cfg.state = .active → tfree ((s.usedWindows).map fun x => (x, ())) 0 262144 = some w → s.sch.inLevel < 2 → (s.allocMany 0 1 0 length).isSome = true →
    Completes (.windowOpen ctrl cid qp nsid length 0 true false bind) s fun t =>
      ((t.win.batch ++ t.win.waiting).any fun c => c.window == w && c.reply == some (ctrl, cid) && c.desc.st == .isOpen && !c.desc.buffer && c.desc.nsid == nsid) = true ∧
      t.outbox = s.outbox) ∧
  (∀ (s : State) (ctrl cid key : Nat), Serves s ctrl .hostOnly → (s.windowNewest (keyIndex key)).st = .isOpen →
    keyTagOf key = (s.windowNewest (keyIndex key)).keyTag → s.ctrlHandle ctrl = some (s.windowNewest (keyIndex key)).handle →
    Completes (.windowClose ctrl cid key) s fun t => t.outbox = s.outbox ∧
      ((t.win.batch ++ t.win.waiting).any fun c => c.window == keyIndex key && c.reply == some (ctrl, cid) && c.desc.st == .draining) = true) ∧
  (∀ (s : State) (w turn ctrl cid : Nat), s.win.revokes = [⟨w, turn, some (ctrl, cid)⟩] → (s.xpt.missBuf.any fun p => decide (p.turn < turn)) = false →
    Completes (.windowRevokeDrained w) s fun t => Answers s t ctrl cid St.ok ∧ t.win.revokes = [] ∧ tget t.win.lists w = none ∧
      ((t.win.batch ++ t.win.waiting).any fun c => c.window == w && c.desc.st == .free) = true) ∧
  (∀ (s : State) (wr : Writer), s.inReset = false → wr ≠ .endpoint →
    Completes (.windowDescriptorRead wr) s fun t => t.rd (Reg.WIN_READ_VALID.forWriter wr) = 1 ∧
      (List.range 8).map (fun k => t.rd (Reg.WIN_DATA.forWriter wr) 0 k) = ((s.window (s.rd (Reg.WIN_SEL.forWriter wr))).words).map (· % 2 ^ 32)) ∧
  (∀ s : State, s.inReset = false → Completes .windowViolationClear s fun t => t = s.defer .clearViol)

/-- The commands of the traffic scheduler complete with their own effect (R223, R229, R231, R244, R245, R248). -/
def Obligations.SchedulingCommands : Prop :=
  (∀ (s : State) (unit pip : Nat) (f : EgressFrame) (l : List EgressFrame), unit < 16 → s.unitOn unit = true → (s.link unit).st = .up → f.control = true →
    Completes (.egressPick unit pip (f :: l)) s fun t => Sent s t [⟨.frame, [unit, f.qp, f.length, 1]⟩]) ∧
  (∀ (s : State) (unit pip : Nat) (f : EgressFrame) (q : Qp), unit < 16 → s.unitOn unit = true → (s.link unit).st = .up → f.control = false → s.qp? f.qp = some q →
    0 < s.bucket (portEntry unit) (s.portBucket unit 0) → 0 < s.bucket (queueOfQp q.handle q.service) 0 →
    0 < s.bucket (s.nodeOf (queueOfQp q.handle q.service) unit) 0 →
    s.gateOpen unit (s.groupOf (s.nodeOf (queueOfQp q.handle q.service) unit)) pip = true →
    Completes (.egressPick unit pip [f]) s fun t => Sent s t [⟨.frame, [unit, f.qp, f.length, 0]⟩]) ∧
  (∀ (s : State) (qp unit seq length va rkey n : Nat) (q : Qp) (e : CmdEnt), unit < 16 → s.unitOn unit = true → s.qp? qp = some q → s.entry seq = some e →
    e.data = .keyed va rkey n → e.kind = .tallyWrite → e.admitted = true → e.io.qp = qp → q.st = .rts → q.unit = unit → s.carries unit = true → 0 < length →
    e.pulled + length ≤ e.io.nlb * 4160 → q.inflight + length ≤ q.cwnd → s.mayPull q unit = true →
    Completes (.ingestPullIssue qp unit seq length) s fun t => Sent s t [⟨.pull, [qp, length]⟩] ∧
      ((t.entry seq).map fun x => x.pulled) = some (e.pulled + length) ∧ ((t.qp? qp).map fun x => x.reads) = some (q.reads ++ [(seq, length)])) ∧
  (∀ (s : State) (qp unit seq length va rkey n : Nat) (q : Qp) (e : CmdEnt), unit < 16 → s.unitOn unit = true → s.qp? qp = some q → s.entry seq = some e →
    e.data = .keyed va rkey n → e.kind = .write ∨ e.kind = .zoneAppend → e.admitted = true → e.io.qp = qp → q.st = .rts → q.unit = unit → s.carries unit = true →
    0 < length → e.pulled + length ≤ e.io.nlb * 4096 → q.inflight + length ≤ q.cwnd → s.mayPull q unit = true →
    (s.ownBlocks seq e.io.nsid (blockParts (e.firstLba * 4096) (e.firstLba * 4096 + e.io.nlb * 4096) (e.firstLba * 4096 + e.pulled) (e.firstLba * 4096 + e.pulled + length))).isSome = true →
    Completes (.ingestPullIssue qp unit seq length) s fun t => Sent s t [⟨.pull, [qp, length]⟩] ∧ ((t.entry seq).map fun x => x.pulled) = some (e.pulled + length)) ∧
  (∀ (s : State) (b : Nat), s.sch.blackSince = some b → s.sch.heldArmed = none → b + 1024 ≤ s.clock →
    Completes .ingestHeldTimeout s fun t => Raises s t Ev.ingestHeld 0 0 ∧ t.sch.heldArmed = some s.clock) ∧
  (∀ s : State, s.inReset = false → s.bankBit .params BankBit.commit = false → s.rd (Reg.SCH_PARAM_SEL.forWriter .core) < 24840 →
    paramOk (s.rd (Reg.SCH_PARAM_SEL.forWriter .core)) ((List.range 8).map fun k => s.rd (Reg.SCH_PARAM_DATA.forWriter .core) 0 k) = true →
    Completes (.schParamWrite .core) s fun t => t.sch.params.act = s.sch.params.act ∧
      tget t.sch.params.shd (s.rd (Reg.SCH_PARAM_SEL.forWriter .core)) = some ((List.range 8).map fun k => s.rd (Reg.SCH_PARAM_DATA.forWriter .core) 0 k)) ∧
  (∀ (s : State) (w : Writer), s.inReset = false → w ≠ .endpoint →
    Completes (.schParamRead w) s fun t => t.rd (Reg.SCH_PARAM_CTL_VALID.forWriter w) = 1 ∧ t.sch = s.sch ∧
      (List.range 8).map (fun k => t.rd (Reg.SCH_PARAM_DATA.forWriter w) 0 k) = (s.paramWords (s.rd (Reg.SCH_PARAM_SEL.forWriter w))).map (· % 2 ^ 32)) ∧
  (∀ (s : State) (w : Writer), s.inReset = false → w ≠ .endpoint →
    Completes (.schParamReadLive w) s fun t => t.rd (Reg.SCH_PARAM_CTL_VALID.forWriter w) = 1 ∧ t.sch = s.sch ∧
      t.rd (Reg.SCH_PARAM_DATA.forWriter w) 0 5 = s.liveWord (s.rd (Reg.SCH_PARAM_SEL.forWriter w)) 0 ∧
      t.rd (Reg.SCH_PARAM_DATA.forWriter w) 0 6 = s.liveWord (s.rd (Reg.SCH_PARAM_SEL.forWriter w)) 1)

/-- The commands of the Frogspawn buffer pool complete with their own effect (R294, R298, R299, R303 to R307). -/
def Obligations.FrogspawnCommands : Prop :=
  (∀ (s : State) (req role cls n i : Nat) (u : State), s.alloc role cls req = some (n, i, u) →
    Completes (.fspAllocate req role cls) s fun t => Sent s t [⟨.buffer, [req, 0, pointerWord n cls i]⟩] ∧ tget t.fsp.descs i = some ⟨1, req, none⟩) ∧
  (∀ (s : State) (req role cls : Nat), s.alloc role cls req = none →
    Completes (.fspAllocate req role cls) s fun t => t = s.emit .buffer [req, 1, 0]) ∧
  (∀ (s : State) (req n i : Nat) (buf : BufRef) (d : BufDesc), s.resolveBuf buf = .ok (n, i) → tget s.fsp.descs i = some d → 1 < d.ref →
    Completes (.fspFree req buf) s fun t => tget t.fsp.descs i = some { d with ref := d.ref - 1 } ∧ t.fsp.pools = s.fsp.pools ∧ t.outbox = s.outbox) ∧
  (∀ (s : State) (req n i : Nat) (buf : BufRef) (d : BufDesc), s.resolveBuf buf = .ok (n, i) → s.poolOfIndex i = some n → tget s.fsp.descs i = some d → d.ref ≤ 1 → d.next = none →
    Completes (.fspFree req buf) s fun t => tget t.fsp.descs i = none ∧ (t.pool n).cache = i :: (s.pool n).cache) ∧
  (∀ (s : State) (req reason n : Nat) (buf : BufRef), s.resolveBuf buf = .error (reason, n) →
    Completes (.fspFree req buf) s fun t => t.fsp = s.fsp ∧ t.rd Reg.FSP_BAD_LAST_REASON = reason ∧ Sent s t [⟨.buffer, [req, 2, reason]⟩]) ∧
  (∀ (s : State) (req n i : Nat) (buf : BufRef) (d : BufDesc), s.resolveBuf buf = .ok (n, i) → tget s.fsp.descs i = some d → d.ref < 255 →
    Completes (.fspIncref req buf) s fun t => tget t.fsp.descs i = some { d with ref := d.ref + 1 } ∧ t.outbox = s.outbox) ∧
  (∀ (s : State) (req n i : Nat) (buf : BufRef) (d : BufDesc), s.resolveBuf buf = .ok (n, i) → tget s.fsp.descs i = some d → d.ref = 255 →
    Completes (.fspIncref req buf) s fun t => t.fsp = s.fsp ∧ t.rd Reg.FSP_BAD_LAST_REASON = 6) ∧
  (∀ (s : State) (n : Nat), n < 16 → (s.pool n).en = true → (s.pool n).cache.length < 256 →
    Completes (.fspCacheRefill n []) s fun t => (t.pool n).cache = (s.pool n).cache ++ (ringTake ((s.pool n).ring.length + 1) 256 (s.pool n).ring).1 ∧
      (t.pool n).ring = (ringTake ((s.pool n).ring.length + 1) 256 (s.pool n).ring).2 ∧ t.regs = s.regs) ∧
  (∀ (s : State) (n : Nat), n < 16 → (s.pool n).en = true → 768 < (s.pool n).cache.length →
    Completes (.fspCacheWriteback n) s fun t => (t.pool n).cache = (s.pool n).cache.take ((s.pool n).cache.length - 256) ∧ (t.pool n).free = (s.pool n).free) ∧
  (∀ s : State, s.inReset = false → Completes .fspClear s fun t => t = s.defer .fspClear)

/-- The commands of controllers and sessions complete with their own effect (R249 to R251, R254, R257, R263, R264, R274, R275, R277, R631). -/
def Obligations.ControllerCommands : Prop :=
  (∀ (s : State) (qp cid hostnqn sqsize kato c : Nat) (q : Qp), s.qp? qp = some q → q.st = .rts → q.service = 1 → s.queueOf qp = none → 2 ≤ sqsize → sqsize ≤ 32 →
    1000 ≤ kato → kato ≤ 3600000 → s.freeCtrl = some c →
    Completes (.fabricsConnect qp cid none 1 hostnqn 0 sqsize kato) s fun t => t.ctrlOf c = some (Ctrl.fresh true hostnqn 0 qp (turnsOfMs kato) s.clock) ∧
      Sent s t [⟨.completion, [c, cid, 0, 0, c, 0]⟩]) ∧
  (∀ (s : State) (qp cid hostnqn sqsize kato c tenant : Nat) (q : Qp), s.qp? qp = some q → q.st = .rts → q.service ≠ 1 → s.queueOf qp = none → 2 ≤ sqsize → sqsize ≤ 32 →
    1000 ≤ kato → kato ≤ 3600000 → s.tenantOfHost hostnqn = some tenant → s.freeCtrl = some c →
    Completes (.fabricsConnect qp cid none 0 hostnqn 0 sqsize kato) s fun t => t.ctrlOf c = some (Ctrl.fresh false hostnqn tenant qp (turnsOfMs kato) s.clock) ∧
      Sent s t [⟨.completion, [c, cid, 0, 0, c, 0]⟩]) ∧
  (∀ (s : State) (qp cid ctrl qid sqsize kato : Nat) (q : Qp) (c : Ctrl), s.qp? qp = some q → q.st = .rts → s.queueOf qp = none → s.ctrlOf ctrl = some c → c.mgmt = false →
    c.ready = true → 1 ≤ qid → qid ≤ c.numQueues.getD 64 → 2 ≤ sqsize → sqsize ≤ 1024 → (c.queues.any fun x => x.1 == qid) = false →
    Completes (.fabricsConnect qp cid (some ctrl) 0 c.host qid sqsize kato) s fun t => t.ctrlOf ctrl = some { c with queues := c.queues ++ [(qid, qp)] } ∧
      Sent s t [⟨.completion, [ctrl, cid, 0, 0, ctrl, 0]⟩]) ∧
  (∀ (s : State) (ctrl cid offset v : Nat) (c : Ctrl), Serves s ctrl .always → s.ctrlOf ctrl = some c → s.property c offset = some v →
    Completes (.propertyGet ctrl cid offset) s fun t => Sends s t ⟨.data, [ctrl, cid, v]⟩ ∧ Answers s t ctrl cid St.ok) ∧
  (∀ (s : State) (ctrl cid value : Nat) (c : Ctrl), Serves s ctrl .always → s.ctrlOf ctrl = some c → bitOf value 0 = true → bitsOf value 14 2 = 0 →
    Completes (.propertySet ctrl cid 0x14 value) s fun t => Answers s t ctrl cid St.ok ∧ t.ctrlOf ctrl = some { c with cc := value % 2 ^ 32, enabled := true, ready := true }) ∧
  (∀ (s : State) (ctrl cid cns nsid csi : Nat) (c : Ctrl) (l : List Nat), Serves s ctrl .always → s.ctrlOf ctrl = some c → [0, 1, 2, 3, 5, 6].contains cns = true →
    s.identifyData c cns nsid = some l →
    Completes (.identify ctrl cid cns nsid csi) s fun t => Sends s t ⟨.data, ctrl :: cid :: cns :: l⟩ ∧ Answers s t ctrl cid St.ok) ∧
  (∀ (s : State) (ctrl cid lid offset dwords : Nat) (c : Ctrl), Serves s ctrl .both → s.ctrlOf ctrl = some c → [1, 2, 3, 4, 5, 6, 0xC, 0xC0].contains lid = true → offset % 4 = 0 →
    Completes (.getLogPage ctrl cid lid offset dwords) s fun t => Sends s t ⟨.data, ctrl :: cid :: s.logWords c lid offset dwords⟩ ∧ Answers s t ctrl cid St.ok) ∧
  (∀ (s : State) (ctrl cid qp seq : Nat) (e : CmdEnt), Serves s ctrl .both → s.cmd.entries = [(seq, e)] → e.io.ctrl = ctrl → e.io.qp = qp → e.admitted = false → e.discard = false →
    e.kind ≠ .reseal →
    Completes (.abort ctrl cid qp e.io.cid) s fun t => Answers s t ctrl e.io.cid St.abortRequested ∧ AnswersLast t ctrl cid St.ok ∧ t.entry seq = none) ∧
  (∀ (s : State) (ctrl cid qp target : Nat), Serves s ctrl .both →
    (s.cmd.entries.find? fun p => p.2.io.ctrl == ctrl && p.2.io.qp == qp && p.2.io.cid == target && !p.2.admitted) = none →
    Completes (.abort ctrl cid qp target) s fun t => Sent s t [⟨.completion, [ctrl, cid, 0, 0, 1, 0]⟩] ∧ t.cmd = s.cmd) ∧
  (∀ (s : State) (ctrl cid value : Nat) (c : Ctrl), Serves s ctrl .both → s.ctrlOf ctrl = some c →
    Completes (.setFeatures ctrl cid 0xB value false) s fun t => Answers s t ctrl cid St.ok ∧ t.ctrlOf ctrl = some { c with aenConfig := value % 2 ^ 32 }) ∧
  (∀ (s : State) (ctrl cid value : Nat) (c : Ctrl), Serves s ctrl .both → s.ctrlOf ctrl = some c → c.numQueues = none →
    Completes (.setFeatures ctrl cid 7 value false) s fun t =>
      ((t.ctrlOf ctrl).map fun x => x.numQueues) = some (some (min 64 (min (value % 65536) (value / 65536 % 65536) + 1))) ∧ Answers s t ctrl cid St.ok) ∧
  (∀ (s : State) (ctrl cid fid sel v : Nat) (c : Ctrl), Serves s ctrl .both → s.ctrlOf ctrl = some c → s.feature c fid sel = some v →
    Completes (.getFeatures ctrl cid fid sel) s fun t => Sent s t [⟨.completion, [ctrl, cid, 0, 0, v, 0]⟩]) ∧
  (∀ (s : State) (ctrl cid : Nat) (c : Ctrl), Serves s ctrl .both → s.ctrlOf ctrl = some c → c.aers.length < 4 → tget s.evt.queues ctrl = none →
    Completes (.asyncEventRequest ctrl cid) s fun t => t.outbox = s.outbox ∧ t.ctrlOf ctrl = some { c with aers := c.aers ++ [cid] }) ∧
  (∀ (s : State) (ctrl cid : Nat) (c : Ctrl), Serves s ctrl .always → s.ctrlOf ctrl = some c →
    Completes (.keepAlive ctrl cid) s fun t => Answers s t ctrl cid St.ok ∧ t.ctrlOf ctrl = some { c with lastKeep := s.clock }) ∧
  (∀ (s : State) (ctrl : Nat) (c : Ctrl), s.ctrlOf ctrl = some c → isMailbox ctrl = false → expired c.lastKeep c.kato s.clock = true →
    Completes (.keepAliveExpiry ctrl) s fun t => ((t.ctrlOf ctrl).map fun x => (x.enabled, x.ready, x.aers)) = some (false, false, []))

/-- The commands of sessions complete with their own effect (R96, R255, R261, R283 to R285). -/
def Obligations.SessionCommands : Prop :=
  (∀ (s : State) (ctrl cid size : Nat) (n : SecNamespace), Serves s ctrl (.mgmt (some RoleBit.admin)) → s.cfg.state = .active → s.nsSlots = [n] → s.nsOf n.nsid = none →
    size ≠ 0 → size ≤ n.maxCap →
    Completes (.namespaceCreate ctrl cid (csiOf n.nsType) n.lbaSize size) s fun t => t.nsOf n.nsid = some ⟨n.nsType, n.lbaSize, size, n.tenant⟩ ∧
      Sends s t ⟨.completion, [ctrl, cid, 0, 0, n.nsid, 0]⟩) ∧
  (∀ (s : State) (ctrl cid nsid : Nat) (n : Ns), Serves s ctrl (.mgmt (some RoleBit.admin)) → s.cfg.state = .active → s.nsOf nsid = some n →
    Completes (.namespaceDelete ctrl cid nsid) s fun t => t.nsOf nsid = none ∧ AnswersLast t ctrl cid St.ok) ∧
  (∀ (s : State) (ctrl cid nsid size : Nat) (n : Ns) (c : SecNamespace), Serves s ctrl (.mgmt (some RoleBit.admin)) → s.cfg.state = .active → s.nsOf nsid = some n →
    (s.nsSlots.find? fun x => x.nsid == nsid) = some c → size ≠ 0 → size ≤ c.maxCap →
    Completes (.namespaceResize ctrl cid nsid size) s fun t => t.nsOf nsid = some { n with size := size } ∧ AnswersLast t ctrl cid St.ok) ∧
  (∀ (s : State) (ctrl cid : Nat), Serves s ctrl (.mgmt (some RoleBit.admin)) → s.cfg.state = .active → s.cmd.selfTest = none →
    Completes (.selfTestShort ctrl cid 0xFFFFFFFF) s fun t => t.cmd.selfTest = some ⟨1, 2047, ctrl, false⟩ ∧ t.rd Reg.CMD_ST_KIND = 1 ∧ Answers s t ctrl cid St.ok) ∧
  (∀ (s : State) (ctrl cid : Nat), Serves s ctrl (.mgmt (some RoleBit.admin)) → s.cfg.state = .active → s.cmd.selfTest = none →
    Completes (.selfTestExtended ctrl cid 0xFFFFFFFF) s fun t => t.cmd.selfTest = some ⟨2, 2047, ctrl, false⟩ ∧ t.rd Reg.CMD_ST_KIND = 2 ∧ Answers s t ctrl cid St.ok) ∧
  (∀ (s : State) (ctrl cid : Nat) (x : SelfTest), Serves s ctrl (.mgmt (some RoleBit.admin)) → s.cmd.selfTest = some x →
    Completes (.selfTestAbort ctrl cid) s fun t => t.cmd.selfTest = none ∧ t.axl.scrubs = [] ∧ Answers s t ctrl cid St.ok ∧ Raises s t Ev.selfTestComplete x.nsid 1) ∧
  (∀ (s : State) (x : SelfTest), s.cmd.selfTest = some x → x.paused = false → x.kind = 1 →
    Completes (.selfTestDone none) s fun t => t.cmd.selfTest = none ∧ t.cmd.stResults = ((0, 0) :: s.cmd.stResults).take 20 ∧ Raises s t Ev.selfTestComplete x.nsid 0) ∧
  (∀ (s : State) (ctrl cid : Nat) (c : Ctrl), Serves s ctrl .mgmtOpen → s.ctrlOf ctrl = some c →
    Completes (.getChallenge ctrl cid) s fun t => t.ctrlOf ctrl = some { c with challenge := some (s.draw.1 % 2 ^ 256) } ∧ Sends s t ⟨.data, [ctrl, cid, s.draw.1 % 2 ^ 256]⟩ ∧
      Answers s t ctrl cid St.ok) ∧
  (∀ (s : State) (ctrl cid principal signature ch pub mask : Nat) (c : Ctrl) (i : Image), Serves s ctrl .mgmtOpen → s.ctrlOf ctrl = some c → c.challenge = some ch →
    s.cfg.running = some i → i.roles[principal % 64]? = some (pub, mask) → c.authFails = 0 →
    Completes (.authenticate ctrl cid principal signature) s fun t =>
      match Config.edVerify pub (s.sessionDigest ctrl ch) signature with
      | true => t.ctrlOf ctrl = some { c with roles := some mask, challenge := none } ∧ Answers s t ctrl cid St.ok
      | false => t.ctrlOf ctrl = some { c with authFails := 1 } ∧ Answers s t ctrl cid St.accessDenied ∧ Raises s t Ev.authenticationFailed ctrl 0)

/-- The commands of the gather cache and of Salamander complete with their own effect (R327 to R333, R336, R337). -/
def Obligations.CacheCommands : Prop :=
  (∀ s : State, s.inReset = false → s.gch.sets ≠ 0 →
    Completes .cacheEnable s (fun t => t.rd Reg.GCH_CTL_EN = 1 ∧ t.deferred = s.deferred ++ [.cacheEnable true]) ∧
    Completes .cacheDisable s (fun t => t.rd Reg.GCH_CTL_EN = 0 ∧ t.deferred = s.deferred ++ [.cacheEnable false])) ∧
  (∀ s : State, s.gch.sets = 0 → Completes .cacheEnable s (fun t => t = s) ∧ Completes .cacheDisable s (fun t => t = s)) ∧
  (∀ s : State, s.inReset = false → s.gch.st = .draining → s.sal.drain = true → (s.gch.lines.any fun p => p.2.dirty != 0) = false → s.gch.fills = [] → s.gch.exclusive = [] →
    Completes .cacheDrainDone s fun t => t.gch.st = .off ∧ t.gch.lines = [] ∧ t.sal.drain = false ∧ Raises s t Ev.cacheState 0 0) ∧
  (∀ (s : State) (slot line subs k : Nat) (f : Fill) (l : Line), s.inReset = false → slot < 24 → s.slotOn slot = true → s.gch.st = .on →
    (s.gch.fills.find? fun f => f.slot == slot && f.line == line && f.subs == subs) = some f → s.findLine slot line = some (k, l) → subs ≠ 0 →
    Completes (.cacheFillDone slot line subs true) s fun t =>
      ((tget t.gch.lines k).map fun x => (x.slot, x.line, x.valid)) = some (l.slot, l.line, l.valid ||| subs) ∧ t.gch.fills = s.gch.fills.erase f) ∧
  (∀ (s : State) (w : Writer), s.inReset = false → (w = .endpoint → s.cfg.state ≠ .safeHold) → s.sal.queue.length < 16 →
    Completes (.salClean w) s (fun t => t.sal = { s.sal with queue := s.sal.queue ++ [s.salAsked w 1] }) ∧
    Completes (.salInvalidate w) s (fun t => t.sal = { s.sal with queue := s.sal.queue ++ [s.salAsked w 2] }) ∧
    Completes (.salCleanInvalidate w) s (fun t => t.sal = { s.sal with queue := s.sal.queue ++ [s.salAsked w 3] }) ∧
    Completes (.salPin w) s (fun t => t.sal = { s.sal with queue := s.sal.queue ++ [s.salAsked w 4] }) ∧
    Completes (.salUnpin w) s (fun t => t.sal = { s.sal with queue := s.sal.queue ++ [s.salAsked w 5] })) ∧
  (∀ (s : State) (w : Writer), s.inReset = false → (w = .endpoint → s.cfg.state ≠ .safeHold) → 16 ≤ s.sal.queue.length →
    Completes (.salClean w) s fun t => t.rd Reg.SAL_STATUS_FULL = 1 ∧ t.sal = s.sal) ∧
  (∀ (s : State) (op : SalOp) (rest : List SalOp), s.inReset = false → s.sal.run = none → s.sal.drain = false → s.sal.queue = op :: rest → s.gch.st = .on → s.salInvalid op = false →
    Completes .salOperationStart s fun t => t.sal.queue = rest ∧ (t.sal.run.map fun r => r.op) = some op) ∧
  (∀ (s : State) (op : SalOp), s.inReset = false → s.sal.run = none → s.sal.drain = false → s.sal.queue = [op] → s.gch.st = .on → op.internal = false → s.salInvalid op = true →
    Completes .salOperationStart s fun t => t.sal.queue = [] ∧ t.sal.run = none ∧ Raises s t Ev.salamanderDone 0 4) ∧
  (∀ (s : State) (k : Nat) (rest : List Nat), s.inReset = false → s.sal.wbQueue = k :: rest → 0 < s.sal.credit →
    Completes .salWriteBackIssue s fun t => rest <+: t.sal.wbQueue ∧
      t.sal.credit = salCharge s.sal.credit (((s.findLine (k / 2 ^ 32) (k % 2 ^ 32)).map fun x => popCount x.2.dirty).getD 0)) ∧
  (∀ (s : State) (r : SalRun), s.inReset = false → s.sal.run = some r → r.total ≤ r.pos → s.sal.wbQueue = [] → s.sal.awaited = [] → (s.gch.fills.any fun f => f.pin) = false → r.op.internal = false →
    Completes .salOperationDone s fun t => t.sal.run = none ∧ Raises s t Ev.salamanderDone 0 (if r.skipped = 0 then 0 else 1) ∧
      t.rd Reg.SAL_LAST_STATUS = (if r.skipped = 0 then 0 else 1))

/-- I/O commands and their admission complete with their own effect (R214, R252, R253, R257, R260, R262, R268, R273). -/
def Obligations.IoCommands : Prop :=
  (∀ (s : State) (io : Io) (data : DataPtr) (c : Ctrl) (n : Ns), TakesIo s io c n → n.transferFault io data = none →
    Completes (.nvmRead io data) s fun t => Enters s t (CmdEnt.fresh io .read data c.host s.now (io.nlb * n.lbaSize))) ∧
  (∀ (s : State) (io : Io) (va rkey len : Nat) (c : Ctrl) (n : Ns), TakesIo s io c n → n.transferFault io (.keyed va rkey len) = none → n.type = 1 → crossesZone io.slba io.nlb = false →
    Completes (.nvmWrite io (.keyed va rkey len)) s fun t => Enters s t (CmdEnt.fresh io .write (.keyed va rkey len) c.host s.now (io.nlb * n.lbaSize))) ∧
  (∀ (s : State) (io : Io) (va rkey len : Nat) (c : Ctrl) (n : Ns), TakesIo s io c n → n.transferFault io (.keyed va rkey len) = none → n.type ≠ 1 →
    Completes (.nvmWrite io (.keyed va rkey len)) s fun t =>
      Enters s t (CmdEnt.fresh io (if n.type = 2 then .tallyWrite else .write) (.keyed va rkey len) c.host s.now (io.nlb * n.lbaSize))) ∧
  (∀ (s : State) (io : Io) (va rkey len : Nat) (c : Ctrl) (n : Ns), TakesIo s io c n → n.transferFault io (.keyed va rkey len) = none → n.type = 1 → io.slba % zoneLbas = 0 →
    Completes (.zoneAppend io (.keyed va rkey len)) s fun t => Enters s t (CmdEnt.fresh io .zoneAppend (.keyed va rkey len) c.host s.now (io.nlb * 4096))) ∧
  (∀ (s : State) (io : Io) (offset length rkey : Nat) (q : Qp) (c : Ctrl) (n : Ns), TakesIo s io c n → s.qp? io.qp = some q → s.commitStatus q io n offset length rkey = none → n.type = 0 →
    length ≤ maxTransfer → n.outside io.slba io.nlb = false →
    Completes (.windowCommit io false offset length rkey) s fun t => Enters s t (CmdEnt.fresh io .write (.window offset length rkey true) c.host s.now length)) ∧
  (∀ (s : State) (io : Io) (c : Ctrl) (n : Ns), TakesIo s io c n → io.nsid ≠ 0xFFFFFFFF → s.cfg.state = .active → s.cmd.entries = [] →
    Completes (.flush io) s fun t => Answers s t io.ctrl io.cid St.ok) ∧
  (∀ (s : State) (io : Io) (c : Ctrl) (n : Ns), TakesIo s io c n → n.type ≠ 2 → n.outside io.slba io.nlb = false → (n.type = 1 → crossesZone io.slba io.nlb = false) →
    Completes (.writeZeroes io) s fun t => Enters s t (CmdEnt.fresh io .writeZeroes .other c.host s.now (((partialRanges io.slba io.nlb).map (·.2)).sum * 4096))) ∧
  (∀ (s : State) (io : Io) (l : List (Nat × Nat)) (c : Ctrl) (n : Ns), TakesIo s io c n → n.type ≠ 2 → l.length ≤ 256 → (l.any fun r => decide (n.size < r.1 + r.2)) = false →
    Completes (.datasetManagement io true l) s fun t => Enters s t { CmdEnt.fresh io .deallocate .other c.host s.now 0 with ranges := l.filter fun r => r.2 != 0 }) ∧
  (∀ (s : State) (io : Io) (all : Bool) (c : Ctrl) (n : Ns), TakesIo s io c n → n.type = 1 → all = true ∨ io.slba % zoneLbas = 0 ∧ io.slba < n.size →
    Completes (.zoneClose io all) s (fun t => Enters s t { CmdEnt.fresh io .zoneClose .other c.host s.now 0 with selectAll := all }) ∧
    Completes (.zoneFinish io all) s (fun t => Enters s t { CmdEnt.fresh io .zoneFinish .other c.host s.now 0 with selectAll := all }) ∧
    Completes (.zoneOpen io all) s (fun t => Enters s t { CmdEnt.fresh io .zoneOpen .other c.host s.now 0 with selectAll := all }) ∧
    Completes (.zoneReset io all) s (fun t => Enters s t { CmdEnt.fresh io .zoneReset .other c.host s.now 0 with selectAll := all })) ∧
  (∀ (s : State) (io : Io) (option : Nat) (part : Bool) (c : Ctrl) (n : Ns), TakesIo s io c n → n.type = 1 → option ≤ 7 → io.slba < n.size →
    Completes (.zoneManagementReceive io option part) s fun t => Answers s t io.ctrl io.cid St.ok ∧
      Sends s t ⟨.data, io.ctrl :: io.cid :: s.zoneReport io.nsid (io.slba / zoneLbas) (ceilDiv n.size zoneLbas) option⟩) ∧
  (∀ (s : State) (seq : Nat) (e : CmdEnt) (n : Ns), s.inReset = false → s.entry seq = some e → e.kind = .read → e.admitted = false → e.discard = false → s.cfg.state = .active →
    s.mustWait seq e = false → s.nsOf e.io.nsid = some n → n.type ≠ 2 → s.lay.map = [] →
    Completes (.commandAdmit seq) s fun t => Answers s t e.io.ctrl e.io.cid St.ok ∧ t.entry seq = none) ∧
  (∀ (s : State) (seq va rkey len : Nat) (e : CmdEnt) (n : Ns), s.inReset = false → s.entry seq = some e → e.kind = .write → e.data = .keyed va rkey len → e.admitted = false →
    e.locked = true → s.cfg.state = .active → s.nsOf e.io.nsid = some n → n.type = 0 → s.writable e.io.nsid = true → s.cfg.frozenNs.contains e.io.nsid = false →
    (List.range 8).any s.roomIn = true → s.mustWait seq e = false → s.sch.inLevel ≠ 3 → s.writesHeld = false → (List.range 8).any s.appending = true →
    s.behind seq = false → s.cmd.inflight + e.length ≤ inflightCap → s.lay.map = [] → s.replicaQp e.io.nsid = none →
    Completes (.commandAdmit seq) s fun t => ((t.entry seq).map fun x => x.admitted) = some true ∧ t.cmd.inflight = s.cmd.inflight + e.length ∧ t.outbox = s.outbox) ∧
  (∀ (s : State) (seq : Nat) (e : CmdEnt), s.inReset = false → s.entry seq = some e → e.kind = .zoneOpen → e.admitted = false → e.discard = false → e.selectAll = false →
    s.cfg.state = .active → (s.zone e.io.nsid (e.io.slba / zoneLbas)).st = .empty → s.zonesOf e.io.nsid = [] →
    Completes (.commandAdmit seq) s fun t => Answers s t e.io.ctrl e.io.cid St.ok ∧ (t.zone e.io.nsid (e.io.slba / zoneLbas)).st = .explicitOpen)

/-- The commands of compression and decompression complete with their own effect (R363 to R369, R372, R377, R381). -/
def Obligations.CompressionCommands : Prop :=
  (∀ (s : State) (block n lane : Nat) (parityOk : Bool) (b : Blk) (o : BlkOwner) (key : KeySlot), tget s.win.blocks block = some b → s.takeable b = some (n, o) →
    s.laneOf n = some lane → (tget s.cph.current o.nsid).bind s.keyLoaded = some key → s.cipherUp = true → (s.alloc 0 s.chainClass 1).isSome = true → s.cph.sealing = true →
    Completes (.compressBlockStart block true parityOk) s fun t =>
      ((tget t.win.blocks block).map fun x => (x.place, x.keyId, x.chain.isSome)) = some (.lane n lane, key.keyId, true) ∧
      t.cph.invoc = s.cph.invoc + if parityOk then 1 else 2) ∧
  (∀ (s : State) (block n : Nat) (b : Blk) (o : BlkOwner) (parityOk : Bool), tget s.win.blocks block = some b → s.takeable b = some (n, o) → s.cph.sealing = false →
    Completes (.compressBlockStart block true parityOk) s fun t => t = s) ∧
  (∀ (s : State) (block n lane head : Nat) (b : Blk) (o : BlkOwner) (key : KeySlot), tget s.win.blocks block = some b → b.place = .lane n lane → b.owner = some o → b.chain = some head →
    s.keyLoaded b.keyId = some key →
    (s.allocMany 0 s.chainClass 1 (ceilDiv (compressBlock (s.dynamicFor o.nsid) (s.rd Reg.CMP_CFG_NO_GAIN) o.sectors (memReadList b.data 0 (o.sectors * 4096))).bytes.length (bufBytes s.chainClass) - 1)).isSome = true →
    Completes (.compressBlockDone block (crc32c (memReadList b.data 0 (o.sectors * 4096)))) s fun t =>
      ((tget t.win.blocks block).map fun x => (x.place, x.window, x.crc)) = some (.sealed, none, crc32c (memReadList b.data 0 (o.sectors * 4096)))) ∧
  (∀ (s : State) (block n lane crc : Nat) (b : Blk) (o : BlkOwner) (head : Nat) (key : KeySlot), tget s.win.blocks block = some b → b.place = .lane n lane → b.owner = some o → b.chain = some head →
    s.keyLoaded b.keyId = some key → crc ≠ crc32c (memReadList b.data 0 (o.sectors * 4096)) → lane < 48 →
    Completes (.compressBlockDone block crc) s fun t =>
      ((tget t.win.blocks block).map fun x => (x.place, x.chain)) = some (.staged n, none) ∧ bitOf (t.rd Reg.CMP_CLANE_FAULT) lane = true ∧ Raises s t Ev.compressionLaneFault lane 0) ∧
  (∀ (s : State) (block n : Nat) (b : Blk), tget s.win.blocks block = some b → b.place = .spilled ∨ b.place = .readback → b.window = none → b.owner.isSome = true ∨ 65536 ≤ b.filled →
    s.freeStaging = some n → Completes (.spillReadbackDone block) s fun t => tget t.win.blocks block = some { b with place := .staged n }) ∧
  (∀ (s : State) (job lane : Nat) (parityOk : Bool) (d : DecJob) (key : KeySlot), tget s.cmp.jobs job = some d → d.lane = none → s.keyLoaded d.keyId = some key →
    s.decodeLane d.firstLane = some lane → s.cipherUp = true →
    Completes (.decompressBlockStart job parityOk) s fun t => tget t.cmp.jobs job = some { d with lane := some lane }) ∧
  (∀ (s : State) (job lane j : Nat) (d : DecJob) (r : ReadJob) (e : CmdEnt) (key : KeySlot), tget s.cmp.jobs job = some d → d.lane = some lane → d.firstLane = none →
    s.keyLoaded d.keyId = some key → s.readOfDecode job = some (j, r) → r.use = .host → s.entry r.seq = some e → (r.decoding.filter (· != job)).isEmpty = false →
    Completes (.decompressBlockDone job none) s fun t => match d.decode key.key none with
      | .ok plain => t.entry r.seq = some (e.takeBlock r.extent d plain) ∧ tget t.cmp.jobs job = none
      | .error x => x ≠ 1 → tget t.cmp.jobs job = some { d with lane := none, firstLane := some lane } ∧ t.entry r.seq = some e) ∧
  (∀ s : State, s.inReset = false → Completes .cmpVerifyClear s fun t => t.deferred = s.deferred ++ [.cmpClear])

/-- The key and cipher commands complete with their own effect (R381, R384, R389, R390, R394, R395, R397, R398). -/
def Obligations.KeyCommands : Prop :=
  (∀ (s : State) (ctrl cid : Nat) (r : KeyRecord), Serves s ctrl (.mgmt (some RoleBit.keyOfficer)) → s.cfg.state = .active → s.keyCause r false = none →
    Completes (.keyLoad ctrl cid r) s fun t => match s.openRecord r with
      | .ok key => t.cph.loads = s.cph.loads ++ [⟨r, ctrl, cid, none, key⟩] ∧ t.lay.writes = s.lay.writes ++ [.keyRecord r.keyId] ∧ t.outbox = s.outbox
      | .error c => Answers s t ctrl cid St.invalidField ∧ Raises s t Ev.keyLoadFailed 0 c ∧ t.cph = s.cph) ∧
  (∀ (s : State) (ctrl cid c : Nat) (bound : Bool) (r : KeyRecord), Serves s ctrl (.mgmt (some RoleBit.keyOfficer)) → s.cfg.state = .active → s.keyCause r false = some (c, bound) →
    Completes (.keyLoad ctrl cid r) s fun t => Answers s t ctrl cid St.invalidField ∧ Raises s t Ev.keyLoadFailed 0 c ∧ t.cph = s.cph) ∧
  (∀ (s : State) (ctrl cid id i : Nat) (k : KeySlot), Serves s ctrl (.mgmt (some RoleBit.keyOfficer)) → s.cfg.state = .active → s.keySlot id = some (i, k) →
    Completes (.keyDestroy ctrl cid id) s fun t =>
      if k.refs = 0 ∧ (s.cph.current.any fun p => p.2 == id) = false then t.lay.writes = s.lay.writes ++ [.keyGone ctrl cid id] ∧ t.outbox = s.outbox
      else Answers s t ctrl cid St.denied ∧ t.lay = s.lay) ∧
  (∀ (s : State) (ctrl cid nsid id : Nat) (reseal : Bool), Serves s ctrl (.mgmt (some RoleBit.keyOfficer)) → s.cfg.state = .active → s.cph.reseal = none → s.activateBad nsid id reseal = false →
    Completes (.keyActivate ctrl cid nsid id reseal) s fun t =>
      t.deferred = s.deferred ++ [.keyCurrent nsid id reseal] ∧ t.lay.writes = s.lay.writes ++ [.current ctrl cid nsid id] ∧ t.outbox = s.outbox) ∧
  (∀ (s : State) (nsid total skipped : Nat), s.cph.reseal = some (nsid, [], total, skipped) → s.resealing = false →
    Completes .resealDone s fun t => t.cph.reseal = none ∧ t.rd Reg.CPH_RESEAL_PERCENT = 100 ∧ Raises s t Ev.reSealDone 0 0) ∧
  (∀ (s : State) (ctrl cid rkey offset length id mode iv : Nat) (decrypt : Bool) (k : KeySlot), Serves s ctrl (.mgmt (some RoleBit.keyOfficer)) → s.jobDenied ctrl rkey offset length id = false →
    s.keyLoaded id = some k → (s.window (keyIndex rkey)).buffer = true → length % 16 = 0 → length ≤ 16 * 2 ^ 20 → keyUsage id = 2 → mode < 3 →
    Completes (.cipherJob ctrl cid rkey offset length id mode decrypt iv) s fun t => Answers s t ctrl cid St.ok ∧
      t.dram = (s.windowPut (keyIndex rkey) offset (cipherMode mode decrypt k.key iv (s.windowBytes (keyIndex rkey) offset length))).dram) ∧
  (∀ (s : State) (reg : Nat), reg < 16 → s.inReset = false → s.cfg.state = .active → s.rd Reg.CPH_FBK_CTL_GO reg = 0 → s.refillable (s.rd Reg.CPH_FBK_ID reg) = none →
    s.keyCause ⟨leNat (ascii "LXKB"), 1, 2, 0, 0, s.rd Reg.CPH_FBK_ID reg, s.rd Reg.CPH_FBK_NS reg, 0⟩ true = none →
    Completes (.fallbackKeyLoad .endpoint reg) s fun t => t.rd Reg.CPH_FBK_CTL_GO reg = 1 ∧ t.rd Reg.CPH_FBK_KEY reg 0 = 0 ∧ t.rd Reg.CPH_FBK_KEY reg 7 = 0 ∧
      (t.cph.loads.map fun l => (l.record.keyId, l.fbk)) = (s.cph.loads.map fun l => (l.record.keyId, l.fbk)) ++ [(s.rd Reg.CPH_FBK_ID reg, some reg)] ∧
      t.lay.writes = s.lay.writes ++ [.keyRecord (s.rd Reg.CPH_FBK_ID reg)]) ∧
  (∀ (s : State) (w : Writer) (reg : Nat), reg < 16 → s.inReset = false → w ≠ .endpoint →
    Completes (.fallbackKeyLoad w reg) s fun t => t.rd Reg.CPH_FBK_CTL_RESULT reg = 7 ∧ t.cph = s.cph ∧ t.lay = s.lay) ∧
  (∀ (s : State) (w : Writer), s.inReset = false → w ≠ .endpoint →
    Completes (.keySlotRead w) s fun t => t.rd (Reg.CPH_SLOT_CTL_VALID.forWriter w) = 1 ∧ t.cph = s.cph ∧
      t.rd (Reg.CPH_SLOT_DATA.forWriter w) 0 0 = (s.slotWords (s.rd (Reg.CPH_SLOT_SEL.forWriter w))).getD 0 0 % 2 ^ 32 ∧
      t.rd (Reg.CPH_SLOT_DATA.forWriter w) 0 7 = 0) ∧
  (∀ s : State, s.cph.sealing = false → tgetD s.cph.epochs s.cfg.canister 0 < s.cph.epoch →
    Completes .ivEpochDurable s fun t => t.cph.sealing = true ∧ t.cph.invoc = 0 ∧ tgetD t.cph.epochs s.cfg.canister 0 = s.cph.epoch ∧ t.rd Reg.CPH_STATUS_SEALING = 1)

/-- The layout commands over versions and stripes complete with their own effect (R420 to R426, R430, R437). -/
def Obligations.LayoutCommands : Prop :=
  (∀ (s : State) (seq nsid extent g addr : Nat) (ecc : Bool) (y : Gathering) (l : List (Nat × SealedBlk)),
    (s.lay.gathering.find? fun y => y.seq == seq && y.nsid == nsid && y.extent == extent) = some y → y.again = none → y.reading = false → s.sealedOf y = some l → y.copied ≠ [] ∨ l ≠ [] →
    s.groupFor y = some g → s.placeAt g (storedLen ((y.copied ++ l.map (·.2)).foldl (fun l b => insertBlk b l) [])) = .ok addr →
    Completes (.versionPlace seq nsid extent ecc) s fun t => (t.extent nsid extent).mapped = true ∧ (t.extent nsid extent).group = g ∧ (t.extent nsid extent).addr = addr ∧
      (t.extent nsid extent).version = ((s.extent nsid extent).version + 1) % 2 ^ 32 ∧
      (t.extent nsid extent).storedLen = storedLen ((y.copied ++ l.map (·.2)).foldl (fun l b => insertBlk b l) [])) ∧
  (∀ (s : State) (seq nsid extent : Nat) (ecc : Bool) (y : Gathering), (s.lay.gathering.find? fun y => y.seq == seq && y.nsid == nsid && y.extent == extent) = some y →
    y.again = none → y.reading = true → Completes (.versionPlace seq nsid extent ecc) s fun t => t = s) ∧
  (∀ (s : State) (group row : Nat) (x : Stripe), s.stripe group row = some x → x.st = .opened → due x.hold s.gatherTurns s.clock = true → x.journalled < x.fill → 0 < s.jnl.credit →
    s.livePartial + (x.fill - x.journalled) ≤ s.rd Reg.JNL_CFG_LIVE_CAP * 2 ^ 20 →
    Completes (.gatherHoldExpiry group row) s fun t => ((t.stripe group row).map fun x => (x.journalled, x.hold)) = some (x.fill, some s.clock) ∧ s.jnl.seq < t.jnl.seq) ∧
  (∀ (s : State) (group row : Nat) (x : Stripe), s.stripe group row = some x → x.st = .opened → expired x.first (s.rd Reg.LAY_CLOSE_HOLD) s.clock = true →
    Completes (.closeHoldExpiry group row) s fun t => ((t.stripe group row).map fun x => x.st == .opened) = some false) ∧
  (∀ (s : State) (seq nsid extent : Nat) (y : Gathering) (x : Stripe), (s.lay.gathering.find? fun y => y.seq == seq && y.nsid == nsid && y.extent == extent) = some y →
    due y.slotWait 16 s.clock = true → s.oldestStripe = some x → s.stripe x.group x.row = some x →
    Completes (.paritySlotWaitTimeout seq nsid extent) s fun t => ((t.stripe x.group x.row).map fun x => x.st == .opened) = some false) ∧
  (∀ (s : State) (group row p : Nat) (x : Stripe), (s.grp group).tally = false → s.stripe group row = some x → x.outstanding.contains p = true → x.st = .writing → x.intent = none →
    x.okWrites + 1 < x.k + 1 → x.k + 1 ≤ x.okWrites + (x.outstanding.filter (· != p)).length + 1 →
    Completes (.stripeWriteDone group row p true) s fun t =>
      ((t.stripe group row).map fun x => (x.okWrites, x.outstanding)) = some (x.okWrites + 1, x.outstanding.filter (· != p))) ∧
  (∀ (s : State) (job : Nat) (rows : List RowRead) (r : ReadJob) (blocks : List SealedBlk), tget s.lay.reads job = some r → r.waiting = false → r.decoding = [] → r.use = .host →
    (s.grp r.ent.group).tally = false → r.ent.lostMask = 0 → s.missingUnits r.ent rows r.erased = [] → 32 + 48 * popCount r.ent.blockMask ≤ r.ent.storedLen → s.rangeFate r rows 0 r.ent.storedLen = 0 →
    parseVersion ((List.range r.ent.storedLen).map fun i => (s.dataByte r.ent.group (s.unitRow r.ent.group ((r.ent.addr + i) / 65536)).1 (s.unitRow r.ent.group ((r.ent.addr + i) / 65536)).2.2 ((r.ent.addr + i) % 65536) rows r.erased (r.stage == 2)).getD 0)
      r.nsid r.extent r.ent.version = some blocks → (blocks.any fun b => bitOf r.want b.index) = true →
    Completes (.memberReadDone job rows) s fun t =>
      ((tget t.lay.reads job).map fun x => x.decoding) = some ((List.range (blocks.filter fun b => bitOf r.want b.index).length).map (· + s.cmp.nextJob))) ∧
  (∀ (s : State) (group : Nat), group < 8 → s.needsCompaction group = true → s.serving = true → (s.grp group).compacting = none →
    Completes (.compactionStart group) s fun t => (t.grp group).compacting = some (s.grp group).tailSeg)

/-- The commands of the power sets and of the metadata stream complete with their own effect (R433 to R436, R442 to R444). -/
def Obligations.SetAndStreamCommands : Prop :=
  (∀ (s : State) (set : Nat), set < 8 → (s.pset set).st = .powering → due (s.pset set).armed (turnsOfSec (2 * s.rd Reg.LAY_CFG_READY_TIMEOUT)) s.clock = true →
    Completes (.setReadyTimeout set) s fun t => (t.pset set).st = .on ∧ (t.pset set).armed = none ∧ Raises s t Ev.setPower set 2) ∧
  (∀ (s : State) (set : Nat), set < 8 → (s.pset set).st = .on → (s.layoutSec.map (·.idleOff)).getD 10 ≠ 0 → s.setBusy set = false → s.serving = true →
    expired (s.pset set).lastUse (turnsOfSec (60 * (s.layoutSec.map (·.idleOff)).getD 10)) s.clock = true →
    Completes (.setIdleTimeout set) s fun t => t = s.defer (.setStop set SetCause.idle)) ∧
  (∀ (s : State) (w : Writer) (set : Nat), set < 8 → set < s.lay.sets.length → s.inReset = false → s.cfg.state = .active → s.setDefined set = true → (s.pset set).st = .off →
    Completes (.setPowerOnRequest w set) s fun t => (t.pset set).st = .powering ∧ (t.pset set).cause = SetCause.management ∧ t.rd Reg.LAY_SET_CTL_RESULT = 1) ∧
  (∀ (s : State) (w : Writer) (set : Nat), set < 8 → s.inReset = false → s.cfg.state = .active → s.setDefined set = true → (s.pset set).st = .on →
    Completes (.setStopRequest w set) s fun t => t.rd Reg.LAY_SET_CTL_RESULT = (if s.setHeld set then 3 else 1) ∧
      t.deferred = s.deferred ++ if s.setHeld set then [] else [.setStop set SetCause.management]) ∧
  (∀ (s : State) (set : Nat), set < 8 → (s.pset set).st = .stopping → (s.pset set).step = 2 → s.stopDrained set = true →
    Completes (.setStopWritesDone set) s fun t => (t.pset set).step = 3 ∧ t.deferred = s.deferred ++ [.setShutdown set]) ∧
  (∀ s : State, s.serving = true → s.lay.lastBatch + 64 ≤ s.clock →
    Completes .deltaBatchWrite s fun t => t.lay.deltas = [] ∧ t.lay.writes = s.lay.writes ++ [.batch s.lay.deltas s.trailerNow] ∧
      Sent s t [⟨.store, [2, s.lay.deltas.length, s.lay.batches + 1]⟩] ∧ t.lay.map = s.lay.map) ∧
  (∀ s : State, s.serving = true → s.lay.ckptRun = none → s.lay.fence = none → 512 * 2 ^ 20 ≤ s.lay.logSince →
    Completes .checkpointStart s fun t => t.lay.ckptRun = some (s.now, s.lay.logPos) ∧ t.lay.logSince = 0 ∧ t.rd Reg.LAY_CKPT_BUSY = 1) ∧
  (∀ (s : State) (turn pos : Nat), s.lay.ckptRun = some (turn, pos) →
    Completes .checkpointDone s fun t => t.lay.ckptRun = none ∧ t.lay.ckptDone = some (((s.lay.ckptDone.map fun x => 1 - x.1).getD 0), turn, pos) ∧ t.rd Reg.LAY_CKPT_BUSY = 0 ∧ t.rd Reg.LAY_CKPT_PERCENT = 100) ∧
  (∀ (s : State) (r : MdRecord) (rest : List MdWrite), s.lay.writes = .record r :: rest → Completes .metadataWriteDone s fun t => t.lay.writes = rest ∧ t.fov.mirror = s.fov.mirror + 1) ∧
  (∀ (s : State) (ctrl cid nsid id : Nat) (rest : List MdWrite), s.lay.writes = .current ctrl cid nsid id :: rest ∨ s.lay.writes = .keyGone ctrl cid id :: rest →
    Completes .metadataWriteDone s fun t => t.lay.writes = rest ∧ Answers s t ctrl cid St.ok)

/-- The journal and Axolotl commands complete with their own effect (R451, R460, R473, R475, R490, R494, R502, R504, R505, R509). -/
def Obligations.JournalAndRebuildCommands : Prop :=
  (∀ (s : State) (role index : Nat) (w : JWrite), role < 3 → role < s.jnl.roles.length → (s.role role).writes[index]? = some w → w.done = false →
    Completes (.journalWriteDone role index true) s fun t =>
      (t.role role).commit = (commitPrefix (lmod (s.role role).writes index fun w => { w with done := true }) (s.role role).commit).2) ∧
  (∀ (s : State) (role index : Nat) (w : JWrite), role < 3 → (s.role role).writes[index]? = some w → w.done = false → s.roleOfSlot (s.role role).slot = some role → (s.role role).st = .active →
    Completes (.journalWriteDone role index false) s fun t => .roleFailed role ∈ t.deferred ∧ (t.role role).commit = (s.role role).commit) ∧
  (∀ (s : State) (role : Nat), role < 3 → (s.role role).st = .seeding → due (s.role role).promotedAt 2048 s.clock = true →
    Completes (.anchorReseedTimeout role) s fun t => Raises s t Ev.anchorLate role 0 ∧ (t.role role).promotedAt = none ∧ (t.role role).st = .seeding) ∧
  (∀ (s : State) (start kind : Nat) (rings : List RingRead) (scan : List ScanRead), s.jnl.replay = some (start, kind) → kind ≠ 2 →
    Completes (.replayDone rings scan) s fun t => t.jnl.replay = none ∧ t.jnl.product = some (s.replayRings rings scan).2 ∧ t.lay.map = (s.replayRings rings scan).1.lay.map ∧
      t.fov.built = true ∧ t.rd Reg.JNL_REPLAY_KIND = kind % 4) ∧
  (∀ (s : State) (slot g p turn : Nat) (a : Bool), slot < 24 → s.posOfSlot slot = some (g, p) → (s.pos g p).absentAt = some (turn, a) → (s.pos g p).st = .absent → turn + s.resyncWindow ≤ s.now →
    Completes (.resyncWindowExpiry slot) s fun t => t = s.defer (.posTo g p PosState.failed.code)) ∧
  (∀ (s : State) (g row : Nat) (w : Walk), g < 10 → tget s.axl.walks g = some w → w.issued = false → w.paused = false → s.cfg.state = .active → s.nextWalkRow g w.row = some row →
    (s.grp g).tally = false → (s.pset (s.grp g).set).st = .on → 0 < s.axl.rbCredit →
    Completes (.walkRowIssue g false) s fun t => tget t.axl.walks g = some { w with row := row, issued := true }) ∧
  (∀ (s : State) (g : Nat) (w : Walk) (rows : List RowRead), g < 10 → tget s.axl.walks g = some w → w.issued = true → (s.grp g).tally = false →
    (List.range 16).all (fun c => s.colFate g w.row c rows == 0) = true →
    Completes (.walkRowDone g false rows) s fun t => ∀ p ∈ s.todo g w.row, (t.pos g p).pending = runsRemove (s.pos g p).pending w.row) ∧
  (∀ (s : State) (ctrl cid g newK : Nat), Serves s ctrl (.mgmt (some RoleBit.admin)) → s.cfg.state = .active → s.reshapeRefusal g newK = none →
    Completes (.reshapeStart ctrl cid g newK) s fun t => Answers s t ctrl cid St.ok ∧ (t.axl.reshape.map fun r => (r.group, r.oldK, r.newK)) = some (g, (s.grp g).k, newK)) ∧
  (∀ (s : State) (r : Reshape), s.axl.reshape = some r → r.st = .moving → r.batch = r.boundary → s.lay.reads = [] → s.lay.stripes = [] → s.deferred = [] → s.cfg.state = .active → 0 < s.axl.rsCredit →
    Completes .reshapeBatchDone s fun t => t.deferred = [.boundaryMove r.group (s.nextBoundary r)] ∧ t.axl.reshape = some r) ∧
  (∀ (s : State) (ctrl cid : Nat) (r : Reshape), Serves s ctrl (.mgmt (some RoleBit.admin)) → s.cfg.state = .active → s.axl.reshape = some r →
    Completes (.reshapeCancel ctrl cid) s fun t => if r.st = .preparing then Answers s t ctrl cid St.ok ∧ t.axl.reshape = none else Answers s t ctrl cid St.interrupted ∧ t.axl = s.axl) ∧
  (∀ (s : State) (ctrl cid slot g p : Nat), Serves s ctrl (.mgmt (some RoleBit.admin)) → s.cfg.state = .active → s.posOfSlot slot = some (g, p) →
    ((List.range (s.grp g).width).any fun q => q != p && (s.pos g q).st != .online) = false →
    Completes (.memberFail ctrl cid slot) s fun t => Answers s t ctrl cid St.ok ∧ t.deferred = s.deferred ++ [.posTo g p PosState.failed.code, .drvTo slot 5 Refuse.failed])

/-- The drive commands complete with their own effect (R510 to R530). -/
def Obligations.DriveCommands : Prop :=
  (∀ (s : State) (slot : Nat), slot < 24 → (s.chan slot).pg = true → due (s.slot slot).perstArmed (turnsOfMs 100) s.clock = true → (s.slot slot).st = .powering →
    Completes (.drivePerstRelease slot) s fun t => (t.slot slot).perst = false ∧ (t.slot slot).linkArmed = some s.clock ∧ t.deferred = s.deferred ++ [.drvTo slot 2 0]) ∧
  (∀ (s : State) (slot code capTo : Nat), slot < 24 → (s.slot slot).perst = false → (s.slot slot).link = 0 → (s.slot slot).st = .training →
    Completes (.driveLinkUp slot code capTo) s fun t => (t.slot slot).link = code ∧ (t.slot slot).capTo = capTo ∧
      t.deferred = s.deferred ++ [if s.rd Reg.DRV_CFG_LINK_MIN < code then .drvTo slot 5 Refuse.slowLink else .drvTo slot 3 1]) ∧
  (∀ (s : State) (slot : Nat), slot < 24 → (s.slot slot).st = .training → (s.slot slot).link = 0 → due (s.slot slot).linkArmed (turnsOfSec 1) s.clock = true →
    Completes (.driveLinkTimeout slot) s fun t =>
      if 2 ≤ (s.slot slot).attempts then t.deferred = s.deferred ++ [.drvTo slot 5 Refuse.noLink]
      else (t.slot slot).perst = true ∧ (t.slot slot).attempts = (s.slot slot).attempts + 1 ∧ (t.slot slot).retryArmed = some s.clock ∧ t.deferred = s.deferred) ∧
  (∀ (s : State) (slot : Nat), slot < 24 → (s.slot slot).st = .training → due (s.slot slot).retryArmed (turnsOfMs 10) s.clock = true →
    Completes (.drivePerstRetryExpiry slot) s fun t => (t.slot slot).perst = false ∧ (t.slot slot).retryArmed = none ∧ (t.slot slot).linkArmed = some s.clock) ∧
  (∀ (s : State) (slot : Nat), slot < 24 → (s.slot slot).link ≠ 0 → (s.slot slot).st = .setup → (s.slot slot).setup = 1 → Completes (.driveSetupStepDone slot .ready) s fun t => (t.slot slot).setup = 2 ∧ Sent s t [⟨.drive, [slot, 13, 2]⟩]) ∧
  (∀ (s : State) (slot capacity : Nat), slot < 24 → (s.slot slot).link ≠ 0 → (s.slot slot).st = .setup → (s.slot slot).setup = 3 → Completes (.driveSetupStepDone slot (.namespaceOne true capacity)) s fun t => (t.slot slot).setup = 4 ∧ (t.slot slot).capacity = capacity) ∧
  (∀ (s : State) (slot : Nat), slot < 24 → (s.slot slot).link ≠ 0 → (s.slot slot).st = .setup → (s.slot slot).setup = 5 → Completes (.driveSetupStepDone slot (.writeCache true)) s fun t => t.deferred = s.deferred ++ [.drvTo slot 5 Refuse.vwc]) ∧
  (∀ (s : State) (slot : Nat), slot < 24 → (s.slot slot).link ≠ 0 → (s.slot slot).st = .setup → (s.slot slot).setup = 6 → Completes (.driveSetupStepDone slot (.queues true)) s fun t => (t.slot slot).setup = 7 ∧ (t.slot slot).ioQueues = true) ∧
  (∀ (s : State) (slot : Nat), slot < 24 → (s.slot slot).st = .setup → (s.slot slot).setup = 14 → Completes (.driveFormatDone slot true) s fun t => (t.slot slot).setup = 3) ∧
  (∀ (s : State) (slot : Nat), slot < 24 → (s.slot slot).st = .setup → (s.slot slot).setup = 1 → due (s.slot slot).setupArmed (s.stepBound slot 2) s.clock = true →
    Completes (.driveReadyTimeout slot) s fun t => t = s.drvTo slot 5 Refuse.notReady) ∧
  (∀ (s : State) (slot : Nat), slot < 24 → (s.slot slot).st = .ready → (s.slot slot).entries = [] → s.serving = true → s.rd Reg.DRV_SLOT_PCIE_ERR slot < 2 ^ 32 →
    Completes (.driveInboundViolation slot) s (fun t => t.deferred = s.deferred ++ [.drvTo slot 6 2] ∧ s.rd Reg.DRV_SLOT_PCIE_ERR slot / 65536 ≤ t.rd Reg.DRV_SLOT_PCIE_ERR slot / 65536) ∧
    Completes (.driveBadTlp slot) s (fun t => t.deferred = s.deferred ++ [.drvTo slot 6 2] ∧ s.rd Reg.DRV_SLOT_PCIE_ERR slot / 65536 ≤ t.rd Reg.DRV_SLOT_PCIE_ERR slot / 65536) ∧
    Completes (.driveCompletionTimeout slot) s (fun t => t.deferred = s.deferred ++ [.drvTo slot 6 2] ∧ s.rd Reg.DRV_SLOT_PCIE_ERR slot / 65536 ≤ t.rd Reg.DRV_SLOT_PCIE_ERR slot / 65536) ∧
    Completes (.memberCommandTimeout slot .read) s (fun t => t.deferred = s.deferred ++ [.drvTo slot 6 1] ∧ Sent s t [⟨.drive, [slot, 14, 0]⟩] ∧ t.rd Reg.DRV_SLOT_TIMEOUTS slot = min (2 ^ 32 - 1) (s.rd Reg.DRV_SLOT_TIMEOUTS slot + 1)) ∧
    Completes (.cstsPoll slot true) s (fun t => t.deferred = s.deferred ++ [.drvTo slot 6 2])) ∧
  (∀ (s : State) (slot : Nat), slot < 24 → (s.slot slot).link ≠ 0 → (s.chan slot).present = true → Completes (.driveLinkDown slot) s fun t => (t.slot slot).link = 0) ∧
  (∀ (s : State) (slot warn temp : Nat) (crossed : Bool), slot < 24 → (s.slot slot).st = .ready →
    Completes (.smartPoll slot warn temp crossed) s (fun t => (t.slot slot).critWarn = warn ∧ (t.slot slot).temp = temp) ∧
    Completes (.driveAsyncEvent slot warn crossed) s (fun t => (t.slot slot).critWarn = warn ∧ (t.slot slot).temp = (s.slot slot).temp)) ∧
  (∀ (s : State) (ctrl cid slot : Nat), Serves s ctrl (.mgmt (some RoleBit.admin)) →
    Completes (.driveRelease ctrl cid slot) s fun t =>
      if (s.slot slot).st = .refused ∧ (s.slot slot).reason = Refuse.foreign then Answers s t ctrl cid St.ok ∧ (t.slot slot).released = true ∧ t.deferred = s.deferred ++ [.drvTo slot 3 7]
      else Answers s t ctrl cid St.invalidField ∧ t.drv = s.drv) ∧
  (∀ (s : State) (slot : Nat), slot < 24 → (s.slot slot).st = .ladder → 1 ≤ (s.slot slot).step → (s.slot slot).step ≤ 3 →
    Completes (.memberAbortDone slot) s (fun t => t = if (s.slot slot).step = 1 then s.drvTo slot 4 0 else s) ∧
    Completes (.ladderStepTimeout slot) s (fun t => t = if due (s.slot slot).stepArmed (s.stepBound slot (s.slot slot).step) s.clock then s.drvTo slot 6 ((s.slot slot).step + 1) else s))

/-- The commands of a slot channel complete with their own effect (R539 to R555). -/
def Obligations.SlotChannelCommands : Prop :=
  (∀ (s : State) (slot : Nat), s.slotOn slot = true → slot < s.pwr.slots.length → (s.chan slot).st = .empty →
    Completes (.slotPresentDebounced slot) s fun t => (t.chan slot).st = .inserting ∧ (t.chan slot).present = true ∧ (t.chan slot).insertArmed = some s.clock) ∧
  (∀ (s : State) (slot : Nat), s.slotOn slot = true → (s.chan slot).st ≠ .empty →
    Completes (.slotRemoved slot) s fun t => (t.chan slot).st = .empty ∧ (t.chan slot).present = false ∧ (t.chan slot).retries = 0 ∧ (t.chan slot).pg = false ∧ .drvTo slot 0 0 ∈ t.deferred) ∧
  (∀ (s : State) (slot : Nat), s.slotOn slot = true → (s.chan slot).st = .inserting → due (s.chan slot).insertArmed s.insertTurns s.clock = true →
    Completes (.insertDelayExpiry slot) s fun t => (t.chan slot).st = (if (s.chan slot).demand then .waitInput else .idle) ∧
      t.deferred = s.deferred ++ [.drvTo slot (if (s.chan slot).demand then 1 else 7) 0]) ∧
  (∀ (s : State) (slot : Nat), s.slotOn slot = true → s.mayStart slot = true → s.startingCount < s.rd Reg.PWR_CFG_STAGGER → ((List.range slot).any fun i => s.mayStart i) = false →
    Completes (.slotChannelStart slot) s fun t => (t.chan slot).st = .starting ∧ (t.chan slot).smp.qualified = 0) ∧
  (∀ (s : State) (slot : Nat), s.slotOn slot = true → (s.chan slot).st = .starting → 14 ≤ (s.chan slot).smp.qualified → (s.chan slot).demand = true →
    Completes (.slotPowerGood slot) s fun t => (t.chan slot).st = .on ∧ (t.chan slot).pg = true ∧ (t.slot slot).perst = true ∧ Raises s t Ev.slotPower slot 5) ∧
  (∀ (s : State) (ch : Nat), ch < 24 → s.slotOn ch = true → (s.chan ch).st = .starting ∨ (s.chan ch).st = .on →
    (Completes (.efuseTrip ch) s fun t => (t.chan ch).st = .fault ∧ (t.chan ch).cause = 2 ∧ (t.chan ch).retries = (s.chan ch).retries + 1 ∧ Raises s t Ev.slotFault ch 2)) ∧
  (∀ (s : State) (ch : Nat), ch < 24 → s.slotOn ch = true → (s.chan ch).st = .starting ∨ (s.chan ch).st = .on → s.faultSamples ≤ (s.chan ch).smp.faultCount + 2 →
    Completes (.faultTimerExpiry ch) s fun t => (t.chan ch).st = .fault ∧ (t.chan ch).cause = 1 ∧ (t.chan ch).pg = false ∧ Raises s t Ev.slotFault ch 1) ∧
  (∀ (s : State) (slot : Nat), s.slotOn slot = true → (s.chan slot).st = .on → (s.chan slot).pg = true → (s.chan slot).brownArmed = none →
    (Completes (.slotOutputUv slot) s fun t => (t.chan slot).st = .fault ∧ (t.chan slot).cause = 3 ∧ Raises s t Ev.slotFault slot 3)) ∧
  (∀ (s : State) (slot : Nat) (excess : Bool), s.slotOn slot = true → (s.chan slot).st = .starting → (s.chan slot).demand = true →
    Completes (.slotInputOutOfWindow slot excess) s fun t => (t.chan slot).st = .waitInput ∧ (t.chan slot).cause = (if excess then 4 else 5)) ∧
  (∀ (s : State) (slot : Nat), s.slotOn slot = true → (s.chan slot).st = .on → (s.chan slot).brownArmed = none →
    Completes (.brownoutHoldStart slot) s fun t => (t.chan slot).brownArmed = some s.clock ∧ (t.chan slot).st = .on) ∧
  (∀ (s : State) (slot : Nat) (below : Bool), s.slotOn slot = true → (s.chan slot).st = .on → (s.chan slot).demand = true → due (s.chan slot).brownArmed (turnsOfMs (s.rd Reg.PWR_CFG_BROWNOUT_HOLD)) s.clock = true →
    Completes (.brownoutHoldExpiry slot below) s fun t => (t.chan slot).brownArmed = none ∧ (t.chan slot).st = (if below then .waitInput else .on)) ∧
  (∀ (s : State) (ch : Nat), ch < 24 → s.slotOn ch = true → (s.chan ch).st = .fault → (s.chan ch).damaged = false → (s.chan ch).retries ≤ s.rd Reg.PWR_CFG_MAX_RETRY → due (s.chan ch).retryArmed s.retryTurns s.clock = true →
    Completes (.retryDelayExpiry ch) s fun t => (t.chan ch).st = (if (s.chan ch).demand then .waitInput else .idle) ∧ (t.chan ch).retryArmed = none) ∧
  (∀ (s : State) (ch : Nat), ch < 24 → s.slotOn ch = true → (s.chan ch).pg = true → due (s.chan ch).goodArmed s.retryTurns s.clock = true →
    Completes (.retryCountClearExpiry ch) s fun t => (t.chan ch).retries = 0 ∧ (t.chan ch).goodArmed = none ∧ (t.chan ch).st = (s.chan ch).st) ∧
  (∀ (s : State) (w : Writer) (slot : Nat), s.slotOn slot = true → s.inReset = false → w ≠ .endpoint → (s.chan slot).st = .fault → (s.chan slot).damaged = false →
    Completes (.slotClear w slot) s fun t => (t.chan slot).retries = 0 ∧ .slotIdle slot ∈ t.deferred) ∧
  (∀ (s : State) (slot : Nat), s.slotOn slot = true → s.inReset = false → (s.chan slot).present = true → (s.chan slot).demand = true → (s.chan slot).cycleArmed = none →
    Completes (.slotCycle .core slot) s fun t => (t.chan slot).demand = false ∧ (t.chan slot).cycleArmed = some s.clock) ∧
  (∀ (s : State) (slot : Nat), s.slotOn slot = true → due (s.chan slot).cycleArmed 488282 s.clock = true → Completes (.slotCycleExpiry slot) s fun t => (t.chan slot).cycleArmed = none) ∧
  (∀ (s : State) (w : Writer) (slot : Nat), s.slotOn slot = true → s.inReset = false → w ≠ .endpoint → Completes (.slotPeakClear w slot) s fun t => t = s.defer (.peakClear slot)) ∧
  (∀ (s : State) (slot : Nat), s.slotOn slot = true → (s.slot slot).st ≠ .ladder → (s.chan slot).st = .stopping → (s.chan slot).stopArmed.isSome = true → (s.chan slot).ackArmed = none →
    s.serving = true → s.peerLink = true → Completes (.slotShutdownDone slot) s fun t => (t.chan slot).ackArmed = some s.clock ∧ (t.chan slot).st = .stopping) ∧
  (∀ (s : State) (slot : Nat), s.slotOn slot = true → (s.chan slot).st = .stopping → due (s.chan slot).ackArmed (turnsOfSec 2) s.clock = true →
    Completes (.slotStopAckTimeout slot) s fun t => (t.chan slot).st = .idle ∧ (t.chan slot).pg = false) ∧
  (∀ (s : State) (slot : Nat), s.slotOn slot = true → due (s.chan slot).heldArmed 977 s.clock = true →
    Completes (.slotHeldCheck slot true) s fun t => (t.chan slot).heldArmed = none ∧ Raises s t Ev.slotHeld slot 0) ∧
  (∀ (s : State) (slot current : Nat), s.slotOn slot = true → due (s.chan slot).clearArmed 977 s.clock = true →
    Completes (.slotDischargeCheck slot true current) s fun t => (t.chan slot).clearArmed = none ∧
      if 100 < current then (t.chan slot).damaged = true ∧ (t.chan slot).cause = 6 ∧ Raises s t Ev.fetDamaged slot 6 else Raises s t Ev.slotVoltageUnexplained slot 0)

/-- The commands of the feeds and of the supply warning complete with their own effect (R541, R545, R557 to R563). -/
def Obligations.FeedCommands : Prop :=
  (∀ (s : State) (f : Nat), f < 2 → f < s.pwr.feeds.length → (s.feed f).st = .absent →
    Completes (.feedPresentDebounced f) s fun t => (t.feed f).st = .waiting ∧ (t.feed f).present = true ∧ (t.feed f).insertArmed = some s.clock) ∧
  (∀ (s : State) (f : Nat), f < 2 → (s.feed f).st = .waiting → s.pwrDue (s.feed f).insertArmed s.insertTurns = true → (s.feed f).first = true →
    Completes (.feedInsertDelayExpiry f) s fun t => ((t.feed f).st = .available ∨ (t.feed f).st = .starting) ∧ (t.feed f).first = false) ∧
  (∀ (s : State) (f : Nat), f < 2 → (s.feed f).st = .waiting → (s.feed f).insertArmed = none → s.pwrDue (s.feed f).windowArmed (turnsOfMs (100 * s.rd Reg.PWR_CFG_RETURN_HOLD)) = true →
    Completes (.feedReturnHoldExpiry f) s fun t => ((t.feed f).st = .available ∨ (t.feed f).st = .starting) ∧ (t.feed f).first = false) ∧
  (∀ (s : State) (f : Nat) (lost : Bool), s.selected = some f →
    Completes (.feedFailureTransfer lost) s fun t => (t.feed f).st = (if lost then .absent else .waiting) ∧ t.pwr.dead = true ∧ t.pwr.transfer = some false ∧ t.pwr.warn = true ∧ Raises s t Ev.feedTransfer f 0) ∧
  (∀ (s : State) (f : Nat), s.pwr.dead = true → s.startingFeed = none → s.selected = none → s.pickFeed = some f →
    Completes .feedDeadTimeExpiry s fun t => (t.feed f).st = .starting ∧ t.pwr.dead = false) ∧
  (∀ (s : State) (f : Nat), f < 2 → (s.feed f).st = .starting → 14 ≤ (s.feed f).smp.qualified → (s.feed (1 - f)).st ≠ .available → (s.feed (1 - f)).st ≠ .selected →
    Completes (.feedPowerGood f) s fun t => (t.feed f).st = .selected ∧ (t.feed f).pg = true ∧ t.pwr.transfer = none) ∧
  (∀ s : State, s.warnCause = true → s.pwr.warn = false → Completes .supplyWarningAssert s fun t => t.pwr.warn = true ∧ Sends s t ⟨.pin, [1, 1]⟩ ∧ Raises s t Ev.supplyWarning 0 1) ∧
  (∀ s : State, s.pwr.warn = true → s.selected.isSome = true → s.pwrDue s.pwr.warnArmed 4883 = true →
    Completes .supplyWarningRelease s fun t => t.pwr.warn = false ∧ Sent s t [⟨.pin, [1, 0]⟩] ∧ Raises s t Ev.supplyWarning 0 0) ∧
  (∀ (s : State) (f : Nat), f < 2 → (s.feed f).st = .available → Completes (.feedInputOutOfWindow f) s fun t => (t.feed f).st = .waiting ∧ (t.feed f).windowArmed = some s.clock) ∧
  (∀ (s : State) (f : Nat), f < 2 → (s.feed f).st ≠ .absent → (s.feed f).st ≠ .selected → Completes (.feedRemoved f) s fun t => (t.feed f).st = .absent ∧ (t.feed f).present = false ∧ (t.feed f).retries = 0)

/-- The commands of the Pawn as a canister holds it complete with their own effect (R463, R571 to R576, R584, R588, R598). -/
def Obligations.PawnLeaseCommands : Prop :=
  (∀ (s : State) (w : Nat) (m : PawnMsg), pawnFits m Pawn.challenge (s.connOf (.witness w)).1 (s.connOf (.witness w)).2 = true → w < s.witnessCount → (s.wit w).st ≠ .down →
    Completes (.pawnChallengeRx (.witness w) m) s fun t => (t.outbox.drop s.outbox.length).map (fun o => (o.kind, o.args.take 2)) = [(.pawn, [w, Pawn.proof])] ∧ s.outbox <+: t.outbox) ∧
  (∀ (s : State) (sh c : Nat) (m : PawnMsg) (x : Served), pawnFits m Pawn.challenge sh c = true → s.witnesses = true → tget s.fov.served sh = some x → tget x.conns c = none →
    Completes (.pawnChallengeRx (.client sh c) m) s fun t => ((tget t.fov.served sh).bind fun y => (tget y.conns c).map fun z => z.2) = some (some s.clock, false)) ∧
  (∀ (s : State) (w sig : Nat) (m : PawnMsg) (c : WitnessCfg), pawnFits m Pawn.proof (s.connOf (.witness w)).1 (s.connOf (.witness w)).2 = true → s.witCfg w = some c → (s.wit w).st = .proving → c.kind = 1 →
    Completes (.pawnProofRx (.witness w) m (.signature sig)) s fun t =>
      match Config.edVerify c.pub (witMessage (s.wit w).nonce (s.connOf (.witness w)).1 (s.connOf (.witness w)).2) sig with
      | true => (t.wit w).st = .ready ∧ (t.wit w).proofArmed = none
      | false => (t.wit w).st = .down ∧ (t.wit w).retryArmed = some s.clock ∧ Raises s t Ev.witnessAuthFailed w 0) ∧
  (∀ (s : State) (w : Nat), (s.wit w).st = .proving → due (s.wit w).proofArmed (2 ^ 20) s.clock = true →
    Completes (.witnessProofTimeout (.witness w)) s fun t => (t.wit w).st = .down ∧ (t.wit w).retryArmed = some s.clock ∧ Raises s t Ev.witnessAuthFailed w 0) ∧
  (∀ (s : State) (w : Nat) (c : WitnessCfg), w < 4 → (s.wit w).st = .down → due (s.wit w).retryArmed (2 ^ 22) s.clock = true → s.witCfg w = some c → s.fedQp c.addr c.subPort = none →
    Completes (.witnessRetryExpiry w) s fun t => (t.wit w).st = .connecting ∧ (t.wit w).retryArmed = none) ∧
  (∀ (s : State) (w : Nat), w < 4 → (s.wit w).st ≠ .down →
    Completes (.witnessConnectionLost w) s fun t => (t.wit w).st = .down ∧ (t.wit w).expiry = (s.wit w).expiry ∧ (t.wit w).cutoff = (s.wit w).cutoff ∧ Raises s t Ev.witnessLost w 0) ∧
  (∀ (s : State) (w q sent : Nat) (m : PawnMsg), w < 4 → ((s.wit w).reqs.find? fun r => r.1 == m.reqSeq) = some (q, sent) → (s.wit w).st = .ready →
    pawnFits m Pawn.grant (s.connOf (.witness w)).1 (s.connOf (.witness w)).2 = true →
    Completes (.pawnGrantRx w m) s fun t => (t.wit w).cutoff = max (s.wit w).cutoff (sent + cutoffTurns) ∧ (t.wit w).expiry = max (s.wit w).expiry (sent + leaseTurns) ∧ (t.wit w).lease = m.leaseId) ∧
  (∀ (s : State) (w : Nat) (m : PawnMsg), w < 4 → (s.wit w).st = .ready → pawnFits m Pawn.deny (s.connOf (.witness w)).1 (s.connOf (.witness w)).2 = true → ((s.wit w).reqs.any fun r => r.1 == m.reqSeq) = true →
    Completes (.pawnDenyRx w m) s fun t => (t.wit w).denied = some (s.clock, turnsOfMs m.waitMs) ∧ t.outbox = s.outbox) ∧
  (∀ (s : State) (w a n : Nat), w < 4 → (s.wit w).denied = some (a, n) → expired a n s.clock = true → s.fov.requesting.isSome = true → (s.wit w).st = .ready →
    Completes (.denyWaitExpiry w) s fun t => (t.wit w).denied = none ∧ (t.wit w).waiting = some (s.fov.reqSeq + 1)) ∧
  (∀ (s : State) (a w : Nat), s.fov.renewArmed = some a → s.fov.holder = true → a + renewTurns ≤ s.clock → w < s.witnessCount → (s.wit w).st = .ready →
    Completes .pawnRenewTimer s fun t => t.fov.renewArmed = some s.clock ∧ (t.wit w).waiting.isSome = true ∧ s.fov.reqSeq < t.fov.reqSeq) ∧
  (∀ (s : State) (w q r a : Nat), w < 4 → s.fov.requesting = none → s.fov.holder = true → (s.wit w).waiting = some q → ((s.wit w).reqs.find? fun r => r.1 == q) = some (r, a) → a + resendTurns ≤ s.clock → (s.wit w).st = .ready →
    Completes (.pawnResendExpiry w) s fun t => (t.wit w).waiting = some (s.fov.reqSeq + 1) ∧ t.fov.reqSeq = s.fov.reqSeq + 1) ∧
  (∀ (s : State) (a n : Nat), s.fov.backoff = some (a, n) → expired a n s.clock = true → s.fov.eligible = true → s.fov.requesting = none → s.fov.takeover = none →
    Completes .minorityBackoffExpiry s fun t => t.fov.backoff = none ∧ t.fov.requesting = some s.clock) ∧
  (∀ s : State, s.pawnValid = false → s.serving = false → Completes .pawnCutoff s fun t => t.fov.valid = false ∧ t.fov.takeover = none) ∧
  (∀ s : State, s.pawnValid = false → s.serving = true → Completes .pawnCutoff s fun t => t.cfg.state = .standby ∧ t.fov.holder = false ∧ t.fov.valid = false ∧ t.fov.former = true ∧ Raises s t Ev.pawnLost s.cfg.canister 4) ∧
  (∀ s : State, s.pawnHeld = false → Completes .pawnExpiry s fun t => t.fov.holder = false ∧ t.fov.renewArmed = none)

/-- The commands of a witness and of the peer link complete with their own effect (R526, R550, R552, R577 to R585). -/
def Obligations.WitnessAndPeerCommands : Prop :=
  (∀ (s : State) (sh c : Nat) (m : PawnMsg) (x : Served), tget s.fov.served sh = some x → s.witnesses = true → x.proved c = true → pawnFits m Pawn.request sh c = true → x.since + quietTurns ≤ s.clock → x.holder = some c →
    Completes (.pawnRequestRx sh c m) s fun t => ((tget t.fov.served sh).map fun y => (y.holder, y.lease, y.expiry, y.guardEnd)) = some (some c, x.lease, s.clock + leaseTurns, s.clock + leaseTurns + guardTurns) ∧
      Sent s t [⟨.pawn, [16 + 2 * sh + c, Pawn.grant, 0, 0, 0, m.reqSeq, x.lease, 0]⟩]) ∧
  (∀ (s : State) (sh c h : Nat) (m : PawnMsg) (x : Served), tget s.fov.served sh = some x → s.witnesses = true → x.proved c = true → pawnFits m Pawn.request sh c = true → x.since + quietTurns ≤ s.clock → x.holder = some h → h ≠ c → s.clock < x.guardEnd →
    Completes (.pawnRequestRx sh c m) s fun t => t.fov = s.fov ∧
      Sent s t [⟨.pawn, [16 + 2 * sh + c, Pawn.deny, if s.clock < x.expiry then 1 else 2, 0, msOfTurns (x.guardEnd - s.clock), m.reqSeq, x.lease, 0]⟩]) ∧
  (∀ (s : State) (sh c : Nat) (m : PawnMsg) (x : Served), tget s.fov.served sh = some x → s.witnesses = true → x.proved c = true → pawnFits m Pawn.request sh c = true → x.since + quietTurns ≤ s.clock → x.holder = none → x.contention = none →
    Completes (.pawnRequestRx sh c m) s fun t => ((tget t.fov.served sh).map fun y => (y.holder, y.contention)) = some (none, some (c, s.clock, m)) ∧ t.outbox = s.outbox) ∧
  (∀ (s : State) (sh c a : Nat) (m : PawnMsg), ((tget s.fov.served sh).bind fun x => x.contention) = some (c, a, m) → expired a contentionTurns s.clock = true →
    Completes (.contentionWaitExpiry sh) s fun t => ((tget t.fov.served sh).map fun y => (y.holder, y.contention, y.expiry)) = some (some c, none, s.clock + leaseTurns)) ∧
  (∀ (s : State) (sh c : Nat) (m : PawnMsg) (x : Served), tget s.fov.served sh = some x → s.witnesses = true → x.proved c = true → pawnFits m Pawn.release sh c = true → x.holder = some c →
    Completes (.pawnReleaseRx sh c m) s fun t => tget t.fov.served sh = some { x with expiry := s.clock, guardEnd := s.clock + guardTurns }) ∧
  (∀ (s : State) (lane : Nat) (h : Hello), lane < 2 → helloMismatch s.ownHello h = none →
    Completes (.helloRx lane h) s fun t => t.fov.hello = some h ∧ t.fov.peerUp = true ∧ t.fov.mismatch = false ∧ t.fov.beatTurn = s.clock) ∧
  (∀ (s : State) (lane c : Nat) (h : Hello), lane < 2 → helloMismatch s.ownHello h = some c →
    Completes (.helloRx lane h) s fun t => t.fov.hello = none ∧ t.fov.peerUp = false ∧ t.fov.mismatch = true ∧ Raises s t Ev.peerMismatch lane c) ∧
  (∀ (s : State) (lane : Nat) (b : Heartbeat), lane < 2 → s.fov.hello.isSome = true → s.cfg.state = .standby →
    Completes (.heartbeatRx lane b) s fun t => t.fov.beat = some b ∧ t.fov.beatTurn = s.clock ∧ t.fov.peerUp = true) ∧
  (∀ s : State, s.inReset = false → s.fov.beatSent + 4883 ≤ s.clock → s.peerLink = true →
    Completes .heartbeatTimer s fun t => t.fov.beatSent = s.clock ∧ (t.outbox.drop s.outbox.length).map (fun o => (o.kind, o.args.take 3)) = [(.peer, [Peer.heartbeat, 0, s.cfg.state.code])]) ∧
  (∀ s : State, s.fov.peerUp = true → s.fov.beatTurn + 24415 ≤ s.clock ∨ s.peerLink = false → Completes .peerLost s fun t => t.fov.peerUp = false ∧ t.fov.clearBeats = 0 ∧ Raises s t Ev.peerLost (1 - s.cfg.canister) 0) ∧
  (∀ s : State, s.cfg.state = .recovery → due s.fov.helloArmed 24415 s.clock = true → Completes .recoveryHelloTimeout s fun t => t.fov.helloArmed = none ∧ t.jnl.replay = some (s.clock, 1) ∧ t.lay.map = s.lay.stream) ∧
  (∀ (s : State) (map : Nat), s.pwr.slots.length = 24 → s.cfg.state ≠ .standby → Completes (.slotDemandRx map) s fun t => ((List.range 24).all fun i => (t.chan i).peerDemand == bitOf map i) = true) ∧
  (∀ s : State, s.serving = true → s.fov.demandTurn + 2 ^ 19 ≤ s.clock → Completes .slotDemandTimer s fun t => t.fov.demandTurn = s.clock ∧ t.fov.demandSent = s.demandMap ∧ Sends s t ⟨.peer, [Peer.slotDemand, 0, s.demandMap]⟩) ∧
  (∀ (s : State) (slot : Nat), s.slotOn slot = true → s.serving = true → (s.chan slot).st = .stopping → (s.chan slot).ackArmed.isSome = true →
    Completes (.slotAckRx slot) s fun t => (t.chan slot).st = .idle ∧ (t.chan slot).peerDemand = false) ∧
  (∀ (s : State) (slot v g p : Nat), s.slotOn slot = true → s.serving = true → bitOf v 3 = true ∨ bitOf v 4 = true → s.posOfSlot slot = some (g, p) → (s.pos g p).st ≠ .failed →
    Completes (.healthRx slot (.critWarn v)) s fun t => t.deferred = s.deferred ++ [.posTo g p PosState.failed.code, .drvTo slot 5 Refuse.failed]) ∧
  (∀ (s : State) (reason : Nat) (planned : Bool), s.cfg.state = .standby → s.fov.eligible = true → s.fov.requesting = none → s.fov.takeover = none →
    Completes (.yieldRx reason planned) s fun t => t.fov.planned = planned ∧ t.fov.requesting = some s.clock)

/-- The commands of the mirror, of the takeover and hand-over and of replication complete with their own effect (R582 to R597). -/
def Obligations.MirrorAndTakeoverCommands : Prop :=
  (∀ (s : State) (seq : Nat) (ds : List DeltaRead), s.cfg.state = .standby → s.fov.warmth = .warm → s.fov.copying = false →
    Completes (.mapDeltaRx seq ds) s fun t =>
      if seq = s.fov.mirror + 1 then t.fov.mirror = seq ∧ t.lay.map = streamApply s.lay.map (ds.map deltaOf) ∧ t.lay.stream = streamApply s.lay.stream (ds.map deltaOf)
      else t.fov = s.fov ∧ t.lay = s.lay ∧ Sent s t (if s.fov.mirror < seq then [⟨.peer, [Peer.nack, 0, s.fov.mirror + 1]⟩] else [])) ∧
  (∀ (s : State) (es : List DeltaRead), s.cfg.state = .standby → s.fov.warmth = .cold → s.fov.copying = true →
    Completes (.mapBulkRx (s.fov.mirror + 1) es true) s fun t => t.fov.warmth = .warm ∧ t.fov.copying = false ∧ t.fov.held = [] ∧ t.fov.mirror = s.fov.mirror + 1 ∧
      t.lay.map = streamApply (streamApply s.lay.map (es.map deltaOf)) s.fov.held) ∧
  (∀ (s : State) (tr : Trailer), s.cfg.state = .standby → Completes (.trailerRx (s.fov.mirror + 1) tr) s fun t => t.jnl.trailer = some tr ∧ t.lay.batches = tr.batch ∧ t.fov.mirror = s.fov.mirror + 1) ∧
  (∀ (s : State) (l : List Nat), s.cfg.state = .standby → Completes (.recordRx (s.fov.mirror + 1) (.setStates l)) s fun t => t.fov.setStates = l ∧ t.fov.mirror = s.fov.mirror + 1) ∧
  (∀ (s : State) (nsid id : Nat), s.cfg.state = .standby → Completes (.recordRx (s.fov.mirror + 1) (.currentKey nsid id)) s fun t => tget t.cph.current nsid = some id) ∧
  (∀ (s : State) (seq : Nat), s.serving = true → (s.fov.buffer.any fun m => m.1 == seq) = true →
    Completes (.nackRx seq) s fun t => Sent s t (((s.fov.buffer.filter fun m => decide (seq ≤ m.1)).reverse).map fun m => ⟨.peer, [peerResend, m.1]⟩)) ∧
  (∀ (s : State) (x : Takeover), s.fov.takeover = some x → x.fitDone = false → s.rd Reg.CMP_CLANE_FAULT = 0 → s.rd Reg.CMP_DLANE_FAULT = 0 → s.rd Reg.CPH_ENG_FAULT = 0 →
    Completes (.fitnessTestDone [] [] [] true) s (fun t => t.fov.fit = true ∧ t.fov.takeover = some { x with fitDone := true }) ∧
    Completes (.fitnessTestDone [] [] [] false) s (fun t => t.fov.fit = false ∧ t.fov.eligible = false ∧ t.fov.takeover = none ∧ Raises s t Ev.takeoverUnfit s.cfg.canister 0)) ∧
  (∀ (s : State) (ctrl cid : Nat), Serves s ctrl (.mgmt (some RoleBit.admin)) → s.cfg.state = .active → s.fov.handOver = none → s.fov.peerUp = true →
    (s.fov.beat.any fun b => b.state == 4 && beatEligible b && beatWarm b) = true →
    Completes (.handOver ctrl cid) s fun t => t.fov.handOver = some ⟨ctrl, cid, none, false⟩ ∧ t.deferred = s.deferred ++ [.handOverHold] ∧ t.outbox = s.outbox) ∧
  (∀ (s : State) (h : HandOver), s.fov.handOver = some h → h.drained = false → due h.armed 48829 s.clock = true →
    Completes .handOverDrainTimeout s fun t => (t.fov.handOver.map fun x => x.drained) = some true ∧ t.lay.deltas = []) ∧
  (∀ s : State, due s.lay.fence (2 ^ 22) s.clock = true → Completes .checkpointFenceExpiry s fun t => t.lay.fence = none ∧ t.lay.map = s.lay.map) ∧
  (∀ (s : State) (a : Nat), s.fov.unserviceable = some a → s.noneEligible = true → a + 2 ^ 22 ≤ s.clock →
    Completes .pairUnserviceableTimer s fun t => t.fov.unserviceable = some s.clock ∧ Raises s t Ev.pairUnserviceable 0 0) ∧
  (∀ (s : State) (nsid extent q : Nat) (r : ReplicaCfg), s.deferredReplica nsid = some r → s.serving = true → s.fov.replica.contains (nsid, extent) = true → s.shelfQp r.peerShelf = some q →
    Completes (.replicaExtentSend nsid extent true) s (fun t => t.fov.replica.contains (nsid, extent) = false ∧ t.lay.writes = s.lay.writes ++ [.record (.replicaBit nsid extent false)]) ∧
    Completes (.replicaExtentSend nsid extent false) s (fun t => t.fov = s.fov ∧ Sent s t [⟨.wqeSend, [q, 0, (s.extent nsid extent).storedLen, extent, nsid, r.peerNsid]⟩])) ∧
  (∀ (s : State) (shelf : Nat), due (tget s.fov.replicaDown shelf) (2 ^ 22) s.clock = true →
    Completes (.replicaDownTimeout shelf) s fun t => tget t.fov.replicaDown shelf = some s.clock ∧ Raises s t Ev.replicaDown shelf 0)

/-- The commands of the service endpoint complete with their own effect (R600 to R603, R609, R610, R612 to R614, R616 to R618). -/
def Obligations.EndpointCommands : Prop :=
  (∀ (s : State) (perst : Bool), s.inReset = false →
    Completes (.endpointReset perst) s fun t => t.sep.link = (if s.sep.link = .held || s.sep.perst || perst then .held else .training) ∧ t.sep.perst = (s.sep.perst || perst) ∧
      t.sep.contained = none ∧ t.sep.flr = none ∧ t.sep.flash = none ∧ t.sep.busy = none ∧ t.sep.locked = false ∧ t.sep.sqHead = 0 ∧ t.sep.cqTail = 0 ∧ t.sep.pba = [] ∧
      t.sep.bme = false ∧ t.sep.msixEn = false ∧ t.ctrlOf t.mailboxId = some (Ctrl.session 0)) ∧
  (∀ s : State, s.inReset = false → s.sep.link = .held → s.cfg.state = .safeHold → Completes .sepPerstRelease s fun t => t.sep.perst = false ∧ t.sep.link = .training) ∧
  (∀ (s : State) (speed width : Nat) (c : SepConfig), s.sep.link = .training → speed ≤ s.sep.table.maxSpeed → width ≤ s.sep.table.maxWidth →
    Completes (.endpointLinkUp speed width c) s fun t => t.sep.link = .active ∧ t.sep.speed = speed ∧ t.sep.width = width ∧ t.sep.bme = c.bme ∧ Raises s t Ev.endpointLink 0 2) ∧
  (∀ (s : State) (d3hot : Bool), s.sep.link = .active → s.sep.flr = none → Completes (.powerStateChange d3hot) s fun t => t = { s with sep := { s.sep with d3hot := d3hot } }) ∧
  (∀ (s : State) (v : Nat) (c : SepConfig), v < 256 → s.sep.link = .active → s.sep.flr = none →
    Completes (.msixUnmask v c) s fun t => bitOf (t.rd Reg.SEP_MSIX_TABLE 0 (4 * v + 3)) 0 = false ∧ t.sep.msixEn = c.msixEn ∧ t.sep.fmask = c.fmask ∧ t.sep.pba = s.sep.pba) ∧
  (∀ (s : State) (tail : Nat), s.inReset = false → s.mailboxOpen = true → s.sep.busy = none → tail < 8 → s.sep.sqHead < 8 → s.sep.sqHead ≠ tail →
    s.rd Reg.SEP_MBX_SQ 0 (16 * s.sep.sqHead + 6) % 4096 = 0 → s.rd Reg.SEP_MBX_SQ 0 (16 * s.sep.sqHead + 8) ≤ 2 ^ 24 →
    Completes (.mailboxSubmit tail) s fun t => t.rd Reg.SEP_MBX_SQ_TAIL = tail ∧ t.sep.busy = some (s.rd Reg.SEP_MBX_SQ 0 (16 * s.sep.sqHead) / 65536) ∧
      t.sep.sqHead = (s.sep.sqHead + 1) % 8 ∧ t.outbox = s.outbox) ∧
  (∀ (s : State) (tail : Nat), s.inReset = false → s.mailboxOpen = true → s.sep.busy = none → tail < 8 → s.sep.sqHead < 8 → s.sep.sqHead ≠ tail →
    s.rd Reg.SEP_MBX_SQ 0 (16 * s.sep.sqHead + 6) % 4096 ≠ 0 →
    Completes (.mailboxSubmit tail) s fun t => t.sep.sqHead = (s.sep.sqHead + 1) % 8 ∧ AnswersLast t s.mailboxId (s.rd Reg.SEP_MBX_SQ 0 (16 * s.sep.sqHead) / 65536) St.invalidField) ∧
  (∀ (s : State) (cid copy addr len : Nat) (im : Option Image), s.mailboxOpen = true → s.sep.locked = false → s.cfg.state = .safeHold → addr % 4096 = 0 → len % 4096 = 0 → 4096 ≤ len →
    len ≤ 2 ^ 24 → s.sep.flash = none →
    Completes (.flashWrite cid copy addr len im) s fun t => t.sep.flash = some ⟨cid, copy % 2, len, im, .reading, 0⟩ ∧ t.sep.busy = some cid ∧ t.cfg = s.cfg ∧ t.outbox = s.outbox) ∧
  (∀ (s : State) (cid copy addr len : Nat) (im : Option Image), s.mailboxOpen = true → s.sep.locked = false → s.cfg.state ≠ .safeHold →
    Completes (.flashWrite cid copy addr len im) s fun t => AnswersLast t s.mailboxId cid St.denied ∧ t.sep.flash = s.sep.flash) ∧
  (∀ (s : State) (j : FlashJob), s.sep.flash = some j → j.step = .reading → s.mailboxOpen = true → s.sep.bme = true →
    Completes .mailboxDmaDone s fun t => t.sep.flash = some { j with step := .erasing } ∧ Sent s t [⟨.spi, [j.copy, 0]⟩]) ∧
  (∀ (s : State) (j : FlashJob), s.sep.flash = some j → j.step = .erasing → j.copy < s.cfg.spi.length →
    Completes (.flashEraseDone true) s fun t => t.sep.flash = some { j with step := .body } ∧ t.copyOf j.copy = SpiCopy.erased ∧ Sent s t [⟨.spi, [j.copy, 1]⟩]) ∧
  (∀ (s : State) (j : FlashJob), s.sep.flash = some j → j.step = .erasing →
    Completes (.flashEraseDone false) s fun t => t.sep.flash = none ∧ t.cfg.spi = s.cfg.spi ∧ AnswersLast t s.mailboxId j.cid St.internal) ∧
  (∀ (s : State) (j : FlashJob), s.sep.flash = some j → j.step = .body →
    Completes (.flashPageProgramDone true) s fun t => t.sep.flash = some { j with pages := j.pages + 1, step := if j.pages + 2 < j.length / 256 then .body else .header } ∧
      Sent s t [⟨.spi, [j.copy, 1]⟩] ∧ t.cfg = s.cfg) ∧
  (∀ (s : State) (j : FlashJob), s.sep.flash = some j → j.step = .header → j.copy < s.cfg.spi.length →
    Completes (.flashPageProgramDone true) s fun t => t.sep.flash = none ∧ (t.copyOf j.copy).image = j.image ∧ AnswersLast t s.mailboxId j.cid St.ok) ∧
  (∀ s : State, s.sep.link = .active → s.sep.flr = none → Completes .functionLevelReset s fun t => t.sep.flr = some s.clock ∧ t.deferred = s.deferred ++ [.flrStop]) ∧
  (∀ (s : State) (f : Nat), s.sep.flr = some f → f + 490 ≤ s.clock → Completes .flrDmaQuiesce s fun t => t = { s with sep := { s.sep with flrQuiet := true } }) ∧
  (∀ (s : State) (f : Nat), s.sep.flr = some f → f + 48829 ≤ s.clock →
    Completes .flrComplete s fun t => t.sep.flr = none ∧ t.sep.contained = none ∧ t.sep.locked = false ∧ t.sep.sqHead = 0 ∧ t.sep.cqTail = 0 ∧ t.sep.phase = true ∧ t.sep.bme = false ∧
      t.sep.link = s.sep.link ∧ t.ctrlOf t.mailboxId = some (Ctrl.session 0) ∧ Raises s t Ev.endpointFlr 0 0) ∧
  (∀ (s : State) (c : ContainCause), s.sep.link = .active → s.sep.contained = none →
    Completes (.endpointContain c) s fun t => t.sep.contained = some (causeCode c) ∧ t.rd Reg.SEP_ERR_CAUSE = causeCode c ∧ t.sep.busy = none ∧ t.sep.flash = none ∧
      t.sep.link = (if c = .surpriseDown then .down else .active) ∧ t.sep.held = s.sep.busy.toList.map (fun b => (b, 0, 4)) ∧ Raises s t Ev.endpointContained 0 (causeCode c)) ∧
  (∀ s : State, s.sep.contained.isSome = true → Completes .containmentRelease s fun t => t = { s with deferred := s.deferred ++ [.containRelease] })

/-- The commands of events and counters complete with their own effect (R631, R633 to R636, R639 to R642, R655). -/
def Obligations.EventAndCounterCommands : Prop :=
  (∀ (s : State) (head : Nat), s.inReset = false → head < 2 ^ 18 → (head + ringSlots - s.ringHead) % ringSlots ≤ (s.evt.tail + ringSlots - s.ringHead) % ringSlots →
    Completes (.eventRingHeadWrite .endpoint head) s fun t => t.ringHead = head ∧ t.evt = s.evt) ∧
  (∀ (s : State) (w : Writer) (head : Nat), s.inReset = false → w ≠ .endpoint →
    Completes (.eventRingHeadWrite w head) s fun t => t.ringHead = s.ringHead ∧ Raises s t Ev.configurationViolation 20 0) ∧
  (∀ (s : State) (ctrl cid n : Nat) (q : EvtQueue), s.gate ctrl (.mgmt none) = .pass → s.cfg.state ≠ .activating → 1 ≤ n → n ≤ 128 → tget s.evt.queues ctrl = some q →
    Completes (.eventRead ctrl cid n) s fun t => Sends s t ⟨.data, [ctrl, cid] ++ (q.recs.take n).flatMap RingRec.words⟩ ∧ Answers s t ctrl cid St.ok ∧
      tget t.evt.queues ctrl = some ⟨q.recs.drop n, 0⟩) ∧
  (∀ (s : State) (ctrl cid n : Nat), s.gate ctrl (.mgmt none) = .pass → s.cfg.state ≠ .activating → 128 < n → n < 256 →
    Completes (.eventRead ctrl cid n) s fun t => AnswersLast t ctrl cid St.invalidField ∧ t.evt.queues = s.evt.queues) ∧
  (∀ (s : State) (w : Writer), s.inReset = false → (w = .endpoint → s.cfg.state ≠ .safeHold) →
    Completes (.counterPreload w) s fun t => t.rd Reg.CNT_CTL_PRELOAD = 1 ∧ t.cnt = s.cnt ∧
      t.deferred = s.deferred ++ [.preload (s.rd (Reg.CNT_SEL.forWriter w)) (s.rd (Reg.CNT_DATA.forWriter w))]) ∧
  (∀ (s : State) (w : Writer), s.inReset = false → tgetD s.cnt.vals (s.rd (Reg.CNT_SEL.forWriter w)) 0 < 2 ^ 48 →
    Completes (.counterLiveRead w) s fun t => t.rd (Reg.CNT_DATA.forWriter w) = tgetD s.cnt.vals (s.rd (Reg.CNT_SEL.forWriter w)) 0 ∧
      t.rd (Reg.CNT_CTL_VALID.forWriter w) = 1 ∧ t.cnt = s.cnt) ∧
  (∀ (s : State) (c inst : Nat), s.inReset = false → c < 384 → tgetD s.cnt.vals c 0 = 2 ^ 48 - 1 →
    Completes (.counterOverflow c inst) s fun t => tgetD t.cnt.vals c 0 = 0 ∧ (s.ovfEnabled c = true → t.ovfPending c = true)) ∧
  (∀ (s : State) (c : Nat), s.inReset = false → c < 384 → s.ovfPending c = true → tgetD s.cnt.sinceWrap c 0 ≤ 64 →
    Completes (.counterSampleRead c) s fun t => t.ovfPending c = false ∧ Raises s t Ev.counterSample c 0) ∧
  (∀ (s : State) (c : Nat), s.inReset = false → c < 384 → s.ovfPending c = true → 64 < tgetD s.cnt.sinceWrap c 0 →
    Completes (.counterSampleRead c) s fun t => t.ovfPending c = false ∧ t.rd Reg.CNT_SAMPLE_LOST = min (2 ^ 32 - 1) (s.rd Reg.CNT_SAMPLE_LOST + 1)) ∧
  (∀ (s : State) (turn : Nat), s.inReset = false → s.cnt.running = some turn → s.cnt.passes + 1 < 2 ^ 32 →
    Completes .snapshotPassDone s fun t => t.cnt.running = none ∧ t.cnt.passes = s.cnt.passes + 1 ∧ t.rd Reg.CNT_SNAP_SEQ = s.cnt.passes + 1 ∧
      ((tget t.cnt.slots ((s.cnt.passes + 1) % 2048)).map fun x => (x.seq, x.turn, x.skipped, x.preloaded, x.counters)) =
        some (s.cnt.passes + 1, turn, s.cnt.skipNext, s.cnt.preloaded, (List.range 384).map fun i => tgetD s.cnt.vals i 0)) ∧
  (∀ (s : State) (w : Writer) (v : Nat), s.inReset = false → (w = .endpoint → s.cfg.state ≠ .safeHold) → v ≤ 20 →
    Completes (.bwWindowWrite w v) s fun t => t.rd Reg.CNT_CFG_BW_WINDOW = v ∧ t.cnt = s.cnt) ∧
  (∀ (s : State) (w : Writer) (v : Nat), s.inReset = false → (w = .endpoint → s.cfg.state ≠ .safeHold) → 20 < v → v < 32 →
    Completes (.bwWindowWrite w v) s fun t => t.rd Reg.CNT_CFG_BW_WINDOW = s.rd Reg.CNT_CFG_BW_WINDOW ∧ Raises s t Ev.configurationViolation 21 0) ∧
  (∀ (s : State) (ctrl cid n : Nat) (x : Snap), s.gate ctrl (.mgmt (some RoleBit.observer)) = .pass → s.cfg.state ≠ .activating → s.snapshotOf n = some x →
    Completes (.counterRead ctrl cid n) s fun t => Sends s t ⟨.data, [ctrl, cid] ++ x.words⟩ ∧ AnswersLast t ctrl cid St.ok ∧ t.cnt.slots = s.cnt.slots) ∧
  (∀ (s : State) (ctrl cid n : Nat), s.gate ctrl (.mgmt (some RoleBit.observer)) = .pass → s.cfg.state ≠ .activating → s.snapshotOf n = none →
    Completes (.counterRead ctrl cid n) s fun t => AnswersLast t ctrl cid St.invalidField)

/-- Register writes and Register Sequence complete with their own effect (R14, R15, R17, R649, R650, R654, R656, R660, R661). -/
def Obligations.RegisterCommands : Prop :=
  (∀ (s : State) (w : Writer) (v : Nat), s.inReset = false → v ≤ 383 →
    Completes (.registerWrite w Reg.CNT_SEL.off 4 v) s fun t => t.rd (Reg.CNT_SEL.forWriter w) = v ∧ t.rd (Reg.CNT_CTL_VALID.forWriter w) = 0 ∧ t = { s with regs := t.regs }) ∧
  (∀ (s : State) (w : Writer) (v : Nat), s.inReset = false → 384 ≤ v → v < 512 →
    Completes (.registerWrite w Reg.CNT_SEL.off 4 v) s fun t => t.rd (Reg.CNT_SEL.forWriter w) = s.rd (Reg.CNT_SEL.forWriter w) ∧ Raises s t Ev.configurationViolation 21 0) ∧
  (∀ (s : State) (w : Writer) (v : Nat), Completes (.registerWrite w Reg.CNT_SNAP_SEQ.off 8 v) s fun t => t = s) ∧
  (∀ (s : State) (v : Nat), s.inReset = false → bitOf v 0 = true → s.rd Reg.TRN_OVERRUN_SCH_REFILL = 1 →
    Completes (.registerWrite .core Reg.TRN_OVERRUN_SCH_REFILL.off 4 v) s fun t => t.rd Reg.TRN_OVERRUN_SCH_REFILL = 0 ∧
      (bitOf v 1 = false → t.rd Reg.TRN_OVERRUN_XPT_CWND = s.rd Reg.TRN_OVERRUN_XPT_CWND) ∧ t = { s with regs := t.regs }) ∧
  (∀ (s : State) (v : Nat), s.inReset = false → s.cfg.locked = false →
    Completes (.registerWrite .core Reg.TRN_EPOCH.off 8 v) s fun t => t.rd Reg.TRN_EPOCH = (if v % 2 ^ 48 = s.rd Reg.TRN_EPOCH then s.rd Reg.TRN_EPOCH else v % 2 ^ 48) ∧ t = { s with regs := t.regs }) ∧
  (∀ (s : State) (w : Writer) (v : Nat), s.inReset = false → s.cfg.locked = true → v < 2 ^ 48 → s.rd Reg.TRN_EPOCH < 2 ^ 48 → v ≠ s.rd Reg.TRN_EPOCH →
    Completes (.registerWrite w Reg.TRN_EPOCH.off 8 v) s fun t => t.rd Reg.TRN_EPOCH = s.rd Reg.TRN_EPOCH ∧ Raises s t Ev.configurationViolation 0 0) ∧
  (∀ (s : State) (w : Writer) (v : Nat), v < 2 ^ 48 → v = s.rd Reg.TRN_EPOCH → Completes (.registerWrite w Reg.TRN_EPOCH.off 8 v) s fun t => t = s) ∧
  (∀ (s : State) (w : Writer) (off n v : Nat), accessOk off n = false → Completes (.registerWrite w off n v) s fun t => t = s) ∧
  (∀ (s : State) (w : Writer) (off n v : Nat), fieldsAt off n = [] → Completes (.registerWrite w off n v) s fun t => t = s) ∧
  (∀ (s : State) (w : Writer), s.inReset = false → tgetD s.cnt.vals (s.rd (Reg.CNT_SEL.forWriter w)) 0 < 2 ^ 48 →
    Completes (.registerWrite w Reg.CNT_CTL_READ.off 4 1) s fun t => t.rd (Reg.CNT_DATA.forWriter w) = tgetD s.cnt.vals (s.rd (Reg.CNT_SEL.forWriter w)) 0 ∧
      t.rd (Reg.CNT_CTL_VALID.forWriter w) = 1 ∧ t = { s with regs := t.regs }) ∧
  (∀ (s : State) (ctrl cid : Nat) (l : List SeqEntry), s.gate ctrl (.mgmt none) = .pass → s.cfg.state ≠ .activating → s.cmd.seqs = [] → l ≠ [] → l.length ≤ 64 →
    (∀ e ∈ l, e.op = 0 ∧ e.offset % 4 = 0 ∧ e.offset < 0x1500000) →
    Completes (.registerSequence ctrl cid l.length l) s fun t =>
      Sends s t ⟨.data, [ctrl, cid] ++ l.map fun e => (s.startTask 1 ctrl cid).readBar .session e.offset 4⟩ ∧
      Sends s t ⟨.completion, [ctrl, cid, 0, 0, l.length, 0]⟩ ∧ t.cmd.seqs = []) ∧
  (∀ (s : State) (ctrl cid n : Nat) (l : List SeqEntry) (c : Ctrl), s.gate ctrl (.mgmt none) = .pass → s.cfg.state ≠ .activating → 1 ≤ n → n ≤ 64 → n ≤ l.length →
    ((l.take n).any fun e => e.op == 1 || e.op == 3) = true → s.ctrlOf ctrl = some c → c.may (some RoleBit.admin) = false →
    Completes (.registerSequence ctrl cid n l) s fun t => AnswersLast t ctrl cid St.accessDenied ∧ t.cmd.seqs = s.cmd.seqs) ∧
  (∀ (s : State) (ctrl cid : Nat) (e : SeqEntry) (l : List SeqEntry), s.gate ctrl (.mgmt none) = .pass → s.cfg.state ≠ .activating → s.cmd.seqs = [] → l.length < 64 →
    ((e :: l).any fun x => x.op == 1 || x.op == 3) = false → e.op = 4 → e.offset % 4 = 0 → e.offset < 0x1500000 →
    Completes (.registerSequence ctrl cid (l.length + 1) (e :: l)) s fun t => t.cmd.seqs = [⟨ctrl, cid, e :: l, [], 4⟩] ∧ t.outbox = s.outbox)

/-- A Turn boundary counts one Turn out of reset and nothing in reset (R54, R57, R59). -/
def Obligations.TurnBoundaryCommand : Prop :=
  (∀ (s : State) (obs : TurnObs), s.inReset = false → s.aligning = false → Completes (.turnBoundary obs) s fun t => t.trn.count = (s.trn.count + 1) % 2 ^ 48 ∧ t.clock = s.clock + 1) ∧
  (∀ (s : State) (obs : TurnObs), s.inReset = false → s.aligning = true → s.alignFits = true →
    Completes (.turnBoundary obs) s fun t => t.trn.count = s.alignedCount.toNat % 2 ^ 48 ∧ t.clock = s.clock + 1) ∧
  (∀ (s : State) (obs : TurnObs), s.inReset = true → Completes (.turnBoundary obs) s fun t => t = s)

/-- The frames of the commands of the Turn, of boot and of updates: each line lists the only parts that the command may change (`reg b` is register block b, `regs` every block). -/
def Obligations.FrameOfTurnAndBoot : Prop :=
  (∀ x1, Leaves [.cfg, .cmd, .cnt, .deferred, .drv, .eth, .evt, .fov, .idn, .jnl, .outbox, .pwr, .sep, .trn, .reg 1, .reg 3, .reg 4, .reg 5, .reg 6, .reg 7, .reg 10, .reg 12, .reg 19, .reg 20, .reg 21] (.coreWatchdogExpiry x1)) ∧
  (∀ x1 x2, Leaves [.cnt, .win, .reg 5, .reg 21] (.stagingHoldExpiry x1 x2)) ∧
  (∀ x1 x2 x3 x4 x5, Leaves [.evt, .outbox, .trn, .reg 0, .reg 20] (.ptpSyncRx x1 x2 x3 x4 x5)) ∧
  (∀ x1 x2 x3 x4, Leaves [.trn] (.ptpFollowUpRx x1 x2 x3 x4)) ∧
  (∀ x1 x2 x3 x4 x5, Leaves [.deferred, .evt, .trn, .reg 0, .reg 20] (.ptpDelayRespRx x1 x2 x3 x4 x5)) ∧
  (∀ x1 x2, Leaves [.trn] (.ptpAnnounceRx x1 x2)) ∧
  Leaves [.cfg, .cmd, .cph, .deferred, .evt, .fov, .jnl, .lay, .outbox, .pwr, .trn, .reg 0, .reg 1, .reg 7, .reg 12, .reg 14, .reg 20] .acquireTimeoutExpiry ∧
  Leaves [.evt, .trn, .reg 0, .reg 20] .syncLossTimeout ∧
  (∀ x1, Leaves [.evt, .trn, .reg 0, .reg 20] (.trnReload x1)) ∧
  Leaves [.trn, .reg 0] .reloadTimeoutExpiry ∧
  (∀ x1 x2 x3 x4, Leaves [.evt, .gch, .sch, .win, .xpt, .reg 4, .reg 5, .reg 6, .reg 9, .reg 20] (.shadowWrite x1 x2 x3 x4)) ∧
  (∀ x1 x2, Leaves [.evt, .reg 4, .reg 5, .reg 6, .reg 9, .reg 20] (.bankCommit x1 x2)) ∧
  (∀ x1 x2, Leaves [.evt, .reg 4, .reg 5, .reg 6, .reg 9, .reg 20] (.bankAbort x1 x2)) ∧
  (∀ x1, Leaves [.axl, .cfg, .cmd, .cmp, .cnt, .cph, .deferred, .dram, .drv, .eth, .evt, .fov, .free, .fsp, .gch, .idn, .jnl, .lay, .pwr, .regs, .sal, .sch, .sep, .trn, .win, .xpt] (.sysResetAssert x1)) ∧
  (∀ x1, Leaves [.cfg, .cmd, .deferred, .drv, .eth, .evt, .fov, .idn, .jnl, .outbox, .pwr, .sep, .trn, .reg 1, .reg 2, .reg 3, .reg 7, .reg 18, .reg 19, .reg 20] (.sysResetRelease x1)) ∧
  (∀ x1 x2, Leaves [.cfg, .cmd, .deferred, .drv, .eth, .evt, .fov, .jnl, .outbox, .pwr, .sep, .trn, .reg 1, .reg 3, .reg 7, .reg 20] (.dramTrainingDone x1 x2)) ∧
  (∀ x1, Leaves [.cfg, .cmd, .deferred, .drv, .eth, .evt, .fov, .jnl, .outbox, .pwr, .sep, .trn, .reg 1, .reg 3, .reg 7, .reg 20] (.spiTransactionTimeout x1)) ∧
  Leaves [.cfg, .cmd, .deferred, .drv, .eth, .evt, .fov, .jnl, .outbox, .pwr, .sep, .trn, .reg 1, .reg 3, .reg 7, .reg 20] .copyReadDone ∧
  Leaves [.axl, .cfg, .cnt, .eth, .fov, .fsp, .gch, .lay, .sch, .sep, .trn, .reg 0, .reg 1, .reg 3, .reg 4, .reg 5, .reg 6, .reg 8, .reg 9, .reg 11, .reg 13, .reg 14, .reg 15, .reg 16, .reg 17, .reg 18, .reg 20, .reg 21] .firmwareStarted ∧
  (∀ x1, Leaves [.axl, .cfg, .cmd, .cmp, .cnt, .cph, .deferred, .dram, .drv, .eth, .evt, .fov, .fsp, .gch, .idn, .jnl, .lay, .pwr, .regs, .sal, .sch, .sep, .trn, .win, .xpt] (.cfgReboot x1)) ∧
  (∀ x1 x2 x3, Leaves [.axl, .cfg, .cmd, .cmp, .cnt, .cph, .deferred, .dram, .drv, .eth, .evt, .fov, .fsp, .gch, .idn, .jnl, .lay, .outbox, .pwr, .regs, .sal, .sch, .sep, .trn, .win, .xpt] (.brownOut x1 x2 x3)) ∧
  (∀ x1 x2 x3, Leaves [.axl, .cfg, .cmd, .cmp, .cnt, .cph, .deferred, .dram, .drv, .eth, .evt, .fov, .fsp, .gch, .idn, .jnl, .lay, .outbox, .pwr, .regs, .sal, .sch, .sep, .trn, .win, .xpt] (.temperatureSample x1 x2 x3)) ∧
  (∀ x1, Leaves [.axl, .cfg, .cmd, .cmp, .cnt, .cph, .deferred, .drv, .eth, .evt, .fov, .fsp, .idn, .jnl, .lay, .outbox, .pwr, .sep, .trn, .win, .reg 1, .reg 2, .reg 3, .reg 7, .reg 12, .reg 18, .reg 19, .reg 20, .reg 21] (.tamperEvent x1)) ∧
  (∀ x1 x2, Leaves [.cfg, .cmd, .cnt, .cph, .deferred, .evt, .fov, .jnl, .lay, .outbox, .pwr, .sep, .reg 1, .reg 7, .reg 12, .reg 14, .reg 19, .reg 20, .reg 21] (.serviceRequest x1 x2)) ∧
  (∀ x1 x2, Leaves [.axl, .cfg, .cnt, .deferred, .evt, .gch, .jnl, .lay, .outbox, .sal, .sep, .reg 9, .reg 13, .reg 14, .reg 16, .reg 19, .reg 20, .reg 21] (.releaseRequest x1 x2)) ∧
  Leaves [.axl, .cfg, .cmd, .cmp, .cnt, .cph, .deferred, .drv, .evt, .fov, .fsp, .jnl, .lay, .outbox, .pwr, .sep, .win, .reg 1, .reg 7, .reg 18, .reg 19, .reg 20, .reg 21] .releaseDrainDone ∧
  (∀ x1 x2 x3 x4 x5 x6, Leaves [.cfg, .cnt, .deferred, .evt, .outbox, .sep, .reg 19, .reg 21] (.firmwareImageDownload x1 x2 x3 x4 x5 x6)) ∧
  (∀ x1 x2 x3, Leaves [.cfg, .cnt, .deferred, .evt, .outbox, .sep, .reg 19, .reg 21] (.firmwareCommitStore x1 x2 x3)) ∧
  (∀ x1 x2 x3 x4, Leaves [.cfg, .cnt, .deferred, .evt, .outbox, .sep, .reg 19, .reg 21] (.firmwareCommitAtReset x1 x2 x3 x4)) ∧
  (∀ x1 x2 x3, Leaves [.cfg, .cnt, .deferred, .evt, .outbox, .sep, .reg 19, .reg 21] (.firmwareCommitActivate x1 x2 x3)) ∧
  (∀ x1, Leaves [.cfg, .cnt, .deferred, .evt, .outbox, .sep, .reg 1, .reg 19, .reg 21] (.commitReadbackDone x1)) ∧
  Leaves [.cfg] .activationRecordWritten ∧
  Leaves [.cfg, .cnt, .deferred, .fov, .lay, .sep, .reg 1, .reg 4, .reg 5, .reg 11, .reg 13, .reg 14, .reg 15, .reg 16, .reg 17, .reg 18, .reg 20, .reg 21] .firmwareReady ∧
  Leaves [.cfg, .cmd, .cnt, .deferred, .evt, .fov, .outbox, .pwr, .sep, .reg 1, .reg 7, .reg 19, .reg 20, .reg 21] .activationGuardExpiry ∧
  (∀ x1, Leaves [.axl, .cfg, .cmd, .cmp, .cnt, .cph, .deferred, .dram, .drv, .eth, .evt, .fov, .free, .fsp, .gch, .idn, .jnl, .lay, .outbox, .pwr, .regs, .sal, .sch, .sep, .trn, .win, .xpt] (.turnBoundary x1))

/-- The frames of the commands of identity and of the ports: each line lists the only parts that the command may change (`reg b` is register block b, `regs` every block). -/
def Obligations.FrameOfIdentityAndPorts : Prop :=
  (∀ x1, Leaves [.evt, .idn, .reg 2, .reg 20] (.ownerEnrol x1)) ∧
  (∀ x1, Leaves [.evt, .idn, .reg 2, .reg 20] (.ownerRevoke x1)) ∧
  (∀ x1, Leaves [.cfg, .cnt, .cph, .evt, .free, .idn, .outbox, .sep, .reg 1, .reg 2, .reg 12, .reg 19, .reg 20, .reg 21] (.fuseProgramDone x1)) ∧
  (∀ x1 x2, Leaves [.cfg, .cnt, .deferred, .evt, .idn, .outbox, .sep, .reg 2, .reg 19, .reg 21] (.svnFloorRaise x1 x2)) ∧
  (∀ x1 x2 x3, Leaves [.cnt, .deferred, .evt, .idn, .outbox, .sep, .reg 19, .reg 21] (.attestationQuote x1 x2 x3)) ∧
  Leaves [.cnt, .evt, .idn, .outbox, .sep, .reg 19, .reg 21] .quoteSigned ∧
  (∀ x1 x2, Leaves [.eth, .evt, .reg 3, .reg 18, .reg 20] (.linkAnDone x1 x2)) ∧
  (∀ x1, Leaves [.eth, .reg 3, .reg 18] (.linkTrainingDone x1)) ∧
  (∀ x1, Leaves [.eth, .reg 3, .reg 18] (.linkTrainingTimeout x1)) ∧
  (∀ x1, Leaves [.eth, .reg 3, .reg 18] (.linkLockAcquired x1)) ∧
  (∀ x1, Leaves [.eth, .reg 3, .reg 18] (.linkAlignTimeout x1)) ∧
  (∀ x1, Leaves [.eth, .evt, .outbox, .pwr, .reg 3, .reg 18, .reg 20] (.linkQualifyDone x1)) ∧
  (∀ x1, Leaves [.eth, .reg 3, .reg 18] (.linkLockLost x1)) ∧
  (∀ x1, Leaves [.eth, .evt, .pwr, .reg 3, .reg 18, .reg 20] (.linkLossTimeout x1)) ∧
  (∀ x1, Leaves [.eth, .evt, .reg 20] (.linkNegotiationTimeout x1)) ∧
  (∀ x1 x2, Leaves [.evt, .reg 3, .reg 20] (.linkFaultTimeout x1 x2)) ∧
  (∀ x1 x2 x3, Leaves [.evt, .reg 3, .reg 20] (.fecWindowEnd x1 x2 x3)) ∧
  (∀ x1 x2, Leaves [.cnt, .evt, .reg 3, .reg 20, .reg 21] (.frameRx x1 x2)) ∧
  (∀ x1 x2 x3 x4, Leaves [.cnt, .eth, .evt, .outbox, .reg 3, .reg 20, .reg 21] (.arpRequestRx x1 x2 x3 x4)) ∧
  (∀ x1 x2 x3, Leaves [.evt, .reg 3, .reg 20] (.arpReplyRx x1 x2 x3)) ∧
  (∀ x1 x2 x3 x4, Leaves [.cnt, .eth, .evt, .outbox, .reg 3, .reg 20, .reg 21] (.neighbourSolicitationRx x1 x2 x3 x4)) ∧
  (∀ x1 x2 x3, Leaves [.evt, .reg 3, .reg 20] (.neighbourAdvertisementRx x1 x2 x3)) ∧
  (∀ x1, Leaves [.deferred] (.ethDropClear x1))

/-- The frames of the commands of packets, queue pairs and windows: each line lists the only parts that the command may change (`reg b` is register block b, `regs` every block). -/
def Obligations.FrameOfTransport : Prop :=
  (∀ x1 x2 x3, Leaves [.cmd, .cmp, .cnt, .deferred, .dram, .evt, .fsp, .outbox, .sch, .win, .xpt, .reg 4, .reg 5, .reg 6, .reg 7, .reg 8, .reg 20, .reg 21] (.sendRx x1 x2 x3)) ∧
  (∀ x1 x2 x3 x4 x5 x6, Leaves [.cmd, .cmp, .cnt, .deferred, .dram, .evt, .fsp, .outbox, .sch, .win, .xpt, .reg 4, .reg 5, .reg 6, .reg 7, .reg 8, .reg 20, .reg 21] (.rdmaWriteRx x1 x2 x3 x4 x5 x6)) ∧
  (∀ x1 x2 x3 x4, Leaves [.cmd, .cmp, .cnt, .deferred, .dram, .evt, .fsp, .outbox, .sch, .win, .xpt, .reg 4, .reg 5, .reg 6, .reg 7, .reg 8, .reg 20, .reg 21] (.rdmaReadRequestRx x1 x2 x3 x4)) ∧
  (∀ x1 x2 x3, Leaves [.cmd, .cmp, .cnt, .deferred, .dram, .evt, .fsp, .outbox, .sch, .win, .xpt, .reg 4, .reg 5, .reg 6, .reg 7, .reg 8, .reg 20, .reg 21] (.rdmaReadResponseRx x1 x2 x3)) ∧
  (∀ x1 x2 x3 x4, Leaves [.cmd, .cmp, .cnt, .dram, .evt, .fsp, .outbox, .sch, .win, .xpt, .reg 4, .reg 5, .reg 6, .reg 7, .reg 8, .reg 20, .reg 21] (.ackRx x1 x2 x3 x4)) ∧
  (∀ x1 x2 x3, Leaves [.cmd, .cmp, .cnt, .dram, .evt, .fsp, .outbox, .sch, .win, .xpt, .reg 4, .reg 5, .reg 6, .reg 7, .reg 8, .reg 20, .reg 21] (.nakRx x1 x2 x3)) ∧
  (∀ x1 x2 x3, Leaves [.cmd, .cmp, .cnt, .dram, .evt, .fsp, .outbox, .sch, .win, .xpt, .reg 4, .reg 5, .reg 6, .reg 7, .reg 8, .reg 20, .reg 21] (.rnrNakRx x1 x2 x3)) ∧
  (∀ x1, Leaves [.cmd, .cmp, .cnt, .dram, .evt, .fsp, .outbox, .sch, .win, .xpt, .reg 4, .reg 5, .reg 6, .reg 7, .reg 8, .reg 20, .reg 21] (.cnpRx x1)) ∧
  (∀ x1, Leaves [.cmd, .cmp, .cnt, .deferred, .dram, .evt, .fsp, .outbox, .sch, .win, .xpt, .reg 4, .reg 5, .reg 6, .reg 7, .reg 8, .reg 20, .reg 21] (.sendWithInvalidateRx x1)) ∧
  (∀ x1 x2, Leaves [.cmd, .cmp, .cnt, .dram, .evt, .fsp, .outbox, .sch, .win, .xpt, .reg 4, .reg 5, .reg 6, .reg 7, .reg 8, .reg 20, .reg 21] (.contextFetchDone x1 x2)) ∧
  (∀ x1, Leaves [.cmd, .cmp, .cnt, .evt, .fsp, .outbox, .win, .xpt, .reg 4, .reg 7, .reg 20, .reg 21] (.ackTimeout x1)) ∧
  (∀ x1, Leaves [.cnt, .outbox, .xpt, .reg 21] (.rnrWaitExpiry x1)) ∧
  (∀ x1 x2, Leaves [.cnt, .evt, .outbox, .xpt, .reg 4, .reg 20, .reg 21] (.wqePost x1 x2)) ∧
  (∀ x1, Leaves [.cnt, .evt, .outbox, .xpt, .reg 4, .reg 20, .reg 21] (.triggerTimeout x1)) ∧
  (∀ x1 x2, Leaves [.deferred, .evt, .reg 20] (.qpForceError x1 x2)) ∧
  (∀ x1, Leaves [.evt, .free, .reg 4, .reg 20] (.qpContextRead x1)) ∧
  Leaves [.reg 4] .missPeakClear ∧
  (∀ x1 x2 x3 x4 x5 x6 x7 x8 x9, Leaves [.cnt, .deferred, .evt, .free, .fsp, .outbox, .sep, .win, .reg 8, .reg 19, .reg 20, .reg 21] (.windowOpen x1 x2 x3 x4 x5 x6 x7 x8 x9)) ∧
  (∀ x1 x2 x3, Leaves [.cnt, .deferred, .evt, .outbox, .sep, .win, .reg 19, .reg 21] (.windowClose x1 x2 x3)) ∧
  (∀ x1, Leaves [.cnt, .evt, .fsp, .outbox, .sep, .win, .reg 19, .reg 20, .reg 21] (.windowRevokeDrained x1)) ∧
  (∀ x1, Leaves [.evt, .reg 5, .reg 20] (.windowDescriptorRead x1)) ∧
  Leaves [.deferred] .windowViolationClear

/-- The frames of the commands of connections and of scheduling: each line lists the only parts that the command may change (`reg b` is register block b, `regs` every block). -/
def Obligations.FrameOfConnectionsAndScheduling : Prop :=
  (∀ x1, Leaves [.evt, .free, .outbox, .sch, .xpt, .reg 4, .reg 5, .reg 6, .reg 9, .reg 20] (.cmReqRx x1)) ∧
  (∀ x1 x2 x3 x4, Leaves [.cnt, .outbox, .xpt, .reg 21] (.cmRepRx x1 x2 x3 x4)) ∧
  (∀ x1, Leaves [.cnt, .outbox, .xpt, .reg 21] (.cmRtuRx x1)) ∧
  (∀ x1 x2, Leaves [.fsp, .xpt, .reg 4] (.cmRejRx x1 x2)) ∧
  (∀ x1 x2, Leaves [.xpt] (.cmMraRx x1 x2)) ∧
  (∀ x1, Leaves [.cmd, .cmp, .cnt, .evt, .fsp, .outbox, .win, .xpt, .reg 4, .reg 7, .reg 20, .reg 21] (.cmDreqRx x1)) ∧
  (∀ x1, Leaves [.xpt] (.cmDrepRx x1)) ∧
  Leaves [] .cmUnsupportedRx ∧
  (∀ x1 x2, Leaves [.evt, .free, .outbox, .sch, .xpt, .reg 4, .reg 5, .reg 6, .reg 9, .reg 20] (.connectInitiate x1 x2)) ∧
  (∀ x1, Leaves [.evt, .fsp, .outbox, .xpt, .reg 4, .reg 20] (.connectRetryExpiry x1)) ∧
  (∀ x1, Leaves [.outbox, .xpt] (.mraTimerExpiry x1)) ∧
  (∀ x1, Leaves [.outbox, .xpt, .reg 4] (.qpDrainDone x1)) ∧
  (∀ x1, Leaves [.outbox, .xpt, .reg 4] (.qpDrainTimeout x1)) ∧
  (∀ x1, Leaves [.fsp, .win, .xpt, .reg 4] (.qpTimewaitExpiry x1)) ∧
  (∀ x1 x2 x3, Leaves [.cnt, .outbox, .sch, .reg 21] (.egressPick x1 x2 x3)) ∧
  (∀ x1 x2 x3 x4, Leaves [.cmd, .cnt, .outbox, .win, .xpt, .reg 21] (.ingestPullIssue x1 x2 x3 x4)) ∧
  (∀ x1, Leaves [.evt, .gch, .sch, .win, .xpt, .reg 4, .reg 5, .reg 6, .reg 9, .reg 20] (.schParamWrite x1)) ∧
  (∀ x1, Leaves [.evt, .reg 6, .reg 20] (.schParamRead x1)) ∧
  (∀ x1, Leaves [.evt, .reg 6, .reg 20] (.schParamReadLive x1)) ∧
  Leaves [.evt, .sch, .reg 20] .ingestHeldTimeout

/-- The frames of the commands of controllers and sessions: each line lists the only parts that the command may change (`reg b` is register block b, `regs` every block). -/
def Obligations.FrameOfControllers : Prop :=
  (∀ x1 x2 x3 x4 x5 x6 x7 x8, Leaves [.cmd, .cnt, .outbox, .reg 7, .reg 21] (.fabricsConnect x1 x2 x3 x4 x5 x6 x7 x8)) ∧
  (∀ x1 x2 x3, Leaves [.cnt, .deferred, .evt, .outbox, .sep, .reg 19, .reg 21] (.propertyGet x1 x2 x3)) ∧
  (∀ x1 x2 x3 x4, Leaves [.cmd, .cmp, .cnt, .deferred, .evt, .fsp, .outbox, .sep, .win, .reg 7, .reg 19, .reg 20, .reg 21] (.propertySet x1 x2 x3 x4)) ∧
  (∀ x1 x2 x3 x4 x5, Leaves [.cnt, .deferred, .evt, .outbox, .sep, .reg 19, .reg 21] (.identify x1 x2 x3 x4 x5)) ∧
  (∀ x1 x2 x3 x4 x5, Leaves [.cmd, .cnt, .deferred, .evt, .outbox, .sep, .reg 19, .reg 21] (.getLogPage x1 x2 x3 x4 x5)) ∧
  (∀ x1 x2 x3 x4, Leaves [.cmd, .cnt, .deferred, .evt, .fsp, .outbox, .sep, .win, .reg 7, .reg 19, .reg 21] (.abort x1 x2 x3 x4)) ∧
  (∀ x1 x2 x3 x4 x5, Leaves [.cmd, .cnt, .deferred, .evt, .outbox, .sep, .reg 19, .reg 21] (.setFeatures x1 x2 x3 x4 x5)) ∧
  (∀ x1 x2 x3 x4, Leaves [.cnt, .deferred, .evt, .outbox, .sep, .reg 19, .reg 21] (.getFeatures x1 x2 x3 x4)) ∧
  (∀ x1 x2, Leaves [.cmd, .cnt, .deferred, .evt, .outbox, .sep, .reg 19, .reg 21] (.asyncEventRequest x1 x2)) ∧
  (∀ x1 x2 x3 x4 x5, Leaves [.cmd, .cnt, .deferred, .evt, .lay, .outbox, .sep, .reg 19, .reg 20, .reg 21] (.namespaceCreate x1 x2 x3 x4 x5)) ∧
  (∀ x1 x2 x3, Leaves [.cmd, .cnt, .cph, .deferred, .evt, .jnl, .lay, .outbox, .sep, .win, .reg 7, .reg 14, .reg 16, .reg 19, .reg 20, .reg 21] (.namespaceDelete x1 x2 x3)) ∧
  (∀ x1 x2 x3 x4, Leaves [.cmd, .cnt, .cph, .deferred, .evt, .jnl, .lay, .outbox, .sep, .reg 14, .reg 16, .reg 19, .reg 20, .reg 21] (.namespaceResize x1 x2 x3 x4)) ∧
  (∀ x1 x2 x3, Leaves [.cmd, .cnt, .deferred, .evt, .outbox, .sep, .reg 7, .reg 19, .reg 21] (.selfTestShort x1 x2 x3)) ∧
  (∀ x1 x2 x3, Leaves [.axl, .cmd, .cnt, .deferred, .evt, .outbox, .sep, .reg 7, .reg 19, .reg 21] (.selfTestExtended x1 x2 x3)) ∧
  (∀ x1 x2, Leaves [.axl, .cmd, .cnt, .deferred, .evt, .outbox, .sep, .reg 7, .reg 19, .reg 20, .reg 21] (.selfTestAbort x1 x2)) ∧
  (∀ x1, Leaves [.cmd, .evt, .reg 7, .reg 20] (.selfTestDone x1)) ∧
  (∀ x1 x2, Leaves [.cmd, .cnt, .deferred, .evt, .outbox, .sep, .reg 19, .reg 21] (.keepAlive x1 x2)) ∧
  (∀ x1, Leaves [.cmd, .cmp, .cnt, .evt, .fsp, .outbox, .win, .reg 7, .reg 20, .reg 21] (.keepAliveExpiry x1)) ∧
  (∀ x1 x2, Leaves [.cmd, .cnt, .deferred, .evt, .free, .outbox, .sep, .reg 19, .reg 21] (.getChallenge x1 x2)) ∧
  (∀ x1 x2 x3 x4, Leaves [.cmd, .cmp, .cnt, .deferred, .evt, .fsp, .outbox, .sep, .win, .xpt, .reg 4, .reg 7, .reg 19, .reg 20, .reg 21] (.authenticate x1 x2 x3 x4))

/-- The frames of the commands of the I/O commands and their arrival: each line lists the only parts that the command may change (`reg b` is register block b, `regs` every block). -/
def Obligations.FrameOfIo : Prop :=
  (∀ x1 x2, Leaves [.cmd, .cnt, .deferred, .evt, .outbox, .reg 7, .reg 20, .reg 21] (.nvmRead x1 x2)) ∧
  (∀ x1 x2, Leaves [.cmd, .cnt, .deferred, .evt, .outbox, .win, .reg 7, .reg 20, .reg 21] (.nvmWrite x1 x2)) ∧
  (∀ x1 x2 x3 x4 x5, Leaves [.cmd, .cnt, .deferred, .evt, .outbox, .win, .reg 7, .reg 20, .reg 21] (.windowCommit x1 x2 x3 x4 x5)) ∧
  (∀ x1, Leaves [.cmd, .cnt, .deferred, .evt, .fsp, .outbox, .win, .reg 7, .reg 20, .reg 21] (.flush x1)) ∧
  (∀ x1, Leaves [.cmd, .cnt, .deferred, .evt, .outbox, .reg 7, .reg 20, .reg 21] (.writeZeroes x1)) ∧
  (∀ x1 x2 x3, Leaves [.cmd, .cnt, .deferred, .evt, .outbox, .reg 7, .reg 20, .reg 21] (.datasetManagement x1 x2 x3)) ∧
  (∀ x1 x2, Leaves [.cmd, .cnt, .deferred, .evt, .outbox, .win, .reg 7, .reg 20, .reg 21] (.zoneAppend x1 x2)) ∧
  (∀ x1 x2, Leaves [.cmd, .cnt, .deferred, .evt, .outbox, .reg 7, .reg 20, .reg 21] (.zoneClose x1 x2)) ∧
  (∀ x1 x2, Leaves [.cmd, .cnt, .deferred, .evt, .outbox, .reg 7, .reg 20, .reg 21] (.zoneFinish x1 x2)) ∧
  (∀ x1 x2, Leaves [.cmd, .cnt, .deferred, .evt, .outbox, .reg 7, .reg 20, .reg 21] (.zoneOpen x1 x2)) ∧
  (∀ x1 x2, Leaves [.cmd, .cnt, .deferred, .evt, .outbox, .reg 7, .reg 20, .reg 21] (.zoneReset x1 x2)) ∧
  (∀ x1 x2 x3, Leaves [.cmd, .cnt, .deferred, .evt, .outbox, .reg 7, .reg 20, .reg 21] (.zoneManagementReceive x1 x2 x3)) ∧
  (∀ x1, Leaves [.cmd, .cnt, .cph, .deferred, .evt, .fov, .free, .fsp, .gch, .jnl, .lay, .outbox, .pwr, .sch, .win, .reg 7, .reg 8, .reg 9, .reg 13, .reg 14, .reg 16, .reg 20, .reg 21] (.commandAdmit x1))

/-- The frames of the commands of Frogspawn and the cache: each line lists the only parts that the command may change (`reg b` is register block b, `regs` every block). -/
def Obligations.FrameOfFrogspawnAndCache : Prop :=
  (∀ x1 x2 x3, Leaves [.cnt, .fsp, .outbox, .reg 8, .reg 21] (.fspAllocate x1 x2 x3)) ∧
  (∀ x1 x2, Leaves [.evt, .fsp, .outbox, .reg 8, .reg 20] (.fspFree x1 x2)) ∧
  (∀ x1 x2, Leaves [.evt, .fsp, .outbox, .reg 8, .reg 20] (.fspIncref x1 x2)) ∧
  (∀ x1 x2, Leaves [.evt, .fsp, .reg 8, .reg 20] (.fspCacheRefill x1 x2)) ∧
  (∀ x1, Leaves [.fsp] (.fspCacheWriteback x1)) ∧
  Leaves [.deferred] .fspClear ∧
  Leaves [.deferred, .reg 9] .cacheEnable ∧
  Leaves [.deferred, .reg 9] .cacheDisable ∧
  Leaves [.evt, .gch, .sal, .reg 9, .reg 10, .reg 20] .cacheDrainDone ∧
  (∀ x1 x2 x3 x4, Leaves [.cnt, .evt, .gch, .lay, .sal, .reg 9, .reg 20, .reg 21] (.cacheFillDone x1 x2 x3 x4)) ∧
  (∀ x1, Leaves [.evt, .sal, .reg 10, .reg 20] (.salClean x1)) ∧
  (∀ x1, Leaves [.evt, .sal, .reg 10, .reg 20] (.salInvalidate x1)) ∧
  (∀ x1, Leaves [.evt, .sal, .reg 10, .reg 20] (.salCleanInvalidate x1)) ∧
  (∀ x1, Leaves [.evt, .sal, .reg 10, .reg 20] (.salPin x1)) ∧
  (∀ x1, Leaves [.evt, .sal, .reg 10, .reg 20] (.salUnpin x1)) ∧
  Leaves [.cnt, .evt, .gch, .sal, .reg 9, .reg 10, .reg 20, .reg 21] .salOperationStart ∧
  Leaves [.axl, .cnt, .evt, .gch, .jnl, .lay, .outbox, .sal, .reg 9, .reg 10, .reg 13, .reg 14, .reg 16, .reg 20, .reg 21] .salWriteBackIssue ∧
  Leaves [.cnt, .evt, .sal, .reg 10, .reg 20, .reg 21] .salOperationDone

/-- The frames of the commands of compression and the cipher block: each line lists the only parts that the command may change (`reg b` is register block b, `regs` every block). -/
def Obligations.FrameOfCompressionAndCipher : Prop :=
  (∀ x1 x2 x3, Leaves [.cmd, .cmp, .cnt, .cph, .evt, .fsp, .jnl, .lay, .outbox, .win, .reg 7, .reg 8, .reg 12, .reg 20, .reg 21] (.compressBlockStart x1 x2 x3)) ∧
  (∀ x1 x2, Leaves [.cnt, .cph, .evt, .fsp, .win, .reg 8, .reg 11, .reg 12, .reg 20, .reg 21] (.compressBlockDone x1 x2)) ∧
  (∀ x1, Leaves [.win] (.spillReadbackDone x1)) ∧
  (∀ x1 x2, Leaves [.cmd, .cmp, .cnt, .cph, .evt, .fsp, .jnl, .lay, .outbox, .win, .reg 7, .reg 12, .reg 20, .reg 21] (.decompressBlockStart x1 x2)) ∧
  (∀ x1 x2, Leaves [.cmd, .cmp, .cnt, .cph, .evt, .fsp, .jnl, .lay, .outbox, .win, .reg 7, .reg 11, .reg 12, .reg 13, .reg 16, .reg 20, .reg 21] (.decompressBlockDone x1 x2)) ∧
  Leaves [.deferred] .cmpVerifyClear ∧
  (∀ x1 x2 x3, Leaves [.cnt, .cph, .deferred, .evt, .lay, .outbox, .sep, .reg 19, .reg 20, .reg 21] (.keyLoad x1 x2 x3)) ∧
  (∀ x1 x2 x3, Leaves [.cnt, .deferred, .evt, .lay, .outbox, .sep, .reg 19, .reg 21] (.keyDestroy x1 x2 x3)) ∧
  (∀ x1 x2 x3 x4 x5, Leaves [.cnt, .deferred, .evt, .lay, .outbox, .sep, .reg 19, .reg 21] (.keyActivate x1 x2 x3 x4 x5)) ∧
  Leaves [.cph, .evt, .reg 12, .reg 20] .resealDone ∧
  (∀ x1 x2 x3 x4 x5 x6 x7 x8 x9, Leaves [.cnt, .deferred, .dram, .evt, .outbox, .sep, .reg 19, .reg 21] (.cipherJob x1 x2 x3 x4 x5 x6 x7 x8 x9)) ∧
  (∀ x1 x2, Leaves [.cnt, .cph, .evt, .lay, .reg 12, .reg 20, .reg 21] (.fallbackKeyLoad x1 x2)) ∧
  (∀ x1, Leaves [.evt, .reg 12, .reg 20] (.keySlotRead x1)) ∧
  Leaves [.cph, .fov, .reg 12] .ivEpochDurable

/-- The frames of the commands of reads, layout, the journal and Axolotl: each line lists the only parts that the command may change (`reg b` is register block b, `regs` every block). -/
def Obligations.FrameOfStorage : Prop :=
  (∀ x1 x2, Leaves [.cmd, .cmp, .cnt, .cph, .deferred, .evt, .fsp, .jnl, .lay, .outbox, .win, .reg 7, .reg 12, .reg 13, .reg 16, .reg 20, .reg 21] (.memberReadDone x1 x2)) ∧
  (∀ x1 x2 x3 x4, Leaves [.axl, .cmd, .cnt, .cph, .deferred, .evt, .fov, .fsp, .gch, .jnl, .lay, .outbox, .sal, .win, .reg 7, .reg 9, .reg 13, .reg 14, .reg 16, .reg 20, .reg 21] (.versionPlace x1 x2 x3 x4)) ∧
  (∀ x1 x2, Leaves [.axl, .cnt, .evt, .gch, .jnl, .lay, .outbox, .sal, .reg 9, .reg 13, .reg 14, .reg 16, .reg 20, .reg 21] (.gatherHoldExpiry x1 x2)) ∧
  (∀ x1 x2, Leaves [.axl, .cnt, .evt, .gch, .jnl, .lay, .outbox, .sal, .reg 9, .reg 13, .reg 14, .reg 16, .reg 20, .reg 21] (.closeHoldExpiry x1 x2)) ∧
  (∀ x1 x2 x3, Leaves [.axl, .cnt, .evt, .gch, .jnl, .lay, .outbox, .sal, .reg 9, .reg 13, .reg 14, .reg 16, .reg 20, .reg 21] (.paritySlotWaitTimeout x1 x2 x3)) ∧
  (∀ x1 x2 x3 x4, Leaves [.axl, .cmd, .cmp, .cnt, .cph, .deferred, .drv, .evt, .fov, .fsp, .gch, .jnl, .lay, .outbox, .sal, .win, .reg 7, .reg 9, .reg 13, .reg 14, .reg 16, .reg 20, .reg 21] (.stripeWriteDone x1 x2 x3 x4)) ∧
  (∀ x1, Leaves [.lay, .reg 13] (.compactionStart x1)) ∧
  (∀ x1, Leaves [.cnt, .deferred, .evt, .fov, .lay, .reg 20, .reg 21] (.setReadyTimeout x1)) ∧
  (∀ x1, Leaves [.deferred] (.setIdleTimeout x1)) ∧
  (∀ x1 x2, Leaves [.deferred, .evt, .fov, .lay, .outbox, .pwr, .reg 13, .reg 20] (.setPowerOnRequest x1 x2)) ∧
  (∀ x1 x2, Leaves [.deferred, .evt, .lay, .reg 13, .reg 20] (.setStopRequest x1 x2)) ∧
  (∀ x1, Leaves [.deferred, .lay] (.setStopWritesDone x1)) ∧
  Leaves [.cnt, .lay, .outbox, .reg 21] .deltaBatchWrite ∧
  Leaves [.lay, .reg 13] .checkpointStart ∧
  Leaves [.cnt, .lay, .outbox, .reg 13, .reg 21] .checkpointDone ∧
  Leaves [.cmd, .cnt, .cph, .deferred, .evt, .fov, .fsp, .jnl, .lay, .outbox, .sep, .win, .reg 7, .reg 12, .reg 13, .reg 14, .reg 16, .reg 19, .reg 20, .reg 21] .metadataWriteDone ∧
  (∀ x1 x2 x3, Leaves [.axl, .cmd, .cnt, .cph, .deferred, .drv, .evt, .fov, .fsp, .gch, .jnl, .lay, .outbox, .win, .reg 7, .reg 9, .reg 13, .reg 14, .reg 16, .reg 20, .reg 21] (.journalWriteDone x1 x2 x3)) ∧
  (∀ x1, Leaves [.evt, .jnl, .reg 20] (.anchorReseedTimeout x1)) ∧
  (∀ x1 x2, Leaves [.cfg, .cmd, .cnt, .cph, .deferred, .evt, .fov, .fsp, .gch, .jnl, .lay, .outbox, .pwr, .sep, .reg 1, .reg 7, .reg 8, .reg 9, .reg 12, .reg 13, .reg 14, .reg 16, .reg 19, .reg 20, .reg 21] (.replayDone x1 x2)) ∧
  (∀ x1, Leaves [.deferred] (.resyncWindowExpiry x1)) ∧
  (∀ x1 x2, Leaves [.axl, .cnt, .deferred, .evt, .fov, .gch, .lay, .outbox, .pwr, .reg 9, .reg 16, .reg 20, .reg 21] (.walkRowIssue x1 x2)) ∧
  (∀ x1 x2 x3, Leaves [.axl, .cmd, .cnt, .deferred, .evt, .lay, .outbox, .reg 7, .reg 13, .reg 15, .reg 16, .reg 20, .reg 21] (.walkRowDone x1 x2 x3)) ∧
  (∀ x1 x2 x3 x4, Leaves [.axl, .cnt, .deferred, .drv, .evt, .fov, .lay, .outbox, .pwr, .sep, .reg 13, .reg 15, .reg 19, .reg 20, .reg 21] (.reshapeStart x1 x2 x3 x4)) ∧
  Leaves [.axl, .cnt, .deferred, .outbox, .reg 21] .reshapeBatchDone ∧
  (∀ x1 x2, Leaves [.axl, .cnt, .deferred, .evt, .lay, .outbox, .sep, .reg 15, .reg 19, .reg 20, .reg 21] (.reshapeCancel x1 x2)) ∧
  (∀ x1 x2 x3, Leaves [.cnt, .deferred, .evt, .outbox, .sep, .reg 19, .reg 21] (.memberFail x1 x2 x3))

/-- The frames of the commands of the drives: each line lists the only parts that the command may change (`reg b` is register block b, `regs` every block). -/
def Obligations.FrameOfDrives : Prop :=
  (∀ x1, Leaves [.deferred, .drv] (.drivePerstRelease x1)) ∧
  (∀ x1 x2 x3, Leaves [.deferred, .drv, .evt, .reg 20] (.driveLinkUp x1 x2 x3)) ∧
  (∀ x1, Leaves [.deferred, .drv] (.driveLinkTimeout x1)) ∧
  (∀ x1, Leaves [.drv] (.drivePerstRetryExpiry x1)) ∧
  (∀ x1 x2, Leaves [.axl, .deferred, .drv, .lay, .outbox, .reg 13] (.driveSetupStepDone x1 x2)) ∧
  (∀ x1 x2, Leaves [.deferred, .drv, .outbox] (.driveFormatDone x1 x2)) ∧
  (∀ x1, Leaves [.deferred, .drv, .evt, .outbox, .reg 16, .reg 20] (.driveInboundViolation x1)) ∧
  (∀ x1, Leaves [.deferred, .drv, .evt, .outbox, .reg 16, .reg 20] (.driveBadTlp x1)) ∧
  (∀ x1, Leaves [.deferred, .drv, .evt, .outbox, .reg 20] (.driveLinkDown x1)) ∧
  (∀ x1, Leaves [.deferred, .drv, .evt, .outbox, .reg 16, .reg 20] (.driveCompletionTimeout x1)) ∧
  (∀ x1 x2, Leaves [.deferred, .drv, .evt, .outbox, .reg 16, .reg 20] (.memberCommandTimeout x1 x2)) ∧
  (∀ x1, Leaves [.deferred] (.ladderStepTimeout x1)) ∧
  (∀ x1 x2 x3 x4, Leaves [.deferred, .drv, .evt, .outbox, .reg 20] (.smartPoll x1 x2 x3 x4)) ∧
  (∀ x1 x2, Leaves [.deferred, .drv, .evt, .outbox, .reg 20] (.cstsPoll x1 x2)) ∧
  (∀ x1 x2 x3, Leaves [.deferred, .drv, .evt, .outbox, .reg 20] (.driveAsyncEvent x1 x2 x3)) ∧
  (∀ x1 x2 x3, Leaves [.cnt, .deferred, .drv, .evt, .outbox, .sep, .reg 19, .reg 21] (.driveRelease x1 x2 x3)) ∧
  (∀ x1, Leaves [.deferred] (.driveReadyTimeout x1)) ∧
  (∀ x1, Leaves [.deferred] (.memberAbortDone x1))

/-- The frames of the commands of slots and feeds: each line lists the only parts that the command may change (`reg b` is register block b, `regs` every block). -/
def Obligations.FrameOfPower : Prop :=
  (∀ x1, Leaves [.pwr] (.slotPresentDebounced x1)) ∧
  (∀ x1, Leaves [.cnt, .deferred, .drv, .evt, .pwr, .reg 17, .reg 20, .reg 21] (.slotRemoved x1)) ∧
  (∀ x1, Leaves [.deferred, .evt, .pwr, .reg 20] (.insertDelayExpiry x1)) ∧
  (∀ x1, Leaves [.pwr] (.slotChannelStart x1)) ∧
  (∀ x1, Leaves [.cnt, .drv, .evt, .outbox, .pwr, .reg 20, .reg 21] (.slotPowerGood x1)) ∧
  (∀ x1, Leaves [.cfg, .cmd, .cnt, .deferred, .drv, .evt, .fov, .outbox, .pwr, .sep, .reg 1, .reg 7, .reg 17, .reg 19, .reg 20, .reg 21] (.faultTimerExpiry x1)) ∧
  (∀ x1, Leaves [.cfg, .cmd, .cnt, .deferred, .drv, .evt, .fov, .outbox, .pwr, .sep, .reg 1, .reg 7, .reg 17, .reg 19, .reg 20, .reg 21] (.efuseTrip x1)) ∧
  (∀ x1, Leaves [.cnt, .deferred, .drv, .evt, .outbox, .pwr, .reg 17, .reg 20, .reg 21] (.slotOutputUv x1)) ∧
  (∀ x1 x2, Leaves [.deferred, .drv, .evt, .outbox, .pwr, .reg 20] (.slotInputOutOfWindow x1 x2)) ∧
  (∀ x1, Leaves [.cnt, .pwr, .reg 21] (.brownoutHoldStart x1)) ∧
  (∀ x1 x2, Leaves [.deferred, .drv, .evt, .outbox, .pwr, .reg 20] (.brownoutHoldExpiry x1 x2)) ∧
  (∀ x1, Leaves [.deferred, .evt, .pwr, .reg 20] (.retryDelayExpiry x1)) ∧
  (∀ x1, Leaves [.pwr] (.retryCountClearExpiry x1)) ∧
  (∀ x1 x2, Leaves [.deferred, .evt, .pwr, .reg 20] (.slotClear x1 x2)) ∧
  (∀ x1 x2, Leaves [.deferred, .drv, .evt, .fov, .outbox, .pwr, .reg 20] (.slotCycle x1 x2)) ∧
  (∀ x1, Leaves [.deferred, .evt, .fov, .outbox, .pwr, .reg 20] (.slotCycleExpiry x1)) ∧
  (∀ x1 x2, Leaves [.deferred, .evt, .reg 20] (.slotPeakClear x1 x2)) ∧
  (∀ x1, Leaves [.deferred, .drv, .evt, .fov, .outbox, .pwr, .reg 20] (.slotShutdownDone x1)) ∧
  (∀ x1, Leaves [.deferred, .drv, .evt, .pwr, .reg 20] (.slotStopAckTimeout x1)) ∧
  (∀ x1 x2, Leaves [.evt, .pwr, .reg 20] (.slotHeldCheck x1 x2)) ∧
  (∀ x1 x2 x3, Leaves [.evt, .pwr, .reg 20] (.slotDischargeCheck x1 x2 x3)) ∧
  (∀ x1, Leaves [.pwr] (.feedPresentDebounced x1)) ∧
  (∀ x1, Leaves [.cnt, .evt, .pwr, .reg 20, .reg 21] (.feedInsertDelayExpiry x1)) ∧
  (∀ x1, Leaves [.cnt, .evt, .pwr, .reg 20, .reg 21] (.feedReturnHoldExpiry x1)) ∧
  (∀ x1, Leaves [.cfg, .cmd, .cnt, .deferred, .evt, .fov, .outbox, .pwr, .sep, .reg 1, .reg 7, .reg 17, .reg 19, .reg 20, .reg 21] (.feedFailureTransfer x1)) ∧
  Leaves [.cnt, .evt, .pwr, .reg 20, .reg 21] .feedDeadTimeExpiry ∧
  (∀ x1, Leaves [.cnt, .evt, .pwr, .reg 20, .reg 21] (.feedPowerGood x1)) ∧
  Leaves [.cfg, .cmd, .cnt, .deferred, .evt, .fov, .outbox, .pwr, .sep, .reg 1, .reg 7, .reg 17, .reg 19, .reg 20, .reg 21] .supplyWarningAssert ∧
  Leaves [.evt, .outbox, .pwr, .reg 20] .supplyWarningRelease ∧
  (∀ x1, Leaves [.pwr] (.feedInputOutOfWindow x1)) ∧
  (∀ x1, Leaves [.pwr] (.feedRemoved x1))

/-- The frames of the commands of fail-over: each line lists the only parts that the command may change (`reg b` is register block b, `regs` every block). -/
def Obligations.FrameOfFailover : Prop :=
  (∀ x1 x2, Leaves [.cnt, .deferred, .evt, .fov, .outbox, .sep, .reg 19, .reg 21] (.handOver x1 x2)) ∧
  (∀ x1 x2, Leaves [.fov, .free, .outbox] (.pawnChallengeRx x1 x2)) ∧
  (∀ x1 x2 x3, Leaves [.cmd, .cmp, .cnt, .evt, .fov, .fsp, .outbox, .win, .xpt, .reg 4, .reg 7, .reg 18, .reg 20, .reg 21] (.pawnProofRx x1 x2 x3)) ∧
  (∀ x1, Leaves [.cmd, .cmp, .cnt, .evt, .fov, .fsp, .outbox, .win, .xpt, .reg 4, .reg 7, .reg 18, .reg 20, .reg 21] (.witnessProofTimeout x1)) ∧
  (∀ x1, Leaves [.evt, .fov, .free, .outbox, .sch, .xpt, .reg 4, .reg 5, .reg 6, .reg 9, .reg 20] (.witnessRetryExpiry x1)) ∧
  (∀ x1, Leaves [.evt, .fov, .reg 20] (.witnessConnectionLost x1)) ∧
  (∀ x1 x2 x3, Leaves [.fov, .outbox] (.pawnRequestRx x1 x2 x3)) ∧
  (∀ x1, Leaves [.fov, .outbox] (.contentionWaitExpiry x1)) ∧
  (∀ x1 x2, Leaves [.axl, .cmd, .cnt, .deferred, .drv, .evt, .fov, .lay, .outbox, .pwr, .reg 7, .reg 15, .reg 18, .reg 20, .reg 21] (.pawnGrantRx x1 x2)) ∧
  (∀ x1 x2, Leaves [.fov] (.pawnDenyRx x1 x2)) ∧
  (∀ x1, Leaves [.fov, .outbox] (.denyWaitExpiry x1)) ∧
  (∀ x1 x2 x3, Leaves [.fov] (.pawnReleaseRx x1 x2 x3)) ∧
  Leaves [.fov, .outbox] .pawnRenewTimer ∧
  (∀ x1, Leaves [.fov, .free, .outbox] (.pawnResendExpiry x1)) ∧
  Leaves [.fov, .outbox] .minorityBackoffExpiry ∧
  Leaves [.axl, .cfg, .cmd, .cmp, .cnt, .cph, .deferred, .drv, .evt, .fov, .fsp, .jnl, .lay, .outbox, .pwr, .sep, .win, .reg 1, .reg 7, .reg 18, .reg 19, .reg 20, .reg 21] .pawnCutoff ∧
  Leaves [.axl, .cfg, .cmd, .cmp, .cnt, .cph, .deferred, .drv, .evt, .fov, .fsp, .jnl, .lay, .outbox, .pwr, .sep, .win, .reg 1, .reg 7, .reg 18, .reg 19, .reg 20, .reg 21] .pawnExpiry ∧
  (∀ x1 x2, Leaves [.evt, .fov, .reg 20] (.helloRx x1 x2)) ∧
  (∀ x1 x2, Leaves [.axl, .cfg, .cmd, .cmp, .cnt, .cph, .deferred, .drv, .evt, .fov, .fsp, .jnl, .lay, .outbox, .pwr, .sep, .win, .reg 1, .reg 7, .reg 14, .reg 18, .reg 19, .reg 20, .reg 21] (.heartbeatRx x1 x2)) ∧
  Leaves [.fov, .outbox] .heartbeatTimer ∧
  Leaves [.cnt, .evt, .fov, .outbox, .sep, .reg 19, .reg 20, .reg 21] .peerLost ∧
  (∀ x1 x2 x3, Leaves [.cnt, .evt, .fov, .lay, .outbox, .reg 20, .reg 21] (.mapBulkRx x1 x2 x3)) ∧
  (∀ x1 x2, Leaves [.cnt, .fov, .lay, .outbox, .reg 21] (.mapDeltaRx x1 x2)) ∧
  (∀ x1 x2, Leaves [.cnt, .fov, .jnl, .lay, .outbox, .reg 21] (.trailerRx x1 x2)) ∧
  (∀ x1 x2, Leaves [.axl, .cmd, .cnt, .cph, .deferred, .evt, .fov, .jnl, .lay, .outbox, .reg 12, .reg 13, .reg 20, .reg 21] (.recordRx x1 x2)) ∧
  (∀ x1, Leaves [.cnt, .fov, .outbox, .reg 21] (.nackRx x1)) ∧
  (∀ x1, Leaves [.deferred, .evt, .fov, .outbox, .pwr, .reg 20] (.slotDemandRx x1)) ∧
  Leaves [.fov, .outbox, .pwr] .slotDemandTimer ∧
  (∀ x1, Leaves [.deferred, .drv, .evt, .pwr, .reg 20] (.slotAckRx x1)) ∧
  (∀ x1 x2, Leaves [.deferred] (.healthRx x1 x2)) ∧
  (∀ x1 x2, Leaves [.fov, .outbox] (.yieldRx x1 x2)) ∧
  Leaves [.fov, .jnl, .lay, .reg 14] .recoveryHelloTimeout ∧
  (∀ x1 x2 x3 x4, Leaves [.cmd, .deferred, .evt, .fov, .outbox, .pwr, .reg 7, .reg 11, .reg 12, .reg 18, .reg 20] (.fitnessTestDone x1 x2 x3 x4)) ∧
  Leaves [.axl, .cfg, .cmd, .cmp, .cnt, .cph, .deferred, .drv, .evt, .fov, .fsp, .jnl, .lay, .outbox, .pwr, .sep, .win, .reg 1, .reg 7, .reg 18, .reg 19, .reg 20, .reg 21] .handOverDrainTimeout ∧
  Leaves [.lay] .checkpointFenceExpiry ∧
  Leaves [.evt, .fov, .reg 20] .pairUnserviceableTimer ∧
  (∀ x1 x2 x3, Leaves [.fov, .lay, .outbox] (.replicaExtentSend x1 x2 x3)) ∧
  (∀ x1, Leaves [.evt, .fov, .reg 20] (.replicaDownTimeout x1))

/-- The frames of the commands of the endpoint, of counters and of registers: each line lists the only parts that the command may change (`reg b` is register block b, `regs` every block). -/
def Obligations.FrameOfEndpointCountersAndRegisters : Prop :=
  (∀ x1 x2 x3 x4 x5, Leaves [.cnt, .evt, .outbox, .sep, .reg 19, .reg 21] (.flashWrite x1 x2 x3 x4 x5)) ∧
  (∀ x1, Leaves [.cmd, .evt, .sep, .reg 4, .reg 5, .reg 6, .reg 10, .reg 12, .reg 19, .reg 20, .reg 21] (.endpointReset x1)) ∧
  (∀ x1 x2 x3, Leaves [.evt, .sep, .reg 20] (.endpointLinkUp x1 x2 x3)) ∧
  (∀ x1, Leaves [.sep] (.powerStateChange x1)) ∧
  (∀ x1 x2, Leaves [.sep, .reg 19] (.msixUnmask x1 x2)) ∧
  (∀ x1, Leaves [.cnt, .evt, .outbox, .sep, .reg 19, .reg 21] (.mailboxSubmit x1)) ∧
  Leaves [.cfg, .outbox, .sep] .mailboxDmaDone ∧
  (∀ x1, Leaves [.cfg, .cnt, .evt, .outbox, .sep, .reg 19, .reg 21] (.flashEraseDone x1)) ∧
  (∀ x1, Leaves [.cfg, .cnt, .evt, .outbox, .sep, .reg 19, .reg 21] (.flashPageProgramDone x1)) ∧
  Leaves [.deferred, .sep, .reg 12] .functionLevelReset ∧
  Leaves [.sep] .flrDmaQuiesce ∧
  Leaves [.cmd, .evt, .sep, .reg 4, .reg 5, .reg 6, .reg 10, .reg 12, .reg 19, .reg 20, .reg 21] .flrComplete ∧
  (∀ x1, Leaves [.evt, .sep, .reg 12, .reg 19, .reg 20] (.endpointContain x1)) ∧
  Leaves [.deferred] .containmentRelease ∧
  Leaves [.sep] .sepPerstRelease ∧
  (∀ x1 x2 x3, Leaves [.cmd, .cnt, .deferred, .evt, .outbox, .sep, .reg 19, .reg 21] (.eventRead x1 x2 x3)) ∧
  (∀ x1 x2 x3, Leaves [.cnt, .deferred, .evt, .outbox, .sep, .reg 19, .reg 21] (.counterRead x1 x2 x3)) ∧
  (∀ x1 x2, Leaves [.evt, .reg 20] (.eventRingHeadWrite x1 x2)) ∧
  Leaves [.cnt, .free, .reg 21] .snapshotPassDone ∧
  (∀ x1, Leaves [.deferred, .evt, .reg 20, .reg 21] (.counterPreload x1)) ∧
  (∀ x1, Leaves [.reg 21] (.counterLiveRead x1)) ∧
  (∀ x1 x2, Leaves [.cnt, .reg 21] (.counterOverflow x1 x2)) ∧
  (∀ x1, Leaves [.cnt, .evt, .reg 20, .reg 21] (.counterSampleRead x1)) ∧
  (∀ x1 x2, Leaves [.evt, .reg 20, .reg 21] (.bwWindowWrite x1 x2)) ∧
  (∀ x1 x2 x3 x4, Leaves [.axl, .cfg, .cmd, .cmp, .cnt, .cph, .deferred, .dram, .drv, .eth, .evt, .fov, .free, .fsp, .gch, .idn, .jnl, .lay, .outbox, .pwr, .regs, .sal, .sch, .sep, .trn, .win, .xpt] (.registerWrite x1 x2 x3 x4)) ∧
  (∀ x1 x2 x3 x4, Leaves [.axl, .cfg, .cmd, .cmp, .cnt, .cph, .deferred, .dram, .drv, .eth, .evt, .fov, .free, .fsp, .gch, .idn, .jnl, .lay, .outbox, .pwr, .regs, .sal, .sch, .sep, .trn, .win, .xpt] (.registerSequence x1 x2 x3 x4))

/-- A write to RWL fields after boot lock is ignored with the event, and a write of their present values is no write (R15). -/
def Obligations.LockedFieldsAreKept : Prop :=
  (∀ (s : State) (w : Writer) (off n v : Nat), s.inReset = false → accessOk off n = true → s.cfg.locked = true →
    ((fieldsAt off n).all fun x => decide (x.1.acc = .rwl) && s.fldPresent x.1 x.2.1) = true →
    ((fieldsAt off n).any fun x => splice (x.1.key x.2.1 x.2.2) x.1.width off n v (s.rd (x.1.onPath w) x.2.1 x.2.2) != s.rd (x.1.onPath w) x.2.1 x.2.2) = true →
    Completes (.registerWrite w off n v) s fun t => t = s.violation off (writerCode w)) ∧
  (∀ (s : State) (w : Writer) (off n v : Nat), s.inReset = false → accessOk off n = true → s.cfg.locked = true →
    ((fieldsAt off n).all fun x => decide (x.1.acc = .rwl) && s.fldPresent x.1 x.2.1) = true →
    ((fieldsAt off n).any fun x => splice (x.1.key x.2.1 x.2.2) x.1.width off n v (s.rd (x.1.onPath w) x.2.1 x.2.2) != s.rd (x.1.onPath w) x.2.1 x.2.2) = false →
    Completes (.registerWrite w off n v) s fun t => t = s)

/-- ABORT cancels a pending commit, leaves the shadow contents, and is ignored where no commit is pending (R67). -/
def Obligations.AbortCancelsACommit : Prop :=
  (∀ (s : State) (w : Writer) (b : BankId), s.inReset = false → w ≠ .endpoint → bankUnit b < 8 → s.bankBit b BankBit.commit = true →
    Completes (.bankAbort w b) s fun t => t.bankBit b BankBit.commit = false ∧ t = { s with regs := t.regs } ∧
      ∀ k, k ≠ Fld.key { bankCtl b with lo := BankBit.commit } (bankUnit b) 0 → tget t.regs k = tget s.regs k) ∧
  (∀ (s : State) (w : Writer) (b : BankId), s.inReset = false → w ≠ .endpoint → bankUnit b < 8 → s.rd { bankCtl b with lo := BankBit.commit } (bankUnit b) 0 = 0 →
    Completes (.bankAbort w b) s fun t => t.rd { bankCtl b with lo := BankBit.commit } (bankUnit b) 0 = 0 ∧ t = { s with regs := t.regs } ∧
      ∀ k, k ≠ Fld.key { bankCtl b with lo := BankBit.commit } (bankUnit b) 0 → tget t.regs k = tget s.regs k) ∧
  (∀ (s : State) (b : BankId), s.inReset = false → bankUnit b < 8 → Completes (.bankAbort .endpoint b) s fun t => t = s.violation (bankOffset b) 0)

/-- A packet whose QPN names an index in RESET or another generation is dropped without a NAK and counted (R159). -/
def Obligations.PacketsWithoutAQueuePair : Prop :=
  (∀ (s : State) (p : Pkt) (pos : PktPos) (imm : Option Nat) (rkey va len : Nat) (l : List Byte), p.unit < 16 → s.unitOn p.unit = true → s.carries p.unit = true → p.lastCycles = false →
    (s.qp? (p.qpn % 65536)).all (fun q => qpnOf q.gen (p.qpn % 65536) != p.qpn) = true →
    (∀ i ∈ [Instr.sendRx p pos imm, .rdmaWriteRx p pos rkey va imm l, .rdmaReadRequestRx p rkey va len, .rdmaReadResponseRx p pos l, .sendWithInvalidateRx p],
      Completes i s fun t => t.outbox = s.outbox ∧ t.xpt = s.xpt ∧ t.win = s.win ∧ t.dram = s.dram ∧ t.rd Reg.XPT_BAD_QPN = min (2 ^ 32 - 1) (s.rd Reg.XPT_BAD_QPN + 1))) ∧
  (∀ (s : State) (qpn psn wait : Nat) (rx tx : Stamp) (c : NakCode), s.inReset = false → (s.qp? (qpn % 65536)).all (fun q => qpnOf q.gen (qpn % 65536) != qpn) = true →
    (∀ i ∈ [Instr.ackRx qpn psn rx tx, .nakRx qpn psn c, .rnrNakRx qpn psn wait, .cnpRx qpn],
      Completes i s fun t => t.outbox = s.outbox ∧ t.xpt = s.xpt ∧ t.win = s.win ∧ t.dram = s.dram ∧ t.rd Reg.XPT_BAD_QPN = min (2 ^ 32 - 1) (s.rd Reg.XPT_BAD_QPN + 1)))

/-- Outside SAFE_HOLD the enrolment registers ignore writes, with the event, and nothing is enrolled or revoked (R112). -/
def Obligations.EnrolmentOnlyInSafeHold : Prop :=
  (∀ (s : State) (w : Writer), s.inReset = false → s.cfg.state ≠ .safeHold → Completes (.ownerEnrol w) s fun t => t.idn = s.idn ∧ Raises s t Ev.configurationViolation 2 0) ∧
  (∀ (s : State) (w : Writer), s.inReset = false → s.cfg.state ≠ .safeHold → Completes (.ownerRevoke w) s fun t => t.idn = s.idn ∧ Raises s t Ev.configurationViolation 2 0) ∧
  (∀ (s : State) (w : Writer) (j v : Nat), s.inReset = false → s.cfg.state ≠ .safeHold → j < 16 →
    Completes (.registerWrite w (Reg.IDN_ENROL_KEY.off + 4 * j) 4 v) s fun t => t = s.violation (Reg.IDN_ENROL_KEY.off + 4 * j) (writerCode w)) ∧
  (∀ (s : State) (w : Writer) (j v : Nat), s.inReset = false → s.cfg.state ≠ .safeHold → j < 8 →
    Completes (.registerWrite w (Reg.IDN_ENROL_SECRET.off + 4 * j) 4 v) s fun t => t = s.violation (Reg.IDN_ENROL_SECRET.off + 4 * j) (writerCode w)) ∧
  (∀ (s : State) (w : Writer) (j v : Nat), s.inReset = false → s.cfg.state ≠ .safeHold → j < 32 →
    Completes (.registerWrite w (Reg.IDN_ENROL_SIG.off + 4 * j) 4 v) s fun t => t = s.violation (Reg.IDN_ENROL_SIG.off + 4 * j) (writerCode w)) ∧
  (∀ (s : State) (w : Writer) (v : Nat), s.inReset = false → s.cfg.state ≠ .safeHold →
    Completes (.registerWrite w Reg.IDN_ENROL_CTL_SLOT.off 4 v) s fun t => t = s.violation Reg.IDN_ENROL_CTL_SLOT.off (writerCode w))

/-- A management session starts unauthenticated, and until it authenticates every command but the seven named ends with Access Denied (R254). -/
def Obligations.UnauthenticatedSessions : Prop :=
  (∀ (s : State) (qp cid hostnqn sqsize kato c : Nat) (q : Qp), s.qp? qp = some q → q.st = .rts → q.service = 1 → s.queueOf qp = none → 2 ≤ sqsize → sqsize ≤ 32 →
    1000 ≤ kato → kato ≤ 3600000 → s.freeCtrl = some c →
    Completes (.fabricsConnect qp cid none 1 hostnqn 0 sqsize kato) s fun t => (t.ctrlOf c).map (fun x => (x.mgmt, x.roles)) = some (true, none)) ∧
  (∀ (s : State) (ctrl cid : Nat) (c : Ctrl), s.ctrlOf ctrl = some c → c.mgmt = true → c.roles = none → (isMailbox ctrl = true → s.sep.locked = false ∧ s.cfg.state ≠ .safeHold) →
    s.gate ctrl .always = .pass ∧ s.gate ctrl .mgmtOpen = .pass ∧
    (∀ lid offset dwords, Denied s ctrl cid (.getLogPage ctrl cid lid offset dwords)) ∧ (∀ qp target, Denied s ctrl cid (.abort ctrl cid qp target)) ∧
    (∀ fid value save, Denied s ctrl cid (.setFeatures ctrl cid fid value save)) ∧ (∀ fid sel, Denied s ctrl cid (.getFeatures ctrl cid fid sel)) ∧
    Denied s ctrl cid (.asyncEventRequest ctrl cid) ∧
    (∀ csi lba size, Denied s ctrl cid (.namespaceCreate ctrl cid csi lba size)) ∧ (∀ nsid, Denied s ctrl cid (.namespaceDelete ctrl cid nsid)) ∧
    (∀ nsid size, Denied s ctrl cid (.namespaceResize ctrl cid nsid size)) ∧
    (∀ nsid, Denied s ctrl cid (.selfTestShort ctrl cid nsid)) ∧ (∀ nsid, Denied s ctrl cid (.selfTestExtended ctrl cid nsid)) ∧ Denied s ctrl cid (.selfTestAbort ctrl cid) ∧
    (∀ slot offset len im, Denied s ctrl cid (.firmwareImageDownload ctrl cid slot offset len im)) ∧ (∀ slot, Denied s ctrl cid (.firmwareCommitStore ctrl cid slot)) ∧
    (∀ slot action, Denied s ctrl cid (.firmwareCommitAtReset ctrl cid slot action)) ∧ (∀ slot, Denied s ctrl cid (.firmwareCommitActivate ctrl cid slot)) ∧
    (∀ qp nsid len type rw rr bind, Denied s ctrl cid (.windowOpen ctrl cid qp nsid len type rw rr bind)) ∧ (∀ key, Denied s ctrl cid (.windowClose ctrl cid key)) ∧
    (∀ nonce, Denied s ctrl cid (.attestationQuote ctrl cid nonce)) ∧
    (∀ r, Denied s ctrl cid (.keyLoad ctrl cid r)) ∧ (∀ k, Denied s ctrl cid (.keyDestroy ctrl cid k)) ∧ (∀ nsid k re, Denied s ctrl cid (.keyActivate ctrl cid nsid k re)) ∧
    (∀ rkey off len k mode dec iv, Denied s ctrl cid (.cipherJob ctrl cid rkey off len k mode dec iv)) ∧
    (∀ g k, Denied s ctrl cid (.reshapeStart ctrl cid g k)) ∧ Denied s ctrl cid (.reshapeCancel ctrl cid) ∧ (∀ slot, Denied s ctrl cid (.memberFail ctrl cid slot)) ∧
    Denied s ctrl cid (.serviceRequest ctrl cid) ∧ Denied s ctrl cid (.releaseRequest ctrl cid) ∧ (∀ slot, Denied s ctrl cid (.driveRelease ctrl cid slot)) ∧
    Denied s ctrl cid (.handOver ctrl cid) ∧ (∀ n, Denied s ctrl cid (.eventRead ctrl cid n)) ∧ (∀ n, Denied s ctrl cid (.counterRead ctrl cid n)) ∧
    (∀ n l, Denied s ctrl cid (.registerSequence ctrl cid n l)) ∧ Denied s ctrl cid (.svnFloorRaise ctrl cid))

/-- A value outside the range from the head to the tail is ignored, and the configuration-violation event is raised (R642). -/
def Obligations.RingHeadOutOfRange : Prop :=
  (∀ (s : State) (w : Writer) (head : Nat), s.inReset = false → head < 2 ^ 18 → (s.evt.tail + ringSlots - s.ringHead) % ringSlots < (head + ringSlots - s.ringHead) % ringSlots →
    Completes (.eventRingHeadWrite w head) s fun t => t = s.violation Reg.EVT_RING_HEAD.off (writerCode w) ∧ t.ringHead = s.ringHead ∧ Raises s t Ev.configurationViolation 20 0)

/-- Decoding gives back what was encoded: window descriptors (R196), QPNs (R158), keys (R197), context residues (R345) and packed bits (R352). -/
def Obligations.CodecsRoundTrip : Prop :=
  (∀ d : WinDesc, d.keyTag < 2 ^ 14 → d.tenant < 2 ^ 16 → d.nsid < 2 ^ 16 → d.handle < 2 ^ 16 → d.length < 2 ^ 13 → d.openTurn < 2 ^ 32 → d.listAddr < 2 ^ 64 → descOfWords d.words = d) ∧
  (∀ g i h j : Nat, g < 16 → i < 65536 → h < 16 → j < 65536 → 2 ≤ qpnOf g i ∧ qpnOf g i < 2 ^ 24 ∧ qpnOf g i % 65536 = i ∧ (qpnOf h j = qpnOf g i ↔ h = g ∧ j = i)) ∧
  (∀ tag i : Nat, i < 2 ^ 18 → tag < 2 ^ 14 → keyIndex (tag * 2 ^ 18 + i) = i ∧ keyTagOf (tag * 2 ^ 18 + i) = tag) ∧
  (∀ (l : List Nat) (b : Nat), l.Nodup → (∀ x ∈ l, x < 256) → b < 256 → ctxResidue l b < 256 ∧ ctxByte l (ctxResidue l b) = b) ∧
  (∀ (bs : List Bool) (n : Nat), bs.length ≤ 8 * n → 8 * n < bs.length + 8 → unpackBits (packBits n bs) = bs ++ List.replicate (8 * n - bs.length) false)

/-- Up to two erasures are recomputed exactly and three are not (R409, R412), and a row's units take different positions (R407). -/
def Obligations.StripesRecover : Prop :=
  (∀ (d : List Byte) (p q : Option Byte), recomputeData (d.map some) p q = some d) ∧
  (∀ (d : List Byte) (x : Nat) (q : Option Byte), d.length ≤ 22 → x < d.length → recomputeData (lset (d.map some) x none) (some (parityP d)) q = some d) ∧
  (∀ (d : List Byte) (x : Nat), d.length ≤ 22 → x < d.length → recomputeData (lset (d.map some) x none) none (some (parityQ d)) = some d) ∧
  (∀ (d : List Byte) (x y : Nat), d.length ≤ 22 → x < y → y < d.length → recomputeData (lset (lset (d.map some) x none) y none) (some (parityP d)) (some (parityQ d)) = some d) ∧
  (∀ (d : List Byte) (x : Nat), x < d.length → recomputeData (lset (d.map some) x none) none none = none) ∧
  (∀ (d : List Byte) (x y : Nat) (p q : Option Byte), x < y → y < d.length → (p = none ∨ q = none) → recomputeData (lset (lset (d.map some) x none) y none) p q = none) ∧
  (∀ (d : List Byte) (x y z : Nat) (p q : Option Byte), x < y → y < z → z < d.length → recomputeData (lset (lset (lset (d.map some) x none) y none) z none) p q = none) ∧
  (∀ (k r : Nat), 1 ≤ k → ((posP (k + 2) r :: posQ (k + 2) r :: (List.range k).map (posD (k + 2) r)).Nodup) ∧
    ∀ x ∈ posP (k + 2) r :: posQ (k + 2) r :: (List.range k).map (posD (k + 2) r), x < k + 2)

/-- A shadow write leaves the active bank alone (R64), a swap exchanges the banks, and catch-up makes them agree but for entries rewritten since (R66). -/
def Obligations.BanksAgreeAfterCatchUp : Prop :=
  (∀ (t : Banked WinDesc) (i k : Nat) (v : WinDesc), tget (t.put i v).act k = tget t.act k ∧ (k ≠ i → tget (t.put i v).shd k = tget t.shd k) ∧ tget (t.put i v).shd i = some v) ∧
  (∀ (t : Banked WinDesc) (turn n k : Nat) (keep : Bool), (∀ j, j ∉ t.changed → tget t.shd j = tget t.act j) → t.changed.length ≤ n →
    tget ((t.swap turn keep).catchUp n).act k = tget t.shd k ∧ tget ((t.swap turn keep).catchUp n).shd k = tget t.shd k ∧ ((t.swap turn keep).catchUp n).catchup = []) ∧
  (∀ (t : Banked WinDesc) (turn n i : Nat) (keep : Bool) (v : WinDesc), tget (((t.swap turn keep).put i v).catchUp n).shd i = some v) ∧
  (∀ (t : Banked WinDesc) (turn i k : Nat) (keep : Bool) (v : WinDesc), (∀ j, j ∉ t.changed → tget t.shd j = tget t.act j) →
    (k ∈ ((t.swap turn keep).put i v).catchup ∨ k ∈ ((t.swap turn keep).put i v).changed ∨ tget ((t.swap turn keep).put i v).shd k = tget ((t.swap turn keep).put i v).act k))

/-- The DRAM frames of a cipher job and of packets: every byte outside the stored ones reads as before (R206, R384). -/
def Obligations.DramBytes : Prop :=
  (∀ (ctrl cid rkey off len keyId mode iv : Nat) (dec : Bool) (s t : State) (a : Nat), exec (.cipherJob ctrl cid rkey off len keyId mode dec iv) s = .next t →
    (∀ i, i < len → ((tgetD s.win.lists (keyIndex rkey) [])[(off + i) / 65536]?).map (fun e => s.bufAddr e.buf + (off + i) % 65536) ≠ some a) → memRead t.dram a = memRead s.dram a) ∧
  (∀ (p : Pkt) (pos : PktPos) (rkey va : Nat) (imm : Option Nat) (l : List Byte) (s t : State) (a : Nat), exec (.rdmaWriteRx p pos rkey va imm l) s = .next t →
    (∀ e ∈ tgetD s.win.lists (keyIndex rkey) [], a < s.bufAddr e.buf ∨ s.bufAddr e.buf + 65536 ≤ a) → memRead t.dram a = memRead s.dram a) ∧
  (∀ (p : Pkt) (pos : PktPos) (imm : Option Nat) (rkey va len qpn psn wait : Nat) (rx tx : Stamp) (c : NakCode) (s t : State),
    ∀ i ∈ [Instr.sendRx p pos imm, .rdmaReadRequestRx p rkey va len, .sendWithInvalidateRx p, .ackRx qpn psn rx tx, .nakRx qpn psn c, .rnrNakRx qpn psn wait, .cnpRx qpn],
      exec i s = .next t → t.dram = s.dram)
end

