-- ==== Sys2Proof/Laws/Tbl.lean ====
section
/-!
SUPPORT. Laws/Tbl.lean: sparse tables keep their keys rising, byte memory keeps its canonical form, and both read what was written.
-/

namespace Sys2Proof.Machine

theorem tsorted_cons {α : Type} (a : Nat × α) (t : Tbl α) : tsorted (a :: t) = true ↔ (∀ b ∈ t.head?, a.1 < b.1) ∧ tsorted t = true := by
  cases t <;> simp [tsorted]

theorem tset_head {α : Type} (t : Tbl α) (k : Nat) (v : α) (m : Nat) (hm : ∀ b ∈ t.head?, m < b.1) (hk : m < k) :
    ∀ b ∈ (tset t k v).head?, m < b.1 := by
  cases t with
  | nil => simpa [tset] using hk
  | cons a t =>
    simp only [tset]
    split
    · simpa using hk
    · split
      · simpa using hk
      · simpa using hm

theorem tsorted_tset {α : Type} (t : Tbl α) (k : Nat) (v : α) (h : tsorted t = true) : tsorted (tset t k v) = true := by
  induction t with
  | nil => rfl
  | cons a t ih =>
    rw [tsorted_cons] at h
    simp only [tset]
    split
    · rw [tsorted_cons, tsorted_cons]; exact ⟨by simpa using ‹k < a.1›, h⟩
    · split
      · rw [tsorted_cons]; subst k; exact h
      · rw [tsorted_cons]
        exact ⟨tset_head t k v a.1 h.1 (by omega), ih h.2⟩

theorem tdel_lt {α : Type} (t : Tbl α) (k m : Nat) (ht : tsorted t = true) (hm : ∀ b ∈ t.head?, m < b.1) : ∀ b ∈ (tdel t k).head?, m < b.1 := by
  induction t with
  | nil => simp [tdel]
  | cons a t ih =>
    rw [tsorted_cons] at ht
    simp only [tdel]
    have ha : m < a.1 := hm a (by simp)
    split
    · exact ih ht.2 fun b hb => Nat.lt_trans ha (ht.1 b hb)
    · simpa using ha

theorem tsorted_tdel {α : Type} (t : Tbl α) (k : Nat) (h : tsorted t = true) : tsorted (tdel t k) = true := by
  induction t with
  | nil => rfl
  | cons a t ih =>
    rw [tsorted_cons] at h
    simp only [tdel]
    split
    · exact ih h.2
    · rw [tsorted_cons]
      exact ⟨tdel_lt t k a.1 h.2 h.1, ih h.2⟩

theorem tsorted_tput (d : Nat) (t : Tbl Nat) (k v : Nat) (h : tsorted t = true) : tsorted (tput d t k v) = true := by
  unfold tput
  split
  · exact tsorted_tdel t k h
  · exact tsorted_tset t k v h

theorem mem_erase_lt (m : Mem) (a c : Nat) (h : Mem.wf m = true) (hm : ∀ b ∈ m.head?, c < b.1) : ∀ b ∈ (memErase m a).head?, c < b.1 := by
  induction m with
  | nil => simp [memErase]
  | cons x m ih =>
    have hx : c < x.1 := hm x (by simp)
    simp only [memErase]
    split
    · cases m with
      | nil => simp [memErase]
      | cons y m =>
        simp only [Mem.wf, Bool.and_eq_true, decide_eq_true_eq] at h
        exact ih h.2 fun b hb => by
          simp at hb; subst hb; exact Nat.lt_trans hx h.1.2
    · simpa using hx

theorem wf_cons (x : Host.Cell) (m : Mem) : Mem.wf (x :: m) = true ↔ x.2 ≠ 0 ∧ (∀ b ∈ m.head?, x.1 < b.1) ∧ Mem.wf m = true := by
  cases m <;> simp [Mem.wf, and_assoc]

theorem wf_memErase (m : Mem) (a : Nat) (h : Mem.wf m = true) : Mem.wf (memErase m a) = true := by
  induction m with
  | nil => rfl
  | cons x m ih =>
    rw [wf_cons] at h
    simp only [memErase]
    split
    · exact ih h.2.2
    · rw [wf_cons]
      exact ⟨h.1, mem_erase_lt m a x.1 h.2.2 h.2.1, ih h.2.2⟩

theorem mem_insert_lt (m : Mem) (a : Nat) (v : Byte) (c : Nat) (hm : ∀ b ∈ m.head?, c < b.1) (ha : c < a) : ∀ b ∈ (memInsert m a v).head?, c < b.1 := by
  cases m with
  | nil => simpa [memInsert] using ha
  | cons x m =>
    simp only [memInsert]
    split
    · simpa using ha
    · split
      · simpa using ha
      · simpa using hm

theorem wf_memInsert (m : Mem) (a : Nat) (v : Byte) (h : Mem.wf m = true) (hv : v ≠ 0) : Mem.wf (memInsert m a v) = true := by
  induction m with
  | nil => simpa [memInsert, Mem.wf] using hv
  | cons x m ih =>
    rw [wf_cons] at h
    simp only [memInsert]
    split
    · rw [wf_cons, wf_cons]; exact ⟨hv, by simpa using ‹a < x.1›, h⟩
    · split
      · rw [wf_cons]; subst a; exact ⟨hv, h.2⟩
      · rw [wf_cons]; exact ⟨h.1, mem_insert_lt m a v x.1 h.2.1 (by omega), ih h.2.2⟩

theorem wf_memWrite (m : Mem) (a : Nat) (v : Byte) (h : Mem.wf m = true) : Mem.wf (memWrite m a v) = true := by
  unfold memWrite
  split
  · exact wf_memErase m a h
  · exact wf_memInsert m a v h ‹_›

theorem wf_memWriteList (l : List Byte) : ∀ (m : Mem) (a : Nat), Mem.wf m = true → Mem.wf (memWriteList m a l) = true := by
  induction l with
  | nil => intro m a h; exact h
  | cons b l ih => intro m a h; exact ih _ _ (wf_memWrite m a b h)

/-! ### Reading after writing -/

@[simp] theorem tget_tset_same {α : Type} (t : Tbl α) (k : Nat) (v : α) : tget (tset t k v) k = some v := by
  induction t with
  | nil => simp [tset, tget]
  | cons a t ih =>
    simp only [tset]
    split
    · simp [tget]
    · split
      · simp [tget]
      · rw [tget, if_neg (by omega), ih]

theorem tget_tset_ne {α : Type} (t : Tbl α) {k j : Nat} (v : α) (h : j ≠ k) : tget (tset t k v) j = tget t j := by
  induction t with
  | nil => simp [tset, tget, Ne.symm h]
  | cons a t ih =>
    simp only [tset]
    split
    · rw [tget, if_neg (Ne.symm h)]
    · split
      · subst k; rw [tget, if_neg (Ne.symm h), tget, if_neg (Ne.symm h)]
      · rw [tget, tget, ih]

@[simp] theorem tget_tdel_same {α : Type} (t : Tbl α) (k : Nat) : tget (tdel t k) k = none := by
  induction t with
  | nil => rfl
  | cons a t ih =>
    simp only [tdel]
    split
    · exact ih
    · rw [tget, if_neg ‹_›, ih]

theorem tget_tdel_ne {α : Type} (t : Tbl α) {k j : Nat} (h : j ≠ k) : tget (tdel t k) j = tget t j := by
  induction t with
  | nil => rfl
  | cons a t ih =>
    simp only [tdel]
    split
    · subst k; rw [ih, tget, if_neg (Ne.symm h)]
    · rw [tget, tget, ih]

@[simp] theorem tgetD_tput_same (d : Nat) (t : Tbl Nat) (k v : Nat) : tgetD (tput d t k v) k d = v := by
  unfold tput
  split
  · subst v; simp [tgetD]
  · simp [tgetD]

theorem tgetD_tput_ne (d e : Nat) (t : Tbl Nat) {k j : Nat} (v : Nat) (h : j ≠ k) : tgetD (tput d t k v) j e = tgetD t j e := by
  unfold tput tgetD
  split
  · rw [tget_tdel_ne t h]
  · rw [tget_tset_ne t v h]

theorem memRead_memErase_same (m : Mem) (a : Nat) : memRead (memErase m a) a = 0 := by
  induction m with
  | nil => rfl
  | cons x m ih =>
    simp only [memErase]
    split
    · exact ih
    · rw [memRead, if_neg ‹_›, ih]

theorem memRead_memErase_ne (m : Mem) {a c : Nat} (h : c ≠ a) : memRead (memErase m a) c = memRead m c := by
  induction m with
  | nil => rfl
  | cons x m ih =>
    simp only [memErase]
    split
    · subst a; rw [ih, memRead, if_neg (Ne.symm h)]
    · rw [memRead, memRead, ih]

theorem memRead_memInsert_same (m : Mem) (a : Nat) (v : Byte) : memRead (memInsert m a v) a = v := by
  induction m with
  | nil => simp [memInsert, memRead]
  | cons x m ih =>
    simp only [memInsert]
    split
    · simp [memRead]
    · split
      · simp [memRead]
      · rw [memRead, if_neg (by omega), ih]

theorem memRead_memInsert_ne (m : Mem) {a c : Nat} (v : Byte) (h : c ≠ a) : memRead (memInsert m a v) c = memRead m c := by
  induction m with
  | nil => simp [memInsert, memRead, Ne.symm h]
  | cons x m ih =>
    simp only [memInsert]
    split
    · rw [memRead, if_neg (Ne.symm h)]
    · split
      · subst a; rw [memRead, if_neg (Ne.symm h), memRead, if_neg (Ne.symm h)]
      · rw [memRead, memRead, ih]

/-- A byte read after it was written is the byte written. -/
theorem memRead_memWrite_same (m : Mem) (a : Nat) (v : Byte) : memRead (memWrite m a v) a = v := by
  unfold memWrite
  split
  · subst v; exact memRead_memErase_same m a
  · exact memRead_memInsert_same m a v

/-- A write leaves every other byte alone. -/
theorem memRead_memWrite_ne (m : Mem) {a c : Nat} (v : Byte) (h : c ≠ a) : memRead (memWrite m a v) c = memRead m c := by
  unfold memWrite
  split
  · exact memRead_memErase_ne m h
  · exact memRead_memInsert_ne m v h

/-- A run of bytes written leaves every byte outside it alone. -/
theorem memRead_memWriteList_out (l : List Byte) : ∀ (m : Mem) (a c : Nat), (c < a ∨ a + l.length ≤ c) → memRead (memWriteList m a l) c = memRead m c := by
  induction l with
  | nil => intro m a c _; rfl
  | cons b l ih =>
    intro m a c h
    simp only [List.length_cons] at h
    rw [memWriteList, ih _ _ _ (by omega), memRead_memWrite_ne m b (by omega)]

/-- A byte of a run reads as the byte written. -/
theorem memRead_memWriteList_in (l : List Byte) : ∀ (m : Mem) (a i : Nat), i < l.length → memRead (memWriteList m a l) (a + i) = l.getD i 0 := by
  induction l with
  | nil => intro m a i h; simp at h
  | cons b l ih =>
    intro m a i h
    cases i with
    | zero => rw [memWriteList, memRead_memWriteList_out l _ _ _ (by omega)]; simpa using memRead_memWrite_same m a b
    | succ i =>
      rw [memWriteList, show a + (i + 1) = a + 1 + i by omega, ih _ _ _ (by simpa using h)]
      rfl

end Sys2Proof.Machine
end

