-- ==== Sys2Proof/Laws/Kept.lean ====
section
/-!
SUPPORT. Laws/Kept.lean: the relation that says what an operation leaves alone (the parts it does not list, the order of the
register file, the canonical form of DRAM), and how it composes.
-/

namespace Sys2Proof.Machine

/-- `t` is `s` but for the parts `ps`; the register file keeps its order, and DRAM its canonical form. -/
structure Kept (ps : List Part) (s t : State) : Prop where
  frame : t = merge ps s t
  file : ∀ k, Part.mem .regs ps = false → Part.mem (.reg (regBlock k)) ps = false → tget t.regs k = tget s.regs k
  regs : tsorted s.regs = true → tsorted t.regs = true
  dram : Mem.wf s.dram = true → Mem.wf t.dram = true

/-- Is a part a register block? -/
def Part.isReg : Part → Bool
  | .reg _ => true
  | _ => false

/-- Is every part of one list in another? -/
def partsIn (qs ps : List Part) : Bool := qs.all fun p => p.mem ps || (p.isReg && Part.mem .regs ps)

/-- The block that a field lies in. -/
def Fld.block (f : Fld) : Nat := f.off / 2 ^ 20 % 64

/-- Does every instance of a field lie in the field's block? -/
def Fld.fits (f : Fld) : Bool := Nat.blt (8 * (f.off % 2 ^ 20 + (f.count1 - 1) * f.stride1 + (f.count2 - 1) * f.stride2) + f.lo) (2 ^ 23)

theorem regBlock_key (f : Fld) (i j : Nat) (h : f.fits = true) (hi : i < f.count1) (hj : j < f.count2) : regBlock (f.key i j) = f.block := by
  simp only [Fld.fits, Nat.blt_eq] at h
  have h1 : i * f.stride1 ≤ (f.count1 - 1) * f.stride1 := Nat.mul_le_mul_right _ (by omega)
  have h2 : j * f.stride2 ≤ (f.count2 - 1) * f.stride2 := Nat.mul_le_mul_right _ (by omega)
  simp only [regBlock, Fld.block, Fld.key]
  omega

theorem mem_mono {qs ps : List Part} (hq : partsIn qs ps = true) (p : Part) (hp : p.isReg = false) (h : p.mem qs = true) : p.mem ps = true := by
  simp only [Part.mem, List.any_eq_true, decide_eq_true_eq, partsIn, List.all_eq_true] at *
  obtain ⟨q, hq1, rfl⟩ := h
  simpa [hp] using hq q hq1

theorem file_mono {qs ps : List Part} (hq : partsIn qs ps = true) (k : Nat) (h1 : Part.mem .regs ps = false) (h2 : Part.mem (.reg (regBlock k)) ps = false) :
    Part.mem .regs qs = false ∧ Part.mem (.reg (regBlock k)) qs = false := by
  constructor
  · cases h : Part.mem .regs qs
    · rfl
    · rw [mem_mono hq _ rfl h] at h1; cases h1
  · cases h : Part.mem (.reg (regBlock k)) qs
    · rfl
    · simp only [Part.mem, List.any_eq_true, decide_eq_true_eq] at h
      obtain ⟨q, hq1, rfl⟩ := h
      simp only [partsIn, List.all_eq_true] at hq
      have := hq _ hq1
      simp [h1, h2] at this

theorem merge_self (ps : List Part) (s : State) : s = merge ps s s := by
  have h : ∀ {α : Type} (p : Part) (v : α), pick p ps v v = v := by intro α p v; unfold pick; split <;> rfl
  simp only [merge, h]

theorem Kept.refl (ps : List Part) (s : State) : Kept ps s s := ⟨merge_self ps s, fun _ _ _ => rfl, id, id⟩

theorem merge_merge (ps : List Part) (a b c : State) : merge ps (merge ps a b) c = merge ps a c := by
  have h : ∀ {α : Type} (p : Part) (x y z : α), pick p ps (pick p ps x y) z = pick p ps x z := by
    intro α p x y z; unfold pick; split <;> rfl
  simp only [merge, h]

theorem Kept.trans {ps : List Part} {a b c : State} (h1 : Kept ps a b) (h2 : Kept ps b c) : Kept ps a c :=
  ⟨by rw [← merge_merge ps a b c, ← h1.frame]; exact h2.frame, fun k x y => (h2.file k x y).trans (h1.file k x y), fun h => h2.regs (h1.regs h),
    fun h => h2.dram (h1.dram h)⟩

theorem merge_mono {qs ps : List Part} (hq : partsIn qs ps = true) (a b : State) (h : b = merge qs a b) : b = merge ps a b := by
  have h' : ∀ {α : Type} (p : Part) (_ : p.isReg = false) (x y : α), pick p ps x (pick p qs x y) = pick p qs x y := by
    intro α p hp x y
    unfold pick
    cases h1 : p.mem qs <;> cases h2 : p.mem ps <;> first | rfl | (rw [mem_mono hq p hp h1] at h2; cases h2)
  rw [h]
  simp only [merge, State.mk.injEq]
  repeat' apply And.intro
  all_goals first | trivial | (symm; apply h'; rfl)

theorem Kept.mono {qs ps : List Part} {a b : State} (h : Kept qs a b) (hq : partsIn qs ps = true) : Kept ps a b :=
  ⟨merge_mono hq a b h.frame, fun k x y => h.file k (file_mono hq k x y).1 (file_mono hq k x y).2, h.regs, h.dram⟩

/-- An update that touches neither the register file nor DRAM. -/
theorem Kept.upds {ps : List Part} {t u : State} (e : u = merge ps t u) (hr : u.regs = t.regs) (hd : u.dram = t.dram) : Kept ps t u :=
  ⟨e, by rw [hr]; exact fun _ _ _ => rfl, by rw [hr]; exact id, by rw [hd]; exact id⟩

theorem Kept.upd {ps : List Part} {s t u : State} (h : Kept ps s t) (e : u = merge ps t u) (hr : u.regs = t.regs) (hd : u.dram = t.dram) : Kept ps s u :=
  h.trans (Kept.upds e hr hd)

theorem within_trans {a b c : List Part} (h : partsIn a b = true) (k : partsIn b c = true) : partsIn a c = true := by
  simp only [partsIn, List.all_eq_true, Bool.or_eq_true, Bool.and_eq_true] at *
  intro p hp
  rcases h p hp with h1 | ⟨h1, h2⟩
  · simp only [Part.mem, List.any_eq_true, decide_eq_true_eq] at h1
    obtain ⟨q, hq, rfl⟩ := h1
    exact k q hq
  · refine Or.inr ⟨h1, ?_⟩
    simp only [Part.mem, List.any_eq_true, decide_eq_true_eq] at h2
    obtain ⟨q, hq, rfl⟩ := h2
    exact (k _ hq).resolve_right (by simp [Part.isReg])

/-- What a meaning keeps, where it answers a next state. -/
def KeptOut (ps : List Part) (s : State) (o : Out) : Prop := match o with
  | .next t => Kept ps s t
  | .fault _ => True
  | .refused _ => True

/-- What an operation that may fail keeps, where it succeeds. -/
def KeptOpt {α : Type} (ps : List Part) (s : State) (sel : α → State) (o : Option α) : Prop := match o with
  | some r => Kept ps s (sel r)
  | none => True

/-- What an operation that may answer a status keeps, where it succeeds. -/
def KeptExc {α : Type} (ps : List Part) (s : State) (o : Except α State) : Prop := match o with
  | .ok r => Kept ps s r
  | .error _ => True

theorem KeptOut.next {ps s t} (h : Kept ps s t) : KeptOut ps s (.next t) := h

theorem KeptOut.fault {ps s r} : KeptOut ps s (.fault r) := trivial

theorem KeptOut.guard {ps s t} (ok) (h : Kept ps s t) : KeptOut ps s (guardUnit ok t) := by
  unfold guardUnit; split
  · exact h
  · trivial

theorem KeptOut.mono {qs ps s o} (h : KeptOut qs s o) (hq : partsIn qs ps = true) : KeptOut ps s o := by
  cases o
  · exact Kept.mono h hq
  · trivial
  · trivial

theorem KeptOut.trans {ps s t o} (h : Kept ps s t) (k : KeptOut ps t o) : KeptOut ps s o := by
  cases o
  · exact Kept.trans h k
  · trivial
  · trivial

theorem KeptOpt.mono {α : Type} {qs ps s} {sel : α → State} {o} (h : KeptOpt qs s sel o) (hq : partsIn qs ps = true) : KeptOpt ps s sel o := by
  cases o
  · trivial
  · exact Kept.mono h hq

theorem KeptOpt.trans {α : Type} {ps s t} {sel : α → State} {o} (h : Kept ps s t) (k : KeptOpt ps t sel o) : KeptOpt ps s sel o := by
  cases o
  · trivial
  · exact Kept.trans h k

theorem KeptOpt.some' {α : Type} {ps s} {sel : α → State} {r} (h : Kept ps s (sel r)) : KeptOpt ps s sel (some r) := h

theorem KeptOpt.none' {α : Type} {ps s} {sel : α → State} : KeptOpt ps s sel none := trivial

theorem KeptExc.mono {α : Type} {qs ps s} {o : Except α State} (h : KeptExc qs s o) (hq : partsIn qs ps = true) : KeptExc ps s o := by
  cases o
  · trivial
  · exact Kept.mono h hq

theorem KeptExc.trans {α : Type} {ps s t} {o : Except α State} (h : Kept ps s t) (k : KeptExc ps t o) : KeptExc ps s o := by
  cases o
  · trivial
  · exact Kept.trans h k

theorem KeptExc.ok' {α : Type} {ps s u} (h : Kept ps s u) : KeptExc (α := α) ps s (.ok u) := h

theorem KeptExc.error' {α : Type} {ps s} {e : α} : KeptExc (α := α) ps s (.error e) := trivial

theorem Kept.build {ps : List Part} {s t : State} {o d f r m a1 a2 a3 a4 a5 a6 a7 a8 a9 b1 b2 b3 b4 b5 b6 b7 b8 b9 c1 c2 c3 c4} (h : Kept ps s t)
    (e : State.mk t.pending o d f r m a1 a2 a3 a4 a5 a6 a7 a8 a9 b1 b2 b3 b4 b5 b6 b7 b8 b9 c1 c2 c3 c4 = merge ps t (State.mk t.pending o d f r m a1 a2 a3 a4 a5 a6 a7 a8 a9 b1 b2 b3 b4 b5 b6 b7 b8 b9 c1 c2 c3 c4))
    (hr : r = t.regs) (hd : m = t.dram) : Kept ps s (State.mk t.pending o d f r m a1 a2 a3 a4 a5 a6 a7 a8 a9 b1 b2 b3 b4 b5 b6 b7 b8 b9 c1 c2 c3 c4) :=
  h.trans (Kept.upds e hr hd)

theorem Kept.ite {ps : List Part} {s a b : State} {c : Prop} [Decidable c] (ha : Kept ps s a) (hb : Kept ps s b) : Kept ps s (if c then a else b) := by
  split
  · exact ha
  · exact hb

theorem KeptOpt.getD {ps s t} {o : Option State} (h : Kept ps s t) (k : KeptOpt ps s (fun u => u) o) : Kept ps s (o.getD t) := by
  cases o
  · exact h
  · exact k

theorem KeptOpt.map {α β : Type} {ps : List Part} {s : State} {sel : α → State} {sel' : β → State} {o : Option α} {f : α → β} (h : KeptOpt ps s sel o)
    (hf : ∀ a, Kept ps s (sel a) → Kept ps s (sel' (f a))) : KeptOpt ps s sel' (o.map f) := by
  cases o with
  | none => trivial
  | some a => exact hf a h

theorem KeptOpt.findSome {α β : Type} {ps : List Part} {s : State} {sel : β → State} {f : α → Option β} {l : List α}
    (h : ∀ a, KeptOpt ps s sel (f a)) : KeptOpt ps s sel (l.findSome? f) := by
  induction l with
  | nil => trivial
  | cons a l ih =>
    rw [List.findSome?_cons]
    have := h a
    split <;> simp_all

theorem KeptOpt.foldl {α β : Type} {ps : List Part} {s : State} {sel : β → State} {f : Option β → α → Option β} {l : List α} {a : Option β} (h : KeptOpt ps s sel a)
    (hf : ∀ x b, KeptOpt ps s sel x → KeptOpt ps s sel (f x b)) : KeptOpt ps s sel (l.foldl f a) := by
  induction l generalizing a with
  | nil => exact h
  | cons x l ih => exact ih (hf _ _ h)

theorem KeptExc.foldl {α β : Type} {ps : List Part} {s : State} {f : Except β State → α → Except β State} {l : List α} {a : Except β State} (h : KeptExc ps s a)
    (hf : ∀ x b, KeptExc ps s x → KeptExc ps s (f x b)) : KeptExc ps s (l.foldl f a) := by
  induction l generalizing a with
  | nil => exact h
  | cons x l ih => exact ih (hf _ _ h)

theorem Kept.setDram {ps : List Part} {s t : State} {m : Mem} (h : Kept ps s t) (hp : partsIn [.dram] ps = true) (hm : Mem.wf t.dram = true → Mem.wf m = true) :
    Kept ps s { t with dram := m } :=
  h.trans (Kept.mono (qs := [.dram]) ⟨rfl, fun _ _ _ => rfl, id, hm⟩ hp)

theorem Kept.cut {ps s g} (x : State) (k : Kept ps s x → Kept ps s g) (hx : Kept ps s x) : Kept ps s g := k hx

theorem Kept.lift {qs ps s t u} (h : Kept ps s t) (hp : partsIn qs ps = true) (k : Kept qs t u) : Kept ps s u := h.trans (k.mono hp)

theorem KeptOut.lift {qs ps s t o} (h : Kept ps s t) (hp : partsIn qs ps = true) (k : KeptOut qs t o) : KeptOut ps s o := KeptOut.trans h (k.mono hp)

theorem KeptOpt.lift {α : Type} {qs ps s t} {sel : α → State} {o} (h : Kept ps s t) (hp : partsIn qs ps = true) (k : KeptOpt qs t sel o) : KeptOpt ps s sel o := KeptOpt.trans h (k.mono hp)

theorem KeptExc.lift {α : Type} {qs ps s t} {o : Except α State} (h : Kept ps s t) (hp : partsIn qs ps = true) (k : KeptExc qs t o) : KeptExc ps s o := KeptExc.trans h (k.mono hp)

theorem KeptOut.cut {ps s g} (x : State) (k : Kept ps s x → KeptOut ps s g) (hx : Kept ps s x) : KeptOut ps s g := k hx

theorem Kept.foldl {α : Type} {ps : List Part} {s : State} {f : State → α → State} {l : List α} {a : State} (h : Kept ps s a)
    (hf : ∀ x b, Kept ps s x → Kept ps s (f x b)) : Kept ps s (l.foldl f a) := by
  induction l generalizing a with
  | nil => exact h
  | cons x l ih => exact ih (hf _ _ h)

theorem Kept.foldl1 {α β : Type} {ps : List Part} {s : State} {f : State × β → α → State × β} {l : List α} {a : State × β} (h : Kept ps s a.1)
    (hf : ∀ x b, Kept ps s x.1 → Kept ps s (f x b).1) : Kept ps s (l.foldl f a).1 := by
  induction l generalizing a with
  | nil => exact h
  | cons x l ih => exact ih (hf _ _ h)

theorem Kept.foldl2 {α β : Type} {ps : List Part} {s : State} {f : β × State → α → β × State} {l : List α} {a : β × State} (h : Kept ps s a.2)
    (hf : ∀ x b, Kept ps s x.2 → Kept ps s (f x b).2) : Kept ps s (l.foldl f a).2 := by
  induction l generalizing a with
  | nil => exact h
  | cons x l ih => exact ih (hf _ _ h)

theorem Kept.foldIdx {ps : List Part} {s : State} {n : Nat} {f : Nat → State → State} {a : State} (h : Kept ps s a)
    (hf : ∀ i x, Kept ps s x → Kept ps s (f i x)) : Kept ps s (Sys2Proof.Machine.foldIdx n f a) :=
  Kept.foldl h fun x i hx => hf i x hx

theorem KeptOut.after {ps s t o} (h : Kept ps s t) (k : KeptOut ps s o) : Kept ps s (State.after t o) := by
  cases o
  · exact k
  · exact h
  · exact h

end Sys2Proof.Machine
end

