-- ==== Sys2Proof/Laws/KeptA.lean ====
section
/-!
SUPPORT. Laws/KeptA.lean: one lemma per function: what it keeps of the state it is given (the shared operations and the commands of the Turn, boot, identity and the ports).
-/

namespace Sys2Proof.Machine

theorem State.wr_kept {ps : List Part} {s t : State} (f i j v) (h : Kept ps s t) (hp : partsIn [.reg f.block] ps = true) (hf : f.fits = true) :
    Kept ps s (State.wr t f i j v) := by
  refine h.trans (Kept.mono (qs := [.reg f.block]) ⟨rfl, ?_, ?_, id⟩ hp)
  · intro k _ hk
    simp only [State.wr, regPut]
    split
    · rename_i hij
      have hne : k ≠ f.key i j := by
        rintro rfl
        rw [regBlock_key f i j hf hij.1 hij.2] at hk
        simp [Part.mem] at hk
      simp only [tput]
      split
      · exact tget_tdel_ne _ hne
      · exact tget_tset_ne _ _ hne
    · rfl
  · intro hs
    simp only [State.wr, regPut]
    split
    · exact tsorted_tput _ _ _ _ hs
    · exact hs

theorem State.wrAny_kept {ps : List Part} {s t : State} (f i j v) (h : Kept ps s t) (hp : partsIn [.regs] ps = true) : Kept ps s (State.wr t f i j v) := by
  refine h.trans (Kept.mono (qs := [.regs]) ⟨rfl, fun _ h => (by cases h), ?_, id⟩ hp)
  intro hs
  simp only [State.wr, regPut]
  split
  · exact tsorted_tput _ _ _ _ hs
  · exact hs

theorem block_forWriter (f : Fld) (w : Writer) : (f.forWriter w).block = f.block := by
  unfold Fld.forWriter
  split
  · rfl
  · simp only [Fld.block]; omega

theorem fits_forWriter (f : Fld) (w : Writer) : (f.forWriter w).fits = f.fits := by
  unfold Fld.forWriter
  split
  · rfl
  · have : (f.off + 0x4000000) % 2 ^ 20 = f.off % 2 ^ 20 := by omega
    simp only [Fld.fits, this]

theorem State.wrW_kept {ps : List Part} {s t : State} (f : Fld) (w i j v) (h : Kept ps s t) (hp : partsIn [.reg f.block] ps = true) (hf : f.fits = true) :
    Kept ps s (State.wr t (f.forWriter w) i j v) :=
  State.wr_kept _ _ _ _ h (by rw [block_forWriter]; exact hp) (by rw [fits_forWriter]; exact hf)

theorem State.bump_kept {ps : List Part} {s t : State} (f i j n) (h : Kept ps s t) (hp : partsIn [.reg f.block] ps = true) (hf : f.fits = true) :
    Kept ps s (State.bump t f i j n) := State.wr_kept _ _ _ _ h hp hf

theorem State.bumpWrap_kept {ps : List Part} {s t : State} (f i j n) (h : Kept ps s t) (hp : partsIn [.reg f.block] ps = true) (hf : f.fits = true) :
    Kept ps s (State.bumpWrap t f i j n) := State.wr_kept _ _ _ _ h hp hf

theorem State.emit_kept {ps : List Part} {s t : State} (a1 a2) (h : Kept ps s t) (hp : partsIn [.outbox] ps = true) : Kept ps s (State.emit t a1 a2) := by
  refine h.lift hp ?_
  clear h hp
  unfold State.emit
  repeat' first
    | with_reducible exact Kept.refl _ _
    | ((with_reducible refine Kept.build ?_ ?_ ?_ ?_); rotate_left; exact rfl; exact rfl; exact rfl; fail_if_success split)

theorem State.defer_kept {ps : List Part} {s t : State} (a1) (h : Kept ps s t) (hp : partsIn [.deferred] ps = true) : Kept ps s (State.defer t a1) := by
  refine h.lift hp ?_
  clear h hp
  unfold State.defer
  repeat' first
    | with_reducible exact Kept.refl _ _
    | ((with_reducible refine Kept.build ?_ ?_ ?_ ?_); rotate_left; exact rfl; exact rfl; exact rfl; fail_if_success split)

theorem State.takeFree_kept {ps : List Part} {s t : State} (h : Kept ps s t) (hp : partsIn [.free] ps = true) : Kept ps s (State.takeFree t).2 := by
  refine h.lift hp ?_
  clear h hp
  unfold State.takeFree
  repeat' first
    | with_reducible exact Kept.refl _ _
    | ((with_reducible refine Kept.build ?_ ?_ ?_ ?_); rotate_left; exact rfl; exact rfl; exact rfl; fail_if_success split)

theorem State.takeFree_kept_eq {ps : List Part} {s t u : State} {x} (e : State.takeFree t = (x, u)) (h : Kept ps s t) (hp : partsIn [.free] ps = true) : Kept ps s u := by
  have k := State.takeFree_kept (ps := ps) (s := s) (t := t)  h hp
  rw [e] at k
  exact k

theorem State.draw_kept {ps : List Part} {s t : State} (h : Kept ps s t) (hp : partsIn [.free] ps = true) : Kept ps s (State.draw t).2 := by
  refine h.lift hp ?_
  clear h hp
  unfold State.draw
  repeat' first
    | with_reducible exact Kept.refl _ _
    | ((with_reducible refine Kept.build ?_ ?_ ?_ ?_); rotate_left; exact rfl; exact rfl; exact rfl; fail_if_success split)

theorem State.draw_kept_eq {ps : List Part} {s t u : State} {x} (e : State.draw t = (x, u)) (h : Kept ps s t) (hp : partsIn [.free] ps = true) : Kept ps s u := by
  have k := State.draw_kept (ps := ps) (s := s) (t := t)  h hp
  rw [e] at k
  exact k

theorem State.latch_kept {ps : List Part} {s t : State} (a1) (h : Kept ps s t) (hp : partsIn [.reg 20] ps = true) : Kept ps s (State.latch t a1) := by
  refine h.lift hp ?_
  clear h hp
  unfold State.latch
  repeat' first
    | exact rfl
    | with_reducible first | apply State.wr_kept | exact Kept.refl _ _

theorem State.raise_kept {ps : List Part} {s t : State} (a1 a2 a3 a4 a5 a6) (h : Kept ps s t) (hp : partsIn [.evt, .reg 20] ps = true) : Kept ps s (State.raise t a1 a2 a3 a4 a5 a6) := by
  refine h.lift hp ?_
  clear h hp
  unfold State.raise
  repeat' first
    | with_reducible assumption
    | (extract_lets +onlyGivenNames x; refine Kept.cut x ?_ ?_ <;> first | (intro hx; clear_value x) | (unfold x; clear x))
    | (extract_lets +onlyGivenNames x; subst x)
    | exact rfl
    | with_reducible first | apply State.latch_kept | exact Kept.refl _ _
    | ((with_reducible refine Kept.build ?_ ?_ ?_ ?_); rotate_left; exact rfl; exact rfl; exact rfl; fail_if_success split)

theorem State.raiseLim_kept {ps : List Part} {s t : State} (a1 a2 a3 a4 a5 a6 a7 a8) (h : Kept ps s t) (hp : partsIn [.evt, .reg 20] ps = true) : Kept ps s (State.raiseLim t a1 a2 a3 a4 a5 a6 a7 a8) := by
  refine h.lift hp ?_
  clear h hp
  unfold State.raiseLim
  repeat' first
    | with_reducible assumption
    | (extract_lets +onlyGivenNames x; refine Kept.cut x ?_ ?_ <;> first | (intro hx; clear_value x) | (unfold x; clear x))
    | (extract_lets +onlyGivenNames x; subst x)
    | with_reducible apply Kept.ite
    | exact rfl
    | with_reducible first | apply State.latch_kept | apply State.raise_kept | exact Kept.refl _ _
    | ((with_reducible refine Kept.build ?_ ?_ ?_ ?_); rotate_left; exact rfl; exact rfl; exact rfl; fail_if_success split)

theorem State.violation_kept {ps : List Part} {s t : State} (a1 a2) (h : Kept ps s t) (hp : partsIn [.evt, .reg 20] ps = true) : Kept ps s (State.violation t a1 a2) := by
  refine h.lift hp ?_
  clear h hp
  unfold State.violation
  repeat' first
    | exact rfl
    | with_reducible first | apply State.raise_kept | exact Kept.refl _ _

theorem State.setOvfPending_kept {ps : List Part} {s t : State} (a1 a2) (h : Kept ps s t) (hp : partsIn [.reg 21] ps = true) : Kept ps s (State.setOvfPending t a1 a2) := by
  refine h.lift hp ?_
  clear h hp
  unfold State.setOvfPending
  repeat' first
    | exact rfl
    | with_reducible first | apply State.wr_kept | exact Kept.refl _ _

theorem State.count_kept {ps : List Part} {s t : State} (a1 a2 a3) (h : Kept ps s t) (hp : partsIn [.cnt, .reg 21] ps = true) : Kept ps s (State.count t a1 a2 a3) := by
  refine h.lift hp ?_
  clear h hp
  unfold State.count
  repeat' first
    | with_reducible assumption
    | (extract_lets +onlyGivenNames x; refine Kept.cut x ?_ ?_ <;> first | (intro hx; clear_value x) | (unfold x; clear x))
    | (extract_lets +onlyGivenNames x; subst x)
    | with_reducible apply Kept.ite
    | exact rfl
    | with_reducible first | apply State.bump_kept | apply State.setOvfPending_kept | exact Kept.refl _ _
    | ((with_reducible refine Kept.build ?_ ?_ ?_ ?_); rotate_left; exact rfl; exact rfl; exact rfl; fail_if_success split)

theorem State.loseSample_kept {ps : List Part} {s t : State} (a1) (h : Kept ps s t) (hp : partsIn [.evt, .reg 20, .reg 21] ps = true) : Kept ps s (State.loseSample t a1) := by
  refine h.lift hp ?_
  clear h hp
  unfold State.loseSample
  repeat' first
    | exact rfl
    | with_reducible first | apply State.bump_kept | apply State.raiseLim_kept | apply State.setOvfPending_kept | exact Kept.refl _ _

theorem State.bwAdd_kept {ps : List Part} {s t : State} (a1 a2 a3) (h : Kept ps s t) (hp : partsIn [.cnt] ps = true) : Kept ps s (State.bwAdd t a1 a2 a3) := by
  refine h.lift hp ?_
  clear h hp
  unfold State.bwAdd
  repeat' first
    | (extract_lets +onlyGivenNames x; subst x)
    | with_reducible exact Kept.refl _ _
    | ((with_reducible refine Kept.build ?_ ?_ ?_ ?_); rotate_left; exact rfl; exact rfl; exact rfl; fail_if_success split)

theorem State.complete_kept {ps : List Part} {s t : State} (a1 a2 a3 a4 a5) (h : Kept ps s t) (hp : partsIn [.outbox] ps = true) : Kept ps s (State.complete t a1 a2 a3 a4 a5) := by
  refine h.lift hp ?_
  clear h hp
  unfold State.complete
  repeat' first
    | exact rfl
    | with_reducible first | apply State.emit_kept | exact Kept.refl _ _

theorem State.setPool_kept {ps : List Part} {s t : State} (a1 a2) (h : Kept ps s t) (hp : partsIn [.fsp] ps = true) : Kept ps s (State.setPool t a1 a2) := by
  refine h.lift hp ?_
  clear h hp
  unfold State.setPool
  repeat' first
    | (extract_lets +onlyGivenNames x; subst x)
    | with_reducible exact Kept.refl _ _
    | ((with_reducible refine Kept.build ?_ ?_ ?_ ?_); rotate_left; exact rfl; exact rfl; exact rfl; fail_if_success split)

theorem State.takeFrom_kept {ps : List Part} {s t : State} (a1 a2) (h : Kept ps s t) (hp : partsIn [.cnt, .fsp, .reg 8, .reg 21] ps = true) : KeptOpt ps s (Prod.snd) (State.takeFrom t a1 a2) := by
  refine KeptOpt.lift h hp ?_
  clear h hp
  unfold State.takeFrom
  repeat' first
    | with_reducible assumption
    | (extract_lets +onlyGivenNames x; refine Kept.cut x ?_ ?_ <;> first | (intro hx; clear_value x) | (unfold x; clear x))
    | (extract_lets +onlyGivenNames x; subst x)
    | exact rfl
    | with_reducible first | apply State.count_kept | apply State.bumpWrap_kept | apply State.setPool_kept | apply KeptOpt.none' | exact Kept.refl _ _
    | ((with_reducible refine Kept.build ?_ ?_ ?_ ?_); rotate_left; exact rfl; exact rfl; exact rfl; fail_if_success split)
    | split

theorem State.takeFrom_kept_eq {ps : List Part} {s t u : State} {a1 a2} {x} (e : State.takeFrom t a1 a2 = some (x, u)) (h : Kept ps s t) (hp : partsIn [.cnt, .fsp, .reg 8, .reg 21] ps = true) : Kept ps s u := by
  have k := State.takeFrom_kept (ps := ps) (s := s) (t := t) a1 a2 h hp
  rw [e] at k
  exact k

theorem State.alloc_kept {ps : List Part} {s t : State} (a1 a2 a3) (h : Kept ps s t) (hp : partsIn [.cnt, .fsp, .reg 8, .reg 21] ps = true) : KeptOpt ps s (fun r => r.2.2) (State.alloc t a1 a2 a3) := by
  unfold State.alloc
  exact KeptOpt.findSome fun n => KeptOpt.map (State.takeFrom_kept n a3 h hp) fun _ k => k

theorem State.alloc_kept_eq {ps : List Part} {s t u : State} {a1 a2 a3 x y} (e : State.alloc t a1 a2 a3 = some (x, y, u)) (h : Kept ps s t) (hp : partsIn [.cnt, .fsp, .reg 8, .reg 21] ps = true) : Kept ps s u := by
  have k := State.alloc_kept a1 a2 a3 h hp
  rw [e] at k
  exact k

theorem State.allocMany_kept {ps : List Part} {s t : State} (a1 a2 a3 a4) (h : Kept ps s t) (hp : partsIn [.cnt, .fsp, .reg 8, .reg 21] ps = true) : KeptOpt ps s Prod.snd (State.allocMany t a1 a2 a3 a4) := by
  induction a4 generalizing t with
  | zero => exact h
  | succ n ih =>
    unfold State.allocMany
    split
    · exact KeptOpt.map (ih (State.alloc_kept_eq ‹_› h hp)) fun _ k => k
    · trivial

theorem State.allocMany_kept_eq {ps : List Part} {s t u : State} {a1 a2 a3 a4 x} (e : State.allocMany t a1 a2 a3 a4 = some (x, u)) (h : Kept ps s t) (hp : partsIn [.cnt, .fsp, .reg 8, .reg 21] ps = true) : Kept ps s u := by
  have k := State.allocMany_kept a1 a2 a3 a4 h hp
  rw [e] at k
  exact k

theorem State.badPointer_kept {ps : List Part} {s t : State} (a1 a2 a3) (h : Kept ps s t) (hp : partsIn [.evt, .outbox, .reg 8, .reg 20] ps = true) : Kept ps s (State.badPointer t a1 a2 a3) := by
  refine h.lift hp ?_
  clear h hp
  unfold State.badPointer
  repeat' first
    | with_reducible assumption
    | (extract_lets +onlyGivenNames x; refine Kept.cut x ?_ ?_ <;> first | (intro hx; clear_value x) | (unfold x; clear x))
    | exact rfl
    | with_reducible first | apply State.bump_kept | apply State.raiseLim_kept | apply State.wr_kept | apply State.emit_kept | exact Kept.refl _ _

theorem State.toCache_kept {ps : List Part} {s t : State} (a1) (h : Kept ps s t) (hp : partsIn [.fsp] ps = true) : Kept ps s (State.toCache t a1) := by
  refine h.lift hp ?_
  clear h hp
  unfold State.toCache
  repeat' first
    | with_reducible assumption
    | (extract_lets +onlyGivenNames x; refine Kept.cut x ?_ ?_ <;> first | (intro hx; clear_value x) | (unfold x; clear x))
    | (extract_lets +onlyGivenNames x; subst x)
    | exact rfl
    | with_reducible first | apply State.setPool_kept | exact Kept.refl _ _
    | ((with_reducible refine Kept.build ?_ ?_ ?_ ?_); rotate_left; exact rfl; exact rfl; exact rfl; fail_if_success split)
    | split

theorem State.decrefChain_kept {ps : List Part} {s t : State} (a1 a2) (h : Kept ps s t) (hp : partsIn [.fsp] ps = true) : Kept ps s (State.decrefChain a1 t a2) := by
  refine h.lift hp ?_
  clear h hp
  have key : ∀ u, Kept [.fsp] t u → Kept [.fsp] t (State.decrefChain a1 u a2) := by
    induction a1 generalizing a2 with
    | zero => intro u hu; unfold State.decrefChain; exact hu
    | succ n ih =>
      intro u hu
      unfold State.decrefChain
      repeat' first
        | with_reducible first | assumption | apply ih
        | (extract_lets +onlyGivenNames x; refine Kept.cut x ?_ ?_ <;> first | (intro hx; clear_value x) | (unfold x; clear x))
        | (extract_lets +onlyGivenNames x; subst x)
        | with_reducible apply Kept.ite
        | exact rfl
        | with_reducible apply State.toCache_kept
        | ((with_reducible refine Kept.build ?_ ?_ ?_ ?_); rotate_left; exact rfl; exact rfl; exact rfl; fail_if_success split)
        | split
  exact key t (Kept.refl _ _)

theorem State.decref_kept {ps : List Part} {s t : State} (a1) (h : Kept ps s t) (hp : partsIn [.fsp] ps = true) : Kept ps s (State.decref t a1) := by
  refine h.lift hp ?_
  clear h hp
  unfold State.decref
  repeat' first
    | exact rfl
    | with_reducible first | apply State.decrefChain_kept | exact Kept.refl _ _

theorem State.decrefs_kept {ps : List Part} {s t : State} (a1) (h : Kept ps s t) (hp : partsIn [.fsp] ps = true) : Kept ps s (State.decrefs t a1) := by
  refine h.lift hp ?_
  clear h hp
  unfold State.decrefs
  repeat' first
    | with_reducible assumption
    | exact rfl
    | with_reducible first | apply State.decref_kept | exact Kept.refl _ _ | apply Kept.foldl
    | (intro _; intros; try dsimp -zeta only)

theorem State.incref_kept {ps : List Part} {s t : State} (a1) (h : Kept ps s t) (hp : partsIn [.fsp] ps = true) : Kept ps s (State.incref t a1) := by
  refine h.lift hp ?_
  clear h hp
  unfold State.incref
  repeat' first
    | (extract_lets +onlyGivenNames x; subst x)
    | with_reducible exact Kept.refl _ _
    | ((with_reducible refine Kept.build ?_ ?_ ?_ ?_); rotate_left; exact rfl; exact rfl; exact rfl; fail_if_success split)

theorem State.wrLevel_kept {ps : List Part} {s t : State} (n i j v) (h : Kept ps s t) (hp : partsIn [.reg 8] ps = true) : Kept ps s (State.wr t (levelField n) i j v) := by
  refine State.wr_kept _ _ _ _ h (by simpa [Fld.block, levelField, Reg.FSP_LEVEL_0] using hp) ?_
  simp only [levelField, Fld.fits, Reg.FSP_LEVEL_0, Nat.blt_eq]
  omega

theorem State.poolBoundary_kept {ps : List Part} {s t : State} (a1) (h : Kept ps s t) (hp : partsIn [.evt, .fsp, .reg 8, .reg 20] ps = true) : Kept ps s (State.poolBoundary t a1) := by
  refine h.lift hp ?_
  clear h hp
  unfold State.poolBoundary
  repeat' first
    | with_reducible assumption
    | (extract_lets +onlyGivenNames x; refine Kept.cut x ?_ ?_ <;> first | (intro hx; clear_value x) | (unfold x; clear x))
    | (extract_lets +onlyGivenNames x; subst x)
    | with_reducible apply Kept.ite
    | exact rfl
    | with_reducible first | apply State.wrLevel_kept | apply State.raiseLim_kept | apply State.wr_kept | apply State.setPool_kept | exact Kept.refl _ _

theorem State.mirrorSend_kept {ps : List Part} {s t : State} (a1 a2 a3) (h : Kept ps s t) (hp : partsIn [.cnt, .fov, .outbox, .reg 21] ps = true) : Kept ps s (State.mirrorSend t a1 a2 a3) := by
  refine h.lift hp ?_
  clear h hp
  unfold State.mirrorSend
  repeat' first
    | with_reducible assumption
    | (extract_lets +onlyGivenNames x; refine Kept.cut x ?_ ?_ <;> first | (intro hx; clear_value x) | (unfold x; clear x))
    | (extract_lets +onlyGivenNames x; subst x)
    | exact rfl
    | with_reducible first | apply State.count_kept | apply State.emit_kept | exact Kept.refl _ _
    | ((with_reducible refine Kept.build ?_ ?_ ?_ ?_); rotate_left; exact rfl; exact rfl; exact rfl; fail_if_success split)

theorem State.mdWrite_kept {ps : List Part} {s t : State} (a1) (h : Kept ps s t) (hp : partsIn [.lay] ps = true) : Kept ps s (State.mdWrite t a1) := by
  refine h.lift hp ?_
  clear h hp
  unfold State.mdWrite
  repeat' first
    | (extract_lets +onlyGivenNames x; subst x)
    | with_reducible exact Kept.refl _ _
    | ((with_reducible refine Kept.build ?_ ?_ ?_ ?_); rotate_left; exact rfl; exact rfl; exact rfl; fail_if_success split)

theorem State.setCtrl_kept {ps : List Part} {s t : State} (a1 a2) (h : Kept ps s t) (hp : partsIn [.cmd] ps = true) : Kept ps s (State.setCtrl t a1 a2) := by
  refine h.lift hp ?_
  clear h hp
  unfold State.setCtrl
  repeat' first
    | (extract_lets +onlyGivenNames x; subst x)
    | with_reducible exact Kept.refl _ _
    | ((with_reducible refine Kept.build ?_ ?_ ?_ ?_); rotate_left; exact rfl; exact rfl; exact rfl; fail_if_success split)

theorem State.modCtrl_kept {ps : List Part} {s t : State} (a1 a2) (h : Kept ps s t) (hp : partsIn [.cmd] ps = true) : Kept ps s (State.modCtrl t a1 a2) := by
  refine h.lift hp ?_
  clear h hp
  unfold State.modCtrl
  repeat' first
    | (extract_lets +onlyGivenNames x; subst x)
    | with_reducible exact Kept.refl _ _
    | ((with_reducible refine Kept.build ?_ ?_ ?_ ?_); rotate_left; exact rfl; exact rfl; exact rfl; fail_if_success split)

theorem State.mailboxPost_kept {ps : List Part} {s t : State} (a1 a2 a3 a4) (h : Kept ps s t) (hp : partsIn [.evt, .sep, .reg 19] ps = true) : Kept ps s (State.mailboxPost t a1 a2 a3 a4) := by
  refine h.lift hp ?_
  clear h hp
  unfold State.mailboxPost
  repeat' first
    | with_reducible assumption
    | (extract_lets +onlyGivenNames x; refine Kept.cut x ?_ ?_ <;> first | (intro hx; clear_value x) | (unfold x; clear x))
    | (extract_lets +onlyGivenNames x; subst x)
    | exact rfl
    | with_reducible first | apply State.wr_kept | exact Kept.refl _ _
    | ((with_reducible refine Kept.build ?_ ?_ ?_ ?_); rotate_left; exact rfl; exact rfl; exact rfl; fail_if_success split)

theorem State.reply_kept {ps : List Part} {s t : State} (a1 a2 a3 a4 a5) (h : Kept ps s t) (hp : partsIn [.cnt, .evt, .outbox, .sep, .reg 19, .reg 21] ps = true) : Kept ps s (State.reply t a1 a2 a3 a4 a5) := by
  refine h.lift hp ?_
  clear h hp
  unfold State.reply
  repeat' first
    | with_reducible assumption
    | (extract_lets +onlyGivenNames x; refine Kept.cut x ?_ ?_ <;> first | (intro hx; clear_value x) | (unfold x; clear x))
    | (extract_lets +onlyGivenNames x; subst x)
    | with_reducible apply Kept.ite
    | exact rfl
    | with_reducible first | apply State.complete_kept | apply State.mailboxPost_kept | apply State.count_kept | exact Kept.refl _ _
    | ((with_reducible refine Kept.build ?_ ?_ ?_ ?_); rotate_left; exact rfl; exact rfl; exact rfl; fail_if_success split)

theorem State.replyOk_kept {ps : List Part} {s t : State} (a1 a2) (h : Kept ps s t) (hp : partsIn [.cnt, .evt, .outbox, .sep, .reg 19, .reg 21] ps = true) : Kept ps s (State.replyOk t a1 a2) := by
  refine h.lift hp ?_
  clear h hp
  unfold State.replyOk
  repeat' first
    | exact rfl
    | with_reducible first | apply State.reply_kept | exact Kept.refl _ _

theorem State.replyErr_kept {ps : List Part} {s t : State} (a1 a2 a3) (h : Kept ps s t) (hp : partsIn [.cnt, .evt, .outbox, .sep, .reg 19, .reg 21] ps = true) : Kept ps s (State.replyErr t a1 a2 a3) := by
  refine h.lift hp ?_
  clear h hp
  unfold State.replyErr
  repeat' first
    | exact rfl
    | with_reducible first | apply State.reply_kept | exact Kept.refl _ _

theorem State.startTask_kept {ps : List Part} {s t : State} (a1 a2 a3) (h : Kept ps s t) (hp : partsIn [.cfg] ps = true) : Kept ps s (State.startTask t a1 a2 a3) := by
  refine h.lift hp ?_
  clear h hp
  unfold State.startTask
  repeat' first
    | (extract_lets +onlyGivenNames x; subst x)
    | with_reducible exact Kept.refl _ _
    | ((with_reducible refine Kept.build ?_ ?_ ?_ ?_); rotate_left; exact rfl; exact rfl; exact rfl; fail_if_success split)

theorem State.endTask_kept {ps : List Part} {s t : State} (a1 a2 a3) (h : Kept ps s t) (hp : partsIn [.cfg] ps = true) : Kept ps s (State.endTask t a1 a2 a3) := by
  refine h.lift hp ?_
  clear h hp
  unfold State.endTask
  repeat' first
    | (extract_lets +onlyGivenNames x; subst x)
    | with_reducible exact Kept.refl _ _
    | ((with_reducible refine Kept.build ?_ ?_ ?_ ?_); rotate_left; exact rfl; exact rfl; exact rfl; fail_if_success split)

theorem State.admin_kept {ps : List Part} {s t : State} (a1 a2 a3 a4) {a5 : State → State} {a6 a7} (h : Kept ps s t)
    (k : ∀ x, Kept ps s x → Kept ps s (a5 x)) (hp : partsIn [.cnt, .deferred, .evt, .outbox, .sep, .reg 19, .reg 21] ps = true) :
    Kept ps s (State.admin t a1 a2 a3 a4 a5 a6 a7) := by
  unfold State.admin
  split
  · exact h
  · exact State.replyErr_kept _ _ _ h (within_trans rfl hp)
  · split
    · exact State.defer_kept _ h (within_trans rfl hp)
    · exact k _ h

theorem State.outOfBound_kept {ps : List Part} {s t : State} (a1 a2 a3) (h : Kept ps s t) (hp : partsIn [.cnt, .evt, .outbox, .sep, .reg 19, .reg 20, .reg 21] ps = true) : Kept ps s (State.outOfBound t a1 a2 a3) := by
  refine h.lift hp ?_
  clear h hp
  unfold State.outOfBound
  repeat' first
    | exact rfl
    | with_reducible first | apply State.replyErr_kept | apply State.violation_kept | exact Kept.refl _ _

theorem State.setAna_kept {ps : List Part} {s t : State} (a1) (h : Kept ps s t) (hp : partsIn [.cmd, .evt, .outbox, .reg 7, .reg 20] ps = true) : Kept ps s (State.setAna t a1) := by
  refine h.lift hp ?_
  clear h hp
  unfold State.setAna
  repeat' first
    | with_reducible assumption
    | (extract_lets +onlyGivenNames x; refine Kept.cut x ?_ ?_ <;> first | (intro hx; clear_value x) | (unfold x; clear x))
    | (extract_lets +onlyGivenNames x; subst x)
    | with_reducible apply Kept.ite
    | exact rfl
    | with_reducible first | apply State.bump_kept | apply State.wr_kept | apply State.raise_kept | apply State.modCtrl_kept | apply State.emit_kept | exact Kept.refl _ _ | apply Kept.foldl
    | ((with_reducible refine Kept.build ?_ ?_ ?_ ?_); rotate_left; exact rfl; exact rfl; exact rfl; fail_if_success split)
    | split
    | (intro _; intros; try dsimp -zeta only)

theorem State.setMarker_kept {ps : List Part} {s t : State} (a1 a2 a3) (h : Kept ps s t) (hp : partsIn [.cmd, .evt, .lay, .reg 7, .reg 20] ps = true) : Kept ps s (State.setMarker t a1 a2 a3) := by
  refine h.lift hp ?_
  clear h hp
  unfold State.setMarker
  repeat' first
    | with_reducible assumption
    | (extract_lets +onlyGivenNames x; refine Kept.cut x ?_ ?_ <;> first | (intro hx; clear_value x) | (unfold x; clear x))
    | (extract_lets +onlyGivenNames x; subst x)
    | with_reducible apply Kept.ite
    | exact rfl
    | with_reducible first | apply State.wr_kept | apply State.raise_kept | apply State.mdWrite_kept | exact Kept.refl _ _
    | ((with_reducible refine Kept.build ?_ ?_ ?_ ?_); rotate_left; exact rfl; exact rfl; exact rfl; fail_if_success split)

theorem State.logLost_kept {ps : List Part} {s t : State} (a1 a2 a3 a4) (h : Kept ps s t) (hp : partsIn [.cmd, .lay, .reg 7] ps = true) : Kept ps s (State.logLost t a1 a2 a3 a4) := by
  refine h.lift hp ?_
  clear h hp
  unfold State.logLost
  repeat' first
    | with_reducible assumption
    | (extract_lets +onlyGivenNames x; refine Kept.cut x ?_ ?_ <;> first | (intro hx; clear_value x) | (unfold x; clear x))
    | (extract_lets +onlyGivenNames x; subst x)
    | exact rfl
    | with_reducible first | apply State.wr_kept | apply State.mdWrite_kept | exact Kept.refl _ _
    | ((with_reducible refine Kept.build ?_ ?_ ?_ ?_); rotate_left; exact rfl; exact rfl; exact rfl; fail_if_success split)

theorem State.lose_kept {ps : List Part} {s t : State} (a1 a2 a3 a4 a5) (h : Kept ps s t) (hp : partsIn [.cmd, .evt, .lay, .reg 7, .reg 20] ps = true) : Kept ps s (State.lose t a1 a2 a3 a4 a5) := by
  refine h.lift hp ?_
  clear h hp
  unfold State.lose
  repeat' first
    | with_reducible assumption
    | (extract_lets +onlyGivenNames x; refine Kept.cut x ?_ ?_ <;> first | (intro hx; clear_value x) | (unfold x; clear x))
    | (extract_lets +onlyGivenNames x; subst x)
    | exact rfl
    | with_reducible first | apply State.setMarker_kept | apply State.logLost_kept | exact Kept.refl _ _ | apply Kept.foldl
    | (intro _; intros; try dsimp -zeta only)

theorem State.takeMarker_kept {ps : List Part} {s t : State} (a1 a2) (h : Kept ps s t) (hp : partsIn [.cmd, .reg 7] ps = true) : KeptOpt ps s (Prod.snd) (State.takeMarker t a1 a2) := by
  refine KeptOpt.lift h hp ?_
  clear h hp
  unfold State.takeMarker
  repeat' first
    | (extract_lets +onlyGivenNames x; subst x)
    | exact rfl
    | with_reducible first | apply State.wr_kept | apply KeptOpt.some' | apply KeptOpt.none' | exact Kept.refl _ _
    | ((with_reducible refine Kept.build ?_ ?_ ?_ ?_); rotate_left; exact rfl; exact rfl; exact rfl; fail_if_success split)
    | split

theorem State.takeMarker_kept_eq {ps : List Part} {s t u : State} {a1 a2} {x} (e : State.takeMarker t a1 a2 = some (x, u)) (h : Kept ps s t) (hp : partsIn [.cmd, .reg 7] ps = true) : Kept ps s u := by
  have k := State.takeMarker_kept (ps := ps) (s := s) (t := t) a1 a2 h hp
  rw [e] at k
  exact k

theorem State.setZone_kept {ps : List Part} {s t : State} (a1 a2 a3) (h : Kept ps s t) (hp : partsIn [.cmd] ps = true) : Kept ps s (State.setZone t a1 a2 a3) := by
  refine h.lift hp ?_
  clear h hp
  unfold State.setZone
  repeat' first
    | (extract_lets +onlyGivenNames x; subst x)
    | with_reducible exact Kept.refl _ _
    | ((with_reducible refine Kept.build ?_ ?_ ?_ ?_); rotate_left; exact rfl; exact rfl; exact rfl; fail_if_success split)

theorem State.setEntry_kept {ps : List Part} {s t : State} (a1 a2) (h : Kept ps s t) (hp : partsIn [.cmd] ps = true) : Kept ps s (State.setEntry t a1 a2) := by
  refine h.lift hp ?_
  clear h hp
  unfold State.setEntry
  repeat' first
    | (extract_lets +onlyGivenNames x; subst x)
    | with_reducible exact Kept.refl _ _
    | ((with_reducible refine Kept.build ?_ ?_ ?_ ?_); rotate_left; exact rfl; exact rfl; exact rfl; fail_if_success split)

theorem State.modEntry_kept {ps : List Part} {s t : State} (a1 a2) (h : Kept ps s t) (hp : partsIn [.cmd] ps = true) : Kept ps s (State.modEntry t a1 a2) := by
  refine h.lift hp ?_
  clear h hp
  unfold State.modEntry
  repeat' first
    | (extract_lets +onlyGivenNames x; subst x)
    | with_reducible exact Kept.refl _ _
    | ((with_reducible refine Kept.build ?_ ?_ ?_ ?_); rotate_left; exact rfl; exact rfl; exact rfl; fail_if_success split)

theorem State.cmdStatus_kept {ps : List Part} {s t : State} (h : Kept ps s t) (hp : partsIn [.reg 7] ps = true) : Kept ps s (State.cmdStatus t) := by
  refine h.lift hp ?_
  clear h hp
  unfold State.cmdStatus
  repeat' first
    | with_reducible assumption
    | (extract_lets +onlyGivenNames x; refine Kept.cut x ?_ ?_ <;> first | (intro hx; clear_value x) | (unfold x; clear x))
    | (extract_lets +onlyGivenNames x; subst x)
    | exact rfl
    | with_reducible first | apply State.wr_kept | exact Kept.refl _ _

theorem State.releaseBlocks_kept {ps : List Part} {s t : State} (a1) (h : Kept ps s t) (hp : partsIn [.fsp, .win] ps = true) : Kept ps s (State.releaseBlocks t a1) := by
  refine h.lift hp ?_
  clear h hp
  unfold State.releaseBlocks
  repeat' first
    | (extract_lets +onlyGivenNames x; subst x)
    | exact rfl
    | with_reducible first | apply State.decrefs_kept | exact Kept.refl _ _
    | ((with_reducible refine Kept.build ?_ ?_ ?_ ?_); rotate_left; exact rfl; exact rfl; exact rfl; fail_if_success split)

theorem State.dropEntry_kept {ps : List Part} {s t : State} (a1) (h : Kept ps s t) (hp : partsIn [.cmd, .fsp, .win, .reg 7] ps = true) : Kept ps s (State.dropEntry t a1) := by
  refine h.lift hp ?_
  clear h hp
  unfold State.dropEntry
  repeat' first
    | with_reducible assumption
    | (extract_lets +onlyGivenNames x; refine Kept.cut x ?_ ?_ <;> first | (intro hx; clear_value x) | (unfold x; clear x))
    | (extract_lets +onlyGivenNames x; subst x)
    | exact rfl
    | with_reducible first | apply State.releaseBlocks_kept | apply State.cmdStatus_kept | exact Kept.refl _ _
    | ((with_reducible refine Kept.build ?_ ?_ ?_ ?_); rotate_left; exact rfl; exact rfl; exact rfl; fail_if_success split)
    | split

theorem State.finishOne_kept {ps : List Part} {s t : State} (a1 a2 a3 a4) (h : Kept ps s t) (hp : partsIn [.cmd, .cnt, .fsp, .outbox, .win, .reg 7, .reg 21] ps = true) : Kept ps s (State.finishOne t a1 a2 a3 a4) := by
  refine h.lift hp ?_
  clear h hp
  unfold State.finishOne
  repeat' first
    | with_reducible assumption
    | (extract_lets +onlyGivenNames x; refine Kept.cut x ?_ ?_ <;> first | (intro hx; clear_value x) | (unfold x; clear x))
    | with_reducible apply Kept.ite
    | exact rfl
    | with_reducible first | apply State.dropEntry_kept | apply State.complete_kept | apply State.count_kept | exact Kept.refl _ _
    | split

theorem State.settleFlushes_kept {ps : List Part} {s t : State} (h : Kept ps s t) (hp : partsIn [.cmd, .cnt, .fsp, .outbox, .win, .reg 7, .reg 21] ps = true) : Kept ps s (State.settleFlushes t) := by
  refine h.lift hp ?_
  clear h hp
  unfold State.settleFlushes
  repeat' first
    | with_reducible first | assumption | apply Kept.ite
    | exact rfl
    | with_reducible first | apply State.finishOne_kept | exact Kept.refl _ _ | apply Kept.foldl
    | (intro _; intros; try dsimp -zeta only)

theorem State.finish_kept {ps : List Part} {s t : State} (a1 a2 a3 a4) (h : Kept ps s t) (hp : partsIn [.cmd, .cnt, .fsp, .outbox, .win, .reg 7, .reg 21] ps = true) : Kept ps s (State.finish t a1 a2 a3 a4) := by
  refine h.lift hp ?_
  clear h hp
  unfold State.finish
  repeat' first
    | exact rfl
    | with_reducible first | apply State.settleFlushes_kept | apply State.finishOne_kept | exact Kept.refl _ _

theorem State.abandonReads_kept {ps : List Part} {s t : State} (a1) (h : Kept ps s t) (hp : partsIn [.cmp] ps = true) : Kept ps s (State.abandonReads t a1) := by
  refine h.lift hp ?_
  clear h hp
  unfold State.abandonReads
  repeat' first
    | (extract_lets +onlyGivenNames x; subst x)
    | with_reducible exact Kept.refl _ _
    | ((with_reducible refine Kept.build ?_ ?_ ?_ ?_); rotate_left; exact rfl; exact rfl; exact rfl; fail_if_success split)

theorem State.resetEntry_kept {ps : List Part} {s t : State} (a1 a2) (h : Kept ps s t) (hp : partsIn [.cmd, .cmp, .cnt, .fsp, .outbox, .win, .reg 7, .reg 21] ps = true) : Kept ps s (State.resetEntry t a1 a2) := by
  refine h.lift hp ?_
  clear h hp
  unfold State.resetEntry
  repeat' first
    | with_reducible apply Kept.ite
    | exact rfl
    | with_reducible first | apply State.modEntry_kept | apply State.abandonReads_kept | apply State.finishOne_kept | exact Kept.refl _ _
    | split

theorem State.resetQueues_kept {ps : List Part} {s t : State} (a1 a2 a3) (h : Kept ps s t) (hp : partsIn [.cmd, .cmp, .cnt, .fsp, .outbox, .win, .reg 7, .reg 21] ps = true) : Kept ps s (State.resetQueues t a1 a2 a3) := by
  refine h.lift hp ?_
  clear h hp
  unfold State.resetQueues
  repeat' first
    | with_reducible assumption
    | (extract_lets +onlyGivenNames x; subst x)
    | exact rfl
    | with_reducible first | apply State.settleFlushes_kept | apply State.resetEntry_kept | exact Kept.refl _ _ | apply Kept.foldl
    | (intro _; intros; try dsimp -zeta only)

theorem State.endSelfTest_kept {ps : List Part} {s t : State} (a1 a2) (h : Kept ps s t) (hp : partsIn [.cmd, .evt, .reg 7, .reg 20] ps = true) : Kept ps s (State.endSelfTest t a1 a2) := by
  refine h.lift hp ?_
  clear h hp
  unfold State.endSelfTest
  repeat' first
    | with_reducible assumption
    | (extract_lets +onlyGivenNames x; refine Kept.cut x ?_ ?_ <;> first | (intro hx; clear_value x) | (unfold x; clear x))
    | (extract_lets +onlyGivenNames x; subst x)
    | exact rfl
    | with_reducible first | apply State.wr_kept | apply State.raise_kept | exact Kept.refl _ _
    | ((with_reducible refine Kept.build ?_ ?_ ?_ ?_); rotate_left; exact rfl; exact rfl; exact rfl; fail_if_success split)
    | split

theorem State.ctrlStatus_kept {ps : List Part} {s t : State} (h : Kept ps s t) (hp : partsIn [.reg 7] ps = true) : Kept ps s (State.ctrlStatus t) := by
  refine h.lift hp ?_
  clear h hp
  unfold State.ctrlStatus
  repeat' first
    | (extract_lets +onlyGivenNames x; subst x)
    | exact rfl
    | with_reducible first | apply State.wr_kept | exact Kept.refl _ _

theorem State.resetController_kept {ps : List Part} {s t : State} (a1 a2) (h : Kept ps s t) (hp : partsIn [.cmd, .cmp, .cnt, .evt, .fsp, .outbox, .win, .reg 7, .reg 20, .reg 21] ps = true) : Kept ps s (State.resetController t a1 a2) := by
  refine h.lift hp ?_
  clear h hp
  unfold State.resetController
  repeat' first
    | with_reducible assumption
    | (extract_lets +onlyGivenNames x; refine Kept.cut x ?_ ?_ <;> first | (intro hx; clear_value x) | (unfold x; clear x))
    | with_reducible apply Kept.ite
    | exact rfl
    | with_reducible first | apply State.resetQueues_kept | apply State.modCtrl_kept | apply State.endSelfTest_kept | exact Kept.refl _ _
    | split

theorem State.removeController_kept {ps : List Part} {s t : State} (a1) (h : Kept ps s t) (hp : partsIn [.cmd, .evt, .reg 7] ps = true) : Kept ps s (State.removeController t a1) := by
  refine h.lift hp ?_
  clear h hp
  unfold State.removeController
  repeat' first
    | with_reducible assumption
    | (extract_lets +onlyGivenNames x; refine Kept.cut x ?_ ?_ <;> first | (intro hx; clear_value x) | (unfold x; clear x))
    | (extract_lets +onlyGivenNames x; subst x)
    | exact rfl
    | with_reducible first | apply State.ctrlStatus_kept | exact Kept.refl _ _
    | ((with_reducible refine Kept.build ?_ ?_ ?_ ?_); rotate_left; exact rfl; exact rfl; exact rfl; fail_if_success split)

theorem State.loseQueue_kept {ps : List Part} {s t : State} (a1) (h : Kept ps s t) (hp : partsIn [.cmd, .cmp, .cnt, .evt, .fsp, .outbox, .win, .reg 7, .reg 20, .reg 21] ps = true) : Kept ps s (State.loseQueue t a1) := by
  refine h.lift hp ?_
  clear h hp
  unfold State.loseQueue
  repeat' first
    | with_reducible apply Kept.ite
    | exact rfl
    | with_reducible first | apply State.resetController_kept | apply State.resetQueues_kept | apply State.removeController_kept | apply State.modCtrl_kept | exact Kept.refl _ _
    | split

theorem State.modGrp_kept {ps : List Part} {s t : State} (a1 a2) (h : Kept ps s t) (hp : partsIn [.lay] ps = true) : Kept ps s (State.modGrp t a1 a2) := by
  refine h.lift hp ?_
  clear h hp
  unfold State.modGrp
  repeat' first
    | (extract_lets +onlyGivenNames x; subst x)
    | with_reducible exact Kept.refl _ _
    | ((with_reducible refine Kept.build ?_ ?_ ?_ ?_); rotate_left; exact rfl; exact rfl; exact rfl; fail_if_success split)

theorem State.modSet_kept {ps : List Part} {s t : State} (a1 a2) (h : Kept ps s t) (hp : partsIn [.lay] ps = true) : Kept ps s (State.modSet t a1 a2) := by
  refine h.lift hp ?_
  clear h hp
  unfold State.modSet
  repeat' first
    | (extract_lets +onlyGivenNames x; subst x)
    | with_reducible exact Kept.refl _ _
    | ((with_reducible refine Kept.build ?_ ?_ ?_ ?_); rotate_left; exact rfl; exact rfl; exact rfl; fail_if_success split)

theorem State.modRole_kept {ps : List Part} {s t : State} (a1 a2) (h : Kept ps s t) (hp : partsIn [.jnl] ps = true) : Kept ps s (State.modRole t a1 a2) := by
  refine h.lift hp ?_
  clear h hp
  unfold State.modRole
  repeat' first
    | (extract_lets +onlyGivenNames x; subst x)
    | with_reducible exact Kept.refl _ _
    | ((with_reducible refine Kept.build ?_ ?_ ?_ ?_); rotate_left; exact rfl; exact rfl; exact rfl; fail_if_success split)

theorem State.modSlot_kept {ps : List Part} {s t : State} (a1 a2) (h : Kept ps s t) (hp : partsIn [.drv] ps = true) : Kept ps s (State.modSlot t a1 a2) := by
  refine h.lift hp ?_
  clear h hp
  unfold State.modSlot
  repeat' first
    | with_reducible exact Kept.refl _ _
    | ((with_reducible refine Kept.build ?_ ?_ ?_ ?_); rotate_left; exact rfl; exact rfl; exact rfl; fail_if_success split)

theorem State.modChan_kept {ps : List Part} {s t : State} (a1 a2) (h : Kept ps s t) (hp : partsIn [.pwr] ps = true) : Kept ps s (State.modChan t a1 a2) := by
  refine h.lift hp ?_
  clear h hp
  unfold State.modChan
  repeat' first
    | (extract_lets +onlyGivenNames x; subst x)
    | with_reducible exact Kept.refl _ _
    | ((with_reducible refine Kept.build ?_ ?_ ?_ ?_); rotate_left; exact rfl; exact rfl; exact rfl; fail_if_success split)

theorem State.modFeed_kept {ps : List Part} {s t : State} (a1 a2) (h : Kept ps s t) (hp : partsIn [.pwr] ps = true) : Kept ps s (State.modFeed t a1 a2) := by
  refine h.lift hp ?_
  clear h hp
  unfold State.modFeed
  repeat' first
    | (extract_lets +onlyGivenNames x; subst x)
    | with_reducible exact Kept.refl _ _
    | ((with_reducible refine Kept.build ?_ ?_ ?_ ?_); rotate_left; exact rfl; exact rfl; exact rfl; fail_if_success split)

theorem State.modPos_kept {ps : List Part} {s t : State} (a1 a2 a3) (h : Kept ps s t) (hp : partsIn [.axl] ps = true) : Kept ps s (State.modPos t a1 a2 a3) := by
  refine h.lift hp ?_
  clear h hp
  unfold State.modPos
  repeat' first
    | (extract_lets +onlyGivenNames x; subst x)
    | with_reducible exact Kept.refl _ _
    | ((with_reducible refine Kept.build ?_ ?_ ?_ ?_); rotate_left; exact rfl; exact rfl; exact rfl; fail_if_success split)

theorem State.drvTo_kept {ps : List Part} {s t : State} (a1 a2 a3) (h : Kept ps s t) (hp : partsIn [.deferred] ps = true) : Kept ps s (State.drvTo t a1 a2 a3) := by
  refine h.lift hp ?_
  clear h hp
  unfold State.drvTo
  repeat' first
    | exact rfl
    | with_reducible first | apply State.defer_kept | exact Kept.refl _ _

theorem State.armClear_kept {ps : List Part} {s t : State} (a1) (h : Kept ps s t) (hp : partsIn [.pwr] ps = true) : Kept ps s (State.armClear t a1) := by
  refine h.lift hp ?_
  clear h hp
  unfold State.armClear
  repeat' first
    | exact rfl
    | with_reducible first | apply State.modChan_kept | exact Kept.refl _ _

theorem State.chanIdle_kept {ps : List Part} {s t : State} (a1) (h : Kept ps s t) (hp : partsIn [.evt, .pwr, .reg 20] ps = true) : Kept ps s (State.chanIdle t a1) := by
  refine h.lift hp ?_
  clear h hp
  unfold State.chanIdle
  repeat' first
    | with_reducible apply Kept.ite
    | exact rfl
    | with_reducible first | apply State.modChan_kept | apply State.raise_kept | exact Kept.refl _ _

theorem State.gateOff_kept {ps : List Part} {s t : State} (a1 a2) (h : Kept ps s t) (hp : partsIn [.drv, .evt, .pwr, .reg 20] ps = true) : Kept ps s (State.gateOff t a1 a2) := by
  refine h.lift hp ?_
  clear h hp
  unfold State.gateOff
  repeat' first
    | with_reducible assumption
    | (extract_lets +onlyGivenNames x; refine Kept.cut x ?_ ?_ <;> first | (intro hx; clear_value x) | (unfold x; clear x))
    | with_reducible apply Kept.ite
    | exact rfl
    | with_reducible first | apply State.chanIdle_kept | apply State.modChan_kept | apply State.modSlot_kept | apply State.armClear_kept | exact Kept.refl _ _

theorem State.startStop_kept {ps : List Part} {s t : State} (a1) (h : Kept ps s t) (hp : partsIn [.outbox, .pwr] ps = true) : Kept ps s (State.startStop t a1) := by
  refine h.lift hp ?_
  clear h hp
  unfold State.startStop
  repeat' first
    | exact rfl
    | with_reducible first | apply State.modChan_kept | apply State.emit_kept | exact Kept.refl _ _

theorem State.chanDemand_kept {ps : List Part} {s t : State} (a1 a2) (h : Kept ps s t) (hp : partsIn [.deferred, .evt, .outbox, .pwr, .reg 20] ps = true) : Kept ps s (State.chanDemand t a1 a2) := by
  refine h.lift hp ?_
  clear h hp
  unfold State.chanDemand
  repeat' first
    | with_reducible assumption
    | (extract_lets +onlyGivenNames x; refine Kept.cut x ?_ ?_ <;> first | (intro hx; clear_value x) | (unfold x; clear x))
    | (extract_lets +onlyGivenNames x; subst x)
    | with_reducible apply Kept.ite
    | exact rfl
    | with_reducible first | apply State.chanIdle_kept | apply State.modChan_kept | apply State.startStop_kept | apply State.drvTo_kept | apply State.armClear_kept | exact Kept.refl _ _
    | split

theorem State.sendDemand_kept {ps : List Part} {s t : State} (h : Kept ps s t) (hp : partsIn [.fov, .outbox, .pwr] ps = true) : Kept ps s (State.sendDemand t) := by
  refine h.lift hp ?_
  clear h hp
  unfold State.sendDemand
  repeat' first
    | with_reducible assumption
    | (extract_lets +onlyGivenNames x; refine Kept.cut x ?_ ?_ <;> first | (intro hx; clear_value x) | (unfold x; clear x))
    | (extract_lets +onlyGivenNames x; subst x)
    | with_reducible apply Kept.ite
    | exact rfl
    | with_reducible first | apply State.modChan_kept | apply State.armClear_kept | apply State.emit_kept | exact Kept.refl _ _ | apply Kept.foldIdx
    | ((with_reducible refine Kept.build ?_ ?_ ?_ ?_); rotate_left; exact rfl; exact rfl; exact rfl; fail_if_success split)
    | (intro _; intros; try dsimp -zeta only)

theorem State.updateDemand_kept {ps : List Part} {s t : State} (h : Kept ps s t) (hp : partsIn [.deferred, .evt, .fov, .outbox, .pwr, .reg 20] ps = true) : Kept ps s (State.updateDemand t) := by
  refine h.lift hp ?_
  clear h hp
  unfold State.updateDemand
  repeat' first
    | with_reducible assumption
    | (extract_lets +onlyGivenNames x; refine Kept.cut x ?_ ?_ <;> first | (intro hx; clear_value x) | (unfold x; clear x))
    | with_reducible apply Kept.ite
    | exact rfl
    | with_reducible first | apply State.chanDemand_kept | apply State.sendDemand_kept | exact Kept.refl _ _ | apply Kept.foldIdx
    | (intro _; intros; try dsimp -zeta only)

theorem State.beginCycle_kept {ps : List Part} {s t : State} (a1) (h : Kept ps s t) (hp : partsIn [.drv, .evt, .fov, .outbox, .pwr, .reg 20] ps = true) : Kept ps s (State.beginCycle t a1) := by
  refine h.lift hp ?_
  clear h hp
  unfold State.beginCycle
  repeat' first
    | with_reducible assumption
    | (extract_lets +onlyGivenNames x; refine Kept.cut x ?_ ?_ <;> first | (intro hx; clear_value x) | (unfold x; clear x))
    | with_reducible apply Kept.ite
    | exact rfl
    | with_reducible first | apply State.chanIdle_kept | apply State.modChan_kept | apply State.gateOff_kept | apply State.sendDemand_kept | exact Kept.refl _ _
    | split

theorem State.driveBytes_kept {ps : List Part} {s t : State} (a1 a2 a3) (h : Kept ps s t) (hp : partsIn [.cnt, .reg 16, .reg 21] ps = true) : Kept ps s (State.driveBytes t a1 a2 a3) := by
  refine h.lift hp ?_
  clear h hp
  unfold State.driveBytes
  repeat' first
    | with_reducible apply Kept.ite
    | exact rfl
    | with_reducible first | apply State.count_kept | apply State.bumpWrap_kept | exact Kept.refl _ _

theorem State.writeUnit_kept {ps : List Part} {s t : State} (a1 a2 a3) (h : Kept ps s t) (hp : partsIn [.cnt, .outbox, .reg 16, .reg 21] ps = true) : Kept ps s (State.writeUnit t a1 a2 a3) := by
  refine h.lift hp ?_
  clear h hp
  unfold State.writeUnit
  repeat' first
    | (extract_lets +onlyGivenNames x; subst x)
    | exact rfl
    | with_reducible first | apply State.driveBytes_kept | apply State.emit_kept | exact Kept.refl _ _

theorem State.readUnit_kept {ps : List Part} {s t : State} (a1 a2 a3) (h : Kept ps s t) (hp : partsIn [.cnt, .outbox, .reg 16, .reg 21] ps = true) : Kept ps s (State.readUnit t a1 a2 a3) := by
  refine h.lift hp ?_
  clear h hp
  unfold State.readUnit
  repeat' first
    | (extract_lets +onlyGivenNames x; subst x)
    | exact rfl
    | with_reducible first | apply State.driveBytes_kept | apply State.emit_kept | exact Kept.refl _ _

theorem State.posTo_kept {ps : List Part} {s t : State} (a1 a2 a3) (h : Kept ps s t) (hp : partsIn [.deferred] ps = true) : Kept ps s (State.posTo t a1 a2 a3) := by
  refine h.lift hp ?_
  clear h hp
  unfold State.posTo
  repeat' first
    | exact rfl
    | with_reducible first | apply State.defer_kept | exact Kept.refl _ _

theorem State.anchorLeaves_kept {ps : List Part} {s t : State} (a1) (h : Kept ps s t) (hp : partsIn [.deferred] ps = true) : Kept ps s (State.anchorLeaves t a1) := by
  refine h.lift hp ?_
  clear h hp
  unfold State.anchorLeaves
  repeat' first
    | with_reducible apply Kept.ite
    | exact rfl
    | with_reducible first | apply State.defer_kept | exact Kept.refl _ _
    | split

theorem State.startWalk_kept {ps : List Part} {s t : State} (a1) (h : Kept ps s t) (hp : partsIn [.axl, .reg 15] ps = true) : Kept ps s (State.startWalk t a1) := by
  refine h.lift hp ?_
  clear h hp
  unfold State.startWalk
  repeat' first
    | with_reducible assumption
    | (extract_lets +onlyGivenNames x; refine Kept.cut x ?_ ?_ <;> first | (intro hx; clear_value x) | (unfold x; clear x))
    | (extract_lets +onlyGivenNames x; subst x)
    | with_reducible apply Kept.ite
    | exact rfl
    | with_reducible first | apply State.wr_kept | exact Kept.refl _ _
    | ((with_reducible refine Kept.build ?_ ?_ ?_ ?_); rotate_left; exact rfl; exact rfl; exact rfl; fail_if_success split)

theorem State.reshapeGate_kept {ps : List Part} {s t : State} (a1) (h : Kept ps s t) (hp : partsIn [.axl, .evt, .reg 20] ps = true) : Kept ps s (State.reshapeGate t a1) := by
  refine h.lift hp ?_
  clear h hp
  unfold State.reshapeGate
  repeat' first
    | (extract_lets +onlyGivenNames x; subst x)
    | with_reducible apply Kept.ite
    | exact rfl
    | with_reducible first | apply State.raise_kept | exact Kept.refl _ _
    | ((with_reducible refine Kept.build ?_ ?_ ?_ ?_); rotate_left; exact rfl; exact rfl; exact rfl; fail_if_success split)
    | split

theorem State.applyPos_kept {ps : List Part} {s t : State} (a1 a2 a3) (h : Kept ps s t) (hp : partsIn [.axl, .deferred, .evt, .lay, .reg 15, .reg 20] ps = true) : Kept ps s (State.applyPos t a1 a2 a3) := by
  refine h.lift hp ?_
  clear h hp
  unfold State.applyPos
  repeat' first
    | with_reducible assumption
    | (extract_lets +onlyGivenNames x; refine Kept.cut x ?_ ?_ <;> first | (intro hx; clear_value x) | (unfold x; clear x))
    | (extract_lets +onlyGivenNames x; subst x)
    | with_reducible apply Kept.ite
    | exact rfl
    | with_reducible first | apply State.reshapeGate_kept | apply State.anchorLeaves_kept | apply State.raise_kept | apply State.mdWrite_kept | apply State.modPos_kept | apply State.startWalk_kept | exact Kept.refl _ _

theorem State.resyncLadder_kept {ps : List Part} {s t : State} (a1) (h : Kept ps s t) (hp : partsIn [.axl, .deferred, .evt, .lay, .reg 15, .reg 20] ps = true) : Kept ps s (State.resyncLadder t a1) := by
  refine h.lift hp ?_
  clear h hp
  unfold State.resyncLadder
  repeat' first
    | (extract_lets +onlyGivenNames x; subst x)
    | with_reducible apply Kept.ite
    | exact rfl
    | with_reducible first | apply State.applyPos_kept | apply State.modPos_kept | apply State.startWalk_kept | exact Kept.refl _ _
    | split

theorem State.applyDrv_kept {ps : List Part} {s t : State} (a1 a2 a3) (h : Kept ps s t) (hp : partsIn [.axl, .deferred, .drv, .evt, .fov, .lay, .outbox, .pwr, .reg 15, .reg 16, .reg 20] ps = true) : Kept ps s (State.applyDrv t a1 a2 a3) := by
  refine h.lift hp ?_
  clear h hp
  unfold State.applyDrv
  repeat' first
    | with_reducible assumption
    | (extract_lets +onlyGivenNames x; refine Kept.cut x ?_ ?_ <;> first | (intro hx; clear_value x) | (unfold x; clear x))
    | (extract_lets +onlyGivenNames x; subst x)
    | with_reducible apply Kept.ite
    | exact rfl
    | with_reducible first | apply State.anchorLeaves_kept | apply State.bump_kept | apply State.posTo_kept | apply State.modChan_kept | apply State.modSlot_kept | apply State.raise_kept | apply State.defer_kept | apply State.resyncLadder_kept | apply State.beginCycle_kept | apply State.emit_kept | exact Kept.refl _ _
    | split

theorem State.enterLadder_kept {ps : List Part} {s t : State} (a1 a2) (h : Kept ps s t) (hp : partsIn [.deferred, .drv] ps = true) : Kept ps s (State.enterLadder t a1 a2) := by
  refine h.lift hp ?_
  clear h hp
  unfold State.enterLadder
  repeat' first
    | with_reducible assumption
    | (extract_lets +onlyGivenNames x; refine Kept.cut x ?_ ?_ <;> first | (intro hx; clear_value x) | (unfold x; clear x))
    | (extract_lets +onlyGivenNames x; subst x)
    | with_reducible apply Kept.ite
    | exact rfl
    | with_reducible first | apply State.modSlot_kept | apply State.drvTo_kept | exact Kept.refl _ _

theorem State.requestSet_kept {ps : List Part} {s t : State} (a1 a2) (h : Kept ps s t) (hp : partsIn [.deferred, .evt, .fov, .lay, .outbox, .pwr, .reg 20] ps = true) : Kept ps s (State.requestSet t a1 a2) := by
  refine h.lift hp ?_
  clear h hp
  unfold State.requestSet
  repeat' first
    | (extract_lets +onlyGivenNames x; subst x)
    | with_reducible apply Kept.ite
    | exact rfl
    | with_reducible first | apply State.updateDemand_kept | apply State.modSet_kept | exact Kept.refl _ _
    | split

theorem State.noteSets_kept {ps : List Part} {s t : State} (h : Kept ps s t) (hp : partsIn [.fov, .lay] ps = true) : Kept ps s (State.noteSets t) := by
  refine h.lift hp ?_
  clear h hp
  unfold State.noteSets
  repeat' first
    | (extract_lets +onlyGivenNames x; subst x)
    | with_reducible apply Kept.ite
    | exact rfl
    | with_reducible first | apply State.mdWrite_kept | exact Kept.refl _ _
    | ((with_reducible refine Kept.build ?_ ?_ ?_ ?_); rotate_left; exact rfl; exact rfl; exact rfl; fail_if_success split)

theorem State.setOn_kept {ps : List Part} {s t : State} (a1 a2) (h : Kept ps s t) (hp : partsIn [.cnt, .deferred, .evt, .fov, .lay, .reg 20, .reg 21] ps = true) : Kept ps s (State.setOn t a1 a2) := by
  refine h.lift hp ?_
  clear h hp
  unfold State.setOn
  repeat' first
    | with_reducible assumption
    | (extract_lets +onlyGivenNames x; refine Kept.cut x ?_ ?_ <;> first | (intro hx; clear_value x) | (unfold x; clear x))
    | (extract_lets +onlyGivenNames x; subst x)
    | with_reducible apply Kept.ite
    | exact rfl
    | with_reducible first | apply State.modSet_kept | apply State.noteSets_kept | apply State.raise_kept | apply State.defer_kept | apply State.count_kept | exact Kept.refl _ _
    | split

theorem State.setOff_kept {ps : List Part} {s t : State} (a1 a2) (h : Kept ps s t) (hp : partsIn [.deferred, .evt, .fov, .lay, .outbox, .pwr, .reg 20] ps = true) : Kept ps s (State.setOff t a1 a2) := by
  refine h.lift hp ?_
  clear h hp
  unfold State.setOff
  repeat' first
    | with_reducible assumption
    | (extract_lets +onlyGivenNames x; refine Kept.cut x ?_ ?_ <;> first | (intro hx; clear_value x) | (unfold x; clear x))
    | (extract_lets +onlyGivenNames x; subst x)
    | with_reducible apply Kept.ite
    | exact rfl
    | with_reducible first | apply State.updateDemand_kept | apply State.modSet_kept | apply State.noteSets_kept | apply State.requestSet_kept | apply State.raise_kept | exact Kept.refl _ _

theorem State.keyStatus_kept {ps : List Part} {s t : State} (h : Kept ps s t) (hp : partsIn [.reg 12] ps = true) : Kept ps s (State.keyStatus t) := by
  refine h.lift hp ?_
  clear h hp
  unfold State.keyStatus
  repeat' first
    | exact rfl
    | with_reducible first | apply State.wr_kept | exact Kept.refl _ _

theorem State.modKey_kept {ps : List Part} {s t : State} (a1 a2) (h : Kept ps s t) (hp : partsIn [.cph] ps = true) : Kept ps s (State.modKey t a1 a2) := by
  refine h.lift hp ?_
  clear h hp
  unfold State.modKey
  repeat' first
    | (extract_lets +onlyGivenNames x; subst x)
    | with_reducible exact Kept.refl _ _
    | ((with_reducible refine Kept.build ?_ ?_ ?_ ?_); rotate_left; exact rfl; exact rfl; exact rfl; fail_if_success split)
    | split

theorem State.keyRef_kept {ps : List Part} {s t : State} (a1 a2) (h : Kept ps s t) (hp : partsIn [.cph] ps = true) : Kept ps s (State.keyRef t a1 a2) := by
  refine h.lift hp ?_
  clear h hp
  unfold State.keyRef
  repeat' first
    | exact rfl
    | with_reducible first | apply State.modKey_kept | exact Kept.refl _ _

theorem State.fillSlot_kept {ps : List Part} {s t : State} (a1 a2 a3) (h : Kept ps s t) (hp : partsIn [.cph, .reg 12] ps = true) : Kept ps s (State.fillSlot t a1 a2 a3) := by
  refine h.lift hp ?_
  clear h hp
  unfold State.fillSlot
  repeat' first
    | (extract_lets +onlyGivenNames x; subst x)
    | exact rfl
    | with_reducible first | apply State.keyStatus_kept | exact Kept.refl _ _
    | ((with_reducible refine Kept.build ?_ ?_ ?_ ?_); rotate_left; exact rfl; exact rfl; exact rfl; fail_if_success split)
    | split

theorem State.unwrapRecord_kept {ps : List Part} {s t : State} (a1) (h : Kept ps s t) (hp : partsIn [.cph, .evt, .reg 12, .reg 20] ps = true) : Kept ps s (State.unwrapRecord t a1) := by
  refine h.lift hp ?_
  clear h hp
  unfold State.unwrapRecord
  repeat' first
    | (extract_lets +onlyGivenNames x; subst x)
    | with_reducible apply Kept.ite
    | exact rfl
    | with_reducible first | apply State.raise_kept | apply State.fillSlot_kept | exact Kept.refl _ _
    | split

theorem State.unwrapAll_kept {ps : List Part} {s t : State} (h : Kept ps s t) (hp : partsIn [.cph, .evt, .reg 12, .reg 20] ps = true) : Kept ps s (State.unwrapAll t) := by
  refine h.lift hp ?_
  clear h hp
  unfold State.unwrapAll
  repeat' first
    | with_reducible assumption
    | exact rfl
    | with_reducible first | apply State.unwrapRecord_kept | exact Kept.refl _ _ | apply Kept.foldl
    | (intro _; intros; try dsimp -zeta only)

theorem State.ownerGone_kept {ps : List Part} {s t : State} (a1) (h : Kept ps s t) (hp : partsIn [.cph, .evt, .reg 12, .reg 20] ps = true) : Kept ps s (State.ownerGone t a1) := by
  refine h.lift hp ?_
  clear h hp
  unfold State.ownerGone
  repeat' first
    | with_reducible assumption
    | (extract_lets +onlyGivenNames x; subst x)
    | exact rfl
    | with_reducible first | apply State.keyStatus_kept | apply State.raise_kept | apply State.modKey_kept | exact Kept.refl _ _ | apply Kept.foldl
    | (intro _; intros; try dsimp -zeta only)

theorem State.nextIv_kept {ps : List Part} {s t : State} (h : Kept ps s t) (hp : partsIn [.cph, .reg 12] ps = true) : Kept ps s (State.nextIv t).2 := by
  refine h.lift hp ?_
  clear h hp
  unfold State.nextIv
  repeat' first
    | (extract_lets +onlyGivenNames x; subst x)
    | exact rfl
    | with_reducible first | apply State.wr_kept | exact Kept.refl _ _
    | ((with_reducible refine Kept.build ?_ ?_ ?_ ?_); rotate_left; exact rfl; exact rfl; exact rfl; fail_if_success split)

theorem State.nextIv_kept_eq {ps : List Part} {s t u : State} {x} (e : State.nextIv t = (x, u)) (h : Kept ps s t) (hp : partsIn [.cph, .reg 12] ps = true) : Kept ps s u := by
  have k := State.nextIv_kept (ps := ps) (s := s) (t := t)  h hp
  rw [e] at k
  exact k

theorem State.setBankBit_kept {ps : List Part} {s t : State} (b bit v) (h : Kept ps s t) (hp : partsIn [.reg 4, .reg 5, .reg 6, .reg 9] ps = true)
    (hb : Nat.blt bit 32 = true) : Kept ps s (State.setBankBit t b bit v) := by
  have hb' : bit < 32 := by simpa using hb
  refine State.wr_kept _ _ _ _ h (within_trans (b := [.reg 4, .reg 5, .reg 6, .reg 9]) ?_ hp) ?_
  · cases b <;> simp [Fld.block, bankCtl, Reg.WIN_BANK_CTL_COMMIT, Reg.XPT_BANK_CTL_COMMIT, Reg.SCH_GCL_BANK_CTL_COMMIT, Reg.SCH_BANK_CTL_COMMIT, Reg.GCH_BANK_CTL_COMMIT, partsIn, Part.mem]
  · cases b <;> simp only [Fld.fits, bankCtl, Reg.WIN_BANK_CTL_COMMIT, Reg.XPT_BANK_CTL_COMMIT, Reg.SCH_GCL_BANK_CTL_COMMIT, Reg.SCH_BANK_CTL_COMMIT, Reg.GCH_BANK_CTL_COMMIT, Nat.blt_eq] <;> omega

theorem State.bankLate_kept {ps : List Part} {s t : State} (a1 a2) (h : Kept ps s t) (hp : partsIn [.evt, .reg 20] ps = true) : Kept ps s (State.bankLate t a1 a2) := by
  refine h.lift hp ?_
  clear h hp
  unfold State.bankLate
  repeat' first
    | exact rfl
    | with_reducible first | apply State.raise_kept | exact Kept.refl _ _

theorem State.resetCopies_kept {ps : List Part} {s t : State} (w) (h : Kept ps s t) (hp : partsIn [.reg 4, .reg 5, .reg 6, .reg 10, .reg 12, .reg 21] ps = true) :
    Kept ps s (State.resetCopies t w) := by
  have key : ∀ l : List Fld, (l.all fun f => partsIn [.reg f.block] [.reg 4, .reg 5, .reg 6, .reg 10, .reg 12, .reg 21] && f.fits) = true → ∀ u, Kept ps s u →
      Kept ps s (l.foldl (fun s f => Sys2Proof.Machine.foldIdx f.count2 (fun j s => s.wr (f.onPath w) 0 j f.reset) s) u) := by
    intro l
    induction l with
    | nil => intro _ u hu; exact hu
    | cons f l ih =>
      intro hl u hu
      simp only [List.all_cons, Bool.and_eq_true] at hl
      refine ih (by simpa using hl.2) _ (Kept.foldIdx hu fun j x hx => ?_)
      unfold Fld.onPath
      split
      · exact State.wrW_kept _ _ _ _ _ hx (within_trans hl.1.1 hp) hl.1.2
      · exact State.wr_kept _ _ _ _ hx (within_trans hl.1.1 hp) hl.1.2
  exact key copiedFields rfl t h

theorem State.bankCommit_kept {ps : List Part} {s t : State} (a1) (h : Kept ps s t) (hp : partsIn [.evt, .reg 4, .reg 5, .reg 6, .reg 9, .reg 20] ps = true) : Kept ps s (State.bankCommit t a1) := by
  refine h.lift hp ?_
  clear h hp
  unfold State.bankCommit
  repeat' first
    | with_reducible assumption
    | (extract_lets +onlyGivenNames x; refine Kept.cut x ?_ ?_ <;> first | (intro hx; clear_value x) | (unfold x; clear x))
    | (extract_lets +onlyGivenNames x; subst x)
    | with_reducible apply Kept.ite
    | exact rfl
    | with_reducible first | apply State.bankLate_kept | apply State.setBankBit_kept | exact Kept.refl _ _

theorem State.bankAbort_kept {ps : List Part} {s t : State} (a1) (h : Kept ps s t) (hp : partsIn [.reg 4, .reg 5, .reg 6, .reg 9] ps = true) : Kept ps s (State.bankAbort t a1) := by
  refine h.lift hp ?_
  clear h hp
  unfold State.bankAbort
  repeat' first
    | exact rfl
    | with_reducible first | apply State.setBankBit_kept | exact Kept.refl _ _

theorem State.bankSwapped_kept {ps : List Part} {s t : State} (b turn) (h : Kept ps s t) (hp : partsIn [.reg 4, .reg 5, .reg 6, .reg 9] ps = true) :
    Kept ps s (State.bankSwapped t b turn) := by
  unfold State.bankSwapped
  refine State.wr_kept _ _ _ _ (State.setBankBit_kept _ _ _ (State.setBankBit_kept _ _ _ h hp rfl) hp rfl) (within_trans (b := [.reg 4, .reg 5, .reg 6, .reg 9]) ?_ hp) ?_
  · cases b <;> simp [Fld.block, bankSwapReg, Reg.WIN_BANK_SWAP, Reg.XPT_BANK_SWAP, Reg.SCH_GCL_BANK_SWAP, Reg.SCH_BANK_SWAP, Reg.GCH_BANK_SWAP, partsIn, Part.mem]
  · cases b <;> simp only [Fld.fits, bankSwapReg, Reg.WIN_BANK_SWAP, Reg.XPT_BANK_SWAP, Reg.SCH_GCL_BANK_SWAP, Reg.SCH_BANK_SWAP, Reg.GCH_BANK_SWAP, Nat.blt_eq] <;> omega

theorem State.lateWrite_kept {ps : List Part} {s t : State} (a1) (h : Kept ps s t) (hp : partsIn [.evt, .reg 4, .reg 5, .reg 6, .reg 9, .reg 20] ps = true) : Kept ps s (State.lateWrite t a1) := by
  refine h.lift hp ?_
  clear h hp
  unfold State.lateWrite
  repeat' first
    | exact rfl
    | with_reducible first | apply State.bankLate_kept | apply State.setBankBit_kept | exact Kept.refl _ _

theorem State.winChange_kept {ps : List Part} {s t : State} (a1) (h : Kept ps s t) (hp : partsIn [.win] ps = true) : Kept ps s (State.winChange t a1) := by
  refine h.lift hp ?_
  clear h hp
  unfold State.winChange
  repeat' first
    | (extract_lets +onlyGivenNames x; subst x)
    | with_reducible first | apply Kept.ite | exact Kept.refl _ _
    | ((with_reducible refine Kept.build ?_ ?_ ?_ ?_); rotate_left; exact rfl; exact rfl; exact rfl; fail_if_success split)

theorem State.winNextBatch_kept {ps : List Part} {s t : State} (h : Kept ps s t) (hp : partsIn [.win] ps = true) : Kept ps s (State.winNextBatch t) := by
  refine h.lift hp ?_
  clear h hp
  unfold State.winNextBatch
  repeat' first
    | with_reducible assumption
    | (extract_lets +onlyGivenNames x; refine Kept.cut x ?_ ?_ <;> first | (intro hx; clear_value x) | (unfold x; clear x))
    | (extract_lets +onlyGivenNames x; subst x)
    | exact rfl
    | with_reducible first | apply State.winChange_kept | exact Kept.refl _ _ | apply Kept.foldl
    | ((with_reducible refine Kept.build ?_ ?_ ?_ ?_); rotate_left; exact rfl; exact rfl; exact rfl; fail_if_success split)
    | (intro _; intros; try dsimp -zeta only)

theorem State.revoke_kept {ps : List Part} {s t : State} (a1 a2) (h : Kept ps s t) (hp : partsIn [.win] ps = true) : Kept ps s (State.revoke t a1 a2) := by
  refine h.lift hp ?_
  clear h hp
  unfold State.revoke
  repeat' first
    | (extract_lets +onlyGivenNames x; subst x)
    | with_reducible apply Kept.ite
    | exact rfl
    | with_reducible first | apply State.winChange_kept | exact Kept.refl _ _

theorem State.revokeWhere_kept {ps : List Part} {s t : State} (a1) (h : Kept ps s t) (hp : partsIn [.win] ps = true) : Kept ps s (State.revokeWhere t a1) := by
  refine h.lift hp ?_
  clear h hp
  unfold State.revokeWhere
  repeat' first
    | with_reducible assumption
    | exact rfl
    | with_reducible first | apply State.revoke_kept | exact Kept.refl _ _ | apply Kept.foldl
    | (intro _; intros; try dsimp -zeta only)

theorem State.winStatus_kept {ps : List Part} {s t : State} (h : Kept ps s t) (hp : partsIn [.reg 5] ps = true) : Kept ps s (State.winStatus t) := by
  refine h.lift hp ?_
  clear h hp
  unfold State.winStatus
  repeat' first
    | (extract_lets +onlyGivenNames x; subst x)
    | exact rfl
    | with_reducible first | apply State.wr_kept | exact Kept.refl _ _

theorem State.modBlk_kept {ps : List Part} {s t : State} (a1 a2) (h : Kept ps s t) (hp : partsIn [.win] ps = true) : Kept ps s (State.modBlk t a1 a2) := by
  refine h.lift hp ?_
  clear h hp
  unfold State.modBlk
  repeat' first
    | (extract_lets +onlyGivenNames x; subst x)
    | with_reducible exact Kept.refl _ _
    | ((with_reducible refine Kept.build ?_ ?_ ?_ ?_); rotate_left; exact rfl; exact rfl; exact rfl; fail_if_success split)

theorem State.dropBlk_kept {ps : List Part} {s t : State} (a1) (h : Kept ps s t) (hp : partsIn [.win] ps = true) : Kept ps s (State.dropBlk t a1) := by
  refine h.lift hp ?_
  clear h hp
  unfold State.dropBlk
  repeat' first
    | (extract_lets +onlyGivenNames x; subst x)
    | with_reducible exact Kept.refl _ _
    | ((with_reducible refine Kept.build ?_ ?_ ?_ ?_); rotate_left; exact rfl; exact rfl; exact rfl; fail_if_success split)

theorem State.modList_kept {ps : List Part} {s t : State} (a1 a2 a3) (h : Kept ps s t) (hp : partsIn [.win] ps = true) : Kept ps s (State.modList t a1 a2 a3) := by
  refine h.lift hp ?_
  clear h hp
  unfold State.modList
  repeat' first
    | (extract_lets +onlyGivenNames x; subst x)
    | with_reducible exact Kept.refl _ _
    | ((with_reducible refine Kept.build ?_ ?_ ?_ ?_); rotate_left; exact rfl; exact rfl; exact rfl; fail_if_success split)

theorem State.countSpill_kept {ps : List Part} {s t : State} (a1 a2) (h : Kept ps s t) (hp : partsIn [.cnt, .win, .reg 5, .reg 21] ps = true) : Kept ps s (State.countSpill t a1 a2) := by
  refine h.lift hp ?_
  clear h hp
  unfold State.countSpill
  repeat' first
    | exact rfl
    | with_reducible first | apply State.count_kept | apply State.bumpWrap_kept | apply State.modList_kept | exact Kept.refl _ _

theorem State.newBlock_kept {ps : List Part} {s t : State} (a1 a2) (h : Kept ps s t) (hp : partsIn [.cnt, .win, .reg 5, .reg 21] ps = true) : Kept ps s (State.newBlock t a1 a2).2 := by
  refine h.lift hp ?_
  clear h hp
  unfold State.newBlock
  repeat' first
    | with_reducible assumption
    | (extract_lets +onlyGivenNames x; refine Kept.cut x ?_ ?_ <;> first | (intro hx; clear_value x) | (unfold x; clear x))
    | (extract_lets +onlyGivenNames x; subst x)
    | with_reducible apply Kept.ite
    | exact rfl
    | with_reducible first | apply State.countSpill_kept | exact Kept.refl _ _
    | ((with_reducible refine Kept.build ?_ ?_ ?_ ?_); rotate_left; exact rfl; exact rfl; exact rfl; fail_if_success split)

theorem State.newBlock_kept_eq {ps : List Part} {s t u : State} {a1 a2} {x} (e : State.newBlock t a1 a2 = (x, u)) (h : Kept ps s t) (hp : partsIn [.cnt, .win, .reg 5, .reg 21] ps = true) : Kept ps s u := by
  have k := State.newBlock_kept (ps := ps) (s := s) (t := t) a1 a2 h hp
  rw [e] at k
  exact k

theorem State.readBack_kept {ps : List Part} {s t : State} (a1) (h : Kept ps s t) (hp : partsIn [.win] ps = true) : Kept ps s (State.readBack t a1) := by
  refine h.lift hp ?_
  clear h hp
  unfold State.readBack
  repeat' first
    | exact rfl
    | with_reducible first | apply State.modBlk_kept | exact Kept.refl _ _

theorem State.freeWindow_kept {ps : List Part} {s t : State} (a1) (h : Kept ps s t) (hp : partsIn [.fsp, .win] ps = true) : Kept ps s (State.freeWindow t a1) := by
  refine h.lift hp ?_
  clear h hp
  unfold State.freeWindow
  repeat' first
    | (extract_lets +onlyGivenNames x; subst x)
    | exact rfl
    | with_reducible first | apply State.decrefs_kept | exact Kept.refl _ _
    | ((with_reducible refine Kept.build ?_ ?_ ?_ ?_); rotate_left; exact rfl; exact rfl; exact rfl; fail_if_success split)

theorem State.pawnSend_kept {ps : List Part} {s t : State} (a1 a2 a3 a4 a5 a6 a7 a8) (h : Kept ps s t) (hp : partsIn [.outbox] ps = true) : Kept ps s (State.pawnSend t a1 a2 a3 a4 a5 a6 a7 a8) := by
  refine h.lift hp ?_
  clear h hp
  unfold State.pawnSend
  repeat' first
    | exact rfl
    | with_reducible first | apply State.emit_kept | exact Kept.refl _ _

theorem State.modWit_kept {ps : List Part} {s t : State} (a1 a2) (h : Kept ps s t) (hp : partsIn [.fov] ps = true) : Kept ps s (State.modWit t a1 a2) := by
  refine h.lift hp ?_
  clear h hp
  unfold State.modWit
  repeat' first
    | (extract_lets +onlyGivenNames x; subst x)
    | with_reducible exact Kept.refl _ _
    | ((with_reducible refine Kept.build ?_ ?_ ?_ ?_); rotate_left; exact rfl; exact rfl; exact rfl; fail_if_success split)

theorem State.sendRelease_kept {ps : List Part} {s t : State} (a1 a2) (h : Kept ps s t) (hp : partsIn [.fov, .outbox] ps = true) : Kept ps s (State.sendRelease t a1 a2) := by
  refine h.lift hp ?_
  clear h hp
  unfold State.sendRelease
  repeat' first
    | with_reducible first | assumption | apply Kept.ite
    | exact rfl
    | with_reducible first | apply State.pawnSend_kept | apply State.modWit_kept | exact Kept.refl _ _ | apply Kept.foldIdx
    | (intro _; intros; try dsimp -zeta only)

theorem State.sendYield_kept {ps : List Part} {s t : State} (a1 a2) (h : Kept ps s t) (hp : partsIn [.outbox] ps = true) : Kept ps s (State.sendYield t a1 a2) := by
  refine h.lift hp ?_
  clear h hp
  unfold State.sendYield
  repeat' first
    | exact rfl
    | with_reducible first | apply State.emit_kept | exact Kept.refl _ _

theorem State.setDevState_kept {ps : List Part} {s t : State} (a1) (h : Kept ps s t) (hp : partsIn [.cfg, .cmd, .deferred, .evt, .fov, .outbox, .pwr, .reg 1, .reg 7, .reg 20] ps = true) : Kept ps s (State.setDevState t a1) := by
  refine h.lift hp ?_
  clear h hp
  unfold State.setDevState
  repeat' first
    | with_reducible assumption
    | (extract_lets +onlyGivenNames x; refine Kept.cut x ?_ ?_ <;> first | (intro hx; clear_value x) | (unfold x; clear x))
    | (extract_lets +onlyGivenNames x; subst x)
    | with_reducible apply Kept.ite
    | exact rfl
    | with_reducible first | apply State.updateDemand_kept | apply State.wr_kept | apply State.raise_kept | apply State.setAna_kept | exact Kept.refl _ _
    | ((with_reducible refine Kept.build ?_ ?_ ?_ ?_); rotate_left; exact rfl; exact rfl; exact rfl; fail_if_success split)

theorem State.setFault_kept {ps : List Part} {s t : State} (a1 a2 a3 a4) (h : Kept ps s t) (hp : partsIn [.reg 1] ps = true) : Kept ps s (State.setFault t a1 a2 a3 a4) := by
  refine h.lift hp ?_
  clear h hp
  unfold State.setFault
  repeat' first
    | exact rfl
    | with_reducible first | apply State.wr_kept | exact Kept.refl _ _

theorem State.slotsOff_kept {ps : List Part} {s t : State} (h : Kept ps s t) (hp : partsIn [.drv, .evt, .pwr, .reg 20] ps = true) : Kept ps s (State.slotsOff t) := by
  refine h.lift hp ?_
  clear h hp
  unfold State.slotsOff
  repeat' first
    | with_reducible assumption
    | (extract_lets +onlyGivenNames x; refine Kept.cut x ?_ ?_ <;> first | (intro hx; clear_value x) | (unfold x; clear x))
    | (extract_lets +onlyGivenNames x; subst x)
    | exact rfl
    | with_reducible first | apply State.chanIdle_kept | apply State.modChan_kept | apply State.modSlot_kept | apply State.gateOff_kept | exact Kept.refl _ _ | apply Kept.foldIdx
    | split
    | (intro _; intros; try dsimp -zeta only)

theorem State.portsDown_kept {ps : List Part} {s t : State} (h : Kept ps s t) (hp : partsIn [.eth, .reg 3] ps = true) : Kept ps s (State.portsDown t) := by
  refine h.lift hp ?_
  clear h hp
  unfold State.portsDown
  repeat' first
    | with_reducible assumption
    | (extract_lets +onlyGivenNames x; refine Kept.cut x ?_ ?_ <;> first | (intro hx; clear_value x) | (unfold x; clear x))
    | exact rfl
    | with_reducible first | apply State.wr_kept | exact Kept.refl _ _ | apply Kept.foldIdx
    | ((with_reducible refine Kept.build ?_ ?_ ?_ ?_); rotate_left; exact rfl; exact rfl; exact rfl; fail_if_success split)
    | (intro _; intros; try dsimp -zeta only)

theorem State.sepStart_kept {ps : List Part} {s t : State} (h : Kept ps s t) (hp : partsIn [.sep] ps = true) : Kept ps s (State.sepStart t) := by
  refine h.lift hp ?_
  clear h hp
  unfold State.sepStart
  repeat' first
    | (extract_lets +onlyGivenNames x; subst x)
    | with_reducible first | apply Kept.ite | exact Kept.refl _ _
    | ((with_reducible refine Kept.build ?_ ?_ ?_ ?_); rotate_left; exact rfl; exact rfl; exact rfl; fail_if_success split)

theorem State.maskVectors_kept {ps : List Part} {s t : State} (h : Kept ps s t) (hp : partsIn [.reg 19] ps = true) : Kept ps s (State.maskVectors t) := by
  refine h.lift hp ?_
  clear h hp
  unfold State.maskVectors
  repeat' first
    | with_reducible assumption
    | exact rfl
    | with_reducible first | apply State.wr_kept | exact Kept.refl _ _ | apply Kept.foldIdx
    | (intro _; intros; try dsimp -zeta only)

theorem State.stopEverything_kept {ps : List Part} {s t : State} (h : Kept ps s t) (hp : partsIn [.cfg, .deferred, .fov, .jnl, .trn] ps = true) : Kept ps s (State.stopEverything t) := by
  refine h.lift hp ?_
  clear h hp
  unfold State.stopEverything
  repeat' first
    | (extract_lets +onlyGivenNames x; subst x)
    | with_reducible exact Kept.refl _ _
    | ((with_reducible refine Kept.build ?_ ?_ ?_ ?_); rotate_left; exact rfl; exact rfl; exact rfl; fail_if_success split)

theorem State.enterSafeHold_kept {ps : List Part} {s t : State} (h : Kept ps s t) (hp : partsIn [.cfg, .cmd, .deferred, .drv, .eth, .evt, .fov, .jnl, .outbox, .pwr, .sep, .trn, .reg 1, .reg 3, .reg 7, .reg 20] ps = true) : Kept ps s (State.enterSafeHold t) := by
  refine h.lift hp ?_
  clear h hp
  unfold State.enterSafeHold
  repeat' first
    | with_reducible assumption
    | (extract_lets +onlyGivenNames x; refine Kept.cut x ?_ ?_ <;> first | (intro hx; clear_value x) | (unfold x; clear x))
    | exact rfl
    | with_reducible first | apply State.slotsOff_kept | apply State.portsDown_kept | apply State.stopEverything_kept | apply State.sepStart_kept | apply State.setDevState_kept | exact Kept.refl _ _

theorem State.bootFault_kept {ps : List Part} {s t : State} (a1 a2 a3 a4) (h : Kept ps s t) (hp : partsIn [.cfg, .cmd, .deferred, .drv, .eth, .evt, .fov, .jnl, .outbox, .pwr, .sep, .trn, .reg 1, .reg 3, .reg 7, .reg 20] ps = true) : Kept ps s (State.bootFault t a1 a2 a3 a4) := by
  refine h.lift hp ?_
  clear h hp
  unfold State.bootFault
  repeat' first
    | exact rfl
    | with_reducible first | apply State.enterSafeHold_kept | apply State.setFault_kept | exact Kept.refl _ _

theorem State.abandonActivation_kept {ps : List Part} {s t : State} (h : Kept ps s t) (hp : partsIn [.cfg, .cmd, .cnt, .deferred, .evt, .fov, .outbox, .pwr, .sep, .reg 1, .reg 7, .reg 19, .reg 20, .reg 21] ps = true) : Kept ps s (State.abandonActivation t) := by
  refine h.lift hp ?_
  clear h hp
  unfold State.abandonActivation
  repeat' first
    | with_reducible assumption
    | (extract_lets +onlyGivenNames x; refine Kept.cut x ?_ ?_ <;> first | (intro hx; clear_value x) | (unfold x; clear x))
    | (extract_lets +onlyGivenNames x; subst x)
    | with_reducible apply Kept.ite
    | exact rfl
    | with_reducible first | apply State.replyErr_kept | apply State.setDevState_kept | apply State.endTask_kept | exact Kept.refl _ _
    | ((with_reducible refine Kept.build ?_ ?_ ?_ ?_); rotate_left; exact rfl; exact rfl; exact rfl; fail_if_success split)
    | split

theorem State.dropWrites_kept {ps : List Part} {s t : State} (h : Kept ps s t) (hp : partsIn [.axl, .cmp, .cph, .fsp, .jnl, .lay, .win] ps = true) : Kept ps s (State.dropWrites t) := by
  refine h.lift hp ?_
  clear h hp
  unfold State.dropWrites
  repeat' first
    | with_reducible assumption
    | (extract_lets +onlyGivenNames x; refine Kept.cut x ?_ ?_ <;> first | (intro hx; clear_value x) | (unfold x; clear x))
    | (extract_lets +onlyGivenNames x; subst x)
    | exact rfl
    | with_reducible first | apply State.decrefs_kept | exact Kept.refl _ _
    | ((with_reducible refine Kept.build ?_ ?_ ?_ ?_); rotate_left; exact rfl; exact rfl; exact rfl; fail_if_success split)

theorem State.endCommands_kept {ps : List Part} {s t : State} (h : Kept ps s t) (hp : partsIn [.cmd, .cnt, .fsp, .outbox, .win, .reg 7, .reg 21] ps = true) : Kept ps s (State.endCommands t) := by
  refine h.lift hp ?_
  clear h hp
  unfold State.endCommands
  repeat' first
    | with_reducible assumption
    | (extract_lets +onlyGivenNames x; refine Kept.cut x ?_ ?_ <;> first | (intro hx; clear_value x) | (unfold x; clear x))
    | with_reducible apply Kept.ite
    | exact rfl
    | with_reducible first | apply State.settleFlushes_kept | apply State.modEntry_kept | apply State.finishOne_kept | exact Kept.refl _ _ | apply Kept.foldl
    | (intro _; intros; try dsimp -zeta only)

theorem State.endStreamCommands_kept {ps : List Part} {s t : State} (h : Kept ps s t) (hp : partsIn [.cnt, .evt, .outbox, .sep, .reg 19, .reg 21] ps = true) : Kept ps s (State.endStreamCommands t) := by
  refine h.lift hp ?_
  clear h hp
  unfold State.endStreamCommands
  repeat' first
    | with_reducible assumption
    | (extract_lets +onlyGivenNames x; subst x)
    | exact rfl
    | with_reducible first | apply State.replyErr_kept | exact Kept.refl _ _ | apply Kept.foldl
    | (intro _; intros; try dsimp -zeta only)

theorem State.depose_kept {ps : List Part} {s t : State} (a1 a2) (h : Kept ps s t) (hp : partsIn [.axl, .cfg, .cmd, .cmp, .cnt, .cph, .deferred, .drv, .evt, .fov, .fsp, .jnl, .lay, .outbox, .pwr, .sep, .win, .reg 1, .reg 7, .reg 18, .reg 19, .reg 20, .reg 21] ps = true) : Kept ps s (State.depose t a1 a2) := by
  refine h.lift hp ?_
  clear h hp
  unfold State.depose
  repeat' first
    | with_reducible assumption
    | (extract_lets +onlyGivenNames x; refine Kept.cut x ?_ ?_ <;> first | (intro hx; clear_value x) | (unfold x; clear x))
    | (extract_lets +onlyGivenNames x; subst x)
    | with_reducible apply Kept.ite
    | exact rfl
    | with_reducible first | apply State.bump_kept | apply State.sendYield_kept | apply State.endStreamCommands_kept | apply State.dropWrites_kept | apply State.raise_kept | apply State.sendRelease_kept | apply State.revokeWhere_kept | apply State.setDevState_kept | apply State.endCommands_kept | apply State.modWit_kept | apply State.count_kept | apply State.setAna_kept | apply State.endSelfTest_kept | exact Kept.refl _ _ | apply Kept.foldIdx
    | ((with_reducible refine Kept.build ?_ ?_ ?_ ?_); rotate_left; exact rfl; exact rfl; exact rfl; fail_if_success split)
    | split
    | (intro _; intros; try dsimp -zeta only)

theorem State.discardBuilt_kept {ps : List Part} {s t : State} (h : Kept ps s t) (hp : partsIn [.cfg, .cmd, .deferred, .evt, .fov, .jnl, .outbox, .pwr, .reg 1, .reg 7, .reg 20] ps = true) : Kept ps s (State.discardBuilt t) := by
  refine h.lift hp ?_
  clear h hp
  unfold State.discardBuilt
  repeat' first
    | with_reducible assumption
    | (extract_lets +onlyGivenNames x; refine Kept.cut x ?_ ?_ <;> first | (intro hx; clear_value x) | (unfold x; clear x))
    | (extract_lets +onlyGivenNames x; subst x)
    | exact rfl
    | with_reducible first | apply State.setDevState_kept | exact Kept.refl _ _
    | ((with_reducible refine Kept.build ?_ ?_ ?_ ?_); rotate_left; exact rfl; exact rfl; exact rfl; fail_if_success split)

theorem State.withdraw_kept {ps : List Part} {s t : State} (a1) (h : Kept ps s t) (hp : partsIn [.cfg, .cmd, .cnt, .deferred, .evt, .fov, .jnl, .outbox, .pwr, .sep, .reg 1, .reg 7, .reg 19, .reg 20, .reg 21] ps = true) : Kept ps s (State.withdraw t a1) := by
  refine h.lift hp ?_
  clear h hp
  unfold State.withdraw
  repeat' first
    | with_reducible assumption
    | (extract_lets +onlyGivenNames x; refine Kept.cut x ?_ ?_ <;> first | (intro hx; clear_value x) | (unfold x; clear x))
    | (extract_lets +onlyGivenNames x; subst x)
    | exact rfl
    | with_reducible first | apply State.discardBuilt_kept | apply State.abandonActivation_kept | apply State.raise_kept | apply State.defer_kept | exact Kept.refl _ _
    | ((with_reducible refine Kept.build ?_ ?_ ?_ ?_); rotate_left; exact rfl; exact rfl; exact rfl; fail_if_success split)
    | split

theorem State.startEpoch_kept {ps : List Part} {s t : State} (h : Kept ps s t) (hp : partsIn [.cfg, .cmd, .cnt, .cph, .deferred, .evt, .fov, .jnl, .outbox, .pwr, .sep, .reg 1, .reg 7, .reg 12, .reg 19, .reg 20, .reg 21] ps = true) : Kept ps s (State.startEpoch t) := by
  refine h.lift hp ?_
  clear h hp
  unfold State.startEpoch
  repeat' first
    | with_reducible assumption
    | (extract_lets +onlyGivenNames x; refine Kept.cut x ?_ ?_ <;> first | (intro hx; clear_value x) | (unfold x; clear x))
    | (extract_lets +onlyGivenNames x; subst x)
    | with_reducible apply Kept.ite
    | exact rfl
    | with_reducible first | apply State.wr_kept | apply State.withdraw_kept | apply State.emit_kept | exact Kept.refl _ _
    | ((with_reducible refine Kept.build ?_ ?_ ?_ ?_); rotate_left; exact rfl; exact rfl; exact rfl; fail_if_success split)

theorem State.partReset_kept {ps : List Part} {s t : State} (a1 a2) (h : Kept ps s t) (hp : partsIn [.axl, .cfg, .cmd, .cmp, .cnt, .cph, .deferred, .dram, .drv, .eth, .evt, .fov, .fsp, .gch, .idn, .jnl, .lay, .pwr, .regs, .sal, .sch, .sep, .trn, .win, .xpt] ps = true) : Kept ps s (State.partReset t a1 a2) := by
  refine h.trans (Kept.mono (qs := [.axl, .cfg, .cmd, .cmp, .cnt, .cph, .deferred, .dram, .drv, .eth, .evt, .fov, .fsp, .gch, .idn, .jnl, .lay, .pwr, .regs, .sal, .sch, .sep, .trn, .win, .xpt]) ⟨rfl, fun _ h => (by cases h), fun _ => rfl, fun _ => rfl⟩ hp)

theorem State.cacheStatus_kept {ps : List Part} {s t : State} (h : Kept ps s t) (hp : partsIn [.reg 9] ps = true) : Kept ps s (State.cacheStatus t) := by
  refine h.lift hp ?_
  clear h hp
  unfold State.cacheStatus
  repeat' first
    | (extract_lets +onlyGivenNames x; subst x)
    | exact rfl
    | with_reducible first | apply State.wr_kept | exact Kept.refl _ _

theorem State.setLine_kept {ps : List Part} {s t : State} (a1 a2) (h : Kept ps s t) (hp : partsIn [.gch] ps = true) : Kept ps s (State.setLine t a1 a2) := by
  refine h.lift hp ?_
  clear h hp
  unfold State.setLine
  repeat' first
    | (extract_lets +onlyGivenNames x; subst x)
    | with_reducible exact Kept.refl _ _
    | ((with_reducible refine Kept.build ?_ ?_ ?_ ?_); rotate_left; exact rfl; exact rfl; exact rfl; fail_if_success split)

theorem State.touchLine_kept {ps : List Part} {s t : State} (a1) (h : Kept ps s t) (hp : partsIn [.gch] ps = true) : Kept ps s (State.touchLine t a1) := by
  refine h.lift hp ?_
  clear h hp
  unfold State.touchLine
  repeat' first
    | (extract_lets +onlyGivenNames x; subst x)
    | with_reducible exact Kept.refl _ _
    | ((with_reducible refine Kept.build ?_ ?_ ?_ ?_); rotate_left; exact rfl; exact rfl; exact rfl; fail_if_success split)

theorem State.bypass_kept {ps : List Part} {s t : State} (h : Kept ps s t) (hp : partsIn [.cnt, .reg 9, .reg 21] ps = true) : Kept ps s (State.bypass t) := by
  refine h.lift hp ?_
  clear h hp
  unfold State.bypass
  repeat' first
    | exact rfl
    | with_reducible first | apply State.count_kept | apply State.bumpWrap_kept | exact Kept.refl _ _

theorem State.countLookup_kept {ps : List Part} {s t : State} (a1 a2) (h : Kept ps s t) (hp : partsIn [.cnt, .reg 9, .reg 21] ps = true) : Kept ps s (State.countLookup t a1 a2) := by
  refine h.lift hp ?_
  clear h hp
  unfold State.countLookup
  repeat' first
    | with_reducible apply Kept.ite
    | exact rfl
    | with_reducible first | apply State.count_kept | apply State.bumpWrap_kept | exact Kept.refl _ _

theorem State.cacheRead_kept {ps : List Part} {s t : State} (a1 a2 a3 a4) (h : Kept ps s t) (hp : partsIn [.cnt, .gch, .reg 9, .reg 21] ps = true) : Kept ps s (State.cacheRead t a1 a2 a3 a4) := by
  refine h.lift hp ?_
  clear h hp
  unfold State.cacheRead
  repeat' first
    | with_reducible assumption
    | (extract_lets +onlyGivenNames x; refine Kept.cut x ?_ ?_ <;> first | (intro hx; clear_value x) | (unfold x; clear x))
    | (extract_lets +onlyGivenNames x; subst x)
    | with_reducible apply Kept.ite
    | exact rfl
    | with_reducible first | apply State.countLookup_kept | apply State.bypass_kept | apply State.touchLine_kept | exact Kept.refl _ _
    | ((with_reducible refine Kept.build ?_ ?_ ?_ ?_); rotate_left; exact rfl; exact rfl; exact rfl; fail_if_success split)
    | split

theorem State.cacheDirty_kept {ps : List Part} {s t : State} (a1 a2 a3) (h : Kept ps s t) (hp : partsIn [.cnt, .gch, .reg 9, .reg 21] ps = true) : Kept ps s (State.cacheDirty t a1 a2 a3) := by
  refine h.lift hp ?_
  clear h hp
  unfold State.cacheDirty
  repeat' first
    | with_reducible apply Kept.ite
    | exact rfl
    | with_reducible first | apply State.bypass_kept | apply State.cacheStatus_kept | apply State.setLine_kept | apply State.touchLine_kept | exact Kept.refl _ _
    | split

theorem State.notAwaited_kept {ps : List Part} {s t : State} (a1 a2) (h : Kept ps s t) (hp : partsIn [.sal] ps = true) : Kept ps s (State.notAwaited t a1 a2) := by
  refine h.lift hp ?_
  clear h hp
  unfold State.notAwaited
  repeat' first
    | (extract_lets +onlyGivenNames x; subst x)
    | with_reducible exact Kept.refl _ _
    | ((with_reducible refine Kept.build ?_ ?_ ?_ ?_); rotate_left; exact rfl; exact rfl; exact rfl; fail_if_success split)
    | split

theorem State.cacheWritten_kept {ps : List Part} {s t : State} (a1 a2) (h : Kept ps s t) (hp : partsIn [.cnt, .gch, .sal, .reg 9, .reg 21] ps = true) : Kept ps s (State.cacheWritten t a1 a2) := by
  refine h.lift hp ?_
  clear h hp
  unfold State.cacheWritten
  repeat' first
    | with_reducible assumption
    | (extract_lets +onlyGivenNames x; refine Kept.cut x ?_ ?_ <;> first | (intro hx; clear_value x) | (unfold x; clear x))
    | with_reducible apply Kept.ite
    | exact rfl
    | with_reducible first | apply State.notAwaited_kept | apply State.cacheStatus_kept | apply State.setLine_kept | apply State.count_kept | exact Kept.refl _ _
    | split

theorem State.cacheOverwritten_kept {ps : List Part} {s t : State} (a1 a2) (h : Kept ps s t) (hp : partsIn [.gch, .reg 9] ps = true) : Kept ps s (State.cacheOverwritten t a1 a2) := by
  refine h.lift hp ?_
  clear h hp
  unfold State.cacheOverwritten
  repeat' first
    | with_reducible apply Kept.ite
    | exact rfl
    | with_reducible first | apply State.cacheStatus_kept | apply State.setLine_kept | exact Kept.refl _ _
    | split

theorem State.cacheForget_kept {ps : List Part} {s t : State} (a1 a2) (h : Kept ps s t) (hp : partsIn [.gch, .sal, .reg 9] ps = true) : Kept ps s (State.cacheForget t a1 a2) := by
  refine h.lift hp ?_
  clear h hp
  unfold State.cacheForget
  repeat' first
    | exact rfl
    | with_reducible first | apply State.notAwaited_kept | apply State.cacheStatus_kept | apply State.setLine_kept | exact Kept.refl _ _
    | split

theorem State.salStatus_kept {ps : List Part} {s t : State} (h : Kept ps s t) (hp : partsIn [.reg 10] ps = true) : Kept ps s (State.salStatus t) := by
  refine h.lift hp ?_
  clear h hp
  unfold State.salStatus
  repeat' first
    | with_reducible assumption
    | (extract_lets +onlyGivenNames x; refine Kept.cut x ?_ ?_ <;> first | (intro hx; clear_value x) | (unfold x; clear x))
    | (extract_lets +onlyGivenNames x; subst x)
    | exact rfl
    | with_reducible first | apply State.wr_kept | exact Kept.refl _ _
    | split

theorem State.salQueue_kept {ps : List Part} {s t : State} (a1) (h : Kept ps s t) (hp : partsIn [.sal, .reg 10] ps = true) : Kept ps s (State.salQueue t a1) := by
  refine h.lift hp ?_
  clear h hp
  unfold State.salQueue
  repeat' first
    | (extract_lets +onlyGivenNames x; subst x)
    | with_reducible apply Kept.ite
    | exact rfl
    | with_reducible first | apply State.salStatus_kept | apply State.wr_kept | exact Kept.refl _ _
    | ((with_reducible refine Kept.build ?_ ?_ ?_ ?_); rotate_left; exact rfl; exact rfl; exact rfl; fail_if_success split)

theorem State.salSlot_kept {ps : List Part} {s t : State} (a1) (h : Kept ps s t) (hp : partsIn [.sal, .reg 10] ps = true) : Kept ps s (State.salSlot t a1) := by
  refine h.lift hp ?_
  clear h hp
  unfold State.salSlot
  repeat' first
    | with_reducible apply Kept.ite
    | exact rfl
    | with_reducible first | apply State.salQueue_kept | exact Kept.refl _ _

theorem State.salEnd_kept {ps : List Part} {s t : State} (a1 a2 a3) (h : Kept ps s t) (hp : partsIn [.cnt, .evt, .reg 10, .reg 20, .reg 21] ps = true) : Kept ps s (State.salEnd t a1 a2 a3) := by
  refine h.lift hp ?_
  clear h hp
  unfold State.salEnd
  repeat' first
    | with_reducible assumption
    | (extract_lets +onlyGivenNames x; refine Kept.cut x ?_ ?_ <;> first | (intro hx; clear_value x) | (unfold x; clear x))
    | with_reducible apply Kept.ite
    | exact rfl
    | with_reducible first | apply State.wr_kept | apply State.raise_kept | apply State.count_kept | exact Kept.refl _ _

theorem State.removeLine_kept {ps : List Part} {s t : State} (a1) (h : Kept ps s t) (hp : partsIn [.gch] ps = true) : Kept ps s (State.removeLine t a1) := by
  refine h.lift hp ?_
  clear h hp
  unfold State.removeLine
  repeat' first
    | (extract_lets +onlyGivenNames x; subst x)
    | with_reducible exact Kept.refl _ _
    | ((with_reducible refine Kept.build ?_ ?_ ?_ ?_); rotate_left; exact rfl; exact rfl; exact rfl; fail_if_success split)

theorem State.jnlStatus_kept {ps : List Part} {s t : State} (h : Kept ps s t) (hp : partsIn [.reg 14] ps = true) : Kept ps s (State.jnlStatus t) := by
  refine h.lift hp ?_
  clear h hp
  unfold State.jnlStatus
  repeat' first
    | with_reducible assumption
    | (extract_lets +onlyGivenNames x; refine Kept.cut x ?_ ?_ <;> first | (intro hx; clear_value x) | (unfold x; clear x))
    | (extract_lets +onlyGivenNames x; subst x)
    | exact rfl
    | with_reducible first | apply State.wr_kept | exact Kept.refl _ _ | apply Kept.foldIdx
    | (intro _; intros; try dsimp -zeta only)

theorem State.pumpOne_kept {ps : List Part} {s t : State} (a1) (h : Kept ps s t) (hp : partsIn [.cnt, .evt, .jnl, .outbox, .reg 16, .reg 20, .reg 21] ps = true) : Kept ps s (State.pumpOne t a1) := by
  refine h.lift hp ?_
  clear h hp
  unfold State.pumpOne
  repeat' first
    | (extract_lets +onlyGivenNames x; subst x)
    | with_reducible apply Kept.ite
    | exact rfl
    | with_reducible first | apply State.raise_kept | apply State.driveBytes_kept | apply State.modRole_kept | apply State.emit_kept | exact Kept.refl _ _
    | ((with_reducible refine Kept.build ?_ ?_ ?_ ?_); rotate_left; exact rfl; exact rfl; exact rfl; fail_if_success split)
    | split

theorem State.pump_kept {ps : List Part} {s t : State} (a1 a2) (h : Kept ps s t) (hp : partsIn [.cnt, .evt, .jnl, .outbox, .reg 16, .reg 20, .reg 21] ps = true) : Kept ps s (State.pump a1 a2 t) := by
  refine h.lift hp ?_
  clear h hp
  have key : ∀ u, Kept [.cnt, .evt, .jnl, .outbox, .reg 16, .reg 20, .reg 21] t u → Kept [.cnt, .evt, .jnl, .outbox, .reg 16, .reg 20, .reg 21] t (State.pump a1 a2 u) := by
    induction a1 generalizing a2 with
    | zero => intro u hu; unfold State.pump; exact hu
    | succ n ih =>
      intro u hu
      unfold State.pump
      repeat' first
        | with_reducible first | assumption | apply ih | apply Kept.ite
        | exact rfl
        | with_reducible apply State.pumpOne_kept
  exact key t (Kept.refl _ _)

theorem State.pumpAll_kept {ps : List Part} {s t : State} (h : Kept ps s t) (hp : partsIn [.cnt, .evt, .jnl, .outbox, .reg 16, .reg 20, .reg 21] ps = true) : Kept ps s (State.pumpAll t) := by
  refine h.lift hp ?_
  clear h hp
  unfold State.pumpAll
  repeat' first
    | with_reducible assumption
    | exact rfl
    | with_reducible first | apply State.pump_kept | exact Kept.refl _ _ | apply Kept.foldIdx
    | (intro _; intros; try dsimp -zeta only)

theorem State.journal_kept {ps : List Part} {s t : State} (a1 a2 a3 a4 a5 a6 a7 a8 a9) (h : Kept ps s t) (hp : partsIn [.cnt, .evt, .jnl, .outbox, .reg 14, .reg 16, .reg 20, .reg 21] ps = true) : Kept ps s (State.journal t a1 a2 a3 a4 a5 a6 a7 a8 a9).2 := by
  refine h.lift hp ?_
  clear h hp
  unfold State.journal
  repeat' first
    | with_reducible assumption
    | (extract_lets +onlyGivenNames x; refine Kept.cut x ?_ ?_ <;> first | (intro hx; clear_value x) | (unfold x; clear x))
    | (extract_lets +onlyGivenNames x; subst x)
    | with_reducible apply Kept.ite
    | exact rfl
    | with_reducible first | apply State.pumpAll_kept | apply State.jnlStatus_kept | apply State.count_kept | apply State.bumpWrap_kept | exact Kept.refl _ _
    | ((with_reducible refine Kept.build ?_ ?_ ?_ ?_); rotate_left; exact rfl; exact rfl; exact rfl; fail_if_success split)

theorem State.journal_kept_eq {ps : List Part} {s t u : State} {a1 a2 a3 a4 a5 a6 a7 a8 a9} {x} (e : State.journal t a1 a2 a3 a4 a5 a6 a7 a8 a9 = (x, u)) (h : Kept ps s t) (hp : partsIn [.cnt, .evt, .jnl, .outbox, .reg 14, .reg 16, .reg 20, .reg 21] ps = true) : Kept ps s u := by
  have k := State.journal_kept (ps := ps) (s := s) (t := t) a1 a2 a3 a4 a5 a6 a7 a8 a9 h hp
  rw [e] at k
  exact k

theorem State.ringAdvance_kept {ps : List Part} {s t : State} (a1 a2) (h : Kept ps s t) (hp : partsIn [.cnt, .evt, .jnl, .outbox, .reg 16, .reg 20, .reg 21] ps = true) : Kept ps s (State.ringAdvance t a1 a2) := by
  refine h.lift hp ?_
  clear h hp
  unfold State.ringAdvance
  repeat' first
    | (extract_lets +onlyGivenNames x; subst x)
    | exact rfl
    | with_reducible first | apply State.pump_kept | apply State.modRole_kept | exact Kept.refl _ _

theorem State.dropRecords_kept {ps : List Part} {s t : State} (a1) (h : Kept ps s t) (hp : partsIn [.cnt, .evt, .jnl, .outbox, .reg 14, .reg 16, .reg 20, .reg 21] ps = true) : Kept ps s (State.dropRecords t a1) := by
  refine h.lift hp ?_
  clear h hp
  unfold State.dropRecords
  repeat' first
    | with_reducible assumption
    | (extract_lets +onlyGivenNames x; refine Kept.cut x ?_ ?_ <;> first | (intro hx; clear_value x) | (unfold x; clear x))
    | (extract_lets +onlyGivenNames x; subst x)
    | with_reducible apply Kept.ite
    | exact rfl
    | with_reducible first | apply State.pumpAll_kept | apply State.jnlStatus_kept | exact Kept.refl _ _
    | ((with_reducible refine Kept.build ?_ ?_ ?_ ?_); rotate_left; exact rfl; exact rfl; exact rfl; fail_if_success split)

theorem State.judgeStall_kept {ps : List Part} {s t : State} (h : Kept ps s t) (hp : partsIn [.evt, .jnl, .reg 14, .reg 20] ps = true) : Kept ps s (State.judgeStall t) := by
  refine h.lift hp ?_
  clear h hp
  unfold State.judgeStall
  repeat' first
    | (extract_lets +onlyGivenNames x; subst x)
    | exact rfl
    | with_reducible first | apply State.raise_kept | apply State.jnlStatus_kept | exact Kept.refl _ _
    | ((with_reducible refine Kept.build ?_ ?_ ?_ ?_); rotate_left; exact rfl; exact rfl; exact rfl; fail_if_success split)
    | split

theorem State.failRole_kept {ps : List Part} {s t : State} (a1) (h : Kept ps s t) (hp : partsIn [.evt, .jnl, .reg 14, .reg 20] ps = true) : Kept ps s (State.failRole t a1) := by
  refine h.lift hp ?_
  clear h hp
  unfold State.failRole
  repeat' first
    | with_reducible assumption
    | (extract_lets +onlyGivenNames x; refine Kept.cut x ?_ ?_ <;> first | (intro hx; clear_value x) | (unfold x; clear x))
    | (extract_lets +onlyGivenNames x; subst x)
    | with_reducible apply Kept.ite
    | exact rfl
    | with_reducible first | apply State.judgeStall_kept | apply State.raise_kept | apply State.jnlStatus_kept | apply State.modRole_kept | exact Kept.refl _ _

theorem State.writeLabel_kept {ps : List Part} {s t : State} (a1 a2 a3 a4) (h : Kept ps s t) (hp : partsIn [.drv, .outbox] ps = true) : Kept ps s (State.writeLabel t a1 a2 a3 a4) := by
  refine h.lift hp ?_
  clear h hp
  unfold State.writeLabel
  repeat' first
    | (extract_lets +onlyGivenNames x; subst x)
    | exact rfl
    | with_reducible first | apply State.modSlot_kept | apply State.emit_kept | exact Kept.refl _ _

theorem State.relabel_kept {ps : List Part} {s t : State} (a1) (h : Kept ps s t) (hp : partsIn [.drv, .outbox] ps = true) : Kept ps s (State.relabel t a1) := by
  refine h.lift hp ?_
  clear h hp
  unfold State.relabel
  repeat' first
    | exact rfl
    | with_reducible first | apply State.writeLabel_kept | exact Kept.refl _ _
    | split

theorem State.claimRoles_kept {ps : List Part} {s t : State} (h : Kept ps s t) (hp : partsIn [.drv, .jnl, .lay, .outbox] ps = true) : Kept ps s (State.claimRoles t) := by
  refine h.lift hp ?_
  clear h hp
  unfold State.claimRoles
  repeat' first
    | with_reducible assumption
    | (extract_lets +onlyGivenNames x; subst x)
    | with_reducible apply Kept.ite
    | exact rfl
    | with_reducible first | apply State.relabel_kept | apply State.mdWrite_kept | apply State.modRole_kept | exact Kept.refl _ _ | apply Kept.foldIdx
    | (intro _; intros; try dsimp -zeta only)

theorem State.reseed_kept {ps : List Part} {s t : State} (a1) (h : Kept ps s t) (hp : partsIn [.cnt, .evt, .jnl, .outbox, .reg 14, .reg 16, .reg 20, .reg 21] ps = true) : Kept ps s (State.reseed t a1) := by
  refine h.lift hp ?_
  clear h hp
  unfold State.reseed
  repeat' first
    | with_reducible assumption
    | (extract_lets +onlyGivenNames x; refine Kept.cut x ?_ ?_ <;> first | (intro hx; clear_value x) | (unfold x; clear x))
    | (extract_lets +onlyGivenNames x; subst x)
    | with_reducible apply Kept.ite
    | exact rfl
    | with_reducible first | apply State.journal_kept | apply State.modRole_kept | exact Kept.refl _ _ | apply Kept.foldl
    | (intro _; intros; try dsimp -zeta only)

theorem State.promote_kept {ps : List Part} {s t : State} (a1 a2 a3) (h : Kept ps s t) (hp : partsIn [.cnt, .deferred, .drv, .evt, .fov, .jnl, .lay, .outbox, .pwr, .reg 14, .reg 16, .reg 20, .reg 21] ps = true) : Kept ps s (State.promote t a1 a2 a3) := by
  refine h.lift hp ?_
  clear h hp
  unfold State.promote
  repeat' first
    | with_reducible assumption
    | (extract_lets +onlyGivenNames x; refine Kept.cut x ?_ ?_ <;> first | (intro hx; clear_value x) | (unfold x; clear x))
    | (extract_lets +onlyGivenNames x; subst x)
    | exact rfl
    | with_reducible first | apply State.reseed_kept | apply State.relabel_kept | apply State.updateDemand_kept | apply State.mdWrite_kept | apply State.jnlStatus_kept | apply State.modRole_kept | apply State.emit_kept | exact Kept.refl _ _

theorem State.seedCheck_kept {ps : List Part} {s t : State} (a1) (h : Kept ps s t) (hp : partsIn [.deferred] ps = true) : Kept ps s (State.seedCheck t a1) := by
  refine h.lift hp ?_
  clear h hp
  unfold State.seedCheck
  repeat' first
    | (extract_lets +onlyGivenNames x; subst x)
    | with_reducible apply Kept.ite
    | exact rfl
    | with_reducible first | apply State.defer_kept | exact Kept.refl _ _
    | split

theorem State.activateRole_kept {ps : List Part} {s t : State} (a1) (h : Kept ps s t) (hp : partsIn [.evt, .jnl, .reg 14, .reg 20] ps = true) : Kept ps s (State.activateRole t a1) := by
  refine h.lift hp ?_
  clear h hp
  unfold State.activateRole
  repeat' first
    | with_reducible assumption
    | (extract_lets +onlyGivenNames x; refine Kept.cut x ?_ ?_ <;> first | (intro hx; clear_value x) | (unfold x; clear x))
    | (extract_lets +onlyGivenNames x; subst x)
    | with_reducible apply Kept.ite
    | exact rfl
    | with_reducible first | apply State.judgeStall_kept | apply State.raise_kept | apply State.jnlStatus_kept | apply State.modRole_kept | exact Kept.refl _ _

theorem State.setExtent_kept {ps : List Part} {s t : State} (a1 a2 a3) (h : Kept ps s t) (hp : partsIn [.lay] ps = true) : Kept ps s (State.setExtent t a1 a2 a3) := by
  refine h.lift hp ?_
  clear h hp
  unfold State.setExtent
  repeat' first
    | (extract_lets +onlyGivenNames x; subst x)
    | with_reducible exact Kept.refl _ _
    | ((with_reducible refine Kept.build ?_ ?_ ?_ ?_); rotate_left; exact rfl; exact rfl; exact rfl; fail_if_success split)

theorem State.deadBytes_kept {ps : List Part} {s t : State} (a1) (h : Kept ps s t) (hp : partsIn [.cph, .lay] ps = true) : Kept ps s (State.deadBytes t a1) := by
  refine h.lift hp ?_
  clear h hp
  unfold State.deadBytes
  repeat' first
    | with_reducible assumption
    | (extract_lets +onlyGivenNames x; refine Kept.cut x ?_ ?_ <;> first | (intro hx; clear_value x) | (unfold x; clear x))
    | (extract_lets +onlyGivenNames x; subst x)
    | with_reducible apply Kept.ite
    | exact rfl
    | with_reducible first | apply State.modGrp_kept | apply State.keyRef_kept | exact Kept.refl _ _ | apply Kept.foldl
    | ((with_reducible refine Kept.build ?_ ?_ ?_ ?_); rotate_left; exact rfl; exact rfl; exact rfl; fail_if_success split)
    | (intro _; intros; try dsimp -zeta only)

theorem State.modStripe_kept {ps : List Part} {s t : State} (a1 a2 a3) (h : Kept ps s t) (hp : partsIn [.lay] ps = true) : Kept ps s (State.modStripe t a1 a2 a3) := by
  refine h.lift hp ?_
  clear h hp
  unfold State.modStripe
  repeat' first
    | (extract_lets +onlyGivenNames x; subst x)
    | with_reducible exact Kept.refl _ _
    | ((with_reducible refine Kept.build ?_ ?_ ?_ ?_); rotate_left; exact rfl; exact rfl; exact rfl; fail_if_success split)

theorem State.layStatus_kept {ps : List Part} {s t : State} (h : Kept ps s t) (hp : partsIn [.reg 13] ps = true) : Kept ps s (State.layStatus t) := by
  refine h.lift hp ?_
  clear h hp
  unfold State.layStatus
  repeat' first
    | with_reducible assumption
    | (extract_lets +onlyGivenNames x; refine Kept.cut x ?_ ?_ <;> first | (intro hx; clear_value x) | (unfold x; clear x))
    | (extract_lets +onlyGivenNames x; subst x)
    | with_reducible apply Kept.ite
    | exact rfl
    | with_reducible first | apply State.wr_kept | exact Kept.refl _ _ | apply Kept.foldIdx
    | (intro _; intros; try dsimp -zeta only)

theorem State.openStripe_kept {ps : List Part} {s t : State} (a1 a2) (h : Kept ps s t) (hp : partsIn [.lay] ps = true) : Kept ps s (State.openStripe t a1 a2) := by
  refine h.lift hp ?_
  clear h hp
  unfold State.openStripe
  repeat' first
    | (extract_lets +onlyGivenNames x; subst x)
    | with_reducible exact Kept.refl _ _
    | ((with_reducible refine Kept.build ?_ ?_ ?_ ?_); rotate_left; exact rfl; exact rfl; exact rfl; fail_if_success split)

theorem State.markDirty_kept {ps : List Part} {s t : State} (a1 a2 a3) (h : Kept ps s t) (hp : partsIn [.axl, .outbox] ps = true) : Kept ps s (State.markDirty t a1 a2 a3) := by
  refine h.lift hp ?_
  clear h hp
  unfold State.markDirty
  repeat' first
    | (extract_lets +onlyGivenNames x; subst x)
    | with_reducible apply Kept.ite
    | exact rfl
    | with_reducible first | apply State.modPos_kept | apply State.emit_kept | exact Kept.refl _ _

theorem State.issueStripe_kept {ps : List Part} {s t : State} (a1 a2 a3) (h : Kept ps s t) (hp : partsIn [.axl, .cnt, .gch, .lay, .outbox, .sal, .reg 9, .reg 13, .reg 16, .reg 21] ps = true) : Kept ps s (State.issueStripe t a1 a2 a3) := by
  refine h.lift hp ?_
  clear h hp
  unfold State.issueStripe
  repeat' first
    | with_reducible assumption
    | (extract_lets +onlyGivenNames x; refine Kept.cut x ?_ ?_ <;> first | (intro hx; clear_value x) | (unfold x; clear x))
    | (extract_lets +onlyGivenNames x; subst x)
    | with_reducible apply Kept.ite
    | exact rfl
    | with_reducible first | apply State.writeUnit_kept | apply State.markDirty_kept | apply State.modGrp_kept | apply State.modStripe_kept | apply State.cacheForget_kept | apply State.count_kept | apply State.bumpWrap_kept | exact Kept.refl _ _ | apply Kept.foldl
    | split
    | (intro _; intros; try dsimp -zeta only)

theorem State.padStripe_kept {ps : List Part} {s t : State} (a1 a2) (h : Kept ps s t) (hp : partsIn [.axl, .cnt, .gch, .lay, .outbox, .sal, .reg 9, .reg 13, .reg 16, .reg 21] ps = true) : Kept ps s (State.padStripe t a1 a2) := by
  refine h.lift hp ?_
  clear h hp
  unfold State.padStripe
  repeat' first
    | with_reducible apply Kept.ite
    | exact rfl
    | with_reducible first | apply State.layStatus_kept | apply State.issueStripe_kept | exact Kept.refl _ _
    | split

theorem State.stripeWritten_kept {ps : List Part} {s t : State} (a1 a2) (h : Kept ps s t) (hp : partsIn [.cnt, .evt, .jnl, .lay, .outbox, .reg 13, .reg 14, .reg 16, .reg 20, .reg 21] ps = true) : Kept ps s (State.stripeWritten t a1 a2) := by
  refine h.lift hp ?_
  clear h hp
  unfold State.stripeWritten
  repeat' first
    | with_reducible assumption
    | (extract_lets +onlyGivenNames x; refine Kept.cut x ?_ ?_ <;> first | (intro hx; clear_value x) | (unfold x; clear x))
    | (extract_lets +onlyGivenNames x; subst x)
    | exact rfl
    | with_reducible first | apply State.modStripe_kept | apply State.journal_kept | apply State.count_kept | apply State.bumpWrap_kept | exact Kept.refl _ _
    | split

theorem State.rewriteStripe_kept {ps : List Part} {s t : State} (a1 a2) (h : Kept ps s t) (hp : partsIn [.evt, .lay, .reg 20] ps = true) : Kept ps s (State.rewriteStripe t a1 a2) := by
  refine h.lift hp ?_
  clear h hp
  unfold State.rewriteStripe
  repeat' first
    | with_reducible assumption
    | (extract_lets +onlyGivenNames x; refine Kept.cut x ?_ ?_ <;> first | (intro hx; clear_value x) | (unfold x; clear x))
    | (extract_lets +onlyGivenNames x; subst x)
    | with_reducible apply Kept.ite
    | exact rfl
    | with_reducible first | apply State.modStripe_kept | apply State.raise_kept | exact Kept.refl _ _ | apply Kept.foldl
    | ((with_reducible refine Kept.build ?_ ?_ ?_ ?_); rotate_left; exact rfl; exact rfl; exact rfl; fail_if_success split)
    | (intro _; intros; try dsimp -zeta only)

theorem State.checkStripe_kept {ps : List Part} {s t : State} (a1 a2) (h : Kept ps s t) (hp : partsIn [.cnt, .evt, .jnl, .lay, .outbox, .reg 13, .reg 14, .reg 16, .reg 20, .reg 21] ps = true) : Kept ps s (State.checkStripe t a1 a2) := by
  refine h.lift hp ?_
  clear h hp
  unfold State.checkStripe
  repeat' first
    | (extract_lets +onlyGivenNames x; subst x)
    | with_reducible apply Kept.ite
    | exact rfl
    | with_reducible first | apply State.rewriteStripe_kept | apply State.stripeWritten_kept | exact Kept.refl _ _
    | split

theorem State.fullStripe_kept {ps : List Part} {s t : State} (a1 a2) (h : Kept ps s t) (hp : partsIn [.axl, .cnt, .evt, .gch, .jnl, .lay, .outbox, .sal, .reg 9, .reg 13, .reg 14, .reg 16, .reg 20, .reg 21] ps = true) : Kept ps s (State.fullStripe t a1 a2) := by
  refine h.lift hp ?_
  clear h hp
  unfold State.fullStripe
  repeat' first
    | exact rfl
    | with_reducible first | apply State.checkStripe_kept | apply State.issueStripe_kept | exact Kept.refl _ _

theorem State.placeBytes_kept {ps : List Part} {s t : State} (a1 a2 a3 a4) (h : Kept ps s t) (hp : partsIn [.axl, .cnt, .evt, .gch, .jnl, .lay, .outbox, .sal, .reg 9, .reg 13, .reg 14, .reg 16, .reg 20, .reg 21] ps = true) : Kept ps s (State.placeBytes a1 a2 a3 a4 t) := by
  refine h.lift hp ?_
  clear h hp
  have key : ∀ u, Kept [.axl, .cnt, .evt, .gch, .jnl, .lay, .outbox, .sal, .reg 9, .reg 13, .reg 14, .reg 16, .reg 20, .reg 21] t u → Kept [.axl, .cnt, .evt, .gch, .jnl, .lay, .outbox, .sal, .reg 9, .reg 13, .reg 14, .reg 16, .reg 20, .reg 21] t (State.placeBytes a1 a2 a3 a4 u) := by
    induction a1 generalizing a2 a3 a4 with
    | zero => intro u hu; unfold State.placeBytes; exact hu
    | succ n ih =>
      intro u hu
      unfold State.placeBytes
      repeat' first
        | with_reducible first | assumption | apply ih
        | (extract_lets +onlyGivenNames x; refine Kept.cut x ?_ ?_ <;> first | (intro hx; clear_value x) | (unfold x; clear x))
        | (extract_lets +onlyGivenNames x; subst x)
        | with_reducible apply Kept.ite
        | exact rfl
        | with_reducible first | apply State.modGrp_kept | apply State.modStripe_kept | apply State.cacheDirty_kept | apply State.fullStripe_kept | apply State.openStripe_kept | apply Kept.foldl
        | split
        | (intro _; intros; try dsimp -zeta only)
  exact key t (Kept.refl _ _)

theorem State.placeVersion_kept {ps : List Part} {s t : State} (a1 a2 a3 a4) (h : Kept ps s t) (hp : partsIn [.axl, .cnt, .cph, .evt, .gch, .jnl, .lay, .outbox, .sal, .reg 9, .reg 13, .reg 14, .reg 16, .reg 20, .reg 21] ps = true) : Kept ps s (State.placeVersion t a1 a2 a3 a4) := by
  refine h.lift hp ?_
  clear h hp
  unfold State.placeVersion
  repeat' first
    | with_reducible assumption
    | (extract_lets +onlyGivenNames x; refine Kept.cut x ?_ ?_ <;> first | (intro hx; clear_value x) | (unfold x; clear x))
    | (extract_lets +onlyGivenNames x; subst x)
    | exact rfl
    | with_reducible first | apply State.modGrp_kept | apply State.placeBytes_kept | apply State.layStatus_kept | apply State.deadBytes_kept | apply State.keyRef_kept | apply State.setExtent_kept | apply State.count_kept | exact Kept.refl _ _ | apply Kept.foldl
    | ((with_reducible refine Kept.build ?_ ?_ ?_ ?_); rotate_left; exact rfl; exact rfl; exact rfl; fail_if_success split)
    | split
    | (intro _; intros; try dsimp -zeta only)

theorem State.zoneAcked_kept {ps : List Part} {s t : State} (a1 a2 a3) (h : Kept ps s t) (hp : partsIn [.cmd] ps = true) : Kept ps s (State.zoneAcked t a1 a2 a3) := by
  refine h.lift hp ?_
  clear h hp
  unfold State.zoneAcked
  repeat' first
    | (extract_lets +onlyGivenNames x; subst x)
    | exact rfl
    | with_reducible first | apply State.setZone_kept | exact Kept.refl _ _
    | split

theorem State.completeWrite_kept {ps : List Part} {s t : State} (a1) (h : Kept ps s t) (hp : partsIn [.cmd, .cnt, .fsp, .outbox, .win, .reg 7, .reg 21] ps = true) : Kept ps s (State.completeWrite t a1) := by
  refine h.lift hp ?_
  clear h hp
  unfold State.completeWrite
  repeat' first
    | with_reducible assumption
    | (extract_lets +onlyGivenNames x; refine Kept.cut x ?_ ?_ <;> first | (intro hx; clear_value x) | (unfold x; clear x))
    | (extract_lets +onlyGivenNames x; subst x)
    | with_reducible apply Kept.ite
    | exact rfl
    | with_reducible first | apply State.zoneAcked_kept | apply State.finish_kept | apply State.count_kept | exact Kept.refl _ _
    | split

theorem State.extentDone_kept {ps : List Part} {s t : State} (a1 a2) (h : Kept ps s t) (hp : partsIn [.cmd, .cnt, .fsp, .outbox, .win, .reg 7, .reg 21] ps = true) : Kept ps s (State.extentDone t a1 a2) := by
  refine h.lift hp ?_
  clear h hp
  unfold State.extentDone
  repeat' first
    | exact rfl
    | with_reducible first | apply State.modEntry_kept | apply State.completeWrite_kept | exact Kept.refl _ _

theorem State.markReplica_kept {ps : List Part} {s t : State} (a1 a2) (h : Kept ps s t) (hp : partsIn [.fov, .lay] ps = true) : Kept ps s (State.markReplica t a1 a2) := by
  refine h.lift hp ?_
  clear h hp
  unfold State.markReplica
  repeat' first
    | (extract_lets +onlyGivenNames x; subst x)
    | with_reducible apply Kept.ite
    | exact rfl
    | with_reducible first | apply State.mdWrite_kept | exact Kept.refl _ _
    | ((with_reducible refine Kept.build ?_ ?_ ?_ ?_); rotate_left; exact rfl; exact rfl; exact rfl; fail_if_success split)

theorem State.versionDone_kept {ps : List Part} {s t : State} (a1) (h : Kept ps s t) (hp : partsIn [.cmd, .cnt, .cph, .fov, .fsp, .lay, .outbox, .win, .reg 7, .reg 21] ps = true) : Kept ps s (State.versionDone t a1) := by
  refine h.lift hp ?_
  clear h hp
  unfold State.versionDone
  repeat' first
    | with_reducible assumption
    | (extract_lets +onlyGivenNames x; refine Kept.cut x ?_ ?_ <;> first | (intro hx; clear_value x) | (unfold x; clear x))
    | (extract_lets +onlyGivenNames x; subst x)
    | with_reducible apply Kept.ite
    | exact rfl
    | with_reducible first | apply State.markReplica_kept | apply State.extentDone_kept | apply State.deadBytes_kept | exact Kept.refl _ _
    | ((with_reducible refine Kept.build ?_ ?_ ?_ ?_); rotate_left; exact rfl; exact rfl; exact rfl; fail_if_success split)

theorem State.settle_kept {ps : List Part} {s t : State} (h : Kept ps s t) (hp : partsIn [.cmd, .cnt, .cph, .deferred, .evt, .fov, .fsp, .jnl, .lay, .outbox, .win, .reg 7, .reg 13, .reg 14, .reg 16, .reg 20, .reg 21] ps = true) : Kept ps s (State.settle t) := by
  refine h.lift hp ?_
  clear h hp
  unfold State.settle
  repeat' first
    | with_reducible assumption
    | (extract_lets +onlyGivenNames x; refine Kept.cut x ?_ ?_ <;> first | (intro hx; clear_value x) | (unfold x; clear x))
    | (extract_lets +onlyGivenNames x; subst x)
    | exact rfl
    | with_reducible first | apply State.layStatus_kept | apply State.seedCheck_kept | apply State.versionDone_kept | apply State.markReplica_kept | apply State.extentDone_kept | apply State.jnlStatus_kept | apply State.dropRecords_kept | exact Kept.refl _ _ | apply Kept.foldl | apply Kept.foldIdx
    | ((with_reducible refine Kept.build ?_ ?_ ?_ ?_); rotate_left; exact rfl; exact rfl; exact rfl; fail_if_success split)
    | (intro _; intros; try dsimp -zeta only)

theorem State.mapRecord_kept {ps : List Part} {s t : State} (a1 a2) (h : Kept ps s t) (hp : partsIn [.cnt, .evt, .jnl, .outbox, .reg 14, .reg 16, .reg 20, .reg 21] ps = true) : Kept ps s (State.mapRecord t a1 a2) := by
  refine h.lift hp ?_
  clear h hp
  unfold State.mapRecord
  repeat' first
    | exact rfl
    | with_reducible first | apply State.journal_kept | exact Kept.refl _ _

theorem State.unmap_kept {ps : List Part} {s t : State} (a1 a2 a3) (h : Kept ps s t) (hp : partsIn [.cph, .lay] ps = true) : Kept ps s (State.unmap t a1 a2 a3).1 := by
  refine h.lift hp ?_
  clear h hp
  unfold State.unmap
  repeat' first
    | (extract_lets +onlyGivenNames x; subst x)
    | exact rfl
    | with_reducible first | apply State.deadBytes_kept | apply State.setExtent_kept | exact Kept.refl _ _

theorem State.unmap_kept_eq {ps : List Part} {s t u : State} {a1 a2 a3} {x} (e : State.unmap t a1 a2 a3 = (u, x)) (h : Kept ps s t) (hp : partsIn [.cph, .lay] ps = true) : Kept ps s u := by
  have k := State.unmap_kept (ps := ps) (s := s) (t := t) a1 a2 a3 h hp
  rw [e] at k
  exact k

theorem State.gatherHold_kept {ps : List Part} {s t : State} (a1 a2) (h : Kept ps s t) (hp : partsIn [.axl, .cnt, .evt, .gch, .jnl, .lay, .outbox, .sal, .reg 9, .reg 13, .reg 14, .reg 16, .reg 20, .reg 21] ps = true) : Kept ps s (State.gatherHold t a1 a2) := by
  refine h.lift hp ?_
  clear h hp
  unfold State.gatherHold
  repeat' first
    | with_reducible assumption
    | (extract_lets +onlyGivenNames x; refine Kept.cut x ?_ ?_ <;> first | (intro hx; clear_value x) | (unfold x; clear x))
    | (extract_lets +onlyGivenNames x; subst x)
    | with_reducible apply Kept.ite
    | exact rfl
    | with_reducible first | apply State.raiseLim_kept | apply State.modStripe_kept | apply State.journal_kept | apply State.padStripe_kept | apply State.checkStripe_kept | apply State.count_kept | apply State.bumpWrap_kept | exact Kept.refl _ _
    | split

theorem State.startJob_kept {ps : List Part} {s t : State} (a1) (h : Kept ps s t) (hp : partsIn [.cnt, .fsp, .gch, .lay, .outbox, .reg 8, .reg 9, .reg 16, .reg 21] ps = true) : Kept ps s (State.startJob t a1) := by
  refine h.lift hp ?_
  clear h hp
  unfold State.startJob
  repeat' first
    | with_reducible assumption
    | (extract_lets +onlyGivenNames x; refine Kept.cut x ?_ ?_ <;> first | (intro hx; clear_value x) | (unfold x; clear x))
    | (extract_lets +onlyGivenNames x; subst x)
    | with_reducible apply Kept.ite
    | exact rfl
    | with_reducible first | apply State.readUnit_kept | apply State.cacheRead_kept | refine State.allocMany_kept_eq ‹_› ?_ rfl | exact Kept.refl _ _ | apply Kept.foldl
    | ((with_reducible refine Kept.build ?_ ?_ ?_ ?_); rotate_left; exact rfl; exact rfl; exact rfl; fail_if_success split)
    | split
    | (intro _; intros; try dsimp -zeta only)

theorem State.queueRead_kept {ps : List Part} {s t : State} (a1) (h : Kept ps s t) (hp : partsIn [.cnt, .deferred, .evt, .fov, .fsp, .gch, .lay, .outbox, .pwr, .reg 8, .reg 9, .reg 16, .reg 20, .reg 21] ps = true) : Kept ps s (State.queueRead t a1) := by
  refine h.lift hp ?_
  clear h hp
  unfold State.queueRead
  repeat' first
    | with_reducible assumption
    | (extract_lets +onlyGivenNames x; refine Kept.cut x ?_ ?_ <;> first | (intro hx; clear_value x) | (unfold x; clear x))
    | (extract_lets +onlyGivenNames x; subst x)
    | with_reducible apply Kept.ite
    | exact rfl
    | with_reducible first | apply State.modGrp_kept | apply State.requestSet_kept | apply State.startJob_kept | exact Kept.refl _ _
    | ((with_reducible refine Kept.build ?_ ?_ ?_ ?_); rotate_left; exact rfl; exact rfl; exact rfl; fail_if_success split)

theorem State.startRead_kept {ps : List Part} {s t : State} (a1 a2 a3 a4 a5) (h : Kept ps s t) (hp : partsIn [.cnt, .deferred, .evt, .fov, .fsp, .gch, .lay, .outbox, .pwr, .reg 8, .reg 9, .reg 16, .reg 20, .reg 21] ps = true) : Kept ps s (State.startRead t a1 a2 a3 a4 a5) := by
  refine h.lift hp ?_
  clear h hp
  unfold State.startRead
  repeat' first
    | (extract_lets +onlyGivenNames x; subst x)
    | exact rfl
    | with_reducible first | apply State.queueRead_kept | exact Kept.refl _ _

theorem State.endRead_kept {ps : List Part} {s t : State} (a1) (h : Kept ps s t) (hp : partsIn [.fsp, .lay] ps = true) : Kept ps s (State.endRead t a1) := by
  refine h.lift hp ?_
  clear h hp
  unfold State.endRead
  repeat' first
    | with_reducible assumption
    | (extract_lets +onlyGivenNames x; refine Kept.cut x ?_ ?_ <;> first | (intro hx; clear_value x) | (unfold x; clear x))
    | (extract_lets +onlyGivenNames x; subst x)
    | exact rfl
    | with_reducible first | apply State.modGrp_kept | apply State.decrefs_kept | exact Kept.refl _ _
    | ((with_reducible refine Kept.build ?_ ?_ ?_ ?_); rotate_left; exact rfl; exact rfl; exact rfl; fail_if_success split)
    | split

theorem State.loseBlocks_kept {ps : List Part} {s t : State} (a1 a2 a3 a4 a5) (h : Kept ps s t) (hp : partsIn [.cmd, .cnt, .evt, .lay, .reg 7, .reg 13, .reg 20, .reg 21] ps = true) : Kept ps s (State.loseBlocks t a1 a2 a3 a4 a5) := by
  refine h.lift hp ?_
  clear h hp
  unfold State.loseBlocks
  repeat' first
    | with_reducible assumption
    | (extract_lets +onlyGivenNames x; refine Kept.cut x ?_ ?_ <;> first | (intro hx; clear_value x) | (unfold x; clear x))
    | (extract_lets +onlyGivenNames x; subst x)
    | with_reducible apply Kept.ite
    | exact rfl
    | with_reducible first | apply State.bump_kept | apply State.lose_kept | apply State.raise_kept | apply State.setExtent_kept | apply State.count_kept | exact Kept.refl _ _ | apply Kept.foldl
    | ((with_reducible refine Kept.build ?_ ?_ ?_ ?_); rotate_left; exact rfl; exact rfl; exact rfl; fail_if_success split)
    | (intro _; intros; try dsimp -zeta only)

theorem State.wrs_kept {ps : List Part} {s t : State} (l) (h : Kept ps s t) (hp : (l.all fun x => partsIn [.reg x.1.block] ps && x.1.fits) = true) :
    Kept ps s (State.wrs t l) := by
  unfold State.wrs
  induction l generalizing t with
  | nil => exact h
  | cons x l ih =>
    simp only [List.all_cons, Bool.and_eq_true] at hp
    exact ih (State.wr_kept _ _ _ _ h hp.1.1 hp.1.2) (by simpa using hp.2)

theorem State.applyNetwork_kept {ps : List Part} {s t : State} (a1 a2) (h : Kept ps s t) (hp : partsIn [.reg 0, .reg 3] ps = true) : Kept ps s (State.applyNetwork t a1 a2) := by
  refine h.lift hp ?_
  clear h hp
  unfold State.applyNetwork
  repeat' first
    | with_reducible assumption
    | (extract_lets +onlyGivenNames x; refine Kept.cut x ?_ ?_ <;> first | (intro hx; clear_value x) | (unfold x; clear x))
    | (simp only [List.all_cons, List.all_nil, Bool.and_true, Bool.and_eq_true]; (repeat' apply And.intro) <;> rfl)
    | with_reducible first | apply State.wrs_kept | exact Kept.refl _ _ | apply Kept.foldl
    | (intro _; intros; try dsimp -zeta only)

theorem State.applyTransport_kept {ps : List Part} {s t : State} (a1) (h : Kept ps s t) (hp : partsIn [.reg 4, .reg 5] ps = true) : Kept ps s (State.applyTransport t a1) := by
  refine h.lift hp ?_
  clear h hp
  unfold State.applyTransport
  repeat' first
    | (simp only [List.all_cons, List.all_nil, Bool.and_true, Bool.and_eq_true]; (repeat' apply And.intro) <;> rfl)
    | with_reducible first | apply State.wrs_kept | exact Kept.refl _ _

theorem State.applyScheduler_kept {ps : List Part} {s t : State} (a1 a2) (h : Kept ps s t) (hp : partsIn [.sch, .reg 6] ps = true) : Kept ps s (State.applyScheduler t a1 a2) := by
  refine h.lift hp ?_
  clear h hp
  unfold State.applyScheduler
  repeat' first
    | with_reducible assumption
    | (extract_lets +onlyGivenNames x; refine Kept.cut x ?_ ?_ <;> first | (intro hx; clear_value x) | (unfold x; clear x))
    | (extract_lets +onlyGivenNames x; subst x)
    | exact rfl
    | with_reducible first | apply State.wr_kept | exact Kept.refl _ _ | apply Kept.foldl
    | ((with_reducible refine Kept.build ?_ ?_ ?_ ?_); rotate_left; exact rfl; exact rfl; exact rfl; fail_if_success split)
    | (intro _; intros; try dsimp -zeta only)

theorem State.applyPools_kept {ps : List Part} {s t : State} (a1 a2) (h : Kept ps s t) (hp : partsIn [.fsp, .reg 8] ps = true) : Kept ps s (State.applyPools t a1 a2) := by
  refine h.lift hp ?_
  clear h hp
  unfold State.applyPools
  repeat' first
    | with_reducible assumption
    | (extract_lets +onlyGivenNames x; refine Kept.cut x ?_ ?_ <;> first | (intro hx; clear_value x) | (unfold x; clear x))
    | (extract_lets +onlyGivenNames x; subst x)
    | (simp only [List.all_cons, List.all_nil, Bool.and_true, Bool.and_eq_true]; (repeat' apply And.intro) <;> rfl)
    | with_reducible first | apply State.wrs_kept | exact Kept.refl _ _ | apply Kept.foldl
    | ((with_reducible refine Kept.build ?_ ?_ ?_ ?_); rotate_left; exact rfl; exact rfl; exact rfl; fail_if_success split)
    | (intro _; intros; try dsimp -zeta only)

theorem State.applyCache_kept {ps : List Part} {s t : State} (a1 a2) (h : Kept ps s t) (hp : partsIn [.gch, .reg 9] ps = true) : Kept ps s (State.applyCache t a1 a2) := by
  refine h.lift hp ?_
  clear h hp
  unfold State.applyCache
  repeat' first
    | with_reducible assumption
    | (extract_lets +onlyGivenNames x; refine Kept.cut x ?_ ?_ <;> first | (intro hx; clear_value x) | (unfold x; clear x))
    | (extract_lets +onlyGivenNames x; subst x)
    | (simp only [List.all_cons, List.all_nil, Bool.and_true, Bool.and_eq_true]; (repeat' apply And.intro) <;> rfl)
    | exact rfl
    | with_reducible first | apply State.wr_kept | apply State.wrs_kept | exact Kept.refl _ _ | apply Kept.foldl
    | ((with_reducible refine Kept.build ?_ ?_ ?_ ?_); rotate_left; exact rfl; exact rfl; exact rfl; fail_if_success split)
    | (intro _; intros; try dsimp -zeta only)

theorem State.applyStorage_kept {ps : List Part} {s t : State} (a1 a2) (h : Kept ps s t) (hp : partsIn [.reg 11, .reg 13, .reg 14, .reg 15, .reg 16] ps = true) : Kept ps s (State.applyStorage t a1 a2) := by
  refine h.lift hp ?_
  clear h hp
  unfold State.applyStorage
  repeat' first
    | (extract_lets +onlyGivenNames x; subst x)
    | (simp only [List.all_cons, List.all_nil, Bool.and_true, Bool.and_eq_true]; (repeat' apply And.intro) <;> rfl)
    | with_reducible first | apply State.wrs_kept | exact Kept.refl _ _

theorem State.applyPower_kept {ps : List Part} {s t : State} (a1) (h : Kept ps s t) (hp : partsIn [.reg 17] ps = true) : Kept ps s (State.applyPower t a1) := by
  refine h.lift hp ?_
  clear h hp
  unfold State.applyPower
  repeat' first
    | (simp only [List.all_cons, List.all_nil, Bool.and_true, Bool.and_eq_true]; (repeat' apply And.intro) <;> rfl)
    | with_reducible first | apply State.wrs_kept | exact Kept.refl _ _

theorem State.applyFailover_kept {ps : List Part} {s t : State} (a1) (h : Kept ps s t) (hp : partsIn [.fov, .reg 18] ps = true) : Kept ps s (State.applyFailover t a1) := by
  refine h.lift hp ?_
  clear h hp
  unfold State.applyFailover
  repeat' first
    | with_reducible assumption
    | (extract_lets +onlyGivenNames x; refine Kept.cut x ?_ ?_ <;> first | (intro hx; clear_value x) | (unfold x; clear x))
    | (extract_lets +onlyGivenNames x; subst x)
    | (simp only [List.all_cons, List.all_nil, Bool.and_true, Bool.and_eq_true]; (repeat' apply And.intro) <;> rfl)
    | with_reducible first | apply State.wrs_kept | exact Kept.refl _ _
    | ((with_reducible refine Kept.build ?_ ?_ ?_ ?_); rotate_left; exact rfl; exact rfl; exact rfl; fail_if_success split)

theorem State.wrRoute_kept {ps : List Part} {s t : State} (src i j v) (h : Kept ps s t) (hp : partsIn [.reg 20] ps = true) : Kept ps s (State.wr t (routeField src) i j v) := by
  unfold routeField
  split
  · exact State.wr_kept _ _ _ _ h hp rfl
  · split
    · exact State.wr_kept _ _ _ _ h hp rfl
    · split
      · exact State.wr_kept _ _ _ _ h hp rfl
      · exact State.wr_kept _ _ _ _ h hp rfl

theorem State.applyEvents_kept {ps : List Part} {s t : State} (a1) (h : Kept ps s t) (hp : partsIn [.cnt, .reg 20, .reg 21] ps = true) : Kept ps s (State.applyEvents t a1) := by
  refine h.lift hp ?_
  clear h hp
  unfold State.applyEvents
  repeat' first
    | with_reducible assumption
    | (extract_lets +onlyGivenNames x; refine Kept.cut x ?_ ?_ <;> first | (intro hx; clear_value x) | (unfold x; clear x))
    | (extract_lets +onlyGivenNames x; subst x)
    | (simp only [List.all_cons, List.all_nil, Bool.and_true, Bool.and_eq_true]; (repeat' apply And.intro) <;> rfl)
    | exact rfl
    | with_reducible first | apply State.wrRoute_kept | apply State.wr_kept | apply State.wrs_kept | exact Kept.refl _ _ | apply Kept.foldl | apply Kept.foldIdx
    | ((with_reducible refine Kept.build ?_ ?_ ?_ ?_); rotate_left; exact rfl; exact rfl; exact rfl; fail_if_success split)
    | (intro _; intros; try dsimp -zeta only)

theorem State.applyGroups_kept {ps : List Part} {s t : State} (a1 a2) (h : Kept ps s t) (hp : partsIn [.axl, .lay, .reg 13] ps = true) : Kept ps s (State.applyGroups t a1 a2) := by
  refine h.lift hp ?_
  clear h hp
  unfold State.applyGroups
  repeat' first
    | with_reducible assumption
    | (extract_lets +onlyGivenNames x; refine Kept.cut x ?_ ?_ <;> first | (intro hx; clear_value x) | (unfold x; clear x))
    | (extract_lets +onlyGivenNames x; subst x)
    | with_reducible apply Kept.ite
    | (simp only [List.all_cons, List.all_nil, Bool.and_true, Bool.and_eq_true]; (repeat' apply And.intro) <;> rfl)
    | exact rfl
    | with_reducible first | apply State.layStatus_kept | apply State.wrs_kept | exact Kept.refl _ _ | apply Kept.foldl
    | ((with_reducible refine Kept.build ?_ ?_ ?_ ?_); rotate_left; exact rfl; exact rfl; exact rfl; fail_if_success split)
    | (intro _; intros; try dsimp -zeta only)

theorem State.applyImage_kept {ps : List Part} {s t : State} (a1) (h : Kept ps s t) (hp : partsIn [.axl, .cnt, .fov, .fsp, .gch, .lay, .sch, .sep, .reg 0, .reg 3, .reg 4, .reg 5, .reg 6, .reg 8, .reg 9, .reg 11, .reg 13, .reg 14, .reg 15, .reg 16, .reg 17, .reg 18, .reg 20, .reg 21] ps = true) : Kept ps s (State.applyImage t a1) := by
  refine h.lift hp ?_
  clear h hp
  unfold State.applyImage
  repeat' first
    | with_reducible assumption
    | (extract_lets +onlyGivenNames x; refine Kept.cut x ?_ ?_ <;> first | (intro hx; clear_value x) | (unfold x; clear x))
    | (extract_lets +onlyGivenNames x; subst x)
    | exact rfl
    | with_reducible first | apply State.applyScheduler_kept | apply State.applyGroups_kept | apply State.applyEvents_kept | apply State.applyNetwork_kept | apply State.applyFailover_kept | apply State.applyStorage_kept | apply State.applyCache_kept | apply State.applyPools_kept | apply State.applyTransport_kept | apply State.applyPower_kept | exact Kept.refl _ _
    | ((with_reducible refine Kept.build ?_ ?_ ?_ ?_); rotate_left; exact rfl; exact rfl; exact rfl; fail_if_success split)
    | split

theorem State.checkFrozen_kept {ps : List Part} {s t : State} (a1) (h : Kept ps s t) (hp : partsIn [.cfg, .evt, .reg 20] ps = true) : Kept ps s (State.checkFrozen t a1) := by
  refine h.lift hp ?_
  clear h hp
  unfold State.checkFrozen
  repeat' first
    | with_reducible assumption
    | (extract_lets +onlyGivenNames x; refine Kept.cut x ?_ ?_ <;> first | (intro hx; clear_value x) | (unfold x; clear x))
    | (extract_lets +onlyGivenNames x; subst x)
    | exact rfl
    | with_reducible first | apply State.violation_kept | exact Kept.refl _ _ | apply Kept.foldl
    | ((with_reducible refine Kept.build ?_ ?_ ?_ ?_); rotate_left; exact rfl; exact rfl; exact rfl; fail_if_success split)
    | (intro _; intros; try dsimp -zeta only)

theorem State.startRoles_kept {ps : List Part} {s t : State} (a1) (h : Kept ps s t) (hp : partsIn [.jnl] ps = true) : Kept ps s (State.startRoles t a1) := by
  refine h.lift hp ?_
  clear h hp
  unfold State.startRoles
  repeat' first
    | with_reducible assumption
    | exact rfl
    | with_reducible first | apply State.modRole_kept | exact Kept.refl _ _ | apply Kept.foldIdx
    | (intro _; intros; try dsimp -zeta only)

theorem State.enterRecovery_kept {ps : List Part} {s t : State} (h : Kept ps s t) (hp : partsIn [.cfg, .cmd, .cph, .deferred, .evt, .fov, .jnl, .lay, .outbox, .pwr, .reg 1, .reg 7, .reg 12, .reg 14, .reg 20] ps = true) : Kept ps s (State.enterRecovery t) := by
  refine h.lift hp ?_
  clear h hp
  unfold State.enterRecovery
  repeat' first
    | with_reducible assumption
    | (extract_lets +onlyGivenNames x; refine Kept.cut x ?_ ?_ <;> first | (intro hx; clear_value x) | (unfold x; clear x))
    | (extract_lets +onlyGivenNames x; subst x)
    | exact rfl
    | with_reducible first | apply State.checkFrozen_kept | apply State.startRoles_kept | apply State.unwrapAll_kept | apply State.requestSet_kept | apply State.jnlStatus_kept | apply State.setDevState_kept | exact Kept.refl _ _ | apply Kept.foldl
    | ((with_reducible refine Kept.build ?_ ?_ ?_ ?_); rotate_left; exact rfl; exact rfl; exact rfl; fail_if_success split)
    | split
    | (intro _; intros; try dsimp -zeta only)

theorem State.bootDone_kept {ps : List Part} {s t : State} (h : Kept ps s t) (hp : partsIn [.cfg, .cmd, .cph, .deferred, .evt, .fov, .jnl, .lay, .outbox, .pwr, .reg 1, .reg 7, .reg 12, .reg 14, .reg 20] ps = true) : Kept ps s (State.bootDone t) := by
  refine h.lift hp ?_
  clear h hp
  unfold State.bootDone
  repeat' first
    | with_reducible assumption
    | (extract_lets +onlyGivenNames x; refine Kept.cut x ?_ ?_ <;> first | (intro hx; clear_value x) | (unfold x; clear x))
    | (extract_lets +onlyGivenNames x; subst x)
    | with_reducible apply Kept.ite
    | exact rfl
    | with_reducible first | apply State.enterRecovery_kept | apply State.setDevState_kept | exact Kept.refl _ _
    | ((with_reducible refine Kept.build ?_ ?_ ?_ ?_); rotate_left; exact rfl; exact rfl; exact rfl; fail_if_success split)

theorem execFspAllocate_kept {ps : List Part} {s t : State} (a1 a2 a3) (h : Kept ps s t) (hp : partsIn [.cnt, .fsp, .outbox, .reg 8, .reg 21] ps = true) : KeptOut ps s (execFspAllocate a1 a2 a3 t) := by
  refine KeptOut.lift h hp ?_
  clear h hp
  unfold execFspAllocate
  repeat' first
    | exact rfl
    | with_reducible first | apply State.emit_kept | apply KeptOut.next | refine State.alloc_kept_eq ‹_› ?_ rfl | exact Kept.refl _ _
    | split

theorem execFspFree_kept {ps : List Part} {s t : State} (a1 a2) (h : Kept ps s t) (hp : partsIn [.evt, .fsp, .outbox, .reg 8, .reg 20] ps = true) : KeptOut ps s (execFspFree a1 a2 t) := by
  refine KeptOut.lift h hp ?_
  clear h hp
  unfold execFspFree
  repeat' first
    | with_reducible apply Kept.ite
    | exact rfl
    | with_reducible first | apply State.decref_kept | apply State.badPointer_kept | apply KeptOut.next | exact Kept.refl _ _
    | split

theorem execFspIncref_kept {ps : List Part} {s t : State} (a1 a2) (h : Kept ps s t) (hp : partsIn [.evt, .fsp, .outbox, .reg 8, .reg 20] ps = true) : KeptOut ps s (execFspIncref a1 a2 t) := by
  refine KeptOut.lift h hp ?_
  clear h hp
  unfold execFspIncref
  repeat' first
    | with_reducible apply Kept.ite
    | exact rfl
    | with_reducible first | apply State.badPointer_kept | apply State.incref_kept | apply KeptOut.next | exact Kept.refl _ _
    | split

theorem execFspCacheRefill_kept {ps : List Part} {s t : State} (a1 a2) (h : Kept ps s t) (hp : partsIn [.evt, .fsp, .reg 8, .reg 20] ps = true) : KeptOut ps s (execFspCacheRefill a1 a2 t) := by
  refine KeptOut.lift h hp ?_
  clear h hp
  unfold execFspCacheRefill
  repeat' first
    | (extract_lets +onlyGivenNames x; subst x)
    | with_reducible apply Kept.ite
    | exact rfl
    | with_reducible first | apply State.bump_kept | apply State.raise_kept | apply State.setPool_kept | apply KeptOut.guard | exact Kept.refl _ _

theorem execFspCacheWriteback_kept {ps : List Part} {s t : State} (a1) (h : Kept ps s t) (hp : partsIn [.fsp] ps = true) : KeptOut ps s (execFspCacheWriteback a1 t) := by
  refine KeptOut.lift h hp ?_
  clear h hp
  unfold execFspCacheWriteback
  repeat' first
    | (extract_lets +onlyGivenNames x; subst x)
    | with_reducible apply Kept.ite
    | exact rfl
    | with_reducible first | apply State.setPool_kept | apply KeptOut.guard | exact Kept.refl _ _

theorem execFspClear_kept {ps : List Part} {s t : State} (h : Kept ps s t) (hp : partsIn [.deferred] ps = true) : KeptOut ps s (execFspClear t) := by
  refine KeptOut.lift h hp ?_
  clear h hp
  unfold execFspClear
  repeat' first
    | with_reducible apply Kept.ite
    | exact rfl
    | with_reducible first | apply State.defer_kept | apply KeptOut.next | exact Kept.refl _ _

theorem State.up_kept {ps : List Part} {s t u : State} (h : Kept ps s t) (k : Kept ps s u) : Kept ps s (State.up t u) := Kept.ite h k

theorem State.acts_kept {ps : List Part} {s t u : State} {a1 a2} (h : Kept ps s t) (k : Kept ps s u) (hp : partsIn [.evt, .reg 20] ps = true) :
    Kept ps s (State.acts t a1 a2 u) := by
  unfold State.acts
  exact State.up_kept h (Kept.ite (State.violation_kept _ _ h hp) k)

theorem State.dropJobs_kept {ps : List Part} {s t : State} (a1 a2) (h : Kept ps s t) (hp : partsIn [.cfg, .cmd, .deferred, .evt, .fov, .idn, .outbox, .pwr, .reg 1, .reg 7, .reg 20] ps = true) : Kept ps s (State.dropJobs t a1 a2) := by
  refine h.lift hp ?_
  clear h hp
  unfold State.dropJobs
  repeat' first
    | with_reducible assumption
    | (extract_lets +onlyGivenNames x; refine Kept.cut x ?_ ?_ <;> first | (intro hx; clear_value x) | (unfold x; clear x))
    | (extract_lets +onlyGivenNames x; subst x)
    | with_reducible apply Kept.ite
    | exact rfl
    | with_reducible first | apply State.setDevState_kept | exact Kept.refl _ _
    | ((with_reducible refine Kept.build ?_ ?_ ?_ ?_); rotate_left; exact rfl; exact rfl; exact rfl; fail_if_success split)

theorem execCoreWatchdogExpiry_kept {ps : List Part} {s t : State} (a1) (h : Kept ps s t) (hp : partsIn [.cfg, .cmd, .cnt, .deferred, .drv, .eth, .evt, .fov, .idn, .jnl, .outbox, .pwr, .sep, .trn, .reg 1, .reg 3, .reg 4, .reg 5, .reg 6, .reg 7, .reg 10, .reg 12, .reg 19, .reg 20, .reg 21] ps = true) : KeptOut ps s (execCoreWatchdogExpiry a1 t) := by
  refine KeptOut.lift h hp ?_
  clear h hp
  unfold execCoreWatchdogExpiry
  repeat' first
    | with_reducible assumption
    | (extract_lets +onlyGivenNames x; subst x)
    | with_reducible apply Kept.ite
    | exact rfl
    | with_reducible first | apply State.dropJobs_kept | apply State.resetCopies_kept | apply State.bootFault_kept | apply State.loseSample_kept | apply State.replyErr_kept | apply State.withdraw_kept | apply State.raise_kept | apply KeptOut.guard | exact Kept.refl _ _ | apply Kept.foldl
    | ((with_reducible refine Kept.build ?_ ?_ ?_ ?_); rotate_left; exact rfl; exact rfl; exact rfl; fail_if_success split)
    | split
    | (intro _; intros; try dsimp -zeta only)

theorem execStagingHoldExpiry_kept {ps : List Part} {s t : State} (a1 a2) (h : Kept ps s t) (hp : partsIn [.cnt, .win, .reg 5, .reg 21] ps = true) : KeptOut ps s (execStagingHoldExpiry a1 a2 t) := by
  refine KeptOut.lift h hp ?_
  clear h hp
  unfold execStagingHoldExpiry
  repeat' first
    | with_reducible assumption
    | (extract_lets +onlyGivenNames x; subst x)
    | exact rfl
    | with_reducible first | apply State.modBlk_kept | apply State.countSpill_kept | apply KeptOut.next | exact Kept.refl _ _ | apply Kept.foldl
    | split
    | (intro _; intros; try dsimp -zeta only)

theorem State.trnStatus_kept {ps : List Part} {s t : State} (h : Kept ps s t) (hp : partsIn [.reg 0] ps = true) : Kept ps s (State.trnStatus t) := by
  refine h.lift hp ?_
  clear h hp
  unfold State.trnStatus
  repeat' first
    | with_reducible assumption
    | (extract_lets +onlyGivenNames x; refine Kept.cut x ?_ ?_ <;> first | (intro hx; clear_value x) | (unfold x; clear x))
    | exact rfl
    | with_reducible first | apply State.wr_kept | exact Kept.refl _ _

theorem State.setDisc_kept {ps : List Part} {s t : State} (a1) (h : Kept ps s t) (hp : partsIn [.evt, .trn, .reg 0, .reg 20] ps = true) : Kept ps s (State.setDisc t a1) := by
  refine h.lift hp ?_
  clear h hp
  unfold State.setDisc
  repeat' first
    | (extract_lets +onlyGivenNames x; subst x)
    | with_reducible apply Kept.ite
    | exact rfl
    | with_reducible first | apply State.raise_kept | apply State.trnStatus_kept | exact Kept.refl _ _
    | ((with_reducible refine Kept.build ?_ ?_ ?_ ?_); rotate_left; exact rfl; exact rfl; exact rfl; fail_if_success split)

theorem State.measured_kept {ps : List Part} {s t : State} (a1) (h : Kept ps s t) (hp : partsIn [.deferred, .evt, .trn, .reg 0, .reg 20] ps = true) : Kept ps s (State.measured t a1) := by
  refine h.lift hp ?_
  clear h hp
  unfold State.measured
  repeat' first
    | with_reducible assumption
    | (extract_lets +onlyGivenNames x; refine Kept.cut x ?_ ?_ <;> first | (intro hx; clear_value x) | (unfold x; clear x))
    | (extract_lets +onlyGivenNames x; subst x)
    | with_reducible apply Kept.ite
    | exact rfl
    | with_reducible first | apply State.setDisc_kept | apply State.raise_kept | apply State.defer_kept | apply State.trnStatus_kept | exact Kept.refl _ _
    | ((with_reducible refine Kept.build ?_ ?_ ?_ ?_); rotate_left; exact rfl; exact rfl; exact rfl; fail_if_success split)

theorem execPtpSyncRx_kept {ps : List Part} {s t : State} (a1 a2 a3 a4 a5) (h : Kept ps s t) (hp : partsIn [.evt, .outbox, .trn, .reg 0, .reg 20] ps = true) : KeptOut ps s (execPtpSyncRx a1 a2 a3 a4 a5 t) := by
  refine KeptOut.lift h hp ?_
  clear h hp
  unfold execPtpSyncRx
  repeat' first
    | (extract_lets +onlyGivenNames x; subst x)
    | with_reducible apply Kept.ite
    | exact rfl
    | with_reducible first | apply State.setDisc_kept | apply State.emit_kept | apply KeptOut.guard | exact Kept.refl _ _
    | ((with_reducible refine Kept.build ?_ ?_ ?_ ?_); rotate_left; exact rfl; exact rfl; exact rfl; fail_if_success split)
    | split

theorem execPtpFollowUpRx_kept {ps : List Part} {s t : State} (a1 a2 a3 a4) (h : Kept ps s t) (hp : partsIn [.trn] ps = true) : KeptOut ps s (execPtpFollowUpRx a1 a2 a3 a4 t) := by
  refine KeptOut.lift h hp ?_
  clear h hp
  unfold execPtpFollowUpRx
  repeat' first
    | (extract_lets +onlyGivenNames x; subst x)
    | with_reducible first | apply Kept.ite | apply KeptOut.guard | exact Kept.refl _ _
    | ((with_reducible refine Kept.build ?_ ?_ ?_ ?_); rotate_left; exact rfl; exact rfl; exact rfl; fail_if_success split)
    | split

theorem execPtpDelayRespRx_kept {ps : List Part} {s t : State} (a1 a2 a3 a4 a5) (h : Kept ps s t) (hp : partsIn [.deferred, .evt, .trn, .reg 0, .reg 20] ps = true) : KeptOut ps s (execPtpDelayRespRx a1 a2 a3 a4 a5 t) := by
  refine KeptOut.lift h hp ?_
  clear h hp
  unfold execPtpDelayRespRx
  repeat' first
    | (extract_lets +onlyGivenNames x; subst x)
    | with_reducible apply Kept.ite
    | exact rfl
    | with_reducible first | apply State.measured_kept | apply KeptOut.guard | exact Kept.refl _ _
    | ((with_reducible refine Kept.build ?_ ?_ ?_ ?_); rotate_left; exact rfl; exact rfl; exact rfl; fail_if_success split)
    | split

theorem execPtpAnnounceRx_kept {ps : List Part} {s t : State} (a1 a2) (h : Kept ps s t) (hp : partsIn [.trn] ps = true) : KeptOut ps s (execPtpAnnounceRx a1 a2 t) := by
  refine KeptOut.lift h hp ?_
  clear h hp
  unfold execPtpAnnounceRx
  repeat' first
    | (extract_lets +onlyGivenNames x; subst x)
    | with_reducible first | apply Kept.ite | apply KeptOut.guard | exact Kept.refl _ _
    | ((with_reducible refine Kept.build ?_ ?_ ?_ ?_); rotate_left; exact rfl; exact rfl; exact rfl; fail_if_success split)

theorem execAcquireTimeoutExpiry_kept {ps : List Part} {s t : State} (h : Kept ps s t) (hp : partsIn [.cfg, .cmd, .cph, .deferred, .evt, .fov, .jnl, .lay, .outbox, .pwr, .trn, .reg 0, .reg 1, .reg 7, .reg 12, .reg 14, .reg 20] ps = true) : KeptOut ps s (execAcquireTimeoutExpiry t) := by
  refine KeptOut.lift h hp ?_
  clear h hp
  unfold execAcquireTimeoutExpiry
  repeat' first
    | with_reducible assumption
    | (extract_lets +onlyGivenNames x; refine Kept.cut x ?_ ?_ <;> first | (intro hx; clear_value x) | (unfold x; clear x))
    | (extract_lets +onlyGivenNames x; subst x)
    | with_reducible apply Kept.ite
    | exact rfl
    | with_reducible first | apply State.raise_kept | apply State.trnStatus_kept | apply State.bootDone_kept | exact Kept.refl _ _
    | ((with_reducible refine Kept.build ?_ ?_ ?_ ?_); rotate_left; exact rfl; exact rfl; exact rfl; fail_if_success split)

theorem execSyncLossTimeout_kept {ps : List Part} {s t : State} (h : Kept ps s t) (hp : partsIn [.evt, .trn, .reg 0, .reg 20] ps = true) : KeptOut ps s (execSyncLossTimeout t) := by
  refine KeptOut.lift h hp ?_
  clear h hp
  unfold execSyncLossTimeout
  repeat' first
    | (extract_lets +onlyGivenNames x; subst x)
    | with_reducible apply Kept.ite
    | exact rfl
    | with_reducible first | apply State.setDisc_kept | apply KeptOut.next | exact Kept.refl _ _
    | ((with_reducible refine Kept.build ?_ ?_ ?_ ?_); rotate_left; exact rfl; exact rfl; exact rfl; fail_if_success split)

theorem execTrnReload_kept {ps : List Part} {s t : State} (a1) (h : Kept ps s t) (hp : partsIn [.evt, .trn, .reg 0, .reg 20] ps = true) : KeptOut ps s (execTrnReload a1 t) := by
  refine KeptOut.lift h hp ?_
  clear h hp
  unfold execTrnReload
  repeat' first
    | (extract_lets +onlyGivenNames x; subst x)
    | with_reducible apply Kept.ite
    | exact rfl
    | with_reducible first | apply State.wr_kept | apply State.violation_kept | apply State.up_kept | apply KeptOut.next | exact Kept.refl _ _
    | ((with_reducible refine Kept.build ?_ ?_ ?_ ?_); rotate_left; exact rfl; exact rfl; exact rfl; fail_if_success split)

theorem execReloadTimeoutExpiry_kept {ps : List Part} {s t : State} (h : Kept ps s t) (hp : partsIn [.trn, .reg 0] ps = true) : KeptOut ps s (execReloadTimeoutExpiry t) := by
  refine KeptOut.lift h hp ?_
  clear h hp
  unfold execReloadTimeoutExpiry
  repeat' first
    | (extract_lets +onlyGivenNames x; subst x)
    | with_reducible apply Kept.ite
    | exact rfl
    | with_reducible first | apply State.wr_kept | apply KeptOut.next | exact Kept.refl _ _
    | ((with_reducible refine Kept.build ?_ ?_ ?_ ?_); rotate_left; exact rfl; exact rfl; exact rfl; fail_if_success split)

theorem State.shadowPut_kept {ps : List Part} {s t : State} (a1 a2 a3) (h : Kept ps s t) (hp : partsIn [.gch, .sch, .win, .xpt, .reg 6] ps = true) : Kept ps s (State.shadowPut t a1 a2 a3) := by
  refine h.lift hp ?_
  clear h hp
  unfold State.shadowPut
  repeat' first
    | (extract_lets +onlyGivenNames x; subst x)
    | with_reducible apply Kept.ite
    | exact rfl
    | with_reducible first | apply State.wr_kept | exact Kept.refl _ _
    | ((with_reducible refine Kept.build ?_ ?_ ?_ ?_); rotate_left; exact rfl; exact rfl; exact rfl; fail_if_success split)
    | split

theorem State.coreOnly_kept {ps : List Part} {s t u : State} {a1 a2 a3} (h : Kept ps s t) (k : Kept ps s u) (hp : partsIn [.evt, .reg 20] ps = true) :
    Kept ps s (State.coreOnly t a1 a2 a3 u) := by
  unfold State.coreOnly
  exact Kept.ite (State.violation_kept _ _ h hp) k

theorem execShadowWrite_kept {ps : List Part} {s t : State} (a1 a2 a3 a4) (h : Kept ps s t) (hp : partsIn [.evt, .gch, .sch, .win, .xpt, .reg 4, .reg 5, .reg 6, .reg 9, .reg 20] ps = true) : KeptOut ps s (execShadowWrite a1 a2 a3 a4 t) := by
  refine KeptOut.lift h hp ?_
  clear h hp
  unfold execShadowWrite
  repeat' first
    | with_reducible apply Kept.ite
    | exact rfl
    | with_reducible first | apply State.lateWrite_kept | apply State.shadowPut_kept | apply State.acts_kept | apply State.coreOnly_kept | apply KeptOut.guard | exact Kept.refl _ _

theorem execBankCommit_kept {ps : List Part} {s t : State} (a1 a2) (h : Kept ps s t) (hp : partsIn [.evt, .reg 4, .reg 5, .reg 6, .reg 9, .reg 20] ps = true) : KeptOut ps s (execBankCommit a1 a2 t) := by
  refine KeptOut.lift h hp ?_
  clear h hp
  unfold execBankCommit
  repeat' first
    | exact rfl
    | with_reducible first | apply State.bankCommit_kept | apply State.coreOnly_kept | apply State.up_kept | apply KeptOut.guard | exact Kept.refl _ _

theorem execBankAbort_kept {ps : List Part} {s t : State} (a1 a2) (h : Kept ps s t) (hp : partsIn [.evt, .reg 4, .reg 5, .reg 6, .reg 9, .reg 20] ps = true) : KeptOut ps s (execBankAbort a1 a2 t) := by
  refine KeptOut.lift h hp ?_
  clear h hp
  unfold execBankAbort
  repeat' first
    | exact rfl
    | with_reducible first | apply State.coreOnly_kept | apply State.bankAbort_kept | apply State.up_kept | apply KeptOut.guard | exact Kept.refl _ _

theorem State.startLink_kept {ps : List Part} {s t : State} (a1) (h : Kept ps s t) (hp : partsIn [.eth, .reg 3] ps = true) : Kept ps s (State.startLink t a1) := by
  refine h.lift hp ?_
  clear h hp
  unfold State.startLink
  repeat' first
    | with_reducible assumption
    | (extract_lets +onlyGivenNames x; refine Kept.cut x ?_ ?_ <;> first | (intro hx; clear_value x) | (unfold x; clear x))
    | (extract_lets +onlyGivenNames x; subst x)
    | exact rfl
    | with_reducible first | apply State.wr_kept | exact Kept.refl _ _
    | ((with_reducible refine Kept.build ?_ ?_ ?_ ?_); rotate_left; exact rfl; exact rfl; exact rfl; fail_if_success split)

theorem State.startLinks_kept {ps : List Part} {s t : State} (h : Kept ps s t) (hp : partsIn [.eth, .reg 3] ps = true) : Kept ps s (State.startLinks t) := by
  refine h.lift hp ?_
  clear h hp
  unfold State.startLinks
  repeat' first
    | with_reducible first | assumption | apply Kept.ite
    | exact rfl
    | with_reducible first | apply State.startLink_kept | exact Kept.refl _ _ | apply Kept.foldIdx
    | (intro _; intros; try dsimp -zeta only)

theorem State.openMailbox_kept {ps : List Part} {s t : State} (h : Kept ps s t) (hp : partsIn [.cmd, .reg 19] ps = true) : Kept ps s (State.openMailbox t) := by
  refine h.lift hp ?_
  clear h hp
  unfold State.openMailbox
  repeat' first
    | exact rfl
    | with_reducible first | apply State.maskVectors_kept | apply State.setCtrl_kept | exact Kept.refl _ _

theorem execSysResetAssert_kept {ps : List Part} {s t : State} (a1) (h : Kept ps s t) (hp : partsIn [.axl, .cfg, .cmd, .cmp, .cnt, .cph, .deferred, .dram, .drv, .eth, .evt, .fov, .free, .fsp, .gch, .idn, .jnl, .lay, .pwr, .regs, .sal, .sch, .sep, .trn, .win, .xpt] ps = true) : KeptOut ps s (execSysResetAssert a1 t) := by
  refine KeptOut.lift h hp ?_
  clear h hp
  unfold execSysResetAssert
  repeat' first
    | with_reducible assumption
    | (extract_lets +onlyGivenNames x; refine Kept.cut x ?_ ?_ <;> first | (intro hx; clear_value x) | (unfold x; clear x))
    | (extract_lets +onlyGivenNames x; subst x)
    | with_reducible apply Kept.ite
    | exact rfl
    | with_reducible first | apply State.partReset_kept | apply State.takeFree_kept | exact Kept.refl _ _

theorem execSysResetRelease_kept {ps : List Part} {s t : State} (a1) (h : Kept ps s t) (hp : partsIn [.cfg, .cmd, .deferred, .drv, .eth, .evt, .fov, .idn, .jnl, .outbox, .pwr, .sep, .trn, .reg 1, .reg 2, .reg 3, .reg 7, .reg 18, .reg 19, .reg 20] ps = true) : KeptOut ps s (execSysResetRelease a1 t) := by
  refine KeptOut.lift h hp ?_
  clear h hp
  unfold execSysResetRelease
  repeat' first
    | with_reducible assumption
    | (extract_lets +onlyGivenNames x; refine Kept.cut x ?_ ?_ <;> first | (intro hx; clear_value x) | (unfold x; clear x))
    | (extract_lets +onlyGivenNames x; subst x)
    | with_reducible apply Kept.ite
    | exact rfl
    | with_reducible first | apply State.bootFault_kept | apply State.wr_kept | apply State.openMailbox_kept | exact Kept.refl _ _
    | ((with_reducible refine Kept.build ?_ ?_ ?_ ?_); rotate_left; exact rfl; exact rfl; exact rfl; fail_if_success split)

theorem State.modCopy_kept {ps : List Part} {s t : State} (a1 a2) (h : Kept ps s t) (hp : partsIn [.cfg] ps = true) : Kept ps s (State.modCopy t a1 a2) := by
  refine h.lift hp ?_
  clear h hp
  unfold State.modCopy
  repeat' first
    | (extract_lets +onlyGivenNames x; subst x)
    | with_reducible exact Kept.refl _ _
    | ((with_reducible refine Kept.build ?_ ?_ ?_ ?_); rotate_left; exact rfl; exact rfl; exact rfl; fail_if_success split)

theorem State.copyFailed_kept {ps : List Part} {s t : State} (a1 a2 a3) (h : Kept ps s t) (hp : partsIn [.cfg, .cmd, .deferred, .drv, .eth, .evt, .fov, .jnl, .outbox, .pwr, .sep, .trn, .reg 1, .reg 3, .reg 7, .reg 20] ps = true) : Kept ps s (State.copyFailed t a1 a2 a3) := by
  refine h.lift hp ?_
  clear h hp
  unfold State.copyFailed
  repeat' first
    | with_reducible assumption
    | (extract_lets +onlyGivenNames x; refine Kept.cut x ?_ ?_ <;> first | (intro hx; clear_value x) | (unfold x; clear x))
    | (extract_lets +onlyGivenNames x; subst x)
    | with_reducible apply Kept.ite
    | exact rfl
    | with_reducible first | apply State.bootFault_kept | apply State.wr_kept | apply State.raise_kept | apply State.setFault_kept | exact Kept.refl _ _
    | ((with_reducible refine Kept.build ?_ ?_ ?_ ?_); rotate_left; exact rfl; exact rfl; exact rfl; fail_if_success split)

theorem execDramTrainingDone_kept {ps : List Part} {s t : State} (a1 a2) (h : Kept ps s t) (hp : partsIn [.cfg, .cmd, .deferred, .drv, .eth, .evt, .fov, .jnl, .outbox, .pwr, .sep, .trn, .reg 1, .reg 3, .reg 7, .reg 20] ps = true) : KeptOut ps s (execDramTrainingDone a1 a2 t) := by
  refine KeptOut.lift h hp ?_
  clear h hp
  unfold execDramTrainingDone
  repeat' first
    | with_reducible assumption
    | (extract_lets +onlyGivenNames x; refine Kept.cut x ?_ ?_ <;> first | (intro hx; clear_value x) | (unfold x; clear x))
    | (extract_lets +onlyGivenNames x; subst x)
    | with_reducible apply Kept.ite
    | exact rfl
    | with_reducible first | apply State.bootFault_kept | apply State.wr_kept | apply KeptOut.next | exact Kept.refl _ _
    | ((with_reducible refine Kept.build ?_ ?_ ?_ ?_); rotate_left; exact rfl; exact rfl; exact rfl; fail_if_success split)
    | split

theorem execSpiTransactionTimeout_kept {ps : List Part} {s t : State} (a1) (h : Kept ps s t) (hp : partsIn [.cfg, .cmd, .deferred, .drv, .eth, .evt, .fov, .jnl, .outbox, .pwr, .sep, .trn, .reg 1, .reg 3, .reg 7, .reg 20] ps = true) : KeptOut ps s (execSpiTransactionTimeout a1 t) := by
  refine KeptOut.lift h hp ?_
  clear h hp
  unfold execSpiTransactionTimeout
  repeat' first
    | with_reducible apply Kept.ite
    | exact rfl
    | with_reducible first | apply State.copyFailed_kept | apply KeptOut.guard | exact Kept.refl _ _
    | split

theorem State.wrDigest_kept {ps : List Part} {s t : State} (a1) (h : Kept ps s t) (hp : partsIn [.reg 1] ps = true) : Kept ps s (State.wrDigest t a1) := by
  refine h.lift hp ?_
  clear h hp
  unfold State.wrDigest
  repeat' first
    | with_reducible assumption
    | exact rfl
    | with_reducible first | apply State.wr_kept | exact Kept.refl _ _ | apply Kept.foldIdx
    | (intro _; intros; try dsimp -zeta only)

theorem State.setRunning_kept {ps : List Part} {s t : State} (a1 a2) (h : Kept ps s t) (hp : partsIn [.cfg, .sep, .reg 1] ps = true) : Kept ps s (State.setRunning t a1 a2) := by
  refine h.lift hp ?_
  clear h hp
  unfold State.setRunning
  repeat' first
    | with_reducible assumption
    | (extract_lets +onlyGivenNames x; refine Kept.cut x ?_ ?_ <;> first | (intro hx; clear_value x) | (unfold x; clear x))
    | (extract_lets +onlyGivenNames x; subst x)
    | exact rfl
    | with_reducible first | apply State.wrDigest_kept | apply State.wr_kept | apply State.sepStart_kept | exact Kept.refl _ _
    | ((with_reducible refine Kept.build ?_ ?_ ?_ ?_); rotate_left; exact rfl; exact rfl; exact rfl; fail_if_success split)
    | split

theorem execCopyReadDone_kept {ps : List Part} {s t : State} (h : Kept ps s t) (hp : partsIn [.cfg, .cmd, .deferred, .drv, .eth, .evt, .fov, .jnl, .outbox, .pwr, .sep, .trn, .reg 1, .reg 3, .reg 7, .reg 20] ps = true) : KeptOut ps s (execCopyReadDone t) := by
  refine KeptOut.lift h hp ?_
  clear h hp
  unfold execCopyReadDone
  repeat' first
    | with_reducible assumption
    | (extract_lets +onlyGivenNames x; refine Kept.cut x ?_ ?_ <;> first | (intro hx; clear_value x) | (unfold x; clear x))
    | (extract_lets +onlyGivenNames x; subst x)
    | with_reducible apply Kept.ite
    | exact rfl
    | with_reducible first | apply State.bootFault_kept | apply State.raise_kept | apply State.copyFailed_kept | apply State.setRunning_kept | apply KeptOut.next | exact Kept.refl _ _ | apply Kept.foldl
    | ((with_reducible refine Kept.build ?_ ?_ ?_ ?_); rotate_left; exact rfl; exact rfl; exact rfl; fail_if_success split)
    | split
    | (intro _; intros; try dsimp -zeta only)

theorem execFirmwareStarted_kept {ps : List Part} {s t : State} (h : Kept ps s t) (hp : partsIn [.axl, .cfg, .cnt, .eth, .fov, .fsp, .gch, .lay, .sch, .sep, .trn, .reg 0, .reg 1, .reg 3, .reg 4, .reg 5, .reg 6, .reg 8, .reg 9, .reg 11, .reg 13, .reg 14, .reg 15, .reg 16, .reg 17, .reg 18, .reg 20, .reg 21] ps = true) : KeptOut ps s (execFirmwareStarted t) := by
  refine KeptOut.lift h hp ?_
  clear h hp
  unfold execFirmwareStarted
  repeat' first
    | with_reducible assumption
    | (extract_lets +onlyGivenNames x; refine Kept.cut x ?_ ?_ <;> first | (intro hx; clear_value x) | (unfold x; clear x))
    | (extract_lets +onlyGivenNames x; subst x)
    | exact rfl
    | with_reducible first | apply State.startLinks_kept | apply State.wr_kept | apply State.applyImage_kept | apply KeptOut.next | exact Kept.refl _ _
    | ((with_reducible refine Kept.build ?_ ?_ ?_ ?_); rotate_left; exact rfl; exact rfl; exact rfl; fail_if_success split)
    | split

theorem execCfgReboot_kept {ps : List Part} {s t : State} (a1) (h : Kept ps s t) (hp : partsIn [.axl, .cfg, .cmd, .cmp, .cnt, .cph, .deferred, .dram, .drv, .eth, .evt, .fov, .fsp, .gch, .idn, .jnl, .lay, .pwr, .regs, .sal, .sch, .sep, .trn, .win, .xpt] ps = true) : KeptOut ps s (execCfgReboot a1 t) := by
  refine KeptOut.lift h hp ?_
  clear h hp
  unfold execCfgReboot
  repeat' first
    | with_reducible apply Kept.ite
    | exact rfl
    | with_reducible first | apply State.partReset_kept | apply State.violation_kept | apply State.up_kept | apply KeptOut.next | exact Kept.refl _ _

theorem State.clearKeys_kept {ps : List Part} {s t : State} (h : Kept ps s t) (hp : partsIn [.cph, .idn, .reg 2, .reg 12] ps = true) : Kept ps s (State.clearKeys t) := by
  refine h.lift hp ?_
  clear h hp
  unfold State.clearKeys
  repeat' first
    | with_reducible assumption
    | (extract_lets +onlyGivenNames x; refine Kept.cut x ?_ ?_ <;> first | (intro hx; clear_value x) | (unfold x; clear x))
    | (extract_lets +onlyGivenNames x; subst x)
    | exact rfl
    | with_reducible first | apply State.keyStatus_kept | apply State.wr_kept | exact Kept.refl _ _ | apply Kept.foldIdx
    | ((with_reducible refine Kept.build ?_ ?_ ?_ ?_); rotate_left; exact rfl; exact rfl; exact rfl; fail_if_success split)
    | (intro _; intros; try dsimp -zeta only)

theorem State.tampered_kept {ps : List Part} {s t : State} (a1) (h : Kept ps s t) (hp : partsIn [.axl, .cfg, .cmd, .cmp, .cnt, .cph, .deferred, .drv, .eth, .evt, .fov, .fsp, .idn, .jnl, .lay, .outbox, .pwr, .sep, .trn, .win, .reg 1, .reg 2, .reg 3, .reg 7, .reg 12, .reg 18, .reg 19, .reg 20, .reg 21] ps = true) : Kept ps s (State.tampered t a1) := by
  refine h.lift hp ?_
  clear h hp
  unfold State.tampered
  repeat' first
    | with_reducible assumption
    | (extract_lets +onlyGivenNames x; refine Kept.cut x ?_ ?_ <;> first | (intro hx; clear_value x) | (unfold x; clear x))
    | (extract_lets +onlyGivenNames x; subst x)
    | with_reducible apply Kept.ite
    | exact rfl
    | with_reducible first | apply State.enterSafeHold_kept | apply State.depose_kept | apply State.abandonActivation_kept | apply State.wr_kept | apply State.raise_kept | apply State.clearKeys_kept | exact Kept.refl _ _
    | ((with_reducible refine Kept.build ?_ ?_ ?_ ?_); rotate_left; exact rfl; exact rfl; exact rfl; fail_if_success split)

theorem execTamperEvent_kept {ps : List Part} {s t : State} (a1) (h : Kept ps s t) (hp : partsIn [.axl, .cfg, .cmd, .cmp, .cnt, .cph, .deferred, .drv, .eth, .evt, .fov, .fsp, .idn, .jnl, .lay, .outbox, .pwr, .sep, .trn, .win, .reg 1, .reg 2, .reg 3, .reg 7, .reg 12, .reg 18, .reg 19, .reg 20, .reg 21] ps = true) : KeptOut ps s (execTamperEvent a1 t) := by
  refine KeptOut.lift h hp ?_
  clear h hp
  unfold execTamperEvent
  repeat' first
    | exact rfl
    | with_reducible first | apply State.tampered_kept | apply State.up_kept | apply KeptOut.next | exact Kept.refl _ _

theorem execBrownOut_kept {ps : List Part} {s t : State} (a1 a2 a3) (h : Kept ps s t) (hp : partsIn [.axl, .cfg, .cmd, .cmp, .cnt, .cph, .deferred, .dram, .drv, .eth, .evt, .fov, .fsp, .gch, .idn, .jnl, .lay, .outbox, .pwr, .regs, .sal, .sch, .sep, .trn, .win, .xpt] ps = true) : KeptOut ps s (execBrownOut a1 a2 a3 t) := by
  refine KeptOut.lift h hp ?_
  clear h hp
  unfold execBrownOut
  repeat' first
    | with_reducible apply Kept.ite
    | exact rfl
    | with_reducible first | apply State.partReset_kept | apply State.tampered_kept | apply State.up_kept | apply KeptOut.guard | exact Kept.refl _ _

theorem State.asyncNotice_kept {ps : List Part} {s t : State} (a1 a2 a3) (h : Kept ps s t) (hp : partsIn [.cmd, .outbox] ps = true) : Kept ps s (State.asyncNotice t a1 a2 a3) := by
  refine h.lift hp ?_
  clear h hp
  unfold State.asyncNotice
  repeat' first
    | with_reducible first | assumption | apply Kept.ite
    | exact rfl
    | with_reducible first | apply State.modCtrl_kept | apply State.emit_kept | exact Kept.refl _ _ | apply Kept.foldl
    | split
    | (intro _; intros; try dsimp -zeta only)

theorem State.judgeTemperature_kept {ps : List Part} {s t : State} (a1) (h : Kept ps s t) (hp : partsIn [.cfg, .cmd, .evt, .reg 20] ps = true) : Kept ps s (State.judgeTemperature t a1) := by
  refine h.lift hp ?_
  clear h hp
  unfold State.judgeTemperature
  repeat' first
    | with_reducible assumption
    | (extract_lets +onlyGivenNames x; refine Kept.cut x ?_ ?_ <;> first | (intro hx; clear_value x) | (unfold x; clear x))
    | (extract_lets +onlyGivenNames x; subst x)
    | with_reducible apply Kept.ite
    | exact rfl
    | with_reducible first | apply State.raise_kept | exact Kept.refl _ _
    | ((with_reducible refine Kept.build ?_ ?_ ?_ ?_); rotate_left; exact rfl; exact rfl; exact rfl; fail_if_success split)

theorem execTemperatureSample_kept {ps : List Part} {s t : State} (a1 a2 a3) (h : Kept ps s t) (hp : partsIn [.axl, .cfg, .cmd, .cmp, .cnt, .cph, .deferred, .dram, .drv, .eth, .evt, .fov, .fsp, .gch, .idn, .jnl, .lay, .outbox, .pwr, .regs, .sal, .sch, .sep, .trn, .win, .xpt] ps = true) : KeptOut ps s (execTemperatureSample a1 a2 a3 t) := by
  refine KeptOut.lift h hp ?_
  clear h hp
  unfold execTemperatureSample
  repeat' first
    | (extract_lets +onlyGivenNames x; subst x)
    | with_reducible apply Kept.ite
    | exact rfl
    | with_reducible first | apply State.partReset_kept | apply State.emit_kept | apply State.judgeTemperature_kept | apply State.up_kept | apply KeptOut.next | exact Kept.refl _ _
    | ((with_reducible refine Kept.build ?_ ?_ ?_ ?_); rotate_left; exact rfl; exact rfl; exact rfl; fail_if_success split)

theorem execServiceRequest_kept {ps : List Part} {s t : State} (a1 a2) (h : Kept ps s t) (hp : partsIn [.cfg, .cmd, .cnt, .cph, .deferred, .evt, .fov, .jnl, .lay, .outbox, .pwr, .sep, .reg 1, .reg 7, .reg 12, .reg 14, .reg 19, .reg 20, .reg 21] ps = true) : KeptOut ps s (execServiceRequest a1 a2 t) := by
  refine KeptOut.lift h hp ?_
  clear h hp
  unfold execServiceRequest
  repeat' first
    | with_reducible first | assumption | apply Kept.ite
    | exact rfl
    | with_reducible first | apply State.replyOk_kept | apply State.enterRecovery_kept | apply State.replyErr_kept | apply State.admin_kept | apply KeptOut.next | exact Kept.refl _ _
    | (intro _; intros; try dsimp -zeta only)

theorem execReleaseRequest_kept {ps : List Part} {s t : State} (a1 a2) (h : Kept ps s t) (hp : partsIn [.axl, .cfg, .cnt, .deferred, .evt, .gch, .jnl, .lay, .outbox, .sal, .sep, .reg 9, .reg 13, .reg 14, .reg 16, .reg 19, .reg 20, .reg 21] ps = true) : KeptOut ps s (execReleaseRequest a1 a2 t) := by
  refine KeptOut.lift h hp ?_
  clear h hp
  unfold execReleaseRequest
  repeat' first
    | with_reducible assumption
    | (extract_lets +onlyGivenNames x; refine Kept.cut x ?_ ?_ <;> first | (intro hx; clear_value x) | (unfold x; clear x))
    | (extract_lets +onlyGivenNames x; subst x)
    | with_reducible apply Kept.ite
    | exact rfl
    | with_reducible first | apply State.replyErr_kept | apply State.padStripe_kept | apply State.defer_kept | apply State.checkStripe_kept | apply State.admin_kept | apply KeptOut.next | exact Kept.refl _ _ | apply Kept.foldl
    | ((with_reducible refine Kept.build ?_ ?_ ?_ ?_); rotate_left; exact rfl; exact rfl; exact rfl; fail_if_success split)
    | split
    | (intro _; intros; try dsimp -zeta only)

theorem execReleaseDrainDone_kept {ps : List Part} {s t : State} (h : Kept ps s t) (hp : partsIn [.axl, .cfg, .cmd, .cmp, .cnt, .cph, .deferred, .drv, .evt, .fov, .fsp, .jnl, .lay, .outbox, .pwr, .sep, .win, .reg 1, .reg 7, .reg 18, .reg 19, .reg 20, .reg 21] ps = true) : KeptOut ps s (execReleaseDrainDone t) := by
  refine KeptOut.lift h hp ?_
  clear h hp
  unfold execReleaseDrainDone
  repeat' first
    | with_reducible assumption
    | (extract_lets +onlyGivenNames x; refine Kept.cut x ?_ ?_ <;> first | (intro hx; clear_value x) | (unfold x; clear x))
    | (extract_lets +onlyGivenNames x; subst x)
    | with_reducible apply Kept.ite
    | exact rfl
    | with_reducible first | apply State.depose_kept | apply State.replyOk_kept | apply State.setDevState_kept | exact Kept.refl _ _
    | ((with_reducible refine Kept.build ?_ ?_ ?_ ?_); rotate_left; exact rfl; exact rfl; exact rfl; fail_if_success split)
    | split

theorem execFirmwareImageDownload_kept {ps : List Part} {s t : State} (a1 a2 a3 a4 a5 a6) (h : Kept ps s t) (hp : partsIn [.cfg, .cnt, .deferred, .evt, .outbox, .sep, .reg 19, .reg 21] ps = true) : KeptOut ps s (execFirmwareImageDownload a1 a2 a3 a4 a5 a6 t) := by
  refine KeptOut.lift h hp ?_
  clear h hp
  unfold execFirmwareImageDownload
  repeat' first
    | with_reducible assumption
    | (extract_lets +onlyGivenNames x; refine Kept.cut x ?_ ?_ <;> first | (intro hx; clear_value x) | (unfold x; clear x))
    | (extract_lets +onlyGivenNames x; subst x)
    | with_reducible apply Kept.ite
    | exact rfl
    | with_reducible first | apply State.replyOk_kept | apply State.replyErr_kept | apply State.modCopy_kept | apply State.admin_kept | apply State.emit_kept | apply KeptOut.next | exact Kept.refl _ _
    | ((with_reducible refine Kept.build ?_ ?_ ?_ ?_); rotate_left; exact rfl; exact rfl; exact rfl; fail_if_success split)
    | split
    | (intro _; intros; try dsimp -zeta only)

theorem State.eraseHeader_kept {ps : List Part} {s t : State} (a1) (h : Kept ps s t) (hp : partsIn [.cfg, .outbox] ps = true) : Kept ps s (State.eraseHeader t a1) := by
  refine h.lift hp ?_
  clear h hp
  unfold State.eraseHeader
  repeat' first
    | exact rfl
    | with_reducible first | apply State.modCopy_kept | apply State.emit_kept | exact Kept.refl _ _

theorem State.startCommit_kept {ps : List Part} {s t : State} (a1 a2 a3 a4) (h : Kept ps s t) (hp : partsIn [.cfg, .cnt, .evt, .outbox, .sep, .reg 19, .reg 21] ps = true) : Kept ps s (State.startCommit t a1 a2 a3 a4) := by
  refine h.lift hp ?_
  clear h hp
  unfold State.startCommit
  repeat' first
    | with_reducible assumption
    | (extract_lets +onlyGivenNames x; refine Kept.cut x ?_ ?_ <;> first | (intro hx; clear_value x) | (unfold x; clear x))
    | (extract_lets +onlyGivenNames x; subst x)
    | with_reducible apply Kept.ite
    | exact rfl
    | with_reducible first | apply State.replyErr_kept | apply State.startTask_kept | exact Kept.refl _ _
    | ((with_reducible refine Kept.build ?_ ?_ ?_ ?_); rotate_left; exact rfl; exact rfl; exact rfl; fail_if_success split)
    | split

theorem execFirmwareCommitStore_kept {ps : List Part} {s t : State} (a1 a2 a3) (h : Kept ps s t) (hp : partsIn [.cfg, .cnt, .deferred, .evt, .outbox, .sep, .reg 19, .reg 21] ps = true) : KeptOut ps s (execFirmwareCommitStore a1 a2 a3 t) := by
  refine KeptOut.lift h hp ?_
  clear h hp
  unfold execFirmwareCommitStore
  repeat' first
    | with_reducible assumption
    | exact rfl
    | with_reducible first | apply State.startCommit_kept | apply State.admin_kept | apply KeptOut.next | exact Kept.refl _ _
    | (intro _; intros; try dsimp -zeta only)

theorem execFirmwareCommitAtReset_kept {ps : List Part} {s t : State} (a1 a2 a3 a4) (h : Kept ps s t) (hp : partsIn [.cfg, .cnt, .deferred, .evt, .outbox, .sep, .reg 19, .reg 21] ps = true) : KeptOut ps s (execFirmwareCommitAtReset a1 a2 a3 a4 t) := by
  refine KeptOut.lift h hp ?_
  clear h hp
  unfold execFirmwareCommitAtReset
  repeat' first
    | with_reducible assumption
    | exact rfl
    | with_reducible first | apply State.replyErr_kept | apply State.startCommit_kept | apply State.admin_kept | apply KeptOut.next | exact Kept.refl _ _
    | split
    | (intro _; intros; try dsimp -zeta only)

theorem execFirmwareCommitActivate_kept {ps : List Part} {s t : State} (a1 a2 a3) (h : Kept ps s t) (hp : partsIn [.cfg, .cnt, .deferred, .evt, .outbox, .sep, .reg 19, .reg 21] ps = true) : KeptOut ps s (execFirmwareCommitActivate a1 a2 a3 t) := by
  refine KeptOut.lift h hp ?_
  clear h hp
  unfold execFirmwareCommitActivate
  repeat' first
    | with_reducible assumption
    | exact rfl
    | with_reducible first | apply State.startCommit_kept | apply State.admin_kept | apply KeptOut.next | exact Kept.refl _ _
    | (intro _; intros; try dsimp -zeta only)

theorem execCommitReadbackDone_kept {ps : List Part} {s t : State} (a1) (h : Kept ps s t) (hp : partsIn [.cfg, .cnt, .deferred, .evt, .outbox, .sep, .reg 1, .reg 19, .reg 21] ps = true) : KeptOut ps s (execCommitReadbackDone a1 t) := by
  refine KeptOut.lift h hp ?_
  clear h hp
  unfold execCommitReadbackDone
  repeat' first
    | with_reducible assumption
    | (extract_lets +onlyGivenNames x; refine Kept.cut x ?_ ?_ <;> first | (intro hx; clear_value x) | (unfold x; clear x))
    | (extract_lets +onlyGivenNames x; subst x)
    | with_reducible apply Kept.ite
    | exact rfl
    | with_reducible first | apply State.eraseHeader_kept | apply State.replyOk_kept | apply State.replyErr_kept | apply State.defer_kept | apply State.setFault_kept | apply State.endTask_kept | exact Kept.refl _ _
    | ((with_reducible refine Kept.build ?_ ?_ ?_ ?_); rotate_left; exact rfl; exact rfl; exact rfl; fail_if_success split)
    | split

theorem execActivationRecordWritten_kept {ps : List Part} {s t : State} (h : Kept ps s t) (hp : partsIn [.cfg] ps = true) : KeptOut ps s (execActivationRecordWritten t) := by
  refine KeptOut.lift h hp ?_
  clear h hp
  unfold execActivationRecordWritten
  repeat' first
    | (extract_lets +onlyGivenNames x; subst x)
    | with_reducible first | apply Kept.ite | apply KeptOut.next | exact Kept.refl _ _
    | ((with_reducible refine Kept.build ?_ ?_ ?_ ?_); rotate_left; exact rfl; exact rfl; exact rfl; fail_if_success split)
    | split

theorem State.applyHitless_kept {ps : List Part} {s t : State} (a1) (h : Kept ps s t) (hp : partsIn [.cnt, .fov, .lay, .reg 4, .reg 5, .reg 11, .reg 13, .reg 14, .reg 15, .reg 16, .reg 17, .reg 18, .reg 20, .reg 21] ps = true) : Kept ps s (State.applyHitless t a1) := by
  refine h.lift hp ?_
  clear h hp
  unfold State.applyHitless
  repeat' first
    | with_reducible assumption
    | (extract_lets +onlyGivenNames x; refine Kept.cut x ?_ ?_ <;> first | (intro hx; clear_value x) | (unfold x; clear x))
    | (extract_lets +onlyGivenNames x; subst x)
    | exact rfl
    | with_reducible first | apply State.modGrp_kept | apply State.applyEvents_kept | apply State.applyFailover_kept | apply State.applyStorage_kept | apply State.applyTransport_kept | apply State.applyPower_kept | exact Kept.refl _ _ | apply Kept.foldl
    | ((with_reducible refine Kept.build ?_ ?_ ?_ ?_); rotate_left; exact rfl; exact rfl; exact rfl; fail_if_success split)
    | split
    | (intro _; intros; try dsimp -zeta only)

theorem execFirmwareReady_kept {ps : List Part} {s t : State} (h : Kept ps s t) (hp : partsIn [.cfg, .cnt, .deferred, .fov, .lay, .sep, .reg 1, .reg 4, .reg 5, .reg 11, .reg 13, .reg 14, .reg 15, .reg 16, .reg 17, .reg 18, .reg 20, .reg 21] ps = true) : KeptOut ps s (execFirmwareReady t) := by
  refine KeptOut.lift h hp ?_
  clear h hp
  unfold execFirmwareReady
  repeat' first
    | with_reducible assumption
    | (extract_lets +onlyGivenNames x; refine Kept.cut x ?_ ?_ <;> first | (intro hx; clear_value x) | (unfold x; clear x))
    | (extract_lets +onlyGivenNames x; subst x)
    | with_reducible apply Kept.ite
    | exact rfl
    | with_reducible first | apply State.defer_kept | apply State.setRunning_kept | apply State.applyHitless_kept | apply KeptOut.next | exact Kept.refl _ _
    | ((with_reducible refine Kept.build ?_ ?_ ?_ ?_); rotate_left; exact rfl; exact rfl; exact rfl; fail_if_success split)
    | split

theorem execActivationGuardExpiry_kept {ps : List Part} {s t : State} (h : Kept ps s t) (hp : partsIn [.cfg, .cmd, .cnt, .deferred, .evt, .fov, .outbox, .pwr, .sep, .reg 1, .reg 7, .reg 19, .reg 20, .reg 21] ps = true) : KeptOut ps s (execActivationGuardExpiry t) := by
  refine KeptOut.lift h hp ?_
  clear h hp
  unfold execActivationGuardExpiry
  repeat' first
    | with_reducible assumption
    | (extract_lets +onlyGivenNames x; refine Kept.cut x ?_ ?_ <;> first | (intro hx; clear_value x) | (unfold x; clear x))
    | (extract_lets +onlyGivenNames x; subst x)
    | with_reducible apply Kept.ite
    | exact rfl
    | with_reducible first | apply State.eraseHeader_kept | apply State.replyErr_kept | apply State.raise_kept | apply State.setFault_kept | apply State.setDevState_kept | apply State.endTask_kept | exact Kept.refl _ _
    | ((with_reducible refine Kept.build ?_ ?_ ?_ ?_); rotate_left; exact rfl; exact rfl; exact rfl; fail_if_success split)
    | split

theorem State.modOwner_kept {ps : List Part} {s t : State} (a1 a2) (h : Kept ps s t) (hp : partsIn [.idn] ps = true) : Kept ps s (State.modOwner t a1 a2) := by
  refine h.lift hp ?_
  clear h hp
  unfold State.modOwner
  repeat' first
    | (extract_lets +onlyGivenNames x; subst x)
    | with_reducible exact Kept.refl _ _
    | ((with_reducible refine Kept.build ?_ ?_ ?_ ?_); rotate_left; exact rfl; exact rfl; exact rfl; fail_if_success split)

theorem State.startFuse_kept {ps : List Part} {s t : State} (a1) (h : Kept ps s t) (hp : partsIn [.idn, .reg 2] ps = true) : Kept ps s (State.startFuse t a1) := by
  refine h.lift hp ?_
  clear h hp
  unfold State.startFuse
  repeat' first
    | (extract_lets +onlyGivenNames x; subst x)
    | exact rfl
    | with_reducible first | apply State.wr_kept | exact Kept.refl _ _
    | ((with_reducible refine Kept.build ?_ ?_ ?_ ?_); rotate_left; exact rfl; exact rfl; exact rfl; fail_if_success split)

theorem State.enrolResult_kept {ps : List Part} {s t : State} (a1) (h : Kept ps s t) (hp : partsIn [.reg 2] ps = true) : Kept ps s (State.enrolResult t a1) := by
  refine h.lift hp ?_
  clear h hp
  unfold State.enrolResult
  repeat' first
    | exact rfl
    | with_reducible first | apply State.wr_kept | exact Kept.refl _ _

theorem State.enrolGate_kept {ps : List Part} {s t : State} {a1} {f : State → State} (h : Kept ps s t) (k : ∀ x, Kept ps s x → Kept ps s (f x))
    (hp : partsIn [.evt, .reg 2, .reg 20] ps = true) : Kept ps s (State.enrolGate t a1 f) := by
  unfold State.enrolGate
  exact State.up_kept h (Kept.ite (State.enrolResult_kept _ (State.violation_kept _ _ h (within_trans rfl hp)) (within_trans rfl hp)) (Kept.ite h (k _ h)))

theorem execOwnerEnrol_kept {ps : List Part} {s t : State} (a1) (h : Kept ps s t) (hp : partsIn [.evt, .idn, .reg 2, .reg 20] ps = true) : KeptOut ps s (execOwnerEnrol a1 t) := by
  refine KeptOut.lift h hp ?_
  clear h hp
  unfold execOwnerEnrol
  repeat' first
    | with_reducible assumption
    | (extract_lets +onlyGivenNames x; refine Kept.cut x ?_ ?_ <;> first | (intro hx; clear_value x) | (unfold x; clear x))
    | (extract_lets +onlyGivenNames x; subst x)
    | with_reducible apply Kept.ite
    | exact rfl
    | with_reducible first | apply State.enrolResult_kept | apply State.wr_kept | apply State.modOwner_kept | apply State.startFuse_kept | apply State.enrolGate_kept | apply KeptOut.next | exact Kept.refl _ _ | apply Kept.foldIdx
    | (intro _; intros; try dsimp -zeta only)

theorem execOwnerRevoke_kept {ps : List Part} {s t : State} (a1) (h : Kept ps s t) (hp : partsIn [.evt, .idn, .reg 2, .reg 20] ps = true) : KeptOut ps s (execOwnerRevoke a1 t) := by
  refine KeptOut.lift h hp ?_
  clear h hp
  unfold execOwnerRevoke
  repeat' first
    | with_reducible assumption
    | (extract_lets +onlyGivenNames x; refine Kept.cut x ?_ ?_ <;> first | (intro hx; clear_value x) | (unfold x; clear x))
    | (extract_lets +onlyGivenNames x; subst x)
    | with_reducible apply Kept.ite
    | exact rfl
    | with_reducible first | apply State.enrolResult_kept | apply State.wr_kept | apply State.modOwner_kept | apply State.startFuse_kept | apply State.enrolGate_kept | apply KeptOut.next | exact Kept.refl _ _ | apply Kept.foldIdx
    | (intro _; intros; try dsimp -zeta only)

theorem State.endFuse_kept {ps : List Part} {s t : State} (a1) (h : Kept ps s t) (hp : partsIn [.idn, .reg 2] ps = true) : Kept ps s (State.endFuse t a1) := by
  refine h.lift hp ?_
  clear h hp
  unfold State.endFuse
  repeat' first
    | with_reducible assumption
    | (extract_lets +onlyGivenNames x; refine Kept.cut x ?_ ?_ <;> first | (intro hx; clear_value x) | (unfold x; clear x))
    | (extract_lets +onlyGivenNames x; subst x)
    | with_reducible apply Kept.ite
    | exact rfl
    | with_reducible first | apply State.wr_kept | exact Kept.refl _ _
    | ((with_reducible refine Kept.build ?_ ?_ ?_ ?_); rotate_left; exact rfl; exact rfl; exact rfl; fail_if_success split)

theorem execFuseProgramDone_kept {ps : List Part} {s t : State} (a1) (h : Kept ps s t) (hp : partsIn [.cfg, .cnt, .cph, .evt, .free, .idn, .outbox, .sep, .reg 1, .reg 2, .reg 12, .reg 19, .reg 20, .reg 21] ps = true) : KeptOut ps s (execFuseProgramDone a1 t) := by
  refine KeptOut.lift h hp ?_
  clear h hp
  unfold execFuseProgramDone
  repeat' first
    | with_reducible assumption
    | (extract_lets +onlyGivenNames x; refine Kept.cut x ?_ ?_ <;> first | (intro hx; clear_value x) | (unfold x; clear x))
    | (extract_lets +onlyGivenNames x; subst x)
    | with_reducible apply Kept.ite
    | exact rfl
    | with_reducible first | apply State.reply_kept | apply State.enrolResult_kept | apply State.modOwner_kept | apply State.replyErr_kept | apply State.setFault_kept | apply State.takeFree_kept | apply State.endTask_kept | apply State.ownerGone_kept | apply State.endFuse_kept | exact Kept.refl _ _
    | ((with_reducible refine Kept.build ?_ ?_ ?_ ?_); rotate_left; exact rfl; exact rfl; exact rfl; fail_if_success split)
    | split

theorem execSvnFloorRaise_kept {ps : List Part} {s t : State} (a1 a2) (h : Kept ps s t) (hp : partsIn [.cfg, .cnt, .deferred, .evt, .idn, .outbox, .sep, .reg 2, .reg 19, .reg 21] ps = true) : KeptOut ps s (execSvnFloorRaise a1 a2 t) := by
  refine KeptOut.lift h hp ?_
  clear h hp
  unfold execSvnFloorRaise
  repeat' first
    | with_reducible assumption
    | (extract_lets +onlyGivenNames x; subst x)
    | with_reducible apply Kept.ite
    | exact rfl
    | with_reducible first | apply State.reply_kept | apply State.replyErr_kept | apply State.startFuse_kept | apply State.startTask_kept | apply State.admin_kept | apply KeptOut.next | exact Kept.refl _ _
    | split
    | (intro _; intros; try dsimp -zeta only)

theorem execAttestationQuote_kept {ps : List Part} {s t : State} (a1 a2 a3) (h : Kept ps s t) (hp : partsIn [.cnt, .deferred, .evt, .idn, .outbox, .sep, .reg 19, .reg 21] ps = true) : KeptOut ps s (execAttestationQuote a1 a2 a3 t) := by
  refine KeptOut.lift h hp ?_
  clear h hp
  unfold execAttestationQuote
  repeat' first
    | with_reducible assumption
    | (extract_lets +onlyGivenNames x; subst x)
    | with_reducible apply Kept.ite
    | exact rfl
    | with_reducible first | apply State.replyErr_kept | apply State.defer_kept | apply State.admin_kept | apply KeptOut.next | exact Kept.refl _ _
    | ((with_reducible refine Kept.build ?_ ?_ ?_ ?_); rotate_left; exact rfl; exact rfl; exact rfl; fail_if_success split)
    | split
    | (intro _; intros; try dsimp -zeta only)

theorem State.sampleQuotes_kept {ps : List Part} {s t : State} (h : Kept ps s t) (hp : partsIn [.idn] ps = true) : Kept ps s (State.sampleQuotes t) := by
  refine h.lift hp ?_
  clear h hp
  unfold State.sampleQuotes
  repeat' first
    | (extract_lets +onlyGivenNames x; subst x)
    | with_reducible exact Kept.refl _ _
    | ((with_reducible refine Kept.build ?_ ?_ ?_ ?_); rotate_left; exact rfl; exact rfl; exact rfl; fail_if_success split)

theorem execQuoteSigned_kept {ps : List Part} {s t : State} (h : Kept ps s t) (hp : partsIn [.cnt, .evt, .idn, .outbox, .sep, .reg 19, .reg 21] ps = true) : KeptOut ps s (execQuoteSigned t) := by
  refine KeptOut.lift h hp ?_
  clear h hp
  unfold execQuoteSigned
  repeat' first
    | with_reducible assumption
    | (extract_lets +onlyGivenNames x; refine Kept.cut x ?_ ?_ <;> first | (intro hx; clear_value x) | (unfold x; clear x))
    | (extract_lets +onlyGivenNames x; subst x)
    | with_reducible apply Kept.ite
    | exact rfl
    | with_reducible first | apply State.replyOk_kept | apply State.emit_kept | apply KeptOut.next | exact Kept.refl _ _
    | ((with_reducible refine Kept.build ?_ ?_ ?_ ?_); rotate_left; exact rfl; exact rfl; exact rfl; fail_if_success split)
    | split

theorem State.modLink_kept {ps : List Part} {s t : State} (a1 a2) (h : Kept ps s t) (hp : partsIn [.eth] ps = true) : Kept ps s (State.modLink t a1 a2) := by
  refine h.lift hp ?_
  clear h hp
  unfold State.modLink
  repeat' first
    | with_reducible exact Kept.refl _ _
    | ((with_reducible refine Kept.build ?_ ?_ ?_ ?_); rotate_left; exact rfl; exact rfl; exact rfl; fail_if_success split)

theorem State.laneStatus_kept {ps : List Part} {s t : State} (h : Kept ps s t) (hp : partsIn [.reg 18] ps = true) : Kept ps s (State.laneStatus t) := by
  refine h.lift hp ?_
  clear h hp
  unfold State.laneStatus
  repeat' first
    | (extract_lets +onlyGivenNames x; subst x)
    | exact rfl
    | with_reducible first | apply State.wr_kept | exact Kept.refl _ _

theorem State.setLink_kept {ps : List Part} {s t : State} (a1 a2) (h : Kept ps s t) (hp : partsIn [.eth, .reg 3, .reg 18] ps = true) : Kept ps s (State.setLink t a1 a2) := by
  refine h.lift hp ?_
  clear h hp
  unfold State.setLink
  repeat' first
    | with_reducible assumption
    | (extract_lets +onlyGivenNames x; refine Kept.cut x ?_ ?_ <;> first | (intro hx; clear_value x) | (unfold x; clear x))
    | with_reducible apply Kept.ite
    | exact rfl
    | with_reducible first | apply State.modLink_kept | apply State.laneStatus_kept | apply State.wr_kept | exact Kept.refl _ _

theorem State.linkCmd_kept {ps : List Part} {s t u : State} {a1 a2} (h : Kept ps s t) (k : Kept ps s u) : KeptOut ps s (State.linkCmd t a1 a2 u) :=
  KeptOut.guard _ (Kept.ite k h)

theorem State.negFailed_kept {ps : List Part} {s t : State} (a1 a2) (h : Kept ps s t) (hp : partsIn [.evt, .reg 20] ps = true) : Kept ps s (State.negFailed t a1 a2) := by
  unfold State.negFailed
  exact State.raiseLim_kept _ _ _ _ _ _ _ _ h hp

theorem execLinkAnDone_kept {ps : List Part} {s t : State} (a1 a2) (h : Kept ps s t) (hp : partsIn [.eth, .evt, .reg 3, .reg 18, .reg 20] ps = true) : KeptOut ps s (execLinkAnDone a1 a2 t) := by
  refine KeptOut.lift h hp ?_
  clear h hp
  unfold execLinkAnDone
  repeat' first
    | with_reducible apply Kept.ite
    | exact rfl
    | with_reducible first | apply State.modLink_kept | apply State.negFailed_kept | apply State.setLink_kept | apply State.linkCmd_kept | exact Kept.refl _ _

theorem execLinkTrainingDone_kept {ps : List Part} {s t : State} (a1) (h : Kept ps s t) (hp : partsIn [.eth, .reg 3, .reg 18] ps = true) : KeptOut ps s (execLinkTrainingDone a1 t) := by
  refine KeptOut.lift h hp ?_
  clear h hp
  unfold execLinkTrainingDone
  repeat' first
    | exact rfl
    | with_reducible first | apply State.modLink_kept | apply State.setLink_kept | apply State.linkCmd_kept | exact Kept.refl _ _

theorem execLinkTrainingTimeout_kept {ps : List Part} {s t : State} (a1) (h : Kept ps s t) (hp : partsIn [.eth, .reg 3, .reg 18] ps = true) : KeptOut ps s (execLinkTrainingTimeout a1 t) := by
  refine KeptOut.lift h hp ?_
  clear h hp
  unfold execLinkTrainingTimeout
  repeat' first
    | with_reducible apply Kept.ite
    | exact rfl
    | with_reducible first | apply State.modLink_kept | apply State.setLink_kept | apply State.linkCmd_kept | exact Kept.refl _ _

theorem execLinkLockAcquired_kept {ps : List Part} {s t : State} (a1) (h : Kept ps s t) (hp : partsIn [.eth, .reg 3, .reg 18] ps = true) : KeptOut ps s (execLinkLockAcquired a1 t) := by
  refine KeptOut.lift h hp ?_
  clear h hp
  unfold execLinkLockAcquired
  repeat' first
    | exact rfl
    | with_reducible first | apply State.modLink_kept | apply State.setLink_kept | apply KeptOut.guard | exact Kept.refl _ _
    | split

theorem execLinkAlignTimeout_kept {ps : List Part} {s t : State} (a1) (h : Kept ps s t) (hp : partsIn [.eth, .reg 3, .reg 18] ps = true) : KeptOut ps s (execLinkAlignTimeout a1 t) := by
  refine KeptOut.lift h hp ?_
  clear h hp
  unfold execLinkAlignTimeout
  repeat' first
    | with_reducible apply Kept.ite
    | exact rfl
    | with_reducible first | apply State.modLink_kept | apply State.setLink_kept | apply State.linkCmd_kept | exact Kept.refl _ _

theorem State.sendHello_kept {ps : List Part} {s t : State} (a1) (h : Kept ps s t) (hp : partsIn [.outbox] ps = true) : Kept ps s (State.sendHello t a1) := by
  refine h.lift hp ?_
  clear h hp
  unfold State.sendHello
  repeat' first
    | (extract_lets +onlyGivenNames x; subst x)
    | exact rfl
    | with_reducible first | apply State.emit_kept | exact Kept.refl _ _

theorem execLinkQualifyDone_kept {ps : List Part} {s t : State} (a1) (h : Kept ps s t) (hp : partsIn [.eth, .evt, .outbox, .pwr, .reg 3, .reg 18, .reg 20] ps = true) : KeptOut ps s (execLinkQualifyDone a1 t) := by
  refine KeptOut.lift h hp ?_
  clear h hp
  unfold execLinkQualifyDone
  repeat' first
    | with_reducible assumption
    | (extract_lets +onlyGivenNames x; subst x)
    | with_reducible apply Kept.ite
    | exact rfl
    | with_reducible first | apply State.modLink_kept | apply State.sendHello_kept | apply State.raise_kept | apply State.setLink_kept | apply State.armClear_kept | apply State.emit_kept | apply State.linkCmd_kept | exact Kept.refl _ _ | apply Kept.foldIdx
    | (intro _; intros; try dsimp -zeta only)

theorem execLinkLockLost_kept {ps : List Part} {s t : State} (a1) (h : Kept ps s t) (hp : partsIn [.eth, .reg 3, .reg 18] ps = true) : KeptOut ps s (execLinkLockLost a1 t) := by
  refine KeptOut.lift h hp ?_
  clear h hp
  unfold execLinkLockLost
  repeat' first
    | exact rfl
    | with_reducible first | apply State.modLink_kept | apply State.setLink_kept | apply KeptOut.guard | exact Kept.refl _ _
    | split

theorem State.linkDown_kept {ps : List Part} {s t : State} (a1) (h : Kept ps s t) (hp : partsIn [.eth, .evt, .pwr, .reg 3, .reg 18, .reg 20] ps = true) : Kept ps s (State.linkDown t a1) := by
  refine h.lift hp ?_
  clear h hp
  unfold State.linkDown
  repeat' first
    | with_reducible assumption
    | (extract_lets +onlyGivenNames x; refine Kept.cut x ?_ ?_ <;> first | (intro hx; clear_value x) | (unfold x; clear x))
    | with_reducible apply Kept.ite
    | exact rfl
    | with_reducible first | apply State.modLink_kept | apply State.wr_kept | apply State.raise_kept | apply State.setLink_kept | apply State.bumpWrap_kept | apply State.armClear_kept | exact Kept.refl _ _ | apply Kept.foldIdx
    | (intro _; intros; try dsimp -zeta only)

theorem execLinkLossTimeout_kept {ps : List Part} {s t : State} (a1) (h : Kept ps s t) (hp : partsIn [.eth, .evt, .pwr, .reg 3, .reg 18, .reg 20] ps = true) : KeptOut ps s (execLinkLossTimeout a1 t) := by
  refine KeptOut.lift h hp ?_
  clear h hp
  unfold execLinkLossTimeout
  repeat' first
    | with_reducible apply Kept.ite
    | exact rfl
    | with_reducible first | apply State.linkDown_kept | apply State.linkCmd_kept | exact Kept.refl _ _

theorem execLinkNegotiationTimeout_kept {ps : List Part} {s t : State} (a1) (h : Kept ps s t) (hp : partsIn [.eth, .evt, .reg 20] ps = true) : KeptOut ps s (execLinkNegotiationTimeout a1 t) := by
  refine KeptOut.lift h hp ?_
  clear h hp
  unfold execLinkNegotiationTimeout
  repeat' first
    | (extract_lets +onlyGivenNames x; subst x)
    | with_reducible apply Kept.ite
    | exact rfl
    | with_reducible first | apply State.modLink_kept | apply State.negFailed_kept | apply KeptOut.guard | exact Kept.refl _ _

theorem execLinkFaultTimeout_kept {ps : List Part} {s t : State} (a1 a2) (h : Kept ps s t) (hp : partsIn [.evt, .reg 3, .reg 20] ps = true) : KeptOut ps s (execLinkFaultTimeout a1 a2 t) := by
  refine KeptOut.lift h hp ?_
  clear h hp
  unfold execLinkFaultTimeout
  repeat' first
    | (extract_lets +onlyGivenNames x; subst x)
    | with_reducible apply Kept.ite
    | exact rfl
    | with_reducible first | apply State.wr_kept | apply State.raise_kept | apply State.linkCmd_kept | exact Kept.refl _ _

theorem execFecWindowEnd_kept {ps : List Part} {s t : State} (a1 a2 a3) (h : Kept ps s t) (hp : partsIn [.evt, .reg 3, .reg 20] ps = true) : KeptOut ps s (execFecWindowEnd a1 a2 a3 t) := by
  refine KeptOut.lift h hp ?_
  clear h hp
  unfold execFecWindowEnd
  repeat' first
    | (extract_lets +onlyGivenNames x; subst x)
    | with_reducible apply Kept.ite
    | exact rfl
    | with_reducible first | apply State.wr_kept | apply State.raise_kept | apply State.bumpWrap_kept | apply KeptOut.guard | exact Kept.refl _ _

theorem State.dropFrame_kept {ps : List Part} {s t : State} (a1 a2) (h : Kept ps s t) (hp : partsIn [.cnt, .evt, .reg 3, .reg 20, .reg 21] ps = true) : Kept ps s (State.dropFrame t a1 a2) := by
  refine h.lift hp ?_
  clear h hp
  unfold State.dropFrame
  repeat' first
    | with_reducible assumption
    | (extract_lets +onlyGivenNames x; refine Kept.cut x ?_ ?_ <;> first | (intro hx; clear_value x) | (unfold x; clear x))
    | with_reducible apply Kept.ite
    | exact rfl
    | with_reducible first | apply State.bump_kept | apply State.raiseLim_kept | apply State.wr_kept | apply State.count_kept | exact Kept.refl _ _

theorem execFrameRx_kept {ps : List Part} {s t : State} (a1 a2) (h : Kept ps s t) (hp : partsIn [.cnt, .evt, .reg 3, .reg 20, .reg 21] ps = true) : KeptOut ps s (execFrameRx a1 a2 t) := by
  refine KeptOut.lift h hp ?_
  clear h hp
  unfold execFrameRx
  repeat' first
    | (extract_lets +onlyGivenNames x; subst x)
    | with_reducible apply Kept.ite
    | exact rfl
    | with_reducible first | apply State.dropFrame_kept | apply State.bwAdd_kept | apply State.count_kept | apply KeptOut.guard | exact Kept.refl _ _
    | split

theorem State.conflict_kept {ps : List Part} {s t : State} (a1 a2 a3) (h : Kept ps s t) (hp : partsIn [.evt, .reg 3, .reg 20] ps = true) : Kept ps s (State.conflict t a1 a2 a3) := by
  refine h.lift hp ?_
  clear h hp
  unfold State.conflict
  repeat' first
    | with_reducible apply Kept.ite
    | exact rfl
    | with_reducible first | apply State.wr_kept | apply State.raise_kept | exact Kept.refl _ _

theorem State.answer_kept {ps : List Part} {s t : State} (a1 a2 a3 a4 a5) (h : Kept ps s t) (hp : partsIn [.cnt, .eth, .evt, .outbox, .reg 3, .reg 20, .reg 21] ps = true) : Kept ps s (State.answer t a1 a2 a3 a4 a5) := by
  refine h.lift hp ?_
  clear h hp
  unfold State.answer
  repeat' first
    | with_reducible apply Kept.ite
    | exact rfl
    | with_reducible first | apply State.modLink_kept | apply State.dropFrame_kept | apply State.emit_kept | exact Kept.refl _ _

theorem execArpRequestRx_kept {ps : List Part} {s t : State} (a1 a2 a3 a4) (h : Kept ps s t) (hp : partsIn [.cnt, .eth, .evt, .outbox, .reg 3, .reg 20, .reg 21] ps = true) : KeptOut ps s (execArpRequestRx a1 a2 a3 a4 t) := by
  refine KeptOut.lift h hp ?_
  clear h hp
  unfold execArpRequestRx
  repeat' first
    | (extract_lets +onlyGivenNames x; subst x)
    | with_reducible apply Kept.ite
    | exact rfl
    | with_reducible first | apply State.conflict_kept | apply State.answer_kept | apply KeptOut.guard | exact Kept.refl _ _

theorem execArpReplyRx_kept {ps : List Part} {s t : State} (a1 a2 a3) (h : Kept ps s t) (hp : partsIn [.evt, .reg 3, .reg 20] ps = true) : KeptOut ps s (execArpReplyRx a1 a2 a3 t) := by
  refine KeptOut.lift h hp ?_
  clear h hp
  unfold execArpReplyRx
  repeat' first
    | with_reducible apply Kept.ite
    | exact rfl
    | with_reducible first | apply State.conflict_kept | apply KeptOut.guard | exact Kept.refl _ _

theorem execNeighbourSolicitationRx_kept {ps : List Part} {s t : State} (a1 a2 a3 a4) (h : Kept ps s t) (hp : partsIn [.cnt, .eth, .evt, .outbox, .reg 3, .reg 20, .reg 21] ps = true) : KeptOut ps s (execNeighbourSolicitationRx a1 a2 a3 a4 t) := by
  refine KeptOut.lift h hp ?_
  clear h hp
  unfold execNeighbourSolicitationRx
  repeat' first
    | with_reducible apply Kept.ite
    | exact rfl
    | with_reducible first | apply State.answer_kept | apply KeptOut.guard | exact Kept.refl _ _

theorem execNeighbourAdvertisementRx_kept {ps : List Part} {s t : State} (a1 a2 a3) (h : Kept ps s t) (hp : partsIn [.evt, .reg 3, .reg 20] ps = true) : KeptOut ps s (execNeighbourAdvertisementRx a1 a2 a3 t) := by
  refine KeptOut.lift h hp ?_
  clear h hp
  unfold execNeighbourAdvertisementRx
  repeat' first
    | with_reducible apply Kept.ite
    | exact rfl
    | with_reducible first | apply State.conflict_kept | apply KeptOut.guard | exact Kept.refl _ _

theorem execEthDropClear_kept {ps : List Part} {s t : State} (a1) (h : Kept ps s t) (hp : partsIn [.deferred] ps = true) : KeptOut ps s (execEthDropClear a1 t) := by
  refine KeptOut.lift h hp ?_
  clear h hp
  unfold execEthDropClear
  repeat' first
    | exact rfl
    | with_reducible first | apply State.defer_kept | apply State.up_kept | apply KeptOut.guard | exact Kept.refl _ _

end Sys2Proof.Machine
end

