-- ==== Sys2Proof/Laws/KeptB.lean ====
section
/-!
SUPPORT. Laws/KeptB.lean: one lemma per function: what it keeps of the state it is given (transport, windows, scheduling and the command engine).
-/

namespace Sys2Proof.Machine

theorem State.charge_kept {ps : List Part} {s t : State} (a1 a2 a3 a4) (h : Kept ps s t) (hp : partsIn [.sch] ps = true) : Kept ps s (State.charge t a1 a2 a3 a4) := by
  refine h.lift hp ?_
  clear h hp
  unfold State.charge
  repeat' first
    | (extract_lets +onlyGivenNames x; subst x)
    | with_reducible exact Kept.refl _ _
    | ((with_reducible refine Kept.build ?_ ?_ ?_ ?_); rotate_left; exact rfl; exact rfl; exact rfl; fail_if_success split)

theorem State.chargeIngest_kept {ps : List Part} {s t : State} (a1 a2 a3 a4) (h : Kept ps s t) (hp : partsIn [.sch] ps = true) : Kept ps s (State.chargeIngest t a1 a2 a3 a4) := by
  refine h.lift hp ?_
  clear h hp
  unfold State.chargeIngest
  repeat' first
    | with_reducible assumption
    | (extract_lets +onlyGivenNames x; refine Kept.cut x ?_ ?_ <;> first | (intro hx; clear_value x) | (unfold x; clear x))
    | (extract_lets +onlyGivenNames x; subst x)
    | with_reducible apply Kept.ite
    | exact rfl
    | with_reducible first | apply State.charge_kept | exact Kept.refl _ _
    | ((with_reducible refine Kept.build ?_ ?_ ?_ ?_); rotate_left; exact rfl; exact rfl; exact rfl; fail_if_success split)

theorem State.meter_kept {ps : List Part} {s t : State} (a1 a2 a3) (h : Kept ps s t) (hp : partsIn [.sch] ps = true) : Kept ps s (State.meter t a1 a2 a3).2 := by
  unfold State.meter
  have hk : ∀ (u : State) (v), Kept ps s u → Kept ps s ({ u with sch := v } : State) := fun u v hu =>
    hu.trans (Kept.mono (qs := [.sch]) (Kept.upds rfl rfl rfl) hp)
  extract_lets dw4 mode need c e input take
  have ht : ∀ u k v, Kept ps s u → Kept ps s (take u k v) := fun u k v hu => hk u _ hu
  clear_value take dw4 mode need c e input
  repeat' split
  all_goals first | exact h | exact ht _ _ _ h | exact ht _ _ _ (ht _ _ _ h)

theorem State.meter_kept_eq {ps : List Part} {s t u : State} {a1 a2 a3} {x} (e : State.meter t a1 a2 a3 = (x, u)) (h : Kept ps s t) (hp : partsIn [.sch] ps = true) : Kept ps s u := by
  have k := State.meter_kept (ps := ps) (s := s) (t := t) a1 a2 a3 h hp
  rw [e] at k
  exact k

theorem State.police_kept {ps : List Part} {s t : State} (a1 a2 a3 a4) (h : Kept ps s t) (hp : partsIn [.cnt, .evt, .sch, .reg 6, .reg 20, .reg 21] ps = true) : Kept ps s (State.police t a1 a2 a3 a4).2 := by
  refine h.lift hp ?_
  clear h hp
  unfold State.police
  repeat' first
    | with_reducible assumption
    | (extract_lets +onlyGivenNames x; refine Kept.cut x ?_ ?_ <;> first | (intro hx; clear_value x) | (unfold x; clear x))
    | (extract_lets +onlyGivenNames x; subst x)
    | exact rfl
    | with_reducible first | apply State.raiseLim_kept | apply State.count_kept | apply State.bumpWrap_kept | refine State.meter_kept_eq ‹_› ?_ rfl | exact Kept.refl _ _
    | split

theorem State.police_kept_eq {ps : List Part} {s t u : State} {a1 a2 a3 a4} {x} (e : State.police t a1 a2 a3 a4 = (x, u)) (h : Kept ps s t) (hp : partsIn [.cnt, .evt, .sch, .reg 6, .reg 20, .reg 21] ps = true) : Kept ps s u := by
  have k := State.police_kept (ps := ps) (s := s) (t := t) a1 a2 a3 a4 h hp
  rw [e] at k
  exact k

theorem State.setQp_kept {ps : List Part} {s t : State} (a1 a2) (h : Kept ps s t) (hp : partsIn [.xpt] ps = true) : Kept ps s (State.setQp t a1 a2) := by
  refine h.lift hp ?_
  clear h hp
  unfold State.setQp
  repeat' first
    | (extract_lets +onlyGivenNames x; subst x)
    | with_reducible exact Kept.refl _ _
    | ((with_reducible refine Kept.build ?_ ?_ ?_ ?_); rotate_left; exact rfl; exact rfl; exact rfl; fail_if_success split)

theorem State.modQp_kept {ps : List Part} {s t : State} (a1 a2) (h : Kept ps s t) (hp : partsIn [.xpt] ps = true) : Kept ps s (State.modQp t a1 a2) := by
  refine h.lift hp ?_
  clear h hp
  unfold State.modQp
  repeat' first
    | (extract_lets +onlyGivenNames x; subst x)
    | with_reducible exact Kept.refl _ _
    | ((with_reducible refine Kept.build ?_ ?_ ?_ ?_); rotate_left; exact rfl; exact rfl; exact rfl; fail_if_success split)

theorem State.xptStatus_kept {ps : List Part} {s t : State} (h : Kept ps s t) (hp : partsIn [.reg 4] ps = true) : Kept ps s (State.xptStatus t) := by
  refine h.lift hp ?_
  clear h hp
  unfold State.xptStatus
  repeat' first
    | (extract_lets +onlyGivenNames x; subst x)
    | exact rfl
    | with_reducible first | apply State.wr_kept | exact Kept.refl _ _

theorem State.badQpn_kept {ps : List Part} {s t : State} (h : Kept ps s t) (hp : partsIn [.cnt, .reg 4, .reg 21] ps = true) : Kept ps s (State.badQpn t) := by
  refine h.lift hp ?_
  clear h hp
  unfold State.badQpn
  repeat' first
    | exact rfl
    | with_reducible first | apply State.bump_kept | apply State.count_kept | exact Kept.refl _ _

theorem State.geckoTouch_kept {ps : List Part} {s t : State} (a1) (h : Kept ps s t) (hp : partsIn [.xpt] ps = true) : Kept ps s (State.geckoTouch t a1) := by
  refine h.lift hp ?_
  clear h hp
  unfold State.geckoTouch
  repeat' first
    | (extract_lets +onlyGivenNames x; subst x)
    | with_reducible exact Kept.refl _ _
    | ((with_reducible refine Kept.build ?_ ?_ ?_ ?_); rotate_left; exact rfl; exact rfl; exact rfl; fail_if_success split)

theorem State.pinQp_kept {ps : List Part} {s t : State} (a1 a2) (h : Kept ps s t) (hp : partsIn [.xpt] ps = true) : Kept ps s (State.pinQp t a1 a2) := by
  refine h.lift hp ?_
  clear h hp
  unfold State.pinQp
  repeat' first
    | (extract_lets +onlyGivenNames x; subst x)
    | with_reducible first | apply Kept.ite | exact Kept.refl _ _
    | ((with_reducible refine Kept.build ?_ ?_ ?_ ?_); rotate_left; exact rfl; exact rfl; exact rfl; fail_if_success split)

theorem State.wqeDone_kept {ps : List Part} {s t : State} (a1 a2 a3) (h : Kept ps s t) (hp : partsIn [.outbox] ps = true) : Kept ps s (State.wqeDone t a1 a2 a3) := by
  refine h.lift hp ?_
  clear h hp
  unfold State.wqeDone
  repeat' first
    | exact rfl
    | with_reducible first | apply State.emit_kept | exact Kept.refl _ _

theorem State.runSq_kept {ps : List Part} {s t : State} (a1 a2 a3) (h : Kept ps s t) (hp : partsIn [.cnt, .outbox, .xpt, .reg 21] ps = true) : Kept ps s (State.runSq a1 a2 a3 t) := by
  refine h.lift hp ?_
  clear h hp
  have key : ∀ u, Kept [.cnt, .outbox, .xpt, .reg 21] t u → Kept [.cnt, .outbox, .xpt, .reg 21] t (State.runSq a1 a2 a3 u) := by
    induction a1 generalizing a2 a3 with
    | zero => intro u hu; unfold State.runSq; exact hu
    | succ n ih =>
      intro u hu
      unfold State.runSq
      repeat' first
        | with_reducible first | assumption | apply ih
        | (extract_lets +onlyGivenNames x; refine Kept.cut x ?_ ?_ <;> first | (intro hx; clear_value x) | (unfold x; clear x))
        | (extract_lets +onlyGivenNames x; subst x)
        | with_reducible apply Kept.ite
        | exact rfl
        | with_reducible first | apply State.wqeDone_kept | apply State.setQp_kept | apply State.count_kept | apply State.emit_kept
        | split
  exact key t (Kept.refl _ _)

theorem State.pumpSq_kept {ps : List Part} {s t : State} (a1 a2) (h : Kept ps s t) (hp : partsIn [.cnt, .outbox, .xpt, .reg 21] ps = true) : Kept ps s (State.pumpSq t a1 a2) := by
  refine h.lift hp ?_
  clear h hp
  unfold State.pumpSq
  repeat' first
    | exact rfl
    | with_reducible first | apply State.runSq_kept | exact Kept.refl _ _
    | split

theorem State.ackUpTo_kept {ps : List Part} {s t : State} (a1 a2) (h : Kept ps s t) (hp : partsIn [.cnt, .outbox, .xpt, .reg 4, .reg 21] ps = true) : Kept ps s (State.ackUpTo t a1 a2) := by
  refine h.lift hp ?_
  clear h hp
  unfold State.ackUpTo
  repeat' first
    | with_reducible assumption
    | (extract_lets +onlyGivenNames x; refine Kept.cut x ?_ ?_ <;> first | (intro hx; clear_value x) | (unfold x; clear x))
    | (extract_lets +onlyGivenNames x; subst x)
    | with_reducible apply Kept.ite
    | exact rfl
    | with_reducible first | apply State.wqeDone_kept | apply State.pumpSq_kept | apply State.xptStatus_kept | apply State.setQp_kept | exact Kept.refl _ _ | apply Kept.foldl
    | split
    | (intro _; intros; try dsimp -zeta only)

theorem State.flushSq_kept {ps : List Part} {s t : State} (a1) (h : Kept ps s t) (hp : partsIn [.outbox, .xpt] ps = true) : Kept ps s (State.flushSq t a1) := by
  refine h.lift hp ?_
  clear h hp
  unfold State.flushSq
  repeat' first
    | with_reducible assumption
    | exact rfl
    | with_reducible first | apply State.wqeDone_kept | apply State.modQp_kept | exact Kept.refl _ _ | apply Kept.foldl
    | split
    | (intro _; intros; try dsimp -zeta only)

theorem State.toTimewait_kept {ps : List Part} {s t : State} (a1) (h : Kept ps s t) (hp : partsIn [.xpt] ps = true) : Kept ps s (State.toTimewait t a1) := by
  refine h.lift hp ?_
  clear h hp
  unfold State.toTimewait
  repeat' first
    | exact rfl
    | with_reducible first | apply State.modQp_kept | exact Kept.refl _ _

theorem State.qpToErr_kept {ps : List Part} {s t : State} (a1 a2 a3) (h : Kept ps s t) (hp : partsIn [.cmd, .cmp, .cnt, .evt, .fsp, .outbox, .win, .xpt, .reg 4, .reg 7, .reg 20, .reg 21] ps = true) : Kept ps s (State.qpToErr t a1 a2 a3) := by
  refine h.lift hp ?_
  clear h hp
  unfold State.qpToErr
  repeat' first
    | with_reducible assumption
    | (extract_lets +onlyGivenNames x; refine Kept.cut x ?_ ?_ <;> first | (intro hx; clear_value x) | (unfold x; clear x))
    | with_reducible apply Kept.ite
    | exact rfl
    | with_reducible first | apply State.toTimewait_kept | apply State.modQp_kept | apply State.flushSq_kept | apply State.xptStatus_kept | apply State.raise_kept | apply State.decrefs_kept | apply State.count_kept | apply State.emit_kept | apply State.loseQueue_kept | exact Kept.refl _ _
    | split

theorem State.retryExhausted_kept {ps : List Part} {s t : State} (a1 a2) (h : Kept ps s t) (hp : partsIn [.cmd, .cmp, .cnt, .evt, .fsp, .outbox, .win, .xpt, .reg 4, .reg 7, .reg 20, .reg 21] ps = true) : Kept ps s (State.retryExhausted t a1 a2) := by
  refine h.lift hp ?_
  clear h hp
  unfold State.retryExhausted
  repeat' first
    | exact rfl
    | with_reducible first | apply State.qpToErr_kept | apply State.raise_kept | exact Kept.refl _ _

theorem State.retryFrom_kept {ps : List Part} {s t : State} (a1 a2) (h : Kept ps s t) (hp : partsIn [.cmd, .cmp, .cnt, .evt, .fsp, .outbox, .win, .xpt, .reg 4, .reg 7, .reg 20, .reg 21] ps = true) : Kept ps s (State.retryFrom t a1 a2) := by
  refine h.lift hp ?_
  clear h hp
  unfold State.retryFrom
  repeat' first
    | with_reducible assumption
    | (extract_lets +onlyGivenNames x; refine Kept.cut x ?_ ?_ <;> first | (intro hx; clear_value x) | (unfold x; clear x))
    | with_reducible apply Kept.ite
    | exact rfl
    | with_reducible first | apply State.retryExhausted_kept | apply State.modQp_kept | apply State.count_kept | apply State.emit_kept | exact Kept.refl _ _
    | split

theorem State.handleBatch_kept {ps : List Part} {s t : State} (h : Kept ps s t) (hp : partsIn [.evt, .sch, .xpt, .reg 4, .reg 5, .reg 6, .reg 9, .reg 20] ps = true) : Kept ps s (State.handleBatch t) := by
  refine h.lift hp ?_
  clear h hp
  unfold State.handleBatch
  repeat' first
    | with_reducible assumption
    | (extract_lets +onlyGivenNames x; refine Kept.cut x ?_ ?_ <;> first | (intro hx; clear_value x) | (unfold x; clear x))
    | (extract_lets +onlyGivenNames x; subst x)
    | with_reducible apply Kept.ite
    | exact rfl
    | with_reducible first | apply State.bankCommit_kept | exact Kept.refl _ _ | apply Kept.foldl
    | ((with_reducible refine Kept.build ?_ ?_ ?_ ?_); rotate_left; exact rfl; exact rfl; exact rfl; fail_if_success split)
    | (intro _; intros; try dsimp -zeta only)

theorem State.takeHandle_kept {ps : List Part} {s t : State} (a1) (h : Kept ps s t) (hp : partsIn [.xpt, .reg 4] ps = true) : KeptOpt ps s (Prod.snd) (State.takeHandle t a1) := by
  refine KeptOpt.lift h hp ?_
  clear h hp
  unfold State.takeHandle
  repeat' first
    | with_reducible assumption
    | (extract_lets +onlyGivenNames x; refine Kept.cut x ?_ ?_ <;> first | (intro hx; clear_value x) | (unfold x; clear x))
    | (extract_lets +onlyGivenNames x; subst x)
    | exact rfl
    | with_reducible first | apply State.wr_kept | apply KeptOpt.some' | apply KeptOpt.none' | exact Kept.refl _ _
    | ((with_reducible refine Kept.build ?_ ?_ ?_ ?_); rotate_left; exact rfl; exact rfl; exact rfl; fail_if_success split)
    | split

theorem State.takeHandle_kept_eq {ps : List Part} {s t u : State} {a1} {x} (e : State.takeHandle t a1 = some (x, u)) (h : Kept ps s t) (hp : partsIn [.xpt, .reg 4] ps = true) : Kept ps s u := by
  have k := State.takeHandle_kept (ps := ps) (s := s) (t := t) a1 h hp
  rw [e] at k
  exact k

theorem State.freeHandle_kept {ps : List Part} {s t : State} (a1) (h : Kept ps s t) (hp : partsIn [.xpt, .reg 4] ps = true) : Kept ps s (State.freeHandle t a1) := by
  refine h.lift hp ?_
  clear h hp
  unfold State.freeHandle
  repeat' first
    | (extract_lets +onlyGivenNames x; subst x)
    | exact rfl
    | with_reducible first | apply State.wr_kept | exact Kept.refl _ _
    | ((with_reducible refine Kept.build ?_ ?_ ?_ ?_); rotate_left; exact rfl; exact rfl; exact rfl; fail_if_success split)
    | split

theorem State.qpReset_kept {ps : List Part} {s t : State} (a1) (h : Kept ps s t) (hp : partsIn [.fsp, .xpt, .reg 4] ps = true) : Kept ps s (State.qpReset t a1) := by
  refine h.lift hp ?_
  clear h hp
  unfold State.qpReset
  repeat' first
    | with_reducible assumption
    | (extract_lets +onlyGivenNames x; refine Kept.cut x ?_ ?_ <;> first | (intro hx; clear_value x) | (unfold x; clear x))
    | (extract_lets +onlyGivenNames x; subst x)
    | exact rfl
    | with_reducible first | apply State.freeHandle_kept | apply State.xptStatus_kept | apply State.decrefs_kept | exact Kept.refl _ _
    | ((with_reducible refine Kept.build ?_ ?_ ?_ ?_); rotate_left; exact rfl; exact rfl; exact rfl; fail_if_success split)
    | split

theorem State.newQp_kept {ps : List Part} {s t : State} (a1 a2 a3 a4 a5 a6 a7 a8 a9 a10 a11 a12 a13) (h : Kept ps s t) (hp : partsIn [.free, .xpt, .reg 4] ps = true) : Kept ps s (State.newQp t a1 a2 a3 a4 a5 a6 a7 a8 a9 a10 a11 a12 a13) := by
  refine h.lift hp ?_
  clear h hp
  unfold State.newQp
  repeat' first
    | exact rfl
    | with_reducible first | apply State.draw_kept | apply State.pinQp_kept | apply State.xptStatus_kept | apply State.setQp_kept | apply State.geckoTouch_kept | exact Kept.refl _ _

theorem State.enterRts_kept {ps : List Part} {s t : State} (a1) (h : Kept ps s t) (hp : partsIn [.cnt, .outbox, .xpt, .reg 21] ps = true) : Kept ps s (State.enterRts t a1) := by
  refine h.lift hp ?_
  clear h hp
  unfold State.enterRts
  repeat' first
    | exact rfl
    | with_reducible first | apply State.pumpSq_kept | apply State.modQp_kept | exact Kept.refl _ _

theorem State.cmQp_kept {ps : List Part} {s t : State} {a1 a2} {run : Qp → State} (h : Kept ps s t) (k : ∀ q, Kept ps s (run q)) : Kept ps s (State.cmQp t a1 a2 run) := by
  unfold State.cmQp
  split
  · exact Kept.ite (k _) h
  · exact h

theorem State.greet_kept {ps : List Part} {s t : State} (a1) (h : Kept ps s t) (hp : partsIn [.outbox, .xpt] ps = true) : Kept ps s (State.greet t a1) := by
  refine h.lift hp ?_
  clear h hp
  unfold State.greet
  repeat' first
    | (extract_lets +onlyGivenNames x; subst x)
    | with_reducible apply Kept.ite
    | exact rfl
    | with_reducible first | apply State.modQp_kept | apply State.emit_kept | exact Kept.refl _ _
    | split

theorem State.drainQp_kept {ps : List Part} {s t : State} (a1) (h : Kept ps s t) (hp : partsIn [.cmd, .cmp, .cnt, .evt, .fsp, .outbox, .win, .xpt, .reg 4, .reg 7, .reg 20, .reg 21] ps = true) : Kept ps s (State.drainQp t a1) := by
  refine h.lift hp ?_
  clear h hp
  unfold State.drainQp
  repeat' first
    | with_reducible assumption
    | (extract_lets +onlyGivenNames x; refine Kept.cut x ?_ ?_ <;> first | (intro hx; clear_value x) | (unfold x; clear x))
    | (extract_lets +onlyGivenNames x; subst x)
    | with_reducible apply Kept.ite
    | exact rfl
    | with_reducible first | apply State.wqeDone_kept | apply State.modQp_kept | apply State.xptStatus_kept | apply State.loseQueue_kept | exact Kept.refl _ _ | apply Kept.foldl
    | split
    | (intro _; intros; try dsimp -zeta only)

theorem State.windowViol_kept {ps : List Part} {s t : State} (a1 a2) (h : Kept ps s t) (hp : partsIn [.cnt, .evt, .reg 5, .reg 20, .reg 21] ps = true) : Kept ps s (State.windowViol t a1 a2) := by
  refine h.lift hp ?_
  clear h hp
  unfold State.windowViol
  repeat' first
    | with_reducible assumption
    | (extract_lets +onlyGivenNames x; refine Kept.cut x ?_ ?_ <;> first | (intro hx; clear_value x) | (unfold x; clear x))
    | exact rfl
    | with_reducible first | apply State.bump_kept | apply State.raiseLim_kept | apply State.count_kept | exact Kept.refl _ _

theorem State.placeBlock_kept {ps : List Part} {s t : State} (a1 a2 a3 a4 a5) (h : Kept ps s t) (hp : partsIn [.cnt, .dram, .win, .reg 5, .reg 21] ps = true) :
    Kept ps s (State.placeBlock t a1 a2 a3 a4 a5) := by
  unfold State.placeBlock
  extract_lets x
  have hx : Kept ps s x := State.modList_kept _ _ _ h (within_trans rfl hp)
  clear_value x
  refine Kept.ite ?_ ?_
  · split
    · exact Kept.setDram hx (within_trans rfl hp) (wf_memWriteList _ _ _)
    · exact hx
  · split
    have hu : Kept ps s ‹State› := by
      revert ‹_ = (_, _)›
      split
      · intro e; cases e; exact hx
      · intro e; exact State.newBlock_kept_eq e hx (within_trans rfl hp)
    exact State.modBlk_kept _ _ hu (within_trans rfl hp)

theorem State.placeWindow_kept {ps : List Part} {s t : State} (a1 a2 a3 a4 a5) (h : Kept ps s t) (hp : partsIn [.cnt, .dram, .win, .reg 5, .reg 21] ps = true) : Kept ps s (State.placeWindow a1 a2 a3 a4 a5 t) := by
  refine h.lift hp ?_
  clear h hp
  have key : ∀ u, Kept [.cnt, .dram, .win, .reg 5, .reg 21] t u → Kept [.cnt, .dram, .win, .reg 5, .reg 21] t (State.placeWindow a1 a2 a3 a4 a5 u) := by
    induction a1 generalizing a2 a3 a4 a5 with
    | zero => intro u hu; unfold State.placeWindow; exact hu
    | succ n ih =>
      intro u hu
      unfold State.placeWindow
      repeat' first
        | with_reducible first | assumption | apply ih
        | (extract_lets +onlyGivenNames x; subst x)
        | exact rfl
        | with_reducible apply State.placeBlock_kept
        | split
  exact key t (Kept.refl _ _)

theorem State.place_kept {ps : List Part} {s t : State} (a1 a2 a3 a4) (h : Kept ps s t) (hp : partsIn [.cnt, .dram, .win, .reg 5, .reg 21] ps = true) : Kept ps s (State.place t a1 a2 a3 a4) := by
  refine h.lift hp ?_
  clear h hp
  unfold State.place
  repeat' first
    | exact rfl
    | with_reducible first | apply State.placeWindow_kept | exact Kept.refl _ _

theorem State.nextTag_kept {ps : List Part} {s t : State} (a1) (h : Kept ps s t) (hp : partsIn [.free, .win] ps = true) : Kept ps s (State.nextTag t a1).2 := by
  refine h.lift hp ?_
  clear h hp
  unfold State.nextTag
  repeat' first
    | (extract_lets +onlyGivenNames x; subst x)
    | exact rfl
    | with_reducible first | apply State.draw_kept | exact Kept.refl _ _
    | ((with_reducible refine Kept.build ?_ ?_ ?_ ?_); rotate_left; exact rfl; exact rfl; exact rfl; fail_if_success split)
    | split

theorem State.nextTag_kept_eq {ps : List Part} {s t u : State} {a1} {x} (e : State.nextTag t a1 = (x, u)) (h : Kept ps s t) (hp : partsIn [.free, .win] ps = true) : Kept ps s u := by
  have k := State.nextTag_kept (ps := ps) (s := s) (t := t) a1 h hp
  rw [e] at k
  exact k

theorem State.openWindow_kept {ps : List Part} {s t : State} (a1 a2 a3 a4 a5 a6 a7 a8 a9 a10) (h : Kept ps s t) (hp : partsIn [.free, .win] ps = true) : Kept ps s (State.openWindow t a1 a2 a3 a4 a5 a6 a7 a8 a9 a10) := by
  refine h.lift hp ?_
  clear h hp
  unfold State.openWindow
  repeat' first
    | (extract_lets +onlyGivenNames x; subst x)
    | exact rfl
    | with_reducible first | apply State.nextTag_kept | apply State.takeFree_kept | apply State.winChange_kept | exact Kept.refl _ _
    | ((with_reducible refine Kept.build ?_ ?_ ?_ ?_); rotate_left; exact rfl; exact rfl; exact rfl; fail_if_success split)

theorem State.quota_kept {ps : List Part} {s t : State} (a1 a2 a3) (h : Kept ps s t) (hp : partsIn [.cnt, .evt, .outbox, .sep, .reg 19, .reg 20, .reg 21] ps = true) : Kept ps s (State.quota t a1 a2 a3) := by
  refine h.lift hp ?_
  clear h hp
  unfold State.quota
  repeat' first
    | exact rfl
    | with_reducible first | apply State.raiseLim_kept | apply State.replyErr_kept | exact Kept.refl _ _

theorem execWindowOpen_kept {ps : List Part} {s t : State} (a1 a2 a3 a4 a5 a6 a7 a8 a9) (h : Kept ps s t) (hp : partsIn [.cnt, .deferred, .evt, .free, .fsp, .outbox, .sep, .win, .reg 8, .reg 19, .reg 20, .reg 21] ps = true) : KeptOut ps s (execWindowOpen a1 a2 a3 a4 a5 a6 a7 a8 a9 t) := by
  refine KeptOut.lift h hp ?_
  clear h hp
  unfold execWindowOpen
  repeat' first
    | with_reducible assumption
    | (extract_lets +onlyGivenNames x; subst x)
    | with_reducible apply Kept.ite
    | exact rfl
    | with_reducible first | apply State.replyErr_kept | apply State.openWindow_kept | apply State.quota_kept | apply State.admin_kept | apply KeptOut.next | refine State.allocMany_kept_eq ‹_› ?_ rfl | exact Kept.refl _ _
    | split
    | (intro _; intros; try dsimp -zeta only)

theorem execWindowClose_kept {ps : List Part} {s t : State} (a1 a2 a3) (h : Kept ps s t) (hp : partsIn [.cnt, .deferred, .evt, .outbox, .sep, .win, .reg 19, .reg 21] ps = true) : KeptOut ps s (execWindowClose a1 a2 a3 t) := by
  refine KeptOut.lift h hp ?_
  clear h hp
  unfold execWindowClose
  repeat' first
    | with_reducible assumption
    | (extract_lets +onlyGivenNames x; subst x)
    | with_reducible apply Kept.ite
    | exact rfl
    | with_reducible first | apply State.replyErr_kept | apply State.revoke_kept | apply State.admin_kept | apply KeptOut.next | exact Kept.refl _ _
    | (intro _; intros; try dsimp -zeta only)

theorem execWindowRevokeDrained_kept {ps : List Part} {s t : State} (a1) (h : Kept ps s t) (hp : partsIn [.cnt, .evt, .fsp, .outbox, .sep, .win, .reg 19, .reg 20, .reg 21] ps = true) : KeptOut ps s (execWindowRevokeDrained a1 t) := by
  refine KeptOut.lift h hp ?_
  clear h hp
  unfold execWindowRevokeDrained
  repeat' first
    | with_reducible assumption
    | (extract_lets +onlyGivenNames x; refine Kept.cut x ?_ ?_ <;> first | (intro hx; clear_value x) | (unfold x; clear x))
    | (extract_lets +onlyGivenNames x; subst x)
    | with_reducible apply Kept.ite
    | exact rfl
    | with_reducible first | apply State.freeWindow_kept | apply State.replyOk_kept | apply State.raise_kept | apply State.winChange_kept | exact Kept.refl _ _
    | ((with_reducible refine Kept.build ?_ ?_ ?_ ?_); rotate_left; exact rfl; exact rfl; exact rfl; fail_if_success split)
    | split

theorem execWindowDescriptorRead_kept {ps : List Part} {s t : State} (a1) (h : Kept ps s t) (hp : partsIn [.evt, .reg 5, .reg 20] ps = true) : KeptOut ps s (execWindowDescriptorRead a1 t) := by
  refine KeptOut.lift h hp ?_
  clear h hp
  unfold execWindowDescriptorRead
  repeat' first
    | with_reducible assumption
    | (extract_lets +onlyGivenNames x; refine Kept.cut x ?_ ?_ <;> first | (intro hx; clear_value x) | (unfold x; clear x))
    | (extract_lets +onlyGivenNames x; subst x)
    | exact rfl
    | with_reducible first | apply State.wrW_kept | apply State.acts_kept | exact Kept.refl _ _ | apply Kept.foldl
    | (intro _; intros; try dsimp -zeta only)

theorem execWindowViolationClear_kept {ps : List Part} {s t : State} (h : Kept ps s t) (hp : partsIn [.deferred] ps = true) : KeptOut ps s (execWindowViolationClear t) := by
  refine KeptOut.lift h hp ?_
  clear h hp
  unfold execWindowViolationClear
  repeat' first
    | exact rfl
    | with_reducible first | apply State.defer_kept | apply State.up_kept | apply KeptOut.next | exact Kept.refl _ _

theorem State.congested_kept {ps : List Part} {s t : State} (a1) (h : Kept ps s t) (hp : partsIn [.cnt, .outbox, .xpt, .reg 21] ps = true) : Kept ps s (State.congested t a1) := by
  refine h.lift hp ?_
  clear h hp
  unfold State.congested
  repeat' first
    | with_reducible apply Kept.ite
    | exact rfl
    | with_reducible first | apply State.modQp_kept | apply State.count_kept | apply State.emit_kept | exact Kept.refl _ _
    | split

theorem State.acknowledge_kept {ps : List Part} {s t : State} (a1 a2 a3) (h : Kept ps s t) (hp : partsIn [.outbox, .xpt] ps = true) : Kept ps s (State.acknowledge t a1 a2 a3) := by
  refine h.lift hp ?_
  clear h hp
  unfold State.acknowledge
  repeat' first
    | with_reducible apply Kept.ite
    | exact rfl
    | with_reducible first | apply State.modQp_kept | apply State.emit_kept | exact Kept.refl _ _

theorem State.nak_kept {ps : List Part} {s t : State} (a1 a2) (h : Kept ps s t) (hp : partsIn [.cnt, .outbox, .xpt, .reg 21] ps = true) : Kept ps s (State.nak t a1 a2) := by
  refine h.lift hp ?_
  clear h hp
  unfold State.nak
  repeat' first
    | with_reducible apply Kept.ite
    | exact rfl
    | with_reducible first | apply State.modQp_kept | apply State.count_kept | apply State.emit_kept | exact Kept.refl _ _
    | split

theorem State.inSequence_kept {ps : List Part} {s t : State} {a1 a2} {f d : Qp → State} (h : Kept ps s t) (kf : ∀ q, Kept ps s (f q)) (kd : ∀ q, Kept ps s (d q))
    (hp : partsIn [.cnt, .outbox, .xpt, .reg 21] ps = true) : Kept ps s (State.inSequence t a1 a2 f d) := by
  unfold State.inSequence
  split
  · exact Kept.ite (Kept.ite (kf _) (Kept.ite (kd _) (State.nak_kept _ _ h hp))) h
  · exact h

theorem State.accepted_kept {ps : List Part} {s t : State} (a1 a2 a3) (h : Kept ps s t) (hp : partsIn [.xpt] ps = true) : Kept ps s (State.accepted t a1 a2 a3) := by
  refine h.lift hp ?_
  clear h hp
  unfold State.accepted
  repeat' first
    | exact rfl
    | with_reducible first | apply State.modQp_kept | exact Kept.refl _ _

theorem State.metered_kept {ps : List Part} {s t : State} {a1 a2} {run : State → State} (h : Kept ps s t) (k : ∀ x, Kept ps s x → Kept ps s (run x))
    (hp : partsIn [.cnt, .evt, .outbox, .sch, .xpt, .reg 6, .reg 20, .reg 21] ps = true) : Kept ps s (State.metered t a1 a2 run) := by
  unfold State.metered
  split
  · split
    have hu := State.police_kept_eq ‹_› h (within_trans rfl hp)
    have hc := fun i => State.congested_kept i hu (within_trans rfl hp)
    split
    · exact hu
    · exact k _ (hc _)
    · exact k _ (Kept.ite (hc _) hu)
  · exact h

theorem State.placedFrame_kept {ps : List Part} {s t : State} (a1 a2) (h : Kept ps s t) (hp : partsIn [.sch] ps = true) : Kept ps s (State.placedFrame t a1 a2) := by
  refine h.lift hp ?_
  clear h hp
  unfold State.placedFrame
  repeat' first
    | exact rfl
    | with_reducible first | apply State.chargeIngest_kept | exact Kept.refl _ _
    | split

theorem State.runSend_kept {ps : List Part} {s t : State} (a1 a2 a3) (h : Kept ps s t) (hp : partsIn [.cnt, .evt, .fsp, .outbox, .sch, .xpt, .reg 6, .reg 8, .reg 20, .reg 21] ps = true) : Kept ps s (State.runSend t a1 a2 a3) := by
  unfold State.runSend
  refine State.metered_kept h (fun x hx => State.inSequence_kept hx (fun q => ?_) (fun q => State.acknowledge_kept _ _ _ hx (within_trans rfl hp)) (within_trans rfl hp)) (within_trans rfl hp)
  have hk : KeptOpt ps s (fun r => r.2.2) (if x.roleLevel 2 = 3 then Option.none else x.alloc 2 0 3) := by
    split
    · trivial
    · exact State.alloc_kept _ _ _ hx (within_trans rfl hp)
  revert hk
  generalize (if x.roleLevel 2 = 3 then Option.none else x.alloc 2 0 3) = o
  intro hk
  cases o with
  | none => exact State.count_kept _ _ _ (State.emit_kept _ _ hx (within_trans rfl hp)) (within_trans rfl hp)
  | some r => exact State.acknowledge_kept _ _ _ (State.accepted_kept _ _ _ (State.placedFrame_kept _ _ (State.modQp_kept _ _ hk (within_trans rfl hp)) (within_trans rfl hp)) (within_trans rfl hp)) (within_trans rfl hp)

theorem State.runWrite_kept {ps : List Part} {s t : State} (a1 a2 a3 a4 a5 a6 a7 a8) (h : Kept ps s t) (hp : partsIn [.cnt, .dram, .evt, .outbox, .sch, .win, .xpt, .reg 5, .reg 6, .reg 20, .reg 21] ps = true) : Kept ps s (State.runWrite t a1 a2 a3 a4 a5 a6 a7 a8) := by
  refine h.lift hp ?_
  clear h hp
  unfold State.runWrite
  repeat' first
    | with_reducible assumption
    | (extract_lets +onlyGivenNames x; refine Kept.cut x ?_ ?_ <;> first | (intro hx; clear_value x) | (unfold x; clear x))
    | (extract_lets +onlyGivenNames x; subst x)
    | exact rfl
    | with_reducible first | apply State.modQp_kept | apply State.placedFrame_kept | apply State.place_kept | apply State.acknowledge_kept | apply State.accepted_kept | apply State.nak_kept | apply State.inSequence_kept | apply State.metered_kept | apply State.windowViol_kept | exact Kept.refl _ _
    | split
    | (intro _; intros; try dsimp -zeta only)

theorem State.runRead_kept {ps : List Part} {s t : State} (a1 a2 a3 a4 a5 a6) (h : Kept ps s t) (hp : partsIn [.cnt, .evt, .outbox, .xpt, .reg 5, .reg 20, .reg 21] ps = true) : Kept ps s (State.runRead t a1 a2 a3 a4 a5 a6) := by
  refine h.lift hp ?_
  clear h hp
  unfold State.runRead
  repeat' first
    | with_reducible assumption
    | (extract_lets +onlyGivenNames x; refine Kept.cut x ?_ ?_ <;> first | (intro hx; clear_value x) | (unfold x; clear x))
    | (extract_lets +onlyGivenNames x; subst x)
    | with_reducible apply Kept.ite
    | exact rfl
    | with_reducible first | apply State.congested_kept | apply State.accepted_kept | apply State.nak_kept | apply State.inSequence_kept | apply State.windowViol_kept | apply State.emit_kept | exact Kept.refl _ _
    | split
    | (intro _; intros; try dsimp -zeta only)

theorem State.fillPulled_kept {ps : List Part} {s t : State} (a1 a2 a3) (h : Kept ps s t) (hp : partsIn [.cmd, .win] ps = true) : Kept ps s (State.fillPulled t a1 a2 a3) := by
  refine h.lift hp ?_
  clear h hp
  unfold State.fillPulled
  repeat' first
    | with_reducible assumption
    | (extract_lets +onlyGivenNames x; subst x)
    | with_reducible apply Kept.ite
    | exact rfl
    | with_reducible first | apply State.modBlk_kept | apply State.setEntry_kept | exact Kept.refl _ _ | apply Kept.foldl
    | split
    | (intro _; intros; try dsimp -zeta only)

theorem State.runReadResponse_kept {ps : List Part} {s t : State} (a1 a2 a3) (h : Kept ps s t) (hp : partsIn [.cmd, .cnt, .dram, .evt, .outbox, .sch, .win, .xpt, .reg 4, .reg 5, .reg 6, .reg 20, .reg 21] ps = true) : Kept ps s (State.runReadResponse t a1 a2 a3) := by
  refine h.lift hp ?_
  clear h hp
  unfold State.runReadResponse
  repeat' first
    | with_reducible assumption
    | (extract_lets +onlyGivenNames x; refine Kept.cut x ?_ ?_ <;> first | (intro hx; clear_value x) | (unfold x; clear x))
    | (extract_lets +onlyGivenNames x; subst x)
    | with_reducible apply Kept.ite
    | exact rfl
    | with_reducible first | apply State.fillPulled_kept | apply State.modQp_kept | apply State.placedFrame_kept | apply State.place_kept | apply State.ackUpTo_kept | apply State.setQp_kept | apply State.metered_kept | exact Kept.refl _ _
    | split
    | (intro _; intros; try dsimp -zeta only)

theorem State.runAck_kept {ps : List Part} {s t : State} (a1 a2 a3 a4) (h : Kept ps s t) (hp : partsIn [.cnt, .outbox, .xpt, .reg 4, .reg 21] ps = true) : Kept ps s (State.runAck t a1 a2 a3 a4) := by
  refine h.lift hp ?_
  clear h hp
  unfold State.runAck
  repeat' first
    | with_reducible assumption
    | (extract_lets +onlyGivenNames x; refine Kept.cut x ?_ ?_ <;> first | (intro hx; clear_value x) | (unfold x; clear x))
    | (extract_lets +onlyGivenNames x; subst x)
    | with_reducible apply Kept.ite
    | exact rfl
    | with_reducible first | apply State.modQp_kept | apply State.ackUpTo_kept | exact Kept.refl _ _
    | split

theorem State.runNak_kept {ps : List Part} {s t : State} (a1 a2 a3) (h : Kept ps s t) (hp : partsIn [.cmd, .cmp, .cnt, .evt, .fsp, .outbox, .win, .xpt, .reg 4, .reg 7, .reg 20, .reg 21] ps = true) : Kept ps s (State.runNak t a1 a2 a3) := by
  refine h.lift hp ?_
  clear h hp
  unfold State.runNak
  repeat' first
    | with_reducible assumption
    | (extract_lets +onlyGivenNames x; refine Kept.cut x ?_ ?_ <;> first | (intro hx; clear_value x) | (unfold x; clear x))
    | with_reducible apply Kept.ite
    | exact rfl
    | with_reducible first | apply State.retryExhausted_kept | apply State.ackUpTo_kept | apply State.count_kept | apply State.retryFrom_kept | exact Kept.refl _ _
    | split

theorem State.runRnr_kept {ps : List Part} {s t : State} (a1 a2 a3) (h : Kept ps s t) (hp : partsIn [.cmd, .cmp, .cnt, .evt, .fsp, .outbox, .win, .xpt, .reg 4, .reg 7, .reg 20, .reg 21] ps = true) : Kept ps s (State.runRnr t a1 a2 a3) := by
  refine h.lift hp ?_
  clear h hp
  unfold State.runRnr
  repeat' first
    | with_reducible assumption
    | (extract_lets +onlyGivenNames x; refine Kept.cut x ?_ ?_ <;> first | (intro hx; clear_value x) | (unfold x; clear x))
    | with_reducible apply Kept.ite
    | exact rfl
    | with_reducible first | apply State.retryExhausted_kept | apply State.modQp_kept | apply State.ackUpTo_kept | apply State.count_kept | exact Kept.refl _ _
    | split

theorem State.runPacket_kept {ps : List Part} {s t : State} (a1 a2 a3) (h : Kept ps s t) (hp : partsIn [.cmd, .cmp, .cnt, .dram, .evt, .fsp, .outbox, .sch, .win, .xpt, .reg 4, .reg 5, .reg 6, .reg 7, .reg 8, .reg 20, .reg 21] ps = true) : Kept ps s (State.runPacket t a1 a2 a3) := by
  refine h.lift hp ?_
  clear h hp
  unfold State.runPacket
  repeat' first
    | with_reducible assumption
    | exact rfl
    | with_reducible first | apply State.runRead_kept | apply State.runSend_kept | apply State.modQp_kept | apply State.runReadResponse_kept | apply State.runAck_kept | apply State.runRnr_kept | apply State.nak_kept | apply State.runWrite_kept | apply State.runNak_kept | apply State.inSequence_kept | apply State.metered_kept | apply State.count_kept | exact Kept.refl _ _
    | split
    | (intro _; intros; try dsimp -zeta only)

theorem State.park_kept {ps : List Part} {s t : State} (a1 a2 a3) (h : Kept ps s t) (hp : partsIn [.cnt, .evt, .xpt, .reg 4, .reg 20, .reg 21] ps = true) : Kept ps s (State.park t a1 a2 a3) := by
  refine h.lift hp ?_
  clear h hp
  unfold State.park
  repeat' first
    | with_reducible assumption
    | (extract_lets +onlyGivenNames x; refine Kept.cut x ?_ ?_ <;> first | (intro hx; clear_value x) | (unfold x; clear x))
    | (extract_lets +onlyGivenNames x; subst x)
    | with_reducible apply Kept.ite
    | exact rfl
    | with_reducible first | apply State.bump_kept | apply State.raiseLim_kept | apply State.wr_kept | apply State.count_kept | apply State.bumpWrap_kept | exact Kept.refl _ _
    | ((with_reducible refine Kept.build ?_ ?_ ?_ ?_); rotate_left; exact rfl; exact rfl; exact rfl; fail_if_success split)

theorem State.receive_kept {ps : List Part} {s t : State} (a1 a2 a3) (h : Kept ps s t) (hp : partsIn [.cmd, .cmp, .cnt, .dram, .evt, .fsp, .outbox, .sch, .win, .xpt, .reg 4, .reg 5, .reg 6, .reg 7, .reg 8, .reg 20, .reg 21] ps = true) : Kept ps s (State.receive t a1 a2 a3) := by
  refine h.lift hp ?_
  clear h hp
  unfold State.receive
  repeat' first
    | with_reducible apply Kept.ite
    | exact rfl
    | with_reducible first | apply State.badQpn_kept | apply State.geckoTouch_kept | apply State.count_kept | apply State.bumpWrap_kept | apply State.runPacket_kept | apply State.park_kept | exact Kept.refl _ _
    | split

theorem State.receivePkt_kept {ps : List Part} {s t : State} (a1 a2 a3) (h : Kept ps s t) (hp : partsIn [.cmd, .cmp, .cnt, .deferred, .dram, .evt, .fsp, .outbox, .sch, .win, .xpt, .reg 4, .reg 5, .reg 6, .reg 7, .reg 8, .reg 20, .reg 21] ps = true) : KeptOut ps s (State.receivePkt t a1 a2 a3) := by
  refine KeptOut.lift h hp ?_
  clear h hp
  unfold State.receivePkt
  repeat' first
    | with_reducible apply Kept.ite
    | exact rfl
    | with_reducible first | apply State.receive_kept | apply State.defer_kept | apply KeptOut.guard | exact Kept.refl _ _

theorem State.receiveQpn_kept {ps : List Part} {s t : State} (a1 a2) (h : Kept ps s t) (hp : partsIn [.cmd, .cmp, .cnt, .dram, .evt, .fsp, .outbox, .sch, .win, .xpt, .reg 4, .reg 5, .reg 6, .reg 7, .reg 8, .reg 20, .reg 21] ps = true) : KeptOut ps s (State.receiveQpn t a1 a2) := by
  refine KeptOut.lift h hp ?_
  clear h hp
  unfold State.receiveQpn
  repeat' first
    | with_reducible apply Kept.ite
    | exact rfl
    | with_reducible first | apply State.receive_kept | apply State.badQpn_kept | apply KeptOut.next | exact Kept.refl _ _
    | split

theorem execSendRx_kept {ps : List Part} {s t : State} (a1 a2 a3) (h : Kept ps s t) (hp : partsIn [.cmd, .cmp, .cnt, .deferred, .dram, .evt, .fsp, .outbox, .sch, .win, .xpt, .reg 4, .reg 5, .reg 6, .reg 7, .reg 8, .reg 20, .reg 21] ps = true) : KeptOut ps s (execSendRx a1 a2 a3 t) := by
  refine KeptOut.lift h hp ?_
  clear h hp
  unfold execSendRx
  repeat' first
    | exact rfl
    | with_reducible first | apply State.receivePkt_kept | exact Kept.refl _ _

theorem execRdmaWriteRx_kept {ps : List Part} {s t : State} (a1 a2 a3 a4 a5 a6) (h : Kept ps s t) (hp : partsIn [.cmd, .cmp, .cnt, .deferred, .dram, .evt, .fsp, .outbox, .sch, .win, .xpt, .reg 4, .reg 5, .reg 6, .reg 7, .reg 8, .reg 20, .reg 21] ps = true) : KeptOut ps s (execRdmaWriteRx a1 a2 a3 a4 a5 a6 t) := by
  refine KeptOut.lift h hp ?_
  clear h hp
  unfold execRdmaWriteRx
  repeat' first
    | exact rfl
    | with_reducible first | apply State.receivePkt_kept | exact Kept.refl _ _

theorem execRdmaReadRequestRx_kept {ps : List Part} {s t : State} (a1 a2 a3 a4) (h : Kept ps s t) (hp : partsIn [.cmd, .cmp, .cnt, .deferred, .dram, .evt, .fsp, .outbox, .sch, .win, .xpt, .reg 4, .reg 5, .reg 6, .reg 7, .reg 8, .reg 20, .reg 21] ps = true) : KeptOut ps s (execRdmaReadRequestRx a1 a2 a3 a4 t) := by
  refine KeptOut.lift h hp ?_
  clear h hp
  unfold execRdmaReadRequestRx
  repeat' first
    | exact rfl
    | with_reducible first | apply State.receivePkt_kept | exact Kept.refl _ _

theorem execRdmaReadResponseRx_kept {ps : List Part} {s t : State} (a1 a2 a3) (h : Kept ps s t) (hp : partsIn [.cmd, .cmp, .cnt, .deferred, .dram, .evt, .fsp, .outbox, .sch, .win, .xpt, .reg 4, .reg 5, .reg 6, .reg 7, .reg 8, .reg 20, .reg 21] ps = true) : KeptOut ps s (execRdmaReadResponseRx a1 a2 a3 t) := by
  refine KeptOut.lift h hp ?_
  clear h hp
  unfold execRdmaReadResponseRx
  repeat' first
    | exact rfl
    | with_reducible first | apply State.receivePkt_kept | exact Kept.refl _ _

theorem execSendWithInvalidateRx_kept {ps : List Part} {s t : State} (a1) (h : Kept ps s t) (hp : partsIn [.cmd, .cmp, .cnt, .deferred, .dram, .evt, .fsp, .outbox, .sch, .win, .xpt, .reg 4, .reg 5, .reg 6, .reg 7, .reg 8, .reg 20, .reg 21] ps = true) : KeptOut ps s (execSendWithInvalidateRx a1 t) := by
  refine KeptOut.lift h hp ?_
  clear h hp
  unfold execSendWithInvalidateRx
  repeat' first
    | exact rfl
    | with_reducible first | apply State.receivePkt_kept | exact Kept.refl _ _

theorem execAckRx_kept {ps : List Part} {s t : State} (a1 a2 a3 a4) (h : Kept ps s t) (hp : partsIn [.cmd, .cmp, .cnt, .dram, .evt, .fsp, .outbox, .sch, .win, .xpt, .reg 4, .reg 5, .reg 6, .reg 7, .reg 8, .reg 20, .reg 21] ps = true) : KeptOut ps s (execAckRx a1 a2 a3 a4 t) := by
  refine KeptOut.lift h hp ?_
  clear h hp
  unfold execAckRx
  repeat' first
    | exact rfl
    | with_reducible first | apply State.receiveQpn_kept | exact Kept.refl _ _

theorem execNakRx_kept {ps : List Part} {s t : State} (a1 a2 a3) (h : Kept ps s t) (hp : partsIn [.cmd, .cmp, .cnt, .dram, .evt, .fsp, .outbox, .sch, .win, .xpt, .reg 4, .reg 5, .reg 6, .reg 7, .reg 8, .reg 20, .reg 21] ps = true) : KeptOut ps s (execNakRx a1 a2 a3 t) := by
  refine KeptOut.lift h hp ?_
  clear h hp
  unfold execNakRx
  repeat' first
    | exact rfl
    | with_reducible first | apply State.receiveQpn_kept | exact Kept.refl _ _

theorem execRnrNakRx_kept {ps : List Part} {s t : State} (a1 a2 a3) (h : Kept ps s t) (hp : partsIn [.cmd, .cmp, .cnt, .dram, .evt, .fsp, .outbox, .sch, .win, .xpt, .reg 4, .reg 5, .reg 6, .reg 7, .reg 8, .reg 20, .reg 21] ps = true) : KeptOut ps s (execRnrNakRx a1 a2 a3 t) := by
  refine KeptOut.lift h hp ?_
  clear h hp
  unfold execRnrNakRx
  repeat' first
    | exact rfl
    | with_reducible first | apply State.receiveQpn_kept | exact Kept.refl _ _

theorem execCnpRx_kept {ps : List Part} {s t : State} (a1) (h : Kept ps s t) (hp : partsIn [.cmd, .cmp, .cnt, .dram, .evt, .fsp, .outbox, .sch, .win, .xpt, .reg 4, .reg 5, .reg 6, .reg 7, .reg 8, .reg 20, .reg 21] ps = true) : KeptOut ps s (execCnpRx a1 t) := by
  refine KeptOut.lift h hp ?_
  clear h hp
  unfold execCnpRx
  repeat' first
    | exact rfl
    | with_reducible first | apply State.receiveQpn_kept | exact Kept.refl _ _

theorem execContextFetchDone_kept {ps : List Part} {s t : State} (a1 a2) (h : Kept ps s t) (hp : partsIn [.cmd, .cmp, .cnt, .dram, .evt, .fsp, .outbox, .sch, .win, .xpt, .reg 4, .reg 5, .reg 6, .reg 7, .reg 8, .reg 20, .reg 21] ps = true) : KeptOut ps s (execContextFetchDone a1 a2 t) := by
  refine KeptOut.lift h hp ?_
  clear h hp
  unfold execContextFetchDone
  repeat' first
    | with_reducible assumption
    | (extract_lets +onlyGivenNames x; refine Kept.cut x ?_ ?_ <;> first | (intro hx; clear_value x) | (unfold x; clear x))
    | (extract_lets +onlyGivenNames x; subst x)
    | with_reducible apply Kept.ite
    | exact rfl
    | with_reducible first | apply State.qpToErr_kept | apply State.raise_kept | apply State.geckoTouch_kept | apply State.runPacket_kept | exact Kept.refl _ _ | apply Kept.foldl
    | ((with_reducible refine Kept.build ?_ ?_ ?_ ?_); rotate_left; exact rfl; exact rfl; exact rfl; fail_if_success split)
    | (intro _; intros; try dsimp -zeta only)

theorem execAckTimeout_kept {ps : List Part} {s t : State} (a1) (h : Kept ps s t) (hp : partsIn [.cmd, .cmp, .cnt, .evt, .fsp, .outbox, .win, .xpt, .reg 4, .reg 7, .reg 20, .reg 21] ps = true) : KeptOut ps s (execAckTimeout a1 t) := by
  refine KeptOut.lift h hp ?_
  clear h hp
  unfold execAckTimeout
  repeat' first
    | with_reducible apply Kept.ite
    | exact rfl
    | with_reducible first | apply State.count_kept | apply State.retryFrom_kept | apply KeptOut.next | exact Kept.refl _ _
    | split

theorem execRnrWaitExpiry_kept {ps : List Part} {s t : State} (a1) (h : Kept ps s t) (hp : partsIn [.cnt, .outbox, .xpt, .reg 21] ps = true) : KeptOut ps s (execRnrWaitExpiry a1 t) := by
  refine KeptOut.lift h hp ?_
  clear h hp
  unfold execRnrWaitExpiry
  repeat' first
    | with_reducible apply Kept.ite
    | exact rfl
    | with_reducible first | apply State.pumpSq_kept | apply State.modQp_kept | apply State.count_kept | apply State.emit_kept | apply KeptOut.next | exact Kept.refl _ _
    | split

theorem State.postWqe_kept {ps : List Part} {s t : State} (a1 a2) (h : Kept ps s t) (hp : partsIn [.cnt, .evt, .outbox, .xpt, .reg 4, .reg 20, .reg 21] ps = true) : Kept ps s (State.postWqe t a1 a2) := by
  refine h.lift hp ?_
  clear h hp
  unfold State.postWqe
  repeat' first
    | with_reducible assumption
    | (extract_lets +onlyGivenNames x; refine Kept.cut x ?_ ?_ <;> first | (intro hx; clear_value x) | (unfold x; clear x))
    | with_reducible apply Kept.ite
    | exact rfl
    | with_reducible first | apply State.wqeDone_kept | apply State.pumpSq_kept | apply State.modQp_kept | apply State.xptStatus_kept | apply State.raise_kept | exact Kept.refl _ _
    | split

theorem execWqePost_kept {ps : List Part} {s t : State} (a1 a2) (h : Kept ps s t) (hp : partsIn [.cnt, .evt, .outbox, .xpt, .reg 4, .reg 20, .reg 21] ps = true) : KeptOut ps s (execWqePost a1 a2 t) := by
  refine KeptOut.lift h hp ?_
  clear h hp
  unfold execWqePost
  repeat' first
    | exact rfl
    | with_reducible first | apply State.postWqe_kept | apply State.up_kept | apply KeptOut.next | exact Kept.refl _ _

theorem execTriggerTimeout_kept {ps : List Part} {s t : State} (a1) (h : Kept ps s t) (hp : partsIn [.cnt, .evt, .outbox, .xpt, .reg 4, .reg 20, .reg 21] ps = true) : KeptOut ps s (execTriggerTimeout a1 t) := by
  refine KeptOut.lift h hp ?_
  clear h hp
  unfold execTriggerTimeout
  repeat' first
    | with_reducible assumption
    | (extract_lets +onlyGivenNames x; refine Kept.cut x ?_ ?_ <;> first | (intro hx; clear_value x) | (unfold x; clear x))
    | with_reducible apply Kept.ite
    | exact rfl
    | with_reducible first | apply State.wqeDone_kept | apply State.pumpSq_kept | apply State.xptStatus_kept | apply State.raise_kept | apply State.setQp_kept | apply State.count_kept | apply KeptOut.next | exact Kept.refl _ _
    | split

theorem execQpForceError_kept {ps : List Part} {s t : State} (a1 a2) (h : Kept ps s t) (hp : partsIn [.deferred, .evt, .reg 20] ps = true) : KeptOut ps s (execQpForceError a1 a2 t) := by
  refine KeptOut.lift h hp ?_
  clear h hp
  unfold execQpForceError
  repeat' first
    | with_reducible apply Kept.ite
    | exact rfl
    | with_reducible first | apply State.defer_kept | apply State.violation_kept | apply State.up_kept | apply KeptOut.next | exact Kept.refl _ _

theorem execQpContextRead_kept {ps : List Part} {s t : State} (a1) (h : Kept ps s t) (hp : partsIn [.evt, .free, .reg 4, .reg 20] ps = true) : KeptOut ps s (execQpContextRead a1 t) := by
  refine KeptOut.lift h hp ?_
  clear h hp
  unfold execQpContextRead
  repeat' first
    | with_reducible assumption
    | (extract_lets +onlyGivenNames x; refine Kept.cut x ?_ ?_ <;> first | (intro hx; clear_value x) | (unfold x; clear x))
    | (extract_lets +onlyGivenNames x; subst x)
    | exact rfl
    | with_reducible first | apply State.wrW_kept | apply State.acts_kept | exact Kept.refl _ _ | apply Kept.foldl
    | ((with_reducible refine Kept.build ?_ ?_ ?_ ?_); rotate_left; exact rfl; exact rfl; exact rfl; fail_if_success split)
    | (intro _; intros; try dsimp -zeta only)

theorem execMissPeakClear_kept {ps : List Part} {s t : State} (h : Kept ps s t) (hp : partsIn [.reg 4] ps = true) : KeptOut ps s (execMissPeakClear t) := by
  refine KeptOut.lift h hp ?_
  clear h hp
  unfold execMissPeakClear
  repeat' first
    | exact rfl
    | with_reducible first | apply State.wr_kept | apply State.up_kept | apply KeptOut.next | exact Kept.refl _ _

theorem State.acceptReq_kept {ps : List Part} {s t : State} (a1 a2 a3) (h : Kept ps s t) (hp : partsIn [.evt, .free, .outbox, .sch, .xpt, .reg 4, .reg 5, .reg 6, .reg 9, .reg 20] ps = true) : Kept ps s (State.acceptReq t a1 a2 a3) := by
  refine h.lift hp ?_
  clear h hp
  unfold State.acceptReq
  repeat' first
    | with_reducible assumption
    | (extract_lets +onlyGivenNames x; refine Kept.cut x ?_ ?_ <;> first | (intro hx; clear_value x) | (unfold x; clear x))
    | (extract_lets +onlyGivenNames x; subst x)
    | with_reducible apply Kept.ite
    | exact rfl
    | with_reducible first | apply State.greet_kept | apply State.modQp_kept | apply State.handleBatch_kept | apply State.newQp_kept | apply State.emit_kept | exact Kept.refl _ _

theorem execCmReqRx_kept {ps : List Part} {s t : State} (a1) (h : Kept ps s t) (hp : partsIn [.evt, .free, .outbox, .sch, .xpt, .reg 4, .reg 5, .reg 6, .reg 9, .reg 20] ps = true) : KeptOut ps s (execCmReqRx a1 t) := by
  refine KeptOut.lift h hp ?_
  clear h hp
  unfold execCmReqRx
  repeat' first
    | (extract_lets +onlyGivenNames x; subst x)
    | with_reducible apply Kept.ite
    | exact rfl
    | with_reducible first | apply State.acceptReq_kept | apply State.raise_kept | apply State.emit_kept | apply KeptOut.guard | refine State.takeHandle_kept_eq ‹_› ?_ rfl | exact Kept.refl _ _
    | split

theorem execCmRepRx_kept {ps : List Part} {s t : State} (a1 a2 a3 a4) (h : Kept ps s t) (hp : partsIn [.cnt, .outbox, .xpt, .reg 21] ps = true) : KeptOut ps s (execCmRepRx a1 a2 a3 a4 t) := by
  refine KeptOut.lift h hp ?_
  clear h hp
  unfold execCmRepRx
  repeat' first
    | with_reducible assumption
    | (extract_lets +onlyGivenNames x; refine Kept.cut x ?_ ?_ <;> first | (intro hx; clear_value x) | (unfold x; clear x))
    | exact rfl
    | with_reducible first | apply State.modQp_kept | apply State.enterRts_kept | apply State.emit_kept | apply State.cmQp_kept | exact Kept.refl _ _
    | (intro _; intros; try dsimp -zeta only)

theorem execCmRtuRx_kept {ps : List Part} {s t : State} (a1) (h : Kept ps s t) (hp : partsIn [.cnt, .outbox, .xpt, .reg 21] ps = true) : KeptOut ps s (execCmRtuRx a1 t) := by
  refine KeptOut.lift h hp ?_
  clear h hp
  unfold execCmRtuRx
  repeat' first
    | exact rfl
    | with_reducible first | apply State.enterRts_kept | apply State.cmQp_kept | apply KeptOut.next | exact Kept.refl _ _
    | (intro _; intros; try dsimp -zeta only)

theorem execCmRejRx_kept {ps : List Part} {s t : State} (a1 a2) (h : Kept ps s t) (hp : partsIn [.fsp, .xpt, .reg 4] ps = true) : KeptOut ps s (execCmRejRx a1 a2 t) := by
  refine KeptOut.lift h hp ?_
  clear h hp
  unfold execCmRejRx
  repeat' first
    | exact rfl
    | with_reducible first | apply State.qpReset_kept | apply State.cmQp_kept | apply KeptOut.next | exact Kept.refl _ _
    | (intro _; intros; try dsimp -zeta only)

theorem execCmMraRx_kept {ps : List Part} {s t : State} (a1 a2) (h : Kept ps s t) (hp : partsIn [.xpt] ps = true) : KeptOut ps s (execCmMraRx a1 a2 t) := by
  refine KeptOut.lift h hp ?_
  clear h hp
  unfold execCmMraRx
  repeat' first
    | exact rfl
    | with_reducible first | apply State.modQp_kept | apply State.cmQp_kept | apply KeptOut.next | exact Kept.refl _ _
    | (intro _; intros; try dsimp -zeta only)

theorem execCmDreqRx_kept {ps : List Part} {s t : State} (a1) (h : Kept ps s t) (hp : partsIn [.cmd, .cmp, .cnt, .evt, .fsp, .outbox, .win, .xpt, .reg 4, .reg 7, .reg 20, .reg 21] ps = true) : KeptOut ps s (execCmDreqRx a1 t) := by
  refine KeptOut.lift h hp ?_
  clear h hp
  unfold execCmDreqRx
  repeat' first
    | with_reducible apply Kept.ite
    | exact rfl
    | with_reducible first | apply State.drainQp_kept | apply State.emit_kept | apply State.cmQp_kept | apply KeptOut.next | exact Kept.refl _ _
    | (intro _; intros; try dsimp -zeta only)

theorem execCmDrepRx_kept {ps : List Part} {s t : State} (a1) (h : Kept ps s t) (hp : partsIn [.xpt] ps = true) : KeptOut ps s (execCmDrepRx a1 t) := by
  refine KeptOut.lift h hp ?_
  clear h hp
  unfold execCmDrepRx
  repeat' first
    | exact rfl
    | with_reducible first | apply State.toTimewait_kept | apply State.cmQp_kept | apply KeptOut.next | exact Kept.refl _ _
    | (intro _; intros; try dsimp -zeta only)

theorem State.connectOut_kept {ps : List Part} {s t : State} (a1 a2) (h : Kept ps s t) (hp : partsIn [.evt, .free, .outbox, .sch, .xpt, .reg 4, .reg 5, .reg 6, .reg 9, .reg 20] ps = true) : Kept ps s (State.connectOut t a1 a2) := by
  refine h.lift hp ?_
  clear h hp
  unfold State.connectOut
  repeat' first
    | with_reducible assumption
    | (extract_lets +onlyGivenNames x; refine Kept.cut x ?_ ?_ <;> first | (intro hx; clear_value x) | (unfold x; clear x))
    | exact rfl
    | with_reducible first | apply State.greet_kept | apply State.modQp_kept | apply State.handleBatch_kept | apply State.raise_kept | apply State.newQp_kept | refine State.takeHandle_kept_eq ‹_› ?_ rfl | exact Kept.refl _ _
    | split

theorem execConnectInitiate_kept {ps : List Part} {s t : State} (a1 a2) (h : Kept ps s t) (hp : partsIn [.evt, .free, .outbox, .sch, .xpt, .reg 4, .reg 5, .reg 6, .reg 9, .reg 20] ps = true) : KeptOut ps s (execConnectInitiate a1 a2 t) := by
  refine KeptOut.lift h hp ?_
  clear h hp
  unfold execConnectInitiate
  repeat' first
    | with_reducible apply Kept.ite
    | exact rfl
    | with_reducible first | apply State.connectOut_kept | apply KeptOut.guard | exact Kept.refl _ _

theorem execConnectRetryExpiry_kept {ps : List Part} {s t : State} (a1) (h : Kept ps s t) (hp : partsIn [.evt, .fsp, .outbox, .xpt, .reg 4, .reg 20] ps = true) : KeptOut ps s (execConnectRetryExpiry a1 t) := by
  refine KeptOut.lift h hp ?_
  clear h hp
  unfold execConnectRetryExpiry
  repeat' first
    | with_reducible apply Kept.ite
    | exact rfl
    | with_reducible first | apply State.qpReset_kept | apply State.modQp_kept | apply State.raise_kept | apply State.emit_kept | apply KeptOut.next | exact Kept.refl _ _
    | split

theorem execMraTimerExpiry_kept {ps : List Part} {s t : State} (a1) (h : Kept ps s t) (hp : partsIn [.outbox, .xpt] ps = true) : KeptOut ps s (execMraTimerExpiry a1 t) := by
  refine KeptOut.lift h hp ?_
  clear h hp
  unfold execMraTimerExpiry
  repeat' first
    | with_reducible apply Kept.ite
    | exact rfl
    | with_reducible first | apply State.modQp_kept | apply State.emit_kept | apply KeptOut.next | exact Kept.refl _ _
    | split

theorem execQpDrainDone_kept {ps : List Part} {s t : State} (a1) (h : Kept ps s t) (hp : partsIn [.outbox, .xpt, .reg 4] ps = true) : KeptOut ps s (execQpDrainDone a1 t) := by
  refine KeptOut.lift h hp ?_
  clear h hp
  unfold execQpDrainDone
  repeat' first
    | with_reducible apply Kept.ite
    | exact rfl
    | with_reducible first | apply State.toTimewait_kept | apply State.xptStatus_kept | apply State.emit_kept | apply KeptOut.next | exact Kept.refl _ _
    | split

theorem execQpDrainTimeout_kept {ps : List Part} {s t : State} (a1) (h : Kept ps s t) (hp : partsIn [.outbox, .xpt, .reg 4] ps = true) : KeptOut ps s (execQpDrainTimeout a1 t) := by
  refine KeptOut.lift h hp ?_
  clear h hp
  unfold execQpDrainTimeout
  repeat' first
    | with_reducible apply Kept.ite
    | exact rfl
    | with_reducible first | apply State.toTimewait_kept | apply State.flushSq_kept | apply State.xptStatus_kept | apply State.emit_kept | apply KeptOut.next | exact Kept.refl _ _
    | split

theorem execQpTimewaitExpiry_kept {ps : List Part} {s t : State} (a1) (h : Kept ps s t) (hp : partsIn [.fsp, .win, .xpt, .reg 4] ps = true) : KeptOut ps s (execQpTimewaitExpiry a1 t) := by
  refine KeptOut.lift h hp ?_
  clear h hp
  unfold execQpTimewaitExpiry
  repeat' first
    | with_reducible assumption
    | (extract_lets +onlyGivenNames x; refine Kept.cut x ?_ ?_ <;> first | (intro hx; clear_value x) | (unfold x; clear x))
    | with_reducible apply Kept.ite
    | exact rfl
    | with_reducible first | apply State.qpReset_kept | apply State.revokeWhere_kept | exact Kept.refl _ _
    | split

theorem State.dwrr_kept {ps : List Part} {s t : State} (a1 a2 a3 a4) (h : Kept ps s t) (hp : partsIn [.sch] ps = true) : Kept ps s (State.dwrr t a1 a2 a3 a4).2 := by
  refine h.lift hp ?_
  clear h hp
  unfold State.dwrr
  repeat' first
    | (extract_lets +onlyGivenNames x; subst x)
    | with_reducible exact Kept.refl _ _
    | ((with_reducible refine Kept.build ?_ ?_ ?_ ?_); rotate_left; exact rfl; exact rfl; exact rfl; fail_if_success split)
    | split

theorem State.dwrr_kept_eq {ps : List Part} {s t u : State} {a1 a2 a3 a4} {x} (e : State.dwrr t a1 a2 a3 a4 = (x, u)) (h : Kept ps s t) (hp : partsIn [.sch] ps = true) : Kept ps s u := by
  have k := State.dwrr_kept (ps := ps) (s := s) (t := t) a1 a2 a3 a4 h hp
  rw [e] at k
  exact k

theorem State.sendFrame_kept {ps : List Part} {s t : State} (a1 a2) (h : Kept ps s t) (hp : partsIn [.cnt, .outbox, .sch, .reg 21] ps = true) : Kept ps s (State.sendFrame t a1 a2) := by
  refine h.lift hp ?_
  clear h hp
  unfold State.sendFrame
  repeat' first
    | with_reducible assumption
    | (extract_lets +onlyGivenNames x; refine Kept.cut x ?_ ?_ <;> first | (intro hx; clear_value x) | (unfold x; clear x))
    | (extract_lets +onlyGivenNames x; subst x)
    | exact rfl
    | with_reducible first | apply State.bwAdd_kept | apply State.charge_kept | apply State.count_kept | apply State.emit_kept | exact Kept.refl _ _

theorem State.sendFrom_kept {ps : List Part} {s t : State} (a1 a2 a3) (h : Kept ps s t) (hp : partsIn [.cnt, .outbox, .sch, .reg 21] ps = true) : Kept ps s (State.sendFrom t a1 a2 a3) := by
  refine h.lift hp ?_
  clear h hp
  unfold State.sendFrom
  repeat' first
    | with_reducible assumption
    | (extract_lets +onlyGivenNames x; refine Kept.cut x ?_ ?_ <;> first | (intro hx; clear_value x) | (unfold x; clear x))
    | (extract_lets +onlyGivenNames x; subst x)
    | exact rfl
    | with_reducible first | apply State.sendFrame_kept | apply State.charge_kept | refine State.dwrr_kept_eq ‹_› ?_ rfl | exact Kept.refl _ _
    | ((with_reducible refine Kept.build ?_ ?_ ?_ ?_); rotate_left; exact rfl; exact rfl; exact rfl; fail_if_success split)
    | split

theorem State.tryGroup_kept {ps : List Part} {s t : State} (a1 a2 a3 a4 a5) (h : Kept ps s t) (hp : partsIn [.cnt, .outbox, .sch, .reg 21] ps = true) : KeptOpt ps s (fun u => u) (State.tryGroup t a1 a2 a3 a4 a5) := by
  refine KeptOpt.lift h hp ?_
  clear h hp
  unfold State.tryGroup
  repeat' first
    | (extract_lets +onlyGivenNames x; subst x)
    | exact rfl
    | with_reducible first | apply State.dwrr_kept | apply State.sendFrom_kept | apply KeptOpt.some' | apply KeptOpt.none' | exact Kept.refl _ _
    | split

theorem State.tryGroup_kept_eq {ps : List Part} {s t u : State} {a1 a2 a3 a4 a5} (e : State.tryGroup t a1 a2 a3 a4 a5 = some u) (h : Kept ps s t) (hp : partsIn [.cnt, .outbox, .sch, .reg 21] ps = true) : Kept ps s u := by
  have k := State.tryGroup_kept (ps := ps) (s := s) (t := t) a1 a2 a3 a4 a5 h hp
  rw [e] at k
  exact k

theorem execEgressPick_kept {ps : List Part} {s t : State} (a1 a2 a3) (h : Kept ps s t) (hp : partsIn [.cnt, .outbox, .sch, .reg 21] ps = true) : KeptOut ps s (execEgressPick a1 a2 a3 t) := by
  refine KeptOut.lift h hp ?_
  clear h hp
  unfold execEgressPick
  repeat' first
    | (extract_lets +onlyGivenNames x; subst x)
    | with_reducible apply Kept.ite
    | exact rfl
    | with_reducible first | apply State.tryGroup_kept | apply State.sendFrame_kept | apply KeptOpt.getD | apply KeptOpt.findSome | apply KeptOut.guard | exact Kept.refl _ _
    | split
    | (intro _; intros; try dsimp -zeta only)

theorem State.ownBlock_kept {ps : List Part} {s t : State} (a1) (h : Kept ps s t) (hp : partsIn [.win] ps = true) : KeptOpt ps s (fun u => u) (State.ownBlock t a1) := by
  refine KeptOpt.lift h hp ?_
  clear h hp
  unfold State.ownBlock
  repeat' first
    | (extract_lets +onlyGivenNames x; subst x)
    | with_reducible first | apply KeptOpt.some' | apply KeptOpt.none' | exact Kept.refl _ _
    | ((with_reducible refine Kept.build ?_ ?_ ?_ ?_); rotate_left; exact rfl; exact rfl; exact rfl; fail_if_success split)
    | split

theorem State.ownBlock_kept_eq {ps : List Part} {s t u : State} {a1} (e : State.ownBlock t a1 = some u) (h : Kept ps s t) (hp : partsIn [.win] ps = true) : Kept ps s u := by
  have k := State.ownBlock_kept (ps := ps) (s := s) (t := t) a1 h hp
  rw [e] at k
  exact k

theorem State.ownBlocks_kept {ps : List Part} {s t : State} (a1 a2 a3) (h : Kept ps s t) (hp : partsIn [.win] ps = true) : KeptOpt ps s (fun u => u) (State.ownBlocks t a1 a2 a3) := by
  unfold State.ownBlocks
  refine KeptOpt.foldl h fun x b hx => ?_
  split
  · trivial
  · dsimp only
    split
    · exact hx
    · exact State.ownBlock_kept _ hx hp

theorem State.ownBlocks_kept_eq {ps : List Part} {s t u : State} {a1 a2 a3} (e : State.ownBlocks t a1 a2 a3 = some u) (h : Kept ps s t) (hp : partsIn [.win] ps = true) : Kept ps s u := by
  have k := State.ownBlocks_kept (ps := ps) (s := s) (t := t) a1 a2 a3 h hp
  rw [e] at k
  exact k

theorem execIngestPullIssue_kept {ps : List Part} {s t : State} (a1 a2 a3 a4) (h : Kept ps s t) (hp : partsIn [.cmd, .cnt, .outbox, .win, .xpt, .reg 21] ps = true) : KeptOut ps s (execIngestPullIssue a1 a2 a3 a4 t) := by
  refine KeptOut.lift h hp ?_
  clear h hp
  unfold execIngestPullIssue
  repeat' first
    | (extract_lets +onlyGivenNames x; subst x)
    | with_reducible apply Kept.ite
    | exact rfl
    | with_reducible first | apply State.modEntry_kept | apply State.setQp_kept | apply State.count_kept | apply State.emit_kept | apply KeptOut.guard | refine State.ownBlocks_kept_eq ‹_› ?_ rfl | exact Kept.refl _ _
    | split

theorem execIngestHeldTimeout_kept {ps : List Part} {s t : State} (h : Kept ps s t) (hp : partsIn [.evt, .sch, .reg 20] ps = true) : KeptOut ps s (execIngestHeldTimeout t) := by
  refine KeptOut.lift h hp ?_
  clear h hp
  unfold execIngestHeldTimeout
  repeat' first
    | (extract_lets +onlyGivenNames x; subst x)
    | with_reducible apply Kept.ite
    | exact rfl
    | with_reducible first | apply State.raise_kept | apply KeptOut.next | exact Kept.refl _ _
    | ((with_reducible refine Kept.build ?_ ?_ ?_ ?_); rotate_left; exact rfl; exact rfl; exact rfl; fail_if_success split)
    | split

theorem State.paramData_kept {ps : List Part} {s t : State} (a1 a2) (h : Kept ps s t) (hp : partsIn [.reg 6] ps = true) : Kept ps s (State.paramData t a1 a2) := by
  refine h.lift hp ?_
  clear h hp
  unfold State.paramData
  repeat' first
    | with_reducible assumption
    | (extract_lets +onlyGivenNames x; refine Kept.cut x ?_ ?_ <;> first | (intro hx; clear_value x) | (unfold x; clear x))
    | exact rfl
    | with_reducible first | apply State.wrW_kept | exact Kept.refl _ _ | apply Kept.foldl
    | (intro _; intros; try dsimp -zeta only)

theorem execSchParamWrite_kept {ps : List Part} {s t : State} (a1) (h : Kept ps s t) (hp : partsIn [.evt, .gch, .sch, .win, .xpt, .reg 4, .reg 5, .reg 6, .reg 9, .reg 20] ps = true) : KeptOut ps s (execSchParamWrite a1 t) := by
  refine KeptOut.lift h hp ?_
  clear h hp
  unfold execSchParamWrite
  repeat' first
    | (extract_lets +onlyGivenNames x; subst x)
    | with_reducible apply Kept.ite
    | exact rfl
    | with_reducible first | apply State.wr_kept | apply State.lateWrite_kept | apply State.shadowPut_kept | apply State.violation_kept | apply State.coreOnly_kept | apply State.up_kept | apply KeptOut.next | exact Kept.refl _ _

theorem execSchParamRead_kept {ps : List Part} {s t : State} (a1) (h : Kept ps s t) (hp : partsIn [.evt, .reg 6, .reg 20] ps = true) : KeptOut ps s (execSchParamRead a1 t) := by
  refine KeptOut.lift h hp ?_
  clear h hp
  unfold execSchParamRead
  repeat' first
    | exact rfl
    | with_reducible first | apply State.paramData_kept | apply State.acts_kept | apply KeptOut.next | exact Kept.refl _ _

theorem execSchParamReadLive_kept {ps : List Part} {s t : State} (a1) (h : Kept ps s t) (hp : partsIn [.evt, .reg 6, .reg 20] ps = true) : KeptOut ps s (execSchParamReadLive a1 t) := by
  refine KeptOut.lift h hp ?_
  clear h hp
  unfold execSchParamReadLive
  repeat' first
    | (extract_lets +onlyGivenNames x; subst x)
    | exact rfl
    | with_reducible first | apply State.paramData_kept | apply State.acts_kept | apply KeptOut.next | exact Kept.refl _ _

theorem State.connectReply_kept {ps : List Part} {s t : State} (a1 a2 a3) (h : Kept ps s t) (hp : partsIn [.cnt, .outbox, .reg 21] ps = true) : Kept ps s (State.connectReply t a1 a2 a3) := by
  refine h.lift hp ?_
  clear h hp
  unfold State.connectReply
  repeat' first
    | exact rfl
    | with_reducible first | apply State.complete_kept | apply State.count_kept | exact Kept.refl _ _

theorem State.connectAdmin_kept {ps : List Part} {s t : State} (a1 a2 a3 a4 a5 a6 a7) (h : Kept ps s t) (hp : partsIn [.cmd, .cnt, .outbox, .reg 7, .reg 21] ps = true) : Kept ps s (State.connectAdmin t a1 a2 a3 a4 a5 a6 a7) := by
  refine h.lift hp ?_
  clear h hp
  unfold State.connectAdmin
  repeat' first
    | (extract_lets +onlyGivenNames x; subst x)
    | with_reducible apply Kept.ite
    | exact rfl
    | with_reducible first | apply State.ctrlStatus_kept | apply State.connectReply_kept | apply State.setCtrl_kept | exact Kept.refl _ _
    | split

theorem State.connectIo_kept {ps : List Part} {s t : State} (a1 a2 a3 a4 a5 a6) (h : Kept ps s t) (hp : partsIn [.cmd, .cnt, .outbox, .reg 21] ps = true) : Kept ps s (State.connectIo t a1 a2 a3 a4 a5 a6) := by
  refine h.lift hp ?_
  clear h hp
  unfold State.connectIo
  repeat' first
    | with_reducible apply Kept.ite
    | exact rfl
    | with_reducible first | apply State.connectReply_kept | apply State.setCtrl_kept | exact Kept.refl _ _
    | split

theorem execFabricsConnect_kept {ps : List Part} {s t : State} (a1 a2 a3 a4 a5 a6 a7 a8) (h : Kept ps s t) (hp : partsIn [.cmd, .cnt, .outbox, .reg 7, .reg 21] ps = true) : KeptOut ps s (execFabricsConnect a1 a2 a3 a4 a5 a6 a7 a8 t) := by
  refine KeptOut.lift h hp ?_
  clear h hp
  unfold execFabricsConnect
  repeat' first
    | with_reducible apply Kept.ite
    | exact rfl
    | with_reducible first | apply State.connectIo_kept | apply State.connectReply_kept | apply State.connectAdmin_kept | apply KeptOut.next | exact Kept.refl _ _
    | split

theorem State.dataOut_kept {ps : List Part} {s t : State} (a1 a2 a3) (h : Kept ps s t) (hp : partsIn [.outbox] ps = true) : Kept ps s (State.dataOut t a1 a2 a3) := by
  refine h.lift hp ?_
  clear h hp
  unfold State.dataOut
  repeat' first
    | exact rfl
    | with_reducible first | apply State.emit_kept | exact Kept.refl _ _

theorem execPropertyGet_kept {ps : List Part} {s t : State} (a1 a2 a3) (h : Kept ps s t) (hp : partsIn [.cnt, .deferred, .evt, .outbox, .sep, .reg 19, .reg 21] ps = true) : KeptOut ps s (execPropertyGet a1 a2 a3 t) := by
  refine KeptOut.lift h hp ?_
  clear h hp
  unfold execPropertyGet
  repeat' first
    | with_reducible assumption
    | exact rfl
    | with_reducible first | apply State.dataOut_kept | apply State.reply_kept | apply State.replyErr_kept | apply State.admin_kept | apply KeptOut.next | exact Kept.refl _ _
    | split
    | (intro _; intros; try dsimp -zeta only)

theorem execPropertySet_kept {ps : List Part} {s t : State} (a1 a2 a3 a4) (h : Kept ps s t) (hp : partsIn [.cmd, .cmp, .cnt, .deferred, .evt, .fsp, .outbox, .sep, .win, .reg 7, .reg 19, .reg 20, .reg 21] ps = true) : KeptOut ps s (execPropertySet a1 a2 a3 a4 t) := by
  refine KeptOut.lift h hp ?_
  clear h hp
  unfold execPropertySet
  repeat' first
    | with_reducible assumption
    | (extract_lets +onlyGivenNames x; refine Kept.cut x ?_ ?_ <;> first | (intro hx; clear_value x) | (unfold x; clear x))
    | (extract_lets +onlyGivenNames x; subst x)
    | with_reducible apply Kept.ite
    | exact rfl
    | with_reducible first | apply State.resetController_kept | apply State.replyOk_kept | apply State.replyErr_kept | apply State.setCtrl_kept | apply State.admin_kept | apply State.modCtrl_kept | apply KeptOut.next | exact Kept.refl _ _
    | split
    | (intro _; intros; try dsimp -zeta only)

theorem execIdentify_kept {ps : List Part} {s t : State} (a1 a2 a3 a4 a5) (h : Kept ps s t) (hp : partsIn [.cnt, .deferred, .evt, .outbox, .sep, .reg 19, .reg 21] ps = true) : KeptOut ps s (execIdentify a1 a2 a3 a4 a5 t) := by
  refine KeptOut.lift h hp ?_
  clear h hp
  unfold execIdentify
  repeat' first
    | with_reducible assumption
    | exact rfl
    | with_reducible first | apply State.dataOut_kept | apply State.replyOk_kept | apply State.replyErr_kept | apply State.admin_kept | apply KeptOut.next | exact Kept.refl _ _
    | split
    | (intro _; intros; try dsimp -zeta only)

theorem execGetLogPage_kept {ps : List Part} {s t : State} (a1 a2 a3 a4 a5) (h : Kept ps s t) (hp : partsIn [.cmd, .cnt, .deferred, .evt, .outbox, .sep, .reg 19, .reg 21] ps = true) : KeptOut ps s (execGetLogPage a1 a2 a3 a4 a5 t) := by
  refine KeptOut.lift h hp ?_
  clear h hp
  unfold execGetLogPage
  repeat' first
    | with_reducible assumption
    | (extract_lets +onlyGivenNames x; refine Kept.cut x ?_ ?_ <;> first | (intro hx; clear_value x) | (unfold x; clear x))
    | (extract_lets +onlyGivenNames x; subst x)
    | exact rfl
    | with_reducible first | apply State.dataOut_kept | apply State.replyOk_kept | apply State.replyErr_kept | apply State.admin_kept | apply KeptOut.next | exact Kept.refl _ _
    | ((with_reducible refine Kept.build ?_ ?_ ?_ ?_); rotate_left; exact rfl; exact rfl; exact rfl; fail_if_success split)
    | split
    | (intro _; intros; try dsimp -zeta only)

theorem execAbort_kept {ps : List Part} {s t : State} (a1 a2 a3 a4) (h : Kept ps s t) (hp : partsIn [.cmd, .cnt, .deferred, .evt, .fsp, .outbox, .sep, .win, .reg 7, .reg 19, .reg 21] ps = true) : KeptOut ps s (execAbort a1 a2 a3 a4 t) := by
  refine KeptOut.lift h hp ?_
  clear h hp
  unfold execAbort
  repeat' first
    | with_reducible assumption
    | exact rfl
    | with_reducible first | apply State.reply_kept | apply State.finish_kept | apply State.admin_kept | apply KeptOut.next | exact Kept.refl _ _
    | split
    | (intro _; intros; try dsimp -zeta only)

theorem execSetFeatures_kept {ps : List Part} {s t : State} (a1 a2 a3 a4 a5) (h : Kept ps s t) (hp : partsIn [.cmd, .cnt, .deferred, .evt, .outbox, .sep, .reg 19, .reg 21] ps = true) : KeptOut ps s (execSetFeatures a1 a2 a3 a4 a5 t) := by
  refine KeptOut.lift h hp ?_
  clear h hp
  unfold execSetFeatures
  repeat' first
    | with_reducible assumption
    | (extract_lets +onlyGivenNames x; refine Kept.cut x ?_ ?_ <;> first | (intro hx; clear_value x) | (unfold x; clear x))
    | (extract_lets +onlyGivenNames x; subst x)
    | with_reducible apply Kept.ite
    | exact rfl
    | with_reducible first | apply State.reply_kept | apply State.replyOk_kept | apply State.replyErr_kept | apply State.setCtrl_kept | apply State.admin_kept | apply KeptOut.next | exact Kept.refl _ _
    | ((with_reducible refine Kept.build ?_ ?_ ?_ ?_); rotate_left; exact rfl; exact rfl; exact rfl; fail_if_success split)
    | split
    | (intro _; intros; try dsimp -zeta only)

theorem execGetFeatures_kept {ps : List Part} {s t : State} (a1 a2 a3 a4) (h : Kept ps s t) (hp : partsIn [.cnt, .deferred, .evt, .outbox, .sep, .reg 19, .reg 21] ps = true) : KeptOut ps s (execGetFeatures a1 a2 a3 a4 t) := by
  refine KeptOut.lift h hp ?_
  clear h hp
  unfold execGetFeatures
  repeat' first
    | with_reducible assumption
    | exact rfl
    | with_reducible first | apply State.reply_kept | apply State.replyErr_kept | apply State.admin_kept | apply KeptOut.next | exact Kept.refl _ _
    | split
    | (intro _; intros; try dsimp -zeta only)

theorem State.pumpAer_kept {ps : List Part} {s t : State} (a1) (h : Kept ps s t) (hp : partsIn [.cmd, .evt, .outbox, .sep, .reg 19] ps = true) : Kept ps s (State.pumpAer t a1) := by
  refine h.lift hp ?_
  clear h hp
  unfold State.pumpAer
  repeat' first
    | with_reducible assumption
    | (extract_lets +onlyGivenNames x; refine Kept.cut x ?_ ?_ <;> first | (intro hx; clear_value x) | (unfold x; clear x))
    | (extract_lets +onlyGivenNames x; subst x)
    | with_reducible apply Kept.ite
    | exact rfl
    | with_reducible first | apply State.setCtrl_kept | apply State.mailboxPost_kept | apply State.emit_kept | exact Kept.refl _ _
    | split

theorem execAsyncEventRequest_kept {ps : List Part} {s t : State} (a1 a2) (h : Kept ps s t) (hp : partsIn [.cmd, .cnt, .deferred, .evt, .outbox, .sep, .reg 19, .reg 21] ps = true) : KeptOut ps s (execAsyncEventRequest a1 a2 t) := by
  refine KeptOut.lift h hp ?_
  clear h hp
  unfold execAsyncEventRequest
  repeat' first
    | with_reducible first | assumption | apply Kept.ite
    | exact rfl
    | with_reducible first | apply State.pumpAer_kept | apply State.replyErr_kept | apply State.setCtrl_kept | apply State.admin_kept | apply KeptOut.next | exact Kept.refl _ _
    | split
    | (intro _; intros; try dsimp -zeta only)

theorem State.nsNotice_kept {ps : List Part} {s t : State} (a1 a2) (h : Kept ps s t) (hp : partsIn [.cmd, .outbox] ps = true) : Kept ps s (State.nsNotice t a1 a2) := by
  refine h.lift hp ?_
  clear h hp
  unfold State.nsNotice
  repeat' first
    | with_reducible assumption
    | (extract_lets +onlyGivenNames x; refine Kept.cut x ?_ ?_ <;> first | (intro hx; clear_value x) | (unfold x; clear x))
    | (extract_lets +onlyGivenNames x; subst x)
    | exact rfl
    | with_reducible first | apply State.asyncNotice_kept | exact Kept.refl _ _
    | ((with_reducible refine Kept.build ?_ ?_ ?_ ?_); rotate_left; exact rfl; exact rfl; exact rfl; fail_if_success split)

theorem State.putNs_kept {ps : List Part} {s t : State} (a1 a2) (h : Kept ps s t) (hp : partsIn [.cmd, .lay, .outbox] ps = true) : Kept ps s (State.putNs t a1 a2) := by
  refine h.lift hp ?_
  clear h hp
  unfold State.putNs
  repeat' first
    | (extract_lets +onlyGivenNames x; subst x)
    | exact rfl
    | with_reducible first | apply State.mdWrite_kept | apply State.nsNotice_kept | exact Kept.refl _ _
    | ((with_reducible refine Kept.build ?_ ?_ ?_ ?_); rotate_left; exact rfl; exact rfl; exact rfl; fail_if_success split)

theorem State.ifActive_kept {ps : List Part} {s t u : State} {a1 a2} (h : Kept ps s t) (k : Kept ps s u) (hp : partsIn [.cnt, .evt, .outbox, .sep, .reg 19, .reg 21] ps = true) :
    Kept ps s (State.ifActive t a1 a2 u) := by
  unfold State.ifActive
  split
  · exact k
  · exact State.replyErr_kept _ _ _ h hp

theorem execNamespaceCreate_kept {ps : List Part} {s t : State} (a1 a2 a3 a4 a5) (h : Kept ps s t) (hp : partsIn [.cmd, .cnt, .deferred, .evt, .lay, .outbox, .sep, .reg 19, .reg 20, .reg 21] ps = true) : KeptOut ps s (execNamespaceCreate a1 a2 a3 a4 a5 t) := by
  refine KeptOut.lift h hp ?_
  clear h hp
  unfold execNamespaceCreate
  repeat' first
    | with_reducible assumption
    | (extract_lets +onlyGivenNames x; subst x)
    | with_reducible apply Kept.ite
    | exact rfl
    | with_reducible first | apply State.reply_kept | apply State.putNs_kept | apply State.outOfBound_kept | apply State.ifActive_kept | apply State.admin_kept | apply KeptOut.next | exact Kept.refl _ _
    | split
    | (intro _; intros; try dsimp -zeta only)

theorem State.unmapAll_kept {ps : List Part} {s t : State} (a1 a2) (h : Kept ps s t) (hp : partsIn [.cnt, .cph, .evt, .jnl, .lay, .outbox, .reg 14, .reg 16, .reg 20, .reg 21] ps = true) : Kept ps s (State.unmapAll t a1 a2) := by
  refine h.lift hp ?_
  clear h hp
  unfold State.unmapAll
  repeat' first
    | with_reducible assumption
    | (extract_lets +onlyGivenNames x; subst x)
    | with_reducible apply Kept.ite
    | exact rfl
    | with_reducible first | apply State.mapRecord_kept | apply State.unmap_kept | exact Kept.refl _ _ | apply Kept.foldl1
    | (intro _; intros; try dsimp -zeta only)

theorem execNamespaceDelete_kept {ps : List Part} {s t : State} (a1 a2 a3) (h : Kept ps s t) (hp : partsIn [.cmd, .cnt, .cph, .deferred, .evt, .jnl, .lay, .outbox, .sep, .win, .reg 7, .reg 14, .reg 16, .reg 19, .reg 20, .reg 21] ps = true) : KeptOut ps s (execNamespaceDelete a1 a2 a3 t) := by
  refine KeptOut.lift h hp ?_
  clear h hp
  unfold execNamespaceDelete
  repeat' first
    | with_reducible assumption
    | (extract_lets +onlyGivenNames x; refine Kept.cut x ?_ ?_ <;> first | (intro hx; clear_value x) | (unfold x; clear x))
    | (extract_lets +onlyGivenNames x; subst x)
    | with_reducible apply Kept.ite
    | exact rfl
    | with_reducible first | apply State.replyOk_kept | apply State.replyErr_kept | apply State.unmapAll_kept | apply State.mdWrite_kept | apply State.ifActive_kept | apply State.revokeWhere_kept | apply State.admin_kept | apply State.nsNotice_kept | apply State.endSelfTest_kept | apply KeptOut.next | exact Kept.refl _ _
    | ((with_reducible refine Kept.build ?_ ?_ ?_ ?_); rotate_left; exact rfl; exact rfl; exact rfl; fail_if_success split)
    | split
    | (intro _; intros; try dsimp -zeta only)

theorem execNamespaceResize_kept {ps : List Part} {s t : State} (a1 a2 a3 a4) (h : Kept ps s t) (hp : partsIn [.cmd, .cnt, .cph, .deferred, .evt, .jnl, .lay, .outbox, .sep, .reg 14, .reg 16, .reg 19, .reg 20, .reg 21] ps = true) : KeptOut ps s (execNamespaceResize a1 a2 a3 a4 t) := by
  refine KeptOut.lift h hp ?_
  clear h hp
  unfold execNamespaceResize
  repeat' first
    | with_reducible assumption
    | (extract_lets +onlyGivenNames x; refine Kept.cut x ?_ ?_ <;> first | (intro hx; clear_value x) | (unfold x; clear x))
    | (extract_lets +onlyGivenNames x; subst x)
    | with_reducible apply Kept.ite
    | exact rfl
    | with_reducible first | apply State.replyOk_kept | apply State.putNs_kept | apply State.replyErr_kept | apply State.unmapAll_kept | apply State.outOfBound_kept | apply State.ifActive_kept | apply State.violation_kept | apply State.admin_kept | apply KeptOut.next | exact Kept.refl _ _
    | split
    | (intro _; intros; try dsimp -zeta only)

theorem State.startTest_kept {ps : List Part} {s t : State} {a1 a2 a3 a4} {run : State → State} (h : Kept ps s t) (k : ∀ x, Kept ps s x → Kept ps s (run x))
    (hp : partsIn [.cmd, .cnt, .evt, .outbox, .sep, .reg 7, .reg 19, .reg 21] ps = true) : Kept ps s (State.startTest t a1 a2 a3 a4 run) := by
  unfold State.startTest
  have hw := fun (f : Fld) i j v (u : State) (hb : partsIn [.reg f.block] [.reg 7] = true) (hf : f.fits = true) (hu : Kept ps s u) =>
    State.wr_kept f i j v hu (within_trans hb (within_trans (a := [.reg 7]) rfl hp)) hf
  refine Kept.ite (State.replyErr_kept _ _ _ h (within_trans rfl hp)) (Kept.ite (State.replyErr_kept _ _ _ h (within_trans rfl hp)) (Kept.ite (State.replyErr_kept _ _ _ h (within_trans rfl hp)) ?_))
  exact State.replyOk_kept _ _ (k _ (hw _ _ _ _ _ rfl rfl (hw _ _ _ _ _ rfl rfl (hw _ _ _ _ _ rfl rfl (h.trans (Kept.mono (qs := [.cmd]) (Kept.upds rfl rfl rfl) (within_trans rfl hp))))))) (within_trans rfl hp)

theorem execSelfTestShort_kept {ps : List Part} {s t : State} (a1 a2 a3) (h : Kept ps s t) (hp : partsIn [.cmd, .cnt, .deferred, .evt, .outbox, .sep, .reg 7, .reg 19, .reg 21] ps = true) : KeptOut ps s (execSelfTestShort a1 a2 a3 t) := by
  unfold execSelfTestShort
  exact State.admin_kept _ _ _ _ h (fun x hx => State.startTest_kept hx (fun y hy => hy) (within_trans rfl hp)) (within_trans rfl hp)

theorem State.startScrubs_kept {ps : List Part} {s t : State} (a1) (h : Kept ps s t) (hp : partsIn [.axl] ps = true) : Kept ps s (State.startScrubs t a1) := by
  refine h.lift hp ?_
  clear h hp
  unfold State.startScrubs
  repeat' first
    | with_reducible assumption
    | (extract_lets +onlyGivenNames x; subst x)
    | with_reducible first | apply Kept.ite | exact Kept.refl _ _ | apply Kept.foldIdx
    | ((with_reducible refine Kept.build ?_ ?_ ?_ ?_); rotate_left; exact rfl; exact rfl; exact rfl; fail_if_success split)
    | split
    | (intro _; intros; try dsimp -zeta only)

theorem execSelfTestExtended_kept {ps : List Part} {s t : State} (a1 a2 a3) (h : Kept ps s t) (hp : partsIn [.axl, .cmd, .cnt, .deferred, .evt, .outbox, .sep, .reg 7, .reg 19, .reg 21] ps = true) : KeptOut ps s (execSelfTestExtended a1 a2 a3 t) := by
  refine KeptOut.lift h hp ?_
  clear h hp
  unfold execSelfTestExtended
  repeat' first
    | with_reducible assumption
    | exact rfl
    | with_reducible first | apply State.startTest_kept | apply State.startScrubs_kept | apply State.admin_kept | apply KeptOut.next | exact Kept.refl _ _
    | (intro _; intros; try dsimp -zeta only)

theorem State.dropScrubs_kept {ps : List Part} {s t : State} (h : Kept ps s t) (hp : partsIn [.axl] ps = true) : Kept ps s (State.dropScrubs t) := by
  refine h.lift hp ?_
  clear h hp
  unfold State.dropScrubs
  repeat' first
    | (extract_lets +onlyGivenNames x; subst x)
    | with_reducible exact Kept.refl _ _
    | ((with_reducible refine Kept.build ?_ ?_ ?_ ?_); rotate_left; exact rfl; exact rfl; exact rfl; fail_if_success split)

theorem execSelfTestAbort_kept {ps : List Part} {s t : State} (a1 a2) (h : Kept ps s t) (hp : partsIn [.axl, .cmd, .cnt, .deferred, .evt, .outbox, .sep, .reg 7, .reg 19, .reg 20, .reg 21] ps = true) : KeptOut ps s (execSelfTestAbort a1 a2 t) := by
  refine KeptOut.lift h hp ?_
  clear h hp
  unfold execSelfTestAbort
  repeat' first
    | with_reducible assumption
    | exact rfl
    | with_reducible first | apply State.dropScrubs_kept | apply State.replyOk_kept | apply State.admin_kept | apply State.endSelfTest_kept | apply KeptOut.next | exact Kept.refl _ _
    | (intro _; intros; try dsimp -zeta only)

theorem execSelfTestDone_kept {ps : List Part} {s t : State} (a1) (h : Kept ps s t) (hp : partsIn [.cmd, .evt, .reg 7, .reg 20] ps = true) : KeptOut ps s (execSelfTestDone a1 t) := by
  refine KeptOut.lift h hp ?_
  clear h hp
  unfold execSelfTestDone
  repeat' first
    | with_reducible apply Kept.ite
    | exact rfl
    | with_reducible first | apply State.endSelfTest_kept | apply KeptOut.next | exact Kept.refl _ _
    | split

theorem execKeepAlive_kept {ps : List Part} {s t : State} (a1 a2) (h : Kept ps s t) (hp : partsIn [.cmd, .cnt, .deferred, .evt, .outbox, .sep, .reg 19, .reg 21] ps = true) : KeptOut ps s (execKeepAlive a1 a2 t) := by
  refine KeptOut.lift h hp ?_
  clear h hp
  unfold execKeepAlive
  repeat' first
    | with_reducible assumption
    | exact rfl
    | with_reducible first | apply State.replyOk_kept | apply State.admin_kept | apply State.modCtrl_kept | apply KeptOut.next | exact Kept.refl _ _
    | (intro _; intros; try dsimp -zeta only)

theorem execKeepAliveExpiry_kept {ps : List Part} {s t : State} (a1) (h : Kept ps s t) (hp : partsIn [.cmd, .cmp, .cnt, .evt, .fsp, .outbox, .win, .reg 7, .reg 20, .reg 21] ps = true) : KeptOut ps s (execKeepAliveExpiry a1 t) := by
  refine KeptOut.lift h hp ?_
  clear h hp
  unfold execKeepAliveExpiry
  repeat' first
    | with_reducible apply Kept.ite
    | exact rfl
    | with_reducible first | apply State.resetController_kept | apply State.raise_kept | apply KeptOut.next | exact Kept.refl _ _
    | split

theorem execGetChallenge_kept {ps : List Part} {s t : State} (a1 a2) (h : Kept ps s t) (hp : partsIn [.cmd, .cnt, .deferred, .evt, .free, .outbox, .sep, .reg 19, .reg 21] ps = true) : KeptOut ps s (execGetChallenge a1 a2 t) := by
  refine KeptOut.lift h hp ?_
  clear h hp
  unfold execGetChallenge
  repeat' first
    | with_reducible assumption
    | (extract_lets +onlyGivenNames x; subst x)
    | exact rfl
    | with_reducible first | apply State.dataOut_kept | apply State.draw_kept | apply State.replyOk_kept | apply State.admin_kept | apply State.modCtrl_kept | apply KeptOut.next | exact Kept.refl _ _
    | (intro _; intros; try dsimp -zeta only)

theorem State.authFailed_kept {ps : List Part} {s t : State} (a1 a2 a3 a4) (h : Kept ps s t) (hp : partsIn [.cmd, .cmp, .cnt, .evt, .fsp, .outbox, .sep, .win, .xpt, .reg 4, .reg 7, .reg 19, .reg 20, .reg 21] ps = true) : Kept ps s (State.authFailed t a1 a2 a3 a4) := by
  refine h.lift hp ?_
  clear h hp
  unfold State.authFailed
  repeat' first
    | with_reducible assumption
    | (extract_lets +onlyGivenNames x; refine Kept.cut x ?_ ?_ <;> first | (intro hx; clear_value x) | (unfold x; clear x))
    | (extract_lets +onlyGivenNames x; subst x)
    | with_reducible apply Kept.ite
    | exact rfl
    | with_reducible first | apply State.replyErr_kept | apply State.qpToErr_kept | apply State.raise_kept | apply State.setCtrl_kept | exact Kept.refl _ _
    | ((with_reducible refine Kept.build ?_ ?_ ?_ ?_); rotate_left; exact rfl; exact rfl; exact rfl; fail_if_success split)
    | split

theorem execAuthenticate_kept {ps : List Part} {s t : State} (a1 a2 a3 a4) (h : Kept ps s t) (hp : partsIn [.cmd, .cmp, .cnt, .deferred, .evt, .fsp, .outbox, .sep, .win, .xpt, .reg 4, .reg 7, .reg 19, .reg 20, .reg 21] ps = true) : KeptOut ps s (execAuthenticate a1 a2 a3 a4 t) := by
  refine KeptOut.lift h hp ?_
  clear h hp
  unfold execAuthenticate
  repeat' first
    | with_reducible assumption
    | (extract_lets +onlyGivenNames x; refine Kept.cut x ?_ ?_ <;> first | (intro hx; clear_value x) | (unfold x; clear x))
    | (extract_lets +onlyGivenNames x; subst x)
    | with_reducible apply Kept.ite
    | exact rfl
    | with_reducible first | apply State.replyOk_kept | apply State.ctrlStatus_kept | apply State.authFailed_kept | apply State.setCtrl_kept | apply State.admin_kept | apply KeptOut.next | exact Kept.refl _ _
    | ((with_reducible refine Kept.build ?_ ?_ ?_ ?_); rotate_left; exact rfl; exact rfl; exact rfl; fail_if_success split)
    | split
    | (intro _; intros; try dsimp -zeta only)

theorem State.openZone_kept {ps : List Part} {s t : State} (a1 a2 a3) (h : Kept ps s t) (hp : partsIn [.cmd] ps = true) : KeptExc ps s (State.openZone t a1 a2 a3) := by
  refine KeptExc.lift h hp ?_
  clear h hp
  unfold State.openZone
  repeat' first
    | (extract_lets +onlyGivenNames x; subst x)
    | with_reducible apply Kept.ite
    | exact rfl
    | with_reducible first | apply State.setZone_kept | apply KeptExc.ok' | apply KeptExc.error' | exact Kept.refl _ _
    | split

theorem State.openZone_kept_eq {ps : List Part} {s t u : State} {a1 a2 a3} (e : State.openZone t a1 a2 a3 = .ok u) (h : Kept ps s t) (hp : partsIn [.cmd] ps = true) : Kept ps s u := by
  have k := State.openZone_kept (ps := ps) (s := s) (t := t) a1 a2 a3 h hp
  rw [e] at k
  exact k

theorem State.advanceZone_kept {ps : List Part} {s t : State} (a1 a2 a3) (h : Kept ps s t) (hp : partsIn [.cmd] ps = true) : Kept ps s (State.advanceZone t a1 a2 a3) := by
  refine h.lift hp ?_
  clear h hp
  unfold State.advanceZone
  repeat' first
    | (extract_lets +onlyGivenNames x; subst x)
    | exact rfl
    | with_reducible first | apply State.setZone_kept | exact Kept.refl _ _

theorem State.ioEnd_kept {ps : List Part} {s t : State} (a1 a2 a3 a4) (h : Kept ps s t) (hp : partsIn [.cnt, .outbox, .reg 21] ps = true) : Kept ps s (State.ioEnd t a1 a2 a3 a4) := by
  refine h.lift hp ?_
  clear h hp
  unfold State.ioEnd
  repeat' first
    | with_reducible assumption
    | (extract_lets +onlyGivenNames x; refine Kept.cut x ?_ ?_ <;> first | (intro hx; clear_value x) | (unfold x; clear x))
    | with_reducible apply Kept.ite
    | exact rfl
    | with_reducible first | apply State.complete_kept | apply State.count_kept | exact Kept.refl _ _
    | split

theorem State.ioFail_kept {ps : List Part} {s t : State} (a1 a2 a3) (h : Kept ps s t) (hp : partsIn [.cnt, .outbox, .reg 21] ps = true) : Kept ps s (State.ioFail t a1 a2 a3) := by
  refine h.lift hp ?_
  clear h hp
  unfold State.ioFail
  repeat' first
    | exact rfl
    | with_reducible first | apply State.ioEnd_kept | exact Kept.refl _ _

theorem State.ioArrive_kept {ps : List Part} {s t : State} {a1 a2 a3} {run : Ctrl → State → State} (h : Kept ps s t) (k : ∀ c x, Kept ps s x → Kept ps s (run c x))
    (hp : partsIn [.cnt, .deferred, .evt, .outbox, .reg 20, .reg 21] ps = true) : Kept ps s (State.ioArrive t a1 a2 a3 run) := by
  unfold State.ioArrive
  split
  · exact h
  · refine Kept.ite h (Kept.ite (State.defer_kept _ (State.raiseLim_kept _ _ _ _ _ _ _ _ h (within_trans rfl hp)) (within_trans rfl hp)) ?_)
    split
    · exact State.ioFail_kept _ _ _ h (within_trans rfl hp)
    · exact k _ _ h

theorem State.ioNs_kept {ps : List Part} {s t : State} {a1 a2 a3} {run : Ns → State → State} (h : Kept ps s t) (k : ∀ c x, Kept ps s x → Kept ps s (run c x))
    (hp : partsIn [.cmd, .cnt, .outbox, .reg 7, .reg 21] ps = true) : Kept ps s (State.ioNs t a1 a2 a3 run) := by
  unfold State.ioNs
  split
  · exact State.ioFail_kept _ _ _ h (within_trans rfl hp)
  · split
    · exact State.ioEnd_kept _ _ _ _ (State.takeMarker_kept_eq ‹_› h (within_trans rfl hp)) (within_trans rfl hp)
    · exact k _ _ h

theorem State.ioCmd_kept {ps : List Part} {s t : State} {a1 a2 a3} {run : Ctrl → Ns → State → State} (h : Kept ps s t) (k : ∀ c n x, Kept ps s x → Kept ps s (run c n x))
    (hp : partsIn [.cmd, .cnt, .deferred, .evt, .outbox, .reg 7, .reg 20, .reg 21] ps = true) : Kept ps s (State.ioCmd t a1 a2 a3 run) := by
  unfold State.ioCmd
  exact State.ioArrive_kept h (fun c x hx => State.ioNs_kept hx (fun n y hy => k c n y hy) (within_trans rfl hp)) (within_trans rfl hp)

theorem State.ioEnter_kept {ps : List Part} {s t : State} (a1) (h : Kept ps s t) (hp : partsIn [.cmd, .reg 7] ps = true) : Kept ps s (State.ioEnter t a1) := by
  refine h.lift hp ?_
  clear h hp
  unfold State.ioEnter
  repeat' first
    | (extract_lets +onlyGivenNames x; subst x)
    | exact rfl
    | with_reducible first | apply State.cmdStatus_kept | exact Kept.refl _ _
    | ((with_reducible refine Kept.build ?_ ?_ ?_ ?_); rotate_left; exact rfl; exact rfl; exact rfl; fail_if_success split)

theorem State.ownCommitted_kept {ps : List Part} {s t : State} (a1 a2 a3 a4 a5) (h : Kept ps s t) (hp : partsIn [.win] ps = true) : Kept ps s (State.ownCommitted t a1 a2 a3 a4 a5) := by
  refine h.lift hp ?_
  clear h hp
  unfold State.ownCommitted
  repeat' first
    | (extract_lets +onlyGivenNames x; subst x)
    | with_reducible exact Kept.refl _ _
    | ((with_reducible refine Kept.build ?_ ?_ ?_ ?_); rotate_left; exact rfl; exact rfl; exact rfl; fail_if_success split)

theorem State.commitWindow_kept {ps : List Part} {s t : State} (a1 a2 a3 a4 a5 a6 a7) (h : Kept ps s t) (hp : partsIn [.cmd, .cnt, .outbox, .win, .reg 7, .reg 21] ps = true) : Kept ps s (State.commitWindow t a1 a2 a3 a4 a5 a6 a7) := by
  refine h.lift hp ?_
  clear h hp
  unfold State.commitWindow
  repeat' first
    | (extract_lets +onlyGivenNames x; subst x)
    | with_reducible apply Kept.ite
    | exact rfl
    | with_reducible first | apply State.ioFail_kept | apply State.ioEnter_kept | apply State.ownCommitted_kept | exact Kept.refl _ _
    | split

theorem execWindowCommit_kept {ps : List Part} {s t : State} (a1 a2 a3 a4 a5) (h : Kept ps s t) (hp : partsIn [.cmd, .cnt, .deferred, .evt, .outbox, .win, .reg 7, .reg 20, .reg 21] ps = true) : KeptOut ps s (execWindowCommit a1 a2 a3 a4 a5 t) := by
  refine KeptOut.lift h hp ?_
  clear h hp
  unfold execWindowCommit
  repeat' first
    | with_reducible assumption
    | exact rfl
    | with_reducible first | apply State.commitWindow_kept | apply State.ioCmd_kept | apply State.up_kept | apply KeptOut.next | exact Kept.refl _ _
    | (intro _; intros; try dsimp -zeta only)

theorem execNvmRead_kept {ps : List Part} {s t : State} (a1 a2) (h : Kept ps s t) (hp : partsIn [.cmd, .cnt, .deferred, .evt, .outbox, .reg 7, .reg 20, .reg 21] ps = true) : KeptOut ps s (execNvmRead a1 a2 t) := by
  refine KeptOut.lift h hp ?_
  clear h hp
  unfold execNvmRead
  repeat' first
    | with_reducible assumption
    | exact rfl
    | with_reducible first | apply State.ioCmd_kept | apply State.ioFail_kept | apply State.ioEnter_kept | apply State.up_kept | apply KeptOut.next | exact Kept.refl _ _
    | split
    | (intro _; intros; try dsimp -zeta only)

theorem execNvmWrite_kept {ps : List Part} {s t : State} (a1 a2) (h : Kept ps s t) (hp : partsIn [.cmd, .cnt, .deferred, .evt, .outbox, .win, .reg 7, .reg 20, .reg 21] ps = true) : KeptOut ps s (execNvmWrite a1 a2 t) := by
  refine KeptOut.lift h hp ?_
  clear h hp
  unfold execNvmWrite
  repeat' first
    | with_reducible first | assumption | apply Kept.ite
    | exact rfl
    | with_reducible first | apply State.commitWindow_kept | apply State.ioCmd_kept | apply State.ioFail_kept | apply State.ioEnter_kept | apply State.up_kept | apply KeptOut.next | exact Kept.refl _ _
    | split
    | (intro _; intros; try dsimp -zeta only)

theorem execZoneAppend_kept {ps : List Part} {s t : State} (a1 a2) (h : Kept ps s t) (hp : partsIn [.cmd, .cnt, .deferred, .evt, .outbox, .win, .reg 7, .reg 20, .reg 21] ps = true) : KeptOut ps s (execZoneAppend a1 a2 t) := by
  refine KeptOut.lift h hp ?_
  clear h hp
  unfold execZoneAppend
  repeat' first
    | with_reducible first | assumption | apply Kept.ite
    | exact rfl
    | with_reducible first | apply State.commitWindow_kept | apply State.ioCmd_kept | apply State.ioFail_kept | apply State.ioEnter_kept | apply State.up_kept | apply KeptOut.next | exact Kept.refl _ _
    | split
    | (intro _; intros; try dsimp -zeta only)

theorem State.enterFlush_kept {ps : List Part} {s t : State} (a1 a2) (h : Kept ps s t) (hp : partsIn [.cmd, .cnt, .fsp, .outbox, .win, .reg 7, .reg 21] ps = true) : Kept ps s (State.enterFlush t a1 a2) := by
  refine h.lift hp ?_
  clear h hp
  unfold State.enterFlush
  repeat' first
    | (extract_lets +onlyGivenNames x; subst x)
    | exact rfl
    | with_reducible first | apply State.settleFlushes_kept | apply State.ioEnter_kept | exact Kept.refl _ _

theorem execFlush_kept {ps : List Part} {s t : State} (a1) (h : Kept ps s t) (hp : partsIn [.cmd, .cnt, .deferred, .evt, .fsp, .outbox, .win, .reg 7, .reg 20, .reg 21] ps = true) : KeptOut ps s (execFlush a1 t) := by
  unfold execFlush
  refine State.up_kept h (State.ioArrive_kept h (fun c x hx => Kept.ite ?_ (State.ioNs_kept hx (fun n y hy => State.enterFlush_kept _ _ hy (within_trans rfl hp)) (within_trans rfl hp))) (within_trans rfl hp))
  split
  · rename_i e
    split at e
    · rename_i e'
      cases e
      cases hb : x.lowestMarker c a1.ctrl with
      | none => rw [hb] at e'; cases e'
      | some n => rw [hb] at e'; exact State.ioEnd_kept _ _ _ _ (State.takeMarker_kept_eq e' hx (within_trans rfl hp)) (within_trans rfl hp)
    · exact State.ioEnd_kept _ _ _ _ (State.takeMarker_kept_eq e hx (within_trans rfl hp)) (within_trans rfl hp)
  · exact State.enterFlush_kept _ _ hx (within_trans rfl hp)

theorem execWriteZeroes_kept {ps : List Part} {s t : State} (a1) (h : Kept ps s t) (hp : partsIn [.cmd, .cnt, .deferred, .evt, .outbox, .reg 7, .reg 20, .reg 21] ps = true) : KeptOut ps s (execWriteZeroes a1 t) := by
  refine KeptOut.lift h hp ?_
  clear h hp
  unfold execWriteZeroes
  repeat' first
    | with_reducible first | assumption | apply Kept.ite
    | exact rfl
    | with_reducible first | apply State.ioCmd_kept | apply State.ioFail_kept | apply State.ioEnter_kept | apply State.up_kept | apply KeptOut.next | exact Kept.refl _ _
    | (intro _; intros; try dsimp -zeta only)

theorem execDatasetManagement_kept {ps : List Part} {s t : State} (a1 a2 a3) (h : Kept ps s t) (hp : partsIn [.cmd, .cnt, .deferred, .evt, .outbox, .reg 7, .reg 20, .reg 21] ps = true) : KeptOut ps s (execDatasetManagement a1 a2 a3 t) := by
  refine KeptOut.lift h hp ?_
  clear h hp
  unfold execDatasetManagement
  repeat' first
    | with_reducible assumption
    | (extract_lets +onlyGivenNames x; subst x)
    | with_reducible apply Kept.ite
    | exact rfl
    | with_reducible first | apply State.ioCmd_kept | apply State.ioFail_kept | apply State.ioEnter_kept | apply State.up_kept | apply KeptOut.next | exact Kept.refl _ _
    | (intro _; intros; try dsimp -zeta only)

theorem State.zoneSend_kept {ps : List Part} {s t : State} (a1 a2 a3 a4) (h : Kept ps s t) (hp : partsIn [.cmd, .cnt, .deferred, .evt, .outbox, .reg 7, .reg 20, .reg 21] ps = true) : Kept ps s (State.zoneSend t a1 a2 a3 a4) := by
  refine h.lift hp ?_
  clear h hp
  unfold State.zoneSend
  repeat' first
    | with_reducible assumption
    | (extract_lets +onlyGivenNames x; subst x)
    | with_reducible apply Kept.ite
    | exact rfl
    | with_reducible first | apply State.ioCmd_kept | apply State.ioFail_kept | apply State.ioEnter_kept | exact Kept.refl _ _
    | split
    | (intro _; intros; try dsimp -zeta only)

theorem execZoneClose_kept {ps : List Part} {s t : State} (a1 a2) (h : Kept ps s t) (hp : partsIn [.cmd, .cnt, .deferred, .evt, .outbox, .reg 7, .reg 20, .reg 21] ps = true) : KeptOut ps s (execZoneClose a1 a2 t) := by
  refine KeptOut.lift h hp ?_
  clear h hp
  unfold execZoneClose
  repeat' first
    | exact rfl
    | with_reducible first | apply State.zoneSend_kept | apply State.up_kept | apply KeptOut.next | exact Kept.refl _ _

theorem execZoneFinish_kept {ps : List Part} {s t : State} (a1 a2) (h : Kept ps s t) (hp : partsIn [.cmd, .cnt, .deferred, .evt, .outbox, .reg 7, .reg 20, .reg 21] ps = true) : KeptOut ps s (execZoneFinish a1 a2 t) := by
  refine KeptOut.lift h hp ?_
  clear h hp
  unfold execZoneFinish
  repeat' first
    | exact rfl
    | with_reducible first | apply State.zoneSend_kept | apply State.up_kept | apply KeptOut.next | exact Kept.refl _ _

theorem execZoneOpen_kept {ps : List Part} {s t : State} (a1 a2) (h : Kept ps s t) (hp : partsIn [.cmd, .cnt, .deferred, .evt, .outbox, .reg 7, .reg 20, .reg 21] ps = true) : KeptOut ps s (execZoneOpen a1 a2 t) := by
  refine KeptOut.lift h hp ?_
  clear h hp
  unfold execZoneOpen
  repeat' first
    | exact rfl
    | with_reducible first | apply State.zoneSend_kept | apply State.up_kept | apply KeptOut.next | exact Kept.refl _ _

theorem execZoneReset_kept {ps : List Part} {s t : State} (a1 a2) (h : Kept ps s t) (hp : partsIn [.cmd, .cnt, .deferred, .evt, .outbox, .reg 7, .reg 20, .reg 21] ps = true) : KeptOut ps s (execZoneReset a1 a2 t) := by
  refine KeptOut.lift h hp ?_
  clear h hp
  unfold execZoneReset
  repeat' first
    | exact rfl
    | with_reducible first | apply State.zoneSend_kept | apply State.up_kept | apply KeptOut.next | exact Kept.refl _ _

theorem execZoneManagementReceive_kept {ps : List Part} {s t : State} (a1 a2 a3) (h : Kept ps s t) (hp : partsIn [.cmd, .cnt, .deferred, .evt, .outbox, .reg 7, .reg 20, .reg 21] ps = true) : KeptOut ps s (execZoneManagementReceive a1 a2 a3 t) := by
  refine KeptOut.lift h hp ?_
  clear h hp
  unfold execZoneManagementReceive
  repeat' first
    | with_reducible first | assumption | apply Kept.ite
    | exact rfl
    | with_reducible first | apply State.dataOut_kept | apply State.ioEnd_kept | apply State.ioCmd_kept | apply State.ioFail_kept | apply State.up_kept | apply KeptOut.next | exact Kept.refl _ _
    | split
    | (intro _; intros; try dsimp -zeta only)

theorem State.takeLocks_kept {ps : List Part} {s t : State} (a1 a2) (h : Kept ps s t) (hp : partsIn [.cmd, .reg 7] ps = true) : KeptOpt ps s (fun u => u) (State.takeLocks t a1 a2) := by
  refine KeptOpt.lift h hp ?_
  clear h hp
  unfold State.takeLocks
  repeat' first
    | (extract_lets +onlyGivenNames x; subst x)
    | exact rfl
    | with_reducible first | apply State.setEntry_kept | apply State.cmdStatus_kept | apply KeptOpt.some' | apply KeptOpt.none' | exact Kept.refl _ _
    | ((with_reducible refine Kept.build ?_ ?_ ?_ ?_); rotate_left; exact rfl; exact rfl; exact rfl; fail_if_success split)
    | split

theorem State.takeLocks_kept_eq {ps : List Part} {s t u : State} {a1 a2} (e : State.takeLocks t a1 a2 = some u) (h : Kept ps s t) (hp : partsIn [.cmd, .reg 7] ps = true) : Kept ps s u := by
  have k := State.takeLocks_kept (ps := ps) (s := s) (t := t) a1 a2 h hp
  rw [e] at k
  exact k

theorem State.waitLock_kept {ps : List Part} {s t : State} (a1 a2) (h : Kept ps s t) (hp : partsIn [.cmd, .cnt, .reg 21] ps = true) : Kept ps s (State.waitLock t a1 a2) := by
  refine h.lift hp ?_
  clear h hp
  unfold State.waitLock
  repeat' first
    | with_reducible apply Kept.ite
    | exact rfl
    | with_reducible first | apply State.modEntry_kept | apply State.count_kept | exact Kept.refl _ _

theorem State.lockShort_kept {ps : List Part} {s t : State} (a1 a2) (h : Kept ps s t) (hp : partsIn [.cmd, .cnt, .evt, .reg 7, .reg 20, .reg 21] ps = true) : Kept ps s (State.lockShort t a1 a2) := by
  refine h.lift hp ?_
  clear h hp
  unfold State.lockShort
  repeat' first
    | exact rfl
    | with_reducible first | apply State.raiseLim_kept | apply State.wr_kept | apply State.waitLock_kept | exact Kept.refl _ _

theorem State.completeRead_kept {ps : List Part} {s t : State} (a1) (h : Kept ps s t) (hp : partsIn [.cmd, .cnt, .fsp, .outbox, .win, .reg 7, .reg 21] ps = true) : Kept ps s (State.completeRead t a1) := by
  refine h.lift hp ?_
  clear h hp
  unfold State.completeRead
  repeat' first
    | with_reducible assumption
    | (extract_lets +onlyGivenNames x; refine Kept.cut x ?_ ?_ <;> first | (intro hx; clear_value x) | (unfold x; clear x))
    | (extract_lets +onlyGivenNames x; subst x)
    | with_reducible apply Kept.ite
    | exact rfl
    | with_reducible first | apply State.dataOut_kept | apply State.finish_kept | apply State.count_kept | exact Kept.refl _ _
    | split

theorem State.extentRead_kept {ps : List Part} {s t : State} (a1 a2) (h : Kept ps s t) (hp : partsIn [.cmd, .cnt, .fsp, .outbox, .win, .reg 7, .reg 21] ps = true) : Kept ps s (State.extentRead t a1 a2) := by
  refine h.lift hp ?_
  clear h hp
  unfold State.extentRead
  repeat' first
    | exact rfl
    | with_reducible first | apply State.modEntry_kept | apply State.completeRead_kept | exact Kept.refl _ _

theorem State.endReads_kept {ps : List Part} {s t : State} (a1) (h : Kept ps s t) (hp : partsIn [.cmp, .fsp, .lay] ps = true) : Kept ps s (State.endReads t a1) := by
  refine h.lift hp ?_
  clear h hp
  unfold State.endReads
  repeat' first
    | with_reducible assumption
    | (extract_lets +onlyGivenNames x; refine Kept.cut x ?_ ?_ <;> first | (intro hx; clear_value x) | (unfold x; clear x))
    | (extract_lets +onlyGivenNames x; subst x)
    | exact rfl
    | with_reducible first | apply State.endRead_kept | exact Kept.refl _ _ | apply Kept.foldl
    | ((with_reducible refine Kept.build ?_ ?_ ?_ ?_); rotate_left; exact rfl; exact rfl; exact rfl; fail_if_success split)
    | (intro _; intros; try dsimp -zeta only)

theorem State.failCmd_kept {ps : List Part} {s t : State} (a1 a2) (h : Kept ps s t) (hp : partsIn [.cmd, .cmp, .cnt, .fsp, .jnl, .lay, .outbox, .win, .reg 7, .reg 21] ps = true) : Kept ps s (State.failCmd t a1 a2) := by
  refine h.lift hp ?_
  clear h hp
  unfold State.failCmd
  repeat' first
    | with_reducible assumption
    | (extract_lets +onlyGivenNames x; refine Kept.cut x ?_ ?_ <;> first | (intro hx; clear_value x) | (unfold x; clear x))
    | (extract_lets +onlyGivenNames x; subst x)
    | exact rfl
    | with_reducible first | apply State.finish_kept | apply State.endReads_kept | exact Kept.refl _ _
    | ((with_reducible refine Kept.build ?_ ?_ ?_ ?_); rotate_left; exact rfl; exact rfl; exact rfl; fail_if_success split)

theorem State.chargeRestore_kept {ps : List Part} {s t : State} (a1) (h : Kept ps s t) (hp : partsIn [.sch] ps = true) : Kept ps s (State.chargeRestore t a1) := by
  refine h.lift hp ?_
  clear h hp
  unfold State.chargeRestore
  repeat' first
    | (extract_lets +onlyGivenNames x; subst x)
    | with_reducible first | apply Kept.ite | exact Kept.refl _ _
    | ((with_reducible refine Kept.build ?_ ?_ ?_ ?_); rotate_left; exact rfl; exact rfl; exact rfl; fail_if_success split)

theorem State.startTallyRead_kept {ps : List Part} {s t : State} (a1 a2 a3 a4 a5 a6) (h : Kept ps s t) (hp : partsIn [.cnt, .deferred, .evt, .fov, .fsp, .gch, .lay, .outbox, .pwr, .reg 8, .reg 9, .reg 16, .reg 20, .reg 21] ps = true) : Kept ps s (State.startTallyRead t a1 a2 a3 a4 a5 a6) := by
  refine h.lift hp ?_
  clear h hp
  unfold State.startTallyRead
  repeat' first
    | (extract_lets +onlyGivenNames x; subst x)
    | exact rfl
    | with_reducible first | apply State.queueRead_kept | exact Kept.refl _ _

theorem State.admitTallyRead_kept {ps : List Part} {s t : State} (a1 a2) (h : Kept ps s t) (hp : partsIn [.cmd, .cnt, .deferred, .evt, .fov, .fsp, .gch, .lay, .outbox, .pwr, .sch, .win, .reg 7, .reg 8, .reg 9, .reg 16, .reg 20, .reg 21] ps = true) : Kept ps s (State.admitTallyRead t a1 a2) := by
  refine h.lift hp ?_
  clear h hp
  unfold State.admitTallyRead
  repeat' first
    | with_reducible assumption
    | (extract_lets +onlyGivenNames x; refine Kept.cut x ?_ ?_ <;> first | (intro hx; clear_value x) | (unfold x; clear x))
    | (extract_lets +onlyGivenNames x; subst x)
    | with_reducible apply Kept.ite
    | exact rfl
    | with_reducible first | apply State.setEntry_kept | apply State.chargeRestore_kept | apply State.finish_kept | apply State.startTallyRead_kept | exact Kept.refl _ _ | apply Kept.foldl
    | split
    | (intro _; intros; try dsimp -zeta only)

theorem State.admitNativeRead_kept {ps : List Part} {s t : State} (a1 a2) (h : Kept ps s t) (hp : partsIn [.cmd, .cnt, .deferred, .evt, .fov, .fsp, .gch, .lay, .outbox, .pwr, .sch, .win, .reg 7, .reg 8, .reg 9, .reg 16, .reg 20, .reg 21] ps = true) : Kept ps s (State.admitNativeRead t a1 a2) := by
  refine h.lift hp ?_
  clear h hp
  unfold State.admitNativeRead
  repeat' first
    | with_reducible assumption
    | (extract_lets +onlyGivenNames x; refine Kept.cut x ?_ ?_ <;> first | (intro hx; clear_value x) | (unfold x; clear x))
    | (extract_lets +onlyGivenNames x; subst x)
    | with_reducible apply Kept.ite
    | exact rfl
    | with_reducible first | apply State.setEntry_kept | apply State.chargeRestore_kept | apply State.finish_kept | apply State.startRead_kept | apply State.completeRead_kept | exact Kept.refl _ _ | apply Kept.foldl
    | (intro _; intros; try dsimp -zeta only)

theorem State.admitRead_kept {ps : List Part} {s t : State} (a1 a2) (h : Kept ps s t) (hp : partsIn [.cmd, .cnt, .deferred, .evt, .fov, .fsp, .gch, .lay, .outbox, .pwr, .sch, .win, .reg 7, .reg 8, .reg 9, .reg 16, .reg 20, .reg 21] ps = true) : Kept ps s (State.admitRead t a1 a2) := by
  refine h.lift hp ?_
  clear h hp
  unfold State.admitRead
  repeat' first
    | with_reducible apply Kept.ite
    | exact rfl
    | with_reducible first | apply State.lockShort_kept | apply State.waitLock_kept | apply State.finish_kept | apply State.admitNativeRead_kept | apply State.admitTallyRead_kept | refine State.takeLocks_kept_eq ‹_› ?_ rfl | exact Kept.refl _ _
    | split

theorem State.waitBlack_kept {ps : List Part} {s t : State} (a1 a2) (h : Kept ps s t) (hp : partsIn [.cmd, .cnt, .reg 21] ps = true) : Kept ps s (State.waitBlack t a1 a2) := by
  refine h.lift hp ?_
  clear h hp
  unfold State.waitBlack
  repeat' first
    | with_reducible apply Kept.ite
    | exact rfl
    | with_reducible first | apply State.modEntry_kept | apply State.count_kept | exact Kept.refl _ _

theorem State.waitCap_kept {ps : List Part} {s t : State} (a1 a2) (h : Kept ps s t) (hp : partsIn [.cmd, .cnt, .reg 21] ps = true) : Kept ps s (State.waitCap t a1 a2) := by
  refine h.lift hp ?_
  clear h hp
  unfold State.waitCap
  repeat' first
    | with_reducible apply Kept.ite
    | exact rfl
    | with_reducible first | apply State.modEntry_kept | apply State.count_kept | exact Kept.refl _ _

theorem State.giveBlock_kept {ps : List Part} {s t : State} (a1 a2) (h : Kept ps s t) (hp : partsIn [.win] ps = true) : Kept ps s (State.giveBlock t a1 a2) := by
  refine h.lift hp ?_
  clear h hp
  unfold State.giveBlock
  repeat' first
    | (extract_lets +onlyGivenNames x; subst x)
    | with_reducible exact Kept.refl _ _
    | ((with_reducible refine Kept.build ?_ ?_ ?_ ?_); rotate_left; exact rfl; exact rfl; exact rfl; fail_if_success split)

theorem State.assemble_kept {ps : List Part} {s t : State} (a1 a2 a3 a4 a5) (h : Kept ps s t) (hp : partsIn [.win] ps = true) : Kept ps s (State.assemble t a1 a2 a3 a4 a5) := by
  refine h.lift hp ?_
  clear h hp
  unfold State.assemble
  repeat' first
    | with_reducible assumption
    | (extract_lets +onlyGivenNames x; refine Kept.cut x ?_ ?_ <;> first | (intro hx; clear_value x) | (unfold x; clear x))
    | (extract_lets +onlyGivenNames x; subst x)
    | exact rfl
    | with_reducible first | apply State.readBack_kept | apply State.giveBlock_kept | exact Kept.refl _ _ | apply Kept.foldl1
    | ((with_reducible refine Kept.build ?_ ?_ ?_ ?_); rotate_left; exact rfl; exact rfl; exact rfl; fail_if_success split)
    | split
    | (intro _; intros; try dsimp -zeta only)

theorem State.gather_kept {ps : List Part} {s t : State} (a1 a2 a3 a4) (h : Kept ps s t) (hp : partsIn [.cnt, .deferred, .evt, .fov, .fsp, .gch, .lay, .outbox, .pwr, .reg 8, .reg 9, .reg 13, .reg 16, .reg 20, .reg 21] ps = true) : Kept ps s (State.gather t a1 a2 a3 a4) := by
  refine h.lift hp ?_
  clear h hp
  unfold State.gather
  repeat' first
    | with_reducible assumption
    | (extract_lets +onlyGivenNames x; refine Kept.cut x ?_ ?_ <;> first | (intro hx; clear_value x) | (unfold x; clear x))
    | (extract_lets +onlyGivenNames x; subst x)
    | with_reducible apply Kept.ite
    | exact rfl
    | with_reducible first | apply State.startRead_kept | apply State.count_kept | apply State.bumpWrap_kept | exact Kept.refl _ _
    | ((with_reducible refine Kept.build ?_ ?_ ?_ ?_); rotate_left; exact rfl; exact rfl; exact rfl; fail_if_success split)

theorem State.unmapList_kept {ps : List Part} {s t : State} (a1 a2 a3) (h : Kept ps s t) (hp : partsIn [.cph, .lay] ps = true) : Kept ps s (State.unmapList t a1 a2 a3).1 := by
  refine h.lift hp ?_
  clear h hp
  unfold State.unmapList
  repeat' first
    | with_reducible assumption
    | (extract_lets +onlyGivenNames x; subst x)
    | exact rfl
    | with_reducible first | apply State.unmap_kept | exact Kept.refl _ _ | apply Kept.foldl1
    | (intro _; intros; try dsimp -zeta only)

theorem State.unmapList_kept_eq {ps : List Part} {s t u : State} {a1 a2 a3} {x} {y} (e : State.unmapList t a1 a2 a3 = (u, x, y)) (h : Kept ps s t) (hp : partsIn [.cph, .lay] ps = true) : Kept ps s u := by
  have k := State.unmapList_kept (ps := ps) (s := s) (t := t) a1 a2 a3 h hp
  rw [e] at k
  exact k

theorem State.mapRecords_kept {ps : List Part} {s t : State} (a1 a2 a3) (h : Kept ps s t) (hp : partsIn [.cnt, .evt, .jnl, .outbox, .reg 14, .reg 16, .reg 20, .reg 21] ps = true) : Kept ps s (State.mapRecords a1 a2 a3 t) := by
  refine h.lift hp ?_
  clear h hp
  have key : ∀ u, Kept [.cnt, .evt, .jnl, .outbox, .reg 14, .reg 16, .reg 20, .reg 21] t u → Kept [.cnt, .evt, .jnl, .outbox, .reg 14, .reg 16, .reg 20, .reg 21] t (State.mapRecords a1 a2 a3 u) := by
    induction a1 generalizing a2 a3 with
    | zero => intro u hu; unfold State.mapRecords; exact hu
    | succ n ih =>
      intro u hu
      unfold State.mapRecords
      repeat' first
        | with_reducible first | assumption | apply ih
        | exact rfl
        | with_reducible apply State.mapRecord_kept
        | split
  exact key t (Kept.refl _ _)

theorem State.forwardReplica_kept {ps : List Part} {s t : State} (a1 a2) (h : Kept ps s t) (hp : partsIn [.cmd, .free, .outbox] ps = true) : Kept ps s (State.forwardReplica t a1 a2) := by
  refine h.lift hp ?_
  clear h hp
  unfold State.forwardReplica
  repeat' first
    | (extract_lets +onlyGivenNames x; subst x)
    | exact rfl
    | with_reducible first | apply State.modEntry_kept | apply State.takeFree_kept | apply State.emit_kept | exact Kept.refl _ _
    | split

theorem State.markAdmitted_kept {ps : List Part} {s t : State} (a1 a2) (h : Kept ps s t) (hp : partsIn [.cmd, .free, .outbox, .reg 7] ps = true) : Kept ps s (State.markAdmitted t a1 a2) := by
  refine h.lift hp ?_
  clear h hp
  unfold State.markAdmitted
  repeat' first
    | with_reducible assumption
    | (extract_lets +onlyGivenNames x; refine Kept.cut x ?_ ?_ <;> first | (intro hx; clear_value x) | (unfold x; clear x))
    | (extract_lets +onlyGivenNames x; subst x)
    | exact rfl
    | with_reducible first | apply State.setEntry_kept | apply State.forwardReplica_kept | apply State.cmdStatus_kept | exact Kept.refl _ _
    | ((with_reducible refine Kept.build ?_ ?_ ?_ ?_); rotate_left; exact rfl; exact rfl; exact rfl; fail_if_success split)
    | split

theorem State.zoneWrite_kept {ps : List Part} {s t : State} (a1 a2 a3 a4) (h : Kept ps s t) (hp : partsIn [.cmd] ps = true) : KeptExc ps s (State.zoneWrite t a1 a2 a3 a4) := by
  refine KeptExc.lift h hp ?_
  clear h hp
  unfold State.zoneWrite
  repeat' first
    | (extract_lets +onlyGivenNames x; subst x)
    | exact rfl
    | with_reducible first | apply State.advanceZone_kept | apply KeptExc.ok' | apply KeptExc.error' | refine State.openZone_kept_eq ‹_› ?_ rfl | exact Kept.refl _ _
    | split

theorem State.zoneWrite_kept_eq {ps : List Part} {s t u : State} {a1 a2 a3 a4} (e : State.zoneWrite t a1 a2 a3 a4 = .ok u) (h : Kept ps s t) (hp : partsIn [.cmd] ps = true) : Kept ps s u := by
  have k := State.zoneWrite_kept (ps := ps) (s := s) (t := t) a1 a2 a3 a4 h hp
  rw [e] at k
  exact k

theorem State.zoneStep_kept {ps : List Part} {s t : State} (a1 a2) (h : Kept ps s t) (hp : partsIn [.cmd] ps = true) : KeptExc ps s (State.zoneStep t a1 a2) := by
  refine KeptExc.lift h hp ?_
  clear h hp
  unfold State.zoneStep
  repeat' first
    | exact rfl
    | with_reducible first | apply State.zoneWrite_kept | apply KeptExc.ok' | exact Kept.refl _ _
    | split

theorem State.zoneStep_kept_eq {ps : List Part} {s t u : State} {a1 a2} (e : State.zoneStep t a1 a2 = .ok u) (h : Kept ps s t) (hp : partsIn [.cmd] ps = true) : Kept ps s u := by
  have k := State.zoneStep_kept (ps := ps) (s := s) (t := t) a1 a2 h hp
  rw [e] at k
  exact k

theorem State.startWrite_kept {ps : List Part} {s t : State} (a1 a2) (h : Kept ps s t) (hp : partsIn [.cmd, .cnt, .deferred, .evt, .fov, .free, .fsp, .gch, .lay, .outbox, .pwr, .win, .reg 7, .reg 8, .reg 9, .reg 13, .reg 16, .reg 20, .reg 21] ps = true) : Kept ps s (State.startWrite t a1 a2) := by
  refine h.lift hp ?_
  clear h hp
  unfold State.startWrite
  repeat' first
    | with_reducible assumption
    | (extract_lets +onlyGivenNames x; refine Kept.cut x ?_ ?_ <;> first | (intro hx; clear_value x) | (unfold x; clear x))
    | (extract_lets +onlyGivenNames x; subst x)
    | with_reducible apply Kept.ite
    | exact rfl
    | with_reducible first | apply State.assemble_kept | apply State.markAdmitted_kept | apply State.finish_kept | apply State.gather_kept | exact Kept.refl _ _ | apply Kept.foldl
    | split
    | (intro _; intros; try dsimp -zeta only)

theorem State.startZeroes_kept {ps : List Part} {s t : State} (a1 a2) (h : Kept ps s t) (hp : partsIn [.cmd, .cnt, .cph, .deferred, .evt, .fov, .free, .fsp, .gch, .jnl, .lay, .outbox, .pwr, .win, .reg 7, .reg 8, .reg 9, .reg 13, .reg 14, .reg 16, .reg 20, .reg 21] ps = true) : Kept ps s (State.startZeroes t a1 a2) := by
  refine h.lift hp ?_
  clear h hp
  unfold State.startZeroes
  repeat' first
    | with_reducible assumption
    | (extract_lets +onlyGivenNames x; subst x)
    | with_reducible apply Kept.ite
    | exact rfl
    | with_reducible first | apply State.markAdmitted_kept | apply State.finish_kept | apply State.completeWrite_kept | apply State.mapRecords_kept | apply State.giveBlock_kept | apply State.unmapList_kept | apply State.gather_kept | exact Kept.refl _ _ | apply Kept.foldl
    | (intro _; intros; try dsimp -zeta only)

theorem State.startUnmap_kept {ps : List Part} {s t : State} (a1 a2 a3) (h : Kept ps s t) (hp : partsIn [.cmd, .cnt, .cph, .evt, .free, .fsp, .jnl, .lay, .outbox, .win, .reg 7, .reg 14, .reg 16, .reg 20, .reg 21] ps = true) : Kept ps s (State.startUnmap t a1 a2 a3) := by
  refine h.lift hp ?_
  clear h hp
  unfold State.startUnmap
  repeat' first
    | exact rfl
    | with_reducible first | apply State.markAdmitted_kept | apply State.completeWrite_kept | apply State.mapRecords_kept | apply State.unmapList_kept | exact Kept.refl _ _

theorem State.startReset_kept {ps : List Part} {s t : State} (a1 a2) (h : Kept ps s t) (hp : partsIn [.cmd, .cnt, .cph, .evt, .free, .fsp, .jnl, .lay, .outbox, .win, .reg 7, .reg 14, .reg 16, .reg 20, .reg 21] ps = true) : Kept ps s (State.startReset t a1 a2) := by
  refine h.lift hp ?_
  clear h hp
  unfold State.startReset
  repeat' first
    | with_reducible assumption
    | (extract_lets +onlyGivenNames x; refine Kept.cut x ?_ ?_ <;> first | (intro hx; clear_value x) | (unfold x; clear x))
    | (extract_lets +onlyGivenNames x; subst x)
    | exact rfl
    | with_reducible first | apply State.setZone_kept | apply State.startUnmap_kept | exact Kept.refl _ _ | apply Kept.foldl
    | (intro _; intros; try dsimp -zeta only)

theorem State.startFinish_kept {ps : List Part} {s t : State} (a1 a2) (h : Kept ps s t) (hp : partsIn [.cmd, .cnt, .free, .fsp, .outbox, .win, .reg 7, .reg 21] ps = true) : Kept ps s (State.startFinish t a1 a2) := by
  refine h.lift hp ?_
  clear h hp
  unfold State.startFinish
  repeat' first
    | with_reducible assumption
    | (extract_lets +onlyGivenNames x; refine Kept.cut x ?_ ?_ <;> first | (intro hx; clear_value x) | (unfold x; clear x))
    | (extract_lets +onlyGivenNames x; subst x)
    | exact rfl
    | with_reducible first | apply State.setZone_kept | apply State.markAdmitted_kept | apply State.completeWrite_kept | exact Kept.refl _ _ | apply Kept.foldl
    | (intro _; intros; try dsimp -zeta only)

theorem State.startTally_kept {ps : List Part} {s t : State} (a1 a2) (h : Kept ps s t) (hp : partsIn [.cmd, .cnt, .free, .fsp, .jnl, .outbox, .win, .reg 7, .reg 21] ps = true) : Kept ps s (State.startTally t a1 a2) := by
  refine h.lift hp ?_
  clear h hp
  unfold State.startTally
  repeat' first
    | with_reducible assumption
    | (extract_lets +onlyGivenNames x; refine Kept.cut x ?_ ?_ <;> first | (intro hx; clear_value x) | (unfold x; clear x))
    | (extract_lets +onlyGivenNames x; subst x)
    | exact rfl
    | with_reducible first | apply State.markAdmitted_kept | apply State.finish_kept | exact Kept.refl _ _
    | ((with_reducible refine Kept.build ?_ ?_ ?_ ?_); rotate_left; exact rfl; exact rfl; exact rfl; fail_if_success split)
    | split

theorem State.startClass_kept {ps : List Part} {s t : State} (a1 a2) (h : Kept ps s t) (hp : partsIn [.cmd, .cnt, .cph, .deferred, .evt, .fov, .free, .fsp, .gch, .jnl, .lay, .outbox, .pwr, .win, .reg 7, .reg 8, .reg 9, .reg 13, .reg 14, .reg 16, .reg 20, .reg 21] ps = true) : Kept ps s (State.startClass t a1 a2) := by
  refine h.lift hp ?_
  clear h hp
  unfold State.startClass
  repeat' first
    | exact rfl
    | with_reducible first | apply State.startTally_kept | apply State.startUnmap_kept | apply State.startWrite_kept | apply State.startZeroes_kept | apply State.startReset_kept | apply State.startFinish_kept | exact Kept.refl _ _
    | split

theorem State.needAppend_kept {ps : List Part} {s t : State} (a1) (h : Kept ps s t) (hp : partsIn [.deferred, .evt, .fov, .lay, .outbox, .pwr, .reg 13, .reg 20] ps = true) : Kept ps s (State.needAppend t a1).2 := by
  refine h.lift hp ?_
  clear h hp
  unfold State.needAppend
  repeat' first
    | with_reducible assumption
    | (extract_lets +onlyGivenNames x; refine Kept.cut x ?_ ?_ <;> first | (intro hx; clear_value x) | (unfold x; clear x))
    | exact rfl
    | with_reducible first | apply State.wr_kept | apply State.requestSet_kept | exact Kept.refl _ _
    | split

theorem State.needAppend_kept_eq {ps : List Part} {s t u : State} {a1} {x} (e : State.needAppend t a1 = (x, u)) (h : Kept ps s t) (hp : partsIn [.deferred, .evt, .fov, .lay, .outbox, .pwr, .reg 13, .reg 20] ps = true) : Kept ps s u := by
  have k := State.needAppend_kept (ps := ps) (s := s) (t := t) a1 h hp
  rw [e] at k
  exact k

theorem State.admitWrite_kept {ps : List Part} {s t : State} (a1 a2) (h : Kept ps s t) (hp : partsIn [.cmd, .cnt, .cph, .deferred, .evt, .fov, .free, .fsp, .gch, .jnl, .lay, .outbox, .pwr, .win, .reg 7, .reg 8, .reg 9, .reg 13, .reg 14, .reg 16, .reg 20, .reg 21] ps = true) : Kept ps s (State.admitWrite t a1 a2) := by
  refine h.lift hp ?_
  clear h hp
  unfold State.admitWrite
  repeat' first
    | with_reducible assumption
    | (extract_lets +onlyGivenNames x; refine Kept.cut x ?_ ?_ <;> first | (intro hx; clear_value x) | (unfold x; clear x))
    | (extract_lets +onlyGivenNames x; subst x)
    | with_reducible apply Kept.ite
    | exact rfl
    | with_reducible first | apply State.waitCap_kept | apply State.needAppend_kept | apply State.wr_kept | apply State.lockShort_kept | apply State.waitLock_kept | apply State.finish_kept | apply State.startClass_kept | apply State.waitBlack_kept | refine State.takeLocks_kept_eq ‹_› ?_ rfl | refine State.zoneStep_kept_eq ‹_› ?_ rfl | exact Kept.refl _ _
    | split

theorem State.admitZone_kept {ps : List Part} {s t : State} (a1 a2) (h : Kept ps s t) (hp : partsIn [.cmd, .cnt, .fsp, .outbox, .win, .reg 7, .reg 21] ps = true) : Kept ps s (State.admitZone t a1 a2) := by
  unfold State.admitZone
  have hf := fun st d e (u : State) (hu : Kept ps s u) => State.finish_kept a1 st d e hu (within_trans rfl hp)
  dsimp only
  refine Kept.ite (Kept.ite (hf _ _ _ _ h) (hf _ _ _ _ (Kept.foldl h fun x b hx => State.setZone_kept _ _ _ hx (within_trans rfl hp)))) ?_
  have hk : KeptExc ps s ((t.zoneTargets a2 fun z => z.st == .closed).foldl (init := (Except.ok t : Except (Nat × Nat) State)) fun a z => match a with
      | .ok s => s.openZone a2.io.nsid z true
      | .error st => .error st) := by
    refine KeptExc.foldl h fun x b hx => ?_
    split
    · exact State.openZone_kept _ _ _ hx (within_trans rfl hp)
    · trivial
  split
  · rename_i e; exact hf _ _ _ _ (Eq.subst (motive := fun o => KeptExc ps s o) e hk)
  · exact hf _ _ _ _ h

theorem execCommandAdmit_kept {ps : List Part} {s t : State} (a1) (h : Kept ps s t) (hp : partsIn [.cmd, .cnt, .cph, .deferred, .evt, .fov, .free, .fsp, .gch, .jnl, .lay, .outbox, .pwr, .sch, .win, .reg 7, .reg 8, .reg 9, .reg 13, .reg 14, .reg 16, .reg 20, .reg 21] ps = true) : KeptOut ps s (execCommandAdmit a1 t) := by
  refine KeptOut.lift h hp ?_
  clear h hp
  unfold execCommandAdmit
  repeat' first
    | with_reducible apply Kept.ite
    | exact rfl
    | with_reducible first | apply State.settleFlushes_kept | apply State.setEntry_kept | apply State.admitWrite_kept | apply State.admitZone_kept | apply State.admitRead_kept | apply State.up_kept | apply KeptOut.next | exact Kept.refl _ _
    | split

end Sys2Proof.Machine
end

