-- ==== Sys2Proof/Laws/KeptC.lean ====
section
/-!
SUPPORT. Laws/KeptC.lean: one lemma per function: what it keeps of the state it is given (the cache, compression, the cipher block, layout and the journal).
-/

namespace Sys2Proof.Machine

theorem execCacheEnable_kept {ps : List Part} {s t : State} (h : Kept ps s t) (hp : partsIn [.deferred, .reg 9] ps = true) : KeptOut ps s (execCacheEnable t) := by
  refine KeptOut.lift h hp ?_
  clear h hp
  unfold execCacheEnable
  repeat' first
    | with_reducible apply Kept.ite
    | exact rfl
    | with_reducible first | apply State.wr_kept | apply State.defer_kept | apply State.up_kept | apply KeptOut.next | exact Kept.refl _ _

theorem execCacheDisable_kept {ps : List Part} {s t : State} (h : Kept ps s t) (hp : partsIn [.deferred, .reg 9] ps = true) : KeptOut ps s (execCacheDisable t) := by
  refine KeptOut.lift h hp ?_
  clear h hp
  unfold execCacheDisable
  repeat' first
    | with_reducible apply Kept.ite
    | exact rfl
    | with_reducible first | apply State.wr_kept | apply State.defer_kept | apply State.up_kept | apply KeptOut.next | exact Kept.refl _ _

theorem State.setCache_kept {ps : List Part} {s t : State} (a1) (h : Kept ps s t) (hp : partsIn [.evt, .gch, .reg 9, .reg 20] ps = true) : Kept ps s (State.setCache t a1) := by
  refine h.lift hp ?_
  clear h hp
  unfold State.setCache
  repeat' first
    | with_reducible assumption
    | (extract_lets +onlyGivenNames x; refine Kept.cut x ?_ ?_ <;> first | (intro hx; clear_value x) | (unfold x; clear x))
    | (extract_lets +onlyGivenNames x; subst x)
    | with_reducible apply Kept.ite
    | exact rfl
    | with_reducible first | apply State.wr_kept | apply State.raise_kept | exact Kept.refl _ _
    | ((with_reducible refine Kept.build ?_ ?_ ?_ ?_); rotate_left; exact rfl; exact rfl; exact rfl; fail_if_success split)

theorem State.askWriteBack_kept {ps : List Part} {s t : State} (a1) (h : Kept ps s t) (hp : partsIn [.sal] ps = true) : KeptOpt ps s (fun u => u) (State.askWriteBack t a1) := by
  refine KeptOpt.lift h hp ?_
  clear h hp
  unfold State.askWriteBack
  repeat' first
    | (extract_lets +onlyGivenNames x; subst x)
    | with_reducible first | apply KeptOpt.some' | apply KeptOpt.none' | exact Kept.refl _ _
    | ((with_reducible refine Kept.build ?_ ?_ ?_ ?_); rotate_left; exact rfl; exact rfl; exact rfl; fail_if_success split)
    | split

theorem State.askWriteBack_kept_eq {ps : List Part} {s t u : State} {a1} (e : State.askWriteBack t a1 = some u) (h : Kept ps s t) (hp : partsIn [.sal] ps = true) : Kept ps s u := by
  have k := State.askWriteBack_kept (ps := ps) (s := s) (t := t) a1 h hp
  rw [e] at k
  exact k

theorem State.cacheSwitch_kept {ps : List Part} {s t : State} (a1) (h : Kept ps s t) (hp : partsIn [.cnt, .evt, .gch, .sal, .reg 9, .reg 10, .reg 20, .reg 21] ps = true) : Kept ps s (State.cacheSwitch t a1) := by
  refine h.lift hp ?_
  clear h hp
  unfold State.cacheSwitch
  repeat' first
    | with_reducible assumption
    | (extract_lets +onlyGivenNames x; refine Kept.cut x ?_ ?_ <;> first | (intro hx; clear_value x) | (unfold x; clear x))
    | (extract_lets +onlyGivenNames x; subst x)
    | with_reducible apply Kept.ite
    | exact rfl
    | with_reducible first | apply State.salStatus_kept | apply State.setCache_kept | apply State.salEnd_kept | exact Kept.refl _ _ | apply Kept.foldl
    | ((with_reducible refine Kept.build ?_ ?_ ?_ ?_); rotate_left; exact rfl; exact rfl; exact rfl; fail_if_success split)
    | split
    | (intro _; intros; try dsimp -zeta only)

theorem execCacheDrainDone_kept {ps : List Part} {s t : State} (h : Kept ps s t) (hp : partsIn [.evt, .gch, .sal, .reg 9, .reg 10, .reg 20] ps = true) : KeptOut ps s (execCacheDrainDone t) := by
  refine KeptOut.lift h hp ?_
  clear h hp
  unfold execCacheDrainDone
  repeat' first
    | with_reducible assumption
    | (extract_lets +onlyGivenNames x; refine Kept.cut x ?_ ?_ <;> first | (intro hx; clear_value x) | (unfold x; clear x))
    | (extract_lets +onlyGivenNames x; subst x)
    | with_reducible apply Kept.ite
    | exact rfl
    | with_reducible first | apply State.cacheStatus_kept | apply State.salStatus_kept | apply State.setCache_kept | apply State.up_kept | exact Kept.refl _ _
    | ((with_reducible refine Kept.build ?_ ?_ ?_ ?_); rotate_left; exact rfl; exact rfl; exact rfl; fail_if_success split)

theorem State.deadWay_kept {ps : List Part} {s t : State} (a1 a2) (h : Kept ps s t) (hp : partsIn [.evt, .gch, .lay, .sal, .reg 9, .reg 20] ps = true) : Kept ps s (State.deadWay t a1 a2) := by
  refine h.lift hp ?_
  clear h hp
  unfold State.deadWay
  repeat' first
    | with_reducible assumption
    | (extract_lets +onlyGivenNames x; refine Kept.cut x ?_ ?_ <;> first | (intro hx; clear_value x) | (unfold x; clear x))
    | (extract_lets +onlyGivenNames x; subst x)
    | with_reducible apply Kept.ite
    | exact rfl
    | with_reducible first | apply State.cacheStatus_kept | apply State.removeLine_kept | apply State.rewriteStripe_kept | apply State.raise_kept | exact Kept.refl _ _ | apply Kept.foldl
    | ((with_reducible refine Kept.build ?_ ?_ ?_ ?_); rotate_left; exact rfl; exact rfl; exact rfl; fail_if_success split)
    | split
    | (intro _; intros; try dsimp -zeta only)

theorem execCacheFillDone_kept {ps : List Part} {s t : State} (a1 a2 a3 a4) (h : Kept ps s t) (hp : partsIn [.cnt, .evt, .gch, .lay, .sal, .reg 9, .reg 20, .reg 21] ps = true) : KeptOut ps s (execCacheFillDone a1 a2 a3 a4 t) := by
  refine KeptOut.lift h hp ?_
  clear h hp
  unfold execCacheFillDone
  repeat' first
    | with_reducible assumption
    | (extract_lets +onlyGivenNames x; refine Kept.cut x ?_ ?_ <;> first | (intro hx; clear_value x) | (unfold x; clear x))
    | (extract_lets +onlyGivenNames x; subst x)
    | with_reducible apply Kept.ite
    | exact rfl
    | with_reducible first | apply State.cacheStatus_kept | apply State.deadWay_kept | apply State.setLine_kept | apply State.removeLine_kept | apply State.touchLine_kept | apply State.count_kept | apply KeptOut.guard | exact Kept.refl _ _
    | ((with_reducible refine Kept.build ?_ ?_ ?_ ?_); rotate_left; exact rfl; exact rfl; exact rfl; fail_if_success split)
    | split

theorem State.salGo_kept {ps : List Part} {s t : State} (a1 a2) (h : Kept ps s t) (hp : partsIn [.evt, .sal, .reg 10, .reg 20] ps = true) : KeptOut ps s (State.salGo t a1 a2) := by
  refine KeptOut.lift h hp ?_
  clear h hp
  unfold State.salGo
  repeat' first
    | (extract_lets +onlyGivenNames x; subst x)
    | exact rfl
    | with_reducible first | apply State.salQueue_kept | apply State.acts_kept | apply KeptOut.next | exact Kept.refl _ _

theorem execSalClean_kept {ps : List Part} {s t : State} (a1) (h : Kept ps s t) (hp : partsIn [.evt, .sal, .reg 10, .reg 20] ps = true) : KeptOut ps s (execSalClean a1 t) := by
  refine KeptOut.lift h hp ?_
  clear h hp
  unfold execSalClean
  repeat' first
    | exact rfl
    | with_reducible first | apply State.salGo_kept | exact Kept.refl _ _

theorem execSalInvalidate_kept {ps : List Part} {s t : State} (a1) (h : Kept ps s t) (hp : partsIn [.evt, .sal, .reg 10, .reg 20] ps = true) : KeptOut ps s (execSalInvalidate a1 t) := by
  refine KeptOut.lift h hp ?_
  clear h hp
  unfold execSalInvalidate
  repeat' first
    | exact rfl
    | with_reducible first | apply State.salGo_kept | exact Kept.refl _ _

theorem execSalCleanInvalidate_kept {ps : List Part} {s t : State} (a1) (h : Kept ps s t) (hp : partsIn [.evt, .sal, .reg 10, .reg 20] ps = true) : KeptOut ps s (execSalCleanInvalidate a1 t) := by
  refine KeptOut.lift h hp ?_
  clear h hp
  unfold execSalCleanInvalidate
  repeat' first
    | exact rfl
    | with_reducible first | apply State.salGo_kept | exact Kept.refl _ _

theorem execSalPin_kept {ps : List Part} {s t : State} (a1) (h : Kept ps s t) (hp : partsIn [.evt, .sal, .reg 10, .reg 20] ps = true) : KeptOut ps s (execSalPin a1 t) := by
  refine KeptOut.lift h hp ?_
  clear h hp
  unfold execSalPin
  repeat' first
    | exact rfl
    | with_reducible first | apply State.salGo_kept | exact Kept.refl _ _

theorem execSalUnpin_kept {ps : List Part} {s t : State} (a1) (h : Kept ps s t) (hp : partsIn [.evt, .sal, .reg 10, .reg 20] ps = true) : KeptOut ps s (execSalUnpin a1 t) := by
  refine KeptOut.lift h hp ?_
  clear h hp
  unfold execSalUnpin
  repeat' first
    | exact rfl
    | with_reducible first | apply State.salGo_kept | exact Kept.refl _ _

theorem State.pinLine_kept {ps : List Part} {s t : State} (a1 a2 a3) (h : Kept ps s t) (hp : partsIn [.cnt, .evt, .gch, .reg 9, .reg 20, .reg 21] ps = true) : Kept ps s (State.pinLine t a1 a2 a3).2 := by
  refine h.lift hp ?_
  clear h hp
  unfold State.pinLine
  repeat' first
    | with_reducible assumption
    | (extract_lets +onlyGivenNames x; refine Kept.cut x ?_ ?_ <;> first | (intro hx; clear_value x) | (unfold x; clear x))
    | (extract_lets +onlyGivenNames x; subst x)
    | exact rfl
    | with_reducible first | apply State.raiseLim_kept | apply State.cacheStatus_kept | apply State.setLine_kept | apply State.count_kept | exact Kept.refl _ _
    | ((with_reducible refine Kept.build ?_ ?_ ?_ ?_); rotate_left; exact rfl; exact rfl; exact rfl; fail_if_success split)
    | split

theorem State.pinLine_kept_eq {ps : List Part} {s t u : State} {a1 a2 a3} {x} (e : State.pinLine t a1 a2 a3 = (x, u)) (h : Kept ps s t) (hp : partsIn [.cnt, .evt, .gch, .reg 9, .reg 20, .reg 21] ps = true) : Kept ps s u := by
  have k := State.pinLine_kept (ps := ps) (s := s) (t := t) a1 a2 a3 h hp
  rw [e] at k
  exact k

theorem State.salLine_kept {ps : List Part} {s t : State} (a1 a2 a3) (h : Kept ps s t) (hp : partsIn [.cnt, .evt, .gch, .sal, .reg 9, .reg 20, .reg 21] ps = true) : KeptOpt ps s Prod.snd (State.salLine t a1 a2 a3) := by
  unfold State.salLine
  have hr := State.cacheStatus_kept (State.removeLine_kept a2 h (within_trans rfl hp)) (within_trans rfl hp)
  have hw := KeptOpt.map (sel' := Prod.snd) (f := fun s => (false, s)) (State.askWriteBack_kept a3 h (within_trans rfl hp)) (fun _ k => k)
  have hl := State.cacheStatus_kept (State.setLine_kept a2 { a3 with pin := false } h (within_trans rfl hp)) (within_trans rfl hp)
  have hpn := State.pinLine_kept a1 a3.slot a3.line h (within_trans rfl hp)
  repeat' split
  all_goals first | trivial | exact h | exact hr | exact hw | exact hl | exact hpn

theorem State.salLine_kept_eq {ps : List Part} {s t u : State} {a1 a2 a3} {x} (e : State.salLine t a1 a2 a3 = some (x, u)) (h : Kept ps s t) (hp : partsIn [.cnt, .evt, .gch, .sal, .reg 9, .reg 20, .reg 21] ps = true) : Kept ps s u := by
  have k := State.salLine_kept (ps := ps) (s := s) (t := t) a1 a2 a3 h hp
  rw [e] at k
  exact k

theorem State.salAsk_kept {ps : List Part} {s t : State} (a1 a2) (h : Kept ps s t) (hp : partsIn [.sal] ps = true) : Kept ps s (State.salAsk t a1 a2) := by
  refine h.lift hp ?_
  clear h hp
  unfold State.salAsk
  repeat' first
    | with_reducible apply Kept.ite
    | exact rfl
    | with_reducible first | apply State.askWriteBack_kept | apply KeptOpt.getD | exact Kept.refl _ _

theorem State.salStep_kept {ps : List Part} {s t : State} (a1) (h : Kept ps s t) (hp : partsIn [.cnt, .evt, .gch, .sal, .reg 9, .reg 20, .reg 21] ps = true) : KeptOpt ps s (fun u => u) (State.salStep t a1) := by
  unfold State.salStep
  have hs : ∀ (u : State) (v), Kept ps s u → Kept ps s ({ u with sal := v } : State) := fun u v hu =>
    hu.trans (Kept.mono (qs := [.sal]) (Kept.upds rfl rfl rfl) (within_trans rfl hp))
  split
  · split
    · trivial
    · exact hs _ _ (State.pinLine_kept _ _ _ h (within_trans rfl hp))
  · refine KeptOpt.map (sel := Prod.snd) (KeptOpt.foldl (sel := Prod.snd) h fun x b hx => ?_) fun a k => hs _ _ k
    split
    · trivial
    · exact KeptOpt.map (State.salLine_kept _ _ _ hx hp) fun _ k => k

theorem State.salStep_kept_eq {ps : List Part} {s t u : State} {a1} (e : State.salStep t a1 = some u) (h : Kept ps s t) (hp : partsIn [.cnt, .evt, .gch, .sal, .reg 9, .reg 20, .reg 21] ps = true) : Kept ps s u := by
  have k := State.salStep_kept (ps := ps) (s := s) (t := t) a1 h hp
  rw [e] at k
  exact k

theorem State.salRun_kept {ps : List Part} {s t : State} (a1) (h : Kept ps s t) (hp : partsIn [.cnt, .evt, .gch, .sal, .reg 9, .reg 20, .reg 21] ps = true) : Kept ps s (State.salRun a1 t) := by
  refine h.lift hp ?_
  clear h hp
  have key : ∀ u, Kept [.cnt, .evt, .gch, .sal, .reg 9, .reg 20, .reg 21] t u → Kept [.cnt, .evt, .gch, .sal, .reg 9, .reg 20, .reg 21] t (State.salRun a1 u) := by
    induction a1 with
    | zero => intro u hu; unfold State.salRun; exact hu
    | succ n ih =>
      intro u hu
      unfold State.salRun
      repeat' first
        | with_reducible first | assumption | apply ih | apply Kept.ite
        | exact rfl
        | with_reducible first | apply State.salAsk_kept | refine State.salStep_kept_eq ‹_› ?_ rfl | apply Kept.foldl
        | split
        | (intro _; intros; try dsimp -zeta only)
  exact key t (Kept.refl _ _)

theorem State.salStart_kept {ps : List Part} {s t : State} (a1) (h : Kept ps s t) (hp : partsIn [.cnt, .evt, .sal, .reg 10, .reg 20, .reg 21] ps = true) : Kept ps s (State.salStart a1 t) := by
  refine h.lift hp ?_
  clear h hp
  have key : ∀ u, Kept [.cnt, .evt, .sal, .reg 10, .reg 20, .reg 21] t u → Kept [.cnt, .evt, .sal, .reg 10, .reg 20, .reg 21] t (State.salStart a1 u) := by
    induction a1 with
    | zero => intro u hu; unfold State.salStart; exact hu
    | succ n ih =>
      intro u hu
      unfold State.salStart
      repeat' first
        | with_reducible first | assumption | apply ih
        | (extract_lets +onlyGivenNames x; refine Kept.cut x ?_ ?_ <;> first | (intro hx; clear_value x) | (unfold x; clear x))
        | (extract_lets +onlyGivenNames x; subst x)
        | with_reducible apply Kept.ite
        | exact rfl
        | with_reducible apply State.salEnd_kept
        | ((with_reducible refine Kept.build ?_ ?_ ?_ ?_); rotate_left; exact rfl; exact rfl; exact rfl; fail_if_success split)
        | split
  exact key t (Kept.refl _ _)

theorem State.salAdvance_kept {ps : List Part} {s t : State} (h : Kept ps s t) (hp : partsIn [.cnt, .evt, .gch, .sal, .reg 9, .reg 10, .reg 20, .reg 21] ps = true) : Kept ps s (State.salAdvance t) := by
  refine h.lift hp ?_
  clear h hp
  unfold State.salAdvance
  repeat' first
    | with_reducible first | assumption | apply Kept.ite
    | exact rfl
    | with_reducible first | apply State.salRun_kept | apply State.salStatus_kept | apply State.askWriteBack_kept | apply KeptOpt.getD | exact Kept.refl _ _ | apply Kept.foldl
    | split
    | (intro _; intros; try dsimp -zeta only)

theorem execSalOperationStart_kept {ps : List Part} {s t : State} (h : Kept ps s t) (hp : partsIn [.cnt, .evt, .gch, .sal, .reg 9, .reg 10, .reg 20, .reg 21] ps = true) : KeptOut ps s (execSalOperationStart t) := by
  refine KeptOut.lift h hp ?_
  clear h hp
  unfold execSalOperationStart
  repeat' first
    | exact rfl
    | with_reducible first | apply State.salStatus_kept | apply State.salAdvance_kept | apply State.salStart_kept | apply State.up_kept | apply KeptOut.next | exact Kept.refl _ _

theorem State.handOff_kept {ps : List Part} {s t : State} (a1 a2) (h : Kept ps s t) (hp : partsIn [.axl, .cnt, .evt, .gch, .jnl, .lay, .outbox, .sal, .reg 9, .reg 13, .reg 14, .reg 16, .reg 20, .reg 21] ps = true) : Kept ps s (State.handOff t a1 a2) := by
  refine h.lift hp ?_
  clear h hp
  unfold State.handOff
  repeat' first
    | with_reducible apply Kept.ite
    | exact rfl
    | with_reducible first | apply State.writeUnit_kept | apply State.padStripe_kept | apply State.cacheWritten_kept | apply State.checkStripe_kept | exact Kept.refl _ _
    | split

theorem execSalWriteBackIssue_kept {ps : List Part} {s t : State} (h : Kept ps s t) (hp : partsIn [.axl, .cnt, .evt, .gch, .jnl, .lay, .outbox, .sal, .reg 9, .reg 10, .reg 13, .reg 14, .reg 16, .reg 20, .reg 21] ps = true) : KeptOut ps s (execSalWriteBackIssue t) := by
  refine KeptOut.lift h hp ?_
  clear h hp
  unfold execSalWriteBackIssue
  repeat' first
    | with_reducible assumption
    | (extract_lets +onlyGivenNames x; refine Kept.cut x ?_ ?_ <;> first | (intro hx; clear_value x) | (unfold x; clear x))
    | (extract_lets +onlyGivenNames x; subst x)
    | with_reducible apply Kept.ite
    | exact rfl
    | with_reducible first | apply State.salStatus_kept | apply State.salAdvance_kept | apply State.handOff_kept | apply State.up_kept | apply KeptOut.next | exact Kept.refl _ _ | apply Kept.foldl
    | ((with_reducible refine Kept.build ?_ ?_ ?_ ?_); rotate_left; exact rfl; exact rfl; exact rfl; fail_if_success split)
    | split
    | (intro _; intros; try dsimp -zeta only)

theorem execSalOperationDone_kept {ps : List Part} {s t : State} (h : Kept ps s t) (hp : partsIn [.cnt, .evt, .sal, .reg 10, .reg 20, .reg 21] ps = true) : KeptOut ps s (execSalOperationDone t) := by
  refine KeptOut.lift h hp ?_
  clear h hp
  unfold execSalOperationDone
  repeat' first
    | (extract_lets +onlyGivenNames x; subst x)
    | with_reducible apply Kept.ite
    | exact rfl
    | with_reducible first | apply State.salStatus_kept | apply State.salEnd_kept | apply State.up_kept | apply KeptOut.next | exact Kept.refl _ _
    | ((with_reducible refine Kept.build ?_ ?_ ?_ ?_); rotate_left; exact rfl; exact rfl; exact rfl; fail_if_success split)
    | split

theorem State.setRead_kept {ps : List Part} {s t : State} (a1 a2) (h : Kept ps s t) (hp : partsIn [.lay] ps = true) : Kept ps s (State.setRead t a1 a2) := by
  refine h.lift hp ?_
  clear h hp
  unfold State.setRead
  repeat' first
    | (extract_lets +onlyGivenNames x; subst x)
    | with_reducible exact Kept.refl _ _
    | ((with_reducible refine Kept.build ?_ ?_ ?_ ?_); rotate_left; exact rfl; exact rfl; exact rfl; fail_if_success split)

theorem State.dropDecodes_kept {ps : List Part} {s t : State} (a1) (h : Kept ps s t) (hp : partsIn [.cmp] ps = true) : Kept ps s (State.dropDecodes t a1) := by
  refine h.lift hp ?_
  clear h hp
  unfold State.dropDecodes
  repeat' first
    | (extract_lets +onlyGivenNames x; subst x)
    | with_reducible exact Kept.refl _ _
    | ((with_reducible refine Kept.build ?_ ?_ ?_ ?_); rotate_left; exact rfl; exact rfl; exact rfl; fail_if_success split)

theorem State.modGathering_kept {ps : List Part} {s t : State} (a1 a2) (h : Kept ps s t) (hp : partsIn [.lay] ps = true) : Kept ps s (State.modGathering t a1 a2) := by
  refine h.lift hp ?_
  clear h hp
  unfold State.modGathering
  repeat' first
    | (extract_lets +onlyGivenNames x; subst x)
    | with_reducible exact Kept.refl _ _
    | ((with_reducible refine Kept.build ?_ ?_ ?_ ?_); rotate_left; exact rfl; exact rfl; exact rfl; fail_if_success split)

theorem State.placeAgain_kept {ps : List Part} {s t : State} (a1 a2 a3 a4 a5) (h : Kept ps s t) (hp : partsIn [.lay] ps = true) : Kept ps s (State.placeAgain t a1 a2 a3 a4 a5) := by
  refine h.lift hp ?_
  clear h hp
  unfold State.placeAgain
  repeat' first
    | (extract_lets +onlyGivenNames x; subst x)
    | with_reducible first | apply Kept.ite | exact Kept.refl _ _
    | ((with_reducible refine Kept.build ?_ ?_ ?_ ?_); rotate_left; exact rfl; exact rfl; exact rfl; fail_if_success split)

theorem State.skipReseal_kept {ps : List Part} {s t : State} (a1) (h : Kept ps s t) (hp : partsIn [.cmd, .cmp, .cnt, .cph, .fsp, .jnl, .lay, .outbox, .win, .reg 7, .reg 12, .reg 21] ps = true) : Kept ps s (State.skipReseal t a1) := by
  refine h.lift hp ?_
  clear h hp
  unfold State.skipReseal
  repeat' first
    | with_reducible assumption
    | (extract_lets +onlyGivenNames x; refine Kept.cut x ?_ ?_ <;> first | (intro hx; clear_value x) | (unfold x; clear x))
    | (extract_lets +onlyGivenNames x; subst x)
    | exact rfl
    | with_reducible first | apply State.failCmd_kept | apply State.wr_kept | exact Kept.refl _ _
    | ((with_reducible refine Kept.build ?_ ?_ ?_ ?_); rotate_left; exact rfl; exact rfl; exact rfl; fail_if_success split)
    | split

theorem State.readFails_kept {ps : List Part} {s t : State} (a1 a2 a3) (h : Kept ps s t) (hp : partsIn [.cmd, .cmp, .cnt, .cph, .fsp, .jnl, .lay, .outbox, .win, .reg 7, .reg 12, .reg 21] ps = true) : Kept ps s (State.readFails t a1 a2 a3) := by
  refine h.lift hp ?_
  clear h hp
  unfold State.readFails
  repeat' first
    | with_reducible assumption
    | (extract_lets +onlyGivenNames x; refine Kept.cut x ?_ ?_ <;> first | (intro hx; clear_value x) | (unfold x; clear x))
    | exact rfl
    | with_reducible first | apply State.endRead_kept | apply State.dropDecodes_kept | apply State.failCmd_kept | apply State.skipReseal_kept | exact Kept.refl _ _
    | split

theorem State.readLost_kept {ps : List Part} {s t : State} (a1 a2 a3) (h : Kept ps s t) (hp : partsIn [.cmd, .cmp, .cnt, .cph, .evt, .fsp, .jnl, .lay, .outbox, .win, .reg 7, .reg 12, .reg 13, .reg 20, .reg 21] ps = true) : Kept ps s (State.readLost t a1 a2 a3) := by
  refine h.lift hp ?_
  clear h hp
  unfold State.readLost
  repeat' first
    | exact rfl
    | with_reducible first | apply State.readFails_kept | apply State.loseBlocks_kept | exact Kept.refl _ _

theorem State.readRetry_kept {ps : List Part} {s t : State} (a1 a2 a3 a4) (h : Kept ps s t) (hp : partsIn [.cmd, .cmp, .cnt, .cph, .evt, .fsp, .jnl, .lay, .outbox, .win, .reg 7, .reg 12, .reg 13, .reg 16, .reg 20, .reg 21] ps = true) : Kept ps s (State.readRetry t a1 a2 a3 a4) := by
  refine h.lift hp ?_
  clear h hp
  unfold State.readRetry
  repeat' first
    | with_reducible assumption
    | (extract_lets +onlyGivenNames x; refine Kept.cut x ?_ ?_ <;> first | (intro hx; clear_value x) | (unfold x; clear x))
    | (extract_lets +onlyGivenNames x; subst x)
    | with_reducible apply Kept.ite
    | exact rfl
    | with_reducible first | apply State.readUnit_kept | apply State.dropDecodes_kept | apply State.readLost_kept | apply State.setRead_kept | exact Kept.refl _ _ | apply Kept.foldl
    | (intro _; intros; try dsimp -zeta only)

theorem State.readPasses_kept {ps : List Part} {s t : State} (a1 a2) (h : Kept ps s t) (hp : partsIn [.cmd, .cnt, .evt, .fsp, .lay, .outbox, .win, .reg 7, .reg 20, .reg 21] ps = true) : Kept ps s (State.readPasses t a1 a2) := by
  refine h.lift hp ?_
  clear h hp
  unfold State.readPasses
  repeat' first
    | with_reducible assumption
    | (extract_lets +onlyGivenNames x; refine Kept.cut x ?_ ?_ <;> first | (intro hx; clear_value x) | (unfold x; clear x))
    | with_reducible apply Kept.ite
    | exact rfl
    | with_reducible first | apply State.raiseLim_kept | apply State.endRead_kept | apply State.placeAgain_kept | apply State.modGathering_kept | apply State.extentRead_kept | exact Kept.refl _ _
    | split

theorem State.mergeBlock_kept {ps : List Part} {s t : State} (a1 a2 a3) (h : Kept ps s t) (hp : partsIn [.win] ps = true) : Kept ps s (State.mergeBlock t a1 a2 a3) := by
  refine h.lift hp ?_
  clear h hp
  unfold State.mergeBlock
  split
  · exact Kept.refl _ _
  · extract_lets lo hi mine o
    split
    rename_i k b u e
    have hu : Kept [.win] t u := by
      revert e
      split
      · intro e; cases e; exact Kept.refl _ _
      · intro e; cases e; exact (Kept.upds rfl rfl rfl)
    exact hu.trans (Kept.upds rfl rfl rfl)

theorem State.blockPasses_kept {ps : List Part} {s t : State} (a1 a2 a3 a4 a5) (h : Kept ps s t) (hp : partsIn [.cmd, .cmp, .cnt, .evt, .fsp, .lay, .outbox, .win, .reg 7, .reg 20, .reg 21] ps = true) : Kept ps s (State.blockPasses t a1 a2 a3 a4 a5) := by
  refine h.lift hp ?_
  clear h hp
  unfold State.blockPasses
  repeat' first
    | with_reducible assumption
    | (extract_lets +onlyGivenNames x; refine Kept.cut x ?_ ?_ <;> first | (intro hx; clear_value x) | (unfold x; clear x))
    | (extract_lets +onlyGivenNames x; subst x)
    | with_reducible apply Kept.ite
    | exact rfl
    | with_reducible first | apply State.modEntry_kept | apply State.readPasses_kept | apply State.giveBlock_kept | apply State.setRead_kept | apply State.mergeBlock_kept | exact Kept.refl _ _
    | ((with_reducible refine Kept.build ?_ ?_ ?_ ?_); rotate_left; exact rfl; exact rfl; exact rfl; fail_if_success split)
    | split

theorem State.queueDecode_kept {ps : List Part} {s t : State} (a1 a2 a3) (h : Kept ps s t) (hp : partsIn [.cmp] ps = true) : Kept ps s (State.queueDecode t a1 a2 a3).2 := by
  refine h.lift hp ?_
  clear h hp
  unfold State.queueDecode
  repeat' first
    | (extract_lets +onlyGivenNames x; subst x)
    | with_reducible exact Kept.refl _ _
    | ((with_reducible refine Kept.build ?_ ?_ ?_ ?_); rotate_left; exact rfl; exact rfl; exact rfl; fail_if_success split)

theorem State.queueDecode_kept_eq {ps : List Part} {s t u : State} {a1 a2 a3} {x} (e : State.queueDecode t a1 a2 a3 = (x, u)) (h : Kept ps s t) (hp : partsIn [.cmp] ps = true) : Kept ps s u := by
  have k := State.queueDecode_kept (ps := ps) (s := s) (t := t) a1 a2 a3 h hp
  rw [e] at k
  exact k

theorem State.decodeBlocks_kept {ps : List Part} {s t : State} (a1 a2 a3) (h : Kept ps s t) (hp : partsIn [.cmd, .cmp, .cnt, .evt, .fsp, .lay, .outbox, .win, .reg 7, .reg 20, .reg 21] ps = true) : Kept ps s (State.decodeBlocks t a1 a2 a3) := by
  refine h.lift hp ?_
  clear h hp
  unfold State.decodeBlocks
  repeat' first
    | with_reducible assumption
    | (extract_lets +onlyGivenNames x; subst x)
    | with_reducible apply Kept.ite
    | exact rfl
    | with_reducible first | apply State.readPasses_kept | apply State.queueDecode_kept | apply State.setRead_kept | exact Kept.refl _ _ | apply Kept.foldl2
    | (intro _; intros; try dsimp -zeta only)

theorem State.versionRead_kept {ps : List Part} {s t : State} (a1 a2 a3) (h : Kept ps s t) (hp : partsIn [.cmd, .cmp, .cnt, .cph, .evt, .fsp, .jnl, .lay, .outbox, .win, .reg 7, .reg 12, .reg 20, .reg 21] ps = true) : Kept ps s (State.versionRead t a1 a2 a3) := by
  refine h.lift hp ?_
  clear h hp
  unfold State.versionRead
  repeat' first
    | with_reducible assumption
    | (extract_lets +onlyGivenNames x; refine Kept.cut x ?_ ?_ <;> first | (intro hx; clear_value x) | (unfold x; clear x))
    | (extract_lets +onlyGivenNames x; subst x)
    | with_reducible apply Kept.ite
    | exact rfl
    | with_reducible first | apply State.endRead_kept | apply State.modGathering_kept | apply State.failCmd_kept | apply State.readFails_kept | apply State.readPasses_kept | apply State.decodeBlocks_kept | exact Kept.refl _ _
    | ((with_reducible refine Kept.build ?_ ?_ ?_ ?_); rotate_left; exact rfl; exact rfl; exact rfl; fail_if_success split)
    | split

theorem State.pipelineOut_kept {ps : List Part} {s t : State} (a1) (h : Kept ps s t) (hp : partsIn [.evt, .reg 12, .reg 20] ps = true) : Kept ps s (State.pipelineOut t a1) := by
  refine h.lift hp ?_
  clear h hp
  unfold State.pipelineOut
  repeat' first
    | (extract_lets +onlyGivenNames x; subst x)
    | exact rfl
    | with_reducible first | apply State.wr_kept | apply State.raise_kept | exact Kept.refl _ _

theorem State.pipelineFault_kept {ps : List Part} {s t : State} (h : Kept ps s t) (hp : partsIn [.evt, .reg 12, .reg 20] ps = true) : Kept ps s (State.pipelineFault t) := by
  refine h.lift hp ?_
  clear h hp
  unfold State.pipelineFault
  repeat' first
    | exact rfl
    | with_reducible first | apply State.pipelineOut_kept | exact Kept.refl _ _
    | split

theorem State.compLaneOut_kept {ps : List Part} {s t : State} (a1) (h : Kept ps s t) (hp : partsIn [.evt, .reg 11, .reg 20] ps = true) : Kept ps s (State.compLaneOut t a1) := by
  refine h.lift hp ?_
  clear h hp
  unfold State.compLaneOut
  repeat' first
    | (extract_lets +onlyGivenNames x; subst x)
    | exact rfl
    | with_reducible first | apply State.wr_kept | apply State.raise_kept | exact Kept.refl _ _

theorem State.decompLaneOut_kept {ps : List Part} {s t : State} (a1) (h : Kept ps s t) (hp : partsIn [.evt, .reg 11, .reg 20] ps = true) : Kept ps s (State.decompLaneOut t a1) := by
  refine h.lift hp ?_
  clear h hp
  unfold State.decompLaneOut
  repeat' first
    | (extract_lets +onlyGivenNames x; subst x)
    | exact rfl
    | with_reducible first | apply State.wr_kept | apply State.raise_kept | exact Kept.refl _ _

theorem State.chainStall_kept {ps : List Part} {s t : State} (h : Kept ps s t) (hp : partsIn [.cnt, .reg 8, .reg 21] ps = true) : Kept ps s (State.chainStall t) := by
  refine h.lift hp ?_
  clear h hp
  unfold State.chainStall
  repeat' first
    | exact rfl
    | with_reducible first | apply State.count_kept | apply State.bumpWrap_kept | exact Kept.refl _ _
    | split

theorem State.stagingLost_kept {ps : List Part} {s t : State} (a1 a2 a3) (h : Kept ps s t) (hp : partsIn [.cmd, .cmp, .cnt, .evt, .fsp, .jnl, .lay, .outbox, .win, .reg 7, .reg 20, .reg 21] ps = true) : Kept ps s (State.stagingLost t a1 a2 a3) := by
  refine h.lift hp ?_
  clear h hp
  unfold State.stagingLost
  repeat' first
    | exact rfl
    | with_reducible first | apply State.failCmd_kept | apply State.dropBlk_kept | apply State.raise_kept | exact Kept.refl _ _

theorem State.takeBlock_kept {ps : List Part} {s t : State} (a1 a2 a3 a4 a5 a6) (h : Kept ps s t) (hp : partsIn [.cnt, .cph, .evt, .fsp, .win, .reg 8, .reg 12, .reg 20, .reg 21] ps = true) : Kept ps s (State.takeBlock t a1 a2 a3 a4 a5 a6) := by
  refine h.lift hp ?_
  clear h hp
  unfold State.takeBlock
  repeat' first
    | with_reducible assumption
    | (extract_lets +onlyGivenNames x; refine Kept.cut x ?_ ?_ <;> first | (intro hx; clear_value x) | (unfold x; clear x))
    | with_reducible apply Kept.ite
    | exact rfl
    | with_reducible first | apply State.nextIv_kept | apply State.chainStall_kept | apply State.keyRef_kept | apply State.pipelineFault_kept | refine State.alloc_kept_eq ‹_› ?_ rfl | exact Kept.refl _ _
    | ((with_reducible refine Kept.build ?_ ?_ ?_ ?_); rotate_left; exact rfl; exact rfl; exact rfl; fail_if_success split)
    | split

theorem execCompressBlockStart_kept {ps : List Part} {s t : State} (a1 a2 a3) (h : Kept ps s t) (hp : partsIn [.cmd, .cmp, .cnt, .cph, .evt, .fsp, .jnl, .lay, .outbox, .win, .reg 7, .reg 8, .reg 12, .reg 20, .reg 21] ps = true) : KeptOut ps s (execCompressBlockStart a1 a2 a3 t) := by
  refine KeptOut.lift h hp ?_
  clear h hp
  unfold execCompressBlockStart
  repeat' first
    | with_reducible apply Kept.ite
    | exact rfl
    | with_reducible first | apply State.takeBlock_kept | apply State.stagingLost_kept | apply KeptOut.next | exact Kept.refl _ _
    | split

theorem State.countCompressed_kept {ps : List Part} {s t : State} (a1 a2 a3) (h : Kept ps s t) (hp : partsIn [.cnt, .reg 11, .reg 21] ps = true) : Kept ps s (State.countCompressed t a1 a2 a3) := by
  refine h.lift hp ?_
  clear h hp
  unfold State.countCompressed
  repeat' first
    | with_reducible assumption
    | (extract_lets +onlyGivenNames x; refine Kept.cut x ?_ ?_ <;> first | (intro hx; clear_value x) | (unfold x; clear x))
    | with_reducible apply Kept.ite
    | exact rfl
    | with_reducible first | apply State.count_kept | apply State.bumpWrap_kept | exact Kept.refl _ _ | apply Kept.foldl
    | (intro _; intros; try dsimp -zeta only)

theorem State.linkChain_kept {ps : List Part} {s t : State} (a1) (h : Kept ps s t) (hp : partsIn [.fsp] ps = true) : Kept ps s (State.linkChain t a1) := by
  induction a1 generalizing t with
  | nil => exact h
  | cons a l ih =>
    cases l with
    | nil => exact h
    | cons b l => exact ih (h.trans (Kept.mono (qs := [.fsp]) (Kept.upds rfl rfl rfl) hp))

theorem State.returnBuffer_kept {ps : List Part} {s t : State} (a1) (h : Kept ps s t) (hp : partsIn [.fsp, .win] ps = true) : Kept ps s (State.returnBuffer t a1) := by
  refine h.lift hp ?_
  clear h hp
  unfold State.returnBuffer
  repeat' first
    | with_reducible assumption
    | (extract_lets +onlyGivenNames x; refine Kept.cut x ?_ ?_ <;> first | (intro hx; clear_value x) | (unfold x; clear x))
    | with_reducible apply Kept.ite
    | exact rfl
    | with_reducible first | apply State.decref_kept | apply State.modList_kept | exact Kept.refl _ _
    | split

theorem State.checkerFails_kept {ps : List Part} {s t : State} (a1 a2 a3 a4) (h : Kept ps s t) (hp : partsIn [.cph, .evt, .fsp, .win, .reg 11, .reg 20] ps = true) : Kept ps s (State.checkerFails t a1 a2 a3 a4) := by
  refine h.lift hp ?_
  clear h hp
  unfold State.checkerFails
  repeat' first
    | with_reducible assumption
    | (extract_lets +onlyGivenNames x; refine Kept.cut x ?_ ?_ <;> first | (intro hx; clear_value x) | (unfold x; clear x))
    | exact rfl
    | with_reducible first | apply State.modBlk_kept | apply State.decref_kept | apply State.compLaneOut_kept | apply State.keyRef_kept | exact Kept.refl _ _
    | split

theorem State.sealBlock_kept {ps : List Part} {s t : State} (a1 a2 a3 a4 a5 a6 a7) (h : Kept ps s t) (hp : partsIn [.cnt, .cph, .fsp, .win, .reg 8, .reg 11, .reg 12, .reg 21] ps = true) : Kept ps s (State.sealBlock t a1 a2 a3 a4 a5 a6 a7) := by
  refine h.lift hp ?_
  clear h hp
  unfold State.sealBlock
  repeat' first
    | with_reducible assumption
    | (extract_lets +onlyGivenNames x; refine Kept.cut x ?_ ?_ <;> first | (intro hx; clear_value x) | (unfold x; clear x))
    | (extract_lets +onlyGivenNames x; subst x)
    | exact rfl
    | with_reducible first | apply State.countCompressed_kept | apply State.nextIv_kept | apply State.chainStall_kept | apply State.returnBuffer_kept | apply State.linkChain_kept | apply State.count_kept | refine State.allocMany_kept_eq ‹_› ?_ rfl | exact Kept.refl _ _
    | ((with_reducible refine Kept.build ?_ ?_ ?_ ?_); rotate_left; exact rfl; exact rfl; exact rfl; fail_if_success split)
    | split

theorem execCompressBlockDone_kept {ps : List Part} {s t : State} (a1 a2) (h : Kept ps s t) (hp : partsIn [.cnt, .cph, .evt, .fsp, .win, .reg 8, .reg 11, .reg 12, .reg 20, .reg 21] ps = true) : KeptOut ps s (execCompressBlockDone a1 a2 t) := by
  refine KeptOut.lift h hp ?_
  clear h hp
  unfold execCompressBlockDone
  repeat' first
    | (extract_lets +onlyGivenNames x; subst x)
    | with_reducible apply Kept.ite
    | exact rfl
    | with_reducible first | apply State.checkerFails_kept | apply State.sealBlock_kept | apply KeptOut.next | exact Kept.refl _ _
    | split

theorem execSpillReadbackDone_kept {ps : List Part} {s t : State} (a1) (h : Kept ps s t) (hp : partsIn [.win] ps = true) : KeptOut ps s (execSpillReadbackDone a1 t) := by
  refine KeptOut.lift h hp ?_
  clear h hp
  unfold execSpillReadbackDone
  repeat' first
    | (extract_lets +onlyGivenNames x; subst x)
    | with_reducible apply Kept.ite
    | exact rfl
    | with_reducible first | apply State.modBlk_kept | apply KeptOut.next | exact Kept.refl _ _
    | split

theorem State.keyMissing_kept {ps : List Part} {s t : State} (a1) (h : Kept ps s t) (hp : partsIn [.cmd, .cmp, .cnt, .cph, .fsp, .jnl, .lay, .outbox, .win, .reg 7, .reg 12, .reg 21] ps = true) : Kept ps s (State.keyMissing t a1) := by
  refine h.lift hp ?_
  clear h hp
  unfold State.keyMissing
  repeat' first
    | (extract_lets +onlyGivenNames x; subst x)
    | exact rfl
    | with_reducible first | apply State.readFails_kept | exact Kept.refl _ _
    | ((with_reducible refine Kept.build ?_ ?_ ?_ ?_); rotate_left; exact rfl; exact rfl; exact rfl; fail_if_success split)
    | split

theorem execDecompressBlockStart_kept {ps : List Part} {s t : State} (a1 a2) (h : Kept ps s t) (hp : partsIn [.cmd, .cmp, .cnt, .cph, .evt, .fsp, .jnl, .lay, .outbox, .win, .reg 7, .reg 12, .reg 20, .reg 21] ps = true) : KeptOut ps s (execDecompressBlockStart a1 a2 t) := by
  refine KeptOut.lift h hp ?_
  clear h hp
  unfold execDecompressBlockStart
  repeat' first
    | with_reducible assumption
    | (extract_lets +onlyGivenNames x; refine Kept.cut x ?_ ?_ <;> first | (intro hx; clear_value x) | (unfold x; clear x))
    | (extract_lets +onlyGivenNames x; subst x)
    | with_reducible apply Kept.ite
    | exact rfl
    | with_reducible first | apply State.pipelineFault_kept | apply State.keyMissing_kept | exact Kept.refl _ _
    | ((with_reducible refine Kept.build ?_ ?_ ?_ ?_); rotate_left; exact rfl; exact rfl; exact rfl; fail_if_success split)
    | split

theorem State.verifyFailed_kept {ps : List Part} {s t : State} (a1 a2 a3) (h : Kept ps s t) (hp : partsIn [.cnt, .evt, .reg 11, .reg 12, .reg 20, .reg 21] ps = true) : Kept ps s (State.verifyFailed t a1 a2 a3) := by
  refine h.lift hp ?_
  clear h hp
  unfold State.verifyFailed
  repeat' first
    | with_reducible assumption
    | (extract_lets +onlyGivenNames x; refine Kept.cut x ?_ ?_ <;> first | (intro hx; clear_value x) | (unfold x; clear x))
    | (extract_lets +onlyGivenNames x; subst x)
    | with_reducible apply Kept.ite
    | exact rfl
    | with_reducible first | apply State.bump_kept | apply State.raiseLim_kept | apply State.wr_kept | apply State.count_kept | exact Kept.refl _ _

theorem State.retryPassed_kept {ps : List Part} {s t : State} (a1) (h : Kept ps s t) (hp : partsIn [.evt, .reg 11, .reg 20] ps = true) : Kept ps s (State.retryPassed t a1) := by
  refine h.lift hp ?_
  clear h hp
  unfold State.retryPassed
  repeat' first
    | with_reducible assumption
    | (extract_lets +onlyGivenNames x; refine Kept.cut x ?_ ?_ <;> first | (intro hx; clear_value x) | (unfold x; clear x))
    | with_reducible apply Kept.ite
    | exact rfl
    | with_reducible first | apply State.wr_kept | apply State.decompLaneOut_kept | exact Kept.refl _ _
    | split

theorem State.decodeLost_kept {ps : List Part} {s t : State} (a1 a2) (h : Kept ps s t) (hp : partsIn [.cmd, .cmp, .cnt, .cph, .evt, .fsp, .jnl, .lay, .outbox, .win, .reg 7, .reg 12, .reg 13, .reg 16, .reg 20, .reg 21] ps = true) : Kept ps s (State.decodeLost t a1 a2) := by
  refine h.lift hp ?_
  clear h hp
  unfold State.decodeLost
  repeat' first
    | (extract_lets +onlyGivenNames x; subst x)
    | exact rfl
    | with_reducible first | apply State.readRetry_kept | exact Kept.refl _ _
    | ((with_reducible refine Kept.build ?_ ?_ ?_ ?_); rotate_left; exact rfl; exact rfl; exact rfl; fail_if_success split)
    | split

theorem execDecompressBlockDone_kept {ps : List Part} {s t : State} (a1 a2) (h : Kept ps s t) (hp : partsIn [.cmd, .cmp, .cnt, .cph, .evt, .fsp, .jnl, .lay, .outbox, .win, .reg 7, .reg 11, .reg 12, .reg 13, .reg 16, .reg 20, .reg 21] ps = true) : KeptOut ps s (execDecompressBlockDone a1 a2 t) := by
  refine KeptOut.lift h hp ?_
  clear h hp
  unfold execDecompressBlockDone
  repeat' first
    | with_reducible assumption
    | (extract_lets +onlyGivenNames x; refine Kept.cut x ?_ ?_ <;> first | (intro hx; clear_value x) | (unfold x; clear x))
    | (extract_lets +onlyGivenNames x; subst x)
    | with_reducible apply Kept.ite
    | exact rfl
    | with_reducible first | apply State.blockPasses_kept | apply State.verifyFailed_kept | apply State.decodeLost_kept | apply State.retryPassed_kept | apply State.count_kept | apply State.keyMissing_kept | apply KeptOut.next | exact Kept.refl _ _
    | ((with_reducible refine Kept.build ?_ ?_ ?_ ?_); rotate_left; exact rfl; exact rfl; exact rfl; fail_if_success split)
    | split

theorem execCmpVerifyClear_kept {ps : List Part} {s t : State} (h : Kept ps s t) (hp : partsIn [.deferred] ps = true) : KeptOut ps s (execCmpVerifyClear t) := by
  refine KeptOut.lift h hp ?_
  clear h hp
  unfold execCmpVerifyClear
  repeat' first
    | exact rfl
    | with_reducible first | apply State.defer_kept | apply State.up_kept | apply KeptOut.next | exact Kept.refl _ _

theorem State.keyRefused_kept {ps : List Part} {s t : State} (a1 a2 a3 a4) (h : Kept ps s t) (hp : partsIn [.cnt, .evt, .reg 20, .reg 21] ps = true) : Kept ps s (State.keyRefused t a1 a2 a3 a4) := by
  refine h.lift hp ?_
  clear h hp
  unfold State.keyRefused
  repeat' first
    | with_reducible assumption
    | (extract_lets +onlyGivenNames x; refine Kept.cut x ?_ ?_ <;> first | (intro hx; clear_value x) | (unfold x; clear x))
    | with_reducible apply Kept.ite
    | exact rfl
    | with_reducible first | apply State.raise_kept | apply State.violation_kept | apply State.count_kept | exact Kept.refl _ _

theorem State.startLoad_kept {ps : List Part} {s t : State} (a1) (h : Kept ps s t) (hp : partsIn [.cph, .lay] ps = true) : Kept ps s (State.startLoad t a1) := by
  refine h.lift hp ?_
  clear h hp
  unfold State.startLoad
  repeat' first
    | (extract_lets +onlyGivenNames x; subst x)
    | exact rfl
    | with_reducible first | apply State.mdWrite_kept | exact Kept.refl _ _
    | ((with_reducible refine Kept.build ?_ ?_ ?_ ?_); rotate_left; exact rfl; exact rfl; exact rfl; fail_if_success split)

theorem execKeyLoad_kept {ps : List Part} {s t : State} (a1 a2 a3) (h : Kept ps s t) (hp : partsIn [.cnt, .cph, .deferred, .evt, .lay, .outbox, .sep, .reg 19, .reg 20, .reg 21] ps = true) : KeptOut ps s (execKeyLoad a1 a2 a3 t) := by
  refine KeptOut.lift h hp ?_
  clear h hp
  unfold execKeyLoad
  repeat' first
    | with_reducible assumption
    | exact rfl
    | with_reducible first | apply State.keyRefused_kept | apply State.replyErr_kept | apply State.startLoad_kept | apply State.ifActive_kept | apply State.admin_kept | apply KeptOut.next | exact Kept.refl _ _
    | split
    | (intro _; intros; try dsimp -zeta only)

theorem State.fbkEnd_kept {ps : List Part} {s t : State} (a1 a2 a3) (h : Kept ps s t) (hp : partsIn [.cnt, .evt, .reg 12, .reg 20, .reg 21] ps = true) : Kept ps s (State.fbkEnd t a1 a2 a3) := by
  refine h.lift hp ?_
  clear h hp
  unfold State.fbkEnd
  repeat' first
    | with_reducible assumption
    | (extract_lets +onlyGivenNames x; refine Kept.cut x ?_ ?_ <;> first | (intro hx; clear_value x) | (unfold x; clear x))
    | with_reducible apply Kept.ite
    | exact rfl
    | with_reducible first | apply State.keyRefused_kept | apply State.wr_kept | exact Kept.refl _ _

theorem State.keyDurable_kept {ps : List Part} {s t : State} (a1) (h : Kept ps s t) (hp : partsIn [.cnt, .cph, .evt, .fov, .outbox, .sep, .reg 12, .reg 19, .reg 20, .reg 21] ps = true) : Kept ps s (State.keyDurable t a1) := by
  refine h.lift hp ?_
  clear h hp
  unfold State.keyDurable
  repeat' first
    | with_reducible assumption
    | (extract_lets +onlyGivenNames x; refine Kept.cut x ?_ ?_ <;> first | (intro hx; clear_value x) | (unfold x; clear x))
    | (extract_lets +onlyGivenNames x; subst x)
    | exact rfl
    | with_reducible first | apply State.replyOk_kept | apply State.fbkEnd_kept | apply State.count_kept | apply State.mirrorSend_kept | apply State.fillSlot_kept | exact Kept.refl _ _
    | ((with_reducible refine Kept.build ?_ ?_ ?_ ?_); rotate_left; exact rfl; exact rfl; exact rfl; fail_if_success split)
    | split

theorem State.fbkLoad_kept {ps : List Part} {s t : State} (a1) (h : Kept ps s t) (hp : partsIn [.cnt, .cph, .evt, .lay, .reg 12, .reg 20, .reg 21] ps = true) : Kept ps s (State.fbkLoad t a1) := by
  refine h.lift hp ?_
  clear h hp
  unfold State.fbkLoad
  repeat' first
    | with_reducible assumption
    | (extract_lets +onlyGivenNames x; refine Kept.cut x ?_ ?_ <;> first | (intro hx; clear_value x) | (unfold x; clear x))
    | (extract_lets +onlyGivenNames x; subst x)
    | with_reducible apply Kept.ite
    | exact rfl
    | with_reducible first | apply State.fbkEnd_kept | apply State.wr_kept | apply State.startLoad_kept | apply State.violation_kept | apply State.count_kept | apply State.fillSlot_kept | exact Kept.refl _ _ | apply Kept.foldIdx
    | split
    | (intro _; intros; try dsimp -zeta only)

theorem execFallbackKeyLoad_kept {ps : List Part} {s t : State} (a1 a2) (h : Kept ps s t) (hp : partsIn [.cnt, .cph, .evt, .lay, .reg 12, .reg 20, .reg 21] ps = true) : KeptOut ps s (execFallbackKeyLoad a1 a2 t) := by
  refine KeptOut.lift h hp ?_
  clear h hp
  unfold execFallbackKeyLoad
  repeat' first
    | (extract_lets +onlyGivenNames x; subst x)
    | with_reducible apply Kept.ite
    | exact rfl
    | with_reducible first | apply State.wr_kept | apply State.violation_kept | apply State.fbkLoad_kept | apply State.up_kept | apply KeptOut.next | apply KeptOut.fault | exact Kept.refl _ _
    | split

theorem execKeyDestroy_kept {ps : List Part} {s t : State} (a1 a2 a3) (h : Kept ps s t) (hp : partsIn [.cnt, .deferred, .evt, .lay, .outbox, .sep, .reg 19, .reg 21] ps = true) : KeptOut ps s (execKeyDestroy a1 a2 a3 t) := by
  refine KeptOut.lift h hp ?_
  clear h hp
  unfold execKeyDestroy
  repeat' first
    | with_reducible first | assumption | apply Kept.ite
    | exact rfl
    | with_reducible first | apply State.replyErr_kept | apply State.mdWrite_kept | apply State.ifActive_kept | apply State.admin_kept | apply KeptOut.next | exact Kept.refl _ _
    | split
    | (intro _; intros; try dsimp -zeta only)

theorem State.keyErased_kept {ps : List Part} {s t : State} (a1) (h : Kept ps s t) (hp : partsIn [.cph, .reg 12] ps = true) : Kept ps s (State.keyErased t a1) := by
  refine h.lift hp ?_
  clear h hp
  unfold State.keyErased
  repeat' first
    | (extract_lets +onlyGivenNames x; subst x)
    | exact rfl
    | with_reducible first | apply State.keyStatus_kept | exact Kept.refl _ _
    | ((with_reducible refine Kept.build ?_ ?_ ?_ ?_); rotate_left; exact rfl; exact rfl; exact rfl; fail_if_success split)

theorem execKeyActivate_kept {ps : List Part} {s t : State} (a1 a2 a3 a4 a5) (h : Kept ps s t) (hp : partsIn [.cnt, .deferred, .evt, .lay, .outbox, .sep, .reg 19, .reg 21] ps = true) : KeptOut ps s (execKeyActivate a1 a2 a3 a4 a5 t) := by
  refine KeptOut.lift h hp ?_
  clear h hp
  unfold execKeyActivate
  repeat' first
    | with_reducible assumption
    | (extract_lets +onlyGivenNames x; subst x)
    | with_reducible apply Kept.ite
    | exact rfl
    | with_reducible first | apply State.replyErr_kept | apply State.mdWrite_kept | apply State.defer_kept | apply State.ifActive_kept | apply State.admin_kept | apply KeptOut.next | exact Kept.refl _ _
    | (intro _; intros; try dsimp -zeta only)

theorem State.keyCurrent_kept {ps : List Part} {s t : State} (a1 a2 a3) (h : Kept ps s t) (hp : partsIn [.cph, .reg 12] ps = true) : Kept ps s (State.keyCurrent t a1 a2 a3) := by
  refine h.lift hp ?_
  clear h hp
  unfold State.keyCurrent
  repeat' first
    | with_reducible assumption
    | (extract_lets +onlyGivenNames x; refine Kept.cut x ?_ ?_ <;> first | (intro hx; clear_value x) | (unfold x; clear x))
    | (extract_lets +onlyGivenNames x; subst x)
    | with_reducible apply Kept.ite
    | exact rfl
    | with_reducible first | apply State.wr_kept | exact Kept.refl _ _
    | ((with_reducible refine Kept.build ?_ ?_ ?_ ?_); rotate_left; exact rfl; exact rfl; exact rfl; fail_if_success split)

theorem State.resealStep_kept {ps : List Part} {s t : State} (h : Kept ps s t) (hp : partsIn [.axl, .cmd, .cnt, .cph, .deferred, .evt, .fov, .fsp, .gch, .lay, .outbox, .pwr, .reg 7, .reg 8, .reg 9, .reg 12, .reg 16, .reg 20, .reg 21] ps = true) : Kept ps s (State.resealStep t) := by
  refine h.lift hp ?_
  clear h hp
  unfold State.resealStep
  repeat' first
    | with_reducible assumption
    | (extract_lets +onlyGivenNames x; refine Kept.cut x ?_ ?_ <;> first | (intro hx; clear_value x) | (unfold x; clear x))
    | (extract_lets +onlyGivenNames x; subst x)
    | with_reducible apply Kept.ite
    | exact rfl
    | with_reducible first | apply State.modEntry_kept | apply State.wr_kept | apply State.ioEnter_kept | apply State.startRead_kept | refine State.takeLocks_kept_eq ‹_› ?_ rfl | exact Kept.refl _ _
    | ((with_reducible refine Kept.build ?_ ?_ ?_ ?_); rotate_left; exact rfl; exact rfl; exact rfl; fail_if_success split)
    | split

theorem execResealDone_kept {ps : List Part} {s t : State} (h : Kept ps s t) (hp : partsIn [.cph, .evt, .reg 12, .reg 20] ps = true) : KeptOut ps s (execResealDone t) := by
  refine KeptOut.lift h hp ?_
  clear h hp
  unfold execResealDone
  repeat' first
    | with_reducible assumption
    | (extract_lets +onlyGivenNames x; refine Kept.cut x ?_ ?_ <;> first | (intro hx; clear_value x) | (unfold x; clear x))
    | (extract_lets +onlyGivenNames x; subst x)
    | with_reducible apply Kept.ite
    | exact rfl
    | with_reducible first | apply State.wr_kept | apply State.raise_kept | exact Kept.refl _ _
    | ((with_reducible refine Kept.build ?_ ?_ ?_ ?_); rotate_left; exact rfl; exact rfl; exact rfl; fail_if_success split)
    | split

theorem State.windowPut_kept {ps : List Part} {s t : State} (a1 a2 a3) (h : Kept ps s t) (hp : partsIn [.dram] ps = true) : Kept ps s (State.windowPut t a1 a2 a3) := by
  unfold State.windowPut
  refine Kept.foldl h fun x b hx => ?_
  split
  · exact Kept.setDram hx hp (wf_memWrite _ _ _)
  · exact hx

theorem execCipherJob_kept {ps : List Part} {s t : State} (a1 a2 a3 a4 a5 a6 a7 a8 a9) (h : Kept ps s t) (hp : partsIn [.cnt, .deferred, .dram, .evt, .outbox, .sep, .reg 19, .reg 21] ps = true) : KeptOut ps s (execCipherJob a1 a2 a3 a4 a5 a6 a7 a8 a9 t) := by
  refine KeptOut.lift h hp ?_
  clear h hp
  unfold execCipherJob
  repeat' first
    | with_reducible assumption
    | (extract_lets +onlyGivenNames x; subst x)
    | with_reducible apply Kept.ite
    | exact rfl
    | with_reducible first | apply State.replyOk_kept | apply State.replyErr_kept | apply State.admin_kept | apply State.count_kept | apply State.windowPut_kept | apply KeptOut.next | exact Kept.refl _ _
    | split
    | (intro _; intros; try dsimp -zeta only)

theorem execKeySlotRead_kept {ps : List Part} {s t : State} (a1) (h : Kept ps s t) (hp : partsIn [.evt, .reg 12, .reg 20] ps = true) : KeptOut ps s (execKeySlotRead a1 t) := by
  refine KeptOut.lift h hp ?_
  clear h hp
  unfold execKeySlotRead
  repeat' first
    | with_reducible assumption
    | (extract_lets +onlyGivenNames x; refine Kept.cut x ?_ ?_ <;> first | (intro hx; clear_value x) | (unfold x; clear x))
    | (extract_lets +onlyGivenNames x; subst x)
    | exact rfl
    | with_reducible first | apply State.wrW_kept | apply State.acts_kept | exact Kept.refl _ _ | apply Kept.foldl
    | (intro _; intros; try dsimp -zeta only)

theorem execIvEpochDurable_kept {ps : List Part} {s t : State} (h : Kept ps s t) (hp : partsIn [.cph, .fov, .reg 12] ps = true) : KeptOut ps s (execIvEpochDurable t) := by
  refine KeptOut.lift h hp ?_
  clear h hp
  unfold execIvEpochDurable
  repeat' first
    | with_reducible assumption
    | (extract_lets +onlyGivenNames x; refine Kept.cut x ?_ ?_ <;> first | (intro hx; clear_value x) | (unfold x; clear x))
    | (extract_lets +onlyGivenNames x; subst x)
    | with_reducible apply Kept.ite
    | exact rfl
    | with_reducible first | apply State.wr_kept | exact Kept.refl _ _
    | ((with_reducible refine Kept.build ?_ ?_ ?_ ?_); rotate_left; exact rfl; exact rfl; exact rfl; fail_if_success split)

theorem State.readRest_kept {ps : List Part} {s t : State} (a1 a2) (h : Kept ps s t) (hp : partsIn [.cnt, .lay, .outbox, .reg 16, .reg 21] ps = true) : Kept ps s (State.readRest t a1 a2) := by
  refine h.lift hp ?_
  clear h hp
  unfold State.readRest
  repeat' first
    | with_reducible assumption
    | (extract_lets +onlyGivenNames x; subst x)
    | exact rfl
    | with_reducible first | apply State.readUnit_kept | apply State.setRead_kept | exact Kept.refl _ _ | apply Kept.foldl
    | (intro _; intros; try dsimp -zeta only)

theorem State.nativeRead_kept {ps : List Part} {s t : State} (a1 a2 a3) (h : Kept ps s t) (hp : partsIn [.cmd, .cmp, .cnt, .cph, .evt, .fsp, .jnl, .lay, .outbox, .win, .reg 7, .reg 12, .reg 13, .reg 16, .reg 20, .reg 21] ps = true) : Kept ps s (State.nativeRead t a1 a2 a3) := by
  refine h.lift hp ?_
  clear h hp
  unfold State.nativeRead
  repeat' first
    | with_reducible assumption
    | (extract_lets +onlyGivenNames x; refine Kept.cut x ?_ ?_ <;> first | (intro hx; clear_value x) | (unfold x; clear x))
    | (extract_lets +onlyGivenNames x; subst x)
    | with_reducible apply Kept.ite
    | exact rfl
    | with_reducible first | apply State.readRest_kept | apply State.readLost_kept | apply State.readRetry_kept | apply State.readFails_kept | apply State.versionRead_kept | apply State.count_kept | apply State.bumpWrap_kept | exact Kept.refl _ _
    | split

theorem State.tallyLose_kept {ps : List Part} {s t : State} (a1 a2 a3 a4) (h : Kept ps s t) (hp : partsIn [.evt, .lay, .reg 20] ps = true) : Kept ps s (State.tallyLose t a1 a2 a3 a4) := by
  refine h.lift hp ?_
  clear h hp
  unfold State.tallyLose
  repeat' first
    | with_reducible assumption
    | (extract_lets +onlyGivenNames x; refine Kept.cut x ?_ ?_ <;> first | (intro hx; clear_value x) | (unfold x; clear x))
    | (extract_lets +onlyGivenNames x; subst x)
    | with_reducible apply Kept.ite
    | exact rfl
    | with_reducible first | apply State.raise_kept | apply State.mdWrite_kept | exact Kept.refl _ _
    | ((with_reducible refine Kept.build ?_ ?_ ?_ ?_); rotate_left; exact rfl; exact rfl; exact rfl; fail_if_success split)

theorem State.chargeTally_kept {ps : List Part} {s t : State} (a1 a2) (h : Kept ps s t) (hp : partsIn [.cnt, .cph, .reg 12, .reg 21] ps = true) : Kept ps s (State.chargeTally t a1 a2) := by
  refine h.lift hp ?_
  clear h hp
  unfold State.chargeTally
  repeat' first
    | with_reducible assumption
    | (extract_lets +onlyGivenNames x; refine Kept.cut x ?_ ?_ <;> first | (intro hx; clear_value x) | (unfold x; clear x))
    | (extract_lets +onlyGivenNames x; subst x)
    | exact rfl
    | with_reducible first | apply State.count_kept | apply State.bumpWrap_kept | exact Kept.refl _ _
    | ((with_reducible refine Kept.build ?_ ?_ ?_ ?_); rotate_left; exact rfl; exact rfl; exact rfl; fail_if_success split)

theorem State.tallyHostRead_kept {ps : List Part} {s t : State} (a1 a2 a3) (h : Kept ps s t) (hp : partsIn [.cmd, .cmp, .cnt, .cph, .deferred, .evt, .fsp, .jnl, .lay, .outbox, .win, .reg 7, .reg 12, .reg 16, .reg 20, .reg 21] ps = true) : Kept ps s (State.tallyHostRead t a1 a2 a3) := by
  refine h.lift hp ?_
  clear h hp
  unfold State.tallyHostRead
  repeat' first
    | with_reducible assumption
    | (extract_lets +onlyGivenNames x; refine Kept.cut x ?_ ?_ <;> first | (intro hx; clear_value x) | (unfold x; clear x))
    | (extract_lets +onlyGivenNames x; subst x)
    | with_reducible apply Kept.ite
    | exact rfl
    | with_reducible first | apply State.endRead_kept | apply State.readRest_kept | apply State.modEntry_kept | apply State.readFails_kept | apply State.defer_kept | apply State.chargeTally_kept | apply State.setRead_kept | apply State.extentRead_kept | apply State.tallyLose_kept | exact Kept.refl _ _ | apply Kept.foldl
    | split
    | (intro _; intros; try dsimp -zeta only)

theorem State.modTally_kept {ps : List Part} {s t : State} (a1 a2 a3) (h : Kept ps s t) (hp : partsIn [.jnl] ps = true) : Kept ps s (State.modTally t a1 a2 a3) := by
  refine h.lift hp ?_
  clear h hp
  unfold State.modTally
  repeat' first
    | (extract_lets +onlyGivenNames x; subst x)
    | with_reducible exact Kept.refl _ _
    | ((with_reducible refine Kept.build ?_ ?_ ?_ ?_); rotate_left; exact rfl; exact rfl; exact rfl; fail_if_success split)

theorem State.tallyRedoRead_kept {ps : List Part} {s t : State} (a1 a2 a3) (h : Kept ps s t) (hp : partsIn [.cnt, .fsp, .jnl, .lay, .outbox, .reg 16, .reg 21] ps = true) : Kept ps s (State.tallyRedoRead t a1 a2 a3) := by
  refine h.lift hp ?_
  clear h hp
  unfold State.tallyRedoRead
  repeat' first
    | (extract_lets +onlyGivenNames x; subst x)
    | exact rfl
    | with_reducible first | apply State.endRead_kept | apply State.readRest_kept | apply State.modTally_kept | exact Kept.refl _ _
    | split

theorem State.tallyOldRead_kept {ps : List Part} {s t : State} (a1 a2 a3) (h : Kept ps s t) (hp : partsIn [.cmd, .cmp, .cnt, .cph, .fsp, .jnl, .lay, .outbox, .win, .reg 7, .reg 12, .reg 16, .reg 21] ps = true) : Kept ps s (State.tallyOldRead t a1 a2 a3) := by
  refine h.lift hp ?_
  clear h hp
  unfold State.tallyOldRead
  repeat' first
    | (extract_lets +onlyGivenNames x; subst x)
    | exact rfl
    | with_reducible first | apply State.endRead_kept | apply State.readRest_kept | apply State.modTally_kept | apply State.readFails_kept | exact Kept.refl _ _
    | split

theorem execMemberReadDone_kept {ps : List Part} {s t : State} (a1 a2) (h : Kept ps s t) (hp : partsIn [.cmd, .cmp, .cnt, .cph, .deferred, .evt, .fsp, .jnl, .lay, .outbox, .win, .reg 7, .reg 12, .reg 13, .reg 16, .reg 20, .reg 21] ps = true) : KeptOut ps s (execMemberReadDone a1 a2 t) := by
  refine KeptOut.lift h hp ?_
  clear h hp
  unfold execMemberReadDone
  repeat' first
    | with_reducible apply Kept.ite
    | exact rfl
    | with_reducible first | apply State.tallyOldRead_kept | apply State.nativeRead_kept | apply State.tallyRedoRead_kept | apply State.tallyHostRead_kept | apply KeptOut.next | exact Kept.refl _ _
    | split

theorem State.fullCheck_kept {ps : List Part} {s t : State} (a1) (h : Kept ps s t) (hp : partsIn [.evt, .lay, .reg 20] ps = true) : Kept ps s (State.fullCheck t a1) := by
  refine h.lift hp ?_
  clear h hp
  unfold State.fullCheck
  repeat' first
    | (extract_lets +onlyGivenNames x; subst x)
    | with_reducible apply Kept.ite
    | exact rfl
    | with_reducible first | apply State.modGrp_kept | apply State.raise_kept | exact Kept.refl _ _

theorem State.releaseChains_kept {ps : List Part} {s t : State} (a1) (h : Kept ps s t) (hp : partsIn [.fsp, .win] ps = true) : Kept ps s (State.releaseChains t a1) := by
  refine h.lift hp ?_
  clear h hp
  unfold State.releaseChains
  repeat' first
    | (extract_lets +onlyGivenNames x; subst x)
    | exact rfl
    | with_reducible first | apply State.decrefs_kept | exact Kept.refl _ _
    | ((with_reducible refine Kept.build ?_ ?_ ?_ ?_); rotate_left; exact rfl; exact rfl; exact rfl; fail_if_success split)

theorem State.dropGathering_kept {ps : List Part} {s t : State} (a1) (h : Kept ps s t) (hp : partsIn [.lay] ps = true) : Kept ps s (State.dropGathering t a1) := by
  refine h.lift hp ?_
  clear h hp
  unfold State.dropGathering
  repeat' first
    | (extract_lets +onlyGivenNames x; subst x)
    | with_reducible exact Kept.refl _ _
    | ((with_reducible refine Kept.build ?_ ?_ ?_ ?_); rotate_left; exact rfl; exact rfl; exact rfl; fail_if_success split)

theorem State.tryPlace_kept {ps : List Part} {s t : State} (a1 a2 a3) (h : Kept ps s t) (hp : partsIn [.axl, .cnt, .cph, .evt, .fsp, .gch, .jnl, .lay, .outbox, .sal, .win, .reg 9, .reg 13, .reg 14, .reg 16, .reg 20, .reg 21] ps = true) : Kept ps s (State.tryPlace t a1 a2 a3) := by
  refine h.lift hp ?_
  clear h hp
  unfold State.tryPlace
  repeat' first
    | with_reducible assumption
    | (extract_lets +onlyGivenNames x; refine Kept.cut x ?_ ?_ <;> first | (intro hx; clear_value x) | (unfold x; clear x))
    | (extract_lets +onlyGivenNames x; subst x)
    | with_reducible apply Kept.ite
    | exact rfl
    | with_reducible first | apply State.raise_kept | apply State.placeVersion_kept | apply State.fullCheck_kept | apply State.releaseChains_kept | exact Kept.refl _ _
    | ((with_reducible refine Kept.build ?_ ?_ ?_ ?_); rotate_left; exact rfl; exact rfl; exact rfl; fail_if_success split)
    | split

theorem execVersionPlace_kept {ps : List Part} {s t : State} (a1 a2 a3 a4) (h : Kept ps s t) (hp : partsIn [.axl, .cmd, .cnt, .cph, .deferred, .evt, .fov, .fsp, .gch, .jnl, .lay, .outbox, .sal, .win, .reg 7, .reg 9, .reg 13, .reg 14, .reg 16, .reg 20, .reg 21] ps = true) : KeptOut ps s (execVersionPlace a1 a2 a3 a4 t) := by
  refine KeptOut.lift h hp ?_
  clear h hp
  unfold execVersionPlace
  repeat' first
    | (extract_lets +onlyGivenNames x; subst x)
    | with_reducible apply Kept.ite
    | exact rfl
    | with_reducible first | apply State.dropGathering_kept | apply State.tryPlace_kept | apply State.settle_kept | apply KeptOut.next | exact Kept.refl _ _
    | split

theorem execGatherHoldExpiry_kept {ps : List Part} {s t : State} (a1 a2) (h : Kept ps s t) (hp : partsIn [.axl, .cnt, .evt, .gch, .jnl, .lay, .outbox, .sal, .reg 9, .reg 13, .reg 14, .reg 16, .reg 20, .reg 21] ps = true) : KeptOut ps s (execGatherHoldExpiry a1 a2 t) := by
  refine KeptOut.lift h hp ?_
  clear h hp
  unfold execGatherHoldExpiry
  repeat' first
    | with_reducible apply Kept.ite
    | exact rfl
    | with_reducible first | apply State.gatherHold_kept | apply KeptOut.next | exact Kept.refl _ _
    | split

theorem State.closeStripe_kept {ps : List Part} {s t : State} (a1 a2) (h : Kept ps s t) (hp : partsIn [.axl, .cnt, .evt, .gch, .jnl, .lay, .outbox, .sal, .reg 9, .reg 13, .reg 14, .reg 16, .reg 20, .reg 21] ps = true) : Kept ps s (State.closeStripe t a1 a2) := by
  refine h.lift hp ?_
  clear h hp
  unfold State.closeStripe
  repeat' first
    | exact rfl
    | with_reducible first | apply State.padStripe_kept | apply State.checkStripe_kept | apply State.fullCheck_kept | exact Kept.refl _ _

theorem execCloseHoldExpiry_kept {ps : List Part} {s t : State} (a1 a2) (h : Kept ps s t) (hp : partsIn [.axl, .cnt, .evt, .gch, .jnl, .lay, .outbox, .sal, .reg 9, .reg 13, .reg 14, .reg 16, .reg 20, .reg 21] ps = true) : KeptOut ps s (execCloseHoldExpiry a1 a2 t) := by
  refine KeptOut.lift h hp ?_
  clear h hp
  unfold execCloseHoldExpiry
  repeat' first
    | with_reducible apply Kept.ite
    | exact rfl
    | with_reducible first | apply State.closeStripe_kept | apply KeptOut.next | exact Kept.refl _ _
    | split

theorem execParitySlotWaitTimeout_kept {ps : List Part} {s t : State} (a1 a2 a3) (h : Kept ps s t) (hp : partsIn [.axl, .cnt, .evt, .gch, .jnl, .lay, .outbox, .sal, .reg 9, .reg 13, .reg 14, .reg 16, .reg 20, .reg 21] ps = true) : KeptOut ps s (execParitySlotWaitTimeout a1 a2 a3 t) := by
  refine KeptOut.lift h hp ?_
  clear h hp
  unfold execParitySlotWaitTimeout
  repeat' first
    | with_reducible assumption
    | (extract_lets +onlyGivenNames x; refine Kept.cut x ?_ ?_ <;> first | (intro hx; clear_value x) | (unfold x; clear x))
    | (extract_lets +onlyGivenNames x; subst x)
    | with_reducible apply Kept.ite
    | exact rfl
    | with_reducible first | apply State.closeStripe_kept | apply KeptOut.next | exact Kept.refl _ _
    | ((with_reducible refine Kept.build ?_ ?_ ?_ ?_); rotate_left; exact rfl; exact rfl; exact rfl; fail_if_success split)
    | split

theorem State.stripeWrite_kept {ps : List Part} {s t : State} (a1 a2 a3 a4) (h : Kept ps s t) (hp : partsIn [.axl, .cmd, .cnt, .cph, .deferred, .drv, .evt, .fov, .fsp, .gch, .jnl, .lay, .outbox, .sal, .win, .reg 7, .reg 9, .reg 13, .reg 14, .reg 16, .reg 20, .reg 21] ps = true) : Kept ps s (State.stripeWrite t a1 a2 a3 a4) := by
  refine h.lift hp ?_
  clear h hp
  unfold State.stripeWrite
  repeat' first
    | with_reducible assumption
    | (extract_lets +onlyGivenNames x; refine Kept.cut x ?_ ?_ <;> first | (intro hx; clear_value x) | (unfold x; clear x))
    | (extract_lets +onlyGivenNames x; subst x)
    | with_reducible apply Kept.ite
    | exact rfl
    | with_reducible first | apply State.enterLadder_kept | apply State.markDirty_kept | apply State.modStripe_kept | apply State.settle_kept | apply State.cacheWritten_kept | apply State.checkStripe_kept | apply State.cacheForget_kept | exact Kept.refl _ _
    | split

theorem State.dropTargets_kept {ps : List Part} {s t : State} (a1 a2) (h : Kept ps s t) (hp : partsIn [.axl, .cmd, .cnt, .cph, .deferred, .evt, .fov, .fsp, .gch, .jnl, .lay, .outbox, .sal, .win, .reg 7, .reg 9, .reg 13, .reg 14, .reg 16, .reg 20, .reg 21] ps = true) : Kept ps s (State.dropTargets t a1 a2) := by
  refine h.lift hp ?_
  clear h hp
  unfold State.dropTargets
  repeat' first
    | with_reducible assumption
    | (extract_lets +onlyGivenNames x; refine Kept.cut x ?_ ?_ <;> first | (intro hx; clear_value x) | (unfold x; clear x))
    | (extract_lets +onlyGivenNames x; subst x)
    | with_reducible apply Kept.ite
    | exact rfl
    | with_reducible first | apply State.markDirty_kept | apply State.modStripe_kept | apply State.settle_kept | apply State.checkStripe_kept | apply State.cacheForget_kept | exact Kept.refl _ _ | apply Kept.foldl
    | (intro _; intros; try dsimp -zeta only)

theorem State.tallyIssue_kept {ps : List Part} {s t : State} (a1) (h : Kept ps s t) (hp : partsIn [.axl, .cnt, .gch, .jnl, .outbox, .reg 9, .reg 16, .reg 21] ps = true) : Kept ps s (State.tallyIssue t a1) := by
  refine h.lift hp ?_
  clear h hp
  unfold State.tallyIssue
  repeat' first
    | with_reducible assumption
    | (extract_lets +onlyGivenNames x; subst x)
    | with_reducible apply Kept.ite
    | exact rfl
    | with_reducible first | apply State.writeUnit_kept | apply State.markDirty_kept | apply State.cacheDirty_kept | apply State.modTally_kept | exact Kept.refl _ _ | apply Kept.foldl
    | ((with_reducible refine Kept.build ?_ ?_ ?_ ?_); rotate_left; exact rfl; exact rfl; exact rfl; fail_if_success split)
    | (intro _; intros; try dsimp -zeta only)

theorem State.tallyHeal_kept {ps : List Part} {s t : State} (a1 a2 a3) (h : Kept ps s t) (hp : partsIn [.lay] ps = true) : Kept ps s (State.tallyHeal t a1 a2 a3) := by
  refine h.lift hp ?_
  clear h hp
  unfold State.tallyHeal
  repeat' first
    | (extract_lets +onlyGivenNames x; subst x)
    | with_reducible exact Kept.refl _ _
    | ((with_reducible refine Kept.build ?_ ?_ ?_ ?_); rotate_left; exact rfl; exact rfl; exact rfl; fail_if_success split)

theorem State.tallyTell_kept {ps : List Part} {s t : State} (a1) (h : Kept ps s t) (hp : partsIn [.cmd, .cnt, .fov, .fsp, .jnl, .lay, .outbox, .win, .reg 7, .reg 21] ps = true) : Kept ps s (State.tallyTell t a1) := by
  refine h.lift hp ?_
  clear h hp
  unfold State.tallyTell
  repeat' first
    | (extract_lets +onlyGivenNames x; subst x)
    | exact rfl
    | with_reducible first | apply State.modTally_kept | apply State.tallyHeal_kept | apply State.markReplica_kept | apply State.extentDone_kept | exact Kept.refl _ _

theorem State.tallyEnd_kept {ps : List Part} {s t : State} (a1) (h : Kept ps s t) (hp : partsIn [.cnt, .evt, .jnl, .outbox, .reg 14, .reg 16, .reg 20, .reg 21] ps = true) : Kept ps s (State.tallyEnd t a1) := by
  refine h.lift hp ?_
  clear h hp
  unfold State.tallyEnd
  repeat' first
    | with_reducible assumption
    | (extract_lets +onlyGivenNames x; refine Kept.cut x ?_ ?_ <;> first | (intro hx; clear_value x) | (unfold x; clear x))
    | (extract_lets +onlyGivenNames x; subst x)
    | exact rfl
    | with_reducible first | apply State.dropRecords_kept | exact Kept.refl _ _
    | ((with_reducible refine Kept.build ?_ ?_ ?_ ?_); rotate_left; exact rfl; exact rfl; exact rfl; fail_if_success split)

theorem State.tallyJudge_kept {ps : List Part} {s t : State} (a1) (h : Kept ps s t) (hp : partsIn [.cmd, .cmp, .cnt, .evt, .fov, .fsp, .jnl, .lay, .outbox, .win, .reg 7, .reg 14, .reg 16, .reg 20, .reg 21] ps = true) : Kept ps s (State.tallyJudge t a1) := by
  refine h.lift hp ?_
  clear h hp
  unfold State.tallyJudge
  repeat' first
    | with_reducible assumption
    | (extract_lets +onlyGivenNames x; refine Kept.cut x ?_ ?_ <;> first | (intro hx; clear_value x) | (unfold x; clear x))
    | with_reducible apply Kept.ite
    | exact rfl
    | with_reducible first | apply State.failCmd_kept | apply State.tallyTell_kept | apply State.tallyEnd_kept | exact Kept.refl _ _

theorem State.tallyWrite_kept {ps : List Part} {s t : State} (a1 a2 a3 a4) (h : Kept ps s t) (hp : partsIn [.axl, .cmd, .cmp, .cnt, .deferred, .drv, .evt, .fov, .fsp, .gch, .jnl, .lay, .outbox, .sal, .win, .reg 7, .reg 9, .reg 14, .reg 16, .reg 20, .reg 21] ps = true) : Kept ps s (State.tallyWrite t a1 a2 a3 a4) := by
  refine h.lift hp ?_
  clear h hp
  unfold State.tallyWrite
  repeat' first
    | with_reducible assumption
    | (extract_lets +onlyGivenNames x; refine Kept.cut x ?_ ?_ <;> first | (intro hx; clear_value x) | (unfold x; clear x))
    | (extract_lets +onlyGivenNames x; subst x)
    | with_reducible apply Kept.ite
    | exact rfl
    | with_reducible first | apply State.enterLadder_kept | apply State.markDirty_kept | apply State.tallyJudge_kept | apply State.modTally_kept | apply State.cacheWritten_kept | apply State.cacheForget_kept | exact Kept.refl _ _
    | split

theorem execStripeWriteDone_kept {ps : List Part} {s t : State} (a1 a2 a3 a4) (h : Kept ps s t) (hp : partsIn [.axl, .cmd, .cmp, .cnt, .cph, .deferred, .drv, .evt, .fov, .fsp, .gch, .jnl, .lay, .outbox, .sal, .win, .reg 7, .reg 9, .reg 13, .reg 14, .reg 16, .reg 20, .reg 21] ps = true) : KeptOut ps s (execStripeWriteDone a1 a2 a3 a4 t) := by
  refine KeptOut.lift h hp ?_
  clear h hp
  unfold execStripeWriteDone
  repeat' first
    | with_reducible apply Kept.ite
    | exact rfl
    | with_reducible first | apply State.tallyWrite_kept | apply State.stripeWrite_kept | apply KeptOut.next | exact Kept.refl _ _

theorem execCompactionStart_kept {ps : List Part} {s t : State} (a1) (h : Kept ps s t) (hp : partsIn [.lay, .reg 13] ps = true) : KeptOut ps s (execCompactionStart a1 t) := by
  refine KeptOut.lift h hp ?_
  clear h hp
  unfold execCompactionStart
  repeat' first
    | with_reducible apply Kept.ite
    | exact rfl
    | with_reducible first | apply State.modGrp_kept | apply State.layStatus_kept | apply KeptOut.next | apply KeptOut.fault | exact Kept.refl _ _
    | split

theorem State.compactStep_kept {ps : List Part} {s t : State} (a1) (h : Kept ps s t) (hp : partsIn [.axl, .cnt, .deferred, .evt, .fov, .fsp, .gch, .lay, .outbox, .pwr, .reg 8, .reg 9, .reg 13, .reg 16, .reg 20, .reg 21] ps = true) : Kept ps s (State.compactStep t a1) := by
  refine h.lift hp ?_
  clear h hp
  unfold State.compactStep
  repeat' first
    | with_reducible assumption
    | (extract_lets +onlyGivenNames x; refine Kept.cut x ?_ ?_ <;> first | (intro hx; clear_value x) | (unfold x; clear x))
    | (extract_lets +onlyGivenNames x; subst x)
    | with_reducible apply Kept.ite
    | exact rfl
    | with_reducible first | apply State.modGrp_kept | apply State.layStatus_kept | apply State.startRead_kept | apply State.count_kept | exact Kept.refl _ _
    | ((with_reducible refine Kept.build ?_ ?_ ?_ ?_); rotate_left; exact rfl; exact rfl; exact rfl; fail_if_success split)
    | split

theorem execSetReadyTimeout_kept {ps : List Part} {s t : State} (a1) (h : Kept ps s t) (hp : partsIn [.cnt, .deferred, .evt, .fov, .lay, .reg 20, .reg 21] ps = true) : KeptOut ps s (execSetReadyTimeout a1 t) := by
  refine KeptOut.lift h hp ?_
  clear h hp
  unfold execSetReadyTimeout
  repeat' first
    | with_reducible assumption
    | (extract_lets +onlyGivenNames x; subst x)
    | with_reducible apply Kept.ite
    | exact rfl
    | with_reducible first | apply State.posTo_kept | apply State.setOn_kept | apply KeptOut.next | apply KeptOut.fault | exact Kept.refl _ _ | apply Kept.foldl
    | split
    | (intro _; intros; try dsimp -zeta only)

theorem execSetIdleTimeout_kept {ps : List Part} {s t : State} (a1) (h : Kept ps s t) (hp : partsIn [.deferred] ps = true) : KeptOut ps s (execSetIdleTimeout a1 t) := by
  refine KeptOut.lift h hp ?_
  clear h hp
  unfold execSetIdleTimeout
  repeat' first
    | (extract_lets +onlyGivenNames x; subst x)
    | with_reducible apply Kept.ite
    | exact rfl
    | with_reducible first | apply State.defer_kept | apply KeptOut.next | apply KeptOut.fault | exact Kept.refl _ _
    | split

theorem State.setResult_kept {ps : List Part} {s t : State} (a1 a2) (h : Kept ps s t) (hp : partsIn [.reg 13] ps = true) : Kept ps s (State.setResult t a1 a2) := by
  refine h.lift hp ?_
  clear h hp
  unfold State.setResult
  repeat' first
    | exact rfl
    | with_reducible first | apply State.wr_kept | exact Kept.refl _ _

theorem State.setUnknown_kept {ps : List Part} {s t : State} (a1 a2) (h : Kept ps s t) (hp : partsIn [.evt, .reg 13, .reg 20] ps = true) : Kept ps s (State.setUnknown t a1 a2) := by
  refine h.lift hp ?_
  clear h hp
  unfold State.setUnknown
  repeat' first
    | exact rfl
    | with_reducible first | apply State.setResult_kept | apply State.violation_kept | exact Kept.refl _ _

theorem execSetPowerOnRequest_kept {ps : List Part} {s t : State} (a1 a2) (h : Kept ps s t) (hp : partsIn [.deferred, .evt, .fov, .lay, .outbox, .pwr, .reg 13, .reg 20] ps = true) : KeptOut ps s (execSetPowerOnRequest a1 a2 t) := by
  refine KeptOut.lift h hp ?_
  clear h hp
  unfold execSetPowerOnRequest
  repeat' first
    | with_reducible apply Kept.ite
    | exact rfl
    | with_reducible first | apply State.setResult_kept | apply State.requestSet_kept | apply State.setUnknown_kept | apply State.acts_kept | apply KeptOut.next | apply KeptOut.fault | exact Kept.refl _ _
    | split

theorem execSetStopRequest_kept {ps : List Part} {s t : State} (a1 a2) (h : Kept ps s t) (hp : partsIn [.deferred, .evt, .lay, .reg 13, .reg 20] ps = true) : KeptOut ps s (execSetStopRequest a1 a2 t) := by
  refine KeptOut.lift h hp ?_
  clear h hp
  unfold execSetStopRequest
  repeat' first
    | with_reducible apply Kept.ite
    | exact rfl
    | with_reducible first | apply State.setResult_kept | apply State.modSet_kept | apply State.setUnknown_kept | apply State.defer_kept | apply State.acts_kept | apply KeptOut.next | apply KeptOut.fault | exact Kept.refl _ _
    | split

theorem State.beginStop_kept {ps : List Part} {s t : State} (a1 a2) (h : Kept ps s t) (hp : partsIn [.axl, .cnt, .evt, .gch, .jnl, .lay, .outbox, .sal, .reg 9, .reg 13, .reg 14, .reg 16, .reg 20, .reg 21] ps = true) : Kept ps s (State.beginStop t a1 a2) := by
  refine h.lift hp ?_
  clear h hp
  unfold State.beginStop
  repeat' first
    | with_reducible assumption
    | (extract_lets +onlyGivenNames x; refine Kept.cut x ?_ ?_ <;> first | (intro hx; clear_value x) | (unfold x; clear x))
    | (extract_lets +onlyGivenNames x; subst x)
    | with_reducible apply Kept.ite
    | exact rfl
    | with_reducible first | apply State.modSet_kept | apply State.closeStripe_kept | exact Kept.refl _ _ | apply Kept.foldl
    | (intro _; intros; try dsimp -zeta only)

theorem execSetStopWritesDone_kept {ps : List Part} {s t : State} (a1) (h : Kept ps s t) (hp : partsIn [.deferred, .lay] ps = true) : KeptOut ps s (execSetStopWritesDone a1 t) := by
  refine KeptOut.lift h hp ?_
  clear h hp
  unfold execSetStopWritesDone
  repeat' first
    | (extract_lets +onlyGivenNames x; subst x)
    | with_reducible apply Kept.ite
    | exact rfl
    | with_reducible first | apply State.modSet_kept | apply State.defer_kept | apply KeptOut.next | apply KeptOut.fault | exact Kept.refl _ _
    | split

theorem State.shutdownSet_kept {ps : List Part} {s t : State} (a1) (h : Kept ps s t) (hp : partsIn [.deferred, .evt, .fov, .lay, .outbox, .pwr, .reg 20] ps = true) : Kept ps s (State.shutdownSet t a1) := by
  refine h.lift hp ?_
  clear h hp
  unfold State.shutdownSet
  repeat' first
    | (extract_lets +onlyGivenNames x; subst x)
    | with_reducible apply Kept.ite
    | exact rfl
    | with_reducible first | apply State.updateDemand_kept | apply State.modSet_kept | exact Kept.refl _ _

theorem State.stopStep_kept {ps : List Part} {s t : State} (a1) (h : Kept ps s t) (hp : partsIn [.deferred, .evt, .fov, .lay, .outbox, .pwr, .reg 20] ps = true) : Kept ps s (State.stopStep t a1) := by
  refine h.lift hp ?_
  clear h hp
  unfold State.stopStep
  repeat' first
    | (extract_lets +onlyGivenNames x; subst x)
    | with_reducible apply Kept.ite
    | exact rfl
    | with_reducible first | apply State.setOff_kept | exact Kept.refl _ _

theorem State.readyStep_kept {ps : List Part} {s t : State} (a1) (h : Kept ps s t) (hp : partsIn [.cnt, .deferred, .evt, .fov, .lay, .reg 20, .reg 21] ps = true) : Kept ps s (State.readyStep t a1) := by
  refine h.lift hp ?_
  clear h hp
  unfold State.readyStep
  repeat' first
    | with_reducible apply Kept.ite
    | exact rfl
    | with_reducible first | apply State.setOn_kept | exact Kept.refl _ _

theorem State.setStatus_kept {ps : List Part} {s t : State} (h : Kept ps s t) (hp : partsIn [.reg 13] ps = true) : Kept ps s (State.setStatus t) := by
  refine h.lift hp ?_
  clear h hp
  unfold State.setStatus
  repeat' first
    | with_reducible assumption
    | (extract_lets +onlyGivenNames x; refine Kept.cut x ?_ ?_ <;> first | (intro hx; clear_value x) | (unfold x; clear x))
    | (extract_lets +onlyGivenNames x; subst x)
    | exact rfl
    | with_reducible first | apply State.wr_kept | exact Kept.refl _ _

theorem State.writeBatch_kept {ps : List Part} {s t : State} (h : Kept ps s t) (hp : partsIn [.cnt, .lay, .outbox, .reg 21] ps = true) : Kept ps s (State.writeBatch t) := by
  refine h.lift hp ?_
  clear h hp
  unfold State.writeBatch
  repeat' first
    | with_reducible assumption
    | (extract_lets +onlyGivenNames x; refine Kept.cut x ?_ ?_ <;> first | (intro hx; clear_value x) | (unfold x; clear x))
    | (extract_lets +onlyGivenNames x; subst x)
    | exact rfl
    | with_reducible first | apply State.mdWrite_kept | apply State.count_kept | apply State.emit_kept | exact Kept.refl _ _
    | ((with_reducible refine Kept.build ?_ ?_ ?_ ?_); rotate_left; exact rfl; exact rfl; exact rfl; fail_if_success split)

theorem execDeltaBatchWrite_kept {ps : List Part} {s t : State} (h : Kept ps s t) (hp : partsIn [.cnt, .lay, .outbox, .reg 21] ps = true) : KeptOut ps s (execDeltaBatchWrite t) := by
  refine KeptOut.lift h hp ?_
  clear h hp
  unfold execDeltaBatchWrite
  repeat' first
    | with_reducible apply Kept.ite
    | exact rfl
    | with_reducible first | apply State.writeBatch_kept | apply KeptOut.next | exact Kept.refl _ _

theorem execCheckpointStart_kept {ps : List Part} {s t : State} (h : Kept ps s t) (hp : partsIn [.lay, .reg 13] ps = true) : KeptOut ps s (execCheckpointStart t) := by
  refine KeptOut.lift h hp ?_
  clear h hp
  unfold execCheckpointStart
  repeat' first
    | with_reducible assumption
    | (extract_lets +onlyGivenNames x; refine Kept.cut x ?_ ?_ <;> first | (intro hx; clear_value x) | (unfold x; clear x))
    | (extract_lets +onlyGivenNames x; subst x)
    | with_reducible apply Kept.ite
    | exact rfl
    | with_reducible first | apply State.wr_kept | exact Kept.refl _ _
    | ((with_reducible refine Kept.build ?_ ?_ ?_ ?_); rotate_left; exact rfl; exact rfl; exact rfl; fail_if_success split)

theorem execCheckpointDone_kept {ps : List Part} {s t : State} (h : Kept ps s t) (hp : partsIn [.cnt, .lay, .outbox, .reg 13, .reg 21] ps = true) : KeptOut ps s (execCheckpointDone t) := by
  refine KeptOut.lift h hp ?_
  clear h hp
  unfold execCheckpointDone
  repeat' first
    | with_reducible assumption
    | (extract_lets +onlyGivenNames x; refine Kept.cut x ?_ ?_ <;> first | (intro hx; clear_value x) | (unfold x; clear x))
    | (extract_lets +onlyGivenNames x; subst x)
    | exact rfl
    | with_reducible first | apply State.wr_kept | apply State.count_kept | apply State.emit_kept | apply KeptOut.next | exact Kept.refl _ _
    | ((with_reducible refine Kept.build ?_ ?_ ?_ ?_); rotate_left; exact rfl; exact rfl; exact rfl; fail_if_success split)
    | split

theorem State.mirrorDeltas_kept {ps : List Part} {s t : State} (a1 a2) (h : Kept ps s t) (hp : partsIn [.cnt, .fov, .outbox, .reg 21] ps = true) : Kept ps s (State.mirrorDeltas a1 a2 t) := by
  refine h.lift hp ?_
  clear h hp
  have key : ∀ u, Kept [.cnt, .fov, .outbox, .reg 21] t u → Kept [.cnt, .fov, .outbox, .reg 21] t (State.mirrorDeltas a1 a2 u) := by
    induction a1 generalizing a2 with
    | zero => intro u hu; unfold State.mirrorDeltas; exact hu
    | succ n ih =>
      intro u hu
      unfold State.mirrorDeltas
      repeat' first
        | with_reducible first | assumption | apply ih
        | (extract_lets +onlyGivenNames x; subst x)
        | exact rfl
        | with_reducible apply State.mirrorSend_kept
        | split
  exact key t (Kept.refl _ _)

theorem State.batchDone_kept {ps : List Part} {s t : State} (a1 a2) (h : Kept ps s t) (hp : partsIn [.cmd, .cnt, .cph, .deferred, .evt, .fov, .fsp, .jnl, .lay, .outbox, .win, .reg 7, .reg 13, .reg 14, .reg 16, .reg 20, .reg 21] ps = true) : Kept ps s (State.batchDone t a1 a2) := by
  refine h.lift hp ?_
  clear h hp
  unfold State.batchDone
  repeat' first
    | with_reducible assumption
    | (extract_lets +onlyGivenNames x; refine Kept.cut x ?_ ?_ <;> first | (intro hx; clear_value x) | (unfold x; clear x))
    | (extract_lets +onlyGivenNames x; subst x)
    | exact rfl
    | with_reducible first | apply State.settle_kept | apply State.mirrorSend_kept | apply State.mirrorDeltas_kept | exact Kept.refl _ _
    | ((with_reducible refine Kept.build ?_ ?_ ?_ ?_); rotate_left; exact rfl; exact rfl; exact rfl; fail_if_success split)

theorem execMetadataWriteDone_kept {ps : List Part} {s t : State} (h : Kept ps s t) (hp : partsIn [.cmd, .cnt, .cph, .deferred, .evt, .fov, .fsp, .jnl, .lay, .outbox, .sep, .win, .reg 7, .reg 12, .reg 13, .reg 14, .reg 16, .reg 19, .reg 20, .reg 21] ps = true) : KeptOut ps s (execMetadataWriteDone t) := by
  refine KeptOut.lift h hp ?_
  clear h hp
  unfold execMetadataWriteDone
  repeat' first
    | with_reducible assumption
    | (extract_lets +onlyGivenNames x; refine Kept.cut x ?_ ?_ <;> first | (intro hx; clear_value x) | (unfold x; clear x))
    | (extract_lets +onlyGivenNames x; subst x)
    | exact rfl
    | with_reducible first | apply State.replyOk_kept | apply State.keyDurable_kept | apply State.keyErased_kept | apply State.batchDone_kept | apply State.mirrorSend_kept | apply KeptOut.next | exact Kept.refl _ _
    | ((with_reducible refine Kept.build ?_ ?_ ?_ ?_); rotate_left; exact rfl; exact rfl; exact rfl; fail_if_success split)
    | split

theorem State.tallyBegin_kept {ps : List Part} {s t : State} (a1) (h : Kept ps s t) (hp : partsIn [.cmd, .cmp, .cnt, .deferred, .evt, .fov, .fsp, .gch, .jnl, .lay, .outbox, .pwr, .win, .reg 7, .reg 8, .reg 9, .reg 16, .reg 20, .reg 21] ps = true) : Kept ps s (State.tallyBegin t a1) := by
  refine h.lift hp ?_
  clear h hp
  unfold State.tallyBegin
  repeat' first
    | with_reducible assumption
    | (extract_lets +onlyGivenNames x; refine Kept.cut x ?_ ?_ <;> first | (intro hx; clear_value x) | (unfold x; clear x))
    | with_reducible apply Kept.ite
    | exact rfl
    | with_reducible first | apply State.failCmd_kept | apply State.modTally_kept | apply State.startTallyRead_kept | exact Kept.refl _ _
    | split

theorem State.tallyEncrypt_kept {ps : List Part} {s t : State} (a1) (h : Kept ps s t) (hp : partsIn [.cnt, .cph, .evt, .jnl, .outbox, .reg 12, .reg 14, .reg 16, .reg 20, .reg 21] ps = true) : Kept ps s (State.tallyEncrypt t a1) := by
  refine h.lift hp ?_
  clear h hp
  unfold State.tallyEncrypt
  repeat' first
    | with_reducible assumption
    | (extract_lets +onlyGivenNames x; refine Kept.cut x ?_ ?_ <;> first | (intro hx; clear_value x) | (unfold x; clear x))
    | (extract_lets +onlyGivenNames x; subst x)
    | with_reducible apply Kept.ite
    | exact rfl
    | with_reducible first | apply State.journal_kept | apply State.modTally_kept | apply State.chargeTally_kept | exact Kept.refl _ _

theorem State.tallyCommit_kept {ps : List Part} {s t : State} (a1) (h : Kept ps s t) (hp : partsIn [.axl, .cmd, .cnt, .fov, .fsp, .gch, .jnl, .lay, .outbox, .win, .reg 7, .reg 9, .reg 16, .reg 21] ps = true) : Kept ps s (State.tallyCommit t a1) := by
  refine h.lift hp ?_
  clear h hp
  unfold State.tallyCommit
  repeat' first
    | with_reducible assumption
    | (extract_lets +onlyGivenNames x; refine Kept.cut x ?_ ?_ <;> first | (intro hx; clear_value x) | (unfold x; clear x))
    | (extract_lets +onlyGivenNames x; subst x)
    | with_reducible apply Kept.ite
    | exact rfl
    | with_reducible first | apply State.tallyIssue_kept | apply State.tallyTell_kept | exact Kept.refl _ _
    | split

theorem State.tallySettle_kept {ps : List Part} {s t : State} (h : Kept ps s t) (hp : partsIn [.axl, .cmd, .cnt, .fov, .fsp, .gch, .jnl, .lay, .outbox, .win, .reg 7, .reg 9, .reg 16, .reg 21] ps = true) : Kept ps s (State.tallySettle t) := by
  refine h.lift hp ?_
  clear h hp
  unfold State.tallySettle
  repeat' first
    | with_reducible assumption
    | exact rfl
    | with_reducible first | apply State.tallyCommit_kept | exact Kept.refl _ _ | apply Kept.foldl
    | (intro _; intros; try dsimp -zeta only)

theorem State.tallyAdvance_kept {ps : List Part} {s t : State} (h : Kept ps s t) (hp : partsIn [.axl, .cmd, .cmp, .cnt, .cph, .deferred, .evt, .fov, .fsp, .gch, .jnl, .lay, .outbox, .pwr, .win, .reg 7, .reg 8, .reg 9, .reg 12, .reg 14, .reg 16, .reg 20, .reg 21] ps = true) : Kept ps s (State.tallyAdvance t) := by
  refine h.lift hp ?_
  clear h hp
  unfold State.tallyAdvance
  repeat' first
    | with_reducible assumption
    | (extract_lets +onlyGivenNames x; refine Kept.cut x ?_ ?_ <;> first | (intro hx; clear_value x) | (unfold x; clear x))
    | exact rfl
    | with_reducible first | apply State.tallyBegin_kept | apply State.tallyEncrypt_kept | apply State.tallySettle_kept | exact Kept.refl _ _ | apply Kept.foldl
    | (intro _; intros; try dsimp -zeta only)

theorem execJournalWriteDone_kept {ps : List Part} {s t : State} (a1 a2 a3) (h : Kept ps s t) (hp : partsIn [.axl, .cmd, .cnt, .cph, .deferred, .drv, .evt, .fov, .fsp, .gch, .jnl, .lay, .outbox, .win, .reg 7, .reg 9, .reg 13, .reg 14, .reg 16, .reg 20, .reg 21] ps = true) : KeptOut ps s (execJournalWriteDone a1 a2 a3 t) := by
  refine KeptOut.lift h hp ?_
  clear h hp
  unfold execJournalWriteDone
  repeat' first
    | with_reducible apply Kept.ite
    | exact rfl
    | with_reducible first | apply State.enterLadder_kept | apply State.anchorLeaves_kept | apply State.settle_kept | apply State.ringAdvance_kept | apply State.tallySettle_kept | apply KeptOut.guard | exact Kept.refl _ _
    | split

theorem execAnchorReseedTimeout_kept {ps : List Part} {s t : State} (a1) (h : Kept ps s t) (hp : partsIn [.evt, .jnl, .reg 20] ps = true) : KeptOut ps s (execAnchorReseedTimeout a1 t) := by
  refine KeptOut.lift h hp ?_
  clear h hp
  unfold execAnchorReseedTimeout
  repeat' first
    | (extract_lets +onlyGivenNames x; subst x)
    | with_reducible apply Kept.ite
    | exact rfl
    | with_reducible first | apply State.raise_kept | apply State.modRole_kept | apply KeptOut.guard | exact Kept.refl _ _

theorem State.replayDelta_kept {ps : List Part} {s : State} {x : State × Replaying} (a1) (h : Kept ps s x.1) (hp : partsIn [.cph, .lay] ps = true) : Kept ps s (State.replayDelta x a1).1 := by
  unfold State.replayDelta
  obtain ⟨t, r⟩ := x
  dsimp only
  split
  · exact h
  · exact State.setExtent_kept _ _ _ (State.deadBytes_kept _ h (within_trans rfl hp)) (within_trans rfl hp)

theorem State.replayRecord_kept {ps : List Part} {s t : State} (y a1) (h : Kept ps s t) (hp : partsIn [.cph, .lay] ps = true) : Kept ps s (State.replayRecord (t, y) a1).1 := by
  refine h.lift hp ?_
  clear h hp
  unfold State.replayRecord
  repeat' first
    | with_reducible assumption
    | (extract_lets +onlyGivenNames x; subst x)
    | exact rfl
    | with_reducible first | apply State.replayDelta_kept | exact Kept.refl _ _ | apply Kept.foldl1
    | split
    | (intro _; intros; try dsimp -zeta only)

theorem State.replayRecord_kept_eq {ps : List Part} {s t u : State} {y a1} {x} (e : State.replayRecord (t, y) a1 = (u, x)) (h : Kept ps s t) (hp : partsIn [.cph, .lay] ps = true) : Kept ps s u := by
  have k := State.replayRecord_kept (ps := ps) (s := s) (t := t) y a1 h hp
  rw [e] at k
  exact k

theorem State.replayScan_kept {ps : List Part} {s t : State} (y a1) (h : Kept ps s t) (hp : partsIn [.cph, .lay] ps = true) : Kept ps s (State.replayScan (t, y) a1).1 := by
  refine h.lift hp ?_
  clear h hp
  unfold State.replayScan
  repeat' first
    | (extract_lets +onlyGivenNames x; subst x)
    | exact rfl
    | with_reducible first | apply State.replayDelta_kept | exact Kept.refl _ _
    | split

theorem State.replayScan_kept_eq {ps : List Part} {s t u : State} {y a1} {x} (e : State.replayScan (t, y) a1 = (u, x)) (h : Kept ps s t) (hp : partsIn [.cph, .lay] ps = true) : Kept ps s u := by
  have k := State.replayScan_kept (ps := ps) (s := s) (t := t) y a1 h hp
  rw [e] at k
  exact k

theorem State.countLive_kept {ps : List Part} {s t : State} (h : Kept ps s t) (hp : partsIn [.lay] ps = true) : Kept ps s (State.countLive t) := by
  refine h.lift hp ?_
  clear h hp
  unfold State.countLive
  repeat' first
    | with_reducible assumption
    | (extract_lets +onlyGivenNames x; refine Kept.cut x ?_ ?_ <;> first | (intro hx; clear_value x) | (unfold x; clear x))
    | (extract_lets +onlyGivenNames x; subst x)
    | with_reducible apply Kept.ite
    | exact rfl
    | with_reducible first | apply State.modGrp_kept | exact Kept.refl _ _ | apply Kept.foldl
    | ((with_reducible refine Kept.build ?_ ?_ ?_ ?_); rotate_left; exact rfl; exact rfl; exact rfl; fail_if_success split)
    | (intro _; intros; try dsimp -zeta only)

theorem State.replayRings_kept {ps : List Part} {s t : State} (a1 a2) (h : Kept ps s t) (hp : partsIn [.cph, .lay] ps = true) : Kept ps s (State.replayRings t a1 a2).1 := by
  refine h.lift hp ?_
  clear h hp
  unfold State.replayRings
  repeat' first
    | with_reducible assumption
    | (extract_lets +onlyGivenNames x; subst x)
    | exact rfl
    | with_reducible first | apply State.replayScan_kept | apply State.replayRecord_kept | apply State.countLive_kept | exact Kept.refl _ _ | apply Kept.foldl1
    | split
    | (intro _; intros; try dsimp -zeta only)

theorem State.replayRings_kept_eq {ps : List Part} {s t u : State} {a1 a2} {x} (e : State.replayRings t a1 a2 = (u, x)) (h : Kept ps s t) (hp : partsIn [.cph, .lay] ps = true) : Kept ps s u := by
  have k := State.replayRings_kept (ps := ps) (s := s) (t := t) a1 a2 h hp
  rw [e] at k
  exact k

theorem State.reportLosses_kept {ps : List Part} {s t : State} (a1) (h : Kept ps s t) (hp : partsIn [.cmd, .evt, .lay, .reg 7, .reg 20] ps = true) : Kept ps s (State.reportLosses t a1) := by
  refine h.lift hp ?_
  clear h hp
  unfold State.reportLosses
  repeat' first
    | with_reducible assumption
    | (extract_lets +onlyGivenNames x; refine Kept.cut x ?_ ?_ <;> first | (intro hx; clear_value x) | (unfold x; clear x))
    | (extract_lets +onlyGivenNames x; subst x)
    | exact rfl
    | with_reducible first | apply State.lose_kept | apply State.raise_kept | exact Kept.refl _ _ | apply Kept.foldl
    | (intro _; intros; try dsimp -zeta only)

theorem State.raiseRings_kept {ps : List Part} {s t : State} (a1) (h : Kept ps s t) (hp : partsIn [.evt, .jnl, .outbox, .reg 14, .reg 20] ps = true) : Kept ps s (State.raiseRings t a1) := by
  refine h.lift hp ?_
  clear h hp
  unfold State.raiseRings
  repeat' first
    | with_reducible assumption
    | (extract_lets +onlyGivenNames x; refine Kept.cut x ?_ ?_ <;> first | (intro hx; clear_value x) | (unfold x; clear x))
    | (extract_lets +onlyGivenNames x; subst x)
    | with_reducible apply Kept.ite
    | exact rfl
    | with_reducible first | apply State.failRole_kept | apply State.modRole_kept | apply State.emit_kept | exact Kept.refl _ _ | apply Kept.foldIdx
    | ((with_reducible refine Kept.build ?_ ?_ ?_ ?_); rotate_left; exact rfl; exact rfl; exact rfl; fail_if_success split)
    | (intro _; intros; try dsimp -zeta only)

theorem State.moveHeads_kept {ps : List Part} {s t : State} (a1) (h : Kept ps s t) (hp : partsIn [.lay] ps = true) : Kept ps s (State.moveHeads t a1) := by
  refine h.lift hp ?_
  clear h hp
  unfold State.moveHeads
  repeat' first
    | with_reducible assumption
    | (extract_lets +onlyGivenNames x; refine Kept.cut x ?_ ?_ <;> first | (intro hx; clear_value x) | (unfold x; clear x))
    | (extract_lets +onlyGivenNames x; subst x)
    | exact rfl
    | with_reducible first | apply State.modGrp_kept | exact Kept.refl _ _ | apply Kept.foldIdx
    | split
    | (intro _; intros; try dsimp -zeta only)

theorem State.keepBytes_kept {ps : List Part} {s t : State} (a1 a2 a3 a4 a5) (h : Kept ps s t) (hp : partsIn [.lay] ps = true) : Kept ps s (State.keepBytes t a1 a2 a3 a4 a5) := by
  refine h.lift hp ?_
  clear h hp
  unfold State.keepBytes
  repeat' first
    | with_reducible assumption
    | (extract_lets +onlyGivenNames x; refine Kept.cut x ?_ ?_ <;> first | (intro hx; clear_value x) | (unfold x; clear x))
    | (extract_lets +onlyGivenNames x; subst x)
    | with_reducible apply Kept.ite
    | exact rfl
    | with_reducible first | apply State.modStripe_kept | exact Kept.refl _ _
    | ((with_reducible refine Kept.build ?_ ?_ ?_ ?_); rotate_left; exact rfl; exact rfl; exact rfl; fail_if_success split)

theorem State.replaceKept_kept {ps : List Part} {s t : State} (a1) (h : Kept ps s t) (hp : partsIn [.cnt, .deferred, .evt, .fov, .fsp, .gch, .lay, .outbox, .pwr, .reg 8, .reg 9, .reg 16, .reg 20, .reg 21] ps = true) : Kept ps s (State.replaceKept t a1) := by
  refine h.lift hp ?_
  clear h hp
  unfold State.replaceKept
  repeat' first
    | with_reducible assumption
    | (extract_lets +onlyGivenNames x; refine Kept.cut x ?_ ?_ <;> first | (intro hx; clear_value x) | (unfold x; clear x))
    | (extract_lets +onlyGivenNames x; subst x)
    | exact rfl
    | with_reducible first | apply State.requestSet_kept | apply State.startRead_kept | apply State.keepBytes_kept | exact Kept.refl _ _ | apply Kept.foldl
    | (intro _; intros; try dsimp -zeta only)

theorem State.redoTallies_kept {ps : List Part} {s t : State} (a1) (h : Kept ps s t) (hp : partsIn [.cnt, .deferred, .evt, .fov, .fsp, .gch, .jnl, .lay, .outbox, .pwr, .reg 8, .reg 9, .reg 16, .reg 20, .reg 21] ps = true) : Kept ps s (State.redoTallies t a1) := by
  refine h.lift hp ?_
  clear h hp
  unfold State.redoTallies
  repeat' first
    | with_reducible assumption
    | (extract_lets +onlyGivenNames x; refine Kept.cut x ?_ ?_ <;> first | (intro hx; clear_value x) | (unfold x; clear x))
    | (extract_lets +onlyGivenNames x; subst x)
    | exact rfl
    | with_reducible first | apply State.requestSet_kept | apply State.startTallyRead_kept | exact Kept.refl _ _ | apply Kept.foldl
    | ((with_reducible refine Kept.build ?_ ?_ ?_ ?_); rotate_left; exact rfl; exact rfl; exact rfl; fail_if_success split)
    | (intro _; intros; try dsimp -zeta only)

theorem State.replayZones_kept {ps : List Part} {s t : State} (h : Kept ps s t) (hp : partsIn [.cmd] ps = true) : Kept ps s (State.replayZones t) := by
  refine h.lift hp ?_
  clear h hp
  unfold State.replayZones
  repeat' first
    | with_reducible assumption
    | (extract_lets +onlyGivenNames x; refine Kept.cut x ?_ ?_ <;> first | (intro hx; clear_value x) | (unfold x; clear x))
    | (extract_lets +onlyGivenNames x; subst x)
    | with_reducible apply Kept.ite
    | exact rfl
    | with_reducible first | apply State.setZone_kept | exact Kept.refl _ _ | apply Kept.foldl
    | ((with_reducible refine Kept.build ?_ ?_ ?_ ?_); rotate_left; exact rfl; exact rfl; exact rfl; fail_if_success split)
    | (intro _; intros; try dsimp -zeta only)

theorem State.finishReplay_kept {ps : List Part} {s t : State} (a1) (h : Kept ps s t) (hp : partsIn [.cmd, .cnt, .deferred, .evt, .fov, .fsp, .gch, .jnl, .lay, .outbox, .pwr, .reg 7, .reg 8, .reg 9, .reg 13, .reg 14, .reg 16, .reg 20, .reg 21] ps = true) : Kept ps s (State.finishReplay t a1) := by
  refine h.lift hp ?_
  clear h hp
  unfold State.finishReplay
  repeat' first
    | with_reducible assumption
    | (extract_lets +onlyGivenNames x; refine Kept.cut x ?_ ?_ <;> first | (intro hx; clear_value x) | (unfold x; clear x))
    | (extract_lets +onlyGivenNames x; subst x)
    | with_reducible apply Kept.ite
    | exact rfl
    | with_reducible first | apply State.moveHeads_kept | apply State.reportLosses_kept | apply State.layStatus_kept | apply State.replaceKept_kept | apply State.jnlStatus_kept | apply State.writeBatch_kept | apply State.raiseRings_kept | apply State.replayZones_kept | apply State.redoTallies_kept | exact Kept.refl _ _
    | ((with_reducible refine Kept.build ?_ ?_ ?_ ?_); rotate_left; exact rfl; exact rfl; exact rfl; fail_if_success split)

theorem State.labelRole_kept {ps : List Part} {s t : State} (a1 a2) (h : Kept ps s t) (hp : partsIn [.jnl] ps = true) : Kept ps s (State.labelRole t a1 a2) := by
  refine h.lift hp ?_
  clear h hp
  unfold State.labelRole
  repeat' first
    | with_reducible assumption
    | (extract_lets +onlyGivenNames x; refine Kept.cut x ?_ ?_ <;> first | (intro hx; clear_value x) | (unfold x; clear x))
    | (extract_lets +onlyGivenNames x; subst x)
    | exact rfl
    | with_reducible first | apply State.modRole_kept | exact Kept.refl _ _
    | split

theorem State.labelRoles_kept {ps : List Part} {s t : State} (a1) (h : Kept ps s t) (hp : partsIn [.jnl] ps = true) : Kept ps s (State.labelRoles t a1) := by
  refine h.lift hp ?_
  clear h hp
  unfold State.labelRoles
  repeat' first
    | with_reducible assumption
    | exact rfl
    | with_reducible first | apply State.labelRole_kept | exact Kept.refl _ _ | apply Kept.foldIdx
    | (intro _; intros; try dsimp -zeta only)

theorem execReplayDone_kept {ps : List Part} {s t : State} (a1 a2) (h : Kept ps s t) (hp : partsIn [.cfg, .cmd, .cnt, .cph, .deferred, .evt, .fov, .fsp, .gch, .jnl, .lay, .outbox, .pwr, .sep, .reg 1, .reg 7, .reg 8, .reg 9, .reg 12, .reg 13, .reg 14, .reg 16, .reg 19, .reg 20, .reg 21] ps = true) : KeptOut ps s (execReplayDone a1 a2 t) := by
  refine KeptOut.lift h hp ?_
  clear h hp
  unfold execReplayDone
  repeat' first
    | (extract_lets +onlyGivenNames x; subst x)
    | with_reducible apply Kept.ite
    | exact rfl
    | with_reducible first | apply State.replayRings_kept | apply State.startEpoch_kept | apply State.wr_kept | apply State.finishReplay_kept | apply State.labelRoles_kept | apply State.raise_kept | apply State.jnlStatus_kept | apply KeptOut.next | exact Kept.refl _ _
    | ((with_reducible refine Kept.build ?_ ?_ ?_ ?_); rotate_left; exact rfl; exact rfl; exact rfl; fail_if_success split)
    | split

end Sys2Proof.Machine
end

