-- ==== Sys2Proof/Laws/KeptD.lean ====
section
/-!
SUPPORT. Laws/KeptD.lean: one lemma per function: what it keeps of the state it is given (Axolotl, drives and power).
-/

namespace Sys2Proof.Machine

theorem State.axlStatus_kept {ps : List Part} {s t : State} (h : Kept ps s t) (hp : partsIn [.reg 15] ps = true) : Kept ps s (State.axlStatus t) := by
  refine h.lift hp ?_
  clear h hp
  unfold State.axlStatus
  repeat' first
    | with_reducible assumption
    | (extract_lets +onlyGivenNames x; refine Kept.cut x ?_ ?_ <;> first | (intro hx; clear_value x) | (unfold x; clear x))
    | (extract_lets +onlyGivenNames x; subst x)
    | with_reducible apply Kept.ite
    | exact rfl
    | with_reducible first | apply State.wr_kept | exact Kept.refl _ _ | apply Kept.foldIdx
    | split
    | (intro _; intros; try dsimp -zeta only)

theorem State.axlCredits_kept {ps : List Part} {s t : State} (a1) (h : Kept ps s t) (hp : partsIn [.axl, .cnt, .reg 15, .reg 21] ps = true) : Kept ps s (State.axlCredits t a1) := by
  refine h.lift hp ?_
  clear h hp
  unfold State.axlCredits
  repeat' first
    | with_reducible assumption
    | (extract_lets +onlyGivenNames x; refine Kept.cut x ?_ ?_ <;> first | (intro hx; clear_value x) | (unfold x; clear x))
    | (extract_lets +onlyGivenNames x; subst x)
    | with_reducible apply Kept.ite
    | exact rfl
    | with_reducible first | apply State.wr_kept | apply State.count_kept | exact Kept.refl _ _
    | ((with_reducible refine Kept.build ?_ ?_ ?_ ?_); rotate_left; exact rfl; exact rfl; exact rfl; fail_if_success split)

theorem execResyncWindowExpiry_kept {ps : List Part} {s t : State} (a1) (h : Kept ps s t) (hp : partsIn [.deferred] ps = true) : KeptOut ps s (execResyncWindowExpiry a1 t) := by
  refine KeptOut.lift h hp ?_
  clear h hp
  unfold execResyncWindowExpiry
  repeat' first
    | with_reducible apply Kept.ite
    | exact rfl
    | with_reducible first | apply State.posTo_kept | apply KeptOut.guard | exact Kept.refl _ _
    | split

theorem State.takeTarget_kept {ps : List Part} {s t : State} (a1 a2 a3) (h : Kept ps s t) (hp : partsIn [.axl, .deferred, .drv, .lay, .outbox, .sal, .reg 10] ps = true) : Kept ps s (State.takeTarget t a1 a2 a3) := by
  refine h.lift hp ?_
  clear h hp
  unfold State.takeTarget
  repeat' first
    | with_reducible assumption
    | (extract_lets +onlyGivenNames x; refine Kept.cut x ?_ ?_ <;> first | (intro hx; clear_value x) | (unfold x; clear x))
    | (extract_lets +onlyGivenNames x; subst x)
    | exact rfl
    | with_reducible first | apply State.posTo_kept | apply State.modGrp_kept | apply State.modSlot_kept | apply State.salSlot_kept | apply State.writeLabel_kept | apply State.modPos_kept | exact Kept.refl _ _
    | ((with_reducible refine Kept.build ?_ ?_ ?_ ?_); rotate_left; exact rfl; exact rfl; exact rfl; fail_if_success split)

theorem State.assignTarget_kept {ps : List Part} {s t : State} (a1 a2) (h : Kept ps s t) (hp : partsIn [.axl, .deferred, .drv, .evt, .lay, .outbox, .sal, .reg 10, .reg 20] ps = true) : Kept ps s (State.assignTarget t a1 a2) := by
  refine h.lift hp ?_
  clear h hp
  unfold State.assignTarget
  repeat' first
    | with_reducible assumption
    | (extract_lets +onlyGivenNames x; refine Kept.cut x ?_ ?_ <;> first | (intro hx; clear_value x) | (unfold x; clear x))
    | (extract_lets +onlyGivenNames x; subst x)
    | with_reducible apply Kept.ite
    | exact rfl
    | with_reducible first | apply State.raise_kept | apply State.takeTarget_kept | exact Kept.refl _ _ | apply Kept.foldl
    | split
    | (intro _; intros; try dsimp -zeta only)

theorem State.fillRole_kept {ps : List Part} {s t : State} (a1) (h : Kept ps s t) (hp : partsIn [.axl, .cnt, .deferred, .drv, .evt, .fov, .jnl, .lay, .outbox, .pwr, .sal, .reg 10, .reg 14, .reg 15, .reg 16, .reg 20, .reg 21] ps = true) : Kept ps s (State.fillRole t a1) := by
  refine h.lift hp ?_
  clear h hp
  unfold State.fillRole
  repeat' first
    | with_reducible assumption
    | (extract_lets +onlyGivenNames x; refine Kept.cut x ?_ ?_ <;> first | (intro hx; clear_value x) | (unfold x; clear x))
    | (extract_lets +onlyGivenNames x; subst x)
    | with_reducible apply Kept.ite
    | exact rfl
    | with_reducible first | apply State.applyPos_kept | apply State.promote_kept | apply State.takeTarget_kept | exact Kept.refl _ _
    | split

theorem State.seekTargets_kept {ps : List Part} {s t : State} (h : Kept ps s t) (hp : partsIn [.axl, .cnt, .deferred, .drv, .evt, .fov, .jnl, .lay, .outbox, .pwr, .sal, .reg 10, .reg 14, .reg 15, .reg 16, .reg 20, .reg 21] ps = true) : Kept ps s (State.seekTargets t) := by
  refine h.lift hp ?_
  clear h hp
  unfold State.seekTargets
  repeat' first
    | with_reducible assumption
    | (extract_lets +onlyGivenNames x; refine Kept.cut x ?_ ?_ <;> first | (intro hx; clear_value x) | (unfold x; clear x))
    | with_reducible apply Kept.ite
    | exact rfl
    | with_reducible first | apply State.fillRole_kept | apply State.assignTarget_kept | exact Kept.refl _ _ | apply Kept.foldIdx
    | (intro _; intros; try dsimp -zeta only)

theorem State.loseColumns_kept {ps : List Part} {s t : State} (a1 a2 a3 a4 a5) (h : Kept ps s t) (hp : partsIn [.cmd, .cnt, .evt, .lay, .reg 7, .reg 13, .reg 15, .reg 20, .reg 21] ps = true) : Kept ps s (State.loseColumns t a1 a2 a3 a4 a5) := by
  refine h.lift hp ?_
  clear h hp
  unfold State.loseColumns
  repeat' first
    | with_reducible assumption
    | (extract_lets +onlyGivenNames x; refine Kept.cut x ?_ ?_ <;> first | (intro hx; clear_value x) | (unfold x; clear x))
    | (extract_lets +onlyGivenNames x; subst x)
    | with_reducible apply Kept.ite
    | exact rfl
    | with_reducible first | apply State.bump_kept | apply State.loseBlocks_kept | apply State.count_kept | apply State.tallyLose_kept | exact Kept.refl _ _ | apply Kept.foldl
    | (intro _; intros; try dsimp -zeta only)

theorem State.checkVersions_kept {ps : List Part} {s t : State} (a1 a2 a3 a4) (h : Kept ps s t) (hp : partsIn [.cmd, .cnt, .evt, .lay, .reg 7, .reg 13, .reg 20, .reg 21] ps = true) : Kept ps s (State.checkVersions t a1 a2 a3 a4).1 := by
  refine h.lift hp ?_
  clear h hp
  unfold State.checkVersions
  repeat' first
    | with_reducible assumption
    | (extract_lets +onlyGivenNames x; subst x)
    | exact rfl
    | with_reducible first | apply State.raiseLim_kept | apply State.placeAgain_kept | apply State.loseBlocks_kept | exact Kept.refl _ _ | apply Kept.foldl1
    | split
    | (intro _; intros; try dsimp -zeta only)

theorem State.checkVersions_kept_eq {ps : List Part} {s t u : State} {a1 a2 a3 a4} {x} (e : State.checkVersions t a1 a2 a3 a4 = (u, x)) (h : Kept ps s t) (hp : partsIn [.cmd, .cnt, .evt, .lay, .reg 7, .reg 13, .reg 20, .reg 21] ps = true) : Kept ps s u := by
  have k := State.checkVersions_kept (ps := ps) (s := s) (t := t) a1 a2 a3 a4 h hp
  rw [e] at k
  exact k

theorem State.readRow_kept {ps : List Part} {s t : State} (a1 a2) (h : Kept ps s t) (hp : partsIn [.cnt, .gch, .outbox, .reg 9, .reg 16, .reg 21] ps = true) : Kept ps s (State.readRow t a1 a2) := by
  refine h.lift hp ?_
  clear h hp
  unfold State.readRow
  repeat' first
    | with_reducible assumption
    | exact rfl
    | with_reducible first | apply State.readUnit_kept | apply State.cacheRead_kept | exact Kept.refl _ _ | apply Kept.foldl
    | (intro _; intros; try dsimp -zeta only)

theorem State.walkIssue_kept {ps : List Part} {s t : State} (a1) (h : Kept ps s t) (hp : partsIn [.axl, .cnt, .deferred, .evt, .fov, .gch, .lay, .outbox, .pwr, .reg 9, .reg 16, .reg 20, .reg 21] ps = true) : Kept ps s (State.walkIssue t a1) := by
  refine h.lift hp ?_
  clear h hp
  unfold State.walkIssue
  repeat' first
    | with_reducible assumption
    | (extract_lets +onlyGivenNames x; refine Kept.cut x ?_ ?_ <;> first | (intro hx; clear_value x) | (unfold x; clear x))
    | (extract_lets +onlyGivenNames x; subst x)
    | with_reducible apply Kept.ite
    | exact rfl
    | with_reducible first | apply State.readRow_kept | apply State.requestSet_kept | exact Kept.refl _ _
    | ((with_reducible refine Kept.build ?_ ?_ ?_ ?_); rotate_left; exact rfl; exact rfl; exact rfl; fail_if_success split)
    | split

theorem State.scrubIssue_kept {ps : List Part} {s t : State} (a1) (h : Kept ps s t) (hp : partsIn [.axl, .cnt, .gch, .outbox, .reg 9, .reg 16, .reg 21] ps = true) : Kept ps s (State.scrubIssue t a1) := by
  refine h.lift hp ?_
  clear h hp
  unfold State.scrubIssue
  repeat' first
    | with_reducible assumption
    | (extract_lets +onlyGivenNames x; refine Kept.cut x ?_ ?_ <;> first | (intro hx; clear_value x) | (unfold x; clear x))
    | (extract_lets +onlyGivenNames x; subst x)
    | with_reducible apply Kept.ite
    | exact rfl
    | with_reducible first | apply State.readRow_kept | apply State.count_kept | exact Kept.refl _ _
    | ((with_reducible refine Kept.build ?_ ?_ ?_ ?_); rotate_left; exact rfl; exact rfl; exact rfl; fail_if_success split)
    | split

theorem execWalkRowIssue_kept {ps : List Part} {s t : State} (a1 a2) (h : Kept ps s t) (hp : partsIn [.axl, .cnt, .deferred, .evt, .fov, .gch, .lay, .outbox, .pwr, .reg 9, .reg 16, .reg 20, .reg 21] ps = true) : KeptOut ps s (execWalkRowIssue a1 a2 t) := by
  refine KeptOut.lift h hp ?_
  clear h hp
  unfold execWalkRowIssue
  repeat' first
    | with_reducible apply Kept.ite
    | exact rfl
    | with_reducible first | apply State.walkIssue_kept | apply State.scrubIssue_kept | apply KeptOut.guard | exact Kept.refl _ _

theorem State.walkProgress_kept {ps : List Part} {s t : State} (a1 a2) (h : Kept ps s t) (hp : partsIn [.axl, .outbox] ps = true) : Kept ps s (State.walkProgress t a1 a2) := by
  refine h.lift hp ?_
  clear h hp
  unfold State.walkProgress
  repeat' first
    | (extract_lets +onlyGivenNames x; subst x)
    | with_reducible apply Kept.ite
    | exact rfl
    | with_reducible first | apply State.emit_kept | exact Kept.refl _ _
    | ((with_reducible refine Kept.build ?_ ?_ ?_ ?_); rotate_left; exact rfl; exact rfl; exact rfl; fail_if_success split)

theorem State.walkEnd_kept {ps : List Part} {s t : State} (a1) (h : Kept ps s t) (hp : partsIn [.axl, .deferred, .evt, .reg 20] ps = true) : Kept ps s (State.walkEnd t a1) := by
  refine h.lift hp ?_
  clear h hp
  unfold State.walkEnd
  repeat' first
    | with_reducible assumption
    | (extract_lets +onlyGivenNames x; refine Kept.cut x ?_ ?_ <;> first | (intro hx; clear_value x) | (unfold x; clear x))
    | (extract_lets +onlyGivenNames x; subst x)
    | with_reducible apply Kept.ite
    | exact rfl
    | with_reducible first | apply State.posTo_kept | apply State.raise_kept | exact Kept.refl _ _ | apply Kept.foldl
    | ((with_reducible refine Kept.build ?_ ?_ ?_ ?_); rotate_left; exact rfl; exact rfl; exact rfl; fail_if_success split)
    | split
    | (intro _; intros; try dsimp -zeta only)

theorem State.walkDone_kept {ps : List Part} {s t : State} (a1 a2 a3) (h : Kept ps s t) (hp : partsIn [.axl, .cmd, .cnt, .deferred, .evt, .lay, .outbox, .reg 7, .reg 13, .reg 15, .reg 16, .reg 20, .reg 21] ps = true) : Kept ps s (State.walkDone t a1 a2 a3) := by
  refine h.lift hp ?_
  clear h hp
  unfold State.walkDone
  repeat' first
    | with_reducible assumption
    | (extract_lets +onlyGivenNames x; refine Kept.cut x ?_ ?_ <;> first | (intro hx; clear_value x) | (unfold x; clear x))
    | (extract_lets +onlyGivenNames x; subst x)
    | with_reducible apply Kept.ite
    | exact rfl
    | with_reducible first | apply State.raiseLim_kept | apply State.writeUnit_kept | apply State.walkProgress_kept | apply State.walkEnd_kept | apply State.wr_kept | apply State.checkVersions_kept | apply State.modPos_kept | apply State.count_kept | apply State.loseColumns_kept | apply State.bumpWrap_kept | exact Kept.refl _ _ | apply Kept.foldl
    | ((with_reducible refine Kept.build ?_ ?_ ?_ ?_); rotate_left; exact rfl; exact rfl; exact rfl; fail_if_success split)
    | (intro _; intros; try dsimp -zeta only)

theorem State.scrubDone_kept {ps : List Part} {s t : State} (a1 a2 a3) (h : Kept ps s t) (hp : partsIn [.axl, .cmd, .cnt, .evt, .lay, .outbox, .reg 7, .reg 13, .reg 15, .reg 16, .reg 20, .reg 21] ps = true) : Kept ps s (State.scrubDone t a1 a2 a3) := by
  refine h.lift hp ?_
  clear h hp
  unfold State.scrubDone
  repeat' first
    | with_reducible assumption
    | (extract_lets +onlyGivenNames x; refine Kept.cut x ?_ ?_ <;> first | (intro hx; clear_value x) | (unfold x; clear x))
    | (extract_lets +onlyGivenNames x; subst x)
    | with_reducible apply Kept.ite
    | exact rfl
    | with_reducible first | apply State.bump_kept | apply State.writeUnit_kept | apply State.markDirty_kept | apply State.checkVersions_kept | apply State.raise_kept | apply State.count_kept | apply State.loseColumns_kept | exact Kept.refl _ _ | apply Kept.foldl
    | ((with_reducible refine Kept.build ?_ ?_ ?_ ?_); rotate_left; exact rfl; exact rfl; exact rfl; fail_if_success split)
    | split
    | (intro _; intros; try dsimp -zeta only)

theorem execWalkRowDone_kept {ps : List Part} {s t : State} (a1 a2 a3) (h : Kept ps s t) (hp : partsIn [.axl, .cmd, .cnt, .deferred, .evt, .lay, .outbox, .reg 7, .reg 13, .reg 15, .reg 16, .reg 20, .reg 21] ps = true) : KeptOut ps s (execWalkRowDone a1 a2 a3 t) := by
  refine KeptOut.lift h hp ?_
  clear h hp
  unfold execWalkRowDone
  repeat' first
    | with_reducible apply Kept.ite
    | exact rfl
    | with_reducible first | apply State.walkDone_kept | apply State.scrubDone_kept | apply KeptOut.guard | exact Kept.refl _ _
    | split

theorem State.joinSpares_kept {ps : List Part} {s t : State} (a1 a2) (h : Kept ps s t) (hp : partsIn [.axl, .drv, .lay, .outbox] ps = true) : Kept ps s (State.joinSpares t a1 a2) := by
  refine h.lift hp ?_
  clear h hp
  unfold State.joinSpares
  repeat' first
    | with_reducible assumption
    | (extract_lets +onlyGivenNames x; refine Kept.cut x ?_ ?_ <;> first | (intro hx; clear_value x) | (unfold x; clear x))
    | (extract_lets +onlyGivenNames x; subst x)
    | exact rfl
    | with_reducible first | apply State.modGrp_kept | apply State.mdWrite_kept | apply State.writeLabel_kept | exact Kept.refl _ _ | apply Kept.foldl
    | ((with_reducible refine Kept.build ?_ ?_ ?_ ?_); rotate_left; exact rfl; exact rfl; exact rfl; fail_if_success split)
    | (intro _; intros; try dsimp -zeta only)

theorem execReshapeStart_kept {ps : List Part} {s t : State} (a1 a2 a3 a4) (h : Kept ps s t) (hp : partsIn [.axl, .cnt, .deferred, .drv, .evt, .fov, .lay, .outbox, .pwr, .sep, .reg 13, .reg 15, .reg 19, .reg 20, .reg 21] ps = true) : KeptOut ps s (execReshapeStart a1 a2 a3 a4 t) := by
  refine KeptOut.lift h hp ?_
  clear h hp
  unfold execReshapeStart
  repeat' first
    | with_reducible assumption
    | (extract_lets +onlyGivenNames x; refine Kept.cut x ?_ ?_ <;> first | (intro hx; clear_value x) | (unfold x; clear x))
    | (extract_lets +onlyGivenNames x; subst x)
    | with_reducible apply Kept.ite
    | exact rfl
    | with_reducible first | apply State.axlStatus_kept | apply State.replyOk_kept | apply State.layStatus_kept | apply State.requestSet_kept | apply State.replyErr_kept | apply State.raise_kept | apply State.mdWrite_kept | apply State.ifActive_kept | apply State.admin_kept | apply State.joinSpares_kept | apply KeptOut.next | exact Kept.refl _ _
    | ((with_reducible refine Kept.build ?_ ?_ ?_ ?_); rotate_left; exact rfl; exact rfl; exact rfl; fail_if_success split)
    | split
    | (intro _; intros; try dsimp -zeta only)

theorem State.prepareStep_kept {ps : List Part} {s t : State} (h : Kept ps s t) (hp : partsIn [.axl, .evt, .lay, .reg 20] ps = true) : Kept ps s (State.prepareStep t) := by
  refine h.lift hp ?_
  clear h hp
  unfold State.prepareStep
  repeat' first
    | with_reducible assumption
    | (extract_lets +onlyGivenNames x; refine Kept.cut x ?_ ?_ <;> first | (intro hx; clear_value x) | (unfold x; clear x))
    | (extract_lets +onlyGivenNames x; subst x)
    | with_reducible apply Kept.ite
    | exact rfl
    | with_reducible first | apply State.modGrp_kept | apply State.raise_kept | exact Kept.refl _ _
    | ((with_reducible refine Kept.build ?_ ?_ ?_ ?_); rotate_left; exact rfl; exact rfl; exact rfl; fail_if_success split)
    | split

theorem execReshapeBatchDone_kept {ps : List Part} {s t : State} (h : Kept ps s t) (hp : partsIn [.axl, .cnt, .deferred, .outbox, .reg 21] ps = true) : KeptOut ps s (execReshapeBatchDone t) := by
  unfold execReshapeBatchDone
  refine KeptOut.next ?_
  split
  · exact h
  · extract_lets lo hi used dram asked b n p y x
    have hx : Kept ps s x := h.trans (Kept.mono (qs := [.axl]) (Kept.upds rfl rfl rfl) (within_trans rfl hp))
    clear_value x y n p b asked dram used hi lo
    exact Kept.ite h (State.defer_kept _ (State.emit_kept _ _ (State.count_kept _ _ _ hx (within_trans rfl hp)) (within_trans rfl hp)) (within_trans rfl hp))

theorem State.reshapeEnd_kept {ps : List Part} {s t : State} (a1) (h : Kept ps s t) (hp : partsIn [.axl, .evt, .lay, .reg 13, .reg 20] ps = true) : Kept ps s (State.reshapeEnd t a1) := by
  refine h.lift hp ?_
  clear h hp
  unfold State.reshapeEnd
  repeat' first
    | with_reducible assumption
    | (extract_lets +onlyGivenNames x; refine Kept.cut x ?_ ?_ <;> first | (intro hx; clear_value x) | (unfold x; clear x))
    | (extract_lets +onlyGivenNames x; subst x)
    | exact rfl
    | with_reducible first | apply State.modGrp_kept | apply State.layStatus_kept | apply State.raise_kept | apply State.mdWrite_kept | apply State.countLive_kept | exact Kept.refl _ _
    | ((with_reducible refine Kept.build ?_ ?_ ?_ ?_); rotate_left; exact rfl; exact rfl; exact rfl; fail_if_success split)

theorem State.moveBoundary_kept {ps : List Part} {s t : State} (a1 a2) (h : Kept ps s t) (hp : partsIn [.axl, .evt, .lay, .reg 13, .reg 20] ps = true) : Kept ps s (State.moveBoundary t a1 a2) := by
  refine h.lift hp ?_
  clear h hp
  unfold State.moveBoundary
  repeat' first
    | with_reducible assumption
    | (extract_lets +onlyGivenNames x; refine Kept.cut x ?_ ?_ <;> first | (intro hx; clear_value x) | (unfold x; clear x))
    | (extract_lets +onlyGivenNames x; subst x)
    | with_reducible apply Kept.ite
    | exact rfl
    | with_reducible first | apply State.reshapeEnd_kept | apply State.mdWrite_kept | apply State.countLive_kept | exact Kept.refl _ _
    | ((with_reducible refine Kept.build ?_ ?_ ?_ ?_); rotate_left; exact rfl; exact rfl; exact rfl; fail_if_success split)
    | split

theorem execReshapeCancel_kept {ps : List Part} {s t : State} (a1 a2) (h : Kept ps s t) (hp : partsIn [.axl, .cnt, .deferred, .evt, .lay, .outbox, .sep, .reg 15, .reg 19, .reg 20, .reg 21] ps = true) : KeptOut ps s (execReshapeCancel a1 a2 t) := by
  refine KeptOut.lift h hp ?_
  clear h hp
  unfold execReshapeCancel
  repeat' first
    | with_reducible assumption
    | (extract_lets +onlyGivenNames x; refine Kept.cut x ?_ ?_ <;> first | (intro hx; clear_value x) | (unfold x; clear x))
    | (extract_lets +onlyGivenNames x; subst x)
    | with_reducible apply Kept.ite
    | exact rfl
    | with_reducible first | apply State.axlStatus_kept | apply State.replyOk_kept | apply State.replyErr_kept | apply State.raise_kept | apply State.mdWrite_kept | apply State.ifActive_kept | apply State.admin_kept | apply KeptOut.next | exact Kept.refl _ _
    | ((with_reducible refine Kept.build ?_ ?_ ?_ ?_); rotate_left; exact rfl; exact rfl; exact rfl; fail_if_success split)
    | split
    | (intro _; intros; try dsimp -zeta only)

theorem execMemberFail_kept {ps : List Part} {s t : State} (a1 a2 a3) (h : Kept ps s t) (hp : partsIn [.cnt, .deferred, .evt, .outbox, .sep, .reg 19, .reg 21] ps = true) : KeptOut ps s (execMemberFail a1 a2 a3 t) := by
  refine KeptOut.lift h hp ?_
  clear h hp
  unfold execMemberFail
  repeat' first
    | with_reducible assumption
    | (extract_lets +onlyGivenNames x; subst x)
    | with_reducible apply Kept.ite
    | exact rfl
    | with_reducible first | apply State.posTo_kept | apply State.replyOk_kept | apply State.replyErr_kept | apply State.drvTo_kept | apply State.ifActive_kept | apply State.admin_kept | apply KeptOut.next | exact Kept.refl _ _
    | split
    | (intro _; intros; try dsimp -zeta only)

theorem State.drvStatus_kept {ps : List Part} {s t : State} (h : Kept ps s t) (hp : partsIn [.reg 16] ps = true) : Kept ps s (State.drvStatus t) := by
  refine h.lift hp ?_
  clear h hp
  unfold State.drvStatus
  repeat' first
    | with_reducible assumption
    | (extract_lets +onlyGivenNames x; refine Kept.cut x ?_ ?_ <;> first | (intro hx; clear_value x) | (unfold x; clear x))
    | (extract_lets +onlyGivenNames x; subst x)
    | exact rfl
    | with_reducible first | apply State.wr_kept | exact Kept.refl _ _ | apply Kept.foldIdx
    | (intro _; intros; try dsimp -zeta only)

theorem State.pcieError_kept {ps : List Part} {s t : State} (a1) (h : Kept ps s t) (hp : partsIn [.reg 16] ps = true) : Kept ps s (State.pcieError t a1) := by
  refine h.lift hp ?_
  clear h hp
  unfold State.pcieError
  repeat' first
    | (extract_lets +onlyGivenNames x; subst x)
    | exact rfl
    | with_reducible first | apply State.wr_kept | exact Kept.refl _ _

theorem execDrivePerstRelease_kept {ps : List Part} {s t : State} (a1) (h : Kept ps s t) (hp : partsIn [.deferred, .drv] ps = true) : KeptOut ps s (execDrivePerstRelease a1 t) := by
  refine KeptOut.lift h hp ?_
  clear h hp
  unfold execDrivePerstRelease
  repeat' first
    | (extract_lets +onlyGivenNames x; subst x)
    | with_reducible apply Kept.ite
    | exact rfl
    | with_reducible first | apply State.modSlot_kept | apply State.drvTo_kept | apply KeptOut.guard | exact Kept.refl _ _

theorem State.setupFail_kept {ps : List Part} {s t : State} (a1 a2) (h : Kept ps s t) (hp : partsIn [.deferred] ps = true) : Kept ps s (State.setupFail t a1 a2) := by
  refine h.lift hp ?_
  clear h hp
  unfold State.setupFail
  repeat' first
    | (extract_lets +onlyGivenNames x; subst x)
    | with_reducible apply Kept.ite
    | exact rfl
    | with_reducible first | apply State.drvTo_kept | exact Kept.refl _ _

theorem execDriveLinkUp_kept {ps : List Part} {s t : State} (a1 a2 a3) (h : Kept ps s t) (hp : partsIn [.deferred, .drv, .evt, .reg 20] ps = true) : KeptOut ps s (execDriveLinkUp a1 a2 a3 t) := by
  refine KeptOut.lift h hp ?_
  clear h hp
  unfold execDriveLinkUp
  repeat' first
    | (extract_lets +onlyGivenNames x; subst x)
    | with_reducible apply Kept.ite
    | exact rfl
    | with_reducible first | apply State.setupFail_kept | apply State.modSlot_kept | apply State.raise_kept | apply State.drvTo_kept | apply KeptOut.guard | exact Kept.refl _ _

theorem execDriveLinkTimeout_kept {ps : List Part} {s t : State} (a1) (h : Kept ps s t) (hp : partsIn [.deferred, .drv] ps = true) : KeptOut ps s (execDriveLinkTimeout a1 t) := by
  refine KeptOut.lift h hp ?_
  clear h hp
  unfold execDriveLinkTimeout
  repeat' first
    | (extract_lets +onlyGivenNames x; subst x)
    | with_reducible apply Kept.ite
    | exact rfl
    | with_reducible first | apply State.modSlot_kept | apply State.drvTo_kept | apply KeptOut.guard | exact Kept.refl _ _

theorem execDrivePerstRetryExpiry_kept {ps : List Part} {s t : State} (a1) (h : Kept ps s t) (hp : partsIn [.drv] ps = true) : KeptOut ps s (execDrivePerstRetryExpiry a1 t) := by
  refine KeptOut.lift h hp ?_
  clear h hp
  unfold execDrivePerstRetryExpiry
  repeat' first
    | (extract_lets +onlyGivenNames x; subst x)
    | with_reducible apply Kept.ite
    | exact rfl
    | with_reducible first | apply State.modSlot_kept | apply KeptOut.guard | exact Kept.refl _ _

theorem State.setRows_kept {ps : List Part} {s t : State} (a1) (h : Kept ps s t) (hp : partsIn [.lay, .reg 13] ps = true) : Kept ps s (State.setRows t a1) := by
  refine h.lift hp ?_
  clear h hp
  unfold State.setRows
  repeat' first
    | (extract_lets +onlyGivenNames x; subst x)
    | with_reducible apply Kept.ite
    | exact rfl
    | with_reducible first | apply State.modGrp_kept | apply State.layStatus_kept | exact Kept.refl _ _
    | split

theorem State.labelNew_kept {ps : List Part} {s t : State} (a1) (h : Kept ps s t) (hp : partsIn [.axl, .drv, .lay, .outbox] ps = true) : Kept ps s (State.labelNew t a1) := by
  refine h.lift hp ?_
  clear h hp
  unfold State.labelNew
  repeat' first
    | with_reducible assumption
    | (extract_lets +onlyGivenNames x; refine Kept.cut x ?_ ?_ <;> first | (intro hx; clear_value x) | (unfold x; clear x))
    | (extract_lets +onlyGivenNames x; subst x)
    | with_reducible apply Kept.ite
    | exact rfl
    | with_reducible first | apply State.modSlot_kept | apply State.mdWrite_kept | apply State.writeLabel_kept | apply State.modPos_kept | exact Kept.refl _ _
    | ((with_reducible refine Kept.build ?_ ?_ ?_ ?_); rotate_left; exact rfl; exact rfl; exact rfl; fail_if_success split)
    | split

theorem State.returnMember_kept {ps : List Part} {s t : State} (a1 a2 a3) (h : Kept ps s t) (hp : partsIn [.deferred, .drv] ps = true) : Kept ps s (State.returnMember t a1 a2 a3) := by
  refine h.lift hp ?_
  clear h hp
  unfold State.returnMember
  repeat' first
    | (extract_lets +onlyGivenNames x; subst x)
    | with_reducible apply Kept.ite
    | exact rfl
    | with_reducible first | apply State.posTo_kept | apply State.modSlot_kept | exact Kept.refl _ _
    | split

theorem State.accept_kept {ps : List Part} {s t : State} (a1 a2) (h : Kept ps s t) (hp : partsIn [.axl, .deferred, .drv, .lay, .outbox, .reg 13] ps = true) : Kept ps s (State.accept t a1 a2) := by
  refine h.lift hp ?_
  clear h hp
  unfold State.accept
  repeat' first
    | with_reducible assumption
    | (extract_lets +onlyGivenNames x; refine Kept.cut x ?_ ?_ <;> first | (intro hx; clear_value x) | (unfold x; clear x))
    | (extract_lets +onlyGivenNames x; subst x)
    | with_reducible apply Kept.ite
    | exact rfl
    | with_reducible first | apply State.posTo_kept | apply State.modSlot_kept | apply State.labelNew_kept | apply State.setRows_kept | apply State.drvTo_kept | apply State.returnMember_kept | exact Kept.refl _ _
    | split

theorem State.setupLabel_kept {ps : List Part} {s t : State} (a1 a2) (h : Kept ps s t) (hp : partsIn [.axl, .deferred, .drv, .lay, .outbox, .reg 13] ps = true) : Kept ps s (State.setupLabel t a1 a2) := by
  refine h.lift hp ?_
  clear h hp
  unfold State.setupLabel
  repeat' first
    | (extract_lets +onlyGivenNames x; subst x)
    | with_reducible apply Kept.ite
    | exact rfl
    | with_reducible first | apply State.setupFail_kept | apply State.modSlot_kept | apply State.drvTo_kept | apply State.accept_kept | exact Kept.refl _ _
    | split

theorem State.setupNext_kept {ps : List Part} {s t : State} (a1 a2) (h : Kept ps s t) (hp : partsIn [.drv, .outbox] ps = true) : Kept ps s (State.setupNext t a1 a2) := by
  refine h.lift hp ?_
  clear h hp
  unfold State.setupNext
  repeat' first
    | exact rfl
    | with_reducible first | apply State.modSlot_kept | apply State.emit_kept | exact Kept.refl _ _

theorem State.setupController_kept {ps : List Part} {s t : State} (a1 a2 a3 a4 a5 a6 a7 a8) (h : Kept ps s t) (hp : partsIn [.deferred, .drv, .outbox] ps = true) : Kept ps s (State.setupController t a1 a2 a3 a4 a5 a6 a7 a8) := by
  refine h.lift hp ?_
  clear h hp
  unfold State.setupController
  repeat' first
    | (extract_lets +onlyGivenNames x; subst x)
    | with_reducible apply Kept.ite
    | exact rfl
    | with_reducible first | apply State.setupFail_kept | apply State.modSlot_kept | apply State.setupNext_kept | exact Kept.refl _ _

theorem State.setupFormatStep_kept {ps : List Part} {s t : State} (a1 a2 a3 a4 a5) (h : Kept ps s t) (hp : partsIn [.deferred, .drv, .outbox] ps = true) : Kept ps s (State.setupFormatStep t a1 a2 a3 a4 a5) := by
  refine h.lift hp ?_
  clear h hp
  unfold State.setupFormatStep
  repeat' first
    | (extract_lets +onlyGivenNames x; subst x)
    | with_reducible apply Kept.ite
    | exact rfl
    | with_reducible first | apply State.setupFail_kept | apply State.modSlot_kept | apply State.setupNext_kept | apply State.emit_kept | exact Kept.refl _ _
    | split

theorem execDriveSetupStepDone_kept {ps : List Part} {s t : State} (a1 a2) (h : Kept ps s t) (hp : partsIn [.axl, .deferred, .drv, .lay, .outbox, .reg 13] ps = true) : KeptOut ps s (execDriveSetupStepDone a1 a2 t) := by
  refine KeptOut.lift h hp ?_
  clear h hp
  unfold execDriveSetupStepDone
  repeat' first
    | (extract_lets +onlyGivenNames x; subst x)
    | with_reducible apply Kept.ite
    | exact rfl
    | with_reducible first | apply State.setupController_kept | apply State.setupFail_kept | apply State.modSlot_kept | apply State.setupLabel_kept | apply State.drvTo_kept | apply State.setupFormatStep_kept | apply State.setupNext_kept | apply KeptOut.guard | exact Kept.refl _ _
    | split

theorem execDriveFormatDone_kept {ps : List Part} {s t : State} (a1 a2) (h : Kept ps s t) (hp : partsIn [.deferred, .drv, .outbox] ps = true) : KeptOut ps s (execDriveFormatDone a1 a2 t) := by
  refine KeptOut.lift h hp ?_
  clear h hp
  unfold execDriveFormatDone
  repeat' first
    | (extract_lets +onlyGivenNames x; subst x)
    | with_reducible apply Kept.ite
    | exact rfl
    | with_reducible first | apply State.setupFail_kept | apply State.setupNext_kept | apply KeptOut.guard | exact Kept.refl _ _

theorem execDriveReadyTimeout_kept {ps : List Part} {s t : State} (a1) (h : Kept ps s t) (hp : partsIn [.deferred] ps = true) : KeptOut ps s (execDriveReadyTimeout a1 t) := by
  refine KeptOut.lift h hp ?_
  clear h hp
  unfold execDriveReadyTimeout
  repeat' first
    | (extract_lets +onlyGivenNames x; subst x)
    | with_reducible apply Kept.ite
    | exact rfl
    | with_reducible first | apply State.setupFail_kept | apply KeptOut.guard | exact Kept.refl _ _

theorem execDriveRelease_kept {ps : List Part} {s t : State} (a1 a2 a3) (h : Kept ps s t) (hp : partsIn [.cnt, .deferred, .drv, .evt, .outbox, .sep, .reg 19, .reg 21] ps = true) : KeptOut ps s (execDriveRelease a1 a2 a3 t) := by
  refine KeptOut.lift h hp ?_
  clear h hp
  unfold execDriveRelease
  repeat' first
    | with_reducible assumption
    | (extract_lets +onlyGivenNames x; subst x)
    | with_reducible apply Kept.ite
    | exact rfl
    | with_reducible first | apply State.replyOk_kept | apply State.modSlot_kept | apply State.replyErr_kept | apply State.drvTo_kept | apply State.admin_kept | apply KeptOut.next | exact Kept.refl _ _
    | (intro _; intros; try dsimp -zeta only)

theorem State.sendHealth_kept {ps : List Part} {s t : State} (a1 a2 a3) (h : Kept ps s t) (hp : partsIn [.outbox] ps = true) : Kept ps s (State.sendHealth t a1 a2 a3) := by
  refine h.lift hp ?_
  clear h hp
  unfold State.sendHealth
  repeat' first
    | exact rfl
    | with_reducible first | apply State.emit_kept | exact Kept.refl _ _

theorem State.memberCause_kept {ps : List Part} {s t : State} (a1 a2 a3) (h : Kept ps s t) (hp : partsIn [.deferred, .drv, .evt, .outbox, .reg 20] ps = true) : Kept ps s (State.memberCause t a1 a2 a3) := by
  refine h.lift hp ?_
  clear h hp
  unfold State.memberCause
  repeat' first
    | with_reducible assumption
    | (extract_lets +onlyGivenNames x; refine Kept.cut x ?_ ?_ <;> first | (intro hx; clear_value x) | (unfold x; clear x))
    | with_reducible apply Kept.ite
    | exact rfl
    | with_reducible first | apply State.enterLadder_kept | apply State.sendHealth_kept | apply State.raise_kept | exact Kept.refl _ _

theorem execDriveInboundViolation_kept {ps : List Part} {s t : State} (a1) (h : Kept ps s t) (hp : partsIn [.deferred, .drv, .evt, .outbox, .reg 16, .reg 20] ps = true) : KeptOut ps s (execDriveInboundViolation a1 t) := by
  refine KeptOut.lift h hp ?_
  clear h hp
  unfold execDriveInboundViolation
  repeat' first
    | exact rfl
    | with_reducible first | apply State.pcieError_kept | apply State.memberCause_kept | apply KeptOut.guard | exact Kept.refl _ _

theorem execDriveBadTlp_kept {ps : List Part} {s t : State} (a1) (h : Kept ps s t) (hp : partsIn [.deferred, .drv, .evt, .outbox, .reg 16, .reg 20] ps = true) : KeptOut ps s (execDriveBadTlp a1 t) := by
  refine KeptOut.lift h hp ?_
  clear h hp
  unfold execDriveBadTlp
  repeat' first
    | exact rfl
    | with_reducible first | apply State.pcieError_kept | apply State.memberCause_kept | apply KeptOut.guard | exact Kept.refl _ _

theorem execDriveCompletionTimeout_kept {ps : List Part} {s t : State} (a1) (h : Kept ps s t) (hp : partsIn [.deferred, .drv, .evt, .outbox, .reg 16, .reg 20] ps = true) : KeptOut ps s (execDriveCompletionTimeout a1 t) := by
  refine KeptOut.lift h hp ?_
  clear h hp
  unfold execDriveCompletionTimeout
  repeat' first
    | exact rfl
    | with_reducible first | apply State.pcieError_kept | apply State.memberCause_kept | apply KeptOut.guard | exact Kept.refl _ _

theorem execDriveLinkDown_kept {ps : List Part} {s t : State} (a1) (h : Kept ps s t) (hp : partsIn [.deferred, .drv, .evt, .outbox, .reg 20] ps = true) : KeptOut ps s (execDriveLinkDown a1 t) := by
  refine KeptOut.lift h hp ?_
  clear h hp
  unfold execDriveLinkDown
  repeat' first
    | with_reducible apply Kept.ite
    | exact rfl
    | with_reducible first | apply State.modSlot_kept | apply State.memberCause_kept | apply KeptOut.guard | exact Kept.refl _ _

theorem execMemberCommandTimeout_kept {ps : List Part} {s t : State} (a1 a2) (h : Kept ps s t) (hp : partsIn [.deferred, .drv, .evt, .outbox, .reg 16, .reg 20] ps = true) : KeptOut ps s (execMemberCommandTimeout a1 a2 t) := by
  refine KeptOut.lift h hp ?_
  clear h hp
  unfold execMemberCommandTimeout
  repeat' first
    | (extract_lets +onlyGivenNames x; subst x)
    | with_reducible apply Kept.ite
    | exact rfl
    | with_reducible first | apply State.bump_kept | apply State.setupFail_kept | apply State.memberCause_kept | apply State.emit_kept | apply KeptOut.guard | exact Kept.refl _ _
    | split

theorem State.healthFail_kept {ps : List Part} {s t : State} (a1) (h : Kept ps s t) (hp : partsIn [.deferred] ps = true) : Kept ps s (State.healthFail t a1) := by
  refine h.lift hp ?_
  clear h hp
  unfold State.healthFail
  repeat' first
    | with_reducible apply Kept.ite
    | exact rfl
    | with_reducible first | apply State.posTo_kept | apply State.drvTo_kept | exact Kept.refl _ _
    | split

theorem State.healthRead_kept {ps : List Part} {s t : State} (a1 a2 a3) (h : Kept ps s t) (hp : partsIn [.deferred, .drv, .evt, .outbox, .reg 20] ps = true) : Kept ps s (State.healthRead t a1 a2 a3) := by
  refine h.lift hp ?_
  clear h hp
  unfold State.healthRead
  repeat' first
    | with_reducible assumption
    | (extract_lets +onlyGivenNames x; refine Kept.cut x ?_ ?_ <;> first | (intro hx; clear_value x) | (unfold x; clear x))
    | (extract_lets +onlyGivenNames x; subst x)
    | with_reducible apply Kept.ite
    | exact rfl
    | with_reducible first | apply State.sendHealth_kept | apply State.modSlot_kept | apply State.raise_kept | apply State.healthFail_kept | exact Kept.refl _ _

theorem execSmartPoll_kept {ps : List Part} {s t : State} (a1 a2 a3 a4) (h : Kept ps s t) (hp : partsIn [.deferred, .drv, .evt, .outbox, .reg 20] ps = true) : KeptOut ps s (execSmartPoll a1 a2 a3 a4 t) := by
  refine KeptOut.lift h hp ?_
  clear h hp
  unfold execSmartPoll
  repeat' first
    | with_reducible apply Kept.ite
    | exact rfl
    | with_reducible first | apply State.modSlot_kept | apply State.healthRead_kept | apply KeptOut.guard | exact Kept.refl _ _

theorem execDriveAsyncEvent_kept {ps : List Part} {s t : State} (a1 a2 a3) (h : Kept ps s t) (hp : partsIn [.deferred, .drv, .evt, .outbox, .reg 20] ps = true) : KeptOut ps s (execDriveAsyncEvent a1 a2 a3 t) := by
  refine KeptOut.lift h hp ?_
  clear h hp
  unfold execDriveAsyncEvent
  repeat' first
    | with_reducible apply Kept.ite
    | exact rfl
    | with_reducible first | apply State.healthRead_kept | apply KeptOut.guard | exact Kept.refl _ _

theorem execCstsPoll_kept {ps : List Part} {s t : State} (a1 a2) (h : Kept ps s t) (hp : partsIn [.deferred, .drv, .evt, .outbox, .reg 20] ps = true) : KeptOut ps s (execCstsPoll a1 a2 t) := by
  refine KeptOut.lift h hp ?_
  clear h hp
  unfold execCstsPoll
  repeat' first
    | (extract_lets +onlyGivenNames x; subst x)
    | with_reducible apply Kept.ite
    | exact rfl
    | with_reducible first | apply State.sendHealth_kept | apply State.memberCause_kept | apply KeptOut.guard | exact Kept.refl _ _

theorem execMemberAbortDone_kept {ps : List Part} {s t : State} (a1) (h : Kept ps s t) (hp : partsIn [.deferred] ps = true) : KeptOut ps s (execMemberAbortDone a1 t) := by
  refine KeptOut.lift h hp ?_
  clear h hp
  unfold execMemberAbortDone
  repeat' first
    | with_reducible apply Kept.ite
    | exact rfl
    | with_reducible first | apply State.drvTo_kept | apply KeptOut.guard | exact Kept.refl _ _

theorem execLadderStepTimeout_kept {ps : List Part} {s t : State} (a1) (h : Kept ps s t) (hp : partsIn [.deferred] ps = true) : KeptOut ps s (execLadderStepTimeout a1 t) := by
  refine KeptOut.lift h hp ?_
  clear h hp
  unfold execLadderStepTimeout
  repeat' first
    | (extract_lets +onlyGivenNames x; subst x)
    | with_reducible apply Kept.ite
    | exact rfl
    | with_reducible first | apply State.drvTo_kept | apply KeptOut.guard | exact Kept.refl _ _

theorem State.driveLostPower_kept {ps : List Part} {s t : State} (a1 a2) (h : Kept ps s t) (hp : partsIn [.deferred, .drv, .evt, .outbox, .reg 20] ps = true) : Kept ps s (State.driveLostPower t a1 a2) := by
  refine h.lift hp ?_
  clear h hp
  unfold State.driveLostPower
  repeat' first
    | with_reducible apply Kept.ite
    | exact rfl
    | with_reducible first | apply State.drvTo_kept | apply State.memberCause_kept | exact Kept.refl _ _
    | split

theorem execSlotPresentDebounced_kept {ps : List Part} {s t : State} (a1) (h : Kept ps s t) (hp : partsIn [.pwr] ps = true) : KeptOut ps s (execSlotPresentDebounced a1 t) := by
  refine KeptOut.lift h hp ?_
  clear h hp
  unfold execSlotPresentDebounced
  repeat' first
    | with_reducible apply Kept.ite
    | exact rfl
    | with_reducible first | apply State.modChan_kept | apply KeptOut.guard | exact Kept.refl _ _

theorem execSlotRemoved_kept {ps : List Part} {s t : State} (a1) (h : Kept ps s t) (hp : partsIn [.cnt, .deferred, .drv, .evt, .pwr, .reg 17, .reg 20, .reg 21] ps = true) : KeptOut ps s (execSlotRemoved a1 t) := by
  refine KeptOut.lift h hp ?_
  clear h hp
  unfold execSlotRemoved
  repeat' first
    | (extract_lets +onlyGivenNames x; subst x)
    | with_reducible apply Kept.ite
    | exact rfl
    | with_reducible first | apply State.posTo_kept | apply State.modChan_kept | apply State.wr_kept | apply State.gateOff_kept | apply State.drvTo_kept | apply State.count_kept | apply KeptOut.guard | exact Kept.refl _ _
    | split

theorem execInsertDelayExpiry_kept {ps : List Part} {s t : State} (a1) (h : Kept ps s t) (hp : partsIn [.deferred, .evt, .pwr, .reg 20] ps = true) : KeptOut ps s (execInsertDelayExpiry a1 t) := by
  refine KeptOut.lift h hp ?_
  clear h hp
  unfold execInsertDelayExpiry
  repeat' first
    | (extract_lets +onlyGivenNames x; subst x)
    | with_reducible apply Kept.ite
    | exact rfl
    | with_reducible first | apply State.chanIdle_kept | apply State.modChan_kept | apply State.drvTo_kept | apply KeptOut.guard | exact Kept.refl _ _

theorem execSlotChannelStart_kept {ps : List Part} {s t : State} (a1) (h : Kept ps s t) (hp : partsIn [.pwr] ps = true) : KeptOut ps s (execSlotChannelStart a1 t) := by
  refine KeptOut.lift h hp ?_
  clear h hp
  unfold execSlotChannelStart
  repeat' first
    | with_reducible apply Kept.ite
    | exact rfl
    | with_reducible first | apply State.modChan_kept | apply KeptOut.guard | exact Kept.refl _ _

theorem execSlotPowerGood_kept {ps : List Part} {s t : State} (a1) (h : Kept ps s t) (hp : partsIn [.cnt, .drv, .evt, .outbox, .pwr, .reg 20, .reg 21] ps = true) : KeptOut ps s (execSlotPowerGood a1 t) := by
  refine KeptOut.lift h hp ?_
  clear h hp
  unfold execSlotPowerGood
  repeat' first
    | (extract_lets +onlyGivenNames x; subst x)
    | with_reducible apply Kept.ite
    | exact rfl
    | with_reducible first | apply State.modChan_kept | apply State.modSlot_kept | apply State.raise_kept | apply State.startStop_kept | apply State.count_kept | apply KeptOut.guard | exact Kept.refl _ _

theorem State.slotFault_kept {ps : List Part} {s t : State} (a1 a2) (h : Kept ps s t) (hp : partsIn [.cnt, .deferred, .drv, .evt, .outbox, .pwr, .reg 17, .reg 20, .reg 21] ps = true) : Kept ps s (State.slotFault t a1 a2) := by
  refine h.lift hp ?_
  clear h hp
  unfold State.slotFault
  repeat' first
    | with_reducible assumption
    | (extract_lets +onlyGivenNames x; refine Kept.cut x ?_ ?_ <;> first | (intro hx; clear_value x) | (unfold x; clear x))
    | (extract_lets +onlyGivenNames x; subst x)
    | exact rfl
    | with_reducible first | apply State.modChan_kept | apply State.wr_kept | apply State.gateOff_kept | apply State.raise_kept | apply State.driveLostPower_kept | apply State.count_kept | exact Kept.refl _ _

theorem State.inputFail_kept {ps : List Part} {s t : State} (a1 a2) (h : Kept ps s t) (hp : partsIn [.deferred, .drv, .evt, .outbox, .pwr, .reg 20] ps = true) : Kept ps s (State.inputFail t a1 a2) := by
  refine h.lift hp ?_
  clear h hp
  unfold State.inputFail
  repeat' first
    | with_reducible assumption
    | (extract_lets +onlyGivenNames x; refine Kept.cut x ?_ ?_ <;> first | (intro hx; clear_value x) | (unfold x; clear x))
    | with_reducible apply Kept.ite
    | exact rfl
    | with_reducible first | apply State.chanIdle_kept | apply State.modChan_kept | apply State.gateOff_kept | apply State.raise_kept | apply State.driveLostPower_kept | exact Kept.refl _ _

theorem State.feedOff_kept {ps : List Part} {s t : State} (a1 a2) (h : Kept ps s t) (hp : partsIn [.pwr] ps = true) : Kept ps s (State.feedOff t a1 a2) := by
  refine h.lift hp ?_
  clear h hp
  unfold State.feedOff
  repeat' first
    | exact rfl
    | with_reducible first | apply State.modFeed_kept | exact Kept.refl _ _

theorem State.assertWarning_kept {ps : List Part} {s t : State} (h : Kept ps s t) (hp : partsIn [.cfg, .cmd, .cnt, .deferred, .evt, .fov, .outbox, .pwr, .sep, .reg 1, .reg 7, .reg 17, .reg 19, .reg 20, .reg 21] ps = true) : Kept ps s (State.assertWarning t) := by
  refine h.lift hp ?_
  clear h hp
  unfold State.assertWarning
  repeat' first
    | with_reducible assumption
    | (extract_lets +onlyGivenNames x; refine Kept.cut x ?_ ?_ <;> first | (intro hx; clear_value x) | (unfold x; clear x))
    | (extract_lets +onlyGivenNames x; subst x)
    | with_reducible apply Kept.ite
    | exact rfl
    | with_reducible first | apply State.bump_kept | apply State.abandonActivation_kept | apply State.raise_kept | apply State.count_kept | apply State.emit_kept | exact Kept.refl _ _
    | ((with_reducible refine Kept.build ?_ ?_ ?_ ?_); rotate_left; exact rfl; exact rfl; exact rfl; fail_if_success split)

theorem State.failureTransfer_kept {ps : List Part} {s t : State} (a1 a2) (h : Kept ps s t) (hp : partsIn [.cfg, .cmd, .cnt, .deferred, .evt, .fov, .outbox, .pwr, .sep, .reg 1, .reg 7, .reg 17, .reg 19, .reg 20, .reg 21] ps = true) : Kept ps s (State.failureTransfer t a1 a2) := by
  refine h.lift hp ?_
  clear h hp
  unfold State.failureTransfer
  repeat' first
    | with_reducible assumption
    | (extract_lets +onlyGivenNames x; refine Kept.cut x ?_ ?_ <;> first | (intro hx; clear_value x) | (unfold x; clear x))
    | (extract_lets +onlyGivenNames x; subst x)
    | exact rfl
    | with_reducible first | apply State.assertWarning_kept | apply State.wr_kept | apply State.modFeed_kept | apply State.feedOff_kept | apply State.raise_kept | apply State.count_kept | exact Kept.refl _ _
    | ((with_reducible refine Kept.build ?_ ?_ ?_ ?_); rotate_left; exact rfl; exact rfl; exact rfl; fail_if_success split)

theorem State.feedFault_kept {ps : List Part} {s t : State} (a1 a2) (h : Kept ps s t) (hp : partsIn [.cfg, .cmd, .cnt, .deferred, .evt, .fov, .outbox, .pwr, .sep, .reg 1, .reg 7, .reg 17, .reg 19, .reg 20, .reg 21] ps = true) : Kept ps s (State.feedFault t a1 a2) := by
  refine h.lift hp ?_
  clear h hp
  unfold State.feedFault
  repeat' first
    | with_reducible assumption
    | (extract_lets +onlyGivenNames x; refine Kept.cut x ?_ ?_ <;> first | (intro hx; clear_value x) | (unfold x; clear x))
    | (extract_lets +onlyGivenNames x; subst x)
    | with_reducible apply Kept.ite
    | exact rfl
    | with_reducible first | apply State.failureTransfer_kept | apply State.wr_kept | apply State.modFeed_kept | apply State.feedOff_kept | apply State.raise_kept | exact Kept.refl _ _
    | ((with_reducible refine Kept.build ?_ ?_ ?_ ?_); rotate_left; exact rfl; exact rfl; exact rfl; fail_if_success split)

theorem execFaultTimerExpiry_kept {ps : List Part} {s t : State} (a1) (h : Kept ps s t) (hp : partsIn [.cfg, .cmd, .cnt, .deferred, .drv, .evt, .fov, .outbox, .pwr, .sep, .reg 1, .reg 7, .reg 17, .reg 19, .reg 20, .reg 21] ps = true) : KeptOut ps s (execFaultTimerExpiry a1 t) := by
  refine KeptOut.lift h hp ?_
  clear h hp
  unfold execFaultTimerExpiry
  repeat' first
    | (extract_lets +onlyGivenNames x; subst x)
    | with_reducible apply Kept.ite
    | exact rfl
    | with_reducible first | apply State.feedFault_kept | apply State.slotFault_kept | apply KeptOut.next | apply KeptOut.guard | apply KeptOut.fault | exact Kept.refl _ _
    | split

theorem execEfuseTrip_kept {ps : List Part} {s t : State} (a1) (h : Kept ps s t) (hp : partsIn [.cfg, .cmd, .cnt, .deferred, .drv, .evt, .fov, .outbox, .pwr, .sep, .reg 1, .reg 7, .reg 17, .reg 19, .reg 20, .reg 21] ps = true) : KeptOut ps s (execEfuseTrip a1 t) := by
  refine KeptOut.lift h hp ?_
  clear h hp
  unfold execEfuseTrip
  repeat' first
    | (extract_lets +onlyGivenNames x; subst x)
    | with_reducible apply Kept.ite
    | exact rfl
    | with_reducible first | apply State.feedFault_kept | apply State.slotFault_kept | apply State.count_kept | apply KeptOut.next | apply KeptOut.guard | apply KeptOut.fault | exact Kept.refl _ _
    | split

theorem execSlotOutputUv_kept {ps : List Part} {s t : State} (a1) (h : Kept ps s t) (hp : partsIn [.cnt, .deferred, .drv, .evt, .outbox, .pwr, .reg 17, .reg 20, .reg 21] ps = true) : KeptOut ps s (execSlotOutputUv a1 t) := by
  refine KeptOut.lift h hp ?_
  clear h hp
  unfold execSlotOutputUv
  repeat' first
    | (extract_lets +onlyGivenNames x; subst x)
    | with_reducible apply Kept.ite
    | exact rfl
    | with_reducible first | apply State.slotFault_kept | apply KeptOut.guard | exact Kept.refl _ _

theorem execSlotInputOutOfWindow_kept {ps : List Part} {s t : State} (a1 a2) (h : Kept ps s t) (hp : partsIn [.deferred, .drv, .evt, .outbox, .pwr, .reg 20] ps = true) : KeptOut ps s (execSlotInputOutOfWindow a1 a2 t) := by
  refine KeptOut.lift h hp ?_
  clear h hp
  unfold execSlotInputOutOfWindow
  repeat' first
    | (extract_lets +onlyGivenNames x; subst x)
    | with_reducible apply Kept.ite
    | exact rfl
    | with_reducible first | apply State.inputFail_kept | apply KeptOut.guard | exact Kept.refl _ _

theorem execBrownoutHoldStart_kept {ps : List Part} {s t : State} (a1) (h : Kept ps s t) (hp : partsIn [.cnt, .pwr, .reg 21] ps = true) : KeptOut ps s (execBrownoutHoldStart a1 t) := by
  refine KeptOut.lift h hp ?_
  clear h hp
  unfold execBrownoutHoldStart
  repeat' first
    | (extract_lets +onlyGivenNames x; subst x)
    | with_reducible apply Kept.ite
    | exact rfl
    | with_reducible first | apply State.modChan_kept | apply State.count_kept | apply KeptOut.guard | exact Kept.refl _ _

theorem execBrownoutHoldExpiry_kept {ps : List Part} {s t : State} (a1 a2) (h : Kept ps s t) (hp : partsIn [.deferred, .drv, .evt, .outbox, .pwr, .reg 20] ps = true) : KeptOut ps s (execBrownoutHoldExpiry a1 a2 t) := by
  refine KeptOut.lift h hp ?_
  clear h hp
  unfold execBrownoutHoldExpiry
  repeat' first
    | (extract_lets +onlyGivenNames x; subst x)
    | with_reducible apply Kept.ite
    | exact rfl
    | with_reducible first | apply State.modChan_kept | apply State.inputFail_kept | apply KeptOut.guard | exact Kept.refl _ _

theorem State.feedSelect_kept {ps : List Part} {s t : State} (h : Kept ps s t) (hp : partsIn [.cnt, .evt, .pwr, .reg 20, .reg 21] ps = true) : Kept ps s (State.feedSelect t) := by
  refine h.lift hp ?_
  clear h hp
  unfold State.feedSelect
  repeat' first
    | with_reducible assumption
    | (extract_lets +onlyGivenNames x; refine Kept.cut x ?_ ?_ <;> first | (intro hx; clear_value x) | (unfold x; clear x))
    | (extract_lets +onlyGivenNames x; subst x)
    | with_reducible apply Kept.ite
    | exact rfl
    | with_reducible first | apply State.modFeed_kept | apply State.feedOff_kept | apply State.raise_kept | apply State.count_kept | exact Kept.refl _ _
    | ((with_reducible refine Kept.build ?_ ?_ ?_ ?_); rotate_left; exact rfl; exact rfl; exact rfl; fail_if_success split)
    | split

theorem execRetryDelayExpiry_kept {ps : List Part} {s t : State} (a1) (h : Kept ps s t) (hp : partsIn [.deferred, .evt, .pwr, .reg 20] ps = true) : KeptOut ps s (execRetryDelayExpiry a1 t) := by
  refine KeptOut.lift h hp ?_
  clear h hp
  unfold execRetryDelayExpiry
  repeat' first
    | (extract_lets +onlyGivenNames x; subst x)
    | with_reducible apply Kept.ite
    | exact rfl
    | with_reducible first | apply State.chanIdle_kept | apply State.modChan_kept | apply State.modFeed_kept | apply State.drvTo_kept | apply KeptOut.next | apply KeptOut.guard | apply KeptOut.fault | exact Kept.refl _ _
    | split

theorem execRetryCountClearExpiry_kept {ps : List Part} {s t : State} (a1) (h : Kept ps s t) (hp : partsIn [.pwr] ps = true) : KeptOut ps s (execRetryCountClearExpiry a1 t) := by
  refine KeptOut.lift h hp ?_
  clear h hp
  unfold execRetryCountClearExpiry
  repeat' first
    | (extract_lets +onlyGivenNames x; subst x)
    | with_reducible apply Kept.ite
    | exact rfl
    | with_reducible first | apply State.modChan_kept | apply State.modFeed_kept | apply KeptOut.next | apply KeptOut.guard | apply KeptOut.fault | exact Kept.refl _ _
    | split

theorem execSlotClear_kept {ps : List Part} {s t : State} (a1 a2) (h : Kept ps s t) (hp : partsIn [.deferred, .evt, .pwr, .reg 20] ps = true) : KeptOut ps s (execSlotClear a1 a2 t) := by
  refine KeptOut.lift h hp ?_
  clear h hp
  unfold execSlotClear
  repeat' first
    | (extract_lets +onlyGivenNames x; subst x)
    | with_reducible apply Kept.ite
    | exact rfl
    | with_reducible first | apply State.modChan_kept | apply State.defer_kept | apply State.drvTo_kept | apply State.acts_kept | apply KeptOut.guard | exact Kept.refl _ _

theorem State.slotCleared_kept {ps : List Part} {s t : State} (a1) (h : Kept ps s t) (hp : partsIn [.evt, .pwr, .reg 20] ps = true) : Kept ps s (State.slotCleared t a1) := by
  refine h.lift hp ?_
  clear h hp
  unfold State.slotCleared
  repeat' first
    | with_reducible assumption
    | (extract_lets +onlyGivenNames x; refine Kept.cut x ?_ ?_ <;> first | (intro hx; clear_value x) | (unfold x; clear x))
    | with_reducible apply Kept.ite
    | exact rfl
    | with_reducible first | apply State.chanIdle_kept | apply State.modChan_kept | exact Kept.refl _ _

theorem execSlotCycle_kept {ps : List Part} {s t : State} (a1 a2) (h : Kept ps s t) (hp : partsIn [.deferred, .drv, .evt, .fov, .outbox, .pwr, .reg 20] ps = true) : KeptOut ps s (execSlotCycle a1 a2 t) := by
  refine KeptOut.lift h hp ?_
  clear h hp
  unfold execSlotCycle
  repeat' first
    | (extract_lets +onlyGivenNames x; subst x)
    | with_reducible apply Kept.ite
    | exact rfl
    | with_reducible first | apply State.drvTo_kept | apply State.violation_kept | apply State.beginCycle_kept | apply State.up_kept | apply KeptOut.guard | exact Kept.refl _ _
    | split

theorem execSlotCycleExpiry_kept {ps : List Part} {s t : State} (a1) (h : Kept ps s t) (hp : partsIn [.deferred, .evt, .fov, .outbox, .pwr, .reg 20] ps = true) : KeptOut ps s (execSlotCycleExpiry a1 t) := by
  refine KeptOut.lift h hp ?_
  clear h hp
  unfold execSlotCycleExpiry
  repeat' first
    | with_reducible apply Kept.ite
    | exact rfl
    | with_reducible first | apply State.modChan_kept | apply State.updateDemand_kept | apply KeptOut.guard | exact Kept.refl _ _

theorem execSlotPeakClear_kept {ps : List Part} {s t : State} (a1 a2) (h : Kept ps s t) (hp : partsIn [.deferred, .evt, .reg 20] ps = true) : KeptOut ps s (execSlotPeakClear a1 a2 t) := by
  refine KeptOut.lift h hp ?_
  clear h hp
  unfold execSlotPeakClear
  repeat' first
    | exact rfl
    | with_reducible first | apply State.defer_kept | apply State.acts_kept | apply KeptOut.guard | exact Kept.refl _ _

theorem State.finishStop_kept {ps : List Part} {s t : State} (a1) (h : Kept ps s t) (hp : partsIn [.deferred, .drv, .evt, .pwr, .reg 20] ps = true) : Kept ps s (State.finishStop t a1) := by
  refine h.lift hp ?_
  clear h hp
  unfold State.finishStop
  repeat' first
    | with_reducible assumption
    | (extract_lets +onlyGivenNames x; refine Kept.cut x ?_ ?_ <;> first | (intro hx; clear_value x) | (unfold x; clear x))
    | with_reducible apply Kept.ite
    | exact rfl
    | with_reducible first | apply State.gateOff_kept | apply State.drvTo_kept | exact Kept.refl _ _

theorem execSlotShutdownDone_kept {ps : List Part} {s t : State} (a1) (h : Kept ps s t) (hp : partsIn [.deferred, .drv, .evt, .fov, .outbox, .pwr, .reg 20] ps = true) : KeptOut ps s (execSlotShutdownDone a1 t) := by
  refine KeptOut.lift h hp ?_
  clear h hp
  unfold execSlotShutdownDone
  repeat' first
    | (extract_lets +onlyGivenNames x; subst x)
    | with_reducible apply Kept.ite
    | exact rfl
    | with_reducible first | apply State.finishStop_kept | apply State.modChan_kept | apply State.sendDemand_kept | apply State.beginCycle_kept | apply State.emit_kept | apply KeptOut.guard | exact Kept.refl _ _

theorem execSlotStopAckTimeout_kept {ps : List Part} {s t : State} (a1) (h : Kept ps s t) (hp : partsIn [.deferred, .drv, .evt, .pwr, .reg 20] ps = true) : KeptOut ps s (execSlotStopAckTimeout a1 t) := by
  refine KeptOut.lift h hp ?_
  clear h hp
  unfold execSlotStopAckTimeout
  repeat' first
    | with_reducible apply Kept.ite
    | exact rfl
    | with_reducible first | apply State.finishStop_kept | apply KeptOut.guard | exact Kept.refl _ _

theorem execSlotHeldCheck_kept {ps : List Part} {s t : State} (a1 a2) (h : Kept ps s t) (hp : partsIn [.evt, .pwr, .reg 20] ps = true) : KeptOut ps s (execSlotHeldCheck a1 a2 t) := by
  refine KeptOut.lift h hp ?_
  clear h hp
  unfold execSlotHeldCheck
  repeat' first
    | (extract_lets +onlyGivenNames x; subst x)
    | with_reducible apply Kept.ite
    | exact rfl
    | with_reducible first | apply State.modChan_kept | apply State.raise_kept | apply KeptOut.guard | exact Kept.refl _ _

theorem execSlotDischargeCheck_kept {ps : List Part} {s t : State} (a1 a2 a3) (h : Kept ps s t) (hp : partsIn [.evt, .pwr, .reg 20] ps = true) : KeptOut ps s (execSlotDischargeCheck a1 a2 a3 t) := by
  refine KeptOut.lift h hp ?_
  clear h hp
  unfold execSlotDischargeCheck
  repeat' first
    | (extract_lets +onlyGivenNames x; subst x)
    | with_reducible apply Kept.ite
    | exact rfl
    | with_reducible first | apply State.modChan_kept | apply State.raise_kept | apply KeptOut.guard | exact Kept.refl _ _

theorem execFeedPresentDebounced_kept {ps : List Part} {s t : State} (a1) (h : Kept ps s t) (hp : partsIn [.pwr] ps = true) : KeptOut ps s (execFeedPresentDebounced a1 t) := by
  refine KeptOut.lift h hp ?_
  clear h hp
  unfold execFeedPresentDebounced
  repeat' first
    | with_reducible apply Kept.ite
    | exact rfl
    | with_reducible first | apply State.modFeed_kept | apply KeptOut.guard | exact Kept.refl _ _

theorem State.feedAvailable_kept {ps : List Part} {s t : State} (a1) (h : Kept ps s t) (hp : partsIn [.cnt, .evt, .pwr, .reg 20, .reg 21] ps = true) : Kept ps s (State.feedAvailable t a1) := by
  refine h.lift hp ?_
  clear h hp
  unfold State.feedAvailable
  repeat' first
    | exact rfl
    | with_reducible first | apply State.modFeed_kept | apply State.feedSelect_kept | exact Kept.refl _ _

theorem execFeedInsertDelayExpiry_kept {ps : List Part} {s t : State} (a1) (h : Kept ps s t) (hp : partsIn [.cnt, .evt, .pwr, .reg 20, .reg 21] ps = true) : KeptOut ps s (execFeedInsertDelayExpiry a1 t) := by
  refine KeptOut.lift h hp ?_
  clear h hp
  unfold execFeedInsertDelayExpiry
  repeat' first
    | (extract_lets +onlyGivenNames x; subst x)
    | with_reducible apply Kept.ite
    | exact rfl
    | with_reducible first | apply State.feedAvailable_kept | apply State.modFeed_kept | apply KeptOut.guard | exact Kept.refl _ _

theorem execFeedReturnHoldExpiry_kept {ps : List Part} {s t : State} (a1) (h : Kept ps s t) (hp : partsIn [.cnt, .evt, .pwr, .reg 20, .reg 21] ps = true) : KeptOut ps s (execFeedReturnHoldExpiry a1 t) := by
  refine KeptOut.lift h hp ?_
  clear h hp
  unfold execFeedReturnHoldExpiry
  repeat' first
    | (extract_lets +onlyGivenNames x; subst x)
    | with_reducible apply Kept.ite
    | exact rfl
    | with_reducible first | apply State.feedAvailable_kept | apply KeptOut.guard | exact Kept.refl _ _

theorem State.feedPulled_kept {ps : List Part} {s t : State} (a1) (h : Kept ps s t) (hp : partsIn [.pwr] ps = true) : Kept ps s (State.feedPulled t a1) := by
  refine h.lift hp ?_
  clear h hp
  unfold State.feedPulled
  repeat' first
    | exact rfl
    | with_reducible first | apply State.modFeed_kept | apply State.feedOff_kept | exact Kept.refl _ _

theorem execFeedFailureTransfer_kept {ps : List Part} {s t : State} (a1) (h : Kept ps s t) (hp : partsIn [.cfg, .cmd, .cnt, .deferred, .evt, .fov, .outbox, .pwr, .sep, .reg 1, .reg 7, .reg 17, .reg 19, .reg 20, .reg 21] ps = true) : KeptOut ps s (execFeedFailureTransfer a1 t) := by
  refine KeptOut.lift h hp ?_
  clear h hp
  unfold execFeedFailureTransfer
  repeat' first
    | with_reducible assumption
    | (extract_lets +onlyGivenNames x; refine Kept.cut x ?_ ?_ <;> first | (intro hx; clear_value x) | (unfold x; clear x))
    | with_reducible apply Kept.ite
    | exact rfl
    | with_reducible first | apply State.feedPulled_kept | apply State.failureTransfer_kept | apply KeptOut.next | exact Kept.refl _ _
    | split

theorem execFeedDeadTimeExpiry_kept {ps : List Part} {s t : State} (h : Kept ps s t) (hp : partsIn [.cnt, .evt, .pwr, .reg 20, .reg 21] ps = true) : KeptOut ps s (execFeedDeadTimeExpiry t) := by
  refine KeptOut.lift h hp ?_
  clear h hp
  unfold execFeedDeadTimeExpiry
  repeat' first
    | (extract_lets +onlyGivenNames x; subst x)
    | with_reducible apply Kept.ite
    | exact rfl
    | with_reducible first | apply State.feedSelect_kept | apply KeptOut.next | exact Kept.refl _ _
    | ((with_reducible refine Kept.build ?_ ?_ ?_ ?_); rotate_left; exact rfl; exact rfl; exact rfl; fail_if_success split)

theorem execFeedPowerGood_kept {ps : List Part} {s t : State} (a1) (h : Kept ps s t) (hp : partsIn [.cnt, .evt, .pwr, .reg 20, .reg 21] ps = true) : KeptOut ps s (execFeedPowerGood a1 t) := by
  refine KeptOut.lift h hp ?_
  clear h hp
  unfold execFeedPowerGood
  repeat' first
    | (extract_lets +onlyGivenNames x; subst x)
    | with_reducible apply Kept.ite
    | exact rfl
    | with_reducible first | apply State.modFeed_kept | apply State.feedSelect_kept | apply KeptOut.guard | exact Kept.refl _ _
    | ((with_reducible refine Kept.build ?_ ?_ ?_ ?_); rotate_left; exact rfl; exact rfl; exact rfl; fail_if_success split)

theorem execFeedInputOutOfWindow_kept {ps : List Part} {s t : State} (a1) (h : Kept ps s t) (hp : partsIn [.pwr] ps = true) : KeptOut ps s (execFeedInputOutOfWindow a1 t) := by
  refine KeptOut.lift h hp ?_
  clear h hp
  unfold execFeedInputOutOfWindow
  repeat' first
    | with_reducible apply Kept.ite
    | exact rfl
    | with_reducible first | apply State.modFeed_kept | apply KeptOut.guard | exact Kept.refl _ _

theorem execFeedRemoved_kept {ps : List Part} {s t : State} (a1) (h : Kept ps s t) (hp : partsIn [.pwr] ps = true) : KeptOut ps s (execFeedRemoved a1 t) := by
  refine KeptOut.lift h hp ?_
  clear h hp
  unfold execFeedRemoved
  repeat' first
    | (extract_lets +onlyGivenNames x; subst x)
    | exact rfl
    | with_reducible first | apply State.feedPulled_kept | apply KeptOut.guard | exact Kept.refl _ _
    | ((with_reducible refine Kept.build ?_ ?_ ?_ ?_); rotate_left; exact rfl; exact rfl; exact rfl; fail_if_success split)
    | split

theorem execSupplyWarningAssert_kept {ps : List Part} {s t : State} (h : Kept ps s t) (hp : partsIn [.cfg, .cmd, .cnt, .deferred, .evt, .fov, .outbox, .pwr, .sep, .reg 1, .reg 7, .reg 17, .reg 19, .reg 20, .reg 21] ps = true) : KeptOut ps s (execSupplyWarningAssert t) := by
  refine KeptOut.lift h hp ?_
  clear h hp
  unfold execSupplyWarningAssert
  repeat' first
    | with_reducible apply Kept.ite
    | exact rfl
    | with_reducible first | apply State.assertWarning_kept | apply KeptOut.next | exact Kept.refl _ _

theorem execSupplyWarningRelease_kept {ps : List Part} {s t : State} (h : Kept ps s t) (hp : partsIn [.evt, .outbox, .pwr, .reg 20] ps = true) : KeptOut ps s (execSupplyWarningRelease t) := by
  refine KeptOut.lift h hp ?_
  clear h hp
  unfold execSupplyWarningRelease
  repeat' first
    | with_reducible assumption
    | (extract_lets +onlyGivenNames x; refine Kept.cut x ?_ ?_ <;> first | (intro hx; clear_value x) | (unfold x; clear x))
    | (extract_lets +onlyGivenNames x; subst x)
    | with_reducible apply Kept.ite
    | exact rfl
    | with_reducible first | apply State.raise_kept | apply State.emit_kept | exact Kept.refl _ _
    | ((with_reducible refine Kept.build ?_ ?_ ?_ ?_); rotate_left; exact rfl; exact rfl; exact rfl; fail_if_success split)

theorem State.takeSample_kept {ps : List Part} {s t : State} (a1) (h : Kept ps s t) (hp : partsIn [.pwr] ps = true) : Kept ps s (State.takeSample t a1) := by
  refine h.lift hp ?_
  clear h hp
  unfold State.takeSample
  repeat' first
    | with_reducible assumption
    | (extract_lets +onlyGivenNames x; refine Kept.cut x ?_ ?_ <;> first | (intro hx; clear_value x) | (unfold x; clear x))
    | (extract_lets +onlyGivenNames x; subst x)
    | with_reducible apply Kept.ite
    | exact rfl
    | with_reducible first | apply State.modChan_kept | apply State.modFeed_kept | exact Kept.refl _ _
    | ((with_reducible refine Kept.build ?_ ?_ ?_ ?_); rotate_left; exact rfl; exact rfl; exact rfl; fail_if_success split)

theorem State.endDip_kept {ps : List Part} {s t : State} (a1) (h : Kept ps s t) (hp : partsIn [.pwr] ps = true) : Kept ps s (State.endDip t a1) := by
  refine h.lift hp ?_
  clear h hp
  unfold State.endDip
  repeat' first
    | (extract_lets +onlyGivenNames x; subst x)
    | with_reducible apply Kept.ite
    | exact rfl
    | with_reducible first | apply State.modChan_kept | exact Kept.refl _ _

theorem State.pwrStatus_kept {ps : List Part} {s t : State} (h : Kept ps s t) (hp : partsIn [.reg 17] ps = true) : Kept ps s (State.pwrStatus t) := by
  refine h.lift hp ?_
  clear h hp
  unfold State.pwrStatus
  repeat' first
    | with_reducible assumption
    | (extract_lets +onlyGivenNames x; refine Kept.cut x ?_ ?_ <;> first | (intro hx; clear_value x) | (unfold x; clear x))
    | (extract_lets +onlyGivenNames x; subst x)
    | exact rfl
    | with_reducible first | apply State.wr_kept | exact Kept.refl _ _ | apply Kept.foldIdx
    | (intro _; intros; try dsimp -zeta only)

end Sys2Proof.Machine
end

