-- ==== Sys2Proof/Laws/KeptE.lean ====
section
/-!
SUPPORT. Laws/KeptE.lean: one lemma per function: what it keeps of the state it is given (failover, the endpoint, counters, registers and the Turn boundary).
-/

namespace Sys2Proof.Machine

theorem State.challenge_kept {ps : List Part} {s t : State} (a1) (h : Kept ps s t) (hp : partsIn [.free, .outbox] ps = true) : Kept ps s (State.challenge t a1).2 := by
  refine h.lift hp ?_
  clear h hp
  unfold State.challenge
  repeat' first
    | exact rfl
    | with_reducible first | apply State.draw_kept | apply State.pawnSend_kept | exact Kept.refl _ _

theorem State.challenge_kept_eq {ps : List Part} {s t u : State} {a1} {x} (e : State.challenge t a1 = (x, u)) (h : Kept ps s t) (hp : partsIn [.free, .outbox] ps = true) : Kept ps s u := by
  have k := State.challenge_kept (ps := ps) (s := s) (t := t) a1 h hp
  rw [e] at k
  exact k

theorem State.disconnect_kept {ps : List Part} {s t : State} (a1) (h : Kept ps s t) (hp : partsIn [.cmd, .cmp, .cnt, .evt, .fsp, .outbox, .win, .xpt, .reg 4, .reg 7, .reg 20, .reg 21] ps = true) : Kept ps s (State.disconnect t a1) := by
  refine h.lift hp ?_
  clear h hp
  unfold State.disconnect
  repeat' first
    | exact rfl
    | with_reducible first | apply State.drainQp_kept | apply State.emit_kept | exact Kept.refl _ _
    | split

theorem State.startProof_kept {ps : List Part} {s t : State} (a1) (h : Kept ps s t) (hp : partsIn [.fov, .free, .outbox] ps = true) : Kept ps s (State.startProof t a1) := by
  refine h.lift hp ?_
  clear h hp
  unfold State.startProof
  repeat' first
    | exact rfl
    | with_reducible first | apply State.challenge_kept | apply State.modWit_kept | exact Kept.refl _ _

theorem State.connectWitness_kept {ps : List Part} {s t : State} (a1) (h : Kept ps s t) (hp : partsIn [.evt, .fov, .free, .outbox, .sch, .xpt, .reg 4, .reg 5, .reg 6, .reg 9, .reg 20] ps = true) : Kept ps s (State.connectWitness t a1) := by
  refine h.lift hp ?_
  clear h hp
  unfold State.connectWitness
  repeat' first
    | with_reducible apply Kept.ite
    | exact rfl
    | with_reducible first | apply State.startProof_kept | apply State.connectOut_kept | apply State.modWit_kept | exact Kept.refl _ _
    | split

theorem State.witnessDown_kept {ps : List Part} {s t : State} (a1) (h : Kept ps s t) (hp : partsIn [.fov] ps = true) : Kept ps s (State.witnessDown t a1) := by
  refine h.lift hp ?_
  clear h hp
  unfold State.witnessDown
  repeat' first
    | exact rfl
    | with_reducible first | apply State.modWit_kept | exact Kept.refl _ _

theorem State.witnessStep_kept {ps : List Part} {s t : State} (a1) (h : Kept ps s t) (hp : partsIn [.evt, .fov, .free, .outbox, .sch, .xpt, .reg 4, .reg 5, .reg 6, .reg 9, .reg 20] ps = true) : Kept ps s (State.witnessStep t a1) := by
  refine h.lift hp ?_
  clear h hp
  unfold State.witnessStep
  repeat' first
    | (extract_lets +onlyGivenNames x; subst x)
    | with_reducible apply Kept.ite
    | exact rfl
    | with_reducible first | apply State.startProof_kept | apply State.connectWitness_kept | apply State.witnessDown_kept | apply State.modWit_kept | exact Kept.refl _ _
    | split

theorem State.sendProof_kept {ps : List Part} {s t : State} (a1 a2) (h : Kept ps s t) (hp : partsIn [.outbox] ps = true) : Kept ps s (State.sendProof t a1 a2) := by
  refine h.lift hp ?_
  clear h hp
  unfold State.sendProof
  repeat' first
    | (extract_lets +onlyGivenNames x; subst x)
    | exact rfl
    | with_reducible first | apply State.emit_kept | exact Kept.refl _ _

theorem State.modServed_kept {ps : List Part} {s t : State} (a1 a2) (h : Kept ps s t) (hp : partsIn [.fov] ps = true) : Kept ps s (State.modServed t a1 a2) := by
  refine h.lift hp ?_
  clear h hp
  unfold State.modServed
  repeat' first
    | (extract_lets +onlyGivenNames x; subst x)
    | with_reducible exact Kept.refl _ _
    | ((with_reducible refine Kept.build ?_ ?_ ?_ ?_); rotate_left; exact rfl; exact rfl; exact rfl; fail_if_success split)

theorem execPawnChallengeRx_kept {ps : List Part} {s t : State} (a1 a2) (h : Kept ps s t) (hp : partsIn [.fov, .free, .outbox] ps = true) : KeptOut ps s (execPawnChallengeRx a1 a2 t) := by
  refine KeptOut.lift h hp ?_
  clear h hp
  unfold execPawnChallengeRx
  repeat' first
    | with_reducible assumption
    | (extract_lets +onlyGivenNames x; refine Kept.cut x ?_ ?_ <;> first | (intro hx; clear_value x) | (unfold x; clear x))
    | (extract_lets +onlyGivenNames x; subst x)
    | with_reducible apply Kept.ite
    | exact rfl
    | with_reducible first | apply State.modServed_kept | apply State.challenge_kept | apply State.sendProof_kept | exact Kept.refl _ _
    | split

theorem State.proofFailed_kept {ps : List Part} {s t : State} (a1) (h : Kept ps s t) (hp : partsIn [.cmd, .cmp, .cnt, .evt, .fov, .fsp, .outbox, .win, .xpt, .reg 4, .reg 7, .reg 18, .reg 20, .reg 21] ps = true) : Kept ps s (State.proofFailed t a1) := by
  refine h.lift hp ?_
  clear h hp
  unfold State.proofFailed
  repeat' first
    | with_reducible assumption
    | (extract_lets +onlyGivenNames x; refine Kept.cut x ?_ ?_ <;> first | (intro hx; clear_value x) | (unfold x; clear x))
    | exact rfl
    | with_reducible first | apply State.modServed_kept | apply State.disconnect_kept | apply State.wr_kept | apply State.raise_kept | apply State.witnessDown_kept | apply State.modWit_kept | exact Kept.refl _ _
    | split

theorem State.sendRequest_kept {ps : List Part} {s t : State} (a1) (h : Kept ps s t) (hp : partsIn [.fov, .outbox] ps = true) : Kept ps s (State.sendRequest t a1) := by
  refine h.lift hp ?_
  clear h hp
  unfold State.sendRequest
  repeat' first
    | with_reducible assumption
    | (extract_lets +onlyGivenNames x; refine Kept.cut x ?_ ?_ <;> first | (intro hx; clear_value x) | (unfold x; clear x))
    | (extract_lets +onlyGivenNames x; subst x)
    | with_reducible apply Kept.ite
    | exact rfl
    | with_reducible first | apply State.pawnSend_kept | apply State.modWit_kept | exact Kept.refl _ _
    | ((with_reducible refine Kept.build ?_ ?_ ?_ ?_); rotate_left; exact rfl; exact rfl; exact rfl; fail_if_success split)

theorem execPawnProofRx_kept {ps : List Part} {s t : State} (a1 a2 a3) (h : Kept ps s t) (hp : partsIn [.cmd, .cmp, .cnt, .evt, .fov, .fsp, .outbox, .win, .xpt, .reg 4, .reg 7, .reg 18, .reg 20, .reg 21] ps = true) : KeptOut ps s (execPawnProofRx a1 a2 a3 t) := by
  refine KeptOut.lift h hp ?_
  clear h hp
  unfold execPawnProofRx
  repeat' first
    | with_reducible assumption
    | (extract_lets +onlyGivenNames x; refine Kept.cut x ?_ ?_ <;> first | (intro hx; clear_value x) | (unfold x; clear x))
    | (extract_lets +onlyGivenNames x; subst x)
    | with_reducible apply Kept.ite
    | exact rfl
    | with_reducible first | apply State.modServed_kept | apply State.proofFailed_kept | apply State.sendRequest_kept | apply State.modWit_kept | apply KeptOut.next | exact Kept.refl _ _
    | split

theorem execWitnessProofTimeout_kept {ps : List Part} {s t : State} (a1) (h : Kept ps s t) (hp : partsIn [.cmd, .cmp, .cnt, .evt, .fov, .fsp, .outbox, .win, .xpt, .reg 4, .reg 7, .reg 18, .reg 20, .reg 21] ps = true) : KeptOut ps s (execWitnessProofTimeout a1 t) := by
  refine KeptOut.lift h hp ?_
  clear h hp
  unfold execWitnessProofTimeout
  repeat' first
    | with_reducible apply Kept.ite
    | exact rfl
    | with_reducible first | apply State.proofFailed_kept | apply KeptOut.next | exact Kept.refl _ _
    | split

theorem execWitnessRetryExpiry_kept {ps : List Part} {s t : State} (a1) (h : Kept ps s t) (hp : partsIn [.evt, .fov, .free, .outbox, .sch, .xpt, .reg 4, .reg 5, .reg 6, .reg 9, .reg 20] ps = true) : KeptOut ps s (execWitnessRetryExpiry a1 t) := by
  refine KeptOut.lift h hp ?_
  clear h hp
  unfold execWitnessRetryExpiry
  repeat' first
    | with_reducible apply Kept.ite
    | exact rfl
    | with_reducible first | apply State.connectWitness_kept | apply KeptOut.guard | exact Kept.refl _ _

theorem execWitnessConnectionLost_kept {ps : List Part} {s t : State} (a1) (h : Kept ps s t) (hp : partsIn [.evt, .fov, .reg 20] ps = true) : KeptOut ps s (execWitnessConnectionLost a1 t) := by
  refine KeptOut.lift h hp ?_
  clear h hp
  unfold execWitnessConnectionLost
  repeat' first
    | with_reducible apply Kept.ite
    | exact rfl
    | with_reducible first | apply State.raise_kept | apply State.witnessDown_kept | apply KeptOut.guard | exact Kept.refl _ _

theorem State.startRequesting_kept {ps : List Part} {s t : State} (h : Kept ps s t) (hp : partsIn [.fov, .outbox] ps = true) : Kept ps s (State.startRequesting t) := by
  refine h.lift hp ?_
  clear h hp
  unfold State.startRequesting
  repeat' first
    | with_reducible assumption
    | (extract_lets +onlyGivenNames x; refine Kept.cut x ?_ ?_ <;> first | (intro hx; clear_value x) | (unfold x; clear x))
    | (extract_lets +onlyGivenNames x; subst x)
    | with_reducible apply Kept.ite
    | exact rfl
    | with_reducible first | apply State.sendRequest_kept | exact Kept.refl _ _ | apply Kept.foldIdx
    | ((with_reducible refine Kept.build ?_ ?_ ?_ ?_); rotate_left; exact rfl; exact rfl; exact rfl; fail_if_success split)
    | (intro _; intros; try dsimp -zeta only)

theorem State.takeoverSetup_kept {ps : List Part} {s t : State} (h : Kept ps s t) (hp : partsIn [.axl, .deferred, .drv, .evt, .lay, .outbox, .reg 15, .reg 20] ps = true) : Kept ps s (State.takeoverSetup t) := by
  refine h.lift hp ?_
  clear h hp
  unfold State.takeoverSetup
  repeat' first
    | with_reducible assumption
    | (extract_lets +onlyGivenNames x; subst x)
    | with_reducible apply Kept.ite
    | exact rfl
    | with_reducible first | apply State.applyPos_kept | apply State.setupNext_kept | exact Kept.refl _ _ | apply Kept.foldIdx
    | split
    | (intro _; intros; try dsimp -zeta only)

theorem State.startTakeover_kept {ps : List Part} {s t : State} (h : Kept ps s t) (hp : partsIn [.axl, .cmd, .deferred, .drv, .evt, .fov, .lay, .outbox, .pwr, .reg 7, .reg 15, .reg 18, .reg 20] ps = true) : Kept ps s (State.startTakeover t) := by
  refine h.lift hp ?_
  clear h hp
  unfold State.startTakeover
  repeat' first
    | with_reducible assumption
    | (extract_lets +onlyGivenNames x; refine Kept.cut x ?_ ?_ <;> first | (intro hx; clear_value x) | (unfold x; clear x))
    | (extract_lets +onlyGivenNames x; subst x)
    | with_reducible apply Kept.ite
    | exact rfl
    | with_reducible first | apply State.wr_kept | apply State.requestSet_kept | apply State.raise_kept | apply State.takeoverSetup_kept | apply State.setAna_kept | exact Kept.refl _ _ | apply Kept.foldl
    | ((with_reducible refine Kept.build ?_ ?_ ?_ ?_); rotate_left; exact rfl; exact rfl; exact rfl; fail_if_success split)
    | (intro _; intros; try dsimp -zeta only)

theorem execPawnGrantRx_kept {ps : List Part} {s t : State} (a1 a2) (h : Kept ps s t) (hp : partsIn [.axl, .cmd, .cnt, .deferred, .drv, .evt, .fov, .lay, .outbox, .pwr, .reg 7, .reg 15, .reg 18, .reg 20, .reg 21] ps = true) : KeptOut ps s (execPawnGrantRx a1 a2 t) := by
  refine KeptOut.lift h hp ?_
  clear h hp
  unfold execPawnGrantRx
  repeat' first
    | with_reducible assumption
    | (extract_lets +onlyGivenNames x; refine Kept.cut x ?_ ?_ <;> first | (intro hx; clear_value x) | (unfold x; clear x))
    | (extract_lets +onlyGivenNames x; subst x)
    | with_reducible apply Kept.ite
    | exact rfl
    | with_reducible first | apply State.raise_kept | apply State.modWit_kept | apply State.count_kept | apply State.startTakeover_kept | apply KeptOut.guard | exact Kept.refl _ _
    | ((with_reducible refine Kept.build ?_ ?_ ?_ ?_); rotate_left; exact rfl; exact rfl; exact rfl; fail_if_success split)
    | split

theorem execPawnDenyRx_kept {ps : List Part} {s t : State} (a1 a2) (h : Kept ps s t) (hp : partsIn [.fov] ps = true) : KeptOut ps s (execPawnDenyRx a1 a2 t) := by
  refine KeptOut.lift h hp ?_
  clear h hp
  unfold execPawnDenyRx
  repeat' first
    | (extract_lets +onlyGivenNames x; subst x)
    | with_reducible apply Kept.ite
    | exact rfl
    | with_reducible first | apply State.modWit_kept | apply KeptOut.guard | exact Kept.refl _ _

theorem execDenyWaitExpiry_kept {ps : List Part} {s t : State} (a1) (h : Kept ps s t) (hp : partsIn [.fov, .outbox] ps = true) : KeptOut ps s (execDenyWaitExpiry a1 t) := by
  refine KeptOut.lift h hp ?_
  clear h hp
  unfold execDenyWaitExpiry
  repeat' first
    | (extract_lets +onlyGivenNames x; subst x)
    | with_reducible apply Kept.ite
    | exact rfl
    | with_reducible first | apply State.sendRequest_kept | apply State.modWit_kept | apply KeptOut.guard | exact Kept.refl _ _
    | split

theorem execPawnRenewTimer_kept {ps : List Part} {s t : State} (h : Kept ps s t) (hp : partsIn [.fov, .outbox] ps = true) : KeptOut ps s (execPawnRenewTimer t) := by
  refine KeptOut.lift h hp ?_
  clear h hp
  unfold execPawnRenewTimer
  repeat' first
    | with_reducible assumption
    | (extract_lets +onlyGivenNames x; subst x)
    | with_reducible apply Kept.ite
    | exact rfl
    | with_reducible first | apply State.sendRequest_kept | apply KeptOut.next | exact Kept.refl _ _ | apply Kept.foldIdx
    | ((with_reducible refine Kept.build ?_ ?_ ?_ ?_); rotate_left; exact rfl; exact rfl; exact rfl; fail_if_success split)
    | split
    | (intro _; intros; try dsimp -zeta only)

theorem State.minority_kept {ps : List Part} {s t : State} (h : Kept ps s t) (hp : partsIn [.fov, .free, .outbox] ps = true) : Kept ps s (State.minority t) := by
  refine h.lift hp ?_
  clear h hp
  unfold State.minority
  repeat' first
    | with_reducible assumption
    | (extract_lets +onlyGivenNames x; refine Kept.cut x ?_ ?_ <;> first | (intro hx; clear_value x) | (unfold x; clear x))
    | exact rfl
    | with_reducible first | apply State.draw_kept | apply State.sendRelease_kept | exact Kept.refl _ _
    | ((with_reducible refine Kept.build ?_ ?_ ?_ ?_); rotate_left; exact rfl; exact rfl; exact rfl; fail_if_success split)

theorem execPawnResendExpiry_kept {ps : List Part} {s t : State} (a1) (h : Kept ps s t) (hp : partsIn [.fov, .free, .outbox] ps = true) : KeptOut ps s (execPawnResendExpiry a1 t) := by
  refine KeptOut.lift h hp ?_
  clear h hp
  unfold execPawnResendExpiry
  repeat' first
    | (extract_lets +onlyGivenNames x; subst x)
    | with_reducible apply Kept.ite
    | exact rfl
    | with_reducible first | apply State.minority_kept | apply State.sendRequest_kept | apply KeptOut.guard | exact Kept.refl _ _
    | split

theorem execMinorityBackoffExpiry_kept {ps : List Part} {s t : State} (h : Kept ps s t) (hp : partsIn [.fov, .outbox] ps = true) : KeptOut ps s (execMinorityBackoffExpiry t) := by
  refine KeptOut.lift h hp ?_
  clear h hp
  unfold execMinorityBackoffExpiry
  repeat' first
    | (extract_lets +onlyGivenNames x; subst x)
    | with_reducible apply Kept.ite
    | exact rfl
    | with_reducible first | apply State.startRequesting_kept | apply KeptOut.next | exact Kept.refl _ _
    | ((with_reducible refine Kept.build ?_ ?_ ?_ ?_); rotate_left; exact rfl; exact rfl; exact rfl; fail_if_success split)
    | split

theorem State.takeoverLost_kept {ps : List Part} {s t : State} (h : Kept ps s t) (hp : partsIn [.cmd, .deferred, .evt, .fov, .outbox, .pwr, .reg 7, .reg 20] ps = true) : Kept ps s (State.takeoverLost t) := by
  refine h.lift hp ?_
  clear h hp
  unfold State.takeoverLost
  repeat' first
    | with_reducible assumption
    | (extract_lets +onlyGivenNames x; refine Kept.cut x ?_ ?_ <;> first | (intro hx; clear_value x) | (unfold x; clear x))
    | (extract_lets +onlyGivenNames x; subst x)
    | with_reducible apply Kept.ite
    | exact rfl
    | with_reducible first | apply State.updateDemand_kept | apply State.setAna_kept | exact Kept.refl _ _
    | ((with_reducible refine Kept.build ?_ ?_ ?_ ?_); rotate_left; exact rfl; exact rfl; exact rfl; fail_if_success split)

theorem State.pawnCutoff_kept {ps : List Part} {s t : State} (h : Kept ps s t) (hp : partsIn [.axl, .cfg, .cmd, .cmp, .cnt, .cph, .deferred, .drv, .evt, .fov, .fsp, .jnl, .lay, .outbox, .pwr, .sep, .win, .reg 1, .reg 7, .reg 18, .reg 19, .reg 20, .reg 21] ps = true) : Kept ps s (State.pawnCutoff t) := by
  refine h.lift hp ?_
  clear h hp
  unfold State.pawnCutoff
  repeat' first
    | with_reducible assumption
    | (extract_lets +onlyGivenNames x; refine Kept.cut x ?_ ?_ <;> first | (intro hx; clear_value x) | (unfold x; clear x))
    | (extract_lets +onlyGivenNames x; subst x)
    | with_reducible apply Kept.ite
    | exact rfl
    | with_reducible first | apply State.takeoverLost_kept | apply State.depose_kept | apply State.abandonActivation_kept | exact Kept.refl _ _
    | ((with_reducible refine Kept.build ?_ ?_ ?_ ?_); rotate_left; exact rfl; exact rfl; exact rfl; fail_if_success split)

theorem execPawnCutoff_kept {ps : List Part} {s t : State} (h : Kept ps s t) (hp : partsIn [.axl, .cfg, .cmd, .cmp, .cnt, .cph, .deferred, .drv, .evt, .fov, .fsp, .jnl, .lay, .outbox, .pwr, .sep, .win, .reg 1, .reg 7, .reg 18, .reg 19, .reg 20, .reg 21] ps = true) : KeptOut ps s (execPawnCutoff t) := by
  refine KeptOut.lift h hp ?_
  clear h hp
  unfold execPawnCutoff
  repeat' first
    | exact rfl
    | with_reducible first | apply State.pawnCutoff_kept | apply KeptOut.next | exact Kept.refl _ _

theorem execPawnExpiry_kept {ps : List Part} {s t : State} (h : Kept ps s t) (hp : partsIn [.axl, .cfg, .cmd, .cmp, .cnt, .cph, .deferred, .drv, .evt, .fov, .fsp, .jnl, .lay, .outbox, .pwr, .sep, .win, .reg 1, .reg 7, .reg 18, .reg 19, .reg 20, .reg 21] ps = true) : KeptOut ps s (execPawnExpiry t) := by
  refine KeptOut.lift h hp ?_
  clear h hp
  unfold execPawnExpiry
  repeat' first
    | (extract_lets +onlyGivenNames x; subst x)
    | with_reducible apply Kept.ite
    | exact rfl
    | with_reducible first | apply State.pawnCutoff_kept | apply KeptOut.next | exact Kept.refl _ _
    | ((with_reducible refine Kept.build ?_ ?_ ?_ ?_); rotate_left; exact rfl; exact rfl; exact rfl; fail_if_success split)

theorem State.deny_kept {ps : List Part} {s t : State} (a1 a2 a3 a4 a5) (h : Kept ps s t) (hp : partsIn [.outbox] ps = true) : Kept ps s (State.deny t a1 a2 a3 a4 a5) := by
  refine h.lift hp ?_
  clear h hp
  unfold State.deny
  repeat' first
    | (extract_lets +onlyGivenNames x; subst x)
    | exact rfl
    | with_reducible first | apply State.pawnSend_kept | exact Kept.refl _ _

theorem State.grant_kept {ps : List Part} {s t : State} (a1 a2 a3) (h : Kept ps s t) (hp : partsIn [.fov, .outbox] ps = true) : Kept ps s (State.grant t a1 a2 a3) := by
  refine h.lift hp ?_
  clear h hp
  unfold State.grant
  repeat' first
    | with_reducible assumption
    | (extract_lets +onlyGivenNames x; refine Kept.cut x ?_ ?_ <;> first | (intro hx; clear_value x) | (unfold x; clear x))
    | (extract_lets +onlyGivenNames x; subst x)
    | with_reducible apply Kept.ite
    | exact rfl
    | with_reducible first | apply State.modServed_kept | apply State.pawnSend_kept | exact Kept.refl _ _
    | ((with_reducible refine Kept.build ?_ ?_ ?_ ?_); rotate_left; exact rfl; exact rfl; exact rfl; fail_if_success split)
    | split

theorem execPawnRequestRx_kept {ps : List Part} {s t : State} (a1 a2 a3) (h : Kept ps s t) (hp : partsIn [.fov, .outbox] ps = true) : KeptOut ps s (execPawnRequestRx a1 a2 a3 t) := by
  unfold execPawnRequestRx
  have hd := fun a b c d e (u : State) (hu : Kept ps s u) => State.deny_kept a b c d e hu (within_trans rfl hp)
  have hg := fun a b c (u : State) (hu : Kept ps s u) => State.grant_kept a b c hu (within_trans rfl hp)
  have hm := fun a b (u : State) (hu : Kept ps s u) => State.modServed_kept a b hu (within_trans rfl hp)
  refine KeptOut.next ?_
  split
  · exact h
  · split
    · exact h
    · split
      · exact hd _ _ _ _ _ _ h
      · split
        · exact hg _ _ _ _ h
        · split
          · exact hd _ _ _ _ _ _ h
          · split
            · split
              · exact hm _ _ _ h
              · split
                exact hd _ _ _ _ _ _ (hg _ _ _ _ h)
            · exact hm _ _ _ h

theorem execContentionWaitExpiry_kept {ps : List Part} {s t : State} (a1) (h : Kept ps s t) (hp : partsIn [.fov, .outbox] ps = true) : KeptOut ps s (execContentionWaitExpiry a1 t) := by
  refine KeptOut.lift h hp ?_
  clear h hp
  unfold execContentionWaitExpiry
  repeat' first
    | with_reducible apply Kept.ite
    | exact rfl
    | with_reducible first | apply State.grant_kept | apply KeptOut.next | exact Kept.refl _ _
    | split

theorem execPawnReleaseRx_kept {ps : List Part} {s t : State} (a1 a2 a3) (h : Kept ps s t) (hp : partsIn [.fov] ps = true) : KeptOut ps s (execPawnReleaseRx a1 a2 a3 t) := by
  refine KeptOut.lift h hp ?_
  clear h hp
  unfold execPawnReleaseRx
  repeat' first
    | with_reducible apply Kept.ite
    | exact rfl
    | with_reducible first | apply State.modServed_kept | apply KeptOut.next | exact Kept.refl _ _
    | split

theorem State.startBuild_kept {ps : List Part} {s t : State} (h : Kept ps s t) (hp : partsIn [.fov, .jnl, .lay, .reg 14] ps = true) : Kept ps s (State.startBuild t) := by
  refine h.lift hp ?_
  clear h hp
  unfold State.startBuild
  repeat' first
    | with_reducible assumption
    | (extract_lets +onlyGivenNames x; refine Kept.cut x ?_ ?_ <;> first | (intro hx; clear_value x) | (unfold x; clear x))
    | (extract_lets +onlyGivenNames x; subst x)
    | exact rfl
    | with_reducible first | apply State.jnlStatus_kept | exact Kept.refl _ _
    | ((with_reducible refine Kept.build ?_ ?_ ?_ ?_); rotate_left; exact rfl; exact rfl; exact rfl; fail_if_success split)

theorem execHelloRx_kept {ps : List Part} {s t : State} (a1 a2) (h : Kept ps s t) (hp : partsIn [.evt, .fov, .reg 20] ps = true) : KeptOut ps s (execHelloRx a1 a2 t) := by
  refine KeptOut.lift h hp ?_
  clear h hp
  unfold execHelloRx
  repeat' first
    | (extract_lets +onlyGivenNames x; subst x)
    | with_reducible apply Kept.ite
    | exact rfl
    | with_reducible first | apply State.raise_kept | apply KeptOut.guard | exact Kept.refl _ _
    | ((with_reducible refine Kept.build ?_ ?_ ?_ ?_); rotate_left; exact rfl; exact rfl; exact rfl; fail_if_success split)
    | split

theorem State.mirrorBulk_kept {ps : List Part} {s t : State} (a1 a2) (h : Kept ps s t) (hp : partsIn [.cnt, .fov, .outbox, .reg 21] ps = true) : Kept ps s (State.mirrorBulk a1 a2 t) := by
  refine h.lift hp ?_
  clear h hp
  have key : ∀ u, Kept [.cnt, .fov, .outbox, .reg 21] t u → Kept [.cnt, .fov, .outbox, .reg 21] t (State.mirrorBulk a1 a2 u) := by
    induction a1 generalizing a2 with
    | zero => intro u hu; unfold State.mirrorBulk; exact hu
    | succ n ih =>
      intro u hu
      unfold State.mirrorBulk
      repeat' first
        | with_reducible first | assumption | apply ih
        | (extract_lets +onlyGivenNames x; subst x)
        | exact rfl
        | with_reducible apply State.mirrorSend_kept
        | split
  exact key t (Kept.refl _ _)

theorem State.startCopy_kept {ps : List Part} {s t : State} (h : Kept ps s t) (hp : partsIn [.cnt, .fov, .outbox, .reg 21] ps = true) : Kept ps s (State.startCopy t) := by
  refine h.lift hp ?_
  clear h hp
  unfold State.startCopy
  repeat' first
    | with_reducible assumption
    | (extract_lets +onlyGivenNames x; refine Kept.cut x ?_ ?_ <;> first | (intro hx; clear_value x) | (unfold x; clear x))
    | (extract_lets +onlyGivenNames x; subst x)
    | with_reducible apply Kept.ite
    | exact rfl
    | with_reducible first | apply State.mirrorBulk_kept | apply State.mirrorSend_kept | exact Kept.refl _ _
    | ((with_reducible refine Kept.build ?_ ?_ ?_ ?_); rotate_left; exact rfl; exact rfl; exact rfl; fail_if_success split)

theorem State.handOverStep_kept {ps : List Part} {s t : State} (h : Kept ps s t) (hp : partsIn [.axl, .cfg, .cmd, .cmp, .cnt, .cph, .deferred, .drv, .evt, .fov, .fsp, .jnl, .lay, .outbox, .pwr, .sep, .win, .reg 1, .reg 7, .reg 18, .reg 19, .reg 20, .reg 21] ps = true) : Kept ps s (State.handOverStep t) := by
  refine h.lift hp ?_
  clear h hp
  unfold State.handOverStep
  repeat' first
    | with_reducible assumption
    | (extract_lets +onlyGivenNames x; refine Kept.cut x ?_ ?_ <;> first | (intro hx; clear_value x) | (unfold x; clear x))
    | (extract_lets +onlyGivenNames x; subst x)
    | with_reducible apply Kept.ite
    | exact rfl
    | with_reducible first | apply State.depose_kept | apply State.replyOk_kept | exact Kept.refl _ _
    | ((with_reducible refine Kept.build ?_ ?_ ?_ ?_); rotate_left; exact rfl; exact rfl; exact rfl; fail_if_success split)
    | split

theorem execHeartbeatRx_kept {ps : List Part} {s t : State} (a1 a2) (h : Kept ps s t) (hp : partsIn [.axl, .cfg, .cmd, .cmp, .cnt, .cph, .deferred, .drv, .evt, .fov, .fsp, .jnl, .lay, .outbox, .pwr, .sep, .win, .reg 1, .reg 7, .reg 14, .reg 18, .reg 19, .reg 20, .reg 21] ps = true) : KeptOut ps s (execHeartbeatRx a1 a2 t) := by
  refine KeptOut.lift h hp ?_
  clear h hp
  unfold execHeartbeatRx
  repeat' first
    | (extract_lets +onlyGivenNames x; subst x)
    | with_reducible apply Kept.ite
    | exact rfl
    | with_reducible first | apply State.discardBuilt_kept | apply State.startRequesting_kept | apply State.startCopy_kept | apply State.handOverStep_kept | apply State.startBuild_kept | apply KeptOut.guard | exact Kept.refl _ _
    | ((with_reducible refine Kept.build ?_ ?_ ?_ ?_); rotate_left; exact rfl; exact rfl; exact rfl; fail_if_success split)
    | split

theorem execHeartbeatTimer_kept {ps : List Part} {s t : State} (h : Kept ps s t) (hp : partsIn [.fov, .outbox] ps = true) : KeptOut ps s (execHeartbeatTimer t) := by
  refine KeptOut.lift h hp ?_
  clear h hp
  unfold execHeartbeatTimer
  repeat' first
    | with_reducible assumption
    | (extract_lets +onlyGivenNames x; refine Kept.cut x ?_ ?_ <;> first | (intro hx; clear_value x) | (unfold x; clear x))
    | (extract_lets +onlyGivenNames x; subst x)
    | with_reducible apply Kept.ite
    | exact rfl
    | with_reducible first | apply State.emit_kept | apply State.up_kept | exact Kept.refl _ _
    | ((with_reducible refine Kept.build ?_ ?_ ?_ ?_); rotate_left; exact rfl; exact rfl; exact rfl; fail_if_success split)

theorem State.endHandOver_kept {ps : List Part} {s t : State} (h : Kept ps s t) (hp : partsIn [.cnt, .evt, .fov, .outbox, .sep, .reg 19, .reg 21] ps = true) : Kept ps s (State.endHandOver t) := by
  refine h.lift hp ?_
  clear h hp
  unfold State.endHandOver
  repeat' first
    | (extract_lets +onlyGivenNames x; subst x)
    | exact rfl
    | with_reducible first | apply State.replyErr_kept | exact Kept.refl _ _
    | ((with_reducible refine Kept.build ?_ ?_ ?_ ?_); rotate_left; exact rfl; exact rfl; exact rfl; fail_if_success split)
    | split

theorem execPeerLost_kept {ps : List Part} {s t : State} (h : Kept ps s t) (hp : partsIn [.cnt, .evt, .fov, .outbox, .sep, .reg 19, .reg 20, .reg 21] ps = true) : KeptOut ps s (execPeerLost t) := by
  refine KeptOut.lift h hp ?_
  clear h hp
  unfold execPeerLost
  repeat' first
    | with_reducible assumption
    | (extract_lets +onlyGivenNames x; refine Kept.cut x ?_ ?_ <;> first | (intro hx; clear_value x) | (unfold x; clear x))
    | (extract_lets +onlyGivenNames x; subst x)
    | with_reducible apply Kept.ite
    | exact rfl
    | with_reducible first | apply State.startRequesting_kept | apply State.raise_kept | apply State.endHandOver_kept | exact Kept.refl _ _
    | ((with_reducible refine Kept.build ?_ ?_ ?_ ?_); rotate_left; exact rfl; exact rfl; exact rfl; fail_if_success split)

theorem execRecoveryHelloTimeout_kept {ps : List Part} {s t : State} (h : Kept ps s t) (hp : partsIn [.fov, .jnl, .lay, .reg 14] ps = true) : KeptOut ps s (execRecoveryHelloTimeout t) := by
  refine KeptOut.lift h hp ?_
  clear h hp
  unfold execRecoveryHelloTimeout
  repeat' first
    | with_reducible apply Kept.ite
    | exact rfl
    | with_reducible first | apply State.startBuild_kept | apply KeptOut.next | exact Kept.refl _ _

theorem State.applyMirror_kept {ps : List Part} {s t : State} (a1) (h : Kept ps s t) (hp : partsIn [.lay] ps = true) : Kept ps s (State.applyMirror t a1) := by
  refine h.lift hp ?_
  clear h hp
  unfold State.applyMirror
  repeat' first
    | (extract_lets +onlyGivenNames x; subst x)
    | with_reducible exact Kept.refl _ _
    | ((with_reducible refine Kept.build ?_ ?_ ?_ ?_); rotate_left; exact rfl; exact rfl; exact rfl; fail_if_success split)

theorem State.mirrorTake_kept {ps : List Part} {s t : State} {a1} {run : State → State} (h : Kept ps s t) (k : ∀ x, Kept ps s x → Kept ps s (run x))
    (hp : partsIn [.cnt, .fov, .outbox, .reg 21] ps = true) : Kept ps s (State.mirrorTake t a1 run) := by
  unfold State.mirrorTake
  refine Kept.ite h (Kept.ite ?_ (Kept.ite (State.emit_kept _ _ h (within_trans rfl hp)) h))
  exact State.count_kept _ _ _ (k _ (h.trans (Kept.mono (qs := [.fov]) (Kept.upds rfl rfl rfl) (within_trans rfl hp)))) (within_trans rfl hp)

theorem State.copyDone_kept {ps : List Part} {s t : State} (h : Kept ps s t) (hp : partsIn [.fov, .lay] ps = true) : Kept ps s (State.copyDone t) := by
  refine h.lift hp ?_
  clear h hp
  unfold State.copyDone
  repeat' first
    | (extract_lets +onlyGivenNames x; subst x)
    | exact rfl
    | with_reducible first | apply State.applyMirror_kept | exact Kept.refl _ _
    | ((with_reducible refine Kept.build ?_ ?_ ?_ ?_); rotate_left; exact rfl; exact rfl; exact rfl; fail_if_success split)

theorem execMapBulkRx_kept {ps : List Part} {s t : State} (a1 a2 a3) (h : Kept ps s t) (hp : partsIn [.cnt, .evt, .fov, .lay, .outbox, .reg 20, .reg 21] ps = true) : KeptOut ps s (execMapBulkRx a1 a2 a3 t) := by
  refine KeptOut.lift h hp ?_
  clear h hp
  unfold execMapBulkRx
  repeat' first
    | with_reducible assumption
    | (extract_lets +onlyGivenNames x; refine Kept.cut x ?_ ?_ <;> first | (intro hx; clear_value x) | (unfold x; clear x))
    | (extract_lets +onlyGivenNames x; subst x)
    | with_reducible apply Kept.ite
    | exact rfl
    | with_reducible first | apply State.mirrorTake_kept | apply State.raise_kept | apply State.applyMirror_kept | apply State.copyDone_kept | exact Kept.refl _ _
    | ((with_reducible refine Kept.build ?_ ?_ ?_ ?_); rotate_left; exact rfl; exact rfl; exact rfl; fail_if_success split)
    | split
    | (intro _; intros; try dsimp -zeta only)

theorem execMapDeltaRx_kept {ps : List Part} {s t : State} (a1 a2) (h : Kept ps s t) (hp : partsIn [.cnt, .fov, .lay, .outbox, .reg 21] ps = true) : KeptOut ps s (execMapDeltaRx a1 a2 t) := by
  refine KeptOut.lift h hp ?_
  clear h hp
  unfold execMapDeltaRx
  repeat' first
    | with_reducible assumption
    | (extract_lets +onlyGivenNames x; subst x)
    | with_reducible apply Kept.ite
    | exact rfl
    | with_reducible first | apply State.mirrorTake_kept | apply State.applyMirror_kept | apply KeptOut.next | exact Kept.refl _ _
    | ((with_reducible refine Kept.build ?_ ?_ ?_ ?_); rotate_left; exact rfl; exact rfl; exact rfl; fail_if_success split)
    | (intro _; intros; try dsimp -zeta only)

theorem execTrailerRx_kept {ps : List Part} {s t : State} (a1 a2) (h : Kept ps s t) (hp : partsIn [.cnt, .fov, .jnl, .lay, .outbox, .reg 21] ps = true) : KeptOut ps s (execTrailerRx a1 a2 t) := by
  refine KeptOut.lift h hp ?_
  clear h hp
  unfold execTrailerRx
  repeat' first
    | with_reducible assumption
    | (extract_lets +onlyGivenNames x; subst x)
    | exact rfl
    | with_reducible first | apply State.mirrorTake_kept | apply KeptOut.next | exact Kept.refl _ _
    | ((with_reducible refine Kept.build ?_ ?_ ?_ ?_); rotate_left; exact rfl; exact rfl; exact rfl; fail_if_success split)
    | (intro _; intros; try dsimp -zeta only)

theorem State.mirrorPos_kept {ps : List Part} {s t : State} (a1 a2 a3 a4 a5 a6) (h : Kept ps s t) (hp : partsIn [.axl, .deferred] ps = true) : Kept ps s (State.mirrorPos t a1 a2 a3 a4 a5 a6) := by
  refine h.lift hp ?_
  clear h hp
  unfold State.mirrorPos
  repeat' first
    | with_reducible assumption
    | (extract_lets +onlyGivenNames x; refine Kept.cut x ?_ ?_ <;> first | (intro hx; clear_value x) | (unfold x; clear x))
    | (extract_lets +onlyGivenNames x; subst x)
    | with_reducible apply Kept.ite
    | exact rfl
    | with_reducible first | apply State.drvTo_kept | exact Kept.refl _ _
    | ((with_reducible refine Kept.build ?_ ?_ ?_ ?_); rotate_left; exact rfl; exact rfl; exact rfl; fail_if_success split)

theorem State.applyRecord_kept {ps : List Part} {s t : State} (a1) (h : Kept ps s t) (hp : partsIn [.axl, .cmd, .cph, .deferred, .evt, .fov, .jnl, .lay, .reg 12, .reg 13, .reg 20] ps = true) : Kept ps s (State.applyRecord t a1) := by
  refine h.lift hp ?_
  clear h hp
  unfold State.applyRecord
  repeat' first
    | (extract_lets +onlyGivenNames x; subst x)
    | exact rfl
    | with_reducible first | apply State.modGrp_kept | apply State.unwrapRecord_kept | apply State.layStatus_kept | apply State.mirrorPos_kept | apply State.keyErased_kept | apply State.modRole_kept | exact Kept.refl _ _
    | ((with_reducible refine Kept.build ?_ ?_ ?_ ?_); rotate_left; exact rfl; exact rfl; exact rfl; fail_if_success split)
    | split

theorem execRecordRx_kept {ps : List Part} {s t : State} (a1 a2) (h : Kept ps s t) (hp : partsIn [.axl, .cmd, .cnt, .cph, .deferred, .evt, .fov, .jnl, .lay, .outbox, .reg 12, .reg 13, .reg 20, .reg 21] ps = true) : KeptOut ps s (execRecordRx a1 a2 t) := by
  refine KeptOut.lift h hp ?_
  clear h hp
  unfold execRecordRx
  repeat' first
    | with_reducible assumption
    | exact rfl
    | with_reducible first | apply State.applyRecord_kept | apply State.mirrorTake_kept | apply KeptOut.next | exact Kept.refl _ _
    | (intro _; intros; try dsimp -zeta only)

theorem execNackRx_kept {ps : List Part} {s t : State} (a1) (h : Kept ps s t) (hp : partsIn [.cnt, .fov, .outbox, .reg 21] ps = true) : KeptOut ps s (execNackRx a1 t) := by
  refine KeptOut.lift h hp ?_
  clear h hp
  unfold execNackRx
  repeat' first
    | with_reducible first | assumption | apply Kept.ite
    | exact rfl
    | with_reducible first | apply State.startCopy_kept | apply State.emit_kept | apply KeptOut.next | exact Kept.refl _ _ | apply Kept.foldl
    | (intro _; intros; try dsimp -zeta only)

theorem execSlotDemandRx_kept {ps : List Part} {s t : State} (a1) (h : Kept ps s t) (hp : partsIn [.deferred, .evt, .fov, .outbox, .pwr, .reg 20] ps = true) : KeptOut ps s (execSlotDemandRx a1 t) := by
  refine KeptOut.lift h hp ?_
  clear h hp
  unfold execSlotDemandRx
  repeat' first
    | with_reducible assumption
    | (extract_lets +onlyGivenNames x; refine Kept.cut x ?_ ?_ <;> first | (intro hx; clear_value x) | (unfold x; clear x))
    | with_reducible apply Kept.ite
    | exact rfl
    | with_reducible first | apply State.modChan_kept | apply State.updateDemand_kept | apply State.armClear_kept | apply State.emit_kept | exact Kept.refl _ _ | apply Kept.foldIdx
    | (intro _; intros; try dsimp -zeta only)

theorem execSlotDemandTimer_kept {ps : List Part} {s t : State} (h : Kept ps s t) (hp : partsIn [.fov, .outbox, .pwr] ps = true) : KeptOut ps s (execSlotDemandTimer t) := by
  refine KeptOut.lift h hp ?_
  clear h hp
  unfold execSlotDemandTimer
  repeat' first
    | with_reducible apply Kept.ite
    | exact rfl
    | with_reducible first | apply State.sendDemand_kept | apply KeptOut.next | exact Kept.refl _ _

theorem execSlotAckRx_kept {ps : List Part} {s t : State} (a1) (h : Kept ps s t) (hp : partsIn [.deferred, .drv, .evt, .pwr, .reg 20] ps = true) : KeptOut ps s (execSlotAckRx a1 t) := by
  refine KeptOut.lift h hp ?_
  clear h hp
  unfold execSlotAckRx
  repeat' first
    | (extract_lets +onlyGivenNames x; subst x)
    | with_reducible apply Kept.ite
    | exact rfl
    | with_reducible first | apply State.finishStop_kept | apply State.modChan_kept | apply State.armClear_kept | apply KeptOut.guard | exact Kept.refl _ _

theorem execHealthRx_kept {ps : List Part} {s t : State} (a1 a2) (h : Kept ps s t) (hp : partsIn [.deferred] ps = true) : KeptOut ps s (execHealthRx a1 a2 t) := by
  refine KeptOut.lift h hp ?_
  clear h hp
  unfold execHealthRx
  repeat' first
    | with_reducible apply Kept.ite
    | exact rfl
    | with_reducible first | apply State.healthFail_kept | apply KeptOut.guard | exact Kept.refl _ _
    | split

theorem execYieldRx_kept {ps : List Part} {s t : State} (a1 a2) (h : Kept ps s t) (hp : partsIn [.fov, .outbox] ps = true) : KeptOut ps s (execYieldRx a1 a2 t) := by
  refine KeptOut.lift h hp ?_
  clear h hp
  unfold execYieldRx
  repeat' first
    | (extract_lets +onlyGivenNames x; subst x)
    | with_reducible apply Kept.ite
    | exact rfl
    | with_reducible first | apply State.startRequesting_kept | apply KeptOut.next | exact Kept.refl _ _
    | ((with_reducible refine Kept.build ?_ ?_ ?_ ?_); rotate_left; exact rfl; exact rfl; exact rfl; fail_if_success split)

theorem State.unfit_kept {ps : List Part} {s t : State} (h : Kept ps s t) (hp : partsIn [.cmd, .deferred, .evt, .fov, .outbox, .pwr, .reg 7, .reg 18, .reg 20] ps = true) : Kept ps s (State.unfit t) := by
  refine h.lift hp ?_
  clear h hp
  unfold State.unfit
  repeat' first
    | with_reducible assumption
    | (extract_lets +onlyGivenNames x; refine Kept.cut x ?_ ?_ <;> first | (intro hx; clear_value x) | (unfold x; clear x))
    | (extract_lets +onlyGivenNames x; subst x)
    | exact rfl
    | with_reducible first | apply State.updateDemand_kept | apply State.sendYield_kept | apply State.wr_kept | apply State.raise_kept | apply State.sendRelease_kept | apply State.setAna_kept | exact Kept.refl _ _
    | ((with_reducible refine Kept.build ?_ ?_ ?_ ?_); rotate_left; exact rfl; exact rfl; exact rfl; fail_if_success split)

theorem execFitnessTestDone_kept {ps : List Part} {s t : State} (a1 a2 a3 a4) (h : Kept ps s t) (hp : partsIn [.cmd, .deferred, .evt, .fov, .outbox, .pwr, .reg 7, .reg 11, .reg 12, .reg 18, .reg 20] ps = true) : KeptOut ps s (execFitnessTestDone a1 a2 a3 a4 t) := by
  refine KeptOut.lift h hp ?_
  clear h hp
  unfold execFitnessTestDone
  repeat' first
    | with_reducible assumption
    | (extract_lets +onlyGivenNames x; refine Kept.cut x ?_ ?_ <;> first | (intro hx; clear_value x) | (unfold x; clear x))
    | (extract_lets +onlyGivenNames x; subst x)
    | with_reducible apply Kept.ite
    | exact rfl
    | with_reducible first | apply State.compLaneOut_kept | apply State.decompLaneOut_kept | apply State.pipelineOut_kept | apply State.unfit_kept | exact Kept.refl _ _ | apply Kept.foldl
    | ((with_reducible refine Kept.build ?_ ?_ ?_ ?_); rotate_left; exact rfl; exact rfl; exact rfl; fail_if_success split)
    | split
    | (intro _; intros; try dsimp -zeta only)

theorem State.enterActive_kept {ps : List Part} {s t : State} (h : Kept ps s t) (hp : partsIn [.axl, .cfg, .cmd, .cnt, .deferred, .drv, .evt, .fov, .jnl, .lay, .outbox, .pwr, .reg 1, .reg 7, .reg 15, .reg 18, .reg 20, .reg 21] ps = true) : Kept ps s (State.enterActive t) := by
  refine h.lift hp ?_
  clear h hp
  unfold State.enterActive
  repeat' first
    | with_reducible assumption
    | (extract_lets +onlyGivenNames x; refine Kept.cut x ?_ ?_ <;> first | (intro hx; clear_value x) | (unfold x; clear x))
    | (extract_lets +onlyGivenNames x; subst x)
    | with_reducible apply Kept.ite
    | exact rfl
    | with_reducible first | apply State.claimRoles_kept | apply State.bump_kept | apply State.modGrp_kept | apply State.wr_kept | apply State.labelNew_kept | apply State.raise_kept | apply State.setDevState_kept | apply State.startWalk_kept | apply State.count_kept | exact Kept.refl _ _ | apply Kept.foldIdx
    | ((with_reducible refine Kept.build ?_ ?_ ?_ ?_); rotate_left; exact rfl; exact rfl; exact rfl; fail_if_success split)
    | split
    | (intro _; intros; try dsimp -zeta only)

theorem State.takeoverStep_kept {ps : List Part} {s t : State} (h : Kept ps s t) (hp : partsIn [.axl, .cfg, .cmd, .cnt, .cph, .deferred, .drv, .evt, .fov, .fsp, .gch, .jnl, .lay, .outbox, .pwr, .sep, .reg 1, .reg 7, .reg 8, .reg 9, .reg 12, .reg 13, .reg 14, .reg 15, .reg 16, .reg 18, .reg 19, .reg 20, .reg 21] ps = true) : Kept ps s (State.takeoverStep t) := by
  refine h.lift hp ?_
  clear h hp
  unfold State.takeoverStep
  repeat' first
    | with_reducible assumption
    | (extract_lets +onlyGivenNames x; refine Kept.cut x ?_ ?_ <;> first | (intro hx; clear_value x) | (unfold x; clear x))
    | (extract_lets +onlyGivenNames x; subst x)
    | with_reducible apply Kept.ite
    | exact rfl
    | with_reducible first | apply State.enterActive_kept | apply State.startEpoch_kept | apply State.finishReplay_kept | apply State.jnlStatus_kept | exact Kept.refl _ _
    | ((with_reducible refine Kept.build ?_ ?_ ?_ ?_); rotate_left; exact rfl; exact rfl; exact rfl; fail_if_success split)
    | split

theorem State.requestStep_kept {ps : List Part} {s t : State} (h : Kept ps s t) (hp : partsIn [.fov, .outbox] ps = true) : Kept ps s (State.requestStep t) := by
  refine h.lift hp ?_
  clear h hp
  unfold State.requestStep
  repeat' first
    | (extract_lets +onlyGivenNames x; subst x)
    | with_reducible apply Kept.ite
    | exact rfl
    | with_reducible first | apply State.startRequesting_kept | exact Kept.refl _ _

theorem execCheckpointFenceExpiry_kept {ps : List Part} {s t : State} (h : Kept ps s t) (hp : partsIn [.lay] ps = true) : KeptOut ps s (execCheckpointFenceExpiry t) := by
  refine KeptOut.lift h hp ?_
  clear h hp
  unfold execCheckpointFenceExpiry
  repeat' first
    | (extract_lets +onlyGivenNames x; subst x)
    | with_reducible first | apply Kept.ite | apply KeptOut.next | exact Kept.refl _ _
    | ((with_reducible refine Kept.build ?_ ?_ ?_ ?_); rotate_left; exact rfl; exact rfl; exact rfl; fail_if_success split)

theorem State.pairStep_kept {ps : List Part} {s t : State} (h : Kept ps s t) (hp : partsIn [.cmd, .evt, .fov, .outbox, .reg 7, .reg 20] ps = true) : Kept ps s (State.pairStep t) := by
  refine h.lift hp ?_
  clear h hp
  unfold State.pairStep
  repeat' first
    | (extract_lets +onlyGivenNames x; subst x)
    | exact rfl
    | with_reducible first | apply State.raise_kept | apply State.setAna_kept | exact Kept.refl _ _
    | ((with_reducible refine Kept.build ?_ ?_ ?_ ?_); rotate_left; exact rfl; exact rfl; exact rfl; fail_if_success split)
    | split

theorem execPairUnserviceableTimer_kept {ps : List Part} {s t : State} (h : Kept ps s t) (hp : partsIn [.evt, .fov, .reg 20] ps = true) : KeptOut ps s (execPairUnserviceableTimer t) := by
  refine KeptOut.lift h hp ?_
  clear h hp
  unfold execPairUnserviceableTimer
  repeat' first
    | (extract_lets +onlyGivenNames x; subst x)
    | with_reducible apply Kept.ite
    | exact rfl
    | with_reducible first | apply State.raise_kept | apply KeptOut.next | exact Kept.refl _ _
    | ((with_reducible refine Kept.build ?_ ?_ ?_ ?_); rotate_left; exact rfl; exact rfl; exact rfl; fail_if_success split)
    | split

theorem execHandOver_kept {ps : List Part} {s t : State} (a1 a2) (h : Kept ps s t) (hp : partsIn [.cnt, .deferred, .evt, .fov, .outbox, .sep, .reg 19, .reg 21] ps = true) : KeptOut ps s (execHandOver a1 a2 t) := by
  refine KeptOut.lift h hp ?_
  clear h hp
  unfold execHandOver
  repeat' first
    | with_reducible assumption
    | (extract_lets +onlyGivenNames x; subst x)
    | with_reducible apply Kept.ite
    | exact rfl
    | with_reducible first | apply State.replyErr_kept | apply State.defer_kept | apply State.ifActive_kept | apply State.admin_kept | apply KeptOut.next | exact Kept.refl _ _
    | ((with_reducible refine Kept.build ?_ ?_ ?_ ?_); rotate_left; exact rfl; exact rfl; exact rfl; fail_if_success split)
    | (intro _; intros; try dsimp -zeta only)

theorem State.holdForHandOver_kept {ps : List Part} {s t : State} (h : Kept ps s t) (hp : partsIn [.fov] ps = true) : Kept ps s (State.holdForHandOver t) := by
  refine h.lift hp ?_
  clear h hp
  unfold State.holdForHandOver
  repeat' first
    | (extract_lets +onlyGivenNames x; subst x)
    | with_reducible exact Kept.refl _ _
    | ((with_reducible refine Kept.build ?_ ?_ ?_ ?_); rotate_left; exact rfl; exact rfl; exact rfl; fail_if_success split)
    | split

theorem State.handOverDrained_kept {ps : List Part} {s t : State} (h : Kept ps s t) (hp : partsIn [.axl, .cfg, .cmd, .cmp, .cnt, .cph, .deferred, .drv, .evt, .fov, .fsp, .jnl, .lay, .outbox, .pwr, .sep, .win, .reg 1, .reg 7, .reg 18, .reg 19, .reg 20, .reg 21] ps = true) : Kept ps s (State.handOverDrained t) := by
  refine h.lift hp ?_
  clear h hp
  unfold State.handOverDrained
  repeat' first
    | (extract_lets +onlyGivenNames x; subst x)
    | exact rfl
    | with_reducible first | apply State.handOverStep_kept | apply State.writeBatch_kept | exact Kept.refl _ _
    | ((with_reducible refine Kept.build ?_ ?_ ?_ ?_); rotate_left; exact rfl; exact rfl; exact rfl; fail_if_success split)
    | split

theorem State.drainStep_kept {ps : List Part} {s t : State} (h : Kept ps s t) (hp : partsIn [.axl, .cfg, .cmd, .cmp, .cnt, .cph, .deferred, .drv, .evt, .fov, .fsp, .jnl, .lay, .outbox, .pwr, .sep, .win, .reg 1, .reg 7, .reg 18, .reg 19, .reg 20, .reg 21] ps = true) : Kept ps s (State.drainStep t) := by
  refine h.lift hp ?_
  clear h hp
  unfold State.drainStep
  repeat' first
    | with_reducible apply Kept.ite
    | exact rfl
    | with_reducible first | apply State.handOverDrained_kept | apply State.handOverStep_kept | exact Kept.refl _ _
    | split

theorem execHandOverDrainTimeout_kept {ps : List Part} {s t : State} (h : Kept ps s t) (hp : partsIn [.axl, .cfg, .cmd, .cmp, .cnt, .cph, .deferred, .drv, .evt, .fov, .fsp, .jnl, .lay, .outbox, .pwr, .sep, .win, .reg 1, .reg 7, .reg 18, .reg 19, .reg 20, .reg 21] ps = true) : KeptOut ps s (execHandOverDrainTimeout t) := by
  refine KeptOut.lift h hp ?_
  clear h hp
  unfold execHandOverDrainTimeout
  repeat' first
    | with_reducible assumption
    | (extract_lets +onlyGivenNames x; refine Kept.cut x ?_ ?_ <;> first | (intro hx; clear_value x) | (unfold x; clear x))
    | with_reducible apply Kept.ite
    | exact rfl
    | with_reducible first | apply State.modEntry_kept | apply State.handOverDrained_kept | apply State.finishOne_kept | exact Kept.refl _ _ | apply Kept.foldl
    | split
    | (intro _; intros; try dsimp -zeta only)

theorem execReplicaExtentSend_kept {ps : List Part} {s t : State} (a1 a2 a3) (h : Kept ps s t) (hp : partsIn [.fov, .lay, .outbox] ps = true) : KeptOut ps s (execReplicaExtentSend a1 a2 a3 t) := by
  refine KeptOut.lift h hp ?_
  clear h hp
  unfold execReplicaExtentSend
  repeat' first
    | (extract_lets +onlyGivenNames x; subst x)
    | with_reducible apply Kept.ite
    | exact rfl
    | with_reducible first | apply State.mdWrite_kept | apply State.emit_kept | apply KeptOut.next | exact Kept.refl _ _
    | ((with_reducible refine Kept.build ?_ ?_ ?_ ?_); rotate_left; exact rfl; exact rfl; exact rfl; fail_if_success split)
    | split

theorem State.replicaStep_kept {ps : List Part} {s t : State} (h : Kept ps s t) (hp : partsIn [.fov] ps = true) : Kept ps s (State.replicaStep t) := by
  refine h.lift hp ?_
  clear h hp
  unfold State.replicaStep
  repeat' first
    | with_reducible assumption
    | (extract_lets +onlyGivenNames x; subst x)
    | with_reducible first | apply Kept.ite | exact Kept.refl _ _ | apply Kept.foldl
    | ((with_reducible refine Kept.build ?_ ?_ ?_ ?_); rotate_left; exact rfl; exact rfl; exact rfl; fail_if_success split)
    | split
    | (intro _; intros; try dsimp -zeta only)

theorem execReplicaDownTimeout_kept {ps : List Part} {s t : State} (a1) (h : Kept ps s t) (hp : partsIn [.evt, .fov, .reg 20] ps = true) : KeptOut ps s (execReplicaDownTimeout a1 t) := by
  refine KeptOut.lift h hp ?_
  clear h hp
  unfold execReplicaDownTimeout
  repeat' first
    | (extract_lets +onlyGivenNames x; subst x)
    | with_reducible apply Kept.ite
    | exact rfl
    | with_reducible first | apply State.raise_kept | apply KeptOut.next | exact Kept.refl _ _
    | ((with_reducible refine Kept.build ?_ ?_ ?_ ?_); rotate_left; exact rfl; exact rfl; exact rfl; fail_if_success split)

theorem State.fovStatus_kept {ps : List Part} {s t : State} (h : Kept ps s t) (hp : partsIn [.reg 18] ps = true) : Kept ps s (State.fovStatus t) := by
  refine h.lift hp ?_
  clear h hp
  unfold State.fovStatus
  repeat' first
    | with_reducible assumption
    | (extract_lets +onlyGivenNames x; refine Kept.cut x ?_ ?_ <;> first | (intro hx; clear_value x) | (unfold x; clear x))
    | (extract_lets +onlyGivenNames x; subst x)
    | (simp only [List.all_cons, List.all_nil, Bool.and_true, Bool.and_eq_true]; (repeat' apply And.intro) <;> rfl)
    | exact rfl
    | with_reducible first | apply State.wr_kept | apply State.wrs_kept | exact Kept.refl _ _ | apply Kept.foldIdx
    | (intro _; intros; try dsimp -zeta only)

theorem State.leaseStep_kept {ps : List Part} {s t : State} (h : Kept ps s t) (hp : partsIn [.axl, .cfg, .cmd, .cmp, .cnt, .cph, .deferred, .drv, .evt, .fov, .fsp, .jnl, .lay, .outbox, .pwr, .sep, .win, .reg 1, .reg 7, .reg 18, .reg 19, .reg 20, .reg 21] ps = true) : Kept ps s (State.leaseStep t) := by
  refine h.lift hp ?_
  clear h hp
  unfold State.leaseStep
  repeat' first
    | with_reducible assumption
    | (extract_lets +onlyGivenNames x; refine Kept.cut x ?_ ?_ <;> first | (intro hx; clear_value x) | (unfold x; clear x))
    | (extract_lets +onlyGivenNames x; subst x)
    | with_reducible apply Kept.ite
    | exact rfl
    | with_reducible first | apply State.pawnCutoff_kept | exact Kept.refl _ _
    | ((with_reducible refine Kept.build ?_ ?_ ?_ ?_); rotate_left; exact rfl; exact rfl; exact rfl; fail_if_success split)

theorem State.clearFallback_kept {ps : List Part} {s t : State} (h : Kept ps s t) (hp : partsIn [.reg 12] ps = true) : Kept ps s (State.clearFallback t) := by
  refine h.lift hp ?_
  clear h hp
  unfold State.clearFallback
  repeat' first
    | with_reducible assumption
    | (extract_lets +onlyGivenNames x; refine Kept.cut x ?_ ?_ <;> first | (intro hx; clear_value x) | (unfold x; clear x))
    | with_reducible apply Kept.ite
    | exact rfl
    | with_reducible first | apply State.wr_kept | exact Kept.refl _ _ | apply Kept.foldIdx
    | (intro _; intros; try dsimp -zeta only)

theorem State.stopFlash_kept {ps : List Part} {s t : State} (h : Kept ps s t) (hp : partsIn [.sep] ps = true) : Kept ps s (State.stopFlash t) := by
  refine h.lift hp ?_
  clear h hp
  unfold State.stopFlash
  repeat' first
    | (extract_lets +onlyGivenNames x; subst x)
    | with_reducible exact Kept.refl _ _
    | ((with_reducible refine Kept.build ?_ ?_ ?_ ?_); rotate_left; exact rfl; exact rfl; exact rfl; fail_if_success split)

theorem State.abandonMailbox_kept {ps : List Part} {s t : State} (h : Kept ps s t) (hp : partsIn [.sep, .reg 19] ps = true) : Kept ps s (State.abandonMailbox t) := by
  refine h.lift hp ?_
  clear h hp
  unfold State.abandonMailbox
  repeat' first
    | with_reducible assumption
    | (extract_lets +onlyGivenNames x; refine Kept.cut x ?_ ?_ <;> first | (intro hx; clear_value x) | (unfold x; clear x))
    | (extract_lets +onlyGivenNames x; subst x)
    | exact rfl
    | with_reducible first | apply State.stopFlash_kept | apply State.wr_kept | exact Kept.refl _ _
    | ((with_reducible refine Kept.build ?_ ?_ ?_ ?_); rotate_left; exact rfl; exact rfl; exact rfl; fail_if_success split)

theorem State.endContainment_kept {ps : List Part} {s t : State} (h : Kept ps s t) (hp : partsIn [.evt, .sep, .reg 19, .reg 20] ps = true) : Kept ps s (State.endContainment t) := by
  refine h.lift hp ?_
  clear h hp
  unfold State.endContainment
  repeat' first
    | with_reducible assumption
    | (extract_lets +onlyGivenNames x; refine Kept.cut x ?_ ?_ <;> first | (intro hx; clear_value x) | (unfold x; clear x))
    | (extract_lets +onlyGivenNames x; subst x)
    | with_reducible apply Kept.ite
    | exact rfl
    | with_reducible first | apply State.raise_kept | apply State.mailboxPost_kept | exact Kept.refl _ _ | apply Kept.foldl
    | ((with_reducible refine Kept.build ?_ ?_ ?_ ?_); rotate_left; exact rfl; exact rfl; exact rfl; fail_if_success split)
    | (intro _; intros; try dsimp -zeta only)

theorem State.resetMailbox_kept {ps : List Part} {s t : State} (h : Kept ps s t) (hp : partsIn [.cmd, .evt, .sep, .reg 4, .reg 5, .reg 6, .reg 10, .reg 12, .reg 19, .reg 21] ps = true) : Kept ps s (State.resetMailbox t) := by
  refine h.lift hp ?_
  clear h hp
  unfold State.resetMailbox
  repeat' first
    | with_reducible assumption
    | (extract_lets +onlyGivenNames x; refine Kept.cut x ?_ ?_ <;> first | (intro hx; clear_value x) | (unfold x; clear x))
    | (extract_lets +onlyGivenNames x; subst x)
    | exact rfl
    | with_reducible first | apply State.resetCopies_kept | apply State.abandonMailbox_kept | apply State.wr_kept | apply State.setCtrl_kept | exact Kept.refl _ _ | apply Kept.foldIdx
    | ((with_reducible refine Kept.build ?_ ?_ ?_ ?_); rotate_left; exact rfl; exact rfl; exact rfl; fail_if_success split)
    | (intro _; intros; try dsimp -zeta only)

theorem State.resetConfig_kept {ps : List Part} {s t : State} (h : Kept ps s t) (hp : partsIn [.sep, .reg 19] ps = true) : Kept ps s (State.resetConfig t) := by
  refine h.lift hp ?_
  clear h hp
  unfold State.resetConfig
  repeat' first
    | (extract_lets +onlyGivenNames x; subst x)
    | exact rfl
    | with_reducible first | apply State.maskVectors_kept | exact Kept.refl _ _
    | ((with_reducible refine Kept.build ?_ ?_ ?_ ?_); rotate_left; exact rfl; exact rfl; exact rfl; fail_if_success split)

theorem State.sepLink_kept {ps : List Part} {s t : State} (a1 a2 a3) (h : Kept ps s t) (hp : partsIn [.evt, .sep, .reg 20] ps = true) : Kept ps s (State.sepLink t a1 a2 a3) := by
  refine h.lift hp ?_
  clear h hp
  unfold State.sepLink
  repeat' first
    | with_reducible assumption
    | (extract_lets +onlyGivenNames x; refine Kept.cut x ?_ ?_ <;> first | (intro hx; clear_value x) | (unfold x; clear x))
    | (extract_lets +onlyGivenNames x; subst x)
    | with_reducible apply Kept.ite
    | exact rfl
    | with_reducible first | apply State.raise_kept | exact Kept.refl _ _
    | ((with_reducible refine Kept.build ?_ ?_ ?_ ?_); rotate_left; exact rfl; exact rfl; exact rfl; fail_if_success split)

theorem execEndpointReset_kept {ps : List Part} {s t : State} (a1) (h : Kept ps s t) (hp : partsIn [.cmd, .evt, .sep, .reg 4, .reg 5, .reg 6, .reg 10, .reg 12, .reg 19, .reg 20, .reg 21] ps = true) : KeptOut ps s (execEndpointReset a1 t) := by
  refine KeptOut.lift h hp ?_
  clear h hp
  unfold execEndpointReset
  repeat' first
    | with_reducible assumption
    | (extract_lets +onlyGivenNames x; refine Kept.cut x ?_ ?_ <;> first | (intro hx; clear_value x) | (unfold x; clear x))
    | (extract_lets +onlyGivenNames x; subst x)
    | with_reducible apply Kept.ite
    | exact rfl
    | with_reducible first | apply State.sepLink_kept | apply State.resetMailbox_kept | apply State.clearFallback_kept | apply State.resetConfig_kept | apply State.endContainment_kept | exact Kept.refl _ _
    | ((with_reducible refine Kept.build ?_ ?_ ?_ ?_); rotate_left; exact rfl; exact rfl; exact rfl; fail_if_success split)

theorem execSepPerstRelease_kept {ps : List Part} {s t : State} (h : Kept ps s t) (hp : partsIn [.sep] ps = true) : KeptOut ps s (execSepPerstRelease t) := by
  refine KeptOut.lift h hp ?_
  clear h hp
  unfold execSepPerstRelease
  repeat' first
    | (extract_lets +onlyGivenNames x; subst x)
    | exact rfl
    | with_reducible first | apply State.sepStart_kept | apply KeptOut.next | exact Kept.refl _ _
    | ((with_reducible refine Kept.build ?_ ?_ ?_ ?_); rotate_left; exact rfl; exact rfl; exact rfl; fail_if_success split)

theorem State.setConfig_kept {ps : List Part} {s t : State} (a1) (h : Kept ps s t) (hp : partsIn [.sep] ps = true) : Kept ps s (State.setConfig t a1) := by
  refine h.lift hp ?_
  clear h hp
  unfold State.setConfig
  repeat' first
    | (extract_lets +onlyGivenNames x; subst x)
    | with_reducible exact Kept.refl _ _
    | ((with_reducible refine Kept.build ?_ ?_ ?_ ?_); rotate_left; exact rfl; exact rfl; exact rfl; fail_if_success split)

theorem execEndpointLinkUp_kept {ps : List Part} {s t : State} (a1 a2 a3) (h : Kept ps s t) (hp : partsIn [.evt, .sep, .reg 20] ps = true) : KeptOut ps s (execEndpointLinkUp a1 a2 a3 t) := by
  refine KeptOut.lift h hp ?_
  clear h hp
  unfold execEndpointLinkUp
  repeat' first
    | with_reducible apply Kept.ite
    | exact rfl
    | with_reducible first | apply State.sepLink_kept | apply State.setConfig_kept | apply KeptOut.next | exact Kept.refl _ _

theorem execPowerStateChange_kept {ps : List Part} {s t : State} (a1) (h : Kept ps s t) (hp : partsIn [.sep] ps = true) : KeptOut ps s (execPowerStateChange a1 t) := by
  refine KeptOut.lift h hp ?_
  clear h hp
  unfold execPowerStateChange
  repeat' first
    | (extract_lets +onlyGivenNames x; subst x)
    | with_reducible first | apply Kept.ite | apply KeptOut.next | exact Kept.refl _ _
    | ((with_reducible refine Kept.build ?_ ?_ ?_ ?_); rotate_left; exact rfl; exact rfl; exact rfl; fail_if_success split)

theorem execMsixUnmask_kept {ps : List Part} {s t : State} (a1 a2) (h : Kept ps s t) (hp : partsIn [.sep, .reg 19] ps = true) : KeptOut ps s (execMsixUnmask a1 a2 t) := by
  refine KeptOut.lift h hp ?_
  clear h hp
  unfold execMsixUnmask
  repeat' first
    | with_reducible apply Kept.ite
    | exact rfl
    | with_reducible first | apply State.setConfig_kept | apply State.wr_kept | apply KeptOut.guard | exact Kept.refl _ _

theorem State.sendMsix_kept {ps : List Part} {s t : State} (h : Kept ps s t) (hp : partsIn [.evt, .outbox, .sep] ps = true) : Kept ps s (State.sendMsix t) := by
  refine h.lift hp ?_
  clear h hp
  unfold State.sendMsix
  repeat' first
    | with_reducible assumption
    | (extract_lets +onlyGivenNames x; refine Kept.cut x ?_ ?_ <;> first | (intro hx; clear_value x) | (unfold x; clear x))
    | (extract_lets +onlyGivenNames x; subst x)
    | with_reducible apply Kept.ite
    | exact rfl
    | with_reducible first | apply State.emit_kept | exact Kept.refl _ _ | apply Kept.foldl
    | ((with_reducible refine Kept.build ?_ ?_ ?_ ?_); rotate_left; exact rfl; exact rfl; exact rfl; fail_if_success split)
    | (intro _; intros; try dsimp -zeta only)

theorem State.sepStatus_kept {ps : List Part} {s t : State} (h : Kept ps s t) (hp : partsIn [.reg 19] ps = true) : Kept ps s (State.sepStatus t) := by
  refine h.lift hp ?_
  clear h hp
  unfold State.sepStatus
  repeat' first
    | with_reducible assumption
    | (extract_lets +onlyGivenNames x; refine Kept.cut x ?_ ?_ <;> first | (intro hx; clear_value x) | (unfold x; clear x))
    | (extract_lets +onlyGivenNames x; subst x)
    | (simp only [List.all_cons, List.all_nil, Bool.and_true, Bool.and_eq_true]; (repeat' apply And.intro) <;> rfl)
    | exact rfl
    | with_reducible first | apply State.wr_kept | apply State.wrs_kept | exact Kept.refl _ _ | apply Kept.foldIdx
    | (intro _; intros; try dsimp -zeta only)

theorem State.takeEntry_kept {ps : List Part} {s t : State} (h : Kept ps s t) (hp : partsIn [.cnt, .evt, .outbox, .sep, .reg 19, .reg 21] ps = true) : Kept ps s (State.takeEntry t) := by
  refine h.lift hp ?_
  clear h hp
  unfold State.takeEntry
  repeat' first
    | with_reducible assumption
    | (extract_lets +onlyGivenNames x; refine Kept.cut x ?_ ?_ <;> first | (intro hx; clear_value x) | (unfold x; clear x))
    | (extract_lets +onlyGivenNames x; subst x)
    | with_reducible apply Kept.ite
    | exact rfl
    | with_reducible first | apply State.wr_kept | apply State.replyErr_kept | exact Kept.refl _ _
    | ((with_reducible refine Kept.build ?_ ?_ ?_ ?_); rotate_left; exact rfl; exact rfl; exact rfl; fail_if_success split)

theorem execMailboxSubmit_kept {ps : List Part} {s t : State} (a1) (h : Kept ps s t) (hp : partsIn [.cnt, .evt, .outbox, .sep, .reg 19, .reg 21] ps = true) : KeptOut ps s (execMailboxSubmit a1 t) := by
  refine KeptOut.lift h hp ?_
  clear h hp
  unfold execMailboxSubmit
  repeat' first
    | with_reducible apply Kept.ite
    | exact rfl
    | with_reducible first | apply State.takeEntry_kept | apply State.wr_kept | apply State.up_kept | apply KeptOut.next | exact Kept.refl _ _

theorem execFlashWrite_kept {ps : List Part} {s t : State} (a1 a2 a3 a4 a5) (h : Kept ps s t) (hp : partsIn [.cnt, .evt, .outbox, .sep, .reg 19, .reg 21] ps = true) : KeptOut ps s (execFlashWrite a1 a2 a3 a4 a5 t) := by
  refine KeptOut.lift h hp ?_
  clear h hp
  unfold execFlashWrite
  repeat' first
    | with_reducible assumption
    | (extract_lets +onlyGivenNames x; refine Kept.cut x ?_ ?_ <;> first | (intro hx; clear_value x) | (unfold x; clear x))
    | (extract_lets +onlyGivenNames x; subst x)
    | with_reducible apply Kept.ite
    | exact rfl
    | with_reducible first | apply State.wr_kept | apply State.replyErr_kept | exact Kept.refl _ _
    | ((with_reducible refine Kept.build ?_ ?_ ?_ ?_); rotate_left; exact rfl; exact rfl; exact rfl; fail_if_success split)

theorem State.flashEnd_kept {ps : List Part} {s t : State} (a1 a2) (h : Kept ps s t) (hp : partsIn [.cnt, .evt, .outbox, .sep, .reg 19, .reg 21] ps = true) : Kept ps s (State.flashEnd t a1 a2) := by
  refine h.lift hp ?_
  clear h hp
  unfold State.flashEnd
  repeat' first
    | exact rfl
    | with_reducible first | apply State.stopFlash_kept | apply State.replyErr_kept | exact Kept.refl _ _

theorem execMailboxDmaDone_kept {ps : List Part} {s t : State} (h : Kept ps s t) (hp : partsIn [.cfg, .outbox, .sep] ps = true) : KeptOut ps s (execMailboxDmaDone t) := by
  refine KeptOut.lift h hp ?_
  clear h hp
  unfold execMailboxDmaDone
  repeat' first
    | with_reducible assumption
    | (extract_lets +onlyGivenNames x; refine Kept.cut x ?_ ?_ <;> first | (intro hx; clear_value x) | (unfold x; clear x))
    | (extract_lets +onlyGivenNames x; subst x)
    | with_reducible apply Kept.ite
    | exact rfl
    | with_reducible first | apply State.modCopy_kept | apply State.emit_kept | apply KeptOut.next | exact Kept.refl _ _
    | ((with_reducible refine Kept.build ?_ ?_ ?_ ?_); rotate_left; exact rfl; exact rfl; exact rfl; fail_if_success split)
    | split

theorem execFlashEraseDone_kept {ps : List Part} {s t : State} (a1) (h : Kept ps s t) (hp : partsIn [.cfg, .cnt, .evt, .outbox, .sep, .reg 19, .reg 21] ps = true) : KeptOut ps s (execFlashEraseDone a1 t) := by
  refine KeptOut.lift h hp ?_
  clear h hp
  unfold execFlashEraseDone
  repeat' first
    | with_reducible assumption
    | (extract_lets +onlyGivenNames x; refine Kept.cut x ?_ ?_ <;> first | (intro hx; clear_value x) | (unfold x; clear x))
    | (extract_lets +onlyGivenNames x; subst x)
    | with_reducible apply Kept.ite
    | exact rfl
    | with_reducible first | apply State.modCopy_kept | apply State.flashEnd_kept | apply State.emit_kept | apply KeptOut.next | exact Kept.refl _ _
    | ((with_reducible refine Kept.build ?_ ?_ ?_ ?_); rotate_left; exact rfl; exact rfl; exact rfl; fail_if_success split)
    | split

theorem execFlashPageProgramDone_kept {ps : List Part} {s t : State} (a1) (h : Kept ps s t) (hp : partsIn [.cfg, .cnt, .evt, .outbox, .sep, .reg 19, .reg 21] ps = true) : KeptOut ps s (execFlashPageProgramDone a1 t) := by
  refine KeptOut.lift h hp ?_
  clear h hp
  unfold execFlashPageProgramDone
  repeat' first
    | with_reducible assumption
    | (extract_lets +onlyGivenNames x; refine Kept.cut x ?_ ?_ <;> first | (intro hx; clear_value x) | (unfold x; clear x))
    | (extract_lets +onlyGivenNames x; subst x)
    | with_reducible apply Kept.ite
    | exact rfl
    | with_reducible first | apply State.wr_kept | apply State.modCopy_kept | apply State.flashEnd_kept | apply State.emit_kept | apply KeptOut.next | exact Kept.refl _ _
    | ((with_reducible refine Kept.build ?_ ?_ ?_ ?_); rotate_left; exact rfl; exact rfl; exact rfl; fail_if_success split)
    | split

theorem execFunctionLevelReset_kept {ps : List Part} {s t : State} (h : Kept ps s t) (hp : partsIn [.deferred, .sep, .reg 12] ps = true) : KeptOut ps s (execFunctionLevelReset t) := by
  refine KeptOut.lift h hp ?_
  clear h hp
  unfold execFunctionLevelReset
  repeat' first
    | (extract_lets +onlyGivenNames x; subst x)
    | with_reducible apply Kept.ite
    | exact rfl
    | with_reducible first | apply State.clearFallback_kept | apply State.defer_kept | apply KeptOut.next | exact Kept.refl _ _
    | ((with_reducible refine Kept.build ?_ ?_ ?_ ?_); rotate_left; exact rfl; exact rfl; exact rfl; fail_if_success split)

theorem execFlrDmaQuiesce_kept {ps : List Part} {s t : State} (h : Kept ps s t) (hp : partsIn [.sep] ps = true) : KeptOut ps s (execFlrDmaQuiesce t) := by
  refine KeptOut.lift h hp ?_
  clear h hp
  unfold execFlrDmaQuiesce
  repeat' first
    | (extract_lets +onlyGivenNames x; subst x)
    | with_reducible first | apply Kept.ite | apply KeptOut.next | exact Kept.refl _ _
    | ((with_reducible refine Kept.build ?_ ?_ ?_ ?_); rotate_left; exact rfl; exact rfl; exact rfl; fail_if_success split)
    | split

theorem execFlrComplete_kept {ps : List Part} {s t : State} (h : Kept ps s t) (hp : partsIn [.cmd, .evt, .sep, .reg 4, .reg 5, .reg 6, .reg 10, .reg 12, .reg 19, .reg 20, .reg 21] ps = true) : KeptOut ps s (execFlrComplete t) := by
  refine KeptOut.lift h hp ?_
  clear h hp
  unfold execFlrComplete
  repeat' first
    | with_reducible assumption
    | (extract_lets +onlyGivenNames x; refine Kept.cut x ?_ ?_ <;> first | (intro hx; clear_value x) | (unfold x; clear x))
    | (extract_lets +onlyGivenNames x; subst x)
    | with_reducible apply Kept.ite
    | exact rfl
    | with_reducible first | apply State.resetMailbox_kept | apply State.resetConfig_kept | apply State.raise_kept | apply State.endContainment_kept | exact Kept.refl _ _
    | ((with_reducible refine Kept.build ?_ ?_ ?_ ?_); rotate_left; exact rfl; exact rfl; exact rfl; fail_if_success split)
    | split

theorem State.contain_kept {ps : List Part} {s t : State} (a1) (h : Kept ps s t) (hp : partsIn [.evt, .sep, .reg 12, .reg 19, .reg 20] ps = true) : Kept ps s (State.contain t a1) := by
  refine h.lift hp ?_
  clear h hp
  unfold State.contain
  repeat' first
    | with_reducible assumption
    | (extract_lets +onlyGivenNames x; refine Kept.cut x ?_ ?_ <;> first | (intro hx; clear_value x) | (unfold x; clear x))
    | (extract_lets +onlyGivenNames x; subst x)
    | exact rfl
    | with_reducible first | apply State.abandonMailbox_kept | apply State.clearFallback_kept | apply State.wr_kept | apply State.raise_kept | exact Kept.refl _ _
    | ((with_reducible refine Kept.build ?_ ?_ ?_ ?_); rotate_left; exact rfl; exact rfl; exact rfl; fail_if_success split)

theorem execEndpointContain_kept {ps : List Part} {s t : State} (a1) (h : Kept ps s t) (hp : partsIn [.evt, .sep, .reg 12, .reg 19, .reg 20] ps = true) : KeptOut ps s (execEndpointContain a1 t) := by
  refine KeptOut.lift h hp ?_
  clear h hp
  unfold execEndpointContain
  repeat' first
    | with_reducible assumption
    | (extract_lets +onlyGivenNames x; refine Kept.cut x ?_ ?_ <;> first | (intro hx; clear_value x) | (unfold x; clear x))
    | (extract_lets +onlyGivenNames x; subst x)
    | with_reducible apply Kept.ite
    | exact rfl
    | with_reducible first | apply State.contain_kept | apply State.sepLink_kept | apply State.wr_kept | exact Kept.refl _ _

theorem execContainmentRelease_kept {ps : List Part} {s t : State} (h : Kept ps s t) (hp : partsIn [.deferred] ps = true) : KeptOut ps s (execContainmentRelease t) := by
  refine KeptOut.lift h hp ?_
  clear h hp
  unfold execContainmentRelease
  repeat' first
    | with_reducible apply Kept.ite
    | exact rfl
    | with_reducible first | apply State.defer_kept | apply KeptOut.next | exact Kept.refl _ _

theorem State.queueRecord_kept {ps : List Part} {s t : State} (a1) (h : Kept ps s t) (hp : partsIn [.evt] ps = true) : Kept ps s (State.queueRecord t a1) := by
  refine h.lift hp ?_
  clear h hp
  unfold State.queueRecord
  repeat' first
    | (extract_lets +onlyGivenNames x; subst x)
    | with_reducible first | apply Kept.ite | exact Kept.refl _ _
    | ((with_reducible refine Kept.build ?_ ?_ ?_ ?_); rotate_left; exact rfl; exact rfl; exact rfl; fail_if_success split)

theorem State.ringWrite_kept {ps : List Part} {s t : State} (a1) (h : Kept ps s t) (hp : partsIn [.cnt, .evt, .reg 20, .reg 21] ps = true) : Kept ps s (State.ringWrite t a1) := by
  refine h.lift hp ?_
  clear h hp
  unfold State.ringWrite
  repeat' first
    | with_reducible assumption
    | (extract_lets +onlyGivenNames x; refine Kept.cut x ?_ ?_ <;> first | (intro hx; clear_value x) | (unfold x; clear x))
    | (extract_lets +onlyGivenNames x; subst x)
    | (simp only [List.all_cons, List.all_nil, Bool.and_true, Bool.and_eq_true]; (repeat' apply And.intro) <;> rfl)
    | exact rfl
    | with_reducible first | apply State.queueRecord_kept | apply State.count_kept | apply State.wrs_kept | exact Kept.refl _ _
    | ((with_reducible refine Kept.build ?_ ?_ ?_ ?_); rotate_left; exact rfl; exact rfl; exact rfl; fail_if_success split)

theorem State.ringDrop_kept {ps : List Part} {s t : State} (a1) (h : Kept ps s t) (hp : partsIn [.cnt, .evt, .reg 20, .reg 21] ps = true) : Kept ps s (State.ringDrop t a1) := by
  refine h.lift hp ?_
  clear h hp
  unfold State.ringDrop
  repeat' first
    | (extract_lets +onlyGivenNames x; subst x)
    | exact rfl
    | with_reducible first | apply State.bump_kept | apply State.count_kept | exact Kept.refl _ _
    | ((with_reducible refine Kept.build ?_ ?_ ?_ ?_); rotate_left; exact rfl; exact rfl; exact rfl; fail_if_success split)

theorem State.queueOnly_kept {ps : List Part} {s t : State} (a1) (h : Kept ps s t) (hp : partsIn [.evt, .free] ps = true) : Kept ps s (State.queueOnly t a1) := by
  refine h.lift hp ?_
  clear h hp
  unfold State.queueOnly
  repeat' first
    | exact rfl
    | with_reducible first | apply State.queueRecord_kept | apply State.takeFree_kept | exact Kept.refl _ _

theorem State.ringOverflow_kept {ps : List Part} {s t : State} (h : Kept ps s t) (hp : partsIn [.cnt, .evt, .reg 20, .reg 21] ps = true) : Kept ps s (State.ringOverflow t) := by
  refine h.lift hp ?_
  clear h hp
  unfold State.ringOverflow
  repeat' first
    | with_reducible assumption
    | (extract_lets +onlyGivenNames x; refine Kept.cut x ?_ ?_ <;> first | (intro hx; clear_value x) | (unfold x; clear x))
    | (extract_lets +onlyGivenNames x; subst x)
    | with_reducible apply Kept.ite
    | exact rfl
    | with_reducible first | apply State.ringWrite_kept | apply State.latch_kept | exact Kept.refl _ _
    | ((with_reducible refine Kept.build ?_ ?_ ?_ ?_); rotate_left; exact rfl; exact rfl; exact rfl; fail_if_success split)

theorem State.takeRecord_kept {ps : List Part} {s t : State} (a1) (h : Kept ps s t) (hp : partsIn [.cnt, .evt, .free, .reg 20, .reg 21] ps = true) : Kept ps s (State.takeRecord t a1) := by
  refine h.lift hp ?_
  clear h hp
  unfold State.takeRecord
  repeat' first
    | with_reducible assumption
    | (extract_lets +onlyGivenNames x; refine Kept.cut x ?_ ?_ <;> first | (intro hx; clear_value x) | (unfold x; clear x))
    | with_reducible apply Kept.ite
    | exact rfl
    | with_reducible first | apply State.ringWrite_kept | apply State.ringDrop_kept | apply State.ringOverflow_kept | apply State.queueOnly_kept | exact Kept.refl _ _

theorem State.writeEvents_kept {ps : List Part} {s t : State} (h : Kept ps s t) (hp : partsIn [.cmd, .cnt, .evt, .free, .outbox, .sep, .reg 19, .reg 20, .reg 21] ps = true) : Kept ps s (State.writeEvents t) := by
  refine h.lift hp ?_
  clear h hp
  unfold State.writeEvents
  repeat' first
    | with_reducible assumption
    | (extract_lets +onlyGivenNames x; refine Kept.cut x ?_ ?_ <;> first | (intro hx; clear_value x) | (unfold x; clear x))
    | (extract_lets +onlyGivenNames x; subst x)
    | exact rfl
    | with_reducible first | apply State.pumpAer_kept | apply State.ringOverflow_kept | apply State.takeRecord_kept | exact Kept.refl _ _ | apply Kept.foldl
    | ((with_reducible refine Kept.build ?_ ?_ ?_ ?_); rotate_left; exact rfl; exact rfl; exact rfl; fail_if_success split)
    | (intro _; intros; try dsimp -zeta only)

theorem execEventRingHeadWrite_kept {ps : List Part} {s t : State} (a1 a2) (h : Kept ps s t) (hp : partsIn [.evt, .reg 20] ps = true) : KeptOut ps s (execEventRingHeadWrite a1 a2 t) := by
  refine KeptOut.lift h hp ?_
  clear h hp
  unfold execEventRingHeadWrite
  repeat' first
    | (extract_lets +onlyGivenNames x; subst x)
    | with_reducible apply Kept.ite
    | exact rfl
    | with_reducible first | apply State.wr_kept | apply State.violation_kept | apply State.up_kept | apply KeptOut.next | exact Kept.refl _ _

theorem execEventRead_kept {ps : List Part} {s t : State} (a1 a2 a3) (h : Kept ps s t) (hp : partsIn [.cmd, .cnt, .deferred, .evt, .outbox, .sep, .reg 19, .reg 21] ps = true) : KeptOut ps s (execEventRead a1 a2 a3 t) := by
  refine KeptOut.lift h hp ?_
  clear h hp
  unfold execEventRead
  repeat' first
    | with_reducible assumption
    | (extract_lets +onlyGivenNames x; refine Kept.cut x ?_ ?_ <;> first | (intro hx; clear_value x) | (unfold x; clear x))
    | (extract_lets +onlyGivenNames x; subst x)
    | exact rfl
    | with_reducible first | apply State.reply_kept | apply State.pumpAer_kept | apply State.replyErr_kept | apply State.admin_kept | apply State.modCtrl_kept | apply State.emit_kept | apply KeptOut.next | exact Kept.refl _ _
    | ((with_reducible refine Kept.build ?_ ?_ ?_ ?_); rotate_left; exact rfl; exact rfl; exact rfl; fail_if_success split)
    | split
    | (intro _; intros; try dsimp -zeta only)

theorem execCounterPreload_kept {ps : List Part} {s t : State} (a1) (h : Kept ps s t) (hp : partsIn [.deferred, .evt, .reg 20, .reg 21] ps = true) : KeptOut ps s (execCounterPreload a1 t) := by
  refine KeptOut.lift h hp ?_
  clear h hp
  unfold execCounterPreload
  repeat' first
    | exact rfl
    | with_reducible first | apply State.wr_kept | apply State.defer_kept | apply State.acts_kept | apply KeptOut.next | exact Kept.refl _ _

theorem State.preloadCounter_kept {ps : List Part} {s t : State} (a1 a2) (h : Kept ps s t) (hp : partsIn [.cnt, .reg 21] ps = true) : Kept ps s (State.preloadCounter t a1 a2) := by
  refine h.lift hp ?_
  clear h hp
  unfold State.preloadCounter
  repeat' first
    | (extract_lets +onlyGivenNames x; subst x)
    | with_reducible apply Kept.ite
    | exact rfl
    | with_reducible first | apply State.wr_kept | exact Kept.refl _ _
    | ((with_reducible refine Kept.build ?_ ?_ ?_ ?_); rotate_left; exact rfl; exact rfl; exact rfl; fail_if_success split)

theorem execCounterLiveRead_kept {ps : List Part} {s t : State} (a1) (h : Kept ps s t) (hp : partsIn [.reg 21] ps = true) : KeptOut ps s (execCounterLiveRead a1 t) := by
  refine KeptOut.lift h hp ?_
  clear h hp
  unfold execCounterLiveRead
  repeat' first
    | (extract_lets +onlyGivenNames x; subst x)
    | exact rfl
    | with_reducible first | apply State.wrW_kept | apply State.up_kept | apply KeptOut.next | exact Kept.refl _ _

theorem execCounterOverflow_kept {ps : List Part} {s t : State} (a1 a2) (h : Kept ps s t) (hp : partsIn [.cnt, .reg 21] ps = true) : KeptOut ps s (execCounterOverflow a1 a2 t) := by
  refine KeptOut.lift h hp ?_
  clear h hp
  unfold execCounterOverflow
  repeat' first
    | with_reducible apply Kept.ite
    | exact rfl
    | with_reducible first | apply State.count_kept | apply State.up_kept | apply KeptOut.guard | exact Kept.refl _ _

theorem execCounterSampleRead_kept {ps : List Part} {s t : State} (a1) (h : Kept ps s t) (hp : partsIn [.cnt, .evt, .reg 20, .reg 21] ps = true) : KeptOut ps s (execCounterSampleRead a1 t) := by
  refine KeptOut.lift h hp ?_
  clear h hp
  unfold execCounterSampleRead
  repeat' first
    | (extract_lets +onlyGivenNames x; subst x)
    | with_reducible apply Kept.ite
    | exact rfl
    | with_reducible first | apply State.loseSample_kept | apply State.raise_kept | apply State.setOvfPending_kept | apply State.count_kept | apply State.up_kept | apply KeptOut.guard | exact Kept.refl _ _

theorem State.startSnapshot_kept {ps : List Part} {s t : State} (a1) (h : Kept ps s t) (hp : partsIn [.cnt] ps = true) : Kept ps s (State.startSnapshot t a1) := by
  refine h.lift hp ?_
  clear h hp
  unfold State.startSnapshot
  repeat' first
    | (extract_lets +onlyGivenNames x; subst x)
    | with_reducible first | apply Kept.ite | exact Kept.refl _ _
    | ((with_reducible refine Kept.build ?_ ?_ ?_ ?_); rotate_left; exact rfl; exact rfl; exact rfl; fail_if_success split)

theorem execSnapshotPassDone_kept {ps : List Part} {s t : State} (h : Kept ps s t) (hp : partsIn [.cnt, .free, .reg 21] ps = true) : KeptOut ps s (execSnapshotPassDone t) := by
  refine KeptOut.lift h hp ?_
  clear h hp
  unfold execSnapshotPassDone
  repeat' first
    | (extract_lets +onlyGivenNames x; subst x)
    | exact rfl
    | with_reducible first | apply State.wr_kept | apply State.takeFree_kept | apply State.up_kept | apply KeptOut.next | exact Kept.refl _ _
    | ((with_reducible refine Kept.build ?_ ?_ ?_ ?_); rotate_left; exact rfl; exact rfl; exact rfl; fail_if_success split)
    | split

theorem State.bwBoundary_kept {ps : List Part} {s t : State} (h : Kept ps s t) (hp : partsIn [.cnt] ps = true) : Kept ps s (State.bwBoundary t) := by
  refine h.lift hp ?_
  clear h hp
  unfold State.bwBoundary
  repeat' first
    | (extract_lets +onlyGivenNames x; subst x)
    | with_reducible first | apply Kept.ite | exact Kept.refl _ _
    | ((with_reducible refine Kept.build ?_ ?_ ?_ ?_); rotate_left; exact rfl; exact rfl; exact rfl; fail_if_success split)

theorem execBwWindowWrite_kept {ps : List Part} {s t : State} (a1 a2) (h : Kept ps s t) (hp : partsIn [.evt, .reg 20, .reg 21] ps = true) : KeptOut ps s (execBwWindowWrite a1 a2 t) := by
  refine KeptOut.lift h hp ?_
  clear h hp
  unfold execBwWindowWrite
  repeat' first
    | with_reducible apply Kept.ite
    | exact rfl
    | with_reducible first | apply State.wr_kept | apply State.violation_kept | apply State.acts_kept | apply KeptOut.next | exact Kept.refl _ _

theorem execCounterRead_kept {ps : List Part} {s t : State} (a1 a2 a3) (h : Kept ps s t) (hp : partsIn [.cnt, .deferred, .evt, .outbox, .sep, .reg 19, .reg 21] ps = true) : KeptOut ps s (execCounterRead a1 a2 a3 t) := by
  refine KeptOut.lift h hp ?_
  clear h hp
  unfold execCounterRead
  repeat' first
    | with_reducible assumption
    | exact rfl
    | with_reducible first | apply State.replyOk_kept | apply State.replyErr_kept | apply State.admin_kept | apply State.emit_kept | apply KeptOut.next | exact Kept.refl _ _
    | split
    | (intro _; intros; try dsimp -zeta only)

theorem State.fieldAction_kept {ps : List Part} {s t : State} (a1 a2 a3) (h : Kept ps s t) (hp : partsIn [.axl, .cfg, .cmd, .cmp, .cnt, .cph, .deferred, .dram, .drv, .eth, .evt, .fov, .free, .fsp, .gch, .idn, .jnl, .lay, .outbox, .pwr, .regs, .sal, .sch, .sep, .trn, .win, .xpt] ps = true) : Kept ps s (State.fieldAction t a1 a2 a3) := by
  refine h.lift hp ?_
  clear h hp
  unfold State.fieldAction
  repeat' first
    | (extract_lets +onlyGivenNames x; subst x)
    | with_reducible apply Kept.ite
    | exact rfl
    | with_reducible first | apply execCounterPreload_kept | apply execEthDropClear_kept | apply execTrnReload_kept | apply execSlotCycle_kept | apply execSlotPeakClear_kept | apply execKeySlotRead_kept | apply execFallbackKeyLoad_kept | apply execSchParamRead_kept | apply execBankCommit_kept | apply execCfgReboot_kept | apply execBankAbort_kept | apply execQpContextRead_kept | apply execFspClear_kept | apply execWindowDescriptorRead_kept | apply execQpForceError_kept | apply execSchParamWrite_kept | apply execOwnerRevoke_kept | apply State.salGo_kept | apply execOwnerEnrol_kept | apply execSlotClear_kept | apply execCounterLiveRead_kept | apply execCmpVerifyClear_kept | apply execSetPowerOnRequest_kept | apply execSchParamReadLive_kept | apply execSetStopRequest_kept | apply execWindowViolationClear_kept | apply KeptOut.after | exact Kept.refl _ _
    | split

theorem State.fieldCommand_kept {ps : List Part} {s t : State} (a1 a2 a3 a4 a5) (h : Kept ps s t) (hp : partsIn [.cnt, .deferred, .evt, .gch, .outbox, .sch, .sep, .win, .xpt, .reg 4, .reg 5, .reg 6, .reg 9, .reg 19, .reg 20, .reg 21] ps = true) : KeptOpt ps s (fun u => u) (State.fieldCommand t a1 a2 a3 a4 a5) := by
  refine KeptOpt.lift h hp ?_
  clear h hp
  unfold State.fieldCommand
  repeat' first
    | exact rfl
    | with_reducible first | apply execEventRingHeadWrite_kept | apply execMailboxSubmit_kept | apply execCacheEnable_kept | apply execCacheDisable_kept | apply execShadowWrite_kept | apply execBwWindowWrite_kept | apply KeptOut.after | apply KeptOpt.some' | apply KeptOpt.none' | exact Kept.refl _ _
    | split

theorem State.fieldCommand_kept_eq {ps : List Part} {s t u : State} {a1 a2 a3 a4 a5} (e : State.fieldCommand t a1 a2 a3 a4 a5 = some u) (h : Kept ps s t) (hp : partsIn [.cnt, .deferred, .evt, .gch, .outbox, .sch, .sep, .win, .xpt, .reg 4, .reg 5, .reg 6, .reg 9, .reg 19, .reg 20, .reg 21] ps = true) : Kept ps s u := by
  have k := State.fieldCommand_kept (ps := ps) (s := s) (t := t) a1 a2 a3 a4 a5 h hp
  rw [e] at k
  exact k

theorem State.putField_kept {ps : List Part} {s t : State} (a1 a2 a3 a4 a5) (h : Kept ps s t) (hp : partsIn [.regs] ps = true) : Kept ps s (State.putField t a1 a2 a3 a4 a5) := by
  refine h.lift hp ?_
  clear h hp
  unfold State.putField
  repeat' first
    | with_reducible assumption
    | (extract_lets +onlyGivenNames x; refine Kept.cut x ?_ ?_ <;> first | (intro hx; clear_value x) | (unfold x; clear x))
    | exact rfl
    | with_reducible first | apply State.wrAny_kept | exact Kept.refl _ _
    | split

theorem State.writeField_kept {ps : List Part} {s t : State} (a1 a2 a3 a4) (h : Kept ps s t) (hp : partsIn [.axl, .cfg, .cmd, .cmp, .cnt, .cph, .deferred, .dram, .drv, .eth, .evt, .fov, .free, .fsp, .gch, .idn, .jnl, .lay, .outbox, .pwr, .regs, .sal, .sch, .sep, .trn, .win, .xpt] ps = true) : Kept ps s (State.writeField t a1 a2 a3 a4).1 := by
  refine h.lift hp ?_
  clear h hp
  unfold State.writeField
  repeat' first
    | (extract_lets +onlyGivenNames x; subst x)
    | exact rfl
    | with_reducible first | apply State.wrAny_kept | apply State.fieldAction_kept | apply State.putField_kept | refine State.fieldCommand_kept_eq ‹_› ?_ rfl | exact Kept.refl _ _
    | split

theorem State.writeField_kept_eq {ps : List Part} {s t u : State} {a1 a2 a3 a4} {x} (e : State.writeField t a1 a2 a3 a4 = (u, x)) (h : Kept ps s t) (hp : partsIn [.axl, .cfg, .cmd, .cmp, .cnt, .cph, .deferred, .dram, .drv, .eth, .evt, .fov, .free, .fsp, .gch, .idn, .jnl, .lay, .outbox, .pwr, .regs, .sal, .sch, .sep, .trn, .win, .xpt] ps = true) : Kept ps s u := by
  have k := State.writeField_kept (ps := ps) (s := s) (t := t) a1 a2 a3 a4 h hp
  rw [e] at k
  exact k

theorem State.writeBar_kept {ps : List Part} {s t : State} (a1 a2 a3 a4) (h : Kept ps s t) (hp : partsIn [.axl, .cfg, .cmd, .cmp, .cnt, .cph, .deferred, .dram, .drv, .eth, .evt, .fov, .free, .fsp, .gch, .idn, .jnl, .lay, .outbox, .pwr, .regs, .sal, .sch, .sep, .trn, .win, .xpt] ps = true) : Kept ps s (State.writeBar t a1 a2 a3 a4) := by
  refine h.lift hp ?_
  clear h hp
  unfold State.writeBar
  repeat' first
    | with_reducible assumption
    | (extract_lets +onlyGivenNames x; subst x)
    | with_reducible apply Kept.ite
    | exact rfl
    | with_reducible first | apply State.violation_kept | apply State.writeField_kept | exact Kept.refl _ _ | apply Kept.foldl1
    | (intro _; intros; try dsimp -zeta only)

theorem execRegisterWrite_kept {ps : List Part} {s t : State} (a1 a2 a3 a4) (h : Kept ps s t) (hp : partsIn [.axl, .cfg, .cmd, .cmp, .cnt, .cph, .deferred, .dram, .drv, .eth, .evt, .fov, .free, .fsp, .gch, .idn, .jnl, .lay, .outbox, .pwr, .regs, .sal, .sch, .sep, .trn, .win, .xpt] ps = true) : KeptOut ps s (execRegisterWrite a1 a2 a3 a4 t) := by
  refine KeptOut.lift h hp ?_
  clear h hp
  unfold execRegisterWrite
  repeat' first
    | with_reducible apply Kept.ite
    | exact rfl
    | with_reducible first | apply State.writeBar_kept | apply State.up_kept | apply KeptOut.next | exact Kept.refl _ _

theorem State.endSeq_kept {ps : List Part} {s t : State} (a1 a2) (h : Kept ps s t) (hp : partsIn [.cfg, .cmd, .cnt, .evt, .outbox, .sep, .reg 19, .reg 21] ps = true) : Kept ps s (State.endSeq t a1 a2) := by
  refine h.lift hp ?_
  clear h hp
  unfold State.endSeq
  repeat' first
    | with_reducible assumption
    | (extract_lets +onlyGivenNames x; refine Kept.cut x ?_ ?_ <;> first | (intro hx; clear_value x) | (unfold x; clear x))
    | (extract_lets +onlyGivenNames x; subst x)
    | exact rfl
    | with_reducible first | apply State.reply_kept | apply State.endTask_kept | apply State.emit_kept | exact Kept.refl _ _
    | ((with_reducible refine Kept.build ?_ ?_ ?_ ?_); rotate_left; exact rfl; exact rfl; exact rfl; fail_if_success split)

theorem State.keepSeq_kept {ps : List Part} {s t : State} (a1) (h : Kept ps s t) (hp : partsIn [.cmd] ps = true) : Kept ps s (State.keepSeq t a1) := by
  refine h.lift hp ?_
  clear h hp
  unfold State.keepSeq
  repeat' first
    | (extract_lets +onlyGivenNames x; subst x)
    | with_reducible first | apply Kept.ite | exact Kept.refl _ _
    | ((with_reducible refine Kept.build ?_ ?_ ?_ ?_); rotate_left; exact rfl; exact rfl; exact rfl; fail_if_success split)

theorem State.runSeq_kept {ps : List Part} {s t : State} (a1 a2) (h : Kept ps s t) (hp : partsIn [.axl, .cfg, .cmd, .cmp, .cnt, .cph, .deferred, .dram, .drv, .eth, .evt, .fov, .free, .fsp, .gch, .idn, .jnl, .lay, .outbox, .pwr, .regs, .sal, .sch, .sep, .trn, .win, .xpt] ps = true) : Kept ps s (State.runSeq a1 a2 t) := by
  refine h.lift hp ?_
  clear h hp
  have key : ∀ u, Kept [.axl, .cfg, .cmd, .cmp, .cnt, .cph, .deferred, .dram, .drv, .eth, .evt, .fov, .free, .fsp, .gch, .idn, .jnl, .lay, .outbox, .pwr, .regs, .sal, .sch, .sep, .trn, .win, .xpt] t u → Kept [.axl, .cfg, .cmd, .cmp, .cnt, .cph, .deferred, .dram, .drv, .eth, .evt, .fov, .free, .fsp, .gch, .idn, .jnl, .lay, .outbox, .pwr, .regs, .sal, .sch, .sep, .trn, .win, .xpt] t (State.runSeq a1 a2 u) := by
    induction a1 generalizing a2 with
    | nil => intro u hu; unfold State.runSeq; exact State.endSeq_kept _ _ hu rfl
    | cons e n ih =>
      intro u hu
      unfold State.runSeq
      repeat' first
        | with_reducible first | assumption | apply ih
        | (extract_lets +onlyGivenNames x; refine Kept.cut x ?_ ?_ <;> first | (intro hx; clear_value x) | (unfold x; clear x))
        | (extract_lets +onlyGivenNames x; subst x)
        | with_reducible apply Kept.ite
        | exact rfl
        | with_reducible first | apply State.writeBar_kept | apply State.keepSeq_kept | apply State.endSeq_kept
        | split
  exact key t (Kept.refl _ _)

theorem State.pollSeq_kept {ps : List Part} {s t : State} (a1) (h : Kept ps s t) (hp : partsIn [.axl, .cfg, .cmd, .cmp, .cnt, .cph, .deferred, .dram, .drv, .eth, .evt, .fov, .free, .fsp, .gch, .idn, .jnl, .lay, .outbox, .pwr, .regs, .sal, .sch, .sep, .trn, .win, .xpt] ps = true) : Kept ps s (State.pollSeq t a1) := by
  refine h.lift hp ?_
  clear h hp
  unfold State.pollSeq
  repeat' first
    | (extract_lets +onlyGivenNames x; subst x)
    | with_reducible apply Kept.ite
    | exact rfl
    | with_reducible first | apply State.runSeq_kept | apply State.keepSeq_kept | apply State.endSeq_kept | exact Kept.refl _ _
    | split

theorem State.pumpSeqs_kept {ps : List Part} {s t : State} (a1) (h : Kept ps s t) (hp : partsIn [.axl, .cfg, .cmd, .cmp, .cnt, .cph, .deferred, .dram, .drv, .eth, .evt, .fov, .free, .fsp, .gch, .idn, .jnl, .lay, .outbox, .pwr, .regs, .sal, .sch, .sep, .trn, .win, .xpt] ps = true) : Kept ps s (State.pumpSeqs a1 t) := by
  refine h.lift hp ?_
  clear h hp
  have key : ∀ u, Kept [.axl, .cfg, .cmd, .cmp, .cnt, .cph, .deferred, .dram, .drv, .eth, .evt, .fov, .free, .fsp, .gch, .idn, .jnl, .lay, .outbox, .pwr, .regs, .sal, .sch, .sep, .trn, .win, .xpt] t u → Kept [.axl, .cfg, .cmd, .cmp, .cnt, .cph, .deferred, .dram, .drv, .eth, .evt, .fov, .free, .fsp, .gch, .idn, .jnl, .lay, .outbox, .pwr, .regs, .sal, .sch, .sep, .trn, .win, .xpt] t (State.pumpSeqs a1 u) := by
    induction a1 with
    | zero => intro u hu; unfold State.pumpSeqs; exact hu
    | succ n ih =>
      intro u hu
      unfold State.pumpSeqs
      repeat' first
        | with_reducible first | assumption | apply ih
        | (extract_lets +onlyGivenNames x; refine Kept.cut x ?_ ?_ <;> first | (intro hx; clear_value x) | (unfold x; clear x))
        | with_reducible apply Kept.ite
        | exact rfl
        | with_reducible apply State.pollSeq_kept
        | split
  exact key t (Kept.refl _ _)

theorem execRegisterSequence_kept {ps : List Part} {s t : State} (a1 a2 a3 a4) (h : Kept ps s t) (hp : partsIn [.axl, .cfg, .cmd, .cmp, .cnt, .cph, .deferred, .dram, .drv, .eth, .evt, .fov, .free, .fsp, .gch, .idn, .jnl, .lay, .outbox, .pwr, .regs, .sal, .sch, .sep, .trn, .win, .xpt] ps = true) : KeptOut ps s (execRegisterSequence a1 a2 a3 a4 t) := by
  refine KeptOut.lift h hp ?_
  clear h hp
  unfold execRegisterSequence
  repeat' first
    | with_reducible assumption
    | (extract_lets +onlyGivenNames x; refine Kept.cut x ?_ ?_ <;> first | (intro hx; clear_value x) | (unfold x; clear x))
    | (extract_lets +onlyGivenNames x; subst x)
    | with_reducible apply Kept.ite
    | exact rfl
    | with_reducible first | apply State.runSeq_kept | apply State.replyErr_kept | apply State.startTask_kept | apply State.admin_kept | apply State.keepSeq_kept | apply KeptOut.next | exact Kept.refl _ _
    | split
    | (intro _; intros; try dsimp -zeta only)

theorem State.tick_kept {ps : List Part} {s t : State} (h : Kept ps s t) (hp : partsIn [.trn] ps = true) : Kept ps s (State.tick t) := by
  refine h.lift hp ?_
  clear h hp
  unfold State.tick
  repeat' first
    | (extract_lets +onlyGivenNames x; subst x)
    | with_reducible exact Kept.refl _ _
    | ((with_reducible refine Kept.build ?_ ?_ ?_ ?_); rotate_left; exact rfl; exact rfl; exact rfl; fail_if_success split)

theorem State.endAlign_kept {ps : List Part} {s t : State} (a1 a2 a3) (h : Kept ps s t) (hp : partsIn [.cfg, .cmd, .cph, .deferred, .evt, .fov, .idn, .jnl, .lay, .outbox, .pwr, .trn, .reg 0, .reg 1, .reg 2, .reg 7, .reg 12, .reg 14, .reg 20] ps = true) : Kept ps s (State.endAlign t a1 a2 a3) := by
  refine h.lift hp ?_
  clear h hp
  unfold State.endAlign
  repeat' first
    | with_reducible assumption
    | (extract_lets +onlyGivenNames x; refine Kept.cut x ?_ ?_ <;> first | (intro hx; clear_value x) | (unfold x; clear x))
    | (extract_lets +onlyGivenNames x; subst x)
    | with_reducible apply Kept.ite
    | exact rfl
    | with_reducible first | apply State.setDisc_kept | apply State.wr_kept | apply State.startFuse_kept | apply State.raise_kept | apply State.trnStatus_kept | apply State.bootDone_kept | exact Kept.refl _ _
    | ((with_reducible refine Kept.build ?_ ?_ ?_ ?_); rotate_left; exact rfl; exact rfl; exact rfl; fail_if_success split)

theorem State.commitBatch_kept {ps : List Part} {s t : State} (h : Kept ps s t) (hp : partsIn [.evt, .reg 4, .reg 5, .reg 6, .reg 9, .reg 20] ps = true) : Kept ps s (State.commitBatch t) := by
  refine h.lift hp ?_
  clear h hp
  unfold State.commitBatch
  repeat' first
    | with_reducible apply Kept.ite
    | exact rfl
    | with_reducible first | apply State.bankCommit_kept | exact Kept.refl _ _

theorem State.commitMasks_kept {ps : List Part} {s t : State} (h : Kept ps s t) (hp : partsIn [.evt, .gch, .sch, .win, .xpt, .reg 4, .reg 5, .reg 6, .reg 9, .reg 20] ps = true) : Kept ps s (State.commitMasks t) := by
  refine h.lift hp ?_
  clear h hp
  unfold State.commitMasks
  repeat' first
    | with_reducible assumption
    | (extract_lets +onlyGivenNames x; refine Kept.cut x ?_ ?_ <;> first | (intro hx; clear_value x) | (unfold x; clear x))
    | (extract_lets +onlyGivenNames x; subst x)
    | with_reducible apply Kept.ite
    | exact rfl
    | with_reducible first | apply State.bankCommit_kept | apply State.shadowPut_kept | exact Kept.refl _ _ | apply Kept.foldl
    | ((with_reducible refine Kept.build ?_ ?_ ?_ ?_); rotate_left; exact rfl; exact rfl; exact rfl; fail_if_success split)
    | split
    | (intro _; intros; try dsimp -zeta only)

theorem State.winChanged_kept {ps : List Part} {s t : State} (a1) (h : Kept ps s t) (hp : partsIn [.cnt, .evt, .outbox, .sep, .win, .reg 19, .reg 21] ps = true) : Kept ps s (State.winChanged t a1) := by
  refine h.lift hp ?_
  clear h hp
  unfold State.winChanged
  repeat' first
    | with_reducible assumption
    | (extract_lets +onlyGivenNames x; refine Kept.cut x ?_ ?_ <;> first | (intro hx; clear_value x) | (unfold x; clear x))
    | (extract_lets +onlyGivenNames x; subst x)
    | exact rfl
    | with_reducible first | apply State.reply_kept | exact Kept.refl _ _
    | ((with_reducible refine Kept.build ?_ ?_ ?_ ?_); rotate_left; exact rfl; exact rfl; exact rfl; fail_if_success split)
    | split

theorem State.swapWindows_kept {ps : List Part} {s t : State} (h : Kept ps s t) (hp : partsIn [.cnt, .evt, .outbox, .sep, .win, .reg 5, .reg 19, .reg 21] ps = true) : Kept ps s (State.swapWindows t) := by
  refine h.lift hp ?_
  clear h hp
  unfold State.swapWindows
  repeat' first
    | with_reducible assumption
    | (extract_lets +onlyGivenNames x; refine Kept.cut x ?_ ?_ <;> first | (intro hx; clear_value x) | (unfold x; clear x))
    | (extract_lets +onlyGivenNames x; subst x)
    | exact rfl
    | with_reducible first | apply State.winStatus_kept | apply State.winNextBatch_kept | apply State.winChanged_kept | exact Kept.refl _ _ | apply Kept.foldl
    | ((with_reducible refine Kept.build ?_ ?_ ?_ ?_); rotate_left; exact rfl; exact rfl; exact rfl; fail_if_success split)
    | (intro _; intros; try dsimp -zeta only)

theorem State.swapGates_kept {ps : List Part} {s t : State} (a1) (h : Kept ps s t) (hp : partsIn [.cnt, .evt, .sch, .reg 20, .reg 21] ps = true) : Kept ps s (State.swapGates t a1) := by
  refine h.lift hp ?_
  clear h hp
  unfold State.swapGates
  repeat' first
    | with_reducible assumption
    | (extract_lets +onlyGivenNames x; refine Kept.cut x ?_ ?_ <;> first | (intro hx; clear_value x) | (unfold x; clear x))
    | (extract_lets +onlyGivenNames x; subst x)
    | exact rfl
    | with_reducible first | apply State.raise_kept | apply State.count_kept | exact Kept.refl _ _
    | ((with_reducible refine Kept.build ?_ ?_ ?_ ?_); rotate_left; exact rfl; exact rfl; exact rfl; fail_if_success split)

theorem State.swapBank_kept {ps : List Part} {s t : State} (a1) (h : Kept ps s t) (hp : partsIn [.cnt, .evt, .gch, .outbox, .sch, .sep, .win, .xpt, .reg 4, .reg 5, .reg 6, .reg 9, .reg 19, .reg 20, .reg 21] ps = true) : Kept ps s (State.swapBank t a1) := by
  refine h.lift hp ?_
  clear h hp
  unfold State.swapBank
  repeat' first
    | with_reducible assumption
    | (extract_lets +onlyGivenNames x; refine Kept.cut x ?_ ?_ <;> first | (intro hx; clear_value x) | (unfold x; clear x))
    | (extract_lets +onlyGivenNames x; subst x)
    | exact rfl
    | with_reducible first | apply State.bankSwapped_kept | apply State.wr_kept | apply State.swapGates_kept | apply State.swapWindows_kept | exact Kept.refl _ _
    | ((with_reducible refine Kept.build ?_ ?_ ?_ ?_); rotate_left; exact rfl; exact rfl; exact rfl; fail_if_success split)
    | split

theorem State.catchBank_kept {ps : List Part} {s t : State} (a1) (h : Kept ps s t) (hp : partsIn [.gch, .sch, .win, .xpt, .reg 4, .reg 5, .reg 6, .reg 9] ps = true) : Kept ps s (State.catchBank t a1) := by
  refine h.lift hp ?_
  clear h hp
  unfold State.catchBank
  repeat' first
    | with_reducible assumption
    | (extract_lets +onlyGivenNames x; refine Kept.cut x ?_ ?_ <;> first | (intro hx; clear_value x) | (unfold x; clear x))
    | (extract_lets +onlyGivenNames x; subst x)
    | exact rfl
    | with_reducible first | apply State.setBankBit_kept | exact Kept.refl _ _
    | ((with_reducible refine Kept.build ?_ ?_ ?_ ?_); rotate_left; exact rfl; exact rfl; exact rfl; fail_if_success split)
    | split

theorem State.bankStep_kept {ps : List Part} {s t : State} (a1) (h : Kept ps s t) (hp : partsIn [.cnt, .evt, .gch, .outbox, .sch, .sep, .win, .xpt, .reg 4, .reg 5, .reg 6, .reg 9, .reg 19, .reg 20, .reg 21] ps = true) : Kept ps s (State.bankStep t a1) := by
  refine h.lift hp ?_
  clear h hp
  unfold State.bankStep
  repeat' first
    | with_reducible apply Kept.ite
    | exact rfl
    | with_reducible first | apply State.swapBank_kept | apply State.catchBank_kept | exact Kept.refl _ _

theorem State.bankSteps_kept {ps : List Part} {s t : State} (h : Kept ps s t) (hp : partsIn [.cnt, .evt, .gch, .outbox, .sch, .sep, .win, .xpt, .reg 4, .reg 5, .reg 6, .reg 9, .reg 19, .reg 20, .reg 21] ps = true) : Kept ps s (State.bankSteps t) := by
  refine h.lift hp ?_
  clear h hp
  unfold State.bankSteps
  repeat' first
    | with_reducible assumption
    | (extract_lets +onlyGivenNames x; refine Kept.cut x ?_ ?_ <;> first | (intro hx; clear_value x) | (unfold x; clear x))
    | (extract_lets +onlyGivenNames x; subst x)
    | with_reducible apply Kept.ite
    | exact rfl
    | with_reducible first | apply State.bankStep_kept | apply State.commitBatch_kept | apply State.commitMasks_kept | exact Kept.refl _ _ | apply Kept.foldl
    | ((with_reducible refine Kept.build ?_ ?_ ?_ ?_); rotate_left; exact rfl; exact rfl; exact rfl; fail_if_success split)
    | (intro _; intros; try dsimp -zeta only)

theorem State.wrJob_kept {ps : List Part} {s t : State} (b i j v) (h : Kept ps s t) (hp : partsIn [.reg 0] ps = true) : Kept ps s (State.wr t (jobBlock b).1 i j v) := by
  refine State.wr_kept _ _ _ _ h (within_trans (b := [.reg 0]) ?_ hp) ?_
  · cases b <;> exact rfl
  · cases b <;> exact rfl

theorem State.jobStep_kept {ps : List Part} {s t : State} (a1 a2) (h : Kept ps s t) (hp : partsIn [.cfg, .cmd, .cnt, .deferred, .evt, .fov, .jnl, .outbox, .pwr, .sep, .trn, .reg 0, .reg 1, .reg 7, .reg 19, .reg 20, .reg 21] ps = true) : Kept ps s (State.jobStep t a1 a2) := by
  refine h.lift hp ?_
  clear h hp
  unfold State.jobStep
  repeat' first
    | with_reducible assumption
    | (extract_lets +onlyGivenNames x; refine Kept.cut x ?_ ?_ <;> first | (intro hx; clear_value x) | (unfold x; clear x))
    | (extract_lets +onlyGivenNames x; subst x)
    | with_reducible apply Kept.ite
    | exact rfl
    | with_reducible first | apply State.wrJob_kept | apply State.withdraw_kept | apply State.raise_kept | exact Kept.refl _ _
    | ((with_reducible refine Kept.build ?_ ?_ ?_ ?_); rotate_left; exact rfl; exact rfl; exact rfl; fail_if_success split)

theorem State.jobSteps_kept {ps : List Part} {s t : State} (a1) (h : Kept ps s t) (hp : partsIn [.cfg, .cmd, .cnt, .deferred, .evt, .fov, .jnl, .outbox, .pwr, .sep, .trn, .reg 0, .reg 1, .reg 7, .reg 19, .reg 20, .reg 21] ps = true) : Kept ps s (State.jobSteps t a1) := by
  refine h.lift hp ?_
  clear h hp
  unfold State.jobSteps
  repeat' first
    | with_reducible assumption
    | (extract_lets +onlyGivenNames x; refine Kept.cut x ?_ ?_ <;> first | (intro hx; clear_value x) | (unfold x; clear x))
    | exact rfl
    | with_reducible first | apply State.jobStep_kept | exact Kept.refl _ _ | apply Kept.foldl
    | (intro _; intros; try dsimp -zeta only)

theorem State.fspJob_kept {ps : List Part} {s t : State} (h : Kept ps s t) (hp : partsIn [.evt, .fsp, .sch, .reg 8, .reg 20] ps = true) : Kept ps s (State.fspJob t) := by
  refine h.lift hp ?_
  clear h hp
  unfold State.fspJob
  repeat' first
    | with_reducible assumption
    | (extract_lets +onlyGivenNames x; refine Kept.cut x ?_ ?_ <;> first | (intro hx; clear_value x) | (unfold x; clear x))
    | (extract_lets +onlyGivenNames x; subst x)
    | exact rfl
    | with_reducible first | apply State.poolBoundary_kept | exact Kept.refl _ _ | apply Kept.foldIdx
    | ((with_reducible refine Kept.build ?_ ?_ ?_ ?_); rotate_left; exact rfl; exact rfl; exact rfl; fail_if_success split)
    | (intro _; intros; try dsimp -zeta only)

theorem State.levelStatus_kept {ps : List Part} {s t : State} (h : Kept ps s t) (hp : partsIn [.cnt, .reg 6, .reg 7, .reg 21] ps = true) : Kept ps s (State.levelStatus t) := by
  refine h.lift hp ?_
  clear h hp
  unfold State.levelStatus
  repeat' first
    | with_reducible assumption
    | (extract_lets +onlyGivenNames x; refine Kept.cut x ?_ ?_ <;> first | (intro hx; clear_value x) | (unfold x; clear x))
    | with_reducible apply Kept.ite
    | (simp only [List.all_cons, List.all_nil, Bool.and_true, Bool.and_eq_true]; (repeat' apply And.intro) <;> rfl)
    | exact rfl
    | with_reducible first | apply State.count_kept | apply State.wrs_kept | exact Kept.refl _ _

theorem State.grantStep_kept {ps : List Part} {s t : State} (a1) (h : Kept ps s t) (hp : partsIn [.cnt, .sch, .reg 6, .reg 21] ps = true) : Kept ps s (State.grantStep t a1) := by
  refine h.lift hp ?_
  clear h hp
  unfold State.grantStep
  repeat' first
    | with_reducible assumption
    | (extract_lets +onlyGivenNames x; refine Kept.cut x ?_ ?_ <;> first | (intro hx; clear_value x) | (unfold x; clear x))
    | (extract_lets +onlyGivenNames x; subst x)
    | with_reducible apply Kept.ite
    | (simp only [List.all_cons, List.all_nil, Bool.and_true, Bool.and_eq_true]; (repeat' apply And.intro) <;> rfl)
    | exact rfl
    | with_reducible first | apply State.count_kept | apply State.wrs_kept | exact Kept.refl _ _
    | ((with_reducible refine Kept.build ?_ ?_ ?_ ?_); rotate_left; exact rfl; exact rfl; exact rfl; fail_if_success split)

theorem State.fill_kept {ps : List Part} {s t : State} (a1 a2 a3 a4) (h : Kept ps s t) (hp : partsIn [.sch] ps = true) : Kept ps s (State.fill t a1 a2 a3 a4) := by
  refine h.lift hp ?_
  clear h hp
  unfold State.fill
  repeat' first
    | (extract_lets +onlyGivenNames x; subst x)
    | with_reducible exact Kept.refl _ _
    | ((with_reducible refine Kept.build ?_ ?_ ?_ ?_); rotate_left; exact rfl; exact rfl; exact rfl; fail_if_success split)

theorem State.fillPolicer_kept {ps : List Part} {s t : State} (a1 a2 a3) (h : Kept ps s t) (hp : partsIn [.sch] ps = true) : Kept ps s (State.fillPolicer t a1 a2 a3) := by
  refine h.lift hp ?_
  clear h hp
  unfold State.fillPolicer
  repeat' first
    | with_reducible assumption
    | (extract_lets +onlyGivenNames x; refine Kept.cut x ?_ ?_ <;> first | (intro hx; clear_value x) | (unfold x; clear x))
    | (extract_lets +onlyGivenNames x; subst x)
    | with_reducible apply Kept.ite
    | exact rfl
    | with_reducible first | apply State.fill_kept | exact Kept.refl _ _

theorem State.fillEntry_kept {ps : List Part} {s t : State} (a1 a2) (h : Kept ps s t) (hp : partsIn [.sch] ps = true) : Kept ps s (State.fillEntry t a1 a2) := by
  refine h.lift hp ?_
  clear h hp
  unfold State.fillEntry
  repeat' first
    | with_reducible assumption
    | (extract_lets +onlyGivenNames x; refine Kept.cut x ?_ ?_ <;> first | (intro hx; clear_value x) | (unfold x; clear x))
    | (extract_lets +onlyGivenNames x; subst x)
    | with_reducible apply Kept.ite
    | exact rfl
    | with_reducible first | apply State.fillPolicer_kept | apply State.fill_kept | exact Kept.refl _ _

theorem State.gateSteps_kept {ps : List Part} {s t : State} (h : Kept ps s t) (hp : partsIn [.sch] ps = true) : Kept ps s (State.gateSteps t) := by
  refine h.lift hp ?_
  clear h hp
  unfold State.gateSteps
  repeat' first
    | with_reducible assumption
    | (extract_lets +onlyGivenNames x; subst x)
    | with_reducible first | exact Kept.refl _ _ | apply Kept.foldIdx
    | ((with_reducible refine Kept.build ?_ ?_ ?_ ?_); rotate_left; exact rfl; exact rfl; exact rfl; fail_if_success split)
    | (intro _; intros; try dsimp -zeta only)

theorem State.schJob_kept {ps : List Part} {s t : State} (a1) (h : Kept ps s t) (hp : partsIn [.sch, .trn] ps = true) : Kept ps s (State.schJob t a1) := by
  refine h.lift hp ?_
  clear h hp
  unfold State.schJob
  repeat' first
    | with_reducible assumption
    | (extract_lets +onlyGivenNames x; refine Kept.cut x ?_ ?_ <;> first | (intro hx; clear_value x) | (unfold x; clear x))
    | (extract_lets +onlyGivenNames x; subst x)
    | with_reducible apply Kept.ite
    | exact rfl
    | with_reducible first | apply State.gateSteps_kept | apply State.fillEntry_kept | exact Kept.refl _ _ | apply Kept.foldl
    | ((with_reducible refine Kept.build ?_ ?_ ?_ ?_); rotate_left; exact rfl; exact rfl; exact rfl; fail_if_success split)
    | (intro _; intros; try dsimp -zeta only)

theorem State.xptJob_kept {ps : List Part} {s t : State} (a1) (h : Kept ps s t) (hp : partsIn [.xpt] ps = true) : Kept ps s (State.xptJob t a1) := by
  refine h.lift hp ?_
  clear h hp
  unfold State.xptJob
  repeat' first
    | (extract_lets +onlyGivenNames x; subst x)
    | with_reducible first | apply Kept.ite | exact Kept.refl _ _
    | ((with_reducible refine Kept.build ?_ ?_ ?_ ?_); rotate_left; exact rfl; exact rfl; exact rfl; fail_if_success split)

theorem State.qpStep_kept {ps : List Part} {s t : State} (a1) (h : Kept ps s t) (hp : partsIn [.cnt, .fsp, .outbox, .xpt, .reg 21] ps = true) : Kept ps s (State.qpStep t a1) := by
  refine h.lift hp ?_
  clear h hp
  unfold State.qpStep
  repeat' first
    | with_reducible assumption
    | (extract_lets +onlyGivenNames x; refine Kept.cut x ?_ ?_ <;> first | (intro hx; clear_value x) | (unfold x; clear x))
    | with_reducible apply Kept.ite
    | exact rfl
    | with_reducible first | apply State.greet_kept | apply State.pumpSq_kept | apply State.modQp_kept | apply State.decrefs_kept | apply State.emit_kept | exact Kept.refl _ _
    | split

theorem State.netSteps_kept {ps : List Part} {s t : State} (h : Kept ps s t) (hp : partsIn [.cnt, .eth, .evt, .fsp, .outbox, .sch, .xpt, .reg 3, .reg 4, .reg 5, .reg 6, .reg 9, .reg 20, .reg 21] ps = true) : Kept ps s (State.netSteps t) := by
  refine h.lift hp ?_
  clear h hp
  unfold State.netSteps
  repeat' first
    | with_reducible assumption
    | (extract_lets +onlyGivenNames x; refine Kept.cut x ?_ ?_ <;> first | (intro hx; clear_value x) | (unfold x; clear x))
    | with_reducible apply Kept.ite
    | exact rfl
    | with_reducible first | apply State.wr_kept | apply State.handleBatch_kept | apply State.qpStep_kept | exact Kept.refl _ _ | apply Kept.foldl | apply Kept.foldIdx
    | ((with_reducible refine Kept.build ?_ ?_ ?_ ?_); rotate_left; exact rfl; exact rfl; exact rfl; fail_if_success split)
    | (intro _; intros; try dsimp -zeta only)

theorem State.creditJob_kept {ps : List Part} {s t : State} (a1) (h : Kept ps s t) (hp : partsIn [.axl, .cnt, .sal, .reg 15, .reg 21] ps = true) : Kept ps s (State.creditJob t a1) := by
  refine h.lift hp ?_
  clear h hp
  unfold State.creditJob
  repeat' first
    | with_reducible assumption
    | (extract_lets +onlyGivenNames x; refine Kept.cut x ?_ ?_ <;> first | (intro hx; clear_value x) | (unfold x; clear x))
    | (extract_lets +onlyGivenNames x; subst x)
    | with_reducible apply Kept.ite
    | exact rfl
    | with_reducible first | apply State.axlCredits_kept | exact Kept.refl _ _
    | ((with_reducible refine Kept.build ?_ ?_ ?_ ?_); rotate_left; exact rfl; exact rfl; exact rfl; fail_if_success split)

theorem State.journalCredit_kept {ps : List Part} {s t : State} (h : Kept ps s t) (hp : partsIn [.cnt, .evt, .jnl, .reg 14, .reg 20, .reg 21] ps = true) : Kept ps s (State.journalCredit t) := by
  refine h.lift hp ?_
  clear h hp
  unfold State.journalCredit
  repeat' first
    | with_reducible assumption
    | (extract_lets +onlyGivenNames x; refine Kept.cut x ?_ ?_ <;> first | (intro hx; clear_value x) | (unfold x; clear x))
    | (extract_lets +onlyGivenNames x; subst x)
    | with_reducible apply Kept.ite
    | exact rfl
    | with_reducible first | apply State.bump_kept | apply State.judgeStall_kept | apply State.wr_kept | apply State.raise_kept | apply State.count_kept | exact Kept.refl _ _
    | ((with_reducible refine Kept.build ?_ ?_ ?_ ?_); rotate_left; exact rfl; exact rfl; exact rfl; fail_if_success split)
    | split

theorem State.creditSteps_kept {ps : List Part} {s t : State} (a1) (h : Kept ps s t) (hp : partsIn [.axl, .cnt, .cph, .evt, .jnl, .sal, .reg 14, .reg 15, .reg 20, .reg 21] ps = true) : Kept ps s (State.creditSteps t a1) := by
  refine h.lift hp ?_
  clear h hp
  unfold State.creditSteps
  repeat' first
    | with_reducible assumption
    | (extract_lets +onlyGivenNames x; refine Kept.cut x ?_ ?_ <;> first | (intro hx; clear_value x) | (unfold x; clear x))
    | (extract_lets +onlyGivenNames x; subst x)
    | exact rfl
    | with_reducible first | apply State.creditJob_kept | apply State.journalCredit_kept | exact Kept.refl _ _
    | ((with_reducible refine Kept.build ?_ ?_ ?_ ?_); rotate_left; exact rfl; exact rfl; exact rfl; fail_if_success split)

theorem State.cntJob_kept {ps : List Part} {s t : State} (a1) (h : Kept ps s t) (hp : partsIn [.cnt, .reg 21] ps = true) : Kept ps s (State.cntJob t a1) := by
  refine h.lift hp ?_
  clear h hp
  unfold State.cntJob
  repeat' first
    | with_reducible assumption
    | (extract_lets +onlyGivenNames x; refine Kept.cut x ?_ ?_ <;> first | (intro hx; clear_value x) | (unfold x; clear x))
    | with_reducible apply Kept.ite
    | exact rfl
    | with_reducible first | apply State.startSnapshot_kept | apply State.bwBoundary_kept | apply State.bwAdd_kept | apply State.count_kept | exact Kept.refl _ _ | apply Kept.foldl
    | (intro _; intros; try dsimp -zeta only)

theorem runLater_kept {ps : List Part} {s t : State} (a1) (h : Kept ps s t) (hp : partsIn [.axl, .cfg, .cmd, .cmp, .cnt, .cph, .deferred, .dram, .drv, .eth, .evt, .fov, .free, .fsp, .gch, .idn, .jnl, .lay, .outbox, .pwr, .regs, .sal, .sch, .sep, .trn, .win, .xpt] ps = true) : KeptOut ps s (runLater a1 t) := by
  refine KeptOut.lift h hp ?_
  clear h hp
  unfold runLater
  repeat' first
    | exact rfl
    | with_reducible first | apply execZoneOpen_kept | apply execKeepAlive_kept | apply execAuthenticate_kept | apply execPropertySet_kept | apply execSetFeatures_kept | apply execRdmaWriteRx_kept | apply execPropertyGet_kept | apply execRdmaReadRequestRx_kept | apply execWriteZeroes_kept | apply execNamespaceDelete_kept | apply execEventRead_kept | apply execGetFeatures_kept | apply execZoneManagementReceive_kept | apply execDriveRelease_kept | apply execZoneClose_kept | apply execMemberFail_kept | apply execRdmaReadResponseRx_kept | apply execNvmRead_kept | apply execKeyLoad_kept | apply execWindowClose_kept | apply execFirmwareCommitActivate_kept | apply execNamespaceCreate_kept | apply execFirmwareImageDownload_kept | apply execKeyActivate_kept | apply execWindowCommit_kept | apply execKeyDestroy_kept | apply execReshapeCancel_kept | apply execIdentify_kept | apply execFirmwareCommitStore_kept | apply execReshapeStart_kept | apply execSendWithInvalidateRx_kept | apply execMemberReadDone_kept | apply execSvnFloorRaise_kept | apply execCounterRead_kept | apply execCipherJob_kept | apply execAttestationQuote_kept | apply execDatasetManagement_kept | apply execAsyncEventRequest_kept | apply execAbort_kept | apply execSendRx_kept | apply execSelfTestShort_kept | apply execRegisterSequence_kept | apply execGetChallenge_kept | apply execWindowOpen_kept | apply execSelfTestAbort_kept | apply execNamespaceResize_kept | apply execFlush_kept | apply execServiceRequest_kept | apply execSelfTestExtended_kept | apply execFirmwareCommitAtReset_kept | apply execZoneFinish_kept | apply execGetLogPage_kept | apply execHandOver_kept | apply execZoneReset_kept | apply execReleaseRequest_kept | apply execZoneAppend_kept | apply execNvmWrite_kept | apply KeptOut.next | exact Kept.refl _ _
    | split

theorem State.memberGone_kept {ps : List Part} {s t : State} (a1) (h : Kept ps s t) (hp : partsIn [.axl, .cmd, .cmp, .cnt, .cph, .deferred, .drv, .evt, .fov, .fsp, .gch, .jnl, .lay, .outbox, .sal, .win, .reg 7, .reg 9, .reg 13, .reg 14, .reg 16, .reg 20, .reg 21] ps = true) : Kept ps s (State.memberGone t a1) := by
  refine h.lift hp ?_
  clear h hp
  unfold State.memberGone
  repeat' first
    | with_reducible assumption
    | (extract_lets +onlyGivenNames x; refine Kept.cut x ?_ ?_ <;> first | (intro hx; clear_value x) | (unfold x; clear x))
    | exact rfl
    | with_reducible first | apply State.tallyWrite_kept | apply State.dropTargets_kept | exact Kept.refl _ _ | apply Kept.foldl
    | split
    | (intro _; intros; try dsimp -zeta only)

theorem State.drvStep_kept {ps : List Part} {s t : State} (a1 a2 a3) (h : Kept ps s t) (hp : partsIn [.axl, .cmd, .cmp, .cnt, .cph, .deferred, .drv, .evt, .fov, .fsp, .gch, .jnl, .lay, .outbox, .pwr, .sal, .win, .reg 7, .reg 9, .reg 13, .reg 14, .reg 15, .reg 16, .reg 20, .reg 21] ps = true) : Kept ps s (State.drvStep t a1 a2 a3) := by
  refine h.lift hp ?_
  clear h hp
  unfold State.drvStep
  repeat' first
    | with_reducible assumption
    | (extract_lets +onlyGivenNames x; refine Kept.cut x ?_ ?_ <;> first | (intro hx; clear_value x) | (unfold x; clear x))
    | (extract_lets +onlyGivenNames x; subst x)
    | with_reducible apply Kept.ite
    | exact rfl
    | with_reducible first | apply State.anchorLeaves_kept | apply State.memberGone_kept | apply State.applyDrv_kept | exact Kept.refl _ _

theorem State.posStep_kept {ps : List Part} {s t : State} (a1 a2 a3) (h : Kept ps s t) (hp : partsIn [.axl, .cmd, .cmp, .cnt, .cph, .deferred, .drv, .evt, .fov, .fsp, .gch, .jnl, .lay, .outbox, .sal, .win, .reg 7, .reg 9, .reg 10, .reg 13, .reg 14, .reg 15, .reg 16, .reg 20, .reg 21] ps = true) : Kept ps s (State.posStep t a1 a2 a3) := by
  refine h.lift hp ?_
  clear h hp
  unfold State.posStep
  repeat' first
    | with_reducible assumption
    | (extract_lets +onlyGivenNames x; refine Kept.cut x ?_ ?_ <;> first | (intro hx; clear_value x) | (unfold x; clear x))
    | (extract_lets +onlyGivenNames x; subst x)
    | with_reducible apply Kept.ite
    | exact rfl
    | with_reducible first | apply State.applyPos_kept | apply State.salSlot_kept | apply State.memberGone_kept | exact Kept.refl _ _

theorem State.resettle_kept {ps : List Part} {s t : State} (h : Kept ps s t) (hp : partsIn [.axl, .cmd, .cnt, .cph, .deferred, .evt, .fov, .fsp, .gch, .jnl, .lay, .outbox, .win, .reg 7, .reg 9, .reg 13, .reg 14, .reg 16, .reg 20, .reg 21] ps = true) : Kept ps s (State.resettle t) := by
  refine h.lift hp ?_
  clear h hp
  unfold State.resettle
  repeat' first
    | with_reducible assumption
    | (extract_lets +onlyGivenNames x; refine Kept.cut x ?_ ?_ <;> first | (intro hx; clear_value x) | (unfold x; clear x))
    | exact rfl
    | with_reducible first | apply State.settle_kept | apply State.completeWrite_kept | apply State.tallySettle_kept | exact Kept.refl _ _ | apply Kept.foldl
    | (intro _; intros; try dsimp -zeta only)

theorem State.holdStep_kept {ps : List Part} {s t : State} (h : Kept ps s t) (hp : partsIn [.cfg, .cmd, .cnt, .deferred, .evt, .fov, .outbox, .pwr, .sep, .reg 1, .reg 7, .reg 19, .reg 20, .reg 21] ps = true) : Kept ps s (State.holdStep t) := by
  refine h.lift hp ?_
  clear h hp
  unfold State.holdStep
  repeat' first
    | (extract_lets +onlyGivenNames x; subst x)
    | with_reducible apply Kept.ite
    | exact rfl
    | with_reducible first | apply State.abandonActivation_kept | apply State.setDevState_kept | exact Kept.refl _ _
    | ((with_reducible refine Kept.build ?_ ?_ ?_ ?_); rotate_left; exact rfl; exact rfl; exact rfl; fail_if_success split)
    | split

theorem State.resumeStep_kept {ps : List Part} {s t : State} (h : Kept ps s t) (hp : partsIn [.cfg, .cmd, .cnt, .deferred, .evt, .fov, .fsp, .outbox, .pwr, .sep, .win, .reg 1, .reg 7, .reg 19, .reg 20, .reg 21] ps = true) : Kept ps s (State.resumeStep t) := by
  refine h.lift hp ?_
  clear h hp
  unfold State.resumeStep
  repeat' first
    | with_reducible assumption
    | (extract_lets +onlyGivenNames x; refine Kept.cut x ?_ ?_ <;> first | (intro hx; clear_value x) | (unfold x; clear x))
    | (extract_lets +onlyGivenNames x; subst x)
    | with_reducible apply Kept.ite
    | exact rfl
    | with_reducible first | apply State.settleFlushes_kept | apply State.replyOk_kept | apply State.setDevState_kept | apply State.endTask_kept | exact Kept.refl _ _
    | ((with_reducible refine Kept.build ?_ ?_ ?_ ?_); rotate_left; exact rfl; exact rfl; exact rfl; fail_if_success split)
    | split

theorem State.effect_kept {ps : List Part} {s t : State} (a1 a2 a3) (h : Kept ps s t) (hp : partsIn [.axl, .cfg, .cmd, .cmp, .cnt, .cph, .deferred, .dram, .drv, .eth, .evt, .fov, .free, .fsp, .gch, .idn, .jnl, .lay, .outbox, .pwr, .regs, .sal, .sch, .sep, .trn, .win, .xpt] ps = true) : Kept ps s (State.effect a1 a2 t a3) := by
  refine h.lift hp ?_
  clear h hp
  unfold State.effect
  repeat' first
    | with_reducible assumption
    | (extract_lets +onlyGivenNames x; refine Kept.cut x ?_ ?_ <;> first | (intro hx; clear_value x) | (unfold x; clear x))
    | with_reducible apply Kept.ite
    | (simp only [List.all_cons, List.all_nil, Bool.and_true, Bool.and_eq_true]; (repeat' apply And.intro) <;> rfl)
    | exact rfl
    | with_reducible first | apply State.holdStep_kept | apply State.slotCleared_kept | apply State.failRole_kept | apply State.modChan_kept | apply State.depose_kept | apply State.abandonActivation_kept | apply State.moveBoundary_kept | apply State.updateDemand_kept | apply State.replyOk_kept | apply State.abandonMailbox_kept | apply State.cacheSwitch_kept | apply State.wr_kept | apply State.replyErr_kept | apply State.qpToErr_kept | apply State.posStep_kept | apply State.preloadCounter_kept | apply runLater_kept | apply State.endAlign_kept | apply State.defer_kept | apply State.resettle_kept | apply State.beginStop_kept | apply State.drvStep_kept | apply State.keyCurrent_kept | apply State.shutdownSet_kept | apply State.setDevState_kept | apply State.sampleQuotes_kept | apply State.activateRole_kept | apply State.endContainment_kept | apply State.wrs_kept | apply State.resumeStep_kept | apply State.holdForHandOver_kept | apply KeptOut.after | exact Kept.refl _ _ | apply Kept.foldIdx
    | split
    | (intro _; intros; try dsimp -zeta only)

theorem State.effects_kept {ps : List Part} {s t : State} (a1 a2) (h : Kept ps s t) (hp : partsIn [.axl, .cfg, .cmd, .cmp, .cnt, .cph, .deferred, .dram, .drv, .eth, .evt, .fov, .free, .fsp, .gch, .idn, .jnl, .lay, .outbox, .pwr, .regs, .sal, .sch, .sep, .trn, .win, .xpt] ps = true) : Kept ps s (State.effects t a1 a2) := by
  refine h.lift hp ?_
  clear h hp
  unfold State.effects
  repeat' first
    | with_reducible assumption
    | (extract_lets +onlyGivenNames x; subst x)
    | exact rfl
    | with_reducible first | apply State.effect_kept | exact Kept.refl _ _ | apply Kept.foldl
    | ((with_reducible refine Kept.build ?_ ?_ ?_ ?_); rotate_left; exact rfl; exact rfl; exact rfl; fail_if_success split)
    | (intro _; intros; try dsimp -zeta only)

theorem State.replicaWaits_kept {ps : List Part} {s t : State} (h : Kept ps s t) (hp : partsIn [.cmd, .cnt, .fsp, .outbox, .win, .reg 7, .reg 21] ps = true) : Kept ps s (State.replicaWaits t) := by
  refine h.lift hp ?_
  clear h hp
  unfold State.replicaWaits
  repeat' first
    | with_reducible first | assumption | apply Kept.ite
    | exact rfl
    | with_reducible first | apply State.modEntry_kept | apply State.completeWrite_kept | exact Kept.refl _ _ | apply Kept.foldl
    | (intro _; intros; try dsimp -zeta only)

theorem State.readSteps_kept {ps : List Part} {s t : State} (h : Kept ps s t) (hp : partsIn [.cnt, .fsp, .gch, .lay, .outbox, .reg 8, .reg 9, .reg 16, .reg 21] ps = true) : Kept ps s (State.readSteps t) := by
  refine h.lift hp ?_
  clear h hp
  unfold State.readSteps
  repeat' first
    | with_reducible assumption
    | (extract_lets +onlyGivenNames x; refine Kept.cut x ?_ ?_ <;> first | (intro hx; clear_value x) | (unfold x; clear x))
    | (extract_lets +onlyGivenNames x; subst x)
    | exact rfl
    | with_reducible first | apply State.endRead_kept | apply State.startJob_kept | exact Kept.refl _ _ | apply Kept.foldl
    | (intro _; intros; try dsimp -zeta only)

theorem State.selfTestStep_kept {ps : List Part} {s t : State} (h : Kept ps s t) (hp : partsIn [.cmd, .deferred, .evt, .fov, .lay, .outbox, .pwr, .reg 20] ps = true) : Kept ps s (State.selfTestStep t) := by
  refine h.lift hp ?_
  clear h hp
  unfold State.selfTestStep
  repeat' first
    | with_reducible assumption
    | (extract_lets +onlyGivenNames x; refine Kept.cut x ?_ ?_ <;> first | (intro hx; clear_value x) | (unfold x; clear x))
    | (extract_lets +onlyGivenNames x; subst x)
    | with_reducible apply Kept.ite
    | exact rfl
    | with_reducible first | apply State.requestSet_kept | apply State.defer_kept | exact Kept.refl _ _ | apply Kept.foldl
    | ((with_reducible refine Kept.build ?_ ?_ ?_ ?_); rotate_left; exact rfl; exact rfl; exact rfl; fail_if_success split)
    | split
    | (intro _; intros; try dsimp -zeta only)

theorem State.setSteps_kept {ps : List Part} {s t : State} (h : Kept ps s t) (hp : partsIn [.cnt, .deferred, .evt, .fov, .lay, .outbox, .pwr, .reg 20, .reg 21] ps = true) : Kept ps s (State.setSteps t) := by
  refine h.lift hp ?_
  clear h hp
  unfold State.setSteps
  repeat' first
    | with_reducible assumption
    | (extract_lets +onlyGivenNames x; refine Kept.cut x ?_ ?_ <;> first | (intro hx; clear_value x) | (unfold x; clear x))
    | with_reducible apply Kept.ite
    | exact rfl
    | with_reducible first | apply State.stopStep_kept | apply State.modSet_kept | apply State.readyStep_kept | exact Kept.refl _ _ | apply Kept.foldIdx
    | (intro _; intros; try dsimp -zeta only)

theorem State.labelStep_kept {ps : List Part} {s t : State} (a1) (h : Kept ps s t) (hp : partsIn [.axl, .drv, .lay, .outbox] ps = true) : Kept ps s (State.labelStep t a1) := by
  refine h.lift hp ?_
  clear h hp
  unfold State.labelStep
  repeat' first
    | (extract_lets +onlyGivenNames x; subst x)
    | with_reducible apply Kept.ite
    | exact rfl
    | with_reducible first | apply State.labelNew_kept | exact Kept.refl _ _

theorem State.deallocStep_kept {ps : List Part} {s t : State} (a1) (h : Kept ps s t) (hp : partsIn [.lay, .outbox] ps = true) : Kept ps s (State.deallocStep t a1) := by
  refine h.lift hp ?_
  clear h hp
  unfold State.deallocStep
  repeat' first
    | with_reducible assumption
    | (extract_lets +onlyGivenNames x; refine Kept.cut x ?_ ?_ <;> first | (intro hx; clear_value x) | (unfold x; clear x))
    | (extract_lets +onlyGivenNames x; subst x)
    | with_reducible apply Kept.ite
    | exact rfl
    | with_reducible first | apply State.modGrp_kept | apply State.emit_kept | exact Kept.refl _ _ | apply Kept.foldIdx
    | (intro _; intros; try dsimp -zeta only)

theorem State.storeSteps_kept {ps : List Part} {s t : State} (h : Kept ps s t) (hp : partsIn [.axl, .cmd, .cmp, .cnt, .cph, .deferred, .drv, .evt, .fov, .fsp, .gch, .jnl, .lay, .outbox, .pwr, .sal, .win, .reg 7, .reg 8, .reg 9, .reg 10, .reg 12, .reg 13, .reg 14, .reg 15, .reg 16, .reg 20, .reg 21] ps = true) : Kept ps s (State.storeSteps t) := by
  refine h.lift hp ?_
  clear h hp
  unfold State.storeSteps
  repeat' first
    | with_reducible assumption
    | (extract_lets +onlyGivenNames x; refine Kept.cut x ?_ ?_ <;> first | (intro hx; clear_value x) | (unfold x; clear x))
    | exact rfl
    | with_reducible first | apply State.labelStep_kept | apply State.prepareStep_kept | apply State.deallocStep_kept | apply State.setSteps_kept | apply State.tallyAdvance_kept | apply State.readSteps_kept | apply State.resealStep_kept | apply State.compactStep_kept | apply State.selfTestStep_kept | apply State.replicaWaits_kept | apply State.salAdvance_kept | apply State.fullCheck_kept | apply State.seekTargets_kept | exact Kept.refl _ _ | apply Kept.foldIdx
    | (intro _; intros; try dsimp -zeta only)

theorem State.pairSteps_kept {ps : List Part} {s t : State} (h : Kept ps s t) (hp : partsIn [.axl, .cfg, .cmd, .cmp, .cnt, .cph, .deferred, .drv, .evt, .fov, .free, .fsp, .gch, .jnl, .lay, .outbox, .pwr, .sch, .sep, .win, .xpt, .reg 1, .reg 4, .reg 5, .reg 6, .reg 7, .reg 8, .reg 9, .reg 12, .reg 13, .reg 14, .reg 15, .reg 16, .reg 18, .reg 19, .reg 20, .reg 21] ps = true) : Kept ps s (State.pairSteps t) := by
  refine h.lift hp ?_
  clear h hp
  unfold State.pairSteps
  repeat' first
    | with_reducible assumption
    | (extract_lets +onlyGivenNames x; refine Kept.cut x ?_ ?_ <;> first | (intro hx; clear_value x) | (unfold x; clear x))
    | (extract_lets +onlyGivenNames x; subst x)
    | exact rfl
    | with_reducible first | apply State.pairStep_kept | apply State.replicaStep_kept | apply State.witnessStep_kept | apply State.drainStep_kept | apply State.requestStep_kept | apply State.leaseStep_kept | apply State.takeoverStep_kept | exact Kept.refl _ _ | apply Kept.foldIdx
    | (intro _; intros; try dsimp -zeta only)

theorem State.report_kept {ps : List Part} {s t : State} (h : Kept ps s t) (hp : partsIn [.reg 0, .reg 4, .reg 5, .reg 7, .reg 9, .reg 10, .reg 13, .reg 14, .reg 15, .reg 16, .reg 17, .reg 18, .reg 19] ps = true) : Kept ps s (State.report t) := by
  refine h.lift hp ?_
  clear h hp
  unfold State.report
  repeat' first
    | with_reducible assumption
    | (extract_lets +onlyGivenNames x; refine Kept.cut x ?_ ?_ <;> first | (intro hx; clear_value x) | (unfold x; clear x))
    | exact rfl
    | with_reducible first | apply State.fovStatus_kept | apply State.cacheStatus_kept | apply State.axlStatus_kept | apply State.salStatus_kept | apply State.setStatus_kept | apply State.layStatus_kept | apply State.sepStatus_kept | apply State.xptStatus_kept | apply State.winStatus_kept | apply State.jnlStatus_kept | apply State.trnStatus_kept | apply State.drvStatus_kept | apply State.cmdStatus_kept | apply State.pwrStatus_kept | exact Kept.refl _ _

theorem State.cycleZero_kept {ps : List Part} {s t : State} (a1) (h : Kept ps s t) (hp : partsIn [.cmd, .cnt, .evt, .free, .gch, .outbox, .pwr, .sch, .sep, .trn, .win, .xpt, .reg 4, .reg 5, .reg 6, .reg 9, .reg 19, .reg 20, .reg 21] ps = true) : Kept ps s (State.cycleZero t a1) := by
  refine h.lift hp ?_
  clear h hp
  unfold State.cycleZero
  repeat' first
    | with_reducible assumption
    | (extract_lets +onlyGivenNames x; refine Kept.cut x ?_ ?_ <;> first | (intro hx; clear_value x) | (unfold x; clear x))
    | exact rfl
    | with_reducible first | apply State.writeEvents_kept | apply State.endDip_kept | apply State.bankSteps_kept | apply State.takeSample_kept | apply State.tick_kept | apply State.sendMsix_kept | exact Kept.refl _ _ | apply Kept.foldl | apply Kept.foldIdx
    | (intro _; intros; try dsimp -zeta only)

theorem State.jobs_kept {ps : List Part} {s t : State} (a1) (h : Kept ps s t) (hp : partsIn [.axl, .cfg, .cmd, .cnt, .cph, .deferred, .evt, .fov, .fsp, .jnl, .outbox, .pwr, .sal, .sch, .sep, .trn, .xpt, .reg 0, .reg 1, .reg 6, .reg 7, .reg 8, .reg 14, .reg 15, .reg 19, .reg 20, .reg 21] ps = true) : Kept ps s (State.jobs t a1) := by
  refine h.lift hp ?_
  clear h hp
  unfold State.jobs
  repeat' first
    | with_reducible assumption
    | (extract_lets +onlyGivenNames x; refine Kept.cut x ?_ ?_ <;> first | (intro hx; clear_value x) | (unfold x; clear x))
    | with_reducible apply Kept.ite
    | exact rfl
    | with_reducible first | apply State.jobSteps_kept | apply State.grantStep_kept | apply State.cntJob_kept | apply State.creditSteps_kept | apply State.xptJob_kept | apply State.schJob_kept | apply State.fspJob_kept | apply State.levelStatus_kept | exact Kept.refl _ _

theorem State.goOn_kept {ps : List Part} {s t : State} (h : Kept ps s t) (hp : partsIn [.axl, .cfg, .cmd, .cmp, .cnt, .cph, .deferred, .dram, .drv, .eth, .evt, .fov, .free, .fsp, .gch, .idn, .jnl, .lay, .outbox, .pwr, .regs, .sal, .sch, .sep, .trn, .win, .xpt] ps = true) : Kept ps s (State.goOn t) := by
  refine h.lift hp ?_
  clear h hp
  unfold State.goOn
  repeat' first
    | with_reducible assumption
    | (extract_lets +onlyGivenNames x; refine Kept.cut x ?_ ?_ <;> first | (intro hx; clear_value x) | (unfold x; clear x))
    | (extract_lets +onlyGivenNames x; subst x)
    | exact rfl
    | with_reducible first | apply State.pumpSeqs_kept | apply State.takeEntry_kept | apply State.pairSteps_kept | apply State.report_kept | apply State.feedSelect_kept | apply State.storeSteps_kept | apply State.netSteps_kept | exact Kept.refl _ _

theorem State.boundary_kept {ps : List Part} {s t : State} (a1) (h : Kept ps s t) (hp : partsIn [.axl, .cfg, .cmd, .cmp, .cnt, .cph, .deferred, .dram, .drv, .eth, .evt, .fov, .free, .fsp, .gch, .idn, .jnl, .lay, .outbox, .pwr, .regs, .sal, .sch, .sep, .trn, .win, .xpt] ps = true) : Kept ps s (State.boundary t a1) := by
  refine h.lift hp ?_
  clear h hp
  unfold State.boundary
  repeat' first
    | with_reducible assumption
    | (extract_lets +onlyGivenNames x; refine Kept.cut x ?_ ?_ <;> first | (intro hx; clear_value x) | (unfold x; clear x))
    | (extract_lets +onlyGivenNames x; subst x)
    | exact rfl
    | with_reducible first | apply State.effects_kept | apply State.goOn_kept | apply State.cycleZero_kept | apply State.jobs_kept | exact Kept.refl _ _
    | ((with_reducible refine Kept.build ?_ ?_ ?_ ?_); rotate_left; exact rfl; exact rfl; exact rfl; fail_if_success split)

theorem execTurnBoundary_kept {ps : List Part} {s t : State} (a1) (h : Kept ps s t) (hp : partsIn [.axl, .cfg, .cmd, .cmp, .cnt, .cph, .deferred, .dram, .drv, .eth, .evt, .fov, .free, .fsp, .gch, .idn, .jnl, .lay, .outbox, .pwr, .regs, .sal, .sch, .sep, .trn, .win, .xpt] ps = true) : KeptOut ps s (execTurnBoundary a1 t) := by
  refine KeptOut.lift h hp ?_
  clear h hp
  unfold execTurnBoundary
  repeat' first
    | with_reducible apply Kept.ite
    | exact rfl
    | with_reducible first | apply State.boundary_kept | apply KeptOut.next | exact Kept.refl _ _

end Sys2Proof.Machine
end

