-- ==== Sys2Proof/WellFormed.lean ====
section
/-!
DEFINITION. WellFormed.lean: which commands can occur: an operand that names a unit of the part names one that some part of the
family has, a register access lies in BAR0 and carries a value of its width, identifiers fit their fields.
-/

namespace Sys2Proof

/-- A sub-port (0 to 15) or a peer lane (16, 17). -/
def isUnit (u : Nat) : Bool := decide (u < 18)
/-- A drive slot. -/
def isSlot (s : Nat) : Bool := decide (s < 24)
/-- A layout group. -/
def isGroup (g : Nat) : Bool := decide (g < 10)
/-- A power set. -/
def isSet (s : Nat) : Bool := decide (s < 8)
/-- An anchor role. -/
def isRole (r : Nat) : Bool := decide (r < 3)
/-- A witness connection. -/
def isWitness (w : Nat) : Bool := decide (w < 4)
/-- A feed: A or B. -/
def isFeed (f : Nat) : Bool := decide (f < 2)
/-- A slot channel or a feed channel. -/
def isChannel (c : Nat) : Bool := decide (c < 26)
/-- A peer lane. -/
def isLane (l : Nat) : Bool := decide (l < 2)
/-- A control core. -/
def isCore (c : Nat) : Bool := decide (c < 16)
/-- An image copy, or a canister: A or B. -/
def isCopy (c : Nat) : Bool := decide (c < 2)
/-- A performance counter. -/
def isCounter (c : Nat) : Bool := decide (c < 384)
/-- A Frogspawn pool. -/
def isPool (p : Nat) : Bool := decide (p < 16)
/-- An MSI-X vector. -/
def isVector (v : Nat) : Bool := decide (v < 256)
/-- A shelf ID. -/
def isShelf (s : Nat) : Bool := decide (s < 1024)
/-- A 16-bit identifier. -/
def isWord16 (v : Nat) : Bool := decide (v < 65536)

/-- A register access: inside BAR0, with a value of its width in bytes. -/
def isAccess (offset width value : Nat) : Bool := decide (offset < 0x4000000) && decide (value < 256 ^ width)

/-- An I/O command's identifiers and LBA range fit their fields. -/
def Io.ok (io : Io) : Bool :=
  isWord16 io.ctrl && isWord16 io.cid && decide (io.nsid < 2 ^ 32) && decide (io.slba < 2 ^ 64) && decide (io.nlb ≤ 65536)

/-- A packet's sub-port exists, and its QPN and PSN are 24 bits long. -/
def Pkt.ok (p : Pkt) : Bool := decide (p.unit < 16) && decide (p.qpn < 2 ^ 24) && decide (p.psn < 2 ^ 24)

/-- A bank of R62: the gate list's port exists. -/
def BankId.ok : BankId → Bool
  | .windows => true
  | .handles => true
  | .gates port => decide (port < 8)
  | .params => true
  | .masks => true

/-- Can this command occur? -/
def Instr.wf : Instr → Bool
  | .registerWrite _ offset width value => isAccess offset width value
  | .turnBoundary _ => true
  | .coreWatchdogExpiry core => isCore core
  | .stagingHoldExpiry _ _ => true
  | .ptpSyncRx unit _ _ _ _ => isUnit unit
  | .ptpFollowUpRx unit _ _ _ => isUnit unit
  | .ptpDelayRespRx unit _ _ _ _ => isUnit unit
  | .ptpAnnounceRx unit _ => isUnit unit
  | .acquireTimeoutExpiry => true
  | .syncLossTimeout => true
  | .trnReload _ => true
  | .reloadTimeoutExpiry => true
  | .shadowWrite _ bank _ _ => bank.ok
  | .bankCommit _ bank => bank.ok
  | .bankAbort _ bank => bank.ok
  | .sysResetAssert _ => true
  | .sysResetRelease _ => true
  | .dramTrainingDone _ _ => true
  | .spiTransactionTimeout copy => isCopy copy
  | .copyReadDone => true
  | .firmwareStarted => true
  | .cfgReboot _ => true
  | .brownOut _ _ _ => true
  | .temperatureSample _ _ _ => true
  | .tamperEvent _ => true
  | .serviceRequest ctrl cid => isWord16 ctrl && isWord16 cid
  | .releaseRequest ctrl cid => isWord16 ctrl && isWord16 cid
  | .releaseDrainDone => true
  | .firmwareImageDownload ctrl cid _ _ _ _ => isWord16 ctrl && isWord16 cid
  | .firmwareCommitStore ctrl cid _ => isWord16 ctrl && isWord16 cid
  | .firmwareCommitAtReset ctrl cid _ _ => isWord16 ctrl && isWord16 cid
  | .firmwareCommitActivate ctrl cid _ => isWord16 ctrl && isWord16 cid
  | .commitReadbackDone _ => true
  | .activationRecordWritten => true
  | .firmwareReady => true
  | .activationGuardExpiry => true
  | .ownerEnrol _ => true
  | .ownerRevoke _ => true
  | .fuseProgramDone _ => true
  | .svnFloorRaise ctrl cid => isWord16 ctrl && isWord16 cid
  | .attestationQuote ctrl cid _ => isWord16 ctrl && isWord16 cid
  | .quoteSigned => true
  | .linkAnDone unit _ => isUnit unit
  | .linkTrainingDone unit => isUnit unit
  | .linkTrainingTimeout unit => isUnit unit
  | .linkLockAcquired unit => isUnit unit
  | .linkAlignTimeout unit => isUnit unit
  | .linkQualifyDone unit => isUnit unit
  | .linkLockLost unit => isUnit unit
  | .linkLossTimeout unit => isUnit unit
  | .linkNegotiationTimeout unit => isUnit unit
  | .linkFaultTimeout unit _ => isUnit unit
  | .fecWindowEnd unit _ _ => isUnit unit
  | .frameRx unit _ => isUnit unit
  | .arpRequestRx unit _ _ _ => isUnit unit
  | .arpReplyRx unit _ _ => isUnit unit
  | .neighbourSolicitationRx unit _ _ _ => isUnit unit
  | .neighbourAdvertisementRx unit _ _ => isUnit unit
  | .ethDropClear unit => isUnit unit
  | .sendRx p _ _ => p.ok
  | .rdmaWriteRx p _ _ _ _ _ => p.ok
  | .rdmaReadRequestRx p _ _ _ => p.ok
  | .rdmaReadResponseRx p _ _ => p.ok
  | .ackRx _ _ _ _ => true
  | .nakRx _ _ _ => true
  | .rnrNakRx _ _ _ => true
  | .cnpRx _ => true
  | .sendWithInvalidateRx p => p.ok
  | .contextFetchDone _ _ => true
  | .cmReqRx _ => true
  | .cmRepRx _ _ _ _ => true
  | .cmRtuRx _ => true
  | .cmRejRx _ _ => true
  | .cmMraRx _ _ => true
  | .cmDreqRx _ => true
  | .cmDrepRx _ => true
  | .cmUnsupportedRx => true
  | .connectInitiate _ _ => true
  | .connectRetryExpiry _ => true
  | .mraTimerExpiry _ => true
  | .qpDrainDone _ => true
  | .qpDrainTimeout _ => true
  | .qpTimewaitExpiry _ => true
  | .ackTimeout _ => true
  | .rnrWaitExpiry _ => true
  | .wqePost _ _ => true
  | .triggerTimeout _ => true
  | .qpForceError _ _ => true
  | .qpContextRead _ => true
  | .missPeakClear => true
  | .windowOpen ctrl cid _ _ _ _ _ _ _ => isWord16 ctrl && isWord16 cid
  | .windowClose ctrl cid _ => isWord16 ctrl && isWord16 cid
  | .windowRevokeDrained _ => true
  | .windowDescriptorRead _ => true
  | .windowViolationClear => true
  | .egressPick unit _ _ => isUnit unit
  | .ingestPullIssue _ unit _ _ => isUnit unit
  | .schParamWrite _ => true
  | .schParamRead _ => true
  | .schParamReadLive _ => true
  | .ingestHeldTimeout => true
  | .fabricsConnect _ cid _ _ _ _ _ _ => isWord16 cid
  | .propertyGet ctrl cid _ => isWord16 ctrl && isWord16 cid
  | .propertySet ctrl cid _ _ => isWord16 ctrl && isWord16 cid
  | .identify ctrl cid _ _ _ => isWord16 ctrl && isWord16 cid
  | .getLogPage ctrl cid _ _ _ => isWord16 ctrl && isWord16 cid
  | .abort ctrl cid _ _ => isWord16 ctrl && isWord16 cid
  | .setFeatures ctrl cid _ _ _ => isWord16 ctrl && isWord16 cid
  | .getFeatures ctrl cid _ _ => isWord16 ctrl && isWord16 cid
  | .asyncEventRequest ctrl cid => isWord16 ctrl && isWord16 cid
  | .namespaceCreate ctrl cid _ _ _ => isWord16 ctrl && isWord16 cid
  | .namespaceDelete ctrl cid _ => isWord16 ctrl && isWord16 cid
  | .namespaceResize ctrl cid _ _ => isWord16 ctrl && isWord16 cid
  | .selfTestShort ctrl cid _ => isWord16 ctrl && isWord16 cid
  | .selfTestExtended ctrl cid _ => isWord16 ctrl && isWord16 cid
  | .selfTestAbort ctrl cid => isWord16 ctrl && isWord16 cid
  | .selfTestDone _ => true
  | .keepAlive ctrl cid => isWord16 ctrl && isWord16 cid
  | .keepAliveExpiry ctrl => isWord16 ctrl
  | .getChallenge ctrl cid => isWord16 ctrl && isWord16 cid
  | .authenticate ctrl cid _ _ => isWord16 ctrl && isWord16 cid
  | .nvmRead io _ => io.ok
  | .nvmWrite io _ => io.ok
  | .windowCommit io _ _ _ _ => io.ok
  | .flush io => io.ok
  | .writeZeroes io => io.ok
  | .datasetManagement io _ _ => io.ok
  | .zoneAppend io _ => io.ok
  | .zoneClose io _ => io.ok
  | .zoneFinish io _ => io.ok
  | .zoneOpen io _ => io.ok
  | .zoneReset io _ => io.ok
  | .zoneManagementReceive io _ _ => io.ok
  | .commandAdmit _ => true
  | .fspAllocate _ _ _ => true
  | .fspFree _ _ => true
  | .fspIncref _ _ => true
  | .fspCacheRefill pool _ => isPool pool
  | .fspCacheWriteback pool => isPool pool
  | .fspClear => true
  | .cacheEnable => true
  | .cacheDisable => true
  | .cacheDrainDone => true
  | .cacheFillDone slot _ _ _ => isSlot slot
  | .salClean _ => true
  | .salInvalidate _ => true
  | .salCleanInvalidate _ => true
  | .salPin _ => true
  | .salUnpin _ => true
  | .salOperationStart => true
  | .salWriteBackIssue => true
  | .salOperationDone => true
  | .compressBlockStart _ _ _ => true
  | .compressBlockDone _ _ => true
  | .spillReadbackDone _ => true
  | .decompressBlockStart _ _ => true
  | .decompressBlockDone _ fault => fault.all fun r => decide (2 ≤ r) && decide (r ≤ 7)
  | .cmpVerifyClear => true
  | .keyLoad ctrl cid _ => isWord16 ctrl && isWord16 cid
  | .keyDestroy ctrl cid _ => isWord16 ctrl && isWord16 cid
  | .keyActivate ctrl cid _ _ _ => isWord16 ctrl && isWord16 cid
  | .resealDone => true
  | .cipherJob ctrl cid _ _ _ _ _ _ _ => isWord16 ctrl && isWord16 cid
  | .fallbackKeyLoad _ _ => true
  | .keySlotRead _ => true
  | .ivEpochDurable => true
  | .versionPlace _ _ _ _ => true
  | .gatherHoldExpiry group _ => isGroup group
  | .closeHoldExpiry group _ => isGroup group
  | .paritySlotWaitTimeout _ _ _ => true
  | .stripeWriteDone group _ _ _ => isGroup group
  | .memberReadDone _ _ => true
  | .compactionStart group => isGroup group
  | .setReadyTimeout set => isSet set
  | .setIdleTimeout set => isSet set
  | .setPowerOnRequest _ set => isSet set
  | .setStopRequest _ set => isSet set
  | .setStopWritesDone set => isSet set
  | .deltaBatchWrite => true
  | .checkpointStart => true
  | .checkpointDone => true
  | .metadataWriteDone => true
  | .journalWriteDone role _ _ => isRole role
  | .anchorReseedTimeout role => isRole role
  | .replayDone _ _ => true
  | .resyncWindowExpiry slot => isSlot slot
  | .walkRowIssue group _ => isGroup group
  | .walkRowDone group _ _ => isGroup group
  | .reshapeStart ctrl cid _ _ => isWord16 ctrl && isWord16 cid
  | .reshapeBatchDone => true
  | .reshapeCancel ctrl cid => isWord16 ctrl && isWord16 cid
  | .memberFail ctrl cid _ => isWord16 ctrl && isWord16 cid
  | .drivePerstRelease slot => isSlot slot
  | .driveLinkUp slot code _ => isSlot slot && decide (1 ≤ code) && decide (code ≤ 6)
  | .driveLinkTimeout slot => isSlot slot
  | .drivePerstRetryExpiry slot => isSlot slot
  | .driveSetupStepDone slot _ => isSlot slot
  | .driveFormatDone slot _ => isSlot slot
  | .driveInboundViolation slot => isSlot slot
  | .driveBadTlp slot => isSlot slot
  | .driveLinkDown slot => isSlot slot
  | .driveCompletionTimeout slot => isSlot slot
  | .memberCommandTimeout slot _ => isSlot slot
  | .ladderStepTimeout slot => isSlot slot
  | .smartPoll slot _ _ _ => isSlot slot
  | .cstsPoll slot _ => isSlot slot
  | .driveAsyncEvent slot _ _ => isSlot slot
  | .driveRelease ctrl cid _ => isWord16 ctrl && isWord16 cid
  | .driveReadyTimeout slot => isSlot slot
  | .memberAbortDone slot => isSlot slot
  | .slotPresentDebounced slot => isSlot slot
  | .slotRemoved slot => isSlot slot
  | .insertDelayExpiry slot => isSlot slot
  | .slotChannelStart slot => isSlot slot
  | .slotPowerGood slot => isSlot slot
  | .faultTimerExpiry channel => isChannel channel
  | .efuseTrip channel => isChannel channel
  | .slotOutputUv slot => isSlot slot
  | .slotInputOutOfWindow slot _ => isSlot slot
  | .brownoutHoldStart slot => isSlot slot
  | .brownoutHoldExpiry slot _ => isSlot slot
  | .retryDelayExpiry channel => isChannel channel
  | .retryCountClearExpiry channel => isChannel channel
  | .slotClear _ slot => isSlot slot
  | .slotCycle _ slot => isSlot slot
  | .slotCycleExpiry slot => isSlot slot
  | .slotPeakClear _ slot => isSlot slot
  | .slotShutdownDone slot => isSlot slot
  | .slotStopAckTimeout slot => isSlot slot
  | .slotHeldCheck slot _ => isSlot slot
  | .slotDischargeCheck slot _ _ => isSlot slot
  | .feedPresentDebounced feed => isFeed feed
  | .feedInsertDelayExpiry feed => isFeed feed
  | .feedReturnHoldExpiry feed => isFeed feed
  | .feedFailureTransfer _ => true
  | .feedDeadTimeExpiry => true
  | .feedPowerGood feed => isFeed feed
  | .supplyWarningAssert => true
  | .supplyWarningRelease => true
  | .feedInputOutOfWindow feed => isFeed feed
  | .feedRemoved feed => isFeed feed
  | .pawnChallengeRx _ _ => true
  | .pawnProofRx _ _ _ => true
  | .witnessProofTimeout _ => true
  | .witnessRetryExpiry w => isWitness w
  | .witnessConnectionLost w => isWitness w
  | .pawnRequestRx shelf canister _ => isCopy canister && isShelf shelf
  | .contentionWaitExpiry _ => true
  | .pawnGrantRx w _ => isWitness w
  | .pawnDenyRx w _ => isWitness w
  | .denyWaitExpiry w => isWitness w
  | .pawnReleaseRx shelf canister _ => isCopy canister && isShelf shelf
  | .pawnRenewTimer => true
  | .pawnResendExpiry w => isWitness w
  | .minorityBackoffExpiry => true
  | .pawnCutoff => true
  | .pawnExpiry => true
  | .helloRx lane _ => isLane lane
  | .heartbeatRx lane _ => isLane lane
  | .heartbeatTimer => true
  | .peerLost => true
  | .mapBulkRx _ _ _ => true
  | .mapDeltaRx _ _ => true
  | .trailerRx _ _ => true
  | .recordRx _ _ => true
  | .nackRx _ => true
  | .slotDemandRx _ => true
  | .slotDemandTimer => true
  | .slotAckRx slot => isSlot slot
  | .healthRx slot _ => isSlot slot
  | .yieldRx _ _ => true
  | .recoveryHelloTimeout => true
  | .fitnessTestDone _ _ _ _ => true
  | .handOver ctrl cid => isWord16 ctrl && isWord16 cid
  | .handOverDrainTimeout => true
  | .checkpointFenceExpiry => true
  | .pairUnserviceableTimer => true
  | .replicaExtentSend _ _ _ => true
  | .replicaDownTimeout _ => true
  | .endpointReset _ => true
  | .endpointLinkUp _ _ _ => true
  | .powerStateChange _ => true
  | .msixUnmask vector _ => isVector vector
  | .mailboxSubmit _ => true
  | .mailboxDmaDone => true
  | .flashWrite cid _ _ _ _ => isWord16 cid
  | .flashEraseDone _ => true
  | .flashPageProgramDone _ => true
  | .functionLevelReset => true
  | .flrDmaQuiesce => true
  | .flrComplete => true
  | .endpointContain _ => true
  | .containmentRelease => true
  | .sepPerstRelease => true
  | .eventRingHeadWrite _ _ => true
  | .eventRead ctrl cid _ => isWord16 ctrl && isWord16 cid
  | .snapshotPassDone => true
  | .counterPreload _ => true
  | .counterLiveRead _ => true
  | .counterOverflow counter _ => isCounter counter
  | .counterSampleRead counter => isCounter counter
  | .bwWindowWrite _ _ => true
  | .counterRead ctrl cid _ => isWord16 ctrl && isWord16 cid
  | .registerSequence ctrl cid _ _ => isWord16 ctrl && isWord16 cid

end Sys2Proof
end

