-- ==== Sys2Proof/Laws/PerInstr.lean ====
section
/-!
SUPPORT. PerInstr.lean: the family WellFormed of statements about the commands as syntax, one lemma per constructor: a
well-formed command that a submitter sends names its controller and its command ID in 16 bits each.
-/

namespace Sys2Proof.Laws.WellFormed

/-- The controller and the command ID of the submitter that waits for this command's completion. -/
def submitter : Instr → Option (Nat × Nat)
  | .serviceRequest ctrl cid => some (ctrl, cid)
  | .releaseRequest ctrl cid => some (ctrl, cid)
  | .firmwareImageDownload ctrl cid _ _ _ _ => some (ctrl, cid)
  | .firmwareCommitStore ctrl cid _ => some (ctrl, cid)
  | .firmwareCommitAtReset ctrl cid _ _ => some (ctrl, cid)
  | .firmwareCommitActivate ctrl cid _ => some (ctrl, cid)
  | .svnFloorRaise ctrl cid => some (ctrl, cid)
  | .attestationQuote ctrl cid _ => some (ctrl, cid)
  | .windowOpen ctrl cid _ _ _ _ _ _ _ => some (ctrl, cid)
  | .windowClose ctrl cid _ => some (ctrl, cid)
  | .propertyGet ctrl cid _ => some (ctrl, cid)
  | .propertySet ctrl cid _ _ => some (ctrl, cid)
  | .identify ctrl cid _ _ _ => some (ctrl, cid)
  | .getLogPage ctrl cid _ _ _ => some (ctrl, cid)
  | .abort ctrl cid _ _ => some (ctrl, cid)
  | .setFeatures ctrl cid _ _ _ => some (ctrl, cid)
  | .getFeatures ctrl cid _ _ => some (ctrl, cid)
  | .asyncEventRequest ctrl cid => some (ctrl, cid)
  | .namespaceCreate ctrl cid _ _ _ => some (ctrl, cid)
  | .namespaceDelete ctrl cid _ => some (ctrl, cid)
  | .namespaceResize ctrl cid _ _ => some (ctrl, cid)
  | .selfTestShort ctrl cid _ => some (ctrl, cid)
  | .selfTestExtended ctrl cid _ => some (ctrl, cid)
  | .selfTestAbort ctrl cid => some (ctrl, cid)
  | .keepAlive ctrl cid => some (ctrl, cid)
  | .getChallenge ctrl cid => some (ctrl, cid)
  | .authenticate ctrl cid _ _ => some (ctrl, cid)
  | .nvmRead io _ => some (io.ctrl, io.cid)
  | .nvmWrite io _ => some (io.ctrl, io.cid)
  | .windowCommit io _ _ _ _ => some (io.ctrl, io.cid)
  | .flush io => some (io.ctrl, io.cid)
  | .writeZeroes io => some (io.ctrl, io.cid)
  | .datasetManagement io _ _ => some (io.ctrl, io.cid)
  | .zoneAppend io _ => some (io.ctrl, io.cid)
  | .zoneClose io _ => some (io.ctrl, io.cid)
  | .zoneFinish io _ => some (io.ctrl, io.cid)
  | .zoneOpen io _ => some (io.ctrl, io.cid)
  | .zoneReset io _ => some (io.ctrl, io.cid)
  | .zoneManagementReceive io _ _ => some (io.ctrl, io.cid)
  | .keyLoad ctrl cid _ => some (ctrl, cid)
  | .keyDestroy ctrl cid _ => some (ctrl, cid)
  | .keyActivate ctrl cid _ _ _ => some (ctrl, cid)
  | .cipherJob ctrl cid _ _ _ _ _ _ _ => some (ctrl, cid)
  | .reshapeStart ctrl cid _ _ => some (ctrl, cid)
  | .reshapeCancel ctrl cid => some (ctrl, cid)
  | .memberFail ctrl cid _ => some (ctrl, cid)
  | .driveRelease ctrl cid _ => some (ctrl, cid)
  | .handOver ctrl cid => some (ctrl, cid)
  | .eventRead ctrl cid _ => some (ctrl, cid)
  | .counterRead ctrl cid _ => some (ctrl, cid)
  | .registerSequence ctrl cid _ _ => some (ctrl, cid)
  | _ => none

/-- If the command can occur, its submitter's two identifiers fit their 16-bit fields. -/
def Statement (i : Instr) : Prop :=
  i.wf = true → match submitter i with
    | some (ctrl, cid) => ctrl < 65536 ∧ cid < 65536
    | none => True

/-- The well-formedness of a command that names its submitter gives both bounds. -/
theorem submitted {ctrl cid : Nat} (h : (isWord16 ctrl && isWord16 cid) = true) : ctrl < 65536 ∧ cid < 65536 := by
  simpa [isWord16] using h

/-- The well-formedness of an I/O command gives both bounds. -/
theorem submittedIo {io : Io} (h : io.ok = true) : io.ctrl < 65536 ∧ io.cid < 65536 := by
  simp [Io.ok, isWord16] at h
  omega

theorem registerWrite : ∀ a0 a1 a2 a3, Statement (.registerWrite a0 a1 a2 a3) :=
  fun _ _ _ _ _ => trivial
theorem turnBoundary : ∀ a0, Statement (.turnBoundary a0) :=
  fun _ _ => trivial
theorem coreWatchdogExpiry : ∀ a0, Statement (.coreWatchdogExpiry a0) :=
  fun _ _ => trivial
theorem stagingHoldExpiry : ∀ a0 a1, Statement (.stagingHoldExpiry a0 a1) :=
  fun _ _ _ => trivial
theorem ptpSyncRx : ∀ a0 a1 a2 a3 a4, Statement (.ptpSyncRx a0 a1 a2 a3 a4) :=
  fun _ _ _ _ _ _ => trivial
theorem ptpFollowUpRx : ∀ a0 a1 a2 a3, Statement (.ptpFollowUpRx a0 a1 a2 a3) :=
  fun _ _ _ _ _ => trivial
theorem ptpDelayRespRx : ∀ a0 a1 a2 a3 a4, Statement (.ptpDelayRespRx a0 a1 a2 a3 a4) :=
  fun _ _ _ _ _ _ => trivial
theorem ptpAnnounceRx : ∀ a0 a1, Statement (.ptpAnnounceRx a0 a1) :=
  fun _ _ _ => trivial
theorem acquireTimeoutExpiry : Statement .acquireTimeoutExpiry :=
  fun _ => trivial
theorem syncLossTimeout : Statement .syncLossTimeout :=
  fun _ => trivial
theorem trnReload : ∀ a0, Statement (.trnReload a0) :=
  fun _ _ => trivial
theorem reloadTimeoutExpiry : Statement .reloadTimeoutExpiry :=
  fun _ => trivial
theorem shadowWrite : ∀ a0 a1 a2 a3, Statement (.shadowWrite a0 a1 a2 a3) :=
  fun _ _ _ _ _ => trivial
theorem bankCommit : ∀ a0 a1, Statement (.bankCommit a0 a1) :=
  fun _ _ _ => trivial
theorem bankAbort : ∀ a0 a1, Statement (.bankAbort a0 a1) :=
  fun _ _ _ => trivial
theorem sysResetAssert : ∀ a0, Statement (.sysResetAssert a0) :=
  fun _ _ => trivial
theorem sysResetRelease : ∀ a0, Statement (.sysResetRelease a0) :=
  fun _ _ => trivial
theorem dramTrainingDone : ∀ a0 a1, Statement (.dramTrainingDone a0 a1) :=
  fun _ _ _ => trivial
theorem spiTransactionTimeout : ∀ a0, Statement (.spiTransactionTimeout a0) :=
  fun _ _ => trivial
theorem copyReadDone : Statement .copyReadDone :=
  fun _ => trivial
theorem firmwareStarted : Statement .firmwareStarted :=
  fun _ => trivial
theorem cfgReboot : ∀ a0, Statement (.cfgReboot a0) :=
  fun _ _ => trivial
theorem brownOut : ∀ a0 a1 a2, Statement (.brownOut a0 a1 a2) :=
  fun _ _ _ _ => trivial
theorem temperatureSample : ∀ a0 a1 a2, Statement (.temperatureSample a0 a1 a2) :=
  fun _ _ _ _ => trivial
theorem tamperEvent : ∀ a0, Statement (.tamperEvent a0) :=
  fun _ _ => trivial
theorem serviceRequest : ∀ a0 a1, Statement (.serviceRequest a0 a1) :=
  fun _ _ h => submitted h
theorem releaseRequest : ∀ a0 a1, Statement (.releaseRequest a0 a1) :=
  fun _ _ h => submitted h
theorem releaseDrainDone : Statement .releaseDrainDone :=
  fun _ => trivial
theorem firmwareImageDownload : ∀ a0 a1 a2 a3 a4 a5, Statement (.firmwareImageDownload a0 a1 a2 a3 a4 a5) :=
  fun _ _ _ _ _ _ h => submitted h
theorem firmwareCommitStore : ∀ a0 a1 a2, Statement (.firmwareCommitStore a0 a1 a2) :=
  fun _ _ _ h => submitted h
theorem firmwareCommitAtReset : ∀ a0 a1 a2 a3, Statement (.firmwareCommitAtReset a0 a1 a2 a3) :=
  fun _ _ _ _ h => submitted h
theorem firmwareCommitActivate : ∀ a0 a1 a2, Statement (.firmwareCommitActivate a0 a1 a2) :=
  fun _ _ _ h => submitted h
theorem commitReadbackDone : ∀ a0, Statement (.commitReadbackDone a0) :=
  fun _ _ => trivial
theorem activationRecordWritten : Statement .activationRecordWritten :=
  fun _ => trivial
theorem firmwareReady : Statement .firmwareReady :=
  fun _ => trivial
theorem activationGuardExpiry : Statement .activationGuardExpiry :=
  fun _ => trivial
theorem ownerEnrol : ∀ a0, Statement (.ownerEnrol a0) :=
  fun _ _ => trivial
theorem ownerRevoke : ∀ a0, Statement (.ownerRevoke a0) :=
  fun _ _ => trivial
theorem fuseProgramDone : ∀ a0, Statement (.fuseProgramDone a0) :=
  fun _ _ => trivial
theorem svnFloorRaise : ∀ a0 a1, Statement (.svnFloorRaise a0 a1) :=
  fun _ _ h => submitted h
theorem attestationQuote : ∀ a0 a1 a2, Statement (.attestationQuote a0 a1 a2) :=
  fun _ _ _ h => submitted h
theorem quoteSigned : Statement .quoteSigned :=
  fun _ => trivial
theorem linkAnDone : ∀ a0 a1, Statement (.linkAnDone a0 a1) :=
  fun _ _ _ => trivial
theorem linkTrainingDone : ∀ a0, Statement (.linkTrainingDone a0) :=
  fun _ _ => trivial
theorem linkTrainingTimeout : ∀ a0, Statement (.linkTrainingTimeout a0) :=
  fun _ _ => trivial
theorem linkLockAcquired : ∀ a0, Statement (.linkLockAcquired a0) :=
  fun _ _ => trivial
theorem linkAlignTimeout : ∀ a0, Statement (.linkAlignTimeout a0) :=
  fun _ _ => trivial
theorem linkQualifyDone : ∀ a0, Statement (.linkQualifyDone a0) :=
  fun _ _ => trivial
theorem linkLockLost : ∀ a0, Statement (.linkLockLost a0) :=
  fun _ _ => trivial
theorem linkLossTimeout : ∀ a0, Statement (.linkLossTimeout a0) :=
  fun _ _ => trivial
theorem linkNegotiationTimeout : ∀ a0, Statement (.linkNegotiationTimeout a0) :=
  fun _ _ => trivial
theorem linkFaultTimeout : ∀ a0 a1, Statement (.linkFaultTimeout a0 a1) :=
  fun _ _ _ => trivial
theorem fecWindowEnd : ∀ a0 a1 a2, Statement (.fecWindowEnd a0 a1 a2) :=
  fun _ _ _ _ => trivial
theorem frameRx : ∀ a0 a1, Statement (.frameRx a0 a1) :=
  fun _ _ _ => trivial
theorem arpRequestRx : ∀ a0 a1 a2 a3, Statement (.arpRequestRx a0 a1 a2 a3) :=
  fun _ _ _ _ _ => trivial
theorem arpReplyRx : ∀ a0 a1 a2, Statement (.arpReplyRx a0 a1 a2) :=
  fun _ _ _ _ => trivial
theorem neighbourSolicitationRx : ∀ a0 a1 a2 a3, Statement (.neighbourSolicitationRx a0 a1 a2 a3) :=
  fun _ _ _ _ _ => trivial
theorem neighbourAdvertisementRx : ∀ a0 a1 a2, Statement (.neighbourAdvertisementRx a0 a1 a2) :=
  fun _ _ _ _ => trivial
theorem ethDropClear : ∀ a0, Statement (.ethDropClear a0) :=
  fun _ _ => trivial
theorem sendRx : ∀ a0 a1 a2, Statement (.sendRx a0 a1 a2) :=
  fun _ _ _ _ => trivial
theorem rdmaWriteRx : ∀ a0 a1 a2 a3 a4 a5, Statement (.rdmaWriteRx a0 a1 a2 a3 a4 a5) :=
  fun _ _ _ _ _ _ _ => trivial
theorem rdmaReadRequestRx : ∀ a0 a1 a2 a3, Statement (.rdmaReadRequestRx a0 a1 a2 a3) :=
  fun _ _ _ _ _ => trivial
theorem rdmaReadResponseRx : ∀ a0 a1 a2, Statement (.rdmaReadResponseRx a0 a1 a2) :=
  fun _ _ _ _ => trivial
theorem ackRx : ∀ a0 a1 a2 a3, Statement (.ackRx a0 a1 a2 a3) :=
  fun _ _ _ _ _ => trivial
theorem nakRx : ∀ a0 a1 a2, Statement (.nakRx a0 a1 a2) :=
  fun _ _ _ _ => trivial
theorem rnrNakRx : ∀ a0 a1 a2, Statement (.rnrNakRx a0 a1 a2) :=
  fun _ _ _ _ => trivial
theorem cnpRx : ∀ a0, Statement (.cnpRx a0) :=
  fun _ _ => trivial
theorem sendWithInvalidateRx : ∀ a0, Statement (.sendWithInvalidateRx a0) :=
  fun _ _ => trivial
theorem contextFetchDone : ∀ a0 a1, Statement (.contextFetchDone a0 a1) :=
  fun _ _ _ => trivial
theorem cmReqRx : ∀ a0, Statement (.cmReqRx a0) :=
  fun _ _ => trivial
theorem cmRepRx : ∀ a0 a1 a2 a3, Statement (.cmRepRx a0 a1 a2 a3) :=
  fun _ _ _ _ _ => trivial
theorem cmRtuRx : ∀ a0, Statement (.cmRtuRx a0) :=
  fun _ _ => trivial
theorem cmRejRx : ∀ a0 a1, Statement (.cmRejRx a0 a1) :=
  fun _ _ _ => trivial
theorem cmMraRx : ∀ a0 a1, Statement (.cmMraRx a0 a1) :=
  fun _ _ _ => trivial
theorem cmDreqRx : ∀ a0, Statement (.cmDreqRx a0) :=
  fun _ _ => trivial
theorem cmDrepRx : ∀ a0, Statement (.cmDrepRx a0) :=
  fun _ _ => trivial
theorem cmUnsupportedRx : Statement .cmUnsupportedRx :=
  fun _ => trivial
theorem connectInitiate : ∀ a0 a1, Statement (.connectInitiate a0 a1) :=
  fun _ _ _ => trivial
theorem connectRetryExpiry : ∀ a0, Statement (.connectRetryExpiry a0) :=
  fun _ _ => trivial
theorem mraTimerExpiry : ∀ a0, Statement (.mraTimerExpiry a0) :=
  fun _ _ => trivial
theorem qpDrainDone : ∀ a0, Statement (.qpDrainDone a0) :=
  fun _ _ => trivial
theorem qpDrainTimeout : ∀ a0, Statement (.qpDrainTimeout a0) :=
  fun _ _ => trivial
theorem qpTimewaitExpiry : ∀ a0, Statement (.qpTimewaitExpiry a0) :=
  fun _ _ => trivial
theorem ackTimeout : ∀ a0, Statement (.ackTimeout a0) :=
  fun _ _ => trivial
theorem rnrWaitExpiry : ∀ a0, Statement (.rnrWaitExpiry a0) :=
  fun _ _ => trivial
theorem wqePost : ∀ a0 a1, Statement (.wqePost a0 a1) :=
  fun _ _ _ => trivial
theorem triggerTimeout : ∀ a0, Statement (.triggerTimeout a0) :=
  fun _ _ => trivial
theorem qpForceError : ∀ a0 a1, Statement (.qpForceError a0 a1) :=
  fun _ _ _ => trivial
theorem qpContextRead : ∀ a0, Statement (.qpContextRead a0) :=
  fun _ _ => trivial
theorem missPeakClear : Statement .missPeakClear :=
  fun _ => trivial
theorem windowOpen : ∀ a0 a1 a2 a3 a4 a5 a6 a7 a8, Statement (.windowOpen a0 a1 a2 a3 a4 a5 a6 a7 a8) :=
  fun _ _ _ _ _ _ _ _ _ h => submitted h
theorem windowClose : ∀ a0 a1 a2, Statement (.windowClose a0 a1 a2) :=
  fun _ _ _ h => submitted h
theorem windowRevokeDrained : ∀ a0, Statement (.windowRevokeDrained a0) :=
  fun _ _ => trivial
theorem windowDescriptorRead : ∀ a0, Statement (.windowDescriptorRead a0) :=
  fun _ _ => trivial
theorem windowViolationClear : Statement .windowViolationClear :=
  fun _ => trivial
theorem egressPick : ∀ a0 a1 a2, Statement (.egressPick a0 a1 a2) :=
  fun _ _ _ _ => trivial
theorem ingestPullIssue : ∀ a0 a1 a2 a3, Statement (.ingestPullIssue a0 a1 a2 a3) :=
  fun _ _ _ _ _ => trivial
theorem schParamWrite : ∀ a0, Statement (.schParamWrite a0) :=
  fun _ _ => trivial
theorem schParamRead : ∀ a0, Statement (.schParamRead a0) :=
  fun _ _ => trivial
theorem schParamReadLive : ∀ a0, Statement (.schParamReadLive a0) :=
  fun _ _ => trivial
theorem ingestHeldTimeout : Statement .ingestHeldTimeout :=
  fun _ => trivial
theorem fabricsConnect : ∀ a0 a1 a2 a3 a4 a5 a6 a7, Statement (.fabricsConnect a0 a1 a2 a3 a4 a5 a6 a7) :=
  fun _ _ _ _ _ _ _ _ _ => trivial
theorem propertyGet : ∀ a0 a1 a2, Statement (.propertyGet a0 a1 a2) :=
  fun _ _ _ h => submitted h
theorem propertySet : ∀ a0 a1 a2 a3, Statement (.propertySet a0 a1 a2 a3) :=
  fun _ _ _ _ h => submitted h
theorem identify : ∀ a0 a1 a2 a3 a4, Statement (.identify a0 a1 a2 a3 a4) :=
  fun _ _ _ _ _ h => submitted h
theorem getLogPage : ∀ a0 a1 a2 a3 a4, Statement (.getLogPage a0 a1 a2 a3 a4) :=
  fun _ _ _ _ _ h => submitted h
theorem abort : ∀ a0 a1 a2 a3, Statement (.abort a0 a1 a2 a3) :=
  fun _ _ _ _ h => submitted h
theorem setFeatures : ∀ a0 a1 a2 a3 a4, Statement (.setFeatures a0 a1 a2 a3 a4) :=
  fun _ _ _ _ _ h => submitted h
theorem getFeatures : ∀ a0 a1 a2 a3, Statement (.getFeatures a0 a1 a2 a3) :=
  fun _ _ _ _ h => submitted h
theorem asyncEventRequest : ∀ a0 a1, Statement (.asyncEventRequest a0 a1) :=
  fun _ _ h => submitted h
theorem namespaceCreate : ∀ a0 a1 a2 a3 a4, Statement (.namespaceCreate a0 a1 a2 a3 a4) :=
  fun _ _ _ _ _ h => submitted h
theorem namespaceDelete : ∀ a0 a1 a2, Statement (.namespaceDelete a0 a1 a2) :=
  fun _ _ _ h => submitted h
theorem namespaceResize : ∀ a0 a1 a2 a3, Statement (.namespaceResize a0 a1 a2 a3) :=
  fun _ _ _ _ h => submitted h
theorem selfTestShort : ∀ a0 a1 a2, Statement (.selfTestShort a0 a1 a2) :=
  fun _ _ _ h => submitted h
theorem selfTestExtended : ∀ a0 a1 a2, Statement (.selfTestExtended a0 a1 a2) :=
  fun _ _ _ h => submitted h
theorem selfTestAbort : ∀ a0 a1, Statement (.selfTestAbort a0 a1) :=
  fun _ _ h => submitted h
theorem selfTestDone : ∀ a0, Statement (.selfTestDone a0) :=
  fun _ _ => trivial
theorem keepAlive : ∀ a0 a1, Statement (.keepAlive a0 a1) :=
  fun _ _ h => submitted h
theorem keepAliveExpiry : ∀ a0, Statement (.keepAliveExpiry a0) :=
  fun _ _ => trivial
theorem getChallenge : ∀ a0 a1, Statement (.getChallenge a0 a1) :=
  fun _ _ h => submitted h
theorem authenticate : ∀ a0 a1 a2 a3, Statement (.authenticate a0 a1 a2 a3) :=
  fun _ _ _ _ h => submitted h
theorem nvmRead : ∀ a0 a1, Statement (.nvmRead a0 a1) :=
  fun _ _ h => submittedIo h
theorem nvmWrite : ∀ a0 a1, Statement (.nvmWrite a0 a1) :=
  fun _ _ h => submittedIo h
theorem windowCommit : ∀ a0 a1 a2 a3 a4, Statement (.windowCommit a0 a1 a2 a3 a4) :=
  fun _ _ _ _ _ h => submittedIo h
theorem flush : ∀ a0, Statement (.flush a0) :=
  fun _ h => submittedIo h
theorem writeZeroes : ∀ a0, Statement (.writeZeroes a0) :=
  fun _ h => submittedIo h
theorem datasetManagement : ∀ a0 a1 a2, Statement (.datasetManagement a0 a1 a2) :=
  fun _ _ _ h => submittedIo h
theorem zoneAppend : ∀ a0 a1, Statement (.zoneAppend a0 a1) :=
  fun _ _ h => submittedIo h
theorem zoneClose : ∀ a0 a1, Statement (.zoneClose a0 a1) :=
  fun _ _ h => submittedIo h
theorem zoneFinish : ∀ a0 a1, Statement (.zoneFinish a0 a1) :=
  fun _ _ h => submittedIo h
theorem zoneOpen : ∀ a0 a1, Statement (.zoneOpen a0 a1) :=
  fun _ _ h => submittedIo h
theorem zoneReset : ∀ a0 a1, Statement (.zoneReset a0 a1) :=
  fun _ _ h => submittedIo h
theorem zoneManagementReceive : ∀ a0 a1 a2, Statement (.zoneManagementReceive a0 a1 a2) :=
  fun _ _ _ h => submittedIo h
theorem commandAdmit : ∀ a0, Statement (.commandAdmit a0) :=
  fun _ _ => trivial
theorem fspAllocate : ∀ a0 a1 a2, Statement (.fspAllocate a0 a1 a2) :=
  fun _ _ _ _ => trivial
theorem fspFree : ∀ a0 a1, Statement (.fspFree a0 a1) :=
  fun _ _ _ => trivial
theorem fspIncref : ∀ a0 a1, Statement (.fspIncref a0 a1) :=
  fun _ _ _ => trivial
theorem fspCacheRefill : ∀ a0 a1, Statement (.fspCacheRefill a0 a1) :=
  fun _ _ _ => trivial
theorem fspCacheWriteback : ∀ a0, Statement (.fspCacheWriteback a0) :=
  fun _ _ => trivial
theorem fspClear : Statement .fspClear :=
  fun _ => trivial
theorem cacheEnable : Statement .cacheEnable :=
  fun _ => trivial
theorem cacheDisable : Statement .cacheDisable :=
  fun _ => trivial
theorem cacheDrainDone : Statement .cacheDrainDone :=
  fun _ => trivial
theorem cacheFillDone : ∀ a0 a1 a2 a3, Statement (.cacheFillDone a0 a1 a2 a3) :=
  fun _ _ _ _ _ => trivial
theorem salClean : ∀ a0, Statement (.salClean a0) :=
  fun _ _ => trivial
theorem salInvalidate : ∀ a0, Statement (.salInvalidate a0) :=
  fun _ _ => trivial
theorem salCleanInvalidate : ∀ a0, Statement (.salCleanInvalidate a0) :=
  fun _ _ => trivial
theorem salPin : ∀ a0, Statement (.salPin a0) :=
  fun _ _ => trivial
theorem salUnpin : ∀ a0, Statement (.salUnpin a0) :=
  fun _ _ => trivial
theorem salOperationStart : Statement .salOperationStart :=
  fun _ => trivial
theorem salWriteBackIssue : Statement .salWriteBackIssue :=
  fun _ => trivial
theorem salOperationDone : Statement .salOperationDone :=
  fun _ => trivial
theorem compressBlockStart : ∀ a0 a1 a2, Statement (.compressBlockStart a0 a1 a2) :=
  fun _ _ _ _ => trivial
theorem compressBlockDone : ∀ a0 a1, Statement (.compressBlockDone a0 a1) :=
  fun _ _ _ => trivial
theorem spillReadbackDone : ∀ a0, Statement (.spillReadbackDone a0) :=
  fun _ _ => trivial
theorem decompressBlockStart : ∀ a0 a1, Statement (.decompressBlockStart a0 a1) :=
  fun _ _ _ => trivial
theorem decompressBlockDone : ∀ a0 a1, Statement (.decompressBlockDone a0 a1) :=
  fun _ _ _ => trivial
theorem cmpVerifyClear : Statement .cmpVerifyClear :=
  fun _ => trivial
theorem keyLoad : ∀ a0 a1 a2, Statement (.keyLoad a0 a1 a2) :=
  fun _ _ _ h => submitted h
theorem keyDestroy : ∀ a0 a1 a2, Statement (.keyDestroy a0 a1 a2) :=
  fun _ _ _ h => submitted h
theorem keyActivate : ∀ a0 a1 a2 a3 a4, Statement (.keyActivate a0 a1 a2 a3 a4) :=
  fun _ _ _ _ _ h => submitted h
theorem resealDone : Statement .resealDone :=
  fun _ => trivial
theorem cipherJob : ∀ a0 a1 a2 a3 a4 a5 a6 a7 a8, Statement (.cipherJob a0 a1 a2 a3 a4 a5 a6 a7 a8) :=
  fun _ _ _ _ _ _ _ _ _ h => submitted h
theorem fallbackKeyLoad : ∀ a0 a1, Statement (.fallbackKeyLoad a0 a1) :=
  fun _ _ _ => trivial
theorem keySlotRead : ∀ a0, Statement (.keySlotRead a0) :=
  fun _ _ => trivial
theorem ivEpochDurable : Statement .ivEpochDurable :=
  fun _ => trivial
theorem versionPlace : ∀ a0 a1 a2 a3, Statement (.versionPlace a0 a1 a2 a3) :=
  fun _ _ _ _ _ => trivial
theorem gatherHoldExpiry : ∀ a0 a1, Statement (.gatherHoldExpiry a0 a1) :=
  fun _ _ _ => trivial
theorem closeHoldExpiry : ∀ a0 a1, Statement (.closeHoldExpiry a0 a1) :=
  fun _ _ _ => trivial
theorem paritySlotWaitTimeout : ∀ a0 a1 a2, Statement (.paritySlotWaitTimeout a0 a1 a2) :=
  fun _ _ _ _ => trivial
theorem stripeWriteDone : ∀ a0 a1 a2 a3, Statement (.stripeWriteDone a0 a1 a2 a3) :=
  fun _ _ _ _ _ => trivial
theorem memberReadDone : ∀ a0 a1, Statement (.memberReadDone a0 a1) :=
  fun _ _ _ => trivial
theorem compactionStart : ∀ a0, Statement (.compactionStart a0) :=
  fun _ _ => trivial
theorem setReadyTimeout : ∀ a0, Statement (.setReadyTimeout a0) :=
  fun _ _ => trivial
theorem setIdleTimeout : ∀ a0, Statement (.setIdleTimeout a0) :=
  fun _ _ => trivial
theorem setPowerOnRequest : ∀ a0 a1, Statement (.setPowerOnRequest a0 a1) :=
  fun _ _ _ => trivial
theorem setStopRequest : ∀ a0 a1, Statement (.setStopRequest a0 a1) :=
  fun _ _ _ => trivial
theorem setStopWritesDone : ∀ a0, Statement (.setStopWritesDone a0) :=
  fun _ _ => trivial
theorem deltaBatchWrite : Statement .deltaBatchWrite :=
  fun _ => trivial
theorem checkpointStart : Statement .checkpointStart :=
  fun _ => trivial
theorem checkpointDone : Statement .checkpointDone :=
  fun _ => trivial
theorem metadataWriteDone : Statement .metadataWriteDone :=
  fun _ => trivial
theorem journalWriteDone : ∀ a0 a1 a2, Statement (.journalWriteDone a0 a1 a2) :=
  fun _ _ _ _ => trivial
theorem anchorReseedTimeout : ∀ a0, Statement (.anchorReseedTimeout a0) :=
  fun _ _ => trivial
theorem replayDone : ∀ a0 a1, Statement (.replayDone a0 a1) :=
  fun _ _ _ => trivial
theorem resyncWindowExpiry : ∀ a0, Statement (.resyncWindowExpiry a0) :=
  fun _ _ => trivial
theorem walkRowIssue : ∀ a0 a1, Statement (.walkRowIssue a0 a1) :=
  fun _ _ _ => trivial
theorem walkRowDone : ∀ a0 a1 a2, Statement (.walkRowDone a0 a1 a2) :=
  fun _ _ _ _ => trivial
theorem reshapeStart : ∀ a0 a1 a2 a3, Statement (.reshapeStart a0 a1 a2 a3) :=
  fun _ _ _ _ h => submitted h
theorem reshapeBatchDone : Statement .reshapeBatchDone :=
  fun _ => trivial
theorem reshapeCancel : ∀ a0 a1, Statement (.reshapeCancel a0 a1) :=
  fun _ _ h => submitted h
theorem memberFail : ∀ a0 a1 a2, Statement (.memberFail a0 a1 a2) :=
  fun _ _ _ h => submitted h
theorem drivePerstRelease : ∀ a0, Statement (.drivePerstRelease a0) :=
  fun _ _ => trivial
theorem driveLinkUp : ∀ a0 a1 a2, Statement (.driveLinkUp a0 a1 a2) :=
  fun _ _ _ _ => trivial
theorem driveLinkTimeout : ∀ a0, Statement (.driveLinkTimeout a0) :=
  fun _ _ => trivial
theorem drivePerstRetryExpiry : ∀ a0, Statement (.drivePerstRetryExpiry a0) :=
  fun _ _ => trivial
theorem driveSetupStepDone : ∀ a0 a1, Statement (.driveSetupStepDone a0 a1) :=
  fun _ _ _ => trivial
theorem driveFormatDone : ∀ a0 a1, Statement (.driveFormatDone a0 a1) :=
  fun _ _ _ => trivial
theorem driveInboundViolation : ∀ a0, Statement (.driveInboundViolation a0) :=
  fun _ _ => trivial
theorem driveBadTlp : ∀ a0, Statement (.driveBadTlp a0) :=
  fun _ _ => trivial
theorem driveLinkDown : ∀ a0, Statement (.driveLinkDown a0) :=
  fun _ _ => trivial
theorem driveCompletionTimeout : ∀ a0, Statement (.driveCompletionTimeout a0) :=
  fun _ _ => trivial
theorem memberCommandTimeout : ∀ a0 a1, Statement (.memberCommandTimeout a0 a1) :=
  fun _ _ _ => trivial
theorem ladderStepTimeout : ∀ a0, Statement (.ladderStepTimeout a0) :=
  fun _ _ => trivial
theorem smartPoll : ∀ a0 a1 a2 a3, Statement (.smartPoll a0 a1 a2 a3) :=
  fun _ _ _ _ _ => trivial
theorem cstsPoll : ∀ a0 a1, Statement (.cstsPoll a0 a1) :=
  fun _ _ _ => trivial
theorem driveAsyncEvent : ∀ a0 a1 a2, Statement (.driveAsyncEvent a0 a1 a2) :=
  fun _ _ _ _ => trivial
theorem driveRelease : ∀ a0 a1 a2, Statement (.driveRelease a0 a1 a2) :=
  fun _ _ _ h => submitted h
theorem driveReadyTimeout : ∀ a0, Statement (.driveReadyTimeout a0) :=
  fun _ _ => trivial
theorem memberAbortDone : ∀ a0, Statement (.memberAbortDone a0) :=
  fun _ _ => trivial
theorem slotPresentDebounced : ∀ a0, Statement (.slotPresentDebounced a0) :=
  fun _ _ => trivial
theorem slotRemoved : ∀ a0, Statement (.slotRemoved a0) :=
  fun _ _ => trivial
theorem insertDelayExpiry : ∀ a0, Statement (.insertDelayExpiry a0) :=
  fun _ _ => trivial
theorem slotChannelStart : ∀ a0, Statement (.slotChannelStart a0) :=
  fun _ _ => trivial
theorem slotPowerGood : ∀ a0, Statement (.slotPowerGood a0) :=
  fun _ _ => trivial
theorem faultTimerExpiry : ∀ a0, Statement (.faultTimerExpiry a0) :=
  fun _ _ => trivial
theorem efuseTrip : ∀ a0, Statement (.efuseTrip a0) :=
  fun _ _ => trivial
theorem slotOutputUv : ∀ a0, Statement (.slotOutputUv a0) :=
  fun _ _ => trivial
theorem slotInputOutOfWindow : ∀ a0 a1, Statement (.slotInputOutOfWindow a0 a1) :=
  fun _ _ _ => trivial
theorem brownoutHoldStart : ∀ a0, Statement (.brownoutHoldStart a0) :=
  fun _ _ => trivial
theorem brownoutHoldExpiry : ∀ a0 a1, Statement (.brownoutHoldExpiry a0 a1) :=
  fun _ _ _ => trivial
theorem retryDelayExpiry : ∀ a0, Statement (.retryDelayExpiry a0) :=
  fun _ _ => trivial
theorem retryCountClearExpiry : ∀ a0, Statement (.retryCountClearExpiry a0) :=
  fun _ _ => trivial
theorem slotClear : ∀ a0 a1, Statement (.slotClear a0 a1) :=
  fun _ _ _ => trivial
theorem slotCycle : ∀ a0 a1, Statement (.slotCycle a0 a1) :=
  fun _ _ _ => trivial
theorem slotCycleExpiry : ∀ a0, Statement (.slotCycleExpiry a0) :=
  fun _ _ => trivial
theorem slotPeakClear : ∀ a0 a1, Statement (.slotPeakClear a0 a1) :=
  fun _ _ _ => trivial
theorem slotShutdownDone : ∀ a0, Statement (.slotShutdownDone a0) :=
  fun _ _ => trivial
theorem slotStopAckTimeout : ∀ a0, Statement (.slotStopAckTimeout a0) :=
  fun _ _ => trivial
theorem slotHeldCheck : ∀ a0 a1, Statement (.slotHeldCheck a0 a1) :=
  fun _ _ _ => trivial
theorem slotDischargeCheck : ∀ a0 a1 a2, Statement (.slotDischargeCheck a0 a1 a2) :=
  fun _ _ _ _ => trivial
theorem feedPresentDebounced : ∀ a0, Statement (.feedPresentDebounced a0) :=
  fun _ _ => trivial
theorem feedInsertDelayExpiry : ∀ a0, Statement (.feedInsertDelayExpiry a0) :=
  fun _ _ => trivial
theorem feedReturnHoldExpiry : ∀ a0, Statement (.feedReturnHoldExpiry a0) :=
  fun _ _ => trivial
theorem feedFailureTransfer : ∀ a0, Statement (.feedFailureTransfer a0) :=
  fun _ _ => trivial
theorem feedDeadTimeExpiry : Statement .feedDeadTimeExpiry :=
  fun _ => trivial
theorem feedPowerGood : ∀ a0, Statement (.feedPowerGood a0) :=
  fun _ _ => trivial
theorem supplyWarningAssert : Statement .supplyWarningAssert :=
  fun _ => trivial
theorem supplyWarningRelease : Statement .supplyWarningRelease :=
  fun _ => trivial
theorem feedInputOutOfWindow : ∀ a0, Statement (.feedInputOutOfWindow a0) :=
  fun _ _ => trivial
theorem feedRemoved : ∀ a0, Statement (.feedRemoved a0) :=
  fun _ _ => trivial
theorem pawnChallengeRx : ∀ a0 a1, Statement (.pawnChallengeRx a0 a1) :=
  fun _ _ _ => trivial
theorem pawnProofRx : ∀ a0 a1 a2, Statement (.pawnProofRx a0 a1 a2) :=
  fun _ _ _ _ => trivial
theorem witnessProofTimeout : ∀ a0, Statement (.witnessProofTimeout a0) :=
  fun _ _ => trivial
theorem witnessRetryExpiry : ∀ a0, Statement (.witnessRetryExpiry a0) :=
  fun _ _ => trivial
theorem witnessConnectionLost : ∀ a0, Statement (.witnessConnectionLost a0) :=
  fun _ _ => trivial
theorem pawnRequestRx : ∀ a0 a1 a2, Statement (.pawnRequestRx a0 a1 a2) :=
  fun _ _ _ _ => trivial
theorem contentionWaitExpiry : ∀ a0, Statement (.contentionWaitExpiry a0) :=
  fun _ _ => trivial
theorem pawnGrantRx : ∀ a0 a1, Statement (.pawnGrantRx a0 a1) :=
  fun _ _ _ => trivial
theorem pawnDenyRx : ∀ a0 a1, Statement (.pawnDenyRx a0 a1) :=
  fun _ _ _ => trivial
theorem denyWaitExpiry : ∀ a0, Statement (.denyWaitExpiry a0) :=
  fun _ _ => trivial
theorem pawnReleaseRx : ∀ a0 a1 a2, Statement (.pawnReleaseRx a0 a1 a2) :=
  fun _ _ _ _ => trivial
theorem pawnRenewTimer : Statement .pawnRenewTimer :=
  fun _ => trivial
theorem pawnResendExpiry : ∀ a0, Statement (.pawnResendExpiry a0) :=
  fun _ _ => trivial
theorem minorityBackoffExpiry : Statement .minorityBackoffExpiry :=
  fun _ => trivial
theorem pawnCutoff : Statement .pawnCutoff :=
  fun _ => trivial
theorem pawnExpiry : Statement .pawnExpiry :=
  fun _ => trivial
theorem helloRx : ∀ a0 a1, Statement (.helloRx a0 a1) :=
  fun _ _ _ => trivial
theorem heartbeatRx : ∀ a0 a1, Statement (.heartbeatRx a0 a1) :=
  fun _ _ _ => trivial
theorem heartbeatTimer : Statement .heartbeatTimer :=
  fun _ => trivial
theorem peerLost : Statement .peerLost :=
  fun _ => trivial
theorem mapBulkRx : ∀ a0 a1 a2, Statement (.mapBulkRx a0 a1 a2) :=
  fun _ _ _ _ => trivial
theorem mapDeltaRx : ∀ a0 a1, Statement (.mapDeltaRx a0 a1) :=
  fun _ _ _ => trivial
theorem trailerRx : ∀ a0 a1, Statement (.trailerRx a0 a1) :=
  fun _ _ _ => trivial
theorem recordRx : ∀ a0 a1, Statement (.recordRx a0 a1) :=
  fun _ _ _ => trivial
theorem nackRx : ∀ a0, Statement (.nackRx a0) :=
  fun _ _ => trivial
theorem slotDemandRx : ∀ a0, Statement (.slotDemandRx a0) :=
  fun _ _ => trivial
theorem slotDemandTimer : Statement .slotDemandTimer :=
  fun _ => trivial
theorem slotAckRx : ∀ a0, Statement (.slotAckRx a0) :=
  fun _ _ => trivial
theorem healthRx : ∀ a0 a1, Statement (.healthRx a0 a1) :=
  fun _ _ _ => trivial
theorem yieldRx : ∀ a0 a1, Statement (.yieldRx a0 a1) :=
  fun _ _ _ => trivial
theorem recoveryHelloTimeout : Statement .recoveryHelloTimeout :=
  fun _ => trivial
theorem fitnessTestDone : ∀ a0 a1 a2 a3, Statement (.fitnessTestDone a0 a1 a2 a3) :=
  fun _ _ _ _ _ => trivial
theorem handOver : ∀ a0 a1, Statement (.handOver a0 a1) :=
  fun _ _ h => submitted h
theorem handOverDrainTimeout : Statement .handOverDrainTimeout :=
  fun _ => trivial
theorem checkpointFenceExpiry : Statement .checkpointFenceExpiry :=
  fun _ => trivial
theorem pairUnserviceableTimer : Statement .pairUnserviceableTimer :=
  fun _ => trivial
theorem replicaExtentSend : ∀ a0 a1 a2, Statement (.replicaExtentSend a0 a1 a2) :=
  fun _ _ _ _ => trivial
theorem replicaDownTimeout : ∀ a0, Statement (.replicaDownTimeout a0) :=
  fun _ _ => trivial
theorem endpointReset : ∀ a0, Statement (.endpointReset a0) :=
  fun _ _ => trivial
theorem endpointLinkUp : ∀ a0 a1 a2, Statement (.endpointLinkUp a0 a1 a2) :=
  fun _ _ _ _ => trivial
theorem powerStateChange : ∀ a0, Statement (.powerStateChange a0) :=
  fun _ _ => trivial
theorem msixUnmask : ∀ a0 a1, Statement (.msixUnmask a0 a1) :=
  fun _ _ _ => trivial
theorem mailboxSubmit : ∀ a0, Statement (.mailboxSubmit a0) :=
  fun _ _ => trivial
theorem mailboxDmaDone : Statement .mailboxDmaDone :=
  fun _ => trivial
theorem flashWrite : ∀ a0 a1 a2 a3 a4, Statement (.flashWrite a0 a1 a2 a3 a4) :=
  fun _ _ _ _ _ _ => trivial
theorem flashEraseDone : ∀ a0, Statement (.flashEraseDone a0) :=
  fun _ _ => trivial
theorem flashPageProgramDone : ∀ a0, Statement (.flashPageProgramDone a0) :=
  fun _ _ => trivial
theorem functionLevelReset : Statement .functionLevelReset :=
  fun _ => trivial
theorem flrDmaQuiesce : Statement .flrDmaQuiesce :=
  fun _ => trivial
theorem flrComplete : Statement .flrComplete :=
  fun _ => trivial
theorem endpointContain : ∀ a0, Statement (.endpointContain a0) :=
  fun _ _ => trivial
theorem containmentRelease : Statement .containmentRelease :=
  fun _ => trivial
theorem sepPerstRelease : Statement .sepPerstRelease :=
  fun _ => trivial
theorem eventRingHeadWrite : ∀ a0 a1, Statement (.eventRingHeadWrite a0 a1) :=
  fun _ _ _ => trivial
theorem eventRead : ∀ a0 a1 a2, Statement (.eventRead a0 a1 a2) :=
  fun _ _ _ h => submitted h
theorem snapshotPassDone : Statement .snapshotPassDone :=
  fun _ => trivial
theorem counterPreload : ∀ a0, Statement (.counterPreload a0) :=
  fun _ _ => trivial
theorem counterLiveRead : ∀ a0, Statement (.counterLiveRead a0) :=
  fun _ _ => trivial
theorem counterOverflow : ∀ a0 a1, Statement (.counterOverflow a0 a1) :=
  fun _ _ _ => trivial
theorem counterSampleRead : ∀ a0, Statement (.counterSampleRead a0) :=
  fun _ _ => trivial
theorem bwWindowWrite : ∀ a0 a1, Statement (.bwWindowWrite a0 a1) :=
  fun _ _ _ => trivial
theorem counterRead : ∀ a0 a1 a2, Statement (.counterRead a0 a1 a2) :=
  fun _ _ _ h => submitted h
theorem registerSequence : ∀ a0 a1 a2 a3, Statement (.registerSequence a0 a1 a2 a3) :=
  fun _ _ _ _ h => submitted h

end Sys2Proof.Laws.WellFormed
end

