-- ==== Sys2Proof/Laws/State.lean ====
section
/-!
SUPPORT. Laws/State.lean: one lemma per field per basic update of the state, so that no proof unfolds a record update; reading a
register after writing one; and the fields of a state that an operation keeps.
-/

namespace Sys2Proof.Machine

/-! ### State.wr -/

@[simp] theorem State.wr_pending (s : State) (f : Fld) (i j v : Nat) : (s.wr f i j v).pending = s.pending := rfl
@[simp] theorem State.wr_outbox (s : State) (f : Fld) (i j v : Nat) : (s.wr f i j v).outbox = s.outbox := rfl
@[simp] theorem State.wr_deferred (s : State) (f : Fld) (i j v : Nat) : (s.wr f i j v).deferred = s.deferred := rfl
@[simp] theorem State.wr_free (s : State) (f : Fld) (i j v : Nat) : (s.wr f i j v).free = s.free := rfl
@[simp] theorem State.wr_regs (s : State) (f : Fld) (i j v : Nat) : (s.wr f i j v).regs = regPut s.regs f i j v := rfl
@[simp] theorem State.wr_dram (s : State) (f : Fld) (i j v : Nat) : (s.wr f i j v).dram = s.dram := rfl
@[simp] theorem State.wr_trn (s : State) (f : Fld) (i j v : Nat) : (s.wr f i j v).trn = s.trn := rfl
@[simp] theorem State.wr_cfg (s : State) (f : Fld) (i j v : Nat) : (s.wr f i j v).cfg = s.cfg := rfl
@[simp] theorem State.wr_idn (s : State) (f : Fld) (i j v : Nat) : (s.wr f i j v).idn = s.idn := rfl
@[simp] theorem State.wr_eth (s : State) (f : Fld) (i j v : Nat) : (s.wr f i j v).eth = s.eth := rfl
@[simp] theorem State.wr_xpt (s : State) (f : Fld) (i j v : Nat) : (s.wr f i j v).xpt = s.xpt := rfl
@[simp] theorem State.wr_win (s : State) (f : Fld) (i j v : Nat) : (s.wr f i j v).win = s.win := rfl
@[simp] theorem State.wr_sch (s : State) (f : Fld) (i j v : Nat) : (s.wr f i j v).sch = s.sch := rfl
@[simp] theorem State.wr_cmd (s : State) (f : Fld) (i j v : Nat) : (s.wr f i j v).cmd = s.cmd := rfl
@[simp] theorem State.wr_fsp (s : State) (f : Fld) (i j v : Nat) : (s.wr f i j v).fsp = s.fsp := rfl
@[simp] theorem State.wr_gch (s : State) (f : Fld) (i j v : Nat) : (s.wr f i j v).gch = s.gch := rfl
@[simp] theorem State.wr_sal (s : State) (f : Fld) (i j v : Nat) : (s.wr f i j v).sal = s.sal := rfl
@[simp] theorem State.wr_cmp (s : State) (f : Fld) (i j v : Nat) : (s.wr f i j v).cmp = s.cmp := rfl
@[simp] theorem State.wr_cph (s : State) (f : Fld) (i j v : Nat) : (s.wr f i j v).cph = s.cph := rfl
@[simp] theorem State.wr_lay (s : State) (f : Fld) (i j v : Nat) : (s.wr f i j v).lay = s.lay := rfl
@[simp] theorem State.wr_jnl (s : State) (f : Fld) (i j v : Nat) : (s.wr f i j v).jnl = s.jnl := rfl
@[simp] theorem State.wr_axl (s : State) (f : Fld) (i j v : Nat) : (s.wr f i j v).axl = s.axl := rfl
@[simp] theorem State.wr_drv (s : State) (f : Fld) (i j v : Nat) : (s.wr f i j v).drv = s.drv := rfl
@[simp] theorem State.wr_pwr (s : State) (f : Fld) (i j v : Nat) : (s.wr f i j v).pwr = s.pwr := rfl
@[simp] theorem State.wr_fov (s : State) (f : Fld) (i j v : Nat) : (s.wr f i j v).fov = s.fov := rfl
@[simp] theorem State.wr_sep (s : State) (f : Fld) (i j v : Nat) : (s.wr f i j v).sep = s.sep := rfl
@[simp] theorem State.wr_evt (s : State) (f : Fld) (i j v : Nat) : (s.wr f i j v).evt = s.evt := rfl
@[simp] theorem State.wr_cnt (s : State) (f : Fld) (i j v : Nat) : (s.wr f i j v).cnt = s.cnt := rfl

/-! ### State.bump -/

@[simp] theorem State.bump_pending (s : State) (f : Fld) (i j n : Nat) : (s.bump f i j n).pending = s.pending := rfl
@[simp] theorem State.bump_outbox (s : State) (f : Fld) (i j n : Nat) : (s.bump f i j n).outbox = s.outbox := rfl
@[simp] theorem State.bump_deferred (s : State) (f : Fld) (i j n : Nat) : (s.bump f i j n).deferred = s.deferred := rfl
@[simp] theorem State.bump_free (s : State) (f : Fld) (i j n : Nat) : (s.bump f i j n).free = s.free := rfl
@[simp] theorem State.bump_dram (s : State) (f : Fld) (i j n : Nat) : (s.bump f i j n).dram = s.dram := rfl
@[simp] theorem State.bump_trn (s : State) (f : Fld) (i j n : Nat) : (s.bump f i j n).trn = s.trn := rfl
@[simp] theorem State.bump_cfg (s : State) (f : Fld) (i j n : Nat) : (s.bump f i j n).cfg = s.cfg := rfl
@[simp] theorem State.bump_idn (s : State) (f : Fld) (i j n : Nat) : (s.bump f i j n).idn = s.idn := rfl
@[simp] theorem State.bump_eth (s : State) (f : Fld) (i j n : Nat) : (s.bump f i j n).eth = s.eth := rfl
@[simp] theorem State.bump_xpt (s : State) (f : Fld) (i j n : Nat) : (s.bump f i j n).xpt = s.xpt := rfl
@[simp] theorem State.bump_win (s : State) (f : Fld) (i j n : Nat) : (s.bump f i j n).win = s.win := rfl
@[simp] theorem State.bump_sch (s : State) (f : Fld) (i j n : Nat) : (s.bump f i j n).sch = s.sch := rfl
@[simp] theorem State.bump_cmd (s : State) (f : Fld) (i j n : Nat) : (s.bump f i j n).cmd = s.cmd := rfl
@[simp] theorem State.bump_fsp (s : State) (f : Fld) (i j n : Nat) : (s.bump f i j n).fsp = s.fsp := rfl
@[simp] theorem State.bump_gch (s : State) (f : Fld) (i j n : Nat) : (s.bump f i j n).gch = s.gch := rfl
@[simp] theorem State.bump_sal (s : State) (f : Fld) (i j n : Nat) : (s.bump f i j n).sal = s.sal := rfl
@[simp] theorem State.bump_cmp (s : State) (f : Fld) (i j n : Nat) : (s.bump f i j n).cmp = s.cmp := rfl
@[simp] theorem State.bump_cph (s : State) (f : Fld) (i j n : Nat) : (s.bump f i j n).cph = s.cph := rfl
@[simp] theorem State.bump_lay (s : State) (f : Fld) (i j n : Nat) : (s.bump f i j n).lay = s.lay := rfl
@[simp] theorem State.bump_jnl (s : State) (f : Fld) (i j n : Nat) : (s.bump f i j n).jnl = s.jnl := rfl
@[simp] theorem State.bump_axl (s : State) (f : Fld) (i j n : Nat) : (s.bump f i j n).axl = s.axl := rfl
@[simp] theorem State.bump_drv (s : State) (f : Fld) (i j n : Nat) : (s.bump f i j n).drv = s.drv := rfl
@[simp] theorem State.bump_pwr (s : State) (f : Fld) (i j n : Nat) : (s.bump f i j n).pwr = s.pwr := rfl
@[simp] theorem State.bump_fov (s : State) (f : Fld) (i j n : Nat) : (s.bump f i j n).fov = s.fov := rfl
@[simp] theorem State.bump_sep (s : State) (f : Fld) (i j n : Nat) : (s.bump f i j n).sep = s.sep := rfl
@[simp] theorem State.bump_evt (s : State) (f : Fld) (i j n : Nat) : (s.bump f i j n).evt = s.evt := rfl
@[simp] theorem State.bump_cnt (s : State) (f : Fld) (i j n : Nat) : (s.bump f i j n).cnt = s.cnt := rfl

/-! ### State.bumpWrap -/

@[simp] theorem State.bumpWrap_pending (s : State) (f : Fld) (i j n : Nat) : (s.bumpWrap f i j n).pending = s.pending := rfl
@[simp] theorem State.bumpWrap_outbox (s : State) (f : Fld) (i j n : Nat) : (s.bumpWrap f i j n).outbox = s.outbox := rfl
@[simp] theorem State.bumpWrap_deferred (s : State) (f : Fld) (i j n : Nat) : (s.bumpWrap f i j n).deferred = s.deferred := rfl
@[simp] theorem State.bumpWrap_free (s : State) (f : Fld) (i j n : Nat) : (s.bumpWrap f i j n).free = s.free := rfl
@[simp] theorem State.bumpWrap_dram (s : State) (f : Fld) (i j n : Nat) : (s.bumpWrap f i j n).dram = s.dram := rfl
@[simp] theorem State.bumpWrap_trn (s : State) (f : Fld) (i j n : Nat) : (s.bumpWrap f i j n).trn = s.trn := rfl
@[simp] theorem State.bumpWrap_cfg (s : State) (f : Fld) (i j n : Nat) : (s.bumpWrap f i j n).cfg = s.cfg := rfl
@[simp] theorem State.bumpWrap_idn (s : State) (f : Fld) (i j n : Nat) : (s.bumpWrap f i j n).idn = s.idn := rfl
@[simp] theorem State.bumpWrap_eth (s : State) (f : Fld) (i j n : Nat) : (s.bumpWrap f i j n).eth = s.eth := rfl
@[simp] theorem State.bumpWrap_xpt (s : State) (f : Fld) (i j n : Nat) : (s.bumpWrap f i j n).xpt = s.xpt := rfl
@[simp] theorem State.bumpWrap_win (s : State) (f : Fld) (i j n : Nat) : (s.bumpWrap f i j n).win = s.win := rfl
@[simp] theorem State.bumpWrap_sch (s : State) (f : Fld) (i j n : Nat) : (s.bumpWrap f i j n).sch = s.sch := rfl
@[simp] theorem State.bumpWrap_cmd (s : State) (f : Fld) (i j n : Nat) : (s.bumpWrap f i j n).cmd = s.cmd := rfl
@[simp] theorem State.bumpWrap_fsp (s : State) (f : Fld) (i j n : Nat) : (s.bumpWrap f i j n).fsp = s.fsp := rfl
@[simp] theorem State.bumpWrap_gch (s : State) (f : Fld) (i j n : Nat) : (s.bumpWrap f i j n).gch = s.gch := rfl
@[simp] theorem State.bumpWrap_sal (s : State) (f : Fld) (i j n : Nat) : (s.bumpWrap f i j n).sal = s.sal := rfl
@[simp] theorem State.bumpWrap_cmp (s : State) (f : Fld) (i j n : Nat) : (s.bumpWrap f i j n).cmp = s.cmp := rfl
@[simp] theorem State.bumpWrap_cph (s : State) (f : Fld) (i j n : Nat) : (s.bumpWrap f i j n).cph = s.cph := rfl
@[simp] theorem State.bumpWrap_lay (s : State) (f : Fld) (i j n : Nat) : (s.bumpWrap f i j n).lay = s.lay := rfl
@[simp] theorem State.bumpWrap_jnl (s : State) (f : Fld) (i j n : Nat) : (s.bumpWrap f i j n).jnl = s.jnl := rfl
@[simp] theorem State.bumpWrap_axl (s : State) (f : Fld) (i j n : Nat) : (s.bumpWrap f i j n).axl = s.axl := rfl
@[simp] theorem State.bumpWrap_drv (s : State) (f : Fld) (i j n : Nat) : (s.bumpWrap f i j n).drv = s.drv := rfl
@[simp] theorem State.bumpWrap_pwr (s : State) (f : Fld) (i j n : Nat) : (s.bumpWrap f i j n).pwr = s.pwr := rfl
@[simp] theorem State.bumpWrap_fov (s : State) (f : Fld) (i j n : Nat) : (s.bumpWrap f i j n).fov = s.fov := rfl
@[simp] theorem State.bumpWrap_sep (s : State) (f : Fld) (i j n : Nat) : (s.bumpWrap f i j n).sep = s.sep := rfl
@[simp] theorem State.bumpWrap_evt (s : State) (f : Fld) (i j n : Nat) : (s.bumpWrap f i j n).evt = s.evt := rfl
@[simp] theorem State.bumpWrap_cnt (s : State) (f : Fld) (i j n : Nat) : (s.bumpWrap f i j n).cnt = s.cnt := rfl

/-! ### State.emit -/

@[simp] theorem State.emit_pending (s : State) (k : OutKind) (args : List Nat) : (s.emit k args).pending = s.pending := rfl
@[simp] theorem State.emit_outbox (s : State) (k : OutKind) (args : List Nat) : (s.emit k args).outbox = s.outbox ++ [⟨k, args⟩] := rfl
@[simp] theorem State.emit_deferred (s : State) (k : OutKind) (args : List Nat) : (s.emit k args).deferred = s.deferred := rfl
@[simp] theorem State.emit_free (s : State) (k : OutKind) (args : List Nat) : (s.emit k args).free = s.free := rfl
@[simp] theorem State.emit_regs (s : State) (k : OutKind) (args : List Nat) : (s.emit k args).regs = s.regs := rfl
@[simp] theorem State.emit_dram (s : State) (k : OutKind) (args : List Nat) : (s.emit k args).dram = s.dram := rfl
@[simp] theorem State.emit_trn (s : State) (k : OutKind) (args : List Nat) : (s.emit k args).trn = s.trn := rfl
@[simp] theorem State.emit_cfg (s : State) (k : OutKind) (args : List Nat) : (s.emit k args).cfg = s.cfg := rfl
@[simp] theorem State.emit_idn (s : State) (k : OutKind) (args : List Nat) : (s.emit k args).idn = s.idn := rfl
@[simp] theorem State.emit_eth (s : State) (k : OutKind) (args : List Nat) : (s.emit k args).eth = s.eth := rfl
@[simp] theorem State.emit_xpt (s : State) (k : OutKind) (args : List Nat) : (s.emit k args).xpt = s.xpt := rfl
@[simp] theorem State.emit_win (s : State) (k : OutKind) (args : List Nat) : (s.emit k args).win = s.win := rfl
@[simp] theorem State.emit_sch (s : State) (k : OutKind) (args : List Nat) : (s.emit k args).sch = s.sch := rfl
@[simp] theorem State.emit_cmd (s : State) (k : OutKind) (args : List Nat) : (s.emit k args).cmd = s.cmd := rfl
@[simp] theorem State.emit_fsp (s : State) (k : OutKind) (args : List Nat) : (s.emit k args).fsp = s.fsp := rfl
@[simp] theorem State.emit_gch (s : State) (k : OutKind) (args : List Nat) : (s.emit k args).gch = s.gch := rfl
@[simp] theorem State.emit_sal (s : State) (k : OutKind) (args : List Nat) : (s.emit k args).sal = s.sal := rfl
@[simp] theorem State.emit_cmp (s : State) (k : OutKind) (args : List Nat) : (s.emit k args).cmp = s.cmp := rfl
@[simp] theorem State.emit_cph (s : State) (k : OutKind) (args : List Nat) : (s.emit k args).cph = s.cph := rfl
@[simp] theorem State.emit_lay (s : State) (k : OutKind) (args : List Nat) : (s.emit k args).lay = s.lay := rfl
@[simp] theorem State.emit_jnl (s : State) (k : OutKind) (args : List Nat) : (s.emit k args).jnl = s.jnl := rfl
@[simp] theorem State.emit_axl (s : State) (k : OutKind) (args : List Nat) : (s.emit k args).axl = s.axl := rfl
@[simp] theorem State.emit_drv (s : State) (k : OutKind) (args : List Nat) : (s.emit k args).drv = s.drv := rfl
@[simp] theorem State.emit_pwr (s : State) (k : OutKind) (args : List Nat) : (s.emit k args).pwr = s.pwr := rfl
@[simp] theorem State.emit_fov (s : State) (k : OutKind) (args : List Nat) : (s.emit k args).fov = s.fov := rfl
@[simp] theorem State.emit_sep (s : State) (k : OutKind) (args : List Nat) : (s.emit k args).sep = s.sep := rfl
@[simp] theorem State.emit_evt (s : State) (k : OutKind) (args : List Nat) : (s.emit k args).evt = s.evt := rfl
@[simp] theorem State.emit_cnt (s : State) (k : OutKind) (args : List Nat) : (s.emit k args).cnt = s.cnt := rfl

/-! ### State.defer -/

@[simp] theorem State.defer_pending (s : State) (d : Deferred) : (s.defer d).pending = s.pending := rfl
@[simp] theorem State.defer_outbox (s : State) (d : Deferred) : (s.defer d).outbox = s.outbox := rfl
@[simp] theorem State.defer_deferred (s : State) (d : Deferred) : (s.defer d).deferred = s.deferred ++ [d] := rfl
@[simp] theorem State.defer_free (s : State) (d : Deferred) : (s.defer d).free = s.free := rfl
@[simp] theorem State.defer_regs (s : State) (d : Deferred) : (s.defer d).regs = s.regs := rfl
@[simp] theorem State.defer_dram (s : State) (d : Deferred) : (s.defer d).dram = s.dram := rfl
@[simp] theorem State.defer_trn (s : State) (d : Deferred) : (s.defer d).trn = s.trn := rfl
@[simp] theorem State.defer_cfg (s : State) (d : Deferred) : (s.defer d).cfg = s.cfg := rfl
@[simp] theorem State.defer_idn (s : State) (d : Deferred) : (s.defer d).idn = s.idn := rfl
@[simp] theorem State.defer_eth (s : State) (d : Deferred) : (s.defer d).eth = s.eth := rfl
@[simp] theorem State.defer_xpt (s : State) (d : Deferred) : (s.defer d).xpt = s.xpt := rfl
@[simp] theorem State.defer_win (s : State) (d : Deferred) : (s.defer d).win = s.win := rfl
@[simp] theorem State.defer_sch (s : State) (d : Deferred) : (s.defer d).sch = s.sch := rfl
@[simp] theorem State.defer_cmd (s : State) (d : Deferred) : (s.defer d).cmd = s.cmd := rfl
@[simp] theorem State.defer_fsp (s : State) (d : Deferred) : (s.defer d).fsp = s.fsp := rfl
@[simp] theorem State.defer_gch (s : State) (d : Deferred) : (s.defer d).gch = s.gch := rfl
@[simp] theorem State.defer_sal (s : State) (d : Deferred) : (s.defer d).sal = s.sal := rfl
@[simp] theorem State.defer_cmp (s : State) (d : Deferred) : (s.defer d).cmp = s.cmp := rfl
@[simp] theorem State.defer_cph (s : State) (d : Deferred) : (s.defer d).cph = s.cph := rfl
@[simp] theorem State.defer_lay (s : State) (d : Deferred) : (s.defer d).lay = s.lay := rfl
@[simp] theorem State.defer_jnl (s : State) (d : Deferred) : (s.defer d).jnl = s.jnl := rfl
@[simp] theorem State.defer_axl (s : State) (d : Deferred) : (s.defer d).axl = s.axl := rfl
@[simp] theorem State.defer_drv (s : State) (d : Deferred) : (s.defer d).drv = s.drv := rfl
@[simp] theorem State.defer_pwr (s : State) (d : Deferred) : (s.defer d).pwr = s.pwr := rfl
@[simp] theorem State.defer_fov (s : State) (d : Deferred) : (s.defer d).fov = s.fov := rfl
@[simp] theorem State.defer_sep (s : State) (d : Deferred) : (s.defer d).sep = s.sep := rfl
@[simp] theorem State.defer_evt (s : State) (d : Deferred) : (s.defer d).evt = s.evt := rfl
@[simp] theorem State.defer_cnt (s : State) (d : Deferred) : (s.defer d).cnt = s.cnt := rfl

/-! ### State.latch -/

@[simp] theorem State.latch_pending (s : State) (src : Nat) : (s.latch src).pending = s.pending := rfl
@[simp] theorem State.latch_outbox (s : State) (src : Nat) : (s.latch src).outbox = s.outbox := rfl
@[simp] theorem State.latch_deferred (s : State) (src : Nat) : (s.latch src).deferred = s.deferred := rfl
@[simp] theorem State.latch_free (s : State) (src : Nat) : (s.latch src).free = s.free := rfl
@[simp] theorem State.latch_dram (s : State) (src : Nat) : (s.latch src).dram = s.dram := rfl
@[simp] theorem State.latch_trn (s : State) (src : Nat) : (s.latch src).trn = s.trn := rfl
@[simp] theorem State.latch_cfg (s : State) (src : Nat) : (s.latch src).cfg = s.cfg := rfl
@[simp] theorem State.latch_idn (s : State) (src : Nat) : (s.latch src).idn = s.idn := rfl
@[simp] theorem State.latch_eth (s : State) (src : Nat) : (s.latch src).eth = s.eth := rfl
@[simp] theorem State.latch_xpt (s : State) (src : Nat) : (s.latch src).xpt = s.xpt := rfl
@[simp] theorem State.latch_win (s : State) (src : Nat) : (s.latch src).win = s.win := rfl
@[simp] theorem State.latch_sch (s : State) (src : Nat) : (s.latch src).sch = s.sch := rfl
@[simp] theorem State.latch_cmd (s : State) (src : Nat) : (s.latch src).cmd = s.cmd := rfl
@[simp] theorem State.latch_fsp (s : State) (src : Nat) : (s.latch src).fsp = s.fsp := rfl
@[simp] theorem State.latch_gch (s : State) (src : Nat) : (s.latch src).gch = s.gch := rfl
@[simp] theorem State.latch_sal (s : State) (src : Nat) : (s.latch src).sal = s.sal := rfl
@[simp] theorem State.latch_cmp (s : State) (src : Nat) : (s.latch src).cmp = s.cmp := rfl
@[simp] theorem State.latch_cph (s : State) (src : Nat) : (s.latch src).cph = s.cph := rfl
@[simp] theorem State.latch_lay (s : State) (src : Nat) : (s.latch src).lay = s.lay := rfl
@[simp] theorem State.latch_jnl (s : State) (src : Nat) : (s.latch src).jnl = s.jnl := rfl
@[simp] theorem State.latch_axl (s : State) (src : Nat) : (s.latch src).axl = s.axl := rfl
@[simp] theorem State.latch_drv (s : State) (src : Nat) : (s.latch src).drv = s.drv := rfl
@[simp] theorem State.latch_pwr (s : State) (src : Nat) : (s.latch src).pwr = s.pwr := rfl
@[simp] theorem State.latch_fov (s : State) (src : Nat) : (s.latch src).fov = s.fov := rfl
@[simp] theorem State.latch_sep (s : State) (src : Nat) : (s.latch src).sep = s.sep := rfl
@[simp] theorem State.latch_evt (s : State) (src : Nat) : (s.latch src).evt = s.evt := rfl
@[simp] theorem State.latch_cnt (s : State) (src : Nat) : (s.latch src).cnt = s.cnt := rfl

/-! ### State.raise -/

@[simp] theorem State.raise_pending (s : State) (src sev inst code value value2 : Nat) : (s.raise src sev inst code value value2).pending = s.pending := rfl
@[simp] theorem State.raise_outbox (s : State) (src sev inst code value value2 : Nat) : (s.raise src sev inst code value value2).outbox = s.outbox := rfl
@[simp] theorem State.raise_deferred (s : State) (src sev inst code value value2 : Nat) : (s.raise src sev inst code value value2).deferred = s.deferred := rfl
@[simp] theorem State.raise_free (s : State) (src sev inst code value value2 : Nat) : (s.raise src sev inst code value value2).free = s.free := rfl
@[simp] theorem State.raise_dram (s : State) (src sev inst code value value2 : Nat) : (s.raise src sev inst code value value2).dram = s.dram := rfl
@[simp] theorem State.raise_trn (s : State) (src sev inst code value value2 : Nat) : (s.raise src sev inst code value value2).trn = s.trn := rfl
@[simp] theorem State.raise_cfg (s : State) (src sev inst code value value2 : Nat) : (s.raise src sev inst code value value2).cfg = s.cfg := rfl
@[simp] theorem State.raise_idn (s : State) (src sev inst code value value2 : Nat) : (s.raise src sev inst code value value2).idn = s.idn := rfl
@[simp] theorem State.raise_eth (s : State) (src sev inst code value value2 : Nat) : (s.raise src sev inst code value value2).eth = s.eth := rfl
@[simp] theorem State.raise_xpt (s : State) (src sev inst code value value2 : Nat) : (s.raise src sev inst code value value2).xpt = s.xpt := rfl
@[simp] theorem State.raise_win (s : State) (src sev inst code value value2 : Nat) : (s.raise src sev inst code value value2).win = s.win := rfl
@[simp] theorem State.raise_sch (s : State) (src sev inst code value value2 : Nat) : (s.raise src sev inst code value value2).sch = s.sch := rfl
@[simp] theorem State.raise_cmd (s : State) (src sev inst code value value2 : Nat) : (s.raise src sev inst code value value2).cmd = s.cmd := rfl
@[simp] theorem State.raise_fsp (s : State) (src sev inst code value value2 : Nat) : (s.raise src sev inst code value value2).fsp = s.fsp := rfl
@[simp] theorem State.raise_gch (s : State) (src sev inst code value value2 : Nat) : (s.raise src sev inst code value value2).gch = s.gch := rfl
@[simp] theorem State.raise_sal (s : State) (src sev inst code value value2 : Nat) : (s.raise src sev inst code value value2).sal = s.sal := rfl
@[simp] theorem State.raise_cmp (s : State) (src sev inst code value value2 : Nat) : (s.raise src sev inst code value value2).cmp = s.cmp := rfl
@[simp] theorem State.raise_cph (s : State) (src sev inst code value value2 : Nat) : (s.raise src sev inst code value value2).cph = s.cph := rfl
@[simp] theorem State.raise_lay (s : State) (src sev inst code value value2 : Nat) : (s.raise src sev inst code value value2).lay = s.lay := rfl
@[simp] theorem State.raise_jnl (s : State) (src sev inst code value value2 : Nat) : (s.raise src sev inst code value value2).jnl = s.jnl := rfl
@[simp] theorem State.raise_axl (s : State) (src sev inst code value value2 : Nat) : (s.raise src sev inst code value value2).axl = s.axl := rfl
@[simp] theorem State.raise_drv (s : State) (src sev inst code value value2 : Nat) : (s.raise src sev inst code value value2).drv = s.drv := rfl
@[simp] theorem State.raise_pwr (s : State) (src sev inst code value value2 : Nat) : (s.raise src sev inst code value value2).pwr = s.pwr := rfl
@[simp] theorem State.raise_fov (s : State) (src sev inst code value value2 : Nat) : (s.raise src sev inst code value value2).fov = s.fov := rfl
@[simp] theorem State.raise_sep (s : State) (src sev inst code value value2 : Nat) : (s.raise src sev inst code value value2).sep = s.sep := rfl
@[simp] theorem State.raise_cnt (s : State) (src sev inst code value value2 : Nat) : (s.raise src sev inst code value value2).cnt = s.cnt := rfl

/-! ### State.violation -/

@[simp] theorem State.violation_pending (s : State) (offset writer : Nat) : (s.violation offset writer).pending = s.pending := rfl
@[simp] theorem State.violation_outbox (s : State) (offset writer : Nat) : (s.violation offset writer).outbox = s.outbox := rfl
@[simp] theorem State.violation_deferred (s : State) (offset writer : Nat) : (s.violation offset writer).deferred = s.deferred := rfl
@[simp] theorem State.violation_free (s : State) (offset writer : Nat) : (s.violation offset writer).free = s.free := rfl
@[simp] theorem State.violation_dram (s : State) (offset writer : Nat) : (s.violation offset writer).dram = s.dram := rfl
@[simp] theorem State.violation_trn (s : State) (offset writer : Nat) : (s.violation offset writer).trn = s.trn := rfl
@[simp] theorem State.violation_cfg (s : State) (offset writer : Nat) : (s.violation offset writer).cfg = s.cfg := rfl
@[simp] theorem State.violation_idn (s : State) (offset writer : Nat) : (s.violation offset writer).idn = s.idn := rfl
@[simp] theorem State.violation_eth (s : State) (offset writer : Nat) : (s.violation offset writer).eth = s.eth := rfl
@[simp] theorem State.violation_xpt (s : State) (offset writer : Nat) : (s.violation offset writer).xpt = s.xpt := rfl
@[simp] theorem State.violation_win (s : State) (offset writer : Nat) : (s.violation offset writer).win = s.win := rfl
@[simp] theorem State.violation_sch (s : State) (offset writer : Nat) : (s.violation offset writer).sch = s.sch := rfl
@[simp] theorem State.violation_cmd (s : State) (offset writer : Nat) : (s.violation offset writer).cmd = s.cmd := rfl
@[simp] theorem State.violation_fsp (s : State) (offset writer : Nat) : (s.violation offset writer).fsp = s.fsp := rfl
@[simp] theorem State.violation_gch (s : State) (offset writer : Nat) : (s.violation offset writer).gch = s.gch := rfl
@[simp] theorem State.violation_sal (s : State) (offset writer : Nat) : (s.violation offset writer).sal = s.sal := rfl
@[simp] theorem State.violation_cmp (s : State) (offset writer : Nat) : (s.violation offset writer).cmp = s.cmp := rfl
@[simp] theorem State.violation_cph (s : State) (offset writer : Nat) : (s.violation offset writer).cph = s.cph := rfl
@[simp] theorem State.violation_lay (s : State) (offset writer : Nat) : (s.violation offset writer).lay = s.lay := rfl
@[simp] theorem State.violation_jnl (s : State) (offset writer : Nat) : (s.violation offset writer).jnl = s.jnl := rfl
@[simp] theorem State.violation_axl (s : State) (offset writer : Nat) : (s.violation offset writer).axl = s.axl := rfl
@[simp] theorem State.violation_drv (s : State) (offset writer : Nat) : (s.violation offset writer).drv = s.drv := rfl
@[simp] theorem State.violation_pwr (s : State) (offset writer : Nat) : (s.violation offset writer).pwr = s.pwr := rfl
@[simp] theorem State.violation_fov (s : State) (offset writer : Nat) : (s.violation offset writer).fov = s.fov := rfl
@[simp] theorem State.violation_sep (s : State) (offset writer : Nat) : (s.violation offset writer).sep = s.sep := rfl
@[simp] theorem State.violation_cnt (s : State) (offset writer : Nat) : (s.violation offset writer).cnt = s.cnt := rfl

/-! ### State.complete -/

@[simp] theorem State.complete_pending (s : State) (ctrl cid : Nat) (st : Nat × Nat) (dw0 dw1 : Nat) : (s.complete ctrl cid st dw0 dw1).pending = s.pending := rfl
@[simp] theorem State.complete_deferred (s : State) (ctrl cid : Nat) (st : Nat × Nat) (dw0 dw1 : Nat) : (s.complete ctrl cid st dw0 dw1).deferred = s.deferred := rfl
@[simp] theorem State.complete_free (s : State) (ctrl cid : Nat) (st : Nat × Nat) (dw0 dw1 : Nat) : (s.complete ctrl cid st dw0 dw1).free = s.free := rfl
@[simp] theorem State.complete_regs (s : State) (ctrl cid : Nat) (st : Nat × Nat) (dw0 dw1 : Nat) : (s.complete ctrl cid st dw0 dw1).regs = s.regs := rfl
@[simp] theorem State.complete_dram (s : State) (ctrl cid : Nat) (st : Nat × Nat) (dw0 dw1 : Nat) : (s.complete ctrl cid st dw0 dw1).dram = s.dram := rfl
@[simp] theorem State.complete_trn (s : State) (ctrl cid : Nat) (st : Nat × Nat) (dw0 dw1 : Nat) : (s.complete ctrl cid st dw0 dw1).trn = s.trn := rfl
@[simp] theorem State.complete_cfg (s : State) (ctrl cid : Nat) (st : Nat × Nat) (dw0 dw1 : Nat) : (s.complete ctrl cid st dw0 dw1).cfg = s.cfg := rfl
@[simp] theorem State.complete_idn (s : State) (ctrl cid : Nat) (st : Nat × Nat) (dw0 dw1 : Nat) : (s.complete ctrl cid st dw0 dw1).idn = s.idn := rfl
@[simp] theorem State.complete_eth (s : State) (ctrl cid : Nat) (st : Nat × Nat) (dw0 dw1 : Nat) : (s.complete ctrl cid st dw0 dw1).eth = s.eth := rfl
@[simp] theorem State.complete_xpt (s : State) (ctrl cid : Nat) (st : Nat × Nat) (dw0 dw1 : Nat) : (s.complete ctrl cid st dw0 dw1).xpt = s.xpt := rfl
@[simp] theorem State.complete_win (s : State) (ctrl cid : Nat) (st : Nat × Nat) (dw0 dw1 : Nat) : (s.complete ctrl cid st dw0 dw1).win = s.win := rfl
@[simp] theorem State.complete_sch (s : State) (ctrl cid : Nat) (st : Nat × Nat) (dw0 dw1 : Nat) : (s.complete ctrl cid st dw0 dw1).sch = s.sch := rfl
@[simp] theorem State.complete_cmd (s : State) (ctrl cid : Nat) (st : Nat × Nat) (dw0 dw1 : Nat) : (s.complete ctrl cid st dw0 dw1).cmd = s.cmd := rfl
@[simp] theorem State.complete_fsp (s : State) (ctrl cid : Nat) (st : Nat × Nat) (dw0 dw1 : Nat) : (s.complete ctrl cid st dw0 dw1).fsp = s.fsp := rfl
@[simp] theorem State.complete_gch (s : State) (ctrl cid : Nat) (st : Nat × Nat) (dw0 dw1 : Nat) : (s.complete ctrl cid st dw0 dw1).gch = s.gch := rfl
@[simp] theorem State.complete_sal (s : State) (ctrl cid : Nat) (st : Nat × Nat) (dw0 dw1 : Nat) : (s.complete ctrl cid st dw0 dw1).sal = s.sal := rfl
@[simp] theorem State.complete_cmp (s : State) (ctrl cid : Nat) (st : Nat × Nat) (dw0 dw1 : Nat) : (s.complete ctrl cid st dw0 dw1).cmp = s.cmp := rfl
@[simp] theorem State.complete_cph (s : State) (ctrl cid : Nat) (st : Nat × Nat) (dw0 dw1 : Nat) : (s.complete ctrl cid st dw0 dw1).cph = s.cph := rfl
@[simp] theorem State.complete_lay (s : State) (ctrl cid : Nat) (st : Nat × Nat) (dw0 dw1 : Nat) : (s.complete ctrl cid st dw0 dw1).lay = s.lay := rfl
@[simp] theorem State.complete_jnl (s : State) (ctrl cid : Nat) (st : Nat × Nat) (dw0 dw1 : Nat) : (s.complete ctrl cid st dw0 dw1).jnl = s.jnl := rfl
@[simp] theorem State.complete_axl (s : State) (ctrl cid : Nat) (st : Nat × Nat) (dw0 dw1 : Nat) : (s.complete ctrl cid st dw0 dw1).axl = s.axl := rfl
@[simp] theorem State.complete_drv (s : State) (ctrl cid : Nat) (st : Nat × Nat) (dw0 dw1 : Nat) : (s.complete ctrl cid st dw0 dw1).drv = s.drv := rfl
@[simp] theorem State.complete_pwr (s : State) (ctrl cid : Nat) (st : Nat × Nat) (dw0 dw1 : Nat) : (s.complete ctrl cid st dw0 dw1).pwr = s.pwr := rfl
@[simp] theorem State.complete_fov (s : State) (ctrl cid : Nat) (st : Nat × Nat) (dw0 dw1 : Nat) : (s.complete ctrl cid st dw0 dw1).fov = s.fov := rfl
@[simp] theorem State.complete_sep (s : State) (ctrl cid : Nat) (st : Nat × Nat) (dw0 dw1 : Nat) : (s.complete ctrl cid st dw0 dw1).sep = s.sep := rfl
@[simp] theorem State.complete_evt (s : State) (ctrl cid : Nat) (st : Nat × Nat) (dw0 dw1 : Nat) : (s.complete ctrl cid st dw0 dw1).evt = s.evt := rfl
@[simp] theorem State.complete_cnt (s : State) (ctrl cid : Nat) (st : Nat × Nat) (dw0 dw1 : Nat) : (s.complete ctrl cid st dw0 dw1).cnt = s.cnt := rfl

/-! ### State.setOvfPending -/

@[simp] theorem State.setOvfPending_pending (s : State) (i : Nat) (b : Bool) : (s.setOvfPending i b).pending = s.pending := rfl
@[simp] theorem State.setOvfPending_outbox (s : State) (i : Nat) (b : Bool) : (s.setOvfPending i b).outbox = s.outbox := rfl
@[simp] theorem State.setOvfPending_deferred (s : State) (i : Nat) (b : Bool) : (s.setOvfPending i b).deferred = s.deferred := rfl
@[simp] theorem State.setOvfPending_free (s : State) (i : Nat) (b : Bool) : (s.setOvfPending i b).free = s.free := rfl
@[simp] theorem State.setOvfPending_dram (s : State) (i : Nat) (b : Bool) : (s.setOvfPending i b).dram = s.dram := rfl
@[simp] theorem State.setOvfPending_trn (s : State) (i : Nat) (b : Bool) : (s.setOvfPending i b).trn = s.trn := rfl
@[simp] theorem State.setOvfPending_cfg (s : State) (i : Nat) (b : Bool) : (s.setOvfPending i b).cfg = s.cfg := rfl
@[simp] theorem State.setOvfPending_idn (s : State) (i : Nat) (b : Bool) : (s.setOvfPending i b).idn = s.idn := rfl
@[simp] theorem State.setOvfPending_eth (s : State) (i : Nat) (b : Bool) : (s.setOvfPending i b).eth = s.eth := rfl
@[simp] theorem State.setOvfPending_xpt (s : State) (i : Nat) (b : Bool) : (s.setOvfPending i b).xpt = s.xpt := rfl
@[simp] theorem State.setOvfPending_win (s : State) (i : Nat) (b : Bool) : (s.setOvfPending i b).win = s.win := rfl
@[simp] theorem State.setOvfPending_sch (s : State) (i : Nat) (b : Bool) : (s.setOvfPending i b).sch = s.sch := rfl
@[simp] theorem State.setOvfPending_cmd (s : State) (i : Nat) (b : Bool) : (s.setOvfPending i b).cmd = s.cmd := rfl
@[simp] theorem State.setOvfPending_fsp (s : State) (i : Nat) (b : Bool) : (s.setOvfPending i b).fsp = s.fsp := rfl
@[simp] theorem State.setOvfPending_gch (s : State) (i : Nat) (b : Bool) : (s.setOvfPending i b).gch = s.gch := rfl
@[simp] theorem State.setOvfPending_sal (s : State) (i : Nat) (b : Bool) : (s.setOvfPending i b).sal = s.sal := rfl
@[simp] theorem State.setOvfPending_cmp (s : State) (i : Nat) (b : Bool) : (s.setOvfPending i b).cmp = s.cmp := rfl
@[simp] theorem State.setOvfPending_cph (s : State) (i : Nat) (b : Bool) : (s.setOvfPending i b).cph = s.cph := rfl
@[simp] theorem State.setOvfPending_lay (s : State) (i : Nat) (b : Bool) : (s.setOvfPending i b).lay = s.lay := rfl
@[simp] theorem State.setOvfPending_jnl (s : State) (i : Nat) (b : Bool) : (s.setOvfPending i b).jnl = s.jnl := rfl
@[simp] theorem State.setOvfPending_axl (s : State) (i : Nat) (b : Bool) : (s.setOvfPending i b).axl = s.axl := rfl
@[simp] theorem State.setOvfPending_drv (s : State) (i : Nat) (b : Bool) : (s.setOvfPending i b).drv = s.drv := rfl
@[simp] theorem State.setOvfPending_pwr (s : State) (i : Nat) (b : Bool) : (s.setOvfPending i b).pwr = s.pwr := rfl
@[simp] theorem State.setOvfPending_fov (s : State) (i : Nat) (b : Bool) : (s.setOvfPending i b).fov = s.fov := rfl
@[simp] theorem State.setOvfPending_sep (s : State) (i : Nat) (b : Bool) : (s.setOvfPending i b).sep = s.sep := rfl
@[simp] theorem State.setOvfPending_evt (s : State) (i : Nat) (b : Bool) : (s.setOvfPending i b).evt = s.evt := rfl
@[simp] theorem State.setOvfPending_cnt (s : State) (i : Nat) (b : Bool) : (s.setOvfPending i b).cnt = s.cnt := rfl

/-! ### State.mdWrite -/

@[simp] theorem State.mdWrite_pending (s : State) (w : MdWrite) : (s.mdWrite w).pending = s.pending := rfl
@[simp] theorem State.mdWrite_outbox (s : State) (w : MdWrite) : (s.mdWrite w).outbox = s.outbox := rfl
@[simp] theorem State.mdWrite_deferred (s : State) (w : MdWrite) : (s.mdWrite w).deferred = s.deferred := rfl
@[simp] theorem State.mdWrite_free (s : State) (w : MdWrite) : (s.mdWrite w).free = s.free := rfl
@[simp] theorem State.mdWrite_regs (s : State) (w : MdWrite) : (s.mdWrite w).regs = s.regs := rfl
@[simp] theorem State.mdWrite_dram (s : State) (w : MdWrite) : (s.mdWrite w).dram = s.dram := rfl
@[simp] theorem State.mdWrite_trn (s : State) (w : MdWrite) : (s.mdWrite w).trn = s.trn := rfl
@[simp] theorem State.mdWrite_cfg (s : State) (w : MdWrite) : (s.mdWrite w).cfg = s.cfg := rfl
@[simp] theorem State.mdWrite_idn (s : State) (w : MdWrite) : (s.mdWrite w).idn = s.idn := rfl
@[simp] theorem State.mdWrite_eth (s : State) (w : MdWrite) : (s.mdWrite w).eth = s.eth := rfl
@[simp] theorem State.mdWrite_xpt (s : State) (w : MdWrite) : (s.mdWrite w).xpt = s.xpt := rfl
@[simp] theorem State.mdWrite_win (s : State) (w : MdWrite) : (s.mdWrite w).win = s.win := rfl
@[simp] theorem State.mdWrite_sch (s : State) (w : MdWrite) : (s.mdWrite w).sch = s.sch := rfl
@[simp] theorem State.mdWrite_cmd (s : State) (w : MdWrite) : (s.mdWrite w).cmd = s.cmd := rfl
@[simp] theorem State.mdWrite_fsp (s : State) (w : MdWrite) : (s.mdWrite w).fsp = s.fsp := rfl
@[simp] theorem State.mdWrite_gch (s : State) (w : MdWrite) : (s.mdWrite w).gch = s.gch := rfl
@[simp] theorem State.mdWrite_sal (s : State) (w : MdWrite) : (s.mdWrite w).sal = s.sal := rfl
@[simp] theorem State.mdWrite_cmp (s : State) (w : MdWrite) : (s.mdWrite w).cmp = s.cmp := rfl
@[simp] theorem State.mdWrite_cph (s : State) (w : MdWrite) : (s.mdWrite w).cph = s.cph := rfl
@[simp] theorem State.mdWrite_lay (s : State) (w : MdWrite) : (s.mdWrite w).lay = { s.lay with writes := s.lay.writes ++ [w] } := rfl
@[simp] theorem State.mdWrite_jnl (s : State) (w : MdWrite) : (s.mdWrite w).jnl = s.jnl := rfl
@[simp] theorem State.mdWrite_axl (s : State) (w : MdWrite) : (s.mdWrite w).axl = s.axl := rfl
@[simp] theorem State.mdWrite_drv (s : State) (w : MdWrite) : (s.mdWrite w).drv = s.drv := rfl
@[simp] theorem State.mdWrite_pwr (s : State) (w : MdWrite) : (s.mdWrite w).pwr = s.pwr := rfl
@[simp] theorem State.mdWrite_fov (s : State) (w : MdWrite) : (s.mdWrite w).fov = s.fov := rfl
@[simp] theorem State.mdWrite_sep (s : State) (w : MdWrite) : (s.mdWrite w).sep = s.sep := rfl
@[simp] theorem State.mdWrite_evt (s : State) (w : MdWrite) : (s.mdWrite w).evt = s.evt := rfl
@[simp] theorem State.mdWrite_cnt (s : State) (w : MdWrite) : (s.mdWrite w).cnt = s.cnt := rfl

/-! ### State.setCtrl -/

@[simp] theorem State.setCtrl_pending (s : State) (ctrl : Nat) (c : Ctrl) : (s.setCtrl ctrl c).pending = s.pending := rfl
@[simp] theorem State.setCtrl_outbox (s : State) (ctrl : Nat) (c : Ctrl) : (s.setCtrl ctrl c).outbox = s.outbox := rfl
@[simp] theorem State.setCtrl_deferred (s : State) (ctrl : Nat) (c : Ctrl) : (s.setCtrl ctrl c).deferred = s.deferred := rfl
@[simp] theorem State.setCtrl_free (s : State) (ctrl : Nat) (c : Ctrl) : (s.setCtrl ctrl c).free = s.free := rfl
@[simp] theorem State.setCtrl_regs (s : State) (ctrl : Nat) (c : Ctrl) : (s.setCtrl ctrl c).regs = s.regs := rfl
@[simp] theorem State.setCtrl_dram (s : State) (ctrl : Nat) (c : Ctrl) : (s.setCtrl ctrl c).dram = s.dram := rfl
@[simp] theorem State.setCtrl_trn (s : State) (ctrl : Nat) (c : Ctrl) : (s.setCtrl ctrl c).trn = s.trn := rfl
@[simp] theorem State.setCtrl_cfg (s : State) (ctrl : Nat) (c : Ctrl) : (s.setCtrl ctrl c).cfg = s.cfg := rfl
@[simp] theorem State.setCtrl_idn (s : State) (ctrl : Nat) (c : Ctrl) : (s.setCtrl ctrl c).idn = s.idn := rfl
@[simp] theorem State.setCtrl_eth (s : State) (ctrl : Nat) (c : Ctrl) : (s.setCtrl ctrl c).eth = s.eth := rfl
@[simp] theorem State.setCtrl_xpt (s : State) (ctrl : Nat) (c : Ctrl) : (s.setCtrl ctrl c).xpt = s.xpt := rfl
@[simp] theorem State.setCtrl_win (s : State) (ctrl : Nat) (c : Ctrl) : (s.setCtrl ctrl c).win = s.win := rfl
@[simp] theorem State.setCtrl_sch (s : State) (ctrl : Nat) (c : Ctrl) : (s.setCtrl ctrl c).sch = s.sch := rfl
@[simp] theorem State.setCtrl_cmd (s : State) (ctrl : Nat) (c : Ctrl) : (s.setCtrl ctrl c).cmd = { s.cmd with ctrls := tset s.cmd.ctrls ctrl c } := rfl
@[simp] theorem State.setCtrl_fsp (s : State) (ctrl : Nat) (c : Ctrl) : (s.setCtrl ctrl c).fsp = s.fsp := rfl
@[simp] theorem State.setCtrl_gch (s : State) (ctrl : Nat) (c : Ctrl) : (s.setCtrl ctrl c).gch = s.gch := rfl
@[simp] theorem State.setCtrl_sal (s : State) (ctrl : Nat) (c : Ctrl) : (s.setCtrl ctrl c).sal = s.sal := rfl
@[simp] theorem State.setCtrl_cmp (s : State) (ctrl : Nat) (c : Ctrl) : (s.setCtrl ctrl c).cmp = s.cmp := rfl
@[simp] theorem State.setCtrl_cph (s : State) (ctrl : Nat) (c : Ctrl) : (s.setCtrl ctrl c).cph = s.cph := rfl
@[simp] theorem State.setCtrl_lay (s : State) (ctrl : Nat) (c : Ctrl) : (s.setCtrl ctrl c).lay = s.lay := rfl
@[simp] theorem State.setCtrl_jnl (s : State) (ctrl : Nat) (c : Ctrl) : (s.setCtrl ctrl c).jnl = s.jnl := rfl
@[simp] theorem State.setCtrl_axl (s : State) (ctrl : Nat) (c : Ctrl) : (s.setCtrl ctrl c).axl = s.axl := rfl
@[simp] theorem State.setCtrl_drv (s : State) (ctrl : Nat) (c : Ctrl) : (s.setCtrl ctrl c).drv = s.drv := rfl
@[simp] theorem State.setCtrl_pwr (s : State) (ctrl : Nat) (c : Ctrl) : (s.setCtrl ctrl c).pwr = s.pwr := rfl
@[simp] theorem State.setCtrl_fov (s : State) (ctrl : Nat) (c : Ctrl) : (s.setCtrl ctrl c).fov = s.fov := rfl
@[simp] theorem State.setCtrl_sep (s : State) (ctrl : Nat) (c : Ctrl) : (s.setCtrl ctrl c).sep = s.sep := rfl
@[simp] theorem State.setCtrl_evt (s : State) (ctrl : Nat) (c : Ctrl) : (s.setCtrl ctrl c).evt = s.evt := rfl
@[simp] theorem State.setCtrl_cnt (s : State) (ctrl : Nat) (c : Ctrl) : (s.setCtrl ctrl c).cnt = s.cnt := rfl

/-! ### State.modCtrl -/

@[simp] theorem State.modCtrl_pending (s : State) (ctrl : Nat) (f : Ctrl → Ctrl) : (s.modCtrl ctrl f).pending = s.pending := rfl
@[simp] theorem State.modCtrl_outbox (s : State) (ctrl : Nat) (f : Ctrl → Ctrl) : (s.modCtrl ctrl f).outbox = s.outbox := rfl
@[simp] theorem State.modCtrl_deferred (s : State) (ctrl : Nat) (f : Ctrl → Ctrl) : (s.modCtrl ctrl f).deferred = s.deferred := rfl
@[simp] theorem State.modCtrl_free (s : State) (ctrl : Nat) (f : Ctrl → Ctrl) : (s.modCtrl ctrl f).free = s.free := rfl
@[simp] theorem State.modCtrl_regs (s : State) (ctrl : Nat) (f : Ctrl → Ctrl) : (s.modCtrl ctrl f).regs = s.regs := rfl
@[simp] theorem State.modCtrl_dram (s : State) (ctrl : Nat) (f : Ctrl → Ctrl) : (s.modCtrl ctrl f).dram = s.dram := rfl
@[simp] theorem State.modCtrl_trn (s : State) (ctrl : Nat) (f : Ctrl → Ctrl) : (s.modCtrl ctrl f).trn = s.trn := rfl
@[simp] theorem State.modCtrl_cfg (s : State) (ctrl : Nat) (f : Ctrl → Ctrl) : (s.modCtrl ctrl f).cfg = s.cfg := rfl
@[simp] theorem State.modCtrl_idn (s : State) (ctrl : Nat) (f : Ctrl → Ctrl) : (s.modCtrl ctrl f).idn = s.idn := rfl
@[simp] theorem State.modCtrl_eth (s : State) (ctrl : Nat) (f : Ctrl → Ctrl) : (s.modCtrl ctrl f).eth = s.eth := rfl
@[simp] theorem State.modCtrl_xpt (s : State) (ctrl : Nat) (f : Ctrl → Ctrl) : (s.modCtrl ctrl f).xpt = s.xpt := rfl
@[simp] theorem State.modCtrl_win (s : State) (ctrl : Nat) (f : Ctrl → Ctrl) : (s.modCtrl ctrl f).win = s.win := rfl
@[simp] theorem State.modCtrl_sch (s : State) (ctrl : Nat) (f : Ctrl → Ctrl) : (s.modCtrl ctrl f).sch = s.sch := rfl
@[simp] theorem State.modCtrl_cmd (s : State) (ctrl : Nat) (f : Ctrl → Ctrl) : (s.modCtrl ctrl f).cmd = { s.cmd with ctrls := tmod s.cmd.ctrls ctrl f } := rfl
@[simp] theorem State.modCtrl_fsp (s : State) (ctrl : Nat) (f : Ctrl → Ctrl) : (s.modCtrl ctrl f).fsp = s.fsp := rfl
@[simp] theorem State.modCtrl_gch (s : State) (ctrl : Nat) (f : Ctrl → Ctrl) : (s.modCtrl ctrl f).gch = s.gch := rfl
@[simp] theorem State.modCtrl_sal (s : State) (ctrl : Nat) (f : Ctrl → Ctrl) : (s.modCtrl ctrl f).sal = s.sal := rfl
@[simp] theorem State.modCtrl_cmp (s : State) (ctrl : Nat) (f : Ctrl → Ctrl) : (s.modCtrl ctrl f).cmp = s.cmp := rfl
@[simp] theorem State.modCtrl_cph (s : State) (ctrl : Nat) (f : Ctrl → Ctrl) : (s.modCtrl ctrl f).cph = s.cph := rfl
@[simp] theorem State.modCtrl_lay (s : State) (ctrl : Nat) (f : Ctrl → Ctrl) : (s.modCtrl ctrl f).lay = s.lay := rfl
@[simp] theorem State.modCtrl_jnl (s : State) (ctrl : Nat) (f : Ctrl → Ctrl) : (s.modCtrl ctrl f).jnl = s.jnl := rfl
@[simp] theorem State.modCtrl_axl (s : State) (ctrl : Nat) (f : Ctrl → Ctrl) : (s.modCtrl ctrl f).axl = s.axl := rfl
@[simp] theorem State.modCtrl_drv (s : State) (ctrl : Nat) (f : Ctrl → Ctrl) : (s.modCtrl ctrl f).drv = s.drv := rfl
@[simp] theorem State.modCtrl_pwr (s : State) (ctrl : Nat) (f : Ctrl → Ctrl) : (s.modCtrl ctrl f).pwr = s.pwr := rfl
@[simp] theorem State.modCtrl_fov (s : State) (ctrl : Nat) (f : Ctrl → Ctrl) : (s.modCtrl ctrl f).fov = s.fov := rfl
@[simp] theorem State.modCtrl_sep (s : State) (ctrl : Nat) (f : Ctrl → Ctrl) : (s.modCtrl ctrl f).sep = s.sep := rfl
@[simp] theorem State.modCtrl_evt (s : State) (ctrl : Nat) (f : Ctrl → Ctrl) : (s.modCtrl ctrl f).evt = s.evt := rfl
@[simp] theorem State.modCtrl_cnt (s : State) (ctrl : Nat) (f : Ctrl → Ctrl) : (s.modCtrl ctrl f).cnt = s.cnt := rfl

/-! ### State.setEntry -/

@[simp] theorem State.setEntry_pending (s : State) (seq : Nat) (e : CmdEnt) : (s.setEntry seq e).pending = s.pending := rfl
@[simp] theorem State.setEntry_outbox (s : State) (seq : Nat) (e : CmdEnt) : (s.setEntry seq e).outbox = s.outbox := rfl
@[simp] theorem State.setEntry_deferred (s : State) (seq : Nat) (e : CmdEnt) : (s.setEntry seq e).deferred = s.deferred := rfl
@[simp] theorem State.setEntry_free (s : State) (seq : Nat) (e : CmdEnt) : (s.setEntry seq e).free = s.free := rfl
@[simp] theorem State.setEntry_regs (s : State) (seq : Nat) (e : CmdEnt) : (s.setEntry seq e).regs = s.regs := rfl
@[simp] theorem State.setEntry_dram (s : State) (seq : Nat) (e : CmdEnt) : (s.setEntry seq e).dram = s.dram := rfl
@[simp] theorem State.setEntry_trn (s : State) (seq : Nat) (e : CmdEnt) : (s.setEntry seq e).trn = s.trn := rfl
@[simp] theorem State.setEntry_cfg (s : State) (seq : Nat) (e : CmdEnt) : (s.setEntry seq e).cfg = s.cfg := rfl
@[simp] theorem State.setEntry_idn (s : State) (seq : Nat) (e : CmdEnt) : (s.setEntry seq e).idn = s.idn := rfl
@[simp] theorem State.setEntry_eth (s : State) (seq : Nat) (e : CmdEnt) : (s.setEntry seq e).eth = s.eth := rfl
@[simp] theorem State.setEntry_xpt (s : State) (seq : Nat) (e : CmdEnt) : (s.setEntry seq e).xpt = s.xpt := rfl
@[simp] theorem State.setEntry_win (s : State) (seq : Nat) (e : CmdEnt) : (s.setEntry seq e).win = s.win := rfl
@[simp] theorem State.setEntry_sch (s : State) (seq : Nat) (e : CmdEnt) : (s.setEntry seq e).sch = s.sch := rfl
@[simp] theorem State.setEntry_cmd (s : State) (seq : Nat) (e : CmdEnt) : (s.setEntry seq e).cmd = { s.cmd with entries := tset s.cmd.entries seq e } := rfl
@[simp] theorem State.setEntry_fsp (s : State) (seq : Nat) (e : CmdEnt) : (s.setEntry seq e).fsp = s.fsp := rfl
@[simp] theorem State.setEntry_gch (s : State) (seq : Nat) (e : CmdEnt) : (s.setEntry seq e).gch = s.gch := rfl
@[simp] theorem State.setEntry_sal (s : State) (seq : Nat) (e : CmdEnt) : (s.setEntry seq e).sal = s.sal := rfl
@[simp] theorem State.setEntry_cmp (s : State) (seq : Nat) (e : CmdEnt) : (s.setEntry seq e).cmp = s.cmp := rfl
@[simp] theorem State.setEntry_cph (s : State) (seq : Nat) (e : CmdEnt) : (s.setEntry seq e).cph = s.cph := rfl
@[simp] theorem State.setEntry_lay (s : State) (seq : Nat) (e : CmdEnt) : (s.setEntry seq e).lay = s.lay := rfl
@[simp] theorem State.setEntry_jnl (s : State) (seq : Nat) (e : CmdEnt) : (s.setEntry seq e).jnl = s.jnl := rfl
@[simp] theorem State.setEntry_axl (s : State) (seq : Nat) (e : CmdEnt) : (s.setEntry seq e).axl = s.axl := rfl
@[simp] theorem State.setEntry_drv (s : State) (seq : Nat) (e : CmdEnt) : (s.setEntry seq e).drv = s.drv := rfl
@[simp] theorem State.setEntry_pwr (s : State) (seq : Nat) (e : CmdEnt) : (s.setEntry seq e).pwr = s.pwr := rfl
@[simp] theorem State.setEntry_fov (s : State) (seq : Nat) (e : CmdEnt) : (s.setEntry seq e).fov = s.fov := rfl
@[simp] theorem State.setEntry_sep (s : State) (seq : Nat) (e : CmdEnt) : (s.setEntry seq e).sep = s.sep := rfl
@[simp] theorem State.setEntry_evt (s : State) (seq : Nat) (e : CmdEnt) : (s.setEntry seq e).evt = s.evt := rfl
@[simp] theorem State.setEntry_cnt (s : State) (seq : Nat) (e : CmdEnt) : (s.setEntry seq e).cnt = s.cnt := rfl

/-! ### State.modEntry -/

@[simp] theorem State.modEntry_pending (s : State) (seq : Nat) (f : CmdEnt → CmdEnt) : (s.modEntry seq f).pending = s.pending := rfl
@[simp] theorem State.modEntry_outbox (s : State) (seq : Nat) (f : CmdEnt → CmdEnt) : (s.modEntry seq f).outbox = s.outbox := rfl
@[simp] theorem State.modEntry_deferred (s : State) (seq : Nat) (f : CmdEnt → CmdEnt) : (s.modEntry seq f).deferred = s.deferred := rfl
@[simp] theorem State.modEntry_free (s : State) (seq : Nat) (f : CmdEnt → CmdEnt) : (s.modEntry seq f).free = s.free := rfl
@[simp] theorem State.modEntry_regs (s : State) (seq : Nat) (f : CmdEnt → CmdEnt) : (s.modEntry seq f).regs = s.regs := rfl
@[simp] theorem State.modEntry_dram (s : State) (seq : Nat) (f : CmdEnt → CmdEnt) : (s.modEntry seq f).dram = s.dram := rfl
@[simp] theorem State.modEntry_trn (s : State) (seq : Nat) (f : CmdEnt → CmdEnt) : (s.modEntry seq f).trn = s.trn := rfl
@[simp] theorem State.modEntry_cfg (s : State) (seq : Nat) (f : CmdEnt → CmdEnt) : (s.modEntry seq f).cfg = s.cfg := rfl
@[simp] theorem State.modEntry_idn (s : State) (seq : Nat) (f : CmdEnt → CmdEnt) : (s.modEntry seq f).idn = s.idn := rfl
@[simp] theorem State.modEntry_eth (s : State) (seq : Nat) (f : CmdEnt → CmdEnt) : (s.modEntry seq f).eth = s.eth := rfl
@[simp] theorem State.modEntry_xpt (s : State) (seq : Nat) (f : CmdEnt → CmdEnt) : (s.modEntry seq f).xpt = s.xpt := rfl
@[simp] theorem State.modEntry_win (s : State) (seq : Nat) (f : CmdEnt → CmdEnt) : (s.modEntry seq f).win = s.win := rfl
@[simp] theorem State.modEntry_sch (s : State) (seq : Nat) (f : CmdEnt → CmdEnt) : (s.modEntry seq f).sch = s.sch := rfl
@[simp] theorem State.modEntry_cmd (s : State) (seq : Nat) (f : CmdEnt → CmdEnt) : (s.modEntry seq f).cmd = { s.cmd with entries := tmod s.cmd.entries seq f } := rfl
@[simp] theorem State.modEntry_fsp (s : State) (seq : Nat) (f : CmdEnt → CmdEnt) : (s.modEntry seq f).fsp = s.fsp := rfl
@[simp] theorem State.modEntry_gch (s : State) (seq : Nat) (f : CmdEnt → CmdEnt) : (s.modEntry seq f).gch = s.gch := rfl
@[simp] theorem State.modEntry_sal (s : State) (seq : Nat) (f : CmdEnt → CmdEnt) : (s.modEntry seq f).sal = s.sal := rfl
@[simp] theorem State.modEntry_cmp (s : State) (seq : Nat) (f : CmdEnt → CmdEnt) : (s.modEntry seq f).cmp = s.cmp := rfl
@[simp] theorem State.modEntry_cph (s : State) (seq : Nat) (f : CmdEnt → CmdEnt) : (s.modEntry seq f).cph = s.cph := rfl
@[simp] theorem State.modEntry_lay (s : State) (seq : Nat) (f : CmdEnt → CmdEnt) : (s.modEntry seq f).lay = s.lay := rfl
@[simp] theorem State.modEntry_jnl (s : State) (seq : Nat) (f : CmdEnt → CmdEnt) : (s.modEntry seq f).jnl = s.jnl := rfl
@[simp] theorem State.modEntry_axl (s : State) (seq : Nat) (f : CmdEnt → CmdEnt) : (s.modEntry seq f).axl = s.axl := rfl
@[simp] theorem State.modEntry_drv (s : State) (seq : Nat) (f : CmdEnt → CmdEnt) : (s.modEntry seq f).drv = s.drv := rfl
@[simp] theorem State.modEntry_pwr (s : State) (seq : Nat) (f : CmdEnt → CmdEnt) : (s.modEntry seq f).pwr = s.pwr := rfl
@[simp] theorem State.modEntry_fov (s : State) (seq : Nat) (f : CmdEnt → CmdEnt) : (s.modEntry seq f).fov = s.fov := rfl
@[simp] theorem State.modEntry_sep (s : State) (seq : Nat) (f : CmdEnt → CmdEnt) : (s.modEntry seq f).sep = s.sep := rfl
@[simp] theorem State.modEntry_evt (s : State) (seq : Nat) (f : CmdEnt → CmdEnt) : (s.modEntry seq f).evt = s.evt := rfl
@[simp] theorem State.modEntry_cnt (s : State) (seq : Nat) (f : CmdEnt → CmdEnt) : (s.modEntry seq f).cnt = s.cnt := rfl

/-! ### State.modGrp -/

@[simp] theorem State.modGrp_pending (s : State) (g : Nat) (f : Grp → Grp) : (s.modGrp g f).pending = s.pending := rfl
@[simp] theorem State.modGrp_outbox (s : State) (g : Nat) (f : Grp → Grp) : (s.modGrp g f).outbox = s.outbox := rfl
@[simp] theorem State.modGrp_deferred (s : State) (g : Nat) (f : Grp → Grp) : (s.modGrp g f).deferred = s.deferred := rfl
@[simp] theorem State.modGrp_free (s : State) (g : Nat) (f : Grp → Grp) : (s.modGrp g f).free = s.free := rfl
@[simp] theorem State.modGrp_regs (s : State) (g : Nat) (f : Grp → Grp) : (s.modGrp g f).regs = s.regs := rfl
@[simp] theorem State.modGrp_dram (s : State) (g : Nat) (f : Grp → Grp) : (s.modGrp g f).dram = s.dram := rfl
@[simp] theorem State.modGrp_trn (s : State) (g : Nat) (f : Grp → Grp) : (s.modGrp g f).trn = s.trn := rfl
@[simp] theorem State.modGrp_cfg (s : State) (g : Nat) (f : Grp → Grp) : (s.modGrp g f).cfg = s.cfg := rfl
@[simp] theorem State.modGrp_idn (s : State) (g : Nat) (f : Grp → Grp) : (s.modGrp g f).idn = s.idn := rfl
@[simp] theorem State.modGrp_eth (s : State) (g : Nat) (f : Grp → Grp) : (s.modGrp g f).eth = s.eth := rfl
@[simp] theorem State.modGrp_xpt (s : State) (g : Nat) (f : Grp → Grp) : (s.modGrp g f).xpt = s.xpt := rfl
@[simp] theorem State.modGrp_win (s : State) (g : Nat) (f : Grp → Grp) : (s.modGrp g f).win = s.win := rfl
@[simp] theorem State.modGrp_sch (s : State) (g : Nat) (f : Grp → Grp) : (s.modGrp g f).sch = s.sch := rfl
@[simp] theorem State.modGrp_cmd (s : State) (g : Nat) (f : Grp → Grp) : (s.modGrp g f).cmd = s.cmd := rfl
@[simp] theorem State.modGrp_fsp (s : State) (g : Nat) (f : Grp → Grp) : (s.modGrp g f).fsp = s.fsp := rfl
@[simp] theorem State.modGrp_gch (s : State) (g : Nat) (f : Grp → Grp) : (s.modGrp g f).gch = s.gch := rfl
@[simp] theorem State.modGrp_sal (s : State) (g : Nat) (f : Grp → Grp) : (s.modGrp g f).sal = s.sal := rfl
@[simp] theorem State.modGrp_cmp (s : State) (g : Nat) (f : Grp → Grp) : (s.modGrp g f).cmp = s.cmp := rfl
@[simp] theorem State.modGrp_cph (s : State) (g : Nat) (f : Grp → Grp) : (s.modGrp g f).cph = s.cph := rfl
@[simp] theorem State.modGrp_lay (s : State) (g : Nat) (f : Grp → Grp) : (s.modGrp g f).lay = { s.lay with groups := lmod s.lay.groups g f } := rfl
@[simp] theorem State.modGrp_jnl (s : State) (g : Nat) (f : Grp → Grp) : (s.modGrp g f).jnl = s.jnl := rfl
@[simp] theorem State.modGrp_axl (s : State) (g : Nat) (f : Grp → Grp) : (s.modGrp g f).axl = s.axl := rfl
@[simp] theorem State.modGrp_drv (s : State) (g : Nat) (f : Grp → Grp) : (s.modGrp g f).drv = s.drv := rfl
@[simp] theorem State.modGrp_pwr (s : State) (g : Nat) (f : Grp → Grp) : (s.modGrp g f).pwr = s.pwr := rfl
@[simp] theorem State.modGrp_fov (s : State) (g : Nat) (f : Grp → Grp) : (s.modGrp g f).fov = s.fov := rfl
@[simp] theorem State.modGrp_sep (s : State) (g : Nat) (f : Grp → Grp) : (s.modGrp g f).sep = s.sep := rfl
@[simp] theorem State.modGrp_evt (s : State) (g : Nat) (f : Grp → Grp) : (s.modGrp g f).evt = s.evt := rfl
@[simp] theorem State.modGrp_cnt (s : State) (g : Nat) (f : Grp → Grp) : (s.modGrp g f).cnt = s.cnt := rfl

/-! ### State.modSet -/

@[simp] theorem State.modSet_pending (s : State) (n : Nat) (f : PSet → PSet) : (s.modSet n f).pending = s.pending := rfl
@[simp] theorem State.modSet_outbox (s : State) (n : Nat) (f : PSet → PSet) : (s.modSet n f).outbox = s.outbox := rfl
@[simp] theorem State.modSet_deferred (s : State) (n : Nat) (f : PSet → PSet) : (s.modSet n f).deferred = s.deferred := rfl
@[simp] theorem State.modSet_free (s : State) (n : Nat) (f : PSet → PSet) : (s.modSet n f).free = s.free := rfl
@[simp] theorem State.modSet_regs (s : State) (n : Nat) (f : PSet → PSet) : (s.modSet n f).regs = s.regs := rfl
@[simp] theorem State.modSet_dram (s : State) (n : Nat) (f : PSet → PSet) : (s.modSet n f).dram = s.dram := rfl
@[simp] theorem State.modSet_trn (s : State) (n : Nat) (f : PSet → PSet) : (s.modSet n f).trn = s.trn := rfl
@[simp] theorem State.modSet_cfg (s : State) (n : Nat) (f : PSet → PSet) : (s.modSet n f).cfg = s.cfg := rfl
@[simp] theorem State.modSet_idn (s : State) (n : Nat) (f : PSet → PSet) : (s.modSet n f).idn = s.idn := rfl
@[simp] theorem State.modSet_eth (s : State) (n : Nat) (f : PSet → PSet) : (s.modSet n f).eth = s.eth := rfl
@[simp] theorem State.modSet_xpt (s : State) (n : Nat) (f : PSet → PSet) : (s.modSet n f).xpt = s.xpt := rfl
@[simp] theorem State.modSet_win (s : State) (n : Nat) (f : PSet → PSet) : (s.modSet n f).win = s.win := rfl
@[simp] theorem State.modSet_sch (s : State) (n : Nat) (f : PSet → PSet) : (s.modSet n f).sch = s.sch := rfl
@[simp] theorem State.modSet_cmd (s : State) (n : Nat) (f : PSet → PSet) : (s.modSet n f).cmd = s.cmd := rfl
@[simp] theorem State.modSet_fsp (s : State) (n : Nat) (f : PSet → PSet) : (s.modSet n f).fsp = s.fsp := rfl
@[simp] theorem State.modSet_gch (s : State) (n : Nat) (f : PSet → PSet) : (s.modSet n f).gch = s.gch := rfl
@[simp] theorem State.modSet_sal (s : State) (n : Nat) (f : PSet → PSet) : (s.modSet n f).sal = s.sal := rfl
@[simp] theorem State.modSet_cmp (s : State) (n : Nat) (f : PSet → PSet) : (s.modSet n f).cmp = s.cmp := rfl
@[simp] theorem State.modSet_cph (s : State) (n : Nat) (f : PSet → PSet) : (s.modSet n f).cph = s.cph := rfl
@[simp] theorem State.modSet_lay (s : State) (n : Nat) (f : PSet → PSet) : (s.modSet n f).lay = { s.lay with sets := lmod s.lay.sets n f } := rfl
@[simp] theorem State.modSet_jnl (s : State) (n : Nat) (f : PSet → PSet) : (s.modSet n f).jnl = s.jnl := rfl
@[simp] theorem State.modSet_axl (s : State) (n : Nat) (f : PSet → PSet) : (s.modSet n f).axl = s.axl := rfl
@[simp] theorem State.modSet_drv (s : State) (n : Nat) (f : PSet → PSet) : (s.modSet n f).drv = s.drv := rfl
@[simp] theorem State.modSet_pwr (s : State) (n : Nat) (f : PSet → PSet) : (s.modSet n f).pwr = s.pwr := rfl
@[simp] theorem State.modSet_fov (s : State) (n : Nat) (f : PSet → PSet) : (s.modSet n f).fov = s.fov := rfl
@[simp] theorem State.modSet_sep (s : State) (n : Nat) (f : PSet → PSet) : (s.modSet n f).sep = s.sep := rfl
@[simp] theorem State.modSet_evt (s : State) (n : Nat) (f : PSet → PSet) : (s.modSet n f).evt = s.evt := rfl
@[simp] theorem State.modSet_cnt (s : State) (n : Nat) (f : PSet → PSet) : (s.modSet n f).cnt = s.cnt := rfl

/-! ### State.modRole -/

@[simp] theorem State.modRole_pending (s : State) (a : Nat) (f : Role → Role) : (s.modRole a f).pending = s.pending := rfl
@[simp] theorem State.modRole_outbox (s : State) (a : Nat) (f : Role → Role) : (s.modRole a f).outbox = s.outbox := rfl
@[simp] theorem State.modRole_deferred (s : State) (a : Nat) (f : Role → Role) : (s.modRole a f).deferred = s.deferred := rfl
@[simp] theorem State.modRole_free (s : State) (a : Nat) (f : Role → Role) : (s.modRole a f).free = s.free := rfl
@[simp] theorem State.modRole_regs (s : State) (a : Nat) (f : Role → Role) : (s.modRole a f).regs = s.regs := rfl
@[simp] theorem State.modRole_dram (s : State) (a : Nat) (f : Role → Role) : (s.modRole a f).dram = s.dram := rfl
@[simp] theorem State.modRole_trn (s : State) (a : Nat) (f : Role → Role) : (s.modRole a f).trn = s.trn := rfl
@[simp] theorem State.modRole_cfg (s : State) (a : Nat) (f : Role → Role) : (s.modRole a f).cfg = s.cfg := rfl
@[simp] theorem State.modRole_idn (s : State) (a : Nat) (f : Role → Role) : (s.modRole a f).idn = s.idn := rfl
@[simp] theorem State.modRole_eth (s : State) (a : Nat) (f : Role → Role) : (s.modRole a f).eth = s.eth := rfl
@[simp] theorem State.modRole_xpt (s : State) (a : Nat) (f : Role → Role) : (s.modRole a f).xpt = s.xpt := rfl
@[simp] theorem State.modRole_win (s : State) (a : Nat) (f : Role → Role) : (s.modRole a f).win = s.win := rfl
@[simp] theorem State.modRole_sch (s : State) (a : Nat) (f : Role → Role) : (s.modRole a f).sch = s.sch := rfl
@[simp] theorem State.modRole_cmd (s : State) (a : Nat) (f : Role → Role) : (s.modRole a f).cmd = s.cmd := rfl
@[simp] theorem State.modRole_fsp (s : State) (a : Nat) (f : Role → Role) : (s.modRole a f).fsp = s.fsp := rfl
@[simp] theorem State.modRole_gch (s : State) (a : Nat) (f : Role → Role) : (s.modRole a f).gch = s.gch := rfl
@[simp] theorem State.modRole_sal (s : State) (a : Nat) (f : Role → Role) : (s.modRole a f).sal = s.sal := rfl
@[simp] theorem State.modRole_cmp (s : State) (a : Nat) (f : Role → Role) : (s.modRole a f).cmp = s.cmp := rfl
@[simp] theorem State.modRole_cph (s : State) (a : Nat) (f : Role → Role) : (s.modRole a f).cph = s.cph := rfl
@[simp] theorem State.modRole_lay (s : State) (a : Nat) (f : Role → Role) : (s.modRole a f).lay = s.lay := rfl
@[simp] theorem State.modRole_jnl (s : State) (a : Nat) (f : Role → Role) : (s.modRole a f).jnl = { s.jnl with roles := lmod s.jnl.roles a f } := rfl
@[simp] theorem State.modRole_axl (s : State) (a : Nat) (f : Role → Role) : (s.modRole a f).axl = s.axl := rfl
@[simp] theorem State.modRole_drv (s : State) (a : Nat) (f : Role → Role) : (s.modRole a f).drv = s.drv := rfl
@[simp] theorem State.modRole_pwr (s : State) (a : Nat) (f : Role → Role) : (s.modRole a f).pwr = s.pwr := rfl
@[simp] theorem State.modRole_fov (s : State) (a : Nat) (f : Role → Role) : (s.modRole a f).fov = s.fov := rfl
@[simp] theorem State.modRole_sep (s : State) (a : Nat) (f : Role → Role) : (s.modRole a f).sep = s.sep := rfl
@[simp] theorem State.modRole_evt (s : State) (a : Nat) (f : Role → Role) : (s.modRole a f).evt = s.evt := rfl
@[simp] theorem State.modRole_cnt (s : State) (a : Nat) (f : Role → Role) : (s.modRole a f).cnt = s.cnt := rfl

/-! ### State.modSlot -/

@[simp] theorem State.modSlot_pending (s : State) (i : Nat) (f : Slot → Slot) : (s.modSlot i f).pending = s.pending := rfl
@[simp] theorem State.modSlot_outbox (s : State) (i : Nat) (f : Slot → Slot) : (s.modSlot i f).outbox = s.outbox := rfl
@[simp] theorem State.modSlot_deferred (s : State) (i : Nat) (f : Slot → Slot) : (s.modSlot i f).deferred = s.deferred := rfl
@[simp] theorem State.modSlot_free (s : State) (i : Nat) (f : Slot → Slot) : (s.modSlot i f).free = s.free := rfl
@[simp] theorem State.modSlot_regs (s : State) (i : Nat) (f : Slot → Slot) : (s.modSlot i f).regs = s.regs := rfl
@[simp] theorem State.modSlot_dram (s : State) (i : Nat) (f : Slot → Slot) : (s.modSlot i f).dram = s.dram := rfl
@[simp] theorem State.modSlot_trn (s : State) (i : Nat) (f : Slot → Slot) : (s.modSlot i f).trn = s.trn := rfl
@[simp] theorem State.modSlot_cfg (s : State) (i : Nat) (f : Slot → Slot) : (s.modSlot i f).cfg = s.cfg := rfl
@[simp] theorem State.modSlot_idn (s : State) (i : Nat) (f : Slot → Slot) : (s.modSlot i f).idn = s.idn := rfl
@[simp] theorem State.modSlot_eth (s : State) (i : Nat) (f : Slot → Slot) : (s.modSlot i f).eth = s.eth := rfl
@[simp] theorem State.modSlot_xpt (s : State) (i : Nat) (f : Slot → Slot) : (s.modSlot i f).xpt = s.xpt := rfl
@[simp] theorem State.modSlot_win (s : State) (i : Nat) (f : Slot → Slot) : (s.modSlot i f).win = s.win := rfl
@[simp] theorem State.modSlot_sch (s : State) (i : Nat) (f : Slot → Slot) : (s.modSlot i f).sch = s.sch := rfl
@[simp] theorem State.modSlot_cmd (s : State) (i : Nat) (f : Slot → Slot) : (s.modSlot i f).cmd = s.cmd := rfl
@[simp] theorem State.modSlot_fsp (s : State) (i : Nat) (f : Slot → Slot) : (s.modSlot i f).fsp = s.fsp := rfl
@[simp] theorem State.modSlot_gch (s : State) (i : Nat) (f : Slot → Slot) : (s.modSlot i f).gch = s.gch := rfl
@[simp] theorem State.modSlot_sal (s : State) (i : Nat) (f : Slot → Slot) : (s.modSlot i f).sal = s.sal := rfl
@[simp] theorem State.modSlot_cmp (s : State) (i : Nat) (f : Slot → Slot) : (s.modSlot i f).cmp = s.cmp := rfl
@[simp] theorem State.modSlot_cph (s : State) (i : Nat) (f : Slot → Slot) : (s.modSlot i f).cph = s.cph := rfl
@[simp] theorem State.modSlot_lay (s : State) (i : Nat) (f : Slot → Slot) : (s.modSlot i f).lay = s.lay := rfl
@[simp] theorem State.modSlot_jnl (s : State) (i : Nat) (f : Slot → Slot) : (s.modSlot i f).jnl = s.jnl := rfl
@[simp] theorem State.modSlot_axl (s : State) (i : Nat) (f : Slot → Slot) : (s.modSlot i f).axl = s.axl := rfl
@[simp] theorem State.modSlot_drv (s : State) (i : Nat) (f : Slot → Slot) : (s.modSlot i f).drv = lmod s.drv i f := rfl
@[simp] theorem State.modSlot_pwr (s : State) (i : Nat) (f : Slot → Slot) : (s.modSlot i f).pwr = s.pwr := rfl
@[simp] theorem State.modSlot_fov (s : State) (i : Nat) (f : Slot → Slot) : (s.modSlot i f).fov = s.fov := rfl
@[simp] theorem State.modSlot_sep (s : State) (i : Nat) (f : Slot → Slot) : (s.modSlot i f).sep = s.sep := rfl
@[simp] theorem State.modSlot_evt (s : State) (i : Nat) (f : Slot → Slot) : (s.modSlot i f).evt = s.evt := rfl
@[simp] theorem State.modSlot_cnt (s : State) (i : Nat) (f : Slot → Slot) : (s.modSlot i f).cnt = s.cnt := rfl

/-! ### State.modChan -/

@[simp] theorem State.modChan_pending (s : State) (i : Nat) (f : Chan → Chan) : (s.modChan i f).pending = s.pending := rfl
@[simp] theorem State.modChan_outbox (s : State) (i : Nat) (f : Chan → Chan) : (s.modChan i f).outbox = s.outbox := rfl
@[simp] theorem State.modChan_deferred (s : State) (i : Nat) (f : Chan → Chan) : (s.modChan i f).deferred = s.deferred := rfl
@[simp] theorem State.modChan_free (s : State) (i : Nat) (f : Chan → Chan) : (s.modChan i f).free = s.free := rfl
@[simp] theorem State.modChan_regs (s : State) (i : Nat) (f : Chan → Chan) : (s.modChan i f).regs = s.regs := rfl
@[simp] theorem State.modChan_dram (s : State) (i : Nat) (f : Chan → Chan) : (s.modChan i f).dram = s.dram := rfl
@[simp] theorem State.modChan_trn (s : State) (i : Nat) (f : Chan → Chan) : (s.modChan i f).trn = s.trn := rfl
@[simp] theorem State.modChan_cfg (s : State) (i : Nat) (f : Chan → Chan) : (s.modChan i f).cfg = s.cfg := rfl
@[simp] theorem State.modChan_idn (s : State) (i : Nat) (f : Chan → Chan) : (s.modChan i f).idn = s.idn := rfl
@[simp] theorem State.modChan_eth (s : State) (i : Nat) (f : Chan → Chan) : (s.modChan i f).eth = s.eth := rfl
@[simp] theorem State.modChan_xpt (s : State) (i : Nat) (f : Chan → Chan) : (s.modChan i f).xpt = s.xpt := rfl
@[simp] theorem State.modChan_win (s : State) (i : Nat) (f : Chan → Chan) : (s.modChan i f).win = s.win := rfl
@[simp] theorem State.modChan_sch (s : State) (i : Nat) (f : Chan → Chan) : (s.modChan i f).sch = s.sch := rfl
@[simp] theorem State.modChan_cmd (s : State) (i : Nat) (f : Chan → Chan) : (s.modChan i f).cmd = s.cmd := rfl
@[simp] theorem State.modChan_fsp (s : State) (i : Nat) (f : Chan → Chan) : (s.modChan i f).fsp = s.fsp := rfl
@[simp] theorem State.modChan_gch (s : State) (i : Nat) (f : Chan → Chan) : (s.modChan i f).gch = s.gch := rfl
@[simp] theorem State.modChan_sal (s : State) (i : Nat) (f : Chan → Chan) : (s.modChan i f).sal = s.sal := rfl
@[simp] theorem State.modChan_cmp (s : State) (i : Nat) (f : Chan → Chan) : (s.modChan i f).cmp = s.cmp := rfl
@[simp] theorem State.modChan_cph (s : State) (i : Nat) (f : Chan → Chan) : (s.modChan i f).cph = s.cph := rfl
@[simp] theorem State.modChan_lay (s : State) (i : Nat) (f : Chan → Chan) : (s.modChan i f).lay = s.lay := rfl
@[simp] theorem State.modChan_jnl (s : State) (i : Nat) (f : Chan → Chan) : (s.modChan i f).jnl = s.jnl := rfl
@[simp] theorem State.modChan_axl (s : State) (i : Nat) (f : Chan → Chan) : (s.modChan i f).axl = s.axl := rfl
@[simp] theorem State.modChan_drv (s : State) (i : Nat) (f : Chan → Chan) : (s.modChan i f).drv = s.drv := rfl
@[simp] theorem State.modChan_pwr (s : State) (i : Nat) (f : Chan → Chan) : (s.modChan i f).pwr = { s.pwr with slots := lmod s.pwr.slots i f } := rfl
@[simp] theorem State.modChan_fov (s : State) (i : Nat) (f : Chan → Chan) : (s.modChan i f).fov = s.fov := rfl
@[simp] theorem State.modChan_sep (s : State) (i : Nat) (f : Chan → Chan) : (s.modChan i f).sep = s.sep := rfl
@[simp] theorem State.modChan_evt (s : State) (i : Nat) (f : Chan → Chan) : (s.modChan i f).evt = s.evt := rfl
@[simp] theorem State.modChan_cnt (s : State) (i : Nat) (f : Chan → Chan) : (s.modChan i f).cnt = s.cnt := rfl

/-! ### State.modFeed -/

@[simp] theorem State.modFeed_pending (s : State) (i : Nat) (f : Feed → Feed) : (s.modFeed i f).pending = s.pending := rfl
@[simp] theorem State.modFeed_outbox (s : State) (i : Nat) (f : Feed → Feed) : (s.modFeed i f).outbox = s.outbox := rfl
@[simp] theorem State.modFeed_deferred (s : State) (i : Nat) (f : Feed → Feed) : (s.modFeed i f).deferred = s.deferred := rfl
@[simp] theorem State.modFeed_free (s : State) (i : Nat) (f : Feed → Feed) : (s.modFeed i f).free = s.free := rfl
@[simp] theorem State.modFeed_regs (s : State) (i : Nat) (f : Feed → Feed) : (s.modFeed i f).regs = s.regs := rfl
@[simp] theorem State.modFeed_dram (s : State) (i : Nat) (f : Feed → Feed) : (s.modFeed i f).dram = s.dram := rfl
@[simp] theorem State.modFeed_trn (s : State) (i : Nat) (f : Feed → Feed) : (s.modFeed i f).trn = s.trn := rfl
@[simp] theorem State.modFeed_cfg (s : State) (i : Nat) (f : Feed → Feed) : (s.modFeed i f).cfg = s.cfg := rfl
@[simp] theorem State.modFeed_idn (s : State) (i : Nat) (f : Feed → Feed) : (s.modFeed i f).idn = s.idn := rfl
@[simp] theorem State.modFeed_eth (s : State) (i : Nat) (f : Feed → Feed) : (s.modFeed i f).eth = s.eth := rfl
@[simp] theorem State.modFeed_xpt (s : State) (i : Nat) (f : Feed → Feed) : (s.modFeed i f).xpt = s.xpt := rfl
@[simp] theorem State.modFeed_win (s : State) (i : Nat) (f : Feed → Feed) : (s.modFeed i f).win = s.win := rfl
@[simp] theorem State.modFeed_sch (s : State) (i : Nat) (f : Feed → Feed) : (s.modFeed i f).sch = s.sch := rfl
@[simp] theorem State.modFeed_cmd (s : State) (i : Nat) (f : Feed → Feed) : (s.modFeed i f).cmd = s.cmd := rfl
@[simp] theorem State.modFeed_fsp (s : State) (i : Nat) (f : Feed → Feed) : (s.modFeed i f).fsp = s.fsp := rfl
@[simp] theorem State.modFeed_gch (s : State) (i : Nat) (f : Feed → Feed) : (s.modFeed i f).gch = s.gch := rfl
@[simp] theorem State.modFeed_sal (s : State) (i : Nat) (f : Feed → Feed) : (s.modFeed i f).sal = s.sal := rfl
@[simp] theorem State.modFeed_cmp (s : State) (i : Nat) (f : Feed → Feed) : (s.modFeed i f).cmp = s.cmp := rfl
@[simp] theorem State.modFeed_cph (s : State) (i : Nat) (f : Feed → Feed) : (s.modFeed i f).cph = s.cph := rfl
@[simp] theorem State.modFeed_lay (s : State) (i : Nat) (f : Feed → Feed) : (s.modFeed i f).lay = s.lay := rfl
@[simp] theorem State.modFeed_jnl (s : State) (i : Nat) (f : Feed → Feed) : (s.modFeed i f).jnl = s.jnl := rfl
@[simp] theorem State.modFeed_axl (s : State) (i : Nat) (f : Feed → Feed) : (s.modFeed i f).axl = s.axl := rfl
@[simp] theorem State.modFeed_drv (s : State) (i : Nat) (f : Feed → Feed) : (s.modFeed i f).drv = s.drv := rfl
@[simp] theorem State.modFeed_pwr (s : State) (i : Nat) (f : Feed → Feed) : (s.modFeed i f).pwr = { s.pwr with feeds := lmod s.pwr.feeds i f } := rfl
@[simp] theorem State.modFeed_fov (s : State) (i : Nat) (f : Feed → Feed) : (s.modFeed i f).fov = s.fov := rfl
@[simp] theorem State.modFeed_sep (s : State) (i : Nat) (f : Feed → Feed) : (s.modFeed i f).sep = s.sep := rfl
@[simp] theorem State.modFeed_evt (s : State) (i : Nat) (f : Feed → Feed) : (s.modFeed i f).evt = s.evt := rfl
@[simp] theorem State.modFeed_cnt (s : State) (i : Nat) (f : Feed → Feed) : (s.modFeed i f).cnt = s.cnt := rfl

/-! ### State.modWit -/

@[simp] theorem State.modWit_pending (s : State) (w : Nat) (f : Witness → Witness) : (s.modWit w f).pending = s.pending := rfl
@[simp] theorem State.modWit_outbox (s : State) (w : Nat) (f : Witness → Witness) : (s.modWit w f).outbox = s.outbox := rfl
@[simp] theorem State.modWit_deferred (s : State) (w : Nat) (f : Witness → Witness) : (s.modWit w f).deferred = s.deferred := rfl
@[simp] theorem State.modWit_free (s : State) (w : Nat) (f : Witness → Witness) : (s.modWit w f).free = s.free := rfl
@[simp] theorem State.modWit_regs (s : State) (w : Nat) (f : Witness → Witness) : (s.modWit w f).regs = s.regs := rfl
@[simp] theorem State.modWit_dram (s : State) (w : Nat) (f : Witness → Witness) : (s.modWit w f).dram = s.dram := rfl
@[simp] theorem State.modWit_trn (s : State) (w : Nat) (f : Witness → Witness) : (s.modWit w f).trn = s.trn := rfl
@[simp] theorem State.modWit_cfg (s : State) (w : Nat) (f : Witness → Witness) : (s.modWit w f).cfg = s.cfg := rfl
@[simp] theorem State.modWit_idn (s : State) (w : Nat) (f : Witness → Witness) : (s.modWit w f).idn = s.idn := rfl
@[simp] theorem State.modWit_eth (s : State) (w : Nat) (f : Witness → Witness) : (s.modWit w f).eth = s.eth := rfl
@[simp] theorem State.modWit_xpt (s : State) (w : Nat) (f : Witness → Witness) : (s.modWit w f).xpt = s.xpt := rfl
@[simp] theorem State.modWit_win (s : State) (w : Nat) (f : Witness → Witness) : (s.modWit w f).win = s.win := rfl
@[simp] theorem State.modWit_sch (s : State) (w : Nat) (f : Witness → Witness) : (s.modWit w f).sch = s.sch := rfl
@[simp] theorem State.modWit_cmd (s : State) (w : Nat) (f : Witness → Witness) : (s.modWit w f).cmd = s.cmd := rfl
@[simp] theorem State.modWit_fsp (s : State) (w : Nat) (f : Witness → Witness) : (s.modWit w f).fsp = s.fsp := rfl
@[simp] theorem State.modWit_gch (s : State) (w : Nat) (f : Witness → Witness) : (s.modWit w f).gch = s.gch := rfl
@[simp] theorem State.modWit_sal (s : State) (w : Nat) (f : Witness → Witness) : (s.modWit w f).sal = s.sal := rfl
@[simp] theorem State.modWit_cmp (s : State) (w : Nat) (f : Witness → Witness) : (s.modWit w f).cmp = s.cmp := rfl
@[simp] theorem State.modWit_cph (s : State) (w : Nat) (f : Witness → Witness) : (s.modWit w f).cph = s.cph := rfl
@[simp] theorem State.modWit_lay (s : State) (w : Nat) (f : Witness → Witness) : (s.modWit w f).lay = s.lay := rfl
@[simp] theorem State.modWit_jnl (s : State) (w : Nat) (f : Witness → Witness) : (s.modWit w f).jnl = s.jnl := rfl
@[simp] theorem State.modWit_axl (s : State) (w : Nat) (f : Witness → Witness) : (s.modWit w f).axl = s.axl := rfl
@[simp] theorem State.modWit_drv (s : State) (w : Nat) (f : Witness → Witness) : (s.modWit w f).drv = s.drv := rfl
@[simp] theorem State.modWit_pwr (s : State) (w : Nat) (f : Witness → Witness) : (s.modWit w f).pwr = s.pwr := rfl
@[simp] theorem State.modWit_fov (s : State) (w : Nat) (f : Witness → Witness) : (s.modWit w f).fov = { s.fov with wits := lmod s.fov.wits w f } := rfl
@[simp] theorem State.modWit_sep (s : State) (w : Nat) (f : Witness → Witness) : (s.modWit w f).sep = s.sep := rfl
@[simp] theorem State.modWit_evt (s : State) (w : Nat) (f : Witness → Witness) : (s.modWit w f).evt = s.evt := rfl
@[simp] theorem State.modWit_cnt (s : State) (w : Nat) (f : Witness → Witness) : (s.modWit w f).cnt = s.cnt := rfl

/-! ### State.modQp -/

@[simp] theorem State.modQp_pending (s : State) (i : Nat) (f : Qp → Qp) : (s.modQp i f).pending = s.pending := rfl
@[simp] theorem State.modQp_outbox (s : State) (i : Nat) (f : Qp → Qp) : (s.modQp i f).outbox = s.outbox := rfl
@[simp] theorem State.modQp_deferred (s : State) (i : Nat) (f : Qp → Qp) : (s.modQp i f).deferred = s.deferred := rfl
@[simp] theorem State.modQp_free (s : State) (i : Nat) (f : Qp → Qp) : (s.modQp i f).free = s.free := rfl
@[simp] theorem State.modQp_regs (s : State) (i : Nat) (f : Qp → Qp) : (s.modQp i f).regs = s.regs := rfl
@[simp] theorem State.modQp_dram (s : State) (i : Nat) (f : Qp → Qp) : (s.modQp i f).dram = s.dram := rfl
@[simp] theorem State.modQp_trn (s : State) (i : Nat) (f : Qp → Qp) : (s.modQp i f).trn = s.trn := rfl
@[simp] theorem State.modQp_cfg (s : State) (i : Nat) (f : Qp → Qp) : (s.modQp i f).cfg = s.cfg := rfl
@[simp] theorem State.modQp_idn (s : State) (i : Nat) (f : Qp → Qp) : (s.modQp i f).idn = s.idn := rfl
@[simp] theorem State.modQp_eth (s : State) (i : Nat) (f : Qp → Qp) : (s.modQp i f).eth = s.eth := rfl
@[simp] theorem State.modQp_xpt (s : State) (i : Nat) (f : Qp → Qp) : (s.modQp i f).xpt = { s.xpt with qps := tmod s.xpt.qps i f } := rfl
@[simp] theorem State.modQp_win (s : State) (i : Nat) (f : Qp → Qp) : (s.modQp i f).win = s.win := rfl
@[simp] theorem State.modQp_sch (s : State) (i : Nat) (f : Qp → Qp) : (s.modQp i f).sch = s.sch := rfl
@[simp] theorem State.modQp_cmd (s : State) (i : Nat) (f : Qp → Qp) : (s.modQp i f).cmd = s.cmd := rfl
@[simp] theorem State.modQp_fsp (s : State) (i : Nat) (f : Qp → Qp) : (s.modQp i f).fsp = s.fsp := rfl
@[simp] theorem State.modQp_gch (s : State) (i : Nat) (f : Qp → Qp) : (s.modQp i f).gch = s.gch := rfl
@[simp] theorem State.modQp_sal (s : State) (i : Nat) (f : Qp → Qp) : (s.modQp i f).sal = s.sal := rfl
@[simp] theorem State.modQp_cmp (s : State) (i : Nat) (f : Qp → Qp) : (s.modQp i f).cmp = s.cmp := rfl
@[simp] theorem State.modQp_cph (s : State) (i : Nat) (f : Qp → Qp) : (s.modQp i f).cph = s.cph := rfl
@[simp] theorem State.modQp_lay (s : State) (i : Nat) (f : Qp → Qp) : (s.modQp i f).lay = s.lay := rfl
@[simp] theorem State.modQp_jnl (s : State) (i : Nat) (f : Qp → Qp) : (s.modQp i f).jnl = s.jnl := rfl
@[simp] theorem State.modQp_axl (s : State) (i : Nat) (f : Qp → Qp) : (s.modQp i f).axl = s.axl := rfl
@[simp] theorem State.modQp_drv (s : State) (i : Nat) (f : Qp → Qp) : (s.modQp i f).drv = s.drv := rfl
@[simp] theorem State.modQp_pwr (s : State) (i : Nat) (f : Qp → Qp) : (s.modQp i f).pwr = s.pwr := rfl
@[simp] theorem State.modQp_fov (s : State) (i : Nat) (f : Qp → Qp) : (s.modQp i f).fov = s.fov := rfl
@[simp] theorem State.modQp_sep (s : State) (i : Nat) (f : Qp → Qp) : (s.modQp i f).sep = s.sep := rfl
@[simp] theorem State.modQp_evt (s : State) (i : Nat) (f : Qp → Qp) : (s.modQp i f).evt = s.evt := rfl
@[simp] theorem State.modQp_cnt (s : State) (i : Nat) (f : Qp → Qp) : (s.modQp i f).cnt = s.cnt := rfl

/-! ### State.modStripe -/

@[simp] theorem State.modStripe_pending (s : State) (g row : Nat) (f : Stripe → Stripe) : (s.modStripe g row f).pending = s.pending := rfl
@[simp] theorem State.modStripe_outbox (s : State) (g row : Nat) (f : Stripe → Stripe) : (s.modStripe g row f).outbox = s.outbox := rfl
@[simp] theorem State.modStripe_deferred (s : State) (g row : Nat) (f : Stripe → Stripe) : (s.modStripe g row f).deferred = s.deferred := rfl
@[simp] theorem State.modStripe_free (s : State) (g row : Nat) (f : Stripe → Stripe) : (s.modStripe g row f).free = s.free := rfl
@[simp] theorem State.modStripe_regs (s : State) (g row : Nat) (f : Stripe → Stripe) : (s.modStripe g row f).regs = s.regs := rfl
@[simp] theorem State.modStripe_dram (s : State) (g row : Nat) (f : Stripe → Stripe) : (s.modStripe g row f).dram = s.dram := rfl
@[simp] theorem State.modStripe_trn (s : State) (g row : Nat) (f : Stripe → Stripe) : (s.modStripe g row f).trn = s.trn := rfl
@[simp] theorem State.modStripe_cfg (s : State) (g row : Nat) (f : Stripe → Stripe) : (s.modStripe g row f).cfg = s.cfg := rfl
@[simp] theorem State.modStripe_idn (s : State) (g row : Nat) (f : Stripe → Stripe) : (s.modStripe g row f).idn = s.idn := rfl
@[simp] theorem State.modStripe_eth (s : State) (g row : Nat) (f : Stripe → Stripe) : (s.modStripe g row f).eth = s.eth := rfl
@[simp] theorem State.modStripe_xpt (s : State) (g row : Nat) (f : Stripe → Stripe) : (s.modStripe g row f).xpt = s.xpt := rfl
@[simp] theorem State.modStripe_win (s : State) (g row : Nat) (f : Stripe → Stripe) : (s.modStripe g row f).win = s.win := rfl
@[simp] theorem State.modStripe_sch (s : State) (g row : Nat) (f : Stripe → Stripe) : (s.modStripe g row f).sch = s.sch := rfl
@[simp] theorem State.modStripe_cmd (s : State) (g row : Nat) (f : Stripe → Stripe) : (s.modStripe g row f).cmd = s.cmd := rfl
@[simp] theorem State.modStripe_fsp (s : State) (g row : Nat) (f : Stripe → Stripe) : (s.modStripe g row f).fsp = s.fsp := rfl
@[simp] theorem State.modStripe_gch (s : State) (g row : Nat) (f : Stripe → Stripe) : (s.modStripe g row f).gch = s.gch := rfl
@[simp] theorem State.modStripe_sal (s : State) (g row : Nat) (f : Stripe → Stripe) : (s.modStripe g row f).sal = s.sal := rfl
@[simp] theorem State.modStripe_cmp (s : State) (g row : Nat) (f : Stripe → Stripe) : (s.modStripe g row f).cmp = s.cmp := rfl
@[simp] theorem State.modStripe_cph (s : State) (g row : Nat) (f : Stripe → Stripe) : (s.modStripe g row f).cph = s.cph := rfl
@[simp] theorem State.modStripe_lay (s : State) (g row : Nat) (f : Stripe → Stripe) : (s.modStripe g row f).lay = { s.lay with stripes := s.lay.stripes.map fun x => if x.group == g && x.row == row then f x else x } := rfl
@[simp] theorem State.modStripe_jnl (s : State) (g row : Nat) (f : Stripe → Stripe) : (s.modStripe g row f).jnl = s.jnl := rfl
@[simp] theorem State.modStripe_axl (s : State) (g row : Nat) (f : Stripe → Stripe) : (s.modStripe g row f).axl = s.axl := rfl
@[simp] theorem State.modStripe_drv (s : State) (g row : Nat) (f : Stripe → Stripe) : (s.modStripe g row f).drv = s.drv := rfl
@[simp] theorem State.modStripe_pwr (s : State) (g row : Nat) (f : Stripe → Stripe) : (s.modStripe g row f).pwr = s.pwr := rfl
@[simp] theorem State.modStripe_fov (s : State) (g row : Nat) (f : Stripe → Stripe) : (s.modStripe g row f).fov = s.fov := rfl
@[simp] theorem State.modStripe_sep (s : State) (g row : Nat) (f : Stripe → Stripe) : (s.modStripe g row f).sep = s.sep := rfl
@[simp] theorem State.modStripe_evt (s : State) (g row : Nat) (f : Stripe → Stripe) : (s.modStripe g row f).evt = s.evt := rfl
@[simp] theorem State.modStripe_cnt (s : State) (g row : Nat) (f : Stripe → Stripe) : (s.modStripe g row f).cnt = s.cnt := rfl

/-! ### State.modBlk -/

@[simp] theorem State.modBlk_pending (s : State) (k : Nat) (f : Blk → Blk) : (s.modBlk k f).pending = s.pending := rfl
@[simp] theorem State.modBlk_outbox (s : State) (k : Nat) (f : Blk → Blk) : (s.modBlk k f).outbox = s.outbox := rfl
@[simp] theorem State.modBlk_deferred (s : State) (k : Nat) (f : Blk → Blk) : (s.modBlk k f).deferred = s.deferred := rfl
@[simp] theorem State.modBlk_free (s : State) (k : Nat) (f : Blk → Blk) : (s.modBlk k f).free = s.free := rfl
@[simp] theorem State.modBlk_regs (s : State) (k : Nat) (f : Blk → Blk) : (s.modBlk k f).regs = s.regs := rfl
@[simp] theorem State.modBlk_dram (s : State) (k : Nat) (f : Blk → Blk) : (s.modBlk k f).dram = s.dram := rfl
@[simp] theorem State.modBlk_trn (s : State) (k : Nat) (f : Blk → Blk) : (s.modBlk k f).trn = s.trn := rfl
@[simp] theorem State.modBlk_cfg (s : State) (k : Nat) (f : Blk → Blk) : (s.modBlk k f).cfg = s.cfg := rfl
@[simp] theorem State.modBlk_idn (s : State) (k : Nat) (f : Blk → Blk) : (s.modBlk k f).idn = s.idn := rfl
@[simp] theorem State.modBlk_eth (s : State) (k : Nat) (f : Blk → Blk) : (s.modBlk k f).eth = s.eth := rfl
@[simp] theorem State.modBlk_xpt (s : State) (k : Nat) (f : Blk → Blk) : (s.modBlk k f).xpt = s.xpt := rfl
@[simp] theorem State.modBlk_win (s : State) (k : Nat) (f : Blk → Blk) : (s.modBlk k f).win = { s.win with blocks := tmod s.win.blocks k f } := rfl
@[simp] theorem State.modBlk_sch (s : State) (k : Nat) (f : Blk → Blk) : (s.modBlk k f).sch = s.sch := rfl
@[simp] theorem State.modBlk_cmd (s : State) (k : Nat) (f : Blk → Blk) : (s.modBlk k f).cmd = s.cmd := rfl
@[simp] theorem State.modBlk_fsp (s : State) (k : Nat) (f : Blk → Blk) : (s.modBlk k f).fsp = s.fsp := rfl
@[simp] theorem State.modBlk_gch (s : State) (k : Nat) (f : Blk → Blk) : (s.modBlk k f).gch = s.gch := rfl
@[simp] theorem State.modBlk_sal (s : State) (k : Nat) (f : Blk → Blk) : (s.modBlk k f).sal = s.sal := rfl
@[simp] theorem State.modBlk_cmp (s : State) (k : Nat) (f : Blk → Blk) : (s.modBlk k f).cmp = s.cmp := rfl
@[simp] theorem State.modBlk_cph (s : State) (k : Nat) (f : Blk → Blk) : (s.modBlk k f).cph = s.cph := rfl
@[simp] theorem State.modBlk_lay (s : State) (k : Nat) (f : Blk → Blk) : (s.modBlk k f).lay = s.lay := rfl
@[simp] theorem State.modBlk_jnl (s : State) (k : Nat) (f : Blk → Blk) : (s.modBlk k f).jnl = s.jnl := rfl
@[simp] theorem State.modBlk_axl (s : State) (k : Nat) (f : Blk → Blk) : (s.modBlk k f).axl = s.axl := rfl
@[simp] theorem State.modBlk_drv (s : State) (k : Nat) (f : Blk → Blk) : (s.modBlk k f).drv = s.drv := rfl
@[simp] theorem State.modBlk_pwr (s : State) (k : Nat) (f : Blk → Blk) : (s.modBlk k f).pwr = s.pwr := rfl
@[simp] theorem State.modBlk_fov (s : State) (k : Nat) (f : Blk → Blk) : (s.modBlk k f).fov = s.fov := rfl
@[simp] theorem State.modBlk_sep (s : State) (k : Nat) (f : Blk → Blk) : (s.modBlk k f).sep = s.sep := rfl
@[simp] theorem State.modBlk_evt (s : State) (k : Nat) (f : Blk → Blk) : (s.modBlk k f).evt = s.evt := rfl
@[simp] theorem State.modBlk_cnt (s : State) (k : Nat) (f : Blk → Blk) : (s.modBlk k f).cnt = s.cnt := rfl

/-! ### State.modLink -/

@[simp] theorem State.modLink_pending (s : State) (u : Nat) (f : Link → Link) : (s.modLink u f).pending = s.pending := rfl
@[simp] theorem State.modLink_outbox (s : State) (u : Nat) (f : Link → Link) : (s.modLink u f).outbox = s.outbox := rfl
@[simp] theorem State.modLink_deferred (s : State) (u : Nat) (f : Link → Link) : (s.modLink u f).deferred = s.deferred := rfl
@[simp] theorem State.modLink_free (s : State) (u : Nat) (f : Link → Link) : (s.modLink u f).free = s.free := rfl
@[simp] theorem State.modLink_regs (s : State) (u : Nat) (f : Link → Link) : (s.modLink u f).regs = s.regs := rfl
@[simp] theorem State.modLink_dram (s : State) (u : Nat) (f : Link → Link) : (s.modLink u f).dram = s.dram := rfl
@[simp] theorem State.modLink_trn (s : State) (u : Nat) (f : Link → Link) : (s.modLink u f).trn = s.trn := rfl
@[simp] theorem State.modLink_cfg (s : State) (u : Nat) (f : Link → Link) : (s.modLink u f).cfg = s.cfg := rfl
@[simp] theorem State.modLink_idn (s : State) (u : Nat) (f : Link → Link) : (s.modLink u f).idn = s.idn := rfl
@[simp] theorem State.modLink_eth (s : State) (u : Nat) (f : Link → Link) : (s.modLink u f).eth = lmod s.eth u f := rfl
@[simp] theorem State.modLink_xpt (s : State) (u : Nat) (f : Link → Link) : (s.modLink u f).xpt = s.xpt := rfl
@[simp] theorem State.modLink_win (s : State) (u : Nat) (f : Link → Link) : (s.modLink u f).win = s.win := rfl
@[simp] theorem State.modLink_sch (s : State) (u : Nat) (f : Link → Link) : (s.modLink u f).sch = s.sch := rfl
@[simp] theorem State.modLink_cmd (s : State) (u : Nat) (f : Link → Link) : (s.modLink u f).cmd = s.cmd := rfl
@[simp] theorem State.modLink_fsp (s : State) (u : Nat) (f : Link → Link) : (s.modLink u f).fsp = s.fsp := rfl
@[simp] theorem State.modLink_gch (s : State) (u : Nat) (f : Link → Link) : (s.modLink u f).gch = s.gch := rfl
@[simp] theorem State.modLink_sal (s : State) (u : Nat) (f : Link → Link) : (s.modLink u f).sal = s.sal := rfl
@[simp] theorem State.modLink_cmp (s : State) (u : Nat) (f : Link → Link) : (s.modLink u f).cmp = s.cmp := rfl
@[simp] theorem State.modLink_cph (s : State) (u : Nat) (f : Link → Link) : (s.modLink u f).cph = s.cph := rfl
@[simp] theorem State.modLink_lay (s : State) (u : Nat) (f : Link → Link) : (s.modLink u f).lay = s.lay := rfl
@[simp] theorem State.modLink_jnl (s : State) (u : Nat) (f : Link → Link) : (s.modLink u f).jnl = s.jnl := rfl
@[simp] theorem State.modLink_axl (s : State) (u : Nat) (f : Link → Link) : (s.modLink u f).axl = s.axl := rfl
@[simp] theorem State.modLink_drv (s : State) (u : Nat) (f : Link → Link) : (s.modLink u f).drv = s.drv := rfl
@[simp] theorem State.modLink_pwr (s : State) (u : Nat) (f : Link → Link) : (s.modLink u f).pwr = s.pwr := rfl
@[simp] theorem State.modLink_fov (s : State) (u : Nat) (f : Link → Link) : (s.modLink u f).fov = s.fov := rfl
@[simp] theorem State.modLink_sep (s : State) (u : Nat) (f : Link → Link) : (s.modLink u f).sep = s.sep := rfl
@[simp] theorem State.modLink_evt (s : State) (u : Nat) (f : Link → Link) : (s.modLink u f).evt = s.evt := rfl
@[simp] theorem State.modLink_cnt (s : State) (u : Nat) (f : Link → Link) : (s.modLink u f).cnt = s.cnt := rfl

/-! ### State.setZone -/

@[simp] theorem State.setZone_pending (s : State) (nsid z : Nat) (x : Zone) : (s.setZone nsid z x).pending = s.pending := rfl
@[simp] theorem State.setZone_outbox (s : State) (nsid z : Nat) (x : Zone) : (s.setZone nsid z x).outbox = s.outbox := rfl
@[simp] theorem State.setZone_deferred (s : State) (nsid z : Nat) (x : Zone) : (s.setZone nsid z x).deferred = s.deferred := rfl
@[simp] theorem State.setZone_free (s : State) (nsid z : Nat) (x : Zone) : (s.setZone nsid z x).free = s.free := rfl
@[simp] theorem State.setZone_regs (s : State) (nsid z : Nat) (x : Zone) : (s.setZone nsid z x).regs = s.regs := rfl
@[simp] theorem State.setZone_dram (s : State) (nsid z : Nat) (x : Zone) : (s.setZone nsid z x).dram = s.dram := rfl
@[simp] theorem State.setZone_trn (s : State) (nsid z : Nat) (x : Zone) : (s.setZone nsid z x).trn = s.trn := rfl
@[simp] theorem State.setZone_cfg (s : State) (nsid z : Nat) (x : Zone) : (s.setZone nsid z x).cfg = s.cfg := rfl
@[simp] theorem State.setZone_idn (s : State) (nsid z : Nat) (x : Zone) : (s.setZone nsid z x).idn = s.idn := rfl
@[simp] theorem State.setZone_eth (s : State) (nsid z : Nat) (x : Zone) : (s.setZone nsid z x).eth = s.eth := rfl
@[simp] theorem State.setZone_xpt (s : State) (nsid z : Nat) (x : Zone) : (s.setZone nsid z x).xpt = s.xpt := rfl
@[simp] theorem State.setZone_win (s : State) (nsid z : Nat) (x : Zone) : (s.setZone nsid z x).win = s.win := rfl
@[simp] theorem State.setZone_sch (s : State) (nsid z : Nat) (x : Zone) : (s.setZone nsid z x).sch = s.sch := rfl
@[simp] theorem State.setZone_cmd (s : State) (nsid z : Nat) (x : Zone) : (s.setZone nsid z x).cmd = { s.cmd with zones := if x.st = .empty then tdel s.cmd.zones (zoneKey nsid z) else tset s.cmd.zones (zoneKey nsid z) x } := rfl
@[simp] theorem State.setZone_fsp (s : State) (nsid z : Nat) (x : Zone) : (s.setZone nsid z x).fsp = s.fsp := rfl
@[simp] theorem State.setZone_gch (s : State) (nsid z : Nat) (x : Zone) : (s.setZone nsid z x).gch = s.gch := rfl
@[simp] theorem State.setZone_sal (s : State) (nsid z : Nat) (x : Zone) : (s.setZone nsid z x).sal = s.sal := rfl
@[simp] theorem State.setZone_cmp (s : State) (nsid z : Nat) (x : Zone) : (s.setZone nsid z x).cmp = s.cmp := rfl
@[simp] theorem State.setZone_cph (s : State) (nsid z : Nat) (x : Zone) : (s.setZone nsid z x).cph = s.cph := rfl
@[simp] theorem State.setZone_lay (s : State) (nsid z : Nat) (x : Zone) : (s.setZone nsid z x).lay = s.lay := rfl
@[simp] theorem State.setZone_jnl (s : State) (nsid z : Nat) (x : Zone) : (s.setZone nsid z x).jnl = s.jnl := rfl
@[simp] theorem State.setZone_axl (s : State) (nsid z : Nat) (x : Zone) : (s.setZone nsid z x).axl = s.axl := rfl
@[simp] theorem State.setZone_drv (s : State) (nsid z : Nat) (x : Zone) : (s.setZone nsid z x).drv = s.drv := rfl
@[simp] theorem State.setZone_pwr (s : State) (nsid z : Nat) (x : Zone) : (s.setZone nsid z x).pwr = s.pwr := rfl
@[simp] theorem State.setZone_fov (s : State) (nsid z : Nat) (x : Zone) : (s.setZone nsid z x).fov = s.fov := rfl
@[simp] theorem State.setZone_sep (s : State) (nsid z : Nat) (x : Zone) : (s.setZone nsid z x).sep = s.sep := rfl
@[simp] theorem State.setZone_evt (s : State) (nsid z : Nat) (x : Zone) : (s.setZone nsid z x).evt = s.evt := rfl
@[simp] theorem State.setZone_cnt (s : State) (nsid z : Nat) (x : Zone) : (s.setZone nsid z x).cnt = s.cnt := rfl

/-! ### State.startTask -/

@[simp] theorem State.startTask_pending (s : State) (core ctrl cid : Nat) : (s.startTask core ctrl cid).pending = s.pending := rfl
@[simp] theorem State.startTask_outbox (s : State) (core ctrl cid : Nat) : (s.startTask core ctrl cid).outbox = s.outbox := rfl
@[simp] theorem State.startTask_deferred (s : State) (core ctrl cid : Nat) : (s.startTask core ctrl cid).deferred = s.deferred := rfl
@[simp] theorem State.startTask_free (s : State) (core ctrl cid : Nat) : (s.startTask core ctrl cid).free = s.free := rfl
@[simp] theorem State.startTask_regs (s : State) (core ctrl cid : Nat) : (s.startTask core ctrl cid).regs = s.regs := rfl
@[simp] theorem State.startTask_dram (s : State) (core ctrl cid : Nat) : (s.startTask core ctrl cid).dram = s.dram := rfl
@[simp] theorem State.startTask_trn (s : State) (core ctrl cid : Nat) : (s.startTask core ctrl cid).trn = s.trn := rfl
@[simp] theorem State.startTask_cfg (s : State) (core ctrl cid : Nat) : (s.startTask core ctrl cid).cfg = { s.cfg with coreTasks := tset s.cfg.coreTasks core (tgetD s.cfg.coreTasks core [] ++ [(ctrl, cid)]) } := rfl
@[simp] theorem State.startTask_idn (s : State) (core ctrl cid : Nat) : (s.startTask core ctrl cid).idn = s.idn := rfl
@[simp] theorem State.startTask_eth (s : State) (core ctrl cid : Nat) : (s.startTask core ctrl cid).eth = s.eth := rfl
@[simp] theorem State.startTask_xpt (s : State) (core ctrl cid : Nat) : (s.startTask core ctrl cid).xpt = s.xpt := rfl
@[simp] theorem State.startTask_win (s : State) (core ctrl cid : Nat) : (s.startTask core ctrl cid).win = s.win := rfl
@[simp] theorem State.startTask_sch (s : State) (core ctrl cid : Nat) : (s.startTask core ctrl cid).sch = s.sch := rfl
@[simp] theorem State.startTask_cmd (s : State) (core ctrl cid : Nat) : (s.startTask core ctrl cid).cmd = s.cmd := rfl
@[simp] theorem State.startTask_fsp (s : State) (core ctrl cid : Nat) : (s.startTask core ctrl cid).fsp = s.fsp := rfl
@[simp] theorem State.startTask_gch (s : State) (core ctrl cid : Nat) : (s.startTask core ctrl cid).gch = s.gch := rfl
@[simp] theorem State.startTask_sal (s : State) (core ctrl cid : Nat) : (s.startTask core ctrl cid).sal = s.sal := rfl
@[simp] theorem State.startTask_cmp (s : State) (core ctrl cid : Nat) : (s.startTask core ctrl cid).cmp = s.cmp := rfl
@[simp] theorem State.startTask_cph (s : State) (core ctrl cid : Nat) : (s.startTask core ctrl cid).cph = s.cph := rfl
@[simp] theorem State.startTask_lay (s : State) (core ctrl cid : Nat) : (s.startTask core ctrl cid).lay = s.lay := rfl
@[simp] theorem State.startTask_jnl (s : State) (core ctrl cid : Nat) : (s.startTask core ctrl cid).jnl = s.jnl := rfl
@[simp] theorem State.startTask_axl (s : State) (core ctrl cid : Nat) : (s.startTask core ctrl cid).axl = s.axl := rfl
@[simp] theorem State.startTask_drv (s : State) (core ctrl cid : Nat) : (s.startTask core ctrl cid).drv = s.drv := rfl
@[simp] theorem State.startTask_pwr (s : State) (core ctrl cid : Nat) : (s.startTask core ctrl cid).pwr = s.pwr := rfl
@[simp] theorem State.startTask_fov (s : State) (core ctrl cid : Nat) : (s.startTask core ctrl cid).fov = s.fov := rfl
@[simp] theorem State.startTask_sep (s : State) (core ctrl cid : Nat) : (s.startTask core ctrl cid).sep = s.sep := rfl
@[simp] theorem State.startTask_evt (s : State) (core ctrl cid : Nat) : (s.startTask core ctrl cid).evt = s.evt := rfl
@[simp] theorem State.startTask_cnt (s : State) (core ctrl cid : Nat) : (s.startTask core ctrl cid).cnt = s.cnt := rfl

/-! ### Registers -/

/-- An instance that the register map has reads as the value last stored in it. -/
theorem State.rd_wr_same (s : State) (f : Fld) (i j v : Nat) (hi : i < f.count1) (hj : j < f.count2) : (s.wr f i j v).rd f i j = v % 2 ^ f.width := by
  simp only [State.rd, State.wr, regPut, if_pos (And.intro hi hj)]
  exact tgetD_tput_same _ _ _ _

/-- An instance that the register map does not have takes nothing. -/
theorem State.wr_absent (s : State) (f : Fld) (i j v : Nat) (h : ¬(i < f.count1 ∧ j < f.count2)) : s.wr f i j v = s := by
  simp only [State.wr, regPut, if_neg h]

/-- Storing in one place leaves the fields elsewhere alone. -/
theorem State.rd_wr_ne (s : State) (f g : Fld) (i j k l v : Nat) (h : g.key k l ≠ f.key i j) : (s.wr f i j v).rd g k l = s.rd g k l := by
  simp only [State.rd, State.wr, regPut]
  split
  · exact tgetD_tput_ne _ _ _ _ h
  · rfl

/-- An operation that keeps the register file keeps every reading. -/
theorem State.rd_congr {s t : State} (h : t.regs = s.regs) (f : Fld) (i j : Nat) : t.rd f i j = s.rd f i j := by
  unfold State.rd; rw [h]

/-! ### What an operation keeps, field by field -/

theorem Kept.pending {ps s t} (h : Kept ps s t) (hp : Part.mem .pending ps = false := by decide) : t.pending = s.pending := by
  have e := congrArg State.pending h.frame
  simp only [merge, pick, hp] at e
  exact e

theorem Kept.outbox {ps s t} (h : Kept ps s t) (hp : Part.mem .outbox ps = false := by decide) : t.outbox = s.outbox := by
  have e := congrArg State.outbox h.frame
  simp only [merge, pick, hp] at e
  exact e

theorem Kept.deferred {ps s t} (h : Kept ps s t) (hp : Part.mem .deferred ps = false := by decide) : t.deferred = s.deferred := by
  have e := congrArg State.deferred h.frame
  simp only [merge, pick, hp] at e
  exact e

theorem Kept.free {ps s t} (h : Kept ps s t) (hp : Part.mem .free ps = false := by decide) : t.free = s.free := by
  have e := congrArg State.free h.frame
  simp only [merge, pick, hp] at e
  exact e

/-- A register of a block that is not listed reads as before. -/
theorem Kept.rd {ps s t} (h : Kept ps s t) (f : Fld) (i j : Nat) (hi : i < f.count1) (hj : j < f.count2) (hf : f.fits = true := by decide)
    (ha : Part.mem .regs ps = false := by decide) (hp : Part.mem (.reg f.block) ps = false := by decide) : t.rd f i j = s.rd f i j := by
  unfold State.rd tgetD
  rw [h.file (f.key i j) ha (by rw [regBlock_key f i j hf hi hj]; exact hp)]

theorem Kept.dram_eq {ps s t} (h : Kept ps s t) (hp : Part.mem .dram ps = false := by decide) : t.dram = s.dram := by
  have e := congrArg State.dram h.frame
  simp only [merge, pick, hp] at e
  exact e

theorem Kept.trn {ps s t} (h : Kept ps s t) (hp : Part.mem .trn ps = false := by decide) : t.trn = s.trn := by
  have e := congrArg State.trn h.frame
  simp only [merge, pick, hp] at e
  exact e

theorem Kept.cfg {ps s t} (h : Kept ps s t) (hp : Part.mem .cfg ps = false := by decide) : t.cfg = s.cfg := by
  have e := congrArg State.cfg h.frame
  simp only [merge, pick, hp] at e
  exact e

theorem Kept.idn {ps s t} (h : Kept ps s t) (hp : Part.mem .idn ps = false := by decide) : t.idn = s.idn := by
  have e := congrArg State.idn h.frame
  simp only [merge, pick, hp] at e
  exact e

theorem Kept.eth {ps s t} (h : Kept ps s t) (hp : Part.mem .eth ps = false := by decide) : t.eth = s.eth := by
  have e := congrArg State.eth h.frame
  simp only [merge, pick, hp] at e
  exact e

theorem Kept.xpt {ps s t} (h : Kept ps s t) (hp : Part.mem .xpt ps = false := by decide) : t.xpt = s.xpt := by
  have e := congrArg State.xpt h.frame
  simp only [merge, pick, hp] at e
  exact e

theorem Kept.win {ps s t} (h : Kept ps s t) (hp : Part.mem .win ps = false := by decide) : t.win = s.win := by
  have e := congrArg State.win h.frame
  simp only [merge, pick, hp] at e
  exact e

theorem Kept.sch {ps s t} (h : Kept ps s t) (hp : Part.mem .sch ps = false := by decide) : t.sch = s.sch := by
  have e := congrArg State.sch h.frame
  simp only [merge, pick, hp] at e
  exact e

theorem Kept.cmd {ps s t} (h : Kept ps s t) (hp : Part.mem .cmd ps = false := by decide) : t.cmd = s.cmd := by
  have e := congrArg State.cmd h.frame
  simp only [merge, pick, hp] at e
  exact e

theorem Kept.fsp {ps s t} (h : Kept ps s t) (hp : Part.mem .fsp ps = false := by decide) : t.fsp = s.fsp := by
  have e := congrArg State.fsp h.frame
  simp only [merge, pick, hp] at e
  exact e

theorem Kept.gch {ps s t} (h : Kept ps s t) (hp : Part.mem .gch ps = false := by decide) : t.gch = s.gch := by
  have e := congrArg State.gch h.frame
  simp only [merge, pick, hp] at e
  exact e

theorem Kept.sal {ps s t} (h : Kept ps s t) (hp : Part.mem .sal ps = false := by decide) : t.sal = s.sal := by
  have e := congrArg State.sal h.frame
  simp only [merge, pick, hp] at e
  exact e

theorem Kept.cmp {ps s t} (h : Kept ps s t) (hp : Part.mem .cmp ps = false := by decide) : t.cmp = s.cmp := by
  have e := congrArg State.cmp h.frame
  simp only [merge, pick, hp] at e
  exact e

theorem Kept.cph {ps s t} (h : Kept ps s t) (hp : Part.mem .cph ps = false := by decide) : t.cph = s.cph := by
  have e := congrArg State.cph h.frame
  simp only [merge, pick, hp] at e
  exact e

theorem Kept.lay {ps s t} (h : Kept ps s t) (hp : Part.mem .lay ps = false := by decide) : t.lay = s.lay := by
  have e := congrArg State.lay h.frame
  simp only [merge, pick, hp] at e
  exact e

theorem Kept.jnl {ps s t} (h : Kept ps s t) (hp : Part.mem .jnl ps = false := by decide) : t.jnl = s.jnl := by
  have e := congrArg State.jnl h.frame
  simp only [merge, pick, hp] at e
  exact e

theorem Kept.axl {ps s t} (h : Kept ps s t) (hp : Part.mem .axl ps = false := by decide) : t.axl = s.axl := by
  have e := congrArg State.axl h.frame
  simp only [merge, pick, hp] at e
  exact e

theorem Kept.drv {ps s t} (h : Kept ps s t) (hp : Part.mem .drv ps = false := by decide) : t.drv = s.drv := by
  have e := congrArg State.drv h.frame
  simp only [merge, pick, hp] at e
  exact e

theorem Kept.pwr {ps s t} (h : Kept ps s t) (hp : Part.mem .pwr ps = false := by decide) : t.pwr = s.pwr := by
  have e := congrArg State.pwr h.frame
  simp only [merge, pick, hp] at e
  exact e

theorem Kept.fov {ps s t} (h : Kept ps s t) (hp : Part.mem .fov ps = false := by decide) : t.fov = s.fov := by
  have e := congrArg State.fov h.frame
  simp only [merge, pick, hp] at e
  exact e

theorem Kept.sep {ps s t} (h : Kept ps s t) (hp : Part.mem .sep ps = false := by decide) : t.sep = s.sep := by
  have e := congrArg State.sep h.frame
  simp only [merge, pick, hp] at e
  exact e

theorem Kept.evt {ps s t} (h : Kept ps s t) (hp : Part.mem .evt ps = false := by decide) : t.evt = s.evt := by
  have e := congrArg State.evt h.frame
  simp only [merge, pick, hp] at e
  exact e

theorem Kept.cnt {ps s t} (h : Kept ps s t) (hp : Part.mem .cnt ps = false := by decide) : t.cnt = s.cnt := by
  have e := congrArg State.cnt h.frame
  simp only [merge, pick, hp] at e
  exact e

end Sys2Proof.Machine
end

