-- ==== Sys2Proof/Tests/Slice0.lean ====
section
/-!
SUPPORT. Slice0.lean: tests of the model. Small states; the well-formedness checks at an ill-formed command each; the worked
examples of the spec; and, for every statement with hypotheses, concrete states and operands that meet them.
-/

namespace Sys2Proof.Tests

open Sys2Proof.Machine

set_option maxRecDepth 100000
set_option linter.unusedVariables false

/-! ### Small states -/

/-- The part in a device state with the boot sequence over, and a management session on controller 7. -/
def ph (d : DevState) : State :=
  { State.reset with cfg := { cfgReset with state := d, phase := .done, resetAsserted := false }, cmd := { cmdReset with ctrls := [(7, { Ctrl.session 0 with roles := some 15 })] } }

/-- A firmware package of an SVN. -/
def fwPkg (svn : Nat) : FwPackage := ⟨0, 1, svn, 0, 0, 0, 0, 0, 0, 0, 0⟩

/-- An image whose header and trailer are in order, with no section. -/
def img : Image := ⟨⟨0x4943584C, 1, 256, 1024, 1, 0, 1, 0x2400, 0xB0, 0, 0, 0, 0, 0, 0, 0⟩, [], ⟨0x5343584C, 0, 0, 0, 0⟩⟩

/-- An image with a firmware section of an SVN. -/
def imgFw (svn : Nat) : Image := { img with sections := [⟨1, 0, 0, 0, [], .firmware (fwPkg svn)⟩] }

/-- A copy region that holds such an image. -/
def copyFw (svn : Nat) : SpiCopy := { image := some (imgFw svn), headerErased := false, unreadable := false, written := 1024 }

/-- A trained DRAM channel. -/
def chan : ChannelTraining := ⟨true, 1, 64, 4800⟩

/-- The part in a phase of its boot, with an enrolled owner and a good image in both copies. -/
def bootAt (p : BootPhase) : State :=
  { ph .boot with
    cfg := { (ph .boot).cfg with phase := p, spi := [{ SpiCopy.erased with image := some img, headerErased := false }, { SpiCopy.erased with image := some { img with header := { img.header with sequence := 2 } }, headerErased := false }] }
    idn := { idnReset with fuses := { fusesReset with owners := [{ OwnerFuse.blank with enrolled := true, enrolCommit := true }] } } }

/-- An activation at a step. -/
def act (st : ActStep) (guard : Option Nat) : Activation := ⟨⟨7, 3, 1, 3⟩, st, .active, guard⟩

/-- The part while an activation is at a step. -/
def actAt (st : ActStep) (guard : Option Nat) : State := { ph .activating with cfg := { (ph .activating).cfg with activation := some (act st guard) } }

/-- A parent clock. -/
def par : Announce := ⟨9, 1, 1, 1, 1, 1, 1, 1⟩

/-- A layout of no members. -/
def lay : SecLayout := ⟨[], [], [31, 31, 31], 4, 4, 60, 10, 10, 50, 1⟩

/-- An image with a layout. -/
def imgLay : Image := { img with sections := [⟨0x0B, 0, 0, 0, [], .layout lay⟩] }

/-- The part in a device state with that image running. -/
def run (d : DevState) : State := { ph d with cfg := { (ph d).cfg with running := some imgLay } }

/-- The part with a parent on sub-port 0, which is up, and a measurement under way. -/
def ptp (m : Option SyncMeas) : State :=
  { ph .active with eth := lmod ethReset 0 fun l => { l with st := .up }, trn := { trnReset with disc := .locked, parent := some par, sync := m } }

/-- The part after 2^40 Turns with one sub-port or peer lane in a state. -/
def linkAt (u : Nat) (l : Link) : State := { ph .active with eth := lmod ethReset u fun _ => l, trn := { trnReset with ticks := 2 ^ 40 } }

/-- A RoCEv2 frame that passes every check. -/
def frm : Frame := ⟨100, false, true, .own, true, false, 0x0800, true, true, .own, .udp 4791, true, 2, 0, true, true, 0, .rc, true, ⟨0, 0, 0⟩, false⟩

/-- A queue pair of generation 2 in RTS on sub-port 0, with nothing in flight. -/
def qp0 : Qp :=
  { st := .rts, initiated := false, relaxed := true, triggers := true, service := 0, gen := 2, countSel := 7, remoteQpn := 77, handle := 1, tenant := 0
    unit := 0, pmtu := 1024, ackT := 4, retryCnt := 7, rnrRetry := 6, ird := 16, ord := 16, sqPsn := 9, unaPsn := 9, epsn := 9, msn := 0, retriesLeft := 7
    rnrLeft := 6, ackArmed := none, cwnd := 65536, inflight := 0, alpha := 0, quiet := 0, rttLast := 0, compCount := 0, lastFinalPsn := 0, sq := []
    recv := [], reads := [], nakSent := false, ackDue := none, cnpSent := false, cnpRx := false, rttMin := none, rnrWait := none, drainArmed := none
    timewaitArmed := none, attempts := 0, connectArmed := none, mraArmed := none, repPending := false, granted := none, sentPkts := 0, rcvdPkts := 0
    retrans := 0, naks := 0, cnpsRx := 0, cnpsTx := 0 }

/-- A packet for that queue pair. -/
def pkt : Pkt := ⟨0, qpnOf 2 5, 9, true, false, 0, 100, 80, false⟩

/-- A work request of opcode 0. -/
def wqe0 : Wqe := ⟨0, 0, 0, 0, 0, 100, 0, 0, 0, 0, 0, 3⟩

/-- A read under way, a trigger that waits. -/
def sqRead : SqEntry := ⟨{ wqe0 with opcode := 4, length := 4096 }, true, 12, none⟩
def sqTrig : SqEntry := ⟨{ wqe0 with flags := 1, trigTimeout := 9 }, false, 0, some 0⟩

/-- The part after 2^40 Turns with one queue pair, at index 5, its context in Gecko, and receive buffers. -/
def qpUp (q : Qp) : State :=
  { linkAt 0 { Link.off with st := .up } with
    xpt := { xptReset with qps := [(5, q)], gecko := [(5, [⟨5, true, false⟩])] }
    fsp := { fspReset with pools := lset fspReset.pools 3 { Pool.off with en := true, role := 2, first := 100, count := 2, cache := [100, 101] } } }

/-- The same with BUFFER window 3 open: two blocks of 64 KiB in buffers 4 and 5 of pool 0. -/
def winUp (q : Qp) : State :=
  { qpUp q with
    win := { winReset with table := { Banked.empty with act := [(3, { WinDesc.free with st := .isOpen, buffer := true, remoteW := true, remoteR := true, length := 2 })] }, lists := [(3, [⟨4, false, false⟩, ⟨5, false, false⟩])] }
    fsp := { fspReset with pools := lset fspReset.pools 0 { Pool.off with en := true, cls := 1, first := 0, count := 8, base := 65536 } } }

/-- A REQ for service 0. -/
def req0 : CmReq := ⟨0, 77, 5, 1024, 4, 4, some 3, ⟨1, 2, 0⟩, 0, true⟩

/-- The same with controller 8 of a host, its admin queue on that queue pair, a namespace, and ingest buffers. -/
def hostUp : State :=
  { qpUp qp0 with
    cmd := { (ph .active).cmd with ctrls := [(7, { Ctrl.session 0 with roles := some 15 }), (8, { Ctrl.session 4 with mgmt := false, queues := [(0, 5)] })], nss := [(1, ⟨0, 4096, 4096, 0⟩)] }
    fsp := { fspReset with pools := lset fspReset.pools 0 { Pool.off with en := true, cls := 1, first := 0, count := 8, base := 65536, cache := [0, 1, 2] } } }

/-- A write of one block, admitted, on that queue pair. -/
def ent0 : CmdEnt :=
  { io := ⟨8, 3, 5, 1, 0, 16⟩, kind := .write, data := .keyed 1 2 4096, host := 4, arrival := 0, length := 65536, ranges := [(0, 16)], selectAll := false
    locked := true, admitted := true, waitedLock := false, waitedCap := false, waitedBlack := false, pulled := 0, pending := [], reading := [], resultLba := 0
    out := [], status := (0, 0), done := false, discard := false, replica := none }

/-- The same with tokens in every bucket of its queue, node and port. -/
def tokUp : State :=
  { hostUp with sch := { schReset with tokens := [16, 17, 18, 65536, 65537, 65538, 66560, 66561].map fun k => (k, 65536) } }

/-- An image with a tenant, its host, a namespace slot and a principal. -/
def imgTenant : Image := { img with sections := [⟨0x13, 0, 0, 0, [], .tenant ⟨6, 1, [9], 0⟩⟩, ⟨0x14, 0, 0, 0, [], .namespaceSlot ⟨1, 6, 0, 4096, 4096⟩⟩, ⟨0x12, 0, 0, 0, [], .roles [(11, 3)]⟩] }

/-- That host's controller. -/
def hostC : Ctrl := { Ctrl.session 4 with mgmt := false, queues := [(0, 6), (1, 5)] }

/-- The ACTIVE part with that controller, an I/O queue on its queue pair, and namespace 1 of a type. -/
def ioUp (type : Nat) : State := { hostUp with cmd := { hostUp.cmd with anaState := 1, ctrls := [(7, { Ctrl.session 0 with roles := some 15 }), (8, hostC)], nss := [(1, ⟨type, 4096, 4096, 0⟩)] } }

/-- A key of namespace 1 that is loaded. -/
def keyUp : KeySlot := ⟨9, 1, .loaded, false, 5, 0, 0⟩

/-- A native group with room, whose set is on. -/
def layUp : Lay :=
  { layReset with
    groups := lset layReset.groups 0 { Grp.none with declared := true, kMin := 10, kMax := 10, k := 10, append := true, rows := 1000 }
    sets := lset layReset.sets 0 { PSet.none with st := .on } }

/-- Its twelve positions online. -/
def axlUp : Axl := { axlReset with poses := (List.range 12).map fun p => (p, { Pos.none with st := .online, slot := p }) }

/-- A Salamander operation of an OP over two lines of slot 3. -/
def salOp (op : Nat) : SalOp := ⟨op, false, 1, false, 3, 5, 2, 77, false⟩

/-- The gather cache of 64 sets in a state: one line of slot 3, which is on, with a fill of it under way where the cache is ON. -/
def gchUp (st : CacheState) : State :=
  { ph .active with
    gch := { gchReset with st := st, sets := 64, lines := [(16 * ({ ph .active with gch := { gchReset with sets := 64 } } : State).cacheSet 3 5, ⟨3, 5, 1, 4, 0, false⟩)],
                           fills := if st == .on then [⟨3, 5, 3, 1, 0, false⟩] else [] } }

/-- The owner of a block of no sectors, the block itself in a place, and a decode of such a block. -/
def own0 : BlkOwner := ⟨4, 1, 0, 0, 0, 0⟩
def blk0 (p : BlkPlace) : Blk := { Blk.fresh none p none with owner := some own0, chain := match p with | .lane _ _ => some 2 | _ => none, keyId := 9 }
def dec0 : DecJob := ⟨4, 1, 0, 0, 0, 0, true, 9, 0, 0, 0, [], 0, none, none⟩

/-- The part with that block, key 9 current for namespace 1, sealing allowed, and buffers for chains. -/
def laneUp (p : BlkPlace) : State :=
  { hostUp with
    fsp := { hostUp.fsp with pools := lset hostUp.fsp.pools 1 { Pool.off with en := true, cls := 0, first := 16, count := 8, cache := [16, 17] } }
    win := { winReset with blocks := [(6, blk0 p)] }
    cph := { cphReset with current := [(1, 9)], slots := [(2, keyUp)], sealing := true }
    lay := { layReset with gathering := [⟨4, 1, 0, 4, [], [0], false, none, 0, none⟩] } }

/-- A host read that waits for two decodes. -/
def read0 : ReadJob := ⟨4, 1, 0, .host, MapEnt.empty, 0, [], false, [], [], [], 3, [2, 3]⟩

/-- A key record of tenant 6 for its namespace 1, and the part with an image that declares both. -/
def rec0 : KeyRecord := ⟨leNat (ascii "LXKB"), 1, 0, 0, 0, 0x60005, 1, 0⟩
def keyOk : State := { ph .active with cfg := { (ph .active).cfg with running := some imgTenant } }
def keyFb : State := { keyOk with cfg := { keyOk.cfg with running := some { imgTenant with sections := [⟨0x13, 0, 0, 0, [], .tenant ⟨6, 1, [9], 1⟩⟩, ⟨0x14, 0, 0, 0, [], .namespaceSlot ⟨1, 6, 0, 4096, 4096⟩⟩] } } }

/-- A sealed block without bytes, and a version of it that waits to be placed for command 4. -/
def blkS : SealedBlk := ⟨0, false, 1, 0, 9, 0, 0, 0, []⟩
def gath0 : Gathering := ⟨4, 1, 0, 4, [blkS], [], false, none, 0, none⟩

/-- The ACTIVE part with a native group and such a version. -/
def placeUp (y : Gathering) : State := { ioUp 0 with lay := { layUp with gathering := [y] }, axl := axlUp }

/-- A stripe of row 5 of group 0: with 100 bytes of which none is journalled. -/
def str0 (st : StripeState) : Stripe := ⟨0, 5, 10, st, some 0, [], [], [], 100, 0, 0, some 0, if st == .writing then List.range 12 else [], 0, none⟩
def stripeUp (st : StripeState) : State :=
  { ioUp 0 with lay := { layUp with stripes := [str0 st] }, axl := axlUp, jnl := { jnlReset with credit := 100 } }

/-- A read of a version that lies in a stripe of row 0 in DRAM. -/
def verRead : ReadJob := ⟨4, 1, 0, .host, ⟨0, 0, 80, 1, true, 1, 0, 0⟩, 0, [], false, [], [], [], 1, []⟩
def verUp : State :=
  { ioUp 0 with lay := { layUp with reads := [(1, verRead)], stripes := [{ str0 .opened with row := 0, data := memWriteList [] 0 (versionBytes [blkS] 1 0 1 0), fill := 80 }] }, axl := axlUp }

/-- The same with power set 0, of one group with a member in slot 3, in a state and a step of its stop, after 2^40 Turns. -/
def setUp (st : SetState) (step : Nat) : State :=
  { ioUp 0 with
    lay := { layUp with groups := lmod layUp.groups 0 (fun g => { g with members := [3] }), sets := lset layReset.sets 0 { PSet.none with st := st, step := step, armed := if st == .powering then some 0 else none } } }

/-- The same with anchor role 1, in a state, in slot 3, with one write outstanding. -/
def rolesUp (st : RoleState) : State :=
  { setUp .on 0 with jnl := { jnlReset with roles := lset jnlReset.roles 1 { Role.none with st := st, slot := 3, writes := [⟨7, false⟩], promotedAt := some 0 } } }

/-- A walk of group 0 at row 4, and the part with it, position 3 in a state with rows 4 to 9 pending. -/
def wlk0 (issued : Bool) : Walk := ⟨4, 0, 0, 0, issued, false⟩
def walkUp (issued : Bool) (st : PosState) : State :=
  { setUp .on 0 with
    drv := drvReset.map fun d => { d with st := .ready }
    lay := { layUp with groups := lmod layUp.groups 0 fun g => { g with kMin := 8, members := List.range 12 } }
    axl := { axlUp with poses := tmod axlUp.poses 3 (fun q => { q with st := st, pending := if st == .online then [] else [(4, 6)], absentAt := if st == .absent then some (0, true) else none }),
                        walks := if st == .rebuilding then [(0, wlk0 issued)] else [], rbCredit := 1000 } }

/-- The same with slot 3 powered and its drive port in a state. -/
def drvUp (d : Slot) : State := { setUp .on 0 with drv := lset drvReset 3 d, pwr := { pwrReset with slots := lmod pwrReset.slots 3 fun c => { c with st := .on, pg := true, present := true } } }

/-- The same with the channel of slot 3 in a state, or with feed 1 in one and a dead time running or not. -/
def chUp (c : Chan) : State := { setUp .on 0 with pwr := { pwrReset with slots := lset pwrReset.slots 3 c } }
def fdUp (f : Feed) (dead : Bool) : State := { setUp .on 0 with pwr := { pwrReset with feeds := lset pwrReset.feeds 1 f, dead := dead } }

/-- A Pawn message, a rack service that is a witness, and an image with three of them, a served shelf, a peer shelf and a replica. -/
def pawnMsg : PawnMsg := ⟨pawnMagic, 1, 0, 0, 0, 0, 0, 0, 0, 0, 0⟩
def wcfg : WitnessCfg := ⟨1, 70, 0, 2, 3, 0, 0⟩
def imgFov : Image := { img with sections := [⟨0x10, 0, 0, 0, [], .failover ⟨0, [wcfg, wcfg, wcfg], [(9, 1, 2)], [⟨33, [(70, 0, 2)]⟩], [⟨1, 33, 0, 0⟩]⟩⟩] }

/-- A served shelf without a connection, and with a proved one of canister A. -/
def served0 : Served := ⟨[], none, 8, 0, 0, 0, none⟩
def served1 : Served := { served0 with conns := [(0, 5, none, true)] }

/-- The part after 2^40 Turns in a device state with that image, the connection to witness 1 in a state, and a queue pair to the peer shelf. -/
def witUp (d : DevState) (w : Witness) : State :=
  { qpUp { qp0 with initiated := true, service := 2 } with
    cfg := { (ph d).cfg with running := some imgFov }
    xpt := { xptReset with qps := [(5, { qp0 with initiated := true, service := 2 })], handleUse := [(1, ⟨0, 70, 0⟩, 1)] }
    fov := { fovReset with wits := lset fovReset.wits 1 w, served := [(9, served0)] } }

/-- The same with shelf 9 served. -/
def srvUp (x : Served) : State := { witUp .active Witness.none with fov := { fovReset with served := [(9, x)] } }

/-- The ACTIVE part after 2^40 Turns with peer lane 16 up. -/
def laneLink : State := linkAt 16 { Link.off with st := .up }

/-- A change of the map. -/
def delta0 : DeltaRead := ⟨1, 0, true, 0, 64, 80, 1, 0, 3, 9, 0⟩

/-- The service endpoint in a given state, on an ACTIVE part whose link is up. -/
def sepUp (d : DevState) (x : Sep) : State := { ph d with sep := { x with link := .active }, trn := { trnReset with ticks := 2 ^ 40 } }

/-- A Flash Write at a step. -/
def flash0 (st : FlashStep) : FlashJob := ⟨7, 1, 4096, none, st, 14⟩

/-- An event record of a Turn. -/
def ev0 : EventRec := ⟨64, 3, 5, 0, 0, 0, 0, 0⟩

/-! ### Well-formedness: each check refuses an ill-formed command -/

theorem smoke_unit : (Instr.linkTrainingDone 17).wf = true ∧ (Instr.linkTrainingDone 18).wf = false := by decide
theorem smoke_slot : (Instr.slotRemoved 23).wf = true ∧ (Instr.slotRemoved 24).wf = false := by decide
theorem smoke_group : (Instr.compactionStart 9).wf = true ∧ (Instr.compactionStart 10).wf = false := by decide
theorem smoke_set : (Instr.setIdleTimeout 7).wf = true ∧ (Instr.setIdleTimeout 8).wf = false := by decide
theorem smoke_role : (Instr.anchorReseedTimeout 2).wf = true ∧ (Instr.anchorReseedTimeout 3).wf = false := by decide
theorem smoke_witness : (Instr.denyWaitExpiry 3).wf = true ∧ (Instr.denyWaitExpiry 4).wf = false := by decide
theorem smoke_feed : (Instr.feedPowerGood 1).wf = true ∧ (Instr.feedPowerGood 2).wf = false := by decide
theorem smoke_channel : (Instr.efuseTrip 25).wf = true ∧ (Instr.efuseTrip 26).wf = false := by decide
theorem smoke_lane : (Instr.helloRx 1 (ph .active).ownHello).wf = true ∧ (Instr.helloRx 2 (ph .active).ownHello).wf = false := by decide
theorem smoke_core : (Instr.coreWatchdogExpiry 15).wf = true ∧ (Instr.coreWatchdogExpiry 16).wf = false := by decide
theorem smoke_copy : (Instr.spiTransactionTimeout 1).wf = true ∧ (Instr.spiTransactionTimeout 2).wf = false := by decide
theorem smoke_counter : (Instr.counterSampleRead 383).wf = true ∧ (Instr.counterSampleRead 384).wf = false := by decide
theorem smoke_pool : (Instr.fspCacheWriteback 15).wf = true ∧ (Instr.fspCacheWriteback 16).wf = false := by decide
theorem smoke_vector : (Instr.msixUnmask 255 ⟨true, true, false⟩).wf = true ∧ (Instr.msixUnmask 256 ⟨true, true, false⟩).wf = false := by decide
theorem smoke_shelf : (Instr.pawnRequestRx 1023 1 pawnMsg).wf = true ∧ (Instr.pawnRequestRx 1024 1 pawnMsg).wf = false := by decide
theorem smoke_canister : (Instr.pawnReleaseRx 1023 1 pawnMsg).wf = true ∧ (Instr.pawnReleaseRx 1023 2 pawnMsg).wf = false := by decide
theorem smoke_word16 : (Instr.keepAlive 65535 65535).wf = true ∧ (Instr.keepAlive 65536 0).wf = false ∧ (Instr.keepAlive 0 65536).wf = false := by decide
theorem smoke_access : (Instr.registerWrite .core 0x3FFFFFC 4 0xFFFFFFFF).wf = true ∧ (Instr.registerWrite .core 0x4000000 4 0).wf = false ∧
    (Instr.registerWrite .core 0 4 0x100000000).wf = false := by decide
theorem smoke_io : (Instr.flush ⟨8, 3, 5, 0xFFFFFFFF, 2 ^ 64 - 1, 65536⟩).wf = true ∧ (Instr.flush ⟨8, 3, 5, 2 ^ 32, 0, 1⟩).wf = false ∧
    (Instr.flush ⟨8, 3, 5, 1, 2 ^ 64, 1⟩).wf = false ∧ (Instr.flush ⟨8, 3, 5, 1, 0, 65537⟩).wf = false ∧ (Instr.flush ⟨65536, 3, 5, 1, 0, 1⟩).wf = false := by decide
theorem smoke_packet : (Instr.sendRx pkt .only none).wf = true ∧ (Instr.sendRx { pkt with unit := 16 } .only none).wf = false ∧
    (Instr.sendRx { pkt with qpn := 2 ^ 24 } .only none).wf = false ∧ (Instr.sendRx { pkt with psn := 2 ^ 24 } .only none).wf = false := by decide
theorem smoke_bank : (Instr.bankCommit .core (.gates 7)).wf = true ∧ (Instr.bankCommit .core (.gates 8)).wf = false := by decide
theorem smoke_decode_fault : (Instr.decompressBlockDone 0 (some 7)).wf = true ∧ (Instr.decompressBlockDone 0 (some 8)).wf = false ∧
    (Instr.decompressBlockDone 0 (some 1)).wf = false := by decide
theorem smoke_link_code : (Instr.driveLinkUp 23 6 4).wf = true ∧ (Instr.driveLinkUp 23 7 4).wf = false ∧ (Instr.driveLinkUp 23 0 4).wf = false := by decide

/-! ### Worked examples of the spec -/

/-- 00_scope.md: 500 ms are 244,141 Turns; 18_power_companions_and_hot_swap.md: 1 s is 488,282 Turns. -/
theorem test_timer_rounding : turnsOfMs 500 = 244141 ∧ turnsOfSec 1 = 488282 ∧ turnsOfMs 100 = 48829 ∧ turnsOfMs 10 = 4883 := by decide

/-- 05_network_ports.md: a receive point at Turn 1,000,001, cycle 20, sixteenth 3 moves back by 768 sixteenths across a Turn of 2,561 cycles. -/
theorem test_stamp_borrow :
    ({ State.reset with trn := { trnReset with count := 1000001, prevLen := 2561 } } : State).adjust ⟨1000001, 20, 3⟩ (-768) = ⟨1000000, 2533, 3⟩ ∧
      1000000 * 65536 + 2533 * 16 + 3 = 0xF42409E53 := by decide

/-- 07_memory_windows.md: window 0x2400 with KEY_TAG 0x1A3 has the key 0x068C_2400. -/
theorem test_window_key : keyIndex 0x068C2400 = 0x2400 ∧ keyTagOf 0x068C2400 = 0x1A3 := by decide

/-- 08_traffic_scheduling.md: a swap at Turn 80,000,004 enters entry 0 at position 4; Turn 80,000,600 lies in entry 1. -/
theorem test_gate_position :
    gateStep [(0, 0xFF + 512 * 256), (1, 0xF7 + 512 * 256)] 80000000 80000004 = (0, 0xFF, 508) ∧
      gateStep [(0, 0xFF + 512 * 256), (1, 0xF7 + 512 * 256)] 80000000 80000600 = (1, 0xF7, 424) := by decide

/-- 10_frogspawn_buffer_pool.md: the thresholds of a pool of 524,288 buffers, and its hysteresis of 5,242. -/
theorem test_pool_levels :
    ({ Pool.off with count := 524288 } : Pool).threshold 25 = 131072 ∧ ({ Pool.off with count := 524288 } : Pool).threshold 10 = 52428 ∧
      ({ Pool.off with count := 524288 } : Pool).threshold 2 = 10485 ∧
      nextLevel 1 136313 524288 131072 52428 10485 = 1 ∧ nextLevel 1 136314 524288 131072 52428 10485 = 0 := by decide

/-- 11_gather_cache.md: with 4,096 sets, line 1,000,000 of slot 7 falls into set 1,344. -/
theorem test_cache_set : ({ State.reset with gch := { gchReset with sets := 4096 } } : State).cacheSet 7 1000000 = 1344 := by decide

/-- 12_compression.md: the codes of the symbols 0, 16, 0, 0, 1, 0, 0, 0, 1 under RANK begin with the bytes 0x6D, 0x84, 0x10. -/
theorem test_rank_codes :
    payload (canonicalCodes (staticLengths 2)) (([0, 16, 0, 0, 1, 0, 0, 0, 1] : List Nat).map fun r => ⟨r, 0, 0⟩) = [0x6D, 0x84, 0x10] := by decide

/-- 13_cipher.md: canister B at epoch 7 seals INVOCATION 0x0123_4567 under the IV 07 00 00 80 67 45 23 01 00 00 00 00. -/
theorem test_seal_iv :
    leBytes 12 ({ State.reset with cfg := { cfgReset with canister := 1 }, cph := { cphReset with epoch := 7, invoc := 0x1234567 } } : State).nextIv.1 =
      [7, 0, 0, 0x80, 0x67, 0x45, 0x23, 1, 0, 0, 0, 0] := by decide

/-- 13_cipher.md: KEY_ID 0x01F4_0003 belongs to tenant 500. -/
theorem test_key_tenant : keyTenant 0x01F40003 = 500 := by decide

/-- 16_rebuild_and_reshape.md: row 833 of width 8 has P at 6, Q at 7 and unit 2 at 2; row 625 of width 10 P at 4, Q at 5 and unit 0 at 6. -/
theorem test_parity_rotation :
    posP 8 833 = 6 ∧ posQ 8 833 = 7 ∧ posD 8 833 2 = 2 ∧ posP 10 625 = 4 ∧ posQ 10 625 = 5 ∧ posD 10 625 0 = 6 := by decide

/-- 16_rebuild_and_reshape.md: unit 5,000 of group 2 during the widening from 6 to 8: boundary 512 leaves it in row 833, boundary 768 in row 625. -/
theorem test_reshape_boundary :
    let s := fun (b : Nat) => ({ State.reset with axl := { axlReset with reshape := some ⟨2, 6, 8, .moving, b, 0, 0, []⟩ } } : State)
    (s 512).unitRow 2 5000 = (833, 6, 2) ∧ (s 768).unitRow 2 5000 = (625, 8, 0) := by decide

/-- 19_failover_and_federation.md: 903,332 Turns are sent as 1,851 ms, and 1,851 ms are waited as 903,809 Turns. -/
theorem test_deny_wait : msOfTurns 903332 = 1851 ∧ turnsOfMs 1851 = 903809 := by decide

/-- 22_register_map.md: AXL_RB_RATE reads 0x0010_1004 first; a session's write of 0x000C_1004 leaves FLOOR and CEIL and sets RATE to 12. -/
theorem test_rate_write :
    (ph .active).readBar .session 0x00F00004 4 = 0x00101004 ∧
      ((ph .active).writeBar .session 0x00F00004 4 0x000C1004).readBar .session 0x00F00004 4 = 0x000C1004 := by decide

/-- 22_register_map.md: a RATE above CEIL is ignored, and so is a write that changes the locked FLOOR; each raises one violation. -/
theorem test_rate_refused :
    ((ph .active).writeBar .session 0x00F00004 4 0x00141004).readBar .session 0x00F00004 4 = 0x00101004 ∧
      ((ph .active).writeBar .session 0x00F00004 4 0x00141004).violations = 1 ∧
      (({ ph .active with cfg := { (ph .active).cfg with locked := true } } : State).writeBar .session 0x00F00004 4 0x000C1005).violations = 1 := by decide

/-! ### Witnesses: states and operands that meet the hypotheses of the statements -/

theorem wit_IdleOnEmptyQueue : ∃ s : State, s.pending = [] := ⟨State.reset, rfl⟩

theorem wit_QueueIsKept : ∃ (i : Instr) (s t : State), exec i s = .next t := ⟨.fspClear, hostUp, _, rfl⟩

theorem wit_CanonIsKept : ∃ s t : State, s.Canon ∧ step s = .next t := ⟨{ State.reset with pending := [.fspClear] }, _, by decide, rfl⟩

/-- One entry noted as changed, so that the banks differ in it alone, and then rewritten. -/
theorem wit_BanksAgreeAfterCatchUp :
    ∃ (t : Banked WinDesc) (turn n i k : Nat) (keep : Bool) (v : WinDesc),
      ((∀ j, j ∉ t.changed → tget t.shd j = tget t.act j) ∧ t.changed.length ≤ n) ∧ (k ∉ t.changed) ∧ i ∈ t.changed ∧ v = { WinDesc.free with length := 3 } ∧ turn = 9 ∧ keep = true := by
  refine ⟨{ Banked.empty with shd := [(5, { WinDesc.free with length := 2 })], changed := [5] }, 9, 1, 5, 6, true, _, ⟨?_, by decide⟩, by decide, by decide, rfl, rfl, rfl⟩
  intro j h
  simp at h
  simp [Banked.empty, tget, Ne.symm h]

/-- A cipher job of 16 bytes at the end of block 0 of window 3, and the byte behind it. -/
theorem wit_DramBytes_1 :
    ∃ (s t : State) (a : Nat), exec (.cipherJob 8 3 3 65520 16 9 0 false 0) s = .next t ∧
      ∀ i, i < 16 → ((tgetD s.win.lists (keyIndex 3) [])[(65520 + i) / 65536]?).map (fun e => s.bufAddr e.buf + (65520 + i) % 65536) ≠ some a :=
  ⟨winUp qp0, _, 65536 + 4 * 65536 + 65536, rfl, by decide⟩

/-- An RDMA Write into window 3, and the byte just below its first buffer. -/
theorem wit_DramBytes_2 :
    ∃ (s t : State) (a : Nat), exec (.rdmaWriteRx pkt .only 3 0 none [7]) s = .next t ∧
      ∀ e ∈ tgetD s.win.lists (keyIndex 3) [], a < s.bufAddr e.buf ∨ s.bufAddr e.buf + 65536 ≤ a :=
  ⟨winUp { qp0 with epsn := 9 }, _, 65536 + 4 * 65536 - 1, rfl, by decide⟩

theorem wit_DramBytes_3 : ∃ t : State, exec (.sendRx pkt .only none) (qpUp { qp0 with epsn := 9 }) = .next t := ⟨_, rfl⟩

theorem wit_FrameOfTurnAndBoot : ∃ t : State, exec (.coreWatchdogExpiry 15) (ph .active) = .next t := ⟨_, rfl⟩
theorem wit_FrameOfIdentityAndPorts : ∃ t : State, exec (.ownerEnrol .session) (ph .safeHold) = .next t := ⟨_, rfl⟩
theorem wit_FrameOfTransport : ∃ t : State, exec (.cnpRx (qpnOf 2 5)) (qpUp qp0) = .next t := ⟨_, rfl⟩
theorem wit_FrameOfConnectionsAndScheduling : ∃ t : State, exec (.cmReqRx req0) (qpUp qp0) = .next t := ⟨_, rfl⟩
theorem wit_FrameOfControllers : ∃ t : State, exec (.keepAlive 7 3) (ph .active) = .next t := ⟨_, rfl⟩
theorem wit_FrameOfIo : ∃ t : State, exec (.flush ⟨8, 3, 5, 1, 0, 1⟩) (ioUp 0) = .next t := ⟨_, rfl⟩
theorem wit_FrameOfFrogspawnAndCache : ∃ t : State, exec (.fspAllocate 3 2 0) (qpUp qp0) = .next t := ⟨_, rfl⟩
theorem wit_FrameOfCompressionAndCipher : ∃ t : State, exec .cmpVerifyClear (ph .active) = .next t := ⟨_, rfl⟩
theorem wit_FrameOfStorage : ∃ t : State, exec .checkpointStart (setUp .on 0) = .next t := ⟨_, rfl⟩
theorem wit_FrameOfDrives : ∃ t : State, exec (.driveLinkDown 23) (setUp .on 0) = .next t := ⟨_, rfl⟩
theorem wit_FrameOfPower : ∃ t : State, exec (.slotRemoved 3) (chUp { Chan.none with st := .on }) = .next t := ⟨_, rfl⟩
theorem wit_FrameOfFailover : ∃ t : State, exec (.handOver 7 3) (ph .active) = .next t := ⟨_, rfl⟩
theorem wit_FrameOfEndpointCountersAndRegisters : ∃ t : State, exec (.counterLiveRead .session) (ph .active) = .next t := ⟨_, rfl⟩

theorem wit_DisciplineCommands :
    (∃ (s : State) (unit source seq : Nat) (origin : Option Nat) (rx : Stamp) (p : Announce), s.unitOn unit = true ∧ s.passesPtp unit = true ∧ s.trn.parent = some p ∧ p.port = source ∧ s.trn.disc ≠ .holdover) ∧
    (∃ (s : State) (unit origin : Nat) (m : SyncMeas), s.unitOn unit = true ∧ s.passesPtp unit = true ∧ s.trn.sync = some m ∧ m.origin = none) ∧
    (∃ (s : State) (unit received o : Nat) (tx : Stamp) (m : SyncMeas), s.unitOn unit = true ∧ s.passesPtp unit = true ∧ s.trn.sync = some m ∧ m.origin = some o ∧ s.trn.alignPending = false) ∧
    (∃ (s : State) (unit : Nat) (a : Announce), s.unitOn unit = true ∧ s.passesPtp unit = true ∧ s.trn.parent = none) ∧
    (∃ (s : State), due s.trn.acqArmed (turnsOfSec (s.rd Reg.TRN_CTL_ACQ_TIMEOUT)) s.clock = true ∧ s.trn.alignPending = false ∧ s.cfg.phase = .acquiring) ∧
    (∃ (s : State), s.trn.disc = .locked ∧ due s.trn.syncArmed (turnsOfSec 3) s.clock = true) ∧
    (∃ (s : State) (w : Writer), s.inReset = false ∧ s.cfg.state = .shelfIdle) ∧
    (∃ (s : State), due s.trn.reloadArmed (turnsOfSec (s.rd Reg.TRN_CTL_ACQ_TIMEOUT)) s.clock = true ∧ s.trn.alignPending = false) := by
  refine ⟨⟨ptp (some ⟨9, 4, 0, none⟩), 0, 9, 5, none, ⟨1, 2, 3⟩, par, ?_, ?_, ?_, ?_, ?_⟩,
    ⟨ptp (some ⟨9, 4, 0, none⟩), 0, 77, ⟨9, 4, 0, none⟩, ?_, ?_, ?_, ?_⟩,
    ⟨ptp (some ⟨9, 4, 0, some 5⟩), 0, 6, 5, ⟨1, 2, 3⟩, ⟨9, 4, 0, some 5⟩, ?_, ?_, ?_, ?_, ?_⟩,
    ⟨{ ptp none with trn := { (ptp none).trn with parent := none } }, 0, par, ?_, ?_, ?_⟩,
    ⟨{ ph .boot with cfg := { (ph .boot).cfg with phase := .acquiring }, trn := { trnReset with acqArmed := some 0, ticks := 2 ^ 40 } }, ?_, ?_, ?_⟩,
    ⟨{ ph .active with trn := { trnReset with disc := .locked, syncArmed := some 0, ticks := 2 ^ 40 } }, ?_, ?_⟩,
    ⟨ph .shelfIdle, .session, ?_, ?_⟩,
    ⟨{ ph .shelfIdle with trn := { trnReset with reloadArmed := some 0, ticks := 2 ^ 40 } }, ?_, ?_⟩⟩ <;> first | decide | rfl | simp [helloMismatch]

theorem wit_ResetAndBootCommands :
    (∃ (s : State) (ns : Nat), 1000 ≤ ns) ∧
    (∃ (s : State) (obs : ReleaseObs), s.cfg.phase = .held ∧ obs.fuseOk = true ∧ obs.katOk = true ∧ obs.vppFuse = false ∧ s.idn.fuses.fieldsOk = true ∧ Config.edPublic s.idn.fuses.identityKey = s.idn.fuses.certIdPub ∧ obs.forceLow.all id = false) ∧
    (∃ (s : State) (c : ChannelTraining) (cs : List ChannelTraining) (quad : Bool) (k : Nat), s.cfg.phase = .training ∧ (c :: cs).length = 12 ∧ ((∀ x ∈ c :: cs, x.trained = true ∧ x.moduleType = c.moduleType ∧ x.gib = c.gib)) ∧ anyOwner s.idn.fuses = true ∧ s.firstCopy = some k) ∧
    (∃ (s : State) (copy : Nat), copy < 2 ∧ s.cfg.phase = .reading copy false ∧ (s.headerImage (1 - copy)).isSome = true) ∧
    (∃ (s : State) (c : Nat) (fallback : Bool) (i : Image), s.cfg.phase = .reading c fallback ∧ (s.copyOf c).image = some i) ∧
    (∃ (s : State) (i : Image), s.cfg.phase = .starting ∧ s.cfg.running = some i) ∧
    (∃ (s : State) (w : Writer), s.inReset = false ∧ (s.cfg.state = .safeHold ∨ s.cfg.state = .shelfIdle)) ∧
    (∃ (s : State) (rail percent ns : Nat), rail < 3 ∧ s.inReset = false ∧ 10 < percent ∧ 1000 ≤ ns) ∧
    (∃ (s : State) (main a b : Int), s.inReset = false ∧ main < 115 ∧ a < 135 ∧ b < 135) ∧
    (∃ (s : State) (main a b : Int), s.inReset = false ∧ 115 ≤ main ∧ 3 ≤ s.cfg.hotMain) ∧
    (∃ (s : State) (cause : TamperCause), s.inReset = false) := by
  refine ⟨⟨State.reset, 1000, ?_⟩,
    ⟨{ State.reset with idn := { idnReset with fuses := { fusesReset with certIdPub := Config.edPublic fusesReset.identityKey } } }, ⟨[false], true, true, true, false⟩, ?_, ?_, ?_, ?_, ?_, ?_, ?_⟩,
    ⟨bootAt .training, chan, List.replicate 11 chan, true, 1, ?_, ?_, ?_, ?_, ?_⟩,
    ⟨bootAt (.reading 0 false), 0, ?_, ?_, ?_⟩,
    ⟨bootAt (.reading 0 true), 0, true, img, ?_, ?_⟩,
    ⟨{ bootAt .starting with cfg := { (bootAt .starting).cfg with running := some img } }, img, ?_, ?_⟩,
    ⟨ph .shelfIdle, .endpoint, ?_, ?_⟩,
    ⟨ph .active, 2, 11, 1000, ?_, ?_, ?_, ?_⟩,
    ⟨ph .active, 114, 134, -40, ?_, ?_, ?_, ?_⟩,
    ⟨{ ph .active with cfg := { (ph .active).cfg with hotMain := 3 } }, 115, 0, 0, ?_, ?_, ?_⟩,
    ⟨ph .active, .supplyGlitch, ?_⟩⟩ <;> first | decide | rfl | simp [helloMismatch]

theorem wit_UpdateCommands :
    (∃ (s : State) (ctrl cid : Nat) (i : Image) (l : SecLayout), Serves s ctrl (.mgmt (some RoleBit.admin)) ∧ s.cfg.state = .shelfIdle ∧ s.cfg.running = some i ∧ s.layoutSec = some l) ∧
    (∃ (s : State) (ctrl cid : Nat), Serves s ctrl (.mgmt (some RoleBit.admin)) ∧ s.cfg.state = .active ∧ s.cfg.release = none) ∧
    (∃ (s : State) (ctrl cid : Nat), Serves s ctrl (.mgmt (some RoleBit.admin)) ∧ s.cfg.state = .standby) ∧
    (∃ (s : State) (ctrl cid : Nat), s.cfg.release = some (ctrl, cid) ∧ s.cfg.state = .active ∧ s.stragglers = false) ∧
    (∃ (s : State) (ctrl cid slot c offset length : Nat) (image : Option Image), Serves s ctrl (.mgmt (some RoleBit.firmware)) ∧ copyOfSlot slot = some c ∧ ((s.cfg.running.isSome = true → s.cfg.runningCopy ≠ c)) ∧ offset + length ≤ 2 ^ 24 ∧ c < s.cfg.spi.length) ∧
    (∃ (s : State) (ctrl cid slot c : Nat), Serves s ctrl (.mgmt (some RoleBit.firmware)) ∧ copyOfSlot slot = some c ∧ s.cfg.commit = none) ∧
    (∃ (s : State) (ctrl cid slot c action : Nat), Serves s ctrl (.mgmt (some RoleBit.firmware)) ∧ copyOfSlot slot = some c ∧ s.cfg.commit = none ∧ (action = 1 ∨ action = 2)) ∧
    (∃ (s : State) (ctrl cid slot c : Nat), Serves s ctrl (.mgmt (some RoleBit.firmware)) ∧ copyOfSlot slot = some c ∧ s.cfg.commit = none) ∧
    (∃ (s : State) (j : CommitJob), s.cfg.commit = some j ∧ j.action ≠ 3) ∧
    (∃ (s : State) (j : CommitJob), s.cfg.commit = some j) ∧
    (∃ (s : State) (a : Activation), s.cfg.activation = some a ∧ a.step = .holding ∧ ((s.cfg.coreTasks.all fun p => p.2.all fun y => y == (a.job.ctrl, a.job.cid)) = true)) ∧
    (∃ (s : State) (a : Activation) (i : Image), s.cfg.activation = some a ∧ a.step = .restarted ∧ (s.copyOf a.job.copy).image = some i) ∧
    (∃ (s : State) (a : Activation), s.cfg.activation = some a ∧ due a.guard 24415 s.clock = true ∧ (a.step = .holding ∨ a.step = .restarted)) := by
  refine ⟨⟨run .shelfIdle, 7, 3, imgLay, lay, ?_, ?_, ?_, ?_⟩,
    ⟨ph .active, 7, 3, ?_, ?_, ?_⟩,
    ⟨ph .standby, 7, 3, ?_, ?_⟩,
    ⟨{ ph .active with cfg := { (ph .active).cfg with release := some (7, 3) } }, 7, 3, ?_, ?_, ?_⟩,
    ⟨ph .active, 7, 3, 2, 1, 0, 2 ^ 24, none, ?_, ?_, ?_, ?_, ?_⟩,
    ⟨ph .active, 7, 3, 1, 0, ?_, ?_, ?_⟩,
    ⟨ph .active, 7, 3, 2, 1, 2, ?_, ?_, ?_, ?_⟩,
    ⟨ph .active, 7, 3, 2, 1, ?_, ?_, ?_⟩,
    ⟨{ ph .active with cfg := { (ph .active).cfg with commit := some ⟨7, 3, 1, 1⟩ } }, ⟨7, 3, 1, 1⟩, ?_, ?_⟩,
    ⟨{ ph .active with cfg := { (ph .active).cfg with commit := some ⟨7, 3, 1, 1⟩ } }, ⟨7, 3, 1, 1⟩, ?_⟩,
    ⟨actAt .holding none, act .holding none, ?_, ?_, ?_⟩,
    ⟨{ actAt .restarted none with cfg := { (actAt .restarted none).cfg with spi := [SpiCopy.erased, { SpiCopy.erased with image := some img }] } }, act .restarted none, img, ?_, ?_, ?_⟩,
    ⟨{ actAt .holding (some 0) with trn := { trnReset with ticks := 24416 } }, act .holding (some 0), ?_, ?_, ?_⟩⟩ <;> first | decide | rfl | simp [helloMismatch]

theorem wit_CoreStagingAndBankCommands :
    (∃ (s : State) (core : Nat), core < 15 ∧ s.cfg.phase = .done ∧ tget s.cfg.watchdogs core = none ∧ tget s.cfg.coreTasks core = none) ∧
    (∃ (s : State) (window block k n : Nat) (b : Blk), s.win.blocks = [(k, b)] ∧ b.window = some (window, block) ∧ b.place = .staged n ∧ due b.hold s.stagingHold s.clock = true ∧ b.owner = none ∧ b.filled < 65536) ∧
    (∃ (s : State) (index : Nat) (words : List Nat), s.inReset = false ∧ index < 262144 ∧ s.bankBit .windows BankBit.commit = false) ∧
    (∃ (s : State) (index : Nat) (words : List Nat), s.inReset = false ∧ index < 4096 ∧ s.bankBit .handles BankBit.commit = false) ∧
    (∃ (s : State) (w : Writer) (p index : Nat) (words : List Nat) (g : GateList), p < 8 ∧ s.inReset = false ∧ (w ≠ .endpoint ∨ s.cfg.state ≠ .safeHold) ∧ index < 256 ∧ s.sch.gates[p]? = some g ∧ s.bankBit (.gates p) BankBit.commit = false) ∧
    (∃ (s : State) (index : Nat) (words : List Nat), s.inReset = false ∧ index < 24840 ∧ paramOk index words = true ∧ s.bankBit .params BankBit.commit = false) ∧
    (∃ (s : State) (index : Nat) (words : List Nat), s.inReset = false ∧ index < 8 ∧ s.bankBit .masks BankBit.commit = false) ∧
    (∃ (s : State) (b : BankId) (index : Nat) (words : List Nat), bankUnit b < 8 ∧ s.inReset = false ∧ s.bankBit b BankBit.commit = true) ∧
    (∃ (s : State) (b : BankId), bankUnit b < 8 ∧ s.inReset = false ∧ s.bankBit b BankBit.commit = false ∧ (bankTimed b = false ∨ s.bankBit b BankBit.timed = false)) ∧
    (∃ (s : State) (b : BankId), bankUnit b < 8 ∧ s.inReset = false ∧ s.bankBit b BankBit.commit = true) := by
  refine ⟨⟨ph .shelfIdle, 3, ?_, ?_, ?_, ?_⟩,
    ⟨{ ph .active with win := { winReset with blocks := [(9, { Blk.fresh (some (4, 2)) (.staged 0) (some 0) with filled := 5 })] }, trn := { trnReset with ticks := 40 } }, 4, 2, 9, 0, _, by first | decide | rfl | simp [helloMismatch], by first | decide | rfl | simp [helloMismatch], by first | decide | rfl | simp [helloMismatch], by first | decide | rfl | simp [helloMismatch], by first | decide | rfl | simp [helloMismatch], by first | decide | rfl | simp [helloMismatch]⟩,
    ⟨ph .active, 262143, [1, 7], ?_, ?_, ?_⟩,
    ⟨ph .active, 4095, [1, 2, 3], ?_, ?_, ?_⟩,
    ⟨ph .active, .session, 7, 255, [5], GateList.allOpen, ?_, ?_, ?_, ?_, ?_, ?_⟩,
    ⟨ph .active, 24839, [0, 0, 0, 0, 0, 0, 0, 0], ?_, ?_, ?_, ?_⟩,
    ⟨ph .active, 7, [65536], ?_, ?_, ?_⟩,
    ⟨(ph .active).setBankBit .masks BankBit.commit true, .masks, 1, [1], ?_, ?_, ?_⟩,
    ⟨ph .active, .gates 7, ?_, ?_, ?_, ?_⟩,
    ⟨(ph .active).setBankBit (.gates 7) BankBit.commit true, .gates 7, ?_, ?_, ?_⟩⟩ <;> first | decide | rfl | simp [helloMismatch]

theorem wit_IdentityCommands :
    (∃ (s : State) (w : Writer), s.inReset = false ∧ s.cfg.state = .safeHold ∧ s.idn.job = none ∧ s.idn.vppFuse = true ∧ s.owner (s.rd Reg.IDN_ENROL_CTL_SLOT) = OwnerFuse.blank ∧ s.words Reg.IDN_ENROL_SECRET 0 8 ≠ 0) ∧
    (∃ (s : State) (w : Writer), s.inReset = false ∧ s.cfg.state = .safeHold ∧ s.idn.job = none ∧ (s.owner (s.rd Reg.IDN_ENROL_CTL_SLOT)).usable = true ∧ Config.shake256 (leBytes 57 (s.words Reg.IDN_ENROL_KEY 0 16 % 2 ^ 456)) 64 = (s.owner (s.rd Reg.IDN_ENROL_CTL_SLOT)).digest) ∧
    (∃ (s : State) (slot digest secret : Nat), s.idn.job = some (.enrol slot digest secret) ∧ s.idn.vppFuse = true) ∧
    (∃ (s : State) (target ctrl cid : Nat), s.idn.job = some (.svn target ctrl cid) ∧ s.idn.vppFuse = true) ∧
    (∃ (s : State) (ctrl cid : Nat) (i : Image), Serves s ctrl (.mgmt (some RoleBit.firmware)) ∧ s.cfg.running = some i ∧ ((i.fw).map FwPackage.svn).getD 0 ≤ s.idn.fuses.svnFloor) ∧
    (∃ (s : State) (ctrl cid a b : Nat) (i : Image) (f : FwPackage), Serves s ctrl (.mgmt (some RoleBit.firmware)) ∧ s.cfg.running = some i ∧ i.fw = some f ∧ s.idn.fuses.svnFloor < f.svn ∧ s.copySvn 0 = some a ∧ s.copySvn 1 = some b ∧ f.svn ≤ a ∧ f.svn ≤ b ∧ s.idn.job = none) ∧
    (∃ (s : State) (ctrl cid nonce : Nat), Serves s ctrl (.mgmt none) ∧ nonce ≠ 0 ∧ s.idn.quotes.length < 8 ∧ s.idn.keyReady = true) ∧
    (∃ (s : State) (q : Quote) (rest : List Quote) (body : List Nat), s.idn.quotes = q :: rest ∧ q.sampled = some body ∧ s.idn.keyReady = true) := by
  refine ⟨⟨(({ ph .safeHold with idn := { idnReset with vppFuse := true } } : State).wr Reg.IDN_ENROL_CTL_SLOT 0 0 3).wr Reg.IDN_ENROL_SECRET 0 7 1, .session, ?_, ?_, ?_, ?_, ?_, ?_⟩,
    ⟨{ ph .safeHold with idn := { idnReset with fuses := { fusesReset with owners := [{ OwnerFuse.blank with digest := Config.shake256 (leBytes 57 0) 64, enrolled := true, enrolCommit := true }] } } }, .core, ?_, ?_, ?_, ?_, ?_⟩,
    ⟨{ ph .safeHold with idn := { idnReset with vppFuse := true, job := some (.enrol 2 5 6) } }, 2, 5, 6, ?_, ?_⟩,
    ⟨{ ph .active with idn := { idnReset with vppFuse := true, job := some (.svn 9 7 3) } }, 9, 7, 3, ?_, ?_⟩,
    ⟨{ ph .active with cfg := { (ph .active).cfg with running := some img } }, 7, 3, img, ?_, ?_, ?_⟩,
    ⟨{ ph .active with cfg := { (ph .active).cfg with running := some (imgFw 4), spi := [copyFw 4, copyFw 5] } }, 7, 3, 4, 5, imgFw 4, fwPkg 4, ?_, ?_, ?_, ?_, ?_, ?_, ?_, ?_, ?_⟩,
    ⟨{ ph .active with idn := { idnReset with keyReady := true } }, 7, 3, 1, ?_, ?_, ?_, ?_⟩,
    ⟨{ ph .active with idn := { idnReset with keyReady := true, quotes := [⟨7, 3, 1, some [5]⟩] } }, ⟨7, 3, 1, some [5]⟩, [], [5], ?_, ?_, ?_⟩⟩ <;> first | decide | rfl | simp [helloMismatch]

theorem wit_LinkCommands :
    (∃ (s : State) (unit : Nat), s.unitOn unit = true ∧ (s.link unit).st = .an) ∧
    (∃ (s : State) (unit : Nat), s.unitOn unit = true ∧ (s.link unit).st = .training) ∧
    (∃ (s : State) (unit : Nat), s.unitOn unit = true ∧ (s.link unit).st = .training ∧ due (s.link unit).trainArmed (turnsOfSec 3) s.clock = true) ∧
    (∃ (s : State) (unit : Nat), s.unitOn unit = true ∧ (s.link unit).st = .align) ∧
    (∃ (s : State) (unit : Nat), s.unitOn unit = true ∧ (s.link unit).st = .align ∧ due (s.link unit).alignArmed (turnsOfMs 100) s.clock = true) ∧
    (∃ (s : State) (unit : Nat), s.unitOn unit = true ∧ unit < 16 ∧ (s.link unit).st = .qualify ∧ due (s.link unit).qualArmed 48829 s.clock = true) ∧
    (∃ (s : State) (unit : Nat), s.unitOn unit = true ∧ (s.link unit).st = .qualify) ∧
    (∃ (s : State) (unit : Nat), s.unitOn unit = true ∧ (s.link unit).st = .up ∧ (s.link unit).lossArmed = none) ∧
    (∃ (s : State) (unit : Nat), s.unitOn unit = true ∧ unit < 16 ∧ (s.link unit).st = .up ∧ due (s.link unit).lossArmed 4883 s.clock = true) ∧
    (∃ (s : State) (unit : Nat), s.unitOn unit = true ∧ (s.link unit).st = .an ∧ due (s.link unit).negArmed (turnsOfSec 10) s.clock = true ∧ tget s.evt.lastTurn (Ev.linkNegotiationFailed * 2 ^ 32 + unit) = none) ∧
    (∃ (s : State) (unit : Nat) (remote : Bool), s.unitOn unit = true ∧ (s.link unit).st = .up) ∧
    (∃ (s : State) (unit corrected uncorrectable : Nat), s.unitOn unit = true ∧ s.networkSec = none) := by
  refine ⟨⟨linkAt 0 { Link.off with st := .an }, 0, ?_, ?_⟩,
    ⟨linkAt 17 { Link.off with st := .training }, 17, ?_, ?_⟩,
    ⟨linkAt 15 { Link.off with st := .training, trainArmed := some 0 }, 15, ?_, ?_, ?_⟩,
    ⟨linkAt 15 { Link.off with st := .align }, 15, ?_, ?_⟩,
    ⟨linkAt 15 { Link.off with st := .align, alignArmed := some 0 }, 15, ?_, ?_, ?_⟩,
    ⟨linkAt 15 { Link.off with st := .qualify, qualArmed := some 0 }, 15, ?_, ?_, ?_, ?_⟩,
    ⟨linkAt 16 { Link.off with st := .qualify }, 16, ?_, ?_⟩,
    ⟨linkAt 16 { Link.off with st := .up }, 16, ?_, ?_, ?_⟩,
    ⟨linkAt 15 { Link.off with st := .up, lossArmed := some 0 }, 15, ?_, ?_, ?_, ?_⟩,
    ⟨linkAt 15 { Link.off with st := .an, negArmed := some 0 }, 15, ?_, ?_, ?_, ?_⟩,
    ⟨linkAt 17 { Link.off with st := .up }, 17, true, ?_, ?_⟩,
    ⟨ph .active, 17, 3, 17, ?_, ?_⟩⟩ <;> first | decide | rfl | simp [helloMismatch]

theorem wit_FrameCommands :
    (∃ (s : State) (unit reason : Nat) (f : Frame), s.unitOn unit = true ∧ unit < 16 ∧ (s.link unit).st = .up ∧ s.frameFault unit f = some reason ∧ s.rd Reg.ETH_DROP unit (reason - 1) = 0) ∧
    (∃ (s : State) (unit : Nat) (f : Frame), s.unitOn unit = true ∧ unit < 16 ∧ (s.link unit).st = .up ∧ s.frameFault unit f = none) ∧
    (∃ (s : State) (unit reason : Nat) (f : Frame), s.unitOn unit = true ∧ 16 ≤ unit ∧ (s.link unit).st = .up ∧ s.peerFault unit f = some reason) ∧
    (∃ (s : State) (unit mac ip : Nat), s.unitOn unit = true ∧ s.linkPasses unit = true ∧ ip ≠ (s.ownAddr unit).2.1 ∧ (s.link unit).answered < 16) ∧
    (∃ (s : State) (unit mac : Nat), s.unitOn unit = true ∧ s.linkPasses unit = true ∧ mac ≠ (s.ownAddr unit).1) ∧
    (∃ (s : State) (unit mac ip : Nat), s.unitOn unit = true ∧ s.linkPasses unit = true ∧ (s.link unit).answered < 16) ∧
    (∃ (s : State) (unit mac : Nat), s.unitOn unit = true ∧ s.linkPasses unit = true ∧ mac ≠ (s.ownAddr unit).1) ∧
    (∃ (s : State) (unit : Nat), s.unitOn unit = true ∧ s.inReset = false) := by
  refine ⟨⟨linkAt 15 { Link.off with st := .up }, 15, 4, { frm with fcsOk := false }, ?_, ?_, ?_, ?_, ?_⟩,
    ⟨linkAt 15 { Link.off with st := .up }, 15, frm, ?_, ?_, ?_, ?_⟩,
    ⟨linkAt 17 { Link.off with st := .up }, 17, 8, frm, ?_, ?_, ?_, ?_⟩,
    ⟨linkAt 15 { Link.off with st := .qualify }, 15, 5, 6, ?_, ?_, ?_, ?_⟩,
    ⟨linkAt 15 { Link.off with st := .qualify }, 15, 5, ?_, ?_, ?_⟩,
    ⟨linkAt 15 { Link.off with st := .qualify }, 15, 5, 6, ?_, ?_, ?_⟩,
    ⟨linkAt 15 { Link.off with st := .qualify }, 15, 5, ?_, ?_, ?_⟩,
    ⟨ph .active, 17, ?_, ?_⟩⟩ <;> first | decide | rfl | simp [helloMismatch]

theorem wit_PacketCommands :
    (∃ (s : State) (p : Pkt) (pos : PktPos) (imm : Option Nat) (i : Nat) (q : Qp), Arrives s p i q ∧ q.st = .rts ∧ p.psn = q.epsn ∧ s.roleLevel 2 ≠ 3 ∧ (s.alloc 2 0 3).isSome = true ∧ p.ackReq = true) ∧
    (∃ (s : State) (p : Pkt) (pos : PktPos) (rkey va : Nat) (imm : Option Nat) (l : List Byte) (i : Nat) (q : Qp) (e : BlockEnt), Arrives s p i q ∧ q.st = .rts ∧ p.psn = q.epsn ∧ (s.windowAt (keyIndex rkey) s.now).fault q rkey va l.length true = none ∧ (s.windowAt (keyIndex rkey) s.now).buffer = true ∧ (tgetD s.win.lists (keyIndex rkey) [])[va / 65536]? = some e ∧ va % 65536 + l.length ≤ 65536 ∧ l ≠ []) ∧
    (∃ (s : State) (p : Pkt) (rkey va length i : Nat) (q : Qp), Arrives s p i q ∧ q.st = .rts ∧ p.psn = q.epsn ∧ (s.windowAt (keyIndex rkey) s.now).fault q rkey va length false = none) ∧
    (∃ (s : State) (p : Pkt) (pos : PktPos) (l : List Byte) (i : Nat) (q : Qp) (e : SqEntry) (tag left : Nat) (more : List (Nat × Nat)), Arrives s p i q ∧ q.oldestRead = some e ∧ q.reads = (tag, left) :: more ∧ q.pmtu ≠ 0 ∧ p.psn = psnAdd (q.firstPsn e) ((e.wqe.length - left) / q.pmtu) ∧ l ≠ [] ∧ l.length < left) ∧
    (∃ (s : State) (p : Pkt) (i : Nat) (q : Qp), Arrives s p i q ∧ q.st = .rts ∧ p.psn = q.epsn ∧ q.nakSent = false) ∧
    (∃ (s : State) (qpn psn i : Nat) (rx tx : Stamp) (q : Qp), Reaches s qpn i q ∧ q.inFlight psn = true ∧ q.oldestRead = none) ∧
    (∃ (s : State) (qpn psn i : Nat) (q : Qp), Reaches s qpn i q ∧ q.inFlight psn = true ∧ q.oldestRead = none ∧ q.retriesLeft ≠ 0 ∧ q.retryCnt ≠ 0) ∧
    (∃ (s : State) (qpn wait i : Nat) (q : Qp), Reaches s qpn i q ∧ q.inFlight q.unaPsn = true ∧ q.oldestRead = none ∧ q.unaPsn < 2 ^ 24 ∧ q.rnrLeft ≠ 0 ∧ q.rnrRetry ≠ 7) ∧
    (∃ (s : State) (qpn i : Nat) (q : Qp), Reaches s qpn i q) ∧
    (∃ (s : State) (qpn i : Nat) (q : Qp), s.inReset = false ∧ s.indexOfQpn qpn = some i ∧ s.qp? i = some q ∧ s.carries q.unit = true ∧ s.geckoHit i = false ∧ s.xpt.missBuf.length < 512) ∧
    (∃ (s : State) (i qpn turn : Nat) (q : Qp), s.xpt.fetches.contains i = true ∧ s.xpt.missBuf = [⟨i, turn, .cnpRx qpn⟩] ∧ s.qp? i = some q) := by
  refine ⟨⟨qpUp { qp0 with epsn := 9 }, pkt, .only, none, 5, { qp0 with epsn := 9 }, ?_, ?_, ?_, ?_, ?_, ?_⟩,
    ⟨winUp { qp0 with epsn := 9 }, pkt, .only, 3, 65535, none, [7], 5, { qp0 with epsn := 9 }, ⟨4, false, false⟩, ?_, ?_, ?_, ?_, ?_, ?_, ?_, ?_⟩,
    ⟨winUp { qp0 with epsn := 9 }, pkt, 3, 65536, 65536, 5, { qp0 with epsn := 9 }, ?_, ?_, ?_, ?_⟩,
    ⟨qpUp { qp0 with sq := [sqRead], reads := [(1, 3000)], sqPsn := 12, unaPsn := 9 }, { pkt with psn := 10 }, .middle, [1, 2], 5, { qp0 with sq := [sqRead], reads := [(1, 3000)], sqPsn := 12, unaPsn := 9 }, sqRead, 1, 3000, [], ?_, ?_, ?_, ?_, ?_, ?_, ?_⟩,
    ⟨qpUp { qp0 with epsn := 9 }, pkt, 5, { qp0 with epsn := 9 }, ?_, ?_, ?_, ?_⟩,
    ⟨qpUp { qp0 with sqPsn := 12, unaPsn := 2 ^ 24 - 1 }, qpnOf 2 5, 11, 5, ⟨0, 0, 0⟩, ⟨0, 0, 0⟩, { qp0 with sqPsn := 12, unaPsn := 2 ^ 24 - 1 }, ?_, ?_, ?_⟩,
    ⟨qpUp { qp0 with sqPsn := 12, unaPsn := 9 }, qpnOf 2 5, 11, 5, { qp0 with sqPsn := 12, unaPsn := 9 }, ?_, ?_, ?_, ?_, ?_⟩,
    ⟨qpUp { qp0 with sqPsn := 12, unaPsn := 9 }, qpnOf 2 5, 3, 5, { qp0 with sqPsn := 12, unaPsn := 9 }, ?_, ?_, ?_, ?_, ?_, ?_⟩,
    ⟨qpUp qp0, qpnOf 2 5, 5, qp0, ?_⟩,
    ⟨{ qpUp qp0 with xpt := { (qpUp qp0).xpt with gecko := [] } }, qpnOf 2 5, 5, qp0, ?_, ?_, ?_, ?_, ?_, ?_⟩,
    ⟨{ qpUp qp0 with xpt := { (qpUp qp0).xpt with gecko := [], fetches := [5], missBuf := [⟨5, 0, .cnpRx 7⟩] } }, 5, 7, 0, qp0, ?_, ?_, ?_⟩⟩ <;> first | decide | rfl | simp [helloMismatch]

theorem wit_QueuePairCommands :
    (∃ (s : State) (i : Nat) (q : Qp), s.qp? i = some q ∧ due q.ackArmed (2 ^ (q.ackT + 1)) s.clock = true ∧ q.unaPsn ≠ q.sqPsn ∧ q.retriesLeft ≠ 0) ∧
    (∃ (s : State) (i a wait : Nat) (q : Qp), s.qp? i = some q ∧ q.rnrWait = some (a, wait) ∧ expired a wait s.clock = true) ∧
    (∃ (s : State) (i : Nat) (w : Wqe) (q : Qp), s.inReset = false ∧ s.qp? i = some q ∧ q.st = .rtr ∧ s.wqeFault q { w with flags := w.flags % 32 } = none) ∧
    (∃ (s : State) (i : Nat) (w : Wqe) (q : Qp), s.inReset = false ∧ s.qp? i = some q ∧ q.st = .rts ∧ q.rnrWait = none ∧ q.sq = [] ∧ w.opcode < 4 ∧ w.flags = 0 ∧ s.wqeWindowOk q w = true ∧ q.inflight + w.length ≤ q.cwnd ∧ w.length ≤ 2 ^ 31) ∧
    (∃ (s : State) (i : Nat) (q : Qp) (e : SqEntry), s.qp? i = some q ∧ q.sq = [e] ∧ e.started = false ∧ bitOf e.wqe.flags 0 = true ∧ due e.headTurn e.wqe.trigTimeout s.clock = true) ∧
    (∃ (s : State) (w : Writer), s.inReset = false ∧ w ≠ .endpoint) ∧
    (∃ (s : State) (w : Writer) (q : Qp), s.inReset = false ∧ w ≠ .endpoint ∧ s.qp? (s.rd (Reg.XPT_QP_SEL.forWriter w)) = some q) ∧
    (∃ (s : State), s.inReset = false) := by
  refine ⟨⟨qpUp { qp0 with sqPsn := 12, unaPsn := 9, ackArmed := some 0 }, 5, { qp0 with sqPsn := 12, unaPsn := 9, ackArmed := some 0 }, ?_, ?_, ?_, ?_⟩,
    ⟨qpUp { qp0 with rnrWait := some (0, 3) }, 5, 0, 3, { qp0 with rnrWait := some (0, 3) }, ?_, ?_, ?_⟩,
    ⟨qpUp { qp0 with st := .rtr }, 5, wqe0, { qp0 with st := .rtr }, ?_, ?_, ?_, ?_⟩,
    ⟨winUp qp0, 5, { wqe0 with window := 3 }, qp0, ?_, ?_, ?_, ?_, ?_, ?_, ?_, ?_, ?_, ?_⟩,
    ⟨qpUp { qp0 with sq := [sqTrig] }, 5, { qp0 with sq := [sqTrig] }, sqTrig, ?_, ?_, ?_, ?_, ?_⟩,
    ⟨ph .active, .session, ?_, ?_⟩,
    ⟨(qpUp qp0).wr (Reg.XPT_QP_SEL.forWriter .core) 0 0 5, .core, qp0, ?_, ?_, ?_⟩,
    ⟨ph .active, ?_⟩⟩ <;> first | decide | rfl | simp [helloMismatch]

theorem wit_ConnectionCommands :
    (∃ (s : State) (r : CmReq), r.host.unit < 16 ∧ s.unitOn r.host.unit = true ∧ s.carries r.host.unit = true ∧ 3 ≤ r.service) ∧
    (∃ (s : State) (r : CmReq) (i : Nat), r.host.unit < 16 ∧ s.unitOn r.host.unit = true ∧ s.carries r.host.unit = true ∧ r.service < 3 ∧ s.cfg.state.accepts r.service = true ∧ r.requestOk = true ∧ s.qpsOfHost r.host < s.qpPerHost ∧ s.freeQp = some i ∧ r.responderResources ≤ 16 ∧ (s.takeHandle r.host).isSome = true) ∧
    (∃ (s : State) (i remoteQpn psn granted : Nat) (q : Qp), s.qp? i = some q ∧ s.carries q.unit = true ∧ q.opening = true) ∧
    (∃ (s : State) (i : Nat) (q : Qp), s.qp? i = some q ∧ s.carries q.unit = true ∧ q.st = .rtr ∧ q.initiated = false) ∧
    (∃ (s : State) (i reason : Nat) (q : Qp), s.qp? i = some q ∧ s.carries q.unit = true ∧ q.opening = true) ∧
    (∃ (s : State) (i timeout : Nat) (q : Qp), s.qp? i = some q ∧ s.carries q.unit = true ∧ q.opening = true) ∧
    (∃ (s : State) (i : Nat) (q : Qp), s.qp? i = some q ∧ s.carries q.unit = true ∧ q.st = .rts) ∧
    (∃ (s : State) (i : Nat) (q : Qp), s.qp? i = some q ∧ s.carries q.unit = true ∧ q.st = .timewait) ∧
    (∃ (s : State) (i : Nat) (q : Qp), s.qp? i = some q ∧ s.carries q.unit = true ∧ q.drained = true) ∧
    (∃ (s : State) (dest : HostAddr) (tenant i : Nat), dest.unit < 16 ∧ s.unitOn dest.unit = true ∧ s.cfg.state.accepts 2 = true ∧ s.freeQp = some i ∧ (s.takeHandle dest).isSome = true) ∧
    (∃ (s : State) (i : Nat) (q : Qp), s.qp? i = some q ∧ q.opening = true ∧ due q.connectArmed (turnsOfMs 500) s.clock = true ∧ q.attempts < 4) ∧
    (∃ (s : State) (i : Nat) (q : Qp), s.qp? i = some q ∧ q.repPending = true ∧ due q.mraArmed (turnsOfMs 1) s.clock = true) ∧
    (∃ (s : State) (i : Nat) (q : Qp), s.qp? i = some q ∧ q.drained = true) ∧
    (∃ (s : State) (i : Nat) (q : Qp), s.qp? i = some q ∧ q.st = .draining ∧ due q.drainArmed (2 ^ (q.ackT + 1)) s.clock = true) ∧
    (∃ (s : State) (i : Nat) (q : Qp), s.qp? i = some q ∧ q.st = .timewait ∧ due q.timewaitArmed (2 ^ (q.ackT + 2)) s.clock = true) := by
  refine ⟨⟨qpUp qp0, { req0 with service := 3 }, ?_, ?_, ?_, ?_⟩,
    ⟨qpUp qp0, req0, 0, ?_, ?_, ?_, ?_, ?_, ?_, ?_, ?_, ?_, ?_⟩,
    ⟨qpUp { qp0 with st := .init, initiated := true, attempts := 1 }, 5, 4, 3, 3, { qp0 with st := .init, initiated := true, attempts := 1 }, ?_, ?_, ?_⟩,
    ⟨qpUp { qp0 with st := .rtr }, 5, { qp0 with st := .rtr }, ?_, ?_, ?_, ?_⟩,
    ⟨qpUp { qp0 with st := .init, initiated := true, attempts := 1 }, 5, 4, { qp0 with st := .init, initiated := true, attempts := 1 }, ?_, ?_, ?_⟩,
    ⟨qpUp { qp0 with st := .init, initiated := true, attempts := 1 }, 5, 4, { qp0 with st := .init, initiated := true, attempts := 1 }, ?_, ?_, ?_⟩,
    ⟨qpUp qp0, 5, qp0, ?_, ?_, ?_⟩,
    ⟨qpUp { qp0 with st := .timewait }, 5, { qp0 with st := .timewait }, ?_, ?_, ?_⟩,
    ⟨qpUp { qp0 with st := .draining }, 5, { qp0 with st := .draining }, ?_, ?_, ?_⟩,
    ⟨qpUp qp0, ⟨4, 5, 1⟩, 0, 0, ?_, ?_, ?_, ?_, ?_⟩,
    ⟨qpUp { qp0 with st := .init, initiated := true, attempts := 3, connectArmed := some 0 }, 5, { qp0 with st := .init, initiated := true, attempts := 3, connectArmed := some 0 }, ?_, ?_, ?_, ?_⟩,
    ⟨qpUp { qp0 with repPending := true, mraArmed := some 0 }, 5, { qp0 with repPending := true, mraArmed := some 0 }, ?_, ?_, ?_⟩,
    ⟨qpUp { qp0 with st := .draining }, 5, { qp0 with st := .draining }, ?_, ?_⟩,
    ⟨qpUp { qp0 with st := .draining, drainArmed := some 0 }, 5, { qp0 with st := .draining, drainArmed := some 0 }, ?_, ?_, ?_⟩,
    ⟨qpUp { qp0 with st := .timewait, timewaitArmed := some 0 }, 5, { qp0 with st := .timewait, timewaitArmed := some 0 }, ?_, ?_, ?_⟩⟩ <;> first | decide | rfl | simp [helloMismatch]

theorem wit_WindowCommands :
    (∃ (s : State) (ctrl cid qp length w : Nat) (remoteW remoteR bind : Bool) (q : Qp), Serves s ctrl .hostOnly ∧ s.qp? qp = some q ∧ length ≠ 0 ∧ length ≤ 2 ^ s.rd Reg.WIN_CFG_WIN_MAX_LEN ∧ ((s.openWindows.filter fun x => (s.windowNewest x).handle == q.handle).length < s.rd Reg.WIN_CFG_WIN_PER_HOST) ∧ s.cfg.state = .active ∧ (tfree ((s.usedWindows).map fun x => (x, ())) 0 262144 = some w) ∧ s.sch.inLevel < 2 ∧ (s.allocMany 0 1 0 length).isSome = true) ∧
    (∃ (s : State) (ctrl cid qp nsid length w : Nat) (bind : Bool) (q : Qp) (n : Ns), Serves s ctrl .hostOnly ∧ s.qp? qp = some q ∧ length ≠ 0 ∧ length ≤ 2 ^ s.rd Reg.WIN_CFG_WIN_MAX_LEN ∧ s.attached ctrl nsid = some n ∧ n.type ≠ 2 ∧ ((s.openWindows.filter fun x => (s.windowNewest x).handle == q.handle).length < s.rd Reg.WIN_CFG_WIN_PER_HOST) ∧ s.cfg.state = .active ∧ (tfree ((s.usedWindows).map fun x => (x, ())) 0 262144 = some w) ∧ s.sch.inLevel < 2 ∧ (s.allocMany 0 1 0 length).isSome = true) ∧
    (∃ (s : State) (ctrl cid key : Nat), Serves s ctrl .hostOnly ∧ (s.windowNewest (keyIndex key)).st = .isOpen ∧ keyTagOf key = (s.windowNewest (keyIndex key)).keyTag ∧ s.ctrlHandle ctrl = some (s.windowNewest (keyIndex key)).handle) ∧
    (∃ (s : State) (w turn ctrl cid : Nat), s.win.revokes = [⟨w, turn, some (ctrl, cid)⟩] ∧ ((s.xpt.missBuf.any fun p => decide (p.turn < turn)) = false)) ∧
    (∃ (s : State) (wr : Writer), s.inReset = false ∧ wr ≠ .endpoint) ∧
    (∃ (s : State), s.inReset = false) := by
  refine ⟨⟨hostUp, 8, 3, 5, 2, 0, true, true, true, { qp0 with handle := 1 }, ?_, ?_, ?_, ?_, ?_, ?_, ?_, ?_, ?_⟩,
    ⟨hostUp, 8, 3, 5, 1, 2, 0, true, { qp0 with handle := 1 }, ⟨0, 4096, 4096, 0⟩, ?_, ?_, ?_, ?_, ?_, ?_, ?_, ?_, ?_, ?_, ?_⟩,
    ⟨{ hostUp with win := { winReset with table := { Banked.empty with act := [(3, { WinDesc.free with st := .isOpen, keyTag := 9, handle := 1 })] } } }, 8, 3, 9 * 2 ^ 18 + 3, ?_, ?_, ?_, ?_⟩,
    ⟨{ hostUp with win := { winReset with revokes := [⟨3, 4, some (8, 3)⟩], lists := [(3, [])] } }, 3, 4, 8, 3, ?_, ?_⟩,
    ⟨({ hostUp with win := { winReset with table := { Banked.empty with act := [(3, { WinDesc.free with st := .isOpen, keyTag := 9, handle := 1 })] } } } : State).wr (Reg.WIN_SEL.forWriter .session) 0 0 3, .session, ?_, ?_⟩,
    ⟨hostUp, ?_⟩⟩ <;> first | decide | rfl | simp [helloMismatch]

theorem wit_SchedulingCommands :
    (∃ (s : State) (unit pip : Nat) (f : EgressFrame) (l : List EgressFrame), unit < 16 ∧ s.unitOn unit = true ∧ (s.link unit).st = .up ∧ f.control = true) ∧
    (∃ (s : State) (unit pip : Nat) (f : EgressFrame) (q : Qp), unit < 16 ∧ s.unitOn unit = true ∧ (s.link unit).st = .up ∧ f.control = false ∧ s.qp? f.qp = some q ∧ 0 < s.bucket (portEntry unit) (s.portBucket unit 0) ∧ 0 < s.bucket (queueOfQp q.handle q.service) 0 ∧ 0 < s.bucket (s.nodeOf (queueOfQp q.handle q.service) unit) 0 ∧ s.gateOpen unit (s.groupOf (s.nodeOf (queueOfQp q.handle q.service) unit)) pip = true) ∧
    (∃ (s : State) (qp unit seq length va rkey n : Nat) (q : Qp) (e : CmdEnt), unit < 16 ∧ s.unitOn unit = true ∧ s.qp? qp = some q ∧ s.entry seq = some e ∧ e.data = .keyed va rkey n ∧ e.kind = .tallyWrite ∧ e.admitted = true ∧ e.io.qp = qp ∧ q.st = .rts ∧ q.unit = unit ∧ s.carries unit = true ∧ 0 < length ∧ e.pulled + length ≤ e.io.nlb * 4160 ∧ q.inflight + length ≤ q.cwnd ∧ s.mayPull q unit = true) ∧
    (∃ (s : State) (qp unit seq length va rkey n : Nat) (q : Qp) (e : CmdEnt), unit < 16 ∧ s.unitOn unit = true ∧ s.qp? qp = some q ∧ s.entry seq = some e ∧ e.data = .keyed va rkey n ∧ (e.kind = .write ∨ e.kind = .zoneAppend) ∧ e.admitted = true ∧ e.io.qp = qp ∧ q.st = .rts ∧ q.unit = unit ∧ s.carries unit = true ∧ 0 < length ∧ e.pulled + length ≤ e.io.nlb * 4096 ∧ q.inflight + length ≤ q.cwnd ∧ s.mayPull q unit = true ∧ (s.ownBlocks seq e.io.nsid (blockParts (e.firstLba * 4096) (e.firstLba * 4096 + e.io.nlb * 4096) (e.firstLba * 4096 + e.pulled) (e.firstLba * 4096 + e.pulled + length))).isSome = true) ∧
    (∃ (s : State) (b : Nat), s.sch.blackSince = some b ∧ s.sch.heldArmed = none ∧ b + 1024 ≤ s.clock) ∧
    (∃ (s : State), s.inReset = false ∧ s.bankBit .params BankBit.commit = false ∧ s.rd (Reg.SCH_PARAM_SEL.forWriter .core) < 24840 ∧ (paramOk (s.rd (Reg.SCH_PARAM_SEL.forWriter .core)) ((List.range 8).map fun k => s.rd (Reg.SCH_PARAM_DATA.forWriter .core) 0 k) = true)) ∧
    (∃ (s : State) (w : Writer), s.inReset = false ∧ w ≠ .endpoint) ∧
    (∃ (s : State) (w : Writer), s.inReset = false ∧ w ≠ .endpoint) := by
  refine ⟨⟨hostUp, 0, 0, ⟨true, 9, 64⟩, [], ?_, ?_, ?_, ?_⟩,
    ⟨tokUp, 0, 0, ⟨false, 5, 64⟩, qp0, ?_, ?_, ?_, ?_, ?_, ?_, ?_, ?_, ?_⟩,
    ⟨{ tokUp with cmd := { tokUp.cmd with entries := [(4, { ent0 with kind := .tallyWrite })] } }, 5, 0, 4, 4160, 1, 2, 4096, qp0, { ent0 with kind := .tallyWrite }, ?_, ?_, ?_, ?_, ?_, ?_, ?_, ?_, ?_, ?_, ?_, ?_, ?_, ?_, ?_⟩,
    ⟨{ tokUp with cmd := { tokUp.cmd with entries := [(4, ent0)] } }, 5, 0, 4, 4096, 1, 2, 4096, qp0, ent0, ?_, ?_, ?_, ?_, ?_, ?_, ?_, ?_, ?_, ?_, ?_, ?_, ?_, ?_, ?_, ?_⟩,
    ⟨{ ph .active with sch := { schReset with blackSince := some 0 }, trn := { trnReset with ticks := 1024 } }, 0, ?_, ?_, ?_⟩,
    ⟨(ph .active).wr (Reg.SCH_PARAM_SEL.forWriter .core) 0 0 24839, ?_, ?_, ?_, ?_⟩,
    ⟨ph .active, .session, ?_, ?_⟩,
    ⟨tokUp, .core, ?_, ?_⟩⟩ <;> first | decide | rfl | simp [helloMismatch]

theorem wit_FrogspawnCommands :
    (∃ (s : State) (req role cls n i : Nat) (u : State), s.alloc role cls req = some (n, i, u)) ∧
    (∃ (s : State) (req role cls : Nat), s.alloc role cls req = none) ∧
    (∃ (s : State) (req n i : Nat) (buf : BufRef) (d : BufDesc), s.resolveBuf buf = .ok (n, i) ∧ tget s.fsp.descs i = some d ∧ 1 < d.ref) ∧
    (∃ (s : State) (req n i : Nat) (buf : BufRef) (d : BufDesc), s.resolveBuf buf = .ok (n, i) ∧ s.poolOfIndex i = some n ∧ tget s.fsp.descs i = some d ∧ d.ref ≤ 1 ∧ d.next = none) ∧
    (∃ (s : State) (req reason n : Nat) (buf : BufRef), s.resolveBuf buf = .error (reason, n)) ∧
    (∃ (s : State) (req n i : Nat) (buf : BufRef) (d : BufDesc), s.resolveBuf buf = .ok (n, i) ∧ tget s.fsp.descs i = some d ∧ d.ref < 255) ∧
    (∃ (s : State) (req n i : Nat) (buf : BufRef) (d : BufDesc), s.resolveBuf buf = .ok (n, i) ∧ tget s.fsp.descs i = some d ∧ d.ref = 255) ∧
    (∃ (s : State) (n : Nat), n < 16 ∧ (s.pool n).en = true ∧ (s.pool n).cache.length < 256) ∧
    (∃ (s : State) (n : Nat), n < 16 ∧ (s.pool n).en = true ∧ 768 < (s.pool n).cache.length) ∧
    (∃ (s : State), s.inReset = false) := by
  refine ⟨⟨qpUp qp0, 3, 2, 0, 3, 100, _, by first | decide | rfl | simp [helloMismatch]⟩,
    ⟨ph .active, 3, 2, 0, ?_⟩,
    ⟨{ qpUp qp0 with fsp := { (qpUp qp0).fsp with descs := [(100, ⟨2, 0, none⟩)] } }, 3, 3, 100, .index 100, ⟨2, 0, none⟩, ?_, ?_, ?_⟩,
    ⟨{ qpUp qp0 with fsp := { (qpUp qp0).fsp with descs := [(100, ⟨1, 0, none⟩)] } }, 3, 3, 100, .pointer (100 + 3 * 2 ^ 26), ⟨1, 0, none⟩, ?_, ?_, ?_, ?_, ?_⟩,
    ⟨qpUp qp0, 3, 1, 4, .pointer (4 * 2 ^ 26), ?_⟩,
    ⟨{ qpUp qp0 with fsp := { (qpUp qp0).fsp with descs := [(100, ⟨254, 0, none⟩)] } }, 3, 3, 100, .index 100, ⟨254, 0, none⟩, ?_, ?_, ?_⟩,
    ⟨{ qpUp qp0 with fsp := { (qpUp qp0).fsp with descs := [(100, ⟨255, 0, none⟩)] } }, 3, 3, 100, .index 100, ⟨255, 0, none⟩, ?_, ?_, ?_⟩,
    ⟨{ ph .active with fsp := { fspReset with pools := lset fspReset.pools 15 { Pool.off with en := true, count := 9, ring := [(3, 1), (0, 3)] } } }, 15, ?_, ?_, ?_⟩,
    ⟨{ ph .active with fsp := { fspReset with pools := lset fspReset.pools 15 { Pool.off with en := true, count := 9, cache := List.replicate 769 0 } } }, 15, ?_, ?_, ?_⟩,
    ⟨ph .active, ?_⟩⟩ <;> first | decide | rfl | simp [helloMismatch]

theorem wit_ControllerCommands :
    (∃ (s : State) (qp cid hostnqn sqsize kato c : Nat) (q : Qp), s.qp? qp = some q ∧ q.st = .rts ∧ q.service = 1 ∧ s.queueOf qp = none ∧ 2 ≤ sqsize ∧ sqsize ≤ 32 ∧ 1000 ≤ kato ∧ kato ≤ 3600000 ∧ s.freeCtrl = some c) ∧
    (∃ (s : State) (qp cid hostnqn sqsize kato c tenant : Nat) (q : Qp), s.qp? qp = some q ∧ q.st = .rts ∧ q.service ≠ 1 ∧ s.queueOf qp = none ∧ 2 ≤ sqsize ∧ sqsize ≤ 32 ∧ 1000 ≤ kato ∧ kato ≤ 3600000 ∧ s.tenantOfHost hostnqn = some tenant ∧ s.freeCtrl = some c) ∧
    (∃ (s : State) (qp cid ctrl qid sqsize kato : Nat) (q : Qp) (c : Ctrl), s.qp? qp = some q ∧ q.st = .rts ∧ s.queueOf qp = none ∧ s.ctrlOf ctrl = some c ∧ c.mgmt = false ∧ c.ready = true ∧ 1 ≤ qid ∧ qid ≤ c.numQueues.getD 64 ∧ 2 ≤ sqsize ∧ sqsize ≤ 1024 ∧ ((c.queues.any fun x => x.1 == qid) = false)) ∧
    (∃ (s : State) (ctrl cid offset v : Nat) (c : Ctrl), Serves s ctrl .always ∧ s.ctrlOf ctrl = some c ∧ s.property c offset = some v) ∧
    (∃ (s : State) (ctrl cid value : Nat) (c : Ctrl), Serves s ctrl .always ∧ s.ctrlOf ctrl = some c ∧ bitOf value 0 = true ∧ bitsOf value 14 2 = 0) ∧
    (∃ (s : State) (ctrl cid cns nsid csi : Nat) (c : Ctrl) (l : List Nat), Serves s ctrl .always ∧ s.ctrlOf ctrl = some c ∧ [0, 1, 2, 3, 5, 6].contains cns = true ∧ s.identifyData c cns nsid = some l) ∧
    (∃ (s : State) (ctrl cid lid offset dwords : Nat) (c : Ctrl), Serves s ctrl .both ∧ s.ctrlOf ctrl = some c ∧ [1, 2, 3, 4, 5, 6, 0xC, 0xC0].contains lid = true ∧ offset % 4 = 0) ∧
    (∃ (s : State) (ctrl cid qp seq : Nat) (e : CmdEnt), Serves s ctrl .both ∧ s.cmd.entries = [(seq, e)] ∧ e.io.ctrl = ctrl ∧ e.io.qp = qp ∧ e.admitted = false ∧ e.discard = false ∧ e.kind ≠ .reseal) ∧
    (∃ (s : State) (ctrl cid qp target : Nat), Serves s ctrl .both ∧ ((s.cmd.entries.find? fun p => p.2.io.ctrl == ctrl && p.2.io.qp == qp && p.2.io.cid == target && !p.2.admitted) = none)) ∧
    (∃ (s : State) (ctrl cid value : Nat) (c : Ctrl), Serves s ctrl .both ∧ s.ctrlOf ctrl = some c) ∧
    (∃ (s : State) (ctrl cid value : Nat) (c : Ctrl), Serves s ctrl .both ∧ s.ctrlOf ctrl = some c ∧ c.numQueues = none) ∧
    (∃ (s : State) (ctrl cid fid sel v : Nat) (c : Ctrl), Serves s ctrl .both ∧ s.ctrlOf ctrl = some c ∧ s.feature c fid sel = some v) ∧
    (∃ (s : State) (ctrl cid : Nat) (c : Ctrl), Serves s ctrl .both ∧ s.ctrlOf ctrl = some c ∧ c.aers.length < 4 ∧ tget s.evt.queues ctrl = none) ∧
    (∃ (s : State) (ctrl cid : Nat) (c : Ctrl), Serves s ctrl .always ∧ s.ctrlOf ctrl = some c) ∧
    (∃ (s : State) (ctrl : Nat) (c : Ctrl), s.ctrlOf ctrl = some c ∧ isMailbox ctrl = false ∧ expired c.lastKeep c.kato s.clock = true) := by
  refine ⟨⟨{ qpUp { qp0 with service := 1 } with cmd := cmdReset }, 5, 3, 9, 32, 3600000, 1, { qp0 with service := 1 }, ?_, ?_, ?_, ?_, ?_, ?_, ?_, ?_, ?_⟩,
    ⟨{ qpUp qp0 with cmd := cmdReset, cfg := { (ph .active).cfg with running := some imgTenant } }, 5, 3, 9, 2, 1000, 1, 6, qp0, ?_, ?_, ?_, ?_, ?_, ?_, ?_, ?_, ?_, ?_⟩,
    ⟨{ qpUp qp0 with cmd := { cmdReset with ctrls := [(9, { Ctrl.session 4 with mgmt := false })] } }, 5, 3, 9, 64, 1024, 0, qp0, { Ctrl.session 4 with mgmt := false }, ?_, ?_, ?_, ?_, ?_, ?_, ?_, ?_, ?_, ?_, ?_⟩,
    ⟨hostUp, 8, 3, 0x14, 0, { Ctrl.session 4 with mgmt := false, queues := [(0, 5)] }, ?_, ?_, ?_⟩,
    ⟨hostUp, 8, 3, 1, { Ctrl.session 4 with mgmt := false, queues := [(0, 5)] }, ?_, ?_, ?_, ?_⟩,
    ⟨hostUp, 8, 3, 0, 1, 0, { Ctrl.session 4 with mgmt := false, queues := [(0, 5)] }, [4096, 4096, 4096, 0], ?_, ?_, ?_, ?_⟩,
    ⟨hostUp, 8, 3, 0xC0, 4, 2, { Ctrl.session 4 with mgmt := false, queues := [(0, 5)] }, ?_, ?_, ?_, ?_⟩,
    ⟨{ hostUp with cmd := { hostUp.cmd with entries := [(4, { ent0 with admitted := false })] } }, 8, 9, 5, 4, { ent0 with admitted := false }, ?_, ?_, ?_, ?_, ?_, ?_, ?_⟩,
    ⟨hostUp, 8, 3, 5, 3, ?_, ?_⟩,
    ⟨hostUp, 8, 3, 7, { Ctrl.session 4 with mgmt := false, queues := [(0, 5)] }, ?_, ?_⟩,
    ⟨hostUp, 8, 3, 7, { Ctrl.session 4 with mgmt := false, queues := [(0, 5)] }, ?_, ?_, ?_⟩,
    ⟨hostUp, 8, 3, 0xB, 0, 0, { Ctrl.session 4 with mgmt := false, queues := [(0, 5)] }, ?_, ?_, ?_⟩,
    ⟨hostUp, 8, 3, { Ctrl.session 4 with mgmt := false, queues := [(0, 5)] }, ?_, ?_, ?_, ?_⟩,
    ⟨hostUp, 8, 3, { Ctrl.session 4 with mgmt := false, queues := [(0, 5)] }, ?_, ?_⟩,
    ⟨{ hostUp with cmd := { hostUp.cmd with ctrls := [(9, { Ctrl.session 4 with kato := 5 })] } }, 9, { Ctrl.session 4 with kato := 5 }, ?_, ?_, ?_⟩⟩ <;> first | decide | rfl | simp [helloMismatch]

theorem wit_SessionCommands :
    (∃ (s : State) (ctrl cid size : Nat) (n : SecNamespace), Serves s ctrl (.mgmt (some RoleBit.admin)) ∧ s.cfg.state = .active ∧ s.nsSlots = [n] ∧ s.nsOf n.nsid = none ∧ size ≠ 0 ∧ size ≤ n.maxCap) ∧
    (∃ (s : State) (ctrl cid nsid : Nat) (n : Ns), Serves s ctrl (.mgmt (some RoleBit.admin)) ∧ s.cfg.state = .active ∧ s.nsOf nsid = some n) ∧
    (∃ (s : State) (ctrl cid nsid size : Nat) (n : Ns) (c : SecNamespace), Serves s ctrl (.mgmt (some RoleBit.admin)) ∧ s.cfg.state = .active ∧ s.nsOf nsid = some n ∧ ((s.nsSlots.find? fun x => x.nsid == nsid) = some c) ∧ size ≠ 0 ∧ size ≤ c.maxCap) ∧
    (∃ (s : State) (ctrl cid : Nat), Serves s ctrl (.mgmt (some RoleBit.admin)) ∧ s.cfg.state = .active ∧ s.cmd.selfTest = none) ∧
    (∃ (s : State) (ctrl cid : Nat), Serves s ctrl (.mgmt (some RoleBit.admin)) ∧ s.cfg.state = .active ∧ s.cmd.selfTest = none) ∧
    (∃ (s : State) (ctrl cid : Nat) (x : SelfTest), Serves s ctrl (.mgmt (some RoleBit.admin)) ∧ s.cmd.selfTest = some x) ∧
    (∃ (s : State) (x : SelfTest), s.cmd.selfTest = some x ∧ x.paused = false ∧ x.kind = 1) ∧
    (∃ (s : State) (ctrl cid : Nat) (c : Ctrl), Serves s ctrl .mgmtOpen ∧ s.ctrlOf ctrl = some c) ∧
    (∃ (s : State) (ctrl cid principal signature ch pub mask : Nat) (c : Ctrl) (i : Image), Serves s ctrl .mgmtOpen ∧ s.ctrlOf ctrl = some c ∧ c.challenge = some ch ∧ s.cfg.running = some i ∧ i.roles[principal % 64]? = some (pub, mask) ∧ c.authFails = 0) := by
  refine ⟨⟨{ ph .active with cfg := { (ph .active).cfg with running := some imgTenant } }, 7, 3, 4096, ⟨1, 6, 0, 4096, 4096⟩, ?_, ?_, ?_, ?_, ?_, ?_⟩,
    ⟨hostUp, 7, 3, 1, ⟨0, 4096, 4096, 0⟩, ?_, ?_, ?_⟩,
    ⟨{ hostUp with cfg := { (ph .active).cfg with running := some imgTenant } }, 7, 3, 1, 2048, ⟨0, 4096, 4096, 0⟩, ⟨1, 6, 0, 4096, 4096⟩, ?_, ?_, ?_, ?_, ?_, ?_⟩,
    ⟨ph .active, 7, 3, ?_, ?_, ?_⟩,
    ⟨ph .active, 7, 3, ?_, ?_, ?_⟩,
    ⟨{ ph .active with cmd := { (ph .active).cmd with selfTest := some ⟨2, 1, 7, false⟩ } }, 7, 3, ⟨2, 1, 7, false⟩, ?_, ?_⟩,
    ⟨{ ph .active with cmd := { (ph .active).cmd with selfTest := some ⟨1, 1, 7, false⟩ } }, ⟨1, 1, 7, false⟩, ?_, ?_, ?_⟩,
    ⟨ph .active, 7, 3, { Ctrl.session 0 with roles := some 15 }, ?_, ?_⟩,
    ⟨{ ph .active with cmd := { (ph .active).cmd with ctrls := [(7, { Ctrl.session 0 with challenge := some 6 })] }, cfg := { (ph .active).cfg with running := some imgTenant } }, 7, 3, 0, 5, 6, 11, 3, { Ctrl.session 0 with challenge := some 6 }, imgTenant, ?_, ?_, ?_, ?_, ?_, ?_⟩⟩ <;> first | decide | rfl | simp [helloMismatch]

theorem wit_CacheCommands :
    (∃ (s : State), s.inReset = false ∧ s.gch.sets ≠ 0) ∧
    (∃ (s : State), s.gch.sets = 0) ∧
    (∃ (s : State), s.inReset = false ∧ s.gch.st = .draining ∧ s.sal.drain = true ∧ ((s.gch.lines.any fun p => p.2.dirty != 0) = false) ∧ s.gch.fills = [] ∧ s.gch.exclusive = []) ∧
    (∃ (s : State) (slot line subs k : Nat) (f : Fill) (l : Line), s.inReset = false ∧ slot < 24 ∧ s.slotOn slot = true ∧ s.gch.st = .on ∧ ((s.gch.fills.find? fun f => f.slot == slot && f.line == line && f.subs == subs) = some f) ∧ s.findLine slot line = some (k, l) ∧ subs ≠ 0) ∧
    (∃ (s : State) (w : Writer), s.inReset = false ∧ ((w = .endpoint → s.cfg.state ≠ .safeHold)) ∧ s.sal.queue.length < 16) ∧
    (∃ (s : State) (w : Writer), s.inReset = false ∧ ((w = .endpoint → s.cfg.state ≠ .safeHold)) ∧ 16 ≤ s.sal.queue.length) ∧
    (∃ (s : State) (op : SalOp) (rest : List SalOp), s.inReset = false ∧ s.sal.run = none ∧ s.sal.drain = false ∧ s.sal.queue = op :: rest ∧ s.gch.st = .on ∧ s.salInvalid op = false) ∧
    (∃ (s : State) (op : SalOp), s.inReset = false ∧ s.sal.run = none ∧ s.sal.drain = false ∧ s.sal.queue = [op] ∧ s.gch.st = .on ∧ op.internal = false ∧ s.salInvalid op = true) ∧
    (∃ (s : State) (k : Nat) (rest : List Nat), s.inReset = false ∧ s.sal.wbQueue = k :: rest ∧ 0 < s.sal.credit) ∧
    (∃ (s : State) (r : SalRun), s.inReset = false ∧ s.sal.run = some r ∧ r.total ≤ r.pos ∧ s.sal.wbQueue = [] ∧ s.sal.awaited = [] ∧ ((s.gch.fills.any fun f => f.pin) = false) ∧ r.op.internal = false) := by
  refine ⟨⟨gchUp .off, ?_, ?_⟩,
    ⟨ph .active, ?_⟩,
    ⟨{ gchUp .draining with sal := { salReset with drain := true } }, ?_, ?_, ?_, ?_, ?_, ?_⟩,
    ⟨gchUp .on, 3, 5, 3, 16 * (gchUp .on).cacheSet 3 5, ⟨3, 5, 3, 1, 0, false⟩, ⟨3, 5, 1, 4, 0, false⟩, ?_, ?_, ?_, ?_, ?_, ?_, ?_⟩,
    ⟨gchUp .on, .endpoint, ?_, ?_, ?_⟩,
    ⟨{ gchUp .on with sal := { salReset with queue := List.replicate 16 (salOp 1) } }, .core, ?_, ?_, ?_⟩,
    ⟨{ gchUp .on with drv := lset drvReset 3 { Slot.none with capacity := 2 ^ 30 }, sal := { salReset with queue := [salOp 1, salOp 2] } }, salOp 1, [salOp 2], ?_, ?_, ?_, ?_, ?_, ?_⟩,
    ⟨{ gchUp .on with sal := { salReset with queue := [{ salOp 4 with cls := 2 }] } }, { salOp 4 with cls := 2 }, ?_, ?_, ?_, ?_, ?_, ?_, ?_⟩,
    ⟨{ gchUp .on with sal := { salReset with wbQueue := [lockKey 3 5, 7], credit := 100 } }, lockKey 3 5, [7], ?_, ?_, ?_⟩,
    ⟨{ gchUp .on with sal := { salReset with run := some ⟨salOp 1, 2, 2, false, 0⟩ } }, ⟨salOp 1, 2, 2, false, 0⟩, ?_, ?_, ?_, ?_, ?_, ?_, ?_⟩⟩ <;> first | decide | rfl | simp [helloMismatch]

theorem wit_IoCommands :
    (∃ (s : State) (io : Io) (data : DataPtr) (c : Ctrl) (n : Ns), TakesIo s io c n ∧ n.transferFault io data = none) ∧
    (∃ (s : State) (io : Io) (va rkey len : Nat) (c : Ctrl) (n : Ns), TakesIo s io c n ∧ n.transferFault io (.keyed va rkey len) = none ∧ n.type = 1 ∧ crossesZone io.slba io.nlb = false) ∧
    (∃ (s : State) (io : Io) (va rkey len : Nat) (c : Ctrl) (n : Ns), TakesIo s io c n ∧ n.transferFault io (.keyed va rkey len) = none ∧ n.type ≠ 1) ∧
    (∃ (s : State) (io : Io) (va rkey len : Nat) (c : Ctrl) (n : Ns), TakesIo s io c n ∧ n.transferFault io (.keyed va rkey len) = none ∧ n.type = 1 ∧ io.slba % zoneLbas = 0) ∧
    (∃ (s : State) (io : Io) (offset length rkey : Nat) (q : Qp) (c : Ctrl) (n : Ns), TakesIo s io c n ∧ s.qp? io.qp = some q ∧ s.commitStatus q io n offset length rkey = none ∧ n.type = 0 ∧ length ≤ maxTransfer ∧ n.outside io.slba io.nlb = false) ∧
    (∃ (s : State) (io : Io) (c : Ctrl) (n : Ns), TakesIo s io c n ∧ io.nsid ≠ 0xFFFFFFFF ∧ s.cfg.state = .active ∧ s.cmd.entries = []) ∧
    (∃ (s : State) (io : Io) (c : Ctrl) (n : Ns), TakesIo s io c n ∧ n.type ≠ 2 ∧ n.outside io.slba io.nlb = false ∧ ((n.type = 1 → crossesZone io.slba io.nlb = false))) ∧
    (∃ (s : State) (io : Io) (l : List (Nat × Nat)) (c : Ctrl) (n : Ns), TakesIo s io c n ∧ n.type ≠ 2 ∧ l.length ≤ 256 ∧ ((l.any fun r => decide (n.size < r.1 + r.2)) = false)) ∧
    (∃ (s : State) (io : Io) (all : Bool) (c : Ctrl) (n : Ns), TakesIo s io c n ∧ n.type = 1 ∧ (all = true ∨ io.slba % zoneLbas = 0 ∧ io.slba < n.size)) ∧
    (∃ (s : State) (io : Io) (option : Nat) (part : Bool) (c : Ctrl) (n : Ns), TakesIo s io c n ∧ n.type = 1 ∧ option ≤ 7 ∧ io.slba < n.size) ∧
    (∃ (s : State) (seq : Nat) (e : CmdEnt) (n : Ns), s.inReset = false ∧ s.entry seq = some e ∧ e.kind = .read ∧ e.admitted = false ∧ e.discard = false ∧ s.cfg.state = .active ∧ s.mustWait seq e = false ∧ s.nsOf e.io.nsid = some n ∧ n.type ≠ 2 ∧ s.lay.map = []) ∧
    (∃ (s : State) (seq va rkey len : Nat) (e : CmdEnt) (n : Ns), s.inReset = false ∧ s.entry seq = some e ∧ e.kind = .write ∧ e.data = .keyed va rkey len ∧ e.admitted = false ∧ e.locked = true ∧ s.cfg.state = .active ∧ s.nsOf e.io.nsid = some n ∧ n.type = 0 ∧ s.writable e.io.nsid = true ∧ s.cfg.frozenNs.contains e.io.nsid = false ∧ (List.range 8).any s.roomIn = true ∧ s.mustWait seq e = false ∧ s.sch.inLevel ≠ 3 ∧ s.writesHeld = false ∧ (List.range 8).any s.appending = true ∧ s.behind seq = false ∧ s.cmd.inflight + e.length ≤ inflightCap ∧ s.lay.map = [] ∧ s.replicaQp e.io.nsid = none) ∧
    (∃ (s : State) (seq : Nat) (e : CmdEnt), s.inReset = false ∧ s.entry seq = some e ∧ e.kind = .zoneOpen ∧ e.admitted = false ∧ e.discard = false ∧ e.selectAll = false ∧ s.cfg.state = .active ∧ (s.zone e.io.nsid (e.io.slba / zoneLbas)).st = .empty ∧ s.zonesOf e.io.nsid = []) := by
  refine ⟨⟨ioUp 0, ⟨8, 3, 5, 1, 4080, 16⟩, .keyed 1 2 65536, hostC, ⟨0, 4096, 4096, 0⟩, ?_, ?_⟩,
    ⟨ioUp 1, ⟨8, 3, 5, 1, 4080, 16⟩, 1, 2, 65536, hostC, ⟨1, 4096, 4096, 0⟩, ?_, ?_, ?_, ?_⟩,
    ⟨ioUp 2, ⟨8, 3, 5, 1, 4080, 16⟩, 1, 2, 65536, hostC, ⟨2, 4096, 4096, 0⟩, ?_, ?_, ?_⟩,
    ⟨ioUp 1, ⟨8, 3, 5, 1, 0, 16⟩, 1, 2, 65536, hostC, ⟨1, 4096, 4096, 0⟩, ?_, ?_, ?_, ?_⟩,
    ⟨{ ioUp 0 with win := { winReset with table := { Banked.empty with act := [(3, { WinDesc.free with st := .isOpen, nsid := 1, length := 2 })] } } }, ⟨8, 3, 5, 1, 0, 16⟩, 65536, 65536, 3, qp0, hostC, ⟨0, 4096, 4096, 0⟩, ?_, ?_, ?_, ?_, ?_, ?_⟩,
    ⟨ioUp 0, ⟨8, 3, 5, 1, 0, 16⟩, hostC, ⟨0, 4096, 4096, 0⟩, ?_, ?_, ?_, ?_⟩,
    ⟨ioUp 0, ⟨8, 3, 5, 1, 0, 4096⟩, hostC, ⟨0, 4096, 4096, 0⟩, ?_, ?_, ?_, ?_⟩,
    ⟨ioUp 0, ⟨8, 3, 5, 1, 0, 0⟩, [(0, 4096)], hostC, ⟨0, 4096, 4096, 0⟩, ?_, ?_, ?_, ?_⟩,
    ⟨ioUp 1, ⟨8, 3, 5, 1, 0, 0⟩, false, hostC, ⟨1, 4096, 4096, 0⟩, ?_, ?_, ?_⟩,
    ⟨ioUp 1, ⟨8, 3, 5, 1, 0, 0⟩, 7, true, hostC, ⟨1, 4096, 4096, 0⟩, ?_, ?_, ?_, ?_⟩,
    ⟨{ ioUp 0 with cmd := { (ioUp 0).cmd with entries := [(4, { ent0 with kind := .read, admitted := false })] } }, 4, { ent0 with kind := .read, admitted := false }, ⟨0, 4096, 4096, 0⟩, ?_, ?_, ?_, ?_, ?_, ?_, ?_, ?_, ?_, ?_⟩,
    ⟨{ ioUp 0 with cmd := { (ioUp 0).cmd with entries := [(4, { ent0 with admitted := false })] }, lay := layUp, axl := axlUp, cph := { cphReset with current := [(1, 9)], slots := [(2, keyUp)] } }, 4, 1, 2, 4096, { ent0 with admitted := false }, ⟨0, 4096, 4096, 0⟩, ?_, ?_, ?_, ?_, ?_, ?_, ?_, ?_, ?_, ?_, ?_, ?_, ?_, ?_, ?_, ?_, ?_, ?_, ?_, ?_⟩,
    ⟨{ ioUp 1 with cmd := { (ioUp 1).cmd with entries := [(4, { ent0 with kind := .zoneOpen, admitted := false })] } }, 4, { ent0 with kind := .zoneOpen, admitted := false }, ?_, ?_, ?_, ?_, ?_, ?_, ?_, ?_, ?_⟩⟩ <;> first | decide | rfl | simp [helloMismatch]

theorem wit_CompressionCommands :
    (∃ (s : State) (block n lane : Nat) (parityOk : Bool) (b : Blk) (o : BlkOwner) (key : KeySlot), tget s.win.blocks block = some b ∧ s.takeable b = some (n, o) ∧ s.laneOf n = some lane ∧ (tget s.cph.current o.nsid).bind s.keyLoaded = some key ∧ s.cipherUp = true ∧ (s.alloc 0 s.chainClass 1).isSome = true ∧ s.cph.sealing = true) ∧
    (∃ (s : State) (block n : Nat) (b : Blk) (o : BlkOwner) (parityOk : Bool), tget s.win.blocks block = some b ∧ s.takeable b = some (n, o) ∧ s.cph.sealing = false) ∧
    (∃ (s : State) (block n lane head : Nat) (b : Blk) (o : BlkOwner) (key : KeySlot), tget s.win.blocks block = some b ∧ b.place = .lane n lane ∧ b.owner = some o ∧ b.chain = some head ∧ s.keyLoaded b.keyId = some key ∧ (s.allocMany 0 s.chainClass 1 (ceilDiv (compressBlock (s.dynamicFor o.nsid) (s.rd Reg.CMP_CFG_NO_GAIN) o.sectors (memReadList b.data 0 (o.sectors * 4096))).bytes.length (bufBytes s.chainClass) - 1)).isSome = true) ∧
    (∃ (s : State) (block n lane crc : Nat) (b : Blk) (o : BlkOwner) (head : Nat) (key : KeySlot), tget s.win.blocks block = some b ∧ b.place = .lane n lane ∧ b.owner = some o ∧ b.chain = some head ∧ s.keyLoaded b.keyId = some key ∧ crc ≠ crc32c (memReadList b.data 0 (o.sectors * 4096)) ∧ lane < 48) ∧
    (∃ (s : State) (block n : Nat) (b : Blk), tget s.win.blocks block = some b ∧ (b.place = .spilled ∨ b.place = .readback) ∧ b.window = none ∧ (b.owner.isSome = true ∨ 65536 ≤ b.filled) ∧ s.freeStaging = some n) ∧
    (∃ (s : State) (job lane : Nat) (parityOk : Bool) (d : DecJob) (key : KeySlot), tget s.cmp.jobs job = some d ∧ d.lane = none ∧ s.keyLoaded d.keyId = some key ∧ s.decodeLane d.firstLane = some lane ∧ s.cipherUp = true) ∧
    (∃ (s : State) (job lane j : Nat) (d : DecJob) (r : ReadJob) (e : CmdEnt) (key : KeySlot), tget s.cmp.jobs job = some d ∧ d.lane = some lane ∧ d.firstLane = none ∧ s.keyLoaded d.keyId = some key ∧ s.readOfDecode job = some (j, r) ∧ r.use = .host ∧ s.entry r.seq = some e ∧ (r.decoding.filter (· != job)).isEmpty = false) ∧
    (∃ (s : State), s.inReset = false) := by
  refine ⟨⟨laneUp (.staged 3), 6, 3, 1, false, blk0 (.staged 3), own0, keyUp, ?_, ?_, ?_, ?_, ?_, ?_, ?_⟩,
    ⟨{ laneUp (.staged 3) with cph := cphReset }, 6, 3, blk0 (.staged 3), own0, true, ?_, ?_, ?_⟩,
    ⟨laneUp (.lane 3 1), 6, 3, 1, 2, blk0 (.lane 3 1), own0, keyUp, ?_, ?_, ?_, ?_, ?_, ?_⟩,
    ⟨laneUp (.lane 3 1), 6, 3, 1, 5, blk0 (.lane 3 1), own0, 2, keyUp, ?_, ?_, ?_, ?_, ?_, ?_, ?_⟩,
    ⟨laneUp .spilled, 6, 0, blk0 .spilled, ?_, ?_, ?_, ?_, ?_⟩,
    ⟨{ laneUp .spilled with cmp := { cmpReset with jobs := [(2, dec0)] } }, 2, 0, false, dec0, keyUp, ?_, ?_, ?_, ?_, ?_⟩,
    ⟨{ laneUp .spilled with cmp := { cmpReset with jobs := [(2, { dec0 with lane := some 0 })] }, cmd := { (laneUp .spilled).cmd with entries := [(4, ent0)] }, lay := { layReset with reads := [(1, read0)] } }, 2, 0, 1, { dec0 with lane := some 0 }, read0, ent0, keyUp, ?_, ?_, ?_, ?_, ?_, ?_, ?_, ?_⟩,
    ⟨ph .active, ?_⟩⟩ <;> first | decide | rfl | simp [helloMismatch]

theorem wit_KeyCommands :
    (∃ (s : State) (ctrl cid : Nat) (r : KeyRecord), Serves s ctrl (.mgmt (some RoleBit.keyOfficer)) ∧ s.cfg.state = .active ∧ s.keyCause r false = none) ∧
    (∃ (s : State) (ctrl cid c : Nat) (bound : Bool) (r : KeyRecord), Serves s ctrl (.mgmt (some RoleBit.keyOfficer)) ∧ s.cfg.state = .active ∧ s.keyCause r false = some (c, bound)) ∧
    (∃ (s : State) (ctrl cid id i : Nat) (k : KeySlot), Serves s ctrl (.mgmt (some RoleBit.keyOfficer)) ∧ s.cfg.state = .active ∧ s.keySlot id = some (i, k)) ∧
    (∃ (s : State) (ctrl cid nsid id : Nat) (reseal : Bool), Serves s ctrl (.mgmt (some RoleBit.keyOfficer)) ∧ s.cfg.state = .active ∧ s.cph.reseal = none ∧ s.activateBad nsid id reseal = false) ∧
    (∃ (s : State) (nsid total skipped : Nat), s.cph.reseal = some (nsid, [], total, skipped) ∧ s.resealing = false) ∧
    (∃ (s : State) (ctrl cid rkey offset length id mode iv : Nat) (decrypt : Bool) (k : KeySlot), Serves s ctrl (.mgmt (some RoleBit.keyOfficer)) ∧ s.jobDenied ctrl rkey offset length id = false ∧ s.keyLoaded id = some k ∧ (s.window (keyIndex rkey)).buffer = true ∧ length % 16 = 0 ∧ length ≤ 16 * 2 ^ 20 ∧ keyUsage id = 2 ∧ mode < 3) ∧
    (∃ (s : State) (reg : Nat), reg < 16 ∧ s.inReset = false ∧ s.cfg.state = .active ∧ s.rd Reg.CPH_FBK_CTL_GO reg = 0 ∧ s.refillable (s.rd Reg.CPH_FBK_ID reg) = none ∧ s.keyCause ⟨leNat (ascii "LXKB"), 1, 2, 0, 0, s.rd Reg.CPH_FBK_ID reg, s.rd Reg.CPH_FBK_NS reg, 0⟩ true = none) ∧
    (∃ (s : State) (w : Writer) (reg : Nat), reg < 16 ∧ s.inReset = false ∧ w ≠ .endpoint) ∧
    (∃ (s : State) (w : Writer), s.inReset = false ∧ w ≠ .endpoint) ∧
    (∃ (s : State), s.cph.sealing = false ∧ tgetD s.cph.epochs s.cfg.canister 0 < s.cph.epoch) := by
  refine ⟨⟨keyOk, 7, 3, { rec0 with ownerSlot := 4 }, ?_, ?_, ?_⟩,
    ⟨keyOk, 7, 3, 2, false, { rec0 with keyId := 0x70005 }, ?_, ?_, ?_⟩,
    ⟨{ keyOk with cph := { cphReset with slots := [(2, keyUp)] } }, 7, 3, 9, 2, keyUp, ?_, ?_, ?_⟩,
    ⟨{ keyOk with cph := { cphReset with slots := [(2, { keyUp with keyId := 0x60005 })], records := [(0x60005, rec0)] } }, 7, 3, 1, 0x60005, false, ?_, ?_, ?_, ?_⟩,
    ⟨{ ph .active with cph := { cphReset with reseal := some (1, [], 4, 0) } }, 1, 4, 0, ?_, ?_⟩,
    ⟨{ winUp qp0 with cph := { cphReset with slots := [(2, { keyUp with keyId := 0x20000000 })] } }, 7, 3, 3, 0, 0, 0x20000000, 0, 0, false, { keyUp with keyId := 0x20000000 }, ?_, ?_, ?_, ?_, ?_, ?_, ?_, ?_⟩,
    ⟨(keyFb.wr Reg.CPH_FBK_ID 2 0 0x60005).wr Reg.CPH_FBK_NS 2 0 1, 2, ?_, ?_, ?_, ?_, ?_, ?_⟩,
    ⟨keyOk, .core, 2, ?_, ?_, ?_⟩,
    ⟨keyOk, .session, ?_, ?_⟩,
    ⟨{ ph .active with cph := { cphReset with epoch := 5 } }, ?_, ?_⟩⟩ <;> first | decide | rfl | simp [helloMismatch]

theorem wit_LayoutCommands :
    (∃ (s : State) (seq nsid extent g addr : Nat) (ecc : Bool) (y : Gathering) (l : List (Nat × SealedBlk)), ((s.lay.gathering.find? fun y => y.seq == seq && y.nsid == nsid && y.extent == extent) = some y) ∧ y.again = none ∧ y.reading = false ∧ s.sealedOf y = some l ∧ (y.copied ≠ [] ∨ l ≠ []) ∧ s.groupFor y = some g ∧ (s.placeAt g (storedLen ((y.copied ++ l.map (·.2)).foldl (fun l b => insertBlk b l) [])) = .ok addr)) ∧
    (∃ (s : State) (seq nsid extent : Nat) (ecc : Bool) (y : Gathering), ((s.lay.gathering.find? fun y => y.seq == seq && y.nsid == nsid && y.extent == extent) = some y) ∧ y.again = none ∧ y.reading = true) ∧
    (∃ (s : State) (group row : Nat) (x : Stripe), s.stripe group row = some x ∧ x.st = .opened ∧ due x.hold s.gatherTurns s.clock = true ∧ x.journalled < x.fill ∧ 0 < s.jnl.credit ∧ s.livePartial + (x.fill - x.journalled) ≤ s.rd Reg.JNL_CFG_LIVE_CAP * 2 ^ 20) ∧
    (∃ (s : State) (group row : Nat) (x : Stripe), s.stripe group row = some x ∧ x.st = .opened ∧ expired x.first (s.rd Reg.LAY_CLOSE_HOLD) s.clock = true) ∧
    (∃ (s : State) (seq nsid extent : Nat) (y : Gathering) (x : Stripe), ((s.lay.gathering.find? fun y => y.seq == seq && y.nsid == nsid && y.extent == extent) = some y) ∧ due y.slotWait 16 s.clock = true ∧ s.oldestStripe = some x ∧ s.stripe x.group x.row = some x) ∧
    (∃ (s : State) (group row p : Nat) (x : Stripe), (s.grp group).tally = false ∧ s.stripe group row = some x ∧ x.outstanding.contains p = true ∧ x.st = .writing ∧ x.intent = none ∧ x.okWrites + 1 < x.k + 1 ∧ x.k + 1 ≤ x.okWrites + (x.outstanding.filter (· != p)).length + 1) ∧
    (∃ (s : State) (job : Nat) (rows : List RowRead) (r : ReadJob) (blocks : List SealedBlk), tget s.lay.reads job = some r ∧ r.waiting = false ∧ r.decoding = [] ∧ r.use = .host ∧ (s.grp r.ent.group).tally = false ∧ r.ent.lostMask = 0 ∧ s.missingUnits r.ent rows r.erased = [] ∧ 32 + 48 * popCount r.ent.blockMask ≤ r.ent.storedLen ∧ s.rangeFate r rows 0 r.ent.storedLen = 0 ∧ (parseVersion ((List.range r.ent.storedLen).map fun i => (s.dataByte r.ent.group (s.unitRow r.ent.group ((r.ent.addr + i) / 65536)).1 (s.unitRow r.ent.group ((r.ent.addr + i) / 65536)).2.2 ((r.ent.addr + i) % 65536) rows r.erased (r.stage == 2)).getD 0) r.nsid r.extent r.ent.version = some blocks) ∧ ((blocks.any fun b => bitOf r.want b.index) = true)) ∧
    (∃ (s : State) (group : Nat), group < 8 ∧ s.needsCompaction group = true ∧ s.serving = true ∧ (s.grp group).compacting = none) := by
  refine ⟨⟨placeUp gath0, 4, 1, 0, 0, 0, false, gath0, [], ?_, ?_, ?_, ?_, ?_, ?_, ?_⟩,
    ⟨placeUp { gath0 with reading := true }, 4, 1, 0, true, { gath0 with reading := true }, ?_, ?_, ?_⟩,
    ⟨stripeUp .opened, 0, 5, str0 .opened, ?_, ?_, ?_, ?_, ?_, ?_⟩,
    ⟨stripeUp .opened, 0, 5, str0 .opened, ?_, ?_, ?_⟩,
    ⟨{ stripeUp .opened with lay := { (stripeUp .opened).lay with gathering := [{ gath0 with slotWait := some 0 }] } }, 4, 1, 0, { gath0 with slotWait := some 0 }, str0 .opened, ?_, ?_, ?_, ?_⟩,
    ⟨stripeUp .writing, 0, 5, 3, str0 .writing, ?_, ?_, ?_, ?_, ?_, ?_, ?_⟩,
    ⟨verUp, 1, [], verRead, [blkS], ?_, ?_, ?_, ?_, ?_, ?_, ?_, ?_, ?_, ?_, ?_⟩,
    ⟨{ placeUp gath0 with lay := { layUp with groups := lmod layUp.groups 0 fun g => { g with head := 950 * 655360, segs := [(0, ⟨1, 0⟩)] } } }, 0, ?_, ?_, ?_, ?_⟩⟩ <;> first | decide | rfl | simp [helloMismatch]

theorem wit_SetAndStreamCommands :
    (∃ (s : State) (set : Nat), set < 8 ∧ (s.pset set).st = .powering ∧ due (s.pset set).armed (turnsOfSec (2 * s.rd Reg.LAY_CFG_READY_TIMEOUT)) s.clock = true) ∧
    (∃ (s : State) (set : Nat), set < 8 ∧ (s.pset set).st = .on ∧ (s.layoutSec.map (·.idleOff)).getD 10 ≠ 0 ∧ s.setBusy set = false ∧ s.serving = true ∧ expired (s.pset set).lastUse (turnsOfSec (60 * (s.layoutSec.map (·.idleOff)).getD 10)) s.clock = true) ∧
    (∃ (s : State) (w : Writer) (set : Nat), set < 8 ∧ set < s.lay.sets.length ∧ s.inReset = false ∧ s.cfg.state = .active ∧ s.setDefined set = true ∧ (s.pset set).st = .off) ∧
    (∃ (s : State) (w : Writer) (set : Nat), set < 8 ∧ s.inReset = false ∧ s.cfg.state = .active ∧ s.setDefined set = true ∧ (s.pset set).st = .on) ∧
    (∃ (s : State) (set : Nat), set < 8 ∧ (s.pset set).st = .stopping ∧ (s.pset set).step = 2 ∧ s.stopDrained set = true) ∧
    (∃ (s : State), s.serving = true ∧ s.lay.lastBatch + 64 ≤ s.clock) ∧
    (∃ (s : State), s.serving = true ∧ s.lay.ckptRun = none ∧ s.lay.fence = none ∧ 512 * 2 ^ 20 ≤ s.lay.logSince) ∧
    (∃ (s : State) (turn pos : Nat), s.lay.ckptRun = some (turn, pos)) ∧
    (∃ (s : State) (r : MdRecord) (rest : List MdWrite), s.lay.writes = .record r :: rest) ∧
    (∃ (s : State) (ctrl cid nsid id : Nat) (rest : List MdWrite), (s.lay.writes = .current ctrl cid nsid id :: rest ∨ s.lay.writes = .keyGone ctrl cid id :: rest)) := by
  refine ⟨⟨setUp .powering 0, 0, ?_, ?_, ?_⟩,
    ⟨setUp .on 0, 0, ?_, ?_, ?_, ?_, ?_, ?_⟩,
    ⟨setUp .off 0, .core, 0, ?_, ?_, ?_, ?_, ?_, ?_⟩,
    ⟨setUp .on 0, .endpoint, 0, ?_, ?_, ?_, ?_, ?_⟩,
    ⟨setUp .stopping 2, 0, ?_, ?_, ?_, ?_⟩,
    ⟨setUp .on 0, ?_, ?_⟩,
    ⟨{ setUp .on 0 with lay := { layUp with logSince := 512 * 2 ^ 20 } }, ?_, ?_, ?_, ?_⟩,
    ⟨{ setUp .on 0 with lay := { layUp with ckptRun := some (3, 4) } }, 3, 4, ?_⟩,
    ⟨{ setUp .on 0 with lay := { layUp with writes := [.record (.setStates [0])] } }, .setStates [0], [], ?_⟩,
    ⟨{ setUp .on 0 with lay := { layUp with writes := [.current 7 3 1 9] } }, 7, 3, 1, 9, [], ?_⟩⟩ <;> first | decide | rfl | simp [helloMismatch]

theorem wit_JournalAndRebuildCommands :
    (∃ (s : State) (role index : Nat) (w : JWrite), role < 3 ∧ role < s.jnl.roles.length ∧ (s.role role).writes[index]? = some w ∧ w.done = false) ∧
    (∃ (s : State) (role index : Nat) (w : JWrite), role < 3 ∧ (s.role role).writes[index]? = some w ∧ w.done = false ∧ s.roleOfSlot (s.role role).slot = some role ∧ (s.role role).st = .active) ∧
    (∃ (s : State) (role : Nat), role < 3 ∧ (s.role role).st = .seeding ∧ due (s.role role).promotedAt 2048 s.clock = true) ∧
    (∃ (s : State) (start kind : Nat) (rings : List RingRead) (scan : List ScanRead), s.jnl.replay = some (start, kind) ∧ kind ≠ 2) ∧
    (∃ (s : State) (slot g p turn : Nat) (a : Bool), slot < 24 ∧ s.posOfSlot slot = some (g, p) ∧ (s.pos g p).absentAt = some (turn, a) ∧ (s.pos g p).st = .absent ∧ turn + s.resyncWindow ≤ s.now) ∧
    (∃ (s : State) (g row : Nat) (w : Walk), g < 10 ∧ tget s.axl.walks g = some w ∧ w.issued = false ∧ w.paused = false ∧ s.cfg.state = .active ∧ s.nextWalkRow g w.row = some row ∧ (s.grp g).tally = false ∧ (s.pset (s.grp g).set).st = .on ∧ 0 < s.axl.rbCredit) ∧
    (∃ (s : State) (g : Nat) (w : Walk) (rows : List RowRead), g < 10 ∧ tget s.axl.walks g = some w ∧ w.issued = true ∧ (s.grp g).tally = false ∧ ((List.range 16).all (fun c => s.colFate g w.row c rows == 0) = true)) ∧
    (∃ (s : State) (ctrl cid g newK : Nat), Serves s ctrl (.mgmt (some RoleBit.admin)) ∧ s.cfg.state = .active ∧ s.reshapeRefusal g newK = none) ∧
    (∃ (s : State) (r : Reshape), s.axl.reshape = some r ∧ r.st = .moving ∧ r.batch = r.boundary ∧ s.lay.reads = [] ∧ s.lay.stripes = [] ∧ s.deferred = [] ∧ s.cfg.state = .active ∧ 0 < s.axl.rsCredit) ∧
    (∃ (s : State) (ctrl cid : Nat) (r : Reshape), Serves s ctrl (.mgmt (some RoleBit.admin)) ∧ s.cfg.state = .active ∧ s.axl.reshape = some r) ∧
    (∃ (s : State) (ctrl cid slot g p : Nat), Serves s ctrl (.mgmt (some RoleBit.admin)) ∧ s.cfg.state = .active ∧ s.posOfSlot slot = some (g, p) ∧ (((List.range (s.grp g).width).any fun q => q != p && (s.pos g q).st != .online) = false)) := by
  refine ⟨⟨rolesUp .active, 1, 0, ⟨7, false⟩, ?_, ?_, ?_, ?_⟩,
    ⟨rolesUp .active, 1, 0, ⟨7, false⟩, ?_, ?_, ?_, ?_, ?_⟩,
    ⟨rolesUp .seeding, 1, ?_, ?_, ?_⟩,
    ⟨{ ph .recovery with jnl := { jnlReset with replay := some (0, 0) } }, 0, 0, [], [], ?_, ?_⟩,
    ⟨walkUp false .absent, 3, 0, 3, 0, true, ?_, ?_, ?_, ?_, ?_⟩,
    ⟨walkUp false .rebuilding, 0, 4, wlk0 false, ?_, ?_, ?_, ?_, ?_, ?_, ?_, ?_, ?_⟩,
    ⟨walkUp true .rebuilding, 0, wlk0 true, [⟨4, List.replicate 12 ⟨true, [], []⟩⟩], ?_, ?_, ?_, ?_, ?_⟩,
    ⟨walkUp false .online, 7, 3, 0, 8, ?_, ?_, ?_⟩,
    ⟨{ walkUp false .online with axl := { (walkUp false .online).axl with reshape := some ⟨0, 10, 8, .moving, 300, 300, 299, []⟩, rsCredit := 5 } }, ⟨0, 10, 8, .moving, 300, 300, 299, []⟩, ?_, ?_, ?_, ?_, ?_, ?_, ?_, ?_⟩,
    ⟨{ walkUp false .online with axl := { (walkUp false .online).axl with reshape := some ⟨0, 10, 8, .preparing, 300, 300, 299, []⟩ } }, 7, 3, ⟨0, 10, 8, .preparing, 300, 300, 299, []⟩, ?_, ?_, ?_⟩,
    ⟨walkUp false .online, 7, 3, 3, 0, 3, ?_, ?_, ?_, ?_⟩⟩ <;> first | decide | rfl | simp [helloMismatch]

theorem wit_DriveCommands :
    (∃ (s : State) (slot : Nat), slot < 24 ∧ (s.chan slot).pg = true ∧ due (s.slot slot).perstArmed (turnsOfMs 100) s.clock = true ∧ (s.slot slot).st = .powering) ∧
    (∃ (s : State) (slot code capTo : Nat), slot < 24 ∧ (s.slot slot).perst = false ∧ (s.slot slot).link = 0 ∧ (s.slot slot).st = .training) ∧
    (∃ (s : State) (slot : Nat), slot < 24 ∧ (s.slot slot).st = .training ∧ (s.slot slot).link = 0 ∧ due (s.slot slot).linkArmed (turnsOfSec 1) s.clock = true) ∧
    (∃ (s : State) (slot : Nat), slot < 24 ∧ (s.slot slot).st = .training ∧ due (s.slot slot).retryArmed (turnsOfMs 10) s.clock = true) ∧
    (∃ (s : State) (slot : Nat), slot < 24 ∧ (s.slot slot).link ≠ 0 ∧ (s.slot slot).st = .setup ∧ (s.slot slot).setup = 1) ∧
    (∃ (s : State) (slot capacity : Nat), slot < 24 ∧ (s.slot slot).link ≠ 0 ∧ (s.slot slot).st = .setup ∧ (s.slot slot).setup = 3) ∧
    (∃ (s : State) (slot : Nat), slot < 24 ∧ (s.slot slot).link ≠ 0 ∧ (s.slot slot).st = .setup ∧ (s.slot slot).setup = 5) ∧
    (∃ (s : State) (slot : Nat), slot < 24 ∧ (s.slot slot).link ≠ 0 ∧ (s.slot slot).st = .setup ∧ (s.slot slot).setup = 6) ∧
    (∃ (s : State) (slot : Nat), slot < 24 ∧ (s.slot slot).st = .setup ∧ (s.slot slot).setup = 14) ∧
    (∃ (s : State) (slot : Nat), slot < 24 ∧ (s.slot slot).st = .setup ∧ (s.slot slot).setup = 1 ∧ due (s.slot slot).setupArmed (s.stepBound slot 2) s.clock = true) ∧
    (∃ (s : State) (slot : Nat), slot < 24 ∧ (s.slot slot).st = .ready ∧ (s.slot slot).entries = [] ∧ s.serving = true ∧ s.rd Reg.DRV_SLOT_PCIE_ERR slot < 2 ^ 32) ∧
    (∃ (s : State) (slot : Nat), slot < 24 ∧ (s.slot slot).link ≠ 0 ∧ (s.chan slot).present = true) ∧
    (∃ (s : State) (slot warn temp : Nat) (crossed : Bool), slot < 24 ∧ (s.slot slot).st = .ready) ∧
    (∃ (s : State) (ctrl cid slot : Nat), Serves s ctrl (.mgmt (some RoleBit.admin))) ∧
    (∃ (s : State) (slot : Nat), slot < 24 ∧ (s.slot slot).st = .ladder ∧ 1 ≤ (s.slot slot).step ∧ (s.slot slot).step ≤ 3) := by
  refine ⟨⟨drvUp { Slot.none with st := .powering, perstArmed := some 0 }, 3, ?_, ?_, ?_, ?_⟩,
    ⟨drvUp { Slot.none with st := .training, perst := false }, 3, 1, 20, ?_, ?_, ?_, ?_⟩,
    ⟨drvUp { Slot.none with st := .training, linkArmed := some 0, attempts := 1 }, 3, ?_, ?_, ?_, ?_⟩,
    ⟨drvUp { Slot.none with st := .training, retryArmed := some 0 }, 3, ?_, ?_, ?_⟩,
    ⟨drvUp { Slot.none with st := .setup, link := 1, setup := 1 }, 3, ?_, ?_, ?_, ?_⟩,
    ⟨drvUp { Slot.none with st := .setup, link := 1, setup := 3 }, 3, 9, ?_, ?_, ?_, ?_⟩,
    ⟨drvUp { Slot.none with st := .setup, link := 1, setup := 5 }, 3, ?_, ?_, ?_, ?_⟩,
    ⟨drvUp { Slot.none with st := .setup, link := 1, setup := 6 }, 3, ?_, ?_, ?_, ?_⟩,
    ⟨drvUp { Slot.none with st := .setup, link := 1, setup := 14 }, 3, ?_, ?_, ?_⟩,
    ⟨drvUp { Slot.none with st := .setup, setup := 1, setupArmed := some 0 }, 3, ?_, ?_, ?_, ?_⟩,
    ⟨drvUp { Slot.none with st := .ready, link := 1 }, 3, ?_, ?_, ?_, ?_, ?_⟩,
    ⟨drvUp { Slot.none with st := .ready, link := 1 }, 3, ?_, ?_, ?_⟩,
    ⟨drvUp { Slot.none with st := .ready, link := 1 }, 3, 8, 320, true, ?_, ?_⟩,
    ⟨drvUp { Slot.none with st := .refused, reason := Refuse.foreign }, 7, 3, 3, ?_⟩,
    ⟨drvUp { Slot.none with st := .ladder, step := 1, stepArmed := some 0 }, 3, ?_, ?_, ?_, ?_⟩⟩ <;> first | decide | rfl | simp [helloMismatch]

theorem wit_SlotChannelCommands :
    (∃ (s : State) (slot : Nat), s.slotOn slot = true ∧ slot < s.pwr.slots.length ∧ (s.chan slot).st = .empty) ∧
    (∃ (s : State) (slot : Nat), s.slotOn slot = true ∧ (s.chan slot).st ≠ .empty) ∧
    (∃ (s : State) (slot : Nat), s.slotOn slot = true ∧ (s.chan slot).st = .inserting ∧ due (s.chan slot).insertArmed s.insertTurns s.clock = true) ∧
    (∃ (s : State) (slot : Nat), s.slotOn slot = true ∧ s.mayStart slot = true ∧ s.startingCount < s.rd Reg.PWR_CFG_STAGGER ∧ (((List.range slot).any fun i => s.mayStart i) = false)) ∧
    (∃ (s : State) (slot : Nat), s.slotOn slot = true ∧ (s.chan slot).st = .starting ∧ 14 ≤ (s.chan slot).smp.qualified ∧ (s.chan slot).demand = true) ∧
    (∃ (s : State) (ch : Nat), ch < 24 ∧ s.slotOn ch = true ∧ ((s.chan ch).st = .starting ∨ (s.chan ch).st = .on)) ∧
    (∃ (s : State) (ch : Nat), ch < 24 ∧ s.slotOn ch = true ∧ ((s.chan ch).st = .starting ∨ (s.chan ch).st = .on) ∧ s.faultSamples ≤ (s.chan ch).smp.faultCount + 2) ∧
    (∃ (s : State) (slot : Nat), s.slotOn slot = true ∧ (s.chan slot).st = .on ∧ (s.chan slot).pg = true ∧ (s.chan slot).brownArmed = none) ∧
    (∃ (s : State) (slot : Nat) (excess : Bool), s.slotOn slot = true ∧ (s.chan slot).st = .starting ∧ (s.chan slot).demand = true) ∧
    (∃ (s : State) (slot : Nat), s.slotOn slot = true ∧ (s.chan slot).st = .on ∧ (s.chan slot).brownArmed = none) ∧
    (∃ (s : State) (slot : Nat) (below : Bool), s.slotOn slot = true ∧ (s.chan slot).st = .on ∧ (s.chan slot).demand = true ∧ due (s.chan slot).brownArmed (turnsOfMs (s.rd Reg.PWR_CFG_BROWNOUT_HOLD)) s.clock = true) ∧
    (∃ (s : State) (ch : Nat), ch < 24 ∧ s.slotOn ch = true ∧ (s.chan ch).st = .fault ∧ (s.chan ch).damaged = false ∧ (s.chan ch).retries ≤ s.rd Reg.PWR_CFG_MAX_RETRY ∧ due (s.chan ch).retryArmed s.retryTurns s.clock = true) ∧
    (∃ (s : State) (ch : Nat), ch < 24 ∧ s.slotOn ch = true ∧ (s.chan ch).pg = true ∧ due (s.chan ch).goodArmed s.retryTurns s.clock = true) ∧
    (∃ (s : State) (w : Writer) (slot : Nat), s.slotOn slot = true ∧ s.inReset = false ∧ w ≠ .endpoint ∧ (s.chan slot).st = .fault ∧ (s.chan slot).damaged = false) ∧
    (∃ (s : State) (slot : Nat), s.slotOn slot = true ∧ s.inReset = false ∧ (s.chan slot).present = true ∧ (s.chan slot).demand = true ∧ (s.chan slot).cycleArmed = none) ∧
    (∃ (s : State) (slot : Nat), s.slotOn slot = true ∧ due (s.chan slot).cycleArmed 488282 s.clock = true) ∧
    (∃ (s : State) (w : Writer) (slot : Nat), s.slotOn slot = true ∧ s.inReset = false ∧ w ≠ .endpoint) ∧
    (∃ (s : State) (slot : Nat), s.slotOn slot = true ∧ (s.slot slot).st ≠ .ladder ∧ (s.chan slot).st = .stopping ∧ (s.chan slot).stopArmed.isSome = true ∧ (s.chan slot).ackArmed = none ∧ s.serving = true ∧ s.peerLink = true) ∧
    (∃ (s : State) (slot : Nat), s.slotOn slot = true ∧ (s.chan slot).st = .stopping ∧ due (s.chan slot).ackArmed (turnsOfSec 2) s.clock = true) ∧
    (∃ (s : State) (slot : Nat), s.slotOn slot = true ∧ due (s.chan slot).heldArmed 977 s.clock = true) ∧
    (∃ (s : State) (slot current : Nat), s.slotOn slot = true ∧ due (s.chan slot).clearArmed 977 s.clock = true) := by
  refine ⟨⟨chUp Chan.none, 3, ?_, ?_, ?_⟩,
    ⟨chUp { Chan.none with st := .on, present := true, pg := true, retries := 2 }, 3, ?_, ?_⟩,
    ⟨chUp { Chan.none with st := .inserting, insertArmed := some 0 }, 3, ?_, ?_, ?_⟩,
    ⟨chUp { Chan.none with st := .waitInput, demand := true, smp := { Sampler.none with inWindow := 4 } }, 3, ?_, ?_, ?_, ?_⟩,
    ⟨chUp { Chan.none with st := .starting, demand := true, smp := { Sampler.none with qualified := 14 } }, 3, ?_, ?_, ?_, ?_⟩,
    ⟨chUp { Chan.none with st := .on, pg := true }, 3, ?_, ?_, ?_⟩,
    ⟨chUp { Chan.none with st := .starting, smp := { Sampler.none with faultCount := 1000000 } }, 3, ?_, ?_, ?_, ?_⟩,
    ⟨chUp { Chan.none with st := .on, pg := true }, 3, ?_, ?_, ?_, ?_⟩,
    ⟨chUp { Chan.none with st := .starting, demand := true }, 3, true, ?_, ?_, ?_⟩,
    ⟨chUp { Chan.none with st := .on }, 3, ?_, ?_, ?_⟩,
    ⟨chUp { Chan.none with st := .on, demand := true, brownArmed := some 0 }, 3, true, ?_, ?_, ?_, ?_⟩,
    ⟨chUp { Chan.none with st := .fault, demand := true, retries := 1, retryArmed := some 0 }, 3, ?_, ?_, ?_, ?_, ?_, ?_⟩,
    ⟨chUp { Chan.none with st := .on, pg := true, goodArmed := some 0, retries := 1 }, 3, ?_, ?_, ?_, ?_⟩,
    ⟨chUp { Chan.none with st := .fault }, .core, 3, ?_, ?_, ?_, ?_, ?_⟩,
    ⟨chUp { Chan.none with st := .on, present := true, demand := true }, 3, ?_, ?_, ?_, ?_, ?_⟩,
    ⟨chUp { Chan.none with st := .idle, cycleArmed := some 0 }, 3, ?_, ?_⟩,
    ⟨chUp Chan.none, .session, 3, ?_, ?_, ?_⟩,
    ⟨{ chUp { Chan.none with st := .stopping, stopArmed := some 0 } with eth := lmod ethReset 16 fun l => { l with st := .up } }, 3, ?_, ?_, ?_, ?_, ?_, ?_, ?_⟩,
    ⟨chUp { Chan.none with st := .stopping, ackArmed := some 0 }, 3, ?_, ?_, ?_⟩,
    ⟨chUp { Chan.none with heldArmed := some 0 }, 3, ?_, ?_⟩,
    ⟨chUp { Chan.none with clearArmed := some 0 }, 3, 101, ?_, ?_⟩⟩ <;> first | decide | rfl | simp [helloMismatch]

theorem wit_FeedCommands :
    (∃ (s : State) (f : Nat), f < 2 ∧ f < s.pwr.feeds.length ∧ (s.feed f).st = .absent) ∧
    (∃ (s : State) (f : Nat), f < 2 ∧ (s.feed f).st = .waiting ∧ s.pwrDue (s.feed f).insertArmed s.insertTurns = true ∧ (s.feed f).first = true) ∧
    (∃ (s : State) (f : Nat), f < 2 ∧ (s.feed f).st = .waiting ∧ (s.feed f).insertArmed = none ∧ s.pwrDue (s.feed f).windowArmed (turnsOfMs (100 * s.rd Reg.PWR_CFG_RETURN_HOLD)) = true) ∧
    (∃ (s : State) (f : Nat) (lost : Bool), s.selected = some f) ∧
    (∃ (s : State) (f : Nat), s.pwr.dead = true ∧ s.startingFeed = none ∧ s.selected = none ∧ s.pickFeed = some f) ∧
    (∃ (s : State) (f : Nat), f < 2 ∧ (s.feed f).st = .starting ∧ 14 ≤ (s.feed f).smp.qualified ∧ (s.feed (1 - f)).st ≠ .available ∧ (s.feed (1 - f)).st ≠ .selected) ∧
    (∃ (s : State), s.warnCause = true ∧ s.pwr.warn = false) ∧
    (∃ (s : State), s.pwr.warn = true ∧ s.selected.isSome = true ∧ s.pwrDue s.pwr.warnArmed 4883 = true) ∧
    (∃ (s : State) (f : Nat), f < 2 ∧ (s.feed f).st = .available) ∧
    (∃ (s : State) (f : Nat), f < 2 ∧ (s.feed f).st ≠ .absent ∧ (s.feed f).st ≠ .selected) := by
  refine ⟨⟨fdUp Feed.none false, 1, ?_, ?_, ?_⟩,
    ⟨fdUp { Feed.none with st := .waiting, insertArmed := some 0 } false, 1, ?_, ?_, ?_, ?_⟩,
    ⟨fdUp { Feed.none with st := .waiting, windowArmed := some 0 } false, 1, ?_, ?_, ?_, ?_⟩,
    ⟨fdUp { Feed.none with st := .selected } false, 1, true, ?_⟩,
    ⟨fdUp { Feed.none with st := .available } true, 1, ?_, ?_, ?_, ?_⟩,
    ⟨fdUp { Feed.none with st := .starting, smp := { Sampler.none with qualified := 14 } } false, 1, ?_, ?_, ?_, ?_, ?_⟩,
    ⟨fdUp Feed.none false, ?_, ?_⟩,
    ⟨{ fdUp { Feed.none with st := .selected } false with pwr := { (fdUp { Feed.none with st := .selected } false).pwr with warn := true, warnArmed := some 0 } }, ?_, ?_, ?_⟩,
    ⟨fdUp { Feed.none with st := .available } false, 1, ?_, ?_⟩,
    ⟨fdUp { Feed.none with st := .starting } false, 1, ?_, ?_, ?_⟩⟩ <;> first | decide | rfl | simp [helloMismatch]

theorem wit_PawnLeaseCommands :
    (∃ (s : State) (w : Nat) (m : PawnMsg), pawnFits m Pawn.challenge (s.connOf (.witness w)).1 (s.connOf (.witness w)).2 = true ∧ w < s.witnessCount ∧ (s.wit w).st ≠ .down) ∧
    (∃ (s : State) (sh c : Nat) (m : PawnMsg) (x : Served), pawnFits m Pawn.challenge sh c = true ∧ s.witnesses = true ∧ tget s.fov.served sh = some x ∧ tget x.conns c = none) ∧
    (∃ (s : State) (w sig : Nat) (m : PawnMsg) (c : WitnessCfg), pawnFits m Pawn.proof (s.connOf (.witness w)).1 (s.connOf (.witness w)).2 = true ∧ s.witCfg w = some c ∧ (s.wit w).st = .proving ∧ c.kind = 1) ∧
    (∃ (s : State) (w : Nat), (s.wit w).st = .proving ∧ due (s.wit w).proofArmed (2 ^ 20) s.clock = true) ∧
    (∃ (s : State) (w : Nat) (c : WitnessCfg), w < 4 ∧ (s.wit w).st = .down ∧ due (s.wit w).retryArmed (2 ^ 22) s.clock = true ∧ s.witCfg w = some c ∧ s.fedQp c.addr c.subPort = none) ∧
    (∃ (s : State) (w : Nat), w < 4 ∧ (s.wit w).st ≠ .down) ∧
    (∃ (s : State) (w q sent : Nat) (m : PawnMsg), w < 4 ∧ (((s.wit w).reqs.find? fun r => r.1 == m.reqSeq) = some (q, sent)) ∧ (s.wit w).st = .ready ∧ pawnFits m Pawn.grant (s.connOf (.witness w)).1 (s.connOf (.witness w)).2 = true) ∧
    (∃ (s : State) (w : Nat) (m : PawnMsg), w < 4 ∧ (s.wit w).st = .ready ∧ pawnFits m Pawn.deny (s.connOf (.witness w)).1 (s.connOf (.witness w)).2 = true ∧ (((s.wit w).reqs.any fun r => r.1 == m.reqSeq) = true)) ∧
    (∃ (s : State) (w a n : Nat), w < 4 ∧ (s.wit w).denied = some (a, n) ∧ expired a n s.clock = true ∧ s.fov.requesting.isSome = true ∧ (s.wit w).st = .ready) ∧
    (∃ (s : State) (a w : Nat), s.fov.renewArmed = some a ∧ s.fov.holder = true ∧ a + renewTurns ≤ s.clock ∧ w < s.witnessCount ∧ (s.wit w).st = .ready) ∧
    (∃ (s : State) (w q r a : Nat), w < 4 ∧ s.fov.requesting = none ∧ s.fov.holder = true ∧ (s.wit w).waiting = some q ∧ (((s.wit w).reqs.find? fun r => r.1 == q) = some (r, a)) ∧ a + resendTurns ≤ s.clock ∧ (s.wit w).st = .ready) ∧
    (∃ (s : State) (a n : Nat), s.fov.backoff = some (a, n) ∧ expired a n s.clock = true ∧ s.fov.eligible = true ∧ s.fov.requesting = none ∧ s.fov.takeover = none) ∧
    (∃ (s : State), s.pawnValid = false ∧ s.serving = false) ∧
    (∃ (s : State), s.pawnValid = false ∧ s.serving = true) ∧
    (∃ (s : State), s.pawnHeld = false) := by
  refine ⟨⟨witUp .standby { Witness.none with st := .ready }, 1, { pawnMsg with type := Pawn.challenge }, ?_, ?_, ?_⟩,
    ⟨witUp .active Witness.none, 9, 0, { pawnMsg with type := Pawn.challenge, shelf := 9 }, served0, ?_, ?_, ?_, ?_⟩,
    ⟨witUp .standby { Witness.none with st := .proving }, 1, 5, { pawnMsg with type := Pawn.proof }, wcfg, ?_, ?_, ?_, ?_⟩,
    ⟨witUp .standby { Witness.none with st := .proving, proofArmed := some 0 }, 1, ?_, ?_⟩,
    ⟨witUp .standby { Witness.none with retryArmed := some 0 }, 1, wcfg, ?_, ?_, ?_, ?_, ?_⟩,
    ⟨witUp .standby { Witness.none with st := .ready, expiry := 7 }, 1, ?_, ?_⟩,
    ⟨witUp .standby { Witness.none with st := .ready, reqs := [(5, 2 ^ 40 - 9)] }, 1, 5, 2 ^ 40 - 9, { pawnMsg with type := Pawn.grant, reqSeq := 5, leaseId := 8 }, ?_, ?_, ?_, ?_⟩,
    ⟨witUp .standby { Witness.none with st := .ready, reqs := [(5, 2 ^ 40 - 9)] }, 1, { pawnMsg with type := Pawn.deny, reqSeq := 5 }, ?_, ?_, ?_, ?_⟩,
    ⟨{ witUp .standby { Witness.none with st := .ready, denied := some (0, 9) } with fov := { (witUp .standby { Witness.none with st := .ready, denied := some (0, 9) }).fov with requesting := some 0 } }, 1, 0, 9, ?_, ?_, ?_, ?_, ?_⟩,
    ⟨{ witUp .active { Witness.none with st := .ready } with fov := { (witUp .active { Witness.none with st := .ready }).fov with holder := true, renewArmed := some 0 } }, 0, 1, ?_, ?_, ?_, ?_, ?_⟩,
    ⟨{ witUp .active { Witness.none with st := .ready, waiting := some 5, reqs := [(5, 0)] } with fov := { (witUp .active { Witness.none with st := .ready, waiting := some 5, reqs := [(5, 0)] }).fov with holder := true } }, 1, 5, 5, 0, ?_, ?_, ?_, ?_, ?_, ?_, ?_⟩,
    ⟨{ witUp .standby Witness.none with fov := { (witUp .standby Witness.none).fov with backoff := some (0, 9) } }, 0, 9, ?_, ?_, ?_, ?_, ?_⟩,
    ⟨witUp .standby Witness.none, ?_, ?_⟩,
    ⟨witUp .active Witness.none, ?_, ?_⟩,
    ⟨witUp .standby Witness.none, ?_⟩⟩ <;> first | decide | rfl | simp [helloMismatch]

theorem wit_WitnessAndPeerCommands :
    (∃ (s : State) (sh c : Nat) (m : PawnMsg) (x : Served), tget s.fov.served sh = some x ∧ s.witnesses = true ∧ x.proved c = true ∧ pawnFits m Pawn.request sh c = true ∧ x.since + quietTurns ≤ s.clock ∧ x.holder = some c) ∧
    (∃ (s : State) (sh c h : Nat) (m : PawnMsg) (x : Served), tget s.fov.served sh = some x ∧ s.witnesses = true ∧ x.proved c = true ∧ pawnFits m Pawn.request sh c = true ∧ x.since + quietTurns ≤ s.clock ∧ x.holder = some h ∧ h ≠ c ∧ s.clock < x.guardEnd) ∧
    (∃ (s : State) (sh c : Nat) (m : PawnMsg) (x : Served), tget s.fov.served sh = some x ∧ s.witnesses = true ∧ x.proved c = true ∧ pawnFits m Pawn.request sh c = true ∧ x.since + quietTurns ≤ s.clock ∧ x.holder = none ∧ x.contention = none) ∧
    (∃ (s : State) (sh c a : Nat) (m : PawnMsg), (((tget s.fov.served sh).bind fun x => x.contention) = some (c, a, m)) ∧ expired a contentionTurns s.clock = true) ∧
    (∃ (s : State) (sh c : Nat) (m : PawnMsg) (x : Served), tget s.fov.served sh = some x ∧ s.witnesses = true ∧ x.proved c = true ∧ pawnFits m Pawn.release sh c = true ∧ x.holder = some c) ∧
    (∃ (s : State) (lane : Nat) (h : Hello), lane < 2 ∧ helloMismatch s.ownHello h = none) ∧
    (∃ (s : State) (lane c : Nat) (h : Hello), lane < 2 ∧ helloMismatch s.ownHello h = some c) ∧
    (∃ (s : State) (lane : Nat) (b : Heartbeat), lane < 2 ∧ s.fov.hello.isSome = true ∧ s.cfg.state = .standby) ∧
    (∃ (s : State), s.inReset = false ∧ s.fov.beatSent + 4883 ≤ s.clock ∧ s.peerLink = true) ∧
    (∃ (s : State), s.fov.peerUp = true ∧ (s.fov.beatTurn + 24415 ≤ s.clock ∨ s.peerLink = false)) ∧
    (∃ (s : State), s.cfg.state = .recovery ∧ due s.fov.helloArmed 24415 s.clock = true) ∧
    (∃ (s : State) (map : Nat), s.pwr.slots.length = 24 ∧ s.cfg.state ≠ .standby) ∧
    (∃ (s : State), s.serving = true ∧ s.fov.demandTurn + 2 ^ 19 ≤ s.clock) ∧
    (∃ (s : State) (slot : Nat), s.slotOn slot = true ∧ s.serving = true ∧ (s.chan slot).st = .stopping ∧ (s.chan slot).ackArmed.isSome = true) ∧
    (∃ (s : State) (slot v g p : Nat), s.slotOn slot = true ∧ s.serving = true ∧ (bitOf v 3 = true ∨ bitOf v 4 = true) ∧ s.posOfSlot slot = some (g, p) ∧ (s.pos g p).st ≠ .failed) ∧
    (∃ (s : State) (reason : Nat) (planned : Bool), s.cfg.state = .standby ∧ s.fov.eligible = true ∧ s.fov.requesting = none ∧ s.fov.takeover = none) := by
  refine ⟨⟨srvUp { served1 with holder := some 0 }, 9, 0, { pawnMsg with type := Pawn.request, shelf := 9 }, { served1 with holder := some 0 }, ?_, ?_, ?_, ?_, ?_, ?_⟩,
    ⟨srvUp { served1 with holder := some 1, guardEnd := 2 ^ 41 }, 9, 0, 1, { pawnMsg with type := Pawn.request, shelf := 9 }, { served1 with holder := some 1, guardEnd := 2 ^ 41 }, ?_, ?_, ?_, ?_, ?_, ?_, ?_, ?_⟩,
    ⟨srvUp served1, 9, 0, { pawnMsg with type := Pawn.request, shelf := 9 }, served1, ?_, ?_, ?_, ?_, ?_, ?_, ?_⟩,
    ⟨srvUp { served1 with contention := some (0, 0, pawnMsg) }, 9, 0, 0, pawnMsg, ?_, ?_⟩,
    ⟨srvUp { served1 with holder := some 0 }, 9, 0, { pawnMsg with type := Pawn.release, shelf := 9 }, { served1 with holder := some 0 }, ?_, ?_, ?_, ?_, ?_⟩,
    ⟨ph .active, 1, (ph .active).ownHello, ?_, ?_⟩,
    ⟨ph .active, 1, 1, { (ph .active).ownHello with order := 9999 }, ?_, ?_⟩,
    ⟨{ ph .standby with fov := { fovReset with hello := some (ph .standby).ownHello } }, 0, ⟨4, 3, 0, 0⟩, ?_, ?_, ?_⟩,
    ⟨laneLink, ?_, ?_, ?_⟩,
    ⟨{ laneLink with fov := { fovReset with peerUp := true } }, ?_, ?_⟩,
    ⟨{ laneLink with cfg := { laneLink.cfg with state := .recovery }, fov := { fovReset with helloArmed := some 0 } }, ?_, ?_⟩,
    ⟨setUp .on 0, 9, ?_, ?_⟩,
    ⟨laneLink, ?_, ?_⟩,
    ⟨chUp { Chan.none with st := .stopping, ackArmed := some 0, peerDemand := true }, 3, ?_, ?_, ?_, ?_⟩,
    ⟨walkUp false .online, 3, 8, 0, 3, ?_, ?_, ?_, ?_, ?_⟩,
    ⟨ph .standby, 0, true, ?_, ?_, ?_, ?_⟩⟩ <;> first | decide | rfl | simp [helloMismatch]

theorem wit_MirrorAndTakeoverCommands :
    (∃ (s : State) (seq : Nat) (ds : List DeltaRead), s.cfg.state = .standby ∧ s.fov.warmth = .warm ∧ s.fov.copying = false) ∧
    (∃ (s : State) (es : List DeltaRead), s.cfg.state = .standby ∧ s.fov.warmth = .cold ∧ s.fov.copying = true) ∧
    (∃ (s : State) (tr : Trailer), s.cfg.state = .standby) ∧
    (∃ (s : State) (l : List Nat), s.cfg.state = .standby) ∧
    (∃ (s : State) (nsid id : Nat), s.cfg.state = .standby) ∧
    (∃ (s : State) (seq : Nat), s.serving = true ∧ ((s.fov.buffer.any fun m => m.1 == seq) = true)) ∧
    (∃ (s : State) (x : Takeover), s.fov.takeover = some x ∧ x.fitDone = false ∧ s.rd Reg.CMP_CLANE_FAULT = 0 ∧ s.rd Reg.CMP_DLANE_FAULT = 0 ∧ s.rd Reg.CPH_ENG_FAULT = 0) ∧
    (∃ (s : State) (ctrl cid : Nat), Serves s ctrl (.mgmt (some RoleBit.admin)) ∧ s.cfg.state = .active ∧ s.fov.handOver = none ∧ s.fov.peerUp = true ∧ ((s.fov.beat.any fun b => b.state == 4 && beatEligible b && beatWarm b) = true)) ∧
    (∃ (s : State) (h : HandOver), s.fov.handOver = some h ∧ h.drained = false ∧ due h.armed 48829 s.clock = true) ∧
    (∃ (s : State), due s.lay.fence (2 ^ 22) s.clock = true) ∧
    (∃ (s : State) (a : Nat), s.fov.unserviceable = some a ∧ s.noneEligible = true ∧ a + 2 ^ 22 ≤ s.clock) ∧
    (∃ (s : State) (nsid extent q : Nat) (r : ReplicaCfg), s.deferredReplica nsid = some r ∧ s.serving = true ∧ s.fov.replica.contains (nsid, extent) = true ∧ s.shelfQp r.peerShelf = some q) ∧
    (∃ (s : State) (shelf : Nat), due (tget s.fov.replicaDown shelf) (2 ^ 22) s.clock = true) := by
  refine ⟨⟨{ ph .standby with fov := { fovReset with warmth := .warm, mirror := 4 } }, 6, [delta0], ?_, ?_, ?_⟩,
    ⟨{ ph .standby with fov := { fovReset with copying := true, mirror := 4 } }, [delta0], ?_, ?_, ?_⟩,
    ⟨ph .standby, ⟨3, [], [], 2⟩, ?_⟩,
    ⟨ph .standby, [1], ?_⟩,
    ⟨ph .standby, 1, 9, ?_⟩,
    ⟨{ ph .active with fov := { fovReset with buffer := [(5, 80), (4, 80), (3, 80)] } }, 4, ?_, ?_⟩,
    ⟨{ ph .standby with fov := { fovReset with takeover := some ⟨0, 1, false, false, false⟩ } }, ⟨0, 1, false, false, false⟩, ?_, ?_, ?_, ?_, ?_⟩,
    ⟨{ ph .active with fov := { fovReset with peerUp := true, beat := some ⟨4, 3, 0, 0⟩ } }, 7, 3, ?_, ?_, ?_, ?_, ?_⟩,
    ⟨{ laneLink with fov := { fovReset with handOver := some ⟨7, 3, some 0, false⟩ } }, ⟨7, 3, some 0, false⟩, ?_, ?_, ?_⟩,
    ⟨{ laneLink with lay := { layReset with fence := some 0 } }, ?_⟩,
    ⟨{ laneLink with fov := { fovReset with eligible := false, unserviceable := some 0 } }, 0, ?_, ?_, ?_⟩,
    ⟨{ witUp .active Witness.none with fov := { fovReset with replica := [(1, 7)] } }, 1, 7, 5, ⟨1, 33, 0, 0⟩, ?_, ?_, ?_, ?_⟩,
    ⟨{ laneLink with fov := { fovReset with replicaDown := [(33, 0)] } }, 33, ?_⟩⟩ <;> first | decide | rfl | simp [helloMismatch]

theorem wit_EndpointCommands :
    (∃ (s : State) (perst : Bool), s.inReset = false) ∧
    (∃ (s : State), s.inReset = false ∧ s.sep.link = .held ∧ s.cfg.state = .safeHold) ∧
    (∃ (s : State) (speed width : Nat) (c : SepConfig), s.sep.link = .training ∧ speed ≤ s.sep.table.maxSpeed ∧ width ≤ s.sep.table.maxWidth) ∧
    (∃ (s : State) (d3hot : Bool), s.sep.link = .active ∧ s.sep.flr = none) ∧
    (∃ (s : State) (v : Nat) (c : SepConfig), v < 256 ∧ s.sep.link = .active ∧ s.sep.flr = none) ∧
    (∃ (s : State) (tail : Nat), s.inReset = false ∧ s.mailboxOpen = true ∧ s.sep.busy = none ∧ tail < 8 ∧ s.sep.sqHead < 8 ∧ s.sep.sqHead ≠ tail ∧ s.rd Reg.SEP_MBX_SQ 0 (16 * s.sep.sqHead + 6) % 4096 = 0 ∧ s.rd Reg.SEP_MBX_SQ 0 (16 * s.sep.sqHead + 8) ≤ 2 ^ 24) ∧
    (∃ (s : State) (tail : Nat), s.inReset = false ∧ s.mailboxOpen = true ∧ s.sep.busy = none ∧ tail < 8 ∧ s.sep.sqHead < 8 ∧ s.sep.sqHead ≠ tail ∧ s.rd Reg.SEP_MBX_SQ 0 (16 * s.sep.sqHead + 6) % 4096 ≠ 0) ∧
    (∃ (s : State) (cid copy addr len : Nat) (im : Option Image), s.mailboxOpen = true ∧ s.sep.locked = false ∧ s.cfg.state = .safeHold ∧ addr % 4096 = 0 ∧ len % 4096 = 0 ∧ 4096 ≤ len ∧ len ≤ 2 ^ 24 ∧ s.sep.flash = none) ∧
    (∃ (s : State) (cid copy addr len : Nat) (im : Option Image), s.mailboxOpen = true ∧ s.sep.locked = false ∧ s.cfg.state ≠ .safeHold) ∧
    (∃ (s : State) (j : FlashJob), s.sep.flash = some j ∧ j.step = .reading ∧ s.mailboxOpen = true ∧ s.sep.bme = true) ∧
    (∃ (s : State) (j : FlashJob), s.sep.flash = some j ∧ j.step = .erasing ∧ j.copy < s.cfg.spi.length) ∧
    (∃ (s : State) (j : FlashJob), s.sep.flash = some j ∧ j.step = .erasing) ∧
    (∃ (s : State) (j : FlashJob), s.sep.flash = some j ∧ j.step = .body) ∧
    (∃ (s : State) (j : FlashJob), s.sep.flash = some j ∧ j.step = .header ∧ j.copy < s.cfg.spi.length) ∧
    (∃ (s : State), s.sep.link = .active ∧ s.sep.flr = none) ∧
    (∃ (s : State) (f : Nat), s.sep.flr = some f ∧ f + 490 ≤ s.clock) ∧
    (∃ (s : State) (f : Nat), s.sep.flr = some f ∧ f + 48829 ≤ s.clock) ∧
    (∃ (s : State) (c : ContainCause), s.sep.link = .active ∧ s.sep.contained = none) ∧
    (∃ (s : State), s.sep.contained.isSome = true) := by
  refine ⟨⟨sepUp .active { sepReset with contained := some 3, locked := true }, false, ?_⟩,
    ⟨{ ph .safeHold with sep := { sepReset with perst := true, link := .held } }, ?_, ?_, ?_⟩,
    ⟨{ ph .active with sep := { sepReset with link := .training } }, 0, 0, ⟨true, true, false⟩, ?_, ?_, ?_⟩,
    ⟨sepUp .active sepReset, true, ?_, ?_⟩,
    ⟨sepUp .active sepReset, 255, ⟨true, true, false⟩, ?_, ?_, ?_⟩,
    ⟨sepUp .active { sepReset with sqHead := 7 }, 0, ?_, ?_, ?_, ?_, ?_, ?_, ?_, ?_⟩,
    ⟨(sepUp .active { sepReset with sqHead := 7 }).wr Reg.SEP_MBX_SQ 0 118 1, 0, ?_, ?_, ?_, ?_, ?_, ?_, ?_⟩,
    ⟨sepUp .safeHold sepReset, 7, 1, 0, 4096, none, ?_, ?_, ?_, ?_, ?_, ?_, ?_, ?_⟩,
    ⟨sepUp .active sepReset, 7, 1, 0, 4096, none, ?_, ?_, ?_⟩,
    ⟨sepUp .safeHold { sepReset with bme := true, flash := some (flash0 .reading) }, flash0 .reading, ?_, ?_, ?_, ?_⟩,
    ⟨sepUp .safeHold { sepReset with flash := some (flash0 .erasing) }, flash0 .erasing, ?_, ?_, ?_⟩,
    ⟨sepUp .safeHold { sepReset with flash := some (flash0 .erasing) }, flash0 .erasing, ?_, ?_⟩,
    ⟨sepUp .safeHold { sepReset with flash := some (flash0 .body) }, flash0 .body, ?_, ?_⟩,
    ⟨sepUp .safeHold { sepReset with flash := some (flash0 .header) }, flash0 .header, ?_, ?_, ?_⟩,
    ⟨sepUp .active sepReset, ?_, ?_⟩,
    ⟨sepUp .active { sepReset with flr := some (2 ^ 40 - 490) }, 2 ^ 40 - 490, ?_, ?_⟩,
    ⟨sepUp .active { sepReset with flr := some (2 ^ 40 - 48829), contained := some 2 }, 2 ^ 40 - 48829, ?_, ?_⟩,
    ⟨sepUp .active { sepReset with busy := some 9 }, .surpriseDown, ?_, ?_⟩,
    ⟨sepUp .active { sepReset with contained := some 2 }, ?_⟩⟩ <;> first | decide | rfl | simp [helloMismatch]

theorem wit_EventAndCounterCommands :
    (∃ (s : State) (head : Nat), s.inReset = false ∧ head < 2 ^ 18 ∧ (head + ringSlots - s.ringHead) % ringSlots ≤ (s.evt.tail + ringSlots - s.ringHead) % ringSlots) ∧
    (∃ (s : State) (w : Writer) (head : Nat), s.inReset = false ∧ w ≠ .endpoint) ∧
    (∃ (s : State) (ctrl cid n : Nat) (q : EvtQueue), s.gate ctrl (.mgmt none) = .pass ∧ s.cfg.state ≠ .activating ∧ 1 ≤ n ∧ n ≤ 128 ∧ tget s.evt.queues ctrl = some q) ∧
    (∃ (s : State) (ctrl cid n : Nat), s.gate ctrl (.mgmt none) = .pass ∧ s.cfg.state ≠ .activating ∧ 128 < n ∧ n < 256) ∧
    (∃ (s : State) (w : Writer), s.inReset = false ∧ ((w = .endpoint → s.cfg.state ≠ .safeHold))) ∧
    (∃ (s : State) (w : Writer), s.inReset = false ∧ tgetD s.cnt.vals (s.rd (Reg.CNT_SEL.forWriter w)) 0 < 2 ^ 48) ∧
    (∃ (s : State) (c inst : Nat), s.inReset = false ∧ c < 384 ∧ tgetD s.cnt.vals c 0 = 2 ^ 48 - 1) ∧
    (∃ (s : State) (c : Nat), s.inReset = false ∧ c < 384 ∧ s.ovfPending c = true ∧ tgetD s.cnt.sinceWrap c 0 ≤ 64) ∧
    (∃ (s : State) (c : Nat), s.inReset = false ∧ c < 384 ∧ s.ovfPending c = true ∧ 64 < tgetD s.cnt.sinceWrap c 0) ∧
    (∃ (s : State) (turn : Nat), s.inReset = false ∧ s.cnt.running = some turn ∧ s.cnt.passes + 1 < 2 ^ 32) ∧
    (∃ (s : State) (w : Writer) (v : Nat), s.inReset = false ∧ ((w = .endpoint → s.cfg.state ≠ .safeHold)) ∧ v ≤ 20) ∧
    (∃ (s : State) (w : Writer) (v : Nat), s.inReset = false ∧ ((w = .endpoint → s.cfg.state ≠ .safeHold)) ∧ 20 < v ∧ v < 32) ∧
    (∃ (s : State) (ctrl cid n : Nat) (x : Snap), s.gate ctrl (.mgmt (some RoleBit.observer)) = .pass ∧ s.cfg.state ≠ .activating ∧ s.snapshotOf n = some x) ∧
    (∃ (s : State) (ctrl cid n : Nat), s.gate ctrl (.mgmt (some RoleBit.observer)) = .pass ∧ s.cfg.state ≠ .activating ∧ s.snapshotOf n = none) := by
  refine ⟨⟨{ ph .active with evt := { evtReset with tail := 7 } }, 7, ?_, ?_, ?_⟩,
    ⟨ph .active, .session, 0, ?_, ?_⟩,
    ⟨{ ph .active with evt := { evtReset with queues := [(7, ⟨[⟨ev0, true, false, 3⟩], 2⟩)] } }, 7, 3, 1, ⟨[⟨ev0, true, false, 3⟩], 2⟩, ?_, ?_, ?_, ?_, ?_⟩,
    ⟨ph .active, 7, 3, 129, ?_, ?_, ?_, ?_⟩,
    ⟨ph .active, .endpoint, ?_, ?_⟩,
    ⟨(ph .active).wr (Reg.CNT_SEL.forWriter .core) 0 0 383, .core, ?_, ?_⟩,
    ⟨{ ph .active with cnt := { cntReset with vals := [(383, 2 ^ 48 - 1)] } }, 383, 0, ?_, ?_, ?_⟩,
    ⟨(ph .active).setOvfPending 383 true, 383, ?_, ?_, ?_, ?_⟩,
    ⟨({ ph .active with cnt := { cntReset with sinceWrap := [(383, 65)] } } : State).setOvfPending 383 true, 383, ?_, ?_, ?_, ?_⟩,
    ⟨{ ph .active with cnt := { cntReset with running := some 4096, passes := 2047 } }, 4096, ?_, ?_, ?_⟩,
    ⟨ph .active, .core, 20, ?_, ?_, ?_⟩,
    ⟨ph .active, .session, 21, ?_, ?_, ?_, ?_⟩,
    ⟨{ ph .active with cnt := { cntReset with passes := 5, slots := [(5, ⟨5, 4096, false, 8, 8, [], [1, 2], 0, []⟩)] } }, 7, 3, 5, ⟨5, 4096, false, 8, 8, [], [1, 2], 0, []⟩, ?_, ?_, ?_⟩,
    ⟨ph .active, 7, 3, 0, ?_, ?_, ?_⟩⟩ <;> first | decide | rfl | simp [helloMismatch]

theorem wit_RegisterCommands :
    (∃ (s : State) (w : Writer) (v : Nat), s.inReset = false ∧ v ≤ 383) ∧
    (∃ (s : State) (w : Writer) (v : Nat), s.inReset = false ∧ 384 ≤ v ∧ v < 512) ∧
    (∃ (s : State) (v : Nat), s.inReset = false ∧ bitOf v 0 = true ∧ s.rd Reg.TRN_OVERRUN_SCH_REFILL = 1) ∧
    (∃ (s : State) (v : Nat), s.inReset = false ∧ s.cfg.locked = false) ∧
    (∃ (s : State) (w : Writer) (v : Nat), s.inReset = false ∧ s.cfg.locked = true ∧ v < 2 ^ 48 ∧ s.rd Reg.TRN_EPOCH < 2 ^ 48 ∧ v ≠ s.rd Reg.TRN_EPOCH) ∧
    (∃ (s : State) (w : Writer) (v : Nat), v < 2 ^ 48 ∧ v = s.rd Reg.TRN_EPOCH) ∧
    (∃ (s : State) (w : Writer) (off n v : Nat), accessOk off n = false) ∧
    (∃ (s : State) (w : Writer) (off n v : Nat), fieldsAt off n = []) ∧
    (∃ (s : State) (w : Writer), s.inReset = false ∧ tgetD s.cnt.vals (s.rd (Reg.CNT_SEL.forWriter w)) 0 < 2 ^ 48) ∧
    (∃ (s : State) (ctrl cid : Nat) (l : List SeqEntry), s.gate ctrl (.mgmt none) = .pass ∧ s.cfg.state ≠ .activating ∧ s.cmd.seqs = [] ∧ l ≠ [] ∧ l.length ≤ 64 ∧ ((∀ e ∈ l, e.op = 0 ∧ e.offset % 4 = 0 ∧ e.offset < 0x1500000))) ∧
    (∃ (s : State) (ctrl cid n : Nat) (l : List SeqEntry) (c : Ctrl), s.gate ctrl (.mgmt none) = .pass ∧ s.cfg.state ≠ .activating ∧ 1 ≤ n ∧ n ≤ 64 ∧ n ≤ l.length ∧ (((l.take n).any fun e => e.op == 1 || e.op == 3) = true) ∧ s.ctrlOf ctrl = some c ∧ c.may (some RoleBit.admin) = false) ∧
    (∃ (s : State) (ctrl cid : Nat) (e : SeqEntry) (l : List SeqEntry), s.gate ctrl (.mgmt none) = .pass ∧ s.cfg.state ≠ .activating ∧ s.cmd.seqs = [] ∧ l.length < 64 ∧ (((e :: l).any fun x => x.op == 1 || x.op == 3) = false) ∧ e.op = 4 ∧ e.offset % 4 = 0 ∧ e.offset < 0x1500000) := by
  refine ⟨⟨ph .safeHold, .endpoint, 383, ?_, ?_⟩,
    ⟨ph .active, .core, 384, ?_, ?_, ?_⟩,
    ⟨(ph .active).wr Reg.TRN_OVERRUN_SCH_REFILL 0 0 1, 1, ?_, ?_, ?_⟩,
    ⟨ph .shelfIdle, 77, ?_, ?_⟩,
    ⟨{ ph .active with cfg := { (ph .active).cfg with locked := true } }, .session, 77, ?_, ?_, ?_, ?_, ?_⟩,
    ⟨ph .active, .endpoint, 0, ?_, ?_⟩,
    ⟨ph .active, .core, 2, 4, 7, ?_⟩,
    ⟨ph .active, .core, 0x4000, 4, 7, ?_⟩,
    ⟨ph .active, .endpoint, ?_, ?_⟩,
    ⟨ph .active, 7, 3, [⟨0, 0, 0, 0⟩, ⟨Reg.IDN_DIE_WAFER.off, 0, 0, 0⟩], ?_, ?_, ?_, ?_, ?_, ?_⟩,
    ⟨{ ph .active with cmd := { (ph .active).cmd with ctrls := [(7, { Ctrl.session 0 with roles := some 14 })] } }, 7, 3, 1, [⟨0, 1, 0, 0⟩], { Ctrl.session 0 with roles := some 14 }, ?_, ?_, ?_, ?_, ?_, ?_, ?_, ?_⟩,
    ⟨ph .active, 7, 3, ⟨0, 4, 0, 0⟩, [], ?_, ?_, ?_, ?_, ?_, ?_, ?_, ?_⟩⟩ <;> first | decide | rfl | simp [helloMismatch]

theorem wit_TurnBoundaryCommand :
    (∃ (s : State) (obs : TurnObs), s.inReset = false ∧ s.aligning = false) ∧
    (∃ (s : State) (obs : TurnObs), s.inReset = false ∧ s.aligning = true ∧ s.alignFits = true) ∧
    (∃ (s : State) (obs : TurnObs), s.inReset = true) := by
  refine ⟨⟨ph .active, ⟨[], 0, 0, 0, [], [], [], false⟩, ?_, ?_⟩,
    ⟨{ ph .active with deferred := [.align false] }, ⟨[], 0, 0, 0, [], [], [], false⟩, ?_, ?_, ?_⟩,
    ⟨State.reset, ⟨[], 0, 0, 0, [], [], [], false⟩, ?_⟩⟩ <;> first | decide | rfl | simp [helloMismatch]

theorem wit_LockedFieldsAreKept :
    (∃ (s : State) (w : Writer) (off n v : Nat), s.inReset = false ∧ accessOk off n = true ∧ s.cfg.locked = true ∧ (((fieldsAt off n).all fun x => decide (x.1.acc = .rwl) && s.fldPresent x.1 x.2.1) = true) ∧ (((fieldsAt off n).any fun x => splice (x.1.key x.2.1 x.2.2) x.1.width off n v (s.rd (x.1.onPath w) x.2.1 x.2.2) != s.rd (x.1.onPath w) x.2.1 x.2.2) = true)) ∧
    (∃ (s : State) (w : Writer) (off n v : Nat), s.inReset = false ∧ accessOk off n = true ∧ s.cfg.locked = true ∧ (((fieldsAt off n).all fun x => decide (x.1.acc = .rwl) && s.fldPresent x.1 x.2.1) = true) ∧ (((fieldsAt off n).any fun x => splice (x.1.key x.2.1 x.2.2) x.1.width off n v (s.rd (x.1.onPath w) x.2.1 x.2.2) != s.rd (x.1.onPath w) x.2.1 x.2.2) = false)) := by
  refine ⟨⟨{ ph .active with cfg := { (ph .active).cfg with locked := true } }, .session, Reg.TRN_EPOCH.off, 8, 77, ?_, ?_, ?_, ?_, ?_⟩,
    ⟨{ ph .active with cfg := { (ph .active).cfg with locked := true } }, .core, Reg.TRN_EPOCH.off, 8, 0, ?_, ?_, ?_, ?_, ?_⟩⟩ <;> first | decide | rfl | simp [helloMismatch]

theorem wit_AbortCancelsACommit :
    (∃ (s : State) (w : Writer) (b : BankId), s.inReset = false ∧ w ≠ .endpoint ∧ bankUnit b < 8 ∧ s.bankBit b BankBit.commit = true) ∧
    (∃ (s : State) (w : Writer) (b : BankId), s.inReset = false ∧ w ≠ .endpoint ∧ bankUnit b < 8 ∧ s.rd { bankCtl b with lo := BankBit.commit } (bankUnit b) 0 = 0) ∧
    (∃ (s : State) (b : BankId), s.inReset = false ∧ bankUnit b < 8) := by
  refine ⟨⟨(ph .active).setBankBit (.gates 7) BankBit.commit true, .core, .gates 7, ?_, ?_, ?_, ?_⟩,
    ⟨ph .active, .session, .windows, ?_, ?_, ?_, ?_⟩,
    ⟨ph .active, .masks, ?_, ?_⟩⟩ <;> first | decide | rfl | simp [helloMismatch]

theorem wit_PacketsWithoutAQueuePair :
    (∃ (s : State) (p : Pkt) (pos : PktPos) (imm : Option Nat) (rkey va len : Nat) (l : List Byte), p.unit < 16 ∧ s.unitOn p.unit = true ∧ s.carries p.unit = true ∧ p.lastCycles = false ∧ ((s.qp? (p.qpn % 65536)).all (fun q => qpnOf q.gen (p.qpn % 65536) != p.qpn) = true)) ∧
    (∃ (s : State) (qpn psn wait : Nat) (rx tx : Stamp) (c : NakCode), s.inReset = false ∧ ((s.qp? (qpn % 65536)).all (fun q => qpnOf q.gen (qpn % 65536) != qpn) = true)) := by
  refine ⟨⟨qpUp qp0, { pkt with qpn := qpnOf 3 5 }, .only, none, 0, 0, 0, [], ?_, ?_, ?_, ?_, ?_⟩,
    ⟨qpUp qp0, qpnOf 0 6, 0, 0, ⟨0, 0, 0⟩, ⟨0, 0, 0⟩, .psnSequence, ?_, ?_⟩⟩ <;> first | decide | rfl | simp [helloMismatch]

theorem wit_EnrolmentOnlyInSafeHold :
    (∃ (s : State) (w : Writer), s.inReset = false ∧ s.cfg.state ≠ .safeHold) ∧
    (∃ (s : State) (w : Writer), s.inReset = false ∧ s.cfg.state ≠ .safeHold) ∧
    (∃ (s : State) (w : Writer) (j v : Nat), s.inReset = false ∧ s.cfg.state ≠ .safeHold ∧ j < 16) ∧
    (∃ (s : State) (w : Writer) (j v : Nat), s.inReset = false ∧ s.cfg.state ≠ .safeHold ∧ j < 8) ∧
    (∃ (s : State) (w : Writer) (j v : Nat), s.inReset = false ∧ s.cfg.state ≠ .safeHold ∧ j < 32) ∧
    (∃ (s : State) (w : Writer) (v : Nat), s.inReset = false ∧ s.cfg.state ≠ .safeHold) := by
  refine ⟨⟨ph .active, .endpoint, ?_, ?_⟩,
    ⟨ph .shelfIdle, .core, ?_, ?_⟩,
    ⟨ph .active, .endpoint, 15, 7, ?_, ?_, ?_⟩,
    ⟨ph .active, .endpoint, 7, 7, ?_, ?_, ?_⟩,
    ⟨ph .active, .core, 31, 7, ?_, ?_, ?_⟩,
    ⟨ph .active, .core, 15, ?_, ?_⟩⟩ <;> first | decide | rfl | simp [helloMismatch]

theorem wit_UnauthenticatedSessions :
    (∃ (s : State) (qp cid hostnqn sqsize kato c : Nat) (q : Qp), s.qp? qp = some q ∧ q.st = .rts ∧ q.service = 1 ∧ s.queueOf qp = none ∧ 2 ≤ sqsize ∧ sqsize ≤ 32 ∧ 1000 ≤ kato ∧ kato ≤ 3600000 ∧ s.freeCtrl = some c) ∧
    (∃ (s : State) (ctrl cid : Nat) (c : Ctrl), s.ctrlOf ctrl = some c ∧ c.mgmt = true ∧ c.roles = none ∧ ((isMailbox ctrl = true → s.sep.locked = false ∧ s.cfg.state ≠ .safeHold))) := by
  refine ⟨⟨{ qpUp { qp0 with service := 1 } with cmd := cmdReset }, 5, 3, 9, 32, 3600000, 1, { qp0 with service := 1 }, ?_, ?_, ?_, ?_, ?_, ?_, ?_, ?_, ?_⟩,
    ⟨{ ph .active with cmd := { cmdReset with ctrls := [(7, Ctrl.session 0)] } }, 7, 3, Ctrl.session 0, ?_, ?_, ?_, ?_⟩⟩ <;> first | decide | rfl | simp [helloMismatch]

theorem wit_RingHeadOutOfRange :
    ∃ (s : State) (w : Writer) (head : Nat), s.inReset = false ∧ head < 2 ^ 18 ∧ (s.evt.tail + ringSlots - s.ringHead) % ringSlots < (head + ringSlots - s.ringHead) % ringSlots := by
  refine ⟨{ ph .active with evt := { evtReset with tail := 7 } }, .endpoint, 8, ?_, ?_, ?_⟩ <;> first | decide | rfl | simp [helloMismatch]

theorem wit_CodecsRoundTrip :
    (∃ (d : WinDesc), d.keyTag < 2 ^ 14 ∧ d.tenant < 2 ^ 16 ∧ d.nsid < 2 ^ 16 ∧ d.handle < 2 ^ 16 ∧ d.length < 2 ^ 13 ∧ d.openTurn < 2 ^ 32 ∧ d.listAddr < 2 ^ 64) ∧
    (∃ (g i h j : Nat), g < 16 ∧ i < 65536 ∧ h < 16 ∧ j < 65536) ∧
    (∃ (tag i : Nat), i < 2 ^ 18 ∧ tag < 2 ^ 14) ∧
    (∃ (l : List Nat) (b : Nat), l.Nodup ∧ (∀ x ∈ l, x < 256) ∧ b < 256) ∧
    (∃ (bs : List Bool) (n : Nat), bs.length ≤ 8 * n ∧ 8 * n < bs.length + 8) := by
  refine ⟨⟨⟨.isOpen, true, true, false, true, false, 16383, 65535, 65535, 65535, 8191, 2 ^ 32 - 1, 2 ^ 64 - 1⟩, ?_, ?_, ?_, ?_, ?_, ?_, ?_⟩,
    ⟨15, 65535, 0, 65535, ?_, ?_, ?_, ?_⟩,
    ⟨16383, 262143, ?_, ?_⟩,
    ⟨[200, 3, 255, 0], 254, ?_, ?_, ?_⟩,
    ⟨[true, false, true, true, true, false, true, true, true], 2, ?_, ?_⟩⟩ <;> first | decide | rfl | simp [helloMismatch]

theorem wit_StripesRecover :
    (∃ (d : List Byte) (x : Nat) (q : Option Byte), d.length ≤ 22 ∧ x < d.length) ∧
    (∃ (d : List Byte) (x : Nat), d.length ≤ 22 ∧ x < d.length) ∧
    (∃ (d : List Byte) (x y : Nat), d.length ≤ 22 ∧ x < y ∧ y < d.length) ∧
    (∃ (d : List Byte) (x : Nat), x < d.length) ∧
    (∃ (d : List Byte) (x y : Nat) (p q : Option Byte), x < y ∧ y < d.length ∧ ((p = none ∨ q = none))) ∧
    (∃ (d : List Byte) (x y z : Nat) (p q : Option Byte), x < y ∧ y < z ∧ z < d.length) ∧
    (∃ (k r : Nat), 1 ≤ k) := by
  refine ⟨⟨[1, 2, 3], 2, none, ?_, ?_⟩,
    ⟨[1, 2, 3], 0, ?_, ?_⟩,
    ⟨[1, 2, 3], 0, 2, ?_, ?_, ?_⟩,
    ⟨[1, 2, 3], 1, ?_⟩,
    ⟨[1, 2, 3], 0, 1, none, some 4, ?_, ?_, ?_⟩,
    ⟨[1, 2, 3], 0, 1, 2, some 4, some 5, ?_, ?_, ?_⟩,
    ⟨10, 13, ?_⟩⟩ <;> first | decide | rfl | simp [helloMismatch]

end Sys2Proof.Tests
end

/-!
Register accesses after boot lock (R15, R650): what one locked field does with a write, what a run of such fields does, and with that
the whole access.
-/

namespace Sys2Proof.Machine

/-! ### An access as a run of field writes -/

/-- The value that a field instance would take from an access by a writer. -/
def State.newValue (s : State) (w : Writer) (off n val : Nat) (x : FldInst) : Nat :=
  splice (x.1.key x.2.1 x.2.2) x.1.width off n val (s.rd (x.1.onPath w) x.2.1 x.2.2)

/-- Would an access change a field instance on the writer's path (R650)? -/
def State.wouldChange (s : State) (w : Writer) (off n val : Nat) (x : FldInst) : Bool :=
  s.newValue w off n val x != s.rd (x.1.onPath w) x.2.1 x.2.2

/-- Is a field instance an RWL field of a unit that is present? -/
def State.isRwl (s : State) (x : FldInst) : Bool := decide (x.1.acc = .rwl) && s.fldPresent x.1 x.2.1

/-- One field of an access: the state so far, and whether some field so far was ignored. -/
def writeNext (w : Writer) (off n val : Nat) (a : State × Bool) (x : FldInst) : State × Bool :=
  let r := a.1.writeField w x (fieldBits (x.1.key x.2.1 x.2.2) x.1.width off n val) (a.1.newValue w off n val x)
  (r.1, a.2 || r.2)

/-- An access writes its fields one after the other, the W1S fields last. -/
theorem State.writeBar_eq (s : State) (w : Writer) (off n val : Nat) :
    s.writeBar w off n val =
      let a := ((fieldsAt off n).filter (·.1.acc == .w1s)).foldl (writeNext w off n val)
        (((fieldsAt off n).filter (·.1.acc != .w1s)).foldl (writeNext w off n val) (s, false))
      if a.2 then a.1.violation off (writerCode w) else a.1 := rfl

/-- Out of reset, an access of a good width and alignment completes with what its fields do. -/
theorem exec_registerWrite_up {s : State} {off n : Nat} (w : Writer) (val : Nat) (hup : s.inReset = false) (hok : accessOk off n = true) :
    exec (.registerWrite w off n val) s = .next (s.writeBar w off n val) := by
  have hexec : exec (.registerWrite w off n val) s = execRegisterWrite w off n val s := rfl
  simp [hexec, execRegisterWrite, State.up, hup, hok]

/-! ### RWL fields after boot lock -/

section Locked

variable {s : State}

/-- The access type of an RWL field is not W1S, so it belongs to the first part of an access. -/
theorem State.isRwl_ne_w1s {x : FldInst} (hx : s.isRwl x = true) : (x.1.acc == .w1s) = false := by
  obtain ⟨hacc, -⟩ : x.1.acc = .rwl ∧ s.fldPresent x.1 x.2.1 = true := by simpa [State.isRwl] using hx
  simp [hacc]

variable (hlock : s.cfg.locked = true)
include hlock

/-- A locked field keeps its value; the write counts as ignored exactly where it carries another value. -/
theorem State.writeField_locked {x : FldInst} (w : Writer) (bits new : Nat) (hx : s.isRwl x = true) :
    s.writeField w x bits new = (s, new != s.rd (x.1.onPath w) x.2.1 x.2.2) := by
  obtain ⟨hacc, hpres⟩ : x.1.acc = .rwl ∧ s.fldPresent x.1 x.2.1 = true := by simpa [State.isRwl] using hx
  by_cases hsame : new = s.rd (x.1.onPath w) x.2.1 x.2.2
  · simp [State.writeField, hacc, hpres, hsame]
  · simp [State.writeField, hacc, hpres, hsame, hlock]

/-- A run of locked fields leaves the state alone and notes whether the access would change one of them. -/
theorem foldl_writeNext_locked (w : Writer) (off n val : Nat) {xs : List FldInst} (hxs : ∀ x ∈ xs, s.isRwl x = true) (ignored : Bool) :
    xs.foldl (writeNext w off n val) (s, ignored) = (s, ignored || xs.any (s.wouldChange w off n val)) := by
  induction xs generalizing ignored with
  | nil => simp
  | cons x xs ih =>
    have hnext : writeNext w off n val (s, ignored) x = (s, ignored || s.wouldChange w off n val x) := by
      simp only [writeNext, s.writeField_locked hlock w _ _ (hxs x (by simp)), State.wouldChange]
    rw [List.foldl_cons, hnext, ih fun y hy => hxs y (List.mem_cons_of_mem x hy), List.any_cons, Bool.or_assoc]

/-- An access to locked fields alone raises one configuration-violation event where it would change a field, and does nothing else. -/
theorem State.writeBar_locked {off n : Nat} (w : Writer) (val : Nat) (hxs : ∀ x ∈ fieldsAt off n, s.isRwl x = true) :
    s.writeBar w off n val = if (fieldsAt off n).any (s.wouldChange w off n val) then s.violation off (writerCode w) else s := by
  have hplain : (fieldsAt off n).filter (·.1.acc != .w1s) = fieldsAt off n :=
    List.filter_eq_self.2 fun x hx => by simp [bne, s.isRwl_ne_w1s (hxs x hx)]
  have hacts : (fieldsAt off n).filter (·.1.acc == .w1s) = [] :=
    List.filter_eq_nil_iff.2 fun x hx => by simp [s.isRwl_ne_w1s (hxs x hx)]
  rw [State.writeBar_eq, hplain, hacts, foldl_writeNext_locked hlock w off n val hxs false]
  simp only [List.foldl_nil, Bool.false_or]

end Locked

/-- Settles O51 (R15 with R650): `writeBar_locked`, where the access would change a field and where it would not. That an access raises one event, however
many fields it would change, is the model's choice (assumption 15). -/
theorem lockedFieldsAreKept : Obligations.LockedFieldsAreKept := by
  unfold Obligations.LockedFieldsAreKept
  refine ⟨fun s w off n v hup hok hlock hrwl hchange => ?_, fun s w off n v hup hok hlock hrwl hsame => ?_⟩
  · refine ⟨_, exec_registerWrite_up w v hup hok, ?_⟩
    rw [State.writeBar_locked hlock w v (List.all_eq_true.1 hrwl)]
    exact if_pos hchange
  · refine ⟨_, exec_registerWrite_up w v hup hok, ?_⟩
    rw [State.writeBar_locked hlock w v (List.all_eq_true.1 hrwl)]
    exact if_neg (Bool.eq_false_iff.1 hsame)

end Sys2Proof.Machine

/-!
BANK_ABORT (R67, R653): what storing one bit of a table's PREFIX_BANK_CTL leaves in the register file, and with that what the command
does for each writer.
-/

namespace Sys2Proof.Machine

/-! ### One stored field in the register file -/

/-- A table of numbers keeps its entries under the other keys, whether the value stored is the default or not. -/
theorem tget_tput_ne (d : Nat) (t : Tbl Nat) {k j : Nat} (v : Nat) (h : j ≠ k) : tget (tput d t k v) j = tget t j := by
  unfold tput
  split
  · exact tget_tdel_ne t h
  · exact tget_tset_ne t v h

/-- Storing in a field leaves every other place of the register file as it is, not only what is read from it. -/
theorem State.tget_regs_wr_ne (s : State) (f : Fld) (i j v : Nat) {k : Nat} (h : k ≠ f.key i j) :
    tget (s.wr f i j v).regs k = tget s.regs k := by
  rw [State.wr_regs]
  unfold regPut
  split
  · exact tget_tput_ne _ _ _ h
  · rfl

/-! ### The bits of PREFIX_BANK_CTL -/

/-- COMMIT is one bit wide in every table. -/
@[simp] theorem bankCtl_width (b : BankId) : (bankCtl b).width = 1 := by cases b <;> rfl

/-- PREFIX_BANK_CTL has one instance in each unit. -/
@[simp] theorem bankCtl_count2 (b : BankId) : (bankCtl b).count2 = 1 := by cases b <;> rfl

/-- The register map has PREFIX_BANK_CTL for every table: one instance for each of the eight gate lists, and one for each other table. -/
theorem bankUnit_lt_count1 {b : BankId} (hunit : bankUnit b < 8) : bankUnit b < (bankCtl b).count1 := by
  cases b with
  | gates p => exact hunit
  | windows => exact Nat.one_pos
  | handles => exact Nat.one_pos
  | params => exact Nat.one_pos
  | masks => exact Nat.one_pos

/-- A stored bit of PREFIX_BANK_CTL reads back. -/
theorem State.rd_setBankBit_same (s : State) {b : BankId} (bit : Nat) (v : Bool) (hunit : bankUnit b < 8) :
    (s.setBankBit b bit v).rd { bankCtl b with lo := bit } (bankUnit b) 0 = b2n v := by
  have hread : (s.setBankBit b bit v).rd { bankCtl b with lo := bit } (bankUnit b) 0 = b2n v % 2 ^ (bankCtl b).width :=
    s.rd_wr_same { bankCtl b with lo := bit } (bankUnit b) 0 (b2n v) (bankUnit_lt_count1 hunit) (by simp)
  rw [hread, bankCtl_width]
  cases v <;> rfl

/-! ### BANK_ABORT -/

section Abort

variable {s : State} {b : BankId} (hup : s.inReset = false) (hunit : bankUnit b < 8)
include hup hunit

/-- Out of reset, BANK_ABORT of a table that exists completes: an abort, but for the endpoint, whose write is ignored with the event. -/
theorem exec_bankAbort_up (w : Writer) :
    exec (.bankAbort w b) s = .next (if w = .endpoint then s.violation (bankOffset b) 0 else s.bankAbort b) := by
  have hexec : exec (.bankAbort w b) s = execBankAbort w b s := rfl
  cases w <;> simp [hexec, execBankAbort, guardUnit, State.up, State.coreOnly, writerCode, hup, hunit]

/-- An abort that is honoured leaves COMMIT clear, whatever it was, and touches nothing else: neither a table nor another register. -/
theorem completes_bankAbort_of_ne_endpoint {w : Writer} (hw : w ≠ .endpoint) :
    Completes (.bankAbort w b) s fun t => t.rd { bankCtl b with lo := BankBit.commit } (bankUnit b) 0 = 0 ∧ t = { s with regs := t.regs } ∧
      ∀ k, k ≠ Fld.key { bankCtl b with lo := BankBit.commit } (bankUnit b) 0 → tget t.regs k = tget s.regs k := by
  refine ⟨s.bankAbort b, ?_, ?_, ?_, ?_⟩
  · rw [exec_bankAbort_up hup hunit, if_neg hw]
  · exact s.rd_setBankBit_same BankBit.commit false hunit
  · rfl
  · exact fun k hk => s.tget_regs_wr_ne _ _ _ _ hk

end Abort

/-- Settles O52: for a core or a session `completes_bankAbort_of_ne_endpoint`, whether a commit was pending or not (R67); for the
endpoint `exec_bankAbort_up` (R653, with R220, R245 and R340). -/
theorem abortCancelsACommit : Obligations.AbortCancelsACommit := by
  unfold Obligations.AbortCancelsACommit
  refine ⟨fun s w b hup hw hunit _ => ?_, fun s w b hup hw hunit _ => ?_, fun s b hup hunit => ?_⟩
  · obtain ⟨t, hexec, hclear, hframe, hregs⟩ := completes_bankAbort_of_ne_endpoint hup hunit hw
    have hbit : t.bankBit b BankBit.commit = false := by simp only [State.bankBit, hclear]; rfl
    exact ⟨t, hexec, hbit, hframe, hregs⟩
  · exact completes_bankAbort_of_ne_endpoint hup hunit hw
  · exact ⟨_, exec_bankAbort_up hup hunit .endpoint, rfl⟩

end Sys2Proof.Machine

/-!
Enrolment registers outside SAFE_HOLD (R112): which fields an access to them covers, what an access does whose fields each leave the
state alone, and what GO does.
-/

namespace Sys2Proof.Machine

/-! ### Accesses that change no field -/

/-- A run of fields that each leave the state alone leaves it alone, and notes whether one of them was ignored. -/
theorem foldl_writeNext_unchanged {s : State} {w : Writer} {off n val : Nat} (ignored : FldInst → Bool) {xs : List FldInst}
    (hxs : ∀ x ∈ xs, writeNext w off n val (s, false) x = (s, ignored x)) (before : Bool) :
    xs.foldl (writeNext w off n val) (s, before) = (s, before || xs.any ignored) := by
  induction xs generalizing before with
  | nil => simp
  | cons x xs ih =>
    obtain ⟨hstate, hflag⟩ := Prod.mk.inj (hxs x (by simp))
    have hnext : writeNext w off n val (s, before) x = (s, before || ignored x) :=
      Prod.ext hstate (congrArg (before || ·) hflag)
    rw [List.foldl_cons, hnext, ih fun y hy => hxs y (List.mem_cons_of_mem x hy), List.any_cons, Bool.or_assoc]

/-- An access whose fields each leave the state alone raises one configuration-violation event where a field was ignored, and does
nothing else. -/
theorem State.writeBar_unchanged {s : State} {w : Writer} {off n val : Nat} (ignored : FldInst → Bool)
    (hxs : ∀ x ∈ fieldsAt off n, writeNext w off n val (s, false) x = (s, ignored x)) :
    s.writeBar w off n val = if (fieldsAt off n).any ignored then s.violation off (writerCode w) else s := by
  have horder : ((fieldsAt off n).filter (·.1.acc != .w1s) ++ (fieldsAt off n).filter (·.1.acc == .w1s)).Perm (fieldsAt off n) :=
    List.perm_append_comm.trans (List.filter_append_perm (·.1.acc == .w1s) (fieldsAt off n))
  rw [State.writeBar_eq, ← List.foldl_append,
    foldl_writeNext_unchanged ignored (fun x hx => hxs x (horder.mem_iff.1 hx)), Bool.false_or, horder.any_eq]

/-! ### The fields that an access covers -/

/-- The offset of the last instance of a field. -/
def Fld.lastOff (f : Fld) : Nat := f.off + (f.count1 - 1) * f.stride1 + (f.count2 - 1) * f.stride2

/-- Every instance of a field lies between its first and its last. -/
theorem Fld.instAt_eq_some_bounds {f : Fld} {off : Nat} {p : Nat × Nat} (h : f.instAt off = some p) : f.off ≤ off ∧ off ≤ f.lastOff := by
  simp only [Fld.instAt, Option.ite_none_right_eq_some, Bool.and_eq_true, decide_eq_true_eq, beq_iff_eq] at h
  obtain ⟨⟨⟨⟨hfirst, hi⟩, hj⟩, hsum⟩, -⟩ := h
  have hrow := Nat.mul_le_mul_right f.stride1 (Nat.le_sub_one_of_lt hi)
  have hcol := Nat.mul_le_mul_right f.stride2 (Nat.le_sub_one_of_lt hj)
  refine ⟨hfirst, ?_⟩
  unfold Fld.lastOff
  omega

/-- Can an access to an offset from `lo` to `hi` cover an instance of a field? -/
def Fld.near (f : Fld) (lo hi : Nat) : Bool := decide (f.off ≤ hi + 4) && decide (lo ≤ f.lastOff + 4)

/-- A field that an access covers has an instance at the offset, or four bytes from it. -/
theorem Fld.exists_instAt_of_mem_covered {f : Fld} {off n : Nat} {x : FldInst} (hx : x ∈ f.covered off n) :
    ∃ base p, f.instAt base = some p ∧ off ≤ base + 4 ∧ base ≤ off + 4 := by
  obtain ⟨base, hbase, hinst⟩ := List.mem_filterMap.1 hx
  obtain ⟨p, hp, -⟩ := Option.map_eq_some_iff.1 hinst
  have hcases : base = off - 4 ∨ base = off ∨ base = off + 4 := by
    simp only [List.mem_append, List.mem_ite_nil_right, List.mem_singleton, or_assoc] at hbase
    exact hbase.imp And.right (Or.imp_right And.right)
  exact ⟨base, p, hp, by omega, by omega⟩

/-- An access covers no instance of a field that is not near. -/
theorem Fld.covered_eq_nil_of_not_near {f : Fld} {lo hi off n : Nat} (hlo : lo ≤ off) (hhi : off ≤ hi) (hfar : f.near lo hi = false) :
    f.covered off n = [] := by
  refine List.eq_nil_iff_forall_not_mem.2 fun x hx => ?_
  obtain ⟨base, p, hp, hge, hle⟩ := Fld.exists_instAt_of_mem_covered hx
  obtain ⟨hfirst, hlast⟩ := Fld.instAt_eq_some_bounds hp
  simp only [Fld.near, Bool.and_eq_false_iff, decide_eq_false_iff_not] at hfar
  omega

/-- The fields that an access covers are instances of the near ones. -/
theorem fieldsAt_eq_near {lo hi off : Nat} (n : Nat) (hlo : lo ≤ off) (hhi : off ≤ hi) :
    fieldsAt off n = (fldTable.filter (·.near lo hi)).flatMap (·.covered off n) := by
  unfold fieldsAt
  induction fldTable with
  | nil => rfl
  | cons f fs ih =>
    cases hnear : f.near lo hi with
    | true => simp [hnear, ih]
    | false => simp [hnear, ih, Fld.covered_eq_nil_of_not_near hlo hhi hnear]

/-! ### The enrolment registers -/

/-- The fields of the enrolment registers that take writes (R112). -/
def enrolFields : List Fld :=
  [Reg.IDN_ENROL_CTL_SLOT, Reg.IDN_ENROL_CTL_REVOKE, Reg.IDN_ENROL_CTL_GO, Reg.IDN_ENROL_KEY, Reg.IDN_ENROL_SECRET, Reg.IDN_ENROL_SIG]

/-- The enrolment registers that are arrays of words. -/
def enrolArrays : List Fld := [Reg.IDN_ENROL_KEY, Reg.IDN_ENROL_SECRET, Reg.IDN_ENROL_SIG]

/-- The fields near the enrolment registers: IDN_ID_PUB just below them, the enrolment fields and RESULT. -/
def enrolNeighbours : List Fld :=
  [Reg.IDN_ID_PUB, Reg.IDN_ENROL_CTL_SLOT, Reg.IDN_ENROL_CTL_REVOKE, Reg.IDN_ENROL_CTL_GO, Reg.IDN_ENROL_CTL_RESULT,
    Reg.IDN_ENROL_KEY, Reg.IDN_ENROL_SECRET, Reg.IDN_ENROL_SIG]

/-- The register map has no other field near the enrolment registers. -/
theorem filter_near_enrol :
    fldTable.filter (·.near Reg.IDN_ENROL_CTL_SLOT.off Reg.IDN_ENROL_SIG.lastOff) = enrolNeighbours := by decide +kernel

/-- The fields that an access to the enrolment registers covers are among their neighbours. -/
theorem fieldsAt_enrol {off : Nat} (n : Nat) (hlo : Reg.IDN_ENROL_CTL_SLOT.off ≤ off) (hhi : off ≤ Reg.IDN_ENROL_SIG.lastOff) :
    fieldsAt off n = enrolNeighbours.flatMap (·.covered off n) := by
  rw [fieldsAt_eq_near n hlo hhi, filter_near_enrol]

/-- A word of IDN_ENROL_CTL holds its three writable fields and RESULT. -/
theorem fieldsAt_enrolCtl : fieldsAt Reg.IDN_ENROL_CTL_SLOT.off 4 =
    [(Reg.IDN_ENROL_CTL_SLOT, 0, 0), (Reg.IDN_ENROL_CTL_REVOKE, 0, 0), (Reg.IDN_ENROL_CTL_GO, 0, 0), (Reg.IDN_ENROL_CTL_RESULT, 0, 0)] := by
  rw [fieldsAt_enrol 4 (Nat.le_refl _) (by decide)]
  decide

/-- A word of the key, the secret or the signature lies among the enrolment registers, is aligned, and holds that word alone. -/
theorem enrolArrays_word : ∀ f ∈ enrolArrays, ∀ j < f.count2,
    accessOk (f.off + 4 * j) 4 = true ∧ fieldsAt (f.off + 4 * j) 4 = [(f, 0, j)] := by
  have hword : ∀ f ∈ enrolArrays, ∀ j < f.count2,
      accessOk (f.off + 4 * j) 4 = true ∧ Reg.IDN_ENROL_CTL_SLOT.off ≤ f.off + 4 * j ∧ f.off + 4 * j ≤ Reg.IDN_ENROL_SIG.lastOff ∧
        enrolNeighbours.flatMap (·.covered (f.off + 4 * j) 4) = [(f, 0, j)] := by decide
  intro f hf j hj
  obtain ⟨hok, hlo, hhi, hflds⟩ := hword f hf j hj
  exact ⟨hok, (fieldsAt_enrol 4 hlo hhi).trans hflds⟩

/-- An enrolment field may be written in SAFE_HOLD alone, whoever writes it. -/
theorem State.fieldAllowed_enrol (s : State) (w : Writer) {f : Fld} (hf : f ∈ enrolFields) :
    s.fieldAllowed w f = (s.cfg.state == .safeHold) := by
  have henrol : f = Reg.IDN_ENROL_CTL_SLOT ∨ f = Reg.IDN_ENROL_CTL_REVOKE ∨ f = Reg.IDN_ENROL_CTL_GO ∨ f = Reg.IDN_ENROL_KEY ∨
      f = Reg.IDN_ENROL_SECRET ∨ f = Reg.IDN_ENROL_SIG := by simpa [enrolFields] using hf
  simp [State.fieldAllowed, henrol, or_assoc]

/-- The enrolment fields have one unit each, which every part has, and are of the types RW, WO and W1S. -/
theorem enrolFields_acc : ∀ f ∈ enrolFields, f.count1 = 1 ∧ (f.acc = .rw ∨ f.acc = .wo ∨ f.acc = .w1s) := by decide

/-- A read-only field takes nothing, and its write is no violation. -/
theorem State.writeField_ro (s : State) (w : Writer) (x : FldInst) (bits new : Nat) (hro : x.1.acc = .ro) :
    s.writeField w x bits new = (s, false) := by
  simp [State.writeField, hro]

/-- Does an access write an enrolment field here? A 0 for GO writes nothing. -/
def writesEnrol (off n val : Nat) (x : FldInst) : Bool :=
  decide (x.1 ∈ enrolFields) && !(x.1.acc == .w1s && fieldBits (x.1.key x.2.1 x.2.2) x.1.width off n val == 0)

section NotSafeHold

variable {s : State} (hstate : s.cfg.state ≠ .safeHold)
include hstate

/-- Outside SAFE_HOLD an enrolment field takes nothing; the write counts as ignored but for a 0 to GO. -/
theorem State.writeField_enrol {x : FldInst} (w : Writer) (bits new : Nat) (hx : x.1 ∈ enrolFields) :
    s.writeField w x bits new = (s, !(x.1.acc == .w1s && bits == 0)) := by
  have hallowed : s.fieldAllowed w x.1 = false := by simpa [s.fieldAllowed_enrol w hx] using hstate
  obtain ⟨hcount, hacc⟩ := enrolFields_acc x.1 hx
  have hpres : s.fldPresent x.1 x.2.1 = true := by simp [State.fldPresent, hcount]
  rcases hacc with hacc | hacc | hacc
  · simp [State.writeField, hpres, hacc, hallowed]
  · simp [State.writeField, hpres, hacc, hallowed]
  · by_cases hbits : bits = 0
    · simp [State.writeField, hpres, hacc, hbits]
    · simp [State.writeField, hpres, hacc, hallowed, hbits]

/-- Outside SAFE_HOLD an access to enrolment fields raises the event and does nothing else, whatever read-only fields it covers too. -/
theorem State.writeBar_enrol {off n : Nat} (w : Writer) (val : Nat) (hxs : ∀ x ∈ fieldsAt off n, x.1 ∈ enrolFields ∨ x.1.acc = .ro)
    (hplain : ∃ x ∈ fieldsAt off n, x.1 ∈ enrolFields ∧ x.1.acc ≠ .w1s) : s.writeBar w off n val = s.violation off (writerCode w) := by
  have hnext : ∀ x ∈ fieldsAt off n, writeNext w off n val (s, false) x = (s, writesEnrol off n val x) := by
    intro x hx
    rcases hxs x hx with henrol | hro
    · simp [writeNext, State.writeField_enrol hstate w _ _ henrol, writesEnrol, henrol]
    · have hother : x.1 ∉ enrolFields := fun henrol => by
        simpa [hro] using (enrolFields_acc x.1 henrol).2
      simp [writeNext, State.writeField_ro s w x _ _ hro, writesEnrol, hother]
  have hignored : (fieldsAt off n).any (writesEnrol off n val) = true := by
    obtain ⟨x, hx, henrol, hacc⟩ := hplain
    exact List.any_eq_true.2 ⟨x, hx, by simp [writesEnrol, henrol, hacc]⟩
  rw [State.writeBar_unchanged _ hnext, if_pos hignored]

variable (hup : s.inReset = false)
include hup

/-- Outside SAFE_HOLD a write of a word of the key, the secret or the signature is ignored with the event. -/
theorem completes_registerWrite_enrolArray {f : Fld} (hf : f ∈ enrolArrays) (w : Writer) {j : Nat} (v : Nat) (hj : j < f.count2) :
    Completes (.registerWrite w (f.off + 4 * j) 4 v) s fun t => t = s.violation (f.off + 4 * j) (writerCode w) := by
  have harrays : ∀ f ∈ enrolArrays, f ∈ enrolFields ∧ f.acc ≠ .w1s := by decide
  obtain ⟨hok, hflds⟩ := enrolArrays_word f hf j hj
  refine ⟨_, exec_registerWrite_up w v hup hok, State.writeBar_enrol hstate w v ?_ ?_⟩
  · simp [hflds, (harrays f hf).1]
  · simp [hflds, harrays f hf]

/-- Outside SAFE_HOLD a write of IDN_ENROL_CTL is ignored with the event, with GO or without. -/
theorem completes_registerWrite_enrolCtl (w : Writer) (v : Nat) :
    Completes (.registerWrite w Reg.IDN_ENROL_CTL_SLOT.off 4 v) s fun t => t = s.violation Reg.IDN_ENROL_CTL_SLOT.off (writerCode w) := by
  refine ⟨_, exec_registerWrite_up w v hup (by decide), State.writeBar_enrol hstate w v ?_ ?_⟩
  · rw [fieldsAt_enrolCtl]
    decide
  · rw [fieldsAt_enrolCtl]
    decide

/-- Outside SAFE_HOLD the gate of enrolment and revocation lets nothing run: it raises the event and stores RESULT 5. -/
theorem State.enrolGate_not_safeHold (w : Writer) (f : State → State) :
    s.enrolGate w f = (s.violation Reg.IDN_ENROL_CTL_GO.off (writerCode w)).enrolResult 5 := by
  simp [State.enrolGate, State.up, hup, hstate]

/-- Outside SAFE_HOLD GO starts no enrolment. -/
theorem exec_ownerEnrol_not_safeHold (w : Writer) :
    exec (.ownerEnrol w) s = .next ((s.violation Reg.IDN_ENROL_CTL_GO.off (writerCode w)).enrolResult 5) := by
  rw [← State.enrolGate_not_safeHold hstate hup w]
  rfl

/-- Outside SAFE_HOLD GO starts no revocation. -/
theorem exec_ownerRevoke_not_safeHold (w : Writer) :
    exec (.ownerRevoke w) s = .next ((s.violation Reg.IDN_ENROL_CTL_GO.off (writerCode w)).enrolResult 5) := by
  rw [← State.enrolGate_not_safeHold hstate hup w]
  rfl

end NotSafeHold

/-! ### The event of a refused GO -/

/-- A violation raises the configuration-violation event of the block that the offset lies in. -/
theorem State.raises_violation (s : State) (off writer : Nat) :
    Raises s (s.violation off writer) Ev.configurationViolation (off / 0x100000) 0 := by
  obtain ⟨r, hraised, hfields⟩ : ∃ r : EventRec, (s.violation off writer).evt.raised = s.evt.raised ++ [r] ∧
      r.source = Ev.configurationViolation ∧ r.inst = off / 0x100000 ∧ r.code = 0 := ⟨_, rfl, rfl, rfl, rfl⟩
  rw [Raises, hraised]
  exact ⟨List.prefix_append _ _, r, by simp, hfields⟩

/-- The answer to a refused GO: the fuses are as they were, and the event of block 2 is raised. -/
theorem State.violation_enrolResult (s : State) (writer r : Nat) :
    ((s.violation Reg.IDN_ENROL_CTL_GO.off writer).enrolResult r).idn = s.idn ∧
      Raises s ((s.violation Reg.IDN_ENROL_CTL_GO.off writer).enrolResult r) Ev.configurationViolation 2 0 :=
  ⟨rfl, s.raises_violation Reg.IDN_ENROL_CTL_GO.off writer⟩

/-- Settles O54 (R112): GO of an enrolment and of a revocation by `exec_ownerEnrol_not_safeHold` and `exec_ownerRevoke_not_safeHold`, the
words of the key, the secret and the signature by `completes_registerWrite_enrolArray`, the control register by
`completes_registerWrite_enrolCtl`. That an access raises one event, however many fields it would write, is the model's choice (assumption 15). -/
theorem enrolmentOnlyInSafeHold : Obligations.EnrolmentOnlyInSafeHold := by
  unfold Obligations.EnrolmentOnlyInSafeHold
  refine ⟨fun s w hup hstate => ?_, fun s w hup hstate => ?_, fun s w j v hup hstate hj => ?_, fun s w j v hup hstate hj => ?_,
    fun s w j v hup hstate hj => ?_, fun s w v hup hstate => ?_⟩
  · exact ⟨_, exec_ownerEnrol_not_safeHold hstate hup w, s.violation_enrolResult (writerCode w) 5⟩
  · exact ⟨_, exec_ownerRevoke_not_safeHold hstate hup w, s.violation_enrolResult (writerCode w) 5⟩
  · exact completes_registerWrite_enrolArray hstate hup (by decide : Reg.IDN_ENROL_KEY ∈ enrolArrays) w v hj
  · exact completes_registerWrite_enrolArray hstate hup (by decide : Reg.IDN_ENROL_SECRET ∈ enrolArrays) w v hj
  · exact completes_registerWrite_enrolArray hstate hup (by decide : Reg.IDN_ENROL_SIG ∈ enrolArrays) w v hj
  · exact completes_registerWrite_enrolCtl hstate hup w v

end Sys2Proof.Machine

/-!
Packets whose QPN names no queue pair (R159): what the count of such a packet leaves as it was, when a QPN names nothing, and with that
what the two ways into the transport do.
-/

namespace Sys2Proof.Machine

/-! ### Counting a packet -/

/-- A register that saturates at the width of its field reads as its old value and the step, up to the largest value. -/
theorem State.rd_bump_same (s : State) (f : Fld) (i j n : Nat) (hi : i < f.count1) (hj : j < f.count2) :
    (s.bump f i j n).rd f i j = min (2 ^ f.width - 1) (s.rd f i j + n) := by
  have hfits : min (2 ^ f.width - 1) (s.rd f i j + n) < 2 ^ f.width :=
    (Nat.min_le_left _ _).trans_lt (Nat.sub_one_lt (Nat.two_pow_pos f.width).ne')
  rw [State.bump, s.rd_wr_same f i j _ hi hj, Nat.mod_eq_of_lt hfits]

/-- A counter leaves the registers of the transport alone: those that it may write lie in block 21. -/
theorem State.rd_count_badQpn (s : State) (i n inst : Nat) : (s.count i n inst).rd Reg.XPT_BAD_QPN = s.rd Reg.XPT_BAD_QPN := by
  have hkept : Kept [.cnt, .reg 21] s (s.count i n inst) := State.count_kept i n inst (Kept.refl _ s) rfl
  exact hkept.rd Reg.XPT_BAD_QPN 0 0 (by decide) (by decide)

/-- `t` is `s` after a packet that R159 drops: nothing is sent, queue pairs, windows and DRAM are as they were, and XPT_BAD_QPN is one
higher, up to its largest value. -/
def DroppedAsBadQpn (s t : State) : Prop :=
  t.outbox = s.outbox ∧ t.xpt = s.xpt ∧ t.win = s.win ∧ t.dram = s.dram ∧
    t.rd Reg.XPT_BAD_QPN = min (2 ^ 32 - 1) (s.rd Reg.XPT_BAD_QPN + 1)

/-- Counting a bad QPN drops the packet and does no more than R159 says. -/
theorem State.badQpn_drops (s : State) : DroppedAsBadQpn s s.badQpn := by
  have hkept : Kept [.cnt, .reg 4, .reg 21] s s.badQpn := State.badQpn_kept (Kept.refl _ s) rfl
  have hcount : s.badQpn.rd Reg.XPT_BAD_QPN = min (2 ^ 32 - 1) (s.rd Reg.XPT_BAD_QPN + 1) := by
    rw [State.badQpn, State.rd_count_badQpn]
    exact s.rd_bump_same Reg.XPT_BAD_QPN 0 0 1 (by decide) (by decide)
  exact ⟨hkept.outbox, hkept.xpt, hkept.win, hkept.dram_eq, hcount⟩

/-! ### Packets that name no queue pair -/

section NoQueuePair

variable {s : State} {qpn : Nat} (hbad : (s.qp? (qpn % 65536)).all (fun q => qpnOf q.gen (qpn % 65536) != qpn) = true)
include hbad

/-- A QPN names no index where the index is in RESET, or holds a queue pair of another generation. -/
theorem State.indexOfQpn_eq_none : s.indexOfQpn qpn = none := by
  cases hqp : s.qp? (qpn % 65536) with
  | none => simp [State.indexOfQpn, hqp]
  | some q =>
    have hgen : qpnOf q.gen (qpn % 65536) ≠ qpn := by simpa [hqp] using hbad
    simp [State.indexOfQpn, hqp, hgen]

/-- A packet that names no queue pair is counted, and neither run nor parked. -/
theorem State.receive_badQpn (turn : Nat) (packet : Instr) : s.receive qpn turn packet = s.badQpn := by
  simp [State.receive, State.indexOfQpn_eq_none hbad]

/-- Out of reset, a packet that names its queue pair alone, and none that there is, is counted. -/
theorem State.receiveQpn_badQpn (hup : s.inReset = false) (packet : Instr) : s.receiveQpn qpn packet = .next s.badQpn := by
  simp [State.receiveQpn, hup, State.indexOfQpn_eq_none hbad]

end NoQueuePair

/-- A packet that a sub-port carries to no queue pair is counted, where it comes before the last four cycles of the Turn (R46). -/
theorem State.receivePkt_badQpn {s : State} {p : Pkt} (hunit : p.unit < 16) (hon : s.unitOn p.unit = true) (hcarries : s.carries p.unit = true)
    (hearly : p.lastCycles = false) (hbad : (s.qp? (p.qpn % 65536)).all (fun q => qpnOf q.gen (p.qpn % 65536) != p.qpn) = true)
    (packet later : Instr) : s.receivePkt p packet later = .next s.badQpn := by
  simp [State.receivePkt, guardUnit, hunit, hon, hcarries, hearly, State.receive_badQpn hbad]

/-! ### The commands that bring a packet -/

/-- Sends, RDMA Writes, RDMA Reads and their responses, and Sends with Invalidate enter the transport by their own sub-port. -/
theorem exec_eq_receivePkt (s : State) (p : Pkt) (pos : PktPos) (imm : Option Nat) (rkey va len : Nat) (l : List Byte) :
    ∀ i ∈ [Instr.sendRx p pos imm, .rdmaWriteRx p pos rkey va imm l, .rdmaReadRequestRx p rkey va len, .rdmaReadResponseRx p pos l,
      .sendWithInvalidateRx p], ∃ later, exec i s = s.receivePkt p i later := by
  simp only [List.forall_mem_cons, List.not_mem_nil, false_implies, implies_true, and_true]
  exact ⟨⟨_, rfl⟩, ⟨_, rfl⟩, ⟨_, rfl⟩, ⟨_, rfl⟩, ⟨_, rfl⟩⟩

/-- Acknowledgements of every kind and CNPs enter the transport by the sub-port of their queue pair. -/
theorem exec_eq_receiveQpn (s : State) (qpn psn wait : Nat) (rx tx : Stamp) (c : NakCode) :
    ∀ i ∈ [Instr.ackRx qpn psn rx tx, .nakRx qpn psn c, .rnrNakRx qpn psn wait, .cnpRx qpn], exec i s = s.receiveQpn qpn i := by
  simp only [List.forall_mem_cons, List.not_mem_nil, false_implies, implies_true, and_true]
  exact ⟨rfl, rfl, rfl, rfl⟩

/-- Settles O53 (R159): each packet reaches the transport by `exec_eq_receivePkt` or `exec_eq_receiveQpn`, where its QPN names no queue
pair, and `badQpn_drops` says what the count leaves. -/
theorem packetsWithoutAQueuePair : Obligations.PacketsWithoutAQueuePair := by
  unfold Obligations.PacketsWithoutAQueuePair
  refine ⟨fun s p pos imm rkey va len l hunit hon hcarries hearly hbad i hi => ?_, fun s qpn psn wait rx tx c hup hbad i hi => ?_⟩
  · obtain ⟨later, hexec⟩ := exec_eq_receivePkt s p pos imm rkey va len l i hi
    exact ⟨s.badQpn, hexec.trans (State.receivePkt_badQpn hunit hon hcarries hearly hbad i later), s.badQpn_drops⟩
  · have hexec := exec_eq_receiveQpn s qpn psn wait rx tx c i hi
    exact ⟨s.badQpn, hexec.trans (State.receiveQpn_badQpn hbad hup i), s.badQpn_drops⟩

end Sys2Proof.Machine

/-!
Management sessions before they authenticate (R254): what an answer sends out, what the gate of admin commands says of a session with no
roles, and with that what each command and the Connect that makes the session do.
-/

namespace Sys2Proof.Machine

/-! ### Answers -/

/-- An answer sends out its completion and nothing else, over the network or by the mailbox. -/
theorem State.reply_outbox (s : State) (ctrl cid : Nat) (st : Nat × Nat) (dw0 dw1 : Nat) :
    (s.reply ctrl cid st dw0 dw1).outbox = s.outbox ++ [⟨.completion, [ctrl, cid, st.1, st.2, dw0, dw1]⟩] := by
  have hsent : ((s.complete ctrl cid st dw0 dw1).count 109 1 ctrl).outbox = s.outbox ++ [⟨.completion, [ctrl, cid, st.1, st.2, dw0, dw1]⟩] :=
    Kept.outbox (State.count_kept 109 1 ctrl (Kept.refl [.cnt, .reg 21] _) rfl)
  have hpost (u : State) : (u.mailboxPost cid st dw0 dw1).outbox = u.outbox :=
    Kept.outbox (State.mailboxPost_kept cid st dw0 dw1 (Kept.refl [.evt, .sep, .reg 19] u) rfl)
  unfold State.reply
  dsimp only
  split
  · split
    · exact hsent
    · split
      · exact hsent
      · exact (hpost _).trans hsent
  · exact hsent

/-! ### The gate of a session with no roles -/

/-- Does the gate serve a management session that has not authenticated (R254)? -/
def ServedOn.beforeAuthentication : ServedOn → Bool
  | .always | .mgmtOpen => true
  | .both | .hostOnly | .mgmt _ => false

/-- Connection `ctrl` carries the management session `c`, which holds no roles; as the mailbox's session it is served like any other: the
mailbox is not locked, and the part is not in SAFE_HOLD (R611). -/
structure UnauthenticatedSession (s : State) (ctrl : Nat) (c : Ctrl) : Prop where
  found : s.ctrlOf ctrl = some c
  mgmt : c.mgmt = true
  noRoles : c.roles = none
  mailbox : isMailbox ctrl = true → s.sep.locked = false ∧ s.cfg.state ≠ .safeHold

namespace UnauthenticatedSession

variable {s : State} {ctrl : Nat} {c : Ctrl} (h : UnauthenticatedSession s ctrl c)
include h

/-- A session with no roles passes the gates that R254 leaves open, and every other gate denies it access, whatever role it asks for. -/
theorem ctrlGate (a : ServedOn) : c.gate a = if a.beforeAuthentication then .pass else .fail St.accessDenied := by
  have hmay (role : Option Nat) : c.may role = false := by simp [Ctrl.may, h.noRoles]
  cases a <;> simp [Ctrl.gate, ServedOn.beforeAuthentication, h.mgmt, h.noRoles, hmay]

/-- The gate of a command is the gate of its connection, the mailbox or another. -/
theorem gate_eq_ctrlGate (a : ServedOn) (safe : Bool) : s.gate ctrl a safe = c.gate a := by
  cases hbox : isMailbox ctrl with
  | false => simp [State.gate, h.found, hbox]
  | true =>
    obtain ⟨hunlocked, hstate⟩ := h.mailbox hbox
    simp [State.gate, h.found, hbox, hunlocked, hstate]

theorem gate (a : ServedOn) (safe : Bool) : s.gate ctrl a safe = if a.beforeAuthentication then .pass else .fail St.accessDenied :=
  (h.gate_eq_ctrlGate a safe).trans (h.ctrlGate a)

/-- A command behind a gate that R254 closes is denied before it runs, and before an activation could hold it. -/
theorem denied {cid : Nat} {i waits : Instr} {run : State → State} {safe held : Bool} (a : ServedOn)
    (hexec : exec i s = .next (s.admin waits ctrl cid a run safe held)) (hclosed : a.beforeAuthentication = false := by rfl) :
    Denied s ctrl cid i := by
  have hgate : s.gate ctrl a safe = .fail St.accessDenied := by simp [h.gate, hclosed]
  have hadmin : s.admin waits ctrl cid a run safe held = s.replyErr ctrl cid St.accessDenied := by simp [State.admin, hgate]
  exact ⟨_, hexec.trans (congrArg Host.Outcome.next hadmin), s.reply_outbox ctrl cid St.accessDenied 0 0⟩

end UnauthenticatedSession

/-! ### The Connect of a management session -/

/-- The controller that a Connect sets up is there once the Connect is answered. -/
theorem State.ctrlOf_connected (s : State) (ctrl cid : Nat) (c : Ctrl) (st : Nat × Nat) :
    (((s.setCtrl ctrl c).ctrlStatus).connectReply ctrl cid st).ctrlOf ctrl = some c := by
  have hstatus : Kept [.cnt, .outbox, .reg 7, .reg 21] (s.setCtrl ctrl c) (s.setCtrl ctrl c).ctrlStatus :=
    State.ctrlStatus_kept (Kept.refl _ _) rfl
  rw [State.ctrlOf, (State.connectReply_kept ctrl cid st hstatus rfl).cmd]
  exact tget_tset_same _ _ _

/-- A Connect on the admin queue of a management connection, with its parameters in range, sets up a fresh session on the lowest free
controller ID (R250, R251). -/
theorem exec_fabricsConnect_mgmt {s : State} {qp sqsize kato c : Nat} {q : Qp} (cid hostnqn : Nat) (hqp : s.qp? qp = some q)
    (hrts : q.st = .rts) (hservice : q.service = 1) (hunused : s.queueOf qp = none) (hlo : 2 ≤ sqsize) (hhi : sqsize ≤ 32)
    (hshort : 1000 ≤ kato) (hlong : kato ≤ 3600000) (hfree : s.freeCtrl = some c) :
    exec (.fabricsConnect qp cid none 1 hostnqn 0 sqsize kato) s =
      .next (((s.setCtrl c (Ctrl.fresh true hostnqn 0 qp (turnsOfMs kato) s.clock)).ctrlStatus).connectReply c cid St.ok) := by
  have hadmin : s.connectAdmin q qp cid 1 hostnqn sqsize kato =
      ((s.setCtrl c (Ctrl.fresh true hostnqn 0 qp (turnsOfMs kato) s.clock)).ctrlStatus).connectReply c cid St.ok := by
    simp [State.connectAdmin, hservice, hfree, Nat.not_lt.2 hlo, Nat.not_lt.2 hhi, Nat.not_lt.2 hshort, Nat.not_lt.2 hlong]
  rw [← hadmin]
  change execFabricsConnect qp cid none 1 hostnqn 0 sqsize kato s = _
  simp [execFabricsConnect, hqp, hrts, hunused]

/-- Settles O55 (R254): the session is the one of `exec_fabricsConnect_mgmt`; the open gates pass by `UnauthenticatedSession.gate`, and
each other command, at the gate that it stands behind, is denied by `UnauthenticatedSession.denied`. -/
theorem unauthenticatedSessions : Obligations.UnauthenticatedSessions := by
  unfold Obligations.UnauthenticatedSessions
  refine ⟨fun s qp cid hostnqn sqsize kato c q hqp hrts hservice hunused hlo hhi hshort hlong hfree => ?_,
    fun s ctrl cid c hfound hmgmt hroles hmailbox => ?_⟩
  · refine ⟨_, exec_fabricsConnect_mgmt cid hostnqn hqp hrts hservice hunused hlo hhi hshort hlong hfree, ?_⟩
    simp [State.ctrlOf_connected, Ctrl.fresh]
  · have h : UnauthenticatedSession s ctrl c := ⟨hfound, hmgmt, hroles, hmailbox⟩
    exact ⟨h.gate .always false, h.gate .mgmtOpen false,
      fun _ _ _ => h.denied .both rfl, fun _ _ => h.denied .both rfl, fun _ _ _ => h.denied .both rfl, fun _ _ => h.denied .both rfl,
      h.denied .both rfl,
      fun _ _ _ => h.denied (.mgmt RoleBit.admin) rfl, fun _ => h.denied (.mgmt RoleBit.admin) rfl,
      fun _ _ => h.denied (.mgmt RoleBit.admin) rfl, fun _ => h.denied (.mgmt RoleBit.admin) rfl,
      fun _ => h.denied (.mgmt RoleBit.admin) rfl, h.denied (.mgmt RoleBit.admin) rfl,
      fun _ _ _ _ => h.denied (.mgmt RoleBit.firmware) rfl, fun _ => h.denied (.mgmt RoleBit.firmware) rfl,
      fun _ _ => h.denied (.mgmt RoleBit.firmware) rfl, fun _ => h.denied (.mgmt RoleBit.firmware) rfl,
      fun _ _ _ _ _ _ _ => h.denied .hostOnly rfl, fun _ => h.denied .hostOnly rfl,
      fun _ => h.denied (.mgmt none) rfl,
      fun _ => h.denied (.mgmt RoleBit.keyOfficer) rfl, fun _ => h.denied (.mgmt RoleBit.keyOfficer) rfl,
      fun _ _ _ => h.denied (.mgmt RoleBit.keyOfficer) rfl, fun _ _ _ _ _ _ _ => h.denied (.mgmt RoleBit.keyOfficer) rfl,
      fun _ _ => h.denied (.mgmt RoleBit.admin) rfl, h.denied (.mgmt RoleBit.admin) rfl, fun _ => h.denied (.mgmt RoleBit.admin) rfl,
      h.denied (.mgmt RoleBit.admin) rfl, h.denied (.mgmt RoleBit.admin) rfl, fun _ => h.denied (.mgmt RoleBit.admin) rfl,
      h.denied (.mgmt RoleBit.admin) rfl,
      fun _ => h.denied (.mgmt none) rfl,
      fun _ => h.denied (.mgmt RoleBit.observer) rfl,
      fun _ _ => h.denied (.mgmt none) rfl,
      h.denied (.mgmt RoleBit.firmware) rfl⟩

end Sys2Proof.Machine

/-!
Writes of EVT_RING_HEAD (R642): what a configuration violation leaves of the register file, and with that what a head beyond the tail does.
-/

namespace Sys2Proof.Machine

/-! ### The registers after a violation -/

/-- Setting a latch bit leaves every register alone but the word of EVT_LATCH that holds the bit. -/
theorem State.rd_latch_ne (s : State) (src : Nat) (f : Fld) (i j : Nat) (h : f.key i j ≠ Reg.EVT_LATCH.key 0 (src / 32)) :
    (s.latch src).rd f i j = s.rd f i j :=
  s.rd_wr_ne Reg.EVT_LATCH f 0 (src / 32) i j _ h

/-- A violation leaves every register alone but the first word of EVT_LATCH, which holds its source. -/
theorem State.rd_violation_ne (s : State) (off writer : Nat) (f : Fld) (i j : Nat) (h : f.key i j ≠ Reg.EVT_LATCH.key 0 0) :
    (s.violation off writer).rd f i j = s.rd f i j := by
  have hregs : (s.violation off writer).regs = (s.latch Ev.configurationViolation).regs := rfl
  rw [State.rd_congr hregs]
  exact s.rd_latch_ne Ev.configurationViolation f i j h

/-- A violation leaves the head of the event ring where it is. -/
@[simp] theorem State.violation_ringHead (s : State) (off writer : Nat) : (s.violation off writer).ringHead = s.ringHead :=
  s.rd_violation_ne off writer Reg.EVT_RING_HEAD 0 0 (by decide)

/-! ### EVENT_RING_HEAD_WRITE -/

/-- Out of reset, the endpoint moves the head up to the tail; every other write is ignored with the event (R642, R653). -/
theorem exec_eventRingHeadWrite_up {s : State} {head : Nat} (w : Writer) (hup : s.inReset = false) (hhead : head < 2 ^ 18) :
    exec (.eventRingHeadWrite w head) s =
      .next (if w ≠ .endpoint ∨ (s.evt.tail + ringSlots - s.ringHead) % ringSlots < (head + ringSlots - s.ringHead) % ringSlots
        then s.violation Reg.EVT_RING_HEAD.off (writerCode w) else s.wr Reg.EVT_RING_HEAD 0 0 head) := by
  have hexec : exec (.eventRingHeadWrite w head) s = execEventRingHeadWrite w head s := rfl
  have hfits : head % 262144 = head := Nat.mod_eq_of_lt hhead
  simp [hexec, execEventRingHeadWrite, State.up, hup, hfits]

/-- Settles O56 (R642): whoever writes it, a head further ahead than the tail takes the branch of `exec_eventRingHeadWrite_up` that is
ignored; the violation leaves the head alone and raises the event of the block that EVT_RING_HEAD lies in. -/
theorem ringHeadOutOfRange : Obligations.RingHeadOutOfRange := by
  unfold Obligations.RingHeadOutOfRange
  intro s w head hup hhead hbeyond
  refine ⟨s.violation Reg.EVT_RING_HEAD.off (writerCode w), ?_, rfl, s.violation_ringHead _ _, s.raises_violation Reg.EVT_RING_HEAD.off _⟩
  rw [exec_eventRingHeadWrite_up w hup hhead, if_pos (Or.inr hbeyond)]

end Sys2Proof.Machine

/-!
The queue, the canonical form and the frames: what every command keeps of the state, collected from the lemmas of Laws/KeptA to KeptE.
-/

namespace Sys2Proof.Machine

/-! ### Every command -/

/-- Every part of the state but the queue of commands. -/
def partsButQueue : List Part :=
  [.outbox, .deferred, .free, .regs, .dram, .trn, .cfg, .idn, .eth, .xpt, .win, .sch, .cmd, .fsp, .gch, .sal, .cmp, .cph, .lay, .jnl, .axl, .drv, .pwr,
    .fov, .sep, .evt, .cnt]

/-- No command touches the queue, none disorders the register file, and none leaves the canonical form of DRAM. -/
theorem exec_kept (i : Instr) (s : State) : KeptOut partsButQueue s (exec i s) := by
  have h : Kept partsButQueue s s := Kept.refl _ s
  cases i with
  | registerWrite => exact execRegisterWrite_kept _ _ _ _ h rfl
  | turnBoundary => exact execTurnBoundary_kept _ h rfl
  | coreWatchdogExpiry => exact execCoreWatchdogExpiry_kept _ h rfl
  | stagingHoldExpiry => exact execStagingHoldExpiry_kept _ _ h rfl
  | ptpSyncRx => exact execPtpSyncRx_kept _ _ _ _ _ h rfl
  | ptpFollowUpRx => exact execPtpFollowUpRx_kept _ _ _ _ h rfl
  | ptpDelayRespRx => exact execPtpDelayRespRx_kept _ _ _ _ _ h rfl
  | ptpAnnounceRx => exact execPtpAnnounceRx_kept _ _ h rfl
  | acquireTimeoutExpiry => exact execAcquireTimeoutExpiry_kept h rfl
  | syncLossTimeout => exact execSyncLossTimeout_kept h rfl
  | trnReload => exact execTrnReload_kept _ h rfl
  | reloadTimeoutExpiry => exact execReloadTimeoutExpiry_kept h rfl
  | shadowWrite => exact execShadowWrite_kept _ _ _ _ h rfl
  | bankCommit => exact execBankCommit_kept _ _ h rfl
  | bankAbort => exact execBankAbort_kept _ _ h rfl
  | sysResetAssert => exact execSysResetAssert_kept _ h rfl
  | sysResetRelease => exact execSysResetRelease_kept _ h rfl
  | dramTrainingDone => exact execDramTrainingDone_kept _ _ h rfl
  | spiTransactionTimeout => exact execSpiTransactionTimeout_kept _ h rfl
  | copyReadDone => exact execCopyReadDone_kept h rfl
  | firmwareStarted => exact execFirmwareStarted_kept h rfl
  | cfgReboot => exact execCfgReboot_kept _ h rfl
  | brownOut => exact execBrownOut_kept _ _ _ h rfl
  | temperatureSample => exact execTemperatureSample_kept _ _ _ h rfl
  | tamperEvent => exact execTamperEvent_kept _ h rfl
  | serviceRequest => exact execServiceRequest_kept _ _ h rfl
  | releaseRequest => exact execReleaseRequest_kept _ _ h rfl
  | releaseDrainDone => exact execReleaseDrainDone_kept h rfl
  | firmwareImageDownload => exact execFirmwareImageDownload_kept _ _ _ _ _ _ h rfl
  | firmwareCommitStore => exact execFirmwareCommitStore_kept _ _ _ h rfl
  | firmwareCommitAtReset => exact execFirmwareCommitAtReset_kept _ _ _ _ h rfl
  | firmwareCommitActivate => exact execFirmwareCommitActivate_kept _ _ _ h rfl
  | commitReadbackDone => exact execCommitReadbackDone_kept _ h rfl
  | activationRecordWritten => exact execActivationRecordWritten_kept h rfl
  | firmwareReady => exact execFirmwareReady_kept h rfl
  | activationGuardExpiry => exact execActivationGuardExpiry_kept h rfl
  | ownerEnrol => exact execOwnerEnrol_kept _ h rfl
  | ownerRevoke => exact execOwnerRevoke_kept _ h rfl
  | fuseProgramDone => exact execFuseProgramDone_kept _ h rfl
  | svnFloorRaise => exact execSvnFloorRaise_kept _ _ h rfl
  | attestationQuote => exact execAttestationQuote_kept _ _ _ h rfl
  | quoteSigned => exact execQuoteSigned_kept h rfl
  | linkAnDone => exact execLinkAnDone_kept _ _ h rfl
  | linkTrainingDone => exact execLinkTrainingDone_kept _ h rfl
  | linkTrainingTimeout => exact execLinkTrainingTimeout_kept _ h rfl
  | linkLockAcquired => exact execLinkLockAcquired_kept _ h rfl
  | linkAlignTimeout => exact execLinkAlignTimeout_kept _ h rfl
  | linkQualifyDone => exact execLinkQualifyDone_kept _ h rfl
  | linkLockLost => exact execLinkLockLost_kept _ h rfl
  | linkLossTimeout => exact execLinkLossTimeout_kept _ h rfl
  | linkNegotiationTimeout => exact execLinkNegotiationTimeout_kept _ h rfl
  | linkFaultTimeout => exact execLinkFaultTimeout_kept _ _ h rfl
  | fecWindowEnd => exact execFecWindowEnd_kept _ _ _ h rfl
  | frameRx => exact execFrameRx_kept _ _ h rfl
  | arpRequestRx => exact execArpRequestRx_kept _ _ _ _ h rfl
  | arpReplyRx => exact execArpReplyRx_kept _ _ _ h rfl
  | neighbourSolicitationRx => exact execNeighbourSolicitationRx_kept _ _ _ _ h rfl
  | neighbourAdvertisementRx => exact execNeighbourAdvertisementRx_kept _ _ _ h rfl
  | ethDropClear => exact execEthDropClear_kept _ h rfl
  | sendRx => exact execSendRx_kept _ _ _ h rfl
  | rdmaWriteRx => exact execRdmaWriteRx_kept _ _ _ _ _ _ h rfl
  | rdmaReadRequestRx => exact execRdmaReadRequestRx_kept _ _ _ _ h rfl
  | rdmaReadResponseRx => exact execRdmaReadResponseRx_kept _ _ _ h rfl
  | ackRx => exact execAckRx_kept _ _ _ _ h rfl
  | nakRx => exact execNakRx_kept _ _ _ h rfl
  | rnrNakRx => exact execRnrNakRx_kept _ _ _ h rfl
  | cnpRx => exact execCnpRx_kept _ h rfl
  | sendWithInvalidateRx => exact execSendWithInvalidateRx_kept _ h rfl
  | contextFetchDone => exact execContextFetchDone_kept _ _ h rfl
  | cmReqRx => exact execCmReqRx_kept _ h rfl
  | cmRepRx => exact execCmRepRx_kept _ _ _ _ h rfl
  | cmRtuRx => exact execCmRtuRx_kept _ h rfl
  | cmRejRx _ reason => exact execCmRejRx_kept _ reason h rfl
  | cmMraRx => exact execCmMraRx_kept _ _ h rfl
  | cmDreqRx => exact execCmDreqRx_kept _ h rfl
  | cmDrepRx => exact execCmDrepRx_kept _ h rfl
  | cmUnsupportedRx => exact KeptOut.next h
  | connectInitiate => exact execConnectInitiate_kept _ _ h rfl
  | connectRetryExpiry => exact execConnectRetryExpiry_kept _ h rfl
  | mraTimerExpiry => exact execMraTimerExpiry_kept _ h rfl
  | qpDrainDone => exact execQpDrainDone_kept _ h rfl
  | qpDrainTimeout => exact execQpDrainTimeout_kept _ h rfl
  | qpTimewaitExpiry => exact execQpTimewaitExpiry_kept _ h rfl
  | ackTimeout => exact execAckTimeout_kept _ h rfl
  | rnrWaitExpiry => exact execRnrWaitExpiry_kept _ h rfl
  | wqePost => exact execWqePost_kept _ _ h rfl
  | triggerTimeout => exact execTriggerTimeout_kept _ h rfl
  | qpForceError => exact execQpForceError_kept _ _ h rfl
  | qpContextRead => exact execQpContextRead_kept _ h rfl
  | missPeakClear => exact execMissPeakClear_kept h rfl
  | windowOpen => exact execWindowOpen_kept _ _ _ _ _ _ _ _ _ h rfl
  | windowClose => exact execWindowClose_kept _ _ _ h rfl
  | windowRevokeDrained => exact execWindowRevokeDrained_kept _ h rfl
  | windowDescriptorRead => exact execWindowDescriptorRead_kept _ h rfl
  | windowViolationClear => exact execWindowViolationClear_kept h rfl
  | egressPick => exact execEgressPick_kept _ _ _ h rfl
  | ingestPullIssue => exact execIngestPullIssue_kept _ _ _ _ h rfl
  | schParamWrite => exact execSchParamWrite_kept _ h rfl
  | schParamRead => exact execSchParamRead_kept _ h rfl
  | schParamReadLive => exact execSchParamReadLive_kept _ h rfl
  | ingestHeldTimeout => exact execIngestHeldTimeout_kept h rfl
  | fabricsConnect => exact execFabricsConnect_kept _ _ _ _ _ _ _ _ h rfl
  | propertyGet => exact execPropertyGet_kept _ _ _ h rfl
  | propertySet => exact execPropertySet_kept _ _ _ _ h rfl
  | identify => exact execIdentify_kept _ _ _ _ _ h rfl
  | getLogPage => exact execGetLogPage_kept _ _ _ _ _ h rfl
  | abort => exact execAbort_kept _ _ _ _ h rfl
  | setFeatures => exact execSetFeatures_kept _ _ _ _ _ h rfl
  | getFeatures => exact execGetFeatures_kept _ _ _ _ h rfl
  | asyncEventRequest => exact execAsyncEventRequest_kept _ _ h rfl
  | namespaceCreate => exact execNamespaceCreate_kept _ _ _ _ _ h rfl
  | namespaceDelete => exact execNamespaceDelete_kept _ _ _ h rfl
  | namespaceResize => exact execNamespaceResize_kept _ _ _ _ h rfl
  | selfTestShort => exact execSelfTestShort_kept _ _ _ h rfl
  | selfTestExtended => exact execSelfTestExtended_kept _ _ _ h rfl
  | selfTestAbort => exact execSelfTestAbort_kept _ _ h rfl
  | selfTestDone => exact execSelfTestDone_kept _ h rfl
  | keepAlive => exact execKeepAlive_kept _ _ h rfl
  | keepAliveExpiry => exact execKeepAliveExpiry_kept _ h rfl
  | getChallenge => exact execGetChallenge_kept _ _ h rfl
  | authenticate => exact execAuthenticate_kept _ _ _ _ h rfl
  | nvmRead => exact execNvmRead_kept _ _ h rfl
  | nvmWrite => exact execNvmWrite_kept _ _ h rfl
  | windowCommit => exact execWindowCommit_kept _ _ _ _ _ h rfl
  | flush => exact execFlush_kept _ h rfl
  | writeZeroes => exact execWriteZeroes_kept _ h rfl
  | datasetManagement => exact execDatasetManagement_kept _ _ _ h rfl
  | zoneAppend => exact execZoneAppend_kept _ _ h rfl
  | zoneClose => exact execZoneClose_kept _ _ h rfl
  | zoneFinish => exact execZoneFinish_kept _ _ h rfl
  | zoneOpen => exact execZoneOpen_kept _ _ h rfl
  | zoneReset => exact execZoneReset_kept _ _ h rfl
  | zoneManagementReceive => exact execZoneManagementReceive_kept _ _ _ h rfl
  | commandAdmit => exact execCommandAdmit_kept _ h rfl
  | fspAllocate => exact execFspAllocate_kept _ _ _ h rfl
  | fspFree => exact execFspFree_kept _ _ h rfl
  | fspIncref => exact execFspIncref_kept _ _ h rfl
  | fspCacheRefill => exact execFspCacheRefill_kept _ _ h rfl
  | fspCacheWriteback => exact execFspCacheWriteback_kept _ h rfl
  | fspClear => exact execFspClear_kept h rfl
  | cacheEnable => exact execCacheEnable_kept h rfl
  | cacheDisable => exact execCacheDisable_kept h rfl
  | cacheDrainDone => exact execCacheDrainDone_kept h rfl
  | cacheFillDone => exact execCacheFillDone_kept _ _ _ _ h rfl
  | salClean => exact execSalClean_kept _ h rfl
  | salInvalidate => exact execSalInvalidate_kept _ h rfl
  | salCleanInvalidate => exact execSalCleanInvalidate_kept _ h rfl
  | salPin => exact execSalPin_kept _ h rfl
  | salUnpin => exact execSalUnpin_kept _ h rfl
  | salOperationStart => exact execSalOperationStart_kept h rfl
  | salWriteBackIssue => exact execSalWriteBackIssue_kept h rfl
  | salOperationDone => exact execSalOperationDone_kept h rfl
  | compressBlockStart => exact execCompressBlockStart_kept _ _ _ h rfl
  | compressBlockDone => exact execCompressBlockDone_kept _ _ h rfl
  | spillReadbackDone => exact execSpillReadbackDone_kept _ h rfl
  | decompressBlockStart => exact execDecompressBlockStart_kept _ _ h rfl
  | decompressBlockDone => exact execDecompressBlockDone_kept _ _ h rfl
  | cmpVerifyClear => exact execCmpVerifyClear_kept h rfl
  | keyLoad => exact execKeyLoad_kept _ _ _ h rfl
  | keyDestroy => exact execKeyDestroy_kept _ _ _ h rfl
  | keyActivate => exact execKeyActivate_kept _ _ _ _ _ h rfl
  | resealDone => exact execResealDone_kept h rfl
  | cipherJob => exact execCipherJob_kept _ _ _ _ _ _ _ _ _ h rfl
  | fallbackKeyLoad => exact execFallbackKeyLoad_kept _ _ h rfl
  | keySlotRead => exact execKeySlotRead_kept _ h rfl
  | ivEpochDurable => exact execIvEpochDurable_kept h rfl
  | versionPlace => exact execVersionPlace_kept _ _ _ _ h rfl
  | gatherHoldExpiry => exact execGatherHoldExpiry_kept _ _ h rfl
  | closeHoldExpiry => exact execCloseHoldExpiry_kept _ _ h rfl
  | paritySlotWaitTimeout => exact execParitySlotWaitTimeout_kept _ _ _ h rfl
  | stripeWriteDone => exact execStripeWriteDone_kept _ _ _ _ h rfl
  | memberReadDone => exact execMemberReadDone_kept _ _ h rfl
  | compactionStart => exact execCompactionStart_kept _ h rfl
  | setReadyTimeout => exact execSetReadyTimeout_kept _ h rfl
  | setIdleTimeout => exact execSetIdleTimeout_kept _ h rfl
  | setPowerOnRequest => exact execSetPowerOnRequest_kept _ _ h rfl
  | setStopRequest => exact execSetStopRequest_kept _ _ h rfl
  | setStopWritesDone => exact execSetStopWritesDone_kept _ h rfl
  | deltaBatchWrite => exact execDeltaBatchWrite_kept h rfl
  | checkpointStart => exact execCheckpointStart_kept h rfl
  | checkpointDone => exact execCheckpointDone_kept h rfl
  | metadataWriteDone => exact execMetadataWriteDone_kept h rfl
  | journalWriteDone => exact execJournalWriteDone_kept _ _ _ h rfl
  | anchorReseedTimeout => exact execAnchorReseedTimeout_kept _ h rfl
  | replayDone => exact execReplayDone_kept _ _ h rfl
  | resyncWindowExpiry => exact execResyncWindowExpiry_kept _ h rfl
  | walkRowIssue => exact execWalkRowIssue_kept _ _ h rfl
  | walkRowDone => exact execWalkRowDone_kept _ _ _ h rfl
  | reshapeStart => exact execReshapeStart_kept _ _ _ _ h rfl
  | reshapeBatchDone => exact execReshapeBatchDone_kept h rfl
  | reshapeCancel => exact execReshapeCancel_kept _ _ h rfl
  | memberFail => exact execMemberFail_kept _ _ _ h rfl
  | drivePerstRelease => exact execDrivePerstRelease_kept _ h rfl
  | driveLinkUp => exact execDriveLinkUp_kept _ _ _ h rfl
  | driveLinkTimeout => exact execDriveLinkTimeout_kept _ h rfl
  | drivePerstRetryExpiry => exact execDrivePerstRetryExpiry_kept _ h rfl
  | driveSetupStepDone => exact execDriveSetupStepDone_kept _ _ h rfl
  | driveFormatDone => exact execDriveFormatDone_kept _ _ h rfl
  | driveInboundViolation => exact execDriveInboundViolation_kept _ h rfl
  | driveBadTlp => exact execDriveBadTlp_kept _ h rfl
  | driveLinkDown => exact execDriveLinkDown_kept _ h rfl
  | driveCompletionTimeout => exact execDriveCompletionTimeout_kept _ h rfl
  | memberCommandTimeout => exact execMemberCommandTimeout_kept _ _ h rfl
  | ladderStepTimeout => exact execLadderStepTimeout_kept _ h rfl
  | smartPoll => exact execSmartPoll_kept _ _ _ _ h rfl
  | cstsPoll => exact execCstsPoll_kept _ _ h rfl
  | driveAsyncEvent => exact execDriveAsyncEvent_kept _ _ _ h rfl
  | driveRelease => exact execDriveRelease_kept _ _ _ h rfl
  | handOver => exact execHandOver_kept _ _ h rfl
  | eventRead => exact execEventRead_kept _ _ _ h rfl
  | counterRead => exact execCounterRead_kept _ _ _ h rfl
  | registerSequence => exact execRegisterSequence_kept _ _ _ _ h rfl
  | flashWrite => exact execFlashWrite_kept _ _ _ _ _ h rfl
  | driveReadyTimeout => exact execDriveReadyTimeout_kept _ h rfl
  | memberAbortDone => exact execMemberAbortDone_kept _ h rfl
  | slotPresentDebounced => exact execSlotPresentDebounced_kept _ h rfl
  | slotRemoved => exact execSlotRemoved_kept _ h rfl
  | insertDelayExpiry => exact execInsertDelayExpiry_kept _ h rfl
  | slotChannelStart => exact execSlotChannelStart_kept _ h rfl
  | slotPowerGood => exact execSlotPowerGood_kept _ h rfl
  | faultTimerExpiry => exact execFaultTimerExpiry_kept _ h rfl
  | efuseTrip => exact execEfuseTrip_kept _ h rfl
  | slotOutputUv => exact execSlotOutputUv_kept _ h rfl
  | slotInputOutOfWindow => exact execSlotInputOutOfWindow_kept _ _ h rfl
  | brownoutHoldStart => exact execBrownoutHoldStart_kept _ h rfl
  | brownoutHoldExpiry => exact execBrownoutHoldExpiry_kept _ _ h rfl
  | retryDelayExpiry => exact execRetryDelayExpiry_kept _ h rfl
  | retryCountClearExpiry => exact execRetryCountClearExpiry_kept _ h rfl
  | slotClear => exact execSlotClear_kept _ _ h rfl
  | slotCycle => exact execSlotCycle_kept _ _ h rfl
  | slotCycleExpiry => exact execSlotCycleExpiry_kept _ h rfl
  | slotPeakClear => exact execSlotPeakClear_kept _ _ h rfl
  | slotShutdownDone => exact execSlotShutdownDone_kept _ h rfl
  | slotStopAckTimeout => exact execSlotStopAckTimeout_kept _ h rfl
  | slotHeldCheck => exact execSlotHeldCheck_kept _ _ h rfl
  | slotDischargeCheck => exact execSlotDischargeCheck_kept _ _ _ h rfl
  | feedPresentDebounced => exact execFeedPresentDebounced_kept _ h rfl
  | feedInsertDelayExpiry => exact execFeedInsertDelayExpiry_kept _ h rfl
  | feedReturnHoldExpiry => exact execFeedReturnHoldExpiry_kept _ h rfl
  | feedFailureTransfer => exact execFeedFailureTransfer_kept _ h rfl
  | feedDeadTimeExpiry => exact execFeedDeadTimeExpiry_kept h rfl
  | feedPowerGood => exact execFeedPowerGood_kept _ h rfl
  | supplyWarningAssert => exact execSupplyWarningAssert_kept h rfl
  | supplyWarningRelease => exact execSupplyWarningRelease_kept h rfl
  | feedInputOutOfWindow => exact execFeedInputOutOfWindow_kept _ h rfl
  | feedRemoved => exact execFeedRemoved_kept _ h rfl
  | pawnChallengeRx => exact execPawnChallengeRx_kept _ _ h rfl
  | pawnProofRx => exact execPawnProofRx_kept _ _ _ h rfl
  | witnessProofTimeout => exact execWitnessProofTimeout_kept _ h rfl
  | witnessRetryExpiry => exact execWitnessRetryExpiry_kept _ h rfl
  | witnessConnectionLost => exact execWitnessConnectionLost_kept _ h rfl
  | pawnRequestRx => exact execPawnRequestRx_kept _ _ _ h rfl
  | contentionWaitExpiry => exact execContentionWaitExpiry_kept _ h rfl
  | pawnGrantRx => exact execPawnGrantRx_kept _ _ h rfl
  | pawnDenyRx => exact execPawnDenyRx_kept _ _ h rfl
  | denyWaitExpiry => exact execDenyWaitExpiry_kept _ h rfl
  | pawnReleaseRx => exact execPawnReleaseRx_kept _ _ _ h rfl
  | pawnRenewTimer => exact execPawnRenewTimer_kept h rfl
  | pawnResendExpiry => exact execPawnResendExpiry_kept _ h rfl
  | minorityBackoffExpiry => exact execMinorityBackoffExpiry_kept h rfl
  | pawnCutoff => exact execPawnCutoff_kept h rfl
  | pawnExpiry => exact execPawnExpiry_kept h rfl
  | helloRx => exact execHelloRx_kept _ _ h rfl
  | heartbeatRx => exact execHeartbeatRx_kept _ _ h rfl
  | heartbeatTimer => exact execHeartbeatTimer_kept h rfl
  | peerLost => exact execPeerLost_kept h rfl
  | mapBulkRx => exact execMapBulkRx_kept _ _ _ h rfl
  | mapDeltaRx => exact execMapDeltaRx_kept _ _ h rfl
  | trailerRx => exact execTrailerRx_kept _ _ h rfl
  | recordRx => exact execRecordRx_kept _ _ h rfl
  | nackRx => exact execNackRx_kept _ h rfl
  | slotDemandRx => exact execSlotDemandRx_kept _ h rfl
  | slotDemandTimer => exact execSlotDemandTimer_kept h rfl
  | slotAckRx => exact execSlotAckRx_kept _ h rfl
  | healthRx => exact execHealthRx_kept _ _ h rfl
  | yieldRx reason => exact execYieldRx_kept reason _ h rfl
  | recoveryHelloTimeout => exact execRecoveryHelloTimeout_kept h rfl
  | fitnessTestDone => exact execFitnessTestDone_kept _ _ _ _ h rfl
  | handOverDrainTimeout => exact execHandOverDrainTimeout_kept h rfl
  | checkpointFenceExpiry => exact execCheckpointFenceExpiry_kept h rfl
  | pairUnserviceableTimer => exact execPairUnserviceableTimer_kept h rfl
  | replicaExtentSend => exact execReplicaExtentSend_kept _ _ _ h rfl
  | replicaDownTimeout => exact execReplicaDownTimeout_kept _ h rfl
  | endpointReset => exact execEndpointReset_kept _ h rfl
  | endpointLinkUp => exact execEndpointLinkUp_kept _ _ _ h rfl
  | powerStateChange => exact execPowerStateChange_kept _ h rfl
  | msixUnmask => exact execMsixUnmask_kept _ _ h rfl
  | mailboxSubmit => exact execMailboxSubmit_kept _ h rfl
  | mailboxDmaDone => exact execMailboxDmaDone_kept h rfl
  | flashEraseDone => exact execFlashEraseDone_kept _ h rfl
  | flashPageProgramDone => exact execFlashPageProgramDone_kept _ h rfl
  | functionLevelReset => exact execFunctionLevelReset_kept h rfl
  | flrDmaQuiesce => exact execFlrDmaQuiesce_kept h rfl
  | flrComplete => exact execFlrComplete_kept h rfl
  | endpointContain => exact execEndpointContain_kept _ h rfl
  | containmentRelease => exact execContainmentRelease_kept h rfl
  | sepPerstRelease => exact execSepPerstRelease_kept h rfl
  | eventRingHeadWrite => exact execEventRingHeadWrite_kept _ _ h rfl
  | snapshotPassDone => exact execSnapshotPassDone_kept h rfl
  | counterPreload => exact execCounterPreload_kept _ h rfl
  | counterLiveRead => exact execCounterLiveRead_kept _ h rfl
  | counterOverflow => exact execCounterOverflow_kept _ _ h rfl
  | counterSampleRead => exact execCounterSampleRead_kept _ h rfl
  | bwWindowWrite => exact execBwWindowWrite_kept _ _ h rfl

/-- Settles O1: `step` takes the front of the queue. -/
theorem stepRunsFront : Obligations.StepRunsFront := by
  unfold Obligations.StepRunsFront
  intro c rest s
  rfl

/-- Settles O2: `step` on an empty queue (the model's choice, assumption 6). -/
theorem idleOnEmptyQueue : Obligations.IdleOnEmptyQueue := by
  unfold Obligations.IdleOnEmptyQueue
  intro s hempty
  simp [step, hempty]

/-- Settles O3: by `exec_kept`, since the queue is not among the parts that a command may change. -/
theorem queueIsKept : Obligations.QueueIsKept := by
  unfold Obligations.QueueIsKept
  intro i s t hexec
  have hkept : KeptOut partsButQueue s (.next t) := hexec ▸ exec_kept i s
  exact Kept.pending hkept

/-- Settles O4: State.reset as it is written down (assumptions 1 and 2 choose the values that no rule gives). -/
theorem stateAtReset : Obligations.StateAtReset := by
  unfold Obligations.StateAtReset
  exact ⟨⟨rfl, rfl⟩, fun _ _ _ => rfl, fun _ => rfl, rfl, rfl, rfl, rfl, rfl, rfl, rfl, rfl, rfl, rfl, rfl, rfl⟩

/-- A command keeps the canonical form. -/
theorem exec_keeps_canon {i : Instr} {s t : State} (hcanon : s.Canon) (hexec : exec i s = .next t) : t.Canon := by
  have hkept : Kept partsButQueue s t := show KeptOut partsButQueue s (.next t) from hexec ▸ exec_kept i s
  exact ⟨hkept.regs hcanon.1, hkept.dram hcanon.2⟩

/-- Settles O5: a step runs the front command on the state with the queue's rest, whose register file and DRAM are the same, or idles. -/
theorem canonIsKept : Obligations.CanonIsKept := by
  unfold Obligations.CanonIsKept
  intro s t hcanon hstep
  cases hqueue : s.pending with
  | nil =>
    have hidle : step s = .next s := idleOnEmptyQueue s hqueue
    rw [hidle] at hstep
    cases hstep
    exact hcanon
  | cons c rest =>
    have hrun : step s = exec c { s with pending := rest } := by simp only [step, hqueue]
    rw [hrun] at hstep
    exact exec_keeps_canon (s := { s with pending := rest }) hcanon hstep

/-! ### Frames -/

/-- A command whose meaning keeps all but the listed parts leaves the others alone. -/
theorem leaves_of_kept {ps : List Part} {i : Instr} (h : ∀ s, KeptOut ps s (exec i s)) : Leaves ps i := by
  intro s t hexec
  have hkept : KeptOut ps s (.next t) := hexec ▸ h s
  exact ⟨Kept.frame hkept, Kept.file hkept⟩

/-- Settles O38: each line is the lemma that says what the command's meaning keeps. -/
theorem frameOfTurnAndBoot : Obligations.FrameOfTurnAndBoot := by
  unfold Obligations.FrameOfTurnAndBoot
  exact ⟨
    fun _ => leaves_of_kept fun s => execCoreWatchdogExpiry_kept _ (.refl _ s) rfl,
    fun _ _ => leaves_of_kept fun s => execStagingHoldExpiry_kept _ _ (.refl _ s) rfl,
    fun _ _ _ _ _ => leaves_of_kept fun s => execPtpSyncRx_kept _ _ _ _ _ (.refl _ s) rfl,
    fun _ _ _ _ => leaves_of_kept fun s => execPtpFollowUpRx_kept _ _ _ _ (.refl _ s) rfl,
    fun _ _ _ _ _ => leaves_of_kept fun s => execPtpDelayRespRx_kept _ _ _ _ _ (.refl _ s) rfl,
    fun _ _ => leaves_of_kept fun s => execPtpAnnounceRx_kept _ _ (.refl _ s) rfl,
    leaves_of_kept fun s => execAcquireTimeoutExpiry_kept (.refl _ s) rfl,
    leaves_of_kept fun s => execSyncLossTimeout_kept (.refl _ s) rfl,
    fun _ => leaves_of_kept fun s => execTrnReload_kept _ (.refl _ s) rfl,
    leaves_of_kept fun s => execReloadTimeoutExpiry_kept (.refl _ s) rfl,
    fun _ _ _ _ => leaves_of_kept fun s => execShadowWrite_kept _ _ _ _ (.refl _ s) rfl,
    fun _ _ => leaves_of_kept fun s => execBankCommit_kept _ _ (.refl _ s) rfl,
    fun _ _ => leaves_of_kept fun s => execBankAbort_kept _ _ (.refl _ s) rfl,
    fun _ => leaves_of_kept fun s => execSysResetAssert_kept _ (.refl _ s) rfl,
    fun _ => leaves_of_kept fun s => execSysResetRelease_kept _ (.refl _ s) rfl,
    fun _ _ => leaves_of_kept fun s => execDramTrainingDone_kept _ _ (.refl _ s) rfl,
    fun _ => leaves_of_kept fun s => execSpiTransactionTimeout_kept _ (.refl _ s) rfl,
    leaves_of_kept fun s => execCopyReadDone_kept (.refl _ s) rfl,
    leaves_of_kept fun s => execFirmwareStarted_kept (.refl _ s) rfl,
    fun _ => leaves_of_kept fun s => execCfgReboot_kept _ (.refl _ s) rfl,
    fun _ _ _ => leaves_of_kept fun s => execBrownOut_kept _ _ _ (.refl _ s) rfl,
    fun _ _ _ => leaves_of_kept fun s => execTemperatureSample_kept _ _ _ (.refl _ s) rfl,
    fun _ => leaves_of_kept fun s => execTamperEvent_kept _ (.refl _ s) rfl,
    fun _ _ => leaves_of_kept fun s => execServiceRequest_kept _ _ (.refl _ s) rfl,
    fun _ _ => leaves_of_kept fun s => execReleaseRequest_kept _ _ (.refl _ s) rfl,
    leaves_of_kept fun s => execReleaseDrainDone_kept (.refl _ s) rfl,
    fun _ _ _ _ _ _ => leaves_of_kept fun s => execFirmwareImageDownload_kept _ _ _ _ _ _ (.refl _ s) rfl,
    fun _ _ _ => leaves_of_kept fun s => execFirmwareCommitStore_kept _ _ _ (.refl _ s) rfl,
    fun _ _ _ _ => leaves_of_kept fun s => execFirmwareCommitAtReset_kept _ _ _ _ (.refl _ s) rfl,
    fun _ _ _ => leaves_of_kept fun s => execFirmwareCommitActivate_kept _ _ _ (.refl _ s) rfl,
    fun _ => leaves_of_kept fun s => execCommitReadbackDone_kept _ (.refl _ s) rfl,
    leaves_of_kept fun s => execActivationRecordWritten_kept (.refl _ s) rfl,
    leaves_of_kept fun s => execFirmwareReady_kept (.refl _ s) rfl,
    leaves_of_kept fun s => execActivationGuardExpiry_kept (.refl _ s) rfl,
    fun _ => leaves_of_kept fun s => execTurnBoundary_kept _ (.refl _ s) rfl⟩

/-- Settles O39: each line is the lemma that says what the command's meaning keeps. -/
theorem frameOfIdentityAndPorts : Obligations.FrameOfIdentityAndPorts := by
  unfold Obligations.FrameOfIdentityAndPorts
  exact ⟨
    fun _ => leaves_of_kept fun s => execOwnerEnrol_kept _ (.refl _ s) rfl,
    fun _ => leaves_of_kept fun s => execOwnerRevoke_kept _ (.refl _ s) rfl,
    fun _ => leaves_of_kept fun s => execFuseProgramDone_kept _ (.refl _ s) rfl,
    fun _ _ => leaves_of_kept fun s => execSvnFloorRaise_kept _ _ (.refl _ s) rfl,
    fun _ _ _ => leaves_of_kept fun s => execAttestationQuote_kept _ _ _ (.refl _ s) rfl,
    leaves_of_kept fun s => execQuoteSigned_kept (.refl _ s) rfl,
    fun _ _ => leaves_of_kept fun s => execLinkAnDone_kept _ _ (.refl _ s) rfl,
    fun _ => leaves_of_kept fun s => execLinkTrainingDone_kept _ (.refl _ s) rfl,
    fun _ => leaves_of_kept fun s => execLinkTrainingTimeout_kept _ (.refl _ s) rfl,
    fun _ => leaves_of_kept fun s => execLinkLockAcquired_kept _ (.refl _ s) rfl,
    fun _ => leaves_of_kept fun s => execLinkAlignTimeout_kept _ (.refl _ s) rfl,
    fun _ => leaves_of_kept fun s => execLinkQualifyDone_kept _ (.refl _ s) rfl,
    fun _ => leaves_of_kept fun s => execLinkLockLost_kept _ (.refl _ s) rfl,
    fun _ => leaves_of_kept fun s => execLinkLossTimeout_kept _ (.refl _ s) rfl,
    fun _ => leaves_of_kept fun s => execLinkNegotiationTimeout_kept _ (.refl _ s) rfl,
    fun _ _ => leaves_of_kept fun s => execLinkFaultTimeout_kept _ _ (.refl _ s) rfl,
    fun _ _ _ => leaves_of_kept fun s => execFecWindowEnd_kept _ _ _ (.refl _ s) rfl,
    fun _ _ => leaves_of_kept fun s => execFrameRx_kept _ _ (.refl _ s) rfl,
    fun _ _ _ _ => leaves_of_kept fun s => execArpRequestRx_kept _ _ _ _ (.refl _ s) rfl,
    fun _ _ _ => leaves_of_kept fun s => execArpReplyRx_kept _ _ _ (.refl _ s) rfl,
    fun _ _ _ _ => leaves_of_kept fun s => execNeighbourSolicitationRx_kept _ _ _ _ (.refl _ s) rfl,
    fun _ _ _ => leaves_of_kept fun s => execNeighbourAdvertisementRx_kept _ _ _ (.refl _ s) rfl,
    fun _ => leaves_of_kept fun s => execEthDropClear_kept _ (.refl _ s) rfl⟩

/-- Settles O40: each line is the lemma that says what the command's meaning keeps. -/
theorem frameOfTransport : Obligations.FrameOfTransport := by
  unfold Obligations.FrameOfTransport
  exact ⟨
    fun _ _ _ => leaves_of_kept fun s => execSendRx_kept _ _ _ (.refl _ s) rfl,
    fun _ _ _ _ _ _ => leaves_of_kept fun s => execRdmaWriteRx_kept _ _ _ _ _ _ (.refl _ s) rfl,
    fun _ _ _ _ => leaves_of_kept fun s => execRdmaReadRequestRx_kept _ _ _ _ (.refl _ s) rfl,
    fun _ _ _ => leaves_of_kept fun s => execRdmaReadResponseRx_kept _ _ _ (.refl _ s) rfl,
    fun _ _ _ _ => leaves_of_kept fun s => execAckRx_kept _ _ _ _ (.refl _ s) rfl,
    fun _ _ _ => leaves_of_kept fun s => execNakRx_kept _ _ _ (.refl _ s) rfl,
    fun _ _ _ => leaves_of_kept fun s => execRnrNakRx_kept _ _ _ (.refl _ s) rfl,
    fun _ => leaves_of_kept fun s => execCnpRx_kept _ (.refl _ s) rfl,
    fun _ => leaves_of_kept fun s => execSendWithInvalidateRx_kept _ (.refl _ s) rfl,
    fun _ _ => leaves_of_kept fun s => execContextFetchDone_kept _ _ (.refl _ s) rfl,
    fun _ => leaves_of_kept fun s => execAckTimeout_kept _ (.refl _ s) rfl,
    fun _ => leaves_of_kept fun s => execRnrWaitExpiry_kept _ (.refl _ s) rfl,
    fun _ _ => leaves_of_kept fun s => execWqePost_kept _ _ (.refl _ s) rfl,
    fun _ => leaves_of_kept fun s => execTriggerTimeout_kept _ (.refl _ s) rfl,
    fun _ _ => leaves_of_kept fun s => execQpForceError_kept _ _ (.refl _ s) rfl,
    fun _ => leaves_of_kept fun s => execQpContextRead_kept _ (.refl _ s) rfl,
    leaves_of_kept fun s => execMissPeakClear_kept (.refl _ s) rfl,
    fun _ _ _ _ _ _ _ _ _ => leaves_of_kept fun s => execWindowOpen_kept _ _ _ _ _ _ _ _ _ (.refl _ s) rfl,
    fun _ _ _ => leaves_of_kept fun s => execWindowClose_kept _ _ _ (.refl _ s) rfl,
    fun _ => leaves_of_kept fun s => execWindowRevokeDrained_kept _ (.refl _ s) rfl,
    fun _ => leaves_of_kept fun s => execWindowDescriptorRead_kept _ (.refl _ s) rfl,
    leaves_of_kept fun s => execWindowViolationClear_kept (.refl _ s) rfl⟩

/-- Settles O41: each line is the lemma that says what the command's meaning keeps. -/
theorem frameOfConnectionsAndScheduling : Obligations.FrameOfConnectionsAndScheduling := by
  unfold Obligations.FrameOfConnectionsAndScheduling
  exact ⟨
    fun _ => leaves_of_kept fun s => execCmReqRx_kept _ (.refl _ s) rfl,
    fun _ _ _ _ => leaves_of_kept fun s => execCmRepRx_kept _ _ _ _ (.refl _ s) rfl,
    fun _ => leaves_of_kept fun s => execCmRtuRx_kept _ (.refl _ s) rfl,
    fun _ reason => leaves_of_kept fun s => execCmRejRx_kept _ reason (.refl _ s) rfl,
    fun _ _ => leaves_of_kept fun s => execCmMraRx_kept _ _ (.refl _ s) rfl,
    fun _ => leaves_of_kept fun s => execCmDreqRx_kept _ (.refl _ s) rfl,
    fun _ => leaves_of_kept fun s => execCmDrepRx_kept _ (.refl _ s) rfl,
    leaves_of_kept fun s => KeptOut.next (Kept.refl _ s),
    fun _ _ => leaves_of_kept fun s => execConnectInitiate_kept _ _ (.refl _ s) rfl,
    fun _ => leaves_of_kept fun s => execConnectRetryExpiry_kept _ (.refl _ s) rfl,
    fun _ => leaves_of_kept fun s => execMraTimerExpiry_kept _ (.refl _ s) rfl,
    fun _ => leaves_of_kept fun s => execQpDrainDone_kept _ (.refl _ s) rfl,
    fun _ => leaves_of_kept fun s => execQpDrainTimeout_kept _ (.refl _ s) rfl,
    fun _ => leaves_of_kept fun s => execQpTimewaitExpiry_kept _ (.refl _ s) rfl,
    fun _ _ _ => leaves_of_kept fun s => execEgressPick_kept _ _ _ (.refl _ s) rfl,
    fun _ _ _ _ => leaves_of_kept fun s => execIngestPullIssue_kept _ _ _ _ (.refl _ s) rfl,
    fun _ => leaves_of_kept fun s => execSchParamWrite_kept _ (.refl _ s) rfl,
    fun _ => leaves_of_kept fun s => execSchParamRead_kept _ (.refl _ s) rfl,
    fun _ => leaves_of_kept fun s => execSchParamReadLive_kept _ (.refl _ s) rfl,
    leaves_of_kept fun s => execIngestHeldTimeout_kept (.refl _ s) rfl⟩

/-- Settles O42: each line is the lemma that says what the command's meaning keeps. -/
theorem frameOfControllers : Obligations.FrameOfControllers := by
  unfold Obligations.FrameOfControllers
  exact ⟨
    fun _ _ _ _ _ _ _ _ => leaves_of_kept fun s => execFabricsConnect_kept _ _ _ _ _ _ _ _ (.refl _ s) rfl,
    fun _ _ _ => leaves_of_kept fun s => execPropertyGet_kept _ _ _ (.refl _ s) rfl,
    fun _ _ _ _ => leaves_of_kept fun s => execPropertySet_kept _ _ _ _ (.refl _ s) rfl,
    fun _ _ _ _ _ => leaves_of_kept fun s => execIdentify_kept _ _ _ _ _ (.refl _ s) rfl,
    fun _ _ _ _ _ => leaves_of_kept fun s => execGetLogPage_kept _ _ _ _ _ (.refl _ s) rfl,
    fun _ _ _ _ => leaves_of_kept fun s => execAbort_kept _ _ _ _ (.refl _ s) rfl,
    fun _ _ _ _ _ => leaves_of_kept fun s => execSetFeatures_kept _ _ _ _ _ (.refl _ s) rfl,
    fun _ _ _ _ => leaves_of_kept fun s => execGetFeatures_kept _ _ _ _ (.refl _ s) rfl,
    fun _ _ => leaves_of_kept fun s => execAsyncEventRequest_kept _ _ (.refl _ s) rfl,
    fun _ _ _ _ _ => leaves_of_kept fun s => execNamespaceCreate_kept _ _ _ _ _ (.refl _ s) rfl,
    fun _ _ _ => leaves_of_kept fun s => execNamespaceDelete_kept _ _ _ (.refl _ s) rfl,
    fun _ _ _ _ => leaves_of_kept fun s => execNamespaceResize_kept _ _ _ _ (.refl _ s) rfl,
    fun _ _ _ => leaves_of_kept fun s => execSelfTestShort_kept _ _ _ (.refl _ s) rfl,
    fun _ _ _ => leaves_of_kept fun s => execSelfTestExtended_kept _ _ _ (.refl _ s) rfl,
    fun _ _ => leaves_of_kept fun s => execSelfTestAbort_kept _ _ (.refl _ s) rfl,
    fun _ => leaves_of_kept fun s => execSelfTestDone_kept _ (.refl _ s) rfl,
    fun _ _ => leaves_of_kept fun s => execKeepAlive_kept _ _ (.refl _ s) rfl,
    fun _ => leaves_of_kept fun s => execKeepAliveExpiry_kept _ (.refl _ s) rfl,
    fun _ _ => leaves_of_kept fun s => execGetChallenge_kept _ _ (.refl _ s) rfl,
    fun _ _ _ _ => leaves_of_kept fun s => execAuthenticate_kept _ _ _ _ (.refl _ s) rfl⟩

/-- Settles O43: each line is the lemma that says what the command's meaning keeps. -/
theorem frameOfIo : Obligations.FrameOfIo := by
  unfold Obligations.FrameOfIo
  exact ⟨
    fun _ _ => leaves_of_kept fun s => execNvmRead_kept _ _ (.refl _ s) rfl,
    fun _ _ => leaves_of_kept fun s => execNvmWrite_kept _ _ (.refl _ s) rfl,
    fun _ _ _ _ _ => leaves_of_kept fun s => execWindowCommit_kept _ _ _ _ _ (.refl _ s) rfl,
    fun _ => leaves_of_kept fun s => execFlush_kept _ (.refl _ s) rfl,
    fun _ => leaves_of_kept fun s => execWriteZeroes_kept _ (.refl _ s) rfl,
    fun _ _ _ => leaves_of_kept fun s => execDatasetManagement_kept _ _ _ (.refl _ s) rfl,
    fun _ _ => leaves_of_kept fun s => execZoneAppend_kept _ _ (.refl _ s) rfl,
    fun _ _ => leaves_of_kept fun s => execZoneClose_kept _ _ (.refl _ s) rfl,
    fun _ _ => leaves_of_kept fun s => execZoneFinish_kept _ _ (.refl _ s) rfl,
    fun _ _ => leaves_of_kept fun s => execZoneOpen_kept _ _ (.refl _ s) rfl,
    fun _ _ => leaves_of_kept fun s => execZoneReset_kept _ _ (.refl _ s) rfl,
    fun _ _ _ => leaves_of_kept fun s => execZoneManagementReceive_kept _ _ _ (.refl _ s) rfl,
    fun _ => leaves_of_kept fun s => execCommandAdmit_kept _ (.refl _ s) rfl⟩

/-- Settles O44: each line is the lemma that says what the command's meaning keeps. -/
theorem frameOfFrogspawnAndCache : Obligations.FrameOfFrogspawnAndCache := by
  unfold Obligations.FrameOfFrogspawnAndCache
  exact ⟨
    fun _ _ _ => leaves_of_kept fun s => execFspAllocate_kept _ _ _ (.refl _ s) rfl,
    fun _ _ => leaves_of_kept fun s => execFspFree_kept _ _ (.refl _ s) rfl,
    fun _ _ => leaves_of_kept fun s => execFspIncref_kept _ _ (.refl _ s) rfl,
    fun _ _ => leaves_of_kept fun s => execFspCacheRefill_kept _ _ (.refl _ s) rfl,
    fun _ => leaves_of_kept fun s => execFspCacheWriteback_kept _ (.refl _ s) rfl,
    leaves_of_kept fun s => execFspClear_kept (.refl _ s) rfl,
    leaves_of_kept fun s => execCacheEnable_kept (.refl _ s) rfl,
    leaves_of_kept fun s => execCacheDisable_kept (.refl _ s) rfl,
    leaves_of_kept fun s => execCacheDrainDone_kept (.refl _ s) rfl,
    fun _ _ _ _ => leaves_of_kept fun s => execCacheFillDone_kept _ _ _ _ (.refl _ s) rfl,
    fun _ => leaves_of_kept fun s => execSalClean_kept _ (.refl _ s) rfl,
    fun _ => leaves_of_kept fun s => execSalInvalidate_kept _ (.refl _ s) rfl,
    fun _ => leaves_of_kept fun s => execSalCleanInvalidate_kept _ (.refl _ s) rfl,
    fun _ => leaves_of_kept fun s => execSalPin_kept _ (.refl _ s) rfl,
    fun _ => leaves_of_kept fun s => execSalUnpin_kept _ (.refl _ s) rfl,
    leaves_of_kept fun s => execSalOperationStart_kept (.refl _ s) rfl,
    leaves_of_kept fun s => execSalWriteBackIssue_kept (.refl _ s) rfl,
    leaves_of_kept fun s => execSalOperationDone_kept (.refl _ s) rfl⟩

/-- Settles O45: each line is the lemma that says what the command's meaning keeps. -/
theorem frameOfCompressionAndCipher : Obligations.FrameOfCompressionAndCipher := by
  unfold Obligations.FrameOfCompressionAndCipher
  exact ⟨
    fun _ _ _ => leaves_of_kept fun s => execCompressBlockStart_kept _ _ _ (.refl _ s) rfl,
    fun _ _ => leaves_of_kept fun s => execCompressBlockDone_kept _ _ (.refl _ s) rfl,
    fun _ => leaves_of_kept fun s => execSpillReadbackDone_kept _ (.refl _ s) rfl,
    fun _ _ => leaves_of_kept fun s => execDecompressBlockStart_kept _ _ (.refl _ s) rfl,
    fun _ _ => leaves_of_kept fun s => execDecompressBlockDone_kept _ _ (.refl _ s) rfl,
    leaves_of_kept fun s => execCmpVerifyClear_kept (.refl _ s) rfl,
    fun _ _ _ => leaves_of_kept fun s => execKeyLoad_kept _ _ _ (.refl _ s) rfl,
    fun _ _ _ => leaves_of_kept fun s => execKeyDestroy_kept _ _ _ (.refl _ s) rfl,
    fun _ _ _ _ _ => leaves_of_kept fun s => execKeyActivate_kept _ _ _ _ _ (.refl _ s) rfl,
    leaves_of_kept fun s => execResealDone_kept (.refl _ s) rfl,
    fun _ _ _ _ _ _ _ _ _ => leaves_of_kept fun s => execCipherJob_kept _ _ _ _ _ _ _ _ _ (.refl _ s) rfl,
    fun _ _ => leaves_of_kept fun s => execFallbackKeyLoad_kept _ _ (.refl _ s) rfl,
    fun _ => leaves_of_kept fun s => execKeySlotRead_kept _ (.refl _ s) rfl,
    leaves_of_kept fun s => execIvEpochDurable_kept (.refl _ s) rfl⟩

/-- Settles O46: each line is the lemma that says what the command's meaning keeps. -/
theorem frameOfStorage : Obligations.FrameOfStorage := by
  unfold Obligations.FrameOfStorage
  exact ⟨
    fun _ _ => leaves_of_kept fun s => execMemberReadDone_kept _ _ (.refl _ s) rfl,
    fun _ _ _ _ => leaves_of_kept fun s => execVersionPlace_kept _ _ _ _ (.refl _ s) rfl,
    fun _ _ => leaves_of_kept fun s => execGatherHoldExpiry_kept _ _ (.refl _ s) rfl,
    fun _ _ => leaves_of_kept fun s => execCloseHoldExpiry_kept _ _ (.refl _ s) rfl,
    fun _ _ _ => leaves_of_kept fun s => execParitySlotWaitTimeout_kept _ _ _ (.refl _ s) rfl,
    fun _ _ _ _ => leaves_of_kept fun s => execStripeWriteDone_kept _ _ _ _ (.refl _ s) rfl,
    fun _ => leaves_of_kept fun s => execCompactionStart_kept _ (.refl _ s) rfl,
    fun _ => leaves_of_kept fun s => execSetReadyTimeout_kept _ (.refl _ s) rfl,
    fun _ => leaves_of_kept fun s => execSetIdleTimeout_kept _ (.refl _ s) rfl,
    fun _ _ => leaves_of_kept fun s => execSetPowerOnRequest_kept _ _ (.refl _ s) rfl,
    fun _ _ => leaves_of_kept fun s => execSetStopRequest_kept _ _ (.refl _ s) rfl,
    fun _ => leaves_of_kept fun s => execSetStopWritesDone_kept _ (.refl _ s) rfl,
    leaves_of_kept fun s => execDeltaBatchWrite_kept (.refl _ s) rfl,
    leaves_of_kept fun s => execCheckpointStart_kept (.refl _ s) rfl,
    leaves_of_kept fun s => execCheckpointDone_kept (.refl _ s) rfl,
    leaves_of_kept fun s => execMetadataWriteDone_kept (.refl _ s) rfl,
    fun _ _ _ => leaves_of_kept fun s => execJournalWriteDone_kept _ _ _ (.refl _ s) rfl,
    fun _ => leaves_of_kept fun s => execAnchorReseedTimeout_kept _ (.refl _ s) rfl,
    fun _ _ => leaves_of_kept fun s => execReplayDone_kept _ _ (.refl _ s) rfl,
    fun _ => leaves_of_kept fun s => execResyncWindowExpiry_kept _ (.refl _ s) rfl,
    fun _ _ => leaves_of_kept fun s => execWalkRowIssue_kept _ _ (.refl _ s) rfl,
    fun _ _ _ => leaves_of_kept fun s => execWalkRowDone_kept _ _ _ (.refl _ s) rfl,
    fun _ _ _ _ => leaves_of_kept fun s => execReshapeStart_kept _ _ _ _ (.refl _ s) rfl,
    leaves_of_kept fun s => execReshapeBatchDone_kept (.refl _ s) rfl,
    fun _ _ => leaves_of_kept fun s => execReshapeCancel_kept _ _ (.refl _ s) rfl,
    fun _ _ _ => leaves_of_kept fun s => execMemberFail_kept _ _ _ (.refl _ s) rfl⟩

/-- Settles O47: each line is the lemma that says what the command's meaning keeps. -/
theorem frameOfDrives : Obligations.FrameOfDrives := by
  unfold Obligations.FrameOfDrives
  exact ⟨
    fun _ => leaves_of_kept fun s => execDrivePerstRelease_kept _ (.refl _ s) rfl,
    fun _ _ _ => leaves_of_kept fun s => execDriveLinkUp_kept _ _ _ (.refl _ s) rfl,
    fun _ => leaves_of_kept fun s => execDriveLinkTimeout_kept _ (.refl _ s) rfl,
    fun _ => leaves_of_kept fun s => execDrivePerstRetryExpiry_kept _ (.refl _ s) rfl,
    fun _ _ => leaves_of_kept fun s => execDriveSetupStepDone_kept _ _ (.refl _ s) rfl,
    fun _ _ => leaves_of_kept fun s => execDriveFormatDone_kept _ _ (.refl _ s) rfl,
    fun _ => leaves_of_kept fun s => execDriveInboundViolation_kept _ (.refl _ s) rfl,
    fun _ => leaves_of_kept fun s => execDriveBadTlp_kept _ (.refl _ s) rfl,
    fun _ => leaves_of_kept fun s => execDriveLinkDown_kept _ (.refl _ s) rfl,
    fun _ => leaves_of_kept fun s => execDriveCompletionTimeout_kept _ (.refl _ s) rfl,
    fun _ _ => leaves_of_kept fun s => execMemberCommandTimeout_kept _ _ (.refl _ s) rfl,
    fun _ => leaves_of_kept fun s => execLadderStepTimeout_kept _ (.refl _ s) rfl,
    fun _ _ _ _ => leaves_of_kept fun s => execSmartPoll_kept _ _ _ _ (.refl _ s) rfl,
    fun _ _ => leaves_of_kept fun s => execCstsPoll_kept _ _ (.refl _ s) rfl,
    fun _ _ _ => leaves_of_kept fun s => execDriveAsyncEvent_kept _ _ _ (.refl _ s) rfl,
    fun _ _ _ => leaves_of_kept fun s => execDriveRelease_kept _ _ _ (.refl _ s) rfl,
    fun _ => leaves_of_kept fun s => execDriveReadyTimeout_kept _ (.refl _ s) rfl,
    fun _ => leaves_of_kept fun s => execMemberAbortDone_kept _ (.refl _ s) rfl⟩

/-- Settles O48: each line is the lemma that says what the command's meaning keeps. -/
theorem frameOfPower : Obligations.FrameOfPower := by
  unfold Obligations.FrameOfPower
  exact ⟨
    fun _ => leaves_of_kept fun s => execSlotPresentDebounced_kept _ (.refl _ s) rfl,
    fun _ => leaves_of_kept fun s => execSlotRemoved_kept _ (.refl _ s) rfl,
    fun _ => leaves_of_kept fun s => execInsertDelayExpiry_kept _ (.refl _ s) rfl,
    fun _ => leaves_of_kept fun s => execSlotChannelStart_kept _ (.refl _ s) rfl,
    fun _ => leaves_of_kept fun s => execSlotPowerGood_kept _ (.refl _ s) rfl,
    fun _ => leaves_of_kept fun s => execFaultTimerExpiry_kept _ (.refl _ s) rfl,
    fun _ => leaves_of_kept fun s => execEfuseTrip_kept _ (.refl _ s) rfl,
    fun _ => leaves_of_kept fun s => execSlotOutputUv_kept _ (.refl _ s) rfl,
    fun _ _ => leaves_of_kept fun s => execSlotInputOutOfWindow_kept _ _ (.refl _ s) rfl,
    fun _ => leaves_of_kept fun s => execBrownoutHoldStart_kept _ (.refl _ s) rfl,
    fun _ _ => leaves_of_kept fun s => execBrownoutHoldExpiry_kept _ _ (.refl _ s) rfl,
    fun _ => leaves_of_kept fun s => execRetryDelayExpiry_kept _ (.refl _ s) rfl,
    fun _ => leaves_of_kept fun s => execRetryCountClearExpiry_kept _ (.refl _ s) rfl,
    fun _ _ => leaves_of_kept fun s => execSlotClear_kept _ _ (.refl _ s) rfl,
    fun _ _ => leaves_of_kept fun s => execSlotCycle_kept _ _ (.refl _ s) rfl,
    fun _ => leaves_of_kept fun s => execSlotCycleExpiry_kept _ (.refl _ s) rfl,
    fun _ _ => leaves_of_kept fun s => execSlotPeakClear_kept _ _ (.refl _ s) rfl,
    fun _ => leaves_of_kept fun s => execSlotShutdownDone_kept _ (.refl _ s) rfl,
    fun _ => leaves_of_kept fun s => execSlotStopAckTimeout_kept _ (.refl _ s) rfl,
    fun _ _ => leaves_of_kept fun s => execSlotHeldCheck_kept _ _ (.refl _ s) rfl,
    fun _ _ _ => leaves_of_kept fun s => execSlotDischargeCheck_kept _ _ _ (.refl _ s) rfl,
    fun _ => leaves_of_kept fun s => execFeedPresentDebounced_kept _ (.refl _ s) rfl,
    fun _ => leaves_of_kept fun s => execFeedInsertDelayExpiry_kept _ (.refl _ s) rfl,
    fun _ => leaves_of_kept fun s => execFeedReturnHoldExpiry_kept _ (.refl _ s) rfl,
    fun _ => leaves_of_kept fun s => execFeedFailureTransfer_kept _ (.refl _ s) rfl,
    leaves_of_kept fun s => execFeedDeadTimeExpiry_kept (.refl _ s) rfl,
    fun _ => leaves_of_kept fun s => execFeedPowerGood_kept _ (.refl _ s) rfl,
    leaves_of_kept fun s => execSupplyWarningAssert_kept (.refl _ s) rfl,
    leaves_of_kept fun s => execSupplyWarningRelease_kept (.refl _ s) rfl,
    fun _ => leaves_of_kept fun s => execFeedInputOutOfWindow_kept _ (.refl _ s) rfl,
    fun _ => leaves_of_kept fun s => execFeedRemoved_kept _ (.refl _ s) rfl⟩

/-- Settles O49: each line is the lemma that says what the command's meaning keeps. -/
theorem frameOfFailover : Obligations.FrameOfFailover := by
  unfold Obligations.FrameOfFailover
  exact ⟨
    fun _ _ => leaves_of_kept fun s => execHandOver_kept _ _ (.refl _ s) rfl,
    fun _ _ => leaves_of_kept fun s => execPawnChallengeRx_kept _ _ (.refl _ s) rfl,
    fun _ _ _ => leaves_of_kept fun s => execPawnProofRx_kept _ _ _ (.refl _ s) rfl,
    fun _ => leaves_of_kept fun s => execWitnessProofTimeout_kept _ (.refl _ s) rfl,
    fun _ => leaves_of_kept fun s => execWitnessRetryExpiry_kept _ (.refl _ s) rfl,
    fun _ => leaves_of_kept fun s => execWitnessConnectionLost_kept _ (.refl _ s) rfl,
    fun _ _ _ => leaves_of_kept fun s => execPawnRequestRx_kept _ _ _ (.refl _ s) rfl,
    fun _ => leaves_of_kept fun s => execContentionWaitExpiry_kept _ (.refl _ s) rfl,
    fun _ _ => leaves_of_kept fun s => execPawnGrantRx_kept _ _ (.refl _ s) rfl,
    fun _ _ => leaves_of_kept fun s => execPawnDenyRx_kept _ _ (.refl _ s) rfl,
    fun _ => leaves_of_kept fun s => execDenyWaitExpiry_kept _ (.refl _ s) rfl,
    fun _ _ _ => leaves_of_kept fun s => execPawnReleaseRx_kept _ _ _ (.refl _ s) rfl,
    leaves_of_kept fun s => execPawnRenewTimer_kept (.refl _ s) rfl,
    fun _ => leaves_of_kept fun s => execPawnResendExpiry_kept _ (.refl _ s) rfl,
    leaves_of_kept fun s => execMinorityBackoffExpiry_kept (.refl _ s) rfl,
    leaves_of_kept fun s => execPawnCutoff_kept (.refl _ s) rfl,
    leaves_of_kept fun s => execPawnExpiry_kept (.refl _ s) rfl,
    fun _ _ => leaves_of_kept fun s => execHelloRx_kept _ _ (.refl _ s) rfl,
    fun _ _ => leaves_of_kept fun s => execHeartbeatRx_kept _ _ (.refl _ s) rfl,
    leaves_of_kept fun s => execHeartbeatTimer_kept (.refl _ s) rfl,
    leaves_of_kept fun s => execPeerLost_kept (.refl _ s) rfl,
    fun _ _ _ => leaves_of_kept fun s => execMapBulkRx_kept _ _ _ (.refl _ s) rfl,
    fun _ _ => leaves_of_kept fun s => execMapDeltaRx_kept _ _ (.refl _ s) rfl,
    fun _ _ => leaves_of_kept fun s => execTrailerRx_kept _ _ (.refl _ s) rfl,
    fun _ _ => leaves_of_kept fun s => execRecordRx_kept _ _ (.refl _ s) rfl,
    fun _ => leaves_of_kept fun s => execNackRx_kept _ (.refl _ s) rfl,
    fun _ => leaves_of_kept fun s => execSlotDemandRx_kept _ (.refl _ s) rfl,
    leaves_of_kept fun s => execSlotDemandTimer_kept (.refl _ s) rfl,
    fun _ => leaves_of_kept fun s => execSlotAckRx_kept _ (.refl _ s) rfl,
    fun _ _ => leaves_of_kept fun s => execHealthRx_kept _ _ (.refl _ s) rfl,
    fun reason _ => leaves_of_kept fun s => execYieldRx_kept reason _ (.refl _ s) rfl,
    leaves_of_kept fun s => execRecoveryHelloTimeout_kept (.refl _ s) rfl,
    fun _ _ _ _ => leaves_of_kept fun s => execFitnessTestDone_kept _ _ _ _ (.refl _ s) rfl,
    leaves_of_kept fun s => execHandOverDrainTimeout_kept (.refl _ s) rfl,
    leaves_of_kept fun s => execCheckpointFenceExpiry_kept (.refl _ s) rfl,
    leaves_of_kept fun s => execPairUnserviceableTimer_kept (.refl _ s) rfl,
    fun _ _ _ => leaves_of_kept fun s => execReplicaExtentSend_kept _ _ _ (.refl _ s) rfl,
    fun _ => leaves_of_kept fun s => execReplicaDownTimeout_kept _ (.refl _ s) rfl⟩

/-- Settles O50: each line is the lemma that says what the command's meaning keeps. -/
theorem frameOfEndpointCountersAndRegisters : Obligations.FrameOfEndpointCountersAndRegisters := by
  unfold Obligations.FrameOfEndpointCountersAndRegisters
  exact ⟨
    fun _ _ _ _ _ => leaves_of_kept fun s => execFlashWrite_kept _ _ _ _ _ (.refl _ s) rfl,
    fun _ => leaves_of_kept fun s => execEndpointReset_kept _ (.refl _ s) rfl,
    fun _ _ _ => leaves_of_kept fun s => execEndpointLinkUp_kept _ _ _ (.refl _ s) rfl,
    fun _ => leaves_of_kept fun s => execPowerStateChange_kept _ (.refl _ s) rfl,
    fun _ _ => leaves_of_kept fun s => execMsixUnmask_kept _ _ (.refl _ s) rfl,
    fun _ => leaves_of_kept fun s => execMailboxSubmit_kept _ (.refl _ s) rfl,
    leaves_of_kept fun s => execMailboxDmaDone_kept (.refl _ s) rfl,
    fun _ => leaves_of_kept fun s => execFlashEraseDone_kept _ (.refl _ s) rfl,
    fun _ => leaves_of_kept fun s => execFlashPageProgramDone_kept _ (.refl _ s) rfl,
    leaves_of_kept fun s => execFunctionLevelReset_kept (.refl _ s) rfl,
    leaves_of_kept fun s => execFlrDmaQuiesce_kept (.refl _ s) rfl,
    leaves_of_kept fun s => execFlrComplete_kept (.refl _ s) rfl,
    fun _ => leaves_of_kept fun s => execEndpointContain_kept _ (.refl _ s) rfl,
    leaves_of_kept fun s => execContainmentRelease_kept (.refl _ s) rfl,
    leaves_of_kept fun s => execSepPerstRelease_kept (.refl _ s) rfl,
    fun _ _ _ => leaves_of_kept fun s => execEventRead_kept _ _ _ (.refl _ s) rfl,
    fun _ _ _ => leaves_of_kept fun s => execCounterRead_kept _ _ _ (.refl _ s) rfl,
    fun _ _ => leaves_of_kept fun s => execEventRingHeadWrite_kept _ _ (.refl _ s) rfl,
    leaves_of_kept fun s => execSnapshotPassDone_kept (.refl _ s) rfl,
    fun _ => leaves_of_kept fun s => execCounterPreload_kept _ (.refl _ s) rfl,
    fun _ => leaves_of_kept fun s => execCounterLiveRead_kept _ (.refl _ s) rfl,
    fun _ _ => leaves_of_kept fun s => execCounterOverflow_kept _ _ (.refl _ s) rfl,
    fun _ => leaves_of_kept fun s => execCounterSampleRead_kept _ (.refl _ s) rfl,
    fun _ _ => leaves_of_kept fun s => execBwWindowWrite_kept _ _ (.refl _ s) rfl,
    fun _ _ _ _ => leaves_of_kept fun s => execRegisterWrite_kept _ _ _ _ (.refl _ s) rfl,
    fun _ _ _ _ => leaves_of_kept fun s => execRegisterSequence_kept _ _ _ _ (.refl _ s) rfl⟩

end Sys2Proof.Machine

/-!
Codecs that decode what they encoded: window descriptors, QPNs, keys, context residues and packed bits.
-/

namespace Sys2Proof.Machine

/-! ### Window descriptors (R196) -/

/-- The first word of a descriptor keeps the state code and each flag at a place of its own. -/
theorem flagWord_bits : ∀ (c : Fin 3) (b2 b3 b4 b5 b6 : Bool),
    let v := c.val + 4 * b2n b2 + 8 * b2n b3 + 16 * b2n b4 + 32 * b2n b5 + 64 * b2n b6
    bitsOf v 0 2 = c.val ∧ bitOf v 2 = b2 ∧ bitOf v 3 = b3 ∧ bitOf v 4 = b4 ∧ bitOf v 5 = b5 ∧ bitOf v 6 = b6 := by
  decide

/-- A descriptor whose fields fit their places is read back from its words. -/
theorem descOfWords_words (d : WinDesc) (htag : d.keyTag < 2 ^ 14) (htenant : d.tenant < 2 ^ 16) (hnsid : d.nsid < 2 ^ 16)
    (hhandle : d.handle < 2 ^ 16) (hlength : d.length < 2 ^ 13) (hturn : d.openTurn < 2 ^ 32) : descOfWords d.words = d := by
  obtain ⟨st, buffer, remoteW, remoteR, bind, fed, keyTag, tenant, nsid, handle, length, openTurn, listAddr⟩ := d
  dsimp only at htag htenant hnsid hhandle hlength hturn
  have htenantWord : (tenant + 65536 * nsid) % 65536 = tenant := by omega
  have hnsidWord : (tenant + 65536 * nsid) / 65536 % 65536 = nsid := by omega
  have haddr : listAddr % 2 ^ 32 + 2 ^ 32 * (listAddr / 2 ^ 32) = listAddr := Nat.mod_add_div _ _
  cases st with
  | free =>
    obtain ⟨hst, h2, h3, h4, h5, h6⟩ := flagWord_bits 0 buffer remoteW remoteR bind fed
    simp_all [descOfWords, WinDesc.words, Nat.mod_eq_of_lt]
  | isOpen =>
    obtain ⟨hst, h2, h3, h4, h5, h6⟩ := flagWord_bits 1 buffer remoteW remoteR bind fed
    simp_all [descOfWords, WinDesc.words, Nat.mod_eq_of_lt]
  | draining =>
    obtain ⟨hst, h2, h3, h4, h5, h6⟩ := flagWord_bits 2 buffer remoteW remoteR bind fed
    simp_all [descOfWords, WinDesc.words, Nat.mod_eq_of_lt]

/-! ### Context lists (R345) -/

/-- The `n`-th element that passes a test is `b`, where `n` smaller numbers pass it. -/
theorem getD_filter_range {p : Nat → Bool} {b n : Nat} (hb : p b = true) (hlt : b < n) :
    ((List.range b).filter p).length < ((List.range n).filter p).length ∧
      ((List.range n).filter p).getD ((List.range b).filter p).length 0 = b := by
  obtain ⟨m, rfl⟩ := Nat.exists_eq_add_of_lt hlt
  have hsplit : (List.range (b + m + 1)).filter p = (List.range b).filter p ++ b :: ((List.range m).map (b + 1 + ·)).filter p := by
    rw [show b + m + 1 = b + 1 + m by omega, List.range_add, List.range_succ]
    simp [List.filter_append, hb]
  rw [hsplit]
  exact ⟨by simp, by simp [List.getD_eq_getElem?_getD]⟩

section Context

variable {l : List Nat} {b : Nat}

/-- As many numbers below `b` stand in a list without repetitions as the list has elements below `b`. -/
theorem length_listed_below (hnodup : l.Nodup) : ((List.range b).filter fun x => l.contains x).length = (l.filter (· < b)).length := by
  refine List.Perm.length_eq ((List.perm_ext_iff_of_nodup (List.nodup_range.filter _) (hnodup.filter _)).2 fun x => ?_)
  simp [and_comm]

/-- The numbers below `b` that a list without repetitions does not hold. -/
theorem length_notListed_below (hnodup : l.Nodup) :
    ((List.range b).filter fun x => !l.contains x).length + (l.filter (· < b)).length = b := by
  rw [← length_listed_below hnodup, Nat.add_comm]
  have hall := List.length_eq_length_filter_add (l := List.range b) (fun x => l.contains x)
  simpa using hall.symm

/-- The residue of a byte that the list holds is its place in the list. -/
theorem ctxResidue_of_mem (hmem : b ∈ l) : ctxResidue l b < l.length ∧ ctxByte l (ctxResidue l b) = b := by
  have hfound : ∃ k, l.findIdx? (· == b) = some k := by
    rw [← Option.isSome_iff_exists, List.findIdx?_isSome]
    simpa using hmem
  obtain ⟨k, hk⟩ := hfound
  obtain ⟨hlt, heq, -⟩ := List.findIdx?_eq_some_iff_getElem.1 hk
  have hbyte : l[k] = b := by simpa using heq
  have hresidue : ctxResidue l b = k := by simp [ctxResidue, hk]
  rw [hresidue]
  exact ⟨hlt, by simp [ctxByte, hlt, hbyte]⟩

/-- The residue of a byte that the list does not hold is its place among the bytes that the list does not hold, after the list. -/
theorem ctxResidue_of_not_mem (hnodup : l.Nodup) (hmem : b ∉ l) :
    ctxResidue l b = l.length + ((List.range b).filter fun x => !l.contains x).length := by
  have hnone : l.findIdx? (· == b) = none := by
    rw [List.findIdx?_eq_none_iff]
    intro x hx
    simpa using fun h : x = b => hmem (h ▸ hx)
  have hcount := length_notListed_below (b := b) hnodup
  simp only [ctxResidue, hnone]
  omega

/-- A residue is a byte, and names the byte that it was made from. -/
theorem ctxByte_ctxResidue (hnodup : l.Nodup) (hbytes : ∀ x ∈ l, x < 256) (hb : b < 256) :
    ctxResidue l b < 256 ∧ ctxByte l (ctxResidue l b) = b := by
  have hall : l.filter (· < 256) = l := List.filter_eq_self.2 fun x hx => by simpa using hbytes x hx
  have hcount := length_notListed_below (b := 256) hnodup
  rw [hall] at hcount
  by_cases hmem : b ∈ l
  · obtain ⟨hlt, hbyte⟩ := ctxResidue_of_mem hmem
    exact ⟨by omega, hbyte⟩
  · obtain ⟨hlt, hget⟩ := getD_filter_range (p := fun x => !l.contains x) (n := 256) (by simpa using hmem) hb
    rw [ctxResidue_of_not_mem hnodup hmem]
    refine ⟨by omega, ?_⟩
    rw [ctxByte, if_neg (by omega), Nat.add_sub_cancel_left]
    exact hget

end Context

/-! ### Packed bits (R352) -/

/-- A byte made of eight bits, the first at bit 7, gives the eight bits back. -/
theorem bitsMsb_ofBits : ∀ b0 b1 b2 b3 b4 b5 b6 b7 : Bool,
    bitsMsb 8 (BitVec.ofNat 8 ([b0, b1, b2, b3, b4, b5, b6, b7].foldl (fun a b => 2 * a + b2n b) 0)).toNat =
      [b0, b1, b2, b3, b4, b5, b6, b7] := by
  decide

/-- One packed byte unpacks to the first eight bits, a bit that is not there read as zero. -/
theorem unpackBits_packBits_succ (n : Nat) {bs : List Bool} (hne : bs ≠ []) :
    unpackBits (packBits (n + 1) bs) = (List.range 8).map (bs.getD · false) ++ unpackBits (packBits n (bs.drop 8)) := by
  have hbyte := bitsMsb_ofBits (bs.getD 0 false) (bs.getD 1 false) (bs.getD 2 false) (bs.getD 3 false) (bs.getD 4 false)
    (bs.getD 5 false) (bs.getD 6 false) (bs.getD 7 false)
  cases bs with
  | nil => exact absurd rfl hne
  | cons x xs =>
    rw [packBits, unpackBits, List.flatMap_cons]
    · exact congrArg (· ++ _) hbyte
    · simp

/-- The first `n` bits of a list, padded with zeros. -/
theorem map_getD_range (n : Nat) (bs : List Bool) : (List.range n).map (bs.getD · false) = bs.take n ++ List.replicate (n - bs.length) false := by
  refine List.ext_getElem (by simp; omega) fun i h1 h2 => ?_
  have hi : i < n := by simpa using h1
  by_cases h : i < bs.length
  · rw [List.getElem_append_left (by simp; omega)]
    simp [h]
  · rw [List.getElem_append_right (by simp; omega)]
    simp [h]

/-- Packed bits are unpacked again, followed by the zeros that fill the last byte. -/
theorem unpackBits_packBits (n : Nat) (bs : List Bool) (hfit : bs.length ≤ 8 * n) (hlast : 8 * n < bs.length + 8) :
    unpackBits (packBits n bs) = bs ++ List.replicate (8 * n - bs.length) false := by
  induction n generalizing bs with
  | zero =>
    obtain rfl : bs = [] := List.length_eq_zero_iff.1 (by omega)
    rfl
  | succ n ih =>
    have hne : bs ≠ [] := by rintro rfl; simp at hlast
    rw [unpackBits_packBits_succ n hne, map_getD_range]
    by_cases hlong : 8 ≤ bs.length
    · rw [ih (bs.drop 8) (by simp; omega) (by simp; omega), Nat.sub_eq_zero_of_le hlong, List.replicate_zero, List.append_nil,
        ← List.append_assoc, List.take_append_drop, List.length_drop]
      congr 2
      omega
    · obtain rfl : n = 0 := by omega
      rw [List.drop_of_length_le (by omega), List.take_of_length_le (by omega)]
      simp [packBits, unpackBits]

/-- Settles O57: `descOfWords_words`, the arithmetic of QPNs and keys, `ctxByte_ctxResidue` and `unpackBits_packBits`. -/
theorem codecsRoundTrip : Obligations.CodecsRoundTrip := by
  unfold Obligations.CodecsRoundTrip
  refine ⟨fun d htag htenant hnsid hhandle hlength hturn _ => descOfWords_words d htag htenant hnsid hhandle hlength hturn, ?_, ?_,
    fun l b hnodup hbytes hb => ctxByte_ctxResidue hnodup hbytes hb, fun bs n => unpackBits_packBits n bs⟩
  · intro g i h j hg hi hh hj
    unfold qpnOf
    omega
  · intro tag i hi htag
    unfold keyIndex keyTagOf
    omega

end Sys2Proof.Machine

/-!
P and Q (R407, R409, R412): the arithmetic of GF(2^8), what one changed unit does to P and Q, and with that the recomputation of
erased units; and the positions that a row's units take.
-/

namespace Sys2Proof.Machine

/-! ### GF(2^8) -/

theorem xor_left_comm (a b c : Byte) : a ^^^ (b ^^^ c) = b ^^^ (a ^^^ c) := by
  rw [← BitVec.xor_assoc, BitVec.xor_comm a b, BitVec.xor_assoc]

/-- A byte that is added twice drops out. -/
theorem xor_xor_cancel_left (a b : Byte) : a ^^^ (a ^^^ b) = b := by
  rw [← BitVec.xor_assoc, BitVec.xor_self, BitVec.zero_xor]

/-- What two sums have in common drops out of their sum. -/
theorem xor_sum_cancel (k a b : Byte) : k ^^^ b ^^^ a ^^^ k = a ^^^ b := by
  rw [BitVec.xor_comm (k ^^^ b ^^^ a), BitVec.xor_assoc k, xor_xor_cancel_left, BitVec.xor_comm]

/-- Doubling adds. -/
theorem gfDouble_xor (a b : Byte) : gfDouble (a ^^^ b) = gfDouble a ^^^ gfDouble b := by
  unfold gfDouble
  rw [BitVec.getLsbD_xor, BitVec.shiftLeft_xor_distrib]
  cases a.getLsbD 7 <;> cases b.getLsbD 7 <;> simp [BitVec.xor_assoc, xor_left_comm, BitVec.xor_comm]

/-- A product adds in its first factor. -/
theorem gfMulBits_xor_left (a b c : Byte) (n : Nat) : gfMulBits (a ^^^ b) c n = gfMulBits a c n ^^^ gfMulBits b c n := by
  induction n generalizing a b c with
  | zero => simp [gfMulBits]
  | succ n ih =>
    rw [gfMulBits, gfMulBits, gfMulBits, gfDouble_xor, ih]
    cases c.getLsbD 0 <;> simp [BitVec.xor_assoc, xor_left_comm]

/-- A product adds in its second factor. -/
theorem gfMulBits_xor_right (a b c : Byte) (n : Nat) : gfMulBits a (b ^^^ c) n = gfMulBits a b n ^^^ gfMulBits a c n := by
  induction n generalizing a b c with
  | zero => simp [gfMulBits]
  | succ n ih =>
    rw [gfMulBits, gfMulBits, gfMulBits, BitVec.ushiftRight_xor_distrib, ih, BitVec.getLsbD_xor]
    cases b.getLsbD 0 <;> cases c.getLsbD 0 <;> simp [BitVec.xor_assoc, xor_left_comm a, BitVec.xor_comm _ a]

theorem gfMul_xor_left (a b c : Byte) : gfMul (a ^^^ b) c = gfMul a c ^^^ gfMul b c := gfMulBits_xor_left a b c 8

theorem gfMul_xor_right (a b c : Byte) : gfMul a (b ^^^ c) = gfMul a b ^^^ gfMul a c := gfMulBits_xor_right a b c 8

/-- The bit of a byte at one place, alone. -/
def bitAt (a : Byte) (i : Nat) : Byte := if a.getLsbD i then BitVec.twoPow 8 i else 0

/-- A byte is the sum of its bits. -/
theorem eq_xor_bitAt : ∀ a : Byte, a = bitAt a 0 ^^^ bitAt a 1 ^^^ bitAt a 2 ^^^ bitAt a 3 ^^^ bitAt a 4 ^^^ bitAt a 5 ^^^ bitAt a 6 ^^^ bitAt a 7 := by
  decide

/-- Two functions that add agree everywhere if they agree on the powers of two. -/
theorem eq_of_additive {f g : Byte → Byte} (hf : ∀ a b, f (a ^^^ b) = f a ^^^ f b) (hg : ∀ a b, g (a ^^^ b) = g a ^^^ g b)
    (h : ∀ i : Fin 8, f (BitVec.twoPow 8 i) = g (BitVec.twoPow 8 i)) (a : Byte) : f a = g a := by
  have hzero {k : Byte → Byte} (hk : ∀ a b, k (a ^^^ b) = k a ^^^ k b) : k 0 = 0 := by
    have hself := hk 0 0
    rwa [BitVec.xor_self, BitVec.xor_self] at hself
  have hbit (i : Fin 8) : f (bitAt a i) = g (bitAt a i) := by
    unfold bitAt
    split
    · exact h i
    · exact (hzero hf).trans (hzero hg).symm
  have hsum {k : Byte → Byte} (hk : ∀ a b, k (a ^^^ b) = k a ^^^ k b) :
      k a = k (bitAt a (0 : Fin 8)) ^^^ k (bitAt a (1 : Fin 8)) ^^^ k (bitAt a (2 : Fin 8)) ^^^ k (bitAt a (3 : Fin 8)) ^^^
        k (bitAt a (4 : Fin 8)) ^^^ k (bitAt a (5 : Fin 8)) ^^^ k (bitAt a (6 : Fin 8)) ^^^ k (bitAt a (7 : Fin 8)) := by
    simp only [← hk]
    exact congrArg k (eq_xor_bitAt a)
  rw [hsum hf, hsum hg]
  simp only [hbit]

theorem gfMul_comm (a b : Byte) : gfMul a b = gfMul b a := by
  have hbasis : ∀ i j : Fin 8, gfMul (BitVec.twoPow 8 i) (BitVec.twoPow 8 j) = gfMul (BitVec.twoPow 8 j) (BitVec.twoPow 8 i) := by decide
  refine eq_of_additive (f := (gfMul · b)) (g := (gfMul b ·)) (gfMul_xor_left · · b) (gfMul_xor_right b) (fun i => ?_) a
  exact eq_of_additive (f := gfMul (BitVec.twoPow 8 i)) (g := (gfMul · (BitVec.twoPow 8 i))) (gfMul_xor_right _) (gfMul_xor_left · · _) (hbasis i) b

theorem gfMul_assoc (a b c : Byte) : gfMul (gfMul a b) c = gfMul a (gfMul b c) := by
  have hbasis : ∀ i j k : Fin 8, gfMul (gfMul (BitVec.twoPow 8 i) (BitVec.twoPow 8 j)) (BitVec.twoPow 8 k) =
      gfMul (BitVec.twoPow 8 i) (gfMul (BitVec.twoPow 8 j) (BitVec.twoPow 8 k)) := by decide
  refine eq_of_additive (f := fun a => gfMul (gfMul a b) c) (g := fun a => gfMul a (gfMul b c))
    (fun x y => by simp only [gfMul_xor_left]) (fun x y => by simp only [gfMul_xor_left]) (fun i => ?_) a
  refine eq_of_additive (f := fun b => gfMul (gfMul _ b) c) (g := fun b => gfMul _ (gfMul b c))
    (fun x y => by simp only [gfMul_xor_left, gfMul_xor_right]) (fun x y => by simp only [gfMul_xor_left, gfMul_xor_right]) (fun j => ?_) b
  exact eq_of_additive (f := fun c => gfMul _ c) (g := fun c => gfMul _ (gfMul _ c))
    (fun x y => by simp only [gfMul_xor_right]) (fun x y => by simp only [gfMul_xor_right]) (hbasis i j) c

theorem gfMul_one (a : Byte) : gfMul a 1 = a :=
  eq_of_additive (f := (gfMul · 1)) (g := id) (gfMul_xor_left · · 1) (fun _ _ => rfl) (by decide) a

theorem one_gfMul (a : Byte) : gfMul 1 a = a := (gfMul_comm 1 a).trans (gfMul_one a)

theorem gfMul_zero (a : Byte) : gfMul a 0 = 0 := by
  have hself := gfMul_xor_right a 0 0
  rwa [BitVec.xor_self, BitVec.xor_self] at hself

theorem gfPow_add (a : Byte) (m n : Nat) : gfPow a (m + n) = gfMul (gfPow a m) (gfPow a n) := by
  induction m with
  | zero => rw [Nat.zero_add]; exact (one_gfMul _).symm
  | succ m ih => rw [Nat.add_right_comm, gfPow, ih, gfPow, gfMul_assoc]

theorem gfPow_mul (a : Byte) (m n : Nat) : gfPow a (m * n) = gfPow (gfPow a m) n := by
  induction n with
  | zero => rfl
  | succ n ih => rw [Nat.mul_succ, Nat.add_comm, gfPow_add, ih, gfPow]

theorem gfGen_add (m n : Nat) : gfGen (m + n) = gfMul (gfGen m) (gfGen n) := gfPow_add 2 m n

/-- Squaring adds, and so does squaring again and again. -/
theorem gfPow_two_pow_xor (a b : Byte) (k : Nat) : gfPow (a ^^^ b) (2 ^ k) = gfPow a (2 ^ k) ^^^ gfPow b (2 ^ k) := by
  have hsquare (x : Byte) : gfPow x 2 = gfMul x x := congrArg (gfMul x) (gfMul_one x)
  induction k with
  | zero => exact (gfMul_one _).trans (congrArg₂ _ (gfMul_one a).symm (gfMul_one b).symm)
  | succ k ih =>
    rw [Nat.pow_succ, gfPow_mul, gfPow_mul, gfPow_mul, ih, hsquare, hsquare, hsquare, gfMul_xor_left, gfMul_xor_right, gfMul_xor_right,
      gfMul_comm (gfPow b _) (gfPow a _), BitVec.xor_assoc, xor_xor_cancel_left]

/-- The generator's 256th power is the generator: squared eight times it returns. -/
theorem gfGen_256 : gfGen 256 = 2 := by
  have hsquare {n : Nat} {a b : Byte} (h : gfGen n = a) (hab : gfMul a a = b) : gfGen (n + n) = b := by rw [gfGen_add, h, hab]
  have h4 : gfGen 4 = 0x10 := by decide
  have h8 : gfGen 8 = 0x1D := hsquare h4 (by decide)
  have h16 : gfGen 16 = 0x4C := hsquare h8 (by decide)
  have h32 : gfGen 32 = 0x9D := hsquare h16 (by decide)
  have h64 : gfGen 64 = 0x5F := hsquare h32 (by decide)
  have h128 : gfGen 128 = 0x85 := hsquare h64 (by decide)
  exact hsquare h128 (by decide)

/-- Every byte is its own 256th power: this adds, and holds of the powers of the generator. -/
theorem gfPow_256 (a : Byte) : gfPow a 256 = a := by
  refine eq_of_additive (f := (gfPow · 256)) (g := id) (gfPow_two_pow_xor · · 8) (fun _ _ => rfl) (fun i => ?_) a
  have hbit : ∀ i : Fin 8, BitVec.twoPow 8 i = gfGen i := by decide
  have hpow : gfPow (gfGen i) 256 = gfPow (gfGen 256) i := by
    rw [gfGen, gfGen, ← gfPow_mul, ← gfPow_mul, Nat.mul_comm]
  rw [gfGen_256] at hpow
  rw [hbit i]
  exact hpow

/-- A byte that has an inverse has the one that the model computes. -/
theorem gfMul_gfInv {a b : Byte} (h : gfMul a b = 1) : gfMul a (gfInv a) = 1 := by
  calc gfMul a (gfInv a) = gfMul (gfPow a 255) (gfMul a b) := by rw [h, gfMul_one]; rfl
    _ = gfMul (gfPow a 256) b := by rw [← gfMul_assoc, gfMul_comm (gfPow a 255)]; rfl
    _ = 1 := by rw [gfPow_256, h]

/-- The factors of Q have inverses: the powers of the generator's. -/
theorem gfMul_gfInv_gfGen (n : Nat) : gfMul (gfGen n) (gfInv (gfGen n)) = 1 := by
  refine gfMul_gfInv (b := gfPow 0x8E n) ?_
  have hgen : gfMul 2 0x8E = 1 := by decide
  induction n with
  | zero => exact gfMul_one 1
  | succ n ih =>
    calc gfMul (gfGen (n + 1)) (gfPow 0x8E (n + 1)) = gfMul (gfMul (gfGen n) 2) (gfMul 0x8E (gfPow 0x8E n)) := by rw [gfMul_comm (gfGen n) 2]; rfl
      _ = gfMul (gfGen n) (gfMul (gfMul 2 0x8E) (gfPow 0x8E n)) := by rw [gfMul_assoc, gfMul_assoc 2]
      _ = 1 := by rw [hgen, one_gfMul, ih]

/-- The inverses of g^n less 1, for n up to 21; g^0 less 1 has none. -/
def inversesLessOne : List Byte := [0, 244, 167, 157, 114, 237, 95, 84, 160, 169, 251, 116, 133, 228, 192, 138, 103, 220, 38, 99, 242, 233]

/-- The factors of two of the 22 units differ: their quotient less 1 has an inverse. -/
theorem gfMul_gfInv_gfGen_sub_one {n : Nat} (hpos : 0 < n) (hn : n < 22) :
    gfMul (gfGen n ^^^ 1) (gfInv (gfGen n ^^^ 1)) = 1 := by
  have hall : ∀ n : Fin 22, 0 < n.val → gfMul (gfGen n ^^^ 1) (inversesLessOne.getD n 0) = 1 := by decide
  exact gfMul_gfInv (hall ⟨n, hn⟩ hpos)

/-- A factor of Q is divided out again. -/
theorem gfMul_cancel {g a : Byte} (hinv : gfMul g (gfInv g) = 1) : gfMul (gfMul g a) (gfInv g) = a := by
  rw [gfMul_comm g a, gfMul_assoc, hinv, gfMul_one]

/-- The two equations of R412: from the sum of two bytes and the sum of their multiples, the first byte. -/
theorem gf_solve {g r a b : Byte} (hg : gfMul g (gfInv g) = 1) (hr : gfMul (r ^^^ 1) (gfInv (r ^^^ 1)) = 1) :
    gfMul (gfMul r (gfInv (r ^^^ 1))) (a ^^^ b) ^^^ gfMul (gfMul (gfInv g) (gfInv (r ^^^ 1))) (gfMul g a ^^^ gfMul (gfMul g r) b) = a := by
  have hsecond (z : Byte) : gfMul (gfMul (gfInv g) (gfInv (r ^^^ 1))) (gfMul g z) = gfMul (gfInv (r ^^^ 1)) z := by
    rw [gfMul_comm (gfInv g), gfMul_assoc, ← gfMul_assoc (gfInv g), gfMul_comm (gfInv g), hg, one_gfMul]
  calc gfMul (gfMul r (gfInv (r ^^^ 1))) (a ^^^ b) ^^^ gfMul (gfMul (gfInv g) (gfInv (r ^^^ 1))) (gfMul g a ^^^ gfMul (gfMul g r) b)
      = gfMul (gfMul r (gfInv (r ^^^ 1))) (a ^^^ b) ^^^ gfMul (gfInv (r ^^^ 1)) (a ^^^ gfMul r b) := by
        rw [gfMul_assoc g r b, ← gfMul_xor_right g, hsecond]
    _ = gfMul (gfMul (r ^^^ 1) (gfInv (r ^^^ 1))) a := by
        have hb : gfMul (gfMul r (gfInv (r ^^^ 1))) b = gfMul (gfInv (r ^^^ 1)) (gfMul r b) := by
          rw [gfMul_comm r, gfMul_assoc]
        rw [gfMul_xor_right, gfMul_xor_right, hb, gfMul_xor_left r 1, one_gfMul, gfMul_xor_left]
        generalize gfMul (gfInv (r ^^^ 1)) (gfMul r b) = z
        generalize gfMul (gfMul r (gfInv (r ^^^ 1))) a = u
        generalize gfMul (gfInv (r ^^^ 1)) a = v
        rw [BitVec.xor_assoc, BitVec.xor_comm v z, ← BitVec.xor_assoc z z v, BitVec.xor_self, BitVec.zero_xor]
    _ = a := by rw [hr, one_gfMul]

/-! ### P and Q where one unit changes -/

/-- The model's replacement of an element is the library's. -/
theorem lset_eq_set {α : Type} (l : List α) (n : Nat) (v : α) : lset l n v = l.set n v := by
  induction l generalizing n with
  | nil => rfl
  | cons a l ih => cases n with
    | zero => rfl
    | succ n => exact congrArg (a :: ·) (ih n)

theorem xorAll_cons (b : Byte) (l : List Byte) : xorAll (b :: l) = b ^^^ xorAll l := by
  have hfrom (l : List Byte) (a : Byte) : l.foldl (· ^^^ ·) a = a ^^^ l.foldl (· ^^^ ·) 0 := by
    induction l generalizing a with
    | nil => simp
    | cons b l ih => rw [List.foldl_cons, List.foldl_cons, ih, ih (0 ^^^ b), BitVec.xor_assoc]; simp
  simpa [xorAll] using hfrom l b

/-- P where one unit is set to 0. -/
theorem parityP_set_zero {l : List Byte} {x : Nat} (hx : x < l.length) : parityP l = parityP (l.set x 0) ^^^ l[x] := by
  unfold parityP
  induction l generalizing x with
  | nil => exact absurd hx (Nat.not_lt_zero x)
  | cons b l ih => cases x with
    | zero => simp [xorAll_cons, BitVec.xor_comm]
    | succ x =>
      rw [List.set_cons_succ, xorAll_cons, xorAll_cons, ih (Nat.lt_of_succ_lt_succ hx), BitVec.xor_assoc]
      rfl

/-- Q where one unit is set to 0. -/
theorem parityQFrom_set_zero {l : List Byte} {x : Nat} (i : Nat) (hx : x < l.length) :
    parityQFrom i l = parityQFrom i (l.set x 0) ^^^ gfMul (gfGen (i + x)) l[x] := by
  induction l generalizing i x with
  | nil => exact absurd hx (Nat.not_lt_zero x)
  | cons b l ih => cases x with
    | zero => rw [List.set_cons_zero, parityQFrom, parityQFrom, gfMul_zero, BitVec.xor_comm]; simp
    | succ x =>
      rw [List.set_cons_succ, parityQFrom, parityQFrom, ih (i + 1) (Nat.lt_of_succ_lt_succ hx), BitVec.xor_assoc, Nat.add_right_comm, Nat.add_assoc]
      rfl

theorem parityQ_set_zero {l : List Byte} {x : Nat} (hx : x < l.length) : parityQ l = parityQ (l.set x 0) ^^^ gfMul (gfGen x) l[x] := by
  have hfrom := parityQFrom_set_zero 0 hx
  rwa [Nat.zero_add] at hfrom

/-! ### Recomputation -/

/-- The indices of the erased units, rising. -/
def erasedUnits (u : List (Option Byte)) : List Nat := (List.range u.length).filter fun i => u.getD i none == none

/-- A rising list that holds the erased units, and no other, lists them. -/
theorem erasedUnits_eq {u : List (Option Byte)} {l : List Nat} (hrising : l.Pairwise (· < ·))
    (hmem : ∀ i, i ∈ l ↔ i < u.length ∧ u.getD i none = none) : erasedUnits u = l := by
  have hnodup : l.Nodup := hrising.imp Nat.ne_of_lt
  have hperm : (erasedUnits u).Perm l := by
    refine (List.perm_ext_iff_of_nodup (List.nodup_range.filter _) hnodup).2 fun i => ?_
    simp only [hmem, List.mem_filter, List.mem_range, beq_iff_eq]
  have hrange : (erasedUnits u).Pairwise (· < ·) := List.pairwise_lt_range.filter _
  exact hperm.eq_of_pairwise (fun a b _ _ hab hba => absurd hba (Nat.lt_asymm hab)) hrange hrising

/-- The units of `d` with those at the indices of `l` erased. -/
def erase (d : List Byte) (l : List Nat) : List (Option Byte) := l.foldl (lset · · none) (d.map some)

/-- The bytes of `d` with those at the indices of `l` taken as 0. -/
def zeroed (d : List Byte) (l : List Nat) : List Byte := l.foldl (·.set · 0) d

theorem erase_append (d : List Byte) (l : List Nat) (x : Nat) : erase d (l ++ [x]) = (erase d l).set x none := by
  simp [erase, lset_eq_set]

theorem length_erase (d : List Byte) (l : List Nat) : (erase d l).length = d.length := by
  induction l using List.reverseRecOn with
  | nil => simp [erase]
  | append_singleton l x ih => rw [erase_append, List.length_set, ih]

/-- Exactly the units at the indices of `l` are erased. -/
theorem getD_erase_eq_none (d : List Byte) (l : List Nat) {i : Nat} (hi : i < d.length) : (erase d l).getD i none = none ↔ i ∈ l := by
  induction l using List.reverseRecOn with
  | nil => simp [erase, hi]
  | append_singleton l x ih =>
    have hlt : i < (erase d l).length := by rwa [length_erase]
    rw [erase_append, List.mem_append, List.mem_singleton, ← ih, List.getD_eq_getElem?_getD, List.getD_eq_getElem?_getD, List.getElem?_set]
    by_cases hx : x = i
    · subst hx
      simp [hlt]
    · simp [hx, Ne.symm hx]

theorem erasedUnits_erase {d : List Byte} {l : List Nat} (hrising : l.Pairwise (· < ·)) (hlt : ∀ x ∈ l, x < d.length) : erasedUnits (erase d l) = l := by
  refine erasedUnits_eq hrising fun i => ?_
  rw [length_erase]
  exact ⟨fun h => ⟨hlt i h, (getD_erase_eq_none d l (hlt i h)).2 h⟩, fun h => (getD_erase_eq_none d l h.1).1 h.2⟩

theorem zeroErased_erase (d : List Byte) (l : List Nat) : zeroErased (erase d l) = zeroed d l := by
  induction l using List.reverseRecOn with
  | nil => simp [erase, zeroed, zeroErased, Function.comp_def]
  | append_singleton l x ih =>
    rw [erase_append, zeroErased, List.map_set, ← zeroErased, ih]
    simp [zeroed]

section Recompute

variable {d : List Byte} {x y : Nat}

/-- With no unit erased there is nothing to recompute. -/
theorem recomputeData_nil (d : List Byte) (p q : Option Byte) : recomputeData (d.map some) p q = some d := by
  have herased : erasedUnits (erase d []) = [] := erasedUnits_erase List.Pairwise.nil (by simp)
  have hknown : zeroErased (erase d []) = d := zeroErased_erase d []
  unfold erasedUnits at herased
  change recomputeData (erase d []) p q = some d
  simp only [recomputeData, herased, hknown]

/-- What recomputation does for one erased unit (R412). -/
theorem recomputeData_one (hx : x < d.length) (p q : Option Byte) :
    recomputeData (lset (d.map some) x none) p q = match p, q with
      | some p, _ => some ((d.set x 0).set x (p ^^^ parityP (d.set x 0)))
      | none, some q => some ((d.set x 0).set x (gfMul (q ^^^ parityQ (d.set x 0)) (gfInv (gfGen x))))
      | none, none => none := by
  have herased : erasedUnits (erase d [x]) = [x] := erasedUnits_erase (List.pairwise_singleton _ x) (by simpa using hx)
  have hknown : zeroErased (erase d [x]) = d.set x 0 := zeroErased_erase d [x]
  unfold erasedUnits at herased
  change recomputeData (erase d [x]) p q = _
  cases p <;> cases q <;> simp only [recomputeData, herased, hknown, lset_eq_set]

/-- What recomputation does for two erased units (R412). -/
theorem recomputeData_two (hxy : x < y) (hy : y < d.length) (p q : Option Byte) :
    recomputeData (lset (lset (d.map some) x none) y none) p q = match p, q with
      | some p, some q =>
        let known := (d.set x 0).set y 0
        let r := gfGen (y - x)
        let den := gfInv (r ^^^ 1)
        let dx := gfMul (gfMul r den) (p ^^^ parityP known) ^^^ gfMul (gfMul (gfInv (gfGen x)) den) (q ^^^ parityQ known)
        some ((known.set x dx).set y (p ^^^ parityP known ^^^ dx))
      | _, _ => none := by
  have herased : erasedUnits (erase d [x, y]) = [x, y] :=
    erasedUnits_erase (by simpa using hxy) (by simpa using ⟨Nat.lt_trans hxy hy, hy⟩)
  have hknown : zeroErased (erase d [x, y]) = (d.set x 0).set y 0 := zeroErased_erase d [x, y]
  unfold erasedUnits at herased
  change recomputeData (erase d [x, y]) p q = _
  cases p <;> cases q <;> simp only [recomputeData, herased, hknown, lset_eq_set]

/-- Three erased units are not recomputed. -/
theorem recomputeData_three {z : Nat} (hxy : x < y) (hyz : y < z) (hz : z < d.length) (p q : Option Byte) :
    recomputeData (lset (lset (lset (d.map some) x none) y none) z none) p q = none := by
  have herased : erasedUnits (erase d [x, y, z]) = [x, y, z] :=
    erasedUnits_erase (by simp; omega) (by simp; omega)
  unfold erasedUnits at herased
  change recomputeData (erase d [x, y, z]) p q = _
  simp only [recomputeData, herased]

/-- One erased unit from P. -/
theorem recomputeData_of_parityP (hx : x < d.length) (q : Option Byte) :
    recomputeData (lset (d.map some) x none) (some (parityP d)) q = some d := by
  have hbyte : parityP d ^^^ parityP (d.set x 0) = d[x] := by
    rw [parityP_set_zero hx, BitVec.xor_comm, xor_xor_cancel_left]
  rw [recomputeData_one hx]
  simp only [hbyte, List.set_set, List.set_getElem_self]

/-- One erased unit from Q. -/
theorem recomputeData_of_parityQ (hx : x < d.length) :
    recomputeData (lset (d.map some) x none) none (some (parityQ d)) = some d := by
  have hbyte : gfMul (parityQ d ^^^ parityQ (d.set x 0)) (gfInv (gfGen x)) = d[x] := by
    rw [parityQ_set_zero hx, BitVec.xor_comm, xor_xor_cancel_left, gfMul_cancel (gfMul_gfInv_gfGen x)]
  rw [recomputeData_one hx]
  simp only [hbyte, List.set_set, List.set_getElem_self]

/-- Two erased units from P and Q. -/
theorem recomputeData_of_parities (hlen : d.length ≤ 22) (hxy : x < y) (hy : y < d.length) :
    recomputeData (lset (lset (d.map some) x none) y none) (some (parityP d)) (some (parityQ d)) = some d := by
  have hx : x < d.length := Nat.lt_trans hxy hy
  have hy' : y < (d.set x 0).length := by rwa [List.length_set]
  have hgety : (d.set x 0)[y] = d[y] := List.getElem_set_ne (Nat.ne_of_lt hxy) _
  have hp : parityP d ^^^ parityP ((d.set x 0).set y 0) = d[x] ^^^ d[y] := by
    rw [parityP_set_zero hx, parityP_set_zero hy', hgety, xor_sum_cancel]
  have hgen : gfGen y = gfMul (gfGen x) (gfGen (y - x)) := by
    rw [← gfGen_add, Nat.add_sub_cancel' (Nat.le_of_lt hxy)]
  have hq : parityQ d ^^^ parityQ ((d.set x 0).set y 0) = gfMul (gfGen x) d[x] ^^^ gfMul (gfMul (gfGen x) (gfGen (y - x))) d[y] := by
    rw [parityQ_set_zero hx, parityQ_set_zero hy', hgety, xor_sum_cancel, hgen]
  have hdx := gf_solve (a := d[x]) (b := d[y]) (gfMul_gfInv_gfGen x) (gfMul_gfInv_gfGen_sub_one (n := y - x) (by omega) (by omega))
  rw [recomputeData_two hxy hy]
  have hdy : d[x] ^^^ d[y] ^^^ d[x] = d[y] := by rw [BitVec.xor_comm, xor_xor_cancel_left]
  dsimp only
  rw [hp, hq, hdx, hdy]
  refine congrArg some (List.ext_getElem (by simp) fun i h1 h2 => ?_)
  by_cases hiy : y = i
  · subst hiy
    simp
  · by_cases hix : x = i
    · subst hix
      simp [hiy]
    · simp [hiy, hix]

end Recompute

/-! ### Positions (R407) -/

/-- P lies just before Q, around the stripe. -/
theorem posP_eq (k r : Nat) : posP (k + 2) r = (posQ (k + 2) r + (k + 1)) % (k + 2) := by
  have hlt : r % (k + 2) < k + 2 := Nat.mod_lt _ (by omega)
  unfold posP posQ
  generalize r % (k + 2) = m at hlt
  rcases Nat.eq_zero_or_pos m with h0 | hpos
  · simp [h0]
  · have haround : k + 2 - m + (k + 1) = k + 1 - m + (k + 2) := by omega
    rw [Nat.mod_eq_of_lt (a := k + 2 - m) (by omega), haround, Nat.add_mod_right, Nat.mod_eq_of_lt (by omega)]
    omega

/-- The positions that a row's units take, as distances from Q. -/
theorem positions_eq (k r : Nat) : posP (k + 2) r :: posQ (k + 2) r :: (List.range k).map (posD (k + 2) r) =
    ((k + 1) :: 0 :: (List.range k).map (1 + ·)).map fun j => (posQ (k + 2) r + j) % (k + 2) := by
  have hq : (posQ (k + 2) r + 0) % (k + 2) = posQ (k + 2) r := Nat.mod_eq_of_lt (Nat.mod_lt _ (by omega))
  rw [List.map_cons, List.map_cons, List.map_map, posP_eq, hq]
  simp [posD, Nat.add_assoc]

/-- The units of a row take different positions. -/
theorem nodup_positions (k r : Nat) : (posP (k + 2) r :: posQ (k + 2) r :: (List.range k).map (posD (k + 2) r)).Nodup := by
  have hdistances : ((k + 1) :: 0 :: (List.range k).map (1 + ·)).Nodup := by
    refine List.nodup_cons.2 ⟨by simp; omega, List.nodup_cons.2 ⟨by simp, List.nodup_range.map fun a b h => ?_⟩⟩
    exact Nat.add_left_cancel h
  rw [positions_eq]
  refine hdistances.map_on fun a ha b hb hab => ?_
  have hlt {j : Nat} (hj : j ∈ (k + 1) :: 0 :: (List.range k).map (1 + ·)) : j < k + 2 := by
    simp at hj
    omega
  exact (Nat.ModEq.add_left_cancel' _ hab).eq_of_lt_of_lt (hlt ha) (hlt hb)

/-- Settles O58: the four recomputations, the three cases that have none, and the positions. -/
theorem stripesRecover : Obligations.StripesRecover := by
  unfold Obligations.StripesRecover
  refine ⟨recomputeData_nil, fun d x q _ hx => recomputeData_of_parityP hx q, fun d x _ hx => recomputeData_of_parityQ hx,
    fun d x y hlen hxy hy => recomputeData_of_parities hlen hxy hy, fun d x hx => recomputeData_one hx none none, ?_,
    fun d x y z p q hxy hyz hz => recomputeData_three hxy hyz hz p q, fun k r _ => ⟨nodup_positions k r, fun x hx => ?_⟩⟩
  · intro d x y p q hxy hy hpq
    rw [recomputeData_two hxy hy]
    rcases hpq with rfl | rfl
    · rfl
    · cases p <;> rfl
  · rw [positions_eq, List.mem_map] at hx
    obtain ⟨j, -, rfl⟩ := hx
    exact Nat.mod_lt _ (by omega)

end Sys2Proof.Machine

/-!
Double-banked tables (R64, R66): what a catch-up copies, and with that what a swap and its catch-up leave in the two banks.
-/

namespace Sys2Proof.Machine

namespace Banked

variable {α : Type}

/-- Copy one entry of the bank `a` to the bank `d`, absent entries included: what catch-up does for each entry. -/
def copyEntry (a d : Tbl α) (i : Nat) : Tbl α :=
  match tget a i with
  | some v => tset d i v
  | none => tdel d i

theorem tget_copyEntry (a d : Tbl α) (i k : Nat) : tget (copyEntry a d i) k = if k = i then tget a k else tget d k := by
  unfold copyEntry
  by_cases hk : k = i
  · subst hk
    cases hget : tget a k with
    | none => simp
    | some v => simp
  · cases tget a i with
    | none => simp only [if_neg hk]; exact tget_tdel_ne d hk
    | some v => simp only [if_neg hk]; exact tget_tset_ne d v hk

/-- Copying a list of entries: those read as in the bank they come from, the others as before. -/
theorem tget_foldl_copyEntry (a : Tbl α) (l : List Nat) (d : Tbl α) (k : Nat) :
    tget (l.foldl (copyEntry a) d) k = if k ∈ l then tget a k else tget d k := by
  induction l generalizing d with
  | nil => rfl
  | cons i l ih =>
    rw [List.foldl_cons, ih, tget_copyEntry]
    by_cases hl : k ∈ l <;> by_cases hi : k = i <;> simp [hl, hi]

theorem catchUp_eq (t : Banked α) (n : Nat) :
    t.catchUp n = { t with shd := (t.catchup.take n).foldl (copyEntry t.act) t.shd, catchup := t.catchup.drop n } := rfl

/-- What the shadow bank holds after a catch-up of at most `n` entries. -/
theorem tget_shd_catchUp (t : Banked α) (n k : Nat) :
    tget (t.catchUp n).shd k = if k ∈ t.catchup.take n then tget t.act k else tget t.shd k :=
  tget_foldl_copyEntry t.act (t.catchup.take n) t.shd k

/-- Catch-up leaves the active bank alone. -/
@[simp] theorem catchUp_act (t : Banked α) (n : Nat) : (t.catchUp n).act = t.act := rfl

@[simp] theorem put_act (t : Banked α) (i : Nat) (v : α) : (t.put i v).act = t.act := rfl

@[simp] theorem put_shd (t : Banked α) (i : Nat) (v : α) : (t.put i v).shd = tset t.shd i v := rfl

/-- An entry that was just written is noted as changed. -/
theorem mem_changed_put (t : Banked α) (i : Nat) (v : α) : i ∈ (t.put i v).changed := by
  change i ∈ if t.changed.contains i then t.changed else t.changed ++ [i]
  split
  next h => simpa using h
  next => simp

/-- A write strikes its entry, and no other, from those to be caught up. -/
theorem mem_catchup_put (t : Banked α) (i k : Nat) (v : α) : k ∈ (t.put i v).catchup ↔ k ∈ t.catchup ∧ k ≠ i := by
  change k ∈ t.catchup.filter (· != i) ↔ _
  simp

end Banked

/-- Settles O59: the banks change places, `tget_shd_catchUp` says what catch-up copies, and `mem_catchup_put` what it skips. -/
theorem banksAgreeAfterCatchUp : Obligations.BanksAgreeAfterCatchUp := by
  unfold Obligations.BanksAgreeAfterCatchUp
  refine ⟨fun t i k v => ⟨rfl, fun hk => tget_tset_ne t.shd v hk, tget_tset_same t.shd i v⟩, ?_, ?_, ?_⟩
  · intro t turn n k keep hagree hall
    have htake : t.changed.take n = t.changed := List.take_of_length_le hall
    refine ⟨rfl, ?_, List.drop_of_length_le hall⟩
    rw [Banked.tget_shd_catchUp]
    change (if k ∈ t.changed.take n then tget t.shd k else tget t.act k) = tget t.shd k
    rw [htake]
    split
    next => rfl
    next hk => exact (hagree k hk).symm
  · intro t turn n i keep v
    have hskip : i ∉ ((t.swap turn keep).put i v).catchup.take n := fun h =>
      ((Banked.mem_catchup_put _ i i v).1 (List.mem_of_mem_take h)).2 rfl
    rw [Banked.tget_shd_catchUp, if_neg hskip, Banked.put_shd, tget_tset_same]
  · intro t turn i k keep v hagree
    by_cases hi : k = i
    · subst hi
      exact Or.inr (Or.inl (Banked.mem_changed_put _ _ v))
    · by_cases hk : k ∈ t.changed
      · exact Or.inl ((Banked.mem_catchup_put _ _ k v).2 ⟨hk, hi⟩)
      · refine Or.inr (Or.inr ?_)
        rw [Banked.put_shd, tget_tset_ne _ v hi]
        exact (hagree k hk).symm

end Sys2Proof.Machine

/-!
The bytes of DRAM that a cipher job and the packets of a queue pair can change (R206, R384): how an admin command and a packet reach
their meanings, and what placing bytes in a window leaves alone.
-/

namespace Sys2Proof.Machine

set_option Elab.async false

/-! ### What an operation keeps of one part -/

/-- Every part of the state but the queue and one more. -/
def partsBut (p : Part) : List Part := partsButQueue.filter (· != p)

theorem dram_of_kept {s t : State} (h : Kept (partsBut .dram) s t) : t.dram = s.dram := h.dram_eq

/-! ### Admin commands -/

/-- An admin command runs, or changes no more than an answer or a deferred command does. -/
theorem State.admin_cases (s : State) (i : Instr) (ctrl cid : Nat) (a : ServedOn) (run : State → State) (safe held : Bool) :
    s.admin i ctrl cid a run safe held = run s ∨
      Kept [.cnt, .deferred, .evt, .outbox, .sep, .reg 19, .reg 21] s (s.admin i ctrl cid a run safe held) := by
  unfold State.admin
  split
  · exact Or.inr (Kept.refl _ s)
  · exact Or.inr (State.replyErr_kept _ _ _ (Kept.refl _ s) rfl)
  · split
    · exact Or.inr (State.defer_kept _ (Kept.refl _ s) rfl)
    · exact Or.inl rfl

/-! ### Packets -/

/-- A packet that a sub-port brings changes nothing, waits for the next Turn, or reaches the transport. -/
theorem State.receivePkt_next {s t : State} {p : Pkt} {packet later : Instr} (h : s.receivePkt p packet later = .next t) :
    t = s ∨ t = s.defer (.command later) ∨ t = s.receive p.qpn s.now packet := by
  unfold State.receivePkt guardUnit at h
  split at h
  · cases h
    split
    · exact Or.inl rfl
    · split
      · exact Or.inr (Or.inl rfl)
      · exact Or.inr (Or.inr rfl)
  · cases h

/-- A packet that reaches the transport is counted or parked, or runs once its context is the most recently used. -/
theorem State.receive_cases (s : State) (qpn turn : Nat) (packet : Instr) :
    Kept [.cnt, .evt, .xpt, .reg 4, .reg 20, .reg 21] s (s.receive qpn turn packet) ∨
      ∃ i u, Kept [.cnt, .xpt, .reg 4, .reg 21] s u ∧ s.receive qpn turn packet = u.runPacket i turn packet := by
  unfold State.receive
  split
  · exact Or.inl (State.badQpn_kept (Kept.refl _ s) rfl)
  · next i _ =>
    split
    · exact Or.inr ⟨i, _, State.geckoTouch_kept i (State.count_kept _ _ _ (State.bumpWrap_kept _ _ _ _ (Kept.refl _ s) rfl rfl) rfl) rfl, rfl⟩
    · exact Or.inl (State.park_kept _ _ _ (Kept.refl _ s) rfl)

/-- A packet that names its queue pair alone changes nothing, is counted, or reaches the transport. -/
theorem State.receiveQpn_next {s t : State} {qpn : Nat} {packet : Instr} (h : s.receiveQpn qpn packet = .next t) :
    t = s ∨ t = s.badQpn ∨ t = s.receive qpn s.now packet := by
  unfold State.receiveQpn at h
  cases h
  split
  · exact Or.inl rfl
  · split
    · split
      · exact Or.inr (Or.inr rfl)
      · exact Or.inl rfl
    · exact Or.inr (Or.inl rfl)

/-- A metered frame is dropped or passed on, after no more than the policer and a CNP have done. -/
theorem State.metered_cases (s : State) (i : Nat) (p : Pkt) (run : State → State) :
    ∃ x, Kept [.cnt, .evt, .outbox, .sch, .xpt, .reg 6, .reg 20, .reg 21] s x ∧ (s.metered i p run = x ∨ s.metered i p run = run x) := by
  unfold State.metered
  split
  · next q _ =>
    have hpoliced := State.police_kept q.handle q.service p.dscp p.length (Kept.refl [.cnt, .evt, .outbox, .sch, .xpt, .reg 6, .reg 20, .reg 21] s) rfl
    have hmarked := State.congested_kept i hpoliced rfl
    dsimp only
    split
    · exact ⟨_, hpoliced, Or.inl rfl⟩
    · exact ⟨_, hmarked, Or.inr rfl⟩
    · exact ⟨_, Kept.ite hmarked hpoliced, Or.inr rfl⟩
  · exact ⟨s, Kept.refl _ s, Or.inl rfl⟩

/-- A request is taken as new or as a duplicate, or no more than a NAK is sent for it. -/
theorem State.inSequence_cases (s : State) (i : Nat) (p : Pkt) (fresh dup : Qp → State) :
    (∃ q, s.inSequence i p fresh dup = fresh q) ∨ (∃ q, s.inSequence i p fresh dup = dup q) ∨
      Kept [.cnt, .outbox, .xpt, .reg 21] s (s.inSequence i p fresh dup) := by
  unfold State.inSequence
  split
  · next q _ =>
    split
    · dsimp only
      split
      · exact Or.inl ⟨q, rfl⟩
      · split
        · exact Or.inr (Or.inl ⟨q, rfl⟩)
        · exact Or.inr (Or.inr (State.nak_kept _ _ (Kept.refl _ s) rfl))
    · exact Or.inr (Or.inr (Kept.refl _ s))
  · exact Or.inr (Or.inr (Kept.refl _ s))

/-! ### Packets that keep DRAM -/

/-- Running a Send, a Read Request, a Send With Invalidate, an acknowledgement, a NAK or a CNP keeps DRAM. -/
theorem State.runPacket_dram (p : Pkt) (pos : PktPos) (imm : Option Nat) (rkey va len qpn psn wait : Nat) (rx tx : Stamp) (c : NakCode)
    (u : State) (i turn : Nat) :
    ∀ packet ∈ [Instr.sendRx p pos imm, .rdmaReadRequestRx p rkey va len, .sendWithInvalidateRx p, .ackRx qpn psn rx tx, .nakRx qpn psn c,
      .rnrNakRx qpn psn wait, .cnpRx qpn], (u.runPacket i turn packet).dram = u.dram := by
  simp only [List.forall_mem_cons, List.not_mem_nil, false_implies, implies_true, and_true]
  have h : Kept (partsBut .dram) u u := Kept.refl _ u
  exact ⟨dram_of_kept (State.runSend_kept _ _ _ h rfl), dram_of_kept (State.runRead_kept _ _ _ _ _ _ h rfl),
    dram_of_kept (State.metered_kept h (fun x hx => State.inSequence_kept hx (fun _ => State.nak_kept _ _ hx rfl) (fun _ => hx) rfl) rfl),
    dram_of_kept (State.runAck_kept _ _ _ _ h rfl), dram_of_kept (State.runNak_kept _ _ _ h rfl), dram_of_kept (State.runRnr_kept _ _ _ h rfl),
    dram_of_kept (State.count_kept _ _ _ (State.modQp_kept _ _ h rfl) rfl)⟩

/-- A packet whose running keeps DRAM keeps it wherever it is received. -/
theorem State.receive_dram {packet : Instr} (hrun : ∀ (u : State) (i turn : Nat), (u.runPacket i turn packet).dram = u.dram)
    (s : State) (qpn turn : Nat) : (s.receive qpn turn packet).dram = s.dram := by
  rcases s.receive_cases qpn turn packet with hkept | ⟨i, u, hkept, hreceive⟩
  · exact hkept.dram_eq
  · rw [hreceive, hrun, hkept.dram_eq]

theorem State.receivePkt_dram {packet later : Instr} (hrun : ∀ (u : State) (i turn : Nat), (u.runPacket i turn packet).dram = u.dram)
    {s t : State} {p : Pkt} (h : s.receivePkt p packet later = .next t) : t.dram = s.dram := by
  rcases State.receivePkt_next h with rfl | rfl | rfl
  · rfl
  · rfl
  · exact State.receive_dram hrun s _ _

theorem State.receiveQpn_dram {packet : Instr} (hrun : ∀ (u : State) (i turn : Nat), (u.runPacket i turn packet).dram = u.dram)
    {s t : State} {qpn : Nat} (h : s.receiveQpn qpn packet = .next t) : t.dram = s.dram := by
  rcases State.receiveQpn_next h with rfl | rfl | rfl
  · rfl
  · exact (State.badQpn_kept (Kept.refl [.cnt, .reg 4, .reg 21] s) rfl).dram_eq
  · exact State.receive_dram hrun s _ _

/-! ### Bytes of a window -/

/-- Buffers lie where the pools put them. -/
theorem State.bufAddr_congr {s t : State} (h : t.fsp = s.fsp) (i : Nat) : t.bufAddr i = s.bufAddr i := by
  unfold State.bufAddr State.poolOfIndex State.pool
  rw [h]

/-- An address outside the 64 KiB buffers of a window. -/
def State.OutsideWindow (s : State) (w a : Nat) : Prop :=
  ∀ e ∈ tgetD s.win.lists w [], a < s.bufAddr e.buf ∨ s.bufAddr e.buf + 65536 ≤ a

/-- From `s` to `t` the byte at an address outside a window is kept, and the address stays outside. -/
def KeepsByte (w a : Nat) (s t : State) : Prop :=
  s.OutsideWindow w a → t.OutsideWindow w a ∧ memRead t.dram a = memRead s.dram a

section Bytes

variable {w a : Nat}

theorem KeepsByte.trans {s t u : State} (h : KeepsByte w a s t) (k : KeepsByte w a t u) : KeepsByte w a s u := by
  intro hout
  obtain ⟨hout', hbyte⟩ := h hout
  obtain ⟨hout'', hbyte'⟩ := k hout'
  exact ⟨hout'', hbyte'.trans hbyte⟩

/-- What leaves the windows, the pools and DRAM alone keeps every byte. -/
theorem KeepsByte.of_eq {s t : State} (hlists : t.win.lists = s.win.lists) (hfsp : t.fsp = s.fsp) (hdram : t.dram = s.dram) : KeepsByte w a s t := by
  intro hout
  refine ⟨fun e he => ?_, by rw [hdram]⟩
  rw [hlists] at he
  rw [State.bufAddr_congr hfsp]
  exact hout e he

theorem KeepsByte.of_kept {ps : List Part} {s t : State} (h : Kept ps s t) (hwin : Part.mem .win ps = false := by decide)
    (hfsp : Part.mem .fsp ps = false := by decide) (hdram : Part.mem .dram ps = false := by decide) : KeepsByte w a s t :=
  .of_eq (congrArg Win.lists (h.win hwin)) (h.fsp hfsp) (h.dram_eq hdram)

theorem mem_lmod {α : Type} {l : List α} {n : Nat} {f : α → α} {x : α} (h : x ∈ lmod l n f) : ∃ y ∈ l, x = y ∨ x = f y := by
  induction l generalizing n with
  | nil => cases h
  | cons y l ih => cases n with
    | zero =>
      rcases List.mem_cons.1 h with rfl | hx
      · exact ⟨y, by simp, Or.inr rfl⟩
      · exact ⟨x, List.mem_cons_of_mem y hx, Or.inl rfl⟩
    | succ n =>
      rcases List.mem_cons.1 h with rfl | hx
      · exact ⟨x, by simp, Or.inl rfl⟩
      · obtain ⟨z, hz, hxz⟩ := ih hx
        exact ⟨z, List.mem_cons_of_mem y hz, hxz⟩

/-- Changing a flag of a block list entry moves no buffer. -/
theorem State.modList_keepsByte (s : State) (b : Nat) {f : BlockEnt → BlockEnt} (hf : ∀ e, (f e).buf = e.buf) : KeepsByte w a s (s.modList w b f) := by
  intro hout
  refine ⟨fun e he => ?_, rfl⟩
  have hsame : ∃ e' ∈ tgetD s.win.lists w [], e.buf = e'.buf := by
    change e ∈ tgetD (tmod s.win.lists w fun l => lmod l b f) w [] at he
    unfold tmod at he
    cases hget : tget s.win.lists w with
    | none => simp [hget, tgetD] at he
    | some l =>
      simp only [hget, tgetD, tget_tset_same, Option.getD_some] at he ⊢
      obtain ⟨y, hy, hxy⟩ := mem_lmod he
      rcases hxy with rfl | rfl
      · exact ⟨e, hy, rfl⟩
      · exact ⟨y, hy, hf y⟩
  obtain ⟨e', he', hbuf⟩ := hsame
  rw [hbuf]
  exact hout e' he'

theorem State.countSpill_keepsByte (s : State) (b : Nat) : KeepsByte w a s (s.countSpill w b) := by
  refine KeepsByte.trans (State.modList_keepsByte s b (f := fun e => { e with spilled := true }) fun _ => rfl) ?_
  exact KeepsByte.of_kept (ps := [.cnt, .reg 5, .reg 21]) (State.count_kept 72 1 w (State.bumpWrap_kept _ _ _ _ (Kept.refl _ _) rfl rfl) rfl)

theorem State.newBlock_keepsByte (s : State) (b : Nat) : KeepsByte w a s (s.newBlock w b).2 := by
  unfold State.newBlock
  cases s.freeStaging with
  | some n => exact KeepsByte.of_eq rfl rfl rfl
  | none =>
    refine KeepsByte.trans ?_ (State.countSpill_keepsByte _ b)
    exact KeepsByte.of_eq rfl rfl rfl

/-- Placing bytes that lie within one block of a window keeps every byte outside the window. -/
theorem State.placeBlock_keepsByte (s : State) (d : WinDesc) (b off : Nat) {l : List Byte} (hfit : off + l.length ≤ 65536) :
    KeepsByte w a s (s.placeBlock w d b off l) := by
  unfold State.placeBlock
  refine KeepsByte.trans (State.modList_keepsByte s b (f := fun e => { e with written := true }) fun _ => rfl) ?_
  generalize s.modList w b (fun e => { e with written := true }) = u
  dsimp only
  split
  · split
    · next e he =>
      intro hout
      have hoff := hout e (List.mem_of_getElem? he)
      exact ⟨hout, memRead_memWriteList_out l _ _ _ (by omega)⟩
    · exact KeepsByte.of_eq rfl rfl rfl
  · split
    · exact KeepsByte.of_eq rfl rfl rfl
    · exact (State.newBlock_keepsByte u b).trans (KeepsByte.of_eq rfl rfl rfl)

theorem State.placeWindow_keepsByte (n : Nat) (d : WinDesc) (off : Nat) (l : List Byte) (s : State) :
    KeepsByte w a s (State.placeWindow n w d off l s) := by
  induction n generalizing off l s with
  | zero => exact KeepsByte.of_eq rfl rfl rfl
  | succ n ih =>
    cases l with
    | nil => exact KeepsByte.of_eq rfl rfl rfl
    | cons x l =>
      have hfit : off % 65536 + ((x :: l).take (65536 - off % 65536)).length ≤ 65536 := by
        have hroom := Nat.mod_lt off (show 0 < 65536 by decide)
        rw [List.length_take]
        omega
      exact (State.placeBlock_keepsByte s d (off / 65536) (off % 65536) hfit).trans (ih _ _ _)

theorem State.place_keepsByte (s : State) (d : WinDesc) (off : Nat) (l : List Byte) : KeepsByte w a s (s.place w d off l) :=
  State.placeWindow_keepsByte _ _ _ _ _

theorem State.metered_keepsByte {s : State} {i : Nat} {p : Pkt} {run : State → State} (hrun : ∀ x, KeepsByte w a x (run x)) :
    KeepsByte w a s (s.metered i p run) := by
  obtain ⟨x, hkept, hdropped | hpassed⟩ := s.metered_cases i p run
  · rw [hdropped]
    exact KeepsByte.of_kept hkept
  · rw [hpassed]
    exact (KeepsByte.of_kept hkept).trans (hrun x)

theorem State.inSequence_keepsByte {s : State} {i : Nat} {p : Pkt} {fresh dup : Qp → State} (hfresh : ∀ q, KeepsByte w a s (fresh q))
    (hdup : ∀ q, KeepsByte w a s (dup q)) : KeepsByte w a s (s.inSequence i p fresh dup) := by
  rcases s.inSequence_cases i p fresh dup with ⟨q, hq⟩ | ⟨q, hq⟩ | hkept
  · rw [hq]
    exact hfresh q
  · rw [hq]
    exact hdup q
  · exact KeepsByte.of_kept hkept

/-- What an RDMA Write does that no check refuses keeps every byte outside the window that its key names, and so does a refusal. -/
theorem State.runWrite_keepsByte (s : State) (i turn : Nat) (p : Pkt) (pos : PktPos) (rkey va : Nat) (imm : Option Nat) (l : List Byte) :
    KeepsByte (keyIndex rkey) a s (s.runWrite i turn p pos rkey va imm l) := by
  unfold State.runWrite
  refine State.metered_keepsByte fun x => State.inSequence_keepsByte (fun q => ?_) fun q => ?_
  · dsimp only
    split
    · exact KeepsByte.of_kept (ps := [.cnt, .evt, .outbox, .xpt, .reg 5, .reg 20, .reg 21])
        (State.windowViol_kept _ _ (State.nak_kept _ _ (Kept.refl _ x) rfl) rfl)
    · refine (State.place_keepsByte x (x.windowAt (keyIndex rkey) turn) va l).trans ?_
      exact KeepsByte.of_kept (ps := [.outbox, .sch, .xpt])
        (State.acknowledge_kept _ _ _ (State.accepted_kept _ _ _ (State.modQp_kept _ _ (State.placedFrame_kept _ _ (Kept.refl _ _) rfl) rfl) rfl) rfl)
  · exact KeepsByte.of_kept (ps := [.outbox, .xpt]) (State.acknowledge_kept _ _ _ (Kept.refl _ x) rfl)

/-! ### Cipher jobs -/

theorem length_leBytes (n v : Nat) : (leBytes n v).length = n := by
  induction n generalizing v with
  | zero => rfl
  | succ n ih => simp [leBytes, ih]

theorem length_unblocks16 (l : List Nat) : (unblocks16 l).length = 16 * l.length := by
  induction l with
  | nil => rfl
  | cons b l ih =>
    rw [unblocks16, List.flatMap_cons, List.length_append, length_leBytes, List.length_cons, Nat.mul_succ, Nat.add_comm, ← ih, unblocks16]

theorem length_blocks16 (n : Nat) (l : List Byte) : (blocks16 n l).length = n := by
  induction n generalizing l with
  | zero => rfl
  | succ n ih => simp [blocks16, ih]

theorem length_cbcEncrypt (key iv : Nat) (l : List Nat) : (cbcEncrypt key iv l).length = l.length := by
  induction l generalizing iv with
  | nil => rfl
  | cons b l ih => simp [cbcEncrypt, ih]

theorem length_cbcDecrypt (key iv : Nat) (l : List Nat) : (cbcDecrypt key iv l).length = l.length := by
  induction l generalizing iv with
  | nil => rfl
  | cons b l ih => simp [cbcDecrypt, ih]

theorem length_ctrMode (key iv : Nat) (l : List Nat) : (ctrMode key iv l).length = l.length := by
  induction l generalizing iv with
  | nil => rfl
  | cons b l ih => simp [ctrMode, ih]

theorem length_cfbEncrypt (key iv : Nat) (l : List Nat) : (cfbEncrypt key iv l).length = l.length := by
  induction l generalizing iv with
  | nil => rfl
  | cons b l ih => simp [cfbEncrypt, ih]

theorem length_cfbDecrypt (key iv : Nat) (l : List Nat) : (cfbDecrypt key iv l).length = l.length := by
  induction l generalizing iv with
  | nil => rfl
  | cons b l ih => simp [cfbDecrypt, ih]

/-- A cipher job makes no more bytes than it reads. -/
theorem length_cipherMode_le (mode : Nat) (decrypt : Bool) (key iv : Nat) (l : List Byte) :
    (cipherMode mode decrypt key iv l).length ≤ l.length := by
  have hwhole : 16 * (l.length / 16) ≤ l.length := Nat.mul_div_le l.length 16
  rw [cipherMode, length_unblocks16]
  split
  · split
    · rwa [length_cbcDecrypt, length_blocks16]
    · rwa [length_cbcEncrypt, length_blocks16]
  · split
    · rwa [length_ctrMode, length_blocks16]
    · split
      · rwa [length_cfbDecrypt, length_blocks16]
      · rwa [length_cfbEncrypt, length_blocks16]

/-- The address of a byte of a BUFFER window. -/
def State.windowAddr (s : State) (w i : Nat) : Option Nat :=
  ((tgetD s.win.lists w [])[i / 65536]?).map fun e => s.bufAddr e.buf + i % 65536

/-- Replacing bytes of a window keeps every byte of DRAM but theirs. -/
theorem State.memRead_windowPut {s : State} {off : Nat} {l : List Byte} (ha : ∀ i < l.length, s.windowAddr w (off + i) ≠ some a) :
    memRead (s.windowPut w off l).dram a = memRead s.dram a := by
  unfold State.windowPut
  have hstep : ∀ (xs : List (Byte × Nat)) (u : State), (∀ x ∈ xs, x.2 < l.length) → u.fsp = s.fsp →
      memRead (xs.foldl (fun (u : State) b => match (tgetD s.win.lists w [])[(off + b.2) / 65536]? with
        | some e => { u with dram := memWrite u.dram (u.bufAddr e.buf + (off + b.2) % 65536) b.1 }
        | none => u) u).dram a = memRead u.dram a := by
    intro xs
    induction xs with
    | nil => exact fun _ _ _ => rfl
    | cons x xs ih =>
      intro u hlt hfsp
      have hrest : ∀ y ∈ xs, y.2 < l.length := fun y hy => hlt y (List.mem_cons_of_mem x hy)
      rw [List.foldl_cons]
      cases hentry : (tgetD s.win.lists w [])[(off + x.2) / 65536]? with
      | none =>
        exact ih u hrest hfsp
      | some e =>
        have hne : a ≠ u.bufAddr e.buf + (off + x.2) % 65536 := by
          intro heq
          refine ha x.2 (hlt x (by simp)) ?_
          rw [State.windowAddr, hentry, Option.map_some, ← State.bufAddr_congr hfsp, heq]
        exact (ih { u with dram := memWrite u.dram (u.bufAddr e.buf + (off + x.2) % 65536) x.1 } hrest hfsp).trans (memRead_memWrite_ne _ _ hne)
  exact hstep l.zipIdx s (fun x hx => (List.mem_zipIdx' hx).1) rfl

/-- A cipher job keeps every byte of DRAM but those of the window bytes that it names. -/
theorem execCipherJob_memRead {ctrl cid rkey off len keyId mode iv : Nat} {dec : Bool} {s t : State}
    (hexec : exec (.cipherJob ctrl cid rkey off len keyId mode dec iv) s = .next t)
    (ha : ∀ i < len, s.windowAddr (keyIndex rkey) (off + i) ≠ some a) : memRead t.dram a = memRead s.dram a := by
  cases hexec
  rcases s.admin_cases (.cipherJob ctrl cid rkey off len keyId mode dec iv) ctrl cid (.mgmt (some RoleBit.keyOfficer)) _ false true with hrun | hkept
  · rw [hrun]
    have hanswer (st : Nat × Nat) : (s.replyErr ctrl cid st).dram = s.dram := dram_of_kept (State.replyErr_kept _ _ _ (Kept.refl _ s) rfl)
    dsimp only
    split
    · rw [hanswer]
    · split
      · rw [hanswer]
      · next k _ =>
        split
        · rw [hanswer]
        · rw [dram_of_kept (State.replyOk_kept _ _ (State.count_kept _ _ _ (Kept.refl _ _) rfl) rfl)]
          refine State.memRead_windowPut fun i hi => ha i (Nat.lt_of_lt_of_le hi ?_)
          refine (length_cipherMode_le _ _ _ _ _).trans ?_
          simp [State.windowBytes]
  · rw [hkept.dram_eq]

end Bytes

/-- Settles O60: `execCipherJob_memRead`, `State.runWrite_keepsByte` where the Write reaches its queue pair, and `State.runPacket_dram`
for the packets that place nothing. -/
theorem dramBytes : Obligations.DramBytes := by
  unfold Obligations.DramBytes
  refine ⟨fun ctrl cid rkey off len keyId mode iv dec s t a hexec ha => execCipherJob_memRead hexec ha, ?_, ?_⟩
  · intro p pos rkey va imm l s t a hexec hout
    rcases State.receivePkt_next hexec with rfl | rfl | rfl
    · rfl
    · rfl
    · rcases s.receive_cases p.qpn s.now (.rdmaWriteRx p pos rkey va imm l) with hkept | ⟨i, u, hkept, hreceive⟩
      · rw [hkept.dram_eq]
      · have hrun : KeepsByte (keyIndex rkey) a u (u.runPacket i s.now (.rdmaWriteRx p pos rkey va imm l)) :=
          State.runWrite_keepsByte u i s.now p pos rkey va imm l
        rw [hreceive]
        exact (((KeepsByte.of_kept hkept).trans hrun) hout).2
  · intro p pos imm rkey va len qpn psn wait rx tx c s t packet hpacket hexec
    have hrun (u : State) (i turn : Nat) := State.runPacket_dram p pos imm rkey va len qpn psn wait rx tx c u i turn packet hpacket
    simp only [List.mem_cons, List.not_mem_nil, or_false] at hpacket
    rcases hpacket with rfl | rfl | rfl | rfl | rfl | rfl | rfl
    · exact State.receivePkt_dram hrun hexec
    · exact State.receivePkt_dram hrun hexec
    · exact State.receivePkt_dram hrun hexec
    · exact State.receiveQpn_dram hrun hexec
    · exact State.receiveQpn_dram hrun hexec
    · exact State.receiveQpn_dram hrun hexec
    · exact State.receiveQpn_dram hrun hexec

end Sys2Proof.Machine

/-!
The words in which the statements of the commands speak: how a command completes, what it answers and raises, and one field at a time of what
an operation keeps.
-/

namespace Sys2Proof.Machine

set_option Elab.async false

/-! ### Lists and tables -/

theorem lmod_eq_modify {α : Type} (l : List α) (n : Nat) (f : α → α) : lmod l n f = l.modify n f := by
  induction l generalizing n with
  | nil => simp [lmod]
  | cons x l ih =>
    cases n with
    | zero => simp [lmod]
    | succ n => simp [lmod, ih]

@[simp] theorem length_lmod {α : Type} (l : List α) (n : Nat) (f : α → α) : (lmod l n f).length = l.length := by simp [lmod_eq_modify]

@[simp] theorem getElem?_lmod_same {α : Type} (l : List α) (n : Nat) (f : α → α) : (lmod l n f)[n]? = l[n]?.map f := by
  simp [lmod_eq_modify]

@[simp] theorem getElem_lmod_same {α : Type} (l : List α) (n : Nat) (f : α → α) (h : n < (lmod l n f).length) :
    (lmod l n f)[n] = f (l[n]'(length_lmod l n f ▸ h)) := by
  simp [lmod_eq_modify]

theorem getElem?_lmod_ne {α : Type} (l : List α) {m n : Nat} (f : α → α) (h : m ≠ n) : (lmod l n f)[m]? = l[m]? := by
  simp [lmod_eq_modify, h.symm]

theorem getD_lmod_same {α : Type} (l : List α) {n : Nat} (f : α → α) (d : α) (h : n < l.length) : (lmod l n f).getD n d = f (l.getD n d) := by
  rw [List.getD_eq_getElem?_getD, getElem?_lmod_same, List.getD_eq_getElem?_getD, List.getElem?_eq_getElem h, Option.map_some, Option.getD_some, Option.getD_some]

theorem getD_lmod_ne {α : Type} (l : List α) {m n : Nat} (f : α → α) (d : α) (h : m ≠ n) : (lmod l n f).getD m d = l.getD m d := by
  simp [List.getD_eq_getElem?_getD, getElem?_lmod_ne l f h]

theorem tget_tmod_same {α : Type} {t : Tbl α} {k : Nat} {v : α} (f : α → α) (h : tget t k = some v) : tget (tmod t k f) k = some (f v) := by
  simp [tmod, h]

theorem tget_tmod_ne {α : Type} (t : Tbl α) {k j : Nat} (f : α → α) (h : j ≠ k) : tget (tmod t k f) j = tget t j := by
  unfold tmod
  split
  · exact tget_tset_ne t _ h
  · rfl

@[simp] theorem tgetD_tset_same {α : Type} (t : Tbl α) (k : Nat) (v d : α) : tgetD (tset t k v) k d = v := by simp [tgetD]

/-! ### Completing -/

theorem Completes.intro {i : Instr} {s t : State} {p : State → Prop} (hexec : exec i s = .next t) (hp : p t) : Completes i s p := ⟨t, hexec, hp⟩

/-- A command whose operand names a unit that the part has. -/
theorem Completes.guard {i : Instr} {s t : State} {p : State → Prop} {ok : Bool} (hexec : exec i s = guardUnit ok t) (hok : ok = true) (hp : p t) :
    Completes i s p := ⟨t, by rw [hexec, guardUnit, if_pos hok], hp⟩

theorem Completes.eq {i : Instr} {s t u : State} {p : State → Prop} (hexec : exec i s = .next u) (ht : u = t) (hp : p t) : Completes i s p :=
  ⟨t, by rw [hexec, ht], hp⟩

/-! ### What an operation keeps, one field at a time -/

section
variable {s t : State}

theorem outbox_of_kept (h : Kept (partsBut .outbox) s t) : t.outbox = s.outbox := h.outbox
theorem deferred_of_kept (h : Kept (partsBut .deferred) s t) : t.deferred = s.deferred := h.deferred
theorem free_of_kept (h : Kept (partsBut .free) s t) : t.free = s.free := h.free
theorem trn_of_kept (h : Kept (partsBut .trn) s t) : t.trn = s.trn := h.trn
theorem cfg_of_kept (h : Kept (partsBut .cfg) s t) : t.cfg = s.cfg := h.cfg
theorem idn_of_kept (h : Kept (partsBut .idn) s t) : t.idn = s.idn := h.idn
theorem eth_of_kept (h : Kept (partsBut .eth) s t) : t.eth = s.eth := h.eth
theorem xpt_of_kept (h : Kept (partsBut .xpt) s t) : t.xpt = s.xpt := h.xpt
theorem win_of_kept (h : Kept (partsBut .win) s t) : t.win = s.win := h.win
theorem sch_of_kept (h : Kept (partsBut .sch) s t) : t.sch = s.sch := h.sch
theorem cmd_of_kept (h : Kept (partsBut .cmd) s t) : t.cmd = s.cmd := h.cmd
theorem fsp_of_kept (h : Kept (partsBut .fsp) s t) : t.fsp = s.fsp := h.fsp
theorem gch_of_kept (h : Kept (partsBut .gch) s t) : t.gch = s.gch := h.gch
theorem sal_of_kept (h : Kept (partsBut .sal) s t) : t.sal = s.sal := h.sal
theorem cmp_of_kept (h : Kept (partsBut .cmp) s t) : t.cmp = s.cmp := h.cmp
theorem cph_of_kept (h : Kept (partsBut .cph) s t) : t.cph = s.cph := h.cph
theorem lay_of_kept (h : Kept (partsBut .lay) s t) : t.lay = s.lay := h.lay
theorem jnl_of_kept (h : Kept (partsBut .jnl) s t) : t.jnl = s.jnl := h.jnl
theorem axl_of_kept (h : Kept (partsBut .axl) s t) : t.axl = s.axl := h.axl
theorem drv_of_kept (h : Kept (partsBut .drv) s t) : t.drv = s.drv := h.drv
theorem pwr_of_kept (h : Kept (partsBut .pwr) s t) : t.pwr = s.pwr := h.pwr
theorem fov_of_kept (h : Kept (partsBut .fov) s t) : t.fov = s.fov := h.fov
theorem sep_of_kept (h : Kept (partsBut .sep) s t) : t.sep = s.sep := h.sep
theorem evt_of_kept (h : Kept (partsBut .evt) s t) : t.evt = s.evt := h.evt
theorem cnt_of_kept (h : Kept (partsBut .cnt) s t) : t.cnt = s.cnt := h.cnt

/-- The parts of the state but the queue and the registers of one block. -/
def partsButReg (b : Nat) : List Part := partsButQueue.filter (· != .regs) ++ ((List.range 22).filter (· != b)).map Part.reg

theorem partsButReg_mem_regs (b : Nat) : Part.mem .regs (partsButReg b) = false := by
  simp [partsButReg, Part.mem, partsButQueue]

theorem partsButReg_mem_self (b : Nat) : Part.mem (.reg b) (partsButReg b) = false := by
  simp [partsButReg, Part.mem, partsButQueue]

/-- A register reads as before where its block is kept. -/
theorem rd_of_kept (f : Fld) {i j : Nat} (h : Kept (partsButReg f.block) s t) (hi : i < f.count1 := by decide) (hj : j < f.count2 := by decide)
    (hf : f.fits = true := by decide) : t.rd f i j = s.rd f i j :=
  h.rd f i j hi hj hf (partsButReg_mem_regs _) (partsButReg_mem_self _)

end

/-! ### Registers -/

/-- A value that fits its field reads as it was written. -/
theorem State.rd_wr_fits (s : State) (f : Fld) (i j v : Nat) (hv : v < 2 ^ f.width) (hi : i < f.count1) (hj : j < f.count2) : (s.wr f i j v).rd f i j = v := by
  rw [s.rd_wr_same f i j v hi hj, Nat.mod_eq_of_lt hv]

/-- Changing parts of a state other than its register file changes no register. -/
@[simp] theorem State.rd_mk (s : State) (pending : List Instr) (outbox : List Output) (deferred : List Deferred) (free : Nat) (dram : Mem) (trn : Trn) (cfg : Cfg) (idn : Idn) (eth : List Link) (xpt : Xpt) (win : Win) (sch : Sch) (cmd : Cmd) (fsp : Fsp) (gch : Gch) (sal : Sal) (cmp : Cmp) (cph : Cph) (lay : Lay) (jnl : Jnl) (axl : Axl) (drv : List Slot) (pwr : Pwr) (fov : Fov) (sep : Sep) (evt : Evt) (cnt : Cnt) (f : Fld) (i j : Nat) :
    (State.mk pending outbox deferred free s.regs dram trn cfg idn eth xpt win sch cmd fsp gch sal cmp cph lay jnl axl drv pwr fov sep evt cnt).rd f i j = s.rd f i j := rfl

@[simp] theorem State.rd_emit (s : State) (k : OutKind) (args : List Nat) (f : Fld) (i j : Nat) : (s.emit k args).rd f i j = s.rd f i j := rfl

@[simp] theorem State.rd_defer (s : State) (d : Deferred) (f : Fld) (i j : Nat) : (s.defer d).rd f i j = s.rd f i j := rfl

/-- Does a field lie outside some register blocks? -/
def Fld.outside (f : Fld) (bs : List Nat) : Bool := f.fits && !bs.contains f.block

theorem Kept.rd_outside {ps : List Part} {s t : State} (h : Kept ps s t) (bs : List Nat) {f : Fld} {i j : Nat} (hf : f.outside bs = true)
    (hi : i < f.count1) (hj : j < f.count2) (ha : Part.mem .regs ps = false := by decide)
    (hps : (ps.all fun p => !p.isReg || bs.any fun b => decide (p = .reg b)) = true := by decide) : t.rd f i j = s.rd f i j := by
  obtain ⟨hfits, hblock⟩ := Bool.and_eq_true_iff.mp hf
  refine h.rd f i j hi hj hfits ha ?_
  rw [Part.mem, List.any_eq_false]
  intro p hp heq
  have hp' := List.all_eq_true.mp hps p hp
  simp only [decide_eq_true_eq] at heq
  subst heq
  simp_all [Part.isReg]

/-! ### The device state -/

/-- A new device state changes no other part of the configuration block's state. -/
theorem State.setDevState_cfg (s : State) (d : DevState) : (s.setDevState d).cfg = { s.cfg with state := d } := by
  by_cases h : s.cfg.state = d
  · simp [State.setDevState, ← h]
  · rw [State.setDevState, if_neg h]
    exact (cfg_of_kept (State.updateDemand_kept (State.setAna_kept _ (Kept.refl _ _) rfl) rfl)).trans rfl

/-- The check of the stream against the image notes what it found frozen. -/
theorem State.checkFrozen_cfg (s : State) (i : Image) : ∃ ns gs, (s.checkFrozen i).cfg = { s.cfg with frozenNs := ns, frozenGroups := gs } :=
  ⟨_, _, (cfg_of_kept (Kept.foldl (Kept.foldl (Kept.refl _ _) fun _ _ h => State.violation_kept _ _ h rfl) fun _ _ h => State.violation_kept _ _ h rfl)).trans rfl⟩

/-- Entering RECOVERY changes the device state and what the check found frozen. -/
theorem State.enterRecovery_cfg {s : State} {i : Image} {l : SecLayout} (hrun : s.cfg.running = some i) (hlay : s.layoutSec = some l) :
    ∃ ns gs, s.enterRecovery.cfg = { s.cfg with state := .recovery, frozenNs := ns, frozenGroups := gs } := by
  unfold State.enterRecovery
  simp only [hrun, hlay]
  generalize hu : List.foldl _ _ _ = u
  have hcfg : u.cfg = { s.cfg with state := .recovery } := by
    rw [← hu, cfg_of_kept (Kept.foldl (Kept.refl _ _) fun _ _ h => State.requestSet_kept _ _ h rfl),
      cfg_of_kept (State.unwrapAll_kept (Kept.refl _ _) rfl), State.setDevState_cfg, cfg_of_kept (State.startRoles_kept _ (Kept.refl _ _) rfl)]
  obtain ⟨ns, gs, hfrozen⟩ := u.checkFrozen_cfg i
  exact ⟨ns, gs, by rw [cfg_of_kept (State.jnlStatus_kept (Kept.refl _ _) rfl), hfrozen, hcfg, ← hrun]⟩

/-- Entering RECOVERY is no phase of boot. -/
theorem State.enterRecovery_phase (s : State) : s.enterRecovery.cfg.phase = s.cfg.phase := by
  cases hrun : s.cfg.running with
  | none => simp [State.enterRecovery, hrun]
  | some i =>
    cases hlay : s.layoutSec with
    | none => simp [State.enterRecovery, hrun, hlay]
    | some l =>
      obtain ⟨ns, gs, hcfg⟩ := State.enterRecovery_cfg hrun hlay
      rw [hcfg]

/-! ### Events -/

@[simp] theorem State.raise_evt_raised (s : State) (src sev inst code v v2 : Nat) : (s.raise src sev inst code v v2).evt.raised =
    s.evt.raised ++ [⟨src, sev, s.now, inst, code, v, v2, tgetD s.evt.suppressed src 0⟩] := rfl

theorem State.raise_raises (s : State) (src sev inst code v v2 : Nat) : Raises s (s.raise src sev inst code v v2) src inst code := by
  refine ⟨List.prefix_append _ _, ?_⟩
  simp [State.raise]

/-- What was raised on the way stays raised while the record only grows. -/
theorem Raises.mono {s t u : State} {src inst code : Nat} (h : Raises s t src inst code) (hgrow : t.evt.raised <+: u.evt.raised) :
    Raises s u src inst code := by
  obtain ⟨hpre, r, hr, hfields⟩ := h
  obtain ⟨l, hl⟩ := hgrow
  refine ⟨hpre.trans ⟨l, hl⟩, r, ?_, hfields⟩
  rw [← hl, List.drop_append_of_le_length hpre.length_le]
  exact List.mem_append_left _ hr

theorem Raises.after {s t u : State} {src inst code : Nat} (h : Raises t u src inst code) (hgrow : s.evt.raised <+: t.evt.raised) :
    Raises s u src inst code := by
  obtain ⟨⟨m, hm⟩, r, hr, hfields⟩ := h
  obtain ⟨l, hl⟩ := hgrow
  refine ⟨⟨l ++ m, by rw [← hm, ← hl, List.append_assoc]⟩, r, ?_, hfields⟩
  rw [← hm, List.drop_left] at hr
  rw [← hm, ← hl, List.append_assoc, List.drop_left]
  exact List.mem_append_right _ hr

/-! ### Counters, answers and events: the blocks that they leave alone -/

/-- `t` is `s` in every block but what it has sent, the events, the counters, the endpoint and the register file. -/
abbrev SameBlocks (s t : State) : Prop :=
  t.deferred = s.deferred ∧ t.free = s.free ∧ t.dram = s.dram ∧ t.trn = s.trn ∧ t.cfg = s.cfg ∧ t.idn = s.idn ∧ t.eth = s.eth ∧ t.xpt = s.xpt ∧
    t.win = s.win ∧ t.sch = s.sch ∧ t.cmd = s.cmd ∧ t.fsp = s.fsp ∧ t.gch = s.gch ∧ t.sal = s.sal ∧ t.cmp = s.cmp ∧ t.cph = s.cph ∧
    t.lay = s.lay ∧ t.jnl = s.jnl ∧ t.axl = s.axl ∧ t.drv = s.drv ∧ t.pwr = s.pwr ∧ t.fov = s.fov

theorem Kept.sameBlocks {s t : State} (h : Kept [.outbox, .sep, .evt, .cnt, .regs] s t) : SameBlocks s t :=
  ⟨h.deferred, h.free, h.dram_eq, h.trn, h.cfg, h.idn, h.eth, h.xpt, h.win, h.sch, h.cmd, h.fsp, h.gch, h.sal, h.cmp, h.cph, h.lay, h.jnl, h.axl,
    h.drv, h.pwr, h.fov⟩

@[simp] theorem State.reply_blocks (s : State) (ctrl cid : Nat) (st : Nat × Nat) (a b : Nat) : SameBlocks s (s.reply ctrl cid st a b) :=
  (State.reply_kept _ _ _ _ _ (Kept.refl _ s) rfl).sameBlocks

@[simp] theorem State.replyOk_blocks (s : State) (ctrl cid : Nat) : SameBlocks s (s.replyOk ctrl cid) := s.reply_blocks _ _ _ _ _

@[simp] theorem State.replyErr_blocks (s : State) (ctrl cid : Nat) (st : Nat × Nat) : SameBlocks s (s.replyErr ctrl cid st) := s.reply_blocks _ _ _ _ _

@[simp] theorem State.count_blocks (s : State) (i n inst : Nat) : SameBlocks s (s.count i n inst) :=
  (State.count_kept _ _ _ (Kept.refl _ s) rfl).sameBlocks

@[simp] theorem State.count_records (s : State) (i n inst : Nat) :
    (s.count i n inst).outbox = s.outbox ∧ (s.count i n inst).evt = s.evt ∧ (s.count i n inst).sep = s.sep :=
  ⟨outbox_of_kept (State.count_kept _ _ _ (Kept.refl _ s) rfl), evt_of_kept (State.count_kept _ _ _ (Kept.refl _ s) rfl),
    sep_of_kept (State.count_kept _ _ _ (Kept.refl _ s) rfl)⟩

/-- A counter wraps at 2^48. -/
theorem State.count_vals (s : State) (i n inst : Nat) : (s.count i n inst).cnt.vals = tput 0 s.cnt.vals i ((tgetD s.cnt.vals i 0 + n) % 2 ^ 48) := by
  simp [State.count, apply_ite State.cnt, apply_ite Cnt.vals]

theorem State.count_vals_same (s : State) (i n inst : Nat) : tgetD (s.count i n inst).cnt.vals i 0 = (tgetD s.cnt.vals i 0 + n) % 2 ^ 48 := by
  rw [State.count_vals, tgetD_tput_same]

theorem State.count_vals_ne (s : State) {i j : Nat} (n inst : Nat) (h : j ≠ i) : tgetD (s.count i n inst).cnt.vals j 0 = tgetD s.cnt.vals j 0 := by
  rw [State.count_vals, tgetD_tput_ne _ _ _ _ h]

@[simp] theorem State.raiseLim_blocks (s : State) (period key src sev inst code v v2 : Nat) :
    SameBlocks s (s.raiseLim period key src sev inst code v v2) :=
  (State.raiseLim_kept _ _ _ _ _ _ _ _ (Kept.refl _ s) rfl).sameBlocks

@[simp] theorem State.raiseLim_records (s : State) (period key src sev inst code v v2 : Nat) :
    (s.raiseLim period key src sev inst code v v2).outbox = s.outbox ∧ (s.raiseLim period key src sev inst code v v2).cnt = s.cnt ∧
      (s.raiseLim period key src sev inst code v v2).sep = s.sep :=
  ⟨outbox_of_kept (State.raiseLim_kept _ _ _ _ _ _ _ _ (Kept.refl _ s) rfl), cnt_of_kept (State.raiseLim_kept _ _ _ _ _ _ _ _ (Kept.refl _ s) rfl),
    sep_of_kept (State.raiseLim_kept _ _ _ _ _ _ _ _ (Kept.refl _ s) rfl)⟩

/-! ### Answers -/

@[simp] theorem State.replyOk_outbox (s : State) (ctrl cid : Nat) :
    (s.replyOk ctrl cid).outbox = s.outbox ++ [⟨.completion, [ctrl, cid, 0, 0, 0, 0]⟩] := s.reply_outbox _ _ _ _ _

@[simp] theorem State.replyErr_outbox (s : State) (ctrl cid : Nat) (st : Nat × Nat) :
    (s.replyErr ctrl cid st).outbox = s.outbox ++ [⟨.completion, [ctrl, cid, st.1, st.2, 0, 0]⟩] := s.reply_outbox _ _ _ _ _

theorem State.reply_answersLast (s : State) (ctrl cid : Nat) (st : Nat × Nat) (a b : Nat) : AnswersLast (s.reply ctrl cid st a b) ctrl cid st := by
  simp [State.reply_outbox]

theorem State.reply_answers {s t : State} (hgrow : s.outbox <+: t.outbox) (ctrl cid : Nat) (st : Nat × Nat) (a b : Nat) :
    Answers s (t.reply ctrl cid st a b) ctrl cid st := by
  obtain ⟨l, hl⟩ := hgrow
  rw [Answers, State.reply_outbox, ← hl]
  refine ⟨⟨_, (List.append_assoc _ _ _).symm⟩, ⟨.completion, [ctrl, cid, st.1, st.2, a, b]⟩, ?_, rfl, rfl⟩
  simp

/-- An answer keeps what was sent before it. -/
theorem State.sends_reply {s t : State} {o : Output} (h : Sends s t o) (ctrl cid : Nat) (st : Nat × Nat) (a b : Nat) :
    Sends s (t.reply ctrl cid st a b) o := by
  obtain ⟨⟨l, hl⟩, ho⟩ := h
  rw [Sends, State.reply_outbox, ← hl]
  rw [← hl, List.drop_left] at ho
  refine ⟨⟨_, (List.append_assoc _ _ _).symm⟩, ?_⟩
  rw [List.append_assoc, List.drop_left]
  exact List.mem_append_left _ ho

/-! ### The gate of admin commands -/

/-- A gate that passes outside the mailbox's exceptions passes with them. -/
theorem State.gate_safe {s : State} {ctrl : Nat} {a : ServedOn} (hgate : s.gate ctrl a = .pass) (safe : Bool) : s.gate ctrl a safe = .pass := by
  cases safe with
  | false => exact hgate
  | true =>
    unfold State.gate at hgate ⊢
    cases hctrl : s.ctrlOf ctrl with
    | none => simp [hctrl] at hgate
    | some c =>
      simp only [hctrl] at hgate ⊢
      split at hgate
      · split at hgate
        · simp at hgate
        · split at hgate
          · simp at hgate
          · simp_all
      · simp_all

/-- A command that is served runs. -/
theorem State.admin_serves {s : State} {ctrl : Nat} {a : ServedOn} (h : Serves s ctrl a) (i : Instr) (cid : Nat) (run : State → State)
    (safe held : Bool) : s.admin i ctrl cid a run safe held = run s := by
  obtain ⟨hgate, hstate⟩ := h
  simp [State.admin, State.gate_safe hgate, hstate]

theorem Completes.served {i j : Instr} {s : State} {p : State → Prop} {ctrl cid : Nat} {a : ServedOn} {run : State → State} {safe held : Bool}
    (hexec : exec i s = .next (s.admin j ctrl cid a run safe held)) (hserves : Serves s ctrl a) (hp : p (run s)) : Completes i s p :=
  ⟨run s, by rw [hexec, State.admin_serves hserves], hp⟩

/-! ### Registers after the shared operations -/

section
variable (s : State) {f : Fld} {i j : Nat}

theorem State.rd_raise (src sev inst code v v2 : Nat) (hf : f.outside [20] = true) (hi : i < f.count1) (hj : j < f.count2) :
    (s.raise src sev inst code v v2).rd f i j = s.rd f i j :=
  (State.raise_kept _ _ _ _ _ _ (Kept.refl [.evt, .reg 20] s) rfl).rd_outside [20] hf hi hj

theorem State.rd_raiseLim (period key src sev inst code v v2 : Nat) (hf : f.outside [20] = true) (hi : i < f.count1) (hj : j < f.count2) :
    (s.raiseLim period key src sev inst code v v2).rd f i j = s.rd f i j :=
  (State.raiseLim_kept _ _ _ _ _ _ _ _ (Kept.refl [.evt, .reg 20] s) rfl).rd_outside [20] hf hi hj

theorem State.rd_count (c n inst : Nat) (hf : f.outside [21] = true) (hi : i < f.count1) (hj : j < f.count2) :
    (s.count c n inst).rd f i j = s.rd f i j :=
  (State.count_kept _ _ _ (Kept.refl [.cnt, .reg 21] s) rfl).rd_outside [21] hf hi hj

theorem State.rd_reply (ctrl cid : Nat) (st : Nat × Nat) (a b : Nat) (hf : f.outside [19, 21] = true) (hi : i < f.count1) (hj : j < f.count2) :
    (s.reply ctrl cid st a b).rd f i j = s.rd f i j :=
  (State.reply_kept _ _ _ _ _ (Kept.refl [.cnt, .evt, .outbox, .sep, .reg 19, .reg 21] s) rfl).rd_outside [19, 21] hf hi hj

theorem State.rd_replyOk (ctrl cid : Nat) (hf : f.outside [19, 21] = true) (hi : i < f.count1) (hj : j < f.count2) :
    (s.replyOk ctrl cid).rd f i j = s.rd f i j := s.rd_reply _ _ _ _ _ hf hi hj

theorem State.rd_replyErr (ctrl cid : Nat) (st : Nat × Nat) (hf : f.outside [19, 21] = true) (hi : i < f.count1) (hj : j < f.count2) :
    (s.replyErr ctrl cid st).rd f i j = s.rd f i j := s.rd_reply _ _ _ _ _ hf hi hj

end

end Sys2Proof.Machine

/-!
The discipline of the Turn (R52, R53, R55, R149): what a measurement, a change of state and the end of boot do to the discipline's own fields.
-/

namespace Sys2Proof.Machine

set_option Elab.async false

/-! ### The operations of the discipline -/

/-- A new state of the discipline is the state, with its event. -/
theorem State.setDisc_ne {s : State} {d : Disc} (hne : s.trn.disc ≠ d) :
    (s.setDisc d).trn = { s.trn with disc := d, goodSyncs := 0 } ∧ Raises s (s.setDisc d) Ev.turnState 0 d.code := by
  rw [State.setDisc, if_neg hne]
  exact ⟨rfl, State.raise_raises _ _ _ _ _ _ _⟩

/-- Changing the discipline's state keeps the measurement under way and the offset. -/
theorem State.setDisc_sync_offset (s : State) (d : Disc) : (s.setDisc d).trn.sync = s.trn.sync ∧ (s.setDisc d).trn.offset = s.trn.offset := by
  by_cases h : s.trn.disc = d
  · simp [State.setDisc, h]
  · simp [(State.setDisc_ne h).1]

@[simp] theorem State.trnStatus_trn (s : State) : s.trnStatus.trn = s.trn := rfl

/-- A measurement takes the offset in whole ns and keeps what was kept of the Sync. -/
theorem State.measured_sync_offset {s : State} (off : Int) (hpend : s.trn.alignPending = false) :
    (s.measured off).trn.sync = s.trn.sync ∧ (s.measured off).trn.offset = off / 20 := by
  unfold State.measured
  simp only [hpend, Bool.false_eq_true, if_false]
  split
  · exact ⟨rfl, rfl⟩
  · split
    · exact ⟨rfl, rfl⟩
    · split
      · exact ⟨rfl, rfl⟩
      · simp [apply_ite State.trn, apply_ite Trn.sync, apply_ite Trn.offset, State.setDisc_sync_offset]

/-- Boot that ends is done, whatever state it ends in. -/
theorem State.bootDone_phase (s : State) : s.bootDone.cfg.phase = .done := by
  simp [State.bootDone, apply_ite State.cfg, apply_ite Cfg.phase, State.enterRecovery_phase, State.setDevState_cfg]

/-- Settles O6: each clause runs the command's meaning under its conditions. That an Announce is taken where there is no parent yet follows the
model's reading of best master (assumption 7). -/
theorem disciplineCommands : Obligations.DisciplineCommands := by
  unfold Obligations.DisciplineCommands
  refine ⟨?_, ?_, ?_, ?_, ?_, ?_, ?_, ?_⟩
  · intro s unit source seq origin rx p hunit hpass hparent hport hdisc
    refine Completes.guard rfl hunit ?_
    simp [hparent, hpass, hport, hdisc, Sent]
  · intro s unit origin m hunit hpass hsync horigin
    refine Completes.guard rfl hunit ?_
    simp [hsync, hpass, horigin]
  · intro s unit received o tx m hunit hpass hsync horigin hpend
    refine Completes.guard rfl hunit ?_
    simp only [hsync, hpass, horigin, beq_self_eq_true, Bool.and_self, if_true]
    exact State.measured_sync_offset _ hpend
  · intro s unit a hunit hpass hparent
    refine Completes.guard rfl hunit ?_
    simp [hpass, hparent]
  · intro s hdue hpend hphase
    refine Completes.intro rfl ?_
    simp [hdue, hpend, hphase, trn_of_kept (State.bootDone_kept (Kept.refl _ _) rfl), State.bootDone_phase]
  · intro s hdisc hdue
    refine Completes.intro rfl ?_
    rw [if_pos (by simp [hdisc, hdue])]
    obtain ⟨htrn, hraised⟩ := State.setDisc_ne (s := { s with trn := { s.trn with syncArmed := none } }) (d := .holdover) (by simp [hdisc])
    exact ⟨by rw [htrn], hraised⟩
  · intro s w hup hstate
    refine Completes.intro rfl ?_
    simp (disch := decide) [State.up, hup, hstate, State.rd_wr_fits]
  · intro s hdue hpend
    refine Completes.intro rfl ?_
    simp (disch := decide) [hdue, hpend, State.rd_wr_fits]

end Sys2Proof.Machine

/-!
Service, release, firmware download, commit and activation (R72, R74, R98 to R103).
-/

namespace Sys2Proof.Machine

set_option Elab.async false

/-- The reading of a slot does not depend on the commit that asks for it. -/
theorem State.commitFault_job (s : State) (c : Option CommitJob) (d : Option Nat) (copy : Nat) (ok : Bool) :
    ({ s with cfg := { s.cfg with commit := c, downloadSlot := d } } : State).commitFault copy ok = s.commitFault copy ok := rfl

theorem State.commitFault_unread (s : State) (copy : Nat) : s.commitFault copy false = some ⟨Fc.spi, 0, 0⟩ := rfl

/-- An image that runs is noted with its copy and its firmware's digest. -/
theorem State.setRunning_cfg (s : State) (c : Nat) (i : Image) :
    (s.setRunning c i).cfg = { s.cfg with running := some i, runningCopy := c, fwDigest := (i.fw.map (·.codeDigest)).getD 0 } := by
  have hdigest (u : State) (d : Nat) : (u.wrDigest d).cfg = u.cfg := cfg_of_kept (State.wrDigest_kept _ (Kept.refl _ _) rfl)
  have hsep (u : State) : u.sepStart.cfg = u.cfg := cfg_of_kept (State.sepStart_kept (Kept.refl _ _) rfl)
  cases h : i.serviceEp with
  | none => simp [State.setRunning, h, hdigest, hsep]
  | some e => simp [State.setRunning, h, hdigest, hsep]

/-- Settles O8: each clause runs the command's meaning under its conditions; a commit that is read back splits on whether `State.commitFault`
finds a fault. -/
theorem updateCommands : Obligations.UpdateCommands := by
  unfold Obligations.UpdateCommands
  refine ⟨?_, ?_, ?_, ?_, ?_, ?_, ?_, ?_, ?_, ?_, ?_, ?_, ?_⟩
  · intro s ctrl cid i l hserves hstate hrun hlay
    obtain ⟨ns, gs, hcfg⟩ := State.enterRecovery_cfg hrun hlay
    refine Completes.served rfl hserves ?_
    simp [hstate, hcfg]
  · intro s ctrl cid hserves hstate hrel
    refine Completes.served rfl hserves ?_
    simp [hstate, hrel, cfg_of_kept (Kept.foldl (Kept.refl _ _) fun _ _ h => State.checkStripe_kept _ _ (State.padStripe_kept _ _ h rfl) rfl)]
  · intro s ctrl cid hserves hstate
    refine Completes.served rfl hserves ?_
    simp [hstate]
  · intro s ctrl cid hrel hstate hdrained
    refine Completes.intro rfl ?_
    simp [hrel, hstate, hdrained, State.setDevState_cfg]
  · intro s ctrl cid slot c offset length image hserves hslot hother hfits hc
    refine Completes.served rfl hserves ?_
    have hsame : (s.cfg.running.isSome && decide (s.cfg.runningCopy = c)) = false := by simpa using hother
    rw [hslot]
    simp only [hsame, Bool.false_eq_true, if_false, if_neg (Nat.not_lt.mpr hfits)]
    by_cases hdown : s.cfg.downloadSlot = some c
    · simp [Answers, Sends, State.copyOf, State.modCopy, hc, hdown]
    · simp [Answers, Sends, State.copyOf, State.modCopy, hc, hdown]
  · intro s ctrl cid slot c hserves hslot hcommit
    refine Completes.served rfl hserves ?_
    simp [State.startCommit, hslot, hcommit]
  · intro s ctrl cid slot c action hserves hslot hcommit haction
    refine Completes.served rfl hserves ?_
    simp [State.startCommit, hslot, hcommit, haction]
  · intro s ctrl cid slot c hserves hslot hcommit
    refine Completes.served rfl hserves ?_
    simp [State.startCommit, hslot, hcommit]
  · intro s j hcommit haction
    refine Completes.intro rfl ?_
    cases hfault : s.commitFault j.copy true with
    | none =>
      simp only [hcommit, State.commitFault_job, hfault]
      simp [haction, State.endTask, Answers]
    | some r =>
      simp only [hcommit, State.commitFault_job, hfault]
      simp (disch := decide) [State.endTask, State.eraseHeader, State.modCopy, State.setFault, State.rd_replyErr, State.rd_wr_same, State.rd_wr_ne, Answers, Reg.CFG_FAULT_CODE, Reg.CFG_FAULT_COPY, List.drop_left]
  · intro s j hcommit
    refine Completes.intro rfl ?_
    simp only [hcommit, State.commitFault_unread]
    simp (disch := decide) [State.endTask, State.eraseHeader, State.modCopy, State.setFault, State.rd_replyErr, State.rd_wr_same, State.rd_wr_ne, Answers, Reg.CFG_FAULT_CODE, Reg.CFG_FAULT_COPY, Fc.spi, List.drop_left]
  · intro s a hact hstep htasks
    refine Completes.intro rfl ?_
    have hfree : (s.cfg.coreTasks.any fun p => p.2.any fun y => y != (a.job.ctrl, a.job.cid)) = false := by
      simpa [List.any_eq_false, bne] using htasks
    simp [hact, hstep, hfree]
  · intro s a i hact hstep himage
    refine Completes.intro rfl ?_
    have hcfg : ((s.setRunning a.job.copy i).applyHitless i).cfg = { s.cfg with running := some i, runningCopy := a.job.copy, fwDigest := (i.fw.map (·.codeDigest)).getD 0 } :=
      (cfg_of_kept (State.applyHitless_kept _ (Kept.refl _ _) rfl)).trans (State.setRunning_cfg s a.job.copy i)
    simp [hact, hstep, himage, hcfg]
  · intro s a hact hdue hstep
    refine Completes.intro rfl ?_
    simp (disch := decide) [hact, hdue, hstep, State.endTask, State.eraseHeader, State.modCopy, State.setFault, State.setDevState_cfg, State.rd_replyErr, State.rd_raise, State.rd_wr_same, State.rd_wr_ne, Reg.CFG_FAULT_CODE, Fc.activation]

end Sys2Proof.Machine

/-!
Core watchdogs, the staging hold and the double-banked tables (R28, R42, R62, R63, R65, R67).
-/

namespace Sys2Proof.Machine

set_option Elab.async false

/-- A bit of PREFIX_BANK_CTL that is set or cleared reads so. -/
theorem State.bankBit_setBankBit_same (s : State) {b : BankId} (bit : Nat) (v : Bool) (hunit : bankUnit b < 8) :
    (s.setBankBit b bit v).bankBit b bit = v := by
  rw [State.bankBit, s.rd_setBankBit_same bit v hunit]
  cases v <;> rfl

/-- A write that comes too late is noted in the table's own register. -/
theorem State.lateWrite_bankBit (s : State) {b : BankId} (hunit : bankUnit b < 8) : (s.lateWrite b).bankBit b BankBit.lateWrite = true := by
  have houtside : ({ bankCtl b with lo := BankBit.lateWrite } : Fld).outside [20] = true := by
    cases b with
    | gates p => exact (by decide : ({ Reg.SCH_GCL_BANK_CTL_COMMIT with lo := BankBit.lateWrite } : Fld).outside [20] = true)
    | windows | handles | params | masks => decide
  rw [State.lateWrite, State.bankLate, State.bankBit, State.rd_raise _ _ _ _ _ _ _ houtside (bankUnit_lt_count1 hunit) (by simp)]
  exact s.bankBit_setBankBit_same BankBit.lateWrite true hunit

/-- Settles O9: each clause runs the command's meaning under its conditions; the bits of PREFIX_BANK_CTL by `State.bankBit_setBankBit_same`. -/
theorem coreStagingAndBankCommands : Obligations.CoreStagingAndBankCommands := by
  unfold Obligations.CoreStagingAndBankCommands
  refine ⟨?_, ?_, ?_, ?_, ?_, ?_, ?_, ?_, ?_, ?_⟩
  · intro s core hcore hphase hfirst htasks
    refine Completes.guard rfl (decide_eq_true (by omega)) ?_
    have hcopies (u : State) : (u.resetCopies .core).cfg = u.cfg ∧ (u.resetCopies .core).evt = u.evt :=
      ⟨cfg_of_kept (State.resetCopies_kept _ (Kept.refl _ _) rfl), evt_of_kept (State.resetCopies_kept _ (Kept.refl _ _) rfl)⟩
    have hother : core ≠ 15 := by omega
    simp [hphase, hfirst, htasks, tgetD, hother, hcopies, apply_ite State.cfg, apply_ite State.evt, Raises, State.clock]
  · intro s window block k n b hblocks hwindow hplace hdue howner hfilled
    refine Completes.intro rfl ?_
    have hstaged : b.slot? = some n := by simp [Blk.slot?, hplace]
    simp only [hblocks]
    rw [List.filter_cons_of_pos (by simp [hwindow, hstaged, hdue, howner, hfilled]), List.filter_nil, List.foldl_cons, List.foldl_nil]
    simp (disch := decide) [hplace, hblocks, State.countSpill, State.modList, State.modBlk, State.rd_count, State.bumpWrap, State.rd_wr_same, tmod, tset, tget]
  · intro s index words hup hindex hbit
    refine Completes.guard rfl rfl ?_
    simp [State.acts, State.up, State.coreOnly, State.shadowPut, hup, hbit, hindex]
  · intro s index words hup hindex hbit
    refine Completes.guard rfl rfl ?_
    simp [State.acts, State.up, State.coreOnly, State.shadowPut, hup, hbit, hindex]
  · intro s w p index words g hp hup hallowed hindex hg hbit
    refine Completes.guard rfl (decide_eq_true hp) ?_
    simp [State.acts, State.up, State.coreOnly, State.shadowPut, hup, hbit, hindex, hg, bankCoreOnly, not_and_or.mpr hallowed]
  · intro s index words hup hindex hok hbit
    refine Completes.guard rfl rfl ?_
    simp [State.acts, State.up, State.coreOnly, State.shadowPut, hup, hbit, hindex, hok]
  · intro s index words hup hindex hbit
    refine Completes.guard rfl rfl ?_
    simp [State.acts, State.up, State.coreOnly, State.shadowPut, hup, hbit, hindex]
  · intro s b index words hunit hup hbit
    refine Completes.guard rfl (decide_eq_true hunit) ?_
    simp only [State.acts, State.up, State.coreOnly, hup, hbit, Bool.and_eq_true, beq_iff_eq, reduceCtorEq, Bool.false_eq_true, false_and, and_false, if_false, if_true]
    exact ⟨rfl, rfl, rfl, rfl, s.lateWrite_bankBit hunit, State.raise_raises _ _ _ _ _ _ _⟩
  · intro s b hunit hup hbit htimed
    refine Completes.guard rfl (decide_eq_true hunit) ?_
    have hnow : (bankTimed b && s.bankBit b BankBit.timed) = false := by
      rcases htimed with h | h
      · simp [h]
      · simp [h]
    simp only [State.up, State.coreOnly, hup, State.bankCommit, hbit, hnow]
    exact ⟨s.bankBit_setBankBit_same _ _ hunit, rfl⟩
  · intro s b hunit hup hbit
    refine Completes.guard rfl (decide_eq_true hunit) ?_
    simp only [State.up, State.coreOnly, hup]
    exact ⟨s.bankBit_setBankBit_same _ _ hunit, rfl, rfl, rfl, rfl, rfl⟩

end Sys2Proof.Machine

/-!
Enrolment, revocation, fuse programming, the SVN floor and quotes (R112 to R114, R120 to R124).
-/

namespace Sys2Proof.Machine

set_option Elab.async false

/-! ### The secret's registers -/

/-- The secret's registers cleared, as enrolment and revocation clear them before anything else (R113). -/
def State.noSecret (s : State) : State := foldIdx 8 (fun w s => s.wr Reg.IDN_ENROL_SECRET 0 w 0) s

theorem State.noSecret_def (s : State) : foldIdx 8 (fun w s => s.wr Reg.IDN_ENROL_SECRET 0 w 0) s = s.noSecret := rfl

theorem State.noSecret_kept (s : State) : Kept [.reg 2] s s.noSecret :=
  Kept.foldIdx (Kept.refl _ s) fun _ _ h => State.wr_kept _ _ _ _ h rfl rfl

@[simp] theorem State.noSecret_idn (s : State) : s.noSecret.idn = s.idn := s.noSecret_kept.idn

theorem State.noSecret_eq (s : State) : s.noSecret = { s with regs := s.noSecret.regs } := s.noSecret_kept.frame

theorem State.noSecret_owner (s : State) (i : Nat) : s.noSecret.owner i = s.owner i := by rw [State.owner, s.noSecret_idn, State.owner]

theorem State.noSecret_revokeMessage (s : State) (i : Nat) : s.noSecret.revokeMessage i = s.revokeMessage i := by
  rw [State.revokeMessage, State.deviceId, s.noSecret_idn, ← State.deviceId, State.revokeMessage]

theorem State.rd_noSecret_secret (s : State) {w : Nat} (hw : w < 8) : s.noSecret.rd Reg.IDN_ENROL_SECRET 0 w = 0 := by
  have hkeys (v : Nat) (h : v ≠ w) : Reg.IDN_ENROL_SECRET.key 0 w ≠ Reg.IDN_ENROL_SECRET.key 0 v := by
    simp only [Fld.key, Reg.IDN_ENROL_SECRET]
    omega
  have hclear (n : Nat) (hn : w < n) (u : State) :
      (foldIdx n (fun w s => s.wr Reg.IDN_ENROL_SECRET 0 w 0) u).rd Reg.IDN_ENROL_SECRET 0 w = 0 := by
    induction n with
    | zero => omega
    | succ n ih =>
      rw [foldIdx, List.range_succ, List.foldl_append, List.foldl_cons, List.foldl_nil, ← foldIdx]
      by_cases h : n = w
      · subst h
        exact State.rd_wr_fits _ _ _ _ _ (by decide) (by decide) hw
      · rw [State.rd_wr_ne _ _ _ _ _ _ _ _ (hkeys n h)]
        exact ih (by omega)
  exact hclear 8 hw s

/-- The number that cleared words spell. -/
theorem State.words_eq_zero {s : State} {f : Fld} {i n : Nat} (h : ∀ w < n, s.rd f i w = 0) : s.words f i n = 0 := by
  have hlist : ∀ l : List Nat, (∀ w ∈ l, w < n) → l.foldr (fun w a => s.rd f i w + 2 ^ 32 * a) 0 = 0 := by
    intro l hl
    induction l with
    | nil => rfl
    | cons w l ih => rw [List.foldr_cons, ih fun v hv => hl v (List.mem_cons_of_mem w hv), h w (hl w (by simp)), Nat.mul_zero]
  exact hlist _ fun w hw => List.mem_range.mp hw

/-- Settles O10: each clause runs the command's meaning under its conditions; enrolment and revocation clear the secret's registers
(`State.noSecret`) before they look at the slot. -/
theorem identityCommands : Obligations.IdentityCommands := by
  unfold Obligations.IdentityCommands
  refine ⟨?_, ?_, ?_, ?_, ?_, ?_, ?_, ?_⟩
  · intro s w hup hstate hjob hvpp howner hsecret
    refine Completes.intro rfl ?_
    simp only [State.enrolGate, State.up, hup, hstate, hjob, State.noSecret_def, State.noSecret_owner, howner, hsecret, State.noSecret_idn, hvpp,
      bne_self_eq_false, Bool.false_eq_true, Option.isSome_none, if_false, if_true]
    refine ⟨?_, State.words_eq_zero fun w hw => ?_, rfl⟩
    · exact (State.rd_wr_ne _ _ Reg.IDN_STATUS_PROG_BUSY _ _ _ _ _ (by decide)).trans
        (State.rd_wr_fits _ Reg.IDN_STATUS_PROG_BUSY _ _ _ (by decide) (by decide) (by decide))
    · have hkeys (g : Fld) (hg : g.key 0 0 < Reg.IDN_ENROL_SECRET.key 0 0) : Reg.IDN_ENROL_SECRET.key 0 w ≠ g.key 0 0 := by
        simp only [Fld.key, Reg.IDN_ENROL_SECRET] at hg ⊢
        omega
      exact ((State.rd_wr_ne _ _ _ _ _ _ _ _ (hkeys _ (by decide))).trans (State.rd_wr_ne _ _ _ _ _ _ _ _ (hkeys _ (by decide)))).trans
        (s.rd_noSecret_secret hw)
  · intro s w hup hstate hjob husable hdigest
    cases hverify : Config.edVerify (s.words Reg.IDN_ENROL_KEY 0 16 % 2 ^ 456) (s.revokeMessage (s.rd Reg.IDN_ENROL_CTL_SLOT)) (s.words Reg.IDN_ENROL_SIG 0 32 % 2 ^ 912) with
    | true =>
      refine Completes.intro rfl ?_
      simp only [State.enrolGate, State.up, hup, hstate, hjob, State.noSecret_def, State.noSecret_owner, State.noSecret_revokeMessage, husable, hdigest, hverify,
        bne_self_eq_false, Bool.false_eq_true, Option.isSome_none, if_false, if_true, beq_self_eq_true, Bool.and_self]
      exact ⟨by simp (disch := decide) [State.startFuse, State.rd_wr_ne, State.rd_wr_same], rfl⟩
    | false =>
      refine Completes.intro rfl ?_
      simp only [State.enrolGate, State.up, hup, hstate, hjob, State.noSecret_def, State.noSecret_owner, State.noSecret_revokeMessage, husable, hdigest, hverify,
        bne_self_eq_false, Bool.false_eq_true, Option.isSome_none, if_false, beq_self_eq_true, Bool.and_false]
      exact ⟨by simp (disch := decide) [State.enrolResult, State.rd_wr_ne, State.rd_wr_fits], s.noSecret_idn⟩
  · intro s slot digest secret hjob hvpp
    refine Completes.intro rfl ?_
    simp (disch := decide) [hjob, hvpp, State.endFuse, State.enrolResult, State.modOwner, State.rd_wr_same, State.rd_wr_ne, -State.wr_regs]
  · intro s target ctrl cid hjob hvpp
    refine Completes.intro rfl ?_
    simp [hjob, hvpp, State.endFuse, State.endTask, Sends, State.reply_outbox]
  · intro s ctrl cid i hserves hrun hlow
    refine Completes.served rfl hserves ?_
    simp [hrun, hserves.2, hlow, Sends, State.reply_outbox]
  · intro s ctrl cid a b i f hserves hrun hfw hlow hcopy0 hcopy1 ha hb hjob
    refine Completes.served rfl hserves ?_
    simp [hrun, hserves.2, hfw, hcopy0, hcopy1, hjob, Nat.not_le.mpr hlow, Nat.not_lt.mpr ha, Nat.not_lt.mpr hb, State.startFuse]
    exact State.rd_wr_fits _ Reg.IDN_STATUS_PROG_BUSY 0 0 1 (by decide) (by decide) (by decide)
  · intro s ctrl cid nonce hserves hnonce hroom hready
    refine Completes.served rfl hserves ?_
    simp [hnonce, hready, Nat.not_le.mpr hroom]
  · intro s q rest body hquotes hsampled hready
    refine Completes.intro rfl ?_
    simp [hquotes, hsampled, hready, Answers, Sends]

end Sys2Proof.Machine

/-!
Bring-up, loss and faults of links, received frames and address resolution (R134 to R136, R139 to R141, R144, R147, R152, R154).
-/

namespace Sys2Proof.Machine

set_option Elab.async false

/-! ### Units and their links -/

theorem unitOn_lt {s : State} {u : Nat} (h : s.unitOn u = true) : u < 18 := by
  simp only [State.unitOn, Bool.or_eq_true, Bool.and_eq_true, decide_eq_true_eq, beq_iff_eq] at h
  omega

/-- A link that is not disabled is one of the part's. -/
theorem link_lt {s : State} {u : Nat} (h : (s.link u).st ≠ .disabled) : u < s.eth.length := by
  by_contra hlen
  refine h ?_
  rw [State.link, List.getD_eq_default _ _ (Nat.not_lt.mp hlen)]
  rfl

theorem State.link_congr {s t : State} (h : t.eth = s.eth) (u : Nat) : t.link u = s.link u := by rw [State.link, h, State.link]

@[simp] theorem State.link_emit (s : State) (k : OutKind) (args : List Nat) (u : Nat) : (s.emit k args).link u = s.link u := rfl

@[simp] theorem State.link_raise (s : State) (src sev inst code v v2 u : Nat) : (s.raise src sev inst code v v2).link u = s.link u := rfl

@[simp] theorem State.link_wr (s : State) (f : Fld) (i j v u : Nat) : (s.wr f i j v).link u = s.link u := rfl

@[simp] theorem State.link_bumpWrap (s : State) (f : Fld) (i j n u : Nat) : (s.bumpWrap f i j n).link u = s.link u := rfl

theorem State.link_modLink {s : State} {u : Nat} (hu : u < s.eth.length) (f : Link → Link) : (s.modLink u f).link u = f (s.link u) :=
  getD_lmod_same s.eth f Link.off hu

theorem State.setLink_eth (s : State) (u : Nat) (st : LinkState) : (s.setLink u st).eth = lmod s.eth u fun l => { l with st := st } := by
  unfold State.setLink
  split
  · rfl
  · rfl

@[simp] theorem State.setLink_length (s : State) (u : Nat) (st : LinkState) : (s.setLink u st).eth.length = s.eth.length := by
  rw [State.setLink_eth, length_lmod]

theorem State.link_setLink {s : State} {u : Nat} (hu : u < s.eth.length) (st : LinkState) : (s.setLink u st).link u = { s.link u with st := st } := by
  rw [State.link, State.setLink_eth, getD_lmod_same _ _ _ hu, State.link]

@[simp] theorem State.setLink_clock (s : State) (u : Nat) (st : LinkState) : (s.setLink u st).clock = s.clock := by
  rw [State.clock, trn_of_kept (State.setLink_kept _ _ (Kept.refl _ _) rfl), State.clock]

@[simp] theorem State.setLink_outbox (s : State) (u : Nat) (st : LinkState) : (s.setLink u st).outbox = s.outbox :=
  outbox_of_kept (State.setLink_kept _ _ (Kept.refl _ _) rfl)

@[simp] theorem State.setLink_evt (s : State) (u : Nat) (st : LinkState) : (s.setLink u st).evt = s.evt :=
  evt_of_kept (State.setLink_kept _ _ (Kept.refl _ _) rfl)

theorem Completes.link {i : Instr} {s t : State} {p : State → Prop} {u : Nat} {st : LinkState} (hexec : exec i s = s.linkCmd u st t)
    (hunit : s.unitOn u = true) (hst : (s.link u).st = st) (hp : p t) : Completes i s p :=
  ⟨t, by simp [hexec, State.linkCmd, guardUnit, hunit, hst], hp⟩

/-- An event whose limit has not been noted yet is raised. -/
theorem State.raiseLim_raises {s : State} {period key src : Nat} (hfirst : tget s.evt.lastTurn (src * 2 ^ 32 + key) = none) (sev inst code v v2 : Nat) :
    Raises s (s.raiseLim period key src sev inst code v v2) src inst code := by
  unfold State.raiseLim
  simp only [hfirst, if_true]
  exact State.raise_raises _ _ _ _ _ _ _

/-! ### Registers of one unit -/

/-- Two registers of one unit lie at different places where those of the first unit do. -/
theorem Fld.key_unit_ne {f g : Fld} (u : Nat) (hs : f.stride1 = g.stride1) (h : f.key 0 0 ≠ g.key 0 0) : f.key u 0 ≠ g.key u 0 := by
  simp only [Fld.key, hs] at h ⊢
  omega

theorem State.rd_wr_unit (s : State) {f g : Fld} (u v : Nat) (hs : g.stride1 = f.stride1) (h : g.key 0 0 ≠ f.key 0 0) :
    (s.wr f u 0 v).rd g u 0 = s.rd g u 0 := s.rd_wr_ne f g u 0 u 0 v (Fld.key_unit_ne u hs h)

/-- Settles O11: a link that a clause finds in a state other than disabled is one of the part's (`link_lt`), so what the command notes of it reads
back; the FEC counts by the registers of one unit. -/
theorem linkCommands : Obligations.LinkCommands := by
  unfold Obligations.LinkCommands
  refine ⟨?_, ?_, ?_, ?_, ?_, ?_, ?_, ?_, ?_, ?_, ?_, ?_⟩
  · intro s unit hunit hst
    have hlen : unit < s.eth.length := link_lt (by simp [hst])
    refine Completes.link rfl hunit hst ?_
    simp [State.link_modLink, State.link_setLink, hlen]
  · intro s unit hunit hst
    have hlen : unit < s.eth.length := link_lt (by simp [hst])
    refine Completes.link rfl hunit hst ?_
    simp [State.link_modLink, State.link_setLink, hlen]
  · intro s unit hunit hst hdue
    have hlen : unit < s.eth.length := link_lt (by simp [hst])
    refine Completes.link rfl hunit hst ?_
    simp [State.link_modLink, State.link_setLink, hlen, hdue]
  · intro s unit hunit hst
    have hlen : unit < s.eth.length := link_lt (by simp [hst])
    refine Completes.guard rfl hunit ?_
    simp [State.link_modLink, State.link_setLink, hlen, hst]
  · intro s unit hunit hst hdue
    have hlen : unit < s.eth.length := link_lt (by simp [hst])
    refine Completes.link rfl hunit hst ?_
    simp [State.link_modLink, State.link_setLink, hlen, hdue]
  · intro s unit hunit hport hst hdue
    have hlen : unit < s.eth.length := link_lt (by simp [hst])
    refine Completes.link rfl hunit hst ?_
    simp only [hdue, if_true, if_pos hport]
    refine ⟨?_, ?_, ?_⟩
    · simp [State.link_modLink, State.link_setLink, hlen]
    · exact (State.raise_raises _ _ _ _ _ _ _).after (by simp)
    · simp [Sent]
  · intro s unit hunit hst
    have hlen : unit < s.eth.length := link_lt (by simp [hst])
    refine Completes.guard rfl hunit ?_
    simp [State.link_modLink, State.link_setLink, hlen, hst]
  · intro s unit hunit hst hloss
    have hlen : unit < s.eth.length := link_lt (by simp [hst])
    refine Completes.guard rfl hunit ?_
    simp [State.link_modLink, hlen, hst, hloss]
  · intro s unit hunit hport hst hdue
    have hlen : unit < s.eth.length := link_lt (by simp [hst])
    refine Completes.link rfl hunit hst ?_
    simp only [hdue, if_true, State.linkDown, if_pos hport]
    refine ⟨?_, ?_⟩
    · simp [State.link_modLink, State.link_setLink, hlen]
    · exact (State.raise_raises _ _ _ _ _ _ _).after (by simp)
  · intro s unit hunit hst hdue hfirst
    have hlen : unit < s.eth.length := link_lt (by simp [hst])
    refine Completes.guard rfl hunit ?_
    simp only [hst, hdue, beq_self_eq_true, Bool.true_or, Bool.and_self, if_true, State.negFailed]
    refine ⟨?_, (State.raiseLim_raises (s := s.modLink unit _) hfirst _ _ _ _ _).after List.prefix_rfl⟩
    rw [State.link_congr (s := s.modLink unit fun l => { l with negArmed := some s.clock }) (by simp), State.link_modLink hlen]
  · intro s unit remote hunit hst
    have hlt : unit < 18 := unitOn_lt hunit
    refine Completes.link rfl hunit hst ?_
    cases remote with
    | true =>
      simp only [if_true]
      refine ⟨State.raise_raises _ _ _ _ _ _ _, ?_⟩
      rw [State.rd_raise _ _ _ _ _ _ _ (by decide) hlt (by decide)]
      exact State.rd_wr_fits _ Reg.ETH_PORT_STATUS_REMOTE_FAULT unit 0 1 (by decide) hlt (by decide)
    | false =>
      simp only [Bool.false_eq_true, if_false]
      refine ⟨State.raise_raises _ _ _ _ _ _ _, ?_⟩
      rw [State.rd_raise _ _ _ _ _ _ _ (by decide) hlt (by decide)]
      exact State.rd_wr_fits _ Reg.ETH_PORT_STATUS_LOCAL_FAULT unit 0 1 (by decide) hlt (by decide)
  · intro s unit corrected uncorrectable hunit hsec
    have hlt : unit < 18 := unitOn_lt hunit
    refine Completes.guard rfl hunit ?_
    have hcorr (v : Nat) : ((s.bumpWrap Reg.ETH_FEC_CORR unit 0 corrected).wr Reg.ETH_FEC_UNCORR unit 0 v).rd Reg.ETH_FEC_CORR unit =
        (s.rd Reg.ETH_FEC_CORR unit + corrected) % 2 ^ Reg.ETH_FEC_CORR.width := by
      rw [State.rd_wr_unit _ unit _ (by decide) (by decide), State.bumpWrap, State.rd_wr_same _ _ unit 0 _ hlt (by decide)]
    have huncorr : ((s.bumpWrap Reg.ETH_FEC_CORR unit 0 corrected).bumpWrap Reg.ETH_FEC_UNCORR unit 0 uncorrectable).rd Reg.ETH_FEC_UNCORR unit =
        (s.rd Reg.ETH_FEC_UNCORR unit + uncorrectable) % 2 ^ Reg.ETH_FEC_UNCORR.width := by
      rw [State.bumpWrap, State.rd_wr_same _ _ unit 0 _ hlt (by decide), State.bumpWrap, State.rd_wr_unit _ unit _ (by decide) (by decide)]
    simp only [hsec]
    by_cases hlimit : 16 < uncorrectable
    · simp only [if_pos hlimit]
      refine ⟨?_, ?_, ?_⟩
      · rw [State.rd_raise _ _ _ _ _ _ _ (by decide) hlt (by decide), State.rd_wr_unit _ unit _ (by decide) (by decide)]
        exact hcorr _
      · rw [State.rd_raise _ _ _ _ _ _ _ (by decide) hlt (by decide), State.rd_wr_unit _ unit _ (by decide) (by decide)]
        exact huncorr
      · rw [State.rd_raise _ _ _ _ _ _ _ (by decide) hlt (by decide), State.rd_wr_fits _ _ unit 0 1 (by decide) hlt (by decide)]
        simp [hlimit, b2n]
    · simp only [if_neg hlimit]
      refine ⟨?_, ?_, ?_⟩
      · rw [State.rd_wr_unit _ unit _ (by decide) (by decide)]
        exact hcorr _
      · rw [State.rd_wr_unit _ unit _ (by decide) (by decide)]
        exact huncorr
      · rw [State.rd_wr_fits _ _ unit 0 0 (by decide) hlt (by decide)]
        simp [hlimit, b2n]

/-! ### Frames -/

/-- What the drop of a frame leaves in the registers of its unit. -/
theorem State.dropFrame_registers (s : State) {u reason : Nat} (hu : u < 18) (hlo : 1 ≤ reason) (hhi : reason ≤ 17) :
    (s.dropFrame u reason).rd Reg.ETH_DROP_LAST_REASON u = reason ∧ (s.dropFrame u reason).rd Reg.ETH_DROP_LAST_TURN u = s.now % 65536 ∧
      (s.dropFrame u reason).rd Reg.ETH_DROP u (reason - 1) = min (2 ^ 32 - 1) (s.rd Reg.ETH_DROP u (reason - 1) + 1) := by
  have hcounts {v : State} {f : Fld} {j : Nat} (hf : f.outside [20, 21] = true) (hi : u < f.count1) (hj : j < f.count2) (n : Nat) :
      ((if u < 16 then v.count (6 * (u / 2) + 4) 1 u else v).raiseLim lim19 u Ev.ingressDrop Sev.notice u reason n 0).rd f u j = v.rd f u j :=
    Kept.rd_outside (State.raiseLim_kept _ _ _ _ _ _ _ _ (Kept.ite (State.count_kept _ _ _ (Kept.refl [.cnt, .evt, .reg 20, .reg 21] v) rfl) (Kept.refl _ v)) rfl)
      [20, 21] hf hi hj
  have hkeys (g : Fld) (hg : g.stride1 = Reg.ETH_DROP.stride1) (hlow : g.key 0 0 < Reg.ETH_DROP.key 0 0) : Reg.ETH_DROP.key u (reason - 1) ≠ g.key u 0 := by
    simp only [Fld.key, hg] at hlow ⊢
    omega
  unfold State.dropFrame
  refine ⟨?_, ?_, ?_⟩
  · rw [hcounts (by decide) hu (by decide), State.rd_wr_unit _ u _ (by decide) (by decide)]
    exact State.rd_wr_fits _ Reg.ETH_DROP_LAST_REASON u 0 _ (by simp [Reg.ETH_DROP_LAST_REASON]; omega) hu (by decide)
  · rw [hcounts (by decide) hu (by decide)]
    exact State.rd_wr_fits _ Reg.ETH_DROP_LAST_TURN u 0 _ (Nat.mod_lt _ (by decide)) hu (by decide)
  · rw [hcounts (by decide) hu (by simp [Reg.ETH_DROP]; omega), State.rd_wr_ne _ _ _ _ _ _ _ _ (hkeys _ (by decide) (by decide)),
      State.rd_wr_ne _ _ _ _ _ _ _ _ (hkeys _ (by decide) (by decide))]
    exact s.rd_bump_same Reg.ETH_DROP u (reason - 1) 1 hu (by simp [Reg.ETH_DROP]; omega)

theorem State.dropFrame_eth (s : State) (u reason : Nat) : (s.dropFrame u reason).eth = s.eth := eth_of_kept (State.dropFrame_kept _ _ (Kept.refl _ _) rfl)

/-- An ordered list of checks answers one of the seventeen reasons where each of its checks does. -/
theorem reason_bounds_ite {c : Prop} [Decidable c] {k : Nat} {o : Option Nat} (hk : 1 ≤ k ∧ k ≤ 17) (ho : ∀ r, o = some r → 1 ≤ r ∧ r ≤ 17) :
    ∀ r, (if c then some k else o) = some r → 1 ≤ r ∧ r ≤ 17 := by
  intro r h
  split at h
  · cases h
    exact hk
  · exact ho r h

theorem frameFault_bounds (s : State) (u : Nat) (f : Sys2Proof.Frame) : ∀ r, s.frameFault u f = some r → 1 ≤ r ∧ r ≤ 17 := by
  unfold State.frameFault
  dsimp only
  iterate 17 refine reason_bounds_ite (by decide) ?_
  simp

theorem peerFault_bounds (s : State) (u : Nat) (f : Sys2Proof.Frame) : ∀ r, s.peerFault u f = some r → 1 ≤ r ∧ r ≤ 17 := by
  unfold State.peerFault
  iterate 8 refine reason_bounds_ite (by decide) ?_
  simp

/-- A frame of a port is counted before it is checked. -/
def State.frameCounted (s : State) (unit length : Nat) : State :=
  ((s.bwAdd (unit / 2) length 0).count (6 * (unit / 2)) length unit).count (6 * (unit / 2) + 2) 1 unit

theorem State.frameCounted_def (s : State) (unit length : Nat) :
    ((s.bwAdd (unit / 2) length 0).count (6 * (unit / 2)) length unit).count (6 * (unit / 2) + 2) 1 unit = s.frameCounted unit length := rfl

/-- The counter of received frames goes up by one. -/
theorem State.frameCounted_vals (s : State) (unit length : Nat) :
    tgetD (s.frameCounted unit length).cnt.vals (6 * (unit / 2) + 2) 0 = (tgetD s.cnt.vals (6 * (unit / 2) + 2) 0 + 1) % 2 ^ 48 := by
  rw [State.frameCounted, State.count_vals_same, State.count_vals_ne _ _ _ (by omega)]
  rfl

theorem State.frameCounted_kept (s : State) (unit length : Nat) : Kept [.cnt, .reg 21] s (s.frameCounted unit length) :=
  State.count_kept _ _ _ (State.count_kept _ _ _ (State.bwAdd_kept _ _ _ (Kept.refl _ s) rfl) rfl) rfl

theorem State.frameCounted_rd (s : State) (unit length : Nat) {f : Fld} {i j : Nat} (hf : f.outside [21] = true) (hi : i < f.count1) (hj : j < f.count2) :
    (s.frameCounted unit length).rd f i j = s.rd f i j := (s.frameCounted_kept unit length).rd_outside [21] hf hi hj

/-- The checks of a frame do not look at what was counted. -/
theorem State.frameCounted_fault (s : State) (unit length : Nat) (f : Sys2Proof.Frame) :
    (s.frameCounted unit length).frameFault unit f = s.frameFault unit f := by
  have hkept := s.frameCounted_kept unit length
  have hmtu : (s.frameCounted unit length).pathMtu = s.pathMtu := by
    rw [State.pathMtu, s.frameCounted_rd unit length (by decide) (by decide) (by decide), State.pathMtu]
  have hptp : (s.frameCounted unit length).ptpUnit = s.ptpUnit := by
    rw [State.ptpUnit, s.frameCounted_rd unit length (by decide) (by decide) (by decide), s.frameCounted_rd unit length (by decide) (by decide) (by decide), State.ptpUnit]
  have hdomain : (s.frameCounted unit length).ptpDomain = s.ptpDomain := by
    rw [State.ptpDomain, State.section?, hkept.cfg, ← State.section?, State.ptpDomain]
  simp only [State.frameFault, hmtu, hptp, hdomain, State.link_congr hkept.eth]

/-! ### Address resolution -/

/-- Another station that claims an own address sets CONFLICT and raises the event. -/
theorem State.conflict_registers (s : State) {u mac : Nat} (hu : u < 18) (hother : mac ≠ (s.ownAddr u).1) :
    (s.conflict u mac true).rd Reg.ETH_PORT_STATUS_CONFLICT u = 1 ∧ Raises s (s.conflict u mac true) Ev.addressConflict u 0 := by
  have hclaims : (true && mac != (s.ownAddr u).1) = true := by simpa using hother
  rw [State.conflict, if_pos hclaims]
  refine ⟨?_, State.raise_raises _ _ _ _ _ _ _⟩
  rw [State.rd_raise _ _ _ _ _ _ _ (by decide) hu (by decide)]
  exact State.rd_wr_fits _ Reg.ETH_PORT_STATUS_CONFLICT u 0 1 (by decide) hu (by decide)

/-- Settles O12: a frame is counted and then dropped for the reason that `frameFault` or `peerFault` gives; addresses by `conflict_registers`. -/
theorem frameCommands : Obligations.FrameCommands := by
  unfold Obligations.FrameCommands
  refine ⟨?_, ?_, ?_, ?_, ?_, ?_, ?_, ?_⟩
  · intro s unit reason f hunit hport hst hfault hfirst
    refine Completes.guard rfl hunit ?_
    obtain ⟨hlo, hhi⟩ := frameFault_bounds s unit f reason hfault
    simp only [hst, if_pos hport, State.frameCounted_def, s.frameCounted_fault, hfault]
    obtain ⟨hreason, hturn, hdrops⟩ := (s.frameCounted unit f.length).dropFrame_registers (unitOn_lt hunit) hlo hhi
    refine ⟨hreason, ?_, ?_, ?_⟩
    · exact hturn.trans (by rw [State.now, (s.frameCounted_kept unit f.length).trn, State.now])
    · refine hdrops.trans ?_
      rw [s.frameCounted_rd unit _ (by decide) (unitOn_lt hunit) (by simp [Reg.ETH_DROP]; omega), hfirst]
      rfl
    · exact (State.dropFrame_eth _ _ _).trans (s.frameCounted_kept unit f.length).eth
  · intro s unit f hunit hport hst hfault
    refine Completes.guard rfl hunit ?_
    simp only [hst, if_pos hport, State.frameCounted_def, s.frameCounted_fault, hfault]
    exact ⟨(s.frameCounted_kept unit f.length).evt, (s.frameCounted_kept unit f.length).eth, s.frameCounted_vals unit f.length⟩
  · intro s unit reason f hunit hlane hst hfault
    refine Completes.guard rfl hunit ?_
    obtain ⟨hlo, hhi⟩ := peerFault_bounds s unit f reason hfault
    simp only [hst, if_neg (Nat.not_lt.mpr hlane), hfault]
    exact ⟨(s.dropFrame_registers (unitOn_lt hunit) hlo hhi).1, s.dropFrame_eth _ _⟩
  · intro s unit mac ip hunit hpass hother hroom
    have hlen : unit < s.eth.length := by
      refine link_lt fun hst => ?_
      simp [State.linkPasses, hst] at hpass
    refine Completes.guard rfl hunit ?_
    simp [hpass, State.conflict, hother, State.answer, Nat.not_le.mpr hroom, Sent, State.link_modLink hlen]
  · intro s unit mac hunit hpass hother
    refine Completes.guard rfl hunit ?_
    simp only [hpass, if_true, beq_self_eq_true]
    exact s.conflict_registers (unitOn_lt hunit) hother
  · intro s unit mac ip hunit hpass hroom
    refine Completes.guard rfl hunit ?_
    simp [hpass, State.answer, Nat.not_le.mpr hroom, Sent]
  · intro s unit mac hunit hpass hother
    refine Completes.guard rfl hunit ?_
    simp only [hpass, if_true, beq_self_eq_true]
    exact s.conflict_registers (unitOn_lt hunit) hother
  · intro s unit hunit hup
    refine Completes.guard rfl hunit ?_
    simp [State.up, hup]

end Sys2Proof.Machine


/-!
Queue pairs: what the transport's shared operations do to the one they name (R159, R172, R177, R183 to R194). The chapters on packets,
work requests, connections and windows use these rules.
-/

namespace Sys2Proof.Machine

-- The check compiles the text as one file: elaborating these proofs one after another bounds its memory.
set_option Elab.async false

/-! ### A queue pair after a change of state -/

theorem State.qp?_congr {s t : State} (h : t.xpt.qps = s.xpt.qps) (i : Nat) : t.qp? i = s.qp? i := by
  rw [State.qp?, State.qp?, h]

@[simp] theorem State.qp?_setQp (s : State) (i : Nat) (q : Qp) : (s.setQp i q).qp? i = some q := tget_tset_same _ _ _

@[simp] theorem State.qp?_modQp (s : State) (i : Nat) (f : Qp → Qp) : (s.modQp i f).qp? i = (s.qp? i).map f := by
  cases h : s.qp? i with
  | none =>
    have h' : tget s.xpt.qps i = none := h
    simp [State.modQp, State.qp?, tmod, h']
  | some q =>
    have h' : tget s.xpt.qps i = some q := h
    simp [State.modQp, State.qp?, tmod, h', tget_tset_same]

@[simp] theorem State.qp?_emit (s : State) (k : OutKind) (args : List Nat) (i : Nat) : (s.emit k args).qp? i = s.qp? i := rfl

@[simp] theorem State.qp?_wqeDone (s : State) (j : Nat) (w : Wqe) (st i : Nat) : (s.wqeDone j w st).qp? i = s.qp? i := rfl

@[simp] theorem State.qp?_wr (s : State) (f : Fld) (a b v i : Nat) : (s.wr f a b v).qp? i = s.qp? i := by
  simp [State.qp?]

@[simp] theorem State.qp?_count (s : State) (c n inst i : Nat) : (s.count c n inst).qp? i = s.qp? i := by
  simp [State.qp?]

@[simp] theorem State.qp?_raise (s : State) (src sev inst code v v2 i : Nat) : (s.raise src sev inst code v v2).qp? i = s.qp? i :=
  State.qp?_congr (congrArg Xpt.qps (xpt_of_kept (State.raise_kept _ _ _ _ _ _ (Kept.refl _ s) rfl))) i

@[simp] theorem State.qp?_xptStatus (s : State) (i : Nat) : s.xptStatus.qp? i = s.qp? i :=
  State.qp?_congr (congrArg Xpt.qps (xpt_of_kept (State.xptStatus_kept (Kept.refl _ s) rfl))) i

@[simp] theorem State.xptStatus_outbox (s : State) : s.xptStatus.outbox = s.outbox :=
  outbox_of_kept (State.xptStatus_kept (Kept.refl _ s) rfl)

@[simp] theorem State.qp?_geckoTouch (s : State) (j i : Nat) : (s.geckoTouch j).qp? i = s.qp? i := rfl

@[simp] theorem State.qp?_foldl_wqeDone (i : Nat) (st : Nat) (l : List SqEntry) (s : State) (j : Nat) :
    (l.foldl (fun s e => s.wqeDone i e.wqe st) s).qp? j = s.qp? j := by
  induction l generalizing s with
  | nil => rfl
  | cons e l ih => rw [List.foldl_cons, ih, State.qp?_wqeDone]

theorem outbox_foldl_wqeDone (i : Nat) (st : Nat) (l : List SqEntry) (s : State) :
    s.outbox <+: (l.foldl (fun s e => s.wqeDone i e.wqe st) s).outbox := by
  induction l generalizing s with
  | nil => exact List.prefix_rfl
  | cons e l ih => exact (List.prefix_append _ _).trans (ih (s.wqeDone i e.wqe st))

/-! ### Starting work requests -/

/-- `q'` is `q` but for the fields that starting work requests may change. -/
def Qp.Pumped (q q' : Qp) : Prop :=
  q' = { q with
    sq := q'.sq, sqPsn := q'.sqPsn, inflight := q'.inflight, ackArmed := q'.ackArmed, sentPkts := q'.sentPkts, reads := q'.reads, compCount := q'.compCount }

theorem Qp.Pumped.mk (q : Qp) (sq : List SqEntry) (sqPsn inflight : Nat) (ackArmed : Option Nat) (sentPkts : Nat) (reads : List (Nat × Nat)) (compCount : Nat) :
    q.Pumped { q with sq := sq, sqPsn := sqPsn, inflight := inflight, ackArmed := ackArmed, sentPkts := sentPkts, reads := reads, compCount := compCount } := rfl

theorem Qp.Pumped.refl (q : Qp) : q.Pumped q := rfl

theorem Qp.Pumped.trans {q q' q'' : Qp} (h : q.Pumped q') (k : q'.Pumped q'') : q.Pumped q'' := by
  unfold Qp.Pumped at *
  rw [k, h]

/-- What starting work requests keeps of their queue pair. -/
theorem Qp.Pumped.keeps {q q' : Qp} (h : q.Pumped q') : q'.st = q.st ∧ q'.unaPsn = q.unaPsn ∧ q'.rnrWait = q.rnrWait ∧
    q'.retriesLeft = q.retriesLeft ∧ q'.remoteQpn = q.remoteQpn ∧ q'.epsn = q.epsn := by
  rw [h]
  exact ⟨rfl, rfl, rfl, rfl, rfl, rfl⟩

/-- From `s` to `t` the queue pair is one with requests started, and the part has only sent more. -/
def State.Pumps (s t : State) (i : Nat) : Prop :=
  s.outbox <+: t.outbox ∧ ∀ q, s.qp? i = some q → ∃ q', t.qp? i = some q' ∧ q.Pumped q'

theorem State.Pumps.refl (s : State) (i : Nat) : s.Pumps s i := ⟨List.prefix_rfl, fun q hq => ⟨q, hq, Qp.Pumped.refl q⟩⟩

/-- A request is handled, something is sent for it, and then the others are. -/
theorem State.Pumps.send {s u : State} {i : Nat} {q q' : Qp} {k : OutKind} {args : List Nat} (hq : s.qp? i = some q) (hstep : q.Pumped q')
    (h : ((s.setQp i q').emit k args).Pumps u i) : s.Pumps u i := by
  refine ⟨(List.prefix_append _ _).trans h.1, fun q0 hq0 => ?_⟩
  obtain rfl : q = q0 := Option.some.inj (hq.symm.trans hq0)
  obtain ⟨q'', hq'', hpumped⟩ := h.2 q' (State.qp?_setQp s i q')
  exact ⟨q'', hq'', hstep.trans hpumped⟩

theorem State.Pumps.set {s : State} {i : Nat} {q q' : Qp} (hq : s.qp? i = some q) (hstep : q.Pumped q') : s.Pumps (s.setQp i q') i := by
  refine ⟨List.prefix_rfl, fun q0 hq0 => ⟨q', State.qp?_setQp s i q', ?_⟩⟩
  obtain rfl : q = q0 := Option.some.inj (hq.symm.trans hq0)
  exact hstep

/-- A count on the way changes neither. -/
theorem State.Pumps.after_count {s u : State} {i c n inst : Nat} {b : Bool} (h : (if b then s.count c n inst else s).Pumps u i) : s.Pumps u i := by
  cases b with
  | false => exact h
  | true => simpa [State.Pumps, State.count_records] using h

theorem State.runSq_pumps (fuel i : Nat) (turn : Bool) (s : State) : s.Pumps (State.runSq fuel i turn s) i := by
  induction fuel generalizing s with
  | zero => exact State.Pumps.refl s i
  | succ fuel ih =>
    unfold State.runSq
    split
    · exact State.Pumps.refl s i
    · next q hq =>
      split
      · exact State.Pumps.refl s i
      · next e he =>
        dsimp only
        split
        · exact State.Pumps.refl s i
        · split
          · split
            · exact State.Pumps.set hq (Qp.Pumped.mk q _ _ _ _ _ _ _)
            · exact State.Pumps.refl s i
          · split
            · exact State.Pumps.send hq (Qp.Pumped.mk q _ _ _ _ _ _ _) (ih _)
            · split
              · split
                · split
                  · exact State.Pumps.send hq (Qp.Pumped.mk q _ _ _ _ _ _ _) (ih _)
                  · exact State.Pumps.refl s i
                · exact State.Pumps.refl s i
              · generalize (if e.wqe.opcode ≤ 4 then e.wqe.length else 0) = need
                split
                · exact State.Pumps.refl s i
                · refine State.Pumps.send hq (Qp.Pumped.mk q _ _ _ _ _ _ _) (State.Pumps.after_count (b := bitOf e.wqe.flags 0) (ih _))

theorem State.pumpSq_pumps (s : State) (i : Nat) (turn : Bool) : s.Pumps (s.pumpSq i turn) i := by
  unfold State.pumpSq
  split
  · exact State.runSq_pumps _ _ _ _
  · exact State.Pumps.refl s i

/-- A queue with nothing to start is left alone. -/
theorem State.pumpSq_idle {s : State} {i : Nat} {q : Qp} (hq : s.qp? i = some q) (hidle : q.sq.find? (fun e => !e.started) = none) (turn : Bool) :
    s.pumpSq i turn = s := by
  simp [State.pumpSq, hq, State.runSq, hidle]

/-- A queue pair outside RTS starts nothing. -/
theorem State.pumpSq_notRts {s : State} {i : Nat} {q : Qp} (hq : s.qp? i = some q) (hst : q.st ≠ .rts) (turn : Bool) : s.pumpSq i turn = s := by
  simp only [State.pumpSq, hq, State.runSq]
  split
  · rfl
  · simp [hst]

/-! ### Acknowledgements -/

/-- An acknowledgement of nothing in flight changes nothing. -/
theorem State.ackUpTo_outside {s : State} {i psn : Nat} {q : Qp} (hq : s.qp? i = some q)
    (hout : psnDiff q.sqPsn q.unaPsn ≤ psnDiff psn q.unaPsn) : s.ackUpTo i psn = s := by
  simp [State.ackUpTo, hq, hout]

/-- An acknowledgement in flight moves the oldest unacknowledged PSN on and gives the retries back; the part only sends more. -/
theorem State.ackUpTo_inFlight {s : State} {i psn : Nat} {q : Qp} (hq : s.qp? i = some q) (hin : q.inFlight psn = true) :
    s.outbox <+: (s.ackUpTo i psn).outbox ∧
      ((s.ackUpTo i psn).qp? i).map (fun x => (x.unaPsn, x.retriesLeft)) = some (psnAdd psn 1, q.retryCnt) := by
  have hspan : ¬ psnDiff q.sqPsn q.unaPsn ≤ psnDiff psn q.unaPsn := by simpa [Qp.inFlight] using hin
  simp only [State.ackUpTo, hq, hspan, if_false, State.xptStatus_outbox, State.qp?_xptStatus]
  generalize hu : List.foldl _ _ _ = u
  obtain ⟨hgrow, hpumps⟩ := State.pumpSq_pumps u i false
  obtain ⟨q', hq', hpumped⟩ := hpumps _ (by rw [← hu, State.qp?_foldl_wqeDone]; exact State.qp?_setQp _ _ _)
  obtain ⟨_, huna, _, hretries, _, _⟩ := hpumped.keeps
  refine ⟨List.IsPrefix.trans ?_ hgrow, ?_⟩
  · rw [← hu]
    exact (outbox_foldl_wqeDone i _ _ (s.setQp i _))
  · simp [hq', huna, hretries]

theorem Qp.ackLimit_of_noRead {q : Qp} (h : q.oldestRead = none) (psn : Nat) : q.ackLimit psn = psn := by
  simp [Qp.ackLimit, h]

theorem psnDiff_self (a : Nat) : psnDiff a a = 0 := by
  unfold psnDiff
  omega

/-- With retries left, a retransmission sends from the PSN on. -/
theorem State.retryFrom_left {s : State} {i psn : Nat} {q : Qp} (hq : s.qp? i = some q) (hleft : q.retriesLeft ≠ 0) :
    (s.retryFrom i psn).outbox = s.outbox ++ [⟨.resend, [i, psn]⟩] ∧
      (s.retryFrom i psn).qp? i = some { q with retriesLeft := q.retriesLeft - 1, ackArmed := some s.clock, retrans := q.retrans + 1 } := by
  constructor
  · simp [State.retryFrom, hq, hleft, State.count_records, State.emit, State.modQp]
  · simp [State.retryFrom, hq, hleft]

end Sys2Proof.Machine


/-!
Received packets of an established queue pair (R155, R173, R177 to R193, R206, R213): a packet that reaches its queue pair runs on a state
that only the hit, the policer and a CNP have changed, and each kind then has its own effect.
-/

namespace Sys2Proof.Machine

-- The check compiles the text as one file: elaborating these proofs one after another bounds its memory.
set_option Elab.async false

/-! ### Reaching the queue pair -/

/-- The state on which a packet of a queue pair in Gecko runs (R172). -/
def State.hit (s : State) (i : Nat) : State := ((s.bumpWrap Reg.XPT_GECKO_HIT 0 0 1).count 48 1 i).geckoTouch i

theorem Arrives.receivePkt_eq {s : State} {p : Pkt} {i : Nat} {q : Qp} (h : Arrives s p i q) (packet later : Instr) :
    s.receivePkt p packet later = .next ((s.hit i).runPacket i s.now packet) := by
  obtain ⟨hunit, hon, hcarries, hearly, hindex, hgecko, -, -⟩ := h
  simp [State.receivePkt, guardUnit, hunit, hon, hcarries, hearly, State.receive, hindex, hgecko, State.hit]

theorem Reaches.receiveQpn_eq {s : State} {qpn i : Nat} {q : Qp} (h : Reaches s qpn i q) (packet : Instr) :
    s.receiveQpn qpn packet = .next ((s.hit i).runPacket i s.now packet) := by
  obtain ⟨hup, hindex, hqp, hcarries, hgecko⟩ := h
  simp [State.receiveQpn, hup, hindex, hqp, hcarries, State.receive, hgecko, State.hit]

/-- From `s` to `x` the policer, a CNP and counts alone have acted on a packet of the queue pair. -/
structure Arrived (s x : State) (i : Nat) (q : Qp) : Prop where
  win : x.win = s.win
  fsp : x.fsp = s.fsp
  trn : x.trn = s.trn
  grows : s.outbox <+: x.outbox
  qp : ∃ sent n, x.qp? i = some { q with cnpSent := sent, cnpsTx := n }

theorem Arrived.congested {s x : State} {i : Nat} {q : Qp} (h : Arrived s x i q) : Arrived s (x.congested i) i q := by
  obtain ⟨hwin, hfsp, htrn, hgrows, sent, n, hqp⟩ := h
  have hkept : Kept [.cnt, .outbox, .xpt, .reg 21] x (x.congested i) := State.congested_kept i (Kept.refl _ x) rfl
  refine ⟨hkept.win.trans hwin, hkept.fsp.trans hfsp, hkept.trn.trans htrn, ?_, ?_⟩
  · refine hgrows.trans ?_
    simp only [State.congested, hqp]
    split
    · exact List.prefix_rfl
    · simp [State.count_records, State.emit, State.modQp]
  · cases sent with
    | true => exact ⟨true, n, by simp [State.congested, hqp]⟩
    | false => exact ⟨true, n + 1, by simp [State.congested, hqp]⟩

theorem State.hit_arrived {s : State} {i : Nat} {q : Qp} (hqp : s.qp? i = some q) : Arrived s (s.hit i) i q := by
  have hkept : Kept [.cnt, .xpt, .reg 4, .reg 21] s (s.hit i) :=
    State.geckoTouch_kept i (State.count_kept _ _ _ (State.bumpWrap_kept _ _ _ _ (Kept.refl _ s) rfl rfl) rfl) rfl
  refine ⟨hkept.win, hkept.fsp, hkept.trn, by rw [hkept.outbox], q.cnpSent, q.cnpsTx, ?_⟩
  simpa [State.hit, State.bumpWrap] using hqp

/-- A policer that meters nothing passes every frame, counted under its colour. -/
theorem State.police_unmetered {s : State} {handle service : Nat} (h : bitsOf (s.paramWord (policerOf handle service) 4) 0 2 = 0) (dscp length : Nat) :
    s.police handle service dscp length = (.pass, s.count 82 1 handle) := by
  simp [State.police, State.meter, h]

theorem State.hit_sch (s : State) (i : Nat) : (s.hit i).sch = s.sch :=
  Kept.sch (ps := [.cnt, .xpt, .reg 4, .reg 21])
    (State.geckoTouch_kept i (State.count_kept _ _ _ (State.bumpWrap_kept _ _ _ _ (Kept.refl _ s) rfl rfl) rfl) rfl)

/-- A metered packet of a queue pair whose policer meters nothing is passed on. -/
theorem Arrives.metered {s : State} {p : Pkt} {i : Nat} {q : Qp} (h : Arrives s p i q) (run : State → State) :
    ∃ x, Arrived s x i q ∧ (s.hit i).metered i p run = run x := by
  obtain ⟨-, -, -, -, -, -, hqp, hmode⟩ := h
  have hhit := State.hit_arrived hqp
  obtain ⟨hwin, hfsp, htrn, hgrows, sent, n, hqp'⟩ := hhit
  have hmode' : bitsOf ((s.hit i).paramWord (policerOf q.handle q.service) 4) 0 2 = 0 := by
    rw [State.paramWord, State.param, State.hit_sch]
    exact hmode
  have hcounted : Arrived s ((s.hit i).count 82 1 q.handle) i q :=
    ⟨by simpa using hwin, by simpa using hfsp, by simpa using htrn, by simpa using hgrows, sent, n, by simpa using hqp'⟩
  simp only [State.metered, hqp', State.police_unmetered hmode']
  cases p.ce with
  | true => exact ⟨_, hcounted.congested, rfl⟩
  | false => exact ⟨_, hcounted, rfl⟩

/-- A packet in PSN order of a queue pair in RTS is taken as new. -/
theorem State.inSequence_fresh {x : State} {i : Nat} {p : Pkt} {q : Qp} (hqp : x.qp? i = some q) (hst : q.st = .rts) (hpsn : p.psn = q.epsn)
    (fresh dup : Qp → State) : x.inSequence i p fresh dup = fresh q := by
  simp [State.inSequence, hqp, hst, hpsn, psnDiff_self]

/-! ### Placing and acknowledging -/

@[simp] theorem State.qp?_accepted (s : State) (i n : Nat) (ends : Bool) : (s.accepted i n ends).qp? i = (s.qp? i).map fun q =>
    { q with epsn := psnAdd q.epsn n, msn := (q.msn + b2n ends) % 2 ^ 24, nakSent := false, rcvdPkts := q.rcvdPkts + 1 } := s.qp?_modQp _ _

@[simp] theorem State.qp?_placedFrame (s : State) (i j : Nat) (p : Pkt) : (s.placedFrame i p).qp? j = s.qp? j :=
  State.qp?_congr (congrArg Xpt.qps (xpt_of_kept (State.placedFrame_kept _ _ (Kept.refl _ s) rfl))) j

@[simp] theorem State.placedFrame_dram (s : State) (i : Nat) (p : Pkt) : (s.placedFrame i p).dram = s.dram :=
  dram_of_kept (State.placedFrame_kept _ _ (Kept.refl _ s) rfl)

@[simp] theorem State.placedFrame_outbox (s : State) (i : Nat) (p : Pkt) : (s.placedFrame i p).outbox = s.outbox :=
  outbox_of_kept (State.placedFrame_kept _ _ (Kept.refl _ s) rfl)

@[simp] theorem State.qp?_place (s : State) (w : Nat) (d : WinDesc) (off : Nat) (l : List Byte) (i : Nat) : (s.place w d off l).qp? i = s.qp? i :=
  State.qp?_congr (congrArg Xpt.qps (xpt_of_kept (State.place_kept _ _ _ _ (Kept.refl _ s) rfl))) i

@[simp] theorem State.qp?_fillPulled (s : State) (seq off : Nat) (l : List Byte) (i : Nat) : (s.fillPulled seq off l).qp? i = s.qp? i :=
  State.qp?_congr (congrArg Xpt.qps (xpt_of_kept (State.fillPulled_kept _ _ _ (Kept.refl _ s) rfl))) i

/-- An acknowledgement, sent or due, changes only what is due. -/
theorem State.qp?_acknowledge (s : State) (i psn : Nat) (ackReq : Bool) :
    ∃ due, (s.acknowledge i psn ackReq).qp? i = (s.qp? i).map fun q => { q with ackDue := due } := by
  cases ackReq with
  | true => exact ⟨none, by simp [State.acknowledge]⟩
  | false => exact ⟨some psn, by simp [State.acknowledge]⟩

/-- Whether a pool gives a buffer depends on that pool alone. -/
theorem State.takeFrom_isSome_congr {s x : State} {n : Nat} (h : x.pool n = s.pool n) (req : Nat) : (x.takeFrom n req).isSome = (s.takeFrom n req).isSome := by
  unfold State.takeFrom
  rw [h]
  dsimp only
  split <;> rfl

theorem isSome_findSome?_congr {α β : Type} {f g : α → Option β} (h : ∀ a, (f a).isSome = (g a).isSome) (l : List α) :
    (l.findSome? f).isSome = (l.findSome? g).isSome := by
  induction l with
  | nil => rfl
  | cons a l ih =>
    have ha := h a
    cases hf : f a <;> cases hg : g a <;> simp_all

/-- Whether a buffer can be had depends on the pools alone. -/
theorem State.alloc_isSome_congr {s x : State} (h : x.fsp = s.fsp) (role cls req : Nat) : (x.alloc role cls req).isSome = (s.alloc role cls req).isSome := by
  have hpool : ∀ n, x.pool n = s.pool n := fun n => by rw [State.pool, State.pool, h]
  have horder : x.poolOrder role cls = s.poolOrder role cls := by simp only [State.poolOrder, hpool]
  unfold State.alloc
  rw [horder]
  exact isSome_findSome?_congr (fun n => by rw [Option.isSome_map, Option.isSome_map, State.takeFrom_isSome_congr (hpool n)]) _

theorem State.windowAt_congr {s x : State} (h : x.win = s.win) (w turn : Nat) : x.windowAt w turn = s.windowAt w turn := by
  rw [State.windowAt, State.windowAt, h]

/-- Bytes that lie within one block of a BUFFER window go to the block's buffer. -/
theorem State.place_dram {s : State} {w va : Nat} {d : WinDesc} {l : List Byte} {e : BlockEnt} (hbuf : d.buffer = true)
    (he : (tgetD s.win.lists w [])[va / 65536]? = some e) (hfit : va % 65536 + l.length ≤ 65536) (hne : l ≠ []) :
    (s.place w d va l).dram = memWriteList s.dram (s.bufAddr e.buf + va % 65536) l := by
  obtain ⟨x, l', rfl⟩ := List.exists_cons_of_ne_nil hne
  have htake : (x :: l').take (65536 - va % 65536) = x :: l' := List.take_of_length_le (by omega)
  have hdrop : (x :: l').drop (65536 - va % 65536) = [] := List.drop_of_length_le (by omega)
  have hlist : (tgetD (s.modList w (va / 65536) fun e => { e with written := true }).win.lists w [])[va / 65536]? = some { e with written := true } := by
    cases hget : tget s.win.lists w with
    | none => simp [tgetD, hget] at he
    | some m =>
      rw [tgetD, hget, Option.getD_some] at he
      simp [State.modList, tmod, hget, tgetD, tget_tset_same, getElem?_lmod_same, he]
  have hblock : (s.placeBlock w d (va / 65536) (va % 65536) (x :: l')).dram = memWriteList s.dram (s.bufAddr e.buf + va % 65536) (x :: l') := by
    simp only [State.placeBlock, hbuf, if_true, hlist]
    rfl
  rw [State.place, State.placeWindow, htake, hdrop, ← hblock]
  · rfl
  · exact hne

/-! ### Requests -/

theorem Completes.send {s : State} {p : Pkt} {i : Nat} {q : Qp} (h : Arrives s p i q) (hst : q.st = .rts) (hpsn : p.psn = q.epsn)
    (hlevel : s.roleLevel 2 ≠ 3) (hroom : (s.alloc 2 0 3).isSome = true) (hack : p.ackReq = true) (pos : PktPos) (imm : Option Nat) :
    Completes (.sendRx p pos imm) s fun t => Sends s t ⟨.ack, [i, p.psn]⟩ ∧
      ((t.qp? i).map fun x => (x.epsn, x.recv.length)) = some (psnAdd q.epsn 1, q.recv.length + 1) := by
  refine ⟨_, h.receivePkt_eq _ _, ?_⟩
  simp only [State.runPacket, State.runSend]
  obtain ⟨x, ⟨hwin, hfsp, htrn, hgrows, sent, n, hqp⟩, hrun⟩ := h.metered _
  rw [hrun, State.inSequence_fresh hqp hst hpsn]
  have hlevel' : x.roleLevel 2 ≠ 3 := by rwa [State.roleLevel, hfsp]
  obtain ⟨⟨pool, b, y⟩, halloc⟩ := Option.isSome_iff_exists.mp ((State.alloc_isSome_congr hfsp 2 0 3).trans hroom)
  have hkept : Kept [.cnt, .fsp, .reg 8, .reg 21] x y := State.alloc_kept_eq halloc (Kept.refl _ x) rfl
  have hqp' : y.qp? i = some { q with cnpSent := sent, cnpsTx := n } := by rw [State.qp?, hkept.xpt]; exact hqp
  simp only [hlevel', if_false, halloc, hack, State.acknowledge, if_true]
  constructor
  · have hout : y.outbox = x.outbox := hkept.outbox
    obtain ⟨l, hl⟩ := hgrows
    simp [Sends, State.emit, State.modQp, State.accepted, hout, ← hl]
  · simp [hqp']

theorem Completes.write {s : State} {p : Pkt} {i rkey va : Nat} {q : Qp} {l : List Byte} {e : BlockEnt} (h : Arrives s p i q) (hst : q.st = .rts)
    (hpsn : p.psn = q.epsn) (hfault : (s.windowAt (keyIndex rkey) s.now).fault q rkey va l.length true = none)
    (hbuf : (s.windowAt (keyIndex rkey) s.now).buffer = true) (he : (tgetD s.win.lists (keyIndex rkey) [])[va / 65536]? = some e)
    (hfit : va % 65536 + l.length ≤ 65536) (hne : l ≠ []) (pos : PktPos) (imm : Option Nat) :
    Completes (.rdmaWriteRx p pos rkey va imm l) s fun t => ((t.qp? i).map fun x => (x.epsn, x.nakSent)) = some (psnAdd q.epsn 1, false) ∧
      (List.range l.length).map (fun k => memRead t.dram (s.bufAddr e.buf + va % 65536 + k)) = l := by
  refine ⟨_, h.receivePkt_eq _ _, ?_⟩
  simp only [State.runPacket, State.runWrite]
  obtain ⟨x, ⟨hwin, hfsp, htrn, hgrows, sent, n, hqp⟩, hrun⟩ := h.metered _
  rw [hrun, State.inSequence_fresh hqp hst hpsn]
  have hfault' : (s.windowAt (keyIndex rkey) s.now).fault { q with cnpSent := sent, cnpsTx := n } rkey va l.length true = none := hfault
  have hdram := State.place_dram (s := x) hbuf (by rwa [hwin]) hfit hne
  simp only [State.windowAt_congr hwin, hfault']
  generalize hy : State.modQp _ i _ = y
  have hqpy : ∃ f c, y.qp? i = some { q with cnpSent := sent, cnpsTx := n, lastFinalPsn := f, compCount := c } := by
    rw [← hy]
    exact ⟨_, _, by rw [State.qp?_modQp, State.qp?_placedFrame, State.qp?_place, hqp]; rfl⟩
  have hdramy : y.dram = memWriteList x.dram (x.bufAddr e.buf + va % 65536) l := by
    rw [← hdram, ← hy]
    exact State.placedFrame_dram _ _ _
  obtain ⟨f, c, hqpy⟩ := hqpy
  constructor
  · obtain ⟨due, hdue⟩ := State.qp?_acknowledge (y.accepted i 1 (endsMsg pos)) i p.psn p.ackReq
    rw [hdue]
    simp [hqpy]
  · rw [dram_of_kept (State.acknowledge_kept _ _ _ (State.accepted_kept _ _ _ (Kept.refl _ y) rfl) rfl), hdramy, State.bufAddr_congr hfsp]
    refine List.ext_getElem (by simp) fun k hk hk' => ?_
    simp only [List.getElem_map, List.getElem_range]
    rw [memRead_memWriteList_in _ _ _ _ hk', List.getD_eq_getElem _ _ hk']

theorem Completes.readRequest {s : State} {p : Pkt} {i rkey va length : Nat} {q : Qp} (h : Arrives s p i q) (hst : q.st = .rts)
    (hpsn : p.psn = q.epsn) (hfault : (s.windowAt (keyIndex rkey) s.now).fault q rkey va length false = none) :
    Completes (.rdmaReadRequestRx p rkey va length) s fun t => Sends s t ⟨.readResponse, [i, length]⟩ ∧
      ((t.qp? i).map fun x => x.epsn) = some (psnAdd q.epsn (packetsOf length q.pmtu)) := by
  refine ⟨_, h.receivePkt_eq _ _, ?_⟩
  obtain ⟨-, -, -, -, -, -, hqp0, -⟩ := h
  simp only [State.runPacket, State.runRead]
  generalize hx : (if p.ce = true then (s.hit i).congested i else s.hit i) = x
  have harrived : Arrived s x i q := by
    rw [← hx]
    split
    · exact (State.hit_arrived hqp0).congested
    · exact State.hit_arrived hqp0
  obtain ⟨hwin, hfsp, htrn, hgrows, sent, n, hqp⟩ := harrived
  have hfault' : (s.windowAt (keyIndex rkey) s.now).fault { q with cnpSent := sent, cnpsTx := n } rkey va length false = none := hfault
  rw [State.inSequence_fresh hqp hst hpsn]
  simp only [State.windowAt_congr hwin, hfault']
  obtain ⟨l, hl⟩ := hgrows
  exact ⟨by simp [Sends, State.emit, State.modQp, State.accepted, ← hl], by simp [hqp]⟩

theorem Completes.readResponse {s : State} {p : Pkt} {i tag left : Nat} {q : Qp} {e : SqEntry} {more : List (Nat × Nat)} {l : List Byte}
    (h : Arrives s p i q) (hread : q.oldestRead = some e) (hreads : q.reads = (tag, left) :: more) (hpmtu : q.pmtu ≠ 0)
    (hpsn : p.psn = psnAdd (q.firstPsn e) ((e.wqe.length - left) / q.pmtu)) (hne : l ≠ []) (hpart : l.length < left) (pos : PktPos) :
    Completes (.rdmaReadResponseRx p pos l) s fun t => ((t.qp? i).map fun x => x.reads) = some ((tag, left - l.length) :: more) := by
  refine ⟨_, h.receivePkt_eq _ _, ?_⟩
  simp only [State.runPacket, State.runReadResponse]
  obtain ⟨x, ⟨hwin, hfsp, htrn, hgrows, sent, n, hqp⟩, hrun⟩ := h.metered _
  have hread' : ({ q with cnpSent := sent, cnpsTx := n } : Qp).oldestRead = some e := hread
  have hreads' : ({ q with cnpSent := sent, cnpsTx := n } : Qp).reads = (tag, left) :: more := hreads
  have hpmtu' : ({ q with cnpSent := sent, cnpsTx := n } : Qp).pmtu ≠ 0 := hpmtu
  have hpsn' : p.psn = psnAdd (({ q with cnpSent := sent, cnpsTx := n } : Qp).firstPsn e)
    ((e.wqe.length - left) / ({ q with cnpSent := sent, cnpsTx := n } : Qp).pmtu) := hpsn
  generalize ({ q with cnpSent := sent, cnpsTx := n } : Qp) = q' at hqp hread' hreads' hpmtu' hpsn'
  have hlength : l.length ≠ 0 := fun h0 => hne (List.length_eq_zero_iff.mp h0)
  rw [hrun]
  simp only [hqp, hread', hreads', hpmtu', if_false, ← hpsn', Nat.min_eq_left hpart.le, hlength, bne_self_eq_false, decide_false, Bool.false_and,
    Bool.or_self, Bool.false_eq_true, Nat.not_le_of_lt hpart]
  split <;> simp [hqp]

theorem Completes.sendWithInvalidate {s : State} {p : Pkt} {i : Nat} {q : Qp} (h : Arrives s p i q) (hst : q.st = .rts) (hpsn : p.psn = q.epsn)
    (hnak : q.nakSent = false) :
    Completes (.sendWithInvalidateRx p) s fun t => Sends s t ⟨.nak, [i, q.epsn, 1]⟩ ∧ ((t.qp? i).map fun x => (x.nakSent, x.epsn)) = some (true, q.epsn) := by
  refine ⟨_, h.receivePkt_eq _ _, ?_⟩
  simp only [State.runPacket]
  obtain ⟨x, ⟨hwin, hfsp, htrn, hgrows, sent, n, hqp⟩, hrun⟩ := h.metered _
  rw [hrun, State.inSequence_fresh hqp hst hpsn]
  obtain ⟨l, hl⟩ := hgrows
  constructor
  · simp [State.nak, hqp, hnak, Sends, State.count_records, State.emit, State.modQp, ← hl]
  · simp [State.nak, hqp, hnak]

/-! ### Answers to Daxzin's own requests -/

/-- What a hit keeps: the queue pair but for nothing, and the clock. -/
theorem Reaches.hit {s : State} {qpn i : Nat} {q : Qp} (h : Reaches s qpn i q) :
    (s.hit i).qp? i = some q ∧ (s.hit i).outbox = s.outbox ∧ (s.hit i).clock = s.clock := by
  obtain ⟨-, -, hqp, -, -⟩ := h
  have hkept : Kept [.cnt, .xpt, .reg 4, .reg 21] s (s.hit i) :=
    State.geckoTouch_kept i (State.count_kept _ _ _ (State.bumpWrap_kept _ _ _ _ (Kept.refl _ s) rfl rfl) rfl) rfl
  refine ⟨?_, hkept.outbox, by rw [State.clock, State.clock, hkept.trn]⟩
  simpa [State.hit, State.bumpWrap] using hqp

theorem Completes.ack {s : State} {qpn psn i : Nat} {q : Qp} (h : Reaches s qpn i q) (hin : q.inFlight psn = true) (hread : q.oldestRead = none)
    (rx tx : Stamp) : Completes (.ackRx qpn psn rx tx) s fun t => ((t.qp? i).map fun x => x.unaPsn) = some (psnAdd psn 1) := by
  refine ⟨_, h.receiveQpn_eq _, ?_⟩
  obtain ⟨hqp, -, -⟩ := h.hit
  simp only [State.runPacket, State.runAck, hqp, hin, if_true, Qp.ackLimit_of_noRead hread]
  generalize hu : State.modQp _ i _ = u
  obtain ⟨m, hqpu⟩ : ∃ m, u.qp? i = some { q with rcvdPkts := q.rcvdPkts + 1, rttMin := m } := by
    rw [← hu, State.qp?_modQp, hqp]
    exact ⟨_, rfl⟩
  obtain ⟨-, hmap⟩ := State.ackUpTo_inFlight hqpu hin
  obtain ⟨x, hx, hfields⟩ := Option.map_eq_some_iff.mp hmap
  rw [hx, Option.map_some, (Prod.mk.inj hfields).1]

/-- A cumulative acknowledgement leaves retries where there were some. -/
theorem State.ackUpTo_retries {s : State} {i psn : Nat} {q : Qp} (hq : s.qp? i = some q) (hleft : q.retriesLeft ≠ 0) (hcnt : q.retryCnt ≠ 0) :
    s.outbox <+: (s.ackUpTo i psn).outbox ∧ ∃ q', (s.ackUpTo i psn).qp? i = some q' ∧ q'.retriesLeft ≠ 0 := by
  by_cases hin : q.inFlight psn = true
  · obtain ⟨hgrows, hmap⟩ := State.ackUpTo_inFlight hq hin
    obtain ⟨x, hx, hfields⟩ := Option.map_eq_some_iff.mp hmap
    exact ⟨hgrows, x, hx, by rw [(Prod.mk.inj hfields).2]; exact hcnt⟩
  · rw [State.ackUpTo_outside hq (by simpa [Qp.inFlight] using hin)]
    exact ⟨List.prefix_rfl, q, hq, hleft⟩

theorem Completes.sequenceNak {s : State} {qpn psn i : Nat} {q : Qp} (h : Reaches s qpn i q) (hin : q.inFlight psn = true)
    (hread : q.oldestRead = none) (hleft : q.retriesLeft ≠ 0) (hcnt : q.retryCnt ≠ 0) :
    Completes (.nakRx qpn psn .psnSequence) s fun t => Sends s t ⟨.resend, [i, psn]⟩ := by
  refine ⟨_, h.receiveQpn_eq _, ?_⟩
  obtain ⟨hqp, hout, -⟩ := h.hit
  simp only [State.runPacket, State.runNak, hqp, hin, if_true, Qp.ackLimit_of_noRead hread]
  obtain ⟨hgrows, q', hq', hleft'⟩ := State.ackUpTo_retries (s := (s.hit i).count 54 1 i) (psn := psnAdd psn (2 ^ 24 - 1))
    ((State.qp?_count _ _ _ _ _).trans hqp) hleft hcnt
  rw [(State.count_records _ _ _ _).1, hout] at hgrows
  obtain ⟨l, hl⟩ := hgrows
  rw [Sends, (State.retryFrom_left hq' hleft').1, ← hl]
  simp

theorem Completes.rnrNak {s : State} {qpn wait i : Nat} {q : Qp} (h : Reaches s qpn i q) (hin : q.inFlight q.unaPsn = true)
    (hread : q.oldestRead = none) (hleft : q.rnrLeft ≠ 0) (hretry : q.rnrRetry ≠ 7) :
    Completes (.rnrNakRx qpn q.unaPsn wait) s fun t => ((t.qp? i).map fun x => (x.rnrWait, x.rnrLeft)) = some (some (s.clock, wait), q.rnrLeft - 1) := by
  refine ⟨_, h.receiveQpn_eq _, ?_⟩
  obtain ⟨hqp, -, hclock⟩ := h.hit
  have hqp' : ((s.hit i).count 56 1 i).qp? i = some q := (State.qp?_count _ _ _ _ _).trans hqp
  have hclock' : ((s.hit i).count 56 1 i).clock = s.clock := by
    rw [← hclock, State.clock, State.clock, (State.count_blocks _ _ _ _).2.2.2.1]
  have hout : psnDiff q.sqPsn q.unaPsn ≤ psnDiff (psnAdd q.unaPsn (2 ^ 24 - 1)) q.unaPsn := by
    unfold psnDiff psnAdd
    omega
  simp only [State.runPacket, State.runRnr, hqp, hin, Qp.ackLimit_of_noRead hread, State.ackUpTo_outside hqp' hout]
  simp [hqp, hleft, hretry, hclock']

theorem Completes.cnp {s : State} {qpn i : Nat} {q : Qp} (h : Reaches s qpn i q) :
    Completes (.cnpRx qpn) s fun t => ((t.qp? i).map fun x => (x.cnpRx, x.cnpsRx)) = some (true, q.cnpsRx + 1) := by
  refine ⟨_, h.receiveQpn_eq _, ?_⟩
  obtain ⟨hqp, -, -⟩ := h.hit
  simp [State.runPacket, hqp]

/-! ### Gecko -/

/-- A packet that misses is parked while the miss buffer has room, and its context is fetched. -/
theorem Completes.parked {s : State} {qpn i : Nat} {q : Qp} (hup : s.inReset = false) (hindex : s.indexOfQpn qpn = some i) (hqp : s.qp? i = some q)
    (hcarries : s.carries q.unit = true) (hmiss : s.geckoHit i = false) (hroom : s.xpt.missBuf.length < 512) :
    Completes (.cnpRx qpn) s fun t => t.xpt.missBuf = s.xpt.missBuf ++ [⟨i, s.now, .cnpRx qpn⟩] ∧ t.xpt.fetches.contains i = true ∧ t.xpt.qps = s.xpt.qps := by
  have hexec : exec (.cnpRx qpn) s = .next (s.park i s.now (.cnpRx qpn)) :=
    by
    change s.receiveQpn qpn (.cnpRx qpn) = _
    simp [State.receiveQpn, hup, hindex, hqp, hcarries, State.receive, hmiss]
  have hxpt : ((s.bumpWrap Reg.XPT_GECKO_MISS 0 0 1).count 49 1 i).xpt = s.xpt := by simp [State.bumpWrap]
  refine ⟨_, hexec, ?_⟩
  simp only [State.park, hxpt, Nat.not_le_of_lt hroom, if_false, State.wr_xpt, true_and, and_true]
  cases hin : s.xpt.fetches.contains i with
  | true => simpa using hin
  | false => simp

/-- A context that has been brought in is in Gecko. -/
theorem State.geckoHit_geckoTouch (s : State) (i : Nat) : (s.geckoTouch i).geckoHit i = true := by
  simp [State.geckoHit, State.geckoSet, State.geckoTouch]

theorem Completes.fetched {s : State} {i qpn turn : Nat} {q : Qp} (hfetch : s.xpt.fetches.contains i = true)
    (hwait : s.xpt.missBuf = [⟨i, turn, .cnpRx qpn⟩]) (hqp : s.qp? i = some q) :
    Completes (.contextFetchDone i true) s fun t => t.xpt.missBuf = [] ∧ t.xpt.fetches.contains i = false ∧ t.geckoHit i = true ∧
      ((t.qp? i).map fun x => x.cnpRx) = some true := by
  have hqp' : tget s.xpt.qps i = some q := hqp
  refine ⟨_, rfl, ?_⟩
  have hlive : (!s.xpt.fetches.contains i) = false := by rw [hfetch]; rfl
  simp only [hlive, Bool.false_eq_true, if_false, if_true, hwait]
  simp [State.runPacket, State.qp?, State.modQp, State.geckoTouch, State.geckoHit, State.geckoSet, tmod, hqp', tget_tset_same]

/-- Settles O13: a packet of a queue pair in Gecko runs on the state that the hit and the policer leave (`Arrives.receivePkt_eq`,
`Arrives.metered`, `Reaches.receiveQpn_eq`), and each kind has its own effect there. That a Send takes one receive buffer per packet is the
model's own choice (notes/assumptions/38.md). -/
theorem packetCommands : Obligations.PacketCommands := by
  unfold Obligations.PacketCommands
  refine ⟨?_, ?_, ?_, ?_, ?_, ?_, ?_, ?_, ?_, ?_, ?_⟩
  · exact fun s p pos imm i q h hst hpsn hlevel hroom hack => Completes.send h hst hpsn hlevel hroom hack pos imm
  · exact fun s p pos rkey va imm l i q e h hst hpsn hfault hbuf he hfit hne => Completes.write h hst hpsn hfault hbuf he hfit hne pos imm
  · exact fun s p rkey va length i q h hst hpsn hfault => Completes.readRequest h hst hpsn hfault
  · exact fun s p pos l i q e tag left more h hread hreads hpmtu hpsn hne hpart => Completes.readResponse h hread hreads hpmtu hpsn hne hpart pos
  · exact fun s p i q h hst hpsn hnak => Completes.sendWithInvalidate h hst hpsn hnak
  · exact fun s qpn psn i rx tx q h hin hread => Completes.ack h hin hread rx tx
  · exact fun s qpn psn i q h hin hread hleft hcnt => Completes.sequenceNak h hin hread hleft hcnt
  · exact fun s qpn wait i q h hin hread hpsn hleft hretry => Completes.rnrNak h hin hread hleft hretry
  · exact fun s qpn i q h => Completes.cnp h
  · exact fun s qpn i q hup hindex hqp hcarries hmiss hroom => Completes.parked hup hindex hqp hcarries hmiss hroom
  · exact fun s i qpn turn q hfetch hwait hqp => Completes.fetched hfetch hwait hqp

end Sys2Proof.Machine


/-!
Timers, work requests and register commands of queue pairs (R169, R174, R184, R185, R188, R191, R193, R653).
-/

namespace Sys2Proof.Machine

-- The check compiles the text as one file: elaborating these proofs one after another bounds its memory.
set_option Elab.async false

/-! ### Arrays of registers -/

/-- The words of a list, written to an array of registers from an index on. -/
def State.wrArray (s : State) (f : Fld) (n : Nat) (l : List Nat) : State := (l.zipIdx n).foldl (fun s x => s.wr f 0 x.2 x.1) s

/-- A register at another place than the array's is kept. -/
theorem State.rd_wrArray_ne {f g : Fld} {i j : Nat} (h : ∀ k, g.key i j ≠ f.key 0 k) (l : List Nat) (s : State) (n : Nat) :
    (s.wrArray f n l).rd g i j = s.rd g i j := by
  induction l generalizing s n with
  | nil => rfl
  | cons v l ih =>
    rw [State.wrArray, List.zipIdx_cons, List.foldl_cons]
    exact (ih _ _).trans (s.rd_wr_ne f g 0 n i j v (h n))

theorem Fld.key_injective {f : Fld} (hstride : f.stride2 ≠ 0) {i j k : Nat} (h : j ≠ k) : f.key i j ≠ f.key i k := by
  intro heq
  have hmul : j * f.stride2 = k * f.stride2 := by
    unfold Fld.key at heq
    omega
  exact h (Nat.eq_of_mul_eq_mul_right (Nat.pos_of_ne_zero hstride) hmul)

/-- The registers of an array before the words written are kept. -/
theorem State.rd_wrArray_before {f : Fld} (hstride : f.stride2 ≠ 0) {k : Nat} (l : List Nat) (s : State) (n : Nat) (h : k < n) :
    (s.wrArray f n l).rd f 0 k = s.rd f 0 k := by
  induction l generalizing s n with
  | nil => rfl
  | cons v l ih =>
    rw [State.wrArray, List.zipIdx_cons, List.foldl_cons]
    exact (ih _ _ (by omega)).trans (s.rd_wr_ne f f 0 n 0 k v (Fld.key_injective hstride (by omega)))

/-- An array of registers reads as the words written. -/
theorem State.rd_wrArray {f : Fld} (hstride : f.stride2 ≠ 0) (hone : 0 < f.count1) (l : List Nat) (s : State) (n k : Nat) (hk : k < l.length)
    (hroom : n + l.length ≤ f.count2) : (s.wrArray f n l).rd f 0 (n + k) = l[k] % 2 ^ f.width := by
  induction l generalizing s n k with
  | nil => simp at hk
  | cons v l ih =>
    rw [List.length_cons] at hk hroom
    rw [State.wrArray, List.zipIdx_cons, List.foldl_cons]
    cases k with
    | zero =>
      refine (State.rd_wrArray_before hstride l _ (n + 1) (by omega)).trans ?_
      exact s.rd_wr_same f 0 n v hone (by omega)
    | succ k =>
      have h := ih (s.wr f 0 n v) (n + 1) k (by omega) (by omega)
      rw [Nat.add_assoc, Nat.add_comm 1 k] at h
      exact h

theorem Fld.forWriter_dims (f : Fld) (w : Writer) : (f.forWriter w).stride2 = f.stride2 ∧ (f.forWriter w).count1 = f.count1 ∧
    (f.forWriter w).count2 = f.count2 ∧ (f.forWriter w).width = f.width := by
  unfold Fld.forWriter
  split <;> exact ⟨rfl, rfl, rfl, rfl⟩

/-! ### Timers -/

theorem Completes.ackTimeout {s : State} {i : Nat} {q : Qp} (hqp : s.qp? i = some q) (hdue : due q.ackArmed (2 ^ (q.ackT + 1)) s.clock = true)
    (hopen : q.unaPsn ≠ q.sqPsn) (hleft : q.retriesLeft ≠ 0) :
    Completes (.ackTimeout i) s fun t => Sent s t [⟨.resend, [i, q.unaPsn]⟩] ∧
      ((t.qp? i).map fun x => (x.retriesLeft, x.ackArmed)) = some (q.retriesLeft - 1, some s.clock) := by
  refine ⟨_, rfl, ?_⟩
  have hcounted : (s.count 59 1 i).qp? i = some q := (State.qp?_count _ _ _ _ _).trans hqp
  have hclock : (s.count 59 1 i).clock = s.clock := by rw [State.clock, State.clock, (State.count_blocks _ _ _ _).2.2.2.1]
  have hopen' : (q.unaPsn != q.sqPsn) = true := by simpa using hopen
  obtain ⟨hout, hretry⟩ := State.retryFrom_left (psn := q.unaPsn) hcounted hleft
  simp only [hqp, hdue, hopen', Bool.and_self, if_true]
  exact ⟨by rw [Sent, hout, (State.count_records _ _ _ _).1], by rw [hretry, hclock]; rfl⟩

theorem Completes.rnrWaitExpiry {s : State} {i a wait : Nat} {q : Qp} (hqp : s.qp? i = some q) (hwait : q.rnrWait = some (a, wait))
    (hup : expired a wait s.clock = true) :
    Completes (.rnrWaitExpiry i) s fun t => Sends s t ⟨.resend, [i, q.unaPsn]⟩ ∧ ((t.qp? i).map fun x => x.rnrWait) = some none := by
  refine ⟨_, rfl, ?_⟩
  simp only [hqp, hwait, hup, if_true]
  generalize hu : State.count _ 52 1 i = u
  have hout : u.outbox = s.outbox ++ [⟨.resend, [i, q.unaPsn]⟩] := by
    rw [← hu, (State.count_records _ _ _ _).1]
    rfl
  obtain ⟨hgrows, hpumps⟩ := State.pumpSq_pumps u i false
  obtain ⟨q', hq', hpumped⟩ := hpumps { q with rnrWait := none, ackArmed := some s.clock, retrans := q.retrans + 1 } (by rw [← hu]; simp [hqp])
  obtain ⟨-, -, hrnr, -⟩ := hpumped.keeps
  obtain ⟨l, hl⟩ := hgrows
  rw [Sends, ← hl, hout, hq']
  simp [hrnr]

/-! ### Work requests -/

theorem Completes.wqeQueued {s : State} {i : Nat} {w : Wqe} {q : Qp} (hup : s.inReset = false) (hqp : s.qp? i = some q) (hst : q.st = .rtr)
    (hfault : s.wqeFault q { w with flags := w.flags % 32 } = none) :
    Completes (.wqePost i w) s fun t => t.outbox = s.outbox ∧ ((t.qp? i).map fun x => x.sq) = some (q.sq ++ [⟨{ w with flags := w.flags % 32 }, false, 0, none⟩]) := by
  refine ⟨_, rfl, ?_⟩
  generalize ({ w with flags := w.flags % 32 } : Wqe) = w' at hfault ⊢
  have hqueued : (s.modQp i fun q => { q with sq := q.sq ++ [⟨w', false, 0, none⟩] }).qp? i = some { q with sq := q.sq ++ [⟨w', false, 0, none⟩] } := by
    simp [hqp]
  have hidle := State.pumpSq_notRts hqueued (by simp [hst]) false
  have hrun : (s.up (s.postWqe i w')) = (s.modQp i fun q => { q with sq := q.sq ++ [⟨w', false, 0, none⟩] }).xptStatus := by
    simp [State.up, hup, State.postWqe, hqp, hst, hfault, hidle]
  rw [hrun, State.xptStatus_outbox, State.qp?_xptStatus, hqueued]
  exact ⟨rfl, rfl⟩

/-- A request that fits its window and CWND starts at once from an empty queue. -/
theorem State.pumpSq_starts {s : State} {i : Nat} {w : Wqe} {q : Qp} (hqp : s.qp? i = some q) (hst : q.st = .rts) (hrnr : q.rnrWait = none)
    (hsq : q.sq = [⟨w, false, 0, none⟩]) (hop : w.opcode < 4) (hflags : w.flags = 0) (hwindow : s.wqeWindowOk q w = true)
    (hfits : q.inflight + w.length ≤ q.cwnd) :
    (s.pumpSq i false).outbox = s.outbox ++ [⟨.wqeSend, [i, w.opcode, w.length, w.tag, w.window, w.offset, w.remoteVa, w.remoteKey, w.imm]⟩] ∧
      (((s.pumpSq i false).qp? i).map fun x => (x.sqPsn, x.inflight)) = some (psnAdd q.sqPsn (packetsOf w.length q.pmtu), q.inflight + w.length) := by
  have hle : w.opcode ≤ 4 := by omega
  have hne : w.opcode ≠ 4 := by omega
  have hne' : w.opcode ≠ 15 := by omega
  simp [State.pumpSq, hqp, hsq, State.runSq, hst, hrnr, hflags, hwindow, hle, hne, hne', hfits, bitOf]
  simp [State.setQp]

theorem Completes.wqeStarted {s : State} {i : Nat} {w : Wqe} {q : Qp} (hup : s.inReset = false) (hqp : s.qp? i = some q) (hst : q.st = .rts)
    (hrnr : q.rnrWait = none) (hsq : q.sq = []) (hop : w.opcode < 4) (hflags : w.flags = 0) (hwindow : s.wqeWindowOk q w = true)
    (hfits : q.inflight + w.length ≤ q.cwnd) (hlen : w.length ≤ 2 ^ 31) :
    Completes (.wqePost i w) s fun t => Sent s t [⟨.wqeSend, [i, w.opcode, w.length, w.tag, w.window, w.offset, w.remoteVa, w.remoteKey, w.imm]⟩] ∧
      ((t.qp? i).map fun x => (x.sqPsn, x.inflight)) = some (psnAdd q.sqPsn (packetsOf w.length q.pmtu), q.inflight + w.length) := by
  refine ⟨_, rfl, ?_⟩
  have hw : ({ w with flags := w.flags % 32 } : Wqe) = w := by rw [hflags, Nat.zero_mod, ← hflags]
  have hfault : s.wqeFault q w = none := by
    have hle : w.opcode ≤ 4 := by omega
    have hlen' : ¬ 2 ^ 31 < w.length := Nat.not_lt.mpr hlen
    simp only [State.wqeFault, hle, hflags, hlen']
    rfl
  have hqueued : (s.modQp i fun q => { q with sq := q.sq ++ [⟨w, false, 0, none⟩] }).qp? i = some { q with sq := [⟨w, false, 0, none⟩] } := by
    simp [hqp, hsq]
  obtain ⟨hout, hmap⟩ := State.pumpSq_starts hqueued hst hrnr rfl hop hflags hwindow hfits
  simp only [hw, State.up, hup, State.postWqe, hqp, hst, hfault]
  exact ⟨by simpa [Sent] using hout, by simpa using hmap⟩

theorem Completes.triggerTimeout {s : State} {i : Nat} {q : Qp} {e : SqEntry} (hqp : s.qp? i = some q) (hsq : q.sq = [e]) (hwaits : e.started = false)
    (htrig : bitOf e.wqe.flags 0 = true) (hdue : due e.headTurn e.wqe.trigTimeout s.clock = true) :
    Completes (.triggerTimeout i) s fun t => Sent s t [⟨.wqeDone, [i, e.wqe.tag, 5]⟩] ∧ Raises s t Ev.triggerTimeout i 0 ∧
      ((t.qp? i).map fun x => x.sq) = some [] := by
  refine ⟨_, rfl, ?_⟩
  have hfind : List.find? (fun e : SqEntry => !e.started) [e] = some e := by simp [hwaits]
  have hrest : List.takeWhile (fun e : SqEntry => e.started) [e] ++ (List.dropWhile (fun e : SqEntry => e.started) [e]).drop 1 = [] := by
    simp [hwaits]
  simp only [hqp, hsq, hfind, htrig, hdue, Bool.and_self, if_true, hrest]
  generalize hu : State.wqeDone _ i _ _ = u
  have hqpu : u.qp? i = some { q with sq := [] } := by rw [← hu]; simp
  rw [State.pumpSq_idle hqpu rfl]
  refine ⟨?_, ?_, by simp [hqpu]⟩
  · rw [Sent, State.xptStatus_outbox, ← hu, State.wqeDone, State.emit]
    dsimp only
    rw [(State.count_records _ _ _ _).1, outbox_of_kept (State.raise_kept _ _ _ _ _ _ (Kept.refl _ _) rfl)]
    rfl
  · refine Raises.mono (State.raise_raises (s.setQp i { q with sq := [] }) Ev.triggerTimeout Sev.notice i 0 e.wqe.trigQp e.wqe.threshold) ?_
    rw [evt_of_kept (State.xptStatus_kept (Kept.refl _ u) rfl), ← hu, State.wqeDone, State.emit]
    dsimp only
    rw [(State.count_records _ _ _ _).2.1]

/-! ### Register commands -/

/-- The flag that shares no register with an array of whole words is kept by writes of the array, and keeps it. -/
theorem Fld.key_flag_ne (f : Fld) {g : Fld} (hlo : f.lo = 0) (hstride : f.stride2 = 4) (hbit : g.lo % 8 ≠ 0) (hone : g.stride1 = 0) (hone' : g.stride2 = 0)
    (w : Writer) (k : Nat) : (g.forWriter w).key 0 0 ≠ (f.forWriter w).key 0 k := by
  unfold Fld.forWriter Fld.key
  split <;> simp only [hlo, hstride, hone, hone'] <;> omega

/-- A context read gives the context's words to the writer's data registers and sets VALID (R169). -/
theorem exec_qpContextRead {s : State} {w : Writer} {q : Qp} (hup : s.inReset = false) (hw : w ≠ .endpoint)
    (hqp : s.qp? (s.rd (Reg.XPT_QP_SEL.forWriter w)) = some q) : ∃ deadline unknown, exec (.qpContextRead w) s =
      .next ((({ s with free := s.free + 24 } : State).wrArray (Reg.XPT_QP_DATA.forWriter w) 0 (q.words deadline unknown)).wr
        (Reg.XPT_QP_CTL_VALID.forWriter w) 0 0 1) := by
  have hw' : (w == .endpoint) = false := by simpa using hw
  change ∃ deadline unknown, execQpContextRead w s = _
  simp only [execQpContextRead, State.acts, State.up, hup, hqp, hw', Bool.false_and, Bool.false_eq_true, if_false]
  exact ⟨_, _, rfl⟩

theorem State.wrArray_xpt (s : State) (f : Fld) (n : Nat) (l : List Nat) : (s.wrArray f n l).xpt = s.xpt := by
  induction l generalizing s n with
  | nil => rfl
  | cons v l ih =>
    rw [State.wrArray, List.zipIdx_cons, List.foldl_cons]
    exact ih _ _

theorem Completes.contextRead {s : State} {w : Writer} {q : Qp} (hup : s.inReset = false) (hw : w ≠ .endpoint)
    (hqp : s.qp? (s.rd (Reg.XPT_QP_SEL.forWriter w)) = some q) :
    Completes (.qpContextRead w) s fun t => t.rd (Reg.XPT_QP_CTL_VALID.forWriter w) = 1 ∧ t.rd (Reg.XPT_QP_DATA.forWriter w) 0 1 = q.remoteQpn % 2 ^ 32 ∧
      t.rd (Reg.XPT_QP_DATA.forWriter w) 0 6 = q.epsn % 2 ^ 32 ∧ t.xpt = s.xpt := by
  obtain ⟨deadline, unknown, hexec⟩ := exec_qpContextRead hup hw hqp
  refine ⟨_, hexec, ?_⟩
  obtain ⟨hstride, hcount1, hcount2, hwidth⟩ := Reg.XPT_QP_DATA.forWriter_dims w
  obtain ⟨-, hone, hone', hbit⟩ := Reg.XPT_QP_CTL_VALID.forWriter_dims w
  have hlength : (q.words deadline unknown).length = 64 := by simp [Qp.words]
  have hread : ∀ k v, (q.words deadline unknown)[k]? = some v → ((({ s with free := s.free + 24 } : State).wrArray (Reg.XPT_QP_DATA.forWriter w) 0
      (q.words deadline unknown)).wr (Reg.XPT_QP_CTL_VALID.forWriter w) 0 0 1).rd (Reg.XPT_QP_DATA.forWriter w) 0 k = v % 2 ^ 32 := by
    intro k v hv
    obtain ⟨hk, rfl⟩ := List.getElem?_eq_some_iff.mp hv
    rw [State.rd_wr_ne _ _ _ _ _ _ _ _ (Fld.key_flag_ne _ rfl rfl (by decide) rfl rfl w k).symm]
    have h := State.rd_wrArray (f := Reg.XPT_QP_DATA.forWriter w) (by rw [hstride]; decide) (by rw [hcount1]; decide) (q.words deadline unknown)
      { s with free := s.free + 24 } 0 k hk (by rw [hcount2, hlength]; decide)
    rwa [Nat.zero_add, hwidth] at h
  refine ⟨?_, hread 1 _ rfl, hread 6 _ rfl, by rw [State.wr_xpt, State.wrArray_xpt]⟩
  rw [State.rd_wr_same _ _ _ _ _ (by rw [hone]; decide) (by rw [hone']; decide), hbit]
  rfl

/-- Settles O14: the timers by `retryFrom_left` and `pumpSq_pumps`, the work requests by what `pumpSq` starts, the register commands by what
their registers read after the writes. -/
theorem queuePairCommands : Obligations.QueuePairCommands := by
  unfold Obligations.QueuePairCommands
  refine ⟨?_, ?_, ?_, ?_, ?_, ?_, ?_, ?_⟩
  · exact fun s i q hqp hdue hopen hleft => Completes.ackTimeout hqp hdue hopen hleft
  · exact fun s i a wait q hqp hwait hup => Completes.rnrWaitExpiry hqp hwait hup
  · exact fun s i w q hup hqp hst hfault => Completes.wqeQueued hup hqp hst hfault
  · exact fun s i w q hup hqp hst hrnr hsq hop hflags hwindow hfits hlen => Completes.wqeStarted hup hqp hst hrnr hsq hop hflags hwindow hfits hlen
  · exact fun s i q e hqp hsq hwaits htrig hdue => Completes.triggerTimeout hqp hsq hwaits htrig hdue
  · intro s w hup hw
    refine ⟨_, rfl, ?_⟩
    have hw' : (w == .endpoint) = false := by simpa using hw
    simp [State.up, hup, hw']
  · exact fun s w q hup hw hqp => Completes.contextRead hup hw hqp
  · intro s hup
    refine ⟨_, rfl, ?_⟩
    simp only [State.up, hup]
    exact ⟨rfl, s.rd_wr_fits _ _ _ _ (by decide) (by decide) (by decide)⟩

end Sys2Proof.Machine


/-!
Connection management (R156, R158, R161 to R168): what making, greeting, draining and resetting a queue pair do to it, and with that what
each message and timer does.
-/

namespace Sys2Proof.Machine

-- The check compiles the text as one file: elaborating these proofs one after another bounds its memory.
set_option Elab.async false

/-! ### Making and greeting a queue pair -/

/-- What stays of a queue pair while its connection is made. -/
def Qp.terms (q : Qp) : Nat × Nat × Nat × Bool × Nat := (q.remoteQpn, q.epsn, q.service, q.initiated, q.tenant)

theorem State.pinQp_qps (s : State) (i service : Nat) : (s.pinQp i service).xpt.qps = s.xpt.qps := by
  unfold State.pinQp
  dsimp only
  split <;> rfl

theorem State.newQp_terms (s : State) (i handle tenant service unit remoteQpn epsn pmtu ird ord : Nat) (initiated relaxed triggers : Bool) :
    ((s.newQp i handle tenant service unit remoteQpn epsn pmtu ird ord initiated relaxed triggers).qp? i).map Qp.terms =
      some (remoteQpn, epsn % 2 ^ 24, service, initiated, tenant) := by
  simp only [State.newQp, State.qp?_xptStatus, State.qp?_geckoTouch]
  rw [State.qp?_congr (State.pinQp_qps _ i service) i, State.qp?_setQp]
  rfl

/-- Fields outside the terms may change. -/
theorem State.modQp_terms (s : State) (i : Nat) {f : Qp → Qp} (hf : ∀ q, (f q).terms = q.terms) :
    ((s.modQp i f).qp? i).map Qp.terms = (s.qp? i).map Qp.terms := by
  rw [State.qp?_modQp]
  cases s.qp? i with
  | none => rfl
  | some q => exact congrArg some (hf q)

theorem State.greet_terms (s : State) (i : Nat) : ((s.greet i).qp? i).map Qp.terms = (s.qp? i).map Qp.terms := by
  unfold State.greet
  split
  · split
    · split
      · exact s.modQp_terms i fun _ => rfl
      · exact s.modQp_terms i fun _ => rfl
    · rfl
  · rfl

/-- Writing new handles to the shadow bank and committing them changes no queue pair. -/
theorem State.handleBatch_qps (s : State) : s.handleBatch.xpt.qps = s.xpt.qps := by
  unfold State.handleBatch
  dsimp only
  split
  · rfl
  · rw [congrArg Xpt.qps (xpt_of_kept (State.bankCommit_kept _ (State.bankCommit_kept _ (Kept.refl _ _) rfl) rfl))]
    refine List.foldlRecOn (motive := fun t : State => t.xpt.qps = s.xpt.qps) _ _ rfl fun t ht p _ => ht

theorem State.qp?_handleBatch (s : State) (i : Nat) : s.handleBatch.qp? i = s.qp? i := State.qp?_congr s.handleBatch_qps i

/-! ### Ending a queue pair -/

theorem State.qp?_toTimewait (s : State) (i : Nat) : (s.toTimewait i).qp? i = (s.qp? i).map fun q =>
    { q with st := .timewait, timewaitArmed := some s.clock, drainArmed := none, connectArmed := none, mraArmed := none, ackArmed := none, ackDue := none, repPending := false } :=
  s.qp?_modQp i _

/-- A queue pair that is reset is gone, its generation is the next, and nothing is sent. -/
theorem State.qpReset_gone {s : State} {i : Nat} {q : Qp} (hqp : s.qp? i = some q) :
    (s.qpReset i).qp? i = none ∧ tgetD (s.qpReset i).xpt.gens i 0 = (q.gen + 1) % 16 ∧ (s.qpReset i).outbox = s.outbox := by
  refine ⟨?_, ?_, outbox_of_kept (State.qpReset_kept _ (Kept.refl _ s) rfl)⟩
  · simp only [State.qpReset, hqp, State.qp?_xptStatus]
    exact tget_tdel_same _ _
  · simp only [State.qpReset, hqp, xpt_of_kept (State.xptStatus_kept (Kept.refl _ _) rfl)]
    exact tgetD_tput_same 0 _ _ _

/-- A CM message about a queue pair that stands as it must runs. -/
theorem State.cmQp_runs {s : State} {i : Nat} {q : Qp} {p : Qp → Bool} (hqp : s.qp? i = some q) (hcarries : s.carries q.unit = true) (hp : p q = true)
    (run : Qp → State) : s.cmQp i p run = run q := by
  simp [State.cmQp, hqp, hcarries, hp]

theorem Completes.cmQp {c : Instr} {s : State} {i : Nat} {q : Qp} {p : Qp → Bool} {run : Qp → State} {post : State → Prop}
    (hexec : exec c s = .next (s.cmQp i p run)) (hqp : s.qp? i = some q) (hcarries : s.carries q.unit = true) (hp : p q = true)
    (hpost : post (run q)) : Completes c s post := ⟨run q, by rw [hexec, State.cmQp_runs hqp hcarries hp], hpost⟩

/-- A queue pair that enters RTS starts what it can. -/
theorem State.enterRts_pumps {s : State} {i : Nat} {q : Qp} (hqp : s.qp? i = some q) : s.outbox <+: (s.enterRts i).outbox ∧
    ∃ q', (s.enterRts i).qp? i = some q' ∧ q'.st = .rts ∧ q'.remoteQpn = q.remoteQpn ∧ q'.epsn = q.epsn := by
  unfold State.enterRts
  generalize hu : State.modQp s i _ = u
  have hqpu : u.qp? i = some { q with st := .rts, cwnd := 2 ^ s.rd Reg.XPT_CC_CFG_CWND_INIT, alpha := 0 } := by rw [← hu, State.qp?_modQp, hqp]; rfl
  obtain ⟨hgrows, hpumps⟩ := u.pumpSq_pumps i false
  obtain ⟨q', hq', hpumped⟩ := hpumps _ hqpu
  obtain ⟨hst, -, -, -, hremote, hepsn⟩ := hpumped.keeps
  exact ⟨by rwa [← hu] at hgrows ⊢, q', hq', hst, hremote, hepsn⟩

/-! ### Requests -/

theorem Completes.cmReqRejected {s : State} {r : CmReq} (hunit : r.host.unit < 16) (hon : s.unitOn r.host.unit = true)
    (hcarries : s.carries r.host.unit = true) (hservice : 3 ≤ r.service) :
    Completes (.cmReqRx r) s fun t => t = s.emit .cmRej [r.remoteQpn, 8] := by
  refine Completes.guard rfl (by simp [hunit, hon]) ?_
  simp [hcarries, hservice]

theorem Completes.cmReqAccepted {s : State} {r : CmReq} {i : Nat} (hunit : r.host.unit < 16) (hon : s.unitOn r.host.unit = true)
    (hcarries : s.carries r.host.unit = true) (hservice : r.service < 3) (haccepts : s.cfg.state.accepts r.service = true) (hok : r.requestOk = true)
    (hquota : s.qpsOfHost r.host < s.qpPerHost) (hfree : s.freeQp = some i) (hres : r.responderResources ≤ 16) (hhandle : (s.takeHandle r.host).isSome = true) :
    Completes (.cmReqRx r) s fun t => ((t.qp? i).map fun q => (q.remoteQpn, q.epsn, q.service, q.initiated)) = some (r.remoteQpn, r.psn % 2 ^ 24, r.service, false) := by
  obtain ⟨⟨h, y⟩, htake⟩ := Option.isSome_iff_exists.mp hhandle
  refine Completes.guard rfl (by simp [hunit, hon]) ?_
  have hterms : ((y.acceptReq r i h).qp? i).map Qp.terms = some (r.remoteQpn, r.psn % 2 ^ 24, r.service, false, r.tenant) := by
    unfold State.acceptReq
    dsimp only
    rw [State.greet_terms, State.qp?_handleBatch]
    split
    · exact (State.modQp_terms _ _ (by intro; rfl)).trans ((State.modQp_terms _ _ (by intro; rfl)).trans (State.newQp_terms ..))
    · exact (State.modQp_terms _ _ (by intro; rfl)).trans (State.newQp_terms ..)
  simp only [hcarries, Nat.not_le.mpr hservice, haccepts, hok, Nat.not_le.mpr hquota, hfree, Nat.not_lt.mpr hres, htake, Bool.not_true, Bool.or_self,
    Bool.false_eq_true, if_false]
  obtain ⟨q, hq, hterms⟩ := Option.map_eq_some_iff.mp hterms
  simp only [Qp.terms, Prod.mk.injEq] at hterms
  simp [hq, hterms]

theorem Completes.connectInitiate {s : State} {dest : HostAddr} {tenant i : Nat} (hunit : dest.unit < 16) (hon : s.unitOn dest.unit = true)
    (haccepts : s.cfg.state.accepts 2 = true) (hfree : s.freeQp = some i) (hhandle : (s.takeHandle dest).isSome = true) :
    Completes (.connectInitiate dest tenant) s fun t => ((t.qp? i).map fun q => (q.initiated, q.service, q.tenant)) = some (true, 2, tenant) := by
  obtain ⟨⟨h, y⟩, htake⟩ := Option.isSome_iff_exists.mp hhandle
  refine Completes.guard rfl (by simp [hunit, hon]) ?_
  have hterms : ((s.connectOut dest tenant).qp? i).map Qp.terms = some (0, 0, 2, true, tenant) := by
    simp only [State.connectOut, hfree, htake]
    rw [State.greet_terms, State.qp?_handleBatch]
    exact (State.modQp_terms _ _ (by intro; rfl)).trans (State.newQp_terms ..)
  obtain ⟨q, hq, hterms⟩ := Option.map_eq_some_iff.mp hterms
  simp only [Qp.terms, Prod.mk.injEq] at hterms
  simp [haccepts, hq, hterms]

/-! ### The other messages and the timers -/

theorem Completes.cmRep {s : State} {i remoteQpn psn granted : Nat} {q : Qp} (hqp : s.qp? i = some q) (hcarries : s.carries q.unit = true)
    (hopening : q.opening = true) : Completes (.cmRepRx i remoteQpn psn granted) s fun t => Sends s t ⟨.cmRtu, [i]⟩ ∧
      ((t.qp? i).map fun x => (x.st, x.remoteQpn, x.epsn)) = some (.rts, remoteQpn, psn % 2 ^ 24) := by
  refine Completes.cmQp rfl hqp hcarries hopening ?_
  dsimp only
  generalize hu : State.emit _ .cmRtu [i] = u
  have hout : u.outbox = s.outbox ++ [⟨.cmRtu, [i]⟩] := by rw [← hu]; rfl
  obtain ⟨q', hqpu, hremote, hepsn⟩ : ∃ q', u.qp? i = some q' ∧ q'.remoteQpn = remoteQpn ∧ q'.epsn = psn % 2 ^ 24 := by
    rw [← hu, State.qp?_emit, State.qp?_modQp, hqp]
    exact ⟨_, rfl, rfl, rfl⟩
  obtain ⟨hgrows, q'', hq'', hst, hremote', hepsn'⟩ := State.enterRts_pumps hqpu
  obtain ⟨l, hl⟩ := hgrows
  rw [Sends, ← hl, hout, hq'']
  simp [hst, hremote', hepsn', hremote, hepsn]

theorem Completes.cmDreqDrains {s : State} {i : Nat} {q : Qp} (hqp : s.qp? i = some q) (hcarries : s.carries q.unit = true) (hst : q.st = .rts) :
    Completes (.cmDreqRx i) s fun t => ((t.qp? i).map fun x => x.st) = some .draining := by
  refine Completes.cmQp rfl hqp hcarries (by simp [hst]) ?_
  simp only [hst, beq_self_eq_true, if_true, State.drainQp, hqp, Bool.true_or, State.qp?_xptStatus]
  rw [State.qp?_congr (congrArg Xpt.qps (xpt_of_kept (State.loseQueue_kept _ (Kept.refl _ _) rfl))), State.qp?_modQp, State.qp?_foldl_wqeDone, hqp]
  rfl

theorem Completes.drainTimeout {s : State} {i : Nat} {q : Qp} (hqp : s.qp? i = some q) (hst : q.st = .draining)
    (hdue : due q.drainArmed (2 ^ (q.ackT + 1)) s.clock = true) :
    Completes (.qpDrainTimeout i) s fun t => Sends s t ⟨.cmDrep, [i]⟩ ∧ ((t.qp? i).map fun x => (x.st, x.sq)) = some (.timewait, []) := by
  refine ⟨_, rfl, ?_⟩
  simp only [hqp, hst, hdue, beq_self_eq_true, Bool.and_self, if_true, Sends, State.xptStatus_outbox, State.qp?_xptStatus, State.qp?_toTimewait,
    State.qp?_emit, State.flushSq, State.qp?_modQp, State.qp?_foldl_wqeDone]
  refine ⟨?_, rfl⟩
  obtain ⟨l, hl⟩ := outbox_foldl_wqeDone i Wq.flushed q.sq s
  simp [State.toTimewait, ← hl]

theorem Completes.timewaitExpiry {s : State} {i : Nat} {q : Qp} (hqp : s.qp? i = some q) (hst : q.st = .timewait)
    (hdue : due q.timewaitArmed (2 ^ (q.ackT + 2)) s.clock = true) :
    Completes (.qpTimewaitExpiry i) s fun t => t.qp? i = none ∧ tgetD t.xpt.gens i 0 = (q.gen + 1) % 16 := by
  refine ⟨_, rfl, ?_⟩
  obtain ⟨hgone, hgen, -⟩ := State.qpReset_gone hqp
  simp only [hqp, hst, hdue, beq_self_eq_true, Bool.and_self, if_true]
  split
  · exact ⟨hgone, hgen⟩
  · have hxpt := xpt_of_kept (State.revokeWhere_kept (fun d => d.handle == q.handle) (Kept.refl _ (s.qpReset i)) rfl)
    rw [State.qp?, hxpt]
    exact ⟨hgone, hgen⟩

/-- Settles O15, message by message. That the service check comes before all others (notes/assumptions/35.md), that the lowest free index is
taken (notes/assumptions/41.md) and that the wait of an MRA counts from the Turn in which it arrives (notes/assumptions/46.md) are the model's
own choices. -/
theorem connectionCommands : Obligations.ConnectionCommands := by
  unfold Obligations.ConnectionCommands
  refine ⟨?_, ?_, ?_, ?_, ?_, ?_, ?_, ?_, ?_, ?_, ?_, ?_, ?_, ?_, ?_, ?_⟩
  · exact fun s r hunit hon hcarries hservice => Completes.cmReqRejected hunit hon hcarries hservice
  · exact fun s r i hunit hon hcarries hservice haccepts hok hquota hfree hres hhandle =>
      Completes.cmReqAccepted hunit hon hcarries hservice haccepts hok hquota hfree hres hhandle
  · exact fun s i remoteQpn psn granted q hqp hcarries hopening => Completes.cmRep hqp hcarries hopening
  · intro s i q hqp hcarries hst hinit
    refine Completes.cmQp rfl hqp hcarries (by simp [hst, hinit]) ?_
    obtain ⟨-, q', hq', hrts, -⟩ := State.enterRts_pumps hqp
    simp [hq', hrts]
  · intro s i reason q hqp hcarries hopening
    obtain ⟨hgone, -, hout⟩ := State.qpReset_gone hqp
    exact Completes.cmQp rfl hqp hcarries hopening ⟨hgone, hout⟩
  · exact fun s i timeout q hqp hcarries hopening => Completes.cmQp rfl hqp hcarries hopening (by simp [hqp])
  · exact fun s i q hqp hcarries hst => Completes.cmDreqDrains hqp hcarries hst
  · exact fun s i q hqp hcarries hst => Completes.cmQp rfl hqp hcarries (by simp [hst]) (by simp [hst])
  · exact fun s i q hqp hcarries hdrained => Completes.cmQp rfl hqp hcarries hdrained (by simp [State.qp?_toTimewait, hqp])
  · exact fun s => ⟨s, rfl, rfl⟩
  · exact fun s dest tenant i hunit hon haccepts hfree hhandle => Completes.connectInitiate hunit hon haccepts hfree hhandle
  · intro s i q hqp hopening hdue hattempts
    refine ⟨_, rfl, ?_⟩
    simp [hqp, hopening, hdue, hattempts, Sent]
  · intro s i q hqp hpending hdue
    refine ⟨_, rfl, ?_⟩
    simp [hqp, hpending, hdue, Sent]
  · intro s i q hqp hdrained
    refine ⟨_, rfl, ?_⟩
    simp [hqp, hdrained, Sent, State.toTimewait]
  · exact fun s i q hqp hst hdue => Completes.drainTimeout hqp hst hdue
  · exact fun s i q hqp hst hdue => Completes.timewaitExpiry hqp hst hdue

end Sys2Proof.Machine


/-!
The commands of the memory windows (R196 to R204, R207, R211): what a change of a window's descriptor leaves waiting, and with that what
opening, closing, revoking and reading a window do.
-/

namespace Sys2Proof.Machine

-- The check compiles the text as one file: elaborating these proofs one after another bounds its memory.
set_option Elab.async false

/-! ### Changes of descriptors -/

/-- A change waits, in the batch or behind it, and touches nothing of the windows but the table and the batch. -/
theorem State.winChange_waits (s : State) (c : WinChange) : c ∈ (s.winChange c).win.batch ++ (s.winChange c).win.waiting ∧
    (s.winChange c).win.lists = s.win.lists ∧ (s.winChange c).win.revokes = s.win.revokes ∧ (s.winChange c).outbox = s.outbox := by
  unfold State.winChange
  split <;> simp

/-- Buffers are had all together: as many as were asked for. -/
theorem State.allocMany_length {role cls req k : Nat} {l : List Nat} {s t : State} (h : s.allocMany role cls req k = some (l, t)) : l.length = k := by
  induction k generalizing s l t with
  | zero =>
    simp only [State.allocMany, Option.some.injEq, Prod.mk.injEq] at h
    rw [← h.1]
    rfl
  | succ k ih =>
    unfold State.allocMany at h
    split at h
    · obtain ⟨⟨l', t'⟩, hrest, heq⟩ := Option.map_eq_some_iff.mp h
      cases heq
      rw [List.length_cons, ih hrest]
    · cases h

/-- An open leaves a change waiting that makes the window OPEN, with its block list. -/
theorem State.openWindow_waits (s : State) (w : Nat) (bufs : List Nat) (q : Qp) (nsid length type : Nat) (remoteW remoteR bind : Bool) (reply : Nat × Nat) :
    ∃ c t, s.openWindow w bufs q nsid length type remoteW remoteR bind reply = t ∧ c ∈ t.win.batch ++ t.win.waiting ∧ c.window = w ∧ c.reply = some reply ∧
      c.desc.st = .isOpen ∧ c.desc.buffer = (type == 1) ∧ c.desc.length = length ∧ c.desc.handle = q.handle ∧ c.desc.nsid = nsid ∧
      (tgetD t.win.lists w []).length = bufs.length ∧ t.outbox = s.outbox := by
  unfold State.openWindow
  cases htag : s.nextTag w with
  | mk tag y =>
    have hy : y.outbox = s.outbox := outbox_of_kept (State.nextTag_kept_eq htag (Kept.refl _ s) rfl)
    simp only [State.takeFree]
    refine ⟨_, _, rfl, (State.winChange_waits _ _).1, rfl, rfl, rfl, rfl, rfl, rfl, rfl, ?_, ?_⟩
    · rw [(State.winChange_waits _ _).2.1, tgetD_tset_same, List.length_map]
    · exact (State.winChange_waits _ _).2.2.2.trans hy

/-! ### Opening -/

theorem Completes.openBuffer {s : State} {ctrl cid qp length w : Nat} {remoteW remoteR bind : Bool} {q : Qp} (hserves : Serves s ctrl .hostOnly)
    (hqp : s.qp? qp = some q) (hlength : length ≠ 0) (hmax : length ≤ 2 ^ s.rd Reg.WIN_CFG_WIN_MAX_LEN)
    (hquota : (s.openWindows.filter fun x => (s.windowNewest x).handle == q.handle).length < s.rd Reg.WIN_CFG_WIN_PER_HOST)
    (hactive : s.cfg.state = .active) (hfree : tfree ((s.usedWindows).map fun x => (x, ())) 0 262144 = some w) (hlevel : s.sch.inLevel < 2)
    (hroom : (s.allocMany 0 1 0 length).isSome = true) :
    Completes (.windowOpen ctrl cid qp 0 length 1 remoteW remoteR bind) s fun t =>
      ((t.win.batch ++ t.win.waiting).any fun c => c.window == w && c.reply == some (ctrl, cid) && c.desc.st == .isOpen && c.desc.buffer && c.desc.length == length && c.desc.handle == q.handle) = true ∧
      ((tgetD t.win.lists w []).length = length) ∧ t.outbox = s.outbox := by
  obtain ⟨⟨bufs, y⟩, halloc⟩ := Option.isSome_iff_exists.mp hroom
  refine Completes.served rfl hserves ?_
  simp only [hqp, hlength, Nat.not_lt.mpr hmax, hactive, Nat.not_le.mpr hquota, hfree, Nat.not_le.mpr hlevel, halloc, decide_false, bne_self_eq_false,
    Bool.or_self, Bool.and_false, Bool.false_and, Bool.false_eq_true, if_false, show ((1 : Nat) == 0) = false from rfl]
  obtain ⟨c, t, ht, hc, hw, hreply, hst, hbuf, hlen, hhandle, -, hlist, hout⟩ :=
    State.openWindow_waits y w bufs q 0 length 1 remoteW remoteR bind (ctrl, cid)
  rw [ht]
  refine ⟨List.any_eq_true.mpr ⟨c, hc, by simp [hw, hreply, hst, hbuf, hlen, hhandle]⟩, hlist.trans (State.allocMany_length halloc), ?_⟩
  rw [hout, outbox_of_kept (State.allocMany_kept_eq halloc (Kept.refl _ s) rfl)]

theorem Completes.openAppend {s : State} {ctrl cid qp nsid length w : Nat} {bind : Bool} {q : Qp} {n : Ns} (hserves : Serves s ctrl .hostOnly)
    (hqp : s.qp? qp = some q) (hlength : length ≠ 0) (hmax : length ≤ 2 ^ s.rd Reg.WIN_CFG_WIN_MAX_LEN) (hattached : s.attached ctrl nsid = some n)
    (htype : n.type ≠ 2)
    (hquota : (s.openWindows.filter fun x => (s.windowNewest x).handle == q.handle).length < s.rd Reg.WIN_CFG_WIN_PER_HOST)
    (hactive : s.cfg.state = .active) (hfree : tfree ((s.usedWindows).map fun x => (x, ())) 0 262144 = some w) (hlevel : s.sch.inLevel < 2)
    (hroom : (s.allocMany 0 1 0 length).isSome = true) :
    Completes (.windowOpen ctrl cid qp nsid length 0 true false bind) s fun t =>
      ((t.win.batch ++ t.win.waiting).any fun c => c.window == w && c.reply == some (ctrl, cid) && c.desc.st == .isOpen && !c.desc.buffer && c.desc.nsid == nsid) = true ∧
      t.outbox = s.outbox := by
  obtain ⟨⟨bufs, y⟩, halloc⟩ := Option.isSome_iff_exists.mp hroom
  have hns : (s.nsOf nsid).any (fun n => n.type == 2) = false := by
    unfold State.attached at hattached
    cases hctrl : s.ctrlOf ctrl <;> cases hnsid : s.nsOf nsid <;> simp [hctrl, hnsid] at hattached ⊢
    simpa [hattached.2] using htype
  refine Completes.served rfl hserves ?_
  simp only [hqp, hlength, Nat.not_lt.mpr hmax, hns, hattached, hactive, Nat.not_le.mpr hquota, hfree, Nat.not_le.mpr hlevel, halloc, decide_false,
    bne_self_eq_false, beq_self_eq_true, Option.isNone_some, Bool.not_true, Bool.or_self, Bool.and_false, Bool.false_and, Bool.false_eq_true, if_false]
  obtain ⟨c, t, ht, hc, hw, hreply, hst, hbuf, -, -, hnsid, -, hout⟩ := State.openWindow_waits y w bufs q nsid length 0 true false bind (ctrl, cid)
  rw [ht]
  refine ⟨List.any_eq_true.mpr ⟨c, hc, by simp [hw, hreply, hst, hbuf, hnsid]⟩, ?_⟩
  rw [hout, outbox_of_kept (State.allocMany_kept_eq halloc (Kept.refl _ s) rfl)]

/-! ### Closing and revoking -/

theorem Completes.closeWindow {s : State} {ctrl cid key : Nat} (hserves : Serves s ctrl .hostOnly) (hopen : (s.windowNewest (keyIndex key)).st = .isOpen)
    (htag : keyTagOf key = (s.windowNewest (keyIndex key)).keyTag) (hhandle : s.ctrlHandle ctrl = some (s.windowNewest (keyIndex key)).handle) :
    Completes (.windowClose ctrl cid key) s fun t => t.outbox = s.outbox ∧
      ((t.win.batch ++ t.win.waiting).any fun c => c.window == keyIndex key && c.reply == some (ctrl, cid) && c.desc.st == .draining) = true := by
  refine Completes.served rfl hserves ?_
  simp only [hopen, htag, hhandle, beq_self_eq_true, Bool.and_self, if_true, State.revoke]
  obtain ⟨hc, -, -, hout⟩ := s.winChange_waits
    { window := keyIndex key, desc := { s.windowNewest (keyIndex key) with st := .draining }, reply := some (ctrl, cid) }
  exact ⟨hout, List.any_eq_true.mpr ⟨_, hc, by simp⟩⟩

/-- Freeing a window drops its block list, and keeps the revokes and what has been sent. -/
theorem State.freeWindow_win (s : State) (w : Nat) : tget (s.freeWindow w).win.lists w = none ∧ (s.freeWindow w).win.revokes = s.win.revokes ∧
    (s.freeWindow w).outbox = s.outbox := by
  refine ⟨?_, ?_, outbox_of_kept (State.freeWindow_kept _ (Kept.refl _ s) rfl)⟩
  · simp only [State.freeWindow, win_of_kept (State.decrefs_kept _ (Kept.refl _ _) rfl)]
    exact tget_tdel_same _ _
  · simp only [State.freeWindow, win_of_kept (State.decrefs_kept _ (Kept.refl _ _) rfl)]

theorem Completes.revokeDrained {s : State} {w turn ctrl cid : Nat} (hrevokes : s.win.revokes = [⟨w, turn, some (ctrl, cid)⟩])
    (hearly : (s.xpt.missBuf.any fun p => decide (p.turn < turn)) = false) :
    Completes (.windowRevokeDrained w) s fun t => Answers s t ctrl cid St.ok ∧ t.win.revokes = [] ∧ tget t.win.lists w = none ∧
      ((t.win.batch ++ t.win.waiting).any fun c => c.window == w && c.desc.st == .free) = true := by
  refine ⟨_, rfl, ?_⟩
  simp only [hrevokes, List.find?_cons, List.filter_cons, beq_self_eq_true, bne_self_eq_false, hearly, Bool.false_eq_true, if_false, List.filter_nil]
  generalize hu : State.replyOk _ ctrl cid = u
  have hwin : u.win.revokes = [] := by rw [← hu]; simp
  have hout : u.outbox = s.outbox ++ [⟨.completion, [ctrl, cid, 0, 0, 0, 0]⟩] := by rw [← hu]; simp
  obtain ⟨hlists, hrevoked, hsent⟩ := u.freeWindow_win w
  obtain ⟨hc, hlists', hrevoked', hsent'⟩ := (u.freeWindow w).winChange_waits { window := w, desc := { u.windowNewest w with st := .free }, reply := none }
  refine ⟨?_, hrevoked'.trans (hrevoked.trans hwin), by rw [hlists', hlists], List.any_eq_true.mpr ⟨_, hc, by simp⟩⟩
  rw [Answers, hsent', hsent, hout]
  simp

/-! ### Reading a descriptor -/

theorem Completes.descriptorRead {s : State} {wr : Writer} (hup : s.inReset = false) (hw : wr ≠ .endpoint) :
    Completes (.windowDescriptorRead wr) s fun t => t.rd (Reg.WIN_READ_VALID.forWriter wr) = 1 ∧
      (List.range 8).map (fun k => t.rd (Reg.WIN_DATA.forWriter wr) 0 k) = ((s.window (s.rd (Reg.WIN_SEL.forWriter wr))).words).map (· % 2 ^ 32) := by
  have hw' : (wr == .endpoint) = false := by simpa using hw
  generalize hd : (s.window (s.rd (Reg.WIN_SEL.forWriter wr))).words = words
  have hlength : words.length = 8 := by rw [← hd]; rfl
  have hexec : exec (.windowDescriptorRead wr) s = .next ((s.wrArray (Reg.WIN_DATA.forWriter wr) 0 words).wr (Reg.WIN_READ_VALID.forWriter wr) 0 0 1) := by
    change execWindowDescriptorRead wr s = _
    simp only [execWindowDescriptorRead, State.acts, State.up, hup, hw', hd, Bool.false_and, Bool.false_eq_true, if_false]
    rfl
  refine ⟨_, hexec, ?_⟩
  obtain ⟨hstride, hcount1, hcount2, hwidth⟩ := Reg.WIN_DATA.forWriter_dims wr
  obtain ⟨-, hone, hone', hbit⟩ := Reg.WIN_READ_VALID.forWriter_dims wr
  constructor
  · rw [State.rd_wr_same _ _ _ _ _ (by rw [hone]; decide) (by rw [hone']; decide), hbit]
    rfl
  · refine List.ext_getElem (by simp [hlength]) fun k hk hk' => ?_
    simp only [List.length_map] at hk'
    simp only [List.getElem_map, List.getElem_range]
    rw [State.rd_wr_ne _ _ _ _ _ _ _ _ (Fld.key_flag_ne _ rfl rfl (by decide) rfl rfl wr k).symm]
    have h := State.rd_wrArray (f := Reg.WIN_DATA.forWriter wr) (by rw [hstride]; decide) (by rw [hcount1]; decide) words s 0 k hk'
      (by rw [hcount2, hlength]; decide)
    rwa [Nat.zero_add, hwidth] at h

/-- Settles O16, command by command. That an open takes the lowest free index (notes/assumptions/41.md) and that changes wait in the batch or
behind it (notes/assumptions/104.md) are the model's own choices. -/
theorem windowCommands : Obligations.WindowCommands := by
  unfold Obligations.WindowCommands
  refine ⟨?_, ?_, ?_, ?_, ?_, ?_⟩
  · exact fun s ctrl cid qp length w remoteW remoteR bind q hserves hqp hlength hmax hquota hactive hfree hlevel hroom =>
      Completes.openBuffer hserves hqp hlength hmax hquota hactive hfree hlevel hroom
  · exact fun s ctrl cid qp nsid length w bind q n hserves hqp hlength hmax hattached htype hquota hactive hfree hlevel hroom =>
      Completes.openAppend hserves hqp hlength hmax hattached htype hquota hactive hfree hlevel hroom
  · exact fun s ctrl cid key hserves hopen htag hhandle => Completes.closeWindow hserves hopen htag hhandle
  · exact fun s w turn ctrl cid hrevokes hearly => Completes.revokeDrained hrevokes hearly
  · exact fun s wr hup hw => Completes.descriptorRead hup hw
  · intro s hup
    refine ⟨_, rfl, ?_⟩
    simp [State.up, hup]

end Sys2Proof.Machine


/-!
The commands of the traffic scheduler (R223, R229, R231, R244, R245, R248): a choice among one candidate, the pick of a single data frame, an
ingest pull, and the parameter commands.
-/

namespace Sys2Proof.Machine

-- The check compiles the text as one file: elaborating these proofs one after another bounds its memory.
set_option Elab.async false

/-! ### A choice among one -/

theorem nextAfter_singleton (a b : Nat) : nextAfter [a] b = a := by
  by_cases h : b < a <;> simp [nextAfter, h]

/-- The only candidate is chosen, whatever its deficit is; the choice changes deficits and turns alone. -/
theorem State.dwrr_singleton (s : State) (ring c : Nat) (weight length : Nat → Nat) :
    ∃ d o, s.dwrr ring [c] weight length = (c, { s with sch := { s.sch with deficit := d, turnOf := o } }) := by
  unfold State.dwrr
  dsimp only
  split
  · next h =>
    have hc : tgetD s.sch.turnOf ring 0 = c := by simpa using (Bool.and_eq_true_iff.mp h).1
    rw [hc]
    exact ⟨_, _, rfl⟩
  · rw [nextAfter_singleton]
    exact ⟨_, _, rfl⟩

theorem findSome?_unique {α β : Type} {f : α → Option β} {l : List α} {x : α} {u : β} (hx : x ∈ l) (hu : f x = some u)
    (hothers : ∀ y ∈ l, y ≠ x → f y = none) : l.findSome? f = some u := by
  induction l with
  | nil => cases hx
  | cons y l ih =>
    by_cases hy : y = x
    · simp [hy, hu]
    · have hx' : x ∈ l := (List.mem_cons.mp hx).resolve_left (Ne.symm hy)
      rw [List.findSome?_cons, hothers y List.mem_cons_self hy]
      exact ih hx' fun z hz => hothers z (List.mem_cons_of_mem y hz)

/-! ### Sending a frame -/

theorem State.sendFrame_outbox (s : State) (unit : Nat) (f : EgressFrame) :
    (s.sendFrame unit f).outbox = s.outbox ++ [⟨.frame, [unit, f.qp, f.length, b2n f.control]⟩] := by
  unfold State.sendFrame
  dsimp only
  rw [(State.count_records _ _ _ _).1, (State.count_records _ _ _ _).1]
  rfl

section OneFrame

variable {s : State} {unit pip : Nat} {f : EgressFrame} {q : Qp} (hqp : s.qp? f.qp = some q)
include hqp

theorem State.queueOfFrame_eq : s.queueOfFrame f.qp = queueOfQp q.handle q.service := by
  simp [State.queueOfFrame, hqp]

/-- A node with one queue, and that with one frame, sends the frame. -/
theorem State.sendFrom_single (hqueue : 0 < s.bucket (queueOfQp q.handle q.service) 0) :
    (s.sendFrom unit (s.nodeOf (queueOfQp q.handle q.service) unit) [f]).outbox = s.outbox ++ [⟨.frame, [unit, f.qp, f.length, b2n f.control]⟩] := by
  have hname := State.queueOfFrame_eq hqp
  unfold State.sendFrom
  simp only [List.map_cons, List.map_nil, hname, List.filter_cons, beq_self_eq_true, hqueue, decide_true, Bool.and_self, if_true, List.filter_nil,
    sortNat, List.foldl_cons, List.foldl_nil, insertNat]
  generalize hlen : (fun q => match s.headFrame q [f] with | some f => f.length | none => 0) = len
  obtain ⟨d, o, hdwrr⟩ := s.dwrr_singleton (s.nodeOf (queueOfQp q.handle q.service) unit) (queueOfQp q.handle q.service) s.weightOf len
  rw [hdwrr]
  have hname' : ({ s with sch := { s.sch with deficit := d, turnOf := o } } : State).queueOfFrame f.qp = queueOfQp q.handle q.service := hname
  have hhead : ({ s with sch := { s.sch with deficit := d, turnOf := o } } : State).headFrame (queueOfQp q.handle q.service) [f] = some f := by
    simp [State.headFrame, hname', sortNat, insertNat, nextAfter_singleton]
  simp only [hhead]
  rw [State.sendFrame_outbox]
  rfl

/-- The group of the frame's node sends it where its gate is open and the node has committed tokens. -/
theorem State.tryGroup_own (hqueue : 0 < s.bucket (queueOfQp q.handle q.service) 0)
    (hnode : 0 < s.bucket (s.nodeOf (queueOfQp q.handle q.service) unit) 0)
    (hgate : s.gateOpen unit (s.groupOf (s.nodeOf (queueOfQp q.handle q.service) unit)) pip = true) :
    ∃ u, s.tryGroup unit pip 0 (s.groupOf (s.nodeOf (queueOfQp q.handle q.service) unit)) [f] = some u ∧
      u.outbox = s.outbox ++ [⟨.frame, [unit, f.qp, f.length, b2n f.control]⟩] := by
  have hname := State.queueOfFrame_eq hqp
  unfold State.tryGroup
  simp only [hgate, Bool.not_true, Bool.false_eq_true, if_false, List.filter_cons, hname, hqueue, decide_true, if_true, List.filter_nil,
    List.map_cons, List.map_nil, beq_self_eq_true, hnode, Bool.and_self, sortNat, List.foldl_cons, List.foldl_nil, insertNat]
  generalize (fun n => match List.find? (fun f => s.nodeOf (s.queueOfFrame f.qp) unit == n) [f] with | some f => f.length | none => 0) = len
  obtain ⟨d, o, hdwrr⟩ := s.dwrr_singleton (2 ^ 20 + 16 * unit + s.groupOf (s.nodeOf (queueOfQp q.handle q.service) unit))
    (s.nodeOf (queueOfQp q.handle q.service) unit) s.weightOf len
  rw [hdwrr]
  exact ⟨_, rfl, State.sendFrom_single (s := { s with sch := { s.sch with deficit := d, turnOf := o } }) hqp hqueue⟩

/-- No other group has a node for it. -/
theorem State.tryGroup_other {pass group : Nat} (hgroup : group ≠ s.groupOf (s.nodeOf (queueOfQp q.handle q.service) unit)) :
    s.tryGroup unit pip pass group [f] = none := by
  have hname := State.queueOfFrame_eq hqp
  have hother : (s.groupOf (s.nodeOf (queueOfQp q.handle q.service) unit) == group) = false := by simpa using Ne.symm hgroup
  unfold State.tryGroup
  split
  · rfl
  · by_cases hqueue : 0 < s.bucket (queueOfQp q.handle q.service) 0 <;> simp [hname, hqueue, hother, sortNat]

/-- The pick tries the groups in falling order, all of them at committed rate first, and comes to the frame's. -/
theorem State.pick_single (hqueue : 0 < s.bucket (queueOfQp q.handle q.service) 0)
    (hnode : 0 < s.bucket (s.nodeOf (queueOfQp q.handle q.service) unit) 0)
    (hgate : s.gateOpen unit (s.groupOf (s.nodeOf (queueOfQp q.handle q.service) unit)) pip = true) :
    ∃ u, (([0, 1].flatMap fun pass => [7, 6, 5, 4, 3, 2, 1, 0].map fun g => (pass, g)).findSome? fun x => s.tryGroup unit pip x.1 x.2 [f]) = some u ∧
      u.outbox = s.outbox ++ [⟨.frame, [unit, f.qp, f.length, b2n f.control]⟩] := by
  obtain ⟨u, htry, hout⟩ := State.tryGroup_own hqp hqueue hnode hgate
  refine ⟨u, ?_, hout⟩
  have hgroup : s.groupOf (s.nodeOf (queueOfQp q.handle q.service) unit) < 8 := Nat.mod_lt _ (by decide)
  have hmem : ∀ g < 8, ((0 : Nat), g) ∈ [7, 6, 5, 4, 3, 2, 1, 0].map fun g : Nat => ((0 : Nat), g) := by decide
  have hfirst : ([7, 6, 5, 4, 3, 2, 1, 0].map fun g : Nat => ((0 : Nat), g)).findSome? (fun x => s.tryGroup unit pip x.1 x.2 [f]) = some u := by
    refine findSome?_unique (hmem _ hgroup) htry fun y hy hne => ?_
    obtain ⟨g, -, rfl⟩ := List.mem_map.mp hy
    exact State.tryGroup_other hqp fun h => hne (congrArg (Prod.mk 0) h)
  rw [List.flatMap_cons, List.findSome?_append, hfirst]
  rfl

end OneFrame

theorem Completes.pickControl {s : State} {unit : Nat} (hunit : unit < 16) (hon : s.unitOn unit = true) (hlink : (s.link unit).st = .up)
    {f : EgressFrame} (hcontrol : f.control = true) (pip : Nat) (l : List EgressFrame) :
    Completes (.egressPick unit pip (f :: l)) s fun t => Sent s t [⟨.frame, [unit, f.qp, f.length, 1]⟩] := by
  refine Completes.guard rfl (by simp [hunit, hon]) ?_
  simp only [hlink, bne_self_eq_false, Bool.false_and, Bool.false_eq_true, if_false, List.find?_cons, hcontrol, Sent, State.sendFrame_outbox]
  rfl

theorem Completes.pickData {s : State} {unit pip : Nat} {f : EgressFrame} {q : Qp} (hunit : unit < 16) (hon : s.unitOn unit = true)
    (hlink : (s.link unit).st = .up) (hdata : f.control = false) (hqp : s.qp? f.qp = some q) (hport : 0 < s.bucket (portEntry unit) (s.portBucket unit 0))
    (hqueue : 0 < s.bucket (queueOfQp q.handle q.service) 0) (hnode : 0 < s.bucket (s.nodeOf (queueOfQp q.handle q.service) unit) 0)
    (hgate : s.gateOpen unit (s.groupOf (s.nodeOf (queueOfQp q.handle q.service) unit)) pip = true) :
    Completes (.egressPick unit pip [f]) s fun t => Sent s t [⟨.frame, [unit, f.qp, f.length, 0]⟩] := by
  refine Completes.guard rfl (by simp [hunit, hon]) ?_
  obtain ⟨u, hpick, hout⟩ := State.pick_single hqp hqueue hnode hgate
  simp only [hlink, bne_self_eq_false, Bool.false_and, Bool.false_or, Bool.false_eq_true, if_false, List.find?_cons, List.find?_nil, hdata,
    decide_eq_true_eq, Int.not_le.mpr hport, List.filter_cons, hqp, Option.isSome_some, if_true, List.filter_nil, hpick, Option.getD_some]
  rw [Sent, hout, hdata]
  rfl

/-! ### Ingest -/

/-- A pull that the command, its blocks, its queue pair and the scheduler let pass leaves, and is counted on the command. -/
theorem Completes.pull {s : State} {qp unit seq length va rkey n total : Nat} {q : Qp} {e : CmdEnt} (hunit : unit < 16) (hon : s.unitOn unit = true)
    (hqp : s.qp? qp = some q) (hentry : s.entry seq = some e) (hdata : e.data = .keyed va rkey n)
    (hkind : (e.kind == .write || e.kind == .zoneAppend || e.kind == .tallyWrite) = true) (hadmitted : e.admitted = true) (hcarrier : e.io.qp = qp)
    (hst : q.st = .rts) (hsame : q.unit = unit) (hcarries : s.carries unit = true) (hlength : 0 < length)
    (htotal : e.io.nlb * (if e.kind == .tallyWrite then 4160 else 4096) = total) (hleft : e.pulled + length ≤ total)
    (hfits : q.inflight + length ≤ q.cwnd) (hmay : s.mayPull q unit = true)
    (hblocks : (s.ownBlocks seq e.io.nsid (if e.kind == .tallyWrite then [] else
      blockParts (e.firstLba * 4096) (e.firstLba * 4096 + total) (e.firstLba * 4096 + e.pulled) (e.firstLba * 4096 + e.pulled + length))).isSome = true) :
    Completes (.ingestPullIssue qp unit seq length) s fun t => Sent s t [⟨.pull, [qp, length]⟩] ∧
      ((t.entry seq).map fun x => x.pulled) = some (e.pulled + length) ∧ ((t.qp? qp).map fun x => x.reads) = some (q.reads ++ [(seq, length)]) := by
  obtain ⟨y, hy⟩ := Option.isSome_iff_exists.mp hblocks
  have hkept : Kept [.win] s y := State.ownBlocks_kept_eq hy (Kept.refl _ s) rfl
  refine Completes.guard rfl (by simp [hunit, hon]) ?_
  simp only [hqp, hentry, hst, hsame, hcarries, hadmitted, hdata, hkind, hcarrier, hlength, htotal, hleft, hfits, hmay, beq_self_eq_true, decide_true,
    Bool.true_or, Bool.and_self, if_true, hy]
  have hentry' : tget y.cmd.entries seq = some e := by rw [hkept.cmd]; exact hentry
  refine ⟨?_, ?_, ?_⟩
  · rw [Sent, (State.count_records _ _ _ _).1]
    exact congrArg (· ++ [⟨.pull, [qp, length]⟩]) hkept.outbox
  · rw [State.entry, (State.count_blocks _ _ _ _).2.2.2.2.2.2.2.2.2.2.1]
    simp [State.modEntry, State.setQp, tget_tmod_same _ hentry']
  · rw [State.qp?_count, State.qp?_emit]
    exact congrArg (Option.map _) (State.qp?_setQp y qp _)

theorem Completes.ingestHeld {s : State} {b : Nat} (hblack : s.sch.blackSince = some b) (hfirst : s.sch.heldArmed = none) (hdue : b + 1024 ≤ s.clock) :
    Completes .ingestHeldTimeout s fun t => Raises s t Ev.ingestHeld 0 0 ∧ t.sch.heldArmed = some s.clock := by
  refine ⟨_, rfl, ?_⟩
  simp only [hblack, hfirst, hdue, decide_true, if_true]
  refine ⟨State.raise_raises { s with sch := { s.sch with heldArmed := some s.clock } } _ _ _ _ _ _, ?_⟩
  rw [sch_of_kept (State.raise_kept _ _ _ _ _ _ (Kept.refl _ _) rfl)]

/-! ### Parameters -/

theorem Completes.paramWrite {s : State} (hup : s.inReset = false) (hidle : s.bankBit .params BankBit.commit = false)
    (hindex : s.rd (Reg.SCH_PARAM_SEL.forWriter .core) < 24840)
    (hok : paramOk (s.rd (Reg.SCH_PARAM_SEL.forWriter .core)) ((List.range 8).map fun k => s.rd (Reg.SCH_PARAM_DATA.forWriter .core) 0 k) = true) :
    Completes (.schParamWrite .core) s fun t => t.sch.params.act = s.sch.params.act ∧
      tget t.sch.params.shd (s.rd (Reg.SCH_PARAM_SEL.forWriter .core)) = some ((List.range 8).map fun k => s.rd (Reg.SCH_PARAM_DATA.forWriter .core) 0 k) := by
  refine ⟨_, rfl, ?_⟩
  generalize hwords : (List.range 8).map (fun k => s.rd (Reg.SCH_PARAM_DATA.forWriter .core) 0 k) = words at hok ⊢
  have hlength : words.length = 8 := by rw [← hwords, List.length_map, List.length_range]
  have htake : (words ++ List.replicate 8 0).take 8 = words := by rw [← hlength, List.take_left]
  simp only [State.up, hup, State.coreOnly, hidle, State.shadowPut, hindex, hok, htake]
  simp [Banked.put]

/-- The words of a parameter entry go to the writer's data registers, and VALID is set. -/
theorem State.paramData_reads (s : State) (w : Writer) {words : List Nat} (hlength : words.length = 8) :
    (s.paramData w words).rd (Reg.SCH_PARAM_CTL_VALID.forWriter w) = 1 ∧ (s.paramData w words).sch = s.sch ∧
      ∀ k v, words[k]? = some v → (s.paramData w words).rd (Reg.SCH_PARAM_DATA.forWriter w) 0 k = v % 2 ^ 32 := by
  have hdef : s.paramData w words = (s.wrArray (Reg.SCH_PARAM_DATA.forWriter w) 0 words).wr (Reg.SCH_PARAM_CTL_VALID.forWriter w) 0 0 1 := rfl
  obtain ⟨hstride, hcount1, hcount2, hwidth⟩ := Reg.SCH_PARAM_DATA.forWriter_dims w
  obtain ⟨-, hone, hone', hbit⟩ := Reg.SCH_PARAM_CTL_VALID.forWriter_dims w
  refine ⟨?_, ?_, fun k v hv => ?_⟩
  · rw [hdef, State.rd_wr_same _ _ _ _ _ (by rw [hone]; decide) (by rw [hone']; decide), hbit]
    rfl
  · exact sch_of_kept (State.paramData_kept _ _ (Kept.refl _ s) rfl)
  · obtain ⟨hk, rfl⟩ := List.getElem?_eq_some_iff.mp hv
    rw [hdef, State.rd_wr_ne _ _ _ _ _ _ _ _ (Fld.key_flag_ne _ rfl rfl (by decide) rfl rfl w k).symm]
    have h := State.rd_wrArray (f := Reg.SCH_PARAM_DATA.forWriter w) (by rw [hstride]; decide) (by rw [hcount1]; decide) words s 0 k hk
      (by rw [hcount2, hlength]; decide)
    rwa [Nat.zero_add, hwidth] at h

theorem Completes.paramRead {s : State} {w : Writer} (hup : s.inReset = false) (hw : w ≠ .endpoint) :
    Completes (.schParamRead w) s fun t => t.rd (Reg.SCH_PARAM_CTL_VALID.forWriter w) = 1 ∧ t.sch = s.sch ∧
      (List.range 8).map (fun k => t.rd (Reg.SCH_PARAM_DATA.forWriter w) 0 k) = (s.paramWords (s.rd (Reg.SCH_PARAM_SEL.forWriter w))).map (· % 2 ^ 32) := by
  have hw' : (w == .endpoint) = false := by simpa using hw
  generalize hwords : s.paramWords (s.rd (Reg.SCH_PARAM_SEL.forWriter w)) = words
  have hlength : words.length = 8 := by rw [← hwords, State.paramWords, List.length_map, List.length_range]
  have hexec : exec (.schParamRead w) s = .next (s.paramData w words) := by
    change execSchParamRead w s = _
    simp only [execSchParamRead, State.acts, State.up, hup, hw', hwords, Bool.false_and, Bool.false_eq_true, if_false]
  obtain ⟨hvalid, hsch, hdata⟩ := s.paramData_reads w hlength
  refine ⟨_, hexec, hvalid, hsch, List.ext_getElem (by simp [hlength]) fun k hk hk' => ?_⟩
  simp only [List.length_map] at hk'
  simp only [List.getElem_map, List.getElem_range]
  exact hdata k _ (List.getElem?_eq_getElem hk')

theorem State.liveWord_lt (s : State) (i k : Nat) : s.liveWord i k < 2 ^ 32 := by
  unfold State.liveWord
  omega

theorem Completes.paramReadLive {s : State} {w : Writer} (hup : s.inReset = false) (hw : w ≠ .endpoint) :
    Completes (.schParamReadLive w) s fun t => t.rd (Reg.SCH_PARAM_CTL_VALID.forWriter w) = 1 ∧ t.sch = s.sch ∧
      t.rd (Reg.SCH_PARAM_DATA.forWriter w) 0 5 = s.liveWord (s.rd (Reg.SCH_PARAM_SEL.forWriter w)) 0 ∧
      t.rd (Reg.SCH_PARAM_DATA.forWriter w) 0 6 = s.liveWord (s.rd (Reg.SCH_PARAM_SEL.forWriter w)) 1 := by
  have hw' : (w == .endpoint) = false := by simpa using hw
  generalize hi : s.rd (Reg.SCH_PARAM_SEL.forWriter w) = i
  obtain ⟨third, hexec⟩ : ∃ third, exec (.schParamReadLive w) s =
      .next (s.paramData w ((s.paramWords i).take 5 ++ [s.liveWord i 0, s.liveWord i 1, third])) := by
    change ∃ third, execSchParamReadLive w s = _
    simp only [execSchParamReadLive, State.acts, State.up, hup, hw', hi, Bool.false_and, Bool.false_eq_true, if_false]
    exact ⟨_, rfl⟩
  have htake : ((s.paramWords i).take 5).length = 5 := by simp [State.paramWords]
  obtain ⟨hvalid, hsch, hdata⟩ := s.paramData_reads w (words := (s.paramWords i).take 5 ++ [s.liveWord i 0, s.liveWord i 1, third]) (by simp [htake])
  refine ⟨_, hexec, hvalid, hsch, ?_, ?_⟩
  · rw [hdata 5 (s.liveWord i 0) (by rw [List.getElem?_append_right (by omega), htake]; rfl), Nat.mod_eq_of_lt (s.liveWord_lt i 0)]
  · rw [hdata 6 (s.liveWord i 1) (by rw [List.getElem?_append_right (by omega), htake]; rfl), Nat.mod_eq_of_lt (s.liveWord_lt i 1)]

/-- Settles O17: the pick of one frame by `pick_single`, pulls by `Completes.pull`, the parameter commands by what their registers read. -/
theorem schedulingCommands : Obligations.SchedulingCommands := by
  unfold Obligations.SchedulingCommands
  refine ⟨?_, ?_, ?_, ?_, ?_, ?_, ?_, ?_⟩
  · exact fun s unit pip f l hunit hon hlink hcontrol => Completes.pickControl hunit hon hlink hcontrol pip l
  · exact fun s unit pip f q hunit hon hlink hdata hqp hport hqueue hnode hgate => Completes.pickData hunit hon hlink hdata hqp hport hqueue hnode hgate
  · intro s qp unit seq length va rkey n q e hunit hon hqp hentry hdata hkind hadmitted hcarrier hst hsame hcarries hlength hleft hfits hmay
    exact Completes.pull hunit hon hqp hentry hdata (by simp [hkind]) hadmitted hcarrier hst hsame hcarries hlength (by simp [hkind]) hleft hfits hmay
      (by simp [hkind, State.ownBlocks])
  · intro s qp unit seq length va rkey n q e hunit hon hqp hentry hdata hkind hadmitted hcarrier hst hsame hcarries hlength hleft hfits hmay hblocks
    have htally : (e.kind == .tallyWrite) = false := by rcases hkind with h | h <;> rw [h] <;> rfl
    have hkind' : (e.kind == .write || e.kind == .zoneAppend || e.kind == .tallyWrite) = true := by rcases hkind with h | h <;> rw [h] <;> rfl
    obtain ⟨t, hexec, hsent, hpulled, -⟩ := Completes.pull hunit hon hqp hentry hdata hkind' hadmitted hcarrier hst hsame hcarries hlength
      (by rw [htally]; rfl) hleft hfits hmay (by rw [htally]; exact hblocks)
    exact ⟨t, hexec, hsent, hpulled⟩
  · exact fun s b hblack hfirst hdue => Completes.ingestHeld hblack hfirst hdue
  · exact fun s hup hidle hindex hok => Completes.paramWrite hup hidle hindex hok
  · exact fun s w hup hw => Completes.paramRead hup hw
  · exact fun s w hup hw => Completes.paramReadLive hup hw

end Sys2Proof.Machine


/-!
The commands of the Frogspawn buffer pool (R294, R298, R299, R303 to R307): what replacing a pool, taking a buffer, releasing one and a bad
pointer leave.
-/

namespace Sys2Proof.Machine

-- The check compiles the text as one file: elaborating these proofs one after another bounds its memory.
set_option Elab.async false

/-! ### Pools -/

/-- An enabled pool is one that there is. -/
theorem State.pool_lt {s : State} {n : Nat} (h : (s.pool n).en = true) : n < s.fsp.pools.length := by
  by_contra hout
  rw [State.pool, List.getD_eq_default _ _ (Nat.not_lt.mp hout)] at h
  exact absurd h (by decide)

theorem State.pool_setPool_same {s : State} {n : Nat} (h : n < s.fsp.pools.length) (p : Pool) : (s.setPool n p).pool n = p := by
  have hset : n < (s.fsp.pools.set n p).length := by simpa using h
  rw [State.pool, State.setPool]
  dsimp only
  rw [lset_eq_set, List.getD_eq_getElem _ _ hset, List.getElem_set_self]

/-- A buffer that has been taken has a count of 1 and its requester. -/
theorem State.takeFrom_desc {s t : State} {n req i : Nat} (h : s.takeFrom n req = some (i, t)) : tget t.fsp.descs i = some ⟨1, req, none⟩ := by
  unfold State.takeFrom at h
  dsimp only at h
  split at h
  · cases h
    exact tget_tset_same _ _ _
  · cases h

theorem State.alloc_desc {s t : State} {role cls req n i : Nat} (h : s.alloc role cls req = some (n, i, t)) : tget t.fsp.descs i = some ⟨1, req, none⟩ := by
  unfold State.alloc at h
  obtain ⟨m, -, hm⟩ := List.exists_of_findSome?_eq_some h
  obtain ⟨⟨j, u⟩, htake, heq⟩ := Option.map_eq_some_iff.mp hm
  cases heq
  exact State.takeFrom_desc htake

/-! ### Releasing a buffer -/

theorem State.decref_shared {s : State} {i : Nat} {d : BufDesc} (hd : tget s.fsp.descs i = some d) (href : 1 < d.ref) :
    s.decref i = { s with fsp := { s.fsp with descs := tset s.fsp.descs i { d with ref := d.ref - 1 } } } := by
  simp [State.decref, State.decrefChain, hd, Nat.not_le.mpr href]

theorem State.decref_last {s : State} {i : Nat} {d : BufDesc} (hd : tget s.fsp.descs i = some d) (href : d.ref ≤ 1) (hnext : d.next = none) :
    s.decref i = s.toCache i := by
  simp [State.decref, State.decrefChain, hd, href, hnext]

/-- A buffer whose count has reached 0 is described no more, and is at the head of its pool's cache. -/
theorem State.toCache_effect {s : State} {i n : Nat} (hpool : s.poolOfIndex i = some n) :
    tget (s.toCache i).fsp.descs i = none ∧ ((s.toCache i).pool n).cache = i :: (s.pool n).cache := by
  have hen : (s.pool n).en = true := by
    have h := List.find?_some hpool
    exact (Bool.and_eq_true_iff.mp (Bool.and_eq_true_iff.mp h).1).1
  have hlt : n < s.fsp.pools.length := State.pool_lt hen
  simp only [State.toCache, hpool]
  refine ⟨tget_tdel_same _ _, ?_⟩
  rw [State.pool_setPool_same (s := { s with fsp := { s.fsp with descs := tdel s.fsp.descs i } }) hlt]

/-! ### Bad pointers -/

/-- The reasons of the pointer checks are 1 to 4. -/
theorem State.resolveBuf_reason {s : State} {buf : BufRef} {reason n : Nat} (h : s.resolveBuf buf = .error (reason, n)) : reason < 8 := by
  cases buf with
  | pointer w =>
    simp only [State.resolveBuf] at h
    iterate 3
      split at h
      · cases h
        decide
    cases h
  | index i =>
    simp only [State.resolveBuf] at h
    split at h
    · cases h
    · cases h
      decide
  | address a =>
    simp only [State.resolveBuf] at h
    split at h
    · split at h
      · cases h
        decide
      · cases h
    · cases h
      decide

/-- A bad pointer is dropped with its reason. -/
theorem State.badPointer_effect (s : State) {reason : Nat} (hreason : reason < 8) (pool req : Nat) : (s.badPointer reason pool req).fsp = s.fsp ∧
    (s.badPointer reason pool req).rd Reg.FSP_BAD_LAST_REASON = reason ∧ Sent s (s.badPointer reason pool req) [⟨.buffer, [req, 2, reason]⟩] := by
  refine ⟨fsp_of_kept (State.badPointer_kept _ _ _ (Kept.refl _ s) rfl), ?_, ?_⟩
  · simp only [State.badPointer, State.rd_emit]
    rw [State.rd_raiseLim _ _ _ _ _ _ _ _ _ (by decide) (by decide) (by decide), State.rd_wr_ne _ _ _ _ _ _ _ _ (by decide),
      State.rd_wr_ne _ _ _ _ _ _ _ _ (by decide), State.rd_wr_ne _ _ _ _ _ _ _ _ (by decide), State.rd_wr_fits _ _ _ _ _ hreason (by decide) (by decide)]
  · simp [Sent, State.badPointer, State.raiseLim_records]

/-! ### Caches and rings -/

theorem Completes.cacheRefill {s : State} {n : Nat} (hn : n < 16) (hen : (s.pool n).en = true) (hlow : (s.pool n).cache.length < 256) :
    Completes (.fspCacheRefill n []) s fun t => (t.pool n).cache = (s.pool n).cache ++ (ringTake ((s.pool n).ring.length + 1) 256 (s.pool n).ring).1 ∧
      (t.pool n).ring = (ringTake ((s.pool n).ring.length + 1) 256 (s.pool n).ring).2 ∧ t.regs = s.regs := by
  refine Completes.guard rfl (by simp [hn]) ?_
  have hall : ∀ l : List Nat, l.filter (fun i => !([] : List Nat).contains i) = l := fun l => List.filter_eq_self.mpr (by simp)
  simp only [hen, hlow, decide_true, Bool.and_self, if_true, hall, Nat.sub_self, State.pool_setPool_same (State.pool_lt hen), true_and]
  rfl

theorem ringCount_append_singles (r : List (Nat × Nat)) (l : List Nat) : ringCount (r ++ l.map fun i => (i, 1)) = ringCount r + l.length := by
  simp [ringCount, Function.comp_def]

theorem Completes.cacheWriteback {s : State} {n : Nat} (hn : n < 16) (hen : (s.pool n).en = true) (hhigh : 768 < (s.pool n).cache.length) :
    Completes (.fspCacheWriteback n) s fun t => (t.pool n).cache = (s.pool n).cache.take ((s.pool n).cache.length - 256) ∧ (t.pool n).free = (s.pool n).free := by
  refine Completes.guard rfl (by simp [hn]) ?_
  simp only [hen, hhigh, decide_true, Bool.and_self, if_true, State.pool_setPool_same (State.pool_lt hen), Pool.free, ringCount_append_singles,
    List.length_take, List.length_drop, true_and]
  omega

/-- Settles O18: the pointer commands by `alloc_desc`, `decref_shared`, `decref_last` and `badPointer_effect`, the caches by what replacing a
pool leaves. The order of the indices in caches and rings is the model's own choice (notes/assumptions/66.md). -/
theorem frogspawnCommands : Obligations.FrogspawnCommands := by
  unfold Obligations.FrogspawnCommands
  refine ⟨?_, ?_, ?_, ?_, ?_, ?_, ?_, ?_, ?_, ?_⟩
  · intro s req role cls n i u halloc
    refine ⟨_, rfl, ?_⟩
    simp only [halloc, Sent, State.emit_outbox, State.emit_fsp]
    exact ⟨by rw [outbox_of_kept (State.alloc_kept_eq halloc (Kept.refl _ s) rfl)], State.alloc_desc halloc⟩
  · intro s req role cls halloc
    refine ⟨_, rfl, ?_⟩
    simp [halloc]
  · intro s req n i buf d hbuf hd href
    refine ⟨_, rfl, ?_⟩
    simp [hbuf, thas, hd, State.decref_shared hd href]
  · intro s req n i buf d hbuf hpool hd href hnext
    refine ⟨_, rfl, ?_⟩
    simp only [hbuf, thas, hd, Option.isSome_some, if_true, State.decref_last hd href hnext]
    exact State.toCache_effect hpool
  · intro s req reason n buf hbuf
    refine ⟨_, rfl, ?_⟩
    simp only [hbuf]
    exact s.badPointer_effect (State.resolveBuf_reason hbuf) n req
  · intro s req n i buf d hbuf hd href
    refine ⟨_, rfl, ?_⟩
    have hmin : min 255 (d.ref + 1) = d.ref + 1 := by omega
    simp [hbuf, hd, Nat.ne_of_lt href, State.incref, tget_tmod_same _ hd, hmin]
  · intro s req n i buf d hbuf hd href
    refine ⟨_, rfl, ?_⟩
    obtain ⟨hfsp, hreason, -⟩ := s.badPointer_effect (show 6 < 8 by decide) n req
    simp [hbuf, hd, href, hfsp, hreason]
  · exact fun s n hn hen hlow => Completes.cacheRefill hn hen hlow
  · exact fun s n hn hen hhigh => Completes.cacheWriteback hn hen hhigh
  · intro s hup
    refine ⟨_, rfl, ?_⟩
    simp [hup]

end Sys2Proof.Machine


/-!
Controllers and sessions (R249 to R251, R254, R257, R263, R264, R274, R275, R277, R631): what a controller is after the shared operations, and
with that Connect, properties, Identify, log pages, Abort, features, events and Keep Alive.
-/

namespace Sys2Proof.Machine

-- The check compiles the text as one file: elaborating these proofs one after another bounds its memory.
set_option Elab.async false

/-! ### A controller after a change of state -/

theorem State.ctrlOf_congr {s t : State} (h : t.cmd.ctrls = s.cmd.ctrls) (i : Nat) : t.ctrlOf i = s.ctrlOf i := by
  rw [State.ctrlOf, State.ctrlOf, h]

@[simp] theorem State.ctrlOf_setCtrl (s : State) (i : Nat) (c : Ctrl) : (s.setCtrl i c).ctrlOf i = some c := tget_tset_same _ _ _

theorem State.ctrlOf_modCtrl {s : State} {i : Nat} {c : Ctrl} (h : s.ctrlOf i = some c) (f : Ctrl → Ctrl) : (s.modCtrl i f).ctrlOf i = some (f c) :=
  tget_tmod_same f h

@[simp] theorem State.ctrlOf_emit (s : State) (k : OutKind) (args : List Nat) (i : Nat) : (s.emit k args).ctrlOf i = s.ctrlOf i := rfl

@[simp] theorem State.ctrlOf_reply (s : State) (ctrl cid : Nat) (st : Nat × Nat) (a b i : Nat) : (s.reply ctrl cid st a b).ctrlOf i = s.ctrlOf i :=
  State.ctrlOf_congr (congrArg Cmd.ctrls (cmd_of_kept (State.reply_kept _ _ _ _ _ (Kept.refl _ s) rfl))) i

@[simp] theorem State.ctrlOf_replyOk (s : State) (ctrl cid i : Nat) : (s.replyOk ctrl cid).ctrlOf i = s.ctrlOf i := s.ctrlOf_reply _ _ _ _ _ _

@[simp] theorem State.ctrlOf_replyErr (s : State) (ctrl cid : Nat) (st : Nat × Nat) (i : Nat) : (s.replyErr ctrl cid st).ctrlOf i = s.ctrlOf i :=
  s.ctrlOf_reply _ _ _ _ _ _

@[simp] theorem State.ctrlOf_raise (s : State) (src sev inst code v v2 i : Nat) : (s.raise src sev inst code v v2).ctrlOf i = s.ctrlOf i :=
  State.ctrlOf_congr (congrArg Cmd.ctrls (cmd_of_kept (State.raise_kept _ _ _ _ _ _ (Kept.refl _ s) rfl))) i

@[simp] theorem State.ctrlOf_ctrlStatus (s : State) (i : Nat) : s.ctrlStatus.ctrlOf i = s.ctrlOf i :=
  State.ctrlOf_congr (congrArg Cmd.ctrls (cmd_of_kept (State.ctrlStatus_kept (Kept.refl _ s) rfl))) i

@[simp] theorem State.ctrlStatus_outbox (s : State) : s.ctrlStatus.outbox = s.outbox :=
  outbox_of_kept (State.ctrlStatus_kept (Kept.refl _ s) rfl)

/-- The answer to a Connect carries the controller's identifier, and changes no controller. -/
theorem State.connectReply_effect (s : State) (ctrl cid : Nat) (i : Nat) :
    (s.connectReply ctrl cid St.ok).outbox = s.outbox ++ [⟨.completion, [ctrl, cid, 0, 0, ctrl, 0]⟩] ∧ (s.connectReply ctrl cid St.ok).ctrlOf i = s.ctrlOf i := by
  unfold State.connectReply
  exact ⟨(State.count_records _ _ _ _).1, State.ctrlOf_congr (congrArg Cmd.ctrls (cmd_of_kept (State.count_kept _ _ _ (Kept.refl _ _) rfl))) i⟩

/-- Data and the answer that follows it. -/
theorem State.dataOut_reply (s : State) (ctrl cid : Nat) (words : List Nat) (st : Nat × Nat) (a b : Nat) :
    Sends s ((s.dataOut ctrl cid words).reply ctrl cid st a b) ⟨.data, ctrl :: cid :: words⟩ ∧
      Answers s ((s.dataOut ctrl cid words).reply ctrl cid st a b) ctrl cid st :=
  ⟨State.sends_reply (by simp [Sends, State.dataOut]) _ _ _ _ _, State.reply_answers (List.prefix_append _ _) _ _ _ _ _⟩

/-! ### Commands that end -/

section Ctrls

variable (s : State)

theorem State.dropEntry_cmd {seq : Nat} {e : CmdEnt} (h : s.entry seq = some e) :
    (s.dropEntry seq).cmd.ctrls = s.cmd.ctrls ∧ (s.dropEntry seq).cmd.entries = tdel s.cmd.entries seq ∧ (s.dropEntry seq).outbox = s.outbox := by
  refine ⟨?_, ?_, outbox_of_kept (State.dropEntry_kept _ (Kept.refl _ s) rfl)⟩
  · simp only [State.dropEntry, h]
    rw [cmd_of_kept (State.cmdStatus_kept (State.releaseBlocks_kept _ (Kept.refl _ _) rfl) rfl)]
  · simp only [State.dropEntry, h]
    rw [cmd_of_kept (State.cmdStatus_kept (State.releaseBlocks_kept _ (Kept.refl _ _) rfl) rfl)]

theorem State.finishOne_ctrls (seq : Nat) (st : Nat × Nat) (a b : Nat) : (s.finishOne seq st a b).cmd.ctrls = s.cmd.ctrls := by
  unfold State.finishOne
  split
  · rfl
  · next e he =>
    have hdrop := (s.dropEntry_cmd he).1
    dsimp only
    split
    · exact hdrop
    · cases e.kind.counter <;> simp [State.complete, apply_ite State.cmd, hdrop]

theorem foldl_ctrls {α : Type} {f : State → α → State} (hf : ∀ t x, (f t x).cmd.ctrls = t.cmd.ctrls) (l : List α) :
    (l.foldl f s).cmd.ctrls = s.cmd.ctrls := by
  induction l generalizing s with
  | nil => rfl
  | cons x l ih => rw [List.foldl_cons, ih, hf]

theorem State.settleFlushes_ctrls : s.settleFlushes.cmd.ctrls = s.cmd.ctrls :=
  foldl_ctrls s (fun t (p : Nat × CmdEnt) => by
    split
    · exact t.finishOne_ctrls _ _ _ _
    · rfl) _

theorem State.resetEntry_ctrls (carries : Bool) (seq : Nat) : (s.resetEntry carries seq).cmd.ctrls = s.cmd.ctrls := by
  unfold State.resetEntry
  split
  · rfl
  · split
    · split
      · exact s.finishOne_ctrls _ _ _ _
      · exact State.finishOne_ctrls _ _ _ _ _
    · split
      · rfl
      · exact State.finishOne_ctrls _ _ _ _ _

theorem State.resetQueues_ctrls (ctrl : Nat) (qp : Option Nat) (carries : Bool) : (s.resetQueues ctrl qp carries).cmd.ctrls = s.cmd.ctrls :=
  (State.settleFlushes_ctrls _).trans (foldl_ctrls s (fun t (p : Nat × CmdEnt) => t.resetEntry_ctrls carries p.1) _)

end Ctrls

theorem State.endSelfTest_ctrls (s : State) (result segment : Nat) : (s.endSelfTest result segment).cmd.ctrls = s.cmd.ctrls := by
  unfold State.endSelfTest
  split
  · rfl
  · rw [cmd_of_kept (State.raise_kept _ _ _ _ _ _ (Kept.refl _ _) rfl)]
    rfl

/-- A controller that is reset is neither enabled nor ready, and no event request waits. -/
theorem State.resetController_ctrl {s : State} {ctrl : Nat} {c : Ctrl} (h : s.ctrlOf ctrl = some c) (carries : Bool) :
    (s.resetController ctrl carries).ctrlOf ctrl = some { c with ready := false, enabled := false, aers := [] } := by
  have hreset : ((s.resetQueues ctrl none carries).modCtrl ctrl fun c => { c with ready := false, enabled := false, aers := [] }).ctrlOf ctrl =
      some { c with ready := false, enabled := false, aers := [] } :=
    State.ctrlOf_modCtrl ((State.ctrlOf_congr (s.resetQueues_ctrls ctrl none carries) ctrl).trans h) _
  unfold State.resetController
  dsimp only
  split
  · split
    · rw [State.ctrlOf_congr (State.endSelfTest_ctrls _ _ _) ctrl, hreset]
    · exact hreset
  · exact hreset

/-! ### Connect -/

/-- Connect on an admin queue makes the session or controller on the identifier it takes. -/
theorem State.connectAdmin_makes {s : State} {q : Qp} {qp cid subnqn hostnqn sqsize kato tenant c : Nat} (hservice : (q.service == 1) = (subnqn == 1))
    (hlow : 2 ≤ sqsize) (hhigh : sqsize ≤ 32) (hkato : 1000 ≤ kato) (hkato' : kato ≤ 3600000)
    (htenant : (if (subnqn == 1) = true then some 0 else s.tenantOfHost hostnqn) = some tenant) (hfree : s.freeCtrl = some c) :
    (s.connectAdmin q qp cid subnqn hostnqn sqsize kato).ctrlOf c = some (Ctrl.fresh (subnqn == 1) hostnqn tenant qp (turnsOfMs kato) s.clock) ∧
      (s.connectAdmin q qp cid subnqn hostnqn sqsize kato).outbox = s.outbox ++ [⟨.completion, [c, cid, 0, 0, c, 0]⟩] := by
  simp only [State.connectAdmin, hservice, bne_self_eq_false, Nat.not_lt.mpr hlow, Nat.not_lt.mpr hhigh, Nat.not_lt.mpr hkato, Nat.not_lt.mpr hkato',
    decide_false, Bool.or_self, Bool.false_eq_true, if_false, htenant, hfree]
  obtain ⟨hout, hctrl⟩ := State.connectReply_effect (s.setCtrl c (Ctrl.fresh (subnqn == 1) hostnqn tenant qp (turnsOfMs kato) s.clock)).ctrlStatus c cid c
  exact ⟨by rw [hctrl, State.ctrlOf_ctrlStatus, State.ctrlOf_setCtrl], by rw [hout, State.ctrlStatus_outbox, State.setCtrl_outbox]⟩

/-- A Connect from a queue pair in RTS that carries no queue yet. -/
theorem exec_fabricsConnect_admin {s : State} {qp cid subnqn hostnqn sqsize kato : Nat} {q : Qp} (hqp : s.qp? qp = some q) (hst : q.st = .rts)
    (hnew : s.queueOf qp = none) (hsub : subnqn ≤ 1) :
    exec (.fabricsConnect qp cid none subnqn hostnqn 0 sqsize kato) s = .next (s.connectAdmin q qp cid subnqn hostnqn sqsize kato) := by
  change execFabricsConnect qp cid none subnqn hostnqn 0 sqsize kato s = _
  simp [execFabricsConnect, hqp, hst, hnew, Nat.not_lt.mpr hsub]

theorem Completes.connectIo {s : State} {qp cid ctrl qid sqsize kato : Nat} {q : Qp} {c : Ctrl} (hqp : s.qp? qp = some q) (hst : q.st = .rts)
    (hnew : s.queueOf qp = none) (hctrl : s.ctrlOf ctrl = some c) (hio : c.mgmt = false) (hready : c.ready = true) (hqid : 1 ≤ qid)
    (hmax : qid ≤ c.numQueues.getD 64) (hlow : 2 ≤ sqsize) (hhigh : sqsize ≤ 1024) (hunused : (c.queues.any fun x => x.1 == qid) = false) :
    Completes (.fabricsConnect qp cid (some ctrl) 0 c.host qid sqsize kato) s fun t => t.ctrlOf ctrl = some { c with queues := c.queues ++ [(qid, qp)] } ∧
      Sent s t [⟨.completion, [ctrl, cid, 0, 0, ctrl, 0]⟩] := by
  have hok : (c.mgmt || c.host != c.host || !c.ready || decide (qid < 1) || decide (c.numQueues.getD 64 < qid) || decide (sqsize < 2) ||
      decide (1024 < sqsize) || c.queues.any fun x => x.1 == qid) = false := by
    simp only [hio, bne_self_eq_false, hready, Nat.not_lt.mpr hqid, Nat.not_lt.mpr hmax, Nat.not_lt.mpr hlow, Nat.not_lt.mpr hhigh, hunused]
    rfl
  have hexec : exec (.fabricsConnect qp cid (some ctrl) 0 c.host qid sqsize kato) s =
      .next ((s.setCtrl ctrl { c with queues := c.queues ++ [(qid, qp)] }).connectReply ctrl cid St.ok) := by
    change execFabricsConnect qp cid (some ctrl) 0 c.host qid sqsize kato s = _
    simp only [execFabricsConnect, hqp, hst, hnew, State.connectIo, hctrl, hok]
    rfl
  refine ⟨_, hexec, ?_⟩
  obtain ⟨hout, hctrl'⟩ := State.connectReply_effect (s.setCtrl ctrl { c with queues := c.queues ++ [(qid, qp)] }) ctrl cid ctrl
  exact ⟨by rw [hctrl', State.ctrlOf_setCtrl], by rw [Sent, hout, State.setCtrl_outbox]⟩

/-! ### Abort -/

/-- The only command of the table, not yet admitted, ends with its status and leaves the table empty. -/
theorem State.finish_only {s : State} {seq : Nat} {e : CmdEnt} (htable : s.cmd.entries = [(seq, e)]) (hlive : e.discard = false) (hkind : e.kind ≠ .reseal)
    (st : Nat × Nat) (a b : Nat) : (s.finish seq st a b).outbox = s.outbox ++ [⟨.completion, [e.io.ctrl, e.io.cid, st.1, st.2, a, b]⟩] ∧
      (s.finish seq st a b).cmd.entries = [] := by
  have hentry : s.entry seq = some e := by simp [State.entry, htable, tget]
  obtain ⟨-, hdropped, hquiet⟩ := s.dropEntry_cmd hentry
  have hempty : tdel s.cmd.entries seq = [] := by simp [htable, tdel]
  have hseal : (e.kind == .reseal) = false := by simpa using hkind
  have hone : (s.finishOne seq st a b).outbox = s.outbox ++ [⟨.completion, [e.io.ctrl, e.io.cid, st.1, st.2, a, b]⟩] ∧
      (s.finishOne seq st a b).cmd.entries = [] := by
    simp only [State.finishOne, hentry, hlive, hseal, Bool.or_self, Bool.false_eq_true, if_false]
    generalize hu : State.complete _ e.io.ctrl e.io.cid st a b = u
    have hu' : u.outbox = s.outbox ++ [⟨.completion, [e.io.ctrl, e.io.cid, st.1, st.2, a, b]⟩] ∧ u.cmd.entries = [] := by
      rw [← hu]
      exact ⟨by rw [State.complete, State.emit_outbox, hquiet], by rw [State.complete, State.emit_cmd, hdropped, hempty]⟩
    cases e.kind.counter <;> simp [apply_ite State.outbox, apply_ite State.cmd, hu']
  unfold State.finish State.settleFlushes
  rw [hone.2]
  exact hone

/-! ### The commands -/

theorem Completes.propertyGet {s : State} {ctrl cid offset v : Nat} {c : Ctrl} (hserves : Serves s ctrl .always) (hctrl : s.ctrlOf ctrl = some c)
    (hv : s.property c offset = some v) : Completes (.propertyGet ctrl cid offset) s fun t => Sends s t ⟨.data, [ctrl, cid, v]⟩ ∧ Answers s t ctrl cid St.ok := by
  refine Completes.served rfl hserves ?_
  simp only [hctrl, hv]
  exact s.dataOut_reply ctrl cid [v] St.ok _ _

theorem Completes.propertySet {s : State} {ctrl cid value : Nat} {c : Ctrl} (hserves : Serves s ctrl .always) (hctrl : s.ctrlOf ctrl = some c)
    (hen : bitOf value 0 = true) (hshn : bitsOf value 14 2 = 0) :
    Completes (.propertySet ctrl cid 0x14 value) s fun t => Answers s t ctrl cid St.ok ∧ t.ctrlOf ctrl = some { c with cc := value % 2 ^ 32, enabled := true, ready := true } := by
  refine Completes.served rfl hserves ?_
  simp only [hctrl, hen, hshn, bne_self_eq_false, Bool.not_true, Bool.and_false, Bool.or_self, Bool.false_eq_true, if_false, beq_self_eq_true, Bool.and_self,
    if_true]
  refine ⟨by simp [Answers], ?_⟩
  rw [State.ctrlOf_replyOk, State.ctrlOf_modCtrl (State.ctrlOf_setCtrl _ _ _)]

theorem Completes.abort {s : State} {ctrl cid qp seq : Nat} {e : CmdEnt} (hserves : Serves s ctrl .both) (htable : s.cmd.entries = [(seq, e)])
    (hctrl : e.io.ctrl = ctrl) (hqp : e.io.qp = qp) (hwaits : e.admitted = false) (hlive : e.discard = false) (hkind : e.kind ≠ .reseal) :
    Completes (.abort ctrl cid qp e.io.cid) s fun t => Answers s t ctrl e.io.cid St.abortRequested ∧ AnswersLast t ctrl cid St.ok ∧ t.entry seq = none := by
  refine Completes.served rfl hserves ?_
  have hfound : ([(seq, e)].find? fun p => p.2.io.ctrl == ctrl && p.2.io.qp == qp && p.2.io.cid == e.io.cid && !p.2.admitted) = some (seq, e) := by
    simp [hctrl, hqp, hwaits]
  simp only [htable, hfound]
  obtain ⟨hout, hentries⟩ := State.finish_only htable hlive hkind St.abortRequested 0 0
  refine ⟨?_, State.reply_answersLast _ _ _ _ _ _, ?_⟩
  · rw [Answers, State.reply_outbox, hout, hctrl]
    simp
  · rw [State.entry, cmd_of_kept (State.reply_kept _ _ _ _ _ (Kept.refl _ _) rfl), hentries]
    rfl

theorem Completes.abortNothing {s : State} {ctrl cid qp target : Nat} (hserves : Serves s ctrl .both)
    (hnone : (s.cmd.entries.find? fun p => p.2.io.ctrl == ctrl && p.2.io.qp == qp && p.2.io.cid == target && !p.2.admitted) = none) :
    Completes (.abort ctrl cid qp target) s fun t => Sent s t [⟨.completion, [ctrl, cid, 0, 0, 1, 0]⟩] ∧ t.cmd = s.cmd := by
  refine Completes.served rfl hserves ?_
  simp only [hnone]
  exact ⟨s.reply_outbox _ _ _ _ _, cmd_of_kept (State.reply_kept _ _ _ _ _ (Kept.refl _ s) rfl)⟩

theorem Completes.keepAliveExpiry {s : State} {ctrl : Nat} {c : Ctrl} (hctrl : s.ctrlOf ctrl = some c) (hhost : isMailbox ctrl = false)
    (hdue : expired c.lastKeep c.kato s.clock = true) :
    Completes (.keepAliveExpiry ctrl) s fun t => ((t.ctrlOf ctrl).map fun x => (x.enabled, x.ready, x.aers)) = some (false, false, []) := by
  refine ⟨_, rfl, ?_⟩
  simp only [hctrl, hhost, hdue, Bool.not_false, Bool.and_self, if_true]
  rw [State.resetController_ctrl ((s.ctrlOf_raise _ _ _ _ _ _ ctrl).trans hctrl)]
  rfl

/-- Settles O19, command by command. That a Connect takes the lowest free identifier (notes/assumptions/41.md), and what a management Connect
and a Connect on an I/O queue ask for (notes/assumptions/51.md), are the model's own choices. -/
theorem controllerCommands : Obligations.ControllerCommands := by
  unfold Obligations.ControllerCommands
  refine ⟨?_, ?_, ?_, ?_, ?_, ?_, ?_, ?_, ?_, ?_, ?_, ?_, ?_, ?_, ?_⟩
  · intro s qp cid hostnqn sqsize kato c q hqp hst hservice hnew hlow hhigh hkato hkato' hfree
    exact ⟨_, exec_fabricsConnect_admin hqp hst hnew (le_refl 1), State.connectAdmin_makes (by simp [hservice]) hlow hhigh hkato hkato' rfl hfree⟩
  · intro s qp cid hostnqn sqsize kato c tenant q hqp hst hservice hnew hlow hhigh hkato hkato' htenant hfree
    exact ⟨_, exec_fabricsConnect_admin hqp hst hnew (Nat.zero_le 1), State.connectAdmin_makes (by simpa using hservice) hlow hhigh hkato hkato' htenant hfree⟩
  · exact fun s qp cid ctrl qid sqsize kato q c hqp hst hnew hctrl hio hready hqid hmax hlow hhigh hunused =>
      Completes.connectIo hqp hst hnew hctrl hio hready hqid hmax hlow hhigh hunused
  · exact fun s ctrl cid offset v c hserves hctrl hv => Completes.propertyGet hserves hctrl hv
  · exact fun s ctrl cid value c hserves hctrl hen hshn => Completes.propertySet hserves hctrl hen hshn
  · intro s ctrl cid cns nsid csi c l hserves hctrl hcns hl
    refine Completes.served rfl hserves ?_
    simp only [hctrl, hcns, hl, Bool.not_true, Bool.false_eq_true, if_false]
    exact s.dataOut_reply ctrl cid (cns :: l) St.ok 0 0
  · intro s ctrl cid lid offset dwords c hserves hctrl hlid hoffset
    refine Completes.served rfl hserves ?_
    simp only [hctrl, hlid, hoffset, Bool.not_true, Bool.false_eq_true, if_false, bne_self_eq_false]
    split
    · exact ⟨State.sends_reply (by simp [Sends, State.dataOut]) _ _ _ _ _, State.reply_answers (List.prefix_append _ _) _ _ _ _ _⟩
    · exact s.dataOut_reply ctrl cid _ St.ok 0 0
  · exact fun s ctrl cid qp seq e hserves htable hctrl hqp hwaits hlive hkind => Completes.abort hserves htable hctrl hqp hwaits hlive hkind
  · exact fun s ctrl cid qp target hserves hnone => Completes.abortNothing hserves hnone
  · intro s ctrl cid value c hserves hctrl
    refine Completes.served rfl hserves ?_
    simp [hctrl, Answers]
  · intro s ctrl cid value c hserves hctrl hfirst
    refine Completes.served rfl hserves ?_
    simp [hctrl, hfirst, Answers, State.reply_outbox]
  · intro s ctrl cid fid sel v c hserves hctrl hv
    refine Completes.served rfl hserves ?_
    simp only [hctrl, hv]
    exact s.reply_outbox _ _ _ _ _
  · intro s ctrl cid c hserves hctrl hroom hquiet
    refine Completes.served rfl hserves ?_
    simp [hctrl, Nat.not_le.mpr hroom, State.pumpAer, hquiet]
  · intro s ctrl cid c hserves hctrl
    refine Completes.served rfl hserves ?_
    simp [Answers, State.ctrlOf_modCtrl hctrl]
  · exact fun s ctrl c hctrl hhost hdue => Completes.keepAliveExpiry hctrl hhost hdue

end Sys2Proof.Machine


/-!
The commands of sessions (R96, R255, R261, R283 to R285): namespaces, self-tests, challenges and authentication.
-/

namespace Sys2Proof.Machine

-- The check compiles the text as one file: elaborating these proofs one after another bounds its memory.
set_option Elab.async false

/-! ### Events and answers -/

/-- An answer raises no event. -/
@[simp] theorem State.reply_raised (s : State) (ctrl cid : Nat) (st : Nat × Nat) (a b : Nat) : (s.reply ctrl cid st a b).evt.raised = s.evt.raised := by
  unfold State.reply
  dsimp only
  split
  · split
    · simp [State.complete]
    · split <;> simp [State.complete, State.mailboxPost]
  · simp [State.complete]

@[simp] theorem State.replyOk_raised (s : State) (ctrl cid : Nat) : (s.replyOk ctrl cid).evt.raised = s.evt.raised := s.reply_raised _ _ _ _ _

@[simp] theorem State.replyErr_raised (s : State) (ctrl cid : Nat) (st : Nat × Nat) : (s.replyErr ctrl cid st).evt.raised = s.evt.raised :=
  s.reply_raised _ _ _ _ _

/-! ### Namespaces -/

@[simp] theorem State.nsOf_reply (s : State) (ctrl cid : Nat) (st : Nat × Nat) (a b i : Nat) : (s.reply ctrl cid st a b).nsOf i = s.nsOf i :=
  congrArg (fun c : Cmd => tget c.nss i) (cmd_of_kept (State.reply_kept _ _ _ _ _ (Kept.refl _ s) rfl))

/-- A notice to controllers changes no namespace, and only sends more. -/
theorem State.asyncNotice_nss (s : State) (bit dw0 : Nat) (p : Nat → Ctrl → Bool) :
    (s.asyncNotice bit dw0 p).cmd.nss = s.cmd.nss ∧ s.outbox <+: (s.asyncNotice bit dw0 p).outbox := by
  unfold State.asyncNotice
  refine List.foldlRecOn (motive := fun t : State => t.cmd.nss = s.cmd.nss ∧ s.outbox <+: t.outbox) _ _ ⟨rfl, List.prefix_rfl⟩ fun t ht x _ => ?_
  obtain ⟨hnss, hgrow⟩ := ht
  split
  · split
    · exact ⟨hnss, hgrow.trans (List.prefix_append _ _)⟩
    · exact ⟨hnss, hgrow⟩
  · exact ⟨hnss, hgrow⟩

/-- A namespace that is stored is there, and the notices of the change are sent. -/
theorem State.putNs_nsOf (s : State) (nsid : Nat) (n : Ns) : (s.putNs nsid n).nsOf nsid = some n ∧ s.outbox <+: (s.putNs nsid n).outbox := by
  unfold State.putNs State.nsNotice
  dsimp only
  generalize hu : ({ State.mdWrite _ _ with cmd := _ } : State) = u
  obtain ⟨hnss, hgrow⟩ := u.asyncNotice_nss 8 (2 + 2 ^ 16 * 4) fun _ c => !c.mgmt && c.tenant == n.tenant
  rw [State.nsOf, hnss]
  subst hu
  exact ⟨tget_tset_same _ _ _, hgrow⟩

theorem Completes.namespaceCreate {s : State} {ctrl cid size : Nat} {n : SecNamespace} (hserves : Serves s ctrl (.mgmt (some RoleBit.admin)))
    (hactive : s.cfg.state = .active) (hslots : s.nsSlots = [n]) (hfree : s.nsOf n.nsid = none) (hsize : size ≠ 0) (hcap : size ≤ n.maxCap) :
    Completes (.namespaceCreate ctrl cid (csiOf n.nsType) n.lbaSize size) s fun t => t.nsOf n.nsid = some ⟨n.nsType, n.lbaSize, size, n.tenant⟩ ∧
      Sends s t ⟨.completion, [ctrl, cid, 0, 0, n.nsid, 0]⟩ := by
  refine Completes.served rfl hserves ?_
  have hfits : ([n].filter fun x => csiOf x.nsType == csiOf n.nsType && x.lbaSize == n.lbaSize && (s.nsOf x.nsid).isNone) = [n] := by simp [hfree]
  simp only [State.ifActive, hactive, beq_self_eq_true, if_true, hslots, hfits, List.foldl_cons, List.foldl_nil, hsize, Nat.not_lt.mpr hcap, decide_false,
    Bool.or_self, Bool.false_eq_true, if_false]
  obtain ⟨hput, l, hl⟩ := s.putNs_nsOf n.nsid { type := n.nsType, lbaSize := n.lbaSize, size := size, tenant := n.tenant }
  refine ⟨by rw [State.nsOf_reply, hput], ?_⟩
  rw [Sends, State.reply_outbox, ← hl]
  simp

theorem Completes.namespaceDelete {s : State} {ctrl cid nsid : Nat} {n : Ns} (hserves : Serves s ctrl (.mgmt (some RoleBit.admin)))
    (hactive : s.cfg.state = .active) (hns : s.nsOf nsid = some n) :
    Completes (.namespaceDelete ctrl cid nsid) s fun t => t.nsOf nsid = none ∧ AnswersLast t ctrl cid St.ok := by
  refine Completes.served rfl hserves ?_
  simp only [State.ifActive, hactive, beq_self_eq_true, if_true, hns]
  refine ⟨?_, State.reply_answersLast _ _ _ _ _ _⟩
  rw [State.replyOk, State.nsOf_reply, State.nsNotice, State.nsOf, (State.asyncNotice_nss _ _ _ _).1]
  exact tget_tdel_same _ _

theorem Completes.namespaceResize {s : State} {ctrl cid nsid size : Nat} {n : Ns} {c : SecNamespace} (hserves : Serves s ctrl (.mgmt (some RoleBit.admin)))
    (hactive : s.cfg.state = .active) (hns : s.nsOf nsid = some n) (hslot : (s.nsSlots.find? fun x => x.nsid == nsid) = some c) (hsize : size ≠ 0)
    (hcap : size ≤ c.maxCap) :
    Completes (.namespaceResize ctrl cid nsid size) s fun t => t.nsOf nsid = some { n with size := size } ∧ AnswersLast t ctrl cid St.ok := by
  refine Completes.served rfl hserves ?_
  simp only [State.ifActive, hactive, beq_self_eq_true, if_true, hns, hslot, hsize, if_false, Option.map_some, Option.getD_some, Nat.not_lt.mpr hcap]
  refine ⟨?_, State.reply_answersLast _ _ _ _ _ _⟩
  rw [State.replyOk, State.nsOf_reply, (State.putNs_nsOf _ _ _).1]

/-! ### Self-tests -/

/-- A test that may start is noted with its kind, and answered. -/
theorem State.startTest_starts {s : State} {kind : Nat} {more : State → State} (hactive : s.cfg.state = .active) (hnone : s.cmd.selfTest = none)
    (hkind : kind < 4) (hmore : ∀ u : State, Kept [.axl] u (more u)) (ctrl cid : Nat) :
    (s.startTest ctrl cid kind 0xFFFFFFFF more).cmd.selfTest = some ⟨kind, 2047, ctrl, false⟩ ∧
      (s.startTest ctrl cid kind 0xFFFFFFFF more).rd Reg.CMD_ST_KIND = kind ∧ Answers s (s.startTest ctrl cid kind 0xFFFFFFFF more) ctrl cid St.ok := by
  simp only [State.startTest, hactive, hnone, bne_self_eq_false, Bool.false_and, Option.isSome_none, Bool.false_eq_true, if_false, if_true]
  generalize hu : State.wr _ Reg.CMD_ST_NSID 0 0 2047 = u
  have hkept := hmore u
  refine ⟨?_, ?_, ?_⟩
  · rw [(State.replyOk_blocks _ _ _).2.2.2.2.2.2.2.2.2.2.1, hkept.cmd, ← hu]
    rfl
  · rw [State.rd_replyOk _ _ _ (by decide) (by decide) (by decide), hkept.rd_outside [] (by decide) (by decide) (by decide), ← hu,
      State.rd_wr_ne _ _ _ _ _ _ _ _ (by decide), State.rd_wr_ne _ _ _ _ _ _ _ _ (by decide), State.rd_wr_fits _ _ _ _ _ hkind (by decide) (by decide)]
  · rw [Answers, State.replyOk_outbox, hkept.outbox, ← hu]
    simp

theorem State.startScrubs_axl (nsid : Nat) (u : State) : Kept [.axl] u (u.startScrubs nsid) := State.startScrubs_kept _ (Kept.refl _ u) rfl

/-- A test that ends leaves its result, and says so. -/
theorem State.endSelfTest_ends {s : State} {x : SelfTest} (h : s.cmd.selfTest = some x) (result segment : Nat) :
    (s.endSelfTest result segment).cmd.selfTest = none ∧ (s.endSelfTest result segment).cmd.stResults = ((result, segment) :: s.cmd.stResults).take 20 ∧
      Raises s (s.endSelfTest result segment) Ev.selfTestComplete x.nsid result := by
  simp only [State.endSelfTest, h, State.raise_cmd]
  exact ⟨rfl, rfl, Raises.after (State.raise_raises _ _ _ _ _ _ _) List.prefix_rfl⟩

/-! ### Authentication -/

theorem Completes.authenticate {s : State} {ctrl cid principal signature ch pub mask : Nat} {c : Ctrl} {i : Image} (hserves : Serves s ctrl .mgmtOpen)
    (hctrl : s.ctrlOf ctrl = some c) (hch : c.challenge = some ch) (hrun : s.cfg.running = some i) (hrole : i.roles[principal % 64]? = some (pub, mask))
    (hfirst : c.authFails = 0) :
    Completes (.authenticate ctrl cid principal signature) s fun t =>
      match Config.edVerify pub (s.sessionDigest ctrl ch) signature with
      | true => t.ctrlOf ctrl = some { c with roles := some mask, challenge := none } ∧ Answers s t ctrl cid St.ok
      | false => t.ctrlOf ctrl = some { c with authFails := 1 } ∧ Answers s t ctrl cid St.accessDenied ∧ Raises s t Ev.authenticationFailed ctrl 0 := by
  refine Completes.served rfl hserves ?_
  simp only [hctrl, hch, hrun, hrole]
  cases hverify : Config.edVerify pub (s.sessionDigest ctrl ch) signature with
  | true =>
    simp only [if_true]
    refine ⟨?_, ?_⟩
    · rw [State.ctrlOf_replyOk, State.ctrlOf_ctrlStatus]
      split
      · exact State.ctrlOf_setCtrl _ _ _
      · exact State.ctrlOf_setCtrl _ _ _
    · rw [Answers, State.replyOk_outbox, State.ctrlStatus_outbox]
      split <;> simp
  | false =>
    have hfew : c.authFails + 1 < 3 := by omega
    simp only [Bool.false_eq_true, if_false, State.authFailed, hfew, if_true]
    refine ⟨?_, ?_, ?_⟩
    · rw [State.ctrlOf_replyErr, State.ctrlOf_setCtrl, hfirst, hch]
    · rw [Answers, State.replyErr_outbox, State.setCtrl_outbox, State.raise_outbox]
      simp
    · refine Raises.mono (State.raise_raises s Ev.authenticationFailed Sev.warning ctrl 0 principal (c.authFails + 1)) ?_
      rw [State.replyErr_raised]
      exact List.prefix_rfl

/-- Settles O20, command by command. -/
theorem sessionCommands : Obligations.SessionCommands := by
  unfold Obligations.SessionCommands
  refine ⟨?_, ?_, ?_, ?_, ?_, ?_, ?_, ?_, ?_⟩
  · exact fun s ctrl cid size n hserves hactive hslots hfree hsize hcap => Completes.namespaceCreate hserves hactive hslots hfree hsize hcap
  · exact fun s ctrl cid nsid n hserves hactive hns => Completes.namespaceDelete hserves hactive hns
  · exact fun s ctrl cid nsid size n c hserves hactive hns hslot hsize hcap => Completes.namespaceResize hserves hactive hns hslot hsize hcap
  · exact fun s ctrl cid hserves hactive hnone => Completes.served rfl hserves (State.startTest_starts hactive hnone (by decide) (fun u => Kept.refl _ u) ctrl cid)
  · exact fun s ctrl cid hserves hactive hnone => Completes.served rfl hserves (State.startTest_starts hactive hnone (by decide) (State.startScrubs_axl _) ctrl cid)
  · intro s ctrl cid x hserves htest
    refine Completes.served rfl hserves ?_
    obtain ⟨hnone, -, hraised⟩ := State.endSelfTest_ends htest 1 0
    have hsent : (s.endSelfTest 1 0).outbox = s.outbox := outbox_of_kept (State.endSelfTest_kept _ _ (Kept.refl _ s) rfl)
    refine ⟨?_, ?_, ?_, Raises.mono hraised ?_⟩
    · rw [(State.replyOk_blocks _ _ _).2.2.2.2.2.2.2.2.2.2.1]
      exact hnone
    · rw [axl_of_kept (State.replyOk_kept _ _ (Kept.refl _ _) rfl)]
      rfl
    · rw [Answers, State.replyOk_outbox, outbox_of_kept (State.dropScrubs_kept (Kept.refl _ _) rfl), hsent]
      simp
    · rw [State.replyOk_raised, evt_of_kept (State.dropScrubs_kept (Kept.refl _ _) rfl)]
  · intro s x htest hlive hkind
    refine ⟨_, rfl, ?_⟩
    simp only [htest, hlive, hkind]
    exact State.endSelfTest_ends htest 0 0
  · intro s ctrl cid c hserves hctrl
    refine Completes.served rfl hserves ?_
    simp only [State.draw]
    refine ⟨?_, ?_⟩
    · rw [State.ctrlOf_replyOk, State.dataOut, State.ctrlOf_emit, State.ctrlOf_modCtrl (s := { s with free := s.free + 1 }) hctrl]
    · exact State.dataOut_reply (State.modCtrl { s with free := s.free + 1 } ctrl fun c => { c with challenge := some (Config.random s.free % 2 ^ 256) })
        ctrl cid [Config.random s.free % 2 ^ 256] St.ok 0 0
  · exact fun s ctrl cid principal signature ch pub mask c i hserves hctrl hch hrun hrole hfirst =>
      Completes.authenticate hserves hctrl hch hrun hrole hfirst

end Sys2Proof.Machine


/-!
The gather cache and Salamander (R327 to R333, R336, R337): what the work of Salamander leaves of its queues, its credit and the operation
that runs, and with that what each command does.
-/

namespace Sys2Proof.Machine

-- The check compiles the text as one file: elaborating these proofs one after another bounds its memory.
set_option Elab.async false

/-! ### What Salamander's work leaves -/

/-- From `s` to `t` the credit, the waiting operations and the operation that runs are kept, and write-backs are only asked for. -/
def SalGoes (s t : State) : Prop :=
  t.sal.credit = s.sal.credit ∧ s.sal.wbQueue <+: t.sal.wbQueue ∧ t.sal.queue = s.sal.queue ∧ t.sal.run.map (·.op) = s.sal.run.map (·.op)

theorem SalGoes.of_sal {s t : State} (h : t.sal = s.sal) : SalGoes s t := by
  rw [SalGoes, h]
  exact ⟨rfl, List.prefix_rfl, rfl, rfl⟩

theorem SalGoes.refl (s : State) : SalGoes s s := .of_sal rfl

theorem SalGoes.trans {s t u : State} (h : SalGoes s t) (k : SalGoes t u) : SalGoes s u := by
  obtain ⟨hcredit, hwb, hqueue, hrun⟩ := h
  obtain ⟨kcredit, kwb, kqueue, krun⟩ := k
  exact ⟨kcredit.trans hcredit, hwb.trans kwb, kqueue.trans hqueue, krun.trans hrun⟩

theorem SalGoes.foldl {α : Type} {f : State → α → State} (hf : ∀ t x, SalGoes t (f t x)) (l : List α) (s : State) : SalGoes s (l.foldl f s) := by
  induction l generalizing s with
  | nil => exact SalGoes.refl s
  | cons x l ih => exact (hf s x).trans (ih _)

theorem SalGoes.ite {s t u : State} {c : Prop} [Decidable c] (h : SalGoes s t) (k : SalGoes s u) : SalGoes s (if c then t else u) := by
  split
  · exact h
  · exact k

/-- The parts of the state but the queue and Salamander's. -/
theorem SalGoes.of_kept {s t : State} (h : Kept (partsBut .sal) s t) : SalGoes s t := .of_sal (sal_of_kept h)

theorem State.notAwaited_goes (s : State) (slot a : Nat) : SalGoes s (s.notAwaited slot a) := by
  unfold State.notAwaited
  dsimp only
  split
  · exact ⟨rfl, List.prefix_rfl, rfl, rfl⟩
  · exact SalGoes.refl s

theorem State.askWriteBack_goes {s t : State} {l : Line} (h : s.askWriteBack l = some t) : SalGoes s t := by
  unfold State.askWriteBack at h
  dsimp only at h
  split at h
  · cases h
    exact SalGoes.refl s
  · split at h
    · cases h
    · cases h
      exact ⟨rfl, List.prefix_append _ _, rfl, rfl⟩

theorem State.askWriteBack_getD_goes (s : State) (l : Line) : SalGoes s ((s.askWriteBack l).getD s) := by
  cases h : s.askWriteBack l with
  | none => exact SalGoes.refl s
  | some t => exact State.askWriteBack_goes h

theorem State.cacheStatus_goes (s : State) : SalGoes s s.cacheStatus := .of_kept (State.cacheStatus_kept (Kept.refl _ s) rfl)

theorem State.salLine_goes {s t : State} {op : SalOp} {k : Nat} {l : Line} {skip : Bool} (h : s.salLine op k l = some (skip, t)) : SalGoes s t := by
  unfold State.salLine at h
  split at h
  · cases h
  · split at h
    · obtain ⟨u, hask, heq⟩ := Option.map_eq_some_iff.mp h
      cases heq
      exact State.askWriteBack_goes hask
    · split at h
      · split at h <;> cases h
        · exact SalGoes.refl s
        · exact (s.removeLine k).cacheStatus_goes
      · split at h
        · split at h
          · cases h
          · split at h <;> cases h
            · exact SalGoes.refl s
            · exact (s.removeLine k).cacheStatus_goes
        · split at h
          · have heq : (s.pinLine op l.slot l.line).2 = t := congrArg Prod.snd (Option.some.inj h)
            rw [← heq]
            exact .of_kept (State.pinLine_kept _ _ _ (Kept.refl _ s) rfl)
          · cases h
            exact (s.setLine k { l with pin := false }).cacheStatus_goes

theorem foldl_salLine_goes {op : SalOp} (l : List (Nat × Line)) {n m : Nat} {s t : State}
    (h : l.foldl (fun (a : Option (Nat × State)) x => match a with
      | none => none
      | some (n, s) => (s.salLine op x.1 x.2).map fun y => (n + b2n y.1, y.2)) (some (n, s)) = some (m, t)) : SalGoes s t := by
  induction l generalizing n s with
  | nil =>
    cases h
    exact SalGoes.refl _
  | cons x l ih =>
    rw [List.foldl_cons] at h
    cases hline : s.salLine op x.1 x.2 with
    | none =>
      have hnone : ∀ l' : List (Nat × Line), l'.foldl (fun (a : Option (Nat × State)) x => match a with
          | none => none
          | some (n, s) => (s.salLine op x.1 x.2).map fun y => (n + b2n y.1, y.2)) (none : Option (Nat × State)) = none := by
        intro l'
        induction l' with
        | nil => rfl
        | cons y l' ih' => exact ih'
      simp [hline, hnone] at h
    | some y =>
      simp only [hline, Option.map_some] at h
      exact (State.salLine_goes hline).trans (ih h)

/-- A unit of the running operation keeps the operation, and everything else that Salamander's work keeps. -/
theorem State.salStep_goes {s t : State} {r : SalRun} (hrun : s.sal.run = some r) (h : s.salStep r = some t) : SalGoes s t := by
  unfold State.salStep at h
  split at h
  · split at h
    · cases h
    · cases hpin : s.pinLine r.op r.op.slot (r.op.first + r.pos) with
      | mk skip u =>
        simp only [hpin] at h
        cases h
        have hu : u.sal = s.sal := Kept.sal (ps := partsBut .sal) (State.pinLine_kept_eq hpin (Kept.refl _ s) rfl)
        rw [SalGoes]
        dsimp only
        rw [hu, hrun]
        exact ⟨rfl, List.prefix_rfl, rfl, rfl⟩
  · obtain ⟨⟨m, u⟩, hdone, heq⟩ := Option.map_eq_some_iff.mp h
    cases heq
    obtain ⟨hcredit, hwb, hqueue, -⟩ := foldl_salLine_goes _ hdone
    exact ⟨hcredit, hwb, hqueue, by rw [hrun]; rfl⟩

theorem State.salAsk_goes (s : State) (op : SalOp) (l : Line) : SalGoes s (s.salAsk op l) :=
  SalGoes.ite (s.askWriteBack_getD_goes l) (SalGoes.refl s)

theorem State.salRun_goes (n : Nat) (s : State) : SalGoes s (State.salRun n s) := by
  induction n generalizing s with
  | zero => exact SalGoes.refl s
  | succ n ih =>
    unfold State.salRun
    split
    · exact SalGoes.refl s
    · next r hrun =>
      split
      · exact SalGoes.refl s
      · split
        · next t hstep => exact (State.salStep_goes hrun hstep).trans (ih t)
        · exact SalGoes.foldl (fun t (x : Nat × Line) => t.salAsk_goes r.op x.2) _ s

theorem State.salStatus_goes (s : State) : SalGoes s s.salStatus := .of_kept (State.salStatus_kept (Kept.refl _ s) rfl)

theorem State.salAdvance_goes (s : State) : SalGoes s s.salAdvance := by
  unfold State.salAdvance
  split
  · exact (SalGoes.foldl (fun t (p : Nat × Line) => t.askWriteBack_getD_goes p.2) _ s).trans (State.salStatus_goes _)
  · split
    · exact (State.salRun_goes _ s).trans (State.salStatus_goes _)
    · exact SalGoes.refl s

/-! ### Handing a sub-block to its writer -/

theorem State.cacheForget_goes (s : State) (slot a : Nat) : SalGoes s (s.cacheForget slot a) := by
  unfold State.cacheForget
  split
  · next k l _ =>
    refine SalGoes.trans ?_ (State.cacheStatus_goes _)
    refine SalGoes.trans ?_ (State.notAwaited_goes _ slot a)
    exact .of_sal rfl
  · exact SalGoes.refl s

theorem State.cacheWritten_goes (s : State) (slot a : Nat) : SalGoes s (s.cacheWritten slot a) := by
  unfold State.cacheWritten
  split
  · next k l _ =>
    split
    · refine SalGoes.trans ?_ (State.cacheStatus_goes _)
      refine SalGoes.trans ?_ (State.notAwaited_goes _ slot a)
      exact .of_sal (Kept.sal (ps := [.cnt, .gch, .reg 21]) (State.count_kept _ _ _ (State.setLine_kept _ _ (Kept.refl _ s) rfl) rfl))
    · exact SalGoes.refl s
  · exact SalGoes.refl s

theorem State.issueStripe_goes (s : State) (g row : Nat) (padded : Bool) : SalGoes s (s.issueStripe g row padded) := by
  unfold State.issueStripe
  split
  · exact SalGoes.refl s
  · dsimp only
    generalize hu : State.modStripe s g row _ = u
    have hmod : SalGoes s u := by rw [← hu]; exact .of_sal rfl
    generalize hv : List.foldl (fun (s : State) p => s.writeUnit g p row) u _ = v
    have hissued : SalGoes s v := by
      rw [← hv]
      exact hmod.trans (SalGoes.foldl (fun t p => .of_kept (State.writeUnit_kept g p row (Kept.refl _ t) rfl)) _ u)
    generalize hw : List.foldl _ v _ = w
    have hmissed : SalGoes s w := by
      rw [← hw]
      exact hissued.trans (SalGoes.foldl (fun t p => (t.cacheForget_goes (t.pos g p).slot (t.unitAddr g p row)).trans
        (.of_kept (State.markDirty_kept g p row (Kept.refl _ _) rfl))) _ v)
    refine SalGoes.ite (hmissed.trans ?_) hmissed
    exact .of_kept (State.modGrp_kept _ _ (State.count_kept _ _ _ (State.bumpWrap_kept _ _ _ _ (Kept.refl _ _) rfl rfl) rfl) rfl)

theorem State.padStripe_goes (s : State) (g row : Nat) : SalGoes s (s.padStripe g row) := by
  unfold State.padStripe
  split
  · split
    · exact (s.issueStripe_goes g row true).trans (.of_kept (State.layStatus_kept (Kept.refl _ _) rfl))
    · exact SalGoes.refl s
  · exact SalGoes.refl s

theorem State.handOff_goes (s : State) (slot a : Nat) : SalGoes s (s.handOff slot a) := by
  unfold State.handOff
  split
  · exact s.cacheWritten_goes slot a
  · next g p row _ =>
    split
    · split
      · exact (s.padStripe_goes g row).trans (.of_kept (State.checkStripe_kept _ _ (Kept.refl _ _) rfl))
      · exact SalGoes.refl s
    · exact (SalGoes.of_kept (State.writeUnit_kept g p row (Kept.refl _ s) rfl)).trans (State.cacheWritten_goes _ slot a)

/-! ### Enabling, disabling and draining -/

theorem Completes.cacheSwitchAsked {s : State} (hup : s.inReset = false) (hsets : s.gch.sets ≠ 0) :
    Completes .cacheEnable s (fun t => t.rd Reg.GCH_CTL_EN = 1 ∧ t.deferred = s.deferred ++ [.cacheEnable true]) ∧
      Completes .cacheDisable s (fun t => t.rd Reg.GCH_CTL_EN = 0 ∧ t.deferred = s.deferred ++ [.cacheEnable false]) := by
  refine ⟨⟨_, rfl, ?_⟩, ⟨_, rfl, ?_⟩⟩
  · simp only [State.up, hup, hsets, if_false, Bool.false_eq_true, State.rd_defer]
    exact ⟨s.rd_wr_fits _ _ _ _ (by decide) (by decide) (by decide), rfl⟩
  · simp only [State.up, hup, hsets, if_false, Bool.false_eq_true, State.rd_defer]
    exact ⟨s.rd_wr_fits _ _ _ _ (by decide) (by decide) (by decide), rfl⟩

theorem Completes.cacheDrained {s : State} (hup : s.inReset = false) (hst : s.gch.st = .draining) (hdrain : s.sal.drain = true)
    (hclean : (s.gch.lines.any fun p => p.2.dirty != 0) = false) (hfills : s.gch.fills = []) (hlocks : s.gch.exclusive = []) :
    Completes .cacheDrainDone s fun t => t.gch.st = .off ∧ t.gch.lines = [] ∧ t.sal.drain = false ∧ Raises s t Ev.cacheState 0 0 := by
  refine ⟨_, rfl, ?_⟩
  simp only [State.up, hup, hst, hdrain, hclean, hfills, hlocks, beq_self_eq_true, Bool.not_false, List.isEmpty_nil, Bool.and_self, if_true, Bool.false_eq_true,
    if_false]
  generalize hu : State.setCache _ .off = u
  have hgch : u.gch.st = .off ∧ u.gch.lines = [] ∧ u.sal.drain = false := by
    rw [← hu]
    exact ⟨rfl, rfl, rfl⟩
  have hraised : Raises s u Ev.cacheState 0 0 := by
    rw [← hu]
    exact Raises.after (State.raise_raises _ _ _ _ _ _ _) List.prefix_rfl
  have hkept : Kept [.reg 9, .reg 10] u u.cacheStatus.salStatus := State.salStatus_kept (State.cacheStatus_kept (Kept.refl _ u) rfl) rfl
  rw [hkept.gch, hkept.sal]
  exact ⟨hgch.1, hgch.2.1, hgch.2.2, Raises.mono hraised (by rw [hkept.evt])⟩

/-! ### Fills -/

theorem Completes.cacheFill {s : State} {slot line subs k : Nat} {f : Fill} {l : Line} (hon : s.slotOn slot = true) (hst : s.gch.st = .on)
    (hfill : (s.gch.fills.find? fun f => f.slot == slot && f.line == line && f.subs == subs) = some f) (hline : s.findLine slot line = some (k, l))
    (hsubs : subs ≠ 0) :
    Completes (.cacheFillDone slot line subs true) s fun t =>
      ((tget t.gch.lines k).map fun x => (x.slot, x.line, x.valid)) = some (l.slot, l.line, l.valid ||| subs) ∧ t.gch.fills = s.gch.fills.erase f := by
  refine Completes.guard rfl hon ?_
  simp only [hfill]
  generalize hu : ({ s with gch := _ } : State) = u
  have hline' : u.findLine slot line = some (k, l) := by
    rw [← hu]
    exact hline
  have hfills : u.gch.fills = s.gch.fills.erase f := by rw [← hu]
  have hvalid : l.valid ||| subs ≠ 0 := by
    rw [Ne, Nat.or_eq_zero_iff]
    exact fun h => hsubs h.2
  simp only [hline', hst, bne_self_eq_false, Bool.not_true, Bool.false_eq_true, if_false]
  generalize hpin : (f.pin && (l.valid ||| subs) == 0xFFFF && !l.pin) = pinned
  have hset : ((tget (((u.setLine k { l with valid := l.valid ||| subs, pin := l.pin || pinned }).touchLine k).cacheStatus).gch.lines k).map
      fun x => (x.slot, x.line, x.valid)) = some (l.slot, l.line, l.valid ||| subs) ∧
      (((u.setLine k { l with valid := l.valid ||| subs, pin := l.pin || pinned }).touchLine k).cacheStatus).gch.fills = s.gch.fills.erase f := by
    rw [gch_of_kept (State.cacheStatus_kept (Kept.refl _ _) rfl)]
    simp [State.touchLine, State.setLine, hvalid, hfills]
  split
  · rw [gch_of_kept (State.count_kept _ _ _ (Kept.refl _ _) rfl)]
    exact hset
  · exact hset

/-! ### Operations -/

/-- GO queues the operation that the writer's registers describe, where the queue has room. -/
theorem Completes.salGo {i : Instr} {s : State} {w : Writer} {op : Nat} (hexec : exec i s = s.salGo w op) (hup : s.inReset = false)
    (hsafe : w = .endpoint → s.cfg.state ≠ .safeHold) (hroom : s.sal.queue.length < 16) :
    Completes i s fun t => t.sal = { s.sal with queue := s.sal.queue ++ [s.salAsked w op] } := by
  have hacts : (w == .endpoint && s.cfg.state == .safeHold) = false := by
    cases hw : w == .endpoint with
    | false => rfl
    | true => simpa using hsafe (by simpa using hw)
  refine ⟨_, hexec, ?_⟩
  simp only [State.acts, State.up, hup, hacts, State.salQueue, hroom, if_true, Bool.false_eq_true, if_false]
  rw [sal_of_kept (State.salStatus_kept (Kept.refl _ _) rfl)]

theorem Completes.salFull {s : State} {w : Writer} (hup : s.inReset = false) (hsafe : w = .endpoint → s.cfg.state ≠ .safeHold) (hfull : 16 ≤ s.sal.queue.length) :
    Completes (.salClean w) s fun t => t.rd Reg.SAL_STATUS_FULL = 1 ∧ t.sal = s.sal := by
  have hacts : (w == .endpoint && s.cfg.state == .safeHold) = false := by
    cases hw : w == .endpoint with
    | false => rfl
    | true => simpa using hsafe (by simpa using hw)
  refine ⟨_, rfl, ?_⟩
  simp only [State.acts, State.up, hup, hacts, State.salQueue, Nat.not_lt.mpr hfull, Bool.false_eq_true, if_false, State.wr_sal, and_true]
  exact s.rd_wr_fits _ _ _ _ (by decide) (by decide) (by decide)

/-- The front operation, taken from the queue of a state in which none runs. -/
theorem State.salStart_front (n : Nat) {s : State} {op : SalOp} {rest : List SalOp} (hrun : s.sal.run = none) (hdrain : s.sal.drain = false)
    (hqueue : s.sal.queue = op :: rest) (hst : s.gch.st = .on) :
    State.salStart (n + 1) s =
      if s.salInvalid op then State.salStart n (({ s with sal := { s.sal with queue := rest } } : State).salEnd op 4 0)
      else { s with sal := { s.sal with
        queue := rest
        run := some
          { op := op, pos := 0, total := if op.all || decide (s.gch.sets < op.count) then s.gch.sets else op.count,
            walk := op.all || decide (s.gch.sets < op.count), skipped := 0 } } } := by
  have hon : (s.gch.st != .on) = false := by simp [hst]
  rw [State.salStart]
  split
  · next op' rest' _ hqueue' =>
    obtain ⟨rfl, rfl⟩ := List.cons.inj (hqueue.symm.trans hqueue')
    rw [if_neg (by simp [hdrain])]
    exact if_neg (by simp [hon])
  · next hnot => exact absurd hqueue (hnot op rest hrun)

theorem Completes.salStarts {s : State} {op : SalOp} {rest : List SalOp} (hup : s.inReset = false) (hrun : s.sal.run = none) (hdrain : s.sal.drain = false)
    (hqueue : s.sal.queue = op :: rest) (hst : s.gch.st = .on) (hvalid : s.salInvalid op = false) :
    Completes .salOperationStart s fun t => t.sal.queue = rest ∧ (t.sal.run.map fun r => r.op) = some op := by
  refine ⟨_, rfl, ?_⟩
  simp only [State.up, hup, Bool.false_eq_true, if_false]
  generalize hu : State.salStart (s.sal.queue.length + 1) s = u
  have hstart : u.sal.queue = rest ∧ u.sal.run.map (·.op) = some op := by
    rw [← hu, State.salStart_front _ hrun hdrain hqueue hst, if_neg (by simp [hvalid])]
    exact ⟨rfl, rfl⟩
  obtain ⟨-, -, hqueue', hrun'⟩ := (u.salAdvance_goes).trans (State.salStatus_goes _)
  exact ⟨hqueue'.trans hstart.1, hrun'.trans hstart.2⟩

/-- An operation that ends leaves its status and its event. -/
theorem State.salEnd_effect (s : State) {op : SalOp} {status : Nat} (hasked : op.internal = false) (hstatus : status < 8) (skipped : Nat) :
    (s.salEnd op status skipped).sal = s.sal ∧ (s.salEnd op status skipped).gch = s.gch ∧ Raises s (s.salEnd op status skipped) Ev.salamanderDone 0 status ∧
      (s.salEnd op status skipped).rd Reg.SAL_LAST_STATUS = status := by
  have hkept : Kept [.cnt, .evt, .reg 10, .reg 20, .reg 21] s (s.salEnd op status skipped) := State.salEnd_kept _ _ _ (Kept.refl _ s) rfl
  refine ⟨hkept.sal, hkept.gch, ?_, ?_⟩
  · simp only [State.salEnd, hasked, Bool.false_eq_true, if_false]
    refine Raises.mono (t := State.raise (((s.wr Reg.SAL_LAST_STATUS 0 0 status).wr Reg.SAL_LAST_SKIPPED 0 0 (min 8191 skipped)).wr Reg.SAL_LAST_TAG 0 0 op.tag)
      Ev.salamanderDone Sev.notice 0 status op.tag skipped) ?_ (by rw [(State.count_records _ _ _ _).2.1])
    exact Raises.after (State.raise_raises _ _ _ _ _ _ _) List.prefix_rfl
  · simp only [State.salEnd, hasked, Bool.false_eq_true, if_false]
    rw [State.rd_count _ _ _ _ (by decide) (by decide) (by decide), State.rd_raise _ _ _ _ _ _ _ (by decide) (by decide) (by decide),
      State.rd_wr_ne _ _ _ _ _ _ _ _ (by decide), State.rd_wr_ne _ _ _ _ _ _ _ _ (by decide), State.rd_wr_fits _ _ _ _ _ hstatus (by decide) (by decide)]

theorem Completes.salRefused {s : State} {op : SalOp} (hup : s.inReset = false) (hrun : s.sal.run = none) (hdrain : s.sal.drain = false)
    (hqueue : s.sal.queue = [op]) (hst : s.gch.st = .on) (hasked : op.internal = false) (hinvalid : s.salInvalid op = true) :
    Completes .salOperationStart s fun t => t.sal.queue = [] ∧ t.sal.run = none ∧ Raises s t Ev.salamanderDone 0 4 := by
  refine ⟨_, rfl, ?_⟩
  simp only [State.up, hup, Bool.false_eq_true, if_false]
  rw [State.salStart_front _ hrun hdrain hqueue hst, if_pos hinvalid]
  generalize hv : ({ s with sal := { s.sal with queue := [] } } : State) = v
  obtain ⟨hsal, hgch, hraised, -⟩ := v.salEnd_effect hasked (show 4 < 8 by decide) 0
  have hquiet : (v.salEnd op 4 0).sal.run = none ∧ (v.salEnd op 4 0).sal.queue = [] ∧ (v.salEnd op 4 0).sal.drain = false := by
    rw [hsal, ← hv]
    exact ⟨hrun, rfl, hdrain⟩
  obtain ⟨hrun', hqueue', hdrain'⟩ := hquiet
  have hstart : State.salStart s.sal.queue.length (v.salEnd op 4 0) = v.salEnd op 4 0 := by
    simp [State.salStart, hqueue, hrun', hqueue']
  have hadvance : (v.salEnd op 4 0).salAdvance = v.salEnd op 4 0 := by simp [State.salAdvance, hdrain', hrun']
  rw [hstart, hadvance, sal_of_kept (State.salStatus_kept (Kept.refl _ _) rfl)]
  refine ⟨hqueue', hrun', Raises.mono (Raises.after hraised (by rw [← hv])) ?_⟩
  rw [evt_of_kept (State.salStatus_kept (Kept.refl _ _) rfl)]

/-- Sub-blocks handed to their writers leave the queue of write-backs and the credit as they were taken. -/
theorem State.handOffs_leave (u : State) (slot line mask : Nat) :
    u.sal.wbQueue <+: ((((List.range 16).filter (bitOf mask)).foldl (fun s j => s.handOff slot (subAddr line j)) u).salAdvance.salStatus).sal.wbQueue ∧
      ((((List.range 16).filter (bitOf mask)).foldl (fun s j => s.handOff slot (subAddr line j)) u).salAdvance.salStatus).sal.credit = u.sal.credit := by
  obtain ⟨hcredit, hwb, -, -⟩ := ((SalGoes.foldl (fun t j => t.handOff_goes slot (subAddr line j)) ((List.range 16).filter (bitOf mask)) u).trans
    (State.salAdvance_goes _)).trans (State.salStatus_goes _)
  exact ⟨hwb, hcredit⟩

theorem Completes.salWriteBack {s : State} {k : Nat} {rest : List Nat} (hup : s.inReset = false) (hqueue : s.sal.wbQueue = k :: rest) (hcredit : 0 < s.sal.credit) :
    Completes .salWriteBackIssue s fun t => rest <+: t.sal.wbQueue ∧
      t.sal.credit = salCharge s.sal.credit (((s.findLine (k / 2 ^ 32) (k % 2 ^ 32)).map fun x => popCount x.2.dirty).getD 0) := by
  refine ⟨_, rfl, ?_⟩
  simp only [State.up, hup, Bool.false_eq_true, if_false, hqueue, Int.not_le.mpr hcredit]
  cases s.findLine (k / 2 ^ 32) (k % 2 ^ 32) with
  | none =>
    obtain ⟨hwb, hcredit⟩ := State.handOffs_leave
      { s with sal := { s.sal with wbQueue := rest, credit := salCharge s.sal.credit (popCount 0), awaited := tdel s.sal.awaited k } } (k / 2 ^ 32) (k % 2 ^ 32) 0
    exact ⟨hwb, hcredit⟩
  | some x =>
    obtain ⟨hwb, hcredit⟩ := State.handOffs_leave
      { s with sal := { s.sal with
        wbQueue := rest
        credit := salCharge s.sal.credit (popCount x.2.dirty)
        awaited := if x.2.dirty = 0 then tdel s.sal.awaited k else s.sal.awaited } } (k / 2 ^ 32) (k % 2 ^ 32) x.2.dirty
    exact ⟨hwb, hcredit⟩

/-- What reports Salamander's state leaves the status of the last operation. -/
theorem State.salStatus_last (s : State) : s.salStatus.rd Reg.SAL_LAST_STATUS = s.rd Reg.SAL_LAST_STATUS := by
  unfold State.salStatus
  dsimp only
  split <;> simp only [State.rd_wr_ne _ _ _ _ _ _ _ _ (show Reg.SAL_LAST_STATUS.key 0 0 ≠ Reg.SAL_STATUS_BUSY.key 0 0 by decide),
    State.rd_wr_ne _ _ _ _ _ _ _ _ (show Reg.SAL_LAST_STATUS.key 0 0 ≠ Reg.SAL_STATUS_DRAIN.key 0 0 by decide),
    State.rd_wr_ne _ _ _ _ _ _ _ _ (show Reg.SAL_LAST_STATUS.key 0 0 ≠ Reg.SAL_STATUS_QUEUED.key 0 0 by decide),
    State.rd_wr_ne _ _ _ _ _ _ _ _ (show Reg.SAL_LAST_STATUS.key 0 0 ≠ Reg.SAL_STATUS_WB_QUEUE.key 0 0 by decide),
    State.rd_wr_ne _ _ _ _ _ _ _ _ (show Reg.SAL_LAST_STATUS.key 0 0 ≠ Reg.SAL_PROGRESS.key 0 0 by decide),
    State.rd_wr_ne _ _ _ _ _ _ _ _ (show Reg.SAL_LAST_STATUS.key 0 0 ≠ Reg.SAL_TOTAL.key 0 0 by decide)]

theorem Completes.salDone {s : State} {r : SalRun} (hup : s.inReset = false) (hrun : s.sal.run = some r) (hpos : r.total ≤ r.pos) (hwb : s.sal.wbQueue = [])
    (hawaited : s.sal.awaited = []) (hpins : (s.gch.fills.any fun f => f.pin) = false) (hasked : r.op.internal = false) :
    Completes .salOperationDone s fun t => t.sal.run = none ∧ Raises s t Ev.salamanderDone 0 (if r.skipped = 0 then 0 else 1) ∧
      t.rd Reg.SAL_LAST_STATUS = (if r.skipped = 0 then 0 else 1) := by
  have hstatus : b2n (r.skipped != 0) = if r.skipped = 0 then 0 else 1 := by
    by_cases h : r.skipped = 0 <;> simp [h, b2n]
  have hsmall : b2n (r.skipped != 0) < 8 := by cases r.skipped != 0 <;> decide
  have hready : (r.pos < r.total || !s.sal.wbQueue.isEmpty || !s.sal.awaited.isEmpty || s.gch.fills.any (·.pin)) = false := by
    simp [hpos, hwb, hawaited, hpins]
  obtain ⟨hsal, -, hraised, hlast⟩ := ({ s with sal := { s.sal with run := none } } : State).salEnd_effect hasked hsmall r.skipped
  rw [← hstatus]
  refine ⟨_, rfl, ?_⟩
  simp only [State.up, hup, Bool.false_eq_true, if_false]
  split
  · next hnone => exact absurd hrun (by simp [hnone])
  · next r' hrun' =>
    obtain rfl := Option.some.inj (hrun.symm.trans hrun')
    rw [if_neg (by simp [hready]), State.salStatus_last, sal_of_kept (State.salStatus_kept (Kept.refl _ _) rfl), hsal]
    exact ⟨rfl, Raises.mono (Raises.after hraised List.prefix_rfl) (by rw [evt_of_kept (State.salStatus_kept (Kept.refl _ _) rfl)]), hlast⟩

/-- Settles O21, command by command. -/
theorem cacheCommands : Obligations.CacheCommands := by
  unfold Obligations.CacheCommands
  refine ⟨?_, ?_, ?_, ?_, ?_, ?_, ?_, ?_, ?_, ?_⟩
  · exact fun s hup hsets => Completes.cacheSwitchAsked hup hsets
  · intro s hsets
    refine ⟨⟨_, rfl, ?_⟩, ⟨_, rfl, ?_⟩⟩ <;> simp [State.up, hsets]
  · exact fun s hup hst hdrain hclean hfills hlocks => Completes.cacheDrained hup hst hdrain hclean hfills hlocks
  · exact fun s slot line subs k f l hup hslot hon hst hfill hline hsubs => Completes.cacheFill hon hst hfill hline hsubs
  · exact fun s w hup hsafe hroom => ⟨Completes.salGo rfl hup hsafe hroom, Completes.salGo rfl hup hsafe hroom, Completes.salGo rfl hup hsafe hroom,
      Completes.salGo rfl hup hsafe hroom, Completes.salGo rfl hup hsafe hroom⟩
  · exact fun s w hup hsafe hfull => Completes.salFull hup hsafe hfull
  · exact fun s op rest hup hrun hdrain hqueue hst hvalid => Completes.salStarts hup hrun hdrain hqueue hst hvalid
  · exact fun s op hup hrun hdrain hqueue hst hasked hinvalid => Completes.salRefused hup hrun hdrain hqueue hst hasked hinvalid
  · exact fun s k rest hup hqueue hcredit => Completes.salWriteBack hup hqueue hcredit
  · exact fun s r hup hrun hpos hwb hawaited hpins hasked => Completes.salDone hup hrun hpos hwb hawaited hpins hasked

end Sys2Proof.Machine


/-!
What the shared operations of power, demand and the device state leave: that they only send and raise more, and which fields of a channel, of
the feeds and of the fail-over state they keep.
-/

namespace Sys2Proof.Machine

-- The check compiles the text as one file: elaborating these proofs one after another bounds its memory.
set_option Elab.async false

/-! ### Sending and raising more -/

/-- From `s` to `t` nothing sent and nothing raised has gone. -/
def Grows (s t : State) : Prop := s.outbox <+: t.outbox ∧ s.evt.raised <+: t.evt.raised

theorem Grows.refl (s : State) : Grows s s := ⟨List.prefix_rfl, List.prefix_rfl⟩

theorem Grows.trans {s t u : State} (h : Grows s t) (k : Grows t u) : Grows s u := ⟨h.1.trans k.1, h.2.trans k.2⟩

theorem Grows.of_kept {s t : State} (houtbox : Kept (partsBut .outbox) s t) (hevt : Kept (partsBut .evt) s t) : Grows s t := by
  rw [Grows, houtbox.outbox, hevt.evt]
  exact Grows.refl s

@[simp] theorem State.count_outbox (s : State) (i n inst : Nat) : (s.count i n inst).outbox = s.outbox := (s.count_records i n inst).1

@[simp] theorem State.count_evt (s : State) (i n inst : Nat) : (s.count i n inst).evt = s.evt := (s.count_records i n inst).2.1

@[simp] theorem State.count_pwr (s : State) (i n inst : Nat) : (s.count i n inst).pwr = s.pwr := pwr_of_kept (State.count_kept _ _ _ (Kept.refl _ s) rfl)

@[simp] theorem State.count_drv (s : State) (i n inst : Nat) : (s.count i n inst).drv = s.drv := drv_of_kept (State.count_kept _ _ _ (Kept.refl _ s) rfl)

@[simp] theorem State.count_fov (s : State) (i n inst : Nat) : (s.count i n inst).fov = s.fov := fov_of_kept (State.count_kept _ _ _ (Kept.refl _ s) rfl)

@[simp] theorem State.count_deferred (s : State) (i n inst : Nat) : (s.count i n inst).deferred = s.deferred :=
  deferred_of_kept (State.count_kept _ _ _ (Kept.refl _ s) rfl)

theorem Grows.emit (s : State) (k : OutKind) (args : List Nat) : Grows s (s.emit k args) := ⟨List.prefix_append _ _, List.prefix_rfl⟩

theorem Grows.raise (s : State) (src sev inst code v v2 : Nat) : Grows s (s.raise src sev inst code v v2) := ⟨List.prefix_rfl, List.prefix_append _ _⟩

theorem Grows.reply (s : State) (ctrl cid : Nat) (st : Nat × Nat) (a b : Nat) : Grows s (s.reply ctrl cid st a b) := by
  rw [Grows, State.reply_outbox, State.reply_raised]
  exact ⟨List.prefix_append _ _, List.prefix_rfl⟩

theorem Grows.foldl {α : Type} {f : State → α → State} (hf : ∀ t x, Grows t (f t x)) (l : List α) (s : State) : Grows s (l.foldl f s) := by
  induction l generalizing s with
  | nil => exact Grows.refl s
  | cons x l ih => exact (hf s x).trans (ih _)

theorem Grows.foldIdx {f : Nat → State → State} (hf : ∀ i t, Grows t (f i t)) (n : Nat) (s : State) : Grows s (foldIdx n f s) :=
  Grows.foldl (fun t i => hf i t) _ s

theorem Grows.sends {s t u : State} {o : Output} (h : Sends s t o) (k : Grows t u) : Sends s u o := by
  obtain ⟨⟨l, hl⟩, ho⟩ := h
  obtain ⟨⟨m, hm⟩, -⟩ := k
  rw [Sends, ← hm, ← hl]
  rw [← hl, List.drop_left] at ho
  refine ⟨⟨_, (List.append_assoc _ _ _).symm⟩, ?_⟩
  rw [List.append_assoc, List.drop_left]
  exact List.mem_append_left _ ho

theorem State.setAna_grows (s : State) (code : Nat) : Grows s (s.setAna code) := by
  unfold State.setAna
  split
  · exact Grows.refl s
  · dsimp only
    generalize hu : State.raise _ _ _ _ _ _ _ = u
    have hraised : Grows s u := by
      rw [← hu]
      exact ⟨List.prefix_rfl, List.prefix_append _ _⟩
    refine hraised.trans (Grows.foldl (fun t p => ?_) _ u)
    split
    · split
      · exact Grows.emit _ _ _
      · exact Grows.refl _
    · exact Grows.refl _

/-! ### Slot channels -/

/-- A change of channels that keeps a field of each keeps it everywhere. -/
theorem State.chan_modChan_keeps {α : Type} {g : Chan → α} {f : Chan → Chan} (hf : ∀ c, g (f c) = g c) (s : State) (i j : Nat) :
    g ((s.modChan i f).chan j) = g (s.chan j) := by
  by_cases hj : j = i
  · subst hj
    by_cases hlen : j < s.pwr.slots.length
    · rw [State.chan, State.modChan]
      dsimp only
      rw [getD_lmod_same _ _ _ hlen, hf, State.chan]
    · rw [State.chan, State.modChan, State.chan, List.getD_eq_default _ _ (by rw [length_lmod]; omega), List.getD_eq_default _ _ (by omega)]
  · rw [State.chan, State.modChan]
    dsimp only
    rw [getD_lmod_ne _ _ _ hj, State.chan]

/-- From `s` to `t` only slot channels and what the peer was told of the demand have changed of the companions and of fail-over, every channel
has its cycle timer as before, and nothing sent or raised has gone. -/
def Demands (s t : State) : Prop :=
  Grows s t ∧ t.pwr = { s.pwr with slots := t.pwr.slots } ∧ t.fov = { s.fov with demandSent := t.fov.demandSent, demandTurn := t.fov.demandTurn } ∧
    t.cfg = s.cfg ∧ ∀ i, (t.chan i).cycleArmed = (s.chan i).cycleArmed

theorem Demands.refl (s : State) : Demands s s := ⟨Grows.refl s, rfl, rfl, rfl, fun _ => rfl⟩

theorem Demands.trans {s t u : State} (h : Demands s t) (k : Demands t u) : Demands s u := by
  obtain ⟨hgrow, hpwr, hfov, hcfg, hcycle⟩ := h
  obtain ⟨kgrow, kpwr, kfov, kcfg, kcycle⟩ := k
  refine ⟨hgrow.trans kgrow, ?_, ?_, kcfg.trans hcfg, fun i => (kcycle i).trans (hcycle i)⟩
  · rw [kpwr, hpwr]
  · rw [kfov, hfov]

theorem Demands.ite {s t u : State} {c : Prop} [Decidable c] (h : Demands s t) (k : Demands s u) : Demands s (if c then t else u) := by
  split
  · exact h
  · exact k

theorem Demands.over {f : Nat → State → State} (hf : ∀ i t, Demands t (f i t)) (n : Nat) (s : State) : Demands s (foldIdx n f s) := by
  unfold foldIdx
  exact List.foldlRecOn (motive := fun t : State => Demands s t) _ _ (Demands.refl s) fun t ht i _ => ht.trans (hf i t)

theorem Demands.modChan (s : State) (i : Nat) {f : Chan → Chan} (hf : ∀ c, (f c).cycleArmed = c.cycleArmed) : Demands s (s.modChan i f) :=
  ⟨Grows.refl s, rfl, rfl, rfl, fun j => State.chan_modChan_keeps (g := Chan.cycleArmed) hf s i j⟩

theorem Demands.raise (s : State) (src sev inst code v v2 : Nat) : Demands s (s.raise src sev inst code v v2) :=
  ⟨Grows.raise s _ _ _ _ _ _, rfl, rfl, rfl, fun _ => rfl⟩

theorem Demands.emit (s : State) (k : OutKind) (args : List Nat) : Demands s (s.emit k args) := ⟨Grows.emit s k args, rfl, rfl, rfl, fun _ => rfl⟩

theorem Demands.drvTo (s : State) (i st arg : Nat) : Demands s (s.drvTo i st arg) := ⟨Grows.refl s, rfl, rfl, rfl, fun _ => rfl⟩

theorem Demands.thenDrvTo {s t : State} (h : Demands s t) (c : Bool) (i st arg : Nat) : Demands s (if c then t.drvTo i st arg else t) :=
  Demands.ite (h.trans (Demands.drvTo t i st arg)) h

theorem Demands.told (s : State) (map turn : Nat) : Demands s { s with fov := { s.fov with demandSent := map, demandTurn := turn } } :=
  ⟨Grows.refl _, rfl, rfl, rfl, fun _ => rfl⟩

theorem State.armClear_demands (s : State) (i : Nat) : Demands s (s.armClear i) :=
  Demands.modChan s i fun c => by split <;> (try split) <;> rfl

theorem State.chanIdle_demands (s : State) (i : Nat) : Demands s (s.chanIdle i) :=
  Demands.ite (Demands.refl s) ((Demands.modChan s i (by intro; rfl)).trans (Demands.raise _ _ _ _ _ _ _))

theorem State.startStop_demands (s : State) (i : Nat) : Demands s (s.startStop i) := (Demands.modChan s i (by intro; rfl)).trans (Demands.emit _ _ _)

theorem State.chanDemand_demands (s : State) (i : Nat) (on : Bool) : Demands s (s.chanDemand i on) := by
  have hon : Demands s (s.modChan i fun c => { c with demand := on }) := Demands.modChan s i fun _ => rfl
  unfold State.chanDemand
  dsimp only
  refine Demands.ite (Demands.refl s) (Demands.trans ?_ (State.armClear_demands _ i))
  generalize (s.modChan i fun c => { c with demand := on }) = u at hon
  refine hon.trans ?_
  cases on with
  | true =>
    rw [if_pos rfl]
    refine Demands.thenDrvTo ?_ _ _ _ _
    split
    · exact Demands.modChan u i fun _ => rfl
    · exact Demands.thenDrvTo (Demands.modChan u i (by intro; rfl)) _ _ _ _
    · exact Demands.refl u
  | false =>
    rw [if_neg Bool.false_ne_true]
    have hstopped : Demands u (match (s.chan i).st with
        | .waitInput => u.chanIdle i
        | .on => u.startStop i
        | _ => u) := by
      split
      · exact u.chanIdle_demands i
      · exact u.startStop_demands i
      · exact Demands.refl u
    exact Demands.ite (hstopped.trans (Demands.drvTo _ _ _ _)) (Demands.thenDrvTo hstopped _ _ _ _)

theorem State.sendDemand_demands (s : State) : Demands s s.sendDemand := by
  unfold State.sendDemand
  dsimp only
  generalize hu : foldIdx 24 _ s = u
  have hfold : Demands s u := by
    rw [← hu]
    exact Demands.over (fun i t => Demands.ite ((Demands.modChan t i (by intro; rfl)).trans (State.armClear_demands _ i)) (Demands.refl t)) 24 s
  exact (hfold.trans (Demands.told u _ _)).trans (Demands.emit _ _ _)

theorem State.updateDemand_demands (s : State) : Demands s s.updateDemand := by
  unfold State.updateDemand
  dsimp only
  generalize hu : foldIdx 24 _ s = u
  have hfold : Demands s u := by
    rw [← hu]
    exact Demands.over (fun i t => Demands.ite (State.chanDemand_demands t i _) (Demands.refl t)) 24 s
  exact hfold.trans (Demands.ite u.sendDemand_demands (Demands.refl u))

/-! ### The device state -/

theorem State.setAna_kept_self (s : State) (code : Nat) : Kept [.cmd, .evt, .outbox, .reg 7, .reg 20] s (s.setAna code) := State.setAna_kept _ (Kept.refl _ s) rfl

/-- A new device state sends and raises more, and changes no more of the companions and of fail-over than the demand. -/
theorem State.setDevState_effect (s : State) (d : DevState) : Grows s (s.setDevState d) ∧ (s.setDevState d).pwr = { s.pwr with slots := (s.setDevState d).pwr.slots } ∧
    (s.setDevState d).fov = { s.fov with demandSent := (s.setDevState d).fov.demandSent, demandTurn := (s.setDevState d).fov.demandTurn } := by
  unfold State.setDevState
  split
  · exact ⟨Grows.refl s, rfl, rfl⟩
  · dsimp only
    generalize hu : State.raise _ _ _ _ _ _ _ = u
    have hraised : Grows s u ∧ u.pwr = s.pwr ∧ u.fov = s.fov := by
      rw [← hu]
      exact ⟨⟨List.prefix_rfl, List.prefix_append _ _⟩, rfl, rfl⟩
    obtain ⟨hgrow, hpwr, hfov, -, -⟩ := (u.setAna (anaOf d)).updateDemand_demands
    refine ⟨(hraised.1.trans (u.setAna_grows _)).trans hgrow, ?_, ?_⟩
    · rw [hpwr, (u.setAna_kept_self _).pwr, hraised.2.1]
    · rw [hfov, (u.setAna_kept_self _).fov, hraised.2.2]

/-- From `s` to `t` nothing sent and nothing raised has gone, the companions and fail-over have changed by the demand alone, and the canister is the
same one. -/
def Deposes (s t : State) : Prop :=
  Grows s t ∧ t.pwr = { s.pwr with slots := t.pwr.slots } ∧ t.fov = { s.fov with demandSent := t.fov.demandSent, demandTurn := t.fov.demandTurn } ∧
    t.cfg.canister = s.cfg.canister

theorem Deposes.refl (s : State) : Deposes s s := ⟨Grows.refl s, rfl, rfl, rfl⟩

theorem State.setDevState_deposes (s : State) (d : DevState) : Deposes s (s.setDevState d) := by
  obtain ⟨hgrow, hpwr, hfov⟩ := s.setDevState_effect d
  exact ⟨hgrow, hpwr, hfov, by rw [State.setDevState_cfg]⟩

/-- A task that ends with an answer changes nothing of that. -/
theorem Deposes.answer {s t : State} (h : Deposes s t) (core ctrl cid : Nat) (st : Nat × Nat) : Deposes s ((t.endTask core ctrl cid).replyErr ctrl cid st) := by
  obtain ⟨hgrow, hpwr, hfov, hcanister⟩ := h
  obtain ⟨-, -, -, -, rcfg, -, -, -, -, -, -, -, -, -, -, -, -, -, -, -, rpwr, rfov⟩ := (t.endTask core ctrl cid).replyErr_blocks ctrl cid st
  refine ⟨hgrow.trans (Grows.reply (t.endTask core ctrl cid) ctrl cid st 0 0), ?_, ?_, ?_⟩
  · rw [rpwr]
    exact hpwr
  · rw [rfov]
    exact hfov
  · rw [rcfg]
    exact hcanister

/-- An activation that is abandoned is answered, and the canister returns to the state before it. -/
theorem State.abandonActivation_deposes (s : State) : Deposes s s.abandonActivation := by
  unfold State.abandonActivation
  split
  · next a _ =>
    split
    · dsimp only
      refine Deposes.answer ?_ _ _ _ _
      split
      · exact ({ s with cfg := { s.cfg with activation := none } } : State).setDevState_deposes a.prior
      · exact ⟨Grows.refl s, rfl, rfl, rfl⟩
    · exact Deposes.refl s
  · exact Deposes.refl s

end Sys2Proof.Machine


/-!
The slot channels (R539 to R555): what the steps of a channel leave of it, and with that what each command does. The run of samples that a command
stands for counts the two of the running Turn (notes/assumptions/11.md); the corners of CLEAR, CYCLE and a stop are the model's choices
(notes/assumptions/84.md).
-/

namespace Sys2Proof.Machine

-- The check compiles the text as one file: elaborating these proofs one after another bounds its memory.
set_option Elab.async false

/-! ### Reading a channel -/

theorem State.chan_congr {s t : State} (h : t.pwr = s.pwr) (i : Nat) : t.chan i = s.chan i := by rw [State.chan, h, State.chan]

/-- A channel that is not empty, that has its power-good or one of whose timers runs, is one of the part's. -/
theorem chan_lt {s : State} {i : Nat} (h : s.chan i ≠ Chan.none) : i < s.pwr.slots.length := by
  by_contra hlen
  exact h (by rw [State.chan, List.getD_eq_default _ _ (by omega)])

theorem chan_lt_of_st {s : State} {i : Nat} (h : (s.chan i).st ≠ .empty) : i < s.pwr.slots.length := chan_lt fun hnone => h (by rw [hnone]; rfl)

theorem due_isSome {armed : Option Nat} {t now : Nat} (h : due armed t now = true) : armed.isSome = true := by
  cases armed with
  | none => cases h
  | some a => rfl

theorem State.chan_modChan {s : State} {i : Nat} (hi : i < s.pwr.slots.length) (f : Chan → Chan) : (s.modChan i f).chan i = f (s.chan i) :=
  getD_lmod_same _ _ _ hi

theorem State.slots_modChan (s : State) (i : Nat) (f : Chan → Chan) : (s.modChan i f).pwr.slots.length = s.pwr.slots.length := length_lmod _ _ _

/-- A channel but for what the peer asks of it and the check of its discharge. -/
def Chan.own (c : Chan) : Chan := { c with peerDemand := false, clearArmed := Option.none }

theorem Chan.own_st (c : Chan) : c.own.st = c.st := rfl

theorem Chan.own_ackArmed (c : Chan) : c.own.ackArmed = c.ackArmed := rfl

theorem State.armClear_own (s : State) (i j : Nat) : ((s.armClear i).chan j).own = (s.chan j).own :=
  State.chan_modChan_keeps (g := Chan.own) (fun c => by split <;> (try split) <;> rfl) s i j

theorem State.sendDemand_own (s : State) (i : Nat) : (s.sendDemand.chan i).own = (s.chan i).own := by
  unfold State.sendDemand
  dsimp only
  generalize hu : foldIdx 24 _ s = u
  have hfold : (u.chan i).own = (s.chan i).own := by
    rw [← hu]
    unfold foldIdx
    refine List.foldlRecOn (motive := fun t : State => (t.chan i).own = (s.chan i).own) _ _ rfl fun t ht j _ => ?_
    dsimp only
    split
    · rw [State.armClear_own]
      exact (State.chan_modChan_keeps (g := Chan.own) (by intro; rfl) t j i).trans ht
    · exact ht
  exact hfold

theorem State.ackArmed_sendDemand (s : State) (i : Nat) : (s.sendDemand.chan i).ackArmed = (s.chan i).ackArmed := by
  rw [← Chan.own_ackArmed, s.sendDemand_own, Chan.own_ackArmed]

theorem State.st_sendDemand (s : State) (i : Nat) : (s.sendDemand.chan i).st = (s.chan i).st := by
  rw [← Chan.own_st, s.sendDemand_own, Chan.own_st]

/-! ### The steps of a channel -/

theorem State.chanIdle_chan {s : State} {i : Nat} (hi : i < s.pwr.slots.length) : (s.chanIdle i).chan i = { s.chan i with st := .idle } := by
  unfold State.chanIdle
  split
  · next h =>
    rw [show ChanState.idle = (s.chan i).st from (beq_iff_eq.mp h).symm]
  · exact State.chan_modChan hi _

theorem State.chanIdle_slots (s : State) (i : Nat) : (s.chanIdle i).pwr.slots.length = s.pwr.slots.length := by
  unfold State.chanIdle
  split
  · rfl
  · exact s.slots_modChan _ _

/-- The first step of a gate that goes off: the channel's new state. -/
theorem State.gateOff_first {s : State} {i : Nat} (hi : i < s.pwr.slots.length) (st : ChanState) :
    (if st == .idle then s.chanIdle i else s.modChan i fun c => { c with st := st }).chan i = { s.chan i with st := st } ∧
      (if st == .idle then s.chanIdle i else s.modChan i fun c => { c with st := st }).pwr.slots.length = s.pwr.slots.length := by
  split
  · next h => exact ⟨by rw [State.chanIdle_chan hi, beq_iff_eq.mp h], s.chanIdle_slots i⟩
  · exact ⟨State.chan_modChan hi _, s.slots_modChan _ _⟩

/-- A gate that goes off: the channel's state, no power-good, and none of the timers of a channel that is on. -/
theorem State.gateOff_own {s : State} {i : Nat} (hi : i < s.pwr.slots.length) (st : ChanState) : ((s.gateOff i st).chan i).own = Chan.own { s.chan i with
    st := st
    pg := false
    goodArmed := none
    brownArmed := none
    stopArmed := none
    ackArmed := none
    smp := { (s.chan i).smp with faultCount := 0, qualified := 0 } } := by
  obtain ⟨hchan, hlen⟩ := State.gateOff_first hi st
  unfold State.gateOff
  dsimp only
  rw [State.armClear_own, State.chan_congr (State.modSlot_pwr _ _ _), State.chan_modChan (hlen ▸ hi), hchan]

theorem State.gateOff_slots {s : State} {i : Nat} (hi : i < s.pwr.slots.length) (st : ChanState) : (s.gateOff i st).pwr.slots.length = s.pwr.slots.length := by
  unfold State.gateOff State.armClear
  dsimp only
  rw [State.slots_modChan, State.modSlot_pwr, State.slots_modChan, (State.gateOff_first hi st).2]

theorem State.gateOff_deferred (s : State) (i : Nat) (st : ChanState) : (s.gateOff i st).deferred = s.deferred :=
  deferred_of_kept (State.gateOff_kept _ _ (Kept.refl _ s) rfl)

theorem State.gateOff_grows (s : State) (i : Nat) (st : ChanState) : Grows s (s.gateOff i st) := by
  unfold State.gateOff
  dsimp only
  refine Grows.trans (t := if st == .idle then s.chanIdle i else s.modChan i fun c => { c with st := st }) ?_ (Grows.refl _)
  split
  · exact (s.chanIdle_demands i).1
  · exact Grows.refl s

/-- A drive that has lost its power asks for other states of its port and raises what its member's loss raises. -/
theorem State.driveLostPower_effect (s : State) (i : Nat) (again : Bool) : (s.driveLostPower i again).pwr = s.pwr ∧ s.evt.raised <+: (s.driveLostPower i again).evt.raised := by
  refine ⟨pwr_of_kept (State.driveLostPower_kept _ _ (Kept.refl _ s) rfl), ?_⟩
  have hcause : s.evt.raised <+: (s.memberCause i 2 true).evt.raised := by
    unfold State.memberCause
    split
    · split
      · dsimp only
        split
        · exact List.prefix_append _ _
        · exact List.prefix_rfl
      · exact List.prefix_rfl
    · rw [evt_of_kept (State.enterLadder_kept _ _ (Kept.refl _ s) rfl)]
  unfold State.driveLostPower
  split
  · split
    · exact hcause
    · exact List.prefix_rfl
  · split
    · exact hcause
    · exact List.prefix_rfl
  all_goals exact List.prefix_rfl

/-- A latched fault (R547, R548): FAULT with its cause, no power-good, one retry more, and the event. -/
theorem State.slotFault_effect {s : State} {i : Nat} (hi : i < s.pwr.slots.length) (cause : Nat) :
    ((s.slotFault i cause).chan i).st = .fault ∧ ((s.slotFault i cause).chan i).cause = cause ∧ ((s.slotFault i cause).chan i).pg = false ∧
      ((s.slotFault i cause).chan i).retries = (s.chan i).retries + 1 ∧ Raises s (s.slotFault i cause) Ev.slotFault i cause := by
  have hown := State.gateOff_own hi .fault
  have hlen : i < (s.gateOff i .fault).pwr.slots.length := by rwa [State.gateOff_slots hi]
  have hgrow := (s.gateOff_grows i .fault).2
  unfold State.slotFault
  dsimp only
  generalize s.gateOff i .fault = u at hown hlen hgrow
  generalize hv : State.count _ 345 1 i = v
  have hchan : v.chan i = { u.chan i with cause := cause, retries := (s.chan i).retries + 1, retryArmed := some u.clock } := by
    rw [← hv, State.chan_congr (State.count_pwr _ _ _ _), State.chan_congr (State.wr_pwr _ _ _ _ _)]
    exact State.chan_modChan hlen _
  have hevt : v.evt = u.evt := by
    rw [← hv, State.count_evt]
    rfl
  obtain ⟨hpwr, hmore⟩ := (v.raise Ev.slotFault Sev.error i cause ((s.chan i).retries + 1) 0).driveLostPower_effect i (decide ((s.chan i).retries + 1 ≤ s.rd Reg.PWR_CFG_MAX_RETRY))
  rw [State.chan_congr hpwr, State.chan_congr (State.raise_pwr _ _ _ _ _ _ _), hchan]
  refine ⟨congrArg Chan.st hown, rfl, congrArg Chan.pg hown, rfl, ?_⟩
  exact Raises.mono (Raises.after (State.raise_raises v _ _ _ _ _ _) (by rwa [hevt])) hmore

/-- A channel that is demanded and whose input fails waits for it. -/
theorem State.inputFail_effect {s : State} {i : Nat} (hi : i < s.pwr.slots.length) (hdemand : (s.chan i).demand = true) (cause : Nat) :
    ((s.inputFail i cause).chan i).st = .waitInput ∧ ((s.inputFail i cause).chan i).cause = cause ∧ ((s.inputFail i cause).chan i).brownArmed = none := by
  have hown := State.gateOff_own hi .waitInput
  have hlen : i < (s.gateOff i .waitInput).pwr.slots.length := by rwa [State.gateOff_slots hi]
  unfold State.inputFail
  dsimp only
  generalize s.gateOff i .waitInput = u at hown hlen
  have hchan : (((u.modChan i fun c => { c with cause := cause }).raise Ev.slotInput Sev.warning i cause 0 0).driveLostPower i true).chan i = { u.chan i with cause := cause } := by
    rw [State.chan_congr (State.driveLostPower_effect _ _ _).1, State.chan_congr (State.raise_pwr _ _ _ _ _ _ _)]
    exact State.chan_modChan hlen _
  have hstill : ({ u.chan i with cause := cause } : Chan).demand = true := (congrArg Chan.demand hown).trans hdemand
  rw [hchan, if_pos hstill, hchan]
  exact ⟨congrArg Chan.st hown, rfl, congrArg Chan.brownArmed hown⟩

/-- An orderly stop that ends leaves the channel IDLE, its gate off. -/
theorem State.finishStop_effect (s : State) (i : Nat) : ((s.finishStop i).chan i).own = ((s.gateOff i .idle).chan i).own ∧
    (s.finishStop i).pwr = (s.gateOff i .idle).pwr := by
  unfold State.finishStop
  dsimp only
  split <;> exact ⟨rfl, rfl⟩

/-! ### The commands -/

theorem Completes.slotRemoved {s : State} {slot : Nat} (hon : s.slotOn slot = true) (hst : (s.chan slot).st ≠ .empty) :
    Completes (.slotRemoved slot) s fun t => (t.chan slot).st = .empty ∧ (t.chan slot).present = false ∧ (t.chan slot).retries = 0 ∧ (t.chan slot).pg = false ∧
      .drvTo slot 0 0 ∈ t.deferred := by
  have hi := chan_lt_of_st hst
  have hown := State.gateOff_own hi .empty
  have hlen : slot < (s.gateOff slot .empty).pwr.slots.length := by rwa [State.gateOff_slots hi]
  refine Completes.guard rfl hon ?_
  dsimp only
  rw [if_neg (by simpa using hst)]
  generalize s.gateOff slot .empty = u at hown hlen
  generalize hv : State.count _ 348 1 slot = v
  have hchan : v.chan slot = { u.chan slot with present := false, retries := 0, insertArmed := none, retryArmed := none, cycleArmed := none, heldArmed := none } := by
    rw [← hv, State.chan_congr (State.count_pwr _ _ _ _), State.chan_congr (State.wr_pwr _ _ _ _ _)]
    exact State.chan_modChan hlen _
  have hgone : (v.chan slot).st = .empty ∧ (v.chan slot).present = false ∧ (v.chan slot).retries = 0 ∧ (v.chan slot).pg = false := by
    rw [hchan]
    exact ⟨congrArg Chan.st hown, rfl, rfl, congrArg Chan.pg hown⟩
  obtain ⟨hempty, hpresent, hretries, hpg⟩ := hgone
  split
  · split
    · refine ⟨hempty, hpresent, hretries, hpg, ?_⟩
      simp [State.posTo, State.drvTo]
    · refine ⟨hempty, hpresent, hretries, hpg, ?_⟩
      simp [State.drvTo]
  · refine ⟨hempty, hpresent, hretries, hpg, ?_⟩
    simp [State.drvTo]

theorem Completes.insertDelay {s : State} {slot : Nat} (hon : s.slotOn slot = true) (hst : (s.chan slot).st = .inserting)
    (hdue : due (s.chan slot).insertArmed s.insertTurns s.clock = true) :
    Completes (.insertDelayExpiry slot) s fun t => (t.chan slot).st = (if (s.chan slot).demand then .waitInput else .idle) ∧
      t.deferred = s.deferred ++ [.drvTo slot (if (s.chan slot).demand then 1 else 7) 0] := by
  have hi := chan_lt_of_st (s := s) (i := slot) (by rw [hst]; decide)
  refine Completes.guard rfl hon ?_
  dsimp only
  rw [if_pos (by simp [hst, hdue])]
  generalize hu : (State.chanIdle _ slot) = u
  have hidle : (u.chan slot).st = .idle ∧ slot < u.pwr.slots.length ∧ u.deferred = s.deferred := by
    rw [← hu, State.chanIdle_chan (by rwa [State.slots_modChan]), State.chanIdle_slots, State.slots_modChan]
    exact ⟨rfl, hi, (deferred_of_kept (State.chanIdle_kept _ (Kept.refl _ _) rfl)).trans rfl⟩
  obtain ⟨hstate, hlen, hdeferred⟩ := hidle
  cases (s.chan slot).demand with
  | true =>
    refine ⟨?_, by rw [← hdeferred]; rfl⟩
    exact congrArg Chan.st (State.chan_modChan hlen _)
  | false => exact ⟨hstate, by rw [← hdeferred]; rfl⟩

theorem Completes.powerGood {s : State} {slot : Nat} (hon : s.slotOn slot = true) (hst : (s.chan slot).st = .starting) (hrun : 14 ≤ (s.chan slot).smp.qualified)
    (hdemand : (s.chan slot).demand = true) :
    Completes (.slotPowerGood slot) s fun t => (t.chan slot).st = .on ∧ (t.chan slot).pg = true ∧ (t.slot slot).perst = true ∧ Raises s t Ev.slotPower slot 5 := by
  have hi := chan_lt_of_st (s := s) (i := slot) (by rw [hst]; decide)
  have hready : ((s.chan slot).st == .starting && s.sampled (s.chan slot).smp.qualified 16) = true := by
    simp [hst, State.sampled, show 16 ≤ (s.chan slot).smp.qualified + 2 by omega]
  refine Completes.guard rfl hon ?_
  dsimp only
  rw [if_pos hready, if_pos hdemand, State.chan_congr (State.count_pwr _ _ _ _), State.slot, State.count_drv]
  refine ⟨?_, ?_, ?_, ?_⟩
  · exact congrArg Chan.st (State.chan_modChan hi _)
  · exact congrArg Chan.pg (State.chan_modChan hi _)
  · rw [State.raise_drv, State.modSlot]
    by_cases hdrv : slot < s.drv.length
    · exact congrArg Slot.perst (getD_lmod_same _ _ _ hdrv)
    · dsimp only
      rw [List.getD_eq_default _ _ (by rw [length_lmod]; exact Nat.not_lt.mp hdrv)]
      rfl
  · generalize hu : State.modSlot _ slot _ = u
    have hevt : u.evt = s.evt := by rw [← hu]; rfl
    exact Raises.mono (Raises.after (State.raise_raises u Ev.slotPower Sev.notice slot 5 0 0) (by rw [hevt])) (by rw [State.count_evt])

/-- A cycle begins: the demand is withdrawn, and its timer runs. -/
theorem State.beginCycle_effect {s : State} {i : Nat} (hi : i < s.pwr.slots.length) :
    ((s.beginCycle i).chan i).demand = false ∧ ((s.beginCycle i).chan i).cycleArmed = some s.clock := by
  have hrest : ∀ u : State, i < u.pwr.slots.length ∧ u.trn = s.trn →
      let v := u.modChan i fun c => { c with demand := false, cycleArmed := some u.clock }
      ((if v.serving then v.sendDemand else v).chan i).demand = false ∧ ((if v.serving then v.sendDemand else v).chan i).cycleArmed = some s.clock := by
    intro u ⟨hlen, htrn⟩ v
    have hown : ((if v.serving then v.sendDemand else v).chan i).own = (v.chan i).own := by
      split
      · exact State.sendDemand_own v i
      · rfl
    have hv : v.chan i = { u.chan i with demand := false, cycleArmed := some s.clock } := by
      rw [State.clock, ← htrn]
      exact State.chan_modChan hlen _
    rw [hv] at hown
    exact ⟨congrArg Chan.demand hown, congrArg Chan.cycleArmed hown⟩
  have hoff : i < (s.gateOff i .idle).pwr.slots.length ∧ (s.gateOff i .idle).trn = s.trn :=
    ⟨by rwa [State.gateOff_slots hi], trn_of_kept (State.gateOff_kept _ _ (Kept.refl _ s) rfl)⟩
  have hidle : i < (s.chanIdle i).pwr.slots.length ∧ (s.chanIdle i).trn = s.trn :=
    ⟨by rwa [State.chanIdle_slots], trn_of_kept (State.chanIdle_kept _ (Kept.refl _ s) rfl)⟩
  unfold State.beginCycle
  dsimp only
  cases (s.chan i).st with
  | starting | on | stopping => exact hrest _ hoff
  | waitInput => exact hrest _ hidle
  | empty | inserting | idle | fault => exact hrest s ⟨hi, rfl⟩

theorem Completes.slotCycle {s : State} {slot : Nat} (hon : s.slotOn slot = true) (hup : s.inReset = false) (hpresent : (s.chan slot).present = true)
    (hdemand : (s.chan slot).demand = true) (hidle : (s.chan slot).cycleArmed = none) :
    Completes (.slotCycle .core slot) s fun t => (t.chan slot).demand = false ∧ (t.chan slot).cycleArmed = some s.clock := by
  have hi : slot < s.pwr.slots.length := chan_lt fun h => by simp [h, Chan.none] at hpresent
  refine Completes.guard rfl hon ?_
  simp only [State.up, hup, Bool.false_eq_true, if_false]
  rw [if_neg (by simp [hpresent, hdemand, hidle])]
  have hcycle := State.beginCycle_effect hi
  generalize s.beginCycle slot = u at hcycle
  split <;> exact hcycle

theorem Completes.stopAsked {s : State} {slot : Nat} (hon : s.slotOn slot = true) (hnot : (s.slot slot).st ≠ .ladder) (hst : (s.chan slot).st = .stopping)
    (hstop : (s.chan slot).stopArmed.isSome = true) (hack : (s.chan slot).ackArmed = none) (hserving : s.serving = true) (hpeer : s.peerLink = true) :
    Completes (.slotShutdownDone slot) s fun t => (t.chan slot).ackArmed = some s.clock ∧ (t.chan slot).st = .stopping := by
  have hi := chan_lt_of_st (s := s) (i := slot) (by rw [hst]; decide)
  refine Completes.guard rfl hon ?_
  dsimp only
  rw [if_neg (by simp [hnot]), if_pos (by simp [hst, hstop, hack]), if_pos hserving, if_pos hpeer]
  rw [State.ackArmed_sendDemand, State.st_sendDemand, State.chan_modChan hi]
  exact ⟨rfl, hst⟩

theorem Completes.discharge {s : State} {slot : Nat} (current : Nat) (hon : s.slotOn slot = true) (hdue : due (s.chan slot).clearArmed 977 s.clock = true) :
    Completes (.slotDischargeCheck slot true current) s fun t => (t.chan slot).clearArmed = none ∧
      if 100 < current then (t.chan slot).damaged = true ∧ (t.chan slot).cause = 6 ∧ Raises s t Ev.fetDamaged slot 6
      else Raises s t Ev.slotVoltageUnexplained slot 0 := by
  have hi : slot < s.pwr.slots.length := chan_lt fun h => by simp [h, Chan.none, due] at hdue
  have hcleared := State.chan_modChan hi fun c => { c with clearArmed := none }
  refine Completes.guard rfl hon ?_
  dsimp only
  rw [if_pos hdue, if_neg (by decide)]
  by_cases hcurrent : 100 < current
  · rw [if_pos hcurrent, if_pos hcurrent, State.chan_congr (State.raise_pwr _ _ _ _ _ _ _), State.chan_modChan (by rwa [State.slots_modChan]), hcleared]
    exact ⟨rfl, rfl, rfl, Raises.after (State.raise_raises _ _ _ _ _ _ _) List.prefix_rfl⟩
  · rw [if_neg hcurrent, if_neg hcurrent, State.chan_congr (State.raise_pwr _ _ _ _ _ _ _), hcleared]
    exact ⟨rfl, Raises.after (State.raise_raises _ _ _ _ _ _ _) List.prefix_rfl⟩

/-- Settles O29, command by command. -/
theorem slotChannelCommands : Obligations.SlotChannelCommands := by
  unfold Obligations.SlotChannelCommands
  refine ⟨?_, ?_, ?_, ?_, ?_, ?_, ?_, ?_, ?_, ?_, ?_, ?_, ?_, ?_, ?_, ?_, ?_, ?_, ?_, ?_, ?_⟩
  · intro s slot hon hi hst
    refine Completes.guard rfl hon ?_
    rw [if_pos (by simp [hst]), State.chan_modChan hi]
    exact ⟨rfl, rfl, rfl⟩
  · exact fun s slot hon hst => Completes.slotRemoved hon hst
  · exact fun s slot hon hst hdue => Completes.insertDelay hon hst hdue
  · intro s slot hon hmay hroom hfirst
    have hst : (s.chan slot).st = .waitInput := by
      simp only [State.mayStart, Bool.and_eq_true, beq_iff_eq] at hmay
      exact hmay.1.1.1.1
    refine Completes.guard rfl hon ?_
    rw [if_pos (by simp [hmay, hroom, hfirst]), State.chan_modChan (chan_lt_of_st (by rw [hst]; decide))]
    exact ⟨rfl, rfl⟩
  · exact fun s slot hon hst hrun hdemand => Completes.powerGood hon hst hrun hdemand
  · intro s ch hch hon hst
    have hi : ch < s.pwr.slots.length := chan_lt_of_st (by rcases hst with h | h <;> rw [h] <;> decide)
    refine Completes.guard (by change execEfuseTrip ch s = _; rw [execEfuseTrip, if_pos hch]) hon ?_
    rw [if_pos (by simpa using hst)]
    obtain ⟨hfault, hcause, -, hretries, hraised⟩ := State.slotFault_effect (s := s.count 346 1 ch) (i := ch) (by rwa [State.count_pwr]) 2
    exact ⟨hfault, hcause, by rw [hretries, State.chan_congr (State.count_pwr _ _ _ _)], hraised.after (by rw [State.count_evt])⟩
  · intro s ch hch hon hst hcount
    have hi : ch < s.pwr.slots.length := chan_lt_of_st (by rcases hst with h | h <;> rw [h] <;> decide)
    refine Completes.guard (by change execFaultTimerExpiry ch s = _; rw [execFaultTimerExpiry, if_pos hch]) hon ?_
    rw [if_pos (by rcases hst with h | h <;> simp [h, State.sampled, hcount])]
    obtain ⟨hfault, hcause, hpg, -, hraised⟩ := State.slotFault_effect hi 1
    exact ⟨hfault, hcause, hpg, hraised⟩
  · intro s slot hon hst hpg hbrown
    refine Completes.guard rfl hon ?_
    dsimp only
    rw [if_pos (by simp [hst, hpg, hbrown])]
    obtain ⟨hfault, hcause, -, -, hraised⟩ := State.slotFault_effect (chan_lt_of_st (s := s) (i := slot) (by rw [hst]; decide)) 3
    exact ⟨hfault, hcause, hraised⟩
  · intro s slot excess hon hst hdemand
    refine Completes.guard rfl hon ?_
    dsimp only
    rw [if_pos (by simp [hst])]
    obtain ⟨hwait, hcause, -⟩ := State.inputFail_effect (chan_lt_of_st (s := s) (i := slot) (by rw [hst]; decide)) hdemand (if excess then 4 else 5)
    exact ⟨hwait, hcause⟩
  · intro s slot hon hst hbrown
    have hi := chan_lt_of_st (s := s) (i := slot) (by rw [hst]; decide)
    refine Completes.guard rfl hon ?_
    dsimp only
    rw [if_pos (by simp [hst, hbrown]), State.chan_congr (State.count_pwr _ _ _ _), State.chan_modChan hi]
    exact ⟨rfl, hst⟩
  · intro s slot below hon hst hdemand hdue
    have hi := chan_lt_of_st (s := s) (i := slot) (by rw [hst]; decide)
    have hchan := State.chan_modChan hi fun c => { c with brownArmed := none }
    refine Completes.guard rfl hon ?_
    dsimp only
    rw [if_pos hdue]
    cases below with
    | true =>
      rw [if_pos (by simp [hst])]
      obtain ⟨hwait, -, hnone⟩ := State.inputFail_effect (s := s.modChan slot fun c => { c with brownArmed := none }) (i := slot) (by rwa [State.slots_modChan])
        (by rw [hchan]; exact hdemand) 5
      exact ⟨hnone, hwait⟩
    | false =>
      rw [if_neg (by simp), hchan]
      exact ⟨rfl, hst⟩
  · intro s ch hch hon hst hdamaged hretries hdue
    have hi := chan_lt_of_st (s := s) (i := ch) (by rw [hst]; decide)
    have hlen : ch < (s.modChan ch fun c => { c with retryArmed := none }).pwr.slots.length := by rwa [State.slots_modChan]
    refine Completes.guard (by change execRetryDelayExpiry ch s = _; rw [execRetryDelayExpiry, if_pos hch]) hon ?_
    dsimp only
    rw [if_pos (by simp [hst, hdamaged, hretries, hdue])]
    cases hdemand : (s.chan ch).demand with
    | true =>
      rw [if_pos rfl]
      have hwait := State.chan_modChan hlen fun c => { c with st := .waitInput }
      rw [State.chan_modChan hi] at hwait
      split
      · exact ⟨congrArg Chan.st hwait, congrArg Chan.retryArmed hwait⟩
      · exact ⟨congrArg Chan.st hwait, congrArg Chan.retryArmed hwait⟩
    | false =>
      rw [if_neg Bool.false_ne_true, State.chanIdle_chan hlen, State.chan_modChan hi]
      exact ⟨rfl, rfl⟩
  · intro s ch hch hon hpg hdue
    have hi : ch < s.pwr.slots.length := chan_lt fun h => by simp [h, Chan.none] at hpg
    refine Completes.guard (by change execRetryCountClearExpiry ch s = _; rw [execRetryCountClearExpiry, if_pos hch]) hon ?_
    dsimp only
    rw [if_pos (by simp [hpg, hdue]), State.chan_modChan hi]
    exact ⟨rfl, rfl, rfl⟩
  · intro s w slot hon hup hw hst hdamaged
    have hi := chan_lt_of_st (s := s) (i := slot) (by rw [hst]; decide)
    have hlen : slot < (s.modChan slot fun c => { c with retries := 0 }).pwr.slots.length := by rwa [State.slots_modChan]
    have hacts : (w == .endpoint && s.cfg.state == .safeHold) = false := by simp [hw]
    refine Completes.guard rfl hon ?_
    simp only [State.acts, State.up, hup, hacts, Bool.false_eq_true, if_false]
    rw [if_pos (by simp [hst, hdamaged])]
    have hchan := State.chan_modChan hlen fun c => { c with retryArmed := none }
    rw [State.chan_modChan hi] at hchan
    split
    · exact ⟨congrArg Chan.retries hchan, by simp [State.drvTo]⟩
    · exact ⟨congrArg Chan.retries hchan, by simp⟩
  · exact fun s slot hon hup hpresent hdemand hidle => Completes.slotCycle hon hup hpresent hdemand hidle
  · intro s slot hon hdue
    have hi : slot < s.pwr.slots.length := chan_lt fun h => by simp [h, Chan.none, due] at hdue
    refine Completes.guard rfl hon ?_
    rw [if_pos hdue]
    obtain ⟨-, -, -, -, hcycle⟩ := (s.modChan slot fun c => { c with cycleArmed := none }).updateDemand_demands
    rw [hcycle, State.chan_modChan hi]
  · intro s w slot hon hup hw
    have hacts : (w == .endpoint && s.cfg.state == .safeHold) = false := by simp [hw]
    refine Completes.guard rfl hon ?_
    simp only [State.acts, State.up, hup, hacts, Bool.false_eq_true, if_false]
  · exact fun s slot hon hnot hst hstop hack hserving hpeer => Completes.stopAsked hon hnot hst hstop hack hserving hpeer
  · intro s slot hon hst hdue
    have hi := chan_lt_of_st (s := s) (i := slot) (by rw [hst]; decide)
    refine Completes.guard rfl hon ?_
    rw [if_pos (by simp [hst, hdue])]
    have hown := (s.finishStop_effect slot).1.trans (State.gateOff_own hi .idle)
    exact ⟨congrArg Chan.st hown, congrArg Chan.pg hown⟩
  · intro s slot hon hdue
    have hi : slot < s.pwr.slots.length := chan_lt fun h => by simp [h, Chan.none, due] at hdue
    refine Completes.guard rfl hon ?_
    dsimp only
    rw [if_pos hdue, if_pos rfl, State.chan_congr (State.raise_pwr _ _ _ _ _ _ _), State.chan_modChan hi]
    exact ⟨rfl, Raises.after (State.raise_raises _ _ _ _ _ _ _) List.prefix_rfl⟩
  · exact fun s slot current hon hdue => Completes.discharge current hon hdue

end Sys2Proof.Machine


/-!
The feeds and the supply warning (R541, R545, R557 to R565). The run of samples that a command stands for counts the two of the running Turn
(notes/assumptions/11.md); first power, a transfer with the presence lost and the warning of a transfer are the model's choices
(notes/assumptions/85.md).
-/

namespace Sys2Proof.Machine

-- The check compiles the text as one file: elaborating these proofs one after another bounds its memory.
set_option Elab.async false

/-! ### Reading a feed -/

theorem State.feed_congr {s t : State} (h : t.pwr.feeds = s.pwr.feeds) (f : Nat) : t.feed f = s.feed f := by rw [State.feed, h, State.feed]

/-- A feed that is not absent is one of the part's. -/
theorem feed_lt {s : State} {f : Nat} (h : (s.feed f).st ≠ .absent) : f < s.pwr.feeds.length := by
  by_contra hlen
  exact h (by rw [State.feed, List.getD_eq_default _ _ (by omega)]; rfl)

theorem State.feed_modFeed {s : State} {f : Nat} (hf : f < s.pwr.feeds.length) (g : Feed → Feed) : (s.modFeed f g).feed f = g (s.feed f) :=
  getD_lmod_same _ _ _ hf

theorem State.feed_modFeed_ne (s : State) {f i : Nat} (h : i ≠ f) (g : Feed → Feed) : (s.modFeed f g).feed i = s.feed i := getD_lmod_ne _ _ _ h

theorem State.feed_feedOff {s : State} {f : Nat} (hf : f < s.pwr.feeds.length) (st : FeedState) : (s.feedOff f st).feed f =
    { s.feed f with st := st, pg := false, goodArmed := none, smp := { (s.feed f).smp with faultCount := 0, qualified := 0 } } :=
  State.feed_modFeed hf _

theorem State.selected_st {s : State} {f : Nat} (h : s.selected = some f) : (s.feed f).st = .selected := by
  unfold State.selected at h
  split at h
  · next h0 =>
    cases h
    simpa using h0
  · split at h
    · next h1 =>
      cases h
      simpa using h1
    · cases h

theorem State.pickFeed_st {s : State} {f : Nat} (h : s.pickFeed = some f) : (s.feed f).st = .available := by
  unfold State.pickFeed at h
  dsimp only at h
  generalize (if s.rd Reg.PWR_CFG_FEED_PRI = 1 then 1 else 0) = first at h
  split at h
  · next h0 =>
    cases h
    simpa using h0
  · split at h
    · next h1 =>
      cases h
      simpa using h1
    · cases h

/-! ### Selection -/

/-- Selection leaves a feed that is available available, or starts it. -/
theorem State.feedSelect_available {s : State} {f : Nat} (h : (s.feed f).st = .available) :
    ((s.feedSelect.feed f).st = .available ∨ (s.feedSelect.feed f).st = .starting) ∧ (s.feedSelect.feed f).first = (s.feed f).first := by
  unfold State.feedSelect
  split
  · exact ⟨Or.inl h, rfl⟩
  · split
    · next g hg =>
      dsimp only
      split
      · have hne : f ≠ g := by
          rintro rfl
          exact absurd (h.symm.trans (State.selected_st hg)) (by decide)
        rw [State.feed_congr (s := s.feedOff g .available) (by rw [State.count_pwr]; rfl),
          State.feedOff, State.feed_modFeed_ne _ hne]
        exact ⟨Or.inl h, rfl⟩
      · exact ⟨Or.inl h, rfl⟩
    · split
      · next g hg =>
        by_cases hne : f = g
        · subst hne
          rw [State.feed_modFeed (feed_lt (by rw [h]; decide))]
          exact ⟨Or.inr rfl, rfl⟩
        · rw [State.feed_modFeed_ne _ hne]
          exact ⟨Or.inl h, rfl⟩
      · exact ⟨Or.inl h, rfl⟩

/-- A feed that waits and whose input may be used is available, or starts. -/
theorem State.feedAvailable_effect {s : State} {f : Nat} (h : (s.feed f).st = .waiting) :
    (((s.feedAvailable f).feed f).st = .available ∨ ((s.feedAvailable f).feed f).st = .starting) ∧ ((s.feedAvailable f).feed f).first = false := by
  have hf : f < s.pwr.feeds.length := feed_lt (by rw [h]; decide)
  have hmod := State.feed_modFeed hf fun x => { x with st := .available, insertArmed := none, windowArmed := none, first := false }
  obtain ⟨hst, hfirst⟩ := State.feedSelect_available (congrArg Feed.st hmod)
  exact ⟨hst, hfirst.trans (congrArg Feed.first hmod)⟩

/-! ### The supply warning -/

/-- The warning is asserted: with its pin and its event where it was not, and the feeds as they were. -/
theorem State.assertWarning_effect (s : State) : Grows s s.assertWarning ∧ s.assertWarning.pwr = { s.pwr with slots := s.assertWarning.pwr.slots, warn := true } := by
  unfold State.assertWarning
  split
  · next hwarn =>
    exact ⟨Grows.refl s, by rw [← hwarn]⟩
  · dsimp only
    generalize hu : State.emit _ .pin [1, 1] = u
    have hpin : Grows s u ∧ u.pwr = { s.pwr with warn := true } := by
      rw [← hu, Grows, State.emit_outbox, State.emit_evt, State.emit_pwr, State.count_outbox, State.count_evt, State.count_pwr]
      exact ⟨⟨List.prefix_append _ _, List.prefix_append _ _⟩, rfl⟩
    obtain ⟨agrow, apwr, -, -⟩ := u.abandonActivation_deposes
    exact ⟨hpin.1.trans agrow, by rw [apwr, hpin.2]⟩

theorem State.assertWarning_new {s : State} (hwarn : s.pwr.warn = false) : Sends s s.assertWarning ⟨.pin, [1, 1]⟩ ∧ Raises s s.assertWarning Ev.supplyWarning 0 1 := by
  unfold State.assertWarning
  rw [hwarn, if_neg Bool.false_ne_true]
  dsimp only
  generalize hu : State.emit _ .pin [1, 1] = u
  have hpin : Sends s u ⟨.pin, [1, 1]⟩ ∧ Raises s u Ev.supplyWarning 0 1 := by
    have hraise := State.raise_raises ({ s with pwr := { s.pwr with warn := true } } : State) Ev.supplyWarning Sev.warning 0 1 0 0
    rw [← hu, Sends, State.emit_outbox, State.count_outbox]
    refine ⟨⟨List.prefix_append _ _, by simp⟩, Raises.mono (Raises.after hraise List.prefix_rfl) ?_⟩
    rw [State.emit_evt, State.count_evt]
    exact List.prefix_rfl
  obtain ⟨agrow, -, -, -⟩ := u.abandonActivation_deposes
  exact ⟨agrow.sends hpin.1, hpin.2.mono agrow.2⟩

/-! ### A failure transfer -/

theorem State.failureTransfer_effect {s : State} {f : Nat} (hf : f < s.pwr.feeds.length) :
    ((s.failureTransfer f .waiting).feed f).st = .waiting ∧ (s.failureTransfer f .waiting).pwr.dead = true ∧ (s.failureTransfer f .waiting).pwr.transfer = some false ∧
      (s.failureTransfer f .waiting).pwr.warn = true ∧ Raises s (s.failureTransfer f .waiting) Ev.feedTransfer f 0 := by
  have hoff := State.feed_feedOff hf .waiting
  have hlen : f < (s.feedOff f .waiting).pwr.feeds.length := by
    rw [State.feedOff, State.modFeed, length_lmod]
    exact hf
  unfold State.failureTransfer
  dsimp only
  generalize hv : State.count _ 349 1 f = v
  have hpwr : (v.feed f).st = .waiting ∧ v.pwr.dead = true ∧ v.pwr.transfer = some false ∧ v.evt = s.evt := by
    rw [← hv, State.feed, State.count_pwr, State.count_evt]
    refine ⟨?_, rfl, rfl, rfl⟩
    exact (congrArg Feed.st (State.feed_modFeed hlen _)).trans (congrArg Feed.st hoff)
  obtain ⟨hst, hdead, htransfer, hevt⟩ := hpwr
  obtain ⟨agrow, apwr⟩ := (v.raise Ev.feedTransfer Sev.warning f 0 0 0).assertWarning_effect
  refine ⟨?_, ?_, ?_, ?_, ?_⟩
  · rw [State.feed, apwr]
    exact hst
  · rw [apwr]
    exact hdead
  · rw [apwr]
    exact htransfer
  · rw [apwr]
  · exact Raises.mono (Raises.after (State.raise_raises v Ev.feedTransfer Sev.warning f 0 0 0) (by rw [hevt])) agrow.2

/-- A feed that is pulled is absent, and has no latched fault and no retry count. -/
theorem State.feedPulled_effect {s : State} {f : Nat} (hf : f < s.pwr.feeds.length) : ((s.feedPulled f).feed f).st = .absent ∧ ((s.feedPulled f).feed f).present = false ∧
    ((s.feedPulled f).feed f).retries = 0 := by
  have hlen : f < (s.feedOff f .absent).pwr.feeds.length := by
    rw [State.feedOff, State.modFeed, length_lmod]
    exact hf
  rw [State.feedPulled, State.feed_modFeed hlen, State.feed_feedOff hf]
  exact ⟨rfl, rfl, rfl⟩

theorem Completes.failureTransfer {s : State} {f : Nat} (lost : Bool) (h : s.selected = some f) :
    Completes (.feedFailureTransfer lost) s fun t => (t.feed f).st = (if lost then .absent else .waiting) ∧ t.pwr.dead = true ∧ t.pwr.transfer = some false ∧
      t.pwr.warn = true ∧ Raises s t Ev.feedTransfer f 0 := by
  have hf : f < s.pwr.feeds.length := feed_lt (by rw [State.selected_st h]; decide)
  obtain ⟨hst, hdead, htransfer, hwarn, hraised⟩ := State.failureTransfer_effect hf
  refine ⟨_, rfl, ?_⟩
  simp only [h]
  generalize s.failureTransfer f .waiting = u at hst hdead htransfer hwarn hraised
  have hlen : f < u.pwr.feeds.length := feed_lt (by rw [hst]; decide)
  cases lost with
  | false => exact ⟨hst, hdead, htransfer, hwarn, hraised⟩
  | true => exact ⟨(State.feedPulled_effect hlen).1, hdead, htransfer, hwarn, hraised⟩

/-! ### Starting and power-good -/

/-- With no feed selected or starting and no dead time, the feed that selection picks starts. -/
theorem State.feedSelect_picks {s : State} {f : Nat} (hdead : s.pwr.dead = false) (hstarting : s.startingFeed = none) (hselected : s.selected = none)
    (hpick : s.pickFeed = some f) : (s.feedSelect.feed f).st = .starting ∧ s.feedSelect.pwr.dead = false := by
  have hf : f < s.pwr.feeds.length := feed_lt (by rw [State.pickFeed_st hpick]; decide)
  unfold State.feedSelect
  rw [if_neg (by simp [hdead, hstarting])]
  simp only [hselected, hpick]
  exact ⟨congrArg Feed.st (State.feed_modFeed hf _), hdead⟩

/-- Selection leaves a selected feed be while the other one is neither available nor selected. -/
theorem State.feedSelect_stays {s : State} {f : Nat} (hf : f < 2) (hsel : (s.feed f).st = .selected) (hother : (s.feed (1 - f)).st ≠ .available)
    (hother' : (s.feed (1 - f)).st ≠ .selected) : s.feedSelect = s := by
  have hselected : s.selected = some f := by
    unfold State.selected
    match f, hf with
    | 0, _ => simp [hsel]
    | 1, _ => simp [hsel, show (s.feed 0).st ≠ .selected from hother']
  unfold State.feedSelect
  split
  · rfl
  · simp only [hselected]
    rw [if_neg ?_]
    simp only [Bool.and_eq_true, decide_eq_true_eq, bne_iff_ne, beq_iff_eq, not_and]
    intro hpri hav
    have hone : s.rd Reg.PWR_CFG_FEED_PRI = 1 - f := by omega
    rw [hone] at hav
    exact hother hav

theorem Completes.feedPowerGood {s : State} {f : Nat} (hf : f < 2) (hst : (s.feed f).st = .starting) (hrun : 14 ≤ (s.feed f).smp.qualified)
    (hother : (s.feed (1 - f)).st ≠ .available) (hother' : (s.feed (1 - f)).st ≠ .selected) :
    Completes (.feedPowerGood f) s fun t => (t.feed f).st = .selected ∧ (t.feed f).pg = true ∧ t.pwr.transfer = none := by
  refine Completes.guard rfl (decide_eq_true hf) ?_
  have hready : ((s.feed f).st == .starting && s.sampled (s.feed f).smp.qualified 16) = true := by
    simp [hst, State.sampled, show 16 ≤ (s.feed f).smp.qualified + 2 by omega]
  rw [if_pos hready]
  dsimp only
  generalize hu : State.modFeed s f _ = u
  have hself : u.feed f = { s.feed f with st := .selected, pg := true, goodArmed := some s.clock } := by
    rw [← hu]
    exact State.feed_modFeed (feed_lt (by rw [hst]; decide)) _
  have hne : u.feed (1 - f) = s.feed (1 - f) := by
    rw [← hu]
    exact State.feed_modFeed_ne _ (by omega) _
  have hstays := State.feedSelect_stays (s := { u with pwr := { u.pwr with transfer := none, warnArmed := some u.clock } }) hf
    (congrArg Feed.st hself) (fun h => hother ((congrArg Feed.st hne).symm.trans h)) (fun h => hother' ((congrArg Feed.st hne).symm.trans h))
  rw [hstays]
  exact ⟨congrArg Feed.st hself, congrArg Feed.pg hself, rfl⟩

/-- Settles O30, command by command. -/
theorem feedCommands : Obligations.FeedCommands := by
  unfold Obligations.FeedCommands
  refine ⟨?_, ?_, ?_, ?_, ?_, ?_, ?_, ?_, ?_, ?_⟩
  · intro s f hf hlen hst
    refine Completes.guard rfl (decide_eq_true hf) ?_
    rw [if_pos (by simp [hst]), State.feed_modFeed hlen]
    exact ⟨rfl, rfl, rfl⟩
  · intro s f hf hst hdue hfirst
    refine Completes.guard rfl (decide_eq_true hf) ?_
    rw [if_pos (by simp [hst, hdue]), if_pos hfirst]
    exact State.feedAvailable_effect hst
  · intro s f hf hst hserved hdue
    refine Completes.guard rfl (decide_eq_true hf) ?_
    dsimp only
    rw [if_pos (by simp [hst, hdue, hserved])]
    exact State.feedAvailable_effect hst
  · exact fun s f lost h => Completes.failureTransfer lost h
  · intro s f hdead hstarting hselected hpick
    refine ⟨_, rfl, ?_⟩
    rw [if_pos hdead]
    exact State.feedSelect_picks (s := { s with pwr := { s.pwr with dead := false } }) rfl hstarting hselected hpick
  · exact fun s f hf hst hrun hother hother' => Completes.feedPowerGood hf hst hrun hother hother'
  · intro s hcause hwarn
    refine ⟨_, rfl, ?_⟩
    rw [if_pos hcause]
    obtain ⟨hsends, hraised⟩ := State.assertWarning_new hwarn
    exact ⟨by rw [s.assertWarning_effect.2], hsends, hraised⟩
  · intro s hwarn hselected hdue
    refine ⟨_, rfl, ?_⟩
    rw [if_pos (by simp [hwarn, hselected, hdue])]
    exact ⟨rfl, rfl, Raises.mono (Raises.after (State.raise_raises _ _ _ _ _ _ _) List.prefix_rfl) List.prefix_rfl⟩
  · intro s f hf hst
    refine Completes.guard rfl (decide_eq_true hf) ?_
    rw [if_pos (by simp [hst]), State.feed_modFeed (feed_lt (by rw [hst]; decide))]
    exact ⟨rfl, rfl⟩
  · intro s f hf hpresent hsel
    refine Completes.guard rfl (decide_eq_true hf) ?_
    have hpulled := State.feedPulled_effect (feed_lt hpresent)
    split
    · next h => exact absurd h hpresent
    · next h => exact absurd h hsel
    · exact hpulled
    · exact hpulled
    · exact hpulled
    · exact hpulled

end Sys2Proof.Machine


/-!
The Pawn as a canister holds it (R463, R571 to R576, R584, R588, R598): what a REQUEST leaves of the witnesses, what the end of a lease leaves of the
canister, and with that what each command does.
-/

namespace Sys2Proof.Machine

-- The check compiles the text as one file: elaborating these proofs one after another bounds its memory.
set_option Elab.async false

/-! ### Reading a witness -/

theorem State.wit_congr {s t : State} (h : t.fov.wits = s.fov.wits) (w : Nat) : t.wit w = s.wit w := by rw [State.wit, h, State.wit]

/-- A witness whose connection is not down, or of which anything is noted, is one that the state has. -/
theorem wit_lt {s : State} {w : Nat} (h : s.wit w ≠ Witness.none) : w < s.fov.wits.length := by
  by_contra hlen
  exact h (by rw [State.wit, List.getD_eq_default _ _ (by omega)])

theorem wit_lt_of_st {s : State} {w : Nat} (h : (s.wit w).st ≠ .down) : w < s.fov.wits.length := wit_lt fun hnone => h (by rw [hnone]; rfl)

theorem State.wit_modWit {s : State} {w : Nat} (hw : w < s.fov.wits.length) (f : Witness → Witness) : (s.modWit w f).wit w = f (s.wit w) :=
  getD_lmod_same _ _ _ hw

theorem State.wit_modWit_ne (s : State) {w i : Nat} (h : i ≠ w) (f : Witness → Witness) : (s.modWit w f).wit i = s.wit i := getD_lmod_ne _ _ _ h

/-! ### Requests -/

/-- A REQUEST to a ready witness (R575): a new REQ_SEQ, noted with the Turn at the witness and awaited. -/
theorem State.sendRequest_ready {s : State} {w : Nat} (h : (s.wit w).st = .ready) : (s.sendRequest w).fov = { s.fov with
    reqSeq := s.fov.reqSeq + 1
    wits := lmod s.fov.wits w fun x => { x with reqs := ((s.fov.reqSeq + 1, s.clock) :: x.reqs).take 8, waiting := some (s.fov.reqSeq + 1), denied := none } } := by
  unfold State.sendRequest
  rw [if_pos (by simp [h])]
  rfl

theorem State.sendRequest_notReady {s : State} {w : Nat} (h : (s.wit w).st ≠ .ready) : s.sendRequest w = s := by
  unfold State.sendRequest
  rw [if_neg (by simpa using h)]

theorem State.sendRequest_wit {s : State} {w : Nat} (h : (s.wit w).st = .ready) : (s.sendRequest w).wit w = { s.wit w with
    reqs := ((s.fov.reqSeq + 1, s.clock) :: (s.wit w).reqs).take 8
    waiting := some (s.fov.reqSeq + 1)
    denied := none } := by
  rw [State.wit, State.sendRequest_ready h]
  exact getD_lmod_same _ _ _ (wit_lt_of_st (by rw [h]; decide))

theorem State.sendRequest_wit_ne {s : State} {w i : Nat} (hne : i ≠ w) : (s.sendRequest w).wit i = s.wit i := by
  by_cases h : (s.wit w).st = .ready
  · rw [State.wit, State.sendRequest_ready h]
    exact getD_lmod_ne _ _ _ hne
  · rw [State.sendRequest_notReady h]

/-- From `s` to `t` REQUESTs have been sent: REQ_SEQ has not gone back, no connection has changed, no request that is awaited is forgotten, and of
fail-over only the witnesses and REQ_SEQ have changed. -/
def Requests (s t : State) : Prop :=
  t.fov = { s.fov with reqSeq := t.fov.reqSeq, wits := t.fov.wits } ∧ s.fov.reqSeq ≤ t.fov.reqSeq ∧ t.evt = s.evt ∧
    ∀ w, (t.wit w).st = (s.wit w).st ∧ ((s.wit w).waiting.isSome = true → (t.wit w).waiting.isSome = true)

theorem Requests.refl (s : State) : Requests s s := ⟨rfl, Nat.le_refl _, rfl, fun _ => ⟨rfl, id⟩⟩

theorem Requests.trans {s t u : State} (h : Requests s t) (k : Requests t u) : Requests s u := by
  obtain ⟨hfov, hseq, hevt, hwit⟩ := h
  obtain ⟨kfov, kseq, kevt, kwit⟩ := k
  refine ⟨?_, Nat.le_trans hseq kseq, kevt.trans hevt, fun w => ⟨(kwit w).1.trans (hwit w).1, fun hw => (kwit w).2 ((hwit w).2 hw)⟩⟩
  rw [kfov, hfov]

theorem State.sendRequest_requests (s : State) (w : Nat) : Requests s (s.sendRequest w) := by
  by_cases h : (s.wit w).st = .ready
  · refine ⟨?_, ?_, evt_of_kept (State.sendRequest_kept _ (Kept.refl _ s) rfl), fun i => ?_⟩
    · rw [State.sendRequest_ready h]
    · rw [State.sendRequest_ready h]
      exact Nat.le_succ _
    · by_cases hi : i = w
      · subst hi
        rw [State.sendRequest_wit h]
        exact ⟨rfl, fun _ => rfl⟩
      · rw [State.sendRequest_wit_ne hi]
        exact ⟨rfl, id⟩
  · rw [State.sendRequest_notReady h]
    exact Requests.refl s

theorem foldIdx_succ {α : Type} (n : Nat) (f : Nat → α → α) (a : α) : foldIdx (n + 1) f a = f n (foldIdx n f a) := by
  simp [foldIdx, List.range_succ]

theorem Requests.foldIdx {f : Nat → State → State} (hf : ∀ i t, Requests t (f i t)) (n : Nat) (s : State) : Requests s (foldIdx n f s) := by
  induction n with
  | zero => exact Requests.refl s
  | succ n ih =>
    rw [foldIdx_succ]
    exact ih.trans (hf n _)

/-- REQUEST to every witness: each ready one has a new request that it has not answered. -/
theorem sendRequests_waits (s : State) {n w : Nat} (hw : w < n) (hready : (s.wit w).st = .ready) :
    ((foldIdx n (fun w s => s.sendRequest w) s).wit w).waiting.isSome = true ∧ s.fov.reqSeq < (foldIdx n (fun w s => s.sendRequest w) s).fov.reqSeq := by
  induction n with
  | zero => omega
  | succ n ih =>
    rw [foldIdx_succ]
    obtain ⟨-, hseq, -, hwit⟩ := Requests.foldIdx (f := fun w s => s.sendRequest w) (fun i t => t.sendRequest_requests i) n s
    generalize foldIdx n (fun w s => s.sendRequest w) s = u at ih hseq hwit
    obtain ⟨-, useq, -, uwit⟩ := u.sendRequest_requests n
    by_cases hn : w = n
    · subst hn
      have hready' : (u.wit w).st = .ready := (hwit w).1.trans hready
      refine ⟨by rw [State.sendRequest_wit hready']; rfl, ?_⟩
      rw [State.sendRequest_ready hready']
      exact Nat.lt_succ_of_le hseq
    · obtain ⟨hwaits, hmore⟩ := ih (by omega)
      exact ⟨(uwit w).2 hwaits, Nat.lt_of_lt_of_le hmore useq⟩

/-- A canister that may request starts to. -/
theorem State.startRequesting_starts {s : State} (heligible : s.fov.eligible = true) (hfree : s.fov.requesting = none) (hno : s.fov.takeover = none) :
    Requests { s with fov := { s.fov with requesting := some s.clock, backoff := none } } s.startRequesting := by
  unfold State.startRequesting
  rw [if_neg (by simp [heligible, hfree, hno])]
  refine Requests.foldIdx (fun i t => ?_) _ _
  split
  · exact Requests.refl t
  · exact t.sendRequest_requests i

/-- Starting to request changes REQ_SEQ, the witnesses, the request and the wait of a minority alone. -/
theorem State.startRequesting_keeps (s : State) : s.startRequesting.fov = { s.fov with
    requesting := s.startRequesting.fov.requesting
    backoff := s.startRequesting.fov.backoff
    reqSeq := s.startRequesting.fov.reqSeq
    wits := s.startRequesting.fov.wits } := by
  by_cases hmay : (!s.fov.eligible || s.fov.requesting.isSome || s.fov.takeover.isSome) = true
  · unfold State.startRequesting
    rw [if_pos hmay]
  · obtain ⟨hfov, -⟩ := State.startRequesting_starts (s := s) (by simp_all) (by simp_all) (by simp_all)
    rw [hfov]

/-! ### Challenges and proofs -/

theorem Completes.challengeAnswered {s : State} {w : Nat} {m : PawnMsg} (hfits : pawnFits m Pawn.challenge (s.connOf (.witness w)).1 (s.connOf (.witness w)).2 = true)
    (hw : w < s.witnessCount) (hst : (s.wit w).st ≠ .down) :
    Completes (.pawnChallengeRx (.witness w) m) s fun t => (t.outbox.drop s.outbox.length).map (fun o => (o.kind, o.args.take 2)) = [(.pawn, [w, Pawn.proof])] ∧
      s.outbox <+: t.outbox := by
  refine ⟨_, rfl, ?_⟩
  dsimp only
  rw [if_neg (by simp [hfits]), if_neg (by simp [hst, hw])]
  refine ⟨?_, List.prefix_append _ _⟩
  rw [State.sendProof, State.emit_outbox, List.drop_left]
  rfl

theorem Completes.clientChallenged {s : State} {sh c : Nat} {m : PawnMsg} {x : Served} (hfits : pawnFits m Pawn.challenge sh c = true) (hwit : s.witnesses = true)
    (hserved : tget s.fov.served sh = some x) (hnew : tget x.conns c = none) :
    Completes (.pawnChallengeRx (.client sh c) m) s fun t => ((tget t.fov.served sh).bind fun y => (tget y.conns c).map fun z => z.2) = some (some s.clock, false) := by
  refine ⟨_, rfl, ?_⟩
  have hknown : ((tget s.fov.served sh).any fun x => thas x.conns c) = false := by simp [hserved, thas, hnew]
  have hlisted : thas s.fov.served sh = true := by simp [thas, hserved]
  simp only [State.connOf, hfits, hwit, hlisted, Bool.not_true, Bool.or_self, Bool.false_eq_true, if_false]
  generalize hu : s.sendProof (.client sh c) m.challenge = u
  have hufov : u.fov = s.fov := by rw [← hu]; rfl
  have huclock : u.clock = s.clock := by rw [← hu]; rfl
  rw [hufov, hknown, if_neg Bool.false_ne_true]
  cases hv : u.challenge (.client sh c) with | mk nonce v =>
  have hkept : Kept [.free, .outbox] u v := State.challenge_kept_eq hv (Kept.refl _ u) rfl
  have hvclock : v.clock = s.clock := by rw [State.clock, hkept.trn]; exact huclock
  simp only [State.modServed, hkept.fov, hufov, tget_tmod_same _ hserved, Option.bind_some, tget_tset_same, Option.map_some, hvclock]

/-! ### What a connection's end leaves -/

/-- A self-test that ends raises its event. -/
theorem State.endSelfTest_raised (s : State) (result segment : Nat) : s.evt.raised <+: (s.endSelfTest result segment).evt.raised := by
  unfold State.endSelfTest
  split
  · exact List.prefix_rfl
  · exact List.prefix_append _ _

/-- A queue that is lost raises events and takes none back. -/
theorem State.loseQueue_raised (s : State) (qp : Nat) : s.evt.raised <+: (s.loseQueue qp).evt.raised := by
  have hreset : ∀ ctrl qp carries, (s.resetQueues ctrl qp carries).evt = s.evt := fun ctrl qp carries => evt_of_kept (State.resetQueues_kept _ _ _ (Kept.refl _ s) rfl)
  unfold State.loseQueue
  split
  · exact List.prefix_rfl
  · next ctrl qid _ =>
    split
    · have hremove : ∀ u : State, (u.removeController ctrl).evt.raised = u.evt.raised := by
        intro u
        unfold State.removeController
        dsimp only
        rw [evt_of_kept (State.ctrlStatus_kept (Kept.refl _ _) rfl)]
      rw [hremove]
      unfold State.resetController
      dsimp only
      generalize hu : State.modCtrl _ ctrl _ = u
      have hevt : u.evt = s.evt := by
        rw [← hu]
        exact hreset _ _ _
      split
      · split
        · exact hevt ▸ u.endSelfTest_raised 2 0
        · rw [hevt]
      · rw [hevt]
    · rw [State.modCtrl_evt, hreset]

theorem State.disconnect_raised (s : State) (w : Nat) : s.evt.raised <+: (s.disconnect w).evt.raised := by
  unfold State.disconnect
  split
  · next i _ _ =>
    unfold State.drainQp
    split
    · next q _ =>
      split
      · dsimp only
        generalize hu : State.modQp _ i _ = u
        have hevt : u.evt = s.evt := by
          rw [← hu]
          exact (evt_of_kept (Kept.foldl (Kept.refl _ _) fun _ _ h => State.wqeDone_kept _ _ _ h rfl)).trans rfl
        rw [evt_of_kept (State.xptStatus_kept (Kept.refl _ _) rfl)]
        exact hevt ▸ u.loseQueue_raised i
      · exact List.prefix_rfl
    · exact List.prefix_rfl
  · exact List.prefix_rfl

/-- A proof that fails takes the connection down, with its event, and notes the time for the retry. -/
theorem State.proofFailed_effect {s : State} {w : Nat} (hw : w < s.fov.wits.length) : ((s.proofFailed (.witness w)).wit w).st = .down ∧
    ((s.proofFailed (.witness w)).wit w).retryArmed = some s.clock ∧ Raises s (s.proofFailed (.witness w)) Ev.witnessAuthFailed w 0 := by
  unfold State.proofFailed
  dsimp only
  generalize hu : s.raise Ev.witnessAuthFailed Sev.error (connCode (.witness w)) 0 0 0 = u
  have hraised : Raises s u Ev.witnessAuthFailed w 0 := by
    rw [← hu]
    exact State.raise_raises _ _ _ _ _ _ _
  have hfov : u.fov = s.fov := by rw [← hu]; rfl
  have htrn : u.trn = s.trn := by rw [← hu]; rfl
  have hkept : Kept [.cmd, .cmp, .cnt, .evt, .fsp, .outbox, .win, .xpt, .reg 4, .reg 7, .reg 20, .reg 21] u (u.disconnect w) :=
    State.disconnect_kept _ (Kept.refl _ u) rfl
  have hmore := u.disconnect_raised w
  generalize u.disconnect w = v at hkept hmore
  have hlen : w < v.fov.wits.length := by rwa [hkept.fov, hfov]
  have hdown := State.wit_modWit (s := v.witnessDown w) (w := w) (by rw [State.witnessDown, State.modWit, length_lmod]; exact hlen)
    fun x => { x with retryArmed := some (v.witnessDown w).clock }
  rw [State.witnessDown, State.wit_modWit hlen] at hdown
  refine ⟨congrArg Witness.st hdown, (congrArg Witness.retryArmed hdown).trans ?_, hraised.mono hmore⟩
  exact congrArg some (congrArg Trn.ticks (hkept.trn.trans htrn))

/-! ### The end of a lease -/

/-- What giving up a takeover, or the way out of RECOVERY, leaves. -/
theorem State.takeoverLost_effect (s : State) : s.takeoverLost.fov.takeover = none ∧ s.takeoverLost.fov.valid = s.fov.valid ∧
    s.takeoverLost.fov.holder = s.fov.holder ∧ s.takeoverLost.fov.renewArmed = s.fov.renewArmed := by
  unfold State.takeoverLost
  split
  · dsimp only
    generalize hu : ({ s with fov := { s.fov with takeover := none } } : State) = u
    obtain ⟨-, -, hfov, -, -⟩ := (u.setAna (anaOf s.cfg.state)).updateDemand_demands
    rw [hfov, (u.setAna_kept_self _).fov, ← hu]
    exact ⟨rfl, rfl, rfl, rfl⟩
  · next h =>
    exact ⟨by simpa using h, rfl, rfl, rfl⟩

/-- The stream's commands that end unanswered raise nothing. -/
theorem State.endStreamCommands_raised (s : State) : s.endStreamCommands.evt.raised = s.evt.raised := by
  unfold State.endStreamCommands
  dsimp only
  refine List.foldlRecOn (motive := fun t : State => t.evt.raised = s.evt.raised) _ _ rfl fun t ht x _ => ?_
  rw [State.replyErr_raised, ht]

/-- The commands and writes that a canister gives up with its service. -/
theorem State.endService_effect (s : State) : s.evt.raised <+: (((((s.setAna 0xF).endCommands.endStreamCommands).dropWrites).revokeWhere fun _ => true).evt.raised) ∧
    ((((s.setAna 0xF).endCommands.endStreamCommands).dropWrites).revokeWhere fun _ => true).cfg = s.cfg := by
  constructor
  · rw [evt_of_kept (State.revokeWhere_kept _ (State.dropWrites_kept (Kept.refl _ _) rfl) rfl), State.endStreamCommands_raised,
      evt_of_kept (State.endCommands_kept (Kept.refl _ _) rfl)]
    exact (s.setAna_grows _).2
  · exact cfg_of_kept (State.revokeWhere_kept _ (State.dropWrites_kept (State.endStreamCommands_kept (State.endCommands_kept (State.setAna_kept _ (Kept.refl _ s) rfl) rfl)
      rfl) rfl) rfl)

/-- A canister that is deposed (R588) is a STANDBY that holds no Pawn, with its event. -/
theorem State.depose_effect (s : State) (release yield : Nat) : (s.depose release yield).cfg.state = .standby ∧ (s.depose release yield).fov.holder = false ∧
    (s.depose release yield).fov.valid = false ∧ (s.depose release yield).fov.former = true ∧ (s.depose release yield).fov.renewArmed = none ∧
      Raises s (s.depose release yield) Ev.pawnLost s.cfg.canister yield := by
  unfold State.depose
  dsimp only
  obtain ⟨hgrow, hcfg⟩ := s.endService_effect
  generalize State.revokeWhere _ _ = u at hgrow hcfg ⊢
  generalize hv : foldIdx 4 _ _ = v
  have hbefore : s.evt.raised <+: v.evt.raised ∧ v.cfg = s.cfg := by
    rw [← hv, evt_of_kept (Kept.foldIdx (Kept.refl _ _) fun _ _ h => State.modWit_kept _ _ h rfl),
      cfg_of_kept (Kept.foldIdx (Kept.refl _ _) fun _ _ h => State.modWit_kept _ _ h rfl), evt_of_kept (State.sendYield_kept _ _ (Kept.refl _ _) rfl),
      cfg_of_kept (State.sendYield_kept _ _ (Kept.refl _ _) rfl)]
    have hrelease : ∀ t : State, (if release = 255 then t else t.sendRelease release fun _ => true).evt = t.evt ∧
        (if release = 255 then t else t.sendRelease release fun _ => true).cfg = t.cfg := by
      intro t
      split
      · exact ⟨rfl, rfl⟩
      · exact ⟨evt_of_kept (State.sendRelease_kept _ _ (Kept.refl _ t) rfl), cfg_of_kept (State.sendRelease_kept _ _ (Kept.refl _ t) rfl)⟩
    rw [(hrelease _).1, (hrelease _).2]
    split
    · rw [cfg_of_kept (State.endSelfTest_kept _ _ (Kept.refl _ _) rfl)]
      exact ⟨hgrow.trans (List.IsPrefix.trans List.prefix_rfl (State.endSelfTest_raised { u with drv := u.drv.map fun d => { d with ioQueues := false }, cmd := { u.cmd with zones := [] } } 8 0)), hcfg⟩
    · exact ⟨hgrow, hcfg⟩
  obtain ⟨vgrow, vcfg⟩ := hbefore
  generalize hx : ({ v with fov := _ } : State) = x
  have hxfov : x.fov.holder = false ∧ x.fov.valid = false ∧ x.fov.former = true ∧ x.fov.renewArmed = none ∧ x.evt = v.evt ∧ x.cfg = v.cfg := by
    rw [← hx]
    exact ⟨rfl, rfl, rfl, rfl, rfl, rfl⟩
  obtain ⟨xholder, xvalid, xformer, xrenew, xevt, xcfg⟩ := hxfov
  obtain ⟨wgrow, -, wfov, -⟩ := x.setDevState_deposes .standby
  have wcfg := x.setDevState_cfg .standby
  generalize x.setDevState .standby = w at wgrow wfov wcfg
  rw [State.count_fov, State.bump_fov, State.raise_fov, wfov, cfg_of_kept (State.count_kept _ _ _ (Kept.refl _ _) rfl), State.bump_cfg, State.raise_cfg, wcfg]
  refine ⟨rfl, xholder, xvalid, xformer, xrenew, ?_⟩
  rw [vcfg]
  refine Raises.mono (Raises.after (State.raise_raises w Ev.pawnLost Sev.warning s.cfg.canister yield 0 0) ?_) ?_
  · exact vgrow.trans (xevt ▸ wgrow.2)
  · rw [State.count_evt, State.bump_evt]

/-! ### Grants -/

/-- What the start of a takeover leaves of the witnesses. -/
theorem State.requestSet_wits (s : State) (n cause : Nat) : (s.requestSet n cause).fov.wits = s.fov.wits := by
  unfold State.requestSet
  dsimp only
  split
  · obtain ⟨-, -, hfov, -, -⟩ := State.updateDemand_demands (s.modSet n fun x =>
      { x with st := .powering, cause := cause, armed := some s.clock, auto := cause != SetCause.management, stopHeld := false, step := 0, again := false, lastUse := s.clock })
    rw [hfov]
    rfl
  · rfl
  · rfl
  · split
    · rfl
    · split <;> rfl

theorem State.startTakeover_wits (s : State) : s.startTakeover.fov.wits = s.fov.wits := by
  unfold State.startTakeover
  dsimp only
  generalize hu : State.takeoverSetup _ = u
  have hfov : u.fov.wits = s.fov.wits := by
    rw [← hu, fov_of_kept (State.takeoverSetup_kept (State.setAna_kept _ (Kept.refl _ _) rfl) rfl)]
    split <;> rfl
  refine List.foldlRecOn (motive := fun t : State => t.fov.wits = s.fov.wits) _ _ hfov fun t ht n _ => ?_
  rw [State.requestSet_wits, ht]

theorem Completes.granted {s : State} {w q sent : Nat} {m : PawnMsg} (hw : w < 4) (hreq : ((s.wit w).reqs.find? fun r => r.1 == m.reqSeq) = some (q, sent))
    (hst : (s.wit w).st = .ready) (hfits : pawnFits m Pawn.grant (s.connOf (.witness w)).1 (s.connOf (.witness w)).2 = true) :
    Completes (.pawnGrantRx w m) s fun t => (t.wit w).cutoff = max (s.wit w).cutoff (sent + cutoffTurns) ∧ (t.wit w).expiry = max (s.wit w).expiry (sent + leaseTurns) ∧
      (t.wit w).lease = m.leaseId := by
  have hlen : w < s.fov.wits.length := wit_lt_of_st (by rw [hst]; decide)
  refine Completes.guard rfl (decide_eq_true hw) ?_
  simp only [hreq]
  rw [if_neg (by simp [hst, hfits])]
  generalize hu : State.modWit s w _ = u
  have hwit : (u.wit w).cutoff = max (s.wit w).cutoff (sent + cutoffTurns) ∧ (u.wit w).expiry = max (s.wit w).expiry (sent + leaseTurns) ∧ (u.wit w).lease = m.leaseId := by
    rw [← hu, State.wit_modWit hlen]
    exact ⟨rfl, rfl, rfl⟩
  have hkeep : ∀ v : State, v.fov.wits = u.fov.wits → (v.wit w).cutoff = max (s.wit w).cutoff (sent + cutoffTurns) ∧
      (v.wit w).expiry = max (s.wit w).expiry (sent + leaseTurns) ∧ (v.wit w).lease = m.leaseId := by
    intro v hv
    rwa [State.wit_congr hv]
  refine hkeep _ ?_
  split
  · rfl
  · split
    · rfl
    · split
      · rw [State.startTakeover_wits, State.count_fov]
        rfl
      · dsimp only
        rw [State.count_fov]
        rfl

/-! ### The commands -/

theorem Completes.resent {s : State} {w q r a : Nat} (hw : w < 4) (hidle : s.fov.requesting = none) (hholder : s.fov.holder = true) (hwaits : (s.wit w).waiting = some q)
    (hreq : ((s.wit w).reqs.find? fun r => r.1 == q) = some (r, a)) (hdue : a + resendTurns ≤ s.clock) (hst : (s.wit w).st = .ready) :
    Completes (.pawnResendExpiry w) s fun t => (t.wit w).waiting = some (s.fov.reqSeq + 1) ∧ t.fov.reqSeq = s.fov.reqSeq + 1 := by
  refine Completes.guard rfl (decide_eq_true hw) ?_
  simp only [hidle, hwaits, hreq, Bool.false_and, Bool.false_eq_true, if_false]
  rw [if_pos (by simp [hdue, hholder])]
  exact ⟨by rw [State.sendRequest_wit hst], by rw [State.sendRequest_ready hst]⟩

/-- A canister that serves when its Pawn stops being valid is deposed; another one gives up its takeover. -/
theorem State.pawnCutoff_effect {s : State} (hinvalid : s.pawnValid = false) :
    s.pawnCutoff.fov.valid = false ∧ (s.fov.holder = false → s.pawnCutoff.fov.holder = false) ∧ (s.fov.renewArmed = none → s.pawnCutoff.fov.renewArmed = none) ∧
      (s.serving = false → s.pawnCutoff.fov.takeover = none) ∧
      (s.serving = true → s.pawnCutoff.cfg.state = .standby ∧ s.pawnCutoff.fov.holder = false ∧ s.pawnCutoff.fov.former = true ∧
        Raises s s.pawnCutoff Ev.pawnLost s.cfg.canister 4) := by
  unfold State.pawnCutoff
  rw [hinvalid, if_neg Bool.false_ne_true]
  dsimp only
  generalize hu : ({ s with fov := { s.fov with valid := false } } : State) = u
  have hself : u.fov = { s.fov with valid := false } ∧ u.serving = s.serving ∧ u.cfg = s.cfg ∧ u.evt = s.evt := by
    rw [← hu]
    exact ⟨rfl, rfl, rfl, rfl⟩
  obtain ⟨ufov, userving, ucfg, uevt⟩ := hself
  cases hserving : s.serving with
  | true =>
    rw [userving, hserving, if_pos rfl]
    obtain ⟨agrow, -, -, acanister⟩ := u.abandonActivation_deposes
    obtain ⟨hstate, hholder, hvalid, hformer, hrenew, hraised⟩ := u.abandonActivation.depose_effect 255 4
    rw [acanister, ucfg] at hraised
    exact ⟨hvalid, fun _ => hholder, fun _ => hrenew, nofun, fun _ => ⟨hstate, hholder, hformer, hraised.after (uevt ▸ agrow.2)⟩⟩
  | false =>
    rw [userving, hserving, if_neg Bool.false_ne_true]
    obtain ⟨htakeover, hvalid, hholder, hrenew⟩ := u.takeoverLost_effect
    exact ⟨by rw [hvalid, ufov], fun h => by rw [hholder, ufov]; exact h, fun h => by rw [hrenew, ufov]; exact h, fun _ => htakeover, nofun⟩

/-- Settles O31, command by command. -/
theorem pawnLeaseCommands : Obligations.PawnLeaseCommands := by
  unfold Obligations.PawnLeaseCommands
  refine ⟨?_, ?_, ?_, ?_, ?_, ?_, ?_, ?_, ?_, ?_, ?_, ?_, ?_, ?_, ?_⟩
  · exact fun s w m hfits hw hst => Completes.challengeAnswered hfits hw hst
  · exact fun s sh c m x hfits hwit hserved hnew => Completes.clientChallenged hfits hwit hserved hnew
  · intro s w sig m c hfits hcfg hst hkind
    have hlen : w < s.fov.wits.length := wit_lt_of_st (by rw [hst]; decide)
    have hproving : ((s.wit w).st != .proving) = false := by simp [hst]
    refine ⟨_, rfl, ?_⟩
    simp only [hfits, hcfg, hproving, hkind, Bool.not_true, beq_self_eq_true, Bool.true_and, Bool.false_eq_true, if_false]
    cases Config.edVerify c.pub (witMessage (s.wit w).nonce (s.connOf (.witness w)).1 (s.connOf (.witness w)).2) sig with
    | true =>
      have hready := State.wit_modWit hlen fun x => { x with st := .ready, proofArmed := none }
      simp only [if_true]
      split
      · rw [State.sendRequest_wit (congrArg Witness.st hready), hready]
        exact ⟨rfl, rfl⟩
      · exact ⟨congrArg Witness.st hready, congrArg Witness.proofArmed hready⟩
    | false =>
      simp only [Bool.false_eq_true, if_false]
      exact State.proofFailed_effect hlen
  · intro s w hst hdue
    refine ⟨_, rfl, ?_⟩
    dsimp only
    rw [if_pos (by rw [hst, hdue]; rfl)]
    exact State.proofFailed_effect (wit_lt_of_st (by rw [hst]; decide))
  · intro s w c hw hst hdue hcfg hno
    have hlen : w < s.fov.wits.length := wit_lt fun h => by simp [h, Witness.none, due] at hdue
    refine Completes.guard rfl (decide_eq_true hw) ?_
    rw [if_pos (by rw [hst, hdue]; rfl)]
    unfold State.connectWitness
    simp only [hcfg, hno]
    rw [State.wit_congr (congrArg Fov.wits (fov_of_kept (State.connectOut_kept _ _ (Kept.refl _ _) rfl))), State.wit_modWit hlen]
    exact ⟨rfl, rfl⟩
  · intro s w hw hst
    refine Completes.guard rfl (decide_eq_true hw) ?_
    rw [if_neg (by simpa using hst)]
    have hdown : ((s.witnessDown w).raise Ev.witnessLost Sev.warning w 0 0 0).wit w = { s.wit w with st := .down, proofArmed := none, waiting := none, denied := none } :=
      State.wit_modWit (wit_lt_of_st hst) _
    rw [hdown]
    exact ⟨rfl, rfl, rfl, Raises.after (State.raise_raises _ _ _ _ _ _ _) List.prefix_rfl⟩
  · exact fun s w q sent m hw hreq hst hfits => Completes.granted hw hreq hst hfits
  · intro s w m hw hst hfits hreq
    refine Completes.guard rfl (decide_eq_true hw) ?_
    dsimp only
    rw [if_neg (by simp only [hst, hfits, hreq]; decide), State.wit_modWit (wit_lt_of_st (by rw [hst]; decide))]
    exact ⟨rfl, rfl⟩
  · intro s w a n hw hdenied hdue hreq hst
    have hlen : w < s.fov.wits.length := wit_lt_of_st (by rw [hst]; decide)
    refine Completes.guard rfl (decide_eq_true hw) ?_
    simp only [hdenied, hdue, if_true]
    rw [if_pos (show (s.modWit w _).fov.requesting.isSome = true from hreq), State.sendRequest_wit ((congrArg Witness.st (State.wit_modWit hlen _)).trans hst)]
    exact ⟨rfl, rfl⟩
  · intro s a w harmed hholder hdue hw hst
    refine ⟨_, rfl, ?_⟩
    simp only [harmed]
    rw [if_pos (by simp [hholder, hdue])]
    obtain ⟨hwaits, hseq⟩ := sendRequests_waits { s with fov := { s.fov with renewArmed := some s.clock } } hw hst
    obtain ⟨hfov, -⟩ := Requests.foldIdx (f := fun w s => s.sendRequest w) (fun i t => t.sendRequest_requests i) s.witnessCount
      { s with fov := { s.fov with renewArmed := some s.clock } }
    exact ⟨by rw [hfov], hwaits, hseq⟩
  · exact fun s w q r a hw hidle hholder hwaits hreq hdue hst => Completes.resent hw hidle hholder hwaits hreq hdue hst
  · intro s a n hback hdue heligible hidle hno
    refine ⟨_, rfl, ?_⟩
    simp only [hback, hdue, if_true]
    obtain ⟨hfov, -⟩ := State.startRequesting_starts (s := { s with fov := { s.fov with backoff := none } }) heligible hidle hno
    rw [hfov]
    exact ⟨rfl, rfl⟩
  · intro s hinvalid hserving
    obtain ⟨hvalid, -, -, htakeover, -⟩ := State.pawnCutoff_effect hinvalid
    exact ⟨_, rfl, hvalid, htakeover hserving⟩
  · intro s hinvalid hserving
    obtain ⟨hvalid, -, -, -, hdeposed⟩ := State.pawnCutoff_effect hinvalid
    obtain ⟨hstate, hholder, hformer, hraised⟩ := hdeposed hserving
    exact ⟨_, rfl, hstate, hholder, hvalid, hformer, hraised⟩
  · intro s hheld
    refine ⟨_, rfl, ?_⟩
    rw [hheld, if_neg Bool.false_ne_true]
    cases hvalid : ({ s with fov := { s.fov with holder := false, renewArmed := none } } : State).pawnValid with
    | true =>
      rw [State.pawnCutoff, hvalid, if_pos rfl]
      exact ⟨rfl, rfl⟩
    | false =>
      obtain ⟨-, hholder, hrenew, -, -⟩ := State.pawnCutoff_effect hvalid
      exact ⟨hholder rfl, hrenew rfl⟩

end Sys2Proof.Machine


/-!
A witness and the peer link (R526, R550, R552, R577 to R585): grants and denials, HELLO and heartbeats, the demand of slots, and with them what each
command does.
-/

namespace Sys2Proof.Machine

-- The check compiles the text as one file: elaborating these proofs one after another bounds its memory.
set_option Elab.async false

/-! ### The witness -/

/-- A GRANT to the holder keeps its LEASE_ID, one to another canister takes the next; the expiry and the guard run from now. -/
theorem State.grant_effect {s : State} {sh c : Nat} {x : Served} (h : tget s.fov.served sh = some x) (reqSeq : Nat) :
    let lease := if x.holder != some c then s.fov.nextLease else x.lease
    tget (s.grant sh c reqSeq).fov.served sh = some { x with
      holder := some c
      lease := lease
      expiry := s.clock + leaseTurns
      guardEnd := s.clock + leaseTurns + guardTurns
      contention := none } ∧
    Sent s (s.grant sh c reqSeq) [⟨.pawn, [16 + 2 * sh + c, Pawn.grant, 0, 0, 0, reqSeq, lease, 0]⟩] := by
  unfold State.grant
  simp only [h]
  split
  · exact ⟨tget_tmod_same _ h, rfl⟩
  · exact ⟨tget_tmod_same _ h, rfl⟩

theorem Completes.requestAgain {s : State} {sh c : Nat} {m : PawnMsg} {x : Served} (hserved : tget s.fov.served sh = some x) (hwit : s.witnesses = true)
    (hproved : x.proved c = true) (hfits : pawnFits m Pawn.request sh c = true) (hquiet : x.since + quietTurns ≤ s.clock) (hholder : x.holder = some c) :
    Completes (.pawnRequestRx sh c m) s fun t =>
      ((tget t.fov.served sh).map fun y => (y.holder, y.lease, y.expiry, y.guardEnd)) = some (some c, x.lease, s.clock + leaseTurns, s.clock + leaseTurns + guardTurns) ∧
        Sent s t [⟨.pawn, [16 + 2 * sh + c, Pawn.grant, 0, 0, 0, m.reqSeq, x.lease, 0]⟩] := by
  have hadmit : (!s.witnesses || !x.proved c || !pawnFits m Pawn.request sh c) = false := by simp [hwit, hproved, hfits]
  have hsame : (x.holder != some c) = false := by simp [hholder]
  obtain ⟨hgrant, hsent⟩ := State.grant_effect hserved (c := c) m.reqSeq
  rw [hsame, if_neg Bool.false_ne_true] at hgrant hsent
  refine ⟨_, rfl, ?_⟩
  split
  · next hnone => exact absurd hserved (by simp [hnone])
  · next y hy =>
    obtain rfl := Option.some.inj (hserved.symm.trans hy)
    rw [hadmit, if_neg Bool.false_ne_true, if_neg (Nat.not_lt.mpr hquiet), if_pos (by simp [hholder]), hgrant]
    exact ⟨rfl, hsent⟩

theorem Completes.requestDenied {s : State} {sh c h : Nat} {m : PawnMsg} {x : Served} (hserved : tget s.fov.served sh = some x) (hwit : s.witnesses = true)
    (hproved : x.proved c = true) (hfits : pawnFits m Pawn.request sh c = true) (hquiet : x.since + quietTurns ≤ s.clock) (hholder : x.holder = some h) (hne : h ≠ c)
    (hguard : s.clock < x.guardEnd) :
    Completes (.pawnRequestRx sh c m) s fun t => t.fov = s.fov ∧
      Sent s t [⟨.pawn, [16 + 2 * sh + c, Pawn.deny, if s.clock < x.expiry then 1 else 2, 0, msOfTurns (x.guardEnd - s.clock), m.reqSeq, x.lease, 0]⟩] := by
  have hadmit : (!s.witnesses || !x.proved c || !pawnFits m Pawn.request sh c) = false := by simp [hwit, hproved, hfits]
  refine ⟨_, rfl, ?_⟩
  split
  · next hnone => exact absurd hserved (by simp [hnone])
  · next y hy =>
    obtain rfl := Option.some.inj (hserved.symm.trans hy)
    rw [hadmit, if_neg Bool.false_ne_true, if_neg (Nat.not_lt.mpr hquiet), if_neg (by simp [hholder, hne]), if_pos (by simp [hholder, hguard]), State.deny, hserved]
    exact ⟨rfl, rfl⟩

theorem Completes.requestContends {s : State} {sh c : Nat} {m : PawnMsg} {x : Served} (hserved : tget s.fov.served sh = some x) (hwit : s.witnesses = true)
    (hproved : x.proved c = true) (hfits : pawnFits m Pawn.request sh c = true) (hquiet : x.since + quietTurns ≤ s.clock) (hholder : x.holder = none)
    (hfirst : x.contention = none) :
    Completes (.pawnRequestRx sh c m) s fun t => ((tget t.fov.served sh).map fun y => (y.holder, y.contention)) = some (none, some (c, s.clock, m)) ∧
      t.outbox = s.outbox := by
  have hadmit : (!s.witnesses || !x.proved c || !pawnFits m Pawn.request sh c) = false := by simp [hwit, hproved, hfits]
  refine ⟨_, rfl, ?_⟩
  split
  · next hnone => exact absurd hserved (by simp [hnone])
  · next y hy =>
    obtain rfl := Option.some.inj (hserved.symm.trans hy)
    rw [hadmit, if_neg Bool.false_ne_true, if_neg (Nat.not_lt.mpr hquiet), if_neg (by simp [hholder]), if_neg (by simp [hholder])]
    split
    · next hcontends => exact absurd hfirst (by simp [hcontends])
    · refine ⟨?_, rfl⟩
      rw [State.modServed]
      dsimp only
      rw [tget_tmod_same _ hserved, Option.map_some, hholder]

/-! ### The peer -/

/-- A hand-over that is given up sends and raises more, and changes only the hand-over of fail-over. -/
theorem State.endHandOver_effect (s : State) : s.evt.raised <+: s.endHandOver.evt.raised ∧ s.endHandOver.cfg = s.cfg ∧
    s.endHandOver.fov = { s.fov with handOver := s.endHandOver.fov.handOver, handOverHold := s.endHandOver.fov.handOverHold } := by
  unfold State.endHandOver
  split
  · next h _ =>
    obtain ⟨-, -, -, -, hcfg, -, -, -, -, -, -, -, -, -, -, -, -, -, -, -, -, hfov⟩ :=
      ({ s with fov := { s.fov with handOver := none, handOverHold := false } } : State).replyErr_blocks h.ctrl h.cid St.interrupted
    refine ⟨by rw [State.replyErr_raised], hcfg, ?_⟩
    rw [hfov]
  · exact ⟨List.prefix_rfl, rfl, rfl⟩

theorem Completes.peerLost {s : State} (hup : s.fov.peerUp = true) (hgone : s.fov.beatTurn + 24415 ≤ s.clock ∨ s.peerLink = false) :
    Completes .peerLost s fun t => t.fov.peerUp = false ∧ t.fov.clearBeats = 0 ∧ Raises s t Ev.peerLost (1 - s.cfg.canister) 0 := by
  refine ⟨_, rfl, ?_⟩
  rw [if_pos (by rcases hgone with h | h <;> simp [hup, h])]
  dsimp only
  generalize hu : State.raise _ Ev.peerLost Sev.error (1 - s.cfg.canister) 0 0 0 = u
  have hraised : u.fov.peerUp = false ∧ u.fov.clearBeats = 0 ∧ Raises s u Ev.peerLost (1 - s.cfg.canister) 0 := by
    rw [← hu]
    exact ⟨rfl, rfl, Raises.after (State.raise_raises _ _ _ _ _ _ _) List.prefix_rfl⟩
  obtain ⟨hpeer, hclear, hevent⟩ := hraised
  obtain ⟨vgrow, -, vfov⟩ := u.endHandOver_effect
  generalize u.endHandOver = v at vgrow vfov
  have hv : v.fov.peerUp = false ∧ v.fov.clearBeats = 0 ∧ Raises s v Ev.peerLost (1 - s.cfg.canister) 0 :=
    ⟨by rw [vfov]; exact hpeer, by rw [vfov]; exact hclear, hevent.mono vgrow⟩
  split
  · rw [v.startRequesting_keeps]
    exact ⟨hv.1, hv.2.1, hv.2.2.mono (by rw [evt_of_kept (State.startRequesting_kept (Kept.refl _ v) rfl)])⟩
  · exact hv

theorem Completes.heartbeat {s : State} {lane : Nat} (b : Heartbeat) (hlane : lane < 2) (hhello : s.fov.hello.isSome = true) (hstate : s.cfg.state = .standby) :
    Completes (.heartbeatRx lane b) s fun t => t.fov.beat = some b ∧ t.fov.beatTurn = s.clock ∧ t.fov.peerUp = true := by
  refine Completes.guard rfl (decide_eq_true hlane) ?_
  have hknown : ¬ s.fov.hello.isNone = true := by simpa [Option.isSome_iff_ne_none] using hhello
  rw [if_neg hknown]
  have hrest : ∀ (u : State) (n : Nat), (u.fov.beat = some b ∧ u.fov.beatTurn = s.clock ∧ u.fov.peerUp = true) →
      ((if 2 ≤ n then u.startRequesting else u).fov.beat = some b ∧ (if 2 ≤ n then u.startRequesting else u).fov.beatTurn = s.clock ∧
        (if 2 ≤ n then u.startRequesting else u).fov.peerUp = true) := by
    intro u n h
    split
    · rwa [u.startRequesting_keeps]
    · exact h
  simp only [hstate]
  refine hrest _ _ ?_
  generalize (if beatFormer b || beatHolder b then 0 else s.fov.clearBeats + 1) = n
  split
  · split <;> exact ⟨rfl, rfl, rfl⟩
  · split <;> exact ⟨rfl, rfl, rfl⟩

/-- A canister in RECOVERY builds its map from the stream and replays the rings. -/
theorem State.startBuild_effect (s : State) : s.startBuild.fov.helloArmed = none ∧ s.startBuild.jnl.replay = some (s.clock, 1) ∧ s.startBuild.lay.map = s.lay.stream := by
  have hkept : Kept [.reg 14] _ s.startBuild := State.jnlStatus_kept (Kept.refl _ _) rfl
  rw [hkept.fov, hkept.jnl, hkept.lay]
  exact ⟨rfl, rfl, rfl⟩

/-! ### Demand -/

theorem State.peerDemand_armClear (s : State) (i j : Nat) : ((s.armClear i).chan j).peerDemand = (s.chan j).peerDemand :=
  State.chan_modChan_keeps (g := Chan.peerDemand) (fun c => by split <;> (try split) <;> rfl) s i j

theorem State.slots_armClear (s : State) (i : Nat) : (s.armClear i).pwr.slots.length = s.pwr.slots.length := s.slots_modChan _ _

/-- The peer's demand of a slot is noted. -/
def State.peerAsks (s : State) (map i : Nat) : State := (s.modChan i fun c => { c with peerDemand := bitOf map i }).armClear i

theorem State.peerAsks_slots (s : State) (map i : Nat) : (s.peerAsks map i).pwr.slots.length = s.pwr.slots.length := by
  rw [State.peerAsks, State.slots_armClear, State.slots_modChan]

theorem State.peerAsks_same {s : State} (map : Nat) {i : Nat} (hi : i < s.pwr.slots.length) : ((s.peerAsks map i).chan i).peerDemand = bitOf map i := by
  rw [State.peerAsks, State.peerDemand_armClear, State.chan_modChan hi]

theorem State.peerAsks_ne (s : State) (map : Nat) {i j : Nat} (h : j ≠ i) : ((s.peerAsks map i).chan j).peerDemand = (s.chan j).peerDemand := by
  rw [State.peerAsks, State.peerDemand_armClear]
  exact congrArg Chan.peerDemand (getD_lmod_ne _ _ _ h)

/-- Slot by slot, the peer's demand is what its map says. -/
theorem peerAsks_all (s : State) (map n : Nat) (hlen : n ≤ s.pwr.slots.length) :
    (foldIdx n (fun i s => s.peerAsks map i) s).pwr.slots.length = s.pwr.slots.length ∧
      ∀ i < n, ((foldIdx n (fun i s => s.peerAsks map i) s).chan i).peerDemand = bitOf map i := by
  induction n with
  | zero => exact ⟨rfl, fun i hi => absurd hi (Nat.not_lt_zero i)⟩
  | succ n ih =>
    obtain ⟨hslots, hasked⟩ := ih (by omega)
    rw [foldIdx_succ]
    refine ⟨by rw [State.peerAsks_slots, hslots], fun i hi => ?_⟩
    by_cases hin : i = n
    · subst hin
      exact State.peerAsks_same map (by omega)
    · rw [State.peerAsks_ne _ _ hin]
      exact hasked i (by omega)

theorem Completes.slotDemand {s : State} (map : Nat) (hslots : s.pwr.slots.length = 24) (hstate : s.cfg.state ≠ .standby) :
    Completes (.slotDemandRx map) s fun t => ((List.range 24).all fun i => (t.chan i).peerDemand == bitOf map i) = true := by
  obtain ⟨-, hasked⟩ := peerAsks_all s map 24 (by omega)
  have hcfg : (foldIdx 24 (fun i s => s.peerAsks map i) s).cfg = s.cfg :=
    cfg_of_kept (Kept.foldIdx (Kept.refl _ s) fun _ _ h => State.armClear_kept _ (State.modChan_kept _ _ h rfl) rfl)
  refine ⟨_, rfl, ?_⟩
  change ((List.range 24).all fun i => ((if (foldIdx 24 (fun i s => s.peerAsks map i) s).cfg.state == .standby then _
    else foldIdx 24 (fun i s => s.peerAsks map i) s).chan i).peerDemand == bitOf map i) = true
  rw [if_neg (by rw [hcfg]; simpa using hstate), List.all_eq_true]
  exact fun i hi => beq_iff_eq.mpr (hasked i (List.mem_range.mp hi))

theorem Completes.demandSent {s : State} (hserving : s.serving = true) (hdue : s.fov.demandTurn + 2 ^ 19 ≤ s.clock) :
    Completes .slotDemandTimer s fun t => t.fov.demandTurn = s.clock ∧ t.fov.demandSent = s.demandMap ∧ Sends s t ⟨.peer, [Peer.slotDemand, 0, s.demandMap]⟩ := by
  refine ⟨_, rfl, ?_⟩
  rw [if_pos (by rw [hserving, decide_eq_true hdue]; rfl)]
  unfold State.sendDemand
  dsimp only
  generalize hu : foldIdx 24 _ s = u
  have hkept : Kept [.pwr] s u := by
    rw [← hu]
    refine Kept.foldIdx (Kept.refl _ s) fun i t h => ?_
    split
    · exact State.armClear_kept _ (State.modChan_kept _ _ h rfl) rfl
    · exact h
  rw [State.emit_fov]
  refine ⟨congrArg Trn.ticks hkept.trn, rfl, ?_⟩
  rw [Sends, State.emit_outbox]
  change s.outbox <+: u.outbox ++ _ ∧ _ ∈ (u.outbox ++ _).drop _
  rw [hkept.outbox]
  exact ⟨List.prefix_append _ _, by simp⟩

/-- A gate that goes off leaves the peer's demand. -/
theorem State.gateOff_peerDemand (s : State) (i : Nat) (st : ChanState) : ((s.gateOff i st).chan i).peerDemand = (s.chan i).peerDemand := by
  unfold State.gateOff
  dsimp only
  rw [State.peerDemand_armClear, State.chan_congr (State.modSlot_pwr _ _ _), State.chan_modChan_keeps (g := Chan.peerDemand) (by intro; rfl)]
  split
  · unfold State.chanIdle
    split
    · rfl
    · exact State.chan_modChan_keeps (g := Chan.peerDemand) (by intro; rfl) s i i
  · exact State.chan_modChan_keeps (g := Chan.peerDemand) (by intro; rfl) s i i

theorem Completes.slotAck {s : State} {slot : Nat} (hon : s.slotOn slot = true) (hserving : s.serving = true) (hst : (s.chan slot).st = .stopping)
    (hack : (s.chan slot).ackArmed.isSome = true) :
    Completes (.slotAckRx slot) s fun t => (t.chan slot).st = .idle ∧ (t.chan slot).peerDemand = false := by
  have hi := chan_lt_of_st (s := s) (i := slot) (by rw [hst]; decide)
  refine Completes.guard rfl hon ?_
  have hlen : slot < ((s.modChan slot fun c => { c with peerDemand := false }).armClear slot).pwr.slots.length := by
    rwa [State.slots_armClear, State.slots_modChan]
  have hown : ((s.modChan slot fun c => { c with peerDemand := false }).armClear slot |>.chan slot).own = (s.chan slot).own := by
    rw [State.armClear_own, State.chan_modChan hi]
    rfl
  have hpeer : ((s.modChan slot fun c => { c with peerDemand := false }).armClear slot |>.chan slot).peerDemand = false := by
    rw [State.peerDemand_armClear, State.chan_modChan hi]
  dsimp only
  generalize hu : State.armClear _ slot = u at hlen hown hpeer
  have hserving' : u.serving = true := by rw [← hu]; exact hserving
  have hst' : (u.chan slot).st = .stopping := by rw [← Chan.own_st, hown, Chan.own_st, hst]
  have hack' : (u.chan slot).ackArmed.isSome = true := by rw [← Chan.own_ackArmed, hown, Chan.own_ackArmed, hack]
  rw [if_pos (by rw [hserving', hst', hack']; rfl), State.chan_congr (u.finishStop_effect slot).2]
  exact ⟨congrArg Chan.st (State.gateOff_own hlen .idle), (State.gateOff_peerDemand u slot .idle).trans hpeer⟩

/-- Settles O32, command by command. -/
theorem witnessAndPeerCommands : Obligations.WitnessAndPeerCommands := by
  unfold Obligations.WitnessAndPeerCommands
  refine ⟨?_, ?_, ?_, ?_, ?_, ?_, ?_, ?_, ?_, ?_, ?_, ?_, ?_, ?_, ?_, ?_⟩
  · exact fun s sh c m x hserved hwit hproved hfits hquiet hholder => Completes.requestAgain hserved hwit hproved hfits hquiet hholder
  · exact fun s sh c h m x hserved hwit hproved hfits hquiet hholder hne hguard => Completes.requestDenied hserved hwit hproved hfits hquiet hholder hne hguard
  · exact fun s sh c m x hserved hwit hproved hfits hquiet hholder hfirst => Completes.requestContends hserved hwit hproved hfits hquiet hholder hfirst
  · intro s sh c a m hcontends hdue
    obtain ⟨x, hserved, hx⟩ := Option.bind_eq_some_iff.mp hcontends
    obtain ⟨hgrant, -⟩ := State.grant_effect hserved (c := c) m.reqSeq
    refine ⟨_, rfl, ?_⟩
    simp only [hcontends, hdue, if_true]
    rw [hgrant]
    rfl
  · intro s sh c m x hserved hwit hproved hfits hholder
    refine ⟨_, rfl, ?_⟩
    simp only [hserved]
    rw [if_pos (by simp [hwit, hproved, hfits, hholder])]
    exact tget_tmod_same _ hserved
  · intro s lane h hlane hmatch
    refine Completes.guard rfl (decide_eq_true hlane) ?_
    simp only [hmatch]
    split <;> exact ⟨rfl, rfl, rfl, rfl⟩
  · intro s lane c h hlane hmatch
    refine Completes.guard rfl (decide_eq_true hlane) ?_
    simp only [hmatch]
    exact ⟨rfl, rfl, rfl, Raises.after (State.raise_raises _ _ _ _ _ _ _) List.prefix_rfl⟩
  · exact fun s lane b hlane hhello hstate => Completes.heartbeat b hlane hhello hstate
  · intro s hup hdue hpeer
    refine ⟨_, rfl, ?_⟩
    simp only [State.up, hup, Bool.false_eq_true, if_false]
    rw [if_pos (by simp [hdue, hpeer])]
    refine ⟨rfl, ?_⟩
    rw [State.emit_outbox, List.drop_left]
    rfl
  · exact fun s hup hgone => Completes.peerLost hup hgone
  · intro s hstate hdue
    refine ⟨_, rfl, ?_⟩
    rw [if_pos (by rw [hstate, hdue]; rfl)]
    exact s.startBuild_effect
  · exact fun s map hslots hstate => Completes.slotDemand map hslots hstate
  · exact fun s hserving hdue => Completes.demandSent hserving hdue
  · exact fun s slot hon hserving hst hack => Completes.slotAck hon hserving hst hack
  · intro s slot v g p hon hserving hbits hpos hst
    refine Completes.guard rfl hon ?_
    dsimp only
    rw [if_pos (by rcases hbits with h | h <;> simp [hserving, h])]
    unfold State.healthFail
    simp only [hpos]
    rw [if_neg (by simpa using hst)]
    simp [State.posTo, State.drvTo]
  · intro s reason planned hstate heligible hidle hno
    refine ⟨_, rfl, ?_⟩
    rw [if_pos (by simp [hstate])]
    obtain ⟨hfov, -⟩ := State.startRequesting_starts (s := { s with fov := { s.fov with planned := planned } }) heligible hidle hno
    rw [hfov]
    exact ⟨rfl, rfl⟩

end Sys2Proof.Machine


/-!
The mirror, the takeover, the hand-over and replication (R582, R583, R589 to R593, R597): what the standby keeps of a mirror message that it takes,
what an unfit canister raises, and with them what each command does.
-/

namespace Sys2Proof.Machine

-- The check compiles the text as one file: elaborating these proofs one after another bounds its memory.
set_option Elab.async false

/-! ### The mirror -/

@[simp] theorem State.count_lay (s : State) (i n inst : Nat) : (s.count i n inst).lay = s.lay := lay_of_kept (State.count_kept _ _ _ (Kept.refl _ s) rfl)

@[simp] theorem State.count_jnl (s : State) (i n inst : Nat) : (s.count i n inst).jnl = s.jnl := jnl_of_kept (State.count_kept _ _ _ (Kept.refl _ s) rfl)

@[simp] theorem State.count_cph (s : State) (i n inst : Nat) : (s.count i n inst).cph = s.cph := cph_of_kept (State.count_kept _ _ _ (Kept.refl _ s) rfl)

/-- A standby takes the next message in order. -/
theorem State.mirrorTake_next {s : State} (hstate : s.cfg.state = .standby) (apply : State → State) :
    s.mirrorTake (s.fov.mirror + 1) apply = (apply { s with fov := { s.fov with mirror := s.fov.mirror + 1 } }).count 356 1 0 := by
  unfold State.mirrorTake
  rw [if_neg (by simp [hstate])]
  dsimp only
  rw [if_pos (by simp)]

/-- A WARM standby answers a message past a gap with NACK and drops one that it has. -/
theorem State.mirrorTake_other {s : State} {seq : Nat} (hstate : s.cfg.state = .standby) (hwarm : s.fov.warmth = .warm) (hseq : seq ≠ s.fov.mirror + 1)
    (apply : State → State) : s.mirrorTake seq apply = if s.fov.mirror < seq then s.emit .peer [Peer.nack, 0, s.fov.mirror + 1] else s := by
  unfold State.mirrorTake
  rw [if_neg (by simp [hstate])]
  dsimp only
  rw [if_neg (by simp [hwarm, hseq])]

theorem Completes.mapDelta {s : State} (seq : Nat) (ds : List DeltaRead) (hstate : s.cfg.state = .standby) (hwarm : s.fov.warmth = .warm)
    (hcopying : s.fov.copying = false) :
    Completes (.mapDeltaRx seq ds) s fun t =>
      if seq = s.fov.mirror + 1 then
        t.fov.mirror = seq ∧ t.lay.map = streamApply s.lay.map (ds.map deltaOf) ∧ t.lay.stream = streamApply s.lay.stream (ds.map deltaOf)
      else t.fov = s.fov ∧ t.lay = s.lay ∧ Sent s t (if s.fov.mirror < seq then [⟨.peer, [Peer.nack, 0, s.fov.mirror + 1]⟩] else []) := by
  refine ⟨_, rfl, ?_⟩
  by_cases hseq : seq = s.fov.mirror + 1
  · subst hseq
    rw [if_pos rfl, State.mirrorTake_next hstate]
    dsimp only
    rw [if_neg (by simp [hcopying]), State.count_fov, State.count_lay]
    exact ⟨rfl, rfl, rfl⟩
  · dsimp only
    rw [if_neg hseq, State.mirrorTake_other hstate hwarm hseq]
    split
    · exact ⟨rfl, rfl, rfl⟩
    · exact ⟨rfl, rfl, (List.append_nil _).symm⟩

theorem Completes.lastBulk {s : State} (es : List DeltaRead) (hstate : s.cfg.state = .standby) (hcold : s.fov.warmth = .cold) (hcopying : s.fov.copying = true) :
    Completes (.mapBulkRx (s.fov.mirror + 1) es true) s fun t => t.fov.warmth = .warm ∧ t.fov.copying = false ∧ t.fov.held = [] ∧
      t.fov.mirror = s.fov.mirror + 1 ∧ t.lay.map = streamApply (streamApply s.lay.map (es.map deltaOf)) s.fov.held := by
  refine ⟨_, rfl, ?_⟩
  rw [if_neg (by simp [hstate])]
  dsimp only
  have hstale : (s.fov.warmth == .warm && !s.fov.former && !s.fov.copying) = false := by simp [hcold]
  rw [hstale, if_neg Bool.false_ne_true, if_pos hcopying, State.mirrorTake_next hstate]
  dsimp only
  rw [if_pos rfl, State.count_fov, State.count_lay]
  exact ⟨rfl, rfl, rfl, rfl, rfl⟩

/-- The mirror messages of a NACK are sent again in the order of the buffer's list. -/
theorem State.resend_outbox {α : Type} (s : State) (l : List (Nat × α)) :
    (l.foldl (fun s m => s.emit .peer [peerResend, m.1]) s).outbox = s.outbox ++ l.map fun m => ⟨.peer, [peerResend, m.1]⟩ := by
  induction l generalizing s with
  | nil => exact (List.append_nil _).symm
  | cons m l ih => rw [List.foldl_cons, ih, State.emit_outbox, List.map_cons, List.append_assoc, List.singleton_append]

/-! ### Takeover and hand-over -/

/-- An unfit canister is neither FIT nor ELIGIBLE, and gives its takeover up. -/
theorem State.unfit_effect (s : State) : s.unfit.fov.fit = false ∧ s.unfit.fov.eligible = false ∧ s.unfit.fov.takeover = none ∧
    Raises s s.unfit Ev.takeoverUnfit s.cfg.canister 0 := by
  unfold State.unfit
  dsimp only
  have hcfg : ((s.sendRelease 2 fun _ => true).sendYield 2 false).cfg = s.cfg :=
    cfg_of_kept (State.sendYield_kept _ _ (State.sendRelease_kept _ _ (Kept.refl _ s) rfl) rfl)
  have hevt : ((s.sendRelease 2 fun _ => true).sendYield 2 false).evt = s.evt :=
    evt_of_kept (State.sendYield_kept _ _ (State.sendRelease_kept _ _ (Kept.refl _ s) rfl) rfl)
  generalize (s.sendRelease 2 fun _ => true).sendYield 2 false = u at hcfg hevt
  generalize hv : ({ u with fov := { u.fov with eligible := false, fit := false, holder := false, valid := false, takeover := none, renewArmed := none, requesting := none } } : State) = v
  have hv' : v.fov.fit = false ∧ v.fov.eligible = false ∧ v.fov.takeover = none ∧ v.cfg = s.cfg ∧ v.evt = s.evt := by
    rw [← hv]
    exact ⟨rfl, rfl, rfl, hcfg, hevt⟩
  obtain ⟨vfit, veligible, vtakeover, vcfg, vevt⟩ := hv'
  have hana := v.setAna_kept_self (anaOf .standby)
  obtain ⟨hgrow, -, hfov, hdemand, -⟩ := (v.setAna (anaOf .standby)).updateDemand_demands
  have hraised : s.evt.raised <+: (v.setAna (anaOf .standby)).updateDemand.evt.raised := by
    rw [← vevt]
    exact ((v.setAna_grows _).trans hgrow).2
  generalize (v.setAna (anaOf .standby)).updateDemand = w at *
  have hcanister : w.cfg.canister = s.cfg.canister := by rw [hdemand, hana.cfg, vcfg]
  rw [State.raise_fov, State.wr_fov, hfov, hana.fov, hcanister]
  exact ⟨vfit, veligible, vtakeover, Raises.after (State.raise_raises _ _ _ _ _ _ _) hraised⟩

theorem Completes.fitness {s : State} {x : Takeover} (hx : s.fov.takeover = some x) (hfirst : x.fitDone = false) (hcomp : s.rd Reg.CMP_CLANE_FAULT = 0)
    (hdec : s.rd Reg.CMP_DLANE_FAULT = 0) (hpipes : s.rd Reg.CPH_ENG_FAULT = 0) :
    Completes (.fitnessTestDone [] [] [] true) s (fun t => t.fov.fit = true ∧ t.fov.takeover = some { x with fitDone := true }) ∧
    Completes (.fitnessTestDone [] [] [] false) s (fun t => t.fov.fit = false ∧ t.fov.eligible = false ∧ t.fov.takeover = none ∧
      Raises s t Ev.takeoverUnfit s.cfg.canister 0) := by
  have hfew : (decide (inService (s.rd Reg.CMP_CLANE_FAULT) compLanes < 24) || decide (inService (s.rd Reg.CMP_DLANE_FAULT) decompLanes < 32) ||
      decide (inService (s.rd Reg.CPH_ENG_FAULT) pipelines < 16)) = false := by
    rw [hcomp, hdec, hpipes]
    decide
  refine ⟨⟨_, rfl, ?_⟩, ⟨_, rfl, ?_⟩⟩
  · simp only [hx]
    rw [if_neg (by simp [hfirst]), List.foldl_nil, List.foldl_nil, List.foldl_nil, hfew, if_neg (by decide)]
    exact ⟨rfl, rfl⟩
  · simp only [hx]
    rw [if_neg (by simp [hfirst]), List.foldl_nil, List.foldl_nil, List.foldl_nil, hfew, if_pos (by decide)]
    exact s.unfit_effect

/-- A map-delta batch leaves no delta behind and keeps fail-over as it is; the batch waits to be written. -/
theorem State.writeBatch_effect (s : State) : s.writeBatch.lay.deltas = [] ∧ s.writeBatch.fov = s.fov ∧
    ∃ ds t, s.writeBatch.lay.writes = s.lay.writes ++ [.batch ds t] := by
  unfold State.writeBatch
  simp only [State.count_lay, State.count_fov]
  exact ⟨rfl, rfl, _, _, rfl⟩

/-- A hand-over waits while a batch is still to be written. -/
theorem State.handOverStep_waits {s : State} {ws : List MdWrite} {ds : List Delta} {t : Trailer} (h : s.lay.writes = ws ++ [.batch ds t]) : s.handOverStep = s := by
  unfold State.handOverStep
  split
  · dsimp only
    rw [if_neg]
    simp [h]
  · rfl

theorem Completes.handOverDrain {s : State} {h : HandOver} (hh : s.fov.handOver = some h) (hopen : h.drained = false) (hdue : due h.armed 48829 s.clock = true) :
    Completes .handOverDrainTimeout s fun t => (t.fov.handOver.map fun x => x.drained) = some true ∧ t.lay.deltas = [] := by
  refine ⟨_, rfl, ?_⟩
  simp only [hh]
  rw [if_pos (by simp [hopen, hdue])]
  generalize hu : List.foldl _ s s.cmd.entries = u
  have hfov : u.fov = s.fov := by
    rw [← hu]
    refine fov_of_kept (Kept.foldl (Kept.refl _ s) fun t p hkept => ?_)
    split
    · exact State.finishOne_kept _ _ _ _ (State.modEntry_kept _ _ hkept rfl) rfl
    · exact hkept
  unfold State.handOverDrained
  split
  · next k _ =>
    obtain ⟨hdeltas, hkept, ds, t, hwrites⟩ := ({ u with fov := { u.fov with handOver := some { k with drained := true } } } : State).writeBatch_effect
    rw [State.handOverStep_waits hwrites, hkept]
    exact ⟨rfl, hdeltas⟩
  · next hnone => exact absurd hnone (by rw [hfov, hh]; exact nofun)

/-! ### Replication -/

theorem Completes.replicaExtent {s : State} {nsid extent q : Nat} {r : ReplicaCfg} (hr : s.deferredReplica nsid = some r) (hserving : s.serving = true)
    (hchanged : s.fov.replica.contains (nsid, extent) = true) (hq : s.shelfQp r.peerShelf = some q) :
    Completes (.replicaExtentSend nsid extent true) s (fun t => t.fov.replica.contains (nsid, extent) = false ∧
      t.lay.writes = s.lay.writes ++ [.record (.replicaBit nsid extent false)]) ∧
    Completes (.replicaExtentSend nsid extent false) s (fun t => t.fov = s.fov ∧
      Sent s t [⟨.wqeSend, [q, 0, (s.extent nsid extent).storedLen, extent, nsid, r.peerNsid]⟩]) := by
  have hgo : (!s.serving || !s.fov.replica.contains (nsid, extent)) = false := by rw [hserving, hchanged]; rfl
  refine ⟨⟨_, rfl, ?_⟩, ⟨_, rfl, ?_⟩⟩
  · simp only [hr]
    rw [hgo, if_neg Bool.false_ne_true, if_pos trivial]
    exact ⟨by simp [State.mdWrite], rfl⟩
  · simp only [hr]
    rw [hgo, if_neg Bool.false_ne_true, if_neg Bool.false_ne_true]
    simp only [hq]
    exact ⟨rfl, rfl⟩

/-- Settles O33, command by command; that a replica that is still down is reported again is the model's choice (notes/assumptions/90.md). -/
theorem mirrorAndTakeoverCommands : Obligations.MirrorAndTakeoverCommands := by
  unfold Obligations.MirrorAndTakeoverCommands
  refine ⟨?_, ?_, ?_, ?_, ?_, ?_, ?_, ?_, ?_, ?_, ?_, ?_, ?_⟩
  · exact fun s seq ds hstate hwarm hcopying => Completes.mapDelta seq ds hstate hwarm hcopying
  · exact fun s es hstate hcold hcopying => Completes.lastBulk es hstate hcold hcopying
  · intro s tr hstate
    refine ⟨_, rfl, ?_⟩
    rw [State.mirrorTake_next hstate]
    dsimp only
    rw [State.count_jnl, State.count_lay, State.count_fov]
    exact ⟨rfl, rfl, rfl⟩
  · intro s l hstate
    refine ⟨_, rfl, ?_⟩
    rw [State.mirrorTake_next hstate]
    dsimp only
    rw [State.count_fov]
    exact ⟨rfl, rfl⟩
  · intro s nsid id hstate
    refine ⟨_, rfl, ?_⟩
    rw [State.mirrorTake_next hstate]
    dsimp only
    rw [State.count_cph]
    exact tget_tset_same _ _ _
  · intro s seq hserving hheld
    refine ⟨_, rfl, ?_⟩
    rw [if_neg (by simp [hserving]), if_pos hheld]
    dsimp only [Sent]
    rw [State.resend_outbox]
  · exact fun s x hx hfirst hcomp hdec hpipes => Completes.fitness hx hfirst hcomp hdec hpipes
  · intro s ctrl cid hserves hactive hnone hpeer hbeat
    refine Completes.served rfl hserves ?_
    rw [State.ifActive, if_pos (by simp [hactive])]
    dsimp only
    rw [if_neg (by simp only [hpeer, hbeat, hnone]; decide)]
    exact ⟨rfl, rfl, rfl⟩
  · exact fun s h hh hopen hdue => Completes.handOverDrain hh hopen hdue
  · intro s hdue
    refine ⟨_, rfl, ?_⟩
    rw [if_pos hdue]
    exact ⟨rfl, rfl⟩
  · intro s a ha hnone hdue
    refine ⟨_, rfl, ?_⟩
    simp only [ha]
    rw [if_pos (by rw [hnone, decide_eq_true hdue]; rfl)]
    exact ⟨rfl, Raises.after (State.raise_raises _ _ _ _ _ _ _) List.prefix_rfl⟩
  · exact fun s nsid extent q r hr hserving hchanged hq => Completes.replicaExtent hr hserving hchanged hq
  · intro s shelf hdue
    refine ⟨_, rfl, ?_⟩
    rw [if_pos hdue]
    exact ⟨tget_tset_same _ _ _, Raises.after (State.raise_raises _ _ _ _ _ _ _) List.prefix_rfl⟩

end Sys2Proof.Machine


/-!
The service endpoint (chapter 20): what a reset of the mailbox, the end of a containment and an answer leave of the endpoint's state, and with that
what each command does. The order in which mailbox entries are taken and freed is the model's choice (`notes/assumptions/92.md`).
-/

namespace Sys2Proof.Machine

-- The check compiles the text as one file: elaborating these proofs one after another bounds its memory.
set_option Elab.async false

/-! ### The endpoint's state after its operations -/

theorem State.mailboxPost_sep (s : State) (cid : Nat) (st : Nat × Nat) (dw0 dw1 : Nat) :
    (s.mailboxPost cid st dw0 dw1).sep = { s.sep with
      cqTail := (s.sep.cqTail + 1) % 8
      phase := if s.sep.cqTail = 7 then !s.sep.phase else s.sep.phase
      busy := none } := rfl

/-- An answer to the mailbox touches the completion queue, the command in progress and what waits to be posted; it takes no entry and ends no
Flash Write. -/
theorem State.reply_sep (s : State) (ctrl cid : Nat) (st : Nat × Nat) (a b : Nat) :
    (s.reply ctrl cid st a b).sep.sqHead = s.sep.sqHead ∧ (s.reply ctrl cid st a b).sep.flash = s.sep.flash := by
  unfold State.reply
  dsimp only
  generalize hu : State.count _ 109 1 ctrl = u
  have hsep : u.sep = s.sep := by
    rw [← hu]
    exact (State.count_records _ _ _ _).2.2.trans rfl
  rw [← hsep]
  split
  · split
    · exact ⟨rfl, rfl⟩
    · split <;> exact ⟨rfl, rfl⟩
  · exact ⟨rfl, rfl⟩

theorem State.mailboxId_congr {s t : State} (h : t.cfg = s.cfg) : t.mailboxId = s.mailboxId := by rw [State.mailboxId, h, State.mailboxId]

theorem State.raise_mailbox (s : State) (src sev inst code v v2 : Nat) :
    (s.raise src sev inst code v v2).ctrlOf (s.raise src sev inst code v v2).mailboxId = s.ctrlOf s.mailboxId := rfl

theorem State.abandonMailbox_sep (s : State) :
    s.abandonMailbox.sep = { s.sep with busy := none, abandoned := s.sep.abandoned ++ s.sep.busy.toList, flash := none } := rfl

theorem State.clearFallback_kept_self (s : State) : Kept [.reg 12] s s.clearFallback := State.clearFallback_kept (Kept.refl _ s) rfl

/-- The mailbox returns to its reset state, with a session that no one has authenticated. -/
theorem State.resetMailbox_effect (s : State) :
    s.resetMailbox.sep = { s.abandonMailbox.sep with sqHead := 0, cqTail := 0, phase := true, locked := false, held := [] } ∧
      s.resetMailbox.cfg = s.cfg ∧ s.resetMailbox.ctrlOf s.mailboxId = some (Ctrl.session 0) ∧ s.resetMailbox.evt.raised = s.evt.raised := by
  unfold State.resetMailbox
  dsimp only
  generalize hu : State.wr _ Reg.SEP_MBX_STATUS_OPCODE 0 0 0 = u
  have hkept : Kept [.reg 4, .reg 5, .reg 6, .reg 10, .reg 12, .reg 19, .reg 21] s.abandonMailbox u := by
    rw [← hu]
    refine State.wr_kept _ _ _ _ (State.wr_kept _ _ _ _ (State.wr_kept _ _ _ _ ?_ rfl rfl) rfl rfl) rfl rfl
    refine Kept.foldIdx (Kept.foldIdx ?_ fun _ _ h => State.wr_kept _ _ _ _ h rfl rfl) fun _ _ h => State.wr_kept _ _ _ _ h rfl rfl
    exact State.resetCopies_kept _ (Kept.refl _ _) rfl
  have hcfg : u.cfg = s.cfg := hkept.cfg
  refine ⟨?_, hcfg, ?_, ?_⟩
  · rw [State.setCtrl_sep]
    dsimp only
    rw [hkept.sep]
  · rw [State.ctrlOf, State.setCtrl, ← State.mailboxId_congr hcfg]
    exact tget_tset_same _ _ _
  · rw [State.setCtrl_evt]
    change u.evt.raised = s.evt.raised
    rw [hkept.evt]
    rfl

theorem State.resetConfig_effect (s : State) :
    s.resetConfig.sep = { s.sep with bme := false, msixEn := false, fmask := false, d3hot := false, pba := [], flr := none, flrQuiet := false } ∧
      s.resetConfig.cfg = s.cfg ∧ s.resetConfig.cmd = s.cmd ∧ s.resetConfig.evt = s.evt := by
  have hkept : Kept [.reg 19] _ s.resetConfig := State.maskVectors_kept (Kept.refl _ _) rfl
  exact ⟨hkept.sep, hkept.cfg, hkept.cmd, hkept.evt⟩

/-- A containment that holds back no completion ends with its event alone. -/
theorem State.endContainment_effect {s : State} (hheld : s.sep.held = []) :
    s.endContainment.sep = { s.sep with contained := none } ∧ s.endContainment.cfg = s.cfg ∧ s.evt.raised <+: s.endContainment.evt.raised := by
  unfold State.endContainment
  split
  · next hnone =>
    refine ⟨?_, rfl, List.prefix_rfl⟩
    rw [← Option.isNone_iff_eq_none.mp hnone]
  · rw [hheld]
    exact ⟨by rw [List.foldl_nil, State.raise_sep, ← hheld], rfl, List.prefix_append _ _⟩

/-- What a reset of the endpoint's session, queues and configuration leaves, from a state that holds back no completion. -/
theorem State.resetEndpoint_effect {s : State} (hheld : s.sep.held = []) :
    let t := (s.endContainment.resetMailbox).resetConfig
    t.sep = { s.sep with
      contained := none, busy := none, abandoned := s.sep.abandoned ++ s.sep.busy.toList, flash := none, sqHead := 0, cqTail := 0, phase := true,
      locked := false, held := [], bme := false, msixEn := false, fmask := false, d3hot := false, pba := [], flr := none, flrQuiet := false } ∧
    t.cfg = s.cfg ∧ t.ctrlOf t.mailboxId = some (Ctrl.session 0) ∧ s.evt.raised <+: t.evt.raised := by
  obtain ⟨csep, ccfg, cevt⟩ := State.endContainment_effect hheld
  obtain ⟨msep, mcfg, mctrl, mevt⟩ := s.endContainment.resetMailbox_effect
  obtain ⟨fsep, fcfg, fcmd, fevt⟩ := s.endContainment.resetMailbox.resetConfig_effect
  refine ⟨?_, fcfg.trans (mcfg.trans ccfg), ?_, ?_⟩
  · rw [fsep, msep, State.abandonMailbox_sep, csep]
  · rw [State.ctrlOf, fcmd, State.mailboxId_congr (fcfg.trans mcfg)]
    exact mctrl
  · rwa [fevt, mevt]

/-- A link that leaves DL_Active, or enters it, leaves the rest of the endpoint's state. -/
theorem State.sepLink_effect (s : State) (l : SepLink) (speed width : Nat) :
    (s.sepLink l speed width).sep = { s.sep with link := l, speed := speed, width := width } ∧ (s.sepLink l speed width).cfg = s.cfg ∧
      s.evt.raised <+: (s.sepLink l speed width).evt.raised := by
  unfold State.sepLink
  dsimp only
  split
  · exact ⟨rfl, rfl, List.prefix_append _ _⟩
  · split
    · exact ⟨rfl, rfl, List.prefix_append _ _⟩
    · exact ⟨rfl, rfl, List.prefix_rfl⟩

/-! ### Resets and the link -/

theorem State.sepStart_held {s : State} (hup : s.inReset = false) (hperst : s.sep.perst = false) (hlink : s.sep.link = .held)
    (hready : s.cfg.running.isSome = true ∨ s.cfg.state = .safeHold) : s.sepStart = { s with sep := { s.sep with link := .training } } := by
  have hgo : (!s.inReset && !s.sep.perst && s.sep.link == .held && (s.cfg.running.isSome || s.cfg.state == .safeHold)) = true := by
    rw [hup, hperst, hlink]
    rcases hready with hrun | hstate
    · rw [hrun]
      rfl
    · rw [hstate, Bool.or_comm]
      rfl
  rw [State.sepStart, if_pos hgo]

theorem Completes.endpointReset {s : State} (perst : Bool) (hup : s.inReset = false) :
    Completes (.endpointReset perst) s fun t => t.sep.link = (if s.sep.link = .held || s.sep.perst || perst then .held else .training) ∧
      t.sep.perst = (s.sep.perst || perst) ∧ t.sep.contained = none ∧ t.sep.flr = none ∧ t.sep.flash = none ∧ t.sep.busy = none ∧ t.sep.locked = false ∧
      t.sep.sqHead = 0 ∧ t.sep.cqTail = 0 ∧ t.sep.pba = [] ∧ t.sep.bme = false ∧ t.sep.msixEn = false ∧ t.ctrlOf t.mailboxId = some (Ctrl.session 0) := by
  refine ⟨_, rfl, ?_⟩
  have hup' : ({ s with sep := { s.sep with perst := s.sep.perst || perst } } : State).inReset = false := hup
  simp only [hup', Bool.false_eq_true, if_false]
  generalize hl : (if s.sep.link == .held || (s.sep.perst || perst) then SepLink.held else .training) = l
  have hlink : l = if s.sep.link = .held || s.sep.perst || perst then SepLink.held else .training := by
    rw [← hl]
    cases s.sep.link <;> cases s.sep.perst <;> cases perst <;> rfl
  obtain ⟨lsep, -, -⟩ := ({ s with sep := { s.sep with perst := s.sep.perst || perst } } : State).sepLink_effect l 0 0
  generalize hu : State.sepLink _ l 0 0 = u at lsep
  obtain ⟨rsep, -, rctrl, -⟩ := State.resetEndpoint_effect (s := { u with sep := { u.sep with held := [] } }) rfl
  generalize hv : State.resetConfig _ = v at rsep rctrl
  rw [State.ctrlOf, v.clearFallback_kept_self.cmd, v.clearFallback_kept_self.sep, State.mailboxId_congr v.clearFallback_kept_self.cfg, rsep, lsep, ← hlink]
  exact ⟨rfl, rfl, rfl, rfl, rfl, rfl, rfl, rfl, rfl, rfl, rfl, rfl, rctrl⟩

theorem Completes.linkUp {s : State} {speed width : Nat} (c : SepConfig) (hlink : s.sep.link = .training) (hspeed : speed ≤ s.sep.table.maxSpeed)
    (hwidth : width ≤ s.sep.table.maxWidth) :
    Completes (.endpointLinkUp speed width c) s fun t => t.sep.link = .active ∧ t.sep.speed = speed ∧ t.sep.width = width ∧ t.sep.bme = c.bme ∧
      Raises s t Ev.endpointLink 0 2 := by
  refine ⟨_, rfl, ?_⟩
  have hfits : ((s.sep.link == .training || s.sep.link == .down) && decide (speed ≤ s.sep.table.maxSpeed) && decide (width ≤ s.sep.table.maxWidth)) = true := by
    simp [hlink, hspeed, hwidth]
  rw [if_pos hfits]
  have hraise : s.sepLink .active speed width =
      ({ s with sep := { s.sep with link := .active, speed := speed, width := width } } : State).raise Ev.endpointLink Sev.notice 0 2 speed width := by
    unfold State.sepLink
    dsimp only
    rw [if_pos (by rw [hlink]; rfl)]
  rw [hraise]
  exact ⟨rfl, rfl, rfl, rfl, Raises.mono (Raises.after (State.raise_raises _ _ _ _ _ _ _) List.prefix_rfl) List.prefix_rfl⟩

theorem bitOf_unmask (v : Nat) : bitOf (setBitOf v 0 false % 2 ^ 32) 0 = false := by
  have hlow : setBitOf v 0 false % 2 = 0 := by
    unfold setBitOf bitOf
    split
    · next h =>
      have hne : v / 2 ^ 0 % 2 ≠ 1 := by simpa using h
      omega
    · next h =>
      have hone : v / 2 ^ 0 % 2 = 1 := by simpa using h
      simp only [Bool.false_eq_true, if_false]
      omega
  have hmod : setBitOf v 0 false % 2 ^ 32 / 2 ^ 0 % 2 = 0 := by omega
  rw [bitOf, hmod]
  rfl

/-! ### The mailbox -/

/-- A word of the submission queue reads the same after a write of the tail. -/
theorem State.rd_wr_tail_sq (s : State) (v : Nat) {k : Nat} (hk : k < 128) : (s.wr Reg.SEP_MBX_SQ_TAIL 0 0 v).rd Reg.SEP_MBX_SQ 0 k = s.rd Reg.SEP_MBX_SQ 0 k := by
  refine State.rd_wr_ne _ _ _ _ _ _ _ _ ?_
  simp only [Fld.key, Reg.SEP_MBX_SQ_TAIL, Reg.SEP_MBX_SQ]
  omega

/-- What the next entry names: its command identifier. -/
def State.entryCid (s : State) : Nat := s.rd Reg.SEP_MBX_SQ 0 (16 * s.sep.sqHead) / 65536

/-- Does the next entry have a bad data pointer (R610)? -/
def State.entryBad (s : State) : Bool :=
  s.rd Reg.SEP_MBX_SQ 0 (16 * s.sep.sqHead + 6) % 4096 != 0 || decide (2 ^ 24 < s.rd Reg.SEP_MBX_SQ 0 (16 * s.sep.sqHead + 8))

/-- An entry taken: the command that it starts is in progress. -/
def State.entryTaken (s : State) : State :=
  { ((s.wr Reg.SEP_MBX_STATUS_OPCODE 0 0 (s.rd Reg.SEP_MBX_SQ 0 (16 * s.sep.sqHead) % 256)).wr Reg.SEP_MBX_STATUS_BUSY 0 0 1).wr Reg.SEP_MBX_STATUS_PERCENT 0 0 0 with
    sep := { s.sep with sqHead := (s.sep.sqHead + 1) % 8, busy := some s.entryCid } }

theorem State.takeEntry_takes {s : State} (hopen : s.mailboxOpen = true) (hfree : s.sep.busy = none) (hahead : s.sep.sqHead ≠ s.rd Reg.SEP_MBX_SQ_TAIL) :
    s.takeEntry = if s.entryBad then s.entryTaken.replyErr s.mailboxId s.entryCid St.invalidField else s.entryTaken := by
  unfold State.takeEntry
  dsimp only
  rw [if_neg (by simp [hopen, hfree, hahead])]
  rfl

/-- A write of the tail takes the entry that it leaves waiting. -/
theorem Completes.mailboxTakes {s : State} {tail : Nat} {p : State → Prop} (hup : s.inReset = false) (hopen : s.mailboxOpen = true) (hfree : s.sep.busy = none)
    (htail : tail < 8) (hahead : s.sep.sqHead ≠ tail)
    (hp : p (let t := s.wr Reg.SEP_MBX_SQ_TAIL 0 0 tail
      if t.entryBad then t.entryTaken.replyErr t.mailboxId t.entryCid St.invalidField else t.entryTaken)) : Completes (.mailboxSubmit tail) s p := by
  have hlive : (s.sep.link == .active && s.sep.flr.isNone) = true := by
    rw [State.mailboxOpen, Bool.and_eq_true] at hopen
    exact hopen.1
  refine Completes.eq (u := s.up _) rfl ?_ hp
  rw [State.up, hup, if_neg Bool.false_ne_true, if_pos hlive]
  refine State.takeEntry_takes hopen hfree ?_
  rwa [State.rd_wr_fits _ _ _ _ _ htail (by decide) (by decide)]

theorem State.rd_entryTaken_tail (s : State) : s.entryTaken.rd Reg.SEP_MBX_SQ_TAIL = s.rd Reg.SEP_MBX_SQ_TAIL := by
  unfold State.entryTaken
  rw [State.rd_mk, State.rd_wr_ne _ _ _ _ _ _ _ _ (by decide), State.rd_wr_ne _ _ _ _ _ _ _ _ (by decide), State.rd_wr_ne _ _ _ _ _ _ _ _ (by decide)]

section
variable {s : State} (tail : Nat) (hhead : s.sep.sqHead < 8)
include hhead

theorem State.entryCid_tail : (s.wr Reg.SEP_MBX_SQ_TAIL 0 0 tail).entryCid = s.entryCid := by
  rw [State.entryCid, State.wr_sep, State.rd_wr_tail_sq _ _ (by omega), State.entryCid]

theorem State.entryBad_tail : (s.wr Reg.SEP_MBX_SQ_TAIL 0 0 tail).entryBad = s.entryBad := by
  rw [State.entryBad, State.wr_sep, State.rd_wr_tail_sq _ _ (by omega), State.rd_wr_tail_sq _ _ (by omega), State.entryBad]

end

/-! ### Flash Write -/

/-- A Flash Write that ends is answered, and is over. -/
theorem State.flashEnd_effect (s : State) (j : FlashJob) (st : Nat × Nat) :
    (s.flashEnd j st).sep.flash = none ∧ (s.flashEnd j st).cfg = s.cfg ∧ AnswersLast (s.flashEnd j st) s.mailboxId j.cid st :=
  ⟨(State.reply_sep _ _ _ _ _ _).2, (State.replyErr_blocks _ _ _ _).2.2.2.2.1, by rw [AnswersLast, State.flashEnd, State.replyErr_outbox]; simp⟩

theorem State.copyOf_modCopy {s : State} {c : Nat} (hc : c < s.cfg.spi.length) (f : SpiCopy → SpiCopy) : (s.modCopy c f).copyOf c = f (s.copyOf c) :=
  getD_lmod_same _ _ _ hc

/-! ### Containment -/

theorem State.contain_effect (s : State) {code : Nat} (hcode : code < 8) :
    (s.contain code).sep = { s.sep with
      contained := some code, held := s.sep.busy.toList.map fun c => (c, St.dataTransfer.1, St.dataTransfer.2), busy := none, abandoned := s.sep.abandoned ++ s.sep.busy.toList
      flash := none } ∧
      (s.contain code).rd Reg.SEP_ERR_CAUSE = code ∧ Raises s (s.contain code) Ev.endpointContained 0 code := by
  unfold State.contain
  dsimp only
  generalize hu : State.raise _ _ _ _ _ _ _ = u
  have husep : u.sep = s.sep := by rw [← hu]; rfl
  have hcause : u.rd Reg.SEP_ERR_CAUSE = code := by
    rw [← hu, State.rd_raise _ _ _ _ _ _ _ (by decide) (by decide) (by decide), State.rd_wr_ne _ _ _ _ _ _ _ _ (by decide),
      State.rd_wr_fits _ _ _ _ _ hcode (by decide) (by decide)]
  have hraised : Raises s u Ev.endpointContained 0 code := by
    rw [← hu]
    exact Raises.after (State.raise_raises _ _ _ _ _ _ _) List.prefix_rfl
  generalize hv : State.abandonMailbox _ = v
  have hvsep : v.sep = { s.sep with
      contained := some code, held := s.sep.busy.toList.map fun c => (c, St.dataTransfer.1, St.dataTransfer.2), busy := none, abandoned := s.sep.abandoned ++ s.sep.busy.toList
      flash := none } := by
    rw [← hv, State.abandonMailbox_sep, ← husep]
    rfl
  refine ⟨v.clearFallback_kept_self.sep.trans hvsep, ?_, Raises.mono hraised ?_⟩
  · rw [v.clearFallback_kept_self.rd_outside [12] (by decide) (by decide) (by decide), ← hv]
    unfold State.abandonMailbox State.stopFlash
    rw [State.rd_mk, State.rd_mk, State.rd_wr_ne _ _ _ _ _ _ _ _ (by decide), State.rd_wr_ne _ _ _ _ _ _ _ _ (by decide), State.rd_mk,
      State.rd_wr_ne _ _ _ _ _ _ _ _ (by decide), hcause]
  · rw [v.clearFallback_kept_self.evt, ← hv]
    exact List.prefix_rfl

theorem Completes.contains {s : State} (c : ContainCause) (hlink : s.sep.link = .active) (hfree : s.sep.contained = none) :
    Completes (.endpointContain c) s fun t => t.sep.contained = some (causeCode c) ∧ t.rd Reg.SEP_ERR_CAUSE = causeCode c ∧ t.sep.busy = none ∧
      t.sep.flash = none ∧ t.sep.link = (if c = .surpriseDown then .down else .active) ∧ t.sep.held = s.sep.busy.toList.map (fun b => (b, 0, 4)) ∧
      Raises s t Ev.endpointContained 0 (causeCode c) := by
  have hcode : causeCode c < 8 := by cases c <;> decide
  obtain ⟨lsep, -, lgrow⟩ := s.sepLink_effect .down 0 0
  refine ⟨_, rfl, ?_⟩
  dsimp only
  rw [if_neg (by simp [hlink])]
  generalize hu : (if c == .surpriseDown then s.sepLink .down 0 0 else s) = u
  have hsep : u.sep.contained = none ∧ u.sep.busy = s.sep.busy ∧ u.sep.link = (if c = .surpriseDown then .down else .active) ∧ s.evt.raised <+: u.evt.raised := by
    rw [← hu]
    by_cases hdown : c = .surpriseDown
    · rw [if_pos (by simp [hdown]), if_pos hdown, lsep]
      exact ⟨hfree, rfl, rfl, lgrow⟩
    · rw [if_neg (by simp [hdown]), if_neg hdown]
      exact ⟨hfree, rfl, hlink, List.prefix_rfl⟩
  obtain ⟨hcontained, hbusy, hlink', hgrow⟩ := hsep
  rw [hcontained, Option.isSome_none, if_neg Bool.false_ne_true]
  obtain ⟨csep, ccause, craises⟩ := u.contain_effect hcode
  rw [csep, hbusy]
  exact ⟨rfl, ccause, rfl, rfl, hlink', rfl, craises.after hgrow⟩

/-- Settles O34, command by command. -/
theorem endpointCommands : Obligations.EndpointCommands := by
  unfold Obligations.EndpointCommands
  refine ⟨?_, ?_, ?_, ?_, ?_, ?_, ?_, ?_, ?_, ?_, ?_, ?_, ?_, ?_, ?_, ?_, ?_, ?_, ?_⟩
  · exact fun s perst hup => Completes.endpointReset perst hup
  · intro s hup hlink hstate
    refine ⟨_, rfl, ?_⟩
    have hup' : ({ s with sep := { s.sep with perst := false } } : State).inReset = false := hup
    rw [State.sepStart_held hup' rfl hlink (Or.inr hstate)]
    exact ⟨rfl, rfl⟩
  · exact fun s speed width c hlink hspeed hwidth => Completes.linkUp c hlink hspeed hwidth
  · intro s d3hot hlink hflr
    refine ⟨_, rfl, ?_⟩
    simp [hlink, hflr]
  · intro s v c hv hlink hflr
    refine Completes.guard rfl (decide_eq_true hv) ?_
    rw [if_pos (by simp [hlink, hflr])]
    refine ⟨?_, rfl, rfl, rfl⟩
    rw [State.setConfig, State.rd_mk, State.rd_wr_same _ _ _ _ _ (by decide) (by simp [Reg.SEP_MSIX_TABLE]; omega)]
    exact bitOf_unmask _
  · intro s tail hup hopen hfree htail hhead hahead hptr hlen
    refine Completes.mailboxTakes hup hopen hfree htail hahead ?_
    have hgood : s.entryBad = false := by simp only [State.entryBad, hptr, Nat.not_lt.mpr hlen]; rfl
    simp only [State.entryBad_tail tail hhead, hgood, Bool.false_eq_true, if_false]
    refine ⟨?_, ?_, rfl, rfl⟩
    · rw [State.rd_entryTaken_tail, State.rd_wr_fits _ _ _ _ _ htail (by decide) (by decide)]
    · exact congrArg some (State.entryCid_tail tail hhead)
  · intro s tail hup hopen hfree htail hhead hahead hptr
    refine Completes.mailboxTakes hup hopen hfree htail hahead ?_
    have hbad : s.entryBad = true := by simp [State.entryBad, hptr]
    simp only [State.entryBad_tail tail hhead, hbad, if_true]
    refine ⟨(State.reply_sep _ _ _ _ _ _).1, ?_⟩
    rw [State.entryCid_tail tail hhead]
    exact State.reply_answersLast _ _ _ _ _ _
  · intro s cid copy addr len im hopen hlocked hstate haddr hlen hmin hmax hflash
    refine ⟨_, rfl, ?_⟩
    have hsafe : (s.cfg.state != .safeHold) = false := by simp [hstate]
    have hok : (addr % 4096 != 0 || len % 4096 != 0 || len < 4096 || 2 ^ 24 < len) = false := by
      simp only [haddr, hlen, Nat.not_lt.mpr hmin, Nat.not_lt.mpr hmax]
      rfl
    rw [if_neg (by simp [hopen]), if_neg (by simp [hlocked]), if_neg (by simp [hsafe]), if_neg (by simp only [hok]; simp), if_neg (by simp [hflash])]
    exact ⟨rfl, rfl, rfl, rfl⟩
  · intro s cid copy addr len im hopen hlocked hstate
    refine ⟨_, rfl, ?_⟩
    have hdenied : (s.cfg.state != .safeHold) = true := by simp [hstate]
    rw [if_neg (by simp [hopen]), if_neg (by simp [hlocked]), if_pos hdenied]
    exact ⟨State.reply_answersLast _ _ _ _ _ _, (State.reply_sep _ _ _ _ _ _).2⟩
  · intro s j hflash hstep hopen hbme
    refine ⟨_, rfl, ?_⟩
    simp only [hflash]
    rw [if_pos (by simp [hstep, hopen, hbme])]
    exact ⟨rfl, rfl⟩
  · intro s j hflash hstep hcopy
    refine ⟨_, rfl, ?_⟩
    have herasing : (j.step != .erasing) = false := by simp [hstep]
    simp only [hflash]
    rw [if_neg (by simp [herasing]), if_pos trivial]
    exact ⟨rfl, State.copyOf_modCopy hcopy _, rfl⟩
  · intro s j hflash hstep
    refine ⟨_, rfl, ?_⟩
    have herasing : (j.step != .erasing) = false := by simp [hstep]
    simp only [hflash, herasing, Bool.false_eq_true, if_false]
    obtain ⟨hnone, hcfg, hlast⟩ := s.flashEnd_effect j St.internal
    exact ⟨hnone, by rw [hcfg], hlast⟩
  · intro s j hflash hstep
    refine ⟨_, rfl, ?_⟩
    have hbody : (j.step != .body && j.step != .header) = false ∧ (j.step == .header) = false := by simp [hstep]
    simp only [hflash]
    rw [if_neg (by simp [hbody.1]), if_neg (by simp), if_neg (by simp [hbody.2])]
    exact ⟨rfl, rfl, rfl⟩
  · intro s j hflash hstep hcopy
    refine ⟨_, rfl, ?_⟩
    have hheader : (j.step != .body && j.step != .header) = false ∧ (j.step == .header) = true := by simp [hstep]
    simp only [hflash, hheader.1, hheader.2, Bool.not_true, Bool.false_eq_true, if_false, if_true]
    obtain ⟨hnone, hcfg, hlast⟩ := (s.modCopy j.copy fun _ => { SpiCopy.erased with image := j.image, headerErased := j.image.isNone, written := j.length }).flashEnd_effect j St.ok
    refine ⟨hnone, ?_, hlast⟩
    rw [State.copyOf, hcfg]
    exact congrArg SpiCopy.image (State.copyOf_modCopy hcopy _)
  · intro s hlink hflr
    refine ⟨_, rfl, ?_⟩
    rw [if_pos (by simp [hlink, hflr])]
    generalize hu : ({ s with sep := { s.sep with flr := some s.clock, flrQuiet := false } } : State) = u
    rw [State.defer_sep, State.defer_deferred, u.clearFallback_kept_self.sep, u.clearFallback_kept_self.deferred, ← hu]
    exact ⟨rfl, rfl⟩
  · intro s f hflr hdue
    refine ⟨_, rfl, ?_⟩
    simp only [hflr]
    rw [if_pos (by omega)]
  · intro s f hflr hdue
    refine ⟨_, rfl, ?_⟩
    split
    · next f' hflr' =>
      obtain rfl := Option.some.inj (hflr.symm.trans hflr')
      obtain ⟨rsep, -, rctrl, rgrow⟩ := State.resetEndpoint_effect (s := { s with sep := { s.sep with held := [] } }) rfl
      rw [if_pos hdue, State.raise_sep, rsep]
      exact ⟨rfl, rfl, rfl, rfl, rfl, rfl, rfl, rfl, (State.raise_mailbox _ _ _ _ _ _ _).trans rctrl, (State.raise_raises _ _ _ _ _ _ _).after rgrow⟩
    · next hnone => exact absurd hflr (by simp [hnone])
  · exact fun s c hlink hfree => Completes.contains c hlink hfree
  · intro s hcontained
    refine ⟨_, rfl, ?_⟩
    rw [if_pos hcontained]
    rfl

end Sys2Proof.Machine


/-!
Counter samples (R633, R634, R640): the sample of the counter that counts the samples.
-/

namespace Sys2Proof.Machine

-- The check compiles the text as one file: elaborating these proofs one after another bounds its memory.
set_option Elab.async false

/-- Out of reset, with a sample of counter 359 to read (OVF_EN and OVF_PEND set, nothing counted since its wrap) and the counter itself at the
value from which the next occurrence wraps it; 359 is the counter of the samples written. -/
def sampleOfSamples : State :=
  { State.reset with
    cfg := { State.reset.cfg with phase := .done }
    cnt := { State.reset.cnt with vals := [(359, 2 ^ 48 - 1)] }
    regs := regPut (regPut [] Reg.CNT_OVF_EN 0 11 (2 ^ 7)) Reg.CNT_OVF_PEND 0 11 (2 ^ 7) }

/-- The sample counts itself on counter 359, which wraps and is pending again. -/
theorem sampleOfSamples_read : ∃ t, exec (.counterSampleRead 359) sampleOfSamples = .next t ∧ t.ovfPending 359 = true := by
  refine ⟨_, rfl, ?_⟩
  decide

/-- Refutes O35: the record of a sample counts one occurrence on counter 359 (R633), so a sample of counter 359 itself that finds it at
2^48 − 1 leaves its pending bit set, while the clause of the sample with a short skid expects it clear for every counter. -/
theorem not_eventAndCounterCommands : ¬ Obligations.EventAndCounterCommands := by
  unfold Obligations.EventAndCounterCommands
  intro h
  obtain ⟨-, -, -, -, -, -, -, hsample, -⟩ := h
  obtain ⟨t, hexec, hclear, -⟩ := hsample sampleOfSamples 359 rfl (by decide) (by decide) (by decide)
  obtain ⟨t', hexec', hpending⟩ := sampleOfSamples_read
  rw [hexec] at hexec'
  cases hexec'
  rw [hclear] at hpending
  exact Bool.false_ne_true hpending

end Sys2Proof.Machine


/-!
Register writes (R14, R648): a field of the register file that holds more than its width, written with its present low bits.
-/

namespace Sys2Proof.Machine

-- The check compiles the text as one file: elaborating these proofs one after another bounds its memory.
set_option Elab.async false

theorem fieldsAt_epoch : fieldsAt Reg.TRN_EPOCH.off 8 = [(Reg.TRN_EPOCH, 0, 0)] := by
  rw [fieldsAt_eq_near 8 (Nat.le_refl _) (Nat.le_refl _)]
  decide +kernel

/-- Out of reset and before boot lock, with one bit beyond the 48 of TRN_EPOCH in the register file. -/
def wideEpoch : State :=
  { State.reset with
    cfg := { State.reset.cfg with phase := .done, locked := false }
    regs := [(Reg.TRN_EPOCH.key 0 0, 2 ^ 48)] }

theorem wideEpoch_rd : wideEpoch.rd Reg.TRN_EPOCH = 2 ^ 48 := by decide

/-- A write of zeros keeps the bit that the access does not cover, so the value that TRN_EPOCH would take is its present one. -/
theorem wideEpoch_write : exec (.registerWrite .core Reg.TRN_EPOCH.off 8 0) wideEpoch = .next wideEpoch := by
  change execRegisterWrite .core Reg.TRN_EPOCH.off 8 0 wideEpoch = _
  have hwrite : wideEpoch.writeBar .core Reg.TRN_EPOCH.off 8 0 = wideEpoch := by
    rw [State.writeBar, fieldsAt_epoch]
    rfl
  rw [execRegisterWrite, hwrite]
  rfl

/-- Refutes O36: no condition keeps the register file within the widths of its fields, and where TRN_EPOCH holds 2^48 a write of 0 before boot
lock leaves it there (R14: the bits that the access does not cover are kept), while the clause of the RWL field expects 0. -/
theorem not_registerCommands : ¬ Obligations.RegisterCommands := by
  unfold Obligations.RegisterCommands
  intro h
  obtain ⟨-, -, -, -, hepoch, -⟩ := h
  obtain ⟨t, hexec, hread, -⟩ := hepoch wideEpoch 0 rfl rfl
  rw [wideEpoch_write] at hexec
  cases hexec
  rw [wideEpoch_rd] at hread
  exact absurd hread (by decide)

end Sys2Proof.Machine


/-!
The Turn boundary (R54, R57, R59): the counter and the clock of the timers.
-/

namespace Sys2Proof.Machine

-- The check compiles the text as one file: elaborating these proofs one after another bounds its memory.
set_option Elab.async false

/-- Out of reset a boundary sets the counter to the next one and counts a local Turn, whatever else it does. -/
theorem Completes.boundaryCounts {s : State} (hup : s.inReset = false) (obs : TurnObs) :
    Completes (.turnBoundary obs) s fun t => t.trn.count = s.nextCount ∧ t.clock = s.clock + 1 := by
  refine ⟨s.boundary obs, ?_, rfl, rfl⟩
  change execTurnBoundary obs s = _
  rw [execTurnBoundary, hup, if_neg Bool.false_ne_true]

theorem State.nextCount_free {s : State} (h : s.aligning = false) : s.nextCount = (s.trn.count + 1) % 2 ^ 48 := by
  simp [State.nextCount, h]

theorem State.nextCount_aligned {s : State} (h : s.aligning = true) (hfits : s.alignFits = true) : s.nextCount = s.alignedCount.toNat % 2 ^ 48 := by
  simp [State.nextCount, h, hfits]

/-- Settles O37: `nextCount` is the next value, or the aligned one. -/
theorem turnBoundaryCommand : Obligations.TurnBoundaryCommand := by
  unfold Obligations.TurnBoundaryCommand
  refine ⟨?_, ?_, ?_⟩
  · intro s obs hup hfree
    rw [← State.nextCount_free hfree]
    exact Completes.boundaryCounts hup obs
  · intro s obs hup haligning hfits
    rw [← State.nextCount_aligned haligning hfits]
    exact Completes.boundaryCounts hup obs
  · intro s obs hreset
    refine ⟨s, ?_, rfl⟩
    change execTurnBoundary obs s = _
    rw [execTurnBoundary, hreset, if_pos rfl]

end Sys2Proof.Machine


/-!
I/O commands (R252 to R273): when a command is taken and what enters the table, what the end of a command leaves of the table and of the zones, and
with them what each command does.
-/

namespace Sys2Proof.Machine

-- The check compiles the text as one file: elaborating these proofs one after another bounds its memory.
set_option Elab.async false

/-! ### Arrival -/

/-- A command that is taken runs with its controller and its namespace. -/
theorem State.ioCmd_taken {s : State} {io : Io} {c : Ctrl} {n : Ns} (h : TakesIo s io c n) (i : Instr) (kind : CmdKind) (run : Ctrl → Ns → State → State) :
    s.up (s.ioCmd i io kind run) = run c n s := by
  obtain ⟨hup, hctrl, hio, hready, hrts, hqueue, hroom, hana, hns, hmarker⟩ := h
  obtain ⟨q, hq, hst⟩ := Option.map_eq_some_iff.mp hrts
  simp [State.up, State.ioCmd, State.ioArrive, State.ioNs, hup, hctrl, hio, hready, hq, hst, hqueue, Nat.not_le.mpr hroom, hana, hns, hmarker]

/-- The same for a command whose namespace is looked at after its arrival. -/
theorem State.ioArrive_taken {s : State} {io : Io} {c : Ctrl} {n : Ns} (h : TakesIo s io c n) (i : Instr) (kind : CmdKind) (run : Ctrl → State → State) :
    s.up (s.ioArrive i io kind run) = run c s := by
  obtain ⟨hup, hctrl, hio, hready, hrts, hqueue, hroom, hana, -, -⟩ := h
  obtain ⟨q, hq, hst⟩ := Option.map_eq_some_iff.mp hrts
  simp [State.up, State.ioArrive, hup, hctrl, hio, hready, hq, hst, hqueue, Nat.not_le.mpr hroom, hana]

theorem State.ioNs_taken {s : State} {io : Io} {c : Ctrl} {n : Ns} (h : TakesIo s io c n) (kind : CmdKind) (run : Ns → State → State) :
    s.ioNs io kind c run = run n s := by
  obtain ⟨-, -, -, -, -, -, -, -, hns, hmarker⟩ := h
  simp [State.ioNs, hns, hmarker]

theorem State.ioEnter_entry (s : State) (e : CmdEnt) : (s.ioEnter e).entry s.nextSeq = some e := by
  rw [State.entry, State.ioEnter, cmd_of_kept (State.cmdStatus_kept (Kept.refl _ _) rfl)]
  exact tget_tset_same _ _ _

theorem State.ioEnter_enters (s : State) (e : CmdEnt) : Enters s (s.ioEnter e) e :=
  ⟨s.ioEnter_entry e, outbox_of_kept (State.ioEnter_kept _ (Kept.refl _ s) rfl)⟩

/-! ### The end of a command -/

theorem State.finishOne_cmd (s : State) (seq : Nat) (st : Nat × Nat) (a b : Nat) : (s.finishOne seq st a b).cmd = (s.dropEntry seq).cmd := by
  unfold State.finishOne
  split
  · next hnone => simp only [State.dropEntry, hnone]
  · next e he =>
    dsimp only
    split
    · rfl
    · cases e.kind.counter <;> simp [apply_ite State.cmd, State.complete]

theorem State.dropEntry_zones (s : State) (seq : Nat) : (s.dropEntry seq).cmd.zones = s.cmd.zones := by
  unfold State.dropEntry
  split
  · rfl
  · rw [cmd_of_kept (State.cmdStatus_kept (State.releaseBlocks_kept _ (Kept.refl _ _) rfl) rfl)]

@[simp] theorem State.count_cmd (s : State) (i n inst : Nat) : (s.count i n inst).cmd = s.cmd := cmd_of_kept (State.count_kept _ _ _ (Kept.refl _ s) rfl)

/-- A command that ends leaves the table. -/
theorem State.dropEntry_gone (s : State) (seq k : Nat) (h : k = seq ∨ s.entry k = none) : (s.dropEntry seq).entry k = none := by
  cases he : s.entry seq with
  | none =>
    have hkeep : s.dropEntry seq = s := by simp only [State.dropEntry, he]
    rw [hkeep]
    rcases h with rfl | h
    · exact he
    · exact h
  | some e =>
    obtain ⟨-, hentries, -⟩ := s.dropEntry_cmd he
    rw [State.entry, hentries]
    by_cases hk : k = seq
    · rw [hk, tget_tdel_same]
    · rw [tget_tdel_ne _ hk]
      exact h.resolve_left hk

/-- What was answered last stays answered when more was sent before. -/
theorem Answers.after {s t u : State} {ctrl cid : Nat} {st : Nat × Nat} (h : Answers t u ctrl cid st) (hgrow : s.outbox <+: t.outbox) : Answers s u ctrl cid st := by
  obtain ⟨⟨m, hm⟩, o, ho, hanswer⟩ := h
  obtain ⟨l, hl⟩ := hgrow
  refine ⟨⟨l ++ m, by rw [← hm, ← hl, List.append_assoc]⟩, o, ?_, hanswer⟩
  rw [← hm, List.drop_left] at ho
  rw [← hm, ← hl, List.append_assoc, List.drop_left]
  exact List.mem_append_right _ ho

/-- The end of a command that nothing discards is answered. -/
theorem State.finishOne_outbox {s : State} {seq : Nat} {e : CmdEnt} (he : s.entry seq = some e) (hlive : e.discard = false) (hkind : e.kind ≠ .reseal)
    (st : Nat × Nat) (a b : Nat) : (s.finishOne seq st a b).outbox = s.outbox ++ [⟨.completion, [e.io.ctrl, e.io.cid, st.1, st.2, a, b]⟩] := by
  have hdrop : (s.dropEntry seq).outbox = s.outbox := outbox_of_kept (State.dropEntry_kept _ (Kept.refl _ s) rfl)
  have hseal : (e.kind == .reseal) = false := by simpa using hkind
  simp only [State.finishOne, he, hlive, hseal, Bool.or_self, Bool.false_eq_true, if_false]
  cases e.kind.counter <;> simp [apply_ite State.outbox, State.complete, hdrop]

/-- From `s` to `t` commands have ended: nothing sent has gone, no command has come, and the zones are as before. -/
def Ends (s t : State) : Prop := s.outbox <+: t.outbox ∧ t.cmd.zones = s.cmd.zones ∧ ∀ k, s.entry k = none → t.entry k = none

theorem Ends.refl (s : State) : Ends s s := ⟨List.prefix_rfl, rfl, fun _ h => h⟩

theorem Ends.trans {s t u : State} (h : Ends s t) (k : Ends t u) : Ends s u :=
  ⟨h.1.trans k.1, k.2.1.trans h.2.1, fun i hi => k.2.2 i (h.2.2 i hi)⟩

theorem State.finishOne_ends (s : State) (seq : Nat) (st : Nat × Nat) (a b : Nat) : Ends s (s.finishOne seq st a b) := by
  refine ⟨?_, by rw [State.finishOne_cmd, State.dropEntry_zones], fun k hk => ?_⟩
  · cases he : s.entry seq with
    | none => simp only [State.finishOne, he]; exact List.prefix_rfl
    | some e =>
      have hdrop : (s.dropEntry seq).outbox = s.outbox := outbox_of_kept (State.dropEntry_kept _ (Kept.refl _ s) rfl)
      simp only [State.finishOne, he]
      split
      · rw [hdrop]
      · cases e.kind.counter <;> simp [apply_ite State.outbox, State.complete, hdrop]
  · rw [State.entry, State.finishOne_cmd]
    exact s.dropEntry_gone seq k (.inr hk)

theorem State.settleFlushes_ends (s : State) : Ends s s.settleFlushes := by
  unfold State.settleFlushes
  refine List.foldlRecOn (motive := fun t : State => Ends s t) _ _ (Ends.refl s) fun t ht p _ => ?_
  split
  · exact ht.trans (t.finishOne_ends _ _ _ _)
  · exact ht

/-- The end of a command that nothing discards is answered, the command leaves the table, and the zones are as before. -/
theorem State.finish_effect {s : State} {seq : Nat} {e : CmdEnt} (he : s.entry seq = some e) (hlive : e.discard = false) (hkind : e.kind ≠ .reseal)
    (st : Nat × Nat) (a b : Nat) : Answers s (s.finish seq st a b) e.io.ctrl e.io.cid st ∧ (s.finish seq st a b).entry seq = none ∧
      (s.finish seq st a b).cmd.zones = s.cmd.zones := by
  obtain ⟨hsent, hzones, hgone⟩ := (s.finishOne seq st a b).settleFlushes_ends
  refine ⟨?_, hgone seq ?_, ?_⟩
  · obtain ⟨l, hl⟩ := hsent
    rw [State.finishOne_outbox he hlive hkind] at hl
    unfold State.finish
    rw [Answers, ← hl]
    refine ⟨⟨_, (List.append_assoc _ _ _).symm⟩, ⟨.completion, [e.io.ctrl, e.io.cid, st.1, st.2, a, b]⟩, ?_, rfl, rfl⟩
    rw [List.append_assoc, List.drop_left]
    exact List.mem_append_left _ (List.mem_singleton_self _)
  · rw [State.entry, State.finishOne_cmd]
    exact s.dropEntry_gone seq seq (.inl rfl)
  · unfold State.finish
    rw [hzones, State.finishOne_cmd, State.dropEntry_zones]

/-! ### The commands -/

theorem Completes.windowCommitEnters {s : State} {io : Io} {offset length rkey : Nat} {q : Qp} {c : Ctrl} {n : Ns} (htaken : TakesIo s io c n)
    (hq : s.qp? io.qp = some q) (hstatus : s.commitStatus q io n offset length rkey = none) (htype : n.type = 0) (hlen : length ≤ maxTransfer)
    (hinside : n.outside io.slba io.nlb = false) :
    Completes (.windowCommit io false offset length rkey) s fun t => Enters s t (CmdEnt.fresh io .write (.window offset length rkey true) c.host s.now length) := by
  refine ⟨_, rfl, ?_⟩
  rw [State.ioCmd_taken htaken]
  unfold State.commitWindow
  dsimp only
  simp only [hq, Bool.false_and, Bool.false_eq_true, if_false, hstatus, htype, Bool.not_false, Bool.true_and, Nat.zero_ne_one, decide_false, Nat.not_lt.mpr hlen, hinside]
  obtain ⟨hentry, hquiet⟩ := s.ioEnter_enters (CmdEnt.fresh io .write (.window offset length rkey true) c.host s.now length)
  generalize State.ioEnter s _ = u at hentry hquiet
  exact ⟨hentry, hquiet⟩

theorem Completes.flushAlone {s : State} {io : Io} {c : Ctrl} {n : Ns} (htaken : TakesIo s io c n) (hone : io.nsid ≠ 0xFFFFFFFF) (hactive : s.cfg.state = .active)
    (hempty : s.cmd.entries = []) : Completes (.flush io) s fun t => Answers s t io.ctrl io.cid St.ok := by
  refine ⟨_, rfl, ?_⟩
  rw [State.ioArrive_taken htaken, if_neg hone, State.ioNs_taken htaken, State.enterFlush, hactive]
  generalize hf : ({ CmdEnt.fresh io .flush .other c.host s.now 0 with admitted := DevState.active == DevState.active } : CmdEnt) = f
  have hf' : f.kind = .flush ∧ f.admitted = true ∧ f.discard = false ∧ f.io = io := by
    rw [← hf]
    exact ⟨rfl, rfl, rfl, rfl⟩
  obtain ⟨hkind, hadmitted, hlive, hio⟩ := hf'
  obtain ⟨hentry, hquiet⟩ := s.ioEnter_enters f
  have htable : (s.ioEnter f).cmd.entries = [(s.nextSeq, f)] := by
    rw [State.ioEnter, cmd_of_kept (State.cmdStatus_kept (Kept.refl _ _) rfl)]
    dsimp only
    rw [hempty]
    rfl
  generalize s.ioEnter f = u at hentry hquiet htable
  have hready : (f.kind == .flush && !u.flushWaits s.nextSeq f) = true := by simp [State.flushWaits, hkind, hadmitted, htable]
  unfold State.settleFlushes
  rw [htable, List.foldl_cons, List.foldl_nil, if_pos hready, Answers, State.finishOne_outbox hentry hlive (by rw [hkind]; exact nofun), hquiet, hio]
  exact ⟨List.prefix_append _ _, _, by rw [List.drop_left]; exact List.mem_singleton_self _, rfl, rfl⟩

/-- A report is sent and its command answered. -/
theorem State.zoneReport_answers (s : State) (io : Io) (words : List Nat) :
    Answers s ((s.dataOut io.ctrl io.cid words).ioEnd io .zoneOpen St.ok 0) io.ctrl io.cid St.ok ∧
      Sends s ((s.dataOut io.ctrl io.cid words).ioEnd io .zoneOpen St.ok 0) ⟨.data, io.ctrl :: io.cid :: words⟩ := by
  have hout : ((s.dataOut io.ctrl io.cid words).ioEnd io .zoneOpen St.ok 0).outbox =
      s.outbox ++ [⟨.data, io.ctrl :: io.cid :: words⟩, ⟨.completion, [io.ctrl, io.cid, 0, 0, 0, 0]⟩] := by
    simp [State.ioEnd, CmdKind.counter, State.complete, State.dataOut]
  rw [Answers, Sends, hout, List.drop_left]
  exact ⟨⟨List.prefix_append _ _, _, List.mem_cons_of_mem _ (List.mem_singleton_self _), rfl, rfl⟩, List.prefix_append _ _, List.mem_cons_self⟩

/-- A Zone Management Send that is taken and whose zone is named by its first LBA enters the table. -/
theorem State.zoneSend_enters {s : State} {io : Io} {all : Bool} {c : Ctrl} {n : Ns} (htaken : TakesIo s io c n) (htype : n.type = 1)
    (hzone : all = true ∨ io.slba % zoneLbas = 0 ∧ io.slba < n.size) (i : Instr) (kind : CmdKind) :
    Enters s (s.up (s.zoneSend i io kind all)) { CmdEnt.fresh io kind .other c.host s.now 0 with selectAll := all } := by
  unfold State.zoneSend
  rw [State.ioCmd_taken htaken, if_neg (by simp [htype]), if_neg (by simp [htype]), if_neg (by rcases hzone with h | ⟨h, -⟩ <;> simp [h]),
    if_neg (by rcases hzone with h | ⟨-, h⟩ <;> simp [h])]
  exact s.ioEnter_enters _

/-! ### Admission -/

/-- With an empty map no extent is mapped. -/
theorem State.extent_unmapped {s : State} (hmap : s.lay.map = []) (nsid x : Nat) : s.extent nsid x = MapEnt.empty := by
  rw [State.extent, hmap]
  rfl

theorem Completes.emptyRead {s : State} {seq : Nat} {e : CmdEnt} {n : Ns} (hup : s.inReset = false) (he : s.entry seq = some e) (hkind : e.kind = .read)
    (hwaiting : e.admitted = false) (hlive : e.discard = false) (hactive : s.cfg.state = .active) (hfree : s.mustWait seq e = false)
    (hns : s.nsOf e.io.nsid = some n) (htype : n.type ≠ 2) (hmap : s.lay.map = []) :
    Completes (.commandAdmit seq) s fun t => Answers s t e.io.ctrl e.io.cid St.ok ∧ t.entry seq = none := by
  refine ⟨_, rfl, ?_⟩
  simp only [State.up, hup, Bool.false_eq_true, if_false, he, hwaiting, hactive, bne_self_eq_false, Bool.or_self, hkind, State.admitRead, hfree, hns, htype]
  have hunmapped : ∀ x, (s.extent e.io.nsid x).mapped = false := fun x => by rw [State.extent_unmapped hmap]; rfl
  have hlost : ∀ l : List Nat, (l.any fun _ => false) = false := fun l => List.any_eq_false.mpr fun _ _ => Bool.false_ne_true
  simp only [State.admitNativeRead, hunmapped, Bool.false_and, hlost, Bool.false_eq_true, if_false, List.filter_false, List.map_nil, List.filter_nil,
    List.any_nil, bne_self_eq_false, List.foldl_nil, List.sum_nil]
  generalize hf : ({ e with admitted := true, reading := [] } : CmdEnt) = f
  have hf' : f.kind = .read ∧ f.admitted = true ∧ f.discard = false ∧ f.io = e.io ∧ f.reading = [] := by
    rw [← hf]
    exact ⟨hkind, rfl, hlive, rfl, rfl⟩
  obtain ⟨fkind, fadmitted, flive, fio, freading⟩ := hf'
  generalize hu : State.chargeRestore _ 0 = u
  have hu' : u.entry seq = some f ∧ u.outbox = s.outbox := by
    rw [← hu, State.entry, cmd_of_kept (State.chargeRestore_kept _ (Kept.refl _ _) rfl), outbox_of_kept (State.chargeRestore_kept _ (Kept.refl _ _) rfl)]
    exact ⟨tget_tset_same _ _ _, rfl⟩
  obtain ⟨uentry, uquiet⟩ := hu'
  simp only [State.completeRead, uentry, fkind, fadmitted, freading, flive, beq_self_eq_true, List.isEmpty_nil, Bool.and_self, if_true, Bool.false_eq_true, if_false]
  generalize hv : State.count _ 103 _ _ = v
  have hv' : v.entry seq = some f ∧ s.outbox <+: v.outbox := by
    rw [← hv, State.entry, State.count_outbox, State.count_cmd]
    refine ⟨uentry, ?_⟩
    rw [State.dataOut, State.emit_outbox, uquiet]
    exact List.prefix_append _ _
  obtain ⟨ventry, vgrow⟩ := hv'
  obtain ⟨hanswer, hgone, -⟩ := State.finish_effect ventry flive (by rw [fkind]; exact nofun) St.ok 0 0
  rw [fio] at hanswer
  exact ⟨Answers.after hanswer vgrow, hgone⟩

theorem State.zone_setZone (s : State) (nsid z : Nat) {x : Zone} (hx : x.st ≠ .empty) : (s.setZone nsid z x).zone nsid z = x := by
  rw [State.zone, State.setZone, if_neg hx]
  exact tgetD_tset_same _ _ _ _

/-- An empty zone of a namespace with no other zone in use is opened. -/
theorem State.openZone_empty {s : State} {nsid z : Nat} (hempty : (s.zone nsid z).st = .empty) (hnone : s.zonesOf nsid = []) :
    s.openZone nsid z true = .ok (s.setZone nsid z { s.zone nsid z with st := .explicitOpen }) := by
  have hclosed : (s.zone nsid z).isOpen = false := by rw [Zone.isOpen, hempty]; rfl
  simp [State.openZone, hempty, hnone, hclosed]

theorem Completes.openEmptyZone {s : State} {seq : Nat} {e : CmdEnt} (hup : s.inReset = false) (he : s.entry seq = some e) (hkind : e.kind = .zoneOpen)
    (hwaiting : e.admitted = false) (hlive : e.discard = false) (hone : e.selectAll = false) (hactive : s.cfg.state = .active)
    (hempty : (s.zone e.io.nsid (e.io.slba / zoneLbas)).st = .empty) (hnone : s.zonesOf e.io.nsid = []) :
    Completes (.commandAdmit seq) s fun t => Answers s t e.io.ctrl e.io.cid St.ok ∧ (t.zone e.io.nsid (e.io.slba / zoneLbas)).st = .explicitOpen := by
  refine ⟨_, rfl, ?_⟩
  simp only [State.up, hup, Bool.false_eq_true, if_false, he, hwaiting, hactive, bne_self_eq_false, Bool.or_self, hkind, State.admitZone]
  rw [if_neg (by decide), State.zoneTargets, hone, if_neg Bool.false_ne_true, List.foldl_cons, List.foldl_nil]
  dsimp only
  rw [State.openZone_empty hempty hnone]
  dsimp only
  generalize hu : s.setZone e.io.nsid (e.io.slba / zoneLbas) _ = u
  have hu' : u.entry seq = some e ∧ u.outbox = s.outbox ∧ (u.zone e.io.nsid (e.io.slba / zoneLbas)).st = .explicitOpen := by
    rw [← hu, State.zone_setZone _ _ _ (by exact nofun)]
    exact ⟨he, rfl, rfl⟩
  obtain ⟨uentry, uquiet, uzone⟩ := hu'
  obtain ⟨hanswer, -, hzones⟩ := State.finish_effect uentry hlive (by rw [hkind]; exact nofun) St.ok 0 0
  exact ⟨Answers.after hanswer (by rw [uquiet]), by rw [State.zone, hzones]; exact uzone⟩

theorem State.appending_wr (s : State) (g : Nat) {f : Fld} {i j : Nat} (hf : Reg.LAY_CFG_RESERVE_PCT.key 0 0 ≠ f.key i j) (v : Nat) : (s.wr f i j v).appending g = s.appending g := by
  unfold State.appending
  rw [State.rd_wr_ne _ _ _ _ _ _ _ _ hf]
  rfl

/-- A native write needs no more than the append group that there is. -/
theorem State.needAppend_ready {s : State} (h : (List.range 8).any s.appending = true) : s.needAppend true = (true, s.wr Reg.LAY_STATUS_APPEND_HELD 0 0 0) := by
  rw [State.needAppend, if_pos (by simp [h])]

/-- A write of a native namespace that nothing holds back starts, with the holds reported. -/
theorem State.admitWrite_starts {s : State} {seq : Nat} {e : CmdEnt} {n : Ns} (he : s.entry seq = some e) (hlocked : e.locked = true)
    (hns : s.nsOf e.io.nsid = some n) (htype : n.type = 0) (hkey : s.writable e.io.nsid = true) (hfrozen : s.cfg.frozenNs.contains e.io.nsid = false)
    (hroom : (List.range 8).any s.roomIn = true) (hfree : s.mustWait seq e = false) (hblack : s.sch.inLevel ≠ 3) (hheld : s.writesHeld = false)
    (happend : (List.range 8).any s.appending = true) (hfirst : s.behind seq = false) (hcap : s.cmd.inflight + e.length ≤ inflightCap) :
    s.admitWrite seq e = ((s.wr Reg.LAY_STATUS_DELTA_HELD 0 0 (b2n s.deltaHeld)).wr Reg.LAY_STATUS_APPEND_HELD 0 0 0).startClass seq e := by
  have hnative : (n.type != 2) = true := by rw [htype]; rfl
  have htaken : s.takeLocks seq e = some s := by rw [State.takeLocks, if_pos hlocked]
  simp only [State.admitWrite, hns, hnative, htaken, he, Option.getD_some]
  generalize hu : s.wr Reg.LAY_STATUS_DELTA_HELD 0 0 (b2n s.deltaHeld) = u
  have huappend : (List.range 8).any u.appending = true := by
    rw [← hu, funext (fun g => s.appending_wr g (f := Reg.LAY_STATUS_DELTA_HELD) (i := 0) (j := 0) (by decide) (b2n s.deltaHeld))]
    exact happend
  have huheld : u.writesHeld = false := by rw [← hu]; exact hheld
  have hufirst : ∀ v : Nat, (u.wr Reg.LAY_STATUS_APPEND_HELD 0 0 v).behind seq = false := by
    intro v
    rw [← hu]
    exact hfirst
  have hucap : ∀ v, (u.wr Reg.LAY_STATUS_APPEND_HELD 0 0 v).cmd.inflight = s.cmd.inflight := by
    intro v
    rw [← hu]
    rfl
  rw [if_neg (by rw [hkey, hfrozen]; decide), if_neg (by simp [hroom]), if_neg (by simp [hfree]), if_neg hblack, if_neg (by simp [huheld]),
    State.needAppend_ready huappend]
  dsimp only
  rw [if_neg (by decide), if_neg (by rw [hufirst, hucap, decide_eq_false (Nat.not_lt.mpr hcap)]; decide), State.zoneStep, if_neg (by simp [htype])]

/-- A version that is begun over unmapped blocks only joins those that gather. -/
theorem State.gather_unmapped {s : State} (hmap : s.lay.map = []) (seq : Nat) (e : CmdEnt) (x : Nat) (parts : List (Nat × Nat × Nat × Nat)) :
    (s.gather seq e x parts).cmd = s.cmd ∧ (s.gather seq e x parts).outbox = s.outbox ∧ (s.gather seq e x parts).lay.map = [] := by
  unfold State.gather
  simp only [State.extent_unmapped hmap]
  rw [if_neg (by simp [MapEnt.empty])]
  exact ⟨rfl, rfl, hmap⟩

theorem State.gatherAll_unmapped {s : State} (hmap : s.lay.map = []) (seq : Nat) (e : CmdEnt) (parts : List (Nat × Nat × Nat × Nat)) (xs : List Nat) :
    (xs.foldl (fun s x => s.gather seq e x parts) s).cmd = s.cmd ∧ (xs.foldl (fun s x => s.gather seq e x parts) s).outbox = s.outbox := by
  induction xs generalizing s with
  | nil => exact ⟨rfl, rfl⟩
  | cons x xs ih =>
    obtain ⟨hcmd, hout, hmap'⟩ := State.gather_unmapped hmap seq e x parts
    obtain ⟨hcmd', hout'⟩ := ih hmap'
    exact ⟨hcmd'.trans hcmd, hout'.trans hout⟩

/-- A write that is marked admitted counts under the cap. -/
theorem State.markAdmitted_effect {s : State} {seq : Nat} {e : CmdEnt} (he : s.entry seq = some e) (hreplica : s.replicaQp e.io.nsid = none) (pending : List Nat) :
    (s.markAdmitted seq pending).entry seq = some { e with admitted := true, pending := pending } ∧
      (s.markAdmitted seq pending).cmd.inflight = s.cmd.inflight + e.length ∧ (s.markAdmitted seq pending).outbox = s.outbox ∧
      (s.markAdmitted seq pending).lay = s.lay := by
  simp only [State.markAdmitted, he]
  have hlocal : ∀ u : State, u.replicaQp e.io.nsid = none → u.forwardReplica seq e = u := fun u hu => by simp only [State.forwardReplica, hu]
  rw [hlocal, State.entry, cmd_of_kept (State.cmdStatus_kept (Kept.refl _ _) rfl), outbox_of_kept (State.cmdStatus_kept (Kept.refl _ _) rfl),
    lay_of_kept (State.cmdStatus_kept (Kept.refl _ _) rfl)]
  · exact ⟨tget_tset_same _ _ _, rfl, rfl, rfl⟩
  · exact hreplica

theorem Completes.writeAdmitted {s : State} {seq va rkey len : Nat} {e : CmdEnt} {n : Ns} (hup : s.inReset = false) (he : s.entry seq = some e)
    (hkind : e.kind = .write) (hdata : e.data = .keyed va rkey len) (hwaiting : e.admitted = false) (hlocked : e.locked = true) (hactive : s.cfg.state = .active)
    (hns : s.nsOf e.io.nsid = some n) (htype : n.type = 0) (hkey : s.writable e.io.nsid = true) (hfrozen : s.cfg.frozenNs.contains e.io.nsid = false)
    (hroom : (List.range 8).any s.roomIn = true) (hfree : s.mustWait seq e = false) (hblack : s.sch.inLevel ≠ 3) (hheld : s.writesHeld = false)
    (happend : (List.range 8).any s.appending = true) (hfirst : s.behind seq = false) (hcap : s.cmd.inflight + e.length ≤ inflightCap) (hmap : s.lay.map = [])
    (hreplica : s.replicaQp e.io.nsid = none) :
    Completes (.commandAdmit seq) s fun t => ((t.entry seq).map fun x => x.admitted) = some true ∧ t.cmd.inflight = s.cmd.inflight + e.length ∧ t.outbox = s.outbox := by
  refine ⟨_, rfl, ?_⟩
  simp only [State.up, hup, Bool.false_eq_true, if_false, he, hwaiting, hactive, bne_self_eq_false, Bool.or_self, hkind]
  rw [State.admitWrite_starts he hlocked hns htype hkey hfrozen hroom hfree hblack hheld happend hfirst hcap]
  generalize hu : State.wr _ Reg.LAY_STATUS_APPEND_HELD 0 0 0 = u
  have hu' : u.entry seq = some e ∧ u.replicaQp e.io.nsid = none ∧ u.lay.map = [] ∧ u.cmd = s.cmd ∧ u.outbox = s.outbox := by
    rw [← hu]
    exact ⟨he, hreplica, hmap, rfl, rfl⟩
  obtain ⟨uentry, ureplica, umap, ucmd, uquiet⟩ := hu'
  have hwhole : ∀ parts, u.partlyLost e.io.nsid parts = false := by
    intro parts
    simp [State.partlyLost, State.extent_unmapped umap, MapEnt.empty]
  simp only [State.startClass, hkind, State.startWrite, hwhole, Bool.false_eq_true, if_false, hdata]
  generalize List.eraseDups (α := Nat) _ = xs
  obtain ⟨hentry, hinflight, hquiet, hlay⟩ := State.markAdmitted_effect uentry ureplica xs
  obtain ⟨hcmd, hout⟩ := State.gatherAll_unmapped (s := u.markAdmitted seq xs) (by rw [hlay]; exact umap) seq e (blockParts (e.firstLba * 4096)
    (e.firstLba * 4096 + e.length) (e.firstLba * 4096) (e.firstLba * 4096 + e.length)) xs
  rw [State.entry, hcmd, hout, hinflight, hquiet, ucmd, uquiet]
  rw [State.entry] at hentry
  rw [hentry]
  exact ⟨rfl, rfl, rfl⟩

/-- Settles O22, command by command. -/
theorem ioCommands : Obligations.IoCommands := by
  unfold Obligations.IoCommands
  refine ⟨?_, ?_, ?_, ?_, ?_, ?_, ?_, ?_, ?_, ?_, ?_, ?_, ?_⟩
  · intro s io data c n htaken hfault
    refine ⟨_, rfl, ?_⟩
    rw [State.ioCmd_taken htaken, hfault]
    exact s.ioEnter_enters _
  · intro s io va rkey len c n htaken hfault htype hcross
    refine ⟨_, rfl, ?_⟩
    rw [State.ioCmd_taken htaken, hfault]
    dsimp only
    rw [if_neg (by simp [hcross]), if_neg (by simp [htype])]
    exact s.ioEnter_enters _
  · intro s io va rkey len c n htaken hfault htype
    refine ⟨_, rfl, ?_⟩
    rw [State.ioCmd_taken htaken, hfault]
    dsimp only
    rw [if_neg (c := (decide (n.type = 1) && crossesZone io.slba io.nlb) = true) (by simp [htype])]
    exact s.ioEnter_enters _
  · intro s io va rkey len c n htaken hfault htype hzone
    refine ⟨_, rfl, ?_⟩
    rw [State.ioCmd_taken htaken, hfault, if_neg (by simp [htype]), if_neg (by simp [htype])]
    dsimp only
    rw [if_neg (by simp [hzone])]
    exact s.ioEnter_enters _
  · exact fun s io offset length rkey q c n htaken hq hstatus htype hlen hinside => Completes.windowCommitEnters htaken hq hstatus htype hlen hinside
  · exact fun s io c n htaken hone hactive hempty => Completes.flushAlone htaken hone hactive hempty
  · intro s io c n htaken htype hinside hcross
    refine ⟨_, rfl, ?_⟩
    rw [State.ioCmd_taken htaken, if_neg htype, if_neg (by simp [hinside]), if_neg (by simpa using hcross)]
    exact s.ioEnter_enters _
  · intro s io l c n htaken htype hlen hinside
    refine ⟨_, rfl, ?_⟩
    rw [State.ioCmd_taken htaken, if_neg (by simp [htype, hlen]), hinside, if_neg Bool.false_ne_true]
    exact s.ioEnter_enters _
  · intro s io all c n htaken htype hzone
    exact ⟨⟨_, rfl, State.zoneSend_enters htaken htype hzone _ _⟩, ⟨_, rfl, State.zoneSend_enters htaken htype hzone _ _⟩,
      ⟨_, rfl, State.zoneSend_enters htaken htype hzone _ _⟩, ⟨_, rfl, State.zoneSend_enters htaken htype hzone _ _⟩⟩
  · intro s io option part c n htaken htype hoption hinside
    refine ⟨_, rfl, ?_⟩
    rw [State.ioCmd_taken htaken, if_neg (by simp [htype]), if_neg (by simp [htype]), if_neg (Nat.not_lt.mpr hoption), if_neg (Nat.not_le.mpr hinside)]
    exact s.zoneReport_answers io _
  · exact fun s seq e n hup he hkind hwaiting hlive hactive hfree hns htype hmap =>
      Completes.emptyRead hup he hkind hwaiting hlive hactive hfree hns htype hmap
  · exact fun s seq va rkey len e n hup he hkind hdata hwaiting hlocked hactive hns htype hkey hfrozen hroom hfree hblack hheld happend hfirst hcap hmap hreplica =>
      Completes.writeAdmitted hup he hkind hdata hwaiting hlocked hactive hns htype hkey hfrozen hroom hfree hblack hheld happend hfirst hcap hmap hreplica
  · exact fun s seq e hup he hkind hwaiting hlive hone hactive hempty hnone => Completes.openEmptyZone hup he hkind hwaiting hlive hone hactive hempty hnone

end Sys2Proof.Machine


/-!
Compression and decompression (R363 to R369, R372, R377, R381): what sealing, a failed check and a decoded block leave, and with them what each
command does. The lane is that of the block's staging slot (notes/assumptions/65.md).
-/

namespace Sys2Proof.Machine

-- The check compiles the text as one file: elaborating these proofs one after another bounds its memory.
set_option Elab.async false

theorem bitOf_eq_testBit (v i : Nat) : bitOf v i = v.testBit i := by rw [Nat.testBit_eq_decide_div_mod_eq]; rfl

/-- A bit that is set stays set in a register that has it. -/
theorem bitOf_setBitOf_true (v : Nat) {i w : Nat} (h : i < w) : bitOf (setBitOf v i true % 2 ^ w) i = true := by
  rw [bitOf_eq_testBit, Nat.testBit_mod_two_pow, decide_eq_true h, Bool.true_and, setBitOf]
  split
  · next hset => rwa [← bitOf_eq_testBit]
  · next hclear =>
    rw [if_pos rfl, Nat.add_comm, Nat.testBit_two_pow_add_eq, ← bitOf_eq_testBit]
    simpa using hclear

/-! ### Taking and sealing a block -/

theorem State.keyRef_invoc (s : State) (id : Nat) (up : Bool) : (s.keyRef id up).cph.invoc = s.cph.invoc := by
  unfold State.keyRef State.modKey
  split <;> rfl

/-- A lane that takes a block fixes its key and its first buffer, and uses one invocation, or two where a pipeline's parity fails. -/
theorem State.takeBlock_effect {s : State} {k : Nat} {b : Blk} {n lane keyId : Nat} (halloc : (s.alloc 0 s.chainClass 1).isSome = true) (parityOk : Bool) :
    ((tget (s.takeBlock k b n lane keyId parityOk).win.blocks k).map fun x => (x.place, x.keyId, x.chain.isSome)) = some (.lane n lane, keyId, true) ∧
      (s.takeBlock k b n lane keyId parityOk).cph.invoc = s.cph.invoc + if parityOk then 1 else 2 := by
  obtain ⟨⟨pool, head, u⟩, hu⟩ := Option.isSome_iff_exists.mp halloc
  have hinvoc : (u.keyRef keyId true).cph.invoc = s.cph.invoc := by
    rw [State.keyRef_invoc, cph_of_kept (State.alloc_kept_eq hu (Kept.refl _ s) rfl)]
  simp only [State.takeBlock, hu]
  refine ⟨by rw [tget_tset_same]; rfl, ?_⟩
  cases parityOk with
  | true => exact congrArg (· + 1) hinvoc
  | false =>
    rw [if_neg Bool.false_ne_true, if_neg Bool.false_ne_true]
    simp only [State.nextIv]
    rw [State.wr_cph]
    dsimp only
    rw [cph_of_kept (State.pipelineFault_kept (Kept.refl _ _) rfl), State.wr_cph]
    dsimp only
    rw [hinvoc]

theorem Completes.sealsBlock {s : State} {block n lane head : Nat} {b : Blk} {o : BlkOwner} {key : KeySlot} (hb : tget s.win.blocks block = some b)
    (hplace : b.place = .lane n lane) (howner : b.owner = some o) (hchain : b.chain = some head) (hkey : s.keyLoaded b.keyId = some key)
    (halloc : (s.allocMany 0 s.chainClass 1 (ceilDiv (compressBlock (s.dynamicFor o.nsid) (s.rd Reg.CMP_CFG_NO_GAIN) o.sectors
      (memReadList b.data 0 (o.sectors * 4096))).bytes.length (bufBytes s.chainClass) - 1)).isSome = true) :
    Completes (.compressBlockDone block (crc32c (memReadList b.data 0 (o.sectors * 4096)))) s fun t =>
      ((tget t.win.blocks block).map fun x => (x.place, x.window, x.crc)) = some (.sealed, none, crc32c (memReadList b.data 0 (o.sectors * 4096))) := by
  obtain ⟨⟨rest, u⟩, hu⟩ := Option.isSome_iff_exists.mp halloc
  refine ⟨_, rfl, ?_⟩
  simp only [hb, hplace, howner, hchain, hkey, if_true, State.sealBlock, hu]
  rw [win_of_kept (State.count_kept _ _ _ (State.countCompressed_kept _ _ _ (Kept.refl _ _) rfl) rfl)]
  dsimp only
  rw [tget_tset_same]
  rfl

theorem Completes.checkerDisagrees {s : State} {block n lane crc head : Nat} {b : Blk} {o : BlkOwner} {key : KeySlot} (hb : tget s.win.blocks block = some b)
    (hplace : b.place = .lane n lane) (howner : b.owner = some o) (hchain : b.chain = some head) (hkey : s.keyLoaded b.keyId = some key)
    (hcrc : crc ≠ crc32c (memReadList b.data 0 (o.sectors * 4096))) (hlane : lane < 48) :
    Completes (.compressBlockDone block crc) s fun t =>
      ((tget t.win.blocks block).map fun x => (x.place, x.chain)) = some (.staged n, none) ∧ bitOf (t.rd Reg.CMP_CLANE_FAULT) lane = true ∧
        Raises s t Ev.compressionLaneFault lane 0 := by
  refine ⟨_, rfl, ?_⟩
  simp only [hb, hplace, howner, hchain, hkey, hcrc, if_false, State.checkerFails]
  generalize hu : (s.decref head).keyRef b.keyId false = u
  have hu' : u.win = s.win ∧ u.evt = s.evt := by
    rw [← hu]
    exact ⟨win_of_kept (State.keyRef_kept _ _ (State.decref_kept _ (Kept.refl _ s) rfl) rfl), evt_of_kept (State.keyRef_kept _ _ (State.decref_kept _ (Kept.refl _ s) rfl) rfl)⟩
  obtain ⟨uwin, uevt⟩ := hu'
  refine ⟨?_, ?_, ?_⟩
  · have hblock : tget (u.compLaneOut lane).win.blocks block = some b := by
      rw [win_of_kept (State.compLaneOut_kept _ (Kept.refl _ u) rfl), uwin]
      exact hb
    rw [State.modBlk]
    dsimp only
    rw [tget_tmod_same _ hblock]
    rfl
  · rw [State.modBlk, State.rd_mk, State.compLaneOut, State.rd_raise _ _ _ _ _ _ _ (by decide) (by decide) (by decide), State.rd_wr_ne _ _ _ _ _ _ _ _ (by decide),
      State.rd_wr_same _ _ _ _ _ (by decide) (by decide)]
    exact bitOf_setBitOf_true _ (by change lane < 64; omega)
  · exact Raises.after (State.raise_raises _ _ _ _ _ _ _) (by rw [State.wr_evt, State.wr_evt, uevt])

/-! ### Decoding a block -/

/-- A block of a host read that passes joins what the read has, while others are still decoded. -/
theorem State.blockPasses_host {s : State} {j job : Nat} {r : ReadJob} {d : DecJob} {e : CmdEnt} (huse : r.use = .host) (he : s.entry r.seq = some e)
    (hmore : (r.decoding.filter (· != job)).isEmpty = false) (plain : List Byte) :
    (s.blockPasses j r job d plain).entry r.seq = some (e.takeBlock r.extent d plain) ∧ tget (s.blockPasses j r job d plain).cmp.jobs job = none := by
  simp only [State.blockPasses, huse, hmore, Bool.false_eq_true, if_false]
  exact ⟨tget_tmod_same _ he, tget_tdel_same _ _⟩

theorem Completes.hostDecode {s : State} {job lane j : Nat} {d : DecJob} {r : ReadJob} {e : CmdEnt} {key : KeySlot} (hd : tget s.cmp.jobs job = some d)
    (hlane : d.lane = some lane) (hfirst : d.firstLane = none) (hkey : s.keyLoaded d.keyId = some key) (hread : s.readOfDecode job = some (j, r))
    (huse : r.use = .host) (he : s.entry r.seq = some e) (hmore : (r.decoding.filter (· != job)).isEmpty = false) :
    Completes (.decompressBlockDone job none) s fun t => match d.decode key.key none with
      | .ok plain => t.entry r.seq = some (e.takeBlock r.extent d plain) ∧ tget t.cmp.jobs job = none
      | .error x => x ≠ 1 → tget t.cmp.jobs job = some { d with lane := none, firstLane := some lane } ∧ t.entry r.seq = some e := by
  refine ⟨_, rfl, ?_⟩
  simp only [hd, hlane, hkey]
  generalize hu : s.count 201 1 d.nsid = u
  have hu' : u.readOfDecode job = some (j, r) ∧ u.entry r.seq = some e := by
    rw [← hu, State.readOfDecode, State.count_lay, State.entry, State.count_cmd]
    exact ⟨hread, he⟩
  obtain ⟨uread, uentry⟩ := hu'
  cases hdecode : d.decode key.key none with
  | ok plain =>
    simp only [State.retryPassed, hfirst, uread]
    exact State.blockPasses_host huse uentry hmore plain
  | error x =>
    intro hx
    simp only [hfirst, Option.isNone_none, Bool.and_true, bne_iff_ne, ne_eq, hx, not_false_eq_true, if_true]
    refine ⟨tget_tset_same _ _ _, ?_⟩
    rw [State.entry]
    dsimp only
    rw [cmd_of_kept (State.verifyFailed_kept _ _ _ (Kept.refl _ u) rfl)]
    exact uentry

/-- Settles O23, command by command. -/
theorem compressionCommands : Obligations.CompressionCommands := by
  unfold Obligations.CompressionCommands
  refine ⟨?_, ?_, ?_, ?_, ?_, ?_, ?_, ?_⟩
  · intro s block n lane parityOk b o key hb htake hlane hkey hup halloc hsealing
    refine ⟨_, rfl, ?_⟩
    simp only [hb, htake, hlane, hkey, hsealing, hup]
    exact State.takeBlock_effect halloc parityOk
  · intro s block n b o parityOk hb htake hsealing
    refine ⟨_, rfl, ?_⟩
    simp only [hb, htake, hsealing]
    rw [if_neg (by decide)]
    split
    · rfl
    · rfl
  · exact fun s block n lane head b o key hb hplace howner hchain hkey halloc => Completes.sealsBlock hb hplace howner hchain hkey halloc
  · exact fun s block n lane crc b o head key hb hplace howner hchain hkey hcrc hlane => Completes.checkerDisagrees hb hplace howner hchain hkey hcrc hlane
  · intro s block n b hb haway hwindow hready hfree
    refine ⟨_, rfl, ?_⟩
    simp only [hb, hwindow, hfree]
    rw [if_pos (by rcases haway with h | h <;> rcases hready with k | k <;> simp [h, k])]
    exact (tget_tmod_same _ hb).trans (by rw [hwindow])
  · intro s job lane parityOk d key hd hidle hkey hlane hup
    refine ⟨_, rfl, ?_⟩
    simp only [hd, hidle, hkey, hlane, hup, Option.isSome_none, Option.isNone_some, Bool.not_true, Bool.false_eq_true, if_false]
    exact tget_tset_same _ _ _
  · exact fun s job lane j d r e key hd hlane hfirst hkey hread huse he hmore => Completes.hostDecode hd hlane hfirst hkey hread huse he hmore
  · intro s hup
    refine ⟨_, rfl, ?_⟩
    simp [State.up, hup]

end Sys2Proof.Machine


/-!
Keys (R381, R384, R389, R390, R394, R395, R397, R398): what a refused load leaves, how a fall-back load takes its key out of the registers, and with
them what each command does. The event's CODE and the order of the causes are the model's choice (notes/assumptions/70.md), and so are the
percentage of a re-seal that has ended (notes/assumptions/71.md) and a cipher job done in one step (notes/assumptions/72.md).
-/

namespace Sys2Proof.Machine

-- The check compiles the text as one file: elaborating these proofs one after another bounds its memory.
set_option Elab.async false

/-! ### Loads -/

theorem State.ifActive_active {s : State} (h : s.cfg.state = .active) (ctrl cid : Nat) (t : State) : s.ifActive ctrl cid t = t := by
  rw [State.ifActive, if_pos (by simp [h])]

/-- A refused load raises its event and touches no key and no layout. -/
theorem State.keyRefused_effect (s : State) (inst cause keyId : Nat) (bound : Bool) : Raises s (s.keyRefused inst cause keyId bound) Ev.keyLoadFailed inst cause ∧
    (s.keyRefused inst cause keyId bound).cph = s.cph ∧ (s.keyRefused inst cause keyId bound).outbox = s.outbox := by
  refine ⟨?_, cph_of_kept (State.keyRefused_kept _ _ _ _ (Kept.refl _ s) rfl), outbox_of_kept (State.keyRefused_kept _ _ _ _ (Kept.refl _ s) rfl)⟩
  unfold State.keyRefused
  dsimp only
  have hraised : Raises s ((s.raise Ev.keyLoadFailed Sev.warning inst cause keyId 0).count 206 1 inst) Ev.keyLoadFailed inst cause :=
    Raises.mono (s.raise_raises _ _ _ _ _ _) (by rw [State.count_evt])
  split
  · exact Raises.mono hraised (List.prefix_append _ _)
  · exact hraised

theorem State.keyRefused_answers (s : State) (ctrl cid inst cause keyId : Nat) (bound : Bool) :
    Answers s ((s.keyRefused inst cause keyId bound).replyErr ctrl cid St.invalidField) ctrl cid St.invalidField ∧
      Raises s ((s.keyRefused inst cause keyId bound).replyErr ctrl cid St.invalidField) Ev.keyLoadFailed inst cause ∧
      ((s.keyRefused inst cause keyId bound).replyErr ctrl cid St.invalidField).cph = s.cph := by
  obtain ⟨hraises, hcph, hquiet⟩ := s.keyRefused_effect inst cause keyId bound
  obtain ⟨-, -, -, -, -, -, -, -, -, -, -, -, -, -, -, kcph, -, -, -, -, -, -⟩ := (s.keyRefused inst cause keyId bound).replyErr_blocks ctrl cid St.invalidField
  refine ⟨State.reply_answers (by rw [hquiet]) _ _ _ _ _, ?_, kcph.trans hcph⟩
  exact Raises.mono hraises (by rw [State.replyErr_raised])

/-- The causes for which a load is refused are those of the state's keys and image, whatever the registers and the value hold. -/
theorem State.keyCause_congr {s t : State} (hcph : t.cph = s.cph) (hcfg : t.cfg = s.cfg) {r q : KeyRecord} (hid : q.keyId = r.keyId) (hns : q.nsid = r.nsid) :
    t.keyCause q true = s.keyCause r true := by
  simp only [State.keyCause, keyFormBad, State.refillable, State.keySlot, State.tenantOf, State.keysHeld, State.keyFits, State.nsSlotOf, hcph, hcfg, hid, hns,
    Bool.not_true, Bool.false_and, Bool.or_false]
  rfl

/-! ### The fall-back registers -/

/-- The registers of a fall-back key are cleared once its key is taken. -/
def State.forgetFallback (s : State) (reg : Nat) : State := foldIdx 8 (fun w s => s.wr Reg.CPH_FBK_KEY reg w 0) s

theorem State.forgetFallback_kept (s : State) (reg : Nat) : Kept [.reg 12] s (s.forgetFallback reg) :=
  Kept.foldIdx (Kept.refl _ s) fun _ _ h => State.wr_kept _ _ _ _ h rfl rfl

theorem State.rd_foldIdx_wr_ne {f g : Fld} {r i j : Nat} (n : Nat) (s : State) (h : ∀ w < n, g.key i j ≠ f.key r w) :
    (foldIdx n (fun w s => s.wr f r w 0) s).rd g i j = s.rd g i j := by
  induction n with
  | zero => rfl
  | succ n ih => rw [foldIdx_succ, State.rd_wr_ne _ _ _ _ _ _ _ _ (h n (Nat.lt_succ_self n)), ih fun w hw => h w (Nat.lt_succ_of_lt hw)]

theorem State.rd_foldIdx_wr_same {f : Fld} (hstride : f.stride2 ≠ 0) {r k : Nat} (hr : r < f.count1) (n : Nat) (s : State) (hk : k < n) (hn : n ≤ f.count2) :
    (foldIdx n (fun w s => s.wr f r w 0) s).rd f r k = 0 := by
  induction n with
  | zero => exact absurd hk (Nat.not_lt_zero k)
  | succ n ih =>
    rw [foldIdx_succ]
    by_cases hlast : k = n
    · rw [hlast, State.rd_wr_same _ _ _ _ _ hr (by omega), Nat.zero_mod]
    · rw [State.rd_wr_ne _ _ _ _ _ _ _ _ (Fld.key_injective hstride hlast), ih (by omega) (by omega)]

/-- The registers of a set but its key are kept, and the key reads as 0. -/
theorem State.rd_forgetFallback {s : State} {reg : Nat} (hreg : reg < 16) :
    (s.forgetFallback reg).rd Reg.CPH_FBK_ID reg = s.rd Reg.CPH_FBK_ID reg ∧ (s.forgetFallback reg).rd Reg.CPH_FBK_NS reg = s.rd Reg.CPH_FBK_NS reg ∧
      ∀ k < 8, (s.forgetFallback reg).rd Reg.CPH_FBK_KEY reg k = 0 := by
  refine ⟨State.rd_foldIdx_wr_ne 8 s fun w hw => ?_, State.rd_foldIdx_wr_ne 8 s fun w hw => ?_, fun k hk => State.rd_foldIdx_wr_same (by decide) hreg 8 s hk (by decide)⟩
  · simp only [Fld.key, Reg.CPH_FBK_ID, Reg.CPH_FBK_KEY]
    omega
  · simp only [Fld.key, Reg.CPH_FBK_NS, Reg.CPH_FBK_KEY]
    omega

theorem Completes.fallbackTaken {s : State} {reg : Nat} (hreg : reg < 16) (hup : s.inReset = false) (hactive : s.cfg.state = .active)
    (hgo : s.rd Reg.CPH_FBK_CTL_GO reg = 0) (hnew : s.refillable (s.rd Reg.CPH_FBK_ID reg) = none)
    (hcause : s.keyCause ⟨leNat (ascii "LXKB"), 1, 2, 0, 0, s.rd Reg.CPH_FBK_ID reg, s.rd Reg.CPH_FBK_NS reg, 0⟩ true = none) :
    Completes (.fallbackKeyLoad .endpoint reg) s fun t => t.rd Reg.CPH_FBK_CTL_GO reg = 1 ∧ t.rd Reg.CPH_FBK_KEY reg 0 = 0 ∧ t.rd Reg.CPH_FBK_KEY reg 7 = 0 ∧
      (t.cph.loads.map fun l => (l.record.keyId, l.fbk)) = (s.cph.loads.map fun l => (l.record.keyId, l.fbk)) ++ [(s.rd Reg.CPH_FBK_ID reg, some reg)] ∧
      t.lay.writes = s.lay.writes ++ [.keyRecord (s.rd Reg.CPH_FBK_ID reg)] := by
  have hexec : exec (.fallbackKeyLoad .endpoint reg) s = .next (s.fbkLoad reg) := by
    change execFallbackKeyLoad .endpoint reg s = _
    rw [execFallbackKeyLoad, if_neg (Nat.not_le.mpr hreg), State.up, hup, if_neg Bool.false_ne_true]
    dsimp only
    rw [if_neg (by simp [hactive]), if_neg (by rw [hgo]; decide)]
  refine ⟨_, hexec, ?_⟩
  obtain ⟨hid, hns, hkey⟩ := State.rd_forgetFallback (s := s) hreg
  have hkept := s.forgetFallback_kept reg
  unfold State.fbkLoad
  dsimp only
  generalize hu : foldIdx 8 _ s = u
  change s.forgetFallback reg = u at hu
  rw [hu] at hid hns hkey hkept
  have hcauses : ∀ v : Nat, u.keyCause ⟨leNat (ascii "LXKB"), 1, 2, 0, 0, s.rd Reg.CPH_FBK_ID reg, s.rd Reg.CPH_FBK_NS reg, v⟩ true = none := fun v =>
    (State.keyCause_congr hkept.cph hkept.cfg rfl rfl).trans hcause
  have hfresh : u.refillable (s.rd Reg.CPH_FBK_ID reg) = none := by rwa [State.refillable, State.keySlot, hkept.cph]
  simp only [hid, hns, hcauses, hfresh]
  rw [if_neg (by simp [hkept.cfg, hactive])]
  generalize leNat _ = key
  have hkeep : ∀ k < 8, (u.wr Reg.CPH_FBK_CTL_GO reg 0 1).rd Reg.CPH_FBK_KEY reg k = 0 := by
    intro k hk
    rw [State.rd_wr_ne, hkey k hk]
    simp only [Fld.key, Reg.CPH_FBK_CTL_GO, Reg.CPH_FBK_KEY]
    omega
  refine ⟨State.rd_wr_same u Reg.CPH_FBK_CTL_GO reg 0 1 hreg (by decide), hkeep 0 (by decide), hkeep 7 (by decide), ?_, ?_⟩
  · rw [State.startLoad, State.mdWrite]
    dsimp only
    rw [State.wr_cph, hkept.cph, List.map_append]
    rfl
  · rw [State.startLoad, State.mdWrite]
    dsimp only
    rw [State.wr_lay, hkept.lay]

/-- Any other writer than the endpoint is refused. -/
theorem Completes.fallbackRefused {s : State} {w : Writer} {reg : Nat} (hreg : reg < 16) (hup : s.inReset = false) (hw : w ≠ .endpoint) :
    Completes (.fallbackKeyLoad w reg) s fun t => t.rd Reg.CPH_FBK_CTL_RESULT reg = 7 ∧ t.cph = s.cph ∧ t.lay = s.lay := by
  have hexec : exec (.fallbackKeyLoad w reg) s =
      .next ((s.wr Reg.CPH_FBK_CTL_RESULT reg 0 7).violation (Reg.CPH_FBK_CTL_GO.off + 64 * reg) (writerCode w)) := by
    change execFallbackKeyLoad w reg s = _
    rw [execFallbackKeyLoad, if_neg (Nat.not_le.mpr hreg), State.up, hup, if_neg Bool.false_ne_true]
    dsimp only
    rw [if_pos (by simp [hw])]
  refine ⟨_, hexec, ?_, ?_, ?_⟩
  · rw [State.violation, State.rd_raise _ _ _ _ _ _ _ (by decide) hreg (by decide), State.rd_wr_same _ _ _ _ _ hreg (by decide)]
    rfl
  · exact cph_of_kept (State.violation_kept _ _ (State.wr_kept _ _ _ _ (Kept.refl _ s) rfl rfl) rfl)
  · exact lay_of_kept (State.violation_kept _ _ (State.wr_kept _ _ _ _ (Kept.refl _ s) rfl rfl) rfl)

/-! ### The slot readout -/

theorem State.slotWords_length (s : State) (i : Nat) : (s.slotWords i).length = 8 := by
  unfold State.slotWords
  split
  · rfl
  · rfl

/-- The last word of a slot's metadata is 0: it gives no key. -/
theorem State.slotWords_last (s : State) (i : Nat) : (s.slotWords i)[7]? = some 0 := by
  unfold State.slotWords
  split
  · rfl
  · rfl

theorem State.wrArray_cph (s : State) (f : Fld) (n : Nat) (l : List Nat) : (s.wrArray f n l).cph = s.cph := by
  induction l generalizing s n with
  | nil => rfl
  | cons v l ih =>
    rw [State.wrArray, List.zipIdx_cons, List.foldl_cons]
    exact ih _ _

theorem exec_keySlotRead {s : State} {w : Writer} (hup : s.inReset = false) (hw : w ≠ .endpoint) : exec (.keySlotRead w) s =
    .next ((s.wrArray (Reg.CPH_SLOT_DATA.forWriter w) 0 (s.slotWords (s.rd (Reg.CPH_SLOT_SEL.forWriter w)))).wr (Reg.CPH_SLOT_CTL_VALID.forWriter w) 0 0 1) := by
  change execKeySlotRead w s = _
  have hw' : (w == .endpoint) = false := by simpa using hw
  rw [execKeySlotRead, State.acts, State.up, hup, if_neg Bool.false_ne_true, hw', Bool.false_and, if_neg Bool.false_ne_true]
  rfl

theorem Completes.slotRead {s : State} {w : Writer} (hup : s.inReset = false) (hw : w ≠ .endpoint) :
    Completes (.keySlotRead w) s fun t => t.rd (Reg.CPH_SLOT_CTL_VALID.forWriter w) = 1 ∧ t.cph = s.cph ∧
      t.rd (Reg.CPH_SLOT_DATA.forWriter w) 0 0 = (s.slotWords (s.rd (Reg.CPH_SLOT_SEL.forWriter w))).getD 0 0 % 2 ^ 32 ∧
      t.rd (Reg.CPH_SLOT_DATA.forWriter w) 0 7 = 0 := by
  refine ⟨_, exec_keySlotRead hup hw, ?_⟩
  obtain ⟨hstride, hcount1, hcount2, hwidth⟩ := Reg.CPH_SLOT_DATA.forWriter_dims w
  obtain ⟨-, hone, hone', hbit⟩ := Reg.CPH_SLOT_CTL_VALID.forWriter_dims w
  have hlength := s.slotWords_length (s.rd (Reg.CPH_SLOT_SEL.forWriter w))
  have hlast := s.slotWords_last (s.rd (Reg.CPH_SLOT_SEL.forWriter w))
  generalize s.slotWords (s.rd (Reg.CPH_SLOT_SEL.forWriter w)) = l at hlength hlast
  have hread : ∀ k v, l[k]? = some v →
      ((s.wrArray (Reg.CPH_SLOT_DATA.forWriter w) 0 l).wr (Reg.CPH_SLOT_CTL_VALID.forWriter w) 0 0 1).rd (Reg.CPH_SLOT_DATA.forWriter w) 0 k = v % 2 ^ 32 := by
    intro k v hv
    obtain ⟨hk, rfl⟩ := List.getElem?_eq_some_iff.mp hv
    rw [State.rd_wr_ne _ _ _ _ _ _ _ _ (Fld.key_flag_ne _ rfl rfl (by decide) rfl rfl w k).symm]
    have h := State.rd_wrArray (f := Reg.CPH_SLOT_DATA.forWriter w) (by rw [hstride]; decide) (by rw [hcount1]; decide) l s 0 k hk
      (by rw [hcount2, hlength]; decide)
    rwa [Nat.zero_add, hwidth] at h
  refine ⟨?_, by rw [State.wr_cph, State.wrArray_cph], ?_, hread 7 0 hlast⟩
  · rw [State.rd_wr_same _ _ _ _ _ (by rw [hone]; decide) (by rw [hone']; decide), hbit]
    rfl
  · refine hread 0 _ ?_
    rw [List.getD_eq_getElem?_getD, List.getElem?_eq_getElem (by omega)]
    rfl

/-- Settles O24, command by command. -/
theorem keyCommands : Obligations.KeyCommands := by
  unfold Obligations.KeyCommands
  refine ⟨?_, ?_, ?_, ?_, ?_, ?_, ?_, ?_, ?_, ?_⟩
  · intro s ctrl cid r hserves hactive hcause
    refine Completes.served rfl hserves ?_
    simp only [State.ifActive_active hactive, hcause]
    cases hopen : s.openRecord r with
    | ok key => exact ⟨rfl, rfl, rfl⟩
    | error c => exact s.keyRefused_answers ctrl cid 0 c r.keyId false
  · intro s ctrl cid c bound r hserves hactive hcause
    refine Completes.served rfl hserves ?_
    simp only [State.ifActive_active hactive, hcause]
    exact s.keyRefused_answers ctrl cid 0 c r.keyId bound
  · intro s ctrl cid id i k hserves hactive hslot
    refine Completes.served rfl hserves ?_
    simp only [State.ifActive_active hactive, hslot]
    by_cases hunused : k.refs = 0 ∧ (s.cph.current.any fun p => p.2 == id) = false
    · rw [if_pos hunused, if_neg (by simp [hunused.1, hunused.2])]
      exact ⟨rfl, rfl⟩
    · rw [if_neg hunused, if_pos (by
        by_cases hrefs : k.refs = 0
        · simpa [hrefs] using hunused
        · simp [hrefs])]
      obtain ⟨-, -, -, -, -, -, -, -, -, -, -, -, -, -, -, -, hlay, -, -, -, -, -⟩ := s.replyErr_blocks ctrl cid St.denied
      exact ⟨State.reply_answers List.prefix_rfl _ _ _ _ _, hlay⟩
  · intro s ctrl cid nsid id reseal hserves hactive hnone hgood
    refine Completes.served rfl hserves ?_
    simp only [State.ifActive_active hactive, hnone, hgood]
    rw [if_neg Bool.false_ne_true, if_neg Bool.false_ne_true]
    exact ⟨rfl, rfl, rfl⟩
  · intro s nsid total skipped hreseal hended
    refine ⟨_, rfl, ?_⟩
    simp only [hreseal, hended]
    rw [if_neg Bool.false_ne_true]
    refine ⟨rfl, ?_, Raises.after (State.raise_raises _ _ _ _ _ _ _) List.prefix_rfl⟩
    rw [State.rd_raise _ _ _ _ _ _ _ (by decide) (by decide) (by decide), State.rd_wr_same _ _ _ _ _ (by decide) (by decide)]
    rfl
  · intro s ctrl cid rkey offset length id mode iv decrypt k hserves hallowed hkey hbuffer halign hlen husage hmode
    refine Completes.served rfl hserves ?_
    simp only [hallowed, hkey, hbuffer, halign, Nat.not_lt.mpr hlen, husage, Nat.not_le.mpr hmode]
    rw [if_neg Bool.false_ne_true, if_neg (by decide)]
    generalize hu : State.windowPut s _ _ _ = u
    have hquiet : u.outbox = s.outbox := by rw [← hu]; exact outbox_of_kept (State.windowPut_kept _ _ _ (Kept.refl _ s) rfl)
    refine ⟨State.reply_answers (by rw [State.count_outbox, hquiet]) _ _ _ _ _, ?_⟩
    exact dram_of_kept (State.replyOk_kept _ _ (State.count_kept _ _ _ (Kept.refl _ u) rfl) rfl)
  · exact fun s reg hreg hup hactive hgo hnew hcause => Completes.fallbackTaken hreg hup hactive hgo hnew hcause
  · exact fun s w reg hreg hup hw => Completes.fallbackRefused hreg hup hw
  · exact fun s w hup hw => Completes.slotRead hup hw
  · intro s hclosed hepoch
    refine ⟨_, rfl, ?_⟩
    dsimp only
    rw [if_neg (by simp [hclosed, Nat.not_le.mpr hepoch])]
    refine ⟨rfl, rfl, tgetD_tset_same _ _ _ _, ?_⟩
    rw [State.rd_wr_ne _ _ _ _ _ _ _ _ (by decide), State.rd_wr_same _ _ _ _ _ (by decide) (by decide)]
    rfl

end Sys2Proof.Machine


/-!
Reads of versions (R437 to R439): a version whose map entry names more blocks than its header.
-/

namespace Sys2Proof.Machine

-- The check compiles the text as one file: elaborating these proofs one after another bounds its memory.
set_option Elab.async false

/-- The one block of the version: 48 bytes. -/
def shortBlock : SealedBlk :=
  { index := 0, raw := false, sectors := 1, first := 0, keyId := 0, crc := 0, iv := 0, tag := 0, bytes := List.replicate 48 0 }

/-- A host's read of that version, whose map entry gives it a BLOCK_MASK of two blocks: it ends with row 0 of a group of one data unit. -/
def shortRead : ReadJob :=
  { seq := 0, nsid := 0, extent := 0, use := .host
    ent := { group := 0, addr := 65408, storedLen := 128, blockMask := 3, mapped := true, version := 0, lostMask := 0, turn := 0 }
    stage := 0, erased := [], waiting := false, units := [], bufs := [], blocks := [], want := 1, decoding := [] }

/-- Row 0 is still in DRAM, with the version at its end; row 1 is not. -/
def shortStripe : Stripe :=
  { group := 0, row := 0, k := 1, st := .opened, slot := none, data := memWriteList [] 65408 (versionBytes [shortBlock] 0 0 0 0), p := [], q := [], fill := 65536
    journalled := 0, first := 0, hold := none, outstanding := [], okWrites := 0, intent := none }

/-- The part with the read under way. -/
def shortVersion : State :=
  { State.reset with lay := { State.reset.lay with groups := [{ Grp.none with k := 1 }], stripes := [shortStripe], reads := [(1, shortRead)] } }

set_option maxRecDepth 100000 in
/-- The block is looked for behind a header of two descriptors, in row 1: the rest of the stripes is read and nothing is decoded. -/
theorem shortVersion_readsOn : ∃ t, exec (.memberReadDone 1 []) shortVersion = .next t ∧ (tget t.lay.reads 1).map (fun x => x.decoding) ≠ some [0] := by
  refine ⟨_, rfl, ?_⟩
  decide

set_option maxRecDepth 100000 in
theorem shortVersion_parses : parseVersion ((List.range 128).map fun i => (shortVersion.dataByte 0 (shortVersion.unitRow 0 ((65408 + i) / 65536)).1
    (shortVersion.unitRow 0 ((65408 + i) / 65536)).2.2 ((65408 + i) % 65536) [] [] (0 == 2)).getD 0) 0 0 0 = some [shortBlock] := by
  decide +kernel

theorem shortVersion_readable : shortVersion.rangeFate shortRead [] 0 128 = 0 := by
  decide

/-- Refutes O25: nothing ties the map entry's BLOCK_MASK to the header that passes, so an entry that names two blocks where the header names one has
the block looked for behind a second descriptor, where its bytes are not there; the clause of the read expects the block to be decoded. -/
theorem not_layoutCommands : ¬ Obligations.LayoutCommands := by
  unfold Obligations.LayoutCommands
  intro h
  obtain ⟨-, -, -, -, -, -, hread, -⟩ := h
  obtain ⟨t, hexec, hdecoding⟩ := hread shortVersion 1 [] shortRead [shortBlock] rfl rfl rfl rfl rfl rfl (by decide) (by decide) shortVersion_readable
    shortVersion_parses (by decide)
  obtain ⟨t', hexec', hnone⟩ := shortVersion_readsOn
  rw [hexec] at hexec'
  cases hexec'
  exact hnone hdecoding

end Sys2Proof.Machine


/-!
Power sets and the shelf metadata stream (R433 to R436, R442 to R444): what the requests leave of a set, and with them what each command does. That a
batch takes every delta is the model's choice (notes/assumptions/75.md), and so are the head of a checkpoint and its PERCENT of 100
(notes/assumptions/78.md).
-/

namespace Sys2Proof.Machine

-- The check compiles the text as one file: elaborating these proofs one after another bounds its memory.
set_option Elab.async false

/-! ### Power sets -/

/-- A set that is not OFF stands in the table. -/
theorem State.pset_lt {s : State} {n : Nat} (h : (s.pset n).st ≠ .off) : n < s.lay.sets.length := by
  by_contra hge
  exact h (by rw [State.pset, List.getD_eq_default _ _ (Nat.le_of_not_lt hge)]; rfl)

theorem State.pset_modSet {s : State} {n : Nat} (h : n < s.lay.sets.length) (f : PSet → PSet) : (s.modSet n f).pset n = f (s.pset n) := by
  rw [State.pset, State.modSet]
  exact getD_lmod_same _ _ _ h

theorem State.pset_congr {s t : State} (h : t.lay = s.lay) (n : Nat) : t.pset n = s.pset n := by rw [State.pset, h]; rfl

/-- A request's answer is read back from RESULT. -/
theorem State.rd_setResult (s : State) (set : Nat) {r : Nat} (hr : r < 16) : (s.setResult set r).rd Reg.LAY_SET_CTL_RESULT = r :=
  State.rd_wr_fits _ _ _ _ _ hr (by decide) (by decide)

theorem State.setResult_lay (s : State) (set r : Nat) : (s.setResult set r).lay = s.lay := rfl

/-- A management request in ACTIVE for a set that LAYOUT defines is judged by the set's state. -/
theorem State.acts_up {s : State} (hup : s.inReset = false) (hactive : s.cfg.state = .active) (w : Writer) (off : Nat) (t : State) : s.acts w off t = t := by
  rw [State.acts, State.up, hup, if_neg Bool.false_ne_true, if_neg (by simp [hactive])]

theorem State.noteSets_pset (s : State) (n : Nat) : s.noteSets.pset n = s.pset n := by
  unfold State.noteSets
  dsimp only
  split <;> rfl

theorem State.noteSets_evt (s : State) : s.noteSets.evt = s.evt := evt_of_kept (State.noteSets_kept (Kept.refl _ s) rfl)

/-- A set that comes up is ON with no timer, and says so. -/
theorem State.setOn_effect {s : State} {n : Nat} (h : n < s.lay.sets.length) (failed : Option Nat) :
    ((s.setOn n failed).pset n).st = .on ∧ ((s.setOn n failed).pset n).armed = none ∧ Raises s (s.setOn n failed) Ev.setPower n 2 := by
  unfold State.setOn
  dsimp only
  generalize hu : s.modSet n _ = u
  have hu' : (u.pset n).st = .on ∧ (u.pset n).armed = none ∧ u.evt = s.evt := by
    rw [← hu, State.pset_modSet h]
    exact ⟨rfl, rfl, rfl⟩
  have hfailed : ∀ v : State, (v.pset n = u.pset n ∧ s.evt.raised <+: v.evt.raised) →
      (((v.raise Ev.setPower Sev.notice n 2 (s.pset n).cause 0).count 225 1 n).noteSets.pset n = u.pset n ∧
        Raises s ((v.raise Ev.setPower Sev.notice n 2 (s.pset n).cause 0).count 225 1 n).noteSets Ev.setPower n 2) := by
    intro v hv
    refine ⟨by rw [State.noteSets_pset, State.pset, State.count_lay]; exact hv.1, ?_⟩
    exact Raises.mono (Raises.after (v.raise_raises _ _ _ _ _ _) hv.2) (by rw [State.noteSets_evt, State.count_evt])
  have hbase : ∀ v : State, (v.pset n = u.pset n ∧ Raises s v Ev.setPower n 2) → ∀ c : Bool,
      ((if c then v.defer (.setStop n SetCause.management) else v).pset n).st = .on ∧
        ((if c then v.defer (.setStop n SetCause.management) else v).pset n).armed = none ∧
        Raises s (if c then v.defer (.setStop n SetCause.management) else v) Ev.setPower n 2 := by
    intro v hv c
    rw [← hv.1] at hu'
    cases c with
    | true => exact ⟨hu'.1, hu'.2.1, hv.2⟩
    | false => exact ⟨hu'.1, hu'.2.1, hv.2⟩
  refine hbase _ (hfailed _ ?_) _
  split
  · exact ⟨rfl, (by rw [hu'.2.2] : s.evt.raised <+: u.evt.raised).trans (List.prefix_append _ _)⟩
  · exact ⟨rfl, by rw [hu'.2.2]⟩

theorem Completes.setReady {s : State} {set : Nat} (hset : set < 8) (hst : (s.pset set).st = .powering)
    (hdue : due (s.pset set).armed (turnsOfSec (2 * s.rd Reg.LAY_CFG_READY_TIMEOUT)) s.clock = true) :
    Completes (.setReadyTimeout set) s fun t => (t.pset set).st = .on ∧ (t.pset set).armed = none ∧ Raises s t Ev.setPower set 2 := by
  refine ⟨_, if_neg (Nat.not_le.mpr hset), ?_⟩
  dsimp only
  rw [if_pos (by rw [hst, hdue]; rfl)]
  generalize (if s.notReady set = [] then none else _) = failed
  have hon := State.setOn_effect (State.pset_lt (s := s) (n := set) (by rw [hst]; exact nofun)) failed
  generalize s.setOn set failed = u at hon
  refine List.foldlRecOn (motive := fun t : State => (t.pset set).st = .on ∧ (t.pset set).armed = none ∧ Raises s t Ev.setPower set 2) _ _ hon fun t ht i _ => ?_
  split
  · split
    · exact ht
    · exact ht
  · exact ht

theorem Completes.setPowersOn {s : State} {w : Writer} {set : Nat} (hset : set < 8) (hlen : set < s.lay.sets.length) (hup : s.inReset = false)
    (hactive : s.cfg.state = .active) (hdefined : s.setDefined set = true) (hst : (s.pset set).st = .off) :
    Completes (.setPowerOnRequest w set) s fun t => (t.pset set).st = .powering ∧ (t.pset set).cause = SetCause.management ∧ t.rd Reg.LAY_SET_CTL_RESULT = 1 := by
  refine ⟨_, if_neg (Nat.not_le.mpr hset), ?_⟩
  rw [State.acts_up hup hactive, if_neg (by simp [hactive]), if_neg (by simp [hdefined])]
  simp only [hst]
  rw [State.rd_setResult _ _ (by decide), State.pset_congr (State.setResult_lay _ _ _), State.requestSet]
  simp only [hst]
  rw [State.pset_congr (lay_of_kept (State.updateDemand_kept (Kept.refl _ _) rfl)), State.pset_modSet hlen]
  exact ⟨rfl, rfl, trivial⟩

theorem Completes.setStops {s : State} {w : Writer} {set : Nat} (hset : set < 8) (hup : s.inReset = false) (hactive : s.cfg.state = .active)
    (hdefined : s.setDefined set = true) (hst : (s.pset set).st = .on) :
    Completes (.setStopRequest w set) s fun t => t.rd Reg.LAY_SET_CTL_RESULT = (if s.setHeld set then 3 else 1) ∧
      t.deferred = s.deferred ++ if s.setHeld set then [] else [.setStop set SetCause.management] := by
  have hexec : exec (.setStopRequest w set) s =
      .next (if s.setHeld set then s.setResult set 3 else (s.defer (.setStop set SetCause.management)).setResult set 1) := by
    change execSetStopRequest w set s = _
    rw [execSetStopRequest, if_neg (Nat.not_le.mpr hset), State.acts_up hup hactive, if_neg (by simp [hactive]), if_neg (by simp [hdefined])]
    simp only [hst]
  refine ⟨_, hexec, ?_⟩
  cases s.setHeld set with
  | true => exact ⟨State.rd_setResult _ _ (by decide), (List.append_nil _).symm⟩
  | false => exact ⟨State.rd_setResult _ _ (by decide), rfl⟩

/-! ### The stream -/

theorem Completes.checkpointEnds {s : State} {turn pos : Nat} (hrun : s.lay.ckptRun = some (turn, pos)) :
    Completes .checkpointDone s fun t => t.lay.ckptRun = none ∧ t.lay.ckptDone = some (((s.lay.ckptDone.map fun x => 1 - x.1).getD 0), turn, pos) ∧
      t.rd Reg.LAY_CKPT_BUSY = 0 ∧ t.rd Reg.LAY_CKPT_PERCENT = 100 := by
  refine ⟨_, rfl, ?_⟩
  simp only [hrun]
  rw [State.emit_lay, State.count_lay, State.rd_emit, State.rd_emit, State.rd_count _ _ _ _ (by decide) (by decide) (by decide),
    State.rd_count _ _ _ _ (by decide) (by decide) (by decide)]
  refine ⟨rfl, ?_, ?_, ?_⟩
  · cases s.lay.ckptDone <;> rfl
  · rw [State.rd_wr_ne _ _ _ _ _ _ _ _ (by decide), State.rd_wr_ne _ _ _ _ _ _ _ _ (by decide), State.rd_wr_ne _ _ _ _ _ _ _ _ (by decide),
      State.rd_wr_same _ _ _ _ _ (by decide) (by decide)]
    rfl
  · rw [State.rd_wr_ne _ _ _ _ _ _ _ _ (by decide), State.rd_wr_ne _ _ _ _ _ _ _ _ (by decide), State.rd_wr_same _ _ _ _ _ (by decide) (by decide)]
    rfl

theorem State.mirrorSend_effect (s : State) (type bytes : Nat) (args : List Nat) :
    (s.mirrorSend type bytes args).lay = s.lay ∧ (s.mirrorSend type bytes args).fov.mirror = s.fov.mirror + 1 ∧ s.outbox <+: (s.mirrorSend type bytes args).outbox := by
  refine ⟨lay_of_kept (State.mirrorSend_kept _ _ _ (Kept.refl _ s) rfl), ?_, ?_⟩
  · rw [State.mirrorSend, State.count_fov]
    rfl
  · rw [State.mirrorSend, State.count_outbox]
    exact List.prefix_append _ _

/-- What a command asked of the stream is answered once it is durable. -/
theorem State.mirrored_answers {s u : State} (hlay : u.lay = s.lay) (hquiet : u.outbox = s.outbox) (type bytes : Nat) (args : List Nat) (ctrl cid : Nat) :
    ((u.mirrorSend type bytes args).replyOk ctrl cid).lay = s.lay ∧ Answers s ((u.mirrorSend type bytes args).replyOk ctrl cid) ctrl cid St.ok := by
  obtain ⟨klay, -, kgrow⟩ := u.mirrorSend_effect type bytes args
  refine ⟨(lay_of_kept (State.replyOk_kept _ _ (Kept.refl _ _) rfl)).trans (klay.trans hlay), ?_⟩
  exact State.reply_answers (by rwa [hquiet] at kgrow) _ _ _ _ _

/-- Settles O26, command by command. -/
theorem setAndStreamCommands : Obligations.SetAndStreamCommands := by
  unfold Obligations.SetAndStreamCommands
  refine ⟨?_, ?_, ?_, ?_, ?_, ?_, ?_, ?_, ?_, ?_⟩
  · exact fun s set hset hst hdue => Completes.setReady hset hst hdue
  · intro s set hset hst hidle hfree hserving hdue
    refine ⟨_, if_neg (Nat.not_le.mpr hset), ?_⟩
    dsimp only
    rw [if_pos (by rw [hst, hfree, hserving, hdue]; simpa using hidle)]
  · exact fun s w set hset hlen hup hactive hdefined hst => Completes.setPowersOn hset hlen hup hactive hdefined hst
  · exact fun s w set hset hup hactive hdefined hst => Completes.setStops hset hup hactive hdefined hst
  · intro s set hset hst hstep hdrained
    refine ⟨_, if_neg (Nat.not_le.mpr hset), ?_⟩
    dsimp only
    rw [if_pos (by simp [hst, hstep, hdrained])]
    refine ⟨?_, rfl⟩
    rw [State.pset_congr (State.defer_lay _ _), State.pset_modSet (State.pset_lt (by rw [hst]; exact nofun))]
  · intro s hserving hdue
    refine ⟨_, rfl, ?_⟩
    rw [if_pos (by rw [hserving, decide_eq_true hdue]; rfl), State.writeBatch]
    dsimp only
    rw [State.count_lay, Sent, State.count_outbox]
    exact ⟨rfl, rfl, rfl, rfl⟩
  · intro s hserving hrun hfence hlog
    refine ⟨_, rfl, ?_⟩
    rw [if_pos (by rw [hserving, hrun, hfence, decide_eq_true hlog]; rfl)]
    refine ⟨rfl, rfl, ?_⟩
    rw [State.rd_wr_ne _ _ _ _ _ _ _ _ (by decide), State.rd_wr_same _ _ _ _ _ (by decide) (by decide)]
    rfl
  · exact fun s turn pos hrun => Completes.checkpointEnds hrun
  · intro s r rest hwrites
    refine ⟨_, rfl, ?_⟩
    simp only [hwrites]
    obtain ⟨hlay, hmirror, -⟩ := ({ s with lay := { s.lay with writes := rest } } : State).mirrorSend_effect Peer.record 64 [recordKind r]
    exact ⟨by rw [hlay], hmirror⟩
  · intro s ctrl cid nsid id rest hwrites
    refine ⟨_, rfl, ?_⟩
    rcases hwrites with hwrites | hwrites
    · simp only [hwrites]
      obtain ⟨hlay, hanswer⟩ := State.mirrored_answers (s := { s with lay := { s.lay with writes := rest } }) rfl rfl Peer.record 64 [2, nsid, id] ctrl cid
      exact ⟨by rw [hlay], hanswer⟩
    · simp only [hwrites]
      have hkept : Kept [.cph, .reg 12] _ (({ s with lay := { s.lay with writes := rest } } : State).keyErased id) := State.keyErased_kept _ (Kept.refl _ _) rfl
      obtain ⟨hlay, hanswer⟩ := State.mirrored_answers hkept.lay hkept.outbox Peer.record 64 [1, id] ctrl cid
      exact ⟨by rw [hlay], hanswer⟩

end Sys2Proof.Machine


/-!
Replay (R475, R688): a replay that finds an anchor role by its label.
-/

namespace Sys2Proof.Machine

-- The check compiles the text as one file: elaborating these proofs one after another bounds its memory.
set_option Elab.async false

/-- A replay in RECOVERY: anchor role 0 stands on record in slot 1, where no drive is; the ready drive in slot 0 carries a label of this shelf
that names it for role 0 with the assignment generation 1. -/
def movedAnchor : State :=
  { State.reset with
    jnl := { State.reset.jnl with replay := some (0, 0), roles := [{ Role.none with slot := 1 }] }
    drv := [{ Slot.none with st := .ready, label := some ⟨0, 0, 0, 0, 0, 0, 0, 1⟩ }] }

/-- The ring of role 0: a header that is valid and no record, ended at offset 7. -/
def movedRing : RingRead := { role := 0, header := some (1, 1), records := [], endOff := 7 }

/-- On record the ring's member is not ready. -/
theorem movedAnchor_unreadable : (movedAnchor.replayRings [movedRing] []).2.ends = [] := by decide

/-- The replay takes the role's slot from the label and reads the ring. -/
theorem movedAnchor_replay : ∃ t, exec (.replayDone [movedRing] []) movedAnchor = .next t ∧ (t.jnl.product.map fun p => p.ends) = some [(0, 7)] := by
  refine ⟨_, rfl, ?_⟩
  decide

/-- Refutes O27: a replay first takes the anchor roles from the drives' labels (R688) and then reads the rings (R475), so its product is that of
the relabelled state; the clause of the replay expects the product of the state before, in which a role whose member has moved has no
readable ring. -/
theorem not_journalAndRebuildCommands : ¬ Obligations.JournalAndRebuildCommands := by
  unfold Obligations.JournalAndRebuildCommands
  intro h
  obtain ⟨-, -, -, hreplay, -⟩ := h
  obtain ⟨t, hexec, -, hproduct, -⟩ := hreplay movedAnchor 0 0 [movedRing] [] rfl (by decide)
  obtain ⟨t', hexec', hends⟩ := movedAnchor_replay
  rw [hexec] at hexec'
  cases hexec'
  rw [hproduct, Option.map_some, movedAnchor_unreadable] at hends
  exact absurd hends (by decide)

end Sys2Proof.Machine
